-- ==== Sys2Proof/Word.lean ====
section
/-! DEFINITION. The words of the machine (spec 00 R7; 08 Table 8-1): bytes of frames and memories, the
lanes of the tile registers, and the 64-bit operation slot. Everything with arithmetic of its own stands in
Sys2Proof/Machine/Bits.lean. -/

namespace Sys2Proof

/-- One byte of a frame, a mailbox, a memory (00 R7). -/
abbrev Byte := BitVec 8
/-- A Rumbe register word (24 R534), a lane of a V register (08 Table 8-1). -/
abbrev Half := BitVec 16
/-- A host window register (24 R523), a scalar register or an accumulator lane (08 Table 8-1). -/
abbrev Word := BitVec 32
/-- A lane of an H register (08 Table 8-1). -/
abbrev State40 := BitVec 40
/-- One slot of a bundle (08 R189). -/
abbrev Slot64 := BitVec 64

end Sys2Proof
end

