-- ==== Sys2Proof/Syntax.lean ====
section
/-! DEFINITION. The commands of the block: one constructor of Instr for each row of spec/opcode_table.json, with
the operands the row's step takes from outside (the wire's frame, the pin, the plant's reading, the host's
write, the time). The operand `t` is the moment of the step in counts of 1/48 microsecond (02 R32); a tile
operation has none, since it happens at an issue cycle of its tile (08 R192). -/

namespace Sys2Proof

/-- A Broros reset domain's PLL (02 Table 2-2), numbered as 16 Table 16-12 numbers the first four. -/
inductive Pll where
  | pllT | pllM0 | pllM1 | pllF | pllS | pllC
  deriving DecidableEq, Repr

/-- A monitored core rail (23 R509). -/
inductive Rail where
  | vcore | vsram | vser
  deriving DecidableEq, Repr

/-- A Rumbe device: its chain pair and its member number less one (11 R274). -/
structure Dev where
  pair : Fin 4
  mem : Fin 32
  deriving DecidableEq, Repr

/-- The two ports of a Rumbe (06 6.1). -/
inductive RPort where
  | n | s
  deriving DecidableEq, Repr

/-- The two ports of a chain pair (01 1.3): the even port is A, the odd one B. -/
inductive Side where
  | a | b
  deriving DecidableEq, Repr

/-- One half of a bit cell as a receiver samples it: H is positive, L negative (06 6.1). -/
inductive Chip where
  | h | l
  deriving DecidableEq, Repr

/-- A frame as it arrives at a port of a Rumbe: its chips, from the first of the preamble to the last before Z. The fields
that a receiver reads in them stand in Machine/Line.lean. -/
structure Rx where
  port : RPort := .n        -- the port it arrives on
  line : List Chip := []
  clash : Bool := false     -- the neighbour's frame on the opposite port was being received when it began (06 R132)
  deriving DecidableEq, Repr

/-- An urgent frame as it arrives at a port of a Rumbe: its chips, the break-in included (06 R120, R129). -/
structure URx where
  port : RPort := .n
  line : List Chip := []
  deriving DecidableEq, Repr

/-- The converter results of one sweep, in slot order (03 Table 3-1), before rounding and masking. -/
structure Readings where
  refHi : Int := 25000         -- 0.1 mV
  cells : List Int             -- 18 corrected cell voltages, 0.1 mV (03 R61)
  refZero : Int := 0           -- 0.1 mV
  th : List Nat                -- 8 thermistor ratios, millionths (03 R65)
  modid : Nat := 0             -- MODID ratio, millionths (03 R69)
  tDie : Int := 250            -- balancer die temperature, 0.1 degree (05 Table 5-3)
  vauxMv : Nat := 0            -- VAUX, 1 mV (04 4.8 Edges)
  deriving DecidableEq, Repr

/-- A port with a jabber guard (06 R154). -/
inductive JabPort where
  | broros (pair : Fin 4) (side : Side)
  | rumbe (d : Dev) (port : RPort)
  deriving DecidableEq, Repr

/-- Outcome of a bench self-test (19 Table 19-2): bit i is tile i of the bench. -/
structure SelfTest where
  dispatcherOk : Bool := true
  storeOk : Bool := true
  tiles : BitVec 16 := 0xFFFF#16
  deriving DecidableEq, Repr

/-- Outcome of one DRAM region's test (19 R451): the failing rows as (bank, row), and the spare slots that fail. -/
structure RegionTest where
  addrFault : Bool := false
  rows : List (Nat × Nat) := []
  spareBad : List Nat := []
  deriving DecidableEq, Repr

/-- An object of the Foreman registry (21 R486). -/
inductive RegObj where
  | image (handle : Nat) | job (n : Nat) | ring (tenant n : Nat) | dataset (tenant : Nat) | stream (n : Nat)
  deriving DecidableEq, Repr

/-- What a conventional PCIe reset is caused by (17 R414). -/
inductive ConvReset where
  | perst | hot | linkDown
  deriving DecidableEq, Repr

/-- A PCIe configuration request that the endpoint takes (17 Table 17-2). -/
inductive ConfigReq where
  | read
  | bar (n : Fin 6) (value : BitVec 64)
  | command (memEn : Bool) (intDisable : Bool)
  | msixEnable (on : Bool)
  | power (d3hot : Bool)
  deriving DecidableEq, Repr

/-- The two host ports (17 R396). -/
inductive HostPort where
  | pcie | shp
  deriving DecidableEq, Repr

/-- One write of the host window: offset, and the bytes with their enables (17 R396). -/
structure WinWrite where
  port : HostPort := .pcie
  off : Nat
  data : List (Bool × Byte)
  deriving DecidableEq, Repr

/-- The bits of an SHP frame as the port samples it (17 Table 17-3): what the host drives, and whether SHP_CS_N stays low to the
end of DCRC (17 R404). -/
structure ShpFrame where
  cmd : Byte := 0x06#8          -- [7:6] OP; [5] SPACE; [4] QUAD; [3:0] 0b0110
  addr : BitVec 40 := 0#40
  len : Byte := 0#8             -- words - 1
  hcrc : BitVec 16
  data : List Byte := []        -- a write's
  dcrc : BitVec 16 := 0#16      -- a write's
  complete : Bool := true
  deriving DecidableEq, Repr

/-- The condition whose discharging state is judged (13 R323). -/
inductive DisScope where
  | string (n : Fin 64) | site
  deriving DecidableEq, Repr

/-- What is dispatched: a stream's step, or a scan job's next work chunk on a tile (11 R278, 10 R246). -/
inductive Work where
  | stream (n : Fin 16384) | job (n : Nat) (tile : Fin 64)
  deriving DecidableEq, Repr

/-- A party that holds or requests a Palette bank (08 Table 8-6). -/
inductive Holder where
  | home | swap | remote (tile : Fin 64) | foreman
  deriving DecidableEq, Repr

/-- What the check bits of an access show (08 8.6): nothing, a single-bit error corrected, a double-bit error. -/
inductive Ecc where
  | clean | corrected | bad
  deriving DecidableEq, Repr

/-- The eight slots of a bundle, highest first (08 Table 8-2). -/
inductive Slot where
  | c | k | l | w | m | f | q | p
  deriving DecidableEq, Repr

/-- Which alarm of a cell (03 R62). -/
inductive AlarmKind where
  | ov | uv
  deriving DecidableEq, Repr

/-- What trips ramp watch (04 R96): the comparator at a shunt voltage, or the desaturation check, with both gates above
source, V_DS, and how long V_DS has stood there. Microvolts, millivolts and nanoseconds. -/
inductive RampTrip where
  | comparator (uv : Int)
  | desaturation (chgMv dsgMv vdsMv ns : Nat)
  deriving DecidableEq, Repr

/-- The commands, in the order of spec/opcode_table.json. -/
inductive Instr where
  -- Bring-up, resets, clocks and power (02, 19, 20, 21, 23)
  | powerGoodRise (t : Nat) (reads : List (BitVec 288))
  | gessoPllLocked (t : Nat) (locked : List Pll)
  | kaCheckDone (t : Nat) (density : Option Nat)
  | pwrgoodFall (t : Nat)
  | coreRailBrownout (t : Nat) (rail : Rail)
  | pllLockLoss (t : Nat) (p : Pll)
  | pllLockRegain (t : Nat) (p : Pll)
  | benchWaveStart (t : Nat) (b : Fin 4)
  | benchGateOpen (t : Nat) (b : Fin 4)
  | benchSelfTestDone (t : Nat) (b : Fin 4) (r : SelfTest)
  | stippleKatDone (t : Nat) (c0 c1 c2 : BitVec 72)
  | ledgerRestore (t : Nat)
  | flashIdentified (t : Nat) (density : Option Nat)
  | dramChannelTrained (t : Nat) (ch : Fin 2) (mib : Nat)
  | memtestRegionDone (t : Nat) (ch : Fin 2) (region : Fin 32) (r : RegionTest)
  | dramChannelDown (t : Nat) (ch : Fin 2)
  | pairBringupDone (t : Nat) (p : Fin 4)
  | foremanStart (t : Nat) (badRecords : List RegObj)
  | pcieCoreConfigured (t : Nat)
  | conventionalReset (t : Nat) (kind : ConvReset)
  | functionLevelReset (t : Nat)
  | pcieD0Return (t : Nat)
  | kaLost (t : Nat)
  | vkaLow (t : Nat) (low : Bool)
  | oscillatorStop (t : Nat)
  | rtcTickMissing (t : Nat)
  | foremanWatchdog (t : Nat)
  | urgentWatchdog (t : Nat)
  | stepWatchdog (t : Nat) (tile : Fin 64)
  | dispatcherWatchdog (t : Nat) (n : Fin 16384)
  | leaseExpiry (t : Nat) (tile : Fin 64) (bank : Fin 16)
  | thermalSample (t : Nat) (sensors : List Int)
  | thermalCeilingStep (t : Nat)
  | writeGraceEnd (t : Nat) (committed : Bool)
  | govEstimate (t : Nat) (pm : Nat) (shares : List Nat)
  | govRelease (t : Nat)
  | govDividerDecrease (t : Nat)
  | govDividerRaise (t : Nat)
  | migrationDone (t : Nat) (n : Fin 16384)
  -- Chain events at Broros (06)
  | eopenNAccept (t : Nat)
  | eopenRepeat (t : Nat) (low : Bool)
  | gpioTermination (t : Nat) (gpio : Fin 8)
  | sweepDue (t : Nat) (p : Fin 4)
  | portBSweepTimeout (t : Nat) (p : Fin 4)
  | portBReturn (t : Nat) (p : Fin 4) (line : List Chip)
  | collectDue (t : Nat) (p : Fin 4)
  | collectReturnTimeout (t : Nat) (p : Fin 4)
  | collectRecovery (t : Nat) (p : Fin 4)
  | reverseRetrievalDone (t : Nat) (p : Fin 4)
  | babblerIsolation (t : Nat) (p : Fin 4)
  | collectionClose (t : Nat) (p : Fin 4)
  -- Ledger anchors and learning cycles (07)
  | anchorTaper (t : Nat) (cell : Fin 2304)
  | anchorTermination (t : Nat) (str : Fin 64)
  | anchorEmpty (t : Nat) (cell : Fin 2304)
  | lcDurationExpiry (t : Nat) (str : Fin 64)
  | lcArmExpiry (t : Nat) (str : Fin 64)
  | lcRestGapExpiry (t : Nat) (str : Fin 64)
  | lcTempInvalidExpiry (t : Nat) (str : Fin 64)
  | lcNoRecordExpiry (t : Nat) (str : Fin 64)
  | absenceTimeout (t : Nat) (d : Dev)
  | record (t : Nat) (d : Dev) (line : List Chip)
  | ledgerBalanceRead (t : Nat) (d : Dev) (line : List Chip)
  | ack (t : Nat) (p : Fin 4) (side : Side) (line : List Chip)
  | commandTimeout (t : Nat) (p : Fin 4) (side : Side)
  | chainCommandWindow (t : Nat) (p : Fin 4) (side : Side)
  | ringTestDue (t : Nat) (p : Fin 4) (side : Side)
  | chainWakeDone (t : Nat) (p : Fin 4)
  | enumerationDone (t : Nat) (p : Fin 4)
  | urgentRx (t : Nat) (p : Fin 4) (side : Side) (line : List Chip)
  | jabberCut (t : Nat) (j : JabPort)
  | jabberResume (t : Nat) (j : JabPort)
  -- Scheduler, tiles, staging, swap (08, 10, 11, 12)
  | stepDue (t : Nat) (w : Work)
  | stepCommit (t : Nat) (tile : Fin 64)
  | resultLand (tile : Fin 64)
  | stallTimeout (t : Nat) (tile : Fin 64)
  | barrierComplete (tile : Fin 64)
  | leaseGrant (t : Nat) (tile : Fin 64) (bank : Fin 16) (h : Holder)
  | stagingRequest (t : Nat) (tile : Fin 64) (w : Work)
  | stagingDone (t : Nat) (tile : Fin 64)
  | swapBringIn (t : Nat) (n : Fin 16384)
  | swapBringInDone (t : Nat) (n : Fin 16384)
  | swapWriteBackDone (t : Nat) (n : Fin 16384)
  | checkpointDone (t : Nat) (n : Fin 16384)
  | behindCheck (t : Nat) (n : Fin 16384)
  | jobRefitTimeout (t : Nat) (job : Fin 65536)
  -- Assayer and reports (13)
  | assayerEvaluate (t : Nat)
  | classChangeEvent (t : Nat) (cell : Fin 2304)
  | learnedStale (t : Nat) (cell : Fin 2304)
  | reportPublish (t : Nat) (ch : Fin 16)
  | dischargeChange (t : Nat) (sc : DisScope)
  -- Snapshots and journal (20)
  | ledgerSnapshot (t : Nat)
  | journalCadence (t : Nat)
  | journalSpacingEnd (t : Nat)
  | journalEraseDone (t : Nat)
  | journalRecordCommit (t : Nat) (readBackOk : Bool)
  -- Host ports (15, 17, 24)
  | doorbellRing (t : Nat) (n : Fin 16) (w : Word)
  | requestTake (t : Nat) (n : Fin 16)
  | responseDeliver (t : Nat) (n : Fin 16)
  | dbsWrite (t : Nat) (n : Fin 16) (w : Word)
  | intStatWrite (t : Nat) (n : Fin 16) (w : Word)
  | snapStatWrite (t : Nat) (n : Fin 16) (w : Word)
  | rdyW1cWrite (t : Nat) (fall high : Bool) (w : Word)
  | msixUnmask (t : Nat) (v : Fin 16)
  | registerWrite (t : Nat) (w : WinWrite)
  | bar2Write (t : Nat) (off : Nat) (data : List Byte)
  | shpRead (t : Nat) (f : ShpFrame)
  | shpWrite (t : Nat) (f : ShpFrame)
  -- Mailbox commands (16): each executes the request Foreman serves next
  | ident (t : Nat)
  | tenantStatus (t : Nat)
  | setCatchup (t : Nat)
  | setRtc (t : Nat)
  | getRtc (t : Nat)
  | setTenant (t : Nat)
  | reset (t : Nat)
  | resetBegin (t : Nat)
  | bootClampRead (t : Nat)
  | setPair (t : Nat)
  | pairStatus (t : Nat)
  | mbRegRead (t : Nat)
  | mbRegWrite (t : Nat)
  | mbControl (t : Nat)
  | mbReadRecord (t : Nat)
  | setString (t : Nat)
  | mbBalance (t : Nat)
  | setLedger (t : Nat)
  | stringLedger (t : Nat)
  | cellLedger (t : Nat)
  | terminate (t : Nat)
  | lcArm (t : Nat)
  | lcAbort (t : Nat)
  | ledgerReset (t : Nat)
  | mapGpio (t : Nat)
  | streamStart (t : Nat)
  | streamPause (t : Nat)
  | streamResume (t : Nat)
  | streamReset (t : Nat)
  | streamEnd (t : Nat)
  | streamSet (t : Nat)
  | streamStatus (t : Nat)
  | streamInput (t : Nat)
  | streamParam (t : Nat)
  | clearFlags (t : Nat)
  | setOutRing (t : Nat)
  | imageLoad (t : Nat)
  | imageLoadVerified (t : Nat) (ticket : Half)
  | imageUnload (t : Nat)
  | imageList (t : Nat)
  | keySet (t : Nat)
  | keyClear (t : Nat)
  | jobSubmit (t : Nat)
  | jobPause (t : Nat)
  | jobResume (t : Nat)
  | jobDelete (t : Nat)
  | jobStatus (t : Nat)
  | setDataset (t : Nat)
  | setAssayer (t : Nat)
  | setChannel (t : Nat)
  | getChannel (t : Nat)
  | cellAssay (t : Nat)
  | openAll (t : Nat)
  | openString (t : Nat)
  | mbGate (t : Nat) (eopenN : Bool)
  | setHead (t : Nat)
  | setProtect (t : Nat)
  | mbAspRelease (t : Nat)
  | mbFaultClear (t : Nat)
  | fabricStatus (t : Nat)
  | routes (t : Nat)
  | setFabric (t : Nat)
  | linkRetrain (t : Nat)
  | journalWrite (t : Nat)
  | patchChunk (t : Nat)
  | patchCommit (t : Nat)
  | patchWriteDone (t : Nat) (ok : Bool)
  | setPatchMin (t : Nat)
  | shutdown (t : Nat)
  | imageStore (t : Nat)
  | imageStoreDone (t : Nat) (ok : Bool)
  | kaRead (t : Nat)
  | faultRead (t : Nat)
  | faultLogClear (t : Nat)
  | gessoStatus (t : Nat)
  | setMemtest (t : Nat)
  | dbgChallenge (t : Nat)
  | dbgUnlock (t : Nat)
  -- Tile operations (09)
  | nop (tile : Fin 64) (slot : Slot) (parity : Bool)
  | loop (tile : Fin 64)
  | waitin (tile : Fin 64)
  | endstep (tile : Fin 64)
  | barrier (tile : Fin 64)
  | lease (tile : Fin 64)
  | release (tile : Fin 64)
  | kAdd (tile : Fin 64)
  | kSub (tile : Fin 64)
  | and (tile : Fin 64)
  | or (tile : Fin 64)
  | xor (tile : Fin 64)
  | addi (tile : Fin 64)
  | shli (tile : Fin 64)
  | shri (tile : Fin 64)
  | sari (tile : Fin 64)
  | movi (tile : Fin 64)
  | muli (tile : Fin 64)
  | rdlc (tile : Fin 64)
  | extu (tile : Fin 64)
  | ldp (tile : Fin 64) (ecc : Ecc)
  | ldpr (tile : Fin 64) (ecc : Ecc)
  | ldw (tile : Fin 64) (ecc : Ecc)
  | ldpw (tile : Fin 64) (ecc : Ecc)
  | stp (tile : Fin 64)
  | stpr (tile : Fin 64)
  | macv (tile : Fin 64)
  | macb (tile : Fin 64)
  | mulv (tile : Fin 64)
  | mulb (tile : Fin 64)
  | fAdd (tile : Fin 64)
  | fSub (tile : Fin 64)
  | mul (tile : Fin 64)
  | fma (tile : Fin 64)
  | max (tile : Fin 64)
  | min (tile : Fin 64)
  | sel (tile : Fin 64)
  | cgt (tile : Fin 64)
  | cvt (tile : Fin 64)
  | mov (tile : Fin 64)
  | act (tile : Fin 64)
  | ema (tile : Fin 64)
  | fo1 (tile : Fin 64)
  | sos (tile : Fin 64)
  | scmb (tile : Fin 64)
  | scmb2 (tile : Fin 64)
  | sapp (tile : Fin 64)
  | draw (tile : Fin 64) (ecc : Ecc)
  | mask (tile : Fin 64)
  | cmpm (tile : Fin 64)
  -- Rumbe (03, 04, 05, 06)
  | rumbePor (t : Nat) (d : Dev)
  | sweep (t : Nat) (d : Dev) (r : Rx)
  | sweepStart (t : Nat) (d : Dev)
  | sweepCommit (t : Nat) (d : Dev) (m : Readings)
  | cellAlarmAssert (t : Nat) (d : Dev) (cell : Fin 18) (k : AlarmKind)
  | cellAlarmClear (t : Nat) (d : Dev) (cell : Fin 18) (k : AlarmKind)
  | measFaultLatch (t : Nat) (d : Dev)
  | modidStateChange (t : Nat) (d : Dev)
  | balIdleEnd (t : Nat) (d : Dev)
  | lateSweep (t : Nat) (d : Dev) (r : Rx)
  | collect (t : Nat) (d : Dev) (r : Rx)
  | recordSend (t : Nat) (d : Dev)
  | readRecord (t : Nat) (d : Dev) (r : Rx)
  | regRead (t : Nat) (d : Dev) (r : Rx)
  | regWrite (t : Nat) (d : Dev) (r : Rx)
  | headEnSet (t : Nat) (d : Dev) (r : Rx)
  | headEnClear (t : Nat) (d : Dev) (r : Rx)
  | shuntChange (t : Nat) (d : Dev) (r : Rx)
  | devIdWrite (t : Nat) (d : Dev) (r : Rx)
  | tCommWrite (t : Nat) (d : Dev) (r : Rx)
  | vauxEnSet (t : Nat) (d : Dev) (r : Rx)
  | vauxEnClear (t : Nat) (d : Dev) (r : Rx)
  | balEnClear (t : Nat) (d : Dev) (r : Rx)
  | enumerate (t : Nat) (d : Dev) (r : Rx)
  | gateOpen (t : Nat) (d : Dev) (r : Rx)
  | gateClose (t : Nat) (d : Dev) (r : Rx)
  | gateChgOnly (t : Nat) (d : Dev) (r : Rx)
  | gateDsgOnly (t : Nat) (d : Dev) (r : Rx)
  | balanceAppend (t : Nat) (d : Dev) (r : Rx)
  | balanceReplace (t : Nat) (d : Dev) (r : Rx)
  | balStop (t : Nat) (d : Dev) (r : Rx)
  | faultClear (t : Nat) (d : Dev) (r : Rx)
  | softReset (t : Nat) (d : Dev) (r : Rx)
  | softResetExecute (t : Nat) (d : Dev) (repeating : Bool)
  | modidAck (t : Nat) (d : Dev) (r : Rx)
  | clearId (t : Nat) (d : Dev) (r : Rx)
  | aspRelease (t : Nat) (d : Dev) (r : Rx)
  | portCut (t : Nat) (d : Dev) (r : Rx)
  | portRestore (t : Nat) (d : Dev) (r : Rx)
  | sleep (t : Nat) (d : Dev) (r : Rx)
  | ringTest (t : Nat) (d : Dev) (r : Rx)
  | reservedFrame (t : Nat) (d : Dev) (r : Rx)
  | eopen (t : Nat) (d : Dev) (u : URx)
  | strOpen (t : Nat) (d : Dev) (u : URx)
  | alarmCell (t : Nat) (d : Dev) (u : URx)
  | alarmMeas (t : Nat) (d : Dev) (u : URx)
  | alarmTrip (t : Nat) (d : Dev) (u : URx)
  | urgentQueueSend (t : Nat) (d : Dev) (port : RPort) (idle : Bool)
  | frameResend (t : Nat) (d : Dev) (port : RPort) (idle : Bool)
  | tCommExpiry (t : Nat) (d : Dev)
  | sleepEnter (t : Nat) (d : Dev)
  | wakeDetect (t : Nat) (d : Dev) (port : RPort)
  | wakeReady (t : Nat) (d : Dev)
  | modulatorSettle (t : Nat) (d : Dev)
  | currentInterval (t : Nat) (d : Dev) (hg lg : Int) (hgOver lgOver : Bool)
  | rangeToHg (t : Nat) (d : Dev)
  | calFrozen (t : Nat) (d : Dev)
  | curFaultLatch (t : Nat) (d : Dev)
  | scTrip (t : Nat) (d : Dev) (uv : Int) (ns : Nat)
  | rampWatchTrip (t : Nat) (d : Dev) (k : RampTrip)
  | prechargeDone (t : Nat) (d : Dev)
  | prechargeTimeout (t : Nat) (d : Dev)
  | rampDone (t : Nat) (d : Dev) (chgMv dsgMv : Nat)
  | contactorRampEnd (t : Nat) (d : Dev)
  | pchgOff (t : Nat) (d : Dev)
  | rampTimeout (t : Nat) (d : Dev)
  | pumpUv (t : Nat) (d : Dev) (chgMv dsgMv ns : Nat)
  | vauxSoftStartCheck (t : Nat) (d : Dev) (mv : Nat)
  | vauxUndervoltage (t : Nat) (d : Dev) (mv : Nat)
  | vauxRetry (t : Nat) (d : Dev)
  | vauxRetryReset (t : Nat) (d : Dev) (mv : Nat)
  | vauxThermalShutdown (t : Nat) (d : Dev) (tj : Int)
  | balTransferStart (t : Nat) (d : Dev)
  | balCheckDone (t : Nat) (d : Dev) (busMv : Int)
  | balCycle (t : Nat) (d : Dev) (bcsUv tPri tSec : Nat) (tDie : Int)
  | balTimeout (t : Nat) (d : Dev)
  | balOvertemp (t : Nat) (d : Dev) (tDie : Int)
  | balPriOc (t : Nat) (d : Dev) (bcsUv ns : Nat)
  | balModuleV (t : Nat) (d : Dev) (mv : Nat)
  -- Fabric (18)
  | linkDetectDone (t : Nat) (l : Fin 6) (b : BitVec 56)
  | linkDetectTimeout (t : Nat) (l : Fin 6)
  | linkExchangeDone (t : Nat) (l : Fin 6) (b : BitVec 56)
  | linkAlignEvaluate (t : Nat) (l : Fin 6) (own : BitVec 4) (last : BitVec 56) (lanes : List (Option (BitVec 56)))
  | linkRetry (t : Nat) (l : Fin 6)
  | trainingBlockWake (t : Nat) (l : Fin 6) (b : BitVec 56)
  | linkLockLoss (t : Nat) (l : Fin 6) (lane : Fin 4) (lasted : Nat)
  | linkSyncErrors (t : Nat) (l : Fin 6) (lane : Fin 4) (n : Nat)
  | neigh (t : Nat) (l : Fin 6) (b : List Byte)
  | hello (t : Nat) (l : Fin 6) (b : List Byte)
  | beacon (t : Nat) (l : Fin 6) (b : List Byte)
  | summary (t : Nat) (l : Fin 6) (b : List Byte)
  | neighSend (t : Nat)
  | helloSend (t : Nat)
  | beaconSend (t : Nat)
  | summarySend (t : Nat)
  | neighSilent (t : Nat) (l : Fin 6)
  | helloAgeOut (t : Nat) (serial : BitVec 64)
  | floodSeqForget (t : Nat) (serial : BitVec 64)
  | floodHoldEnd (t : Nat)
  | discoveryWindowClose (t : Nat)
  | beaconWaitTimeout (t : Nat)
  | managerLeaseExpiry (t : Nat)
  | allLinksDown (t : Nat)
  | routeRecompute (t : Nat)
  -- Rows that stand last in the table
  | reservedUrgentCode (t : Nat) (d : Dev) (u : URx)
  | exchangeLimitExpiry (t : Nat) (l : Fin 6)
  | routedFrameForward (t : Nat) (l : Fin 6) (b : List Byte)
  | configRequest (t : Nat) (c : ConfigReq)
  | windowRead (t : Nat) (port : HostPort) (off len : Nat)
  | bar2Read (t : Nat) (off len : Nat)
  deriving DecidableEq, Repr

end Sys2Proof
end

