-- ==== Sys2Proof/Machine/Bits.lean ====
section
/-! DEFINITION. Bit fields, byte orders, rounding, check sequences: the arithmetic every family uses. -/

namespace Sys2Proof.Machine

/-- Bit `n` of a natural number. -/
def natBit (v n : Nat) : Bool := v / 2 ^ n % 2 == 1
/-- Field of `w` bits of `v` that starts at bit `lo`. -/
def field (v lo w : Nat) : Nat := v / 2 ^ lo % 2 ^ w
/-- A Bool as a number. -/
def b2n (b : Bool) : Nat := if b then 1 else 0
/-- An integer held between two limits. -/
def clampInt (lo hi v : Int) : Int := if v < lo then lo else if hi < v then hi else v
/-- A natural number held between two limits. -/
def clampNat (lo hi v : Nat) : Nat := if v < lo then lo else if hi < v then hi else v
/-- Two's complement reading of the low `w` bits of `v`. -/
def signed (w v : Nat) : Int :=
  let m := v % 2 ^ w
  if m < 2 ^ (w - 1) then (m : Int) else (m : Int) - 2 ^ w
/-- The `w`-bit two's complement pattern of an integer. -/
def pattern (w : Nat) (v : Int) : Nat := (v % (2 ^ w : Int)).toNat
/-- `v` held in a signed field of `w` bits, as its pattern. -/
def satPattern (w : Nat) (v : Int) : Nat :=
  pattern w (clampInt (-(2 ^ (w - 1) : Int)) (2 ^ (w - 1) - 1) v)
/-- Round a quotient half to even (00 R7 and where the spec names it); `d` is positive. -/
def divRoundEven (n : Int) (d : Nat) : Int :=
  let q := n / (d : Int)
  let r := n % (d : Int)
  if 2 * r < d then q else if (d : Int) < 2 * r then q + 1 else if q % 2 = 0 then q else q + 1
/-- Round a quotient half away from zero. -/
def divRoundAway (n : Int) (d : Nat) : Int :=
  if 0 ≤ n then (2 * n + d) / (2 * d : Nat) else -((2 * (-n) + d) / (2 * d : Nat))
/-- Quotient truncated toward zero. -/
def divTrunc (n d : Int) : Int := Int.tdiv n d
/-- Quotient rounded up. -/
def ceilDiv (n d : Nat) : Nat := if d = 0 then 0 else (n + d - 1) / d

/-- Bits of the floor square root from bit `k - 1` down. -/
def isqrtGo (n : Nat) : Nat → Nat → Nat
  | 0, acc => acc
  | k + 1, acc => let c := acc + 2 ^ k; if c * c ≤ n then isqrtGo n k c else isqrtGo n k acc
/-- Floor square root of a number below 2^256. -/
def isqrt (n : Nat) : Nat := isqrtGo n 128 0
/-- Square root rounded up. -/
def isqrtUp (n : Nat) : Nat := let r := isqrt n; if r * r = n then r else r + 1

/-- `n` bytes of `v`, least significant first. -/
def leBytes : Nat → Nat → List Byte
  | 0, _ => []
  | n + 1, v => BitVec.ofNat 8 v :: leBytes n (v / 256)
/-- `n` bytes of `v`, most significant first. -/
def beBytes (n v : Nat) : List Byte := (leBytes n v).reverse
/-- The number that bytes spell, least significant first. -/
def ofLe : List Byte → Nat
  | [] => 0
  | b :: bs => b.toNat + 256 * ofLe bs
/-- The number that bytes spell, most significant first. -/
def ofBe (bs : List Byte) : Nat := ofLe bs.reverse
/-- Byte `i` of a list; 0 beyond its end. -/
def byteAt (bs : List Byte) (i : Nat) : Nat := (bs.getD i 0#8).toNat
/-- Little-endian field of `n` bytes at offset `i`; bytes beyond the end read as 0. -/
def leAt (bs : List Byte) (i n : Nat) : Nat :=
  match n with
  | 0 => 0
  | k + 1 => byteAt bs i + 256 * leAt bs (i + 1) k
/-- Signed little-endian field. -/
def sleAt (bs : List Byte) (i n : Nat) : Int := signed (8 * n) (leAt bs i n)
/-- A slice of `n` bytes at offset `i`, filled with zeros beyond the end. -/
def sliceAt (bs : List Byte) (i n : Nat) : List Byte :=
  let x := (bs.drop i).take n
  x ++ List.replicate (n - x.length) 0#8
/-- `n` zero bytes. -/
def zeros (n : Nat) : List Byte := List.replicate n 0#8
/-- A byte list cut or zero-filled to `n` bytes. -/
def fit (n : Nat) (bs : List Byte) : List Byte := sliceAt bs 0 n

/-- One byte through a CRC register that shifts left with polynomial `p`, width 16. -/
def crc16Byte (c : Nat) (b : Byte) : Nat :=
  (List.range 8).foldl (fun c _ =>
    if natBit c 15 then ((c * 2) ^^^ 0x1021) % 65536 else c * 2 % 65536) (c ^^^ (b.toNat * 256))
/-- CRC-16/CCITT: polynomial 0x1021, initial 0xFFFF, most significant bit first (06 R125). -/
def crc16 (bs : List Byte) : Nat := bs.foldl crc16Byte 0xFFFF
/-- One byte through the reflected CRC-32 register. -/
def crc32Byte (c : Nat) (b : Byte) : Nat :=
  (List.range 8).foldl (fun c _ => if c % 2 = 1 then (c / 2) ^^^ 0xEDB88320 else c / 2) (c ^^^ b.toNat)
/-- CRC-32 of IEEE 802.3 (17 R398, 18 R420, 20 R471). -/
def crc32 (bs : List Byte) : Nat := (bs.foldl crc32Byte 0xFFFFFFFF) ^^^ 0xFFFFFFFF

/-- Index of the lowest set bit among the first `n` bits of `v`, if any. -/
def lowestBit (v n : Nat) : Option Nat := (List.range n).find? (fun i => natBit v i)
/-- `v` with bit `n` set to `b`. -/
def setBit (v n : Nat) (b : Bool) : Nat :=
  if natBit v n = b then v else if b then v + 2 ^ n else v - 2 ^ n
/-- Set bits of `v` among the first `n`. -/
def popCount (v n : Nat) : Nat := ((List.range n).filter (fun i => natBit v i)).length
/-- The maximum of a list, 0 when empty. -/
def maxNat (l : List Nat) : Nat := l.foldl max 0
/-- The sum of a list. -/
def sumNat (l : List Nat) : Nat := l.foldl (· + ·) 0
/-- The sum of a list of integers. -/
def sumInt (l : List Int) : Int := l.foldl (· + ·) 0

end Sys2Proof.Machine
end

