-- ==== Sys2Proof/Config.lean ====
section
/-! DEFINITION. What a part fixes and the values the spec leaves open: opaque constants, so that nothing can be
proved from a value of one. Log entries 6, 10 to 15, 21, 161, 163, 164. -/

namespace Sys2Proof.Config

/-- A value the spec leaves open, drawn by the step that needs it: draw `k` of the run (log 10). -/
opaque free (k : Nat) : Nat
/-- SI_STEP of the Rumbe at chain position `d` (24 Table 24-11, 'Per part'; log 11). -/
opaque siStep (d : Nat) : Nat
/-- SERIAL of the Rumbe at chain position `d` (24 Table 24-11, 'Per part'; log 11). -/
opaque rumbeSerial (d : Nat) : Nat
/-- OFS_LG factory value in nV (04 R81, Table 4-3; log 11). -/
opaque ofsFactory (d : Nat) : Int
/-- Threshold of the selector check in 0.1 mV, within 100 mV plus or minus 20 mV (05 R103; log 12). -/
opaque selThreshold (d : Nat) : Nat
/-- Outcome of the selector check where no record has committed since POR or SOFT (05 R103; log 12). -/
opaque selNoRecord (d : Nat) : Bool
/-- Interpolation error of the thermistor computation in 0.01 degree, held within 0.1 degree (03 R66; log 13). -/
opaque ntcError (rMicro beta : Nat) : Int
/-- Delay of a response from its command's end, within 2.0 to 4.0 microseconds (06 R130; log 161). -/
opaque responseDelay (d fseq : Nat) : Nat
/-- Threshold of the short-circuit comparator, microvolts, and its blanking, nanoseconds, within the bounds of 04 R94; threshold
and filter of the desaturation check within those of R96; the thermal shutdown within 5 degrees of 140 (04 R100; log 163). -/
opaque scThreshold (d code : Nat) : Nat
opaque scBlanking (d code : Nat) : Nat
opaque dsatThreshold (d vgs : Nat) : Nat
opaque dsatFilter (d : Nat) : Nat
opaque thermalShutdown (d : Nat) : Int
/-- Whether a cycle's charge that is no whole number of microcoulombs counts as the next above (05 R109; log 164). -/
opaque balRoundUp (pc : Nat) : Bool
/-- How the offset update rounds an inexact quotient (04 R81; log 14). -/
opaque ofsRoundUp (n : Int) : Bool

/-- Which entry's status a BALANCE acknowledgement carries where the entries' statuses differ (05 R105, 06 R140; log 15). -/
opaque balMixed (codes : List Nat) : Nat

/-- A lane of the accumulator that SAPP would name after A7 (09 Table 9-8 states none; log 21). -/
opaque sappBeyond (lane : Nat) : Nat

/-- ROM_VER of the ROM firmware (15 R352 names it, no value; log 11). -/
opaque romVer : Nat
/-- Valandant's public key, as a number of 32 bytes, least significant first (14 R333 names it, no value; log 6). -/
opaque valandantKey : Nat

end Sys2Proof.Config
end

