-- ==== Sys2Proof/Machine/Store.lean ====
section
/-! DEFINITION. The two containers of the state: a byte memory in canonical form and a table keyed by a number. -/

namespace Sys2Proof.Machine

/-- A byte memory: (address, byte) pairs, addresses strictly rising, no entry equal to what an unlisted address
reads as (`memWf`). -/
abbrev Mem := List Host.Cell

/-- Addresses strictly rise, each above `lo`, and no entry holds the blank byte. -/
def memWfFrom (blank : Byte) : Nat → Mem → Bool
  | _, [] => true
  | lo, (a, b) :: m => decide (lo ≤ a) && (b != blank) && memWfFrom blank (a + 1) m
/-- Canonical form of a memory whose unlisted bytes read as `blank`. -/
def memWf (blank : Byte) (m : Mem) : Bool := memWfFrom blank 0 m

/-- One byte; an unlisted address reads as `blank`. -/
def memGet (blank : Byte) : Mem → Nat → Byte
  | [], _ => blank
  | (a, b) :: m, k => if a = k then b else if k < a then blank else memGet blank m k
/-- Put one byte that is not the blank one. -/
def memPut (k : Nat) (v : Byte) : Mem → Mem
  | [] => [(k, v)]
  | (a, b) :: m => if a = k then (k, v) :: m else if k < a then (k, v) :: (a, b) :: m else (a, b) :: memPut k v m
/-- Remove an address. -/
def memDel (k : Nat) : Mem → Mem
  | [] => []
  | (a, b) :: m => if a = k then m else if k < a then (a, b) :: m else (a, b) :: memDel k m
/-- Write one byte and keep the canonical form. -/
def memSet (blank : Byte) (m : Mem) (k : Nat) (v : Byte) : Mem :=
  if v = blank then memDel k m else memPut k v m
/-- `n` bytes from address `k` on. -/
def memRead (blank : Byte) (m : Mem) (k n : Nat) : List Byte :=
  (List.range n).map (fun i => memGet blank m (k + i))
/-- Write bytes from address `k` on. -/
def memWrite (blank : Byte) (m : Mem) (k : Nat) : List Byte → Mem
  | [] => m
  | b :: bs => memWrite blank (memSet blank m k b) (k + 1) bs
/-- Little-endian read of `n` bytes. -/
def memLe (blank : Byte) (m : Mem) (k n : Nat) : Nat := ofLe (memRead blank m k n)
/-- Write the blank byte over `n` addresses from `k` on. -/
def memErase (m : Mem) (k n : Nat) : Mem := m.filter (fun c => c.1 < k || k + n ≤ c.1)

/-- A table: entries keyed by a number, keys strictly rising. -/
abbrev Tbl (α : Type) := List (Nat × α)
/-- The entry at a key, if listed. -/
def tblFind? {α : Type} : Tbl α → Nat → Option α
  | [], _ => none
  | (a, v) :: t, k => if a = k then some v else tblFind? t k
/-- The entry at a key, or the default. -/
def tblGet {α : Type} (d : α) (t : Tbl α) (k : Nat) : α := (tblFind? t k).getD d
/-- Set the entry at a key. -/
def tblSet {α : Type} (k : Nat) (v : α) : Tbl α → Tbl α
  | [] => [(k, v)]
  | (a, w) :: t => if a = k then (k, v) :: t else if k < a then (k, v) :: (a, w) :: t else (a, w) :: tblSet k v t
/-- Remove the entry at a key. -/
def tblDel {α : Type} (k : Nat) (t : Tbl α) : Tbl α := t.filter (fun e => e.1 != k)
/-- Keys strictly rise, each at least `lo`. -/
def tblWfFrom {α : Type} : Nat → Tbl α → Bool
  | _, [] => true
  | lo, (a, _) :: t => decide (lo ≤ a) && tblWfFrom (a + 1) t

/-- Change element `i` of a list; unchanged beyond its end. -/
def modAt {α : Type} (l : List α) (i : Nat) (f : α → α) : List α := l.modify i f
/-- Append to a list of bounded length, the oldest entry lost. -/
def pushBounded {α : Type} (cap : Nat) (l : List α) (x : α) : List α :=
  let m := l ++ [x]
  m.drop (m.length - cap)

end Sys2Proof.Machine
end

