-- ==== Sys2Proof/Machine/StRumbe.lean ====
section
/-! DEFINITION. The state of one Rumbe (03, 04, 05, 06, 24.8): its settings, counters, latches, records and timers.
Field defaults are the POR values of 24 Table 24-11. Each field's comment gives its width, its source, its reset. -/

namespace Sys2Proof.Machine

/-- A chain frame as a transmitter sends it (06 Table 6-2). `good = false` sends the complement of the CRC (06 R131). -/
structure Frame where
  type : Nat
  dir : Bool := true
  pos : Bool := false
  ret : Bool := false
  addr : Nat := 0
  fseq : Nat := 0
  payload : List Byte := []
  good : Bool := true
  deriving DecidableEq, Repr

/-- Measurement settings (03 Table 3-2). -/
structure MeasSet where
  nCells : Nat := 18        -- 5 bit; 24 R534 0x0010; 18
  ovTh : Nat := 42500       -- 16 bit; 24 R534 0x0011; 42,500
  uvTh : Nat := 25000       -- 16 bit; 24 R534 0x0012; 25,000
  almHys : Nat := 500       -- 11 bit; 24 R534 0x0013; 500
  almN : Nat := 2           -- 4 bit; 24 R534 0x0014; 2
  thEn : Nat := 0xFF        -- 8 bit; 24 R534 0x0015; 0xFF
  thBeta : Nat := 3435      -- 13 bit; 24 R534 0x0016; 3,435
  thMap0 : Nat := 0x32221100 -- 32 bit; 24 R534 0x0017; Table 3-4
  thMap1 : Nat := 0x66655443 -- 32 bit; 24 R534 0x0019; Table 3-4
  thMap2 : Nat := 0x77      -- 8 bit; 24 R534 0x001B; Table 3-4
  deriving DecidableEq, Repr

/-- Head settings (04 Table 4-1). -/
structure HeadSet where
  headEn : Bool := false    -- 1 bit; 24 R534 0x0020; 0
  drvContactor : Bool := false -- 2-bit code; 24 R534 0x0021; 0 (FET)
  shunt : Nat := 100        -- 16 bit; 24 R534 0x0022; 100
  scdTh : Nat := 8          -- 4 bit; 24 R534 0x0023; 8
  scdBlank : Nat := 3       -- 4 bit; 24 R534 0x0024; 3
  dsatEn : Bool := true     -- 1 bit; 24 R534 0x0025; 1
  pchgEn : Bool := true     -- 1 bit; 24 R534 0x0026; 1
  pchgIdone : Nat := 1000   -- 16 bit; 24 R534 0x0027; 1,000
  pchgTmin : Nat := 50      -- 10 bit; 24 R534 0x0028; 50
  pchgTmax : Nat := 1000    -- 14 bit; 24 R534 0x0029; 1,000
  vauxEn : Bool := false    -- 1 bit; 24 R534 0x002A; 0
  deriving DecidableEq, Repr

/-- Balancer settings (05 Table 5-2). -/
structure BalSet where
  en : Bool := false        -- 1 bit; 24 R534 0x0030; 0
  nr : Nat := 128           -- 10 bit; 24 R534 0x0031; 128
  rcs : Nat := 100          -- 10 bit; 24 R534 0x0032; 100
  ipk : Nat := 6000         -- 16 bit; 24 R534 0x0033; 6,000
  deriving DecidableEq, Repr

/-- Both alarms of one cell and their counts (03 R62). -/
structure CellAlarm where
  ov : Bool := false        -- 1 bit; 03 R62; clear
  uv : Bool := false        -- 1 bit; 03 R62; clear
  ovCnt : Nat := 0          -- to ALM_N; 03 R62; 0
  uvCnt : Nat := 0          -- to ALM_N; 03 R62; 0
  deriving DecidableEq, Repr

/-- What a commit or an interval made due at the same moment, each a step of its own (95). -/
inductive RDue where
  | assert (cell : Nat) (k : AlarmKind)
  | clear (cell : Nat) (k : AlarmKind)
  | measFault
  | modid (st : Nat)
  | rangeHg
  | calFrozen
  | curFault
  deriving DecidableEq, Repr

/-- A scheduled or running sweep (03 R55). -/
structure Sweep where
  seq : Nat
  start : Nat               -- t_start, or the moment it is scheduled for
  addrTrig : Bool := false
  deriving DecidableEq, Repr

/-- A NOT_SAMPLED record to come: `start` is the would-be t_start of its trigger (03 R57). -/
structure NotSampled where
  seq : Nat
  start : Nat
  started : Bool := false
  deriving DecidableEq, Repr

/-- The last interval of the current grid and the totals up to it (04 R84). -/
structure CurSnap where
  endAt : Nat
  q : Int
  n : Nat
  iMa : Int
  lg : Bool
  ovr : Bool
  deriving DecidableEq, Repr

/-- The current channel (04 4.2 to 4.4). -/
structure Current where
  running : Bool := false   -- 1 bit; 04 R538; stopped
  settleAt : Nat := 0       -- time; 04 R538; 0
  gridAt : Option Nat := none -- start of the interval in progress; 04 R59; none
  lgState : Bool := false   -- 1 bit; 04 R538; HG
  lgCnt : Nat := 0          -- to 8; 04 R79; 0
  ofsLg : Int := 0          -- nV; 04 R81; factory value
  noUpd : Nat := 0          -- to 40,000; 04 R82; 0
  calFrozen : Bool := false -- 1 bit; 04 R82; 0
  exceed : Nat := 0         -- to 16; 04 R82; 0
  curFault : Bool := false  -- 1 bit; 04 R82; 0
  sumV : Int := 0           -- 80 bit; 04 R83; 0
  nCum : Nat := 0           -- 32 bit; 04 R83; 0
  qBase : Int := 0          -- 64 bit; 04 R83; 0
  rchg : Nat := 0           -- 16 bit; 04 Table 4-4; 0
  accReset : Bool := false  -- 1 bit; 04 Table 4-5; 0
  lgOvr : Bool := false     -- 1 bit; 04 Table 4-5; 0 (up to the interval before `last`)
  last : Option CurSnap := none -- last interval; 04 R84; none
  prev : Option CurSnap := none -- the one before it; 04 R84; none
  lastRangeLg : Bool := false -- bit 0 of the last record's HFLAGS; 04 Table 4-5; 0
  lastNoAlign : Bool := false -- bit 11 of the last record's HFLAGS; 04 Table 4-5; 0
  deriving DecidableEq, Repr

/-- Gate states (04 Table 4-6). -/
inductive GateSt where
  | open | precharge | ramp | closed | chgOnly | dsgOnly
  deriving DecidableEq, Repr

/-- The disconnect outputs (04 4.5 to 4.7). -/
structure Gate where
  st : GateSt := .open      -- 3 bit; 04 Table 4-6; OPEN
  target : GateSt := .open  -- state commanded; 04 R88; OPEN
  cause : Nat := 0          -- 4 bit; 04 Table 4-7; 0
  pchg : Bool := false      -- 1 bit; 04 Table 4-6; low
  scTrip : Bool := false    -- 1 bit; 04 Table 4-5; 0
  rampFault : Bool := false -- 1 bit; 04 Table 4-5; 0
  pchgFault : Bool := false -- 1 bit; 04 Table 4-5; 0
  pumpUv : Bool := false    -- 1 bit; 04 Table 4-5; 0
  enteredAt : Nat := 0      -- time PRECHARGE or RAMP began; 04 R89, R90; 0
  idone : Nat := 1000       -- mA latched at CLOSE; 04 Table 4-1; 1,000
  tmin : Nat := 50          -- ms latched at CLOSE; 04 Table 4-1; 50
  tmax : Nat := 1000        -- ms latched at CLOSE; 04 Table 4-1; 1,000
  dsat : Bool := true       -- DSAT_EN latched at the ramp; 04 Table 4-1; 1
  lowRun : Nat := 0         -- to 8; 04 R89; 0
  pchgOffAt : Option Nat := none -- time PCHG turns off; 04 R90; none
  aspHold : Bool := false   -- 1 bit; 06 R148; 0
  aspAt : Option Nat := none -- last alarm asserted or received; 06 R148; none
  openAt : Option Nat := none -- moment of the last open request; 04 R91, R92; none
  openFrom : GateSt := .open -- state that moment found; 04 R92; OPEN
  openTarget : GateSt := .open -- and where its RAMP led; 04 R92, R96; OPEN
  openCause : Nat := 0      -- highest cause of that moment; 04 R92; 0
  deriving DecidableEq, Repr

/-- VAUX states (04 Table 4-4 byte 97). -/
inductive VauxSt where
  | off | softStart | on | retryWait
  deriving DecidableEq, Repr

/-- The VAUX output (04 4.8). -/
structure Vaux where
  st : VauxSt := .off       -- 2 bit; 04 Table 4-4; OFF
  retries : Nat := 0        -- 2 bit; 04 Table 4-4; 0
  since : Nat := 0          -- time of the soft start or turn-off; 04 R98, R99; 0
  fault : Bool := false     -- 1 bit; 04 Table 4-5; 0
  low : Bool := false       -- 1 bit; 04 Table 4-5; 0
  mv : Nat := 0xFFFF        -- 16 bit; 24 R534 0x0048; 0xFFFF
  deriving DecidableEq, Repr

/-- A schedule entry (05 Table 5-1). -/
structure BalEntry where
  cell : Nat
  out : Bool
  iSet : Nat
  qTgt : Nat
  tMax : Nat
  deriving DecidableEq, Repr

/-- An entry of the transfer log (05 R112). -/
structure TLog where
  xferId : Nat
  cell : Nat
  out : Bool
  cause : Nat
  xferQ : Int
  dQmb : Int
  deriving DecidableEq, Repr

/-- Phase of a transfer (05 Table 5-3). -/
inductive BalPhase where
  | idle | check | run
  deriving DecidableEq, Repr

/-- The balancer (05). -/
structure Bal where
  phase : BalPhase := .idle -- 3-bit code; 05 Table 5-3; IDLE
  cur : BalEntry := { cell := 0, out := false, iSet := 0, qTgt := 0, tMax := 0 } -- present or last transfer; 05 Table 5-3; zeros
  queue : List BalEntry := [] -- up to 4; 05 R105; empty
  startAt : Nat := 0        -- time the transfer started; 05 Table 5-5; 0
  checkAt : Nat := 0        -- time CHECK began; 05 R103; 0
  cycleAt : Nat := 0        -- end of the last cycle, or switching begins; 05 R107; 0
  endPhase : BalPhase := .idle -- phase the last transfer ended in; 05 R116; IDLE
  offAt : Option Nat := none -- time the outputs turned off; 05 R101; none
  holdUntil : Option Nat := none -- end of the idle window; 05 R113; none
  holdFrom : Nat := 0       -- decode of the start delimiter that opened it; 05 R113; 0
  xferId : Nat := 0         -- 16 bit; 05 Table 5-3; 0
  xferQ : Int := 0          -- 32 bit; 05 R110; 0
  qmb0 : Int := 0           -- QMB at the transfer's start; 05 R112; 0
  qb : List Int := List.replicate 18 0 -- 48 bit each; 05 R110; 0
  qmb : Int := 0            -- 48 bit; 05 R110; 0
  log : List TLog := []     -- newest first, up to 4; 05 R112; empty
  cause : Nat := 0          -- 4 bit; 05 Table 5-5; 0
  ended : Bool := false     -- 1 bit; 05 Table 5-3; 0
  seen : Bool := false      -- a transfer was active since the last record; 05 R111; 0
  selFault : Bool := false  -- 1 bit; 05 R118; 0
  priOc : Bool := false     -- 1 bit; 05 R118; 0
  tDie : Option Int := none -- 16 bit, 0.1 degree; 24 R534 0x0046; 0x8000 (not measured)
  hot : Bool := false       -- OVERTEMP hold; 05 R114; 0
  badModule : Bool := false -- module voltage outside 12 to 90 V; 05 R115; 0
  deriving DecidableEq, Repr

/-- The last addressed command executed, and its response (06 R139). -/
structure LastCmd where
  fseq : Nat
  type : Nat
  respType : Nat
  resp : List Byte
  deriving DecidableEq, Repr

/-- A RECORD to send after COLLECT (06 R144): its bytes as copied at the decode (03 R73). -/
structure CollectTx where
  pos : Nat
  fseq : Nat
  ret : Bool                -- RET of the COLLECT (06 R138)
  port : RPort              -- the port it goes out of
  bytes : List Byte
  count : Nat := 0          -- RECORD frames with that FSEQ repeated so far
  lastAt : Nat := 0         -- end of the last of them, or of the COLLECT
  deriving DecidableEq, Repr

/-- An own frame on the line or about to start there. -/
structure OwnTx where
  start : Nat
  till : Nat
  frame : Frame
  deriving DecidableEq, Repr

/-- An urgent frame's five bytes, and whether the device itself originated it (06 Table 6-5, R147). -/
structure UFrame where
  bytes : List Byte
  own : Bool
  deriving DecidableEq, Repr

/-- One port of a Rumbe (06). -/
structure PortSt where
  cut : Bool := false       -- 1 bit; 24 R534 0x000A; 0
  jab : Bool := false       -- guard cut in; 06 R154; 0
  tx : Option OwnTx := none -- own frame on the line; 06 R122; none
  utx : Option (Nat × UFrame) := none -- urgent frame on the line and its end; 06 R132; none
  repUntil : Nat := 0       -- end of the repeat in progress; 06 R130; 0
  freeAt : Nat := 0         -- earliest start of an own frame: 24 bit cells after a frame sent, one after one received; 06 R122, R126; 0
  rxEnd : Nat := 0          -- end of the last frame received; 06 R144; 0
  uq : List UFrame := []    -- up to 4 urgent frames; 06 R132; empty
  resend : Option Frame := none -- own frame that yielded; 06 R122; none
  deriving DecidableEq, Repr

/-- One Rumbe. -/
structure Rumbe where
  devId : Nat := 0          -- 6 bit; 24 R534 0x0006; 0
  strId : Nat := 0          -- 6 bit; 24 R534 0x0007; 0
  aspEn : Bool := true      -- 1 bit; 24 R534 0x0008; 1
  tComm : Nat := 8          -- 7 bit; 24 R534 0x0009; 8
  jabCnt : Nat := 0         -- 16 bit; 24 R534 0x000B; 0
  rxDrop : Nat := 0         -- 16 bit; 24 R534 0x000C; 0
  crcErr : Nat := 0         -- 16 bit; 24 R534 0x000D; 0
  lastCmd : Option LastCmd := none -- 16 bit register; 24 R534 0x000E; 0
  meas : MeasSet := {}
  latched : MeasSet := {}   -- settings of the sweep in progress; 03 R56; defaults
  head : HeadSet := {}
  balSet : BalSet := {}
  trig : Option Sweep := none -- scheduled sweep; 03 R55; none
  sweep : Option Sweep := none -- sweep in progress; 03 R55; none
  notSampled : List NotSampled := [] -- NOT_SAMPLED records to come; 03 R57; none
  records : List (Nat × List Byte) := [] -- newest last, up to 4; 03 R72; empty
  lastStart : Option Nat := none -- last t_start; 03 R57; none
  lastCells : Option (List Nat) := none -- cells of the last record in which a sweep ran; 05 R103; none
  lastThStat : Option Nat := none -- THSTAT of that record; 03 Table 3-7; none
  sflags : Nat := 0         -- 16 bit; 24 R534 0x0043; 0
  woke : Bool := true       -- first sweep since wake, POR or SOFT; 03 Table 3-7; 1
  refRun : Nat := 0         -- to 3; 03 R60; 0
  measFault : Bool := false -- 1 bit; 03 R60; 0
  alarms : List CellAlarm := List.replicate 18 {}
  almSentAt : Option Nat := none -- last ALARM_CELL sent; 06 R147; none
  measSentAt : Option Nat := none -- last ALARM_MEAS sent; 06 R147; none
  modid : Option Nat := none -- reported state, 8 bit; 24 R534 0x0044; none (reads 0xFF)
  modidRef : Option Nat := none -- 8 bit; 24 R534 0x001C; none (reads 0xFF)
  modidCand : Option (Nat × Nat) := none -- new state and its run; 03 R70; none
  due : List RDue := []     -- steps due with the last commit or interval; 95; none
  dueAt : Nat := 0          -- the moment of that commit or interval; 95; 0
  cur : Current := {}
  gate : Gate := {}
  vaux : Vaux := {}
  bal : Bal := {}
  portN : PortSt := {}
  portS : PortSt := {}
  collect : Option CollectTx := none -- 06 R144; none
  softAt : Option Nat := none -- time of the SOFT reset; 06 R128; none
  commAt : Nat := 0         -- last restart of t_comm; 06 R156; 0
  asleep : Bool := false    -- 06 R157; awake
  sleepAt : Option Nat := none -- time the device sleeps; 06 R157; none
  wakeAt : Option Nat := none -- time of wake detection; 06 R158; none
  deriving DecidableEq, Repr

/-- What a command puts on the wires, pins and ports (the model's own field; log 3). A frame's chips are `Frame.chips`, an
urgent frame's, from its five bytes, `urgentChips` (Machine/Line.lean). -/
inductive Output where
  | rumbeFrame (d : Dev) (p : RPort) (f : Frame)
  | rumbeRepeat (d : Dev) (p : RPort) (line : List Chip)
  | rumbeUrgent (d : Dev) (p : RPort) (u : List Byte)
  | rumbePreamble (d : Dev) (p : RPort)
  | chainFrame (pair : Fin 4) (side : Side) (f : Frame)
  | chainUrgent (pair : Fin 4) (side : Side) (u : List Byte)
  | chainPreamble (pair : Fin 4) (side : Side)
  | fabric (link : Nat) (bytes : List Byte)
  | training (link lane block : Nat)
  | msix (vector : Nat) (addr data : Nat)
  | readData (port : HostPort) (bytes : List Byte)
  | readError (port : HostPort)
  | configRetry
  | shp (status : Nat) (bytes : List Byte)
  | preparing
  deriving DecidableEq, Repr

/-- A meaning in progress on one Rumbe: the device, the time, its state and what it has sent. -/
structure RCtx where
  dev : Dev
  now : Nat
  r : Rumbe
  out : List Output := []
  deriving DecidableEq, Repr

end Sys2Proof.Machine
end

