-- ==== Sys2Proof/Machine/Line.lean ====
section
/-! DEFINITION. The line code and the frames on it (06 6.1, 6.2): chips to bytes and back, code violations, the break-in, the
fields of a received frame, its CRC, and what a repeater sends on. -/

namespace Sys2Proof.Machine

/-! ### Manchester code (06 R119) -/

/-- The two chips of a bit: 0 is H then L, 1 is L then H. -/
def bitChips (b : Bool) : List Chip := if b then [.l, .h] else [.h, .l]
/-- The chips of bytes, each least significant bit first. -/
def lineChips (bs : List Byte) : List Chip :=
  bs.flatMap (fun b => (List.range 8).flatMap (fun i => bitChips (natBit b.toNat i)))
/-- The bits of a line, by the first chip of each bit cell (log 157). -/
def lineBits : List Chip → List Bool
  | a :: _ :: rest => (a == .l) :: lineBits rest
  | _ => []
/-- Whole bytes of a run of bits. -/
def bitBytes : List Bool → List Byte
  | a :: b :: c :: d :: e :: f :: g :: h :: rest =>
    BitVec.ofNat 8 (b2n a + b2n b * 2 + b2n c * 4 + b2n d * 8 + b2n e * 16 + b2n f * 32 + b2n g * 64 + b2n h * 128)
      :: bitBytes rest
  | _ => []
/-- A code violation: three or more equal chips in a row (06 R120). -/
def violated : List Chip → Bool
  | a :: b :: c :: rest => (a == b && b == c) || violated (b :: c :: rest)
  | _ => false

/-! ### Non-urgent frames (06 Tables 6-1, 6-2) -/

/-- Preamble and start delimiter (06 Table 6-1). -/
def syncBytes : List Byte := [0x55#8, 0x55#8, 0xD5#8]
/-- Header, payload and CRC of a frame, high byte of the CRC first; its complement where the CRC is to fail (06 R123 to R125,
R131). -/
def Frame.bytes (f : Frame) : List Byte :=
  let b := leBytes 1 (f.type * 16 + b2n f.dir * 8 + b2n f.pos * 4 + b2n f.ret * 2) ++ leBytes 1 f.addr ++ leBytes 1 f.fseq
    ++ leBytes 1 f.payload.length ++ f.payload
  b ++ beBytes 2 (if f.good then crc16 b else 65535 - crc16 b)
/-- A frame's chips on the line. -/
def Frame.chips (f : Frame) : List Chip := lineChips (syncBytes ++ f.bytes)

/-- The whole bytes of a received line that follow the start delimiter. -/
def lineBody (l : List Chip) : List Byte := (bitBytes (lineBits l)).drop 3
/-- The line begins with the preamble and the start delimiter, and no violation aborts the frame (06 R120, R123). -/
def lineFrame (l : List Chip) : Bool := (bitBytes (lineBits (l.take 48))) == syncBytes && !violated l
/-- TYPE of a received frame. -/
def lineType (l : List Chip) : Nat := byteAt (lineBody l) 0 / 16
/-- Bit `n` of H0: 3 is DIR, 2 MODE, 1 RET. -/
def lineH0 (l : List Chip) (n : Nat) : Bool := natBit (byteAt (lineBody l) 0) n
/-- ADDR; its two upper bits are reserved and ignored (06 R124). -/
def lineAddr (l : List Chip) : Nat := byteAt (lineBody l) 1 % 64
/-- FSEQ. -/
def lineFseq (l : List Chip) : Nat := byteAt (lineBody l) 2
/-- LEN. -/
def lineLen (l : List Chip) : Nat := byteAt (lineBody l) 3
/-- The payload, as far as the line holds it. -/
def linePayload (l : List Chip) : List Byte := ((lineBody l).drop 4).take (lineLen l)
/-- The CRC over header and payload passes (06 R125). -/
def lineCrcOk (l : List Chip) : Bool :=
  let b := lineBody l
  let n := 4 + lineLen l
  decide (n + 2 ≤ b.length) && crc16 (b.take n) == ofBe ((b.drop n).take 2)
/-- Chips from the preamble to the last CRC chip that a LEN calls for (06 R126). -/
def lineNeed (len : Nat) : Nat := 2 * (24 + 8 * (6 + len))
/-- LEN is at most 240, is met, and the line returns to Z within two chip times (06 R126 Edges). -/
def lineWhole (l : List Chip) : Bool :=
  decide (lineLen l ≤ 240) && decide (lineNeed (lineLen l) ≤ l.length) && decide (l.length ≤ lineNeed (lineLen l) + 2)
/-- A frame that a receiver acts on: no violation, whole, a good CRC. -/
def lineGood (l : List Chip) : Bool := lineFrame l && lineWhole l && lineCrcOk l
/-- Time on the line: 2 counts a chip (06 R119). -/
def lineTime (l : List Chip) : Nat := 2 * l.length

/-- A received line as a repeater sends it on: `rw` has rewritten header and payload, and the CRC is computed again, its
complement where the received one fails; a line too short for its LEN goes on with what it has (06 R131, R126 Edges). -/
def repeatLine (l : List Chip) (rw : List Byte → List Byte) : List Chip :=
  let b := lineBody l
  let n := 4 + lineLen l
  if n + 2 ≤ b.length then
    let c := crc16 (rw (b.take n))
    lineChips (syncBytes ++ rw (b.take n) ++ beBytes 2 (if lineCrcOk l then c else 65535 - c)) ++ l.drop (16 * (n + 5))
  else lineChips (syncBytes ++ rw b) ++ l.drop (16 * (3 + b.length))

/-! ### Urgent frames (06 R120, R129) -/

/-- BRK (06 R120). -/
def brkChips : List Chip :=
  [.h, .h, .h, .h, .l, .l, .l, .l, .h, .h, .h, .h, .l, .l, .l, .l]
/-- U0 to U4 of an urgent frame from U0 to U2: the CRC follows, high byte first (06 Table 6-5, R125). -/
def urgentSeal (u : List Byte) : List Byte := u ++ beBytes 2 (crc16 u)
/-- The chips of an urgent frame's five bytes. -/
def urgentChips (bs : List Byte) : List Chip := brkChips ++ lineChips bs
/-- How far a receiver has come in finding an urgent frame: the last chip and its run, whether a violation has been seen, and
the chips of the urgent frame so far. -/
structure BrkScan where
  last : Option Chip := none
  run : Nat := 0
  viol : Bool := false
  buf : Option (List Chip) := none
  deriving DecidableEq, Repr
/-- One more chip: after a violation, the H after a run of exactly four L is the first chip of an urgent frame; a violation
inside it starts over (06 R120). -/
def brkStep (k : BrkScan) (c : Chip) : BrkScan :=
  let run := if k.last = some c then k.run + 1 else 1
  let start := k.viol && c == .h && k.last == some .l && k.run == 4
  if 3 ≤ run then { last := some c, run := run, viol := true, buf := none }
  else if start then { last := some c, run := run, viol := false, buf := some [c] }
  else { last := some c, run := run, viol := k.viol, buf := k.buf.map (fun b => b ++ [c]) }
/-- The 80 chips of the urgent frame in a line, once they are there. -/
def brkFind : List Chip → BrkScan → Option (List Chip)
  | [], k => if (k.buf.getD []).length = 80 then k.buf else none
  | c :: rest, k => if (k.buf.getD []).length = 80 then k.buf else brkFind rest (brkStep k c)
/-- U0 to U4 of the urgent frame in a line; none where the break-in or any of them is missing. -/
def lineUrgent (l : List Chip) : List Byte := bitBytes (lineBits ((brkFind l {}).getD []))
/-- An urgent frame is in the line. -/
def urgentFound (bs : List Byte) : Bool := bs.length == 5
/-- The CRC over U0 to U2 passes (06 R125). -/
def urgentCrcOk (bs : List Byte) : Bool := crc16 (bs.take 3) == ofBe (bs.drop 3)
/-- An urgent frame decodes: the low nibble of U0 is 0b1010 and the CRC passes (06 R129). -/
def urgentDecodes (bs : List Byte) : Bool := urgentFound bs && byteAt bs 0 % 16 == 10 && urgentCrcOk bs
/-- UCODE. -/
def ucode (bs : List Byte) : Nat := byteAt bs 0 / 16

end Sys2Proof.Machine

namespace Sys2Proof

/-! ### Fields of a frame at a Rumbe -/

/-- TYPE. -/
def Rx.type (x : Rx) : Nat := Machine.lineType x.line
/-- DIR: true is from a Rumbe. -/
def Rx.dir (x : Rx) : Bool := Machine.lineH0 x.line 3
/-- MODE: true is POSITIONAL. -/
def Rx.pos (x : Rx) : Bool := Machine.lineH0 x.line 2
/-- RET. -/
def Rx.ret (x : Rx) : Bool := Machine.lineH0 x.line 1
/-- ADDR. -/
def Rx.addr (x : Rx) : Nat := Machine.lineAddr x.line
/-- FSEQ. -/
def Rx.fseq (x : Rx) : Nat := Machine.lineFseq x.line
/-- Payload. -/
def Rx.payload (x : Rx) : List Byte := Machine.linePayload x.line
/-- The CRC passes. -/
def Rx.crcOk (x : Rx) : Bool := Machine.lineCrcOk x.line
/-- The frame is whole (06 R126 Edges). -/
def Rx.whole (x : Rx) : Bool := Machine.lineWhole x.line
/-- A frame of type `type`, not aborted by a violation. -/
def Rx.isFrame (x : Rx) (type : Nat) : Bool := Machine.lineFrame x.line && x.type == type
/-- When it began, its end being at `now`. -/
def Rx.since (x : Rx) (now : Nat) : Nat := now - Machine.lineTime x.line
/-- U0 to U4 of an urgent frame at a Rumbe. -/
def URx.bytes (u : URx) : List Byte := Machine.lineUrgent u.line

end Sys2Proof
end

