-- ==== Sys2Proof/Machine/Crypto.lean ====
section
/-! DEFINITION. Signatures (14 R333, 15 R351, 16 R394): SHA-512 as FIPS 180-4 defines it, and the verification of a pure Ed25519
signature as RFC 8032 defines it. Numbers are Nat; bytes as they stand in a container. Log 6. -/

namespace Sys2Proof.Machine

/-! ### SHA-512 (FIPS 180-4) -/

/-- Floor of the k-th root of n, from bit i - 1 down. -/
def rootGo (k n : Nat) : Nat → Nat → Nat
  | 0, acc => acc
  | i + 1, acc => rootGo k n i (if (acc + 2 ^ i) ^ k ≤ n then acc + 2 ^ i else acc)
/-- The first eighty primes. -/
def primes80 : List Nat := (List.range 410).filter (fun n => decide (2 ≤ n) && (List.range n).all (fun d => decide (d < 2) || n % d != 0))
/-- The first 64 bits of the fractional part of the k-th root of n. -/
def rootBits (k n : Nat) : Nat := rootGo k (n * 2 ^ (64 * k)) 70 0 % 2 ^ 64
/-- The initial hash value: square roots of the first eight primes. -/
def shaInit : List Nat := (primes80.take 8).map (rootBits 2)
/-- The round constants: cube roots of the first eighty primes. -/
def shaRound : List Nat := primes80.map (rootBits 3)
/-- Rotate a 64-bit word right. -/
def rotr64 (x n : Nat) : Nat := x / 2 ^ n + x % 2 ^ n * 2 ^ (64 - n)
/-- Complement of a 64-bit word. -/
def not64 (x : Nat) : Nat := 2 ^ 64 - 1 - x
/-- The number that bytes spell, most significant first. -/
def beNat (b : List Byte) : Nat := b.foldl (fun v x => v * 256 + x.toNat) 0
/-- Upper-case and lower-case sigma: two rotations, and a third rotation or a shift. -/
def shaSigma (x a b c : Nat) (shift : Bool) : Nat :=
  rotr64 x a ^^^ rotr64 x b ^^^ (if shift then x / 2 ^ c else rotr64 x c)
/-- The message schedule, newest word first. -/
def shaSchedule (block : List Byte) : List Nat :=
  let first := (List.range 16).map (fun i => beNat (sliceAt block (8 * i) 8))
  (List.range 64).foldl (fun w _ =>
    let at_ := fun (k : Nat) => w.getD (k - 1) 0
    (shaSigma (at_ 2) 19 61 6 true + at_ 7 + shaSigma (at_ 15) 1 8 7 true + at_ 16) % 2 ^ 64 :: w) first.reverse
/-- One round on the eight working variables. -/
def shaStep (v : List Nat) (k w : Nat) : List Nat := match v with
  | [a, b, c, d, e, f, g, h] =>
    let t1 := h + shaSigma e 14 18 41 false + ((e &&& f) ^^^ (not64 e &&& g)) + k + w
    let t2 := shaSigma a 28 34 39 false + ((a &&& b) ^^^ (a &&& c) ^^^ (b &&& c))
    [(t1 + t2) % 2 ^ 64, a, b, c, (d + t1) % 2 ^ 64, e, f, g]
  | _ => v
/-- The hash value after one more block. -/
def shaBlock (h : List Nat) (block : List Byte) : List Nat :=
  let v := (shaRound.zip (shaSchedule block).reverse).foldl (fun v e => shaStep v e.1 e.2) h
  (h.zip v).map (fun e => (e.1 + e.2) % 2 ^ 64)
/-- A message with its padding. -/
def shaPadded (m : List Byte) : List Byte := m ++ [0x80#8] ++ zeros ((239 - m.length % 128) % 128) ++ beBytes 16 (8 * m.length)
/-- SHA-512. -/
def sha512 (m : List Byte) : List Byte :=
  let p := shaPadded m
  ((List.range (p.length / 128)).foldl (fun h i => shaBlock h (sliceAt p (128 * i) 128)) shaInit).flatMap (beBytes 8)

/-! ### Ed25519 (RFC 8032, 5.1) -/

/-- The field's prime, 2^255 - 19. -/
def edP : Nat := 2 ^ 255 - 19
/-- The order of the base point. -/
def edL : Nat := 2 ^ 252 + 27742317777372353535851937790883648493
/-- b to the power e, modulo m, for an exponent below 2^256. -/
def powMod (b e m : Nat) : Nat := (List.range 256).foldl (fun a i =>
  let a := a * a % m
  if natBit e (255 - i) then a * b % m else a) (1 % m)
/-- Inverse in the field. -/
def edInv (x : Nat) : Nat := powMod x (edP - 2) edP
/-- The curve's constant d, -121665/121666. -/
def edD : Nat := (edP - 121665) * edInv 121666 % edP
/-- A point in extended homogeneous coordinates. -/
structure EdPoint where
  x : Nat
  y : Nat
  z : Nat
  t : Nat
  deriving DecidableEq, Repr
/-- Sum of two points; the formulas are complete. -/
def edAdd (p q : EdPoint) : EdPoint :=
  let a := (p.y + edP - p.x) * (q.y + edP - q.x) % edP
  let b := (p.y + p.x) * (q.y + q.x) % edP
  let c := 2 * p.t * q.t % edP * edD % edP
  let d := 2 * p.z * q.z % edP
  let e := b + edP - a
  let f := d + edP - c
  let g := d + c
  let h := b + a
  { x := e * f % edP, y := g * h % edP, z := f * g % edP, t := e * h % edP }
/-- The neutral point. -/
def edZero : EdPoint := { x := 0, y := 1, z := 1, t := 0 }
/-- A multiple of a point, for a number below 2^256. -/
def edMul (k : Nat) (p : EdPoint) : EdPoint := (List.range 256).foldl (fun a i =>
  let a := edAdd a a
  if natBit k (255 - i) then edAdd a p else a) edZero
/-- The same point. -/
def edSame (p q : EdPoint) : Bool := p.x * q.z % edP == q.x * p.z % edP && p.y * q.z % edP == q.y * p.z % edP
/-- The point that y and the sign of x name (RFC 8032, 5.1.3). -/
def edPoint (y sign : Nat) : Option EdPoint :=
  let x2 := (y * y + edP - 1) % edP * edInv (edD * (y * y % edP) + 1) % edP
  let r := powMod x2 ((edP + 3) / 8) edP
  let x := if r * r % edP = x2 then r else r * powMod 2 ((edP - 1) / 4) edP % edP
  if edP ≤ y || x * x % edP != x2 || (x = 0 && sign = 1) then none
  else
    let x := if x % 2 = sign then x else edP - x
    some { x := x, y := y, z := 1, t := x * y % edP }
/-- A point as its 32 bytes spell it. -/
def edDecode (b : List Byte) : Option EdPoint := let v := leAt b 0 32; edPoint (v % 2 ^ 255) (v / 2 ^ 255)
/-- The base point: y = 4/5, x even. -/
def edBase : EdPoint := (edPoint (4 * edInv 5 % edP) 0).getD edZero
/-- A signature of a message verifies under a public key (RFC 8032, 5.1.7). -/
def ed25519 (key m sig : List Byte) : Bool :=
  let s := leAt sig 32 32
  match edDecode (fit 32 key), edDecode (sliceAt sig 0 32) with
  | some a, some r =>
    let k := leAt (sha512 (sliceAt sig 0 32 ++ fit 32 key ++ m)) 0 64 % edL
    decide (s < edL) && edSame (edMul 8 (edMul s edBase)) (edMul 8 (edAdd r (edMul k a)))
  | _, _ => false
/-- A signature over the SHA-512 digest of some bytes (14 R333). -/
def sigGood (key b sig : List Byte) : Bool := ed25519 key (sha512 b) sig
/-- Valandant's public key, in Foreman ROM (14 R333; log 6). -/
def romKey : List Byte := leBytes 32 Config.valandantKey

end Sys2Proof.Machine
end

