-- ==== Sys2Proof/Machine/RumbeOps.lean ====
section
/-! DEFINITION. Shared operations of a Rumbe: thermistors and MODID (03 3.6, 3.7), records (03 3.8, 04 4.4, 05 5.3),
ports and urgent frames (06 6.1 to 6.4), gates (04 4.5), balancing ends (05 5.6), what a commit makes due (95). -/

namespace Sys2Proof.Machine

/-- Counts of the model's time in a microsecond (02 R32). -/
def perUs : Nat := 48
/-- Counts in a millisecond. -/
def perMs : Nat := 48000
/-- Counts in a second. -/
def perS : Nat := 48000000
/-- Duration of a non-urgent frame: 24 + 8 (6 + LEN) bit cells of 4 counts (06 R126). -/
def frameTime (len : Nat) : Nat := 4 * (24 + 8 * (6 + len))
/-- Duration of an urgent frame, 4.0 microseconds (06 R129). -/
def urgentTime : Nat := 192

/-- Change the Rumbe of a context. -/
def RCtx.upd (c : RCtx) (f : Rumbe → Rumbe) : RCtx := { c with r := f c.r }
/-- Add to what the device sends. -/
def RCtx.emit (c : RCtx) (o : Output) : RCtx := { c with out := c.out ++ [o] }

/-- The other port (06 6.1). -/
def otherPort : RPort → RPort
  | .n => .s
  | .s => .n
/-- A port of a Rumbe. -/
def portOf (r : Rumbe) : RPort → PortSt
  | .n => r.portN
  | .s => r.portS
/-- Change a port of a Rumbe. -/
def updPort (r : Rumbe) (p : RPort) (f : PortSt → PortSt) : Rumbe :=
  match p with
  | .n => { r with portN := f r.portN }
  | .s => { r with portS := f r.portS }

/-! ### Thermistors and module identity -/

/-- Sum of z^(2i+1)/(2i+1) for the next `n` terms, all scaled by 10^12. -/
def atanhSum (z2 : Int) : Nat → Nat → Int → Int → Int
  | 0, _, _, acc => acc
  | n + 1, i, term, acc => atanhSum z2 n (i + 1) (term * z2 / 1000000000000) (acc + term / (2 * i + 1 : Nat))
/-- Scale `n / d` into [1, 2) and count the halvings (positive) or doublings (negative). -/
def lnScale : Nat → Nat → Nat → Int → Nat × Nat × Int
  | 0, n, d, k => (n, d, k)
  | f + 1, n, d, k =>
    if 2 * d ≤ n then lnScale f n (2 * d) (k + 1) else if n < d then lnScale f (2 * n) d (k - 1) else (n, d, k)
/-- Natural logarithm of `n / d`, scaled by 10^12, within a part in 10^10. -/
def lnScaled (n d : Nat) : Int :=
  let (a, b, k) := lnScale 64 n d 0
  let z : Int := ((a : Int) - b) * 1000000000000 / ((a : Int) + b)
  k * 693147180560 + 2 * atanhSum (z * z / 1000000000000) 16 0 z 0
/-- Temperature in 0.1 degree of an OK input with ratio `r` in millionths (03 R66). The interpolation error, within
0.1 degree, is the part's (log 13). -/
def ntcTemp (r beta : Nat) : Int :=
  let l := lnScaled r (1000000 - r)
  let tk : Int := (29815 * beta : Nat) * 100000000000000 / ((beta : Int) * 100000000000000 + 29815 * l)
  let t := tk - 27315 + clampInt (-10) 10 (Config.ntcError r beta)
  clampInt (-400) 1250 (divRoundAway t 10)
/-- Classes of a thermistor input as THSTAT codes them: 0 OK, 1 ABSENT, 2 SHORT, 3 UNUSED (03 R65, Table 3-6). -/
def thClass (en : Bool) (r : Nat) : Nat :=
  if !en then 3 else if r < 20000 then 2 else if 980000 < r then 1 else 0
/-- THSTAT word and temperatures of a sweep; an input that is not OK is reported as 0x8000 (03 R65, R66). -/
def thermistors (m : MeasSet) (th : List Nat) : Nat × List Nat :=
  let cls := (List.range 8).map (fun i => thClass (natBit m.thEn i) (th.getD i 0))
  let stat := sumNat ((List.range 8).map (fun i => cls.getD i 0 * 4 ^ i))
  let temps := (List.range 8).map (fun i =>
    if cls.getD i 3 = 0 then pattern 16 (ntcTemp (th.getD i 0) m.thBeta) else 0x8000)
  (stat, temps)
/-- MODID state of a ratio in millionths, coded as byte 68 of the record (03 R69, Table 3-6): bins of width 1/18,
each with its lower boundary. The code bits of ABSENT and SHORT, for which the spec states no value, are 0 (DESIGN CHOICE,
log 158). -/
def modidState (r : Nat) : Nat :=
  let bin := min 17 (r * 18 / 1000000)
  if bin = 0 then 0x80 else if bin = 17 then 0x40 else bin - 1
/-- Take a decoded MODID state: the state the record reports, UNSTABLE, and the changed device (03 R70). The change of
the reported state itself is due as a step of its own. -/
def modidTake (r : Rumbe) (st : Nat) : Rumbe × Nat × Bool :=
  match r.modid with
  | none => ({ r with modid := some st, modidRef := some st, modidCand := none }, st, false)
  | some old =>
    if st = old then ({ r with modidCand := none }, old, false)
    else
      let run := match r.modidCand with
        | some (c, n) => if c = st then n + 1 else 1
        | none => 1
      if 3 ≤ run then ({ r with modidCand := none, due := r.due ++ [.modid st] }, st, false)
      else ({ r with modidCand := some (st, run) }, old, true)

/-! ### Gate and VAUX words -/

/-- Code of a gate state (04 Table 4-6). -/
def gateCode : GateSt → Nat
  | .open => 0 | .precharge => 1 | .ramp => 2 | .closed => 3 | .chgOnly => 4 | .dsgOnly => 5
/-- A latch of HFLAGS bits 4 to 8 is set (04 R92). -/
def gateLatched (r : Rumbe) : Bool :=
  r.gate.scTrip || r.gate.rampFault || r.gate.pchgFault || r.gate.pumpUv || r.vaux.fault
/-- GATE_ST (04 Table 4-4 byte 96). -/
def gateStByte (r : Rumbe) : Nat := gateCode r.gate.st + r.gate.cause * 8 + b2n (gateLatched r) * 128
/-- Code of a VAUX state (04 Table 4-4 byte 97). -/
def vauxCode : VauxSt → Nat
  | .off => 0 | .softStart => 1 | .on => 2 | .retryWait => 3
/-- VAUX_ST (04 Table 4-4 byte 97). -/
def vauxStByte (r : Rumbe) : Nat := vauxCode r.vaux.st + min 3 r.vaux.retries * 4
/-- An LG sample has been clamped since the previous record, the last interval's among them (04 Table 4-5). -/
def lgOvrNow (cu : Current) : Bool := cu.lgOvr || (match cu.last with | some s => s.ovr | none => false)
/-- HFLAGS with the record's own bits 0 and 11 given (04 Table 4-5). -/
def hflags (r : Rumbe) (rangeLg lgOvr noAlign : Bool) : Nat :=
  b2n rangeLg + b2n lgOvr * 2 + b2n r.cur.calFrozen * 4 + b2n r.cur.curFault * 8 + b2n r.gate.scTrip * 16
    + b2n r.gate.rampFault * 32 + b2n r.gate.pchgFault * 64 + b2n r.gate.pumpUv * 128 + b2n r.vaux.fault * 256
    + b2n r.vaux.low * 512 + b2n r.cur.accReset * 1024 + b2n noAlign * 2048
/-- CHG conducts or ramps (04 Table 4-6). -/
def chgOn (r : Rumbe) : Bool :=
  match r.gate.st with
  | .closed | .chgOnly => true
  | .ramp => r.gate.target != .dsgOnly
  | _ => false
/-- DSG conducts or ramps (04 Table 4-6). -/
def dsgOn (r : Rumbe) : Bool :=
  match r.gate.st with
  | .closed | .dsgOnly => true
  | .ramp => r.gate.target != .chgOnly
  | _ => false
/-- Q_CUM in microcoulomb: Q_BASE plus the floor of SUM_V / (4 SHUNT) (04 R83). -/
def qCum (r : Rumbe) : Int := r.cur.qBase + r.cur.sumV / (4 * r.head.shunt : Nat)

/-! ### Balancer words -/

/-- The balancer is in CHECK or RUN, or held in one of them (05 Table 5-3). -/
def balActive (b : Bal) : Bool := b.phase != .idle
/-- BAL_ST (05 Table 5-3 byte 1). -/
def balStByte (b : Bal) : Nat :=
  (if b.phase = .idle then 0 else if b.holdUntil.isSome then 3 else if b.phase = .check then 1 else 2)
    + b2n b.cur.out * 8 + b.cause * 16
/-- T_DIE register, 0x8000 until measured (24 R534 0x0046). -/
def tDieWord (b : Bal) : Nat := match b.tDie with | none => 0x8000 | some t => pattern 16 t
/-- DERATED: T_DIE above 100 degrees (05 R114). -/
def derated (b : Bal) : Bool := match b.tDie with | none => false | some t => decide (1000 < t)
/-- Effective current of the running transfer in mA (05 R114). -/
def balCurrent (b : Bal) : Nat :=
  match b.tDie with
  | some t => if 1000 < t then (b.cur.iSet * (1250 - t).toNat) / 250 else b.cur.iSet
  | none => b.cur.iSet
/-- Balance section (05 Table 5-3). -/
def balSection (b : Bal) : List Byte :=
  leBytes 1 b.cur.cell ++ leBytes 1 (balStByte b) ++ leBytes 2 b.xferId ++ leBytes 4 (pattern 32 b.xferQ)
    ++ leBytes 6 (pattern 48 (b.qb.getD (b.cur.cell - 1) 0)) ++ leBytes 6 (pattern 48 b.qmb)
    ++ leBytes 2 (b2n (derated b) + b2n b.ended * 2 + b2n b.selFault * 4 + b2n b.priOc * 8 + b.queue.length * 16)
    ++ leBytes 2 (tDieWord b)
/-- What a drive output does: low, on, or switching with the cycles. -/
inductive Drive where
  | low | on | switching
  deriving DecidableEq, Repr
/-- SG_k, k = 0 to 18 (05 R101 to R103): in CHECK the two of the cell are on; in RUN SG_(k-1) is on and SG_k switches. In HOLD
SG_(k-1) stays on, as R101 has it for the whole transfer, and SG_k is off: R101 and R102 leave HOLD open (DESIGN CHOICE,
log 159). -/
def sgDrive (b : Bal) (k : Nat) : Drive :=
  if b.phase = .idle then .low
  else if k + 1 = b.cur.cell then .on
  else if k = b.cur.cell then
    (if b.holdUntil.isSome then .low else if b.phase = .check then .on else .switching)
  else .low
/-- PGA, for odd cells, and PGB, for even ones: switching in RUN, low in CHECK, in HOLD and while idle (05 5.1, R102, R103,
R113). -/
def pgDrive (b : Bal) (odd : Bool) : Drive :=
  if b.phase = .run && b.holdUntil.isNone && (b.cur.cell % 2 == 1) == odd then .switching else .low

/-- The last transfer ended at this very moment. -/
def endedNow (b : Bal) (now : Nat) : Bool := b.phase == .idle && b.offAt == some now
/-- End the active transfer with a cause: outputs off, XFER_ID and the log updated, ENDED set. Where it ended at this very
moment for another cause, the highest code is the one recorded (05 R116). -/
def balEnd (b : Bal) (now cause : Nat) : Bal :=
  if balActive b then
    let id := (b.xferId + 1) % 65536
    { b with phase := .idle, endPhase := b.phase, offAt := some now, xferId := id, cause := cause, ended := true, seen := true,
             log := ({ xferId := id, cell := b.cur.cell, out := b.cur.out, cause := cause, xferQ := b.xferQ,
                       dQmb := b.qmb - b.qmb0 } :: b.log).take 4 }
  else if endedNow b now then
    { b with cause := max b.cause cause, log := modAt b.log 0 (fun e => { e with cause := max e.cause cause }) }
  else b
/-- End with a cause whose action clears the queue (05 Table 5-5). -/
def balEndClear (b : Bal) (now cause : Nat) : Bal := { balEnd b now cause with queue := [] }
/-- Take a die temperature: OVERTEMP at 125 degrees, released below 110 (05 R114). -/
def balTemp (b : Bal) (now : Nat) (t : Int) : Bal :=
  let b := { b with tDie := some t }
  if 1250 ≤ t then { balEnd b now 7 with hot := true }
  else if t < 1100 then { b with hot := false } else b

/-! ### Ports -/

/-- A frame of the device's own leaves a port, not before `start`: after 24 bit cells of Z since its last one and one bit cell
since the port last received; nothing on a cut port (06 R122, R126, R155). -/
def sendOwn (c : RCtx) (p : RPort) (start : Nat) (f : Frame) : RCtx :=
  if (portOf c.r p).cut then c
  else
    let st := max start (portOf c.r p).freeAt
    let e := st + frameTime f.payload.length
    (c.upd (fun r => updPort r p (fun q =>
      { q with tx := some { start := st, till := e, frame := f }, freeAt := e + 24 * 4 }))).emit (.rumbeFrame c.dev p f)
/-- A frame repeated out of a port, 0.90 to 0.95 microsecond after its receipt; nothing on a cut port (06 R130, R155). -/
def sendRepeat (c : RCtx) (p : RPort) (line : List Chip) : RCtx :=
  if (portOf c.r p).cut then c
  else (c.upd (fun r => updPort r p (fun q =>
    { q with repUntil := c.now + 46, freeAt := max q.freeAt (c.now + 46 + 24 * 4) }))).emit (.rumbeRepeat c.dev p line)
/-- Put an urgent frame into a port's queue: four entries, a frame identical to a queued one dropped, the oldest kept
(06 R132). -/
def queueUrgent (q : PortSt) (u : UFrame) : PortSt :=
  if q.uq.any (fun v => v.bytes == u.bytes) || 4 ≤ q.uq.length then q else { q with uq := q.uq ++ [u] }
/-- An urgent frame goes on a port's line until `e`; a frame of the device's own in progress there is cut (06 R132). -/
def urgentOut (c : RCtx) (p : RPort) (e : Nat) (u : UFrame) : RCtx :=
  (c.upd (fun r => updPort r p (fun q =>
    { q with utx := some (e, u), tx := none, freeAt := max q.freeAt (e + 24 * 4) }))).emit (.rumbeUrgent c.dev p u.bytes)
/-- An urgent frame was on a port's line after `from`. -/
def urgentAfter (q : PortSt) (since : Nat) : Bool := match q.utx with | some (e, _) => decide (since < e) | none => false
/-- A received urgent frame, which began at `since`, is relayed out of a port. An urgent frame on the line there is preempted
by EOPEN alone, and if it is the device's own, waits; else, as where the port's receiver is busy, the new one waits if it
decodes, and is lost if it does not (06 R122, R129, R132, R147). -/
def relayUrgent (c : RCtx) (p : RPort) (since : Nat) (bs : List Byte) : RCtx :=
  let q := portOf c.r p
  let u : UFrame := { bytes := bs, own := false }
  let wait := fun (c : RCtx) => if urgentDecodes bs then c.upd (fun r => updPort r p (fun q => queueUrgent q u)) else c
  if q.cut then c
  else if urgentAfter q since then
    match q.utx with
    | some (_, v) =>
      if urgentDecodes bs && ucode bs = 1 && ucode v.bytes != 1 then
        urgentOut (if v.own then c.upd (fun r => updPort r p (fun q => queueUrgent q v)) else c) p (c.now + 46) u
      else wait c
    | none => c
  else if ucode bs != 1 && decide (since < q.rxEnd + 4) then wait c
  else urgentOut c p (c.now + 46) u
/-- An urgent frame of the device's own leaves a port: it breaks in on a frame of its own, and else waits for the urgent frame
on the line, for 24 bit cells of Z, and for one idle bit cell (06 R122, R126, R132, R147). -/
def sendUrgent (c : RCtx) (p : RPort) (bs : List Byte) : RCtx :=
  let q := portOf c.r p
  let u : UFrame := { bytes := bs, own := true }
  let breaks := match q.tx with | some x => decide (x.start ≤ c.now) && decide (c.now < x.till) | none => false
  if q.cut then c
  else if urgentAfter q c.now || (!breaks && decide (c.now < q.freeAt)) then
    c.upd (fun r => updPort r p (fun q => queueUrgent q u))
  else urgentOut c p (c.now + urgentTime) u
/-- An alarm frame of the device's own out of both ports (06 R147). -/
def sendAlarm (c : RCtx) (code : Nat) : RCtx :=
  let u := urgentSeal (leBytes 1 (code * 16 + 10) ++ leBytes 1 c.r.devId ++ leBytes 1 c.r.strId)
  sendUrgent (sendUrgent c .n u) .s u
/-- A port has received from `since` until now. What the device had on that line meanwhile has yielded: a frame of its own is
kept to go out again whole, an urgent one of its own but EOPEN waits (06 R122, R147). -/
def portHears (q : PortSt) (since now : Nat) : PortSt :=
  let q := match q.tx with
    | some x => if x.start < now + 4 && since < x.till then { q with tx := none, resend := some x.frame } else q
    | none => q
  let q := match q.utx with
    | some (e, v) => if since < e && ucode v.bytes != 1 then
        (let q := { q with utx := none }; if v.own then queueUrgent q v else q) else q
    | none => q
  { q with rxEnd := now, freeAt := max q.freeAt (now + 4) }

/-! ### Open requests and protection -/

/-- The gate state that the open requests of this very moment found (04 R92). -/
def gateWas (r : Rumbe) (now : Nat) : GateSt := if r.gate.openAt = some now then r.gate.openFrom else r.gate.st
/-- An open request decoded or asserted (04 R91, R92): from any other state, OPEN with the cause; in OPEN only a cause of
codes 5 to 10 replaces the recorded one. Of several causes at one moment the highest code is recorded. -/
def openReq (r : Rumbe) (cause now : Nat) : Rumbe :=
  let was := gateWas r now
  let top := if r.gate.openAt = some now then max r.gate.openCause cause else cause
  { r with gate := { r.gate with st := .open, target := .open, pchg := false, pchgOffAt := none, lowRun := 0,
                                 cause := if was = .open && decide (top < 5) then r.gate.cause else top,
                                 openAt := some now, openFrom := was, openCause := top,
                                 openTarget := if r.gate.openAt = some now then r.gate.openTarget else r.gate.target } }
/-- A head takes an alarm, its own or one received (06 R148): its moment is kept, and a protecting head raises and holds an open
request with cause 3. -/
def aspTake (r : Rumbe) (now : Nat) : Rumbe :=
  let r := { r with gate := { r.gate with aspAt := some now } }
  if r.head.headEn && r.aspEn then
    let r := openReq r 3 now
    { r with gate := { r.gate with aspHold := true } }
  else r
/-- Any cell alarm is asserted (03 Table 3-7). -/
def anyAlarm (r : Rumbe) : Bool := r.alarms.any (fun a => a.ov || a.uv)
/-- VAUX turns off after a failed attempt: a retry, or after the third retry the fault (04 R99). -/
def vauxFail (v : Vaux) (now : Nat) : Vaux :=
  if 3 ≤ v.retries then { v with st := .off, fault := true, low := false }
  else { v with st := .retryWait, since := now, low := false }
/-- A soft start from the first attempt (04 R98). -/
def vauxStart (v : Vaux) (now : Nat) : Vaux := { v with st := .softStart, since := now, retries := 0 }
/-- VAUX turned off at once and the retry count zeroed (04 R100). -/
def vauxStop (v : Vaux) : Vaux := { v with st := .off, retries := 0, low := false, mv := 0xFFFF }

/-! ### Steps due with a commit or an interval -/

/-- Set or clear one alarm of a cell. -/
def setAlarm (r : Rumbe) (cell : Nat) (k : AlarmKind) (on : Bool) : Rumbe :=
  { r with alarms := modAt r.alarms cell (fun a => match k with
      | .ov => { a with ov := on }
      | .uv => { a with uv := on }) }
/-- One due step happens, at the moment it fell due: an alarm asserts with its break-in, the end of balancing and the head's hold
(03 R64, 05 R116, 06 R147, R148) or clears; MEAS_FAULT latches; the MODID state changes; selection returns to HG; CAL_FROZEN
sets; CUR_FAULT latches. -/
def fireDue (c : RCtx) (d : RDue) : RCtx :=
  let at_ := min c.now c.r.dueAt
  let out := match d with
    | .assert cell k =>
      let c := { c with now := at_ }.upd (fun r => setAlarm r cell k true)
      let c := c.upd (fun r => { r with bal := balEndClear r.bal at_ 8 })
      let c := c.upd (fun r => aspTake r at_)
      (sendAlarm c 8).upd (fun r => { r with almSentAt := some at_ })
    | .clear cell k => c.upd (fun r => setAlarm r cell k false)
    | .measFault =>
      let c := { c with now := at_ }.upd (fun r => { r with measFault := true, bal := balEndClear r.bal at_ 8 })
      let c := c.upd (fun r => aspTake r at_)
      (sendAlarm c 9).upd (fun r => { r with measSentAt := some at_ })
    | .modid st => c.upd (fun r => { r with modid := some st })
    | .rangeHg => c.upd (fun r => { r with cur := { r.cur with lgState := false, lgCnt := 0 } })
    | .calFrozen => c.upd (fun r => { r with cur := { r.cur with calFrozen := true } })
    | .curFault => c.upd (fun r => { r with cur := { r.cur with curFault := true } })
  { out with now := c.now }
/-- Every due step happens, in order. -/
def fireAll (c : RCtx) : RCtx :=
  let ds := c.r.due
  ds.foldl fireDue (c.upd (fun r => { r with due := [] }))
/-- The row of one due step: it happens if it is due, and nothing does otherwise. -/
def fireOne (c : RCtx) (d : RDue) : RCtx :=
  if c.r.due.contains d then fireDue (c.upd (fun r => { r with due := r.due.erase d })) d else c

/-! ### Records -/

/-- Put a record into the buffer of four: it replaces the one with its SEQ, else the oldest (03 R72). -/
def putRecord (l : List (Nat × List Byte)) (seq : Nat) (b : List Byte) : List (Nat × List Byte) :=
  let l := l.filter (fun e => e.1 != seq)
  (l ++ [(seq, b)]).drop (l.length - 3)
/-- What a new sweep replaces becomes unavailable at its t_start (03 R57, R72): the record with its SEQ, else the oldest where
the records held and those of `due`, which have begun and not yet committed, are four. -/
def dropRecord (l : List (Nat × List Byte)) (due : List Nat) (seq : Nat) : List (Nat × List Byte) :=
  let m := l.filter (fun e => e.1 != seq)
  if m.length < l.length || due.contains seq || l.length + due.eraseDups.length < 4 then m else l.drop 1
/-- A NOT_SAMPLED record (03 R57): SEQ, SFLAGS with NOT_SAMPLED and HEAD on a head, zeros; a head's section holds only
HFLAGS and GATE_ST (04 R86). RANGE_LG and NO_ALIGN, which the spec gives for a sweep's I_ALIGN interval only, are 0 in it
(DESIGN CHOICE, log 158). -/
def notSampledRecord (r : Rumbe) (seq : Nat) : List Byte :=
  leBytes 2 seq ++ leBytes 2 (512 + b2n r.head.headEn * 256) ++ zeros 66
    ++ (if r.head.headEn then zeros 18
          ++ leBytes 2 (hflags r false
                (lgOvrNow r.cur) false)
          ++ zeros 6 ++ leBytes 1 (gateStByte r) ++ zeros 5
        else [])
/-- The record held for a SEQ, or a NOT_SAMPLED record for it (03 R72, R73). -/
def recordFor (r : Rumbe) (seq : Nat) : List Byte :=
  match r.records.find? (fun e => e.1 == seq) with
  | some e => e.2
  | none => notSampledRecord r seq
/-- NOT_SAMPLED records whose moment has come: the replaced entry goes at the would-be t_start, the record commits
120 microseconds later, and is then the last committed one (03 R57, 24 R534 0x0043). -/
def settleNotSampled (r : Rumbe) (now : Nat) : Rumbe :=
  let begun := r.notSampled.filter (fun s => s.start ≤ now)
  let kept := r.notSampled.filter (fun s => now < s.start + 120 * perUs)
  let fresh := begun.filter (fun s => !s.started)
  let done := begun.filter (fun s => s.start + 120 * perUs ≤ now)
  let due := (match r.sweep with | some s => [s.seq] | none => []) ++ (begun.filter (fun s => s.started)).map (fun s => s.seq)
  let (l, _) := fresh.foldl (fun (l, due) s => (dropRecord l due s.seq, due ++ [s.seq])) (r.records, due)
  let l := done.foldl (fun l s => putRecord l s.seq (notSampledRecord r s.seq)) l
  { r with records := l, sflags := if done.isEmpty then r.sflags else 512 + b2n r.head.headEn * 256,
           notSampled := kept.map (fun s => { s with started := decide (s.start ≤ now) }) }

end Sys2Proof.Machine
end

