-- ==== Sys2Proof/Machine/RumbeRegs.lean ====
section
/-! DEFINITION. The Rumbe registers (24.8): reading a word, and a REG_WRITE checked whole and then applied word by
word with the clamp rules of 03 Table 3-2, 04 Table 4-1, 05 Table 5-2 and 06 Table 6-8. -/

namespace Sys2Proof.Machine

/-- Chain position of a device: 32 times its pair plus its member number less one. -/
def devIndex (d : Dev) : Nat := d.pair.val * 32 + d.mem.val

/-- Word `i` of a value whose least significant word stands at the lowest address (24 R534). -/
def wordOf (v i : Nat) : Nat := v / 65536 ^ i % 65536
/-- A word of the transfer log entry `j` (24 R534 0x00A0 on). -/
def tlogWord (b : Bal) (j k : Nat) : Nat :=
  match b.log[j]? with
  | none => 0
  | some e =>
    if k = 0 then e.xferId
    else if k = 1 then e.cell + b2n e.out * 32 + e.cause * 256 + 32768
    else if k < 4 then wordOf (pattern 32 e.xferQ) (k - 2)
    else if k < 7 then wordOf (pattern 48 e.dQmb) (k - 4)
    else 0
/-- MODID_ST as byte 68 of a record, 0xFF before the first decode (03 R70). -/
def modidByte (r : Rumbe) : Nat :=
  match r.modid with
  | none => 0xFF
  | some st => st + b2n r.modidCand.isSome * 32
/-- The settings' words (24 R534, 0x0006 to 0x0033). -/
def settingWord (r : Rumbe) (a : Nat) : Option Nat :=
  match a with
  | 0x06 => some r.devId
  | 0x07 => some r.strId
  | 0x08 => some (b2n r.aspEn)
  | 0x09 => some r.tComm
  | 0x10 => some r.meas.nCells
  | 0x11 => some r.meas.ovTh
  | 0x12 => some r.meas.uvTh
  | 0x13 => some r.meas.almHys
  | 0x14 => some r.meas.almN
  | 0x15 => some r.meas.thEn
  | 0x16 => some r.meas.thBeta
  | 0x17 => some (wordOf r.meas.thMap0 0)
  | 0x18 => some (wordOf r.meas.thMap0 1)
  | 0x19 => some (wordOf r.meas.thMap1 0)
  | 0x1A => some (wordOf r.meas.thMap1 1)
  | 0x1B => some r.meas.thMap2
  | 0x20 => some (b2n r.head.headEn)
  | 0x21 => some (b2n r.head.drvContactor)
  | 0x22 => some r.head.shunt
  | 0x23 => some r.head.scdTh
  | 0x24 => some r.head.scdBlank
  | 0x25 => some (b2n r.head.dsatEn)
  | 0x26 => some (b2n r.head.pchgEn)
  | 0x27 => some r.head.pchgIdone
  | 0x28 => some r.head.pchgTmin
  | 0x29 => some r.head.pchgTmax
  | 0x2A => some (b2n r.head.vauxEn)
  | 0x30 => some (b2n r.balSet.en)
  | 0x31 => some r.balSet.nr
  | 0x32 => some r.balSet.rcs
  | 0x33 => some r.balSet.ipk
  | _ => none
/-- OFS_LG as reported, 10 nV, signed (04 Table 4-4). -/
def ofsWord (v : Int) : Nat := satPattern 16 (divRoundAway v 10)
/-- The live status words (24 R534, 0x0040 to 0x0056); a head-only word of a device that is no head reads its Reset
value, but for Q_CUM and N_CUM. -/
def statusWord (r : Rumbe) (d : Dev) (a : Nat) : Nat :=
  match a with
  | 0x40 => if r.head.headEn then
      hflags r r.cur.lastRangeLg (lgOvrNow r.cur) r.cur.lastNoAlign else 0
  | 0x41 => if r.head.headEn then gateStByte r + vauxStByte r * 256 else 0
  | 0x42 => b2n r.measFault + b2n r.bal.selFault * 2 + b2n r.bal.priOc * 4 + b2n r.gate.aspHold * 8
      + b2n (derated r.bal) * 16
  | 0x43 => r.sflags
  | 0x44 => modidByte r
  | 0x45 => balStByte r.bal + r.bal.queue.length * 256
  | 0x46 => tDieWord r.bal
  | 0x47 => if r.head.headEn then ofsWord r.cur.ofsLg else ofsWord (Config.ofsFactory (devIndex d))
  | 0x48 => if r.head.headEn then r.vaux.mv else 0xFFFF
  | 0x50 => wordOf (pattern 64 (qCum r)) 0
  | 0x51 => wordOf (pattern 64 (qCum r)) 1
  | 0x52 => wordOf (pattern 64 (qCum r)) 2
  | 0x53 => wordOf (pattern 64 (qCum r)) 3
  | 0x54 => wordOf r.cur.nCum 0
  | 0x55 => wordOf r.cur.nCum 1
  | 0x56 => if r.head.headEn then r.cur.rchg else 0
  | _ => 0
/-- One register word of a Rumbe (24 R532, R534); a word the table does not list reads 0x0000. -/
def regWord (r : Rumbe) (d : Dev) (a : Nat) : Nat :=
  match settingWord r a with
  | some v => v
  | none =>
    if a = 0 then 0x4D12
    else if a = 1 then Config.siStep (devIndex d) % 256
    else if a < 6 then wordOf (Config.rumbeSerial (devIndex d) % 2 ^ 64) (a - 2)
    else if a = 0x0A then b2n r.portN.cut + b2n r.portS.cut * 2
    else if a = 0x0B then r.jabCnt
    else if a = 0x0C then r.rxDrop
    else if a = 0x0D then r.crcErr
    else if a = 0x0E then (match r.lastCmd with | some l => l.fseq + l.type * 256 | none => 0)
    else if a = 0x1C then r.modidRef.getD 0xFF
    else if a < 0x60 then statusWord r d a
    else if a < 0x96 then wordOf (pattern 48 (r.bal.qb.getD ((a - 0x60) / 3) 0)) ((a - 0x60) % 3)
    else if a < 0x99 then wordOf (pattern 48 r.bal.qmb) (a - 0x96)
    else if a = 0x99 then r.bal.xferId
    else if a < 0x9C then wordOf (pattern 32 r.bal.xferQ) (a - 0x9A)
    else if a < 0xA0 then 0
    else if a < 0xC0 then tlogWord r.bal ((a - 0xA0) / 8) ((a - 0xA0) % 8)
    else 0
/-- `n` consecutive words taken at one instant (24 R532). -/
def regWords (r : Rumbe) (d : Dev) (a n : Nat) : List Nat := (List.range n).map (fun i => regWord r d (a + i))

/-- Width of a setting's field; bits above it are reserved, read zero and ignore writes (00 R8, 24 R534). -/
def settingBits (a : Nat) : Nat :=
  match a with
  | 0x06 => 6 | 0x07 => 6 | 0x08 => 1 | 0x09 => 7 | 0x10 => 5 | 0x13 => 11 | 0x14 => 4 | 0x15 => 8 | 0x16 => 13
  | 0x1B => 8 | 0x20 => 1 | 0x21 => 2 | 0x23 => 4 | 0x24 => 4 | 0x25 => 1 | 0x26 => 1 | 0x28 => 10 | 0x29 => 14
  | 0x2A => 1 | 0x30 => 1 | 0x31 => 10 | 0x32 => 10 | _ => 16
/-- The other word of a two-word setting (06 6.3, 24 R534). -/
def partnerWord (a : Nat) : Option Nat :=
  match a with
  | 0x17 => some 0x18 | 0x18 => some 0x17 | 0x19 => some 0x1A | 0x1A => some 0x19 | _ => none
/-- A word locked at this moment: HEAD_EN, DRV_MODE and SHUNT unless OPEN (04 R77); BAL_NR, BAL_RCS and BAL_IPK in CHECK
or RUN (05 R106). -/
def settingLocked (r : Rumbe) (a : Nat) : Bool :=
  if a = 0x20 || a = 0x21 || a = 0x22 then r.gate.st != .open
  else if a = 0x31 || a = 0x32 || a = 0x33 then balActive r.bal else false
/-- A thermistor map word with codes 0x8 to 0xE made 0xF (03 Table 3-2). -/
def mapWord (v : Nat) : Nat :=
  sumNat ((List.range 4).map (fun i => let n := v / 16 ^ i % 16; (if 8 ≤ n then 15 else n) * 16 ^ i))
/-- The value a setting takes for a written one: its clamp rule, seen against the values that hold (03 R58, 04 R77). -/
def settingClamp (r : Rumbe) (a v : Nat) : Nat :=
  match a with
  | 0x09 => clampNat 1 64 v
  | 0x10 => clampNat 6 18 v
  | 0x11 => max (clampNat 20000 50000 v) (r.meas.uvTh + 1000)
  | 0x12 => min (clampNat 0 40000 v) (r.meas.ovTh - 1000)
  | 0x13 => clampNat 0 2000 v
  | 0x14 => clampNat 1 8 v
  | 0x16 => clampNat 3000 4500 v
  | 0x17 | 0x18 | 0x19 | 0x1A => mapWord v
  | 0x1B => mapWord v % 256
  | 0x21 => if v < 2 then v else 0
  | 0x22 => clampNat 80 10000 v
  | 0x27 => clampNat 50 20000 v
  | 0x28 => clampNat 10 1000 v
  | 0x29 => max (clampNat 100 10000 v) (r.head.pchgTmin + 50)
  | 0x31 => clampNat 16 512 v
  | 0x32 => clampNat 20 1000 v
  | 0x33 => clampNat 500 8000 v
  | _ => v
/-- Setting HEAD_EN: the accumulators are zeroed, OFS_LG starts from its factory value, the modulators start, and VAUX
starts where VAUX_EN is 1 and no VAUX_FAULT is latched (04 R81, R83, R100, R538). What R82 counts goes on: only an updating
interval ends it. -/
def headSet (r : Rumbe) (d : Dev) (now : Nat) : Rumbe :=
  { r with head := { r.head with headEn := true },
           cur := { r.cur with running := true, settleAt := now + 250 * perUs, gridAt := none, lgState := false, lgCnt := 0,
                               ofsLg := Config.ofsFactory (devIndex d), sumV := 0, nCum := 0, qBase := 0, accReset := true,
                               lgOvr := lgOvrNow r.cur, last := none, prev := none },
           vaux := if r.head.vauxEn && !r.vaux.fault then vauxStart r.vaux now else r.vaux }
/-- Clearing HEAD_EN: the modulators stop, the interval in progress is discarded, VAUX is off (04 R75, R538). -/
def headClear (r : Rumbe) : Rumbe :=
  { r with head := { r.head with headEn := false },
           cur := { r.cur with running := false, gridAt := none },
           vaux := vauxStop r.vaux }
/-- A new SHUNT: the sum is folded into Q_BASE with the old one and zeroed (04 R83). -/
def shuntSet (r : Rumbe) (v : Nat) : Rumbe :=
  { r with cur := { r.cur with qBase := qCum r, sumV := 0 }, head := { r.head with shunt := v } }
/-- DEV_ID taken: MODID_REF follows the reported state (03 R70). -/
def devIdSet (r : Rumbe) (v : Nat) : Rumbe := { r with devId := v, modidRef := r.modid }
/-- VAUX_EN written (04 R98, R100). Set while VAUX_FAULT is latched, it starts nothing until the latch clears: the spec states
only that VAUX restarts then (DESIGN CHOICE, log 160). -/
def vauxEnSetTo (r : Rumbe) (on : Bool) (now : Nat) : Rumbe :=
  let h := { r.head with vauxEn := on }
  if on = r.head.vauxEn then r
  else if on then
    { r with head := h, vaux := if r.head.headEn && !r.vaux.fault then vauxStart r.vaux now else r.vaux }
  else { r with head := h, vaux := vauxStop r.vaux }
/-- BAL_EN written: clearing it ends the active transfer with STOP and keeps the queue (05 R108). -/
def balEnSetTo (r : Rumbe) (on : Bool) (now : Nat) : Rumbe :=
  { r with balSet := { r.balSet with en := on },
           bal := if r.balSet.en && !on then balEnd r.bal now 3 else r.bal }
/-- Store the applied value of one setting, with what taking it does at once. -/
def settingStore (r : Rumbe) (d : Dev) (now a v : Nat) : Rumbe :=
  match a with
  | 0x06 => devIdSet r v
  | 0x07 => { r with strId := v }
  | 0x08 => { r with aspEn := v != 0 }
  | 0x09 => { r with tComm := v, commAt := now }
  | 0x10 => { r with meas := { r.meas with nCells := v } }
  | 0x11 => { r with meas := { r.meas with ovTh := v } }
  | 0x12 => { r with meas := { r.meas with uvTh := v } }
  | 0x13 => { r with meas := { r.meas with almHys := v } }
  | 0x14 => { r with meas := { r.meas with almN := v } }
  | 0x15 => { r with meas := { r.meas with thEn := v } }
  | 0x16 => { r with meas := { r.meas with thBeta := v } }
  | 0x17 => { r with meas := { r.meas with thMap0 := wordOf r.meas.thMap0 1 * 65536 + v } }
  | 0x18 => { r with meas := { r.meas with thMap0 := v * 65536 + wordOf r.meas.thMap0 0 } }
  | 0x19 => { r with meas := { r.meas with thMap1 := wordOf r.meas.thMap1 1 * 65536 + v } }
  | 0x1A => { r with meas := { r.meas with thMap1 := v * 65536 + wordOf r.meas.thMap1 0 } }
  | 0x1B => { r with meas := { r.meas with thMap2 := v } }
  | 0x20 => if v = 0 then (if r.head.headEn then headClear r else r)
      else if r.head.headEn then r else headSet r d now
  | 0x21 => { r with head := { r.head with drvContactor := v != 0 } }
  | 0x22 => if v = r.head.shunt then r else shuntSet r v
  | 0x23 => { r with head := { r.head with scdTh := v } }
  | 0x24 => { r with head := { r.head with scdBlank := v } }
  | 0x25 => { r with head := { r.head with dsatEn := v != 0 } }
  | 0x26 => { r with head := { r.head with pchgEn := v != 0 } }
  | 0x27 => { r with head := { r.head with pchgIdone := v } }
  | 0x28 => { r with head := { r.head with pchgTmin := v } }
  | 0x29 => { r with head := { r.head with pchgTmax := v } }
  | 0x2A => vauxEnSetTo r (v != 0) now
  | 0x30 => balEnSetTo r (v != 0) now
  | 0x31 => { r with balSet := { r.balSet with nr := v } }
  | 0x32 => { r with balSet := { r.balSet with rcs := v } }
  | 0x33 => { r with balSet := { r.balSet with ipk := v } }
  | _ => r
/-- Words applied in ascending address order, each seeing what the lower ones have applied (24 R533): the device and
whether any word was changed. -/
def applyWords (d : Dev) (now : Nat) : Rumbe → Nat → List Nat → Rumbe × Bool
  | r, _, [] => (r, false)
  | r, a, v :: vs =>
    let w := v % 2 ^ settingBits a
    let x := settingClamp r a w
    let (r', ch) := applyWords d now (settingStore r d now a x) (a + 1) vs
    (r', ch || x != w)
/-- The words a REG_WRITE names that make it refused whole: not RW, half of a two-word setting, or a DEV_ID above 32
(24 R533). -/
def regWriteRefused (r : Rumbe) (a : Nat) (vs : List Nat) : Bool :=
  (List.range vs.length).any (fun i =>
    let w := a + i
    (settingWord r w).isNone
      || (match partnerWord w with | some p => decide (p < a) || decide (a + vs.length ≤ p) | none => false)
      || (w == 0x06 && decide (32 < vs.getD i 0 % 64)))
/-- A REG_WRITE: refused whole, locked whole, or applied (24 R533). Answer: STATUS and the words it returns. -/
def regWriteDo (r : Rumbe) (d : Dev) (now a : Nat) (vs : List Nat) : Rumbe × List Byte :=
  if regWriteRefused r a vs then (r, [0x03#8])
  else
    let back := fun (r : Rumbe) => (regWords r d a vs.length).flatMap (fun w => leBytes 2 w)
    if (List.range vs.length).any (fun i => settingLocked r (a + i)) then (r, 0x02#8 :: back r)
    else
      let (r', ch) := applyWords d now r a vs
      (r', (if ch then 0x01#8 else 0x00#8) :: back r')

end Sys2Proof.Machine
end

