-- ==== Sys2Proof/Machine/RumbeFrames.lean ====
section
/-! DEFINITION. What a Rumbe does with a frame it receives: repeating (06 R130 to R132), addressing (06 R133, R539),
duplicates (06 R139), t_comm (06 R156), and the command of each frame type and CONTROL code (06 Tables 6-3, 6-4). -/

namespace Sys2Proof.Machine

/-- The frame is addressed to this device: its DEV_ID, or hop count 1 (06 R133). -/
def addressed (r : Rumbe) (x : Rx) : Bool :=
  if x.pos then x.addr == 1 else decide (1 ≤ x.addr) && decide (x.addr ≤ 32) && (x.addr == r.devId)
/-- The frame is a broadcast (06 R133). -/
def broadcast (x : Rx) : Bool := x.addr == 0x3F
/-- Header and payload with ADDR of a DIR = 0 POSITIONAL frame from 1 to 32 gone down by one (06 R131). -/
def addrDown (x : Rx) (b : List Byte) : List Byte :=
  if !x.dir && x.pos && decide (1 ≤ x.addr) && decide (x.addr ≤ 32) then modAt b 1 (fun v => v - 1#8) else b
/-- The received line as it is repeated: ADDR as R131 has it, and what else `rw` rewrites. -/
def repeated (x : Rx) (rw : List Byte → List Byte) : List Chip := repeatLine x.line (fun b => rw (addrDown x b))
/-- Whether the frame is discarded unrepeated: an urgent frame being relayed, or the opposite port busy with a frame of the
device's own or of the neighbour's (06 R132). -/
def rxLost (c : RCtx) (x : Rx) : Bool × Bool :=
  let since := x.since c.now
  let q := portOf c.r (otherPort x.port)
  let onLine := urgentAfter q since
  let own := match q.utx with | some (_, v) => v.own | none => false
  let tx := match q.tx with | some k => decide (k.start < c.now) && decide (since < k.till) | none => false
  (onLine && !own, (tx || (onLine && own) || x.clash) && !q.cut)
/-- A RECORD with a collection's FSEQ that goes by whole, towards where the device's own will go, is counted (06 R144). -/
def collectCount (c : RCtx) (x : Rx) : RCtx :=
  c.upd (fun r => { r with collect := r.collect.map (fun k =>
    if x.type = 4 && x.dir && x.crcOk && x.whole && k.fseq = x.fseq && k.port = otherPort x.port then
      { k with count := k.count + 1, lastAt := c.now } else k) })
/-- A received frame: ignored asleep or on a cut port, and discarded where a code violation aborts it; what the device had on
that line has yielded; with a good CRC from Broros it restarts t_comm, be it then taken, repeated or discarded; discarded
while an urgent frame is relayed; discarded and counted where the opposite port is busy; repeated out of the other port unless
the jabber guard has cut in; counted in CRC_ERR and not acted on where it is bad; else `act` is what its type does (06 R120,
R122, R130 to R132, R154, R156). -/
def rxFrame (c : RCtx) (x : Rx) (type : Nat) (rw : List Byte → List Byte) (act : RCtx → RCtx) : RCtx :=
  if c.r.asleep || (portOf c.r x.port).cut then c
  else
    let c := fireAll (c.upd (fun r => settleNotSampled r c.now))
    if !x.isFrame type then c
    else
      let c := c.upd (fun r => updPort r x.port (fun q => portHears q (x.since c.now) c.now))
      let good := x.crcOk && x.whole
      let c := if good && !x.dir then c.upd (fun r => { r with commAt := c.now }) else c
      let (urgent, busy) := rxLost c x
      if urgent then c
      else if busy then c.upd (fun r => { r with rxDrop := (r.rxDrop + 1) % 65536 })
      else
        let c := if (portOf c.r x.port).jab then c else collectCount (sendRepeat c (otherPort x.port) (repeated x rw)) x
        if !good then c.upd (fun r => { r with crcErr := (r.crcErr + 1) % 65536 })
        else if x.dir then c
        else act c
/-- When the response to a command starts: 2.0 to 4.0 microseconds after the command's last chip has arrived, or with RET = 0
has left the repeating output (06 R130; which of them the part takes is open, log 161). -/
def responseAt (c : RCtx) (x : Rx) : Nat :=
  c.now + (if x.ret then 0 else 46) + clampNat 96 192 (Config.responseDelay (devIndex c.dev) x.fseq)
/-- The response to a command: out of the opposite port with RET = 0, of the arrival port with RET = 1 (06 R130, R133). -/
def respond (c : RCtx) (x : Rx) (type : Nat) (payload : List Byte) : RCtx :=
  sendOwn c (if x.ret then x.port else otherPort x.port) (responseAt c x)
    { type := type, dir := true, pos := false, ret := x.ret, addr := c.r.devId, fseq := x.fseq, payload := payload }
/-- A command of type `type`: its addressee answers BAD_FRAME where LEN does not match, sends the stored response again
where FSEQ and TYPE repeat, and else executes it and keeps the response; a broadcast, where allowed, executes it in silence
(06 R127, R138, R139, R539). `run` gives the response's type and bytes. -/
def command (c : RCtx) (x : Rx) (type : Nat) (bc lenOk : Bool) (run : RCtx → RCtx × Nat × List Byte) : RCtx :=
  if addressed c.r x then
    if !lenOk then respond c x 8 [0x06#8]
    else
      match c.r.lastCmd with
      | some l =>
        if l.fseq = x.fseq && l.type = type then respond c x l.respType l.resp
        else
          let (c, rt, bs) := run c
          let c := if bs = [0x06#8] then c
            else c.upd (fun r => { r with lastCmd := some { fseq := x.fseq, type := type, respType := rt, resp := bs } })
          respond c x rt bs
      | none =>
        let (c, rt, bs) := run c
        let c := if bs = [0x06#8] then c
          else c.upd (fun r => { r with lastCmd := some { fseq := x.fseq, type := type, respType := rt, resp := bs } })
        respond c x rt bs
  else if broadcast x && bc && lenOk then (run c).1
  else c

/-! ### Sweep triggers -/

/-- The idle window of a trigger whose start delimiter was decoded at `since`: no new cycle from then until 80 microseconds after
its t_start (05 R113). -/
def holdBal (b : Bal) (since start : Nat) : Bal :=
  { b with holdUntil := some (match b.holdUntil with | some u => max u (start + 80 * perUs) | none => start + 80 * perUs),
           holdFrom := if b.holdUntil.isSome then b.holdFrom else since }
/-- A sweep trigger of the frame `x` taken: t_start is t_SO after the frame's end; a trigger before the sweep in progress has
committed, or less than 120 microseconds after the last t_start, starts none and leads to a NOT_SAMPLED record (03 R55,
R57). -/
def takeTrigger (c : RCtx) (x : Rx) (seq : Nat) (addr : Bool) : RCtx :=
  let start := c.now + 2 * perUs
  let recent := match c.r.lastStart with | some u => decide (c.now < u + 120 * perUs) | none => false
  c.upd (fun r =>
    let r := { r with bal := holdBal r.bal (x.since c.now + 24 * 4) start }
    if r.sweep.isSome || r.trig.isSome || recent then
      { r with notSampled := r.notSampled ++ [{ seq := seq, start := start }] }
    else { r with trig := some { seq := seq, start := start, addrTrig := addr } })
/-- SWEEP (06 Table 6-3, R142). -/
def rxSweep (c : RCtx) (x : Rx) : RCtx :=
  rxFrame c x 1 id (fun c =>
    if broadcast x && x.payload.length == 2 then takeTrigger c x (leAt x.payload 0 2) false else c)
/-- LATE_SWEEP: POSITIONAL with a count of 1 to 32 starts a sweep; every other form is only repeated (06 R149, R539). -/
def rxLateSweep (c : RCtx) (x : Rx) : RCtx :=
  rxFrame c x 2 id (fun c =>
    if x.pos && decide (1 ≤ x.addr) && decide (x.addr ≤ 32) && x.payload.length == 2 then
      takeTrigger c x (leAt x.payload 0 2) true
    else c)
/-- COUNT of a COLLECT goes up by one in flight, saturating (06 R131). -/
def countUp (x : Rx) (b : List Byte) : List Byte :=
  if x.dir || lineLen x.line != 3 then b else modAt b 6 (fun v => if v = 0xFF#8 then v else v + 1#8)
/-- COLLECT: the device takes position COUNT + 1 and copies its record (06 R131, R144, 03 R73). -/
def rxCollect (c : RCtx) (x : Rx) : RCtx :=
  rxFrame c x 3 (countUp x) (fun c =>
    if broadcast x && x.payload.length == 3 then
      c.upd (fun r => { r with collect := some {
          pos := byteAt x.payload 2 + 1, fseq := x.fseq, ret := x.ret, port := if x.ret then x.port else otherPort x.port,
          bytes := recordFor r (leAt x.payload 0 2), lastAt := c.now } })
    else c)
/-- NEXT_ID + 1, as a device that takes NEXT_ID forwards it (06 R134). -/
def nextIdUp (takes : Bool) (b : List Byte) : List Byte := if takes then modAt b 4 (fun v => v + 1#8) else b
/-- ENUMERATE: a device with DEV_ID 0 forwards NEXT_ID + 1 and takes NEXT_ID where the CRC passes (06 R134). -/
def rxEnumerate (c : RCtx) (x : Rx) : RCtx :=
  let n := byteAt x.payload 0
  let takes := !x.dir && broadcast x && x.payload.length == 1 && c.r.devId == 0 && decide (1 ≤ n) && decide (n ≤ 32)
  rxFrame c x 9 (nextIdUp takes) (fun c => if takes then c.upd (fun r => devIdSet r n) else c)
/-- A frame that is repeated and no more: a reserved type, or a response from another Rumbe (06 R127, R130). -/
def onlyRepeated (type : Nat) : Bool := type == 0 || type == 4 || type == 8 || decide (13 ≤ type)
/-- RESERVED_FRAME, and the responses of other Rumbes (06 R127, R130). -/
def rxRepeatOnly (c : RCtx) (x : Rx) : RCtx := if onlyRepeated x.type then rxFrame c x x.type id id else c
/-- READ_RECORD (03 R72, R73). -/
def rxReadRecord (c : RCtx) (x : Rx) : RCtx :=
  rxFrame c x 5 id (fun c =>
    command c x 5 false (x.payload.length == 2) (fun c => (c, 4, recordFor c.r (leAt x.payload 0 2))))
/-- REG_READ: every word taken at the decode; a count outside 1 to 119 is declined (24 R532, 06 R140). -/
def rxRegRead (c : RCtx) (x : Rx) : RCtx :=
  rxFrame c x 6 id (fun c =>
    command c x 6 false (x.payload.length == 3) (fun c =>
      let n := byteAt x.payload 2
      if n = 0 || 119 < n then (c, 8, [0x03#8])
      else (c, 8, 0x00#8 :: (regWords c.r c.dev (leAt x.payload 0 2) n).flatMap (fun w => leBytes 2 w))))
/-- The words of a REG_WRITE payload. -/
def writeWords (pl : List Byte) : List Nat := (List.range ((pl.length - 2) / 2)).map (fun i => leAt pl (2 + 2 * i) 2)
/-- LEN of a REG_WRITE: two bytes and 1 to 119 words (06 Table 6-3). -/
def writeLenOk (pl : List Byte) : Bool := decide (4 ≤ pl.length) && decide (pl.length ≤ 240) && pl.length % 2 == 0
/-- REG_WRITE (24 R533); as a broadcast it is applied with no ACK. -/
def rxRegWrite (c : RCtx) (x : Rx) : RCtx :=
  rxFrame c x 7 id (fun c =>
    command c x 7 true (writeLenOk x.payload) (fun c =>
      let (r, bs) := regWriteDo c.r c.dev c.now (leAt x.payload 0 2) (writeWords x.payload)
      ({ c with r := r }, 8, bs)))
/-- The value a REG_WRITE carries for word `a`, if it names it. -/
def writeValue (x : Rx) (a : Nat) : Option Nat :=
  let b := leAt x.payload 0 2
  if writeLenOk x.payload && decide (b ≤ a) then (writeWords x.payload)[a - b]? else none
/-- A REG_WRITE that this device takes and applies (24 R533). -/
def writeTakes (r : Rumbe) (x : Rx) : Bool :=
  let a := leAt x.payload 0 2
  let ws := writeWords x.payload
  x.isFrame 7 && !x.dir && x.crcOk && x.whole && writeLenOk x.payload && (addressed r x || broadcast x) && !regWriteRefused r a ws
    && !(List.range ws.length).any (fun i => settingLocked r (a + i))

/-! ### GATE, BALANCE, CONTROL -/

/-- GATE OPEN: OK always; a head not in OPEN opens with cause 1 (04 R75, R88, Table 4-7). -/
def gateOpenDo (c : RCtx) : RCtx × Nat × List Byte :=
  let c := if c.r.head.headEn then c.upd (fun r => openReq r 1 c.now) else c
  (c, 8, 0x00#8 :: leBytes 1 (gateStByte c.r))
/-- PRECHARGE, with the settings of the next CLOSE (04 R88, Table 4-1). -/
def enterPrecharge (r : Rumbe) (now : Nat) : Rumbe :=
  { r with gate := { r.gate with st := .precharge, target := .closed, pchg := true, enteredAt := now, lowRun := 0,
                                 idone := r.head.pchgIdone, tmin := r.head.pchgTmin, tmax := r.head.pchgTmax } }
/-- RAMP toward a state (04 R88). -/
def enterRamp (r : Rumbe) (now : Nat) (target : GateSt) : Rumbe :=
  { r with gate := { r.gate with st := .ramp, target := target, enteredAt := now, dsat := r.head.dsatEn } }
/-- CLOSE, CHG_ONLY or DSG_ONLY: refused on a device that is no head, while a latch is set or a protection hold stands, in
PRECHARGE or RAMP, from another conducting state, and where an open request has come at this very moment (04 R75, R88,
R91). -/
def gateMoveDo (target : GateSt) (c : RCtx) : RCtx × Nat × List Byte :=
  let refuse := fun (c : RCtx) => (c, 8, 0x03#8 :: leBytes 1 (gateStByte c.r))
  let ok := fun (c : RCtx) => (c, 8, 0x00#8 :: leBytes 1 (gateStByte c.r))
  if !c.r.head.headEn || gateLatched c.r || c.r.gate.aspHold || c.r.gate.openAt == some c.now then refuse c
  else if c.r.gate.st = target then ok c
  else if c.r.gate.st ≠ .open then refuse c
  else if target = .closed && c.r.head.pchgEn then ok (c.upd (fun r => enterPrecharge r c.now))
  else ok (c.upd (fun r => enterRamp r c.now target))
/-- A GATE frame whose CODE this row executes. A CODE outside the table is answered BAD_FRAME; one that is another row's is
no step of this row. -/
def rxGate (c : RCtx) (x : Rx) (code : Nat) (run : RCtx → RCtx × Nat × List Byte) : RCtx :=
  let k := byteAt x.payload 0
  if x.payload.length = 1 && k < 4 && k ≠ code then c
  else rxFrame c x 0xA id (fun c =>
    command c x 0xA (k = 0) (x.payload.length == 1) (fun c => if 3 < k then (c, 8, [0x06#8]) else run c))
/-- One schedule entry: refused for a cell or a direction, faulted while a latch is set, full, or queued with the values
applied (05 R105, R118). Answer: its status and the applied I_SET, Q_TGT, T_MAX. Left open by the spec (DESIGN CHOICE, log
162): a bad cell or direction that also meets a full queue is REFUSED, not QUEUE_FULL; an entry that is not queued returns
the values it would have had. -/
def balEntryDo (r : Rumbe) (b : List Byte) : Rumbe × Nat × List Byte :=
  let cell := byteAt b 0
  let dir := byteAt b 1
  let i := clampNat 100 2000 (leAt b 2 2)
  let q := clampNat 1000 2000000000 (leAt b 4 4)
  let t := clampNat 1 1000 (leAt b 8 2)
  let bytes := leBytes 2 i ++ leBytes 4 q ++ leBytes 2 t
  if r.bal.selFault || r.bal.priOc then (r, 4, bytes)
  else if cell = 0 || r.meas.nCells < cell || 1 < dir then (r, 3, bytes)
  else if 4 ≤ r.bal.queue.length then (r, 5, bytes)
  else
    ({ r with bal := { r.bal with queue := r.bal.queue ++ [{ cell := cell, out := dir = 1, iSet := i, qTgt := q, tMax := t }] } },
     if i = leAt b 2 2 && q = leAt b 4 4 && t = leAt b 8 2 then 0 else 1, bytes)
/-- Entries in order, with their statuses and answers. -/
def balEntriesDo (pl : List Byte) : Nat → Nat → Rumbe → Rumbe × List Nat × List Byte
  | 0, _, r => (r, [], [])
  | n + 1, i, r =>
    let (r, st, bs) := balEntryDo r (sliceAt pl (2 + 10 * i) 10)
    let (r, sts, rest) := balEntriesDo pl n (i + 1) r
    (r, st :: sts, leBytes 1 st ++ bs ++ rest)
/-- STATUS of a BALANCE acknowledgement: OK or CLAMPED where every entry is queued; the common one where all agree; else
one of the entries' (log 15). -/
def balStatus (sts : List Nat) : Nat :=
  if sts.all (fun s => s < 2) then maxNat sts
  else if sts.all (fun s => s == sts.getD 0 0) then sts.getD 0 0
  else sts.getD (Config.balMixed sts % sts.length) 0
/-- BALANCE: REPLACE first ends the active transfer with REPLACED and empties the queue (05 R105). -/
def balanceDo (pl : List Byte) (c : RCtx) : RCtx × Nat × List Byte :=
  let c := if natBit (byteAt pl 0) 0 then c.upd (fun r => { r with bal := balEndClear r.bal c.now 4 }) else c
  let (r, sts, bs) := balEntriesDo pl (byteAt pl 1) 0 c.r
  ({ c with r := r }, 8, leBytes 1 (balStatus sts) ++ leBytes 1 r.bal.queue.length ++ bs)
/-- LEN of a BALANCE frame: MODE, COUNT of 1 to 4, entries of 10 bytes (06 Table 6-3). -/
def balLenOk (pl : List Byte) : Bool :=
  decide (1 ≤ byteAt pl 1) && decide (byteAt pl 1 ≤ 4) && pl.length == 2 + 10 * byteAt pl 1
/-- A BALANCE frame of the given MODE bit. -/
def rxBalance (c : RCtx) (x : Rx) (replace : Bool) : RCtx :=
  if balLenOk x.payload && natBit (byteAt x.payload 0) 0 != replace then c
  else rxFrame c x 0xB id (fun c =>
    command c x 0xB false (balLenOk x.payload) (balanceDo x.payload))
/-- CONTROL codes that a broadcast may carry (06 Table 6-4). -/
def controlBroadcast (code : Nat) : Bool := code == 1 || code == 3 || code == 5 || code == 9 || code == 0xA
/-- A CONTROL frame whose CODE this row executes; `argOk` is what R128 allows for ARG. -/
def rxControl (c : RCtx) (x : Rx) (code : Nat) (argOk : Nat → Bool) (run : Nat → RCtx → RCtx × Nat) : RCtx :=
  let k := byteAt x.payload 0
  let arg := byteAt x.payload 1
  if x.payload.length = 2 && 1 ≤ k && k ≤ 0xA && k ≠ code then c
  else rxFrame c x 0xC id (fun c =>
    command c x 0xC (controlBroadcast k && argOk arg) (x.payload.length == 2) (fun c =>
      if k ≠ code || !argOk arg then (c, 8, [0x06#8])
      else let (c, st) := run arg c; (c, 8, leBytes 1 st)))
/-- BAL_STOP: the active transfer ends with STOP and the queue empties (05 R108). -/
def balStopDo (c : RCtx) : RCtx × Nat := (c.upd (fun r => { r with bal := balEndClear r.bal c.now 3 }), 0)
/-- FAULT_CLEAR: the eight latches clear; VAUX restarts where VAUX_EN is 1 (06 Table 6-4, 04 R92, R100, 05 R118). The run of
R82 goes on: only an updating interval at or below 200 microvolts resets it. -/
def faultClearDo (c : RCtx) : RCtx × Nat :=
  (c.upd (fun r =>
    let restart := r.vaux.fault && r.head.vauxEn && r.head.headEn
    let v := { r.vaux with fault := false }
    { r with gate := { r.gate with scTrip := false, rampFault := false, pchgFault := false, pumpUv := false },
             cur := { r.cur with curFault := false },
             bal := { r.bal with selFault := false, priOc := false },
             vaux := if restart then vauxStart v c.now else v }), 0)
/-- SOFT_RESET: due 10 microseconds after the ACK, or after the frame's end for a broadcast (06 Table 6-4, R128). -/
def softResetDo (bc : Bool) (c : RCtx) : RCtx × Nat :=
  (c.upd (fun r => { r with softAt := some (c.now + 10 * perUs + if bc then 0 else 2 * perUs + frameTime 1) }), 0)
/-- MODID_ACK (03 R70). -/
def modidAckDo (c : RCtx) : RCtx × Nat := (c.upd (fun r => { r with modidRef := r.modid }), 0)
/-- CLEAR_ID (06 Table 6-4). -/
def clearIdDo (c : RCtx) : RCtx × Nat := (c.upd (fun r => { r with devId := 0 }), 0)
/-- What holds a protection hold: an own alarm, MEAS_FAULT, or an alarm of R148 in the last 250 ms. -/
def aspBlocked (r : Rumbe) (now : Nat) : Bool :=
  anyAlarm r || r.measFault || (match r.gate.aspAt with | some a => decide (now < a + 250 * perMs) | none => false)
/-- ASP_RELEASE (06 R148). -/
def aspReleaseDo (c : RCtx) : RCtx × Nat :=
  if aspBlocked c.r c.now then (c, 3)
  else (c.upd (fun r => { r with gate := { r.gate with aspHold := false } }), 0)
/-- The port a PORT_CUT or PORT_RESTORE names (06 Table 6-4). -/
def argPort (arg : Nat) : RPort := if arg = 0 then .n else .s
/-- PORT_CUT and PORT_RESTORE (06 R155). -/
def portCutDo (cut : Bool) (arg : Nat) (c : RCtx) : RCtx × Nat :=
  (c.upd (fun r => updPort r (argPort arg) (fun q => { q with cut := cut })), 0)
/-- SLEEP: a head not in OPEN opens with cause 1; the device sleeps 100 microseconds after the frame's end (06 R157). -/
def sleepDo (c : RCtx) : RCtx × Nat :=
  (c.upd (fun r =>
    let r := if r.head.headEn then openReq r 1 c.now else r
    { r with sleepAt := some (c.now + 100 * perUs) }), 0)

/-! ### Urgent frames -/

/-- A received urgent frame: ignored asleep or on a cut port; what the device had on that line has yielded; relayed out of the
other port unless the jabber guard has cut in; where it decodes, codes 0x1 to 0x7 restart t_comm and `act` is what its code does
(06 R120, R122, R129, R132, R154, R156). -/
def rxUrgent (c : RCtx) (u : URx) (act : RCtx → RCtx) : RCtx :=
  if c.r.asleep || (portOf c.r u.port).cut then c
  else
    let c := fireAll (c.upd (fun r => settleNotSampled r c.now))
    let bs := u.bytes
    if !urgentFound bs then c
    else
      let since := c.now - lineTime u.line
      let c := c.upd (fun r => updPort r u.port (fun q => portHears q since c.now))
      let c := if (portOf c.r u.port).jab then c else relayUrgent c (otherPort u.port) since bs
      if byteAt bs 0 % 16 ≠ 10 then c
      else if !urgentCrcOk bs then c.upd (fun r => { r with crcErr := (r.crcErr + 1) % 65536 })
      else act (if 1 ≤ ucode bs && ucode bs ≤ 7 then c.upd (fun r => { r with commAt := c.now }) else c)
/-- An urgent frame of the row's code; another defined code is no step of this row. -/
def rxUrgentCode (c : RCtx) (u : URx) (code : Nat) (act : RCtx → RCtx) : RCtx :=
  if ucode u.bytes ≠ code then c else rxUrgent c u act
/-- EOPEN: a head opens with cause 2; every member ends balancing with EOPEN (06 Table 6-6). -/
def eopenDo (c : RCtx) : RCtx :=
  let c := c.upd (fun r => if r.head.headEn then openReq r 2 c.now else r)
  c.upd (fun r => { r with bal := balEndClear r.bal c.now 11 })
/-- STR_OPEN: a head with that STR_ID opens with cause 2 (06 Table 6-6). -/
def strOpenDo (arg : Nat) (c : RCtx) : RCtx :=
  c.upd (fun r => if r.head.headEn && r.strId == arg then openReq r 2 c.now else r)
/-- ALARM_CELL and ALARM_MEAS: a protecting head takes one for its STR_ID or for 0 (06 R148). -/
def alarmRxDo (arg : Nat) (c : RCtx) : RCtx :=
  c.upd (fun r => if arg = r.strId || arg = 0 then aspTake r c.now else r)

end Sys2Proof.Machine
end

