-- ==== Sys2Proof/Machine/RumbeEvents.lean ====
section
/-! DEFINITION. What happens in a Rumbe without a frame: sweeps and their commit (03), the current channel (04 4.2 to
4.4), gates, trips and VAUX (04 4.5 to 4.8), transfers (05), own transmissions, sleep and wake (06). -/

namespace Sys2Proof.Machine

/-- What has fallen due at this device happens before anything else does. -/
def settle (c : RCtx) : RCtx := fireAll (c.upd (fun r => settleNotSampled r c.now))
/-- A step that happens only while its condition holds. -/
def rumbeEvent (c : RCtx) (guard : Rumbe → Bool) (act : RCtx → RCtx) : RCtx :=
  let c := settle c
  if guard c.r then act c else c

/-! ### Power-on, reset, sleep -/

/-- The device after POR: every field at its Reset value (00 R12, 24 R534). -/
def rumbeAfterPor (d : Dev) (now : Nat) : Rumbe :=
  { cur := { ofsLg := Config.ofsFactory (devIndex d) }, commAt := now }
/-- The device after SOFT: as POR, with DEV_ID kept (00 R12). -/
def rumbeAfterSoft (r : Rumbe) (d : Dev) (now : Nat) : Rumbe := { rumbeAfterPor d now with devId := r.devId }
/-- RUMBE_POR (00 R12). -/
def porDo (c : RCtx) : RCtx := { c with r := rumbeAfterPor c.dev c.now }
/-- A port still sends on a frame that came in on the other: a repeat, or an urgent frame relayed (06 R128). -/
def passingOn (q : PortSt) (now : Nat) : Bool :=
  decide (now < q.repUntil) || (match q.utx with | some (e, v) => decide (now < e) && !v.own | none => false)
/-- SOFT_RESET_EXECUTE: due, and no repeat or relay in progress: neither one whose frame has ended, nor, as `repeating` says, one
of a frame still coming in (06 R128). -/
def softDo (repeating : Bool) (c : RCtx) : RCtx :=
  rumbeEvent c (fun r => (match r.softAt with | some u => decide (u ≤ c.now) | none => false)
      && !repeating && !passingOn r.portN c.now && !passingOn r.portS c.now)
    (fun c => { c with r := rumbeAfterSoft c.r c.dev c.now })
/-- T_COMM_EXPIRY: balancing ends first, a head opens with cause 4, the device sleeps 100 microseconds later (05 R117,
06 R156). The timer holds T_COMM within 5 % (06 R137). -/
def commExpireDo (c : RCtx) : RCtx :=
  rumbeEvent c (fun r => !r.asleep && r.sleepAt.isNone && decide (r.commAt + r.tComm * 11400000 ≤ c.now))
    (fun c => c.upd (fun r =>
      let r := { r with bal := balEndClear r.bal c.now 12 }
      let r := if r.head.headEn then openReq r 4 c.now else r
      { r with sleepAt := some (c.now + 100 * perUs) }))
/-- SLEEP_ENTER: due, and any sweep in progress has committed; a transfer ends with COMM_LOSS (05 R117, 06 R157). -/
def sleepEnterDo (c : RCtx) : RCtx :=
  rumbeEvent c (fun r => (match r.sleepAt with | some u => decide (u ≤ c.now) | none => false)
      && r.sweep.isNone && r.trig.isNone)
    (fun c => c.upd (fun r =>
      { r with bal := balEndClear r.bal c.now 12, asleep := true, sleepAt := none, wakeAt := none }))
/-- WAKE_DETECT: on a port that is not cut; 250 microseconds of preamble go out of the other port (06 R158). -/
def wakeDetectDo (p : RPort) (c : RCtx) : RCtx :=
  rumbeEvent c (fun r => r.asleep && r.wakeAt.isNone && !(portOf r p).cut)
    (fun c =>
      let c := c.upd (fun r => { r with wakeAt := some c.now })
      if (portOf c.r (otherPort p)).cut then c else c.emit (.rumbePreamble c.dev (otherPort p)))
/-- WAKE_READY: 3 ms later; t_comm restarts and the next sweep sets WOKE (06 R158, 03 Table 3-7). -/
def wakeReadyDo (c : RCtx) : RCtx :=
  rumbeEvent c (fun r => match r.wakeAt with | some w => decide (w + 3 * perMs ≤ c.now) | none => false)
    (fun c => c.upd (fun r => { r with asleep := false, wakeAt := none, commAt := c.now, woke := true }))

/-! ### Own transmissions -/

/-- The moment of RECORD_SEND has come: 2.0 microseconds after p - 1 RECORD frames with the COLLECT's FSEQ have been repeated, or
10 microseconds of idle input after the last of them or after the COLLECT (06 R144). A repeat leaves 0.90 to 0.95 microsecond
after its receipt. -/
def collectDue (k : CollectTx) (inPort : PortSt) (now : Nat) : Bool :=
  if k.pos ≤ k.count + 1 then decide (k.lastAt + 43 + 24 * 4 ≤ now) else decide (max k.lastAt inPort.rxEnd + 480 ≤ now)
/-- RECORD_SEND (06 R144). -/
def recordSendDo (c : RCtx) : RCtx :=
  rumbeEvent c (fun r => !r.asleep
      && (match r.collect with | some k => collectDue k (portOf r (otherPort k.port)) c.now | none => false))
    (fun c =>
      match c.r.collect with
      | some k =>
        let c := c.upd (fun r => { r with collect := none })
        sendOwn c k.port c.now
          { type := 4, dir := true, ret := k.ret, addr := c.r.devId, fseq := k.fseq, payload := k.bytes }
      | none => c)
/-- A frame may start on the port: no urgent frame on the line, 24 bit cells of Z since the device's last, and the receiver idle
for a bit cell, as far as the frames received tell, and, for one still coming in, as `idle` says (06 R122, R126). -/
def portFree (q : PortSt) (now : Nat) (idle : Bool) : Bool := idle && !urgentAfter q now && decide (q.freeAt ≤ now)
/-- URGENT_QUEUE_SEND: the oldest waiting frame; an EOPEN does not wait for the receiver (06 R122, R132, R147). -/
def urgentQueueDo (p : RPort) (idle : Bool) (c : RCtx) : RCtx :=
  rumbeEvent c (fun r => !r.asleep && !(portOf r p).cut
      && (match (portOf r p).uq with
        | u :: _ => if ucode u.bytes = 1 then !urgentAfter (portOf r p) c.now else portFree (portOf r p) c.now idle
        | [] => false))
    (fun c =>
      match (portOf c.r p).uq with
      | u :: us => urgentOut (c.upd (fun r => updPort r p (fun q => { q with uq := us }))) p (c.now + urgentTime) u
      | [] => c)
/-- FRAME_RESEND: a frame that yielded goes out again, whole (06 R122). -/
def frameResendDo (p : RPort) (idle : Bool) (c : RCtx) : RCtx :=
  rumbeEvent c (fun r => !r.asleep && !(portOf r p).cut && portFree (portOf r p) c.now idle && (portOf r p).resend.isSome)
    (fun c =>
      match (portOf c.r p).resend with
      | some f => sendOwn (c.upd (fun r => updPort r p (fun q => { q with resend := none }))) p c.now f
      | none => c)
/-- JABBER_CUT at a Rumbe port (06 R154). -/
def jabCutDo (p : RPort) (c : RCtx) : RCtx :=
  rumbeEvent c (fun r => !(portOf r p).jab)
    (fun c => c.upd (fun r => { updPort r p (fun q => { q with jab := true }) with jabCnt := (r.jabCnt + 1) % 65536 }))
/-- JABBER_RESUME at a Rumbe port (06 R154). -/
def jabResumeDo (p : RPort) (c : RCtx) : RCtx :=
  rumbeEvent c (fun r => (portOf r p).jab)
    (fun c => c.upd (fun r => updPort r p (fun q => { q with jab := false })))

/-! ### Sweeps -/

/-- SWEEP_START: settings latched, alarms above N_CELLS cleared, the replaced record gone (03 R53 Edges, R55, R56, R72). -/
def sweepStartDo (c : RCtx) : RCtx :=
  rumbeEvent c (fun r => !r.asleep && (match r.trig with | some s => decide (s.start ≤ c.now + 5) | none => false))
    (fun c => c.upd (fun r =>
      match r.trig with
      | some s =>
        { r with trig := none, sweep := some { s with start := c.now }, latched := r.meas, lastStart := some c.now,
                 records := dropRecord r.records ((r.notSampled.filter (fun s => s.started)).map (fun s => s.seq)) s.seq,
                 alarms := r.alarms.take r.meas.nCells ++ List.replicate (18 - r.meas.nCells) {},
                 bal := holdBal r.bal c.now c.now }
      | none => r))

/-- One count of an alarm over one sweep: advanced or reset; at ALM_N it restarts and the alarm changes (03 R62). -/
def alarmCount (advance : Bool) (cnt n : Nat) : Nat × Bool :=
  if advance then (if n ≤ cnt + 1 then (0, true) else (cnt + 1, false)) else (0, false)
/-- Both alarms of cell `i` over one sweep: the counts, and the changes that are due (03 R62). -/
def alarmStep (s : MeasSet) (i : Nat) (v : Int) (a : CellAlarm) : CellAlarm × List RDue :=
  let (oc, oh) := alarmCount (if a.ov then decide (v + s.almHys < s.ovTh) else decide ((s.ovTh : Int) < v)) a.ovCnt s.almN
  let (uc, uh) := alarmCount (if a.uv then decide ((s.uvTh : Int) + s.almHys < v) else decide (v < s.uvTh)) a.uvCnt s.almN
  ({ a with ovCnt := oc, uvCnt := uc },
   (if oh then [if a.ov then .clear i .ov else .assert i .ov] else [])
     ++ (if uh then [if a.uv then .clear i .uv else .assert i .uv] else []))
/-- Every used cell's alarms over one sweep, by the corrected conversions before R61 limits what is reported (03 R62). -/
def alarmSweep (s : MeasSet) (vs : List Int) : Nat → List CellAlarm → List CellAlarm × List RDue
  | _, [] => ([], [])
  | i, a :: as =>
    let (as', ds') := alarmSweep s vs (i + 1) as
    if s.nCells ≤ i then (a :: as', ds')
    else
      let (a', ds) := alarmStep s i (vs.getD i 0) a
      (a' :: as', ds ++ ds')
/-- Alarm masks with the due changes made: (OV_MASK, UV_MASK) (03 Table 3-6, R64). -/
def alarmMasks (r : Rumbe) : Nat × Nat :=
  let bit := fun (f : CellAlarm → Bool) =>
    sumNat ((List.range 18).map (fun i => if f (r.alarms.getD i {}) then 2 ^ i else 0))
  (bit (fun a => a.ov), bit (fun a => a.uv))
/-- What is reported of a converted cell voltage: 0 to 50,000 (03 R61). -/
def cellReport (v : Int) : Nat := (clampInt 0 50000 v).toNat
/-- The reference checks of R60 fail. -/
def refFails (hi zero : Int) : Bool := decide (hi < 24960) || decide (25040 < hi) || decide (zero < -20) || decide (20 < zero)
/-- The interval a sweep's record is paired with: the last that has ended by t_start + 116 microseconds (03 R59). -/
def alignSnap (cu : Current) (start : Nat) : Option CurSnap :=
  let lim := start + 116 * perUs
  match cu.last with
  | none => none
  | some s => if s.endAt ≤ lim then some s else
    match cu.prev with
    | none => none
    | some p => if p.endAt ≤ lim then some p else none
/-- DT_I in 0.1 microsecond: the interval's centre from t_ref (03 R59). -/
def dtI (s : CurSnap) (start : Nat) : Int :=
  clampInt (-3000) (-500) (divRoundAway (((s.endAt : Int) - 125 * perUs - (start + 41 * perUs)) * 10) perUs)
/-- LG_OVR as the record of a sweep carries it (04 Table 4-5, R84). -/
def recordOvr (cu : Current) (start : Nat) : Bool :=
  cu.lgOvr || (match cu.last with | some s => s.ovr && decide (s.endAt ≤ start + 116 * perUs) | none => false)
/-- The head's current section (04 Table 4-4). -/
def currentSection (r : Rumbe) (start : Nat) : List Byte :=
  let sn := alignSnap r.cur start
  let q := match sn with | some s => s.q | none => qCum r
  let n := match sn with | some s => s.n | none => r.cur.nCum
  let i := match sn with | some s => s.iMa | none => 0
  let dt := match sn with | some s => dtI s start | none => 0
  let lg := match sn with | some s => s.lg | none => false
  leBytes 8 (pattern 64 q) ++ leBytes 4 n ++ leBytes 4 (satPattern 32 i) ++ leBytes 2 (pattern 16 dt)
    ++ leBytes 2 (hflags r lg (recordOvr r.cur start) sn.isNone) ++ leBytes 2 r.cur.rchg ++ leBytes 2 (ofsWord r.cur.ofsLg)
    ++ leBytes 2 r.vaux.mv ++ leBytes 1 (gateStByte r) ++ leBytes 1 (vauxStByte r) ++ zeros 4
/-- Whether the balanced cell's committed reading reaches the balancing limit (05 Table 5-5 CELL_LIMIT). -/
def cellLimit (r : Rumbe) (s : MeasSet) (vs : List Nat) : Bool :=
  let v := vs.getD (r.bal.cur.cell - 1) 0
  balActive r.bal && (if r.bal.cur.out then decide (v ≤ s.uvTh + s.almHys) else decide (s.ovTh - s.almHys ≤ v))
/-- An alarm that stays asserted through a commit, which leaves the alarms of `after`, is sent again there, at most every 100 ms;
one that asserts with the commit is sent as its own due step (06 R147). -/
def alarmRepeat (after : Rumbe) (asserts measDue : Bool) (c : RCtx) : RCtx :=
  let old := fun (t : Option Nat) => match t with | some t => decide (t + 100 * perMs ≤ c.now) | none => true
  let c := if anyAlarm after && !asserts && old c.r.almSentAt then
    (sendAlarm c 8).upd (fun r => { r with almSentAt := some c.now }) else c
  if c.r.measFault && !measDue && old c.r.measSentAt then
    (sendAlarm c 9).upd (fun r => { r with measSentAt := some c.now }) else c
/-- SFLAGS of a sweep's record (03 Table 3-7). -/
def sflagsOf (r : Rumbe) (refF ovr alarm measF modCh thCh mask addr : Bool) : Nat :=
  b2n refF + b2n ovr * 2 + b2n alarm * 4 + b2n measF * 8 + b2n (r.bal.seen || balActive r.bal) * 16 + b2n addr * 32
    + b2n modCh * 64 + b2n thCh * 128 + b2n r.head.headEn * 256 + b2n r.woke * 1024 + b2n mask * 2048
/-- The commit of a sweep: reference checks, alarms, thermistors, MODID, the record (03 R60 to R71, 04 R84 to R86, 05 R111),
then the balancing limit and alarm repeats. Alarms that assert or clear, MEAS_FAULT and the MODID change are due with it. -/
def commitDo (sw : Sweep) (m : Readings) (c : RCtx) : RCtx :=
  let r := c.r
  let s := r.latched
  let refF := refFails m.refHi m.refZero
  let refRun := if refF then r.refRun + 1 else 0
  let measDue := decide (3 ≤ refRun) && !r.measFault
  let measF := r.measFault || measDue
  let vs := (List.range 18).map (fun i => cellReport (m.cells.getD i 0))
  let ovr := (List.range s.nCells).any (fun i => decide (50000 < m.cells.getD i 0))
  let mask := (List.range (18 - s.nCells)).any (fun i => decide (500 < m.cells.getD (s.nCells + i) 0))
  let (al, ds) := if refF || measF then (r.alarms, []) else alarmSweep s m.cells 0 r.alarms
  let r := { r with refRun := min 3 refRun, alarms := al, due := ds ++ (if measDue then [.measFault] else []),
                    dueAt := c.now }
  let after := ds.foldl (fun r d => match d with
    | .assert i k => setAlarm r i k true
    | .clear i k => setAlarm r i k false
    | _ => r) r
  let (ovm, uvm) := alarmMasks after
  let (stat, temps) := thermistors s m.th
  let (r, mst, unst) := modidTake r (modidState m.modid)
  let modCh := some mst != r.modidRef
  let thCh := match r.lastThStat with | some x => x != stat | none => false
  let r := { r with bal := balTemp r.bal c.now m.tDie,
                    vaux := { r.vaux with mv := if r.head.vauxEn && r.head.headEn then m.vauxMv else 0xFFFF,
                                          low := r.vaux.st == .on && decide (m.vauxMv < 4500) } }
  let sf := sflagsOf r refF ovr (anyAlarm after || measF) measF modCh thCh mask sw.addrTrig
  let rec1 := leBytes 2 sw.seq ++ leBytes 2 sf
    ++ (List.range 18).flatMap (fun i => leBytes 2 (if i < s.nCells then vs.getD i 0 else 0xFFFF))
    ++ leBytes 2 (clampInt 0 65535 m.refHi).toNat ++ leBytes 2 (satPattern 16 m.refZero) ++ temps.flatMap (fun t => leBytes 2 t)
    ++ leBytes 2 stat ++ leBytes 3 ovm ++ leBytes 3 uvm ++ leBytes 1 (mst + b2n unst * 32) ++ zeros 1
  let bytes := rec1 ++ (if r.head.headEn then currentSection r sw.start else [])
    ++ (if natBit sf 4 then balSection r.bal else [])
  let sn := alignSnap r.cur sw.start
  let asserts := ds.any (fun d => match d with | .assert _ _ => true | _ => false)
  let lim := cellLimit r s vs && !refF
  let cu := { r.cur with
    lgOvr := false, accReset := false,
    last := r.cur.last.map (fun l => if l.endAt ≤ sw.start + 116 * perUs then { l with ovr := false } else l),
    lastRangeLg := match sn with | some x => x.lg | none => false, lastNoAlign := sn.isNone }
  let r := { r with sweep := none, records := putRecord r.records sw.seq bytes, sflags := sf, woke := false,
                    lastThStat := some stat, lastCells := some (vs.take s.nCells), cur := cu,
                    bal := { r.bal with seen := balActive r.bal, ended := false } }
  let r := if lim then { r with bal := balEnd r.bal c.now 5 } else r
  alarmRepeat after asserts measDue { c with r := r }
/-- SWEEP_COMMIT (03 R71): the sweep in progress reaches its commit slot. -/
def sweepCommitDo (m : Readings) (c : RCtx) : RCtx :=
  rumbeEvent c (fun r => match r.sweep with | some s => decide (s.start + 5512 ≤ c.now) | none => false)
    (fun c => match c.r.sweep with
      | some s => commitDo s m c
      | none => c)
/-- BAL_IDLE_END: 80 microseconds after t_start, within 1 %; a CHECK caught by the window restarts (05 R103, R113). -/
def balIdleEndDo (c : RCtx) : RCtx :=
  rumbeEvent c (fun r => match r.bal.holdUntil with | some u => decide (u ≤ c.now + 38) | none => false)
    (fun c => c.upd (fun r => { r with bal := { r.bal with holdUntil := none, checkAt := c.now, cycleAt := c.now } }))

/-! ### The current channel -/

/-- MODULATOR_SETTLE (04 R538). -/
def modSettleDo (c : RCtx) : RCtx :=
  rumbeEvent c (fun r => r.cur.running && r.cur.gridAt.isNone && decide (r.cur.settleAt ≤ c.now))
    (fun c => c.upd (fun r => { r with cur := { r.cur with gridAt := some c.now } }))
/-- The corrected LG sample, clamped at full scale, and whether it was (04 R80, R81). -/
def lgSample (cu : Current) (lg : Int) (clip : Bool) : Int × Bool :=
  let l := lg - cu.ofsLg
  if clip || 160000000 ≤ l || l ≤ -160000000 then (if l < 0 then -160000000 else 160000000, true) else (l, false)
/-- The offset update of R81: a 1,024th of the difference. -/
def ofsUpdate (cu : Current) (hg lg : Int) : Int :=
  let n := lg - hg - cu.ofsLg
  let q := n / 1024
  cu.ofsLg + (if n % 1024 = 0 then q else if Config.ofsRoundUp n then q + 1 else q)
/-- One interval: which sample is selected, range state, offset, totals (04 R79 to R85). -/
def intervalCur (cu : Current) (shunt now : Nat) (hg lg : Int) (hgOver lgOver : Bool) : Current × Int × List RDue :=
  let big := hgOver || decide (9000000 < hg) || decide (hg < -9000000)
  let small := !hgOver && decide (hg < 7000000) && decide (-7000000 < hg)
  let useLg := cu.lgState || big
  let (l, ovr) := lgSample cu lg lgOver
  let v := if useLg then l else hg
  let cnt := if cu.lgState && small then cu.lgCnt + 1 else 0
  let d := lg - cu.ofsLg - hg
  let ex := if small then (if 200000 < d || d < -200000 then cu.exceed + 1 else 0) else cu.exceed
  let noUpd := if small then 0 else cu.noUpd + 1
  let sum := signed 80 (pattern 80 (cu.sumV + v))
  let n := (cu.nCum + 1) % 4294967296
  let snap := { endAt := now, q := cu.qBase + sum / (4 * shunt : Nat), n := n, iMa := divRoundAway v shunt, lg := useLg,
                ovr := ovr }
  ({ cu with gridAt := some now, lgState := useLg, lgCnt := cnt, rchg := (cu.rchg + b2n (useLg && !cu.lgState)) % 65536,
             ofsLg := if small then ofsUpdate cu hg lg else cu.ofsLg, noUpd := min 40000 noUpd,
             calFrozen := cu.calFrozen && !small, exceed := min 16 ex, sumV := sum, nCum := n,
             lgOvr := lgOvrNow cu,
             last := some snap, prev := cu.last },
   v,
   (if 8 ≤ cnt then [.rangeHg] else []) ++ (if noUpd = 40000 then [.calFrozen] else [])
     ++ (if 16 ≤ ex && !cu.curFault then [.curFault] else []))
/-- CURRENT_INTERVAL: the 250 microsecond interval in progress ends (04 R79). -/
def intervalDo (hg lg : Int) (hgOver lgOver : Bool) (c : RCtx) : RCtx :=
  rumbeEvent c (fun r => r.cur.running && (match r.cur.gridAt with | some g => decide (g + 11880 ≤ c.now) | none => false))
    (fun c => c.upd (fun r =>
      let (cu, v, ds) := intervalCur r.cur r.head.shunt c.now hg lg hgOver lgOver
      let low := decide (v.natAbs < r.gate.idone * r.head.shunt)
      { r with cur := cu, due := ds, dueAt := c.now,
               gate := { r.gate with lowRun := if r.gate.st = .precharge && low then min 8 (r.gate.lowRun + 1) else 0 } }))

/-! ### Gates, trips, VAUX -/

/-- Threshold of the short-circuit comparator in microvolts: Table 4-9, within 2 mV and 5 % (04 R94; the part's own value is
open, log 163). -/
def scThreshold (d : Dev) (code : Nat) : Nat :=
  let n := 1000 * ([20, 25, 30, 40, 50, 60, 70, 80, 100, 120, 140, 160, 180, 200, 225, 250] : List Nat).getD code 250
  clampNat (n - 2000 - n / 20) (n + 2000 + n / 20) (Config.scThreshold (devIndex d) code)
/-- Blanking in nanoseconds: (SCD_BLANK + 1) times 0.5 microsecond, by up to 10 % less (04 R94; log 163). -/
def scBlanking (d : Dev) (code : Nat) : Nat :=
  clampNat (450 * (code + 1)) (500 * (code + 1)) (Config.scBlanking (devIndex d) code)
/-- SC_TRIP: a shunt voltage beyond the threshold, in either direction, has kept the comparator asserted without a break for
`ns`, the whole blanking time; at a head, but for the RAMP of FET mode, where ramp watch stands in (04 R75, R94 to R96). -/
def scTripDo (uv : Int) (ns : Nat) (c : RCtx) : RCtx :=
  rumbeEvent c (fun r => r.head.headEn && !(gateWas r c.now == .ramp && !r.head.drvContactor)
      && decide (scThreshold c.dev r.head.scdTh < uv.natAbs) && decide (scBlanking c.dev r.head.scdBlank ≤ ns))
    (fun c =>
      let c := c.upd (fun r => openReq r 5 c.now)
      sendAlarm (c.upd (fun r => { r with gate := { r.gate with scTrip := true } })) 0xA)
/-- The lower gate voltage of the outputs that ramp toward a state, in millivolts above source (04 R96). -/
def lowerGate (target : GateSt) (chg dsg : Nat) : Nat :=
  match target with
  | .chgOnly => chg
  | .dsgOnly => dsg
  | _ => min chg dsg
/-- V_TH of the desaturation check in millivolts, within 10 %; none while it is inactive (04 R96; log 163). -/
def dsatThreshold (d : Dev) (vgs : Nat) : Option Nat :=
  if vgs < 4000 then none
  else
    let n := if vgs ≤ 8000 then 2000 + (8000 - vgs) else 2000
    some (clampNat (n * 9 / 10) (n * 11 / 10) (Config.dsatThreshold (devIndex d) vgs))
/-- The state RAMP leads to, as the open requests of this very moment found it: ramp watch covers the outputs that ramp. -/
def rampTarget (r : Rumbe) (now : Nat) : GateSt := if r.gate.openAt = some now then r.gate.openTarget else r.gate.target
/-- What ramp watch sees trips it: the comparator with no blanking, or V_DS above V_TH for 1.0 microsecond within 0.2, where
DSAT_EN was set (04 R96). -/
def rampTrips (r : Rumbe) (d : Dev) (now : Nat) : RampTrip → Bool
  | .comparator uv => decide (scThreshold d r.head.scdTh < uv.natAbs)
  | .desaturation chg dsg vds ns =>
    r.gate.dsat && (match dsatThreshold d (lowerGate (rampTarget r now) chg dsg) with
      | some v => decide (v < vds) && decide (clampNat 800 1200 (Config.dsatFilter (devIndex d)) ≤ ns)
      | none => false)
/-- Cause of a ramp watch trip (04 Table 4-7). -/
def rampCause : RampTrip → Nat
  | .comparator _ => 6
  | .desaturation .. => 7
/-- RAMP_WATCH_TRIP: during RAMP in FET mode (04 R96, R97). -/
def rampTripDo (k : RampTrip) (c : RCtx) : RCtx :=
  rumbeEvent c (fun r => r.head.headEn && gateWas r c.now == .ramp && !r.head.drvContactor && rampTrips r c.dev c.now k)
    (fun c =>
      let c := c.upd (fun r => openReq r (rampCause k) c.now)
      sendAlarm (c.upd (fun r => { r with gate := { r.gate with rampFault := true } })) 0xA)
/-- PRECHARGE_DONE (04 R89). -/
def prechargeDoneDo (c : RCtx) : RCtx :=
  rumbeEvent c (fun r => r.gate.st == .precharge && decide (r.gate.enteredAt + r.gate.tmin * perMs ≤ c.now)
      && decide (8 ≤ r.gate.lowRun))
    (fun c => c.upd (fun r => enterRamp r c.now .closed))
/-- PRECHARGE_TIMEOUT (04 R89). -/
def prechargeTimeoutDo (c : RCtx) : RCtx :=
  rumbeEvent c (fun r => gateWas r c.now == .precharge && decide (r.gate.enteredAt + r.gate.tmax * perMs ≤ c.now))
    (fun c =>
      let c := c.upd (fun r => openReq r 9 c.now)
      c.upd (fun r => { r with gate := { r.gate with pchgFault := true } }))
/-- RAMP's end: the commanded state; PCHG goes off 1.0 ms later (04 R90). -/
def rampEnd (r : Rumbe) (now : Nat) : Rumbe :=
  { r with gate := { r.gate with st := r.gate.target, pchgOffAt := if r.gate.pchg then some (now + perMs) else none } }
/-- RAMP_DONE: every ramping output at least 9.0 V above source (04 R90). -/
def rampDoneDo (chg dsg : Nat) (c : RCtx) : RCtx :=
  rumbeEvent c (fun r => r.gate.st == .ramp && !r.head.drvContactor && decide (9000 ≤ lowerGate r.gate.target chg dsg))
    (fun c => c.upd (fun r => rampEnd r c.now))
/-- CONTACTOR_RAMP_END: 100 microseconds, within 10 % (04 R93). -/
def contactorEndDo (c : RCtx) : RCtx :=
  rumbeEvent c (fun r => r.gate.st == .ramp && r.head.drvContactor && decide (r.gate.enteredAt + 90 * perUs ≤ c.now))
    (fun c => c.upd (fun r => rampEnd r c.now))
/-- PCHG_OFF: 1.0 ms after RAMP, within 5 % (04 R90). -/
def pchgOffDo (c : RCtx) : RCtx :=
  rumbeEvent c (fun r => match r.gate.pchgOffAt with | some u => decide (u ≤ c.now + perMs / 20) | none => false)
    (fun c => c.upd (fun r => { r with gate := { r.gate with pchg := false, pchgOffAt := none } }))
/-- RAMP_TIMEOUT: 2.0 ms, within 5 % (04 R90). -/
def rampTimeoutDo (c : RCtx) : RCtx :=
  rumbeEvent c (fun r => gateWas r c.now == .ramp && decide (r.gate.enteredAt + 1900 * perUs ≤ c.now))
    (fun c =>
      let c := c.upd (fun r => openReq r 8 c.now)
      c.upd (fun r => { r with gate := { r.gate with rampFault := true } }))
/-- PUMP_UV: in a conducting state of FET mode, a conducting gate below 8.5 V above source for 10 microseconds (04 R90). -/
def pumpUvDo (chg dsg ns : Nat) (c : RCtx) : RCtx :=
  rumbeEvent c (fun r =>
      let g := gateWas r c.now
      (g == .closed || g == .chgOnly || g == .dsgOnly) && !r.head.drvContactor && decide (lowerGate g chg dsg < 8500)
        && decide (10000 ≤ ns))
    (fun c =>
      let c := c.upd (fun r => openReq r 10 c.now)
      c.upd (fun r => { r with gate := { r.gate with pumpUv := true } }))
/-- VAUX_SOFT_START_CHECK: 3.0 ms after the start, within 10 %: below 1.0 V is a failed attempt (04 R99). Where it passes,
SOFT_START turns to ON: the spec names no other moment (DESIGN CHOICE, log 160). -/
def vauxCheckDo (mv : Nat) (c : RCtx) : RCtx :=
  rumbeEvent c (fun r => r.vaux.st == .softStart && decide (r.vaux.since + 2700 * perUs ≤ c.now))
    (fun c => c.upd (fun r =>
      { r with vaux := if mv < 1000 then vauxFail r.vaux c.now else { r.vaux with st := .on, since := c.now } }))
/-- VAUX_UNDERVOLTAGE: on, and for the last 1.0 ms no higher than `mv`, which is below 1.0 V (04 R99). -/
def vauxUvDo (mv : Nat) (c : RCtx) : RCtx :=
  rumbeEvent c (fun r => r.vaux.st == .on && decide (mv < 1000) && decide (r.vaux.since + perMs ≤ c.now))
    (fun c => c.upd (fun r => { r with vaux := vauxFail r.vaux c.now }))
/-- VAUX_RETRY: 100 ms after the turn-off, within 5 % (04 R99). -/
def vauxRetryDo (c : RCtx) : RCtx :=
  rumbeEvent c (fun r => r.vaux.st == .retryWait && decide (r.vaux.since + 95 * perMs ≤ c.now))
    (fun c => c.upd (fun r =>
      { r with vaux := { r.vaux with st := .softStart, since := c.now, retries := r.vaux.retries + 1 } }))
/-- VAUX_RETRY_RESET: on, and for the last 1 s no lower than `mv`, which is at least 4.5 V (04 R99). -/
def vauxRetryResetDo (mv : Nat) (c : RCtx) : RCtx :=
  rumbeEvent c (fun r => r.vaux.st == .on && decide (4500 ≤ mv) && decide (r.vaux.since + perS ≤ c.now))
    (fun c => c.upd (fun r => { r with vaux := { r.vaux with retries := 0 } }))
/-- VAUX_THERMAL_SHUTDOWN: at 140 degrees, within 5, of T_J in 0.1 degree; counts as a failed attempt (04 R100; log 163). -/
def vauxThermalDo (tj : Int) (c : RCtx) : RCtx :=
  rumbeEvent c (fun r => (r.vaux.st == .on || r.vaux.st == .softStart)
      && decide (clampInt 1350 1450 (Config.thermalShutdown (devIndex c.dev)) ≤ tj))
    (fun c => c.upd (fun r => { r with vaux := vauxFail r.vaux c.now }))

/-! ### Transfers -/

/-- The next queued entry may start: BAL_EN, no latch, no hold, the outputs off for 20 microseconds (05 R101, R108, R113
to R115, R118). An entry queued before N_CELLS fell below its cell starts all the same: the range check of R105 is made
when the entry arrives (DESIGN CHOICE, log 162). -/
def balMayStart (r : Rumbe) (now : Nat) : Bool :=
  !r.asleep && r.bal.phase == .idle && !r.bal.queue.isEmpty && r.balSet.en && !r.bal.hot && !r.bal.badModule
    && !r.bal.selFault && !r.bal.priOc && r.bal.holdUntil.isNone
    && (match r.bal.offAt with | some u => decide (u + 20 * perUs ≤ now) | none => true)
/-- BAL_TRANSFER_START: the entry enters CHECK with XFER_Q at zero (05 R103, R110). While a cell alarm or MEAS_FAULT stands the
transfer ends at once with ALARM (05 Table 5-5). -/
def balStartDo (c : RCtx) : RCtx :=
  rumbeEvent c (fun r => balMayStart r c.now)
    (fun c => c.upd (fun r =>
      match r.bal.queue with
      | e :: es =>
        let b := { r.bal with phase := .check, cur := e, queue := es, startAt := c.now, checkAt := c.now, offAt := none,
                              xferQ := 0, qmb0 := r.bal.qmb, seen := true }
        { r with bal := if anyAlarm r || r.measFault then balEndClear b c.now 8 else b }
      | [] => r))
/-- The selector check of R103 fails: against the cell's value in the last committed record, or, where that holds none, because
no record has committed or the cell is above its N_CELLS, as the part has it (log 12). -/
def selFails (r : Rumbe) (d : Dev) (busMv : Int) : Bool :=
  match (r.lastCells.getD [])[r.bal.cur.cell - 1]? with
  | none => Config.selNoRecord (devIndex d)
  | some v => decide (busMv < 0) || decide (clampNat 800 1200 (Config.selThreshold (devIndex d)) < (busMv * 10 - v).natAbs)
/-- BAL_CHECK_DONE (05 R103). A check that fails at the very moment the transfer ends adds its cause (05 R116). -/
def balCheckDo (busMv : Int) (c : RCtx) : RCtx :=
  rumbeEvent c (fun r => (r.bal.phase == .check || (endedNow r.bal c.now && r.bal.endPhase == .check))
      && r.bal.holdUntil.isNone && decide (r.bal.checkAt + 100 * perUs ≤ c.now))
    (fun c => c.upd (fun r =>
      if selFails r c.dev busMv then { r with bal := { balEndClear r.bal c.now 9 with selFault := true } }
      else if r.bal.phase = .check then { r with bal := { r.bal with phase := .run, cycleAt := c.now } }
      else r))
/-- Primary peak current in milliamperes from the voltage at BCS in microvolts (05 R109). -/
def primaryPeak (b : BalSet) (bcsUv : Nat) : Nat := bcsUv / b.rcs
/-- A charge in picocoulomb as whole microcoulombs; which of the two next to it the part counts is open (05 R109, R110;
log 164). -/
def wholeUc (pc : Nat) : Nat := pc / 1000000 + b2n (pc % 1000000 != 0 && Config.balRoundUp pc)
/-- Cell-side and module-side charge of a cycle, in microcoulomb: half the peak current times the conduction time of that side,
the cell side with the turns ratio (05 R107, R109). Positive is into the cells (00 R4). -/
def cycleCharge (b : BalSet) (out : Bool) (bcsUv tPri tSec : Nat) : Int × Int :=
  let cell := wholeUc (bcsUv * b.nr * tSec / (32 * b.rcs))
  let mod := wholeUc (bcsUv * tPri / (2 * b.rcs))
  if out then (-(cell : Int), mod) else (cell, -(mod : Int))
/-- A cycle that R107 allows: the peak no higher than BAL_IPK on the cell side, at most 20 microseconds and 40 microcoulombs, after
the cycle before it, and no sooner than the effective current lets its charge flow, within the 5 % of Table 5-4. -/
def cycleFits (r : Rumbe) (now bcsUv tPri tSec : Nat) : Bool :=
  let q := (cycleCharge r.balSet r.bal.cur.out bcsUv tPri tSec).1.natAbs
  decide (bcsUv * r.balSet.nr ≤ 16 * r.balSet.ipk * r.balSet.rcs) && decide (tPri + tSec ≤ 20000) && decide (q ≤ 40)
    && decide (r.bal.cycleAt * 1000 + (tPri + tSec) * perUs ≤ now * 1000)
    && decide (q * perMs * 20 ≤ (now - r.bal.cycleAt) * balCurrent r.bal * 21)
/-- A cycle may complete now: the transfer runs, or ended at this very moment; in HOLD only one that was in progress at the decode
of the start delimiter, and before t_start (05 R113). -/
def cycleMay (b : Bal) (now tPri tSec : Nat) : Bool :=
  (b.phase == .run || (endedNow b now && b.endPhase == .run))
    && (match b.holdUntil with
      | none => true
      | some u => decide (now + 80 * perUs ≤ u) && decide (now * 1000 ≤ b.holdFrom * 1000 + (tPri + tSec) * perUs))
/-- BAL_CYCLE: a cycle completes, with the peak voltage at BCS in microvolts and both conduction times in nanoseconds; its charges
are counted; TARGET where |XFER_Q| reaches Q_TGT, OVERTEMP at 125 degrees (05 R107 to R116). -/
def balCycleDo (bcsUv tPri tSec : Nat) (tDie : Int) (c : RCtx) : RCtx :=
  rumbeEvent c (fun r => cycleMay r.bal c.now tPri tSec && cycleFits r c.now bcsUv tPri tSec)
    (fun c => c.upd (fun r =>
      let (cellQ, modQ) := cycleCharge r.balSet r.bal.cur.out bcsUv tPri tSec
      let b := r.bal
      let b := { b with xferQ := b.xferQ + cellQ, qmb := signed 48 (pattern 48 (b.qmb + modQ)), cycleAt := c.now,
                        qb := modAt b.qb (b.cur.cell - 1) (fun q => signed 48 (pattern 48 (q + cellQ))) }
      let b := balTemp b c.now tDie
      { r with bal := if b.cur.qTgt ≤ b.xferQ.natAbs then balEnd b c.now 1 else b }))
/-- BAL_TIMEOUT (05 Table 5-5). -/
def balTimeoutDo (c : RCtx) : RCtx :=
  rumbeEvent c (fun r => (balActive r.bal || endedNow r.bal c.now) && decide (r.bal.startAt + r.bal.cur.tMax * perS ≤ c.now))
    (fun c => c.upd (fun r => { r with bal := balEnd r.bal c.now 2 }))
/-- BAL_OVERTEMP, and the release below 110 degrees (05 R114). -/
def balOvertempDo (tDie : Int) (c : RCtx) : RCtx :=
  rumbeEvent c (fun _ => true) (fun c => c.upd (fun r => { r with bal := balTemp r.bal c.now tDie }))
/-- BAL_PRI_OC: BCS above 1.5 times BAL_IPK / BAL_NR for 1 microsecond (05 Table 5-5). -/
def balPriOcDo (bcsUv ns : Nat) (c : RCtx) : RCtx :=
  rumbeEvent c (fun r => (balActive r.bal || endedNow r.bal c.now)
      && decide (24 * r.balSet.ipk * r.balSet.rcs < bcsUv * r.balSet.nr) && decide (1000 ≤ ns))
    (fun c => c.upd (fun r => { r with bal := { balEndClear r.bal c.now 10 with priOc := true } }))
/-- BAL_MODULE_V: outside 12 to 90 V the transfer ends and no entry starts (05 R115). -/
def balModuleDo (mv : Nat) (c : RCtx) : RCtx :=
  rumbeEvent c (fun _ => true)
    (fun c => c.upd (fun r =>
      if mv < 12000 || 90000 < mv then { r with bal := { balEnd r.bal c.now 6 with badModule := true } }
      else { r with bal := { r.bal with badModule := false } }))

end Sys2Proof.Machine
end

