-- ==== Sys2Proof/Machine/StAssayer.lean ====
section
/-! DEFINITION. The state of the Assayer and the report channels (13). Field comments: width; source; reset. -/

namespace Sys2Proof.Machine

/-- A Ledger value held for a kept sweep (13 R307). -/
structure Held where
  seq : Nat
  qRem : Int
  cL : Nat
  uC : Nat
  valid : Bool
  current : Option Int
  indicator : Bool          -- an indicator of its head or member record (13 Table 13-2)
  done : Bool := false      -- already evaluated
  at_ : Nat := 0            -- close of its sweep's collection
  rtc : Nat := 0            -- RTC time of that close
  skewed : Bool := false    -- SKEWED in that sweep (06 R151)
  tempSubst : Bool := false -- TEMP_SUBST in that sweep (03 R68)
  deriving DecidableEq, Repr

/-- One of the last 16 evaluations (13 Table 13-1 row 3). -/
structure Eval where
  indicator : Bool
  signChange : Bool
  unsure : Bool
  deriving DecidableEq, Repr

/-- The Assayer's state of a cell (13 13.1 to 13.3). -/
structure AssayCell where
  cls : Nat := 0xF          -- class; 13 Table 13-1; NONE
  dis : Nat := 0            -- 8 bit; 13 R311; 0
  agr : Nat := 0            -- 8 bit; 13 R311; 0
  held : List Held := []    -- last 16 kept sweeps; 13 R307; none
  evals : List Eval := []   -- last 16 evaluations; 13 Table 13-1; none
  sign : Int := 0           -- sign of the last mu - s that was not zero; 13 Table 13-1; 0
  pairMiss : Nat := 0       -- 16 bit; 13 R307; 0
  refused : Nat := 0        -- 16 bit; 13 R316; 0
  pair : Option Held := none -- the value the latest estimate was evaluated against; 13 R319; none
  last : Option Held := none -- latest Ledger value; 13 R319; none
  mu : Nat := 0             -- 0.01 %; 13 R308; 0
  sigma : Nat := 0          -- 0.01 %; 13 R308; 0
  s : Nat := 0xFFFF         -- 0.01 %; 13 R308; none
  uC : Nat := 0xFFFF        -- 0.01 %; 13 R308; none
  muSoc : Nat := 0          -- FP32; 13 R322; 0
  muCut : Nat := 0          -- FP32; 13 R322; 0
  seq : Nat := 0xFFFF       -- 16 bit; 16 CELL_ASSAY; none
  evalAt : Option Nat := none -- time of the last evaluation; 13 R309; none
  evalRtc : Nat := 0        -- its RTC time; 13 Table 13-6; 0
  invalid : Bool := false   -- latest estimate invalid; 13 R308; 0
  stale : Bool := true      -- learned input stale; 13 R309; 1
  skewed : Bool := false    -- 13 Edges of 13.1; 0
  tempSubst : Bool := false -- 13 Table 13-7; 0
  runAgree : Bool := false  -- in AGREE when the present DIS_CNT run began; 13 R315; 0
  badAt : Option Nat := none -- last in SUSPECT or MODEL_UNSURE; 13 R315; none
  reanchoring : Bool := false -- 13 Table 13-7; 0
  raCapped : Bool := false  -- 13 R317; 0
  evtAt : Option Nat := none -- last CLASS_CHANGE event; 13 R313; none
  evtWant : Bool := false   -- class change not yet reported; 13 R313; 0
  deriving DecidableEq, Repr

/-- A tag and output entry on XC_8 (13 R306). -/
structure Estimate where
  cell : Nat
  seq : Nat
  flags : Nat
  step : Nat
  sat : Bool
  nan : Bool
  behind : Bool
  entry : List Byte
  deriving DecidableEq, Repr

/-- A report channel (13 Table 13-4, 13.6). -/
structure RChan where
  en : Bool := false        -- 1 bit; 13 Table 13-4; 0
  source : Nat := 0         -- 2 bit; 13 Table 13-4; 0
  scope : Nat := 1          -- 2 bit; 13 Table 13-4; 1
  obj : Nat := 0            -- 16 bit; 13 Table 13-4; 0
  cont : Nat := 0           -- 2 bit; 13 Table 13-4; 0
  period : Nat := 4         -- 8 bit; 13 Table 13-4; 4
  nextAt : Option Nat := none -- next publication, time base; 13 R319; none
  p : Option Nat := none    -- P, 0.001 of 0.01 %; 13 R324; none
  pend : Option (List Byte) := none -- settings written, not yet in effect; 13 R319; none
  restart : Bool := false   -- a settings write since the last publication restarts continuity; 13 R319; 0
  updates : Nat := 0        -- 32 bit; 13 Table 13-6; 0
  gen : Nat := 0            -- 32 bit; 13 R329; 0
  snap : List Byte := List.replicate 64 0#8 -- 64 bytes; 13 Table 13-6; zero
  deriving DecidableEq, Repr

/-- A 10 s rule of R323. -/
structure DisState where
  dis : Bool := false       -- discharging; 13 R323; 0
  below : Bool := false     -- current below the threshold now; 13 R323; 0
  since : Option Nat := none -- it has been so since; 13 R323; none
  deriving DecidableEq, Repr

/-- The Assayer (13). -/
structure Assayer where
  raEn : Bool := true       -- 1 bit; 13 Table 13-3; 1
  histH : Nat := 24         -- 8 bit; 13 Table 13-3; 24
  raCap : Nat := 500        -- 16 bit; 13 Table 13-3; 500
  cells : Tbl AssayCell := [] -- 2,304; 13 R330; zero
  inbox : List Estimate := [] -- XC_8; 13 R306; empty
  chans : Tbl RChan := []   -- 16; 13 Table 13-4; defaults
  strDis : Tbl DisState := [] -- per string; 13 R323; not discharging
  siteDis : DisState := {}  -- the site; 13 R323; not discharging
  siteFirst : Option Nat := none -- a string first configured, whose first counted sweep starts the site's rule; 13 R323; none
  deriving DecidableEq, Repr

end Sys2Proof.Machine
end

