-- ==== Sys2Proof/Machine/StHost.lean ====
section
/-! DEFINITION. The state behind the host window (15, 17, 24): mailboxes, doorbells, interrupts, MSI-X, the PCIe
function; the fault log (21); keep-alive and the journal (20). Field comments: width; source; reset. -/

namespace Sys2Proof.Machine

/-- A message of a mailbox (15 Table 15-7); `owner`: its command owns the bulk window (15 R360). -/
structure Msg where
  opcode : Nat
  flags : Nat := 0
  status : Nat := 0
  tag : Nat := 0
  bulkLen : Nat := 0
  reason : Nat := 0
  clampN : Nat := 0
  payload : List Byte := []
  owner : Bool := false
  deriving DecidableEq, Repr

/-- A request taken from a mailbox (15 R359); `owner`: it owns the bulk window; `busy`: another command owned it at the
take (15 R360). -/
structure Req where
  tenant : Nat
  opcode : Nat
  flags : Nat := 0
  tag : Nat := 0
  len : Nat := 0
  bulkLen : Nat := 0
  payload : List Byte := []
  owner : Bool := false
  busy : Bool := false
  deriving DecidableEq, Repr

/-- W1C bits of a tenant's registers that a device event set at the moment `at_` (00 R10). -/
structure JustSet where
  at_ : Nat := 0
  rsp : Bool := false       -- DBS_n RSP_READY
  lost : Bool := false      -- DBS_n EVT_LOST
  taken : Bool := false     -- INT_STAT_n REQ_TAKEN
  fault : Bool := false     -- INT_STAT_0 FAULT
  snap : Nat := 0           -- SNAP_STAT_n
  deriving DecidableEq, Repr

/-- Tenant n's mailbox pair, doorbell registers, bulk window and message queues (15 Tables 15-5, 15-6). -/
structure TenantPort where
  req : Mem := []           -- 256 B; 24 R528 MB_REQ_n; zero (CTRL)
  rsp : Mem := []           -- 256 B; 24 R528 MB_RSP_n; zero (CTRL)
  bulk : Mem := []          -- 4 KiB; 15 R358 BW_n; zero (CTRL)
  bulkHalf : Bool := false  -- 1 bit; 15 Table 15-6 DBC_n; 0 (CTRL)
  reqPend : Bool := false   -- 1 bit; 15 Table 15-6 DBS_n; 0 (CTRL)
  rspReady : Bool := false  -- 1 bit; 15 Table 15-6 DBS_n; 0 (CTRL)
  bulkDev : Bool := false   -- 1 bit; 15 Table 15-6 DBS_n; 0 (CTRL)
  evtLost : Bool := false   -- 1 bit; 15 Table 15-6 DBS_n; 0 (CTRL)
  inflight : Nat := 0       -- 3 bit; 15 Table 15-6 DBS_n; 0 (CTRL)
  rspOwnsBulk : Bool := false -- the message shown owns the bulk window; 15 R360; 0
  replies : List Msg := []  -- responses waiting; 15 R363; empty
  events : List Msg := []   -- up to 64; 15 R364; empty
  lost : Nat := 0           -- merged events; 15 R364; 0
  rseq : Nat := 0           -- 16 bit; 15 Table 15-7; 0
  reqTaken : Bool := false  -- 1 bit; 17 Table 17-7 INT_STAT_n[1]; 0 (SHELL)
  faultInt : Bool := false  -- 1 bit, tenant 0; 17 Table 17-7 INT_STAT_0[9]; 0 (SHELL)
  intMask : Nat := 0        -- 10 bit; 17 Table 17-7; 0 (SHELL)
  snapStat : Nat := 0       -- 16 bit; 17 Table 17-7; 0 (SHELL)
  snapMask : Nat := 0       -- 16 bit; 17 Table 17-7; 0 (SHELL)
  intWas : Bool := false    -- interrupt pending after the last step; 17 R408; 0
  new : JustSet := {}       -- set at the present moment; 00 R10; none
  deriving DecidableEq, Repr

/-- An MSI-X entry (24 Table 24-5). -/
structure MsixEntry where
  addrLo : Nat := 0         -- 32 bit; 24 Table 24-5; 0
  addrHi : Nat := 0         -- 32 bit; 24 Table 24-5; 0
  data : Nat := 0           -- 32 bit; 24 Table 24-5; 0
  mask : Bool := true       -- 1 bit; 24 Table 24-5; 1
  pend : Bool := false      -- 1 bit; 24 Table 24-5; 0
  deriving DecidableEq, Repr

/-- The PCIe function (17 17.2). -/
structure Pcie where
  linkUp : Bool := false    -- 1 bit; 17 Table 17-6 bit 25; 0
  configured : Bool := false -- 1 bit; 17 R401; 0
  bars : List Nat := List.replicate 6 0 -- 32 bit each; 17 Table 17-2; 0
  memEn : Bool := false     -- 1 bit; 17 R399 (Command register); 0
  intDisable : Bool := false -- 1 bit; 17 R409; 0
  msixEn : Bool := false    -- 1 bit; 17 R409; 0
  d3 : Bool := false        -- 1 bit; 17 Table 17-2; D0
  msix : List MsixEntry := List.replicate 16 {}
  inta : Bool := false      -- 1 bit; 17 R409; deasserted
  deriving DecidableEq, Repr

/-- An entry of the fault log (21 Table 21-2). -/
structure FaultEntry where
  seq : Nat
  time : Nat
  rtcS : Nat
  code : Nat
  cls : Nat
  standing : Bool
  tenant : Nat
  kind : Nat
  index : Nat
  count : Nat
  detail : List Byte
  at_ : Nat                 -- model time it was written, for R482's 1 s
  deriving DecidableEq, Repr

/-- The keep-alive domain (20). -/
structure Ka where
  file : Mem := []          -- 32 KiB; 20 R460; zero (KA loss)
  vkaLow : Bool := false    -- 1 bit; 20 R458; 0 (KA)
  lost : Bool := true       -- 1 bit, monitor latch; 20 R458; 1 (VKA rises from below its threshold)
  lostSeen : Bool := false  -- 1 bit; 24 Table 24-2 KA_LOST; 0 (KA)
  rtcBase : Nat := 0        -- 64 bit, 1/32,768 s; 20 R459; 0 (KA)
  rtcAt : Nat := 0          -- model time at which RTC was rtcBase; 20 R459; 0
  rtcValid : Bool := false  -- 1 bit; 20 R459; 0 (KA)
  deriving DecidableEq, Repr

/-- A deferred command that waits for a journal generation (16 JOURNAL_WRITE, SHUTDOWN). -/
structure JWait where
  tenant : Nat
  ticket : Nat
  shutdown : Bool
  deriving DecidableEq, Repr

/-- A journal generation under way (20 R471 to R473). -/
structure GenRun where
  seq : Nat
  area : Nat                -- 0 or 1
  staging : Mem             -- KA as copied at its start (20 R471)
  rtc : Nat
  rtcValid : Bool
  erased : Bool := false
  part : Nat := 0           -- record being programmed
  waiters : List JWait := [] -- commands that end with it
  deriving DecidableEq, Repr

/-- The journal controller (20 20.5, 20.6). -/
structure Journal where
  scanned : Bool := false   -- 1 bit; 17 Table 17-6 bit 5; 0
  newest : Option (Nat × Nat) := none -- RTC and time base at the newest generation's start; 20 R473; none
  newestArea : Option Nat := none -- area of the newest complete generation; 20 R472; none
  areaSeq : List Nat := [0, 0] -- highest SEQ in each area; 20 R472; 0
  lastSeq : Nat := 0        -- 32 bit; 20 Table 20-5; 0
  want : Bool := false      -- significant change waiting; 20 R473; 0
  wantNow : Bool := false   -- generation without spacing waiting; 20 R473; 0
  waiters : List JWait := [] -- the commands that wait for it; 16 R378; none
  run : Option GenRun := none -- generation under way; 20 R471; none
  grace : Option Nat := none -- end of the write grace; 20 R477; none
  deriving DecidableEq, Repr

/-- The boot flash (20 R469). -/
structure Flash where
  mem : Mem := []           -- density bytes, erased 0xFF; 20 Table 20-4; erased
  density : Option Nat := none -- bytes by SFDP; 20 R469; none until identified
  deriving DecidableEq, Repr

end Sys2Proof.Machine
end

