-- ==== Sys2Proof/Machine/StChain.lean ====
section
/-! DEFINITION. The state of the chain pairs at Broros (06, 02 2.5). Field comments: width; source; reset. -/

namespace Sys2Proof.Machine

/-- PAIR_MODE (06 Table 6-7). -/
inductive PairMode where
  | off | ring | direct
  deriving DecidableEq, Repr

/-- How a pair runs (06 6.5, 6.9, 16 R380). -/
inductive PairSt where
  | off | waking | enumerating | ring | broken | split | directWake | direct
  deriving DecidableEq, Repr

/-- For whom an addressed command is sent (06 R138). -/
inductive Origin where
  | mailbox (r : Req)                        -- a chain command of the catalogue (16 R376)
  | script                                   -- the string-wide command in progress (16 R382)
  | retrieve (mem seq : Nat)                 -- READ_RECORD of collection or retrieval (06 R144, R150)
  | restore (mem : Nat)                      -- counters and transfer log after a restore (20 R466)
  | idCheck (mem : Nat) (again : Bool)       -- DEV_ID by hop (06 R134, R152, R153)
  | idWrite (mem : Nat)                      -- DEV_ID written back (06 R134, R152, R153)
  | writeBack (mem : Nat)                    -- a setting written back (06 R153)
  | thMap (mem : Nat)                        -- TH_MAP read again (07 R184)
  | modidAck (mem : Nat)                     -- 07 R184
  | serial (mem : Nat)                       -- 07 R183
  | isolate (mem : Nat)                      -- PORT_CUT of R491
  | identify (mem : Nat)                     -- serial number to JAB_CNT by hop (06 R134, 07 R183, 21 R491)
  | modidRead (mem : Nat)                    -- MODID_ST (07 R183)
  | setup (mem reg : Nat) (words : List Nat) -- a setting that bring-up writes (19 R440)
  | setupCheck (mem reg : Nat) (words : List Nat) -- it is read back (19 R440)
  | balRead (mem : Nat)                      -- balance counters (07 R164)
  | tlog (mem : Nat)                         -- TLOG_0 after a restart of the counters (07 R164)
  | jab (mem : Nat)                          -- JAB_CNT by hop (21 R491)
  deriving DecidableEq, Repr

/-- An addressed command waiting or outstanding (06 R138). -/
structure ChainCmd where
  origin : Origin
  type : Nat
  pos : Bool := false
  addr : Nat := 1
  payload : List Byte := []
  noRetry : Bool := false   -- R150 stops at the first timeout
  deriving DecidableEq, Repr

/-- The command outstanding on a port (06 R138). -/
structure Outstanding where
  cmd : ChainCmd
  fseq : Nat
  sentAt : Nat              -- its last chip left the port
  tries : Nat := 0
  deriving DecidableEq, Repr

/-- One Broros chain port (06). -/
structure ChainPort where
  fseq : Nat := 0           -- 8 bit; 06 R138; 0
  queue : List ChainCmd := [] -- commands waiting for a window; 06 R141; empty
  out : Option Outstanding := none -- 06 R138; none
  lastTx : Nat := 0         -- end of the last DIR = 0 frame; 06 R141; 0
  busy : Nat := 0           -- end of the last frame sent or received; 06 R126; 0
  jab : Bool := false       -- guard cut in; 06 R154; 0
  lastUrgent : Option (List Byte × Nat) := none -- last urgent frame received; 06 Edges of 6.8; none
  stopped : Bool := false   -- retrieval stopped at its first timeout; 06 R150; 0
  reach : Nat := 0          -- members reached from this side; 06 R150; 0
  deriving DecidableEq, Repr

/-- A frame sent from port A whose return at port B is awaited (06 R134, R143, R144, R152). -/
structure Awaited where
  kind : Nat                -- frame TYPE; 0xC for RING_TEST
  endAt : Nat               -- its end left port A
  deriving DecidableEq, Repr

/-- One chain pair (06 R136, 02 R46). -/
structure Pair where
  mode : PairMode := .off   -- 1 byte; 06 Table 6-7; OFF
  addrPos : Bool := false   -- 1 byte ADDR_MODE; 06 Table 6-7; ENUMERATED
  nExp : Nat := 32          -- 1 byte; 06 Table 6-7; 32
  sweepHz : Nat := 128      -- 16 bit; 06 Table 6-7; 128
  st : PairSt := .off       -- 16 PAIR_STATUS; OFF
  ready : Bool := false     -- READY PAIR_n; 17 Table 17-6; 0
  wakeEnd : Nat := 0        -- end of the wake preamble; 06 R158; 0
  enumTries : Nat := 0      -- ENUMERATE sent; 06 R134; 0
  bringup : Bool := false   -- Gesso's bring-up, not SET_PAIR; 19 R440; 0
  hA : Nat := 0             -- last member reached from A; 06 R150; 0
  hB : Nat := 0             -- members reached from B; 06 R150; 0
  seq : Nat := 0            -- 16 bit, next SWEEP_SEQ; 06 R142; 0
  curSeq : Option Nat := none -- SWEEP_SEQ of the sweep in progress; 06 R142; none
  due : Nat := 0            -- nominal due time of the sweep in progress; 02 R46; 0
  nextNom : Nat := 0        -- nominal due time of the next sweep; 02 R46; 0
  k : Nat := 0              -- sweeps since its start; 02 2.5; 0
  nextDue : Option Nat := none -- next sweep start; 02 R46; none
  sweepAt : Nat := 0        -- start of the last sweep; 02 R49; 0
  closeAt : Nat := 0        -- close of its collection; 07 R165; 0
  collecting : Bool := false -- collection open; 06 R141; 0
  silent : Bool := false    -- collection silence of R141; 06 R141; 0
  damaged : Bool := false   -- collection damaged; 06 R144; 0
  lag : Nat := 0            -- time base counts; 02 R46; 0
  behind : Bool := false    -- 1 bit; 02 R49; 0
  lateCnt : Nat := 0        -- 32 bit; 02 R45; 0
  timeouts : Nat := 0       -- 16 bit; 16 Table 16-4; 0
  nFound : Nat := 0         -- 1 byte; 16 Table 16-4; 0
  asked : Bool := false     -- COLLECT or the reads of the sweep have begun; 06 R144; 0
  train : Nat := 0          -- RECORD frames of the train seen at port B; 06 R144; 0
  rxAt : Nat := 0           -- last frame end at port B; 06 R144; 0
  testAt : Nat := 0         -- last RING_TEST from port A; 06 R152; 0
  suspect : Option Nat := none -- lone member that reverse retrieval missed; 21 R491; none
  jabBelow : Option Nat := none -- JAB_CNT of the member below it as read; 21 R491; none
  jabAbove : Option Nat := none -- JAB_CNT of the member above it as read; 21 R491; none
  collectFseq : Nat := 0    -- 8 bit, FSEQ of the last COLLECT; 06 R144; 0
  awaited : List Awaited := [] -- returns awaited at port B; 06 R143; none
  got : List (Nat × List Byte) := [] -- records of the sweep in progress by member; 06 R145; none
  late : List Nat := []     -- members triggered by LATE_SWEEP; 06 R151; none
  skew : List (Nat × Int) := [] -- their skew in 0.01 microsecond; 06 R151; none
  lateAt : Nat := 0         -- end of the LATE_SWEEP at port B; 06 R151; 0
  sweepEnd : Nat := 0       -- end of the SWEEP at port A; 06 R151; 0
  ringTest : Bool := false  -- RING_TEST back within 50 microseconds: DEV_ID check under way; 06 R152; 0
  checked : List Nat := []  -- members whose DEV_ID read h; 06 R152; none
  restoreRing : Bool := false -- returns to RING at the next sweep; 06 R152; 0
  portA : ChainPort := {}
  portB : ChainPort := {}
  deriving DecidableEq, Repr

/-- EOPEN from the pin (06 R146, 02 R38). -/
structure EopenPin where
  low : Bool := false       -- EOPEN_N accepted low; 06 R146; high
  nextAt : Nat := 0         -- next repeat; 06 R146; 0
  deriving DecidableEq, Repr

end Sys2Proof.Machine
end

