-- ==== Sys2Proof/Machine/StFabric.lean ====
section
/-! DEFINITION. The state of the fabric engine (18). Field comments: width; source; reset. -/

namespace Sys2Proof.Machine

/-- Link states (18 Table 18-2). -/
inductive LinkSt where
  | disabled | down | detect | exchange | align | up
  deriving DecidableEq, Repr

/-- One fabric link (18 18.1, 18.2). -/
structure Link where
  st : LinkSt := .disabled  -- 18 Table 18-2; DISABLED
  width : Nat := 0          -- active lanes; 18 R419; 0
  lanes : Nat := 0          -- 4 bit mask of active lanes; 18 R419; 0
  rate : Nat := 0           -- 0 none, 1 10.3125, 2 5.15625 Gb/s; 18 18.2; 0
  since : Nat := 0          -- time the state was entered; 18 Table 18-2; 0
  single : Bool := false    -- round started from DOWN; 18 R420; 0
  fails : Nat := 0          -- failed rounds in a row; 18 R420; 0
  retryAt : Nat := 0        -- next round from DOWN; 18 R420; 0
  capW : Nat := 4           -- widest width it may take; 18 R421; 4
  capRate : Nat := 1        -- fastest rate it may take; 18 R421; 1
  neigh : Option Nat := none -- neighbour serial of its NEIGH; 18 R424; none
  neighAt : Nat := 0        -- last NEIGH; 18 Edges of 18.3; 0
  dropped : Bool := false   -- out of routing; 18 Edges of 18.3; 0
  errors : Nat := 0         -- error counter; 18 R422; 0
  deriving DecidableEq, Repr

/-- ROLE (16 FABRIC_STATUS). -/
inductive Role where
  | single | worker | manager
  deriving DecidableEq, Repr

/-- A node's HELLO as held (18 R429). -/
structure Hello where
  serial : Nat
  prio : Nat
  role : Nat
  node : Nat
  at_ : Nat
  links : List (Nat × Nat × Nat) -- link, cost, neighbour serial
  deriving DecidableEq, Repr

/-- A flood sequence held (18 R423, R424). -/
structure FloodSeq where
  serial : Nat
  type : Nat
  seq : Nat
  deriving DecidableEq, Repr

/-- A string record of a summary (18 Table 18-7). -/
structure SumRec where
  str : Nat
  flags : Nat
  current : Int
  iDb : Nat
  sums : List (Nat × Nat)
  deriving DecidableEq, Repr

/-- A worker's summary as held or as it assembles (18 R435). -/
structure SumSet where
  serial : Nat
  round : Nat
  parts : Nat
  got : List Nat
  recs : List SumRec
  at_ : Nat
  deriving DecidableEq, Repr

/-- A row of the routing table (18 R430). -/
structure Route where
  primary : Nat := 0xFF
  alt : Nat := 0xFF
  cost : Nat := 0xFF
  hops : Nat := 0xFF
  deriving DecidableEq, Repr

/-- The fabric engine (18). -/
structure Fabric where
  links : List Link := List.replicate 6 {}
  prio : Nat := 128         -- 8 bit PRIORITY of the present election; 18 18.4, 16 R392; 128
  linkEn : Nat := 0x3F      -- 6 bit; 16 R392; 0x3F
  ready : Bool := false     -- FABRIC READY; 17 Table 17-6; 0
  role : Role := .single    -- 18 R426; SINGLE
  node : Nat := 0xFF        -- 8 bit; 18 R426; 0xFF
  manager : Nat := 0xFF     -- 8 bit MANAGER_ID; 18 R431; 0xFF
  mgrSerial : Nat := 0      -- 64 bit; 18 R431; 0
  mgrPrio : Nat := 0        -- 8 bit; 18 R428; 0
  epoch : Nat := 0          -- 32 bit; 18 R426; 0
  lease : Option Nat := none -- lease end; 18 R431; none
  window : Option Nat := none -- discovery window end; 18 R425; none
  waitEnd : Option Nat := none -- end of the wait for a BEACON; 18 R426; none
  heard : List (Nat × Nat) := [] -- serial and PRIORITY heard in the window; 18 R425; none
  table_ : List (Nat × Nat) := [] -- serial and node ID; 18 R426, R427; none
  full : List Nat := []     -- serials refused an ID; 18 R427; none
  lists : List Hello := []  -- link lists held; 18 R429; none
  seqs : List FloodSeq := [] -- last SEQ per serial and TYPE; 18 R423; none
  floodAt : List (Nat × Nat) := [] -- last FLOOD frame per serial; 18 R424; none
  own : List Nat := List.replicate 4 0 -- next SEQ of NEIGH, HELLO, BEACON, SUMMARY; 18 R424; 0
  hold : Bool := false      -- FAB_SEQ_BASE stale: no flood originated; 18 R424; 0
  holdEnd : Option Nat := none -- end of that wait; 18 R424; none
  helloWant : Bool := false -- link change not yet flooded; 18 Table 18-5; 0
  lastNeigh : Nat := 0      -- last NEIGH sent; 18 Table 18-5; 0
  lastHello : Nat := 0      -- last HELLO sent; 18 Table 18-5; 0
  lastBeacon : Nat := 0     -- last BEACON sent; 18 Table 18-5; 0
  lastSummary : Nat := 0    -- last SUMMARY sent; 18 R433; 0
  round : Nat := 0          -- 32 bit ROUND; 18 Table 18-6; 0
  sums : List SumSet := []  -- newest complete summary per worker; 18 R435; none
  assembling : List SumSet := [] -- summaries being received; 18 R435; none
  routes : Tbl Route := []  -- 64 rows; 18 R430; unreachable
  dirty : Option Nat := none -- link lists changed since; 18 R430; none
  discards : Nat := 0       -- frames discarded; 18 R423; 0
  aloneSince : Option Nat := none -- all links down since; 18 R432; none
  deriving DecidableEq, Repr

end Sys2Proof.Machine
end

