-- ==== Sys2Proof/Machine/StForeman.lean ====
section
/-! DEFINITION. The state of Foreman (14, 15, 16): tenants, requests, deferred commands, images, datasets, output
rings, the patch, the debug lock. Field comments: width; source; reset. -/

namespace Sys2Proof.Machine

/-- A tenant's enable and quotas (15 Table 15-4). -/
structure TenSet where
  en : Bool := false        -- 1 bit; 15 Table 15-4; 0
  qStreams : Nat := 0       -- 16 bit; 15 Table 15-4; 0
  qPal : Nat := 0           -- 32 bit; 15 Table 15-4; 0
  qShare : Nat := 0         -- 8 bit; 15 Table 15-4; 0
  qDram : Nat := 0          -- 32 bit, MiB; 15 Table 15-4; 0
  qQueue : Nat := 0         -- 32 bit; 15 Table 15-4; 0
  deriving DecidableEq, Repr

/-- A draw set entry (12 Table 12-3). -/
structure DrawSet where
  site : Nat
  blk0 : Nat
  nblk : Nat
  perSample : Bool
  deriving DecidableEq, Repr

/-- A kernel of a placed image (14 Table 14-3). -/
structure Kernel where
  kind : Nat
  form : Nat
  sf : Nat
  classes : Nat
  kMax : Nat
  entry : Nat
  len : Nat
  cyc : Nat
  cycPer : Nat
  stateUnits : Nat
  paramUnits : Nat
  qMin : Nat
  waitinMax : Nat
  initOfs : Nat
  e : Nat
  ePer : Nat
  palBase : Nat
  palPer : Nat
  gang : Nat
  outLayout : Nat
  draws : List DrawSet
  deriving DecidableEq, Repr

/-- A placed image (14 R338 to R340). -/
structure Image where
  tenant : Nat
  id : Nat                  -- IMAGE_ID
  keySlot : Nat
  mask : Nat                -- bench mask as placed
  kernels : List Kernel
  bundles : List Byte       -- its copy (21 R488)
  weights : List Byte
  state : List Byte
  reloc : List Nat
  palBytes : Nat
  slot : Option Nat := none -- flash slot it came from (21 R488)
  kts : List Nat            -- kernel table index of each kernel, the same on every tile
  bases : Tbl Nat           -- first bundle on each tile
  inits : Tbl (List Nat)    -- per tile, unit address of each kernel's initial state block
  wbase : Tbl Nat           -- per bench, byte address of its weight region
  deriving DecidableEq, Repr

/-- A dataset region (16 R389): its size and where it lies in the DRAM channels' address space and in BAR2. -/
structure Dataset where
  mib : Nat
  base : Nat                -- byte address, channel x 2^36 + offset
  bar2 : Nat                -- BAR2 offset
  deriving DecidableEq, Repr

/-- An output ring (16 R387). -/
structure Ring where
  ofs : Nat
  entries : Nat
  deriving DecidableEq, Repr

/-- A deferred command accepted and not ended (16 R378). -/
inductive Deferred where
  | image (source mask slot len ofs : Nat) (verifyEnd : Nat)
  | pair (p : Nat)
  | journal
  | patch (bytes : List Byte)
  | shutdown
  | store (slot len ofs : Nat)
  deriving DecidableEq, Repr

/-- A deferred command's ticket. -/
structure Ticket where
  tenant : Nat
  ticket : Nat
  what : Deferred
  deriving DecidableEq, Repr

/-- One write of a command that writes several Rumbe (16 R382). -/
structure WriteTo where
  mem : Nat                 -- member number less one
  reg : Nat
  words : List Nat
  old : List Nat            -- what was there
  deriving DecidableEq, Repr

/-- A command that writes several Rumbe, advanced by each ACK (16 R381, R382, R390). -/
structure Script where
  req : Req
  pair : Nat
  first : Nat := 0          -- first member, for the position of R382
  todo : List WriteTo
  done : List WriteTo := [] -- newest first
  undo : Option (Nat × Nat × Nat × Nat) := none -- mapped status, reason, RSTAT, position: writing back
  applied : List (Nat × List Nat) := [] -- register and words the Rumbe reports applied
  deriving DecidableEq, Repr

/-- Foreman (15, 16). -/
structure Foreman where
  tenants : Tbl TenSet := [] -- 15; 15 Table 15-4; disabled
  catchup : Nat := 25       -- 8 bit F; 02 R47; 25
  order : List Req := []    -- requests taken, in take order; 15 R362; empty
  urgent : List (Req × Nat) := [] -- urgent slot and its take time; 15 R365; empty
  current : Option Req := none -- request being executed on a chain; 15 R362; none
  script : Option Script := none -- its writes; 16 R382; none
  lastOp : Nat := 0         -- 16 bit, OPCODE of the command last begun; 21 Table 21-3; 0
  nextTicket : Nat := 0     -- 16 bit; 16 R378; 0
  tickets : List Ticket := [] -- deferred commands outstanding; 16 R378; none
  images : Tbl Image := []  -- by handle; 14 R340; none
  datasets : Tbl Dataset := [] -- per tenant; 16 R389; none
  rings : Tbl Ring := []    -- by tenant x 256 + RING; 16 R387; none
  patchBuf : Mem := []      -- 96.25 KiB; 16 R393; empty
  patchVer : Nat := 0       -- 32 bit running PATCH_VER; 15 R353; 0
  challenge : Option (List Byte) := none -- 32 bytes; 16 R394; none
  dbgOpen : Bool := false   -- JTAG debug; 16 R394; closed
  resetAt : Option (Nat × Nat) := none -- RESET SCOPE and when RSP_READY was set; 16 R379; none
  resetReq : Option (Nat × Nat) := none -- RESET SCOPE whose response waits (tenant 0 RSEQ); 16 R379; none
  discarded : List Nat := List.replicate 16 0 -- commands a CTRL reset discarded; 15 Edges of 15.5; 0
  restart : Bool := false   -- CTRL_RESTART is to be queued; 15 R364; 0
  deriving DecidableEq, Repr

end Sys2Proof.Machine
end

