-- ==== Sys2Proof/Machine/StLedger.lean ====
section
/-! DEFINITION. The state of the Ledger (07) and of the string and member records it works from (20 R461, 24 R530).
Field comments: width; source; reset. -/

namespace Sys2Proof.Machine

/-- A string's settings, as its KA record holds them (24 Table 24-8). -/
structure StrSet where
  pair : Nat := 0           -- 1 byte; 24 Table 24-8; 0
  first : Nat := 0          -- 1 byte; 24 Table 24-8; 0
  last : Nat := 0           -- 1 byte; 24 Table 24-8; 0
  head : Nat := 0           -- 1 byte; 24 Table 24-8; 0
  en : Bool := false        -- 1 byte; 24 Table 24-8; 0
  termSrc : Nat := 0        -- 1 byte; 07 Table 7-1; 0
  emptyN : Nat := 4         -- 1 byte; 07 Table 7-1; 4
  capGain : Nat := 8        -- 1 byte; 07 Table 7-1; 8
  cNom : Nat := 1000000     -- 32 bit; 07 Table 7-1; 1,000,000
  vFull : Nat := 35500      -- 16 bit; 07 Table 7-1; 35,500
  vEmpty : Nat := 28000     -- 16 bit; 07 Table 7-1; 28,000
  fullMargin : Nat := 200   -- 16 bit; 07 Table 7-1; 200
  resBot : Nat := 500       -- 16 bit; 07 Table 7-1; 500
  resTop : Nat := 200       -- 16 bit; 07 Table 7-1; 200
  tTaper : Nat := 120       -- 16 bit; 07 Table 7-1; 120
  lcTmax : Nat := 168       -- 16 bit; 07 Table 7-1; 168
  iTaper : Nat := 2000      -- 32 bit; 07 Table 7-1; 2,000
  iDb : Nat := 500          -- 32 bit; 07 Table 7-1; 500
  drvMode : Nat := 0        -- 1 byte; 04 Table 4-1; 0
  scdTh : Nat := 8          -- 1 byte; 04 Table 4-1; 8
  scdBlank : Nat := 3       -- 1 byte; 04 Table 4-1; 3
  dsatEn : Nat := 1         -- 1 byte; 04 Table 4-1; 1
  pchgEn : Nat := 1         -- 1 byte; 04 Table 4-1; 1
  vauxEn : Nat := 0         -- 1 byte; 04 Table 4-1; 0
  shunt : Nat := 100        -- 32 bit; 04 Table 4-1; 100
  pchgIdone : Nat := 1000   -- 32 bit; 04 Table 4-1; 1,000
  pchgTmin : Nat := 50      -- 16 bit; 04 Table 4-1; 50
  pchgTmax : Nat := 1000    -- 16 bit; 04 Table 4-1; 1,000
  almN : Nat := 2           -- 1 byte; 03 Table 3-2; 2
  aspEn : Nat := 1          -- 1 byte; 06 Table 6-8; 1
  tComm : Nat := 8          -- 1 byte; 06 Table 6-8; 8
  ovTh : Nat := 42500       -- 16 bit; 03 Table 3-2; 42,500
  uvTh : Nat := 25000       -- 16 bit; 03 Table 3-2; 25,000
  almHys : Nat := 500       -- 16 bit; 03 Table 3-2; 500
  eodGpio : Nat := 0        -- 1 byte; 16 MAP_GPIO; 0
  eocGpio : Nat := 0        -- 1 byte; 16 MAP_GPIO; 0
  pol : Nat := 0            -- 1 byte; 16 MAP_GPIO; 0
  deriving DecidableEq, Repr

/-- Learning cycle states (07 Table 7-4). -/
inductive LcSt where
  | idle | armed | running | done | disqualified
  deriving DecidableEq, Repr

/-- How the current of a string is taken (07 R160). -/
inductive Flow where
  | charging | discharging | rest
  deriving DecidableEq, Repr

/-- What the Ledger holds of a string beside its settings (07). -/
structure LString where
  qLast : Option (Int × Nat) := none -- Q_CUM, N_CUM last counted, 64 and 32 bit; 07 R159; no value
  seqLast : Option Nat := none -- 16 bit; 07 R161; none
  iLast : Option Int := none -- I_ALIGN last counted, mA; 07 R162; none
  iAt : Nat := 0            -- its arrival; 07 R162; 0
  iAlign : Option Int := none -- string current of the sweep, mA; 07 R166; invalid
  iRep : Option Int := none -- string current as of the last close, mA; 07 R166; none
  flow : Flow := .rest      -- 07 R160; rest
  counted : Bool := false   -- a head record was counted for the sweep in progress; 07 R170; 0
  chargedAt : Option Nat := none -- last counted sweep charging; 07 R168; none
  termPending : Bool := false -- accepted termination event; 07 R168; 0
  termDue : Bool := false   -- a counted sweep has closed since; 07 R168; 0
  headOk : Bool := false    -- the last closed sweep counted a head record; 16 Table 16-5; 0
  frozenSince : Option Nat := none -- CAL_FROZEN set since; 07 Table 7-3; none
  eod : Option Bool := none -- 07 R171, R172; UNKNOWN
  eoc : Option Bool := none -- 07 R171, R172; UNKNOWN
  lc : LcSt := .idle        -- 07 Table 7-4; IDLE
  lcReason : Nat := 0       -- code of Table 7-5; 07 R178; 0
  lcAt : Nat := 0           -- time of the arm or of entry to RUNNING; 07 R178; 0
  lcDisch : Bool := false   -- first discharging sweep seen; 07 R177; 0
  lcTmin : Option Int := none -- lowest valid temperature of the cycle; 07 Table 7-5; none
  lcTmaxSeen : Option Int := none -- highest; 07 Table 7-5; none
  tempAt : Nat := 0         -- last valid temperature; 07 Table 7-5; 0
  lcAbsQ : Nat := 0         -- sum of the magnitudes of charge, microcoulomb; 07 Table 7-5; 0
  lcPeak : Nat := 0         -- 250 microsecond units above 1 C; 07 Table 7-5; 0
  restSince : Option Nat := none -- at rest since; 07 Table 7-5; none
  lcRecharge : Nat := 0     -- microcoulomb; 07 Table 7-5; 0
  recAt : Nat := 0          -- last countable head record; 07 Table 7-5; 0
  gateSt : Option Nat := none -- GATE_ST of the last head record; 16 R395; none
  vOfs : Nat := 0           -- V_OFS of the last counted record, 0.1 microvolt; 07 Table 7-3; 0
  lgOvr : Bool := false     -- LG_OVR in the sweep's record; 07 Edges of 7.1; 0
  hflags : Nat := 0         -- HFLAGS of the last head record; 04 Table 4-5; 0
  held : Option StrSet := none -- Table 7-1 settings in force until the next counted sweep; 07 R160; none
  lcEnd : Option (Nat × LcSt) := none -- sweep in which the cycle was disqualified, and its state before; 07 R178; none
  deriving DecidableEq, Repr

/-- What the Ledger holds of a cell (07 R159). -/
structure LCell where
  qRem : Int := 0           -- 64 bit, microcoulomb; 07 R159; 0
  cL : Nat := 0             -- 25 bit, 0.1 mAh; 07 R159; 0
  a : Nat := 0              -- microcoulomb; 07 R159; 0
  uX : Nat := 0             -- microcoulomb; 07 R159; 0
  uOfs : Nat := 0           -- nanocoulomb; 07 R173; 0
  anchorAt : Option Nat := none -- time of the last anchor; 07 R159; none
  anchorOlder : Nat := 0    -- age at restore, s; 20 R465; 0
  kind : Nat := 0           -- 2 bit ANCHOR_KIND; 20 Table 20-3; 0
  valid : Bool := false     -- 1 bit; 07 R159; 0
  taperSince : Option Nat := none -- taper condition since; 07 R167; none
  taperHit : Bool := false  -- at a counted sweep it had lasted T_TAPER; 07 R167; 0
  emptyCnt : Nat := 0       -- to EMPTY_N; 07 R167; 0
  cyc : Bool := false       -- anchored in the cycle; 07 R177; 0
  d : Int := 0              -- net charge out since the full anchor; 07 R177; 0
  cycBal : Nat := 0         -- balance charge of the cycle; 07 R179; 0
  adj : Int := 0            -- soft re-anchor total; 07 R187; 0
  volt : Option Nat := none -- verified voltage of the sweep, 0.1 mV; 07 R170; none
  temp : Option Int := none -- feeder temperature, 0.1 degree; 03 R68; 0x8000
  flags : Nat := 0          -- feeder flags of the sweep; 11 (feeder entry); 0
  deriving DecidableEq, Repr

/-- What Broros holds of a member (20 R461, 07 R164, R183). -/
structure Member where
  serial : Nat := 0         -- 64 bit; 24 Table 24-9; 0
  modid : Nat := 0          -- 1 byte; 24 Table 24-9; 0
  nCells : Nat := 18        -- 1 byte; 24 Table 24-9; 18
  thEn : Nat := 0xFF        -- 1 byte; 24 Table 24-9; 0xFF
  thBeta : Nat := 3435      -- 16 bit; 24 Table 24-9; 3,435
  balNr : Nat := 128        -- 16 bit; 24 Table 24-9; 128
  balRcs : Nat := 100       -- 16 bit; 24 Table 24-9; 100
  balIpk : Nat := 6000      -- 16 bit; 24 Table 24-9; 6,000
  stored : Bool := false    -- its KA record is not all zero; 24 R531 Edges; 0
  thMap : List Nat := [0, 0, 1, 1, 2, 2, 2, 3, 3, 4, 4, 5, 5, 6, 6, 6, 7, 7] -- TH_MAP as read; 03 R67; Table 3-4
  reached : Bool := false   -- reachable; 06 R150; 0
  unresponsive : Bool := false -- marked by R138; 06 R138; 0
  isolated : Bool := false  -- cut off by R491; 21 R491; 0
  absentSince : Option Nat := none -- absence shown since; 07 R183; none
  absent : Bool := false    -- absence above 2 s, swap detection armed; 07 R183; 0
  counted : Bool := false   -- QMB has a counted baseline; 07 R163; 0
  qbKnown : Nat := 0        -- 18 bit, counters with a counted baseline; 07 R163; 0
  qb : List Int := List.replicate 18 0 -- 48 bit each, last counted; 07 R159; 0
  qmb : Int := 0            -- 48 bit, last counted; 07 R159; 0
  xferId : Nat := 0         -- 16 bit, last counted; 07 R159; 0
  balCell : Nat := 0        -- BAL_CELL of the last counted record; 07 R164; 0
  needRead : Bool := false  -- a balance read is due; 07 R164; 0
  restoreRead : Bool := false -- the reads of R466 are due; 20 R466; 0
  sent : List (Nat × Nat) := [] -- cells and I_SET of the schedule entries sent, newest first; 07 R164; none
  balOn : Bool := false     -- the last counted record showed a transfer in progress; 07 R164; 0
  gapFor : Nat := 0         -- time base counts of its last restart's gap; 07 R164; 0
  gapId : Nat := 0          -- 16 bit, XFER_ID last counted before it; 07 R164; 0
  gapSent : List (Nat × Nat) := [] -- the entries sent before it; 07 R164; none
  gapCell : Nat := 0        -- cell that took its gap term, 0 none; 07 R164; 0
  lastAt : Nat := 0         -- arrival of the last record; 07 R164; 0
  wiring : Nat := 0         -- 4 bit, WIRING flags of its last record; 16 Table 16-12; 0
  wokeSeen : Bool := false  -- the record in hand carries WOKE; 06 R153; 0
  jabCnt : Nat := 0         -- JAB_CNT last read; 21 R491; 0
  deriving DecidableEq, Repr

/-- What the Ledger logs that no fault code of 21 names (07 R168, R178; log 56). -/
inductive LedgerNote where
  | termination (str at_ : Nat)     -- a termination event that is not accepted
  | reason (str code at_ : Nat)     -- a reason of Table 7-5 that arose for a cycle
  deriving DecidableEq, Repr

/-- The Ledger (07): strings 0 to 63, cells by global index, members by pair x 32 + h - 1. -/
structure Ledger where
  set : Tbl StrSet := []    -- 64 records; 20 R461; defaults
  str : Tbl LString := []   -- 64; 07 R159; no value
  cell : Tbl LCell := []    -- 2,304; 07 R159; invalid
  mem : Tbl Member := []    -- 128; 20 R461; defaults
  snapAt : Nat := 0         -- time of the last snapshot; 20 R467; 0
  gpioOut : Nat := 0        -- 8 bit, levels driven; 07 R172; 0
  log : List LedgerNote := [] -- oldest first; 07 R168, R178; empty
  snapDue : Option Nat := none -- cause of a snapshot that waits for the end of a sweep; 20 R467; none
  restored : Bool := false  -- counting; 17 Table 17-6; 0
  restoreJournal : Bool := false -- the snapshot came from the journal; 20 R466; 0
  restoreAge : Nat := 0     -- its RTC age, s; 20 R466; 0
  deriving DecidableEq, Repr

end Sys2Proof.Machine
end

