-- ==== Sys2Proof/Machine/StStream.lean ====
section
/-! DEFINITION. The state of the stream scheduler, the queue pool, the feeder, swap engine and Stipple staging (11,
12), and of scan jobs (10). An input entry is a list of 16 lanes. Field comments: width; source; reset. -/

namespace Sys2Proof.Machine

/-- A copy the swap engine makes (11 R281, R283 to R285). -/
inductive XferKind where
  | bringIn | writeBack | checkpoint
  | migrate (tile unit : Nat)        -- to this place
  deriving DecidableEq, Repr

/-- A copy under way. -/
structure Xfer where
  kind : XferKind
  startAt : Nat
  units : Nat
  cancelled : Bool := false -- paused during a bring-in (11 Edges of 11.6)
  deriving DecidableEq, Repr

/-- A settings or parameter write that waits for the moment between two steps (16 R386). -/
structure Between where
  set : Option (Nat × Nat × Bool × Nat × Nat) := none -- CLASS, K, SWAP, PERIOD_US, PHASE_US
  param : List (Nat × List Byte) := []                -- first unit, bytes
  home : Option (Nat × Nat) := none                   -- new Palette place of a stream that leaves SWAP
  deriving DecidableEq, Repr

/-- What the feeder holds for a FEED stream (11 11.4). -/
structure Feed where
  per : Nat := 0            -- period, time base counts; 11 R276; 0
  fresh : Option Nat := none -- the first sweep it takes is due at or after this; 11 R265, R266; none
  due : Option Nat := none  -- due time of the last kept sweep; 11 R265; none
  n0 : Option Nat := none   -- sweep count of the first kept sweep; 11 R275; none
  last : List Nat := []     -- lanes of the previous entry; 11 R277; zero
  at_ : Option Nat := none  -- time base of the previous input's sweep; 11 Table 11-4; none
  volt : Option Nat := none -- voltage of the previous input, 0.1 mV; 11 Table 11-4; none
  sweeps : Nat := 0         -- sweeps since the previous input; 11 Table 11-4; 0
  charge : Int := 0         -- microcoulomb counted since; 11 Table 11-4; 0
  bal : Int := 0            -- balance charge since, microcoulomb; 11 Table 11-4; 0
  deriving DecidableEq, Repr

/-- A stream table entry (11 Table 11-1) and what the scheduler keeps beside it. -/
structure Stream where
  valid : Bool := false     -- 1 bit; 11 Table 11-1; 0
  den : Bool := false       -- 1 bit; 11 Table 11-1; 0
  reset : Bool := false     -- 1 bit; 11 Table 11-1; 0
  resetNew : Bool := false  -- RESET set while a step is in flight; 11 R269, 08 Edges of 8.8; 0
  cls : Nat := 0            -- 2 bit; 11 Table 11-1; 0
  feed : Bool := false      -- 1 bit; 11 Table 11-1; 0
  res : Bool := false       -- 1 bit; 11 Table 11-1; 0
  swap : Bool := false      -- 1 bit; 11 Table 11-1; 0
  noin : Bool := false      -- 1 bit; 11 Table 11-1; 0
  tenant : Nat := 0         -- 4 bit; 11 Table 11-1; 0
  k : Nat := 1              -- 4 bit; 11 Table 11-1; 1
  kt : Nat := 0             -- 5 bit; 11 Table 11-1; 0
  image : Nat := 0          -- 16 bit; 11 Table 11-1; 0
  tile : Nat := 0           -- 6 bit PAL_LOC; 11 Table 11-1; 0
  unit : Nat := 0           -- 12 bit PAL_LOC unit address; 11 Table 11-1; 0
  storePtr : Option Nat := none -- 32 bit; 11 Table 11-1; 0xFFFF_FFFF
  paramUnits : Nat := 0     -- 5 bit; 11 Table 11-1; 0
  decim : Nat := 1          -- 8 bit; 11 Table 11-1; 1
  behind : Bool := false    -- 1 bit; 11 Table 11-1; 0
  sat : Bool := false       -- 1 bit; 11 Table 11-1; 0
  nan : Bool := false       -- 1 bit; 11 Table 11-1; 0
  retry : Bool := false     -- 1 bit; 11 Table 11-1; 0
  overflow : Bool := false  -- 1 bit; 11 Table 11-1; 0
  pauseReason : Nat := 0    -- 8 bit; 11 Table 11-2; 0
  out : Nat := 0            -- 32 bit; 11 Table 11-3; 0
  period : Nat := 0         -- 32 bit; 11 Table 11-1; 0
  phase : Nat := 0          -- 32 bit; 11 Table 11-1; 0
  step : Nat := 0           -- 48 bit; 11 Table 11-1; 0
  qdepth : Nat := 2         -- 7 bit; 11 Table 11-1; 2
  qbase : Nat := 0          -- 17 bit; 11 Table 11-1; 0
  qhead : Nat := 0          -- 6 bit; 11 Table 11-1; 0
  queue : List (List Nat) := [] -- pool entries waiting, oldest first; 11 R271; empty
  seed : Nat := 0           -- 64 bit; 11 Table 11-1; 0
  nomDue : Nat := 0         -- 48 bit; 11 Table 11-1; 0
  eligOfs : Nat := 0        -- 40 bit; 11 Table 11-1; 0
  lagUs : Nat := 0          -- 32 bit; 11 Table 11-1; 0
  lateCnt : Nat := 0        -- 8 bit; 11 Table 11-1; 0
  kernel : Nat := 0         -- index of the kernel in its image; 16 Table 16-7; 0
  ending : Bool := false    -- STREAM_END waits for the step in flight; 11 R268; 0
  xfer : Option Xfer := none -- copy under way; 11 R281 to R285; none
  slot : Option Nat := none -- its swap lane or slot; 11 R283, 14 R344; none
  stored : Option Nat := none -- STEP when its store area was last written; 21 Table 21-5; none
  ckptAt : Nat := 0         -- last checkpoint; 11 R285; 0
  ckptWait : Bool := false  -- checkpoint taken after the next commit; 11 R285; 0
  since : Option Nat := none -- first commit since its last RESET; 13 R315; none
  admAt : Nat := 0          -- time of its admission; 01 R25; 0
  between : Between := {}   -- 16 R386; none
  fd : Feed := {}
  deriving DecidableEq, Repr

/-- A Stipple slot: (SITE, SAMPLE, BLOCK) and sixteen class states (12 R297). -/
structure StipSlot where
  site : Nat
  sample : Nat
  block : Nat
  states : List Nat
  deriving DecidableEq, Repr

/-- A STAGE or ACTIVE bank (12 R297). -/
structure StipBank where
  work : Work
  step : Nat
  slots : List StipSlot := []
  doneAt : Option Nat := none -- a request under way ends no earlier than this (12 R299)
  deriving DecidableEq, Repr

/-- A swap lane or a BATCH swap slot of a bench (14 R344). -/
structure Lane where
  tenant : Nat
  tile : Nat
  unit : Nat
  units : Nat
  batch : Bool := false
  ch : Nat := 0             -- DRAM channel of its streams' state store areas
  user : Option Nat := none -- stream whose area is in it
  deriving DecidableEq, Repr

/-- State of a scan job (16 Table 16-9). -/
inductive JobSt where
  | queued | running | paused | ended
  deriving DecidableEq, Repr

/-- A work chunk in flight or aborted once (10 R246, R254). -/
structure Chunk where
  phase : Nat               -- Table 10-5 code
  group : Nat
  chunk : Nat               -- chunk j of the sequence
  first : Nat               -- first element (CARRY: first aggregate)
  count : Nat               -- elements (aggregates)
  index : Nat               -- within its phase and group
  tile : Nat := 0
  unit : Nat := 0           -- its area in that tile's Palette
  units : Nat := 0
  span : Nat := 0           -- MERGE: elements its result covers
  gang : Nat := 0           -- size of the gang it ran in (10 R248)
  retry : Bool := false     -- it has aborted once
  flying : Bool := true
  deriving DecidableEq, Repr

/-- A scan job (10 Table 10-4, 10.7). -/
structure Job where
  tenant : Nat
  form : Nat                -- 8 bit; 10 Table 10-4
  seqMode : Bool            -- MODE; 10 Table 10-4
  log2c : Nat               -- 10 Table 10-4
  sf : Nat                  -- 10 Table 10-4
  t : Nat                   -- 10 Table 10-4
  groups : Nat              -- 10 Table 10-4
  tilesMax : Nat            -- 10 Table 10-4
  image : Nat               -- handle of the image named
  inOfs : Nat
  outOfs : Nat
  h0Ofs : Option Nat
  scratchOfs : Nat
  coefOfs : Nat
  outSel : Nat
  g : Nat                   -- work chunk size; 10 R246
  st : JobSt := .queued     -- 16 JOB_STATUS
  endCode : Nat := 0        -- 10 Table 10-9
  sat : Bool := false
  nan : Bool := false
  phase : Nat := 1          -- phase of the last work chunk completed or begun; 16 JOB_STATUS
  doneCnt : Nat := 0        -- work chunks done; 16 JOB_STATUS
  doneOf : List Chunk := [] -- work chunks completed; 10 R256
  fly : List Chunk := []    -- in flight or to be retried; 10 R254
  startAt : Nat := 0        -- time of submission; 16 JOB_STATUS
  endAt : Nat := 0
  pauseReason : Nat := 0    -- 11 Table 11-2 codes
  pauseWant : Bool := false -- pauses at the next boundary; 10 R253
  ctrl : Bool := false      -- paused by a CTRL reset, restored at Foreman's start; 10 R256
  delWant : Bool := false   -- ends at the next boundary; 10 Edges of 10.7
  carry : Tbl (List Byte) := [] -- state carried by an SF = 1 job, per group; 10 R245; none
  dataChanged : Bool := false -- 10 R255
  refitAt : Option Nat := none -- paused since G = 64 no longer fits; 10 Table 10-9
  deriving DecidableEq, Repr

/-- BATCH and MAINT tile cycles used, for the last second (11 R279). -/
structure Usage where
  at_ : Nat
  bench : Nat
  tenant : Nat
  cls : Nat
  cycles : Nat
  deriving DecidableEq, Repr

/-- COMPUTE's scheduler, weight stores and staging banks. -/
structure Sched where
  streams : Tbl Stream := [] -- 16,384 entries; 11 11.1; not VALID
  wstore : List Mem := List.replicate 4 [] -- 4 MiB per bench; 08 8.1; zero
  stage : Tbl StipBank := [] -- STAGE bank per tile; 12 R297; empty
  active : Tbl StipBank := [] -- ACTIVE bank per tile; 12 R297; empty
  stageWait : List (Nat × Work) := [] -- staging requests the unit has yet to take: tile, work; 12 R299; none
  stagingFree : Nat := 0    -- when the staging unit ends its last request; 12 R299; 0
  lanes : Tbl Lane := []    -- swap lanes and slots; 14 R344; none
  jobs : Tbl Job := []      -- scan jobs; 10 10.5; none
  usage : List Usage := []  -- 11 R279; none
  restores : Tbl (Nat × Nat × Nat) := [] -- streams restored per tenant in the reset under way; 21 R489; none
  turn : Tbl Nat := []      -- number last served, by bench x 32 + tenant x 2 + MAINT; 11 R279; none
  deriving DecidableEq, Repr

end Sys2Proof.Machine
end

