-- ==== Sys2Proof/Machine/StSys.lean ====
section
/-! DEFINITION. Gesso, clocks, benches, DRAM, thermal and power state (02, 19, 20.8, 21.6). Field comments: width;
source; reset. -/

namespace Sys2Proof.Machine

/-- What the fuse read and the variant leave (19 R454, R455): all zero until the first read. -/
structure Fuses where
  serial : Nat := 0         -- 64 bit; 19 Table 19-5; fuse
  variant : Nat := 0        -- 8 bit; 19 Table 19-5; fuse
  benches : Nat := 0        -- 4 bit; 19 R455; fuse
  links : Nat := 0          -- 6 bit; 19 R455; fuse
  ports : Nat := 0          -- 8 bit; 19 R455; fuse
  channels : Nat := 0       -- 2 bit; 19 R455; fuse
  dramMib : Nat := 0        -- MiB; 19 R455; fuse
  ceilMhz : Nat := 0        -- 12 bit; 19 R455; fuse
  envelope : Nat := 0       -- 10 bit, 0.1 W; 19 R455; fuse
  tsTrim : Nat := 0         -- 72 bit; 19 Table 19-5; fuse
  pwrCal : Nat := 0         -- 64 bit; 19 Table 19-5; fuse
  deriving DecidableEq, Repr

/-- Where Gesso stands (19 R438). -/
inductive Boot where
  | off                     -- SHELL in reset
  | halted                  -- fuse CRC failed on three reads
  | pll                     -- fuses read, waiting for lock
  | kaCheck                 -- PLLs locked, KA check running
  | parallel                -- from T_K on
  deriving DecidableEq, Repr

/-- What a bench does (19 19.2, 21 R495). -/
inductive BenchPhase where
  | absent                  -- fused out
  | off                     -- power gate closed, waiting for its wave
  | opening                 -- staged opening
  | testing                 -- self-test
  | passed                  -- self-test passed, waiting for Foreman to place its images again
  | live                    -- BENCH_n set
  | closed                  -- gate closed after a failed test
  deriving DecidableEq, Repr

/-- One bench (19, 02). -/
structure Bench where
  phase : BenchPhase := .absent -- 19 R442 to R444; absent until the fuse read
  wave : Nat := 0           -- time its gate starts to open; 19 R442; 0
  openAt : Nat := 0         -- time its opening began; 19 R442; 0
  testAt : Nat := 0         -- time its test began; 19 R443; 0
  k : Nat := 16             -- 5 bit divider; 02 Table 2-2; 16
  live : Nat := 0           -- 16 bit, tiles live; 19 R444; 0
  failItem : Nat := 0       -- item of Table 19-2 that failed; 21 Table 21-3; 0
  corrected : Nat := 0      -- corrected errors of its Palette, weight store and Stipple banks; 08 R200; 0
  retest : Bool := false    -- the test follows a reset of the bench; 19 R445; 0
  deriving DecidableEq, Repr

/-- A DRAM region's state (19 R446). -/
inductive RegionSt where
  | pending | testing | released | mappedOut
  deriving DecidableEq, Repr

/-- One DRAM channel (19 19.3). -/
structure Channel where
  up : Bool := false        -- trained; 19 R446; 0
  mib : Nat := 0            -- usable MiB below the spare area; 19 R446; 0
  regions : List RegionSt := [] -- 256 MiB each; 19 R446; none
  retrain : Bool := false   -- it went down at run time; 19 Table 19-9; 0
  spareBad : Nat := 0       -- 256 bit; 20 Table 20-2; 0
  deriving DecidableEq, Repr

/-- Watchman's thermal state (21 21.6). -/
structure Thermal where
  tj : Option Int := none   -- 16 bit, 0.1 degree; 24 Table 24-2 TJ_MAX; 0x8000
  sensor : Nat := 0         -- sensor of that reading; 21 Table 21-3; 0
  ceil : Nat := 16          -- 5 bit; 24 Table 24-2 THERM_CEIL; 16
  ceilAt : Nat := 0         -- time of the last ceiling step; 21 R494; 0
  warn : Bool := false      -- 1 bit; 24 Table 24-2 T_WARN_ACT; 0
  opmax : Bool := false     -- 1 bit; 24 Table 24-2 OPMAX_ACT; 0
  nvm : Bool := false       -- 1 bit; 24 Table 24-2 T_NVM_ACT; 0
  shut : Bool := false      -- 1 bit; 24 Table 24-2 T_SHUT_ACT; 0
  shutAt : Nat := 0         -- time the benches were stopped; 21 R485, R495; 0
  abs : Bool := false       -- T_ABS holds SHELL in reset; 21 Table 21-8; 0
  deriving DecidableEq, Repr

/-- The power governor (19 19.8). -/
structure Governor where
  pm : Nat := 0             -- 16 bit, 10 mW; 24 Table 24-2 P_M; 0
  shares : List Nat := []   -- P_M share per bench; 19 Table 19-7; none
  hold : Bool := false      -- 1 bit; 24 Table 24-2 GOV_HOLD; 0
  lowSince : Option Nat := none -- P_M below 0.90 E since; 19 Table 19-7; none
  overSince : Option Nat := none -- P_M at or above E since; 19 Table 19-7; none
  quietSince : Option Nat := none -- P_M below 0.85 E since; 19 Table 19-7; none
  deriving DecidableEq, Repr

/-- Gesso, clocks and reset domains (02, 19, 21). -/
structure Sys where
  boot : Boot := .off       -- 19 R438; SHELL in reset
  powerGood : Bool := false -- PWRGOOD pin; 23 R511; low
  fuses : Fuses := {}
  fuseReads : Nat := 0      -- reads attempted; 21 Table 21-3; 0
  locked : List Pll := []   -- PLLs in lock; 02 Table 2-2; none
  lost : List Pll := []     -- PLLs that lost lock and have not relocked; 02 R51; none
  tbZero : Nat := 0         -- model time at which the time base was zeroed; 02 R32; 0
  tkAt : Nat := 0           -- time of T_K; 19 R438; 0
  kaSource : Nat := 0       -- boot clamp SOURCE; 15 R372; 0
  bootClamped : Bool := false -- BOOT_CLAMP is to be queued; 15 R372; 0
  ctrlUp : Bool := false    -- Foreman started; 02 Table 2-4; in reset
  ctrlResetAt : Nat := 0    -- time of the last CTRL reset; 02 R44; 0
  computeUp : Bool := false -- PLL_T locked since T_K; 02 Table 2-6; in reset
  schedReset : Bool := false -- a whole COMPUTE reset holds the scheduler; 02 Table 2-4, R42; 0
  benches : List Bench := List.replicate 4 {}
  channels : List Channel := List.replicate 2 {}
  levelState : Nat := 1     -- 1 byte; 24 Table 24-7 LEVEL_STATE; 1
  levelOther : Nat := 1     -- 1 byte; 24 Table 24-7 LEVEL_OTHER; 1
  patches : List Nat := []  -- up to 256 words; 19 Table 19-4; empty
  stateStoreReady : Bool := false -- 1 bit; 17 Table 17-6 bit 7; 0
  stippleOk : Bool := false -- 1 bit; 17 Table 17-6 bit 4; 0
  stippleBad : Option Nat := none -- class that failed; 21 Table 21-3; none
  ledgerReady : Bool := false -- 1 bit; 17 Table 17-6 bit 0; 0
  assayerReady : Bool := false -- 1 bit; 17 Table 17-6 bit 1; 0
  memtestDone : Bool := false -- 1 bit; 17 Table 17-6 bit 26; 0
  thermal : Thermal := {}
  gov : Governor := {}
  crossDiscards : List Nat := List.replicate 24 0 -- discard counter per crossing; 02 R42; 0
  crossFull : List Nat := [] -- crossings whose overflow is recorded; 02 R39; none
  deriving DecidableEq, Repr

end Sys2Proof.Machine
end

