-- ==== Sys2Proof/Machine/StTile.lean ====
section
/-! DEFINITION. The state of a tile (08, 09). Lanes are lists of 64 patterns. Field comments: width; source; reset. -/

namespace Sys2Proof.Machine

/-- Codes of Table 8-9 as TILE_ABORT carries them, numbered in its order from 1 (log 20). -/
inductive AbortCode where
  | illegalOp | loopFault | kernelBounds | stepOverrun | stallTimeout | leaseFault | leaseLost | memUncorr | kstoreParity
  deriving DecidableEq, Repr

/-- A kernel table entry (08 Table 8-4). -/
structure KEntry where
  valid : Bool := false     -- 1 bit; 08 Table 8-4; 0
  entry : Nat := 0          -- 10 bit; 08 Table 8-4; 0
  len : Nat := 1            -- 11 bit; 08 Table 8-4; 1
  cycMax : Nat := 1         -- 32 bit; 08 Table 8-4; 1
  initBase : Nat := 0       -- 12 bit; 08 Table 8-4; 0
  stateUnits : Nat := 1     -- 8 bit; 08 Table 8-4; 1
  bankMask : Nat := 0       -- 16 bit; 08 Table 8-4; 0
  deriving DecidableEq, Repr

/-- Where a result lands. -/
inductive Dest where
  | v (n : Nat) (lanes : List Nat)
  | a (n : Nat) (lanes : List Nat)
  | h (n : Nat) (first : Nat) (lanes : List Nat)   -- lanes from `first` on
  | x (n : Nat) (val : Nat)
  | pal (tile addr : Nat) (bytes : List Byte)      -- byte address in a slice of the bench
  deriving DecidableEq, Repr

/-- A result in flight (08 R192): the cycle it lands in and the rank of its slot (higher wins, R191). -/
structure InFlight where
  land : Nat
  rank : Nat
  dest : Dest
  deriving DecidableEq, Repr

/-- An active loop (08 R194). -/
structure LoopFrame where
  n : Nat
  start : Nat
  stop : Nat
  deriving DecidableEq, Repr

/-- Why a tile stalls (08 R196). -/
inductive Stall where
  | input
  | barrier (mask tag : Nat)
  | lease (tile bank : Nat)
  deriving DecidableEq, Repr

/-- A step or work chunk in a tile. -/
structure Run where
  work : Work
  tenant : Nat := 0
  cls : Nat := 0            -- 0 ONLINE, 1 BATCH, 2 MAINT (08 Table 8-7)
  kt : Nat := 0             -- kernel table index
  kt0 : KEntry := {}        -- the entry as dispatched
  cycMax : Nat := 1         -- issue cycles allowed (08 R199)
  pc : Nat := 0
  cycle : Nat := 1          -- issue cycle in progress
  issued : Nat := 0         -- slots of the bundle already issued, a bit per rank
  nextPc : Option Nat := none -- set by a LOOP with N = 0
  newLoop : Option (LoopFrame × Nat) := none -- a LOOP of this bundle and its count
  v : Tbl (List Nat) := []  -- 64 x 16 bit each; 08 Table 8-1; zero
  a : Tbl (List Nat) := []  -- 64 x 32 bit each; 08 Table 8-1; zero
  h : Tbl (List Nat) := []  -- 64 x 40 bit each; 08 Table 8-1; zero
  x : Tbl Nat := []         -- 32 bit each; 08 Table 8-1; zero
  l : Tbl Nat := []         -- 17 bit each; 08 Table 8-1; zero
  loops : List LoopFrame := [] -- innermost first
  flight : List InFlight := []
  stall : Option Stall := none
  stallAt : Nat := 0        -- time the stall began
  stalled : Nat := 0        -- time already stalled in this step
  startAt : Nat := 0        -- time of dispatch
  kLow : Nat := 16          -- lowest divider of its bench since dispatch (21 Table 21-4)
  wasReset : Bool := false  -- dispatched with the reset flag
  sat : Bool := false
  nan : Bool := false
  ended : Bool := false     -- ENDSTEP issued
  out : List Nat := []      -- lanes 0 to 15 of V30 as ENDSTEP read them
  taken : Nat := 0          -- queue entries the step has taken
  input : List Nat := []    -- input entry loaded at dispatch; 08 R205; none
  due : Nat := 0            -- NOM_DUE at dispatch; 11 R287; 0
  moved : Bool := false     -- NOM_DUE was set anew since dispatch; 11 R265, R273; 0
  gone : Bool := false      -- the queue was emptied since dispatch; 11 R266, R273; 0
  leaseLost : Bool := false -- a lease ended while its clock was stopped: it aborts on resuming (21 R495)
  held : List (Nat × Nat) := [] -- remote leases (tile of the bench, bank)
  deriving DecidableEq, Repr

/-- A lease request waiting (08 R202). -/
structure LeaseReq where
  bank : Nat
  who : Holder
  at_ : Nat                 -- time it arrived
  deriving DecidableEq, Repr

/-- One tile (08 Table 8-1). -/
structure Tile where
  out : Bool := false       -- taken out of dispatch; 08 R209; 0
  outCode : Nat := 0        -- code of Table 8-9; 21 Table 21-3; 0
  kstore : Mem := []        -- 64 KiB; 08 Table 8-1; zero
  ktab : Tbl KEntry := []   -- 32 entries; 08 Table 8-1; not VALID
  pal : Mem := []           -- 512 KiB; 08 Table 8-1; zero
  holders : Tbl Holder := [] -- 16 banks; 08 8.7; HOME
  leaseAt : Tbl Nat := []   -- time each lease was granted; 08 Table 8-6; none
  requests : List LeaseReq := [] -- lease requests in arrival order; 08 R202; empty
  run : Option Run := none  -- step or chunk in the tile; 08 R204; idle
  widen : Tbl Nat := []     -- BANK_MASK bits that wait for the end of a dispatch, per entry; 14 R339, 08 R198; none
  corrected : List Nat := [] -- times of the corrections of the last 1 s; 08 Table 8-9; none
  idleAt : Nat := 0         -- time it became idle; 21 Table 21-4; 0
  deriving DecidableEq, Repr

end Sys2Proof.Machine
end

