-- ==== Sys2Proof/Machine/State.lean ====
section
/-! DEFINITION. The state of the block as plain data: everything spec/ gives Broros, its hosts' window and its Rumbe,
and the queue of waiting commands. Field comments: width; source; reset. -/

namespace Sys2Proof.Machine

/-- READY, INT_N routing and the identification words Foreman writes (17, 24 24.2 to 24.4). -/
structure HostRegs where
  ready : Nat := 0          -- 64 bit; 17 Table 17-6; 0
  rdyIe : Nat := 0          -- 64 bit; 17 R407; 0 (SHELL)
  rdyRise : Nat := 0        -- 64 bit; 17 R407; 0 (SHELL)
  rdyFall : Nat := 0        -- 64 bit; 17 R407; 0 (SHELL)
  newAt : Nat := 0          -- moment of the two masks below; 00 R10; 0
  newRise : Nat := 0        -- bits of RDY_RISE set at that moment; 00 R10; none
  newFall : Nat := 0        -- bits of RDY_FALL set at that moment; 00 R10; none
  intnSel : Nat := 1        -- 16 bit; 17 Table 17-7; 0x0001 (SHELL)
  intnEn : Bool := true     -- 1 bit; 17 Table 17-7; 1 (SHELL)
  intnLow : Bool := false   -- INT_N pin driven low; 17 R410; released
  ifl : Nat := 0            -- 16 bit; 24 Table 24-2, 17 R398; 0 (SHELL)
  romVer : Nat := 0         -- 16 bit; 24 Table 24-2, 17 R398; 0 (SHELL)
  patchVer : Nat := 0       -- 32 bit; 24 Table 24-2, 17 R398; 0 (SHELL)
  deriving DecidableEq, Repr

/-- The fault log (21 21.2). -/
structure FaultLog where
  entries : List FaultEntry := [] -- up to 1,024, oldest first; 21 R481; empty (SHELL)
  nextSeq : Nat := 0        -- 32 bit; 21 R481; 0 (SHELL)
  faultN : Bool := false    -- FAULT_N driven low; 21 R480; released (SHELL)
  crit : Bool := false      -- 1 bit CRIT_SINCE_CLEAR; 24 Table 24-4; 0 (SHELL)
  deriving DecidableEq, Repr

/-- The block. -/
structure State where
  pending : List Instr := [] -- commands waiting, first in first out; empty
  now : Nat := 0            -- time, counts of 1/48 microsecond; the model's own (log 1); 0
  free : Nat := 0           -- draws of free values taken; the model's own (log 10); 0
  out : List Output := []   -- what the last command put out; the model's own (log 3); empty
  sys : Sys := {}
  ka : Ka := {}
  flash : Flash := {}
  journal : Journal := {}
  host : HostRegs := {}
  ports : Tbl TenantPort := [] -- mailbox pairs 0 to 15; 15 Table 15-5; zero
  pcie : Pcie := {}
  log : FaultLog := {}
  foreman : Foreman := {}
  pairs : List Pair := List.replicate 4 {}
  eopen : EopenPin := {}
  ledger : Ledger := {}
  sched : Sched := {}
  tiles : Tbl Tile := []    -- 64; 08 Table 8-1; zero
  dram : List Mem := List.replicate 2 [] -- per channel; 19 R446; zero (log 5)
  assayer : Assayer := {}
  fabric : Fabric := {}
  rumbes : Tbl Rumbe := []  -- 128, by pair x 32 + h - 1; 01 R18; as after POR
  deriving DecidableEq, Repr

/-- Why the block stops with a fault. -/
inductive Fault where
  /-- An access to an address the spec says does not exist. Raised by no meaning: every port of the block answers
  such an access itself (17 R396, R400). Safe. -/
  | noAddress (address : Nat)
  deriving DecidableEq, Repr

/-- Why a command has no meaning. -/
inductive Refusal where
  /-- The command is not modelled yet; raised by an arm of exec only. Safe. -/
  | notModelled (mnemonic : String)
  deriving DecidableEq, Repr

/-- The block right after reset: power good has not risen, every Broros domain is in reset, KA has just lost its supply,
the flash is erased, each Rumbe is as after POR (00 R11, R12). -/
def State.reset : State := {}

end Sys2Proof.Machine
end

