-- ==== Sys2Proof/Machine/Flags.lean ====
section
/-! DEFINITION. The flags a host sees: READY (17 Table 17-6), INT_STAT, the interrupt lines and messages (17 R408 to
R410), FAULT status (24 Table 24-4). -/

namespace Sys2Proof.Machine

/-- Tenant n's port. -/
def State.port (s : State) (n : Nat) : TenantPort := tblGet {} s.ports n
/-- Change tenant n's port. -/
def State.updPort (s : State) (n : Nat) (f : TenantPort → TenantPort) : State :=
  { s with ports := tblSet n (f (s.port n)) s.ports }
/-- W1C bits that were set at the moment `now` (00 R10). -/
def setNow (now : Nat) (p : TenantPort) : JustSet := if p.new.at_ = now then p.new else { at_ := now }
/-- A device event sets W1C bits of a port: the registers, and the bits set at this moment (00 R10). -/
def State.portSet (s : State) (n : Nat) (f : TenantPort → TenantPort) (g : JustSet → JustSet) : State :=
  s.updPort n (fun p => { f p with new := g (setNow s.now p) })
/-- Pair p. -/
def State.pair (s : State) (p : Nat) : Pair := s.pairs.getD p {}
/-- Change pair p. -/
def State.updPair (s : State) (p : Nat) (f : Pair → Pair) : State := { s with pairs := modAt s.pairs p f }
/-- Change the Gesso and clock state. -/
def State.updSys (s : State) (f : Sys → Sys) : State := { s with sys := f s.sys }
/-- Bench b. -/
def State.bench (s : State) (b : Nat) : Bench := s.sys.benches.getD b {}
/-- Change bench b. -/
def State.updBench (s : State) (b : Nat) (f : Bench → Bench) : State :=
  s.updSys (fun y => { y with benches := modAt y.benches b f })
/-- Bench b is live: BENCH_b is set. -/
def State.benchLive (s : State) (b : Nat) : Bool := s.sys.computeUp && (s.bench b).phase == .live
/-- SHELL is out of reset: Gesso has read the fuses. -/
def State.shellUp (s : State) : Bool := s.sys.boot != .off && s.sys.boot != .halted

/-- Function usable per READY bit (17 Table 17-6). -/
def readyBit (s : State) (i : Nat) : Bool :=
  if i = 0 then s.sys.ledgerReady
  else if i = 1 then s.sys.assayerReady
  else if i = 2 then s.sys.ctrlUp
  else if i = 3 then s.sys.computeUp && (List.range 4).any (fun b => s.benchLive b)
  else if i = 4 then s.sys.stippleOk
  else if i = 5 then s.flash.density.isSome && s.journal.scanned
  else if i = 6 then s.fabric.ready
  else if i = 7 then s.sys.stateStoreReady
  else if i < 12 then (s.pair (i - 8)).ready
  else if i < 16 then s.benchLive (i - 12)
  else if i < 18 then
    let c := s.sys.channels.getD (i - 16) {}
    c.up && c.regions.any (· == .released)
  else if i < 24 then (s.fabric.links.getD (i - 18) {}).st == .up
  else if i = 24 then s.ka.rtcValid
  else if i = 25 then s.pcie.linkUp
  else if i = 26 then s.sys.memtestDone
  else false
/-- READY as its functions stand. -/
def readyNow (s : State) : Nat := (List.range 27).foldl (fun v i => v + b2n (readyBit s i) * 2 ^ i) 0
/-- Bits of `a` that are clear in `b`. -/
def clearFrom (a b : Nat) : Nat := a - (a &&& b)
/-- Refresh READY: each rise sets its RDY_RISE bit, each fall its RDY_FALL bit (17 R407). -/
def refreshReady (s : State) : State :=
  let new := readyNow s
  let old := s.host.ready
  let h := s.host
  let same := h.newAt == s.now
  { s with host := { h with
      ready := new, newAt := s.now
      newRise := (if same then h.newRise else 0) ||| clearFrom new old
      newFall := (if same then h.newFall else 0) ||| clearFrom old new
      rdyRise := h.rdyRise ||| clearFrom new old
      rdyFall := h.rdyFall ||| clearFrom old new } }

/-- INT_STAT_n (17 Table 17-7). -/
def intStat (s : State) (n : Nat) : Nat :=
  let p := s.port n
  b2n p.rspReady + b2n p.reqTaken * 2 + b2n p.evtLost * 4 + b2n ((p.snapStat &&& p.snapMask) != 0) * 8
    + (if n = 0 then b2n (((s.host.rdyRise ||| s.host.rdyFall) &&& s.host.rdyIe) != 0) * 256 + b2n p.faultInt * 512 else 0)
/-- Tenant n's interrupt is pending (17 R408). -/
def intPending (s : State) (n : Nat) : Bool := (intStat s n &&& (s.port n).intMask) != 0
/-- Send MSI-X vector v, or set its pending bit where it is masked or the function is in D3hot (17 R408). -/
def msixSend (s : State) (v : Nat) : State :=
  if !s.pcie.msixEn then s
  else
    let e := s.pcie.msix.getD v {}
    if e.mask || s.pcie.d3 then { s with pcie := { s.pcie with msix := modAt s.pcie.msix v (fun e => { e with pend := true }) } }
    else { s with
      out := s.out ++ [.msix v (e.addrLo + e.addrHi * 4294967296) e.data]
      pcie := { s.pcie with msix := modAt s.pcie.msix v (fun e => { e with pend := false }) } }
/-- Tenant n's interrupt after a change: a message where the pending state rises (17 R408). -/
def refreshTenant (s : State) (n : Nat) : State :=
  let p := intPending s n
  let s' := if p && !(s.port n).intWas then msixSend s n else s
  if (s.port n).intWas = p then s' else s'.updPort n (fun q => { q with intWas := p })
/-- INTA and INT_N follow the pending interrupts (17 R409, R410). -/
def refreshLines (s : State) : State :=
  let any := (List.range 16).any (fun n => intPending s n)
  let sel := (List.range 16).any (fun n => natBit s.host.intnSel n && intPending s n)
  { s with
    pcie := { s.pcie with inta := !s.pcie.msixEn && !s.pcie.intDisable && any }
    host := { s.host with intnLow := s.host.intnEn && sel } }
/-- What follows every step at Broros: READY, interrupts, lines. -/
def finish (s : State) : State := refreshLines ((List.range 16).foldl refreshTenant (refreshReady s))

end Sys2Proof.Machine
end

