-- ==== Sys2Proof/Machine/Ops.lean ====
section
/-! DEFINITION. The operations every family uses: time, the RTC, KA bytes and their check values, the fault log, events,
the Rumbe lift, and the four Broros resets (02 R41, 20, 21). -/

namespace Sys2Proof.Machine

/-! ### Time -/

/-- A step happens at time t: time never runs back, and the outputs are those of this step. -/
def State.at (s : State) (t : Nat) : State := { s with now := max s.now t, out := [] }
/-- The time base (02 R32). -/
def tb (s : State) : Nat := s.now - s.sys.tbZero
/-- The RTC in 1/32,768 s (20 R459). -/
def rtc (s : State) : Nat :=
  (s.ka.rtcBase + (s.now - s.ka.rtcAt) * 32768 / 48000000) % 2 ^ 64
/-- Put out. -/
def State.emit (s : State) (o : Output) : State := { s with out := s.out ++ [o] }
/-- Draw a free value (log 10). -/
def State.draw (s : State) : Nat × State := (Config.free s.free, { s with free := s.free + 1 })
/-- A step that happens only while its condition holds; otherwise only time has passed (log 2). -/
def when (c : Bool) (f : State → State) (s : State) : State := if c then f s else s

/-! ### The Rumbe lift -/

/-- The Rumbe at a chain position. -/
def State.rumbe (s : State) (d : Dev) : Rumbe := tblGet (rumbeAfterPor d 0) s.rumbes (devIndex d)
/-- A step of one Rumbe. -/
def onRumbe (t : Nat) (d : Dev) (f : RCtx → RCtx) (s : State) : State :=
  let s := s.at t
  let c := f { dev := d, now := s.now, r := s.rumbe d }
  { s with rumbes := tblSet (devIndex d) c.r s.rumbes, out := s.out ++ c.out }

/-! ### KA (20) -/

/-- Bytes of the KA register file. -/
def kaBytes (s : State) (ofs n : Nat) : List Byte := memRead 0#8 s.ka.file ofs n
/-- A field of the KA register file. -/
def kaField (s : State) (ofs n : Nat) : Nat := memLe 0#8 s.ka.file ofs n
/-- Write KA bytes as they stand. -/
def kaPut (s : State) (ofs : Nat) (b : List Byte) : State :=
  { s with ka := { s.ka with file := memWrite 0#8 s.ka.file ofs b } }
/-- Write a stored setting and CRC_CONFIG together (20 R461). -/
def kaConfig (s : State) (ofs : Nat) (b : List Byte) : State :=
  let s := kaPut s ofs b
  kaPut s 8 (leBytes 4 (crc32 (kaBytes s 0x40 0x1FC0)))
/-- Write the memory map and CRC_MEMMAP together (19 R452, 20 R460). -/
def kaMap (s : State) (ofs : Nat) (b : List Byte) : State :=
  let s := kaPut s ofs b
  kaPut s 12 (leBytes 4 (crc32 (kaBytes s 0x2000 0x480)))
/-- A significant change asks for a journal generation (20 R473). -/
def significant (s : State) : State := { s with journal := { s.journal with want := true } }
/-- A command changes a stored setting (20 R461, R473). -/
def storeSetting (s : State) (ofs : Nat) (b : List Byte) : State :=
  if kaBytes s ofs b.length = b then s else significant (kaConfig s ofs b)

/-! ### Events and the fault log (15 R364, 16 R395, 21 R482) -/

/-- Raise an event: the time base, then its fields; merged into EVENT_LOST when the queue is full; none is held while CTRL
is in reset (15 R364, Edges of 15.5). -/
def raiseEvent (s : State) (tenant opcode : Nat) (fields : List Byte) : State :=
  if !s.sys.ctrlUp then s
  else if (s.port tenant).events.length < 64 then
    s.updPort tenant (fun p => { p with events := p.events ++ [{ opcode := opcode, flags := 4, tag := 0xFFFF,
                                                                 payload := leBytes 8 (tb s) ++ fields }] })
  else s.portSet tenant (fun p => { p with lost := p.lost + 1, evtLost := true }) (fun j => { j with lost := true })
/-- The 32 bytes of a fault log entry (21 Table 21-2). -/
def faultBytes (e : FaultEntry) : List Byte :=
  leBytes 4 e.seq ++ leBytes 8 e.time ++ leBytes 4 e.rtcS ++ leBytes 2 e.code
    ++ leBytes 1 (e.cls + b2n e.standing * 128) ++ leBytes 1 e.tenant ++ leBytes 1 e.kind ++ zeros 1
    ++ leBytes 2 e.index ++ leBytes 2 e.count ++ fit 6 e.detail
/-- A CRITICAL entry goes into the KA fault tail (21 R483). -/
def kaTail (s : State) (b : List Byte) : State :=
  let nx := kaField s 0x7E90 1 % 11
  let ct := kaField s 0x7E91 1
  let s := kaPut s (0x7EA0 + 32 * nx) b
  let s := kaPut s 0x7E90 (leBytes 1 ((nx + 1) % 11) ++ leBytes 1 (min 11 (ct + 1)))
  kaPut s 0x7E9C (leBytes 4 (crc32 (kaBytes s 0x7EA0 352)))
/-- A new entry of the fault log: INT_STAT_0 FAULT, FAULT_N, the tail, the FAULT events (21 R480 to R483). -/
def newFault (s : State) (code cls : Nat) (standing : Bool) (tenant kind index : Nat) (detail : List Byte) : State :=
  let e : FaultEntry :=
    { seq := s.log.nextSeq, time := tb s, rtcS := if s.ka.rtcValid then rtc s / 32768 % 4294967296 else 0xFFFFFFFF,
      code := code, cls := cls, standing := standing, tenant := tenant, kind := kind, index := index, count := 1,
      detail := detail, at_ := s.now }
  let s := { s with log := { entries := pushBounded 1024 s.log.entries e, nextSeq := s.log.nextSeq + 1,
                             faultN := s.log.faultN || decide (2 ≤ cls), crit := s.log.crit || decide (cls = 3) } }
  let s := if cls = 3 then kaTail s (faultBytes e) else s
  let s := s.portSet 0 (fun p => { p with faultInt := true }) (fun j => { j with fault := true })
  let f := leBytes 4 e.seq ++ leBytes 2 code
  let s := raiseEvent s 0 0x0BE0 f
  if 1 ≤ tenant && tenant ≤ 15 then raiseEvent s tenant 0x0BE0 f else s
/-- An occurrence: coalesced with an entry of the preceding 1 s, or a new entry (21 R482). -/
def logFault (s : State) (code cls : Nat) (standing : Bool) (tenant kind index : Nat) (detail : List Byte) : State :=
  let same := fun (e : FaultEntry) =>
    e.code == code && e.kind == kind && e.index == index && decide (s.now ≤ e.at_ + 48000000)
  if s.log.entries.any same then
    { s with log := { s.log with
        entries := s.log.entries.map (fun e => if same e then { e with count := min 65535 (e.count + 1) } else e) } }
  else newFault s code cls standing tenant kind index detail
/-- Entry of the device. -/
def devFault (s : State) (code cls : Nat) (standing : Bool) (detail : List Byte) : State :=
  logFault s code cls standing 0xFF 0 0 detail
/-- An entry offered to a crossing whose peer is in reset is discarded and counted (02 R42). -/
def crossDiscard (s : State) (x : Nat) : State :=
  let s := s.updSys (fun y => { y with crossDiscards := modAt y.crossDiscards x (· + 1) })
  logFault s 0x0103 0 false 0xFF 6 x (leBytes 1 x ++ leBytes 4 (s.sys.crossDiscards.getD x 0))

/-- Depth in entries and width in bits of a crossing's FIFO, and whether it is flow-controlled; none for synchronisers
(02 Table 2-3, R39). -/
def crossing : Nat → Option (Nat × Nat × Bool)
  | 2 => some (128, 32, false) | 3 => some (128, 32, true) | 5 => some (4, 64, false) | 6 => some (4, 64, false)
  | 7 => some (64, 256, false) | 8 => some (64, 256, false) | 9 => some (16, 128, false) | 10 => some (32, 1152, false)
  | 11 => some (16, 512, false) | 12 => some (16, 32, false) | 14 => some (256, 256, true) | 15 => some (16, 64, false)
  | 16 => some (32, 128, false) | 17 => some (64, 256, true) | 18 => some (16, 32, true) | 19 => some (16, 66, false)
  | 20 => some (256, 64, true) | 21 => some (2, 64, true)
  | _ => none
/-- Bits that still wait in a crossing leave no room for `bits` more: CROSSING_OVERFLOW is recorded once until it has room, and
the producer holds the entry (02 R39). The steps of the table are whole, so that only XC_8, whose consumer has a row of its
own, holds entries between two of them (log 172). -/
def crossOffer (s : State) (x waiting bits : Nat) : State :=
  match crossing x with
  | some (depth, width, false) =>
    if waiting + bits ≤ depth * width || s.sys.crossFull.contains x then s
    else logFault (s.updSys (fun y => { y with crossFull := y.crossFull ++ [x] })) 0x0102 2 false 0xFF 6 x (leBytes 1 x)
  | _ => s

/-! ### Streams and tiles, as every family reaches them -/

/-- A stream table entry. -/
def State.stream (s : State) (n : Nat) : Stream := tblGet {} s.sched.streams n
/-- Change a stream table entry. -/
def State.updStream (s : State) (n : Nat) (f : Stream → Stream) : State :=
  { s with sched := { s.sched with streams := tblSet n (f (s.stream n)) s.sched.streams } }
/-- A tile. -/
def State.tile (s : State) (n : Nat) : Tile := tblGet {} s.tiles n
/-- Change a tile. -/
def State.updTile (s : State) (n : Nat) (f : Tile → Tile) : State := { s with tiles := tblSet n (f (s.tile n)) s.tiles }
/-- Change every stream a test selects. -/
def updStreams (s : State) (p : Stream → Bool) (f : Stream → Stream) : State :=
  { s with sched := { s.sched with
      streams := s.sched.streams.map (fun e => if p e.2 then (e.1, f e.2) else e) } }
/-- A tile is live: its bench is, its self-test passed, it is not out of dispatch (08 R209, 19 R444). -/
def State.tileLive (s : State) (n : Nat) : Bool :=
  s.benchLive (n / 16) && natBit (s.bench (n / 16)).live (n % 16) && !(s.tile n).out
/-- Live tiles. -/
def liveTiles (s : State) : List Nat := (List.range 64).filter (fun n => s.tileLive n)
/-- Governed clock of bench b in kHz: the fused ceiling by k sixteenths (02 R34). -/
def benchKhz (s : State) (b : Nat) : Nat := s.sys.fuses.ceilMhz * 1000 * (s.bench b).k / 16
/-- Time base counts that a number of tile cycles takes on bench b, rounded up. -/
def cycTime (s : State) (b cyc : Nat) : Nat := ceilDiv (cyc * 48000) (benchKhz s b)
/-- A stream number as an index. -/
def sNo (n : Nat) : Fin 16384 := Fin.ofNat 16384 n
/-- A stream is in flight in its tile. -/
def inFlight (s : State) (n : Nat) : Bool :=
  ((s.tile (s.stream n).tile).run).any (fun r => r.work == .stream (sNo n))
/-- A step in flight learns that its stream's NOM_DUE was set anew, or its queue emptied: its commit then neither moves the new
due time nor removes entries of the new queue (11 R266, R273). -/
def cutRun (s : State) (n : Nat) (gone : Bool) : State :=
  if inFlight s n then
    s.updTile (s.stream n).tile (fun x => { x with run := x.run.map (fun r => { r with moved := true, gone := r.gone || gone }) })
  else s
/-- The device pauses a stream: DEN clears, the reason is written, the owner is told (11 R290). -/
def pauseStream (s : State) (n reason : Nat) : State :=
  let st := s.stream n
  let s := if st.feed then cutRun s n true else s
  let s := s.updStream n (fun x => { x with den := false, pauseReason := reason, queue := if x.feed then [] else x.queue
                                            xfer := x.xfer.map (fun y => { y with cancelled := y.kind == .bringIn }) })
  raiseEvent s st.tenant 0x04E0 (leBytes 2 n ++ leBytes 1 reason ++ leBytes 6 st.step ++ leBytes 4 st.lagUs)

/-! ### Scan jobs, as resets and Foreman reach them (10 10.7) -/

/-- A scan job. -/
def jobOf (s : State) (n : Nat) : Option Job := tblFind? s.sched.jobs n
/-- Change a scan job. -/
def updJob (s : State) (n : Nat) (f : Job → Job) : State :=
  match jobOf s n with
  | some j => { s with sched := { s.sched with jobs := tblSet n (f j) s.sched.jobs } }
  | none => s
/-- Work chunks in flight. -/
def flying (j : Job) : Nat := (j.fly.filter (fun c => c.flying)).length
/-- JOB_END (16 Table 16-12). -/
def jobEndEvent (s : State) (n : Nat) (j : Job) (code : Nat) : State :=
  raiseEvent s j.tenant 0x06E0 (leBytes 2 n ++ leBytes 1 code ++ leBytes 1 (b2n j.sat + b2n j.nan * 2)
    ++ leBytes 8 ((s.now - j.startAt) / 48))
/-- A job ends with a code of Table 10-9; it keeps its number until JOB_DELETE. -/
def endJob (s : State) (n code : Nat) : State :=
  match jobOf s n with
  | some j =>
    let s := jobEndEvent s n j code
    updJob s n (fun x => { x with st := .ended, endCode := code, endAt := s.now, fly := [], ctrl := false })
  | none => s
/-- A deleted job ends and its number is free (10 Edges of 10.7, Table 10-9). -/
def removeJob (s : State) (n code : Nat) : State :=
  let s := endJob s n code
  { s with sched := { s.sched with jobs := tblDel n s.sched.jobs } }
/-- What waits for a work chunk boundary happens once none of the job's work chunks is in flight, by Foreman (10 R253, R255): a
deletion, the end with DATA_CHANGED, a pause. -/
def jobBoundary (s : State) (n : Nat) : State :=
  match jobOf s n with
  | some j =>
    if 0 < flying j || !s.sys.ctrlUp then s
    else if j.delWant then removeJob s n (if j.st == .paused && decide (0x10 ≤ j.pauseReason) then 2 else 4)
    else if j.dataChanged && j.st != .ended then endJob s n 1
    else if j.pauseWant && j.st != .ended then updJob s n (fun x => { x with st := .paused, pauseWant := false })
    else s
  | none => s
/-- The boundary of every job. -/
def jobBoundaries (s : State) : State := (s.sched.jobs.map (fun e => e.1)).foldl jobBoundary s

/-! ### Resets (02 R41, R42; 15 Edges of 15.5; 21 R486 to R490) -/

/-- CTRL of one mailbox pair at reset; the SHELL registers keep their values. -/
def ctrlPort (p : TenantPort) : TenantPort :=
  { reqTaken := p.reqTaken, faultInt := p.faultInt, intMask := p.intMask, snapStat := p.snapStat,
    snapMask := p.snapMask, intWas := p.intWas, new := { p.new with rsp := false, lost := false } }
/-- Commands of tenant n that a CTRL reset discards: taken and not answered, and deferred ones not ended. -/
def discardsOf (s : State) (n : Nat) : Nat :=
  (s.port n).inflight + (s.foreman.tickets.filter (fun k => k.tenant == n)).length
/-- A command Foreman originated for a request. -/
def fromMailbox : Origin → Bool
  | .mailbox _ => true
  | .script => true
  | _ => false
/-- Foreman's chain commands not yet sent are gone. -/
def ctrlChain (p : ChainPort) : ChainPort := { p with queue := p.queue.filter (fun c => !fromMailbox c.origin) }
/-- CTRL reset: queues emptied, the patch buffer and challenge gone, jobs paused, swap transfers abandoned until
Foreman has started again. -/
def ctrlReset (s : State) : State :=
  let f := s.foreman
  let lost := (List.range 16).map (fun n => f.discarded.getD n 0 + discardsOf s n)
  { s with
    ports := s.ports.map (fun e => (e.1, ctrlPort e.2))
    foreman := { f with order := [], urgent := [], current := none, script := none, tickets := [], patchBuf := [],
                        challenge := none, resetAt := none, resetReq := none, discarded := lost, restart := true }
    pairs := s.pairs.map (fun p => { p with portA := ctrlChain p.portA, portB := ctrlChain p.portB })
    sched := { s.sched with jobs := s.sched.jobs.map (fun e =>
      if e.2.st == .running || e.2.st == .queued then (e.1, { e.2 with st := .paused, ctrl := true }) else e) }
    journal := { s.journal with waiters := [], run := s.journal.run.map (fun g => { g with waiters := [] }) }
    sys := { s.sys with ctrlUp := false, ctrlResetAt := s.now } }
/-- The tiles of bench b as the self-test leaves them (19 R443): its work chunks in flight are lost, and what waited for their
boundary happens (10 R253, R256). -/
def clearTiles (s : State) (b : Nat) : State :=
  jobBoundaries { s with
    tiles := s.tiles.filter (fun e => e.1 / 16 != b)
    sched := { s.sched with
      wstore := modAt s.sched.wstore b (fun _ => [])
      stage := s.sched.stage.filter (fun e => e.1 / 16 != b)
      stageWait := s.sched.stageWait.filter (fun e => e.1 / 16 != b)
      active := s.sched.active.filter (fun e => e.1 / 16 != b)
      jobs := s.sched.jobs.map (fun e => (e.1, { e.2 with fly := e.2.fly.filter (fun c => c.tile / 16 != b) })) } }
/-- Streams of bench b when its tiles are reset: a step in flight aborts, a pending retry is dropped, the resident state
and any copy under way are lost; a stream that was ending is gone (08 Edges of 8.8, 11 R268, 21 R489). -/
def dropStreams (s : State) (b : Nat) : State :=
  let here := fun (x : Stream) => x.valid && x.tile / 16 == b
  let s := updStreams s here (fun x => { x with
    retry := false, res := false, xfer := none, reset := x.reset || x.resetNew, resetNew := false })
  { s with sched := { s.sched with
      streams := s.sched.streams.filter (fun e => !(here e.2 && e.2.ending))
      lanes := s.sched.lanes.map (fun e => if e.2.tile / 16 == b then (e.1, { e.2 with user := none }) else e) } }
/-- Reset of bench b: its self-test runs; a closed bench opens its gate first (19 R445). -/
def benchReset (s : State) (b : Nat) : State :=
  let ph := (s.bench b).phase
  if ph == .live || ph == .testing || ph == .passed then
    let s := dropStreams (clearTiles s b) b
    s.updBench b (fun x => { x with phase := .testing, testAt := s.now, retest := true, live := 0 })
  else if ph == .closed then
    let s := clearTiles s b
    s.updBench b (fun x => { x with phase := .opening, openAt := s.now, retest := true, live := 0 })
  else s
/-- Whole COMPUTE reset: every bench, a closed one where the reset is commanded; XC_7, XC_8 and XC_10 flushed; FEED queues emptied
and their input sequences begun anew (02 R42, 19 R444, R445, 21 R488, R489). -/
def computeReset (s : State) (commanded : Bool) : State :=
  let s := (List.range 4).foldl (fun s b => if (s.bench b).phase == .closed && !commanded then s else benchReset s b) s
  let s := updStreams s (fun x => x.feed) (fun x => { x with queue := [], fd := { per := x.fd.per, n0 := x.fd.n0, fresh := some 0 } })
  let s := s.updSys (fun y => { y with schedReset := y.benches.any (fun b => b.retest), crossFull := y.crossFull.filter (· != 8) })
  { s with assayer := { s.assayer with inbox := [] }, sched := { s.sched with usage := [], turn := [], stageWait := [], stagingFree := 0 } }
/-- SHELL reset: KA, its fault tail, the flash and every Rumbe keep running; all else is at reset, DRAM contents
too (02 R41, 21 R490; log 5). A flash write in flight is torn where it stands (20 R478). That a learning cycle was under way
stays known until the Ledger's restore disqualifies it (07 R178, Edges of 7.8). Every job that had not ended ends with
ENDED_RESET and keeps its number (10 R256; log 179). -/
def shellReset (s : State) : State :=
  { pending := s.pending, now := s.now, free := s.free, out := s.out, ka := s.ka, flash := { s.flash with density := none }, rumbes := s.rumbes,
    ledger := { str := (s.ledger.str.filter (fun e => e.2.lc == .armed || e.2.lc == .running)).map (fun e =>
      (e.1, ({ lc := e.2.lc } : LString))) },
    sched := { jobs := (s.sched.jobs.filter (fun e => e.2.st != .ended)).map (fun e =>
      (e.1, { e.2 with st := .ended, endCode := 3, endAt := s.now, fly := [], pauseWant := false, delWant := false, ctrl := false,
                       dataChanged := false })) }
    sys := { powerGood := s.sys.powerGood, tbZero := s.now, thermal := { abs := s.sys.thermal.abs } } }

end Sys2Proof.Machine
end

