-- ==== Sys2Proof/Machine/Stipple.lean ====
section
/-! DEFINITION. Stipple (12): SplitMix64 mixing, class states, lane sequences, the element map. -/

namespace Sys2Proof.Machine

/-- 2^64. -/
def two64 : Nat := 18446744073709551616
/-- The SplitMix64 output function (12 R291). -/
def mix64 (z0 : Nat) : Nat :=
  let z1 := (z0 ^^^ (z0 / 2 ^ 30)) * 0xBF58476D1CE4E5B9 % two64
  let z2 := (z1 ^^^ (z1 / 2 ^ 27)) * 0x94D049BB133111EB % two64
  z2 ^^^ (z2 / 2 ^ 31)
/-- The increment. -/
def gamma64 : Nat := 0x9E3779B97F4A7C15
/-- Block key (12 R292). -/
def blockKey (seed lstream step site sample block : Nat) : Nat :=
  [lstream, step, site, sample, block].foldl (fun k v => mix64 (k ^^^ v)) (seed % two64)
/-- Degree of class c (12 Table 12-2). -/
def classDeg (c : Nat) : Nat := [33, 35, 36, 39, 41, 47, 49, 52, 55, 57, 58, 60, 63, 65, 68, 71].getD c 33
/-- Tap of class c (12 Table 12-2). -/
def classTap (c : Nat) : Nat := [20, 33, 25, 35, 38, 42, 40, 49, 31, 50, 39, 59, 62, 47, 59, 65].getD c 20
/-- Initial state of class c in block key b (12 R293). -/
def classState (b c : Nat) : Nat :=
  let v := mix64 ((b + (c + 1) * gamma64) % two64) % 2 ^ classDeg c
  if v = 0 then 1 else v
/-- Shift an LFSR on by n bits: bit 0 is the next bit of its sequence (12 R294). -/
def lfsrRun (d t : Nat) : Nat → Nat → Nat
  | 0, v => v
  | n + 1, v => lfsrRun d t n (v / 2 + (b2n (natBit v 0 != natBit v t)) * 2 ^ (d - 1))
/-- The sixteen bits of a word, first bit highest (12 R295). -/
def lfsrWord (d t : Nat) : Nat → Nat → Nat → Nat
  | 0, _, w => w
  | n + 1, v, w => lfsrWord d t n (lfsrRun d t 1 v) (w * 2 + v % 2)
/-- Word of logical element e from the class states of its block (12 R295). -/
def stipWord (states : List Nat) (e : Nat) : Nat :=
  let c := e % 16
  let v := lfsrRun (classDeg c) (classTap c) (16 * (e / 16 % 16)) (states.getD c 1)
  lfsrWord (classDeg c) (classTap c) 16 v 0
/-- A slot for a key (12 R297). -/
def stipSlot (seed lstream step site sample block : Nat) : StipSlot :=
  let b := blockKey seed lstream step site sample block
  { site := site, sample := sample, block := block, states := (List.range 16).map (classState b) }
/-- (site, sample, block) of every slot a draw set needs with K samples (12 R296). -/
def drawKeys (draws : List DrawSet) (k : Nat) : List (Nat × Nat × Nat) :=
  draws.flatMap (fun d => (List.range (if d.perSample then k else 1)).flatMap (fun sm =>
    (List.range d.nblk).map (fun b => (d.site, sm, d.blk0 + b))))
/-- The slot of a bank that a DRAW matches (12 R300). -/
def findSlot (b : Option StipBank) (site sample block : Nat) : Option StipSlot :=
  match b with
  | some b => b.slots.find? (fun x => x.site == site && x.sample == sample && x.block == block)
  | none => none

end Sys2Proof.Machine
end

