-- ==== Sys2Proof/Machine/Float.lean ====
section
/-! DEFINITION. Tile arithmetic (09 9.1): floats as exact dyadic values rounded once, fixed-point values rounded and
saturated, both rounding modes of R213. -/

namespace Sys2Proof.Machine

/-- A float value before rounding: a NaN, an infinity, or exactly (-1)^neg m 2^e. -/
inductive Fl where
  | nan
  | inf (neg : Bool)
  | fin (neg : Bool) (m : Nat) (e : Int)
  deriving DecidableEq, Repr

/-- How a result is rounded (09 R213); a stochastic result takes its lane's word. -/
inductive Rnd where
  | nearest
  | stoch (w : Nat)
  deriving DecidableEq, Repr

/-- A rounded result: its bits, SAT and NAN (09 R214). -/
structure Rounded where
  bits : Nat
  sat : Bool := false
  nan : Bool := false
  deriving DecidableEq, Repr

/-- Read an FP32 pattern; a subnormal is zero of its sign (09 R211). -/
def ofFp32 (b : Nat) : Fl :=
  let neg := natBit b 31
  let ex := field b 23 8
  let fr := field b 0 23
  if ex = 255 then (if fr = 0 then .inf neg else .nan)
  else if ex = 0 then .fin neg 0 0
  else .fin neg (fr + 8388608) ((ex : Int) - 150)
/-- Read a BF16 pattern (09 Table 9-1). -/
def ofBf16 (b : Nat) : Fl := ofFp32 (b % 65536 * 65536)
/-- Shift an exact magnitude to a common exponent `e0` at or below its own. -/
def scaleTo (m : Nat) (e e0 : Int) : Nat := m * 2 ^ (e - e0).toNat
/-- Negation. -/
def Fl.neg : Fl → Fl
  | .nan => .nan
  | .inf n => .inf (!n)
  | .fin n m e => .fin (!n) m e
/-- Exact product. -/
def flMul : Fl → Fl → Fl
  | .nan, _ => .nan
  | _, .nan => .nan
  | .inf a, .inf b => .inf (a != b)
  | .inf a, .fin b m _ => if m = 0 then .nan else .inf (a != b)
  | .fin a m _, .inf b => if m = 0 then .nan else .inf (a != b)
  | .fin a m e, .fin b n f => .fin (a != b) (m * n) (e + f)
/-- Exact sum; an exact zero of operands that differ in sign is +0. -/
def flAdd : Fl → Fl → Fl
  | .nan, _ => .nan
  | _, .nan => .nan
  | .inf a, .inf b => if a = b then .inf a else .nan
  | .inf a, .fin _ _ _ => .inf a
  | .fin _ _ _, .inf b => .inf b
  | .fin a m e, .fin b n f =>
    if m = 0 && n = 0 then .fin (a && b) 0 0
    else if m = 0 then .fin b n f
    else if n = 0 then .fin a m e
    else
      let e0 := if e < f then e else f
      let x : Int := if a then -(scaleTo m e e0 : Int) else scaleTo m e e0
      let y : Int := if b then -(scaleTo n f e0 : Int) else scaleTo n f e0
      let z := x + y
      .fin (decide (z < 0)) z.natAbs e0
/-- Exact difference. -/
def flSub (a b : Fl) : Fl := flAdd a b.neg
/-- `x < y` as numbers; false with a NaN. -/
def flLt : Fl → Fl → Bool
  | .nan, _ => false
  | _, .nan => false
  | .inf a, .inf b => a && !b
  | .inf a, .fin _ _ _ => a
  | .fin _ _ _, .inf b => !b
  | .fin a m e, .fin b n f =>
    let e0 := if e < f then e else f
    let x : Int := if a then -(scaleTo m e e0 : Int) else scaleTo m e e0
    let y : Int := if b then -(scaleTo n f e0 : Int) else scaleTo n f e0
    decide (x < y)
/-- Order of MAX and MIN: -0 below +0 (09 Table 9-7). -/
def flBelow (x y : Fl) : Bool :=
  flLt x y || (match x, y with | .fin true 0 _, .fin false 0 _ => true | _, _ => false)
/-- Number of bits of `m`. -/
def bitLen (m : Nat) : Nat := if m = 0 then 0 else Nat.log2 m + 1
/-- Keep `p` significant bits of an exact magnitude (09 R213): the kept bits and the shift. -/
def roundMag (r : Rnd) (p m : Nat) : Nat × Nat :=
  let l := bitLen m
  if l ≤ p then (m, 0)
  else
    let sh := l - p
    let q := m / 2 ^ sh
    let rem := m % 2 ^ sh
    let up := match r with
      | .nearest => decide (2 ^ sh < 2 * rem) || (2 * rem == 2 ^ sh && q % 2 == 1)
      | .stoch w =>
        let d := if 16 ≤ sh then rem / 2 ^ (sh - 16) else rem * 2 ^ (16 - sh)
        decide (65536 ≤ d + w)
    (if up then q + 1 else q, sh)
/-- Round to a binary float with `p` significant bits and the exponent range of FP32 (09 R211): its FP32 pattern. -/
def roundFp (r : Rnd) (p : Nat) (x : Fl) : Rounded :=
  match x with
  | .nan => { bits := 0x7FC00000, nan := true }
  | .inf n => { bits := b2n n * 2 ^ 31 + 0x7F800000 }
  | .fin n m e =>
    if m = 0 then { bits := b2n n * 2 ^ 31 }
    else
      let (q, sh) := roundMag r p m
      let l := bitLen q
      let top : Int := e + sh + l - 1
      if 127 < top then { bits := b2n n * 2 ^ 31 + 0x7F800000, sat := true }
      else if top < -126 then { bits := b2n n * 2 ^ 31 }
      else
        let mant := if l ≤ 24 then q * 2 ^ (24 - l) else q / 2 ^ (l - 24)
        { bits := b2n n * 2 ^ 31 + (top + 127).toNat * 8388608 + (mant - 8388608) }
/-- Round to FP32. -/
def toFp32 (r : Rnd) (x : Fl) : Rounded := roundFp r 24 x
/-- Round to BF16. -/
def toBf16 (r : Rnd) (x : Fl) : Rounded := let y := roundFp r 8 x; { y with bits := y.bits / 65536 }

/-- Round an integer with `f` fraction bits to `g` of them: nearest with ties to even, or truncation toward minus infinity
and the word of R213. -/
def roundFix (r : Rnd) (f g : Nat) (v : Int) : Int :=
  if f ≤ g then v * 2 ^ (g - f)
  else
    let sh := f - g
    match r with
    | .nearest => divRoundEven v (2 ^ sh)
    | .stoch w =>
      let q := v / (2 ^ sh : Nat)
      let rem := (v % (2 ^ sh : Nat)).toNat
      let d := if 16 ≤ sh then rem / 2 ^ (sh - 16) else rem * 2 ^ (16 - sh)
      if 65536 ≤ d + w then q + 1 else q
/-- Round to `g` fraction bits and saturate to a two's complement field of `w` bits (09 R212). -/
def toFix (r : Rnd) (f g w : Nat) (v : Int) : Rounded :=
  let q := roundFix r f g v
  let c := clampInt (-(2 ^ (w - 1) : Int)) (2 ^ (w - 1) - 1) q
  { bits := pattern w c, sat := c != q }
/-- A finite float as an integer with `g` fraction bits, before rounding: the integer and its fraction bits. -/
def flToFix (m : Nat) (e : Int) (g : Nat) : Int × Nat :=
  if 0 ≤ e then ((m * 2 ^ e.toNat * 2 ^ g : Nat), g) else ((m : Int), (-e).toNat)
/-- Float to fixed: saturates; NaN gives 0 with NAN set; an infinity saturates (09 Table 9-7 CVT). -/
def flFix (r : Rnd) (g w : Nat) (x : Fl) : Rounded :=
  match x with
  | .nan => { bits := 0, nan := true }
  | .inf n => { bits := pattern w (if n then -(2 ^ (w - 1) : Int) else 2 ^ (w - 1) - 1), sat := true }
  | .fin n m e =>
    let (v, f) := flToFix m e g
    toFix r f g w (if n then -v else v)
/-- A fixed value with `f` fraction bits as a float. -/
def fixFl (f : Nat) (v : Int) : Fl := .fin (decide (v < 0)) v.natAbs (-(f : Int))

end Sys2Proof.Machine
end

