-- ==== Sys2Proof/Machine/TileOps.lean ====
section
/-! DEFINITION. What each tile operation computes from the registers and stores it reads at issue (08 R192, 09): its
results with their latencies, or the code it aborts with. -/

namespace Sys2Proof.Machine

/-- What an operation reads at issue: the running step, its own tile of the bench, its kernel's entry, its 64-bit word, the
slices and the weight store of the bench, and the Stipple word of a logical element of the step. -/
structure TEnv where
  run : Run
  tile : Nat
  kt : KEntry
  word : Nat
  pal : Nat → Mem
  weights : Mem
  draw : Nat → Nat → Nat → Nat    -- site, sample, element
  away : Nat → Bool := fun _ => false -- banks of its own slice that are leased out

/-- Results of an operation: each with its latency, and the sticky flags it sets (09 R214). -/
structure TOut where
  writes : List (Nat × Dest) := []
  sat : Bool := false
  nan : Bool := false
  deriving DecidableEq, Repr

/-- An operation's outcome. -/
abbrev TRes := Except AbortCode TOut

/-- 64 zero lanes. -/
def zeroLanes : List Nat := List.replicate 64 0
/-- A V register. -/
def vReg (r : Run) (n : Nat) : List Nat := tblGet zeroLanes r.v n
/-- An A register. -/
def aReg (r : Run) (n : Nat) : List Nat := tblGet zeroLanes r.a n
/-- An H register, 40-bit lanes. -/
def hReg (r : Run) (n : Nat) : List Nat := tblGet zeroLanes r.h n
/-- A scalar register. -/
def xReg (r : Run) (n : Nat) : Nat := tblGet 0 r.x n
/-- A loop counter. -/
def lReg (r : Run) (n : Nat) : Nat := tblGet 0 r.l n
/-- Lane `l` of a register's lanes. -/
def lane (r : List Nat) (l : Nat) : Nat := r.getD l 0
/-- Base register of an address: XB = 0 is a base of zero (09 R223). -/
def xBase (r : Run) (xb : Nat) : Nat := if xb = 0 then 0 else xReg r xb

/-! ### K slot (09 Table 9-4) -/

/-- A K result: nothing where the destination is X0 to X7 (08 R190). -/
def kResult (e : TEnv) (f : Nat → Nat → Nat → Nat) : TRes :=
  let d := field e.word 52 4
  let v := f (xReg e.run (field e.word 48 4)) (xReg e.run (field e.word 44 4)) (field e.word 0 32) % 4294967296
  .ok { writes := if d < 8 then [] else [(1, .x d v)] }

/-! ### L and W slots (09 Table 9-5) -/

/-- Bytes of 64 lanes of `w` bytes each. -/
def laneBytes (w : Nat) (ls : List Nat) : List Byte := ls.flatMap (fun v => leBytes w v)
/-- `n` lanes of `w` bytes each from bytes. -/
def lanesOf (w n : Nat) (bs : List Byte) : List Nat := (List.range n).map (fun i => leAt bs (i * w) w)
/-- Units an access with register code `c` and SZ moves (09 Table 9-2). -/
def unitsOf (c sz : Nat) : Nat := if c < 0x20 then (if sz = 1 then 2 else 1) else 2
/-- A two-unit access at an odd address uses the even one below it (08 R200). -/
def evenUnit (n u : Nat) : Nat := if n = 2 then u / 2 * 2 else u
/-- What a load of register code `c` writes from its bytes (09 R216). -/
def loadDest (c sz : Nat) (bs : List Byte) : List Dest :=
  if c < 0x20 then
    if sz = 1 then [.v (c / 2 * 2) (lanesOf 2 64 bs), .v (c / 2 * 2 + 1) (lanesOf 2 64 (bs.drop 128))]
    else [.v c (lanesOf 2 64 bs)]
  else if c < 0x28 then [.a (c - 0x20) (lanesOf 4 64 bs)]
  else if c < 0x2C then [.h (c - 0x28) 0 (lanesOf 4 64 bs)]
  else
    let n := if c < 0x30 then c - 0x2C else c - 0x30
    [.h n (if c < 0x30 then 0 else 32) ((lanesOf 8 32 bs).map (fun v => v % 1099511627776))]
/-- The bytes a store of register code `c` writes (09 R216). -/
def storeBytes (r : Run) (c sz : Nat) : List Byte :=
  if c < 0x20 then
    if sz = 1 then laneBytes 2 (vReg r (c / 2 * 2)) ++ laneBytes 2 (vReg r (c / 2 * 2 + 1)) else laneBytes 2 (vReg r c)
  else if c < 0x28 then laneBytes 4 (aReg r (c - 0x20))
  else if c < 0x2C then laneBytes 4 ((hReg r (c - 0x28)).map (fun v => v % 4294967296))
  else
    let n := if c < 0x30 then c - 0x2C else c - 0x30
    laneBytes 8 (((hReg r n).drop (if c < 0x30 then 0 else 32)).take 32 |>.map (fun v => pattern 64 (signed 40 v)))
/-- The step may access a bank of a tile of the bench: BANK_MASK on its own slice, while the bank is not leased out, and a lease on
another (09 R225, 08 R201). -/
def mayAccess (e : TEnv) (tile unit : Nat) : Bool :=
  if tile = e.tile then natBit e.kt.bankMask (unit / 256) && !e.away (unit / 256) else e.run.held.contains (tile, unit / 256)
/-- A Palette load of register code `c`. -/
def loadPal (e : TEnv) (tile c sz xb ofs lat : Nat) : TRes :=
  if 0x33 < c then .error .illegalOp
  else
    let n := unitsOf c sz
    let u := evenUnit n ((xBase e.run xb + ofs) % 4096)
    if !mayAccess e tile u then .error .leaseFault
    else .ok { writes := (loadDest c sz (memRead 0#8 (e.pal tile) (u * 128) (n * 128))).map (fun d => (lat, d)) }
/-- A weight store load of register code `c`. -/
def loadWeight (e : TEnv) (c sz xb wadr : Nat) : TRes :=
  if 0x33 < c then .error .illegalOp
  else
    let n := unitsOf c sz
    let u := evenUnit n ((xBase e.run xb + wadr) % 32768)
    .ok { writes := (loadDest c sz (memRead 0#8 e.weights (u * 128) (n * 128))).map (fun d => (6, d)) }
/-- A Palette store of register code `c`. -/
def storePal (e : TEnv) (tile lat : Nat) : TRes :=
  let c := field e.word 50 6
  let sz := field e.word 48 1
  if 0x33 < c then .error .illegalOp
  else
    let n := unitsOf c sz
    let u := evenUnit n ((xBase e.run (field e.word 44 4) + field e.word 32 12) % 4096)
    if !mayAccess e tile u then .error .leaseFault
    else .ok { writes := [(lat, .pal tile (u * 128) (storeBytes e.run c sz))] }
/-- LDP. -/
def opLdp (e : TEnv) : TRes :=
  loadPal e e.tile (field e.word 50 6) (field e.word 48 1) (field e.word 44 4) (field e.word 32 12) 2
/-- LDPR. -/
def opLdpr (e : TEnv) : TRes :=
  loadPal e (field e.word 28 4) (field e.word 50 6) (field e.word 48 1) (field e.word 44 4) (field e.word 32 12) 8
/-- LDW. -/
def opLdw (e : TEnv) : TRes :=
  loadWeight e (field e.word 50 6) (field e.word 48 1) (field e.word 44 4) (field e.word 0 15)
/-- LDPW: both accesses of one operation. -/
def opLdpw (e : TEnv) : TRes :=
  match loadPal e e.tile (field e.word 50 6) (field e.word 43 1) (field e.word 38 4) (field e.word 26 12) 2,
        loadWeight e (field e.word 44 6) (field e.word 42 1) (field e.word 22 4) (field e.word 0 15) with
  | .ok p, .ok w => .ok { writes := p.writes ++ w.writes }
  | .error c, _ => .error c
  | _, .error c => .error c
/-- STP. -/
def opStp (e : TEnv) : TRes := storePal e e.tile 1
/-- STPR. -/
def opStpr (e : TEnv) : TRes := storePal e (field e.word 28 4) 8

/-! ### M slot (09 Table 9-6) -/

/-- Lanes with their rounding flags. -/
def collect (rs : List Rounded) : List Nat × Bool × Bool :=
  (rs.map (fun r => r.bits), rs.any (fun r => r.sat), rs.any (fun r => r.nan))
/-- One M lane: the product of two V lanes, negated by NEG, added to an accumulator lane where there is one. -/
def mLane (float neg : Bool) (addend : Option Nat) (x y : Nat) : Rounded :=
  if float then
    let p := flMul (ofBf16 x) (ofBf16 y)
    let p := if neg then p.neg else p
    toFp32 .nearest (match addend with | some a => flAdd (ofFp32 a) p | none => p)
  else
    let p := signed 16 x * signed 16 y
    let p := if neg then -p else p
    toFix .nearest 30 30 32 (match addend with | some a => signed 32 a + p | none => p)
/-- An M operation: `acc` adds the accumulator, `bc` broadcasts lane J of Vb. -/
def opM (acc bc : Bool) (e : TEnv) : TRes :=
  let va := vReg e.run (field e.word 45 5)
  let vb := vReg e.run (field e.word 40 5)
  let as := aReg e.run (field e.word 50 3)
  let j := field e.word 34 6
  let (ls, sat, nan) := collect ((List.range 64).map (fun l =>
    mLane (natBit e.word 33) (natBit e.word 32) (if acc then some (lane as l) else none) (lane va l)
      (lane vb (if bc then j else l))))
  .ok { writes := [(4, .a (field e.word 53 3) ls)], sat := sat, nan := nan }

/-! ### F slot (09 Table 9-7) -/

/-- A V or A register named by a code: its lanes and whether it is a V register; any other code is none. -/
def fReg (r : Run) (c : Nat) : Option (List Nat × Bool) :=
  if c < 0x20 then some (vReg r c, true) else if c < 0x28 then some (aReg r (c - 0x20), false) else none
/-- Every register field of an F operation names a V or an A register: an H code in any of them is refused, read or not (09 R227). -/
def fCodesOk (e : TEnv) : Bool := [50, 44, 38, 32].all (fun i => decide (field e.word i 6 ≤ 0x27))
/-- A lane read in the float family (09 R227: widened exactly). -/
def flLane (isV : Bool) (x : Nat) : Fl := if isV then ofBf16 x else ofFp32 x
/-- A lane read in the fixed family, with 30 fraction bits. -/
def fixLane (isV : Bool) (x : Nat) : Int := if isV then signed 16 x * 32768 else signed 32 x
/-- A float rounded into D's format. -/
def flInto (toV : Bool) (r : Rnd) (x : Fl) : Rounded := if toV then toBf16 r x else toFp32 r x
/-- A fixed value with `f` fraction bits rounded into D's format. -/
def fixInto (toV : Bool) (r : Rnd) (f : Nat) (v : Int) : Rounded := if toV then toFix r f 15 16 v else toFix r f 30 32 v
/-- The destination of an F operation. -/
def fDest (c : Nat) (ls : List Nat) : Dest := if c < 0x20 then .v c ls else .a (c - 0x20) ls
/-- An F operation of arithmetic: operands of one family, each lane exact and rounded once into D (09 R227). `n` is the
number of register sources; `rndOk` whether RND = 1 is allowed, its words then being the lanes of S3. -/
def opF (e : TEnv) (n : Nat) (rndOk : Bool) (fl : Fl → Fl → Fl → Fl) (fx : Int → Int → Int → Int × Nat) : TRes :=
  let d := field e.word 50 6
  let float := natBit e.word 31
  let stoch := natBit e.word 30
  if !fCodesOk e || (stoch && !rndOk) then .error .illegalOp
  else
    match fReg e.run (field e.word 44 6), fReg e.run (field e.word 38 6), fReg e.run (field e.word 32 6) with
    | some (s1, v1), s2, s3 =>
      if (2 ≤ n && s2.isNone) || ((3 ≤ n || stoch) && s3.isNone) then .error .illegalOp
      else
        let (b, vb) := s2.getD (zeroLanes, true)
        let (c, vc) := s3.getD (zeroLanes, true)
        let (ls, sat, nan) := collect ((List.range 64).map (fun l =>
          let r := if stoch then Rnd.stoch (lane c l % 65536) else Rnd.nearest
          if float then flInto (d < 0x20) r (fl (flLane v1 (lane s1 l)) (flLane vb (lane b l)) (flLane vc (lane c l)))
          else
            let (v, f) := fx (fixLane v1 (lane s1 l)) (fixLane vb (lane b l)) (fixLane vc (lane c l))
            fixInto (d < 0x20) r f v))
        .ok { writes := [(3, fDest d ls)], sat := sat, nan := nan }
    | none, _, _ => .error .illegalOp
/-- F ADD. -/
def opFAdd (e : TEnv) : TRes := opF e 2 true (fun a b _ => flAdd a b) (fun a b _ => (a + b, 30))
/-- F SUB. -/
def opFSub (e : TEnv) : TRes := opF e 2 true (fun a b _ => flSub a b) (fun a b _ => (a - b, 30))
/-- MUL. -/
def opMul (e : TEnv) : TRes := opF e 2 true (fun a b _ => flMul a b) (fun a b _ => (a * b, 60))
/-- FMA, nearest only. -/
def opFma (e : TEnv) : TRes :=
  opF e 3 false (fun a b c => flAdd (flMul a b) c) (fun a b c => (a * b + c * 1073741824, 60))
/-- The larger or smaller of two floats; a NaN operand gives NaN. -/
def flPick (larger : Bool) (a b : Fl) : Fl :=
  if a = .nan || b = .nan then .nan else if flBelow a b = larger then b else a
/-- MAX. -/
def opMax (e : TEnv) : TRes :=
  opF e 2 true (fun a b _ => flPick true a b) (fun a b _ => (if a < b then b else a, 30))
/-- MIN. -/
def opMin (e : TEnv) : TRes :=
  opF e 2 true (fun a b _ => flPick false a b) (fun a b _ => (if a < b then a else b, 30))
/-- MOV. -/
def opMov (e : TEnv) : TRes := opF e 1 true (fun a _ _ => a) (fun a _ _ => (a, 30))
/-- A lane moved into D: unchanged where the widths agree, else narrowed or widened in its family. -/
def moveLane (float fromV toV : Bool) (x : Nat) : Rounded :=
  if fromV = toV then { bits := x }
  else if float then flInto toV .nearest (flLane fromV x) else fixInto toV .nearest 30 (fixLane fromV x)
/-- SEL: S1 where the mask lane of S3 is true, else S2 (09 Table 9-7). -/
def opSel (e : TEnv) : TRes :=
  let d := field e.word 50 6
  let m := field e.word 32 6
  if !fCodesOk e || natBit e.word 30 || 0x1F < m then .error .illegalOp
  else
    match fReg e.run (field e.word 44 6), fReg e.run (field e.word 38 6) with
    | some (s1, v1), some (s2, v2) =>
      let ms := vReg e.run m
      let (ls, sat, nan) := collect ((List.range 64).map (fun l =>
        if lane ms l ≠ 0 then moveLane (natBit e.word 31) v1 (d < 0x20) (lane s1 l)
        else moveLane (natBit e.word 31) v2 (d < 0x20) (lane s2 l)))
      .ok { writes := [(3, fDest d ls)], sat := sat, nan := nan }
    | _, _ => .error .illegalOp
/-- CGT: D must be a V register; a NaN compares false (09 Table 9-7). -/
def opCgt (e : TEnv) : TRes :=
  let d := field e.word 50 6
  if !fCodesOk e || 0x1F < d || natBit e.word 30 then .error .illegalOp
  else
    match fReg e.run (field e.word 44 6), fReg e.run (field e.word 38 6) with
    | some (s1, v1), some (s2, v2) =>
      .ok { writes := [(3, .v d ((List.range 64).map (fun l =>
        let gt := if natBit e.word 31 then flLt (flLane v2 (lane s2 l)) (flLane v1 (lane s1 l))
          else decide (fixLane v2 (lane s2 l) < fixLane v1 (lane s1 l))
        if gt then 0xFFFF else 0)))] }
    | _, _ => .error .illegalOp
/-- CVT: S1 in the FMT family, converted to the other in D's width (09 Table 9-7). -/
def opCvt (e : TEnv) : TRes :=
  let d := field e.word 50 6
  let stoch := natBit e.word 30
  if !fCodesOk e then .error .illegalOp
  else
    match fReg e.run (field e.word 44 6), fReg e.run (field e.word 32 6) with
    | some (s1, v1), s3 =>
      if stoch && s3.isNone then .error .illegalOp
      else
        let ws := (s3.getD (zeroLanes, true)).1
        let (ls, sat, nan) := collect ((List.range 64).map (fun l =>
          let r := if stoch then Rnd.stoch (lane ws l % 65536) else Rnd.nearest
          if natBit e.word 31 then
            flFix r (if d < 0x20 then 15 else 30) (if d < 0x20 then 16 else 32) (flLane v1 (lane s1 l))
          else flInto (d < 0x20) r (fixFl 30 (fixLane v1 (lane s1 l)))))
        .ok { writes := [(3, fDest d ls)], sat := sat, nan := nan }
    | none, _ => .error .illegalOp
/-- Segment index of ACT: the floor of (x + 2^E) 32 / 2^E, held in 0 to 63 (09 R228). -/
def actIndex (E : Nat) : Fl → Nat
  | .nan => 0
  | .inf n => if n then 0 else 63
  | .fin n m e =>
    let v : Int := if n then -(m : Int) else m
    let fl : Int := if 0 ≤ e then v * 2 ^ e.toNat * 32 / (2 ^ E : Nat) else v * 32 / (2 ^ E * 2 ^ (-e).toNat : Nat)
    (clampInt 0 63 (fl + 32)).toNat
/-- ACT (09 R228). -/
def opAct (e : TEnv) : TRes :=
  let d := field e.word 50 6
  let t := field e.word 38 6
  let stoch := natBit e.word 30
  if !fCodesOk e || !natBit e.word 31 || 0x1F < t then .error .illegalOp
  else
    match fReg e.run (field e.word 44 6), fReg e.run (field e.word 32 6) with
    | some (s1, v1), s3 =>
      if stoch && s3.isNone then .error .illegalOp
      else
        let ws := (s3.getD (zeroLanes, true)).1
        let slopes := vReg e.run (t / 2 * 2)
        let icepts := vReg e.run (t / 2 * 2 + 1)
        let (ls, sat, nan) := collect ((List.range 64).map (fun l =>
          let x := flLane v1 (lane s1 l)
          let i := actIndex (field e.word 27 3) x
          flInto (d < 0x20) (if stoch then .stoch (lane ws l % 65536) else .nearest)
            (flAdd (flMul (ofBf16 (lane slopes i)) x) (ofBf16 (lane icepts i)))))
        .ok { writes := [(3, fDest d ls)], sat := sat, nan := nan }
    | none, _ => .error .illegalOp

/-! ### Q slot (09 Table 9-8) -/

/-- A state lane as a float (FP32 view). -/
def hFl (x : Nat) : Fl := ofFp32 (x % 4294967296)
/-- The copy of a result in the CF format: FP32 or Q8.24 (09 Table 9-8). -/
def copyFl (q824 : Bool) (x : Nat) : Rounded := if q824 then flFix .nearest 24 32 (ofFp32 x) else { bits := x }
/-- The copy of a Q8.32 result. -/
def copyFix (q824 : Bool) (v : Int) : Rounded := if q824 then toFix .nearest 32 24 32 v else toFp32 .nearest (fixFl 32 v)
/-- A recurrence of one state register: `fl` and `fx` give the new state from coefficients, state and input; fixed values
have 15, 15, 32 and 30 fraction bits, the answer 47. -/
def opRec (e : TEnv) (fl : Fl → Fl → Fl → Fl → Fl) (fx : Int → Int → Int → Int → Int) : TRes :=
  let w := e.word
  let hn := field w 54 2
  let h := hReg e.run hn
  let va := vReg e.run (field w 48 5)
  let vb := vReg e.run (field w 43 5)
  let ax := aReg e.run (field w 40 3)
  let ay := aReg e.run (field w 36 3)
  let yen := natBit w 39
  let rs := (List.range 64).map (fun l =>
    if natBit w 53 then
      let u := signed 32 (lane ax l) + (if yen then signed 32 (lane ay l) else 0)
      let s := toFix .nearest 47 32 40 (fx (signed 16 (lane va l)) (signed 16 (lane vb l)) (signed 40 (lane h l)) u)
      (s, copyFix (natBit w 31) (signed 40 s.bits))
    else
      let u := if yen then flAdd (ofFp32 (lane ax l)) (ofFp32 (lane ay l)) else ofFp32 (lane ax l)
      let s := toFp32 .nearest (fl (ofBf16 (lane va l)) (ofBf16 (lane vb l)) (hFl (lane h l)) u)
      (s, copyFl (natBit w 31) s.bits))
  let cen := natBit w 35
  let cp := if cen then [(4, Dest.a (field w 32 3) (rs.map (fun r => r.2.bits)))] else []
  .ok { writes := (4, .h hn 0 (rs.map (fun r => r.1.bits))) :: cp,
        sat := rs.any (fun r => r.1.sat || (cen && r.2.sat)), nan := rs.any (fun r => r.1.nan || (cen && r.2.nan)) }
/-- EMA: h + alpha (u - h) (09 Table 9-8). -/
def opEma (e : TEnv) : TRes :=
  opRec e (fun a _ h u => flAdd h (flMul a (flSub u h))) (fun a _ h u => h * 32768 + a * (u * 4 - h))
/-- FO1: a h + b u. -/
def opFo1 (e : TEnv) : TRes :=
  opRec e (fun a b h u => flAdd (flMul a h) (flMul b u)) (fun a b h u => a * h + b * u * 4)
/-- One lane of SOS: y, s1, s2, each exact and rounded once; steps 2 and 3 use the rounded y (09 R230). -/
def sosLane (sf : Bool) (b0 b1 b2 a1 a2 s1 s2 u1 u2 : Nat) (yen : Bool) : Rounded × Rounded × Rounded :=
  if sf then
    let u := signed 32 u1 + (if yen then signed 32 u2 else 0)
    let q := signed 16
    let y := toFix .nearest 47 32 40 (q b0 * u * 4 + signed 40 s1 * 32768)
    let yv := signed 40 y.bits
    let n1 := toFix .nearest 47 32 40 (q b1 * u * 4 - q a1 * yv + signed 40 s2 * 32768)
    let n2 := toFix .nearest 47 32 40 (q b2 * u * 4 - q a2 * yv)
    (y, n1, n2)
  else
    let u := if yen then flAdd (ofFp32 u1) (ofFp32 u2) else ofFp32 u1
    let y := toFp32 .nearest (flAdd (flMul (ofBf16 b0) u) (hFl s1))
    let yv := ofFp32 y.bits
    let n1 := toFp32 .nearest (flAdd (flSub (flMul (ofBf16 b1) u) (flMul (ofBf16 a1) yv)) (hFl s2))
    let n2 := toFp32 .nearest (flSub (flMul (ofBf16 b2) u) (flMul (ofBf16 a2) yv))
    (y, n1, n2)
/-- SOS (09 R230, R232). -/
def opSos (e : TEnv) : TRes :=
  let w := e.word
  let hn := field w 54 2
  let va := field w 48 5
  if hn % 2 = 1 || 27 < va then .error .illegalOp
  else
    let sf := natBit w 53
    let rs := (List.range 64).map (fun l =>
      let c := fun k => lane (vReg e.run (va + k)) l
      sosLane sf (c 0) (c 1) (c 2) (c 3) (c 4) (lane (hReg e.run hn) l) (lane (hReg e.run (hn + 1)) l)
        (lane (aReg e.run (field w 40 3)) l) (lane (aReg e.run (field w 36 3)) l) (natBit w 39))
    let ys := rs.map (fun r => if sf then copyFix (natBit w 31) (signed 40 r.1.bits) else copyFl (natBit w 31) r.1.bits)
    let all := rs.flatMap (fun r => [r.1, r.2.1, r.2.2]) ++ ys
    .ok { writes := [(4, .h hn 0 (rs.map (fun r => r.2.1.bits))), (4, .h (hn + 1) 0 (rs.map (fun r => r.2.2.bits))),
                     (4, .a (field w 32 3) (ys.map (fun r => r.bits)))],
          sat := all.any (fun r => r.sat), nan := all.any (fun r => r.nan) }
/-- SCMB (09 Table 9-8). -/
def opScmb (e : TEnv) : TRes :=
  let d := field e.word 53 3
  let s := field e.word 50 3
  let t := field e.word 47 3
  if d = 7 || s = 7 || t = 7 then .error .illegalOp
  else
    let f := fun (n l : Nat) => ofFp32 (lane (aReg e.run n) l)
    let as := (List.range 64).map (fun l => toFp32 .nearest (flMul (f s l) (f t l)))
    let bs := (List.range 64).map (fun l => toFp32 .nearest (flAdd (flMul (f t l) (f (s + 1) l)) (f (t + 1) l)))
    let all := as ++ bs
    .ok { writes := [(4, .a d (as.map (fun r => r.bits))), (4, .a (d + 1) (bs.map (fun r => r.bits)))],
          sat := all.any (fun r => r.sat), nan := all.any (fun r => r.nan) }
/-- Row `i` of M_T M_S at column `j` of one channel (09 R231). -/
def scmb2Entry (f : Nat → Nat → Fl) (s t c i j : Nat) : Rounded :=
  toFp32 .nearest (flAdd (flMul (f (t + i) (2 * c)) (f s (2 * c + j))) (flMul (f (t + i) (2 * c + 1)) (f (s + 1) (2 * c + j))))
/-- Entry `i` of M_T v_S + v_T of one channel. -/
def scmb2Vec (f : Nat → Nat → Fl) (s t c i : Nat) : Rounded :=
  toFp32 .nearest (flAdd (flAdd (flMul (f (t + i) (2 * c)) (f (s + 2) (2 * c)))
    (flMul (f (t + i) (2 * c + 1)) (f (s + 2) (2 * c + 1)))) (f (t + 2) (2 * c + i)))
/-- SCMB2: lane pair (2c, 2c+1) holds channel c; rows 0 and 1 of M and v in three registers (09 R231). -/
def opScmb2 (e : TEnv) : TRes :=
  let d := field e.word 53 3
  let s := field e.word 50 3
  let t := field e.word 47 3
  if 5 < d || 5 < s || 5 < t then .error .illegalOp
  else
    let f := fun (n l : Nat) => ofFp32 (lane (aReg e.run n) l)
    let row := fun (i : Nat) => (List.range 64).map (fun l => scmb2Entry f s t (l / 2) i (l % 2))
    let vec := (List.range 64).map (fun l => scmb2Vec f s t (l / 2) (l % 2))
    let all := row 0 ++ row 1 ++ vec
    .ok { writes := [(4, .a d ((row 0).map (fun r => r.bits))), (4, .a (d + 1) ((row 1).map (fun r => r.bits))),
                     (4, .a (d + 2) (vec.map (fun r => r.bits)))],
          sat := all.any (fun r => r.sat), nan := all.any (fun r => r.nan) }
/-- SAPP: h <- As h + As+1, FP32; fields of the scan forms, with Hh, the copy and SF where the recurrence forms have them
(09 Table 9-8, R232; log 21). -/
def opSapp (e : TEnv) : TRes :=
  let w := e.word
  if natBit w 53 then .error .illegalOp
  else
    let hn := field w 54 2
    let s := field w 50 3
    let f := fun (n l : Nat) => ofFp32 (lane (aReg e.run n) l)
    let b := fun (l : Nat) => if s = 7 then ofFp32 (Config.sappBeyond l % 4294967296) else f (s + 1) l
    let hs := (List.range 64).map (fun l => toFp32 .nearest (flAdd (flMul (f s l) (hFl (lane (hReg e.run hn) l))) (b l)))
    let cps := hs.map (fun r => copyFl (natBit w 31) r.bits)
    let cen := natBit w 35
    let cp := if cen then [(4, Dest.a (field w 32 3) (cps.map (fun r => r.bits)))] else []
    .ok { writes := (4, .h hn 0 (hs.map (fun r => r.bits))) :: cp,
          sat := hs.any (fun r => r.sat) || (cen && cps.any (fun r => r.sat)), nan := hs.any (fun r => r.nan) || (cen && cps.any (fun r => r.nan)) }

/-! ### P slot (09 Table 9-9) -/

/-- DRAW (09 R233, R234). -/
def opDraw (e : TEnv) : TRes :=
  let e0 := field e.word 0 16
  let xs := field e.word 36 4
  if e0 % 64 ≠ 0 then .error .illegalOp
  else
    let k := if xs = 0 then 0 else xReg e.run xs % 8
    .ok { writes := [(1, .v (field e.word 51 5) ((List.range 64).map (fun l => e.draw (field e.word 40 8) k (e0 + l))))] }
/-- MASK. -/
def opMask (e : TEnv) : TRes :=
  let vs := vReg e.run (field e.word 46 5)
  let vr := vReg e.run (field e.word 41 5)
  .ok { writes := [(1, .v (field e.word 51 5) ((List.range 64).map (fun l =>
    if natBit e.word 31 || decide (lane vr l < field e.word 0 16) then lane vs l else 0)))] }
/-- CMPM. -/
def opCmpm (e : TEnv) : TRes :=
  let vr := vReg e.run (field e.word 41 5)
  .ok { writes := [(1, .v (field e.word 51 5) ((List.range 64).map (fun l =>
    if lane vr l < field e.word 0 16 then 0xFFFF else 0)))] }

/-! ### Landing (08 R191, R192) -/

/-- One result lands in the registers of its own step; a Palette store is the caller's. -/
def landReg (r : Run) (d : Dest) : Run :=
  match d with
  | .v n ls => { r with v := tblSet n ls r.v }
  | .a n ls => { r with a := tblSet n ls r.a }
  | .h n f ls =>
    let old := hReg r n
    { r with h := tblSet n (old.take f ++ ls ++ old.drop (f + ls.length)) r.h }
  | .x n v => { r with x := tblSet n v r.x }
  | .pal _ _ _ => r
/-- Two results land on one register of the step; a half of an H register is that register (08 R191). -/
def sameReg : Dest → Dest → Bool
  | .v n _, .v m _ => n == m
  | .a n _, .a m _ => n == m
  | .h n _ _, .h m _ _ => n == m
  | .x n _, .x m _ => n == m
  | _, _ => false
/-- A result is discarded: one of a higher slot lands on its register in the same cycle (08 R191). -/
def hidden (all : List InFlight) (x : InFlight) : Bool :=
  all.any (fun y => y.land == x.land && decide (x.rank < y.rank) && sameReg x.dest y.dest)
/-- Results in landing order: earlier cycle first; in one cycle the lower slot first, so that the higher one is kept. -/
def insertFlight (x : InFlight) : List InFlight → List InFlight
  | [] => [x]
  | y :: ys => if x.land < y.land || (x.land = y.land && x.rank < y.rank) then x :: y :: ys else y :: insertFlight x ys

end Sys2Proof.Machine
end

