-- ==== Sys2Proof/Machine/TileRun.lean ====
section
/-! DEFINITION. How a tile runs a step (08): fetch, issue of a bundle's slots, loops, stalls, landing, aborts. -/

namespace Sys2Proof.Machine

/-- Rank of a slot in Table 8-2: C is 7, P is 0; slot r is bytes 8r to 8r + 7 of its bundle (08 R189). -/
def slotRank : Slot → Nat
  | .c => 7 | .k => 6 | .l => 5 | .w => 4 | .m => 3 | .f => 2 | .q => 1 | .p => 0
/-- Opcodes that 09 defines for the slot of a rank; 0x00 is a no-operation in every slot (08 R189). -/
def slotOps : Nat → List Nat
  | 7 => [0, 1, 2, 3, 4, 5, 6]
  | 6 => [0, 1, 2, 3, 4, 5, 6, 7, 8, 9, 10, 11, 12, 13]
  | 5 => [0, 1, 2, 3, 4]
  | 4 => [0, 1, 2]
  | 3 => [0, 1, 2, 3, 4]
  | 2 => [0, 1, 2, 3, 4, 5, 6, 7, 8, 9, 10, 11]
  | 1 => [0, 1, 2, 3, 4, 5, 6]
  | _ => [0, 1, 2, 3]
/-- The 64-bit operation of rank r in the bundle at pc. -/
def slotWord (k : Mem) (pc r : Nat) : Nat := memLe 0#8 k (pc * 64 + r * 8) 8

/-- Code of Table 8-9 in its order, from 1 (log 20). -/
def abortNo : AbortCode → Nat
  | .illegalOp => 1 | .loopFault => 2 | .kernelBounds => 3 | .stepOverrun => 4 | .stallTimeout => 5
  | .leaseFault => 6 | .leaseLost => 7 | .memUncorr => 8 | .kstoreParity => 9
/-- PAUSE_REASON of an abort (11 Table 11-2). -/
def abortReason (c : AbortCode) : Nat := 0x0F + abortNo c

/-! ### Leases (08 8.7) -/

/-- Holder of a bank. -/
def holderOf (x : Tile) (bank : Nat) : Holder := tblGet .home x.holders bank
/-- A bank returns to HOME. -/
def goHome (s : State) (tile bank : Nat) : State :=
  s.updTile tile (fun x => { x with holders := tblDel bank x.holders, leaseAt := tblDel bank x.leaseAt })
/-- A tile gives back every lease it holds, and its waiting requests (08 R208, 09 R221). -/
def dropLeases (s : State) (tile : Nat) : State :=
  let b := tile / 16 * 16
  let s := match (s.tile tile).run with
    | some r => r.held.foldl (fun (s : State) (p : Nat × Nat) => goHome s (b + p.1) p.2) s
    | none => s
  { s with tiles := s.tiles.map (fun (e : Nat × Tile) =>
      (e.1, { e.2 with requests := e.2.requests.filter (fun (q : LeaseReq) => q.who != .remote (Fin.ofNat 64 tile)) })) }

/-! ### Landing (08 R191 to R193) -/

/-- A result lands: in a register of the step, or in a slice of the bench. -/
def landOne (s : State) (tile : Nat) (x : InFlight) : State :=
  match x.dest with
  | .pal p addr bs =>
    s.updTile (tile / 16 * 16 + p) (fun y => { y with pal := memWrite 0#8 y.pal addr bs })
  | d => s.updTile tile (fun y => { y with run := y.run.map (fun r => landReg r d) })
/-- Every result of the tile whose cycle has come lands, but for those that a higher slot's hides. -/
def landDue (s : State) (tile : Nat) : State :=
  match (s.tile tile).run with
  | none => s
  | some r =>
    let ready := r.flight.filter (fun x => decide (x.land ≤ r.cycle))
    let s := s.updTile tile (fun y => { y with run := y.run.map (fun r =>
      { r with flight := r.flight.filter (fun x => decide (r.cycle < x.land)) }) })
    (ready.filter (fun x => !hidden ready x)).foldl (fun s x => landOne s tile x) s

/-! ### Loops and the next bundle (08 R194, R195, R199) -/

/-- Loops that end at pc, innermost first; the next bundle, the counters and the loops still active. -/
def loopBack (pc : Nat) : List LoopFrame → Tbl Nat → Nat × Tbl Nat × List LoopFrame
  | [], l => (pc + 1, l, [])
  | f :: fs, l =>
    if f.stop ≠ pc then (pc + 1, l, f :: fs)
    else
      let v := tblGet 0 l f.n - 1
      let l := tblSet f.n v l
      if 1 ≤ v then (f.start, l, f :: fs) else loopBack pc fs l
/-- The step after its bundle has issued whole: the next issue cycle, or the code it aborts with. -/
def nextBundle (r : Run) : Except AbortCode Run :=
  if r.cycMax ≤ r.cycle then .error .stepOverrun
  else
    let (pc, l, fs) := match r.nextPc, r.newLoop with
      | some p, _ => (p, r.l, r.loops)
      | none, some (f, n) => (r.pc + 1, tblSet f.n n r.l, f :: r.loops)
      | none, none => loopBack r.pc r.loops r.l
    if pc < r.kt0.entry || r.kt0.entry + r.kt0.len ≤ pc then .error .kernelBounds
    else .ok { r with pc := pc, l := l, loops := fs, cycle := r.cycle + 1, issued := 0, nextPc := none, newLoop := none }

/-- The class as a number of time base counts a stall may last: 1 microsecond ONLINE, what is left of 50 microseconds
otherwise (08 R196). -/
def stallLimit (r : Run) : Nat :=
  if r.cls = 0 then 48 - r.stalled else r.startAt + 2400 - r.stallAt

end Sys2Proof.Machine
end

