-- ==== Sys2Proof/Machine/Alloc.lean ====
section
/-! DEFINITION. Placement and the admission arithmetic (14 14.3, 14.4): what is free in the kernel stores, the Palette,
the weight stores, the queue pool, the state store; tile loads; where a stream goes; scan work chunk sizes. -/

namespace Sys2Proof.Machine

/-! ### Free areas -/

/-- A run at `a` of `size` ends at or before `hi` and overlaps none of the used runs (start, size). -/
def fits (used : List (Nat × Nat)) (a size hi : Nat) : Bool :=
  decide (a + size ≤ hi) && used.all (fun p => p.2 == 0 || decide (p.1 + p.2 ≤ a) || decide (a + size ≤ p.1))
/-- The lowest aligned start of a free run in lo .. hi. -/
def firstFree (used : List (Nat × Nat)) (align size lo hi : Nat) : Option Nat :=
  let cs := (lo :: used.map (fun p => p.1 + p.2)).map (fun x => ceilDiv (max lo x) align * align)
  let ok := cs.filter (fun a => fits used a size hi)
  match ok with
  | [] => none
  | a :: as => some (as.foldl min a)

/-- A placed image by handle. -/
def imageOf (s : State) (h : Nat) : Option Image := tblFind? s.foreman.images h
/-- The kernel of a stream. -/
def kernelOf (s : State) (st : Stream) : Option Kernel := (imageOf s st.image).bind (fun i => i.kernels[st.kernel]?)
/-- Units of a stream's area: two state copies and the parameter block (11 R263). -/
def areaUnits (s : State) (st : Stream) : Nat :=
  match kernelOf s st with
  | some k => 2 * k.stateUnits + st.paramUnits
  | none => st.paramUnits
/-- A stream's home tile, at its unit address. -/
def areaOf (s : State) (st : Stream) : Nat × Nat := (st.unit, areaUnits s st)
/-- Palette units in use on a tile: initial state blocks, stream areas, lanes and slots, work chunk areas, and the places
a migration copies to. -/
def palUsed (s : State) (tile : Nat) : List (Nat × Nat) :=
  s.foreman.images.flatMap (fun (e : Nat × Image) =>
      ((tblGet [] e.2.inits tile).zip e.2.kernels).filterMap (fun p =>
        if p.2.kind = 0 then some (p.1, p.2.stateUnits) else none))
    ++ s.sched.streams.filterMap (fun (e : Nat × Stream) =>
      if e.2.valid && (!e.2.swap || e.2.res || e.2.xfer.isSome) && e.2.tile == tile then some (areaOf s e.2) else none)
    ++ s.sched.streams.filterMap (fun (e : Nat × Stream) =>
      match e.2.between.home with
      | some p => if e.2.valid && p.1 == tile then some (p.2, areaUnits s e.2) else none
      | none => none)
    ++ s.sched.streams.filterMap (fun (e : Nat × Stream) =>
      match e.2.xfer with
      | some x =>
        (match x.kind with
        | .migrate t u => if e.2.valid && t == tile then some (u, areaUnits s e.2) else none
        | _ => none)
      | none => none)
    ++ s.sched.lanes.filterMap (fun (e : Nat × Lane) => if e.2.tile == tile then some (e.2.unit, e.2.units) else none)
    ++ s.sched.jobs.flatMap (fun (e : Nat × Job) => e.2.fly.filterMap (fun c =>
      if c.flying && c.tile == tile then some (c.unit, c.units) else none))
/-- Lowest free unit address for an area, aligned to 4 units, first in the banks of a mask, then in others (14 R343). -/
def palFree (s : State) (tile units mask : Nat) : Option Nat :=
  let used := palUsed s tile
  let inMask := (List.range 16).filterMap (fun b =>
    if natBit mask b then firstFree used 4 units (b * 256) ((b + 1) * 256) else none)
  match inMask with
  | a :: _ => some a
  | [] => firstFree used 4 units 0 4096
/-- Kernel store bundles in use on a tile. -/
def kstoreUsed (s : State) (tile : Nat) : List (Nat × Nat) :=
  s.foreman.images.filterMap (fun (e : Nat × Image) => (tblFind? e.2.bases tile).map (fun b => (b, e.2.bundles.length / 64)))
/-- Weight store bytes in use on a bench. -/
def wstoreUsed (s : State) (b : Nat) : List (Nat × Nat) :=
  s.foreman.images.filterMap (fun (e : Nat × Image) => (tblFind? e.2.wbase b).map (fun a => (a, e.2.weights.length)))
/-- The smallest power of two not below n (11 R270). -/
def pow2Up (n : Nat) : Nat := ((List.range 18).map (fun k => 2 ^ k)).find? (fun p => decide (n ≤ p)) |>.getD n
/-- Queue pool blocks in use. -/
def queueUsed (s : State) : List (Nat × Nat) :=
  s.sched.streams.filterMap (fun (e : Nat × Stream) => if e.2.valid then some (e.2.qbase, pow2Up e.2.qdepth) else none)
/-- State store bytes in use: (address, size), the channel in bits 36 up. -/
def storeUsed (s : State) : List (Nat × Nat) :=
  s.sched.streams.filterMap (fun (e : Nat × Stream) =>
    if e.2.valid then e.2.storePtr.map (fun p => (p * 128, areaUnits s e.2 * 128)) else none)
/-- Dataset bytes in use. -/
def datasetUsed (s : State) : List (Nat × Nat) :=
  s.foreman.datasets.map (fun (e : Nat × Dataset) => (e.2.base, e.2.mib * 1048576))

/-! ### DRAM as one address space (log 22) -/

/-- Address at which channel c begins. -/
def chanBase (c : Nat) : Nat := c * 2 ^ 36
/-- Bytes of DRAM. -/
def dramRead (s : State) (a n : Nat) : List Byte := memRead 0#8 (s.dram.getD (a / 2 ^ 36) []) (a % 2 ^ 36) n
/-- Write bytes of DRAM. -/
def dramWrite (s : State) (a : Nat) (b : List Byte) : State :=
  { s with dram := modAt s.dram (a / 2 ^ 36) (fun m => memWrite 0#8 m (a % 2 ^ 36) b) }
/-- A run of DRAM lies in released regions of a channel that is up (19 R446). -/
def dramUsable (s : State) (a n : Nat) : Bool :=
  let c := s.sys.channels.getD (a / 2 ^ 36) {}
  let o := a % 2 ^ 36
  c.up && decide (o + n ≤ c.mib * 1048576)
    && (List.range (ceilDiv (o % 268435456 + n) 268435456)).all (fun i =>
      c.regions.getD (o / 268435456 + i) .mappedOut == .released)
/-- Released runs of a channel, a run of released regions each. -/
def releasedRuns (rs : List RegionSt) : List (Nat × Nat) :=
  (List.range rs.length).filterMap (fun i =>
    if rs.getD i .pending == .released && (i = 0 || rs.getD (i - 1) .pending != .released) then
      some (i, ((rs.drop i).takeWhile (· == .released)).length)
    else none)
/-- Regions of the state store (19 R447): (channel, region). -/
def storeRegions (s : State) : List (Nat × Nat) :=
  let kept := fun (c : Nat) =>
    let rs := (s.sys.channels.getD c {}).regions
    (List.range rs.length).filter (fun i => rs.getD i .mappedOut != .mappedOut)
  let chs := (List.range 2).filter (fun c => !(s.sys.channels.getD c {}).regions.isEmpty)
  let n := if chs.length = 2 then 2 else 4
  chs.flatMap (fun c => ((kept c).take n).map (fun i => (c, i)))
/-- A region of the state store. -/
def inStore (s : State) (c i : Nat) : Bool := (storeRegions s).contains (c, i)
/-- Bytes of a region. -/
def regionBytes : Nat := 268435456
/-- Lowest free state store area of `n` bytes on a channel (log 27). -/
def storeFree (s : State) (c n : Nat) : Option Nat :=
  let ch := s.sys.channels.getD c {}
  if !ch.up then none
  else (storeRegions s).findSome? (fun p =>
    if p.1 = c && ch.regions.getD p.2 .mappedOut == .released then
      firstFree (storeUsed s) 128 n (chanBase c + p.2 * regionBytes) (chanBase c + (p.2 + 1) * regionBytes)
    else none)
/-- Regions of a channel as dataset memory sees them: those of the state store are not released to it (19 R453). -/
def dataRegions (s : State) (c : Nat) : List RegionSt :=
  let rs := (s.sys.channels.getD c {}).regions
  (List.range rs.length).map (fun i => if inStore s c i then .mappedOut else rs.getD i .mappedOut)
/-- The lowest free run of `n` bytes in released memory outside the state store, aligned; `used` are taken. -/
def dataFree (s : State) (used : List (Nat × Nat)) (align n : Nat) : Option Nat :=
  (List.range 2).findSome? (fun c =>
    let ch := s.sys.channels.getD c {}
    if ch.up then (releasedRuns (dataRegions s c)).findSome? (fun r =>
      firstFree used align n (chanBase c + r.1 * regionBytes)
        (chanBase c + min ((r.1 + r.2) * regionBytes) (ch.mib * 1048576)))
    else none)
/-- Foreman has image copies: released DRAM outside the state store (21 R488). -/
def copiesKept (s : State) : Bool :=
  (List.range 2).any (fun c => (s.sys.channels.getD c {}).up && (dataRegions s c).any (· == .released))
/-- Bytes of a slice. -/
def palRead (s : State) (tile unit units : Nat) : List Byte := memRead 0#8 (s.tile tile).pal (unit * 128) (units * 128)
/-- Write bytes of a slice. -/
def palWrite (s : State) (tile unit : Nat) (b : List Byte) : State :=
  s.updTile tile (fun x => { x with pal := memWrite 0#8 x.pal (unit * 128) b })

/-! ### Periods, loads and bounds (14 R342, Table 14-5) -/

/-- Sweep period of a pair in time base counts (06 Table 6-7). -/
def sweepPeriod (p : Pair) : Nat := (2 * 48000000 + p.sweepHz) / (2 * max 1 p.sweepHz)
/-- Period of a stream in time base counts (11 R276, R286). -/
def periodOf (st : Stream) : Nat := if st.feed then st.fd.per else st.period * 48
/-- A non-negative fraction. -/
abbrev Frac := Nat × Nat
/-- Sum of fractions. -/
def fracSum (l : List Frac) : Frac := l.foldl (fun a b => (a.1 * b.2 + b.1 * a.2, a.2 * b.2)) (0, 1)
/-- One fraction is at most another. -/
def fracLe (a b : Frac) : Bool := decide (a.1 * b.2 ≤ b.1 * a.2)
/-- CYC_MAX of a stream as its image declares it. -/
def cycOf (s : State) (st : Stream) : Nat := ((kernelOf s st).map (fun k => k.cyc)).getD 1
/-- Share of a tile that an ONLINE stream takes on a bench. -/
def onlineShare (s : State) (bench cyc period : Nat) : Frac := (cyc * 48000, benchKhz s bench * max 1 period)
/-- The tile a stream runs on, or is moving to: its lane's for a SWAP stream. -/
def homeOf (s : State) (st : Stream) : Nat :=
  match st.slot.bind (fun i => tblFind? s.sched.lanes i) with
  | some l => l.tile
  | none =>
    match st.xfer with
    | some x => (match x.kind with
      | .migrate t _ => t
      | _ => st.tile)
    | none => st.tile
/-- ONLINE streams admitted on a tile: (CYC_MAX, period). -/
def tileOnline (s : State) (tile : Nat) : List (Nat × Nat) :=
  s.sched.streams.filterMap (fun (e : Nat × Stream) =>
    if e.2.valid && e.2.den && e.2.cls == 0 && homeOf s e.2 == tile then some (cycOf s e.2, periodOf e.2) else none)
/-- U_t of a list of ONLINE streams on a bench. -/
def loadOf (s : State) (bench : Nat) (l : List (Nat × Nat)) : Frac := fracSum (l.map (fun p => onlineShare s bench p.1 p.2))
/-- The SCHEDULE bound of a tile with these ONLINE streams. -/
def loadOk (s : State) (bench : Nat) (l : List (Nat × Nat)) : Bool :=
  let u := loadOf s bench l
  match l with
  | [] => true
  | p :: ps =>
    let pm := ps.foldl (fun m q => min m q.2) p.2
    fracLe u (9, 10) && fracLe (fracSum [u, (2400, max 1 pm)]) (1, 1)
/-- CYC_MAX lasts at most 50 microseconds on a bench (11 R280). -/
def chunkOk (s : State) (bench cyc : Nat) : Bool := decide (cyc * 1000 ≤ 50 * benchKhz s bench) && decide (0 < benchKhz s bench)
/-- The tile of the benches of `mask` that a stream takes (14 R343): the lowest U_t after it is added, then the lowest
number, among live tiles with the image and a free area; with the unit address. `area = none`: no area is needed. -/
def chooseTile (s : State) (img : Image) (kt : Nat) (mask : Nat) (units : Nat) (need : Bool) (online : Option (Nat × Nat))
    (skip : Nat → Bool) : Option (Nat × Nat) :=
  let cand := (liveTiles s).filter (fun t => natBit mask (t / 16) && (tblFind? img.bases t).isSome && !skip t)
  let ok := cand.filterMap (fun t =>
    let m := (tblGet {} (s.tile t).ktab kt).bankMask
    match if need then palFree s t units m else some 0 with
    | some u => some (t, u, loadOf s (t / 16) (online.toList ++ tileOnline s t))
    | none => none)
  match ok with
  | [] => none
  | x :: xs =>
    let b := xs.foldl (fun (a y : Nat × Nat × Frac) => if fracLe a.2.2 y.2.2 then a else y) x
    some (b.1, b.2.1)
/-- Banks that a run of units touches, as a mask. -/
def bankBits (unit units : Nat) : Nat :=
  (List.range 16).foldl (fun m b =>
    if decide (b * 256 < unit + units) && decide (unit < (b + 1) * 256) then m ||| 2 ^ b else m) 0
/-- Bits go into a kernel table entry's BANK_MASK. -/
def widenNow (s : State) (tile kt bits : Nat) : State :=
  let e := tblGet {} (s.tile tile).ktab kt
  s.updTile tile (fun x => { x with ktab := tblSet kt { e with bankMask := e.bankMask ||| bits } x.ktab, widen := tblDel kt x.widen })
/-- Foreman widens a kernel's BANK_MASK to an area it places: at once, or between two dispatches of that kernel on the tile (14
R339, 08 R198). -/
def widenMask (s : State) (tile kt unit units : Nat) : State :=
  let bits := bankBits unit units ||| tblGet 0 (s.tile tile).widen kt
  if (s.tile tile).run.any (fun r => r.kt == kt) then s.updTile tile (fun x => { x with widen := tblSet kt bits x.widen })
  else widenNow s tile kt bits
/-- What waited for the end of a dispatch is written. -/
def widenLate (s : State) (tile : Nat) : State := (s.tile tile).widen.foldl (fun s (e : Nat × Nat) => widenNow s tile e.1 e.2) s

/-! ### Scan jobs (10 10.5) -/

/-- Chunk length C. -/
def jobC (j : Job) : Nat := if j.seqMode then j.t else 2 ^ j.log2c
/-- Number of chunks. -/
def jobNC (j : Job) : Nat := ceilDiv j.t (jobC j)
/-- Bytes of an aggregate (10 R249). -/
def aggBytes (j : Job) : Nat := if j.form = 2 then 1536 else 512
/-- Bytes of a carried state in the scratch area (10 R249). -/
def stBytes (j : Job) : Nat := if j.form = 2 then 512 else 256
/-- Units of an initial state (10 R245). -/
def h0Units (j : Job) : Nat := if j.form = 2 || j.sf = 1 then 4 else 2
/-- Units of a group's coefficients (10 R245). -/
def coefUnits (j : Job) : Nat := [2, 1, 5, 0].getD j.form 0
/-- Bytes of an element's input. -/
def inBytes (j : Job) : Nat := if j.form = 3 then 512 else 256
/-- Element t is an output (10 Table 10-4 OUT_SEL; log 23). -/
def outPick (j : Job) (t : Nat) : Bool :=
  if j.outSel = 0 then true
  else if j.outSel = 0xFF then t + 1 == j.t
  else t + 1 == j.t || decide ((t + 1) % 2 ^ j.outSel = 0)
/-- Outputs before element t. -/
def outBefore (j : Job) (t : Nat) : Nat :=
  if j.outSel = 0 then t
  else if j.outSel = 0xFF then (if j.t ≤ t then 1 else 0)
  else if j.t ≤ t then ceilDiv j.t (2 ^ j.outSel) else t / 2 ^ j.outSel
/-- T_out. -/
def outCount (j : Job) : Nat := outBefore j j.t
/-- Scratch bytes (10 R249). -/
def scratchBytes (j : Job) : Nat :=
  if j.seqMode then 128 + j.groups * stBytes j
  else 128 + j.groups * (ceilDiv j.t 64 * aggBytes j + ceilDiv j.t (jobC j) * stBytes j)
/-- The ranges of a job in the dataset region: (offset, size) of inputs, outputs, coefficients, initial state, scratch. -/
def jobRanges (j : Job) : List (Nat × Nat) :=
  [(j.inOfs, j.groups * j.t * inBytes j), (j.outOfs, j.groups * outCount j * 256),
   (j.coefOfs, j.groups * coefUnits j * 128), (j.h0Ofs.getD 0, if j.h0Ofs.isSome then j.groups * h0Units j * 128 else 0),
   (j.scratchOfs, scratchBytes j)]
/-- Index of the scan kernel of a kind for a form and format in an image. -/
def scanKernel (img : Image) (kind form sf : Nat) : Option Nat :=
  (List.range img.kernels.length).find? (fun i => match img.kernels[i]? with
    | some k => k.kind == kind && k.form == form && k.sf == sf
    | none => false)
/-- Phases of a job. -/
def jobKinds (j : Job) : List Nat := if j.seqMode then [4] else [1, 2, 3, 4]
/-- A work chunk size fits (10 R246): every phase's declared cycles last at most 50 microseconds at the slowest bench that
holds the image, and the area is within the claim. -/
def gFits (s : State) (img : Image) (j : Job) (g : Nat) : Bool :=
  (jobKinds j).all (fun kd => match scanKernel img kd j.form j.sf with
    | some i =>
      (match img.kernels[i]? with
      | some k =>
        let cyc := k.cyc + k.cycPer * g
        decide (k.palBase + k.palPer * (g / 64) ≤ img.palBytes / 128)
          && (List.range 4).all (fun b => !(natBit img.mask b && s.benchLive b) || chunkOk s b cyc)
      | none => false)
    | none => false)
/-- The largest work chunk size that fits, from 64 to min (C, 4,096). -/
def chooseG (s : State) (img : Image) (j : Job) : Option Nat :=
  [4096, 2048, 1024, 512, 256, 128, 64].find? (fun g =>
    (decide (g ≤ jobC j) || g == 64) && gFits s img j g)
/-- Units of a work chunk area of a kernel. -/
def chunkUnits (k : Kernel) (g : Nat) : Nat := k.palBase + k.palPer * (g / 64)
/-- The work chunk area at a size fits some live tile. -/
def gPlaces (s : State) (img : Image) (j : Job) (g : Nat) : Bool :=
  (jobKinds j).all (fun kd => match (scanKernel img kd j.form j.sf).bind (fun i => img.kernels[i]?) with
    | some k => (liveTiles s).any (fun t => (tblFind? img.bases t).isSome && (palFree s t (chunkUnits k g) 0).isSome)
    | none => false)

end Sys2Proof.Machine
end

