-- ==== Sys2Proof/Machine/Scan.lean ====
section
/-! DEFINITION. Scan jobs (10): the next work chunk, what the swap engine stages and drains, progress and ends. The
layouts of a work chunk area and of the scratch area are the model's (log 24), and how many aggregates a MERGE or CARRY work chunk
takes where its area holds fewer than the table's (log 176). -/

namespace Sys2Proof.Machine

/-- Work chunks of a phase, group and chunk. -/
def inChunk (cs : List Chunk) (ph g c : Nat) : List Chunk := cs.filter (fun x => x.phase == ph && x.group == g && x.chunk == c)
/-- The first element from `a` on that no listed work chunk covers. -/
def coveredTo (cs : List Chunk) : Nat → Nat → Nat
  | 0, a => a
  | f + 1, a =>
    match cs.find? (fun c => decide (c.first ≤ a) && decide (a < c.first + c.count)) with
    | some c => coveredTo cs f (c.first + c.count)
    | none => a
/-- First element and end of chunk c. -/
def chunkSpan (j : Job) (c : Nat) : Nat × Nat := (c * jobC j, min ((c + 1) * jobC j) j.t)
/-- Elements that a REDUCE or MERGE result covers. -/
def spanOf (x : Chunk) : Nat := if x.phase = 2 then x.span else x.count
/-- Subtree aggregates of a chunk that no larger one covers, in element order. -/
def topRuns (j : Job) (g c : Nat) : List Chunk :=
  let cs := inChunk j.doneOf 1 g c ++ inChunk j.doneOf 2 g c
  let top := cs.filter (fun x => !cs.any (fun y =>
    decide (y.first ≤ x.first) && decide (x.first + spanOf x ≤ y.first + spanOf y) && decide (spanOf x < spanOf y)))
  (List.range (ceilDiv (jobC j) 64)).filterMap (fun i => top.find? (fun x => x.first == c * jobC j + i * 64))
/-- Every element of a chunk is reduced and none of its work chunks is in flight. -/
def reduced (j : Job) (g c : Nat) : Bool :=
  let (a, b) := chunkSpan j c
  decide (b ≤ coveredTo (inChunk j.doneOf 1 g c) (j.doneOf.length + 1) a) && (inChunk j.fly 1 g c).isEmpty
/-- The aggregate of a chunk exists. -/
def aggReady (j : Job) (g c : Nat) : Bool := reduced j g c && decide ((topRuns j g c).length ≤ 1)
/-- The carry of chunk c exists. -/
def carryReady (j : Job) (g c : Nat) : Bool :=
  c == 0 || decide (c ≤ coveredTo (j.doneOf.filter (fun x => x.phase == 3 && x.group == g)) (j.doneOf.length + 1) 0)
/-- Units of carried state in a work chunk's area. -/
def stateUnitsOf (j : Job) (phase : Nat) : Nat := if phase = 3 || phase = 4 then h0Units j else 0
/-- The most aggregates that a MERGE or CARRY work chunk takes: those that its area holds with what else is staged and drained, a
CARRY's at most 4,096 (10 Table 10-5, R247; log 176). -/
def aggLimit (img : Image) (j : Job) (kind : Nat) : Nat :=
  let area := match (scanKernel img kind j.form j.sf).bind (fun i => img.kernels[i]?) with
    | some k => chunkUnits k j.g
    | none => 0
  let free := area - coefUnits j - stateUnitsOf j kind
  if kind = 2 then max 2 ((free - aggBytes j / 128) / (aggBytes j / 128))
  else max 1 (min 4096 (free / (aggBytes j / 128 + stBytes j / 128)))
/-- A MERGE work chunk over the aggregates of an aligned run of elements. -/
def mergeOver (g c first span count : Nat) : Chunk := { phase := 2, group := g, chunk := c, first := first, count := count, span := span, index := c }
/-- The MERGE work chunk that comes next for a reduced chunk: the whole chunk where its aggregates are within the limit, else the
largest aligned half, quarter and so on whose aggregates are, the first of that size (10 R241; log 176). -/
def nextMerge (j : Job) (lim g c : Nat) : Option Chunk :=
  let runs := topRuns j g c
  let a := c * jobC j
  if runs.length ≤ 1 then none
  else if runs.length ≤ lim then some (mergeOver g c a (jobC j) runs.length)
  else (List.range 17).findSome? (fun e =>
    let w := jobC j / 2 ^ (e + 1)
    if w < 128 then none
    else (List.range (2 ^ (e + 1))).findSome? (fun i =>
      let n := (runs.filter (fun x => decide (a + i * w ≤ x.first) && decide (x.first < a + (i + 1) * w))).length
      if 2 ≤ n && n ≤ lim then some (mergeOver g c (a + i * w) w n) else none))
/-- Work chunks of a group that are ready and new, one of each phase (10 R242, R246). A work chunk's index within its phase and
group follows from the job and its present work chunk size alone (10 R247, R250; log 176). -/
def readyIn (img : Image) (j : Job) (g : Nat) : List Chunk :=
  let nc := jobNC j
  let all := j.doneOf ++ j.fly
  let reduce := if j.seqMode then none else (List.range (nc - 1)).findSome? (fun c =>
    let (a0, b) := chunkSpan j c
    let a := coveredTo (inChunk all 1 g c) (all.length + 1) a0
    if a < b then some { phase := 1, group := g, chunk := c, first := a, count := min j.g (b - a), index := a / max 1 j.g : Chunk }
    else none)
  let merge := if j.seqMode then none else (List.range (nc - 1)).findSome? (fun c =>
    if reduced j g c && (inChunk j.fly 2 g c).isEmpty then nextMerge j (aggLimit img j 2) g c else none)
  let carried := j.doneOf.filter (fun x => x.phase == 3 && x.group == g)
  let a := coveredTo carried (j.doneOf.length + 1) 0
  let n := min (aggLimit img j 3) (nc - 1 - a)
  let carry := if !j.seqMode && decide (0 < n) && !j.fly.any (fun x => x.phase == 3 && x.group == g)
      && (List.range n).all (fun i => aggReady j g (a + i)) then
    some { phase := 3, group := g, chunk := a, first := a, count := n, index := carried.length : Chunk } else none
  let apply := (List.range nc).findSome? (fun c =>
    let (a0, b) := chunkSpan j c
    let a := coveredTo (inChunk j.doneOf 4 g c) (j.doneOf.length + 1) a0
    if carryReady j g c && (inChunk j.fly 4 g c).isEmpty && decide (a < b) then
      some { phase := 4, group := g, chunk := c, first := a, count := min j.g (b - a), index := a / max 1 j.g : Chunk }
    else none)
  [reduce, merge, carry, apply].filterMap id
/-- Work chunk order: phase, group, chunk, element (10 Edges of 10.5). -/
def chunkBefore (a b : Chunk) : Bool :=
  let k := fun (c : Chunk) => ((c.phase * 64 + c.group) * 2097152 + c.chunk) * 2097152 + c.first
  decide (k a ≤ k b)
/-- An aborted work chunk as it is dispatched again: no larger than the present work chunk size and limits allow; what it leaves
out comes as a work chunk of its own (10 R246, R254). -/
def again (img : Image) (j : Job) (c : Chunk) : Chunk :=
  if c.phase = 1 || c.phase = 4 then { c with count := min c.count j.g }
  else if c.phase = 3 then { c with count := min c.count (aggLimit img j 3) }
  else c
/-- Whether an aborted MERGE still fits; it is formed anew otherwise. -/
def stillFits (img : Image) (j : Job) (c : Chunk) : Bool := c.phase != 2 || decide (c.count ≤ aggLimit img j 2)
/-- The next work chunk of a job: an aborted one or a new one. -/
def nextChunk (img : Image) (j : Job) : Option Chunk :=
  let back := j.fly.filter (fun c => !c.flying)
  let j := { j with fly := j.fly.filter (fun c => c.flying || stillFits img j c) }
  let cs := (back.filter (stillFits img j)).map (again img j) ++ (List.range j.groups).flatMap (fun g => readyIn img j g)
  match cs with
  | [] => none
  | c :: cs => some (cs.foldl (fun a b => if chunkBefore a b then a else b) c)
/-- Every output element is done. -/
def jobDone (j : Job) : Bool :=
  decide (j.groups * j.t ≤ sumNat ((j.doneOf.filter (fun c => c.phase == 4)).map (fun c => c.count)))
/-- Work chunks a job takes in all with its present work chunk size (16 JOB_STATUS; log 176). -/
def jobTotal (j : Job) : Nat :=
  let nc := jobNC j
  let app := sumNat ((List.range nc).map (fun c => ceilDiv ((chunkSpan j c).2 - (chunkSpan j c).1) j.g))
  j.groups * (if j.seqMode then app
    else (nc - 1) * ceilDiv (jobC j) j.g + (if j.g < jobC j then nc - 1 else 0) + ceilDiv (nc - 1) 4096 + app)
/-- The step counter of a work chunk: a CARRY's first element is the first of its first chunk (10 R247). -/
def chunkStep (j : Job) (c : Chunk) : Nat :=
  c.phase * 2 ^ 40 + c.group * 2 ^ 32 + (if c.phase = 3 then c.first * jobC j else c.first)

/-! ### Memory of a job -/

/-- Address of an offset in the job's dataset region. -/
def jobAddr (s : State) (j : Job) (ofs : Nat) : Nat := ((tblFind? s.foreman.datasets j.tenant).map (fun d => d.base)).getD 0 + ofs
/-- Scratch address of the aggregate that begins at an element. -/
def aggAt (s : State) (j : Job) (g el : Nat) : Nat :=
  jobAddr s j (j.scratchOfs + 128 + g * (ceilDiv j.t 64 * aggBytes j + jobNC j * stBytes j) + el / 64 * aggBytes j)
/-- Scratch address of the state carried into chunk c. -/
def carryAt (s : State) (j : Job) (g c : Nat) : Nat :=
  if j.seqMode then jobAddr s j (j.scratchOfs + 128 + g * stBytes j)
  else jobAddr s j (j.scratchOfs + 128 + g * (ceilDiv j.t 64 * aggBytes j + jobNC j * stBytes j)
    + ceilDiv j.t 64 * aggBytes j + c * stBytes j)
/-- Scratch address of the state that APPLY of chunk c has reached: the place of an aggregate that its carry has taken in, so that
the carries stay as CARRY wrote them (log 24). -/
def reachedAt (s : State) (j : Job) (g c : Nat) : Nat :=
  if j.seqMode || c = 0 then carryAt s j g 0 else aggAt s j g ((c - 1) * jobC j)
/-- Initial state of a group. -/
def h0Bytes (s : State) (j : Job) (g : Nat) : List Byte :=
  match j.h0Ofs with
  | some o => dramRead s (jobAddr s j (o + g * h0Units j * 128)) (h0Units j * 128)
  | none => zeros (h0Units j * 128)
/-- The state a CARRY or APPLY work chunk continues from. -/
def carriedState (s : State) (j : Job) (c : Chunk) : List Byte :=
  if c.phase = 3 then
    if c.first = 0 then h0Bytes s j c.group else dramRead s (carryAt s j c.group c.first) (stBytes j)
  else if c.first = 0 then h0Bytes s j c.group
  else if j.sf = 1 then tblGet [] j.carry c.group
  else if c.first = c.chunk * jobC j then dramRead s (carryAt s j c.group c.chunk) (stBytes j)
  else dramRead s (reachedAt s j c.group c.chunk) (stBytes j)
/-- Inputs of a work chunk. -/
def chunkInputs (s : State) (j : Job) (c : Chunk) : List Byte :=
  if c.phase = 1 || c.phase = 4 then
    dramRead s (jobAddr s j (j.inOfs + (c.group * j.t + c.first) * inBytes j)) (c.count * inBytes j)
  else if c.phase = 2 then
    ((topRuns j c.group c.chunk).filter (fun x => decide (c.first ≤ x.first) && decide (x.first < c.first + c.span))).flatMap (fun x => dramRead s (aggAt s j c.group x.first) (aggBytes j))
  else (List.range c.count).flatMap (fun i => dramRead s (aggAt s j c.group ((c.first + i) * jobC j)) (aggBytes j))
/-- Units before the results of a work chunk. -/
def resultOfs (s : State) (j : Job) (c : Chunk) : Nat :=
  coefUnits j + stateUnitsOf j c.phase + (chunkInputs s j c).length / 128
/-- Stage a work chunk in its tile (10 R247); what an image's own declared area cannot hold is not staged (log 176). -/
def stageChunk (s : State) (j : Job) (c : Chunk) : State :=
  let coefs := dramRead s (jobAddr s j (j.coefOfs + c.group * coefUnits j * 128)) (coefUnits j * 128)
  let st := if stateUnitsOf j c.phase = 0 then [] else fit (stateUnitsOf j c.phase * 128) (carriedState s j c)
  palWrite s c.tile c.unit ((coefs ++ st ++ chunkInputs s j c).take (c.units * 128))
/-- Write outputs of an APPLY work chunk: those that OUT_SEL picks. -/
def writeOutputs (s : State) (j : Job) (c : Chunk) (outs : List Byte) : State :=
  (List.range c.count).foldl (fun s i =>
    let t := c.first + i
    if outPick j t then
      dramWrite s (jobAddr s j (j.outOfs + (c.group * outCount j + outBefore j t) * 256)) (sliceAt outs (i * 256) 256)
    else s) s
/-- Drain a work chunk's results to DRAM after its commit (10 R247). -/
def drainChunk (s : State) (n : Nat) (j : Job) (c : Chunk) : State :=
  let b := palRead s c.tile c.unit c.units
  let res := b.drop (resultOfs s j c * 128)
  if c.phase = 1 || c.phase = 2 then dramWrite s (aggAt s j c.group c.first) (fit (aggBytes j) res)
  else if c.phase = 3 then dramWrite s (carryAt s j c.group (c.first + 1)) (fit (c.count * stBytes j) res)
  else
    let st := fit (h0Units j * 128) res
    let s := if j.sf = 1 then updJob s n (fun x => { x with carry := tblSet c.group st x.carry })
      else dramWrite s (reachedAt s j c.group c.chunk) (fit (stBytes j) st)
    writeOutputs s j c (res.drop (h0Units j * 128))
/-- Foreman updates the progress record: what its 128 bytes hold the spec does not say (10 R256; log 24). -/
def progress (s : State) (j : Job) : State :=
  let (v, s) := s.draw
  dramWrite s (jobAddr s j j.scratchOfs) (leBytes 128 v)

end Sys2Proof.Machine
end

