-- ==== Sys2Proof/Machine/Sched.lean ====
section
/-! DEFINITION. The stream scheduler and the bench dispatchers (11 11.5 to 11.7, 08 8.8): eligibility, choice, dispatch,
commit, abort, the swap engine's copies, and the recheck of R25. -/

namespace Sys2Proof.Machine

/-! ### Lag (11 11.7) -/

/-- Time base less NOM_DUE, within the window of 2^48 counts (11 Edges of 11.1). -/
def lagInt (s : State) (st : Stream) : Int := signed 48 ((tb s + 2 ^ 48 - st.nomDue % 2 ^ 48) % 2 ^ 48)
/-- A BEHIND change and its event (11 R289). -/
def setBehind (s : State) (n : Nat) (b : Bool) : State :=
  let st := s.stream n
  if st.behind = b then s
  else raiseEvent (s.updStream n (fun x => { x with behind := b })) st.tenant 0x04E1 (leBytes 2 n ++ leBytes 1 (b2n b))
/-- The first nominal due time at or after a time base value (11 R265, R266). -/
def firstDue (st : Stream) (from_ : Nat) : Nat :=
  let p := max 1 (periodOf st)
  let ph := st.phase * 48 % p
  (ph + ceilDiv (from_ + p - ph) p * p - p) % 2 ^ 48

/-- Counts as microseconds, half rounded up. -/
def roundUs (c : Nat) : Nat := (2 * c + 48) / 96
/-- The nominal due time of the first sweep that a FEED stream takes at or after a time base value: PHASE_US after the nominal start
of a kept sweep, of the one under way or of one to come; none while its pair does not sweep (11 R265, R266, R275). -/
def feedDue (s : State) (st : Stream) (from_ : Nat) : Option Nat :=
  let q := s.pair (st.out % 2 ^ 30 / 576)
  let ph := st.phase * 48
  let dec := max 1 st.decim
  let off := fun (k : Nat) => match st.fd.n0 with
    | some n0 => (dec - (k - n0) % dec) % dec
    | none => 0
  let now := q.due - s.sys.tbZero + ph
  if q.collecting && decide (from_ ≤ now) && off q.k == 0 then some (now % 2 ^ 48)
  else if q.nextDue.isNone then none
  else
    let p := max 1 (sweepPeriod q)
    let next := q.nextNom - s.sys.tbZero + ph
    let i := ceilDiv (from_ - next) p
    some ((next + (i + off (q.k + 1 + i)) * p) % 2 ^ 48)
/-- NOM_DUE of an ONLINE stream from a time base value on, and for a FEED stream the first sweep it takes (11 R265, R266). -/
def setDue (s : State) (n from_ : Nat) : State :=
  let st := s.stream n
  if st.cls != 0 then s
  else if st.feed then
    s.updStream n (fun x => { x with nomDue := (feedDue s st from_).getD x.nomDue, fd := { x.fd with fresh := some from_ } })
  else s.updStream n (fun x => { x with nomDue := firstDue x from_ })
/-- A FEED stream that waits for its first sweep while its pair does not sweep has no nominal due time yet. -/
def dueUnknown (s : State) (st : Stream) : Bool := st.feed && st.fd.fresh.isSome && (feedDue s st 0).isNone

/-! ### Leases of the swap engine -/

/-- Banks of an area. -/
def banksOf (unit units : Nat) : List Nat :=
  (List.range 16).filter (fun b => decide (b * 256 < unit + units) && decide (unit < (b + 1) * 256))
/-- Banks that copies under way on a tile use, but for one stream's. -/
def copyBanks (s : State) (tile but : Nat) : List Nat :=
  s.sched.streams.flatMap (fun (e : Nat × Stream) =>
    if e.1 != but && e.2.valid && e.2.tile == tile && e.2.xfer.isSome then banksOf e.2.unit (areaUnits s e.2) else [])
/-- A party asks for banks of a tile that it neither holds nor has asked for. -/
def askFor (s : State) (tile : Nat) (who : Holder) (bs : List Nat) : State :=
  let bs := bs.filter (fun b => holderOf (s.tile tile) b != who)
  s.updTile tile (fun x => { x with requests := x.requests ++
    (bs.filter (fun b => !x.requests.any (fun q => q.bank == b && q.who == who))).map (fun b =>
      { bank := b, who := who, at_ := s.now : LeaseReq }) })
/-- The swap engine asks for the banks of an area. -/
def askBanks (s : State) (tile unit units : Nat) : State := askFor s tile .swap (banksOf unit units)
/-- The swap engine holds every bank of an area. -/
def swapHolds (s : State) (tile unit units : Nat) : Bool :=
  (banksOf unit units).all (fun b => holderOf (s.tile tile) b == .swap)
/-- The swap engine ends a stream's copy: banks no other copy uses return to HOME. -/
def endCopy (s : State) (n : Nat) : State :=
  let st := s.stream n
  let keep := copyBanks s st.tile n
  let bs := (banksOf st.unit (areaUnits s st)).filter (fun b => !keep.contains b)
  let s := bs.foldl (fun s b => if holderOf (s.tile st.tile) b == .swap then goHome s st.tile b else s) s
  let s := s.updTile st.tile (fun x => { x with requests := x.requests.filter (fun q => !(q.who == .swap && bs.contains q.bank)) })
  s.updStream n (fun x => { x with xfer := none })
/-- Start a copy of a stream's area. -/
def startCopy (s : State) (n : Nat) (k : XferKind) : State :=
  let st := s.stream n
  let s := s.updStream n (fun x => { x with xfer := some { kind := k, startAt := s.now, units := areaUnits s st } })
  askBanks s st.tile st.unit (areaUnits s st)
/-- A stream's copy is a checkpoint. -/
def isCkpt (st : Stream) : Bool := match st.xfer with
  | some x => x.kind == .checkpoint
  | none => false
/-- Checkpoint copies yield to a dispatch that needs their banks, or is their stream's (11 R285). -/
def yieldCkpts (s : State) (tile mask : Nat) : State :=
  let ns := s.sched.streams.filterMap (fun (e : Nat × Stream) =>
    if e.2.valid && e.2.tile == tile && isCkpt e.2 && (banksOf e.2.unit (areaUnits s e.2)).any (fun b => natBit mask b) then some e.1
    else none)
  ns.foldl (fun s n => (endCopy s n).updStream n (fun x => { x with ckptWait := true })) s
/-- Streams of a tile whose copies under way use a bank. -/
def copiesOf (s : State) (tile b : Nat) : List (Nat × Stream) :=
  s.sched.streams.filter (fun (e : Nat × Stream) =>
    e.2.valid && e.2.tile == tile && e.2.xfer.isSome && (banksOf e.2.unit (areaUnits s e.2)).contains b)
/-- The swap engine wants a bank for checkpoints only, which never delay a dispatch (11 R285). -/
def ckptOnly (s : State) (tile b : Nat) : Bool := (copiesOf s tile b).all (fun e => isCkpt e.2)
/-- A request for the bank, but one for checkpoints only, arrived before a dispatch that asks at `a`: it is served first (08 R201,
R202). -/
def askedBefore (s : State) (tile b a : Nat) : Bool :=
  (s.tile tile).requests.any (fun q => q.bank == b && decide (q.at_ < a) && !(q.who == .swap && ckptOnly s tile b))
/-- A bank is free for its own tile's step that asks at `a`: at HOME, or with the swap engine for a checkpoint only, and no request
for it came earlier. -/
def bankFree (s : State) (tile b a : Nat) : Bool :=
  let h := holderOf (s.tile tile) b
  (h == .home || (h == .swap && ckptOnly s tile b)) && !askedBefore s tile b a

/-! ### Eligibility (11 R278, 08 R204, 12 R298) -/

/-- The kernel table entry is usable on a tile and every bank of its mask is free for a dispatch that asks at `a`. -/
def entryReady (s : State) (tile kt a : Nat) : Bool :=
  let e := tblGet {} (s.tile tile).ktab kt
  e.valid && (List.range 16).all (fun b => !natBit e.bankMask b || bankFree s tile b a)
/-- The moment a stream's dispatch asks for its banks: an ONLINE step's eligible time; background work asks last of all that has
come so far (08 R202). -/
def asksAt (s : State) (st : Stream) : Nat :=
  if st.cls = 0 then ((s.now : Int) + st.eligOfs - lagInt s st).toNat else s.now + 1
/-- Stipple slots of a work are staged, or left by its abort (12 R298). -/
def slotsReady (s : State) (tile : Nat) (w : Work) (step : Nat) (need : Bool) : Bool :=
  !need || (s.sys.stippleOk &&
    (((tblFind? s.sched.active tile).any (fun b => b.work == w && b.step == step))
      || ((tblFind? s.sched.stage tile).any (fun b => b.work == w && b.step == step && b.doneAt.isNone))))
/-- Keys of the slots a stream's step draws from. -/
def streamKeys (s : State) (st : Stream) : List (Nat × Nat × Nat) :=
  match kernelOf s st with
  | some k => drawKeys k.draws st.k
  | none => []
/-- BATCH and MAINT dispatch is held: governor or T_OPMAX (19 R456, 21 Table 21-8). -/
def bgHeld (s : State) : Bool := s.sys.gov.hold || s.sys.thermal.opmax
/-- A stream's step may be dispatched but for its due time and its staging. -/
def stepOpen (s : State) (st : Stream) : Bool :=
  st.valid && st.den && !st.ending && st.res && (st.noin || !st.queue.isEmpty)
    && (match st.xfer with
      | none => true
      | some x => x.kind == .checkpoint)
    && s.tileLive st.tile && entryReady s st.tile st.kt (asksAt s st) && (st.cls == 0 || !bgHeld s)
/-- The time base has reached NOM_DUE + ELIG_OFS; BATCH and MAINT have no due time. -/
def timeReached (s : State) (st : Stream) : Bool := st.cls != 0 || decide ((st.eligOfs : Int) ≤ lagInt s st)
/-- A stream's step is eligible and staged. -/
def stepReady (s : State) (n : Nat) : Bool :=
  let st := s.stream n
  stepOpen s st && timeReached s st && slotsReady s st.tile (.stream (sNo n)) st.step (!(streamKeys s st).isEmpty)
/-- The tile takes a dispatch: live, idle, its clock running. -/
def tileIdle (s : State) (tile : Nat) : Bool := s.tileLive tile && (s.tile tile).run.isNone && !s.sys.thermal.shut

/-! ### Work chunks of scan jobs -/

/-- The kernel, its table index and the image of a job's work chunk. -/
def chunkKernel (s : State) (j : Job) (c : Chunk) : Option (Image × Nat × Kernel) := do
  let img ← imageOf s j.image
  let i ← scanKernel img c.phase j.form j.sf
  let k ← img.kernels[i]?
  let kt ← img.kts[i]?
  pure (img, kt, k)
/-- A job takes dispatches. -/
def jobOpen (s : State) (j : Job) : Bool :=
  (j.st == .queued || j.st == .running) && !j.pauseWant && !j.delWant && !j.dataChanged && !bgHeld s
    && decide (flying j < j.tilesMax) && s.sys.ctrlUp
/-- The work chunk that a job would run next. -/
def chunkNext (s : State) (j : Job) : Option Chunk := (imageOf s j.image).bind (fun img => if jobOpen s j then nextChunk img j else none)
/-- The work chunk that a job would run next on a tile, with its place there. -/
def chunkFor (s : State) (n : Nat) (j : Job) (tile : Nat) : Option Chunk := do
  let c ← chunkNext s j
  let (_, kt, k) ← chunkKernel s j c
  let u ← palFree s tile (chunkUnits k j.g) (tblGet {} (s.tile tile).ktab kt).bankMask
  if s.tileLive tile && entryReady s tile kt (s.now + 1)
      && slotsReady s tile (.job n (Fin.ofNat 64 tile)) (chunkStep j c) (!(drawKeys k.draws 1).isEmpty) then
    pure { c with tile := tile, unit := u, units := chunkUnits k j.g }
  else none

/-! ### Dispatch (08 R205, 11 R286) -/

/-- A tile takes a descriptor; checkpoints on its banks yield; the two Stipple banks swap, but for a retry that uses the ACTIVE bank
its abort left (12 R298). -/
def beginRun (s : State) (tile : Nat) (w : Work) (step : Nat) (need : Bool) (r : Run) : State :=
  let e := tblGet {} (s.tile tile).ktab r.kt
  let s := yieldCkpts s tile e.bankMask
  let active := tblFind? s.sched.active tile
  let kept := active.any (fun b => b.work == w && b.step == step)
  let s := if !need then { s with sched := { s.sched with active := tblDel tile s.sched.active } }
    else if kept then s
    else match tblFind? s.sched.stage tile with
      | some b =>
        { s with sched := { s.sched with
            active := tblSet tile b s.sched.active
            stage := match active with
              | some o => tblSet tile o s.sched.stage
              | none => tblDel tile s.sched.stage } }
      | none => s
  s.updTile tile (fun x => { x with run := some { r with
    work := w, kt0 := e, pc := e.entry, startAt := s.now, kLow := (s.bench (tile / 16)).k } })
/-- Scalar registers at dispatch (08 Table 8-7). -/
def dispatchX (n tenant k cls : Nat) (rst : Bool) (step chunk rd wr par out due : Nat) : Tbl Nat :=
  [(0, n + tenant * 2 ^ 16 + k * 2 ^ 20 + cls * 2 ^ 24 + b2n rst * 2 ^ 26), (1, step % 2 ^ 32),
   (2, step / 2 ^ 32 % 65536 + chunk % 65536 * 65536), (3, rd), (4, wr), (5, par), (6, out), (7, due % 2 ^ 32)]
/-- An input entry as V31 takes it. -/
def entryLanes (e : List Nat) : List Nat := (e ++ List.replicate 64 0).take 64
/-- Dispatch of a stream's step. -/
def dispatchStream (s : State) (n : Nat) : State :=
  let st := s.stream n
  let kt := tblGet {} (s.tile st.tile).ktab st.kt
  let lag := (max 0 (lagInt s st)).toNat
  let p := periodOf st
  let copy := fun (k : Nat) => (st.unit + k % 2 * kt.stateUnits) % 4096
  let x := dispatchX n st.tenant st.k st.cls st.reset st.step 0 (if st.reset then kt.initBase else copy st.step)
    (copy (st.step + 1)) ((st.unit + 2 * kt.stateUnits) % 4096) st.out (if st.cls = 0 then st.nomDue else 0)
  let v := if st.noin then [] else [(31, entryLanes (st.queue.headD []))]
  let s := beginRun s st.tile (.stream (sNo n)) st.step (!(streamKeys s st).isEmpty)
    { work := .stream (sNo n), tenant := st.tenant, cls := st.cls, kt := st.kt, cycMax := kt.cycMax, x := x, v := v,
      taken := b2n (!st.noin), input := if st.noin then [] else st.queue.headD [], due := st.nomDue, wasReset := st.reset }
  if st.cls != 0 then s
  else
    let s := s.updStream n (fun y => { y with
      lagUs := min (2 ^ 32 - 1) (lag / 48)
      eligOfs := min (2 ^ 40 - 1) (lag - s.foreman.catchup * p / 100) })
    if lag = 0 then setBehind s n false else if 8 * p < lag then setBehind s n true else s
/-- Dispatch of one work chunk on its tile. -/
def dispatchChunk (s : State) (n : Nat) (j : Job) (c : Chunk) : State :=
  match chunkKernel s j c with
  | none => s
  | some (_, kt, k) =>
    let same := fun (x : Chunk) => x.phase == c.phase && x.group == c.group && x.chunk == c.chunk
      && (x.first == c.first || (c.phase == 2 && !x.flying))
    let s := updJob s n (fun y => { y with st := .running, phase := c.phase,
                                           fly := y.fly.filter (fun x => !same x) ++ [{ c with flying := true }] })
    let s := stageChunk s j c
    let s := widenMask s c.tile kt c.unit c.units
    let rd := c.unit + coefUnits j
    let x := dispatchX 0 j.tenant 1 1 false (chunkStep j c) c.index rd (c.unit + resultOfs s j c) c.unit 0x80000000 0
    beginRun s c.tile (.job n (Fin.ofNat 64 c.tile)) (chunkStep j c) (!(drawKeys k.draws 1).isEmpty)
      { work := .job n (Fin.ofNat 64 c.tile), tenant := j.tenant, cls := 1, kt := kt, cycMax := k.cyc + k.cycPer * j.g, x := x }
/-- The REDUCE work chunks that would form a gang with this one: consecutive, of one chunk, aligned, none aborted before (10 R248). -/
def gangChunks (s : State) (j : Job) (c : Chunk) : List Chunk :=
  match chunkKernel s j c with
  | none => []
  | some (_, _, k) =>
    if c.phase != 1 || c.retry || k.gang < 2 || c.index % k.gang != 0 || c.count != j.g
        || (chunkSpan j c.chunk).2 < c.first + k.gang * c.count || j.tilesMax < flying j + k.gang then []
    else (List.range k.gang).map (fun i => { c with first := c.first + i * c.count, index := c.index + i, gang := k.gang })
/-- Each further member of a gang takes the lowest idle tile of the bench that is ready for it. -/
def gangPlaces (s : State) (n : Nat) (j : Job) (kt : Nat) (k : Kernel) (b : Nat) : List Nat → List Chunk → Option (List Chunk)
  | _, [] => some []
  | used, m :: ms =>
    let ok := fun (t : Nat) => !used.contains t && tileIdle s t && entryReady s t kt (s.now + 1)
      && slotsReady s t (.job n (Fin.ofNat 64 t)) (chunkStep j m) (!(drawKeys k.draws 1).isEmpty)
    let spot := ((List.range 16).map (fun i => b * 16 + i)).findSome? (fun t =>
      if ok t then (palFree s t (chunkUnits k j.g) (tblGet {} (s.tile t).ktab kt).bankMask).map (fun u => (t, u)) else none)
    match spot with
    | none => none
    | some (t, u) => (gangPlaces s n j kt k b (t :: used) ms).map (fun r => { m with tile := t, unit := u } :: r)
/-- The gang that a REDUCE work chunk would start with this tile, on idle tiles of its bench (10 R248). -/
def gangOf (s : State) (n : Nat) (j : Job) (c : Chunk) : Option (List Chunk) :=
  match gangChunks s j c, chunkKernel s j c with
  | m :: ms, some (_, kt, k) => (gangPlaces s n j kt k (c.tile / 16) [c.tile] ms).map (fun r => m :: r)
  | _, _ => none
/-- Dispatch of a job's next work chunk on a tile: as a gang where one can start. -/
def dispatchJob (s : State) (n tile : Nat) : State :=
  match jobOf s n with
  | none => s
  | some j =>
    match chunkFor s n j tile with
    | none => s
    | some c =>
      match gangOf s n j c with
      | some cs => cs.foldl (fun s m => dispatchChunk s n j m) s
      | none => dispatchChunk s n j { c with gang := 1 }

/-! ### The choice of work (11 R279) -/

/-- Least element of a list by a test. -/
def leastBy {α : Type} (before : α → α → Bool) : List α → Option α
  | [] => none
  | a :: as => some (as.foldl (fun x y => if before y x then y else x) a)
/-- The ONLINE step of a tile with the earliest deadline among those that pass a test; ties to the lower tenant, then the lower
number. -/
def firstOnline (s : State) (tile : Nat) (ok : Nat → Bool) : Option Nat :=
  let c := s.sched.streams.filterMap (fun (e : Nat × Stream) =>
    if e.2.tile == tile && e.2.cls == 0 && ok e.1 then some ((periodOf e.2 : Int) - lagInt s e.2, e.2.tenant, e.1) else none)
  (leastBy (fun (a b : Int × Nat × Nat) =>
    decide (a.1 < b.1) || (a.1 == b.1 && (decide (a.2.1 < b.2.1) || (a.2.1 == b.2.1 && decide (a.2.2 < b.2.2))))) c).map (fun x => x.2.2)
/-- The eligible ONLINE step that a dispatcher takes. -/
def pickOnline (s : State) (tile : Nat) : Option Nat := firstOnline s tile (stepReady s)
/-- Tile cycles of a class that a tenant used on a bench in the preceding second: of steps and work chunks that have left a tile, and
of those in flight so far (11 R279). -/
def usedCycles (s : State) (bench tenant cls : Nat) : Nat :=
  sumNat ((s.sched.usage.filter (fun u => u.bench == bench && u.tenant == tenant && u.cls == cls
    && decide (s.now ≤ u.at_ + 48000000))).map (fun u => u.cycles))
    + sumNat (s.tiles.map (fun (e : Nat × Tile) => match e.2.run with
      | some r => if e.1 / 16 = bench && r.tenant = tenant && r.cls = cls then r.cycle else 0
      | none => 0))
/-- A tenant's tile-time share; tenant 0 has no quota and counts as the whole (log 25). -/
def shareOf (s : State) (tenant : Nat) : Nat := if tenant = 0 then 100 else (tblGet {} s.foreman.tenants tenant).qShare
/-- Background work of a class: tenant, number in turn, and the work (a job, or a stream). -/
abbrev BgWork := Nat × Nat × Bool × Nat
/-- Work of a background class on a tile that passes a test: streams, and for BATCH jobs. -/
def bgWork (s : State) (tile cls : Nat) (okStream : Nat → Bool) (okJob : Nat → Job → Bool) : List BgWork :=
  s.sched.streams.filterMap (fun (e : Nat × Stream) =>
      if e.2.tile == tile && e.2.cls == cls && okStream e.1 then some (e.2.tenant, e.1 * 2, false, e.1) else none)
    ++ (if cls = 1 then s.sched.jobs.filterMap (fun (e : Nat × Job) =>
      if okJob e.1 e.2 then some (e.2.tenant, e.1 * 2 + 1, true, e.1) else none) else [])
/-- The background work that comes first: of the tenant lowest in proportion to its share, then streams and jobs in turn. -/
def firstBg (s : State) (tile cls : Nat) (c : List BgWork) : Option BgWork :=
  let b := tile / 16
  match leastBy (fun (x y : Nat) =>
      let a := usedCycles s b x cls * shareOf s y
      let z := usedCycles s b y cls * shareOf s x
      decide (a < z) || (a == z && decide (x < y))) (c.map (fun w => w.1)) with
  | none => none
  | some tn =>
    let mine := c.filter (fun w => w.1 == tn)
    let last := tblFind? s.sched.turn (b * 32 + tn * 2 + (cls - 1))
    let later := mine.filter (fun w => match last with
      | some l => decide (l < w.2.1)
      | none => true)
    leastBy (fun (x y : BgWork) => decide (x.2.1 < y.2.1)) (if later.isEmpty then mine else later)
/-- The eligible background work that a dispatcher takes. -/
def pickBg (s : State) (tile cls : Nat) : Option BgWork :=
  firstBg s tile cls (bgWork s tile cls (stepReady s) (fun n j => (chunkFor s n j tile).isSome))
/-- Dispatch of background work. -/
def dispatchBg (s : State) (tile cls : Nat) (w : BgWork) : State :=
  let turn := tblSet (tile / 16 * 32 + w.1 * 2 + (cls - 1)) w.2.1 s.sched.turn
  let s := { s with sched := { s.sched with turn := turn } }
  if w.2.2.1 then dispatchJob s w.2.2.2 tile else dispatchStream s w.2.2.2
/-- An idle tile's dispatcher picks its work (11 R279). -/
def dispatchTile (s : State) (tile : Nat) : State :=
  if !tileIdle s tile then s
  else
    match pickOnline s tile with
    | some n => dispatchStream s n
    | none =>
      match pickBg s tile 1 with
      | some w => dispatchBg s tile 1 w
      | none =>
        match pickBg s tile 2 with
        | some w => dispatchBg s tile 2 w
        | none => s

/-! ### Between two steps, ends -/

/-- Lanes and slots that no stream needs are given up (14 R344). -/
def dropLanes (s : State) : State :=
  let used := fun (e : Nat × Lane) => s.sched.streams.any (fun (f : Nat × Stream) => f.2.valid && f.2.slot == some e.1)
  { s with sched := { s.sched with lanes := s.sched.lanes.filter used } }
/-- A stream leaves its swap lane or slot. -/
def freeSlot (s : State) (n : Nat) : State :=
  let free := fun (e : Nat × Lane) => if e.2.user == some n then (e.1, { e.2 with user := none }) else e
  { s with sched := { s.sched with lanes := s.sched.lanes.map free } }
/-! ### Foreman's accesses to the Palette (08 R201, R202, Table 8-6) -/

/-- First unit of a stream's parameter block within its area. -/
def paramOfs (s : State) (st : Stream) : Nat := areaUnits s st - st.paramUnits
/-- Banks of the Palette that the parameter units waiting for a stream lie in; none where its area is in the store. -/
def paramBanks (s : State) (st : Stream) : List Nat :=
  if st.swap && !st.res then []
  else (List.range 16).filter (fun b => st.between.param.any (fun p =>
    (banksOf (st.unit + paramOfs s st + p.1) (ceilDiv p.2.length 128)).contains b))
/-- A dispatched step of the tile has the bank in its BANK_MASK (08 R201). -/
def bankInUse (x : Tile) (bank : Nat) : Bool := x.run.any (fun r => natBit r.kt0.bankMask bank)
/-- Foreman reaches a bank: it holds it, or its request would be granted at once. -/
def foremanHas (s : State) (tile b : Nat) : Bool :=
  let x := s.tile tile
  holderOf x b == .foreman || (holderOf x b == .home && !bankInUse x b && !x.requests.any (fun q => q.bank == b && q.who != .foreman))
/-- Foreman gives back the banks of a tile, and drops the requests, that no waiting write needs. -/
def foremanTidy (s : State) (tile : Nat) : State :=
  let need := s.sched.streams.flatMap (fun (e : Nat × Stream) => if e.2.valid && e.2.tile == tile then paramBanks s e.2 else [])
  let s := (List.range 16).foldl (fun s b =>
    if holderOf (s.tile tile) b == .foreman && !need.contains b then goHome s tile b else s) s
  s.updTile tile (fun x => { x with requests := x.requests.filter (fun q => q.who != .foreman || need.contains q.bank) })
/-- VALID clears and all of the stream is released (11 R268); banks staged for it go with it. -/
def releaseStream (s : State) (n : Nat) : State :=
  let tile := (s.stream n).tile
  let s := freeSlot (endCopy s n) n
  let keep := fun (e : Nat × StipBank) => e.2.work != .stream (sNo n)
  foremanTidy (dropLanes { s with sched := { s.sched with
    streams := tblDel n s.sched.streams, stage := s.sched.stage.filter keep, active := s.sched.active.filter keep } }) tile
/-- Parameter units that waited are written, to where the current area is (16 R386). -/
def applyParams (s : State) (n : Nat) : State :=
  let st := s.stream n
  let par := paramOfs s st
  let s := st.between.param.foldl (fun s p =>
    if st.swap && !st.res then dramWrite s (st.storePtr.getD 0 * 128 + (par + p.1) * 128) p.2
    else palWrite s st.tile (st.unit + par + p.1) p.2) s
  s.updStream n (fun x => { x with between := { x.between with param := [] } })
/-- A stream's class is about to be c. One that leaves ONLINE has no lag any more: BEHIND clears, with its event (02 R51; log 141). -/
def leaveOnline (s : State) (n c : Nat) : State := if c = 0 then s else setBehind s n false
/-- A stream with the settings of STREAM_SET: class, step size, SWAP, period and phase. NOM_DUE moves as R265 sets it for a start where the
period or phase changed. -/
def withSet (now_ : Nat) (v : Nat × Nat × Bool × Nat × Nat) (x : Stream) : Stream :=
  let (c, k, sw, p, ph) := v
  let moved := x.period != p || x.phase != ph || x.cls != c
  let shift := (x.nomDue + 2 ^ 48 + ph * 48 - x.phase * 48) % 2 ^ 48
  let x := { x with cls := c, k := k, swap := sw, period := if x.feed then x.period else p, phase := ph
                    between := { x.between with set := none } }
  if x.feed then { x with nomDue := shift }
  else if c = 0 then (if moved then { x with nomDue := firstDue x (now_ + 12000) } else x)
  else { x with period := 0, phase := 0, nomDue := 0, eligOfs := 0, lagUs := 0, lateCnt := 0 }
/-- A stream that was as `st` gets SWAP: its area is written back; one that loses SWAP goes to the place that keeps it. -/
def applySwap (s : State) (n : Nat) (st : Stream) : State :=
  let x := s.stream n
  if x.swap && !st.swap then
    (if x.res && x.xfer.isNone && s.benchLive (x.tile / 16) then startCopy s n .writeBack else s)
  else if !x.swap && st.swap then
    match st.between.home with
    | some (t, u) =>
      let s := s.updStream n (fun y => { y with slot := none, between := { y.between with home := none } })
      if x.res then startCopy s n (.migrate t u)
      else startCopy (s.updStream n (fun y => { y with tile := t, unit := u })) n .bringIn
    | none => s
  else s
/-- Settings that waited are applied. -/
def applySet (s : State) (n : Nat) : State :=
  let st := s.stream n
  match st.between.set with
  | none => s
  | some v =>
    if st.xfer.isSome && v.2.2.1 != st.swap then s
    else applySwap ((leaveOnline s n v.1).updStream n (withSet (tb s) v)) n st
/-- Parameter units and settings that waited are written (16 R386). Foreman writes the Palette under its leases: where a bank is not to
be had at once it asks for it, and the writes wait for the grant (08 R202). -/
def applyBetween (s : State) (n : Nat) : State :=
  let st := s.stream n
  let bs := paramBanks s st
  if bs.all (foremanHas s st.tile) then
    let s := applyParams s n
    let s := if bs.isEmpty then s else foremanTidy s st.tile
    dropLanes (applySet s n)
  else askFor s st.tile .foreman bs
/-- What waits is written at once where no step is in flight and no retry is pending (16 R386). -/
def settleStream (s : State) (n : Nat) : State := if inFlight s n || (s.stream n).retry then s else applyBetween s n
/-- After a step: what waited is written, an ended stream is released. -/
def betweenSteps (s : State) (n : Nat) : State :=
  let st := s.stream n
  if st.ending then releaseStream s n else if st.retry then s else applyBetween s n
/-- Restart of the stream's state from now on: at once, or after the step in flight (11 R267, R269). -/
def setReset (s : State) (n : Nat) : State :=
  if inFlight s n then s.updStream n (fun x => { x with resetNew := true }) else s.updStream n (fun x => { x with reset := true })
/-- Device pause with what it frees: a SWAP stream's slot is freed without a write-back (11 R290, Edges of 11.6). -/
def pauseFreed (s : State) (n reason : Nat) : State :=
  let s := pauseStream s n reason
  if (s.stream n).swap then (freeSlot s n).updStream n (fun x => { x with res := false }) else s

/-! ### Usage -/

/-- Tile cycles of a step or work chunk that has left a tile. -/
def countUsage (s : State) (tile : Nat) (r : Run) : State :=
  if r.cls = 0 then s
  else
    let u : Usage := { at_ := s.now, bench := tile / 16, tenant := r.tenant, cls := r.cls, cycles := r.cycle }
    { s with sched := { s.sched with usage := s.sched.usage.filter (fun u => decide (s.now ≤ u.at_ + 48000000)) ++ [u] } }

/-! ### Recheck of the schedule (01 R25, 11 R281) -/

/-- Insert by a test. -/
def insertBy {α : Type} (before : α → α → Bool) (x : α) : List α → List α
  | [] => [x]
  | y :: ys => if before x y then x :: y :: ys else y :: insertBy before x ys
/-- Sort by a test. -/
def sortBy {α : Type} (before : α → α → Bool) (l : List α) : List α := l.foldl (fun a x => insertBy before x a) []
/-- A stream, or a scan job (true), by its number. -/
abbrev WorkNo := Bool × Nat
/-- Streams and jobs in the order in which R25 pauses them: MAINT, BATCH (scan jobs among it), ONLINE; tenants 15 to 1, then 0; newest
first. -/
def pauseOrder (s : State) : List WorkNo :=
  let rank := fun (cls tenant : Nat) => (2 - cls) * 17 + (if tenant = 0 then 16 else 16 - tenant)
  let ws : List (Nat × Nat × WorkNo) :=
    s.sched.streams.filterMap (fun (e : Nat × Stream) =>
      if e.2.valid && e.2.den then some (rank e.2.cls e.2.tenant, e.2.admAt, false, e.1) else none)
    ++ s.sched.jobs.filterMap (fun (e : Nat × Job) =>
      if e.2.st == .queued || e.2.st == .running then some (rank 1 e.2.tenant, e.2.startAt, true, e.1) else none)
  (sortBy (fun (a b : Nat × Nat × WorkNo) => decide (a.1 < b.1) || (a.1 == b.1 && decide (b.2.1 < a.2.1))) ws).map (fun e => e.2.2)
/-- A stream's tile is lost: out of dispatch, failed, or its bench closed. -/
def tileLost (s : State) (tile : Nat) : Bool :=
  let b := s.bench (tile / 16)
  b.phase == .closed || (b.phase == .live && (!natBit b.live (tile % 16) || (s.tile tile).out))
/-- A stream breaks the schedule bound as it stands. -/
def breaksBound (s : State) (st : Stream) : Bool :=
  tileLost s (homeOf s st) || (!st.swap && tileLost s st.tile)
    || (s.benchLive (homeOf s st / 16) && (if st.cls = 0 then !loadOk s (homeOf s st / 16) (tileOnline s (homeOf s st))
      else !chunkOk s (homeOf s st / 16) (cycOf s st)))
/-- A tile on which the stream would keep the bound. -/
def newHome (s : State) (st : Stream) : Option (Nat × Nat) :=
  (imageOf s st.image).bind (fun img =>
    let p := (cycOf s st, periodOf st)
    chooseTile s img st.kt img.mask (areaUnits s st) true (if st.cls = 0 then some p else none) (fun t =>
      t == homeOf s st || !(if st.cls = 0 then loadOk s (t / 16) (p :: tileOnline s t) else chunkOk s (t / 16) (cycOf s st))))
/-- What a stream's store area holds, with the state it was written with in the copy that the next step reads (08 R206, 21
Table 21-5). -/
def storedArea (s : State) (st : Stream) : List Byte :=
  match st.storePtr, st.stored with
  | some a, some k =>
    let b := dramRead s (a * 128) (areaUnits s st * 128)
    let u := ((kernelOf s st).map (fun k => k.stateUnits * 128)).getD 0
    if k % 2 = st.step % 2 then b else sliceAt b u u ++ sliceAt b 0 u ++ b.drop (2 * u)
  | _, _ => zeros (areaUnits s st * 128)
/-- A stream whose tile is lost takes another tile: its state from the store, else from the start (08 Caution of 8.9). -/
def rehome (s : State) (n : Nat) (p : Nat × Nat) : State :=
  let st := s.stream n
  let s := palWrite (endCopy s n) p.1 p.2 (storedArea s st)
  let s := widenMask s p.1 st.kt p.2 (areaUnits s st)
  let s := s.updStream n (fun x => { x with tile := p.1, unit := p.2, res := true, xfer := none, retry := false })
  let s := foremanTidy s st.tile
  settleStream (if st.stored.isNone then s.updStream n (fun x => { x with reset := true }) else s) n
/-- Foreman moves a non-SWAP stream whose tile runs: its area migrates; a copy under way to a place that no longer keeps the bound
goes elsewhere (11 R281). -/
def moveStream (s : State) (n : Nat) (p : Nat × Nat) : State :=
  match (s.stream n).xfer with
  | none => startCopy s n (.migrate p.1 p.2)
  | some x =>
    (match x.kind with
    | .bringIn =>
      let s := endCopy s n
      let s := widenMask s p.1 (s.stream n).kt p.2 x.units
      startCopy (s.updStream n (fun y => { y with tile := p.1, unit := p.2 })) n .bringIn
    | .checkpoint => (startCopy (endCopy s n) n (.migrate p.1 p.2)).updStream n (fun y => { y with ckptWait := true })
    | _ => s.updStream n (fun y => { y with xfer := some { x with kind := .migrate p.1 p.2 } }))
/-- Foreman restores the bound for one stream: it moves it where it can, and pauses it otherwise. -/
def fixBound (s : State) (n : Nat) : State :=
  let st := s.stream n
  if !st.den || !breaksBound s st then s
  else
    match if st.swap then none else newHome s st with
    | some p => if tileLost s st.tile then rehome s n p else moveStream s n p
    | none => pauseStream s n 2
/-- A job whose work chunk size no longer fits takes a smaller one, or is paused (10 R246, Table 10-9). -/
def fixJob (s : State) (n : Nat) : State :=
  match jobOf s n with
  | none => s
  | some j =>
    match imageOf s j.image with
    | none => s
    | some img =>
      if (j.st != .queued && j.st != .running) || gFits s img j j.g then s
      else
        match [2048, 1024, 512, 256, 128, 64].find? (fun g => decide (g < j.g) && gFits s img j g) with
        | some g => updJob s n (fun x => { x with g := g })
        | none => jobBoundary (updJob s n (fun x => { x with pauseWant := true, pauseReason := 2 })) n
/-- A job that its work chunk size paused: since when not even G = 64 fits; a clock that has risen again ends that (10 Table 10-9). -/
def refitWatch (s : State) : State :=
  (s.sched.jobs.map (fun e => e.1)).foldl (fun s n =>
    match jobOf s n with
    | none => s
    | some j =>
      let low := (j.st == .paused || j.pauseWant) && j.pauseReason == 2 && (match imageOf s j.image with
        | some img => !gFits s img j 64
        | none => true)
      updJob s n (fun x => { x with refitAt := if low then x.refitAt.or (some s.now) else none })) s
/-- The schedule check for one stream or job. -/
def fixWork (s : State) (w : WorkNo) : State := if w.1 then fixJob s w.2 else fixBound s w.2
/-- Foreman repeats the schedule check, in the order of R25; not while CTRL is in reset. -/
def recheck (s : State) : State :=
  if !s.sys.ctrlUp then s else refitWatch ((pauseOrder s).foldl fixWork s)

/-! ### Abort (08 R208) -/

/-- A stream's step aborts: retried once, then paused. -/
def streamAbort (s : State) (n : Nat) (code : AbortCode) : State :=
  let st := s.stream n
  let s := s.updStream n (fun x => { x with reset := x.reset || x.resetNew, resetNew := false })
  if st.ending then betweenSteps s n
  else if st.retry then
    betweenSteps ((pauseFreed s n (abortReason code)).updStream n (fun x => { x with retry := false })) n
  else s.updStream n (fun x => { x with retry := true })
/-- A work chunk aborts: dispatched again, then its job pauses (10 R254). -/
def jobAbort (s : State) (n tile : Nat) (code : AbortCode) : State :=
  match jobOf s n with
  | none => s
  | some j =>
    let mine := fun (c : Chunk) => c.flying && c.tile == tile
    let again := j.fly.any (fun c => mine c && c.retry)
    let s := updJob s n (fun x => { x with
      fly := x.fly.map (fun c => if mine c then { c with flying := false, retry := !c.retry, gang := 1 } else c)
      pauseWant := x.pauseWant || again
      pauseReason := if again then abortReason code else x.pauseReason })
    jobBoundary s n
/-- A tile's step or work chunk has left it: leases given back, usage counted, what waited for the end of the dispatch written. -/
def leaveTile (s : State) (tile : Nat) (r : Run) : State :=
  let s := countUsage (dropLeases s tile) tile r
  widenLate (s.updTile tile (fun x => { x with run := none, idleAt := s.now })) tile
/-- The step or work chunk in a tile aborts with a code of Table 8-9; the fault log entry carries the slot, where an operation or its
fetch aborted it, and the bundle address (09 R236; log 181). -/
def abortTile (s : State) (tile : Nat) (code : AbortCode) (slot : Option Nat) : State :=
  match (s.tile tile).run with
  | none => s
  | some r =>
    let no := match r.work with
      | .stream n => n.val
      | .job _ _ => 0xFFFF
    let lost := code == .memUncorr || code == .kstoreParity
    let s := logFault s 0x0301 1 false r.tenant 2 tile (leBytes 2 no ++ leBytes 1 (abortNo code) ++ leBytes 1 (slot.getD 0xFF) ++ leBytes 2 r.pc)
    let s := leaveTile s tile r
    let s := if lost then
        { s.updTile tile (fun x => { x with out := true, outCode := abortNo code }) with
          sched := { s.sched with active := tblDel tile s.sched.active } }
      else s
    let s := match r.work with
      | .stream n => streamAbort s n.val code
      | .job n _ => jobAbort s n tile code
    let s := if lost then recheck (logFault s 0x0302 2 true 0xFF 2 tile (leBytes 1 (abortNo code))) else s
    dispatchTile s tile

/-! ### Commit (08 R207, 11 R287) -/

/-- The output entry goes into the tenant's output ring (16 R387). -/
def ringWrite (s : State) (tenant ring : Nat) (entry : List Byte) : State :=
  match tblFind? s.foreman.rings (tenant * 256 + ring), tblFind? s.foreman.datasets tenant with
  | some r, some d =>
    let a := d.base + r.ofs
    let w := ofLe (dramRead s a 4)
    let ov := ofLe (dramRead s (a + 4) 4)
    let rd := ofLe (dramRead s (a + 8) 4)
    let full := decide (r.entries ≤ (w + 2 ^ 32 - rd) % 2 ^ 32)
    let s := dramWrite s (a + 128 + 32 * (w % r.entries)) entry
    dramWrite s a (leBytes 4 ((w + 1) % 2 ^ 32) ++ leBytes 4 ((ov + b2n full) % 2 ^ 32))
  | _, _ => s
/-- An estimate and its tag go to the Assayer through XC_8 (13 R306); a full crossing is recorded once (02 R39). -/
def sendEstimate (s : State) (st : Stream) (r : Run) (entry : List Byte) : State :=
  let e : Estimate :=
    { cell := st.out % 4096, seq := r.input.getD 12 0, flags := r.input.getD 15 0, step := st.step, sat := r.sat, nan := r.nan,
      behind := st.behind, entry := entry }
  let s := crossOffer s 8 (512 * s.assayer.inbox.length) 512
  { s with assayer := { s.assayer with inbox := s.assayer.inbox ++ [e] } }
/-- Microseconds to the next eligible time, in time base counts; none where no step is to come. -/
def nextElig (s : State) (st : Stream) : Option Int :=
  if !st.den then none
  else if st.cls = 0 then some ((st.eligOfs : Int) - lagInt s st)
  else if st.noin || !st.queue.isEmpty then some 0 else none
/-- What the swap engine does after a commit (11 R284, R285). -/
def afterCommit (s : State) (n : Nat) : State :=
  let st := s.stream n
  let up := match st.storePtr with
    | some p => dramUsable s (p * 128) (areaUnits s st * 128)
    | none => false
  if st.swap then
    if !up then (if st.den then pauseFreed s n 3 else s)
    else match nextElig s st with
      | some d => if d ≤ 19200 then s else startCopy s n .writeBack
      | none => startCopy s n .writeBack
  else if st.storePtr.isSome && up && st.xfer.isNone && (st.ckptWait || decide (st.ckptAt + 2880000000 ≤ s.now)) then
    (startCopy s n .checkpoint).updStream n (fun x => { x with ckptWait := false })
  else s
/-- A stream's step commits. -/
def streamCommit (s : State) (n : Nat) (r : Run) : State :=
  let st := s.stream n
  let entry := (entryLanes r.out).take 16 |>.flatMap (fun v => leBytes 2 v)
  let s := if st.out / 2 ^ 30 = 0 then sendEstimate s st r entry
    else if st.out / 2 ^ 30 = 1 then ringWrite s st.tenant (st.out % 256) entry else s
  let p := periodOf st
  let late := st.cls == 0 && r.cls == 0 && decide ((p : Int) < lagInt s { st with nomDue := r.due })
  let taken := if r.gone then 0 else r.taken
  let s := s.updStream n (fun x => { x with
    step := (x.step + 1) % 2 ^ 48, reset := x.resetNew || (x.reset && !r.wasReset), resetNew := false, retry := false
    queue := x.queue.drop taken, qhead := (x.qhead + min taken x.queue.length) % max 1 x.qdepth
    nomDue := if x.cls = 0 && !r.moved then (x.nomDue + p) % 2 ^ 48 else x.nomDue
    lateCnt := if late then min 255 (x.lateCnt + 1) else x.lateCnt
    sat := x.sat || r.sat, nan := x.nan || r.nan
    since := if r.wasReset then some s.now else x.since.or (some s.now) })
  let s := afterCommit s n
  betweenSteps s n
/-- A work chunk commits: results drained, progress, boundary, end (10 R247, R256). While CTRL is in reset nobody takes its results: it
runs again (10 R256). -/
def jobCommit (s : State) (n tile : Nat) (r : Run) : State :=
  match jobOf s n with
  | none => s
  | some j =>
    match j.fly.find? (fun c => c.flying && c.tile == tile) with
    | none => s
    | some c =>
      let rest := fun (x : Job) => x.fly.filter (fun y => !(y.flying && y.tile == tile))
      if !s.sys.ctrlUp then updJob s n (fun x => { x with fly := rest x })
      else
        let s := drainChunk s n j c
        let done := if c.gang = 0 || c.index % max 1 c.gang != 0 then c else { c with count := c.count * max 1 c.gang }
        let s := updJob s n (fun x => { x with
          fly := rest x, doneOf := x.doneOf ++ [{ done with flying := false }]
          doneCnt := x.doneCnt + 1, sat := x.sat || r.sat, nan := x.nan || r.nan, phase := c.phase })
        let s := progress s j
        match jobOf s n with
        | some j => if jobDone j && !j.dataChanged then endJob s n 0 else jobBoundary s n
        | none => s
/-- The step of a tile has ended and every result has landed. -/
def mayCommit (s : State) (tile : Nat) : Bool :=
  match (s.tile tile).run with
  | some r => r.ended && r.issued == 255 && r.flight.isEmpty && s.benchLive (tile / 16) && !s.sys.thermal.shut
  | none => false
/-- Commit of a tile's step, and its next dispatch. -/
def commitTile (s : State) (tile : Nat) : State :=
  match (s.tile tile).run with
  | none => s
  | some r =>
    let s := leaveTile s tile r
    let s := { s with sched := { s.sched with active := tblDel tile s.sched.active } }
    let s := match r.work with
      | .stream n => streamCommit s n.val r
      | .job n _ => jobCommit s n tile r
    dispatchTile s tile

end Sys2Proof.Machine
end

