-- ==== Sys2Proof/Machine/TileIssue.lean ====
section
/-! DEFINITION. Issue of a tile operation (08 8.2 to 8.4, 09 9.3): which operation may issue, what it leaves in flight, the
advance to the next bundle, control operations. -/

namespace Sys2Proof.Machine

/-- What an operation of a tile reads at issue. -/
def tileEnv (s : State) (tile : Nat) (r : Run) (rank : Nat) : TEnv :=
  { run := r, tile := tile % 16, kt := r.kt0, word := slotWord (s.tile tile).kstore r.pc rank
    pal := fun n => (s.tile (tile / 16 * 16 + n)).pal, weights := s.sched.wstore.getD (tile / 16) []
    draw := fun site sm e => match findSlot (tblFind? s.sched.active tile) site sm (e / 256) with
      | some x => stipWord x.states e
      | none => 0
    away := fun b => holderOf (s.tile tile) b != .home }
/-- The slot of rank `rank` of a tile has yet to issue in its bundle, its clock running. -/
def slotOpen (s : State) (tile rank : Nat) : Bool :=
  match (s.tile tile).run with
  | some r => !natBit r.issued rank && s.benchLive (tile / 16) && !s.sys.thermal.shut
  | none => false
/-- The slot's operation has this opcode. -/
def slotIs (s : State) (tile rank op : Nat) : Bool :=
  match (s.tile tile).run with
  | some r => field (slotWord (s.tile tile).kstore r.pc rank) 56 8 == op
  | none => false
/-- Change the step of a tile. -/
def updRun (s : State) (tile : Nat) (f : Run → Run) : State := s.updTile tile (fun x => { x with run := x.run.map f })
/-- The next bundle, once every slot has issued and nothing stalls. -/
def advance (s : State) (tile : Nat) : State :=
  match (s.tile tile).run with
  | none => s
  | some r =>
    if r.issued != 255 || r.ended || r.stall.isSome then s
    else match nextBundle r with
      | .ok r' => updRun s tile (fun _ => r')
      | .error c => abortTile s tile c none
/-- A slot has issued. -/
def markIssued (rank : Nat) (r : Run) : Run := { r with issued := r.issued ||| 2 ^ rank }
/-- An operation's results go in flight and its sticky flags set (08 R192, 09 R214). -/
def takeOut (rank : Nat) (o : TOut) (r : Run) : Run :=
  { r with
    flight := o.writes.foldl (fun fl w => insertFlight { land := r.cycle + w.1, rank := rank, dest := w.2 } fl) r.flight
    sat := r.sat || o.sat, nan := r.nan || o.nan }
/-- Issue of an operation of slot `rank` with opcode `op`: where it is the slot's, due results land, it reads, its results go
in flight; or the step aborts. -/
def issueOp (tile rank op : Nat) (f : TEnv → TRes) (s : State) : State :=
  if !(slotOpen s tile rank && slotIs s tile rank op) then s
  else
    let s := landDue s tile
    match (s.tile tile).run with
    | none => s
    | some r =>
      match f (tileEnv s tile r rank) with
      | .error c => abortTile s tile c (some rank)
      | .ok o => advance (updRun s tile (fun r => markIssued rank (takeOut rank o r))) tile
/-- A step of a tile operation: time stands, outputs are this step's, the host's flags follow. -/
def tileStep (f : State → State) (s : State) : State := finish (f (s.at 0))

/-! ### Check bits (08 8.6, R209) -/

/-- A corrected error is counted for its bench; where the tile's corrections of the last 1 s come to exceed 16 the crossing is logged
(08 R200, R209, Table 8-9; 12 R305). -/
def noteCorrected (s : State) (tile : Nat) : State :=
  let old := (s.tile tile).corrected.filter (fun a => decide (s.now ≤ a + 48000000))
  let s := s.updTile tile (fun x => { x with corrected := old ++ [s.now] })
  let s := s.updBench (tile / 16) (fun x => { x with corrected := x.corrected + 1 })
  if old.length = 16 then logFault s 0x0304 0 false 0xFF 2 tile (leBytes 6 17) else s
/-- Issue of an operation that reads a store with check bits. -/
def issueMem (tile rank op : Nat) (ecc : Ecc) (f : TEnv → TRes) (s : State) : State :=
  if !(slotOpen s tile rank && slotIs s tile rank op) then s
  else match ecc with
    | .clean => issueOp tile rank op f s
    | .corrected => issueOp tile rank op f (noteCorrected s tile)
    | .bad => abortTile s tile .memUncorr (some rank)

/-! ### No-operation, undefined opcodes, parity (08 R189, R199) -/

/-- A slot's opcode 0x00; an undefined one; or a bundle that fails its parity at fetch. -/
def nopDo (tile rank : Nat) (parity : Bool) (s : State) : State :=
  if !slotOpen s tile rank then s
  else if !parity then abortTile s tile .kstoreParity (some rank)
  else if slotIs s tile rank 0 then issueOp tile rank 0 (fun _ => .ok {}) s
  else if (slotOps rank).any (fun o => slotIs s tile rank o) then s
  else abortTile s tile .illegalOp (some rank)

/-! ### C slot (09 9.3) -/

/-- LOOP (08 R194, R195). -/
def loopRun (w : Nat) (r : Run) : Except AbortCode Run :=
  let n := field w 54 2
  let e := field w 44 10
  let cnt := if natBit w 43 then field (xReg r 0) 20 4 else field w 0 16
  let outside := match r.loops with
    | f :: _ => decide (f.stop < e)
    | [] => false
  if e ≤ r.pc || outside || (cnt != 0 && 4 ≤ r.loops.length) then .error .loopFault
  else if cnt = 0 then .ok { r with nextPc := some (e + 1) }
  else .ok { r with newLoop := some ({ n := n, start := r.pc + 1, stop := e }, cnt) }
/-- Issue of LOOP. -/
def loopDo (tile : Nat) (s : State) : State :=
  if !(slotOpen s tile 7 && slotIs s tile 7 1) then s
  else
    let s := landDue s tile
    match (s.tile tile).run with
    | none => s
    | some r =>
      match loopRun (slotWord (s.tile tile).kstore r.pc 7) r with
      | .error c => abortTile s tile c (some 7)
      | .ok r' => advance (updRun s tile (fun _ => markIssued 7 r')) tile
/-- The next entry for a WAITIN (09 R219); none of a queue that began anew under the step (01 R15). -/
def waitEntry (s : State) (r : Run) : Option (List Nat) :=
  match r.work with
  | .stream n => if r.gone then none else (s.stream n.val).queue[r.taken]?
  | .job _ _ => none
/-- A stall ends now. -/
def endStall (s : State) (tile : Nat) : State :=
  updRun s tile (fun r => { r with stall := none, stalled := r.stalled + (s.now - r.stallAt) })
/-- A stall begins. -/
def beginStall (s : State) (tile : Nat) (k : Stall) : State := updRun s tile (fun r => { r with stall := some k, stallAt := s.now })
/-- WAITIN: the next entry lands in V31 in the next cycle; an empty queue stalls the tile until an entry is there. -/
def waitinDo (tile : Nat) (s : State) : State :=
  if !(slotOpen s tile 7 && slotIs s tile 7 2) then s
  else
    let s := landDue s tile
    match (s.tile tile).run with
    | none => s
    | some r =>
      match waitEntry s r with
      | none => if r.stall = some .input then s else beginStall s tile .input
      | some e =>
        let s := if r.stall = some .input then endStall s tile else s
        advance (updRun s tile (fun r => markIssued 7 (takeOut 7 { writes := [(1, .v 31 (entryLanes e))] }
          { r with taken := r.taken + 1 }))) tile
/-- ENDSTEP: V30 is read in this cycle and the step ends (08 R207). -/
def endstepDo (tile : Nat) (s : State) : State :=
  if !(slotOpen s tile 7 && slotIs s tile 7 3) then s
  else
    let s := landDue s tile
    updRun s tile (fun r => markIssued 7 { r with ended := true, out := (vReg r 30).take 16 })
/-- BARRIER (09 R220). -/
def barrierDo (tile : Nat) (s : State) : State :=
  if !(slotOpen s tile 7 && slotIs s tile 7 4) then s
  else
    let s := landDue s tile
    match (s.tile tile).run with
    | none => s
    | some r =>
      let w := slotWord (s.tile tile).kstore r.pc 7
      updRun (beginStall s tile (.barrier (field w 32 16) (field w 0 8))) tile (markIssued 7)
/-- LEASE (09 R221, 08 R202). -/
def leaseDo (tile : Nat) (s : State) : State :=
  if !(slotOpen s tile 7 && slotIs s tile 7 5) then s
  else
    let s := landDue s tile
    match (s.tile tile).run with
    | none => s
    | some r =>
      let w := slotWord (s.tile tile).kstore r.pc 7
      let t := field w 48 4
      let b := field w 44 4
      if t = tile % 16 || r.held.contains (t, b) then advance (updRun s tile (markIssued 7)) tile
      else
        let req : LeaseReq := { bank := b, who := .remote (Fin.ofNat 64 tile), at_ := s.now }
        let s := s.updTile (tile / 16 * 16 + t) (fun x => { x with requests := x.requests ++ [req] })
        updRun (beginStall s tile (.lease t b)) tile (markIssued 7)
/-- RELEASE (09 R221). -/
def releaseDo (tile : Nat) (s : State) : State :=
  if !(slotOpen s tile 7 && slotIs s tile 7 6) then s
  else
    let s := landDue s tile
    match (s.tile tile).run with
    | none => s
    | some r =>
      let w := slotWord (s.tile tile).kstore r.pc 7
      let p := (field w 48 4, field w 44 4)
      let s := if r.held.contains p then goHome s (tile / 16 * 16 + p.1) p.2 else s
      advance (updRun s tile (fun r => markIssued 7 { r with held := r.held.filter (fun q => q != p) })) tile

/-! ### Events of a tile -/

/-- Results land; after the end of the step the next landing cycle comes without issue (08 R192, R207). -/
def landDo (tile : Nat) (s : State) : State :=
  match (s.tile tile).run with
  | none => s
  | some r =>
    if r.stall.isSome || s.sys.thermal.shut then s
    else if r.ended && r.issued == 255 then
      match r.flight with
      | x :: _ => landDue (updRun s tile (fun r => { r with cycle := max r.cycle x.land })) tile
      | [] => s
    else landDue s tile
/-- The tag of the barrier a tile stalls at. -/
def barrierTag (s : State) (tile : Nat) : Option Nat :=
  match (s.tile tile).run with
  | some r => (match r.stall with
    | some (.barrier _ g) => some g
    | _ => none)
  | none => none
/-- Participants of the barrier a tile stalls at: its mask and itself (09 R220). -/
def barrierTiles (s : State) (tile : Nat) : List Nat :=
  match (s.tile tile).run with
  | some r => (match r.stall with
    | some (.barrier m _) => (List.range 16).filterMap (fun i =>
        if natBit m i || i == tile % 16 then some (tile / 16 * 16 + i) else none)
    | _ => [])
  | none => []
/-- Every participant has issued BARRIER with the tag: each continues. -/
def barrierCompleteDo (tile : Nat) (s : State) : State :=
  let ps := barrierTiles s tile
  if s.sys.thermal.shut || ps.isEmpty || !ps.all (fun p => barrierTag s p == barrierTag s tile) then s
  else ps.foldl (fun s p => advance (endStall s p) p) s
/-- Rank of a requester among requests of one cycle (08 R202). -/
def holderRank : Holder → Nat
  | .home => 0 | .swap => 1 | .remote _ => 2 | .foreman => 3
/-- The request for a bank that is served next. -/
def firstReq (x : Tile) (bank : Nat) : Option LeaseReq :=
  leastBy (fun (a b : LeaseReq) => decide (a.at_ < b.at_) || (a.at_ == b.at_ && decide (holderRank a.who < holderRank b.who)))
    (x.requests.filter (fun q => q.bank == bank))
/-- A member of a gang lets another have a bank that its own step uses: both run work chunks of one job, and it stalls at a barrier with
the other, so that it neither reads nor writes the bank meanwhile (10 R248; 08 R201; log 177). -/
def gangLets (s : State) (tile : Nat) (h : Holder) : Bool :=
  match h with
  | .remote t =>
    (match (s.tile tile).run, (s.tile t.val).run with
    | some r, some q =>
      (match r.stall, r.work, q.work with
      | some (.barrier m _), .job n _, .job k _ => natBit m (t.val % 16) && n == k
      | _, _, _ => false)
    | _, _ => false)
  | _ => false
/-- Foreman's waiting writes to a tile are done as its leases allow (08 R202). -/
def foremanWrites (s : State) (tile : Nat) : State :=
  let ns := s.sched.streams.filterMap (fun (e : Nat × Stream) =>
    if e.2.valid && e.2.tile == tile && !e.2.between.param.isEmpty then some e.1 else none)
  ns.foldl settleStream s
/-- A lease is granted to the requester served next. -/
def leaseGrantDo (tile bank : Nat) (h : Holder) (s : State) : State :=
  let x := s.tile tile
  let mine := match firstReq x bank with
    | some q => q.who == h
    | none => false
  if !mine || s.sys.thermal.shut || holderOf x bank != .home || (bankInUse x bank && !gangLets s tile h) then s
  else
    let s := s.updTile tile (fun x => { x with
      holders := tblSet bank h x.holders, leaseAt := tblSet bank s.now x.leaseAt
      requests := x.requests.filter (fun q => !(q.bank == bank && q.who == h)) })
    match h with
    | .remote rt =>
      let s := updRun s rt.val (fun r => { r with held := r.held ++ [(tile % 16, bank)] })
      match (s.tile rt.val).run with
      | some r => if r.stall = some (.lease (tile % 16) bank) then advance (endStall s rt.val) rt.val else s
      | none => s
    | .foreman => dispatchTile (foremanWrites s tile) tile
    | _ => s
/-- A stall reaches its limit (08 R196). -/
def stallTimeoutDo (tile : Nat) (s : State) : State :=
  match (s.tile tile).run with
  | some r =>
    if r.stall.isSome && decide (r.stallAt + stallLimit r ≤ s.now) && s.benchLive (tile / 16) && !s.sys.thermal.shut then
      abortTile s tile .stallTimeout (some 7)
    else s
  | none => s
/-- Longest hold in time base counts (08 Table 8-6). -/
def leaseLimit : Holder → Nat
  | .home => 0 | .swap => 960 | .remote _ => 2400 | .foreman => 9600
/-- A lease reaches its limit: the bank returns to HOME, the holder loses it; Foreman's access is refused, so that its waiting
parameter units are not written (08 R203, Table 8-6). -/
def leaseExpiryDo (tile bank : Nat) (s : State) : State :=
  let x := s.tile tile
  let h := holderOf x bank
  if h == .home || !(s.benchLive (tile / 16)) || s.now < tblGet 0 x.leaseAt bank + leaseLimit h then s
  else
    let (code, ht) := match h with
      | .swap => (0, 0)
      | .remote t => (1, t.val)
      | _ => (2, 0)
    let owner := match h with
      | .remote t => ((s.tile t.val).run.map (fun r => r.tenant)).getD 0xFF
      | _ => 0xFF
    let s := logFault s 0x0303 1 false owner 2 tile (leBytes 1 bank ++ leBytes 1 code ++ leBytes 1 ht)
    let s := goHome s tile bank
    match h with
    | .remote t =>
      if s.sys.thermal.shut then updRun s t.val (fun r => { r with leaseLost := true }) else abortTile s t.val .leaseLost none
    | .swap =>
      (s.sched.streams.map (fun e => e.1)).foldl (fun s n =>
        let st := s.stream n
        if st.valid && st.tile == tile && st.xfer.isSome && (banksOf st.unit (areaUnits s st)).contains bank then
          let s := s.updStream n (fun y => { y with xfer := y.xfer.map (fun z => { z with startAt := s.now }) })
          askBanks s tile st.unit (areaUnits s st)
        else s) s
    | .foreman =>
      let hit := fun (st : Stream) => st.valid && st.tile == tile && (paramBanks s st).contains bank
      foremanTidy (updStreams s hit (fun st => { st with between := { st.between with param := [] } })) tile
    | .home => s

end Sys2Proof.Machine
end

