-- ==== Sys2Proof/Machine/SchedArms.lean ====
section
/-! DEFINITION. The scheduler's, staging unit's and swap engine's rows (10, 11, 12). -/

namespace Sys2Proof.Machine

/-- The tile that a work is for. -/
def workTile (s : State) : Work → Nat
  | .stream n => (s.stream n.val).tile
  | .job _ t => t.val
/-- A work is eligible on its tile. -/
def workReady (s : State) : Work → Bool
  | .stream n => stepReady s n.val
  | .job n t => match jobOf s n with
    | some j => (chunkFor s n j t.val).isSome
    | none => false
/-- STEP_DUE: the step is eligible; its tile, where idle, takes what its dispatcher picks (11 R278, R279). -/
def stepDueDo (w : Work) (s : State) : State :=
  if workReady s w && tileIdle s (workTile s w) then dispatchTile s (workTile s w) else s

/-- What the staging unit needs for a work's bank: slot keys, step counter, SEED, LSTREAM (12 R292). -/
abbrev StageKey := List (Nat × Nat × Nat) × Nat × Nat × Nat
/-- A bank of the tile is staged, or being staged, for a step of a work. -/
def bankFor (s : State) (tile : Nat) (w : Work) (step : Nat) : Bool :=
  (tblFind? s.sched.active tile).any (fun b => b.work == w && b.step == step)
    || (tblFind? s.sched.stage tile).any (fun b => b.work == w && b.step == step)
/-- The step counter a job's bank on a tile is staged for: its next work chunk's, or that of the first member of its gang that no
other tile of the bench has a bank for (10 R247, R248, 12 R302). -/
def jobStep (s : State) (n tile : Nat) (j : Job) (c : Chunk) : Nat :=
  let elsewhere := fun (step : Nat) => (List.range 16).any (fun i =>
    let t := tile / 16 * 16 + i
    t != tile && bankFor s t (.job n (Fin.ofNat 64 t)) step)
  (((gangChunks s j { c with tile := tile }).map (chunkStep j)).find? (fun k => !elsewhere k)).getD (chunkStep j c)
/-- What a work's next step on a tile needs staged; none where it is no candidate or draws nothing (12 R299, R302). -/
def stageNeed (s : State) (tile : Nat) : Work → Option StageKey
  | .stream n =>
    let st := s.stream n.val
    let keys := streamKeys s st
    if st.valid && st.den && !st.ending && st.tile == tile && !inFlight s n.val && !keys.isEmpty && decide (keys.length ≤ 32)
        && (st.noin || !st.queue.isEmpty) && (st.cls != 0 || decide ((st.eligOfs : Int) - 2400 ≤ lagInt s st)) then
      some (keys, st.step, st.seed, if st.feed then st.out % 4096 else 0)
    else none
  | .job n t =>
    if t.val != tile then none
    else do
      let j ← jobOf s n
      let c ← chunkNext s j
      let (_, _, k) ← chunkKernel s j c
      let keys := drawKeys k.draws 1
      if keys.isEmpty || 32 < keys.length then none else some (keys, jobStep s n tile j c, 0, 0)
/-- The tile's next candidate among the works that want staging, in the order of R279 (12 R299). -/
def nextCandidate (s : State) (tile : Nat) : Option Work :=
  let okS := fun (n : Nat) => (stageNeed s tile (.stream (sNo n))).isSome
  let okJ := fun (n : Nat) (_ : Job) => (stageNeed s tile (.job n (Fin.ofNat 64 tile))).isSome
  let bg := fun (cls : Nat) => (firstBg s tile cls (bgWork s tile cls okS okJ)).map (fun w =>
    if w.2.2.1 then Work.job w.2.2.2 (Fin.ofNat 64 tile) else Work.stream (sNo w.2.2.2))
  (((firstOnline s tile okS).map (fun n => Work.stream (sNo n))).or (bg 1)).or (bg 2)
/-- Place of a request in the unit's order: ONLINE by eligible time, then BATCH, then MAINT (12 R299). -/
def stageRank (s : State) : Work → Nat × Int
  | .stream n => let st := s.stream n.val; (st.cls, if st.cls = 0 then (st.eligOfs : Int) - lagInt s st else 0)
  | .job _ _ => (1, 0)
/-- The staging unit, where free, takes the request that is first in its order; requests that no longer stand are dropped (12 R299). -/
def takeStaging (s : State) : State :=
  if s.now < s.sched.stagingFree then s
  else
    let live := s.sched.stageWait.filter (fun e => s.tileLive e.1 && (stageNeed s e.1 e.2).isSome)
    match leastBy (fun (a b : Nat × Work) =>
        let x := stageRank s a.2
        let y := stageRank s b.2
        decide (x.1 < y.1) || (x.1 == y.1 && decide (x.2 < y.2))) live with
    | none => { s with sched := { s.sched with stageWait := [] } }
    | some (tile, w) =>
      match stageNeed s tile w with
      | none => s
      | some (keys, step, seed, ls) =>
        let stop := s.now + ceilDiv (480 + 96 * keys.length) 100
        let b : StipBank := { work := w, step := step, doneAt := some stop
                              slots := keys.map (fun k => stipSlot seed ls step k.1 k.2.1 k.2.2) }
        { s with sched := { s.sched with
            stage := tblSet tile b s.sched.stage, stagingFree := stop, stageWait := live.filter (fun e => e.1 != tile) } }
/-- STAGING_REQUEST: the scheduler asks for the bank of the tile's next candidate, and a bank staged for another is discarded (12
R299). -/
def stagingRequestDo (tile : Nat) (w : Work) (s : State) : State :=
  match stageNeed s tile w with
  | none => s
  | some (_, step, _, _) =>
    if nextCandidate s tile != some w || bankFor s tile w step || !s.sys.stippleOk || !s.tileLive tile then s
    else
      let wait := if s.sched.stageWait.contains (tile, w) then s.sched.stageWait
        else s.sched.stageWait.filter (fun e => e.1 != tile) ++ [(tile, w)]
      takeStaging { s with sched := { s.sched with stage := tblDel tile s.sched.stage, stageWait := wait } }
/-- STAGING_DONE: the bank is whole, and the unit takes its next request (12 R299). -/
def stagingDoneDo (tile : Nat) (s : State) : State :=
  let s := match tblFind? s.sched.stage tile with
    | some b =>
      if b.doneAt.any (fun u => decide (s.now < u)) then s
      else { s with sched := { s.sched with stage := tblSet tile { b with doneAt := none } s.sched.stage } }
    | none => s
  takeStaging s

/-- The lane or slot a SWAP stream may take: its own, while no other stream is in it (14 R344). -/
def swapSlot (s : State) (st : Stream) : Option (Nat × Lane) :=
  s.sched.lanes.find? (fun (e : Nat × Lane) => st.slot == some e.1 && e.2.user.isNone && decide (areaUnits s st ≤ e.2.units))
/-- A SWAP stream's bring-in may start (11 R283). -/
def bringReady (s : State) (st : Stream) : Bool :=
  st.valid && st.den && !st.ending && st.swap && !st.res && st.xfer.isNone && s.sys.ctrlUp
    && s.benchLive (homeOf s st / 16) && dramUsable s (st.storePtr.getD 0 * 128) (areaUnits s st * 128)
    && (if st.cls = 0 then decide ((st.eligOfs : Int) - 9600 ≤ lagInt s st) else st.noin || !st.queue.isEmpty)
/-- Another stream that may be brought in comes first: an ONLINE one with an earlier eligible time, or before background work (11
R283; log 175). -/
def bringLater (s : State) (n : Nat) : Bool :=
  let st := s.stream n
  s.sched.streams.any (fun (e : Nat × Stream) =>
    e.1 != n && e.2.cls == 0 && bringReady s e.2 && (swapSlot s e.2).isSome
      && (st.cls != 0 || decide ((e.2.eligOfs : Int) - lagInt s e.2 < (st.eligOfs : Int) - lagInt s st)))
/-- SWAP_BRING_IN: transfers start in order of eligible time (11 R283). -/
def bringInDo (n : Nat) (s : State) : State :=
  let st := s.stream n
  match swapSlot s st with
  | some (i, l) =>
    if !bringReady s st || bringLater s n then s
    else
      let s := { s with sched := { s.sched with lanes := tblSet i { l with user := some n } s.sched.lanes } }
      let s := s.updStream n (fun x => { x with tile := l.tile, unit := l.unit })
      startCopy (widenMask s l.tile st.kt l.unit (areaUnits s st)) n .bringIn
  | none => s
/-- The kind of copy a stream has under way, with the banks it needs held. -/
def copyHeld (s : State) (n : Nat) : Option Xfer :=
  let st := s.stream n
  if st.valid && s.sys.ctrlUp && !s.sys.thermal.shut && swapHolds s st.tile st.unit (areaUnits s st) then st.xfer else none
/-- SWAP_BRING_IN_DONE (11 R283): a stream paused meanwhile gives its slot up (11 Edges of 11.6). -/
def bringInDoneDo (n : Nat) (s : State) : State :=
  let st := s.stream n
  match copyHeld s n with
  | some x =>
    if x.kind != .bringIn || !dramUsable s (st.storePtr.getD 0 * 128) (areaUnits s st * 128) then s
    else
      let s := palWrite s st.tile st.unit (dramRead s (st.storePtr.getD 0 * 128) (areaUnits s st * 128))
      let s := endCopy s n
      if st.swap && (x.cancelled || !st.den) then settleStream ((freeSlot s n).updStream n (fun y => { y with res := false })) n
      else settleStream (s.updStream n (fun y => { y with res := true })) n
  | none => s
/-- A stream's area is copied to its store (11 R284, R285). -/
def storeArea (s : State) (n : Nat) : State :=
  let st := s.stream n
  dramWrite s (st.storePtr.getD 0 * 128) (palRead s st.tile st.unit (areaUnits s st))
/-- SWAP_WRITE_BACK_DONE (11 R284). -/
def writeBackDoneDo (n : Nat) (s : State) : State :=
  match copyHeld s n with
  | some x =>
    if x.kind != .writeBack then s
    else settleStream ((freeSlot (endCopy (storeArea s n) n) n).updStream n (fun y => { y with res := false, stored := some y.step })) n
  | none => s
/-- CHECKPOINT_DONE (11 R285). -/
def checkpointDoneDo (n : Nat) (s : State) : State :=
  match copyHeld s n with
  | some x =>
    if x.kind != .checkpoint then s
    else settleStream ((endCopy (storeArea s n) n).updStream n (fun y => { y with ckptAt := s.now, stored := some y.step })) n
  | none => s
/-- MIGRATION_DONE (11 R281). -/
def migrationDoneDo (n : Nat) (s : State) : State :=
  let st := s.stream n
  match copyHeld s n with
  | some x =>
    (match x.kind with
    | .migrate t u =>
      if !s.benchLive (t / 16) then s else
      let s := palWrite s t u (palRead s st.tile st.unit (areaUnits s st))
      let s := widenMask s t st.kt u (areaUnits s st)
      settleStream ((freeSlot (endCopy s n) n).updStream n (fun y => { y with tile := t, unit := u })) n
    | _ => s)
  | none => s
/-- BEHIND_CHECK: a pending step's lag against 8 periods (11 R289). -/
def behindCheckDo (n : Nat) (s : State) : State :=
  let st := s.stream n
  if st.valid && st.den && st.cls == 0 && !inFlight s n && s.sys.computeUp && !dueUnknown s st && decide ((8 * periodOf st : Int) < lagInt s st) then
    setBehind s n true
  else s
/-- JOB_REFIT_TIMEOUT: the clock stayed low for 60 s from the pause, or from when it fell again (10 Table 10-9). -/
def refitTimeoutDo (n : Nat) (s : State) : State :=
  match jobOf s n with
  | some j =>
    (match j.refitAt, imageOf s j.image with
    | some a, some img =>
      if a + 2880000000 ≤ s.now && j.st == .paused && !gFits s img j 64 then endJob s n 5 else s
    | _, _ => s)
  | none => s

/-- STEP_DUE. -/
def execStepDue (t : Nat) (w : Work) (s : State) : Host.Outcome State Fault Refusal := .next (finish (stepDueDo w (s.at t)))
/-- STEP_COMMIT (08 R207). -/
def execStepCommit (t : Nat) (tile : Fin 64) (s : State) : Host.Outcome State Fault Refusal :=
  .next (finish (when (mayCommit s tile.val) (fun s => commitTile s tile.val) (s.at t)))
/-- STAGING_REQUEST. -/
def execStagingRequest (t : Nat) (tile : Fin 64) (w : Work) (s : State) : Host.Outcome State Fault Refusal :=
  .next (finish (stagingRequestDo tile.val w (s.at t)))
/-- STAGING_DONE. -/
def execStagingDone (t : Nat) (tile : Fin 64) (s : State) : Host.Outcome State Fault Refusal :=
  .next (finish (stagingDoneDo tile.val (s.at t)))
/-- SWAP_BRING_IN. -/
def execSwapBringIn (t : Nat) (n : Fin 16384) (s : State) : Host.Outcome State Fault Refusal :=
  .next (finish (bringInDo n.val (s.at t)))
/-- SWAP_BRING_IN_DONE. -/
def execSwapBringInDone (t : Nat) (n : Fin 16384) (s : State) : Host.Outcome State Fault Refusal :=
  .next (finish (bringInDoneDo n.val (s.at t)))
/-- SWAP_WRITE_BACK_DONE. -/
def execSwapWriteBackDone (t : Nat) (n : Fin 16384) (s : State) : Host.Outcome State Fault Refusal :=
  .next (finish (writeBackDoneDo n.val (s.at t)))
/-- CHECKPOINT_DONE. -/
def execCheckpointDone (t : Nat) (n : Fin 16384) (s : State) : Host.Outcome State Fault Refusal :=
  .next (finish (checkpointDoneDo n.val (s.at t)))
/-- MIGRATION_DONE. -/
def execMigrationDone (t : Nat) (n : Fin 16384) (s : State) : Host.Outcome State Fault Refusal :=
  .next (finish (migrationDoneDo n.val (s.at t)))
/-- BEHIND_CHECK. -/
def execBehindCheck (t : Nat) (n : Fin 16384) (s : State) : Host.Outcome State Fault Refusal :=
  .next (finish (behindCheckDo n.val (s.at t)))
/-- JOB_REFIT_TIMEOUT. -/
def execJobRefitTimeout (t : Nat) (job : Fin 65536) (s : State) : Host.Outcome State Fault Refusal :=
  .next (finish (refitTimeoutDo job.val (s.at t)))

end Sys2Proof.Machine
end

