-- ==== Sys2Proof/Machine/Operands.lean ====
section
/-! DEFINITION. The operand forms of the mailbox commands: field rules and clamp entries (15 15.8), targets (16 R377), the
clamp rules of every setting, and the encodings of records and entries (11 Table 11-1, 24 Tables 24-7 to 24-9). -/

namespace Sys2Proof.Machine

/-! ### Field rules (15 R369, R370) -/

/-- How a field is brought into its range. -/
inductive FieldKind where
  | near (lo hi : Nat)          -- nearer limit
  | enum (top dflt : Nat)       -- codes above `top` become `dflt`
  | bits (w : Nat)              -- no clamp rule: the field's bits
  deriving DecidableEq, Repr
/-- A field of a payload or of the KA register file: where it lies and how it clamps. -/
structure FieldRule where
  off : Nat
  size : Nat
  kind : FieldKind
  deriving DecidableEq, Repr
/-- An entry of a clamp report: field offset, reason of Table 15-10, applied value. -/
abbrev ClampEntry := Nat × Nat × Nat
/-- A value brought into range and the reason, 0 where it stands. -/
def clampKind : FieldKind → Nat → Nat × Nat
  | .near lo hi, v => if v < lo then (lo, 1) else if hi < v then (hi, 2) else (v, 0)
  | .enum top d, v => if top < v then (d, 3) else (v, 0)
  | .bits w, v => (v % 2 ^ w, 0)
/-- Put `n` little-endian bytes of a value at an offset of a byte list. -/
def putLe (b : List Byte) (off n v : Nat) : List Byte := b.take off ++ leBytes n v ++ b.drop (off + n)
/-- Every field of a byte list brought into its own range (step 1 of R369). -/
def applyRules (rules : List FieldRule) (b : List Byte) : List Byte × List ClampEntry :=
  rules.foldl (fun (a : List Byte × List ClampEntry) r =>
    let v := leAt a.1 r.off r.size
    let c := clampKind r.kind v
    (putLe a.1 r.off r.size c.1, if c.2 = 0 then a.2 else a.2 ++ [(r.off, c.2, c.1)])) (b, [])
/-- One entry per changed field, in ascending field order; a later change of a field replaces its entry. -/
def addEntry (es : List ClampEntry) (e : ClampEntry) : List ClampEntry :=
  (es.filter (fun x => decide (x.1 < e.1))) ++ [e] ++ (es.filter (fun x => decide (e.1 < x.1)))
/-- The bytes of clamp entries (15 Table 15-9). -/
def entryBytes (space : Nat) (es : List ClampEntry) : List Byte :=
  es.flatMap (fun e => leBytes 2 e.1 ++ leBytes 1 e.2.1 ++ leBytes 1 space ++ leBytes 4 e.2.2)
/-- A field limited by another one (step 2 of R369): set it and enter it. -/
def depend (off size : Nat) (v : Nat) (reason : Nat) (a : List Byte × List ClampEntry) : List Byte × List ClampEntry :=
  if leAt a.1 off size = v then a else (putLe a.1 off size v, addEntry a.2 (off, reason, v))

/-! ### Rules of each setting group -/

/-- SET_LEDGER payload (16 Table 16-6, 07 Table 7-1). -/
def ledgerRules : List FieldRule :=
  [⟨1, 1, .enum 8 0⟩, ⟨2, 1, .near 1 16⟩, ⟨3, 1, .near 1 16⟩, ⟨4, 4, .near 1000 20000000⟩, ⟨8, 2, .near 25000 45000⟩,
   ⟨10, 2, .near 15000 40000⟩, ⟨12, 2, .near 0 1000⟩, ⟨14, 2, .near 0 3000⟩, ⟨16, 2, .near 0 2000⟩, ⟨18, 2, .near 10 3600⟩,
   ⟨20, 2, .near 12 336⟩, ⟨24, 4, .near 50 100000⟩, ⟨28, 4, .near 10 10000⟩]
/-- Two voltages kept apart by a gap, each checked against the other's value after step 1 (15 R369). -/
def apart (hiOff loOff gap : Nat) (a : List Byte × List ClampEntry) : List Byte × List ClampEntry :=
  let h := leAt a.1 hiOff 2
  let l := leAt a.1 loOff 2
  depend loOff 2 (if h < l + gap then h - gap else l) 4 (depend hiOff 2 (if h < l + gap then l + gap else h) 4 a)
/-- SET_LEDGER's payload brought into range. -/
def clampLedger (b : List Byte) : List Byte × List ClampEntry := apart 8 10 2000 (applyRules ledgerRules b)
/-- SET_HEAD payload (16 Table 16-10, 04 Table 4-1). -/
def headRules : List FieldRule :=
  [⟨1, 1, .enum 1 0⟩, ⟨2, 1, .bits 4⟩, ⟨3, 1, .bits 4⟩, ⟨4, 1, .bits 1⟩, ⟨5, 1, .bits 1⟩, ⟨6, 1, .bits 1⟩, ⟨8, 4, .near 80 10000⟩,
   ⟨12, 4, .near 50 20000⟩, ⟨16, 2, .near 10 1000⟩, ⟨18, 2, .near 100 10000⟩]
/-- SET_HEAD's payload brought into range; PCHG_TMAX is at least PCHG_TMIN + 50. -/
def clampHead (b : List Byte) : List Byte × List ClampEntry :=
  let a := applyRules headRules b
  depend 18 2 (max (leAt a.1 18 2) (leAt a.1 16 2 + 50)) 4 a
/-- SET_PROTECT payload (16 Table 16-10, 03 Table 3-2, 06 Table 6-8). -/
def protectRules : List FieldRule :=
  [⟨1, 1, .near 1 8⟩, ⟨2, 1, .bits 1⟩, ⟨3, 1, .near 1 64⟩, ⟨4, 2, .near 20000 50000⟩, ⟨6, 2, .near 0 40000⟩, ⟨8, 2, .near 0 2000⟩]
/-- SET_PROTECT's payload brought into range. -/
def clampProtect (b : List Byte) : List Byte × List ClampEntry := apart 4 6 1000 (applyRules protectRules b)
/-- SET_PAIR payload (06 Table 6-7). -/
def pairRules : List FieldRule := [⟨1, 1, .enum 2 0⟩, ⟨2, 1, .enum 1 0⟩, ⟨3, 1, .near 1 32⟩, ⟨4, 2, .near 1 256⟩]
/-- SET_PAIR's payload brought into range; at most 2 members in DIRECT. -/
def clampPair (b : List Byte) : List Byte × List ClampEntry :=
  let a := applyRules pairRules b
  if leAt a.1 1 1 = 2 then depend 3 1 (min 2 (leAt a.1 3 1)) 4 a else a
/-- SET_ASSAYER payload (13 Table 13-3). -/
def assayerRules : List FieldRule := [⟨0, 1, .bits 1⟩, ⟨1, 1, .near 1 168⟩, ⟨2, 2, .near 50 1000⟩]
/-- SET_CHANNEL payload (13 Table 13-4). -/
def channelRules : List FieldRule :=
  [⟨1, 1, .bits 1⟩, ⟨2, 1, .enum 2 0⟩, ⟨3, 1, .enum 2 1⟩, ⟨6, 1, .bits 2⟩, ⟨7, 1, .near 1 240⟩]
/-- SET_TENANT payload (15 Table 15-4). -/
def tenantRules : List FieldRule :=
  [⟨1, 1, .enum 1 0⟩, ⟨2, 2, .near 0 16384⟩, ⟨4, 4, .near 0 262144⟩, ⟨8, 1, .near 0 90⟩, ⟨12, 4, .near 0 16384⟩, ⟨16, 4, .near 0 131072⟩]
/-- MAP_GPIO payload (16 Table 16-5). -/
def gpioRules : List FieldRule := [⟨1, 1, .enum 8 0⟩, ⟨2, 1, .enum 8 0⟩, ⟨3, 1, .bits 2⟩]

/-! ### Records of KA and their settings (24 Tables 24-7 to 24-9) -/

/-- A tenant's settings from the 20 bytes of Table 15-4. -/
def tenOfBytes (b : List Byte) : TenSet :=
  { en := leAt b 1 1 == 1, qStreams := leAt b 2 2, qPal := leAt b 4 4, qShare := leAt b 8 1, qDram := leAt b 12 4, qQueue := leAt b 16 4 }
/-- The 20 bytes of a tenant's settings. -/
def tenBytes (n : Nat) (t : TenSet) : List Byte :=
  leBytes 1 n ++ leBytes 1 (b2n t.en) ++ leBytes 2 t.qStreams ++ leBytes 4 t.qPal ++ leBytes 1 t.qShare ++ zeros 3
    ++ leBytes 4 t.qDram ++ leBytes 4 t.qQueue
/-- A string's settings from its record. -/
def strOfBytes (b : List Byte) : StrSet :=
  { pair := leAt b 0 1, first := leAt b 1 1, last := leAt b 2 1, head := leAt b 3 1, en := leAt b 4 1 == 1, termSrc := leAt b 5 1
    emptyN := leAt b 6 1, capGain := leAt b 7 1, cNom := leAt b 8 4, vFull := leAt b 12 2, vEmpty := leAt b 14 2
    fullMargin := leAt b 16 2, resBot := leAt b 18 2, resTop := leAt b 20 2, tTaper := leAt b 22 2, lcTmax := leAt b 24 2
    iTaper := leAt b 26 4, iDb := leAt b 30 4, drvMode := leAt b 34 1, scdTh := leAt b 35 1, scdBlank := leAt b 36 1
    dsatEn := leAt b 37 1, pchgEn := leAt b 38 1, vauxEn := leAt b 39 1, shunt := leAt b 40 4, pchgIdone := leAt b 44 4
    pchgTmin := leAt b 48 2, pchgTmax := leAt b 50 2, almN := leAt b 52 1, aspEn := leAt b 53 1, tComm := leAt b 54 1
    ovTh := leAt b 55 2, uvTh := leAt b 57 2, almHys := leAt b 59 2, eodGpio := leAt b 61 1, eocGpio := leAt b 62 1, pol := leAt b 63 1 }
/-- SET_LEDGER bytes 1 to 21 of a string. -/
def ledgerPart1 (x : StrSet) : List Byte :=
  leBytes 1 x.termSrc ++ leBytes 1 x.emptyN ++ leBytes 1 x.capGain ++ leBytes 4 x.cNom ++ leBytes 2 x.vFull ++ leBytes 2 x.vEmpty
    ++ leBytes 2 x.fullMargin ++ leBytes 2 x.resBot ++ leBytes 2 x.resTop ++ leBytes 2 x.tTaper ++ leBytes 2 x.lcTmax
/-- The 64 bytes of a string's record. -/
def strBytes (x : StrSet) : List Byte :=
  leBytes 1 x.pair ++ leBytes 1 x.first ++ leBytes 1 x.last ++ leBytes 1 x.head ++ leBytes 1 (b2n x.en) ++ ledgerPart1 x
    ++ leBytes 4 x.iTaper ++ leBytes 4 x.iDb ++ leBytes 1 x.drvMode ++ leBytes 1 x.scdTh ++ leBytes 1 x.scdBlank
    ++ leBytes 1 x.dsatEn ++ leBytes 1 x.pchgEn ++ leBytes 1 x.vauxEn ++ leBytes 4 x.shunt ++ leBytes 4 x.pchgIdone
    ++ leBytes 2 x.pchgTmin ++ leBytes 2 x.pchgTmax ++ leBytes 1 x.almN ++ leBytes 1 x.aspEn ++ leBytes 1 x.tComm
    ++ leBytes 2 x.ovTh ++ leBytes 2 x.uvTh ++ leBytes 2 x.almHys ++ leBytes 1 x.eodGpio ++ leBytes 1 x.eocGpio ++ leBytes 1 x.pol
/-- A member's settings from its record. -/
def memberOfBytes (m : Member) (b : List Byte) : Member :=
  { m with serial := leAt b 0 8, modid := leAt b 8 1, nCells := leAt b 9 1, thEn := leAt b 10 1, thBeta := leAt b 12 2
           balNr := leAt b 14 2, balRcs := leAt b 16 2, balIpk := leAt b 18 2, stored := b.any (· != 0#8) }
/-- The 24 bytes of a member's record. -/
def memberBytes (m : Member) : List Byte :=
  leBytes 8 m.serial ++ leBytes 1 m.modid ++ leBytes 1 m.nCells ++ leBytes 1 m.thEn ++ zeros 1 ++ leBytes 2 m.thBeta
    ++ leBytes 2 m.balNr ++ leBytes 2 m.balRcs ++ leBytes 2 m.balIpk ++ zeros 4
/-- A report channel's settings from bytes 1 to 7 of SET_CHANNEL. -/
def chanOfBytes (c : RChan) (b : List Byte) : RChan :=
  { c with en := leAt b 0 1 == 1, source := leAt b 1 1, scope := leAt b 2 1, obj := leAt b 3 2, cont := leAt b 5 1, period := leAt b 6 1 }
/-- Bytes 1 to 7 of SET_CHANNEL. -/
def chanBytes (c : RChan) : List Byte :=
  leBytes 1 (b2n c.en) ++ leBytes 1 c.source ++ leBytes 1 c.scope ++ leBytes 2 c.obj ++ leBytes 1 c.cont ++ leBytes 1 c.period
/-- KA offset of a string's record (24 R530). -/
def kaStr (n : Nat) : Nat := 0x400 + 64 * n
/-- KA offset of a member's record. -/
def kaMember (i : Nat) : Nat := 0x1400 + 24 * i
/-- KA offset of a tenant's record. -/
def kaTenant (n : Nat) : Nat := 0x100 + 20 * (n - 1)
/-- KA offset of a key slot. -/
def kaKey (n : Nat) : Nat := 0x240 + 40 * (n - 1)
/-- KA offset of a report channel. -/
def kaChan (n : Nat) : Nat := 0x380 + 8 * n
/-- KA offset of a pair's settings. -/
def kaPair (n : Nat) : Nat := 0x48 + 8 * n

/-! ### The ledger's tables as the commands reach them -/

/-- A string's settings as they were last written, which its KA record holds. -/
def strKept (s : State) (n : Nat) : StrSet := tblGet {} s.ledger.set n
/-- What the Ledger holds of a string. -/
def lstr (s : State) (n : Nat) : LString := tblGet {} s.ledger.str n
/-- A string's settings as they are in force: Ledger settings written since the last counted sweep are not yet (07 R160). -/
def strSet (s : State) (n : Nat) : StrSet :=
  let x := strKept s n
  match (lstr s n).held with
  | none => x
  | some y => { x with
    termSrc := y.termSrc, emptyN := y.emptyN, capGain := y.capGain, cNom := y.cNom, vFull := y.vFull, vEmpty := y.vEmpty
    fullMargin := y.fullMargin, resBot := y.resBot, resTop := y.resTop, tTaper := y.tTaper, lcTmax := y.lcTmax
    iTaper := y.iTaper, iDb := y.iDb }
/-- Change it. -/
def updStr (s : State) (n : Nat) (f : LString → LString) : State :=
  { s with ledger := { s.ledger with str := tblSet n (f (lstr s n)) s.ledger.str } }
/-- What the Ledger holds of a cell. -/
def lcell (s : State) (n : Nat) : LCell := tblGet {} s.ledger.cell n
/-- Change it. -/
def updCell (s : State) (n : Nat) (f : LCell → LCell) : State :=
  { s with ledger := { s.ledger with cell := tblSet n (f (lcell s n)) s.ledger.cell } }
/-- What Broros holds of a member. -/
def lmem (s : State) (i : Nat) : Member := tblGet {} s.ledger.mem i
/-- Change it. -/
def updMem (s : State) (i : Nat) (f : Member → Member) : State :=
  { s with ledger := { s.ledger with mem := tblSet i (f (lmem s i)) s.ledger.mem } }
/-- A string is configured: its EN is 1. -/
def strOn (s : State) (n : Nat) : Bool := (strSet s n).en
/-- Members of a string: pair x 32 + h - 1. -/
def strMembers (x : StrSet) : List Nat := (List.range (x.last + 1 - x.first)).map (fun i => x.pair * 32 + x.first + i - 1)
/-- Used cells of a member by global index. -/
def memberCells (s : State) (i : Nat) : List Nat := (List.range (lmem s i).nCells).map (fun k => i * 18 + k)
/-- Used cells of a string. -/
def strCells (s : State) (n : Nat) : List Nat := (strMembers (strSet s n)).flatMap (fun i => memberCells s i)
/-- The enabled string that has a member. -/
def strOfMember (s : State) (i : Nat) : Option Nat :=
  (List.range 64).find? (fun n => strOn s n && (strMembers (strSet s n)).contains i)
/-- A cell is configured: a used cell of an enabled string. -/
def cellOn (s : State) (c : Nat) : Bool :=
  decide (c < 2304) && (strOfMember s (c / 18)).isSome && decide (c % 18 < (lmem s (c / 18)).nCells)

/-! ### The stream table entry (11 Table 11-1) -/

/-- The 64 bytes of an entry. -/
def streamBytes (x : Stream) : List Byte :=
  leBytes 2 (b2n x.valid + b2n x.den * 2 + b2n (x.reset || x.resetNew) * 4 + x.cls * 8 + b2n x.feed * 32 + b2n x.res * 64
      + b2n x.swap * 128 + b2n x.noin * 256)
    ++ leBytes 1 (x.tenant + x.k * 16) ++ leBytes 1 x.kt ++ leBytes 2 x.image ++ leBytes 2 (x.unit / 4 + x.tile * 1024)
    ++ leBytes 4 (x.storePtr.getD 0xFFFFFFFF) ++ leBytes 1 x.paramUnits ++ leBytes 1 x.decim
    ++ leBytes 1 (b2n x.behind + b2n x.sat * 2 + b2n x.nan * 4 + b2n x.retry * 8 + b2n x.overflow * 16) ++ leBytes 1 x.pauseReason
    ++ leBytes 4 x.out ++ leBytes 4 x.period ++ leBytes 4 x.phase ++ leBytes 6 x.step ++ leBytes 1 x.qdepth
    ++ leBytes 1 x.queue.length ++ leBytes 4 (x.qbase + x.qhead * 131072) ++ leBytes 8 x.seed ++ leBytes 6 x.nomDue
    ++ leBytes 5 x.eligOfs ++ leBytes 4 x.lagUs ++ leBytes 1 x.lateCnt

end Sys2Proof.Machine
end

