-- ==== Sys2Proof/Machine/ForemanOps.lean ====
section
/-! DEFINITION. How Foreman takes, checks and answers a request (15 15.4 to 15.7, 16 16.1). -/

namespace Sys2Proof.Machine

/-- Opcodes defined at level 3 (16). -/
def opcodes : List Nat :=
  [0x0101, 0x0102, 0x0110, 0x0111, 0x0112, 0x0120, 0x0130, 0x0140, 0x0201, 0x0202, 0x0210, 0x0211, 0x0212, 0x0213, 0x0220, 0x0230,
   0x0301, 0x0302, 0x0303, 0x0310, 0x0311, 0x0312, 0x0320, 0x0330, 0x0401, 0x0402, 0x0403, 0x0404, 0x0405, 0x0406, 0x0407, 0x0410,
   0x0411, 0x0412, 0x0420] ++
  [0x0501, 0x0502, 0x0503, 0x0510, 0x0511, 0x0601, 0x0602, 0x0603, 0x0604, 0x0605, 0x0610, 0x0701, 0x0702, 0x0703, 0x0704, 0x0801,
   0x0802, 0x0810, 0x0811, 0x0812, 0x0820, 0x0821, 0x0901, 0x0902, 0x0910, 0x0911, 0x0A01, 0x0A02, 0x0A03, 0x0A04, 0x0A05, 0x0A06,
   0x0A07, 0x0B01, 0x0B02, 0x0B03, 0x0B04, 0x0B10, 0x0B11]

/-! ### Answers (15 R359, R367; 16 R375) -/

/-- A response of a command: its bulk output is written, the message waits for MB_RSP_n. -/
def reply (s : State) (r : Req) (status reason clampN : Nat) (payload bulk : List Byte) : State :=
  let m : Msg :=
    { opcode := r.opcode, flags := b2n (!bulk.isEmpty) * 2, status := status, tag := r.tag, bulkLen := bulk.length, reason := reason
      clampN := clampN, payload := payload, owner := r.owner }
  s.updPort r.tenant (fun p => { p with replies := p.replies ++ [m], bulk := memWrite 0#8 p.bulk 0 bulk })
/-- Executed: OK, or CLAMPED with the clamp entries after the command's own data (15 R370). -/
def answer (s : State) (r : Req) (payload : List Byte) (es : List ClampEntry := []) (bulk : List Byte := []) : State :=
  reply s r (if es.isEmpty then 0 else 1) 0 es.length (payload ++ entryBytes 0 es) bulk
/-- A status that applies nothing. -/
def failWith (s : State) (r : Req) (status : Nat) : State := reply s r status 0 0 [] []
/-- The mask of R347 over the codes from 0x10 to 0x2F. -/
def refuseMask (codes : List Nat) : Nat :=
  codes.foldl (fun m c => if 0x10 ≤ c && c ≤ 0x2F then m ||| 2 ^ (c - 0x10) else m) 0
/-- REFUSED_FIT with its failing reason codes (14 R347). -/
def refuse (s : State) (r : Req) (codes : List Nat) : State :=
  reply s r 2 (codes.foldl min 0xFF) 0 (leBytes 4 (refuseMask codes)) []
/-- NO_OBJECT. -/
def noObject (s : State) (r : Req) : State := refuse s r [0x0C]
/-- BUSY. -/
def busy (s : State) (r : Req) : State := failWith s r 4

/-! ### Requests -/

/-- An URGENT request that is honoured (15 R365). -/
def urgentOk (tenant flags opcode : Nat) : Bool := tenant == 0 && natBit flags 0 && (opcode == 0x0801 || opcode == 0x0802)
/-- The request that stands in MB_REQ_n (15 Table 15-7). -/
def reqAt (s : State) (n : Nat) : Req :=
  let h := memRead 0#8 (s.port n).req 0 16
  let len := leAt h 4 2
  { tenant := n, opcode := leAt h 0 2, flags := leAt h 2 1, tag := leAt h 6 2, len := len, bulkLen := leAt h 8 4
    payload := memRead 0#8 (s.port n).req 16 (min 240 len) }
/-- The opcode is undefined. -/
def badOpcode (r : Req) : Bool := !opcodes.contains r.opcode
/-- Requests at the head of the order with an undefined opcode complete with BAD_OPCODE. -/
def flushBad (s : State) : State :=
  if s.foreman.current.isSome then s
  else
    let bad := s.foreman.order.takeWhile badOpcode
    let s := { s with foreman := { s.foreman with order := s.foreman.order.dropWhile badOpcode } }
    bad.foldl (fun s r => failWith s r 6) s
/-- The mailbox logic takes the request of tenant n (15 R359, R360, R365). -/
def takeNow (s : State) (n : Nat) : State :=
  let r := reqAt s n
  let bulk := natBit r.flags 1
  let own := bulk && !(s.port n).bulkDev
  let r := { r with owner := own, busy := bulk && !own }
  let urgent := urgentOk n r.flags r.opcode
  let s := s.portSet n (fun p => { p with reqPend := false, reqTaken := true, inflight := p.inflight + 1, bulkDev := p.bulkDev || bulk })
    (fun j => { j with taken := true })
  let f := s.foreman
  flushBad { s with foreman := if urgent then { f with urgent := f.urgent ++ [(r, s.now)] } else { f with order := f.order ++ [r] } }
/-- A pending ring that may be taken now: room in the queue, or an honoured URGENT request with its slot free. -/
def mayTake (s : State) (n : Nat) : Bool :=
  let r := reqAt s n
  s.sys.ctrlUp && (s.port n).reqPend
    && (if urgentOk n r.flags r.opcode then s.foreman.urgent.isEmpty else decide ((s.port n).inflight < 4))
/-- The urgent slot is free: a waiting urgent ring of tenant 0 is taken (15 R365). -/
def takeUrgent (s : State) : State :=
  let r := reqAt s 0
  if urgentOk 0 r.flags r.opcode && mayTake s 0 then takeNow s 0 else s

/-! ### Execution (15 R362, R368; 16 R373, R374) -/

/-- The request that Foreman executes next: the urgent slot, then take order, none while a chain command is under way. -/
def nextReq (s : State) : Option Req :=
  match s.foreman.urgent with
  | u :: _ => some u.1
  | [] => if s.foreman.current.isSome then none else s.foreman.order.head?
/-- It leaves the order. -/
def popReq (s : State) : State :=
  let f := s.foreman
  match f.urgent with
  | _ :: us => { s with foreman := { f with urgent := us } }
  | [] => { s with foreman := { f with order := f.order.drop 1 } }
/-- No bulk: the flag is clear and BULK_LEN is 0. -/
def noBulk (r : Req) : Bool := !natBit r.flags 1 && r.bulkLen == 0
/-- Bulk of exactly n bytes. -/
def bulkIs (r : Req) (n : Nat) : Bool := natBit r.flags 1 && r.bulkLen == n && n ≤ 4096
/-- A window kept for a response of up to 4,096 bytes, in items (log 26). -/
def bulkFor (r : Req) (item : Nat) : Bool := natBit r.flags 1 && decide (r.bulkLen ≤ 4096) && r.bulkLen % item == 0
/-- LEN is n, without bulk. -/
def lenIs (n : Nat) (r : Req) : Bool := r.len == n && noBulk r
/-- The issuing tenant is enabled (15 R355). -/
def tenantOn (s : State) (n : Nat) : Bool := n == 0 || (tblGet {} s.foreman.tenants n).en
/-- Rights of tenant 0 alone. -/
def only0 (_ : State) (r : Req) : Bool := r.tenant == 0
/-- Rights of every tenant. -/
def anyone (_ : State) (_ : Req) : Bool := true
/-- No readiness is asked. -/
def always (_ : State) (_ : Req) : Bool := true
/-- COMPUTE is ready. -/
def computeReady (s : State) (_ : Req) : Bool := readyBit s 3
/-- Execute the request at the head where it carries this opcode: the checks of R368 in order, then the command. -/
def serve (op : Nat) (len : Req → Bool) (rights ready : State → Req → Bool) (body : Req → State → State) (s : State) : State :=
  match nextReq s with
  | none => s
  | some r =>
    if r.opcode != op || !s.sys.ctrlUp then s
    else
      let s := popReq s
      let s := { s with foreman := { s.foreman with lastOp := op } }
      let s :=
        if !len r || 240 < r.len then failWith s r 7
        else if !rights s r || (op != 0x0101 && !tenantOn s r.tenant) || (natBit r.flags 0 && !urgentOk r.tenant r.flags r.opcode) then
          failWith s r 8
        else if !ready s r then failWith s r 5
        else if r.busy then busy s r
        else body r s
      takeUrgent (flushBad s)
/-- The bulk input of a request. -/
def bulkIn (s : State) (r : Req) : List Byte := memRead 0#8 (s.port r.tenant).bulk 0 (min 4096 r.bulkLen)
/-- A command row at time t. -/
def foremanRow (t op : Nat) (len : Req → Bool) (rights ready : State → Req → Bool) (body : Req → State → State) (s : State) : State :=
  finish (serve op len rights ready body (s.at t))

/-! ### Deferred commands (16 R378, R395) -/

/-- Deferred commands of a tenant outstanding. -/
def ticketsOf (s : State) (n : Nat) : Nat := (s.foreman.tickets.filter (fun k => k.tenant == n)).length
/-- Accept a deferred command with a new ticket; its number is answered. -/
def defer (s : State) (tenant : Nat) (d : Deferred) : State × Nat :=
  let k := s.foreman.nextTicket
  ({ s with foreman := { s.foreman with nextTicket := (k + 1) % 65536,
                                        tickets := s.foreman.tickets ++ [{ tenant := tenant, ticket := k, what := d }] } }, k)
/-- A ticket ends: its event carries ticket, status, reason and mask, then its own fields. -/
def endTicket (s : State) (tenant ticket event status reason mask : Nat) (fields : List Byte) : State :=
  let left := s.foreman.tickets.filter (fun k => !(k.tenant == tenant && k.ticket == ticket))
  let s := { s with foreman := { s.foreman with tickets := left } }
  raiseEvent s tenant event (leBytes 2 ticket ++ leBytes 1 status ++ leBytes 1 reason ++ leBytes 4 mask ++ fields)

end Sys2Proof.Machine
end

