-- ==== Sys2Proof/Machine/Admit.lean ====
section
/-! DEFINITION. Admission (14 14.4, Table 14-5): the checks of streams, images and scan jobs on the device as it would
stand, and where a stream is placed (14 R343, R344). -/

namespace Sys2Proof.Machine

/-! ### Sums over what is admitted -/

/-- Valid streams but for one. -/
def otherStreams (s : State) (self : Option Nat) : List Stream :=
  (s.sched.streams.filter (fun (e : Nat × Stream) => e.2.valid && some e.1 != self)).map (fun e => e.2)
/-- Those that run ONLINE. -/
def onlineOf (l : List Stream) : List Stream := l.filter (fun x => x.den && x.cls == 0)
/-- Slots a stream's step draws from (12 R296). -/
def slotsOf (s : State) (st : Stream) : Nat := (streamKeys s st).length
/-- The STAGING check. -/
def stagingOk (s : State) (l : List Stream) : Bool :=
  let d := l.filter (fun x => decide (0 < slotsOf s x))
  match d with
  | [] => true
  | x :: xs =>
    fracLe (fracSum (d.map (fun x => (slotsOf s x * 48, max 1 (periodOf x))))) (45, 1)
      && decide (sumNat (d.map (fun x => 10 + 2 * slotsOf s x)) * 96 ≤ 100 * xs.foldl (fun a y => min a (periodOf y)) (periodOf x))
/-- P_STATIC of a variant, 0.1 W (14 Table 14-6). -/
def staticPower (variant : Nat) : Nat := [0, 60, 46, 48, 28, 16].getD variant 0
/-- The POWER check. -/
def powerOk (s : State) (l : List Stream) : Bool :=
  let e := l.map (fun x => (48 * ((kernelOf s x).map (fun k => k.e)).getD 0, max 1 (periodOf x)))
  fracLe (fracSum ((staticPower s.sys.fuses.variant * 100, 1) :: e)) (90 * s.sys.fuses.envelope, 1)
/-- The SCHEDULE check: every live tile's ONLINE load, and the chunk bound of a background stream (11 R280). -/
def scheduleOk (s : State) (self : Option Nat) (st : Stream) (tile : Nat) : Bool :=
  let s1 := match self with
    | some n => s.updStream n (fun x => { x with den := false })
    | none => s
  (st.cls == 0 || chunkOk s (tile / 16) (cycOf s st))
    && (liveTiles s).all (fun t =>
      loadOk s (t / 16) ((if t == tile && st.cls == 0 then [(cycOf s st, periodOf st)] else []) ++ tileOnline s1 t))
/-- Palette units that a tenant's images, streams, lanes and jobs hold (14 Table 14-5 Q_PALETTE). -/
def palCharged (s : State) (tenant : Nat) (self : Option Nat) : Nat :=
  sumNat (s.foreman.images.map (fun (e : Nat × Image) =>
      if e.2.tenant = tenant then
        e.2.inits.length * sumNat (e.2.kernels.map (fun k => if k.kind = 0 then k.stateUnits else 0)) else 0))
    + sumNat ((otherStreams s self).map (fun x => if x.tenant = tenant && !x.swap then areaUnits s x else 0))
    + sumNat (s.sched.lanes.map (fun (e : Nat × Lane) => if e.2.tenant = tenant then e.2.units else 0))
    + sumNat (s.sched.jobs.map (fun (e : Nat × Job) =>
      if e.2.tenant = tenant && e.2.st != .ended then
        (match imageOf s e.2.image with
        | some img => maxNat ((jobKinds e.2).map (fun kd =>
            ((scanKernel img kd e.2.form e.2.sf).bind (fun i => img.kernels[i]?)).elim 0 (fun k => chunkUnits k e.2.g)))
        | none => 0)
      else 0))
/-- State store bytes of a tenant's streams. -/
def storeCharged (s : State) (tenant : Nat) (self : Option Nat) : Nat :=
  sumNat ((otherStreams s self).map (fun x => if x.tenant = tenant && x.storePtr.isSome then areaUnits s x * 128 else 0))
/-- Dataset bytes of a tenant. -/
def datasetBytes (s : State) (tenant : Nat) : Nat := ((tblFind? s.foreman.datasets tenant).map (fun d => d.mib * 1048576)).getD 0
/-- A tenant's quotas. -/
def quotas (s : State) (tenant : Nat) : TenSet := tblGet {} s.foreman.tenants tenant
/-- Quota codes of a stream of tenants 1 to 15; `pal` is what its place adds. -/
def quotaCodes (s : State) (self : Option Nat) (st : Stream) (tile : Option Nat) (pal : Nat) (store : Bool) : List Nat :=
  if st.tenant = 0 then []
  else
    let q := quotas s st.tenant
    let mine := (otherStreams s self).filter (fun x => x.tenant == st.tenant)
    let share := fracSum (((onlineOf mine).map (fun x => onlineShare s (homeOf s x / 16) (cycOf s x) (periodOf x)))
      ++ (match tile with
        | some t => if st.cls == 0 then [onlineShare s (t / 16) (cycOf s st) (periodOf st)] else []
        | none => []))
    let live := (liveTiles s).length
    (if q.qStreams < mine.length + 1 then [0x20] else [])
      ++ (if q.qPal < palCharged s st.tenant self + pal then [0x21] else [])
      ++ (if fracLe share (live * q.qShare, 100) then [] else [0x22])
      ++ (if q.qDram * 1048576 < datasetBytes s st.tenant + storeCharged s st.tenant self
            + (if store then areaUnits s st * 128 else 0) then [0x23] else [])
      ++ (if q.qQueue < sumNat (mine.map (fun x => pow2Up x.qdepth)) + pow2Up st.qdepth then [0x24] else [])

/-! ### Swap lanes (14 R344) -/

/-- Phases of two streams are 500 microseconds apart on the grid of their periods. -/
def apartOk (a b : Stream) : Bool :=
  let g := max 1 (Nat.gcd (a.period * 48) (b.period * 48))
  let d := (a.phase * 48 % g + g - b.phase * 48 % g) % g
  decide (24000 ≤ d) && decide (24000 ≤ g - d)
/-- A stream may join a lane. -/
def mayJoin (s : State) (self : Option Nat) (st : Stream) (i : Nat) (l : Lane) : Bool :=
  l.tenant == st.tenant && !l.batch && decide (areaUnits s st ≤ l.units)
    && (s.sched.streams.filter (fun (e : Nat × Stream) =>
      e.2.valid && e.2.swap && e.2.cls == 0 && e.2.slot == some i && some e.1 != self)).all (fun e => apartOk st e.2)
/-- Channels that hold state store areas, up. -/
def storeChannels (s : State) : List Nat :=
  (List.range 2).filter (fun c => (s.sys.channels.getD c {}).up && (storeRegions s).any (fun p => p.1 == c))
/-- Lanes and slots on a channel. -/
def lanesOn (s : State) (c : Nat) : Nat := (s.sched.lanes.filter (fun (e : Nat × Lane) => e.2.ch == c)).length
/-- Lowest free lane number. -/
def newLaneNo (s : State) : Nat :=
  ((List.range (s.sched.lanes.length + 1)).find? (fun i => (tblFind? s.sched.lanes i).isNone)).getD s.sched.lanes.length

/-- Where a stream goes: tile, unit, a lane to be written, its lane, its store area. -/
structure Place where
  tile : Nat
  unit : Nat
  lane : Option (Nat × Lane) := none
  slot : Option Nat := none
  store : Option Nat := none
  deriving DecidableEq, Repr
/-- A store address on one of some channels: the stream's own, or the lowest free area; `none`: no room. -/
def storeOn (s : State) (st : Stream) (chs : List Nat) : Option (Nat × Nat) :=
  match st.storePtr with
  | some p => let c := p * 128 / 2 ^ 36; if chs.contains c then some (c, p) else none
  | none => chs.findSome? (fun c => (storeFree s c (areaUnits s st * 128)).map (fun a => (c, a / 128)))
/-- A lane of its tenant that an ONLINE SWAP stream joins; one whose tile keeps its bound first. -/
def joinLane (s : State) (self : Option Nat) (st : Stream) (img : Image) (mask : Nat) : Option Place :=
  let c := s.sched.lanes.filter (fun (e : Nat × Lane) => mayJoin s self st e.1 e.2 && s.tileLive e.2.tile
    && natBit mask (e.2.tile / 16) && (tblFind? img.bases e.2.tile).isSome && (storeOn s st [e.2.ch]).isSome)
  let best := ((c.find? (fun e => st.slot == some e.1)).or (c.find? (fun e => scheduleOk s self st e.2.tile))).or c.head?
  best.bind (fun e => (storeOn s st [e.2.ch]).map (fun p =>
    { tile := e.2.tile, unit := e.2.unit, slot := some e.1, store := some p.2 : Place }))
/-- A new lane on the tile that R343 chooses. -/
def openLane (s : State) (st : Stream) (kt : Nat) (img : Image) (mask : Nat) : Option Place :=
  let u := areaUnits s st
  match chooseTile s img kt mask u true (if st.cls = 0 then some (cycOf s st, periodOf st) else none) (fun _ => false),
      storeOn s st ((storeChannels s).filter (fun c => decide (lanesOn s c < 8))) with
  | some (t, a), some (c, p) =>
    let i := newLaneNo s
    some { tile := t, unit := a, lane := some (i, { tenant := st.tenant, tile := t, unit := a, units := u, batch := st.cls != 0, ch := c })
           slot := some i, store := some p }
  | _, _ => none
/-- The slot of a background SWAP stream on a bench: its tenant's where it is large enough, else that slot made anew. -/
def batchSlot (s : State) (st : Stream) (kt : Nat) (img : Image) (mask : Nat) : Option Place :=
  let u := areaUnits s st
  let mine := s.sched.lanes.filter (fun (e : Nat × Lane) => e.2.batch && e.2.tenant == st.tenant && natBit mask (e.2.tile / 16)
    && s.tileLive e.2.tile && (tblFind? img.bases e.2.tile).isSome)
  let ready := mine.find? (fun e => decide (u ≤ e.2.units) && (storeOn s st [e.2.ch]).isSome)
  match ready with
  | some e => (storeOn s st [e.2.ch]).map (fun p => { tile := e.2.tile, unit := e.2.unit, slot := some e.1, store := some p.2 : Place })
  | none =>
    match mine.head? with
    | none => openLane s st kt img mask
    | some e =>
      let b := 2 ^ (e.2.tile / 16)
      match chooseTile s img kt b u true none (fun _ => false), storeOn s st [e.2.ch] with
      | some (t, a), some (_, p) =>
        some { tile := t, unit := a, lane := some (e.1, { e.2 with tile := t, unit := a, units := max u e.2.units, user := none })
               slot := some e.1, store := some p }
      | _, _ => none
/-- Palette units that a place adds to its tenant's account. -/
def placeAdds (s : State) (st : Stream) (p : Place) : Nat :=
  if !st.swap then areaUnits s st
  else match p.lane with
    | some (i, l) => l.units - ((tblFind? s.sched.lanes i).map (fun o => o.units)).getD 0
    | none => 0

/-! ### The decision -/

/-- The place of a stream, or the codes of the checks of place that fail; `keep`: the area it has stays. -/
def placeStream (s : State) (self : Option Nat) (st : Stream) (mask : Nat) (wantStore keep : Bool) : Except (List Nat) Place :=
  match imageOf s st.image with
  | none => .error [0x19]
  | some img =>
    let live := (liveTiles s).any (fun t => natBit mask (t / 16) && (tblFind? img.bases t).isSome)
    if !live then .error [0x19]
    else if (st.swap || wantStore) && st.storePtr.isNone && !s.sys.stateStoreReady then .error [0x2C]
    else if st.swap then
      (match if st.cls = 0 then (joinLane s self st img mask).or (openLane s st st.kt img mask) else batchSlot s st st.kt img mask with
      | some p => .ok p
      | none => .error [0x17])
    else
      let store := if wantStore || st.storePtr.isSome then (storeOn s st (storeChannels s)).map (fun p => p.2) else none
      if wantStore && store.isNone then .error [0x2C]
      else if keep && s.tileLive st.tile && scheduleOk s self st st.tile then
        .ok { tile := st.tile, unit := st.unit, store := store.or st.storePtr }
      else
        match chooseTile s img st.kt mask (areaUnits s st) true (if st.cls = 0 then some (cycOf s st, periodOf st) else none)
            (fun t => keep && t == st.tile) with
        | some (t, u) => .ok { tile := t, unit := u, store := store.or st.storePtr }
        | none =>
          if keep && s.tileLive st.tile then .ok { tile := st.tile, unit := st.unit, store := store.or st.storePtr } else .error [0x13]
/-- The tile that R343 would choose were there room, for the checks that do not ask for room. -/
def wouldTake (s : State) (st : Stream) (mask : Nat) : Option Nat :=
  (imageOf s st.image).bind (fun img =>
    (chooseTile s img st.kt mask 0 false (if st.cls = 0 then some (cycOf s st, periodOf st) else none) (fun _ => false)).map (fun p => p.1))
/-- Admission of a stream as it would stand: its place and queue block, or every failing code. -/
def admitStream (s : State) (self : Option Nat) (st : Stream) (mask : Nat) (wantStore keep : Bool) : Except (List Nat) (Place × Nat) :=
  let pl := placeStream s self st mask wantStore keep
  let tile := match pl with
    | .ok p => some p.tile
    | .error _ => wouldTake s st mask
  let block := pow2Up st.qdepth
  let q := if self.isSome then some st.qbase else firstFree (queueUsed s) block block 0 131072
  let after := onlineOf (otherStreams s self) ++ (if st.cls = 0 then [st] else [])
  let codes := (match pl with
      | .ok _ => []
      | .error c => c)
    ++ (if q.isNone then [0x14] else [])
    ++ (match tile with
      | some t => if scheduleOk s self st t then [] else [0x15]
      | none => [])
    ++ (if stagingOk s after then [] else [0x16])
    ++ (if powerOk s after then [] else [0x18])
    ++ quotaCodes s self st tile (match pl with
        | .ok p => placeAdds s st p
        | .error _ => areaUnits s st) (st.storePtr.isSome || st.swap || wantStore)
  match pl, q with
  | .ok p, some b => if codes.isEmpty then .ok (p, b) else .error codes
  | _, _ => .error codes
/-- A place is taken: lane written, bank mask widened. -/
def takePlace (s : State) (st : Stream) (p : Place) : State :=
  let s := match p.lane with
    | some (i, l) => { s with sched := { s.sched with lanes := tblSet i l s.sched.lanes } }
    | none => s
  widenMask s p.tile st.kt p.unit (areaUnits s st)
/-- The lowest free stream number (16 R384). -/
def freeStream (s : State) : Option Nat :=
  ((List.range (s.sched.streams.length + 1)).find? (fun n => !(s.stream n).valid)).filter (fun n => decide (n < 16384))

end Sys2Proof.Machine
end

