-- ==== Sys2Proof/Machine/StreamCmds.lean ====
section
/-! DEFINITION. The stream commands (16 16.5, 11 11.2). -/

namespace Sys2Proof.Machine

/-- The stream that a request's first two bytes name. -/
def streamNo (r : Req) : Nat := leAt r.payload 0 2
/-- The stream named exists. -/
def streamThere (s : State) (r : Req) : Bool := (s.stream (streamNo r)).valid
/-- Rights on a stream: its owner's (01 R21). -/
def ownStream (s : State) (r : Req) : Bool := !streamThere s r || (s.stream (streamNo r)).tenant == r.tenant
/-- Rights on a stream: its owner's, and tenant 0's. -/
def ownStream0 (s : State) (r : Req) : Bool := r.tenant == 0 || ownStream s r
/-- A command on a stream that exists. -/
def onStream (f : Req → Nat → State → State) (r : Req) (s : State) : State :=
  if streamThere s r then f r (streamNo r) s else noObject s r

/-! ### STREAM_START (16 R384, R385, Table 16-7) -/

/-- The FLAGS of a start. -/
def startFlag (r : Req) (i : Nat) : Bool := natBit (byteAt r.payload 2) i
/-- Rights of a start: FEED and OUT code 0 are tenant 0's; the image is the tenant's own. -/
def startRights (s : State) (r : Req) : Bool :=
  (r.tenant == 0 || (!startFlag r 0 && leAt r.payload 8 4 / 2 ^ 30 != 0))
    && (match imageOf s (leAt r.payload 4 2) with
      | some i => i.tenant == r.tenant
      | none => true)
/-- Period of a FEED stream in time base counts (11 R276). -/
def feedPeriod (s : State) (cell decim : Nat) : Nat := decim * sweepPeriod (s.pair (cell / 576))
/-- The payload brought into range, with its entries. -/
def clampStart (s : State) (r : Req) : List Byte × List ClampEntry :=
  let feed := startFlag r 0
  let cls := if 2 < byteAt r.payload 0 then 0 else byteAt r.payload 0
  let rules : List FieldRule := [⟨0, 1, .enum 2 0⟩, ⟨1, 1, .near 1 8⟩, ⟨6, 1, .near 2 64⟩]
    ++ (if feed then [⟨7, 1, .near 1 255⟩] else []) ++ (if !feed && cls = 0 then [⟨12, 4, .near 100 60000000⟩] else [])
  let a := applyRules rules r.payload
  let min_ := (((imageOf s (leAt r.payload 4 2)).bind (fun i => i.kernels[byteAt r.payload 3]?)).elim 2 (fun k => k.qMin))
  let a := depend 6 1 (max (leAt a.1 6 1) (max min_ (if feed then 16 else 2))) 6 a
  let out := leAt a.1 8 4
  let a := if feed then depend 8 4 (leAt a.1 28 2) 6 a
    else if out / 2 ^ 30 = 3 then depend 8 4 (out % 2 ^ 30 + 2 ^ 31) 3 a else a
  let ph := leAt a.1 16 4
  let a := if feed then depend 16 4 (clampNat 3100 (roundUs (feedPeriod s (leAt a.1 28 2) (leAt a.1 7 1)) - 100) ph) 4 a
    else if cls = 0 then depend 16 4 (min ph (leAt a.1 12 4 - 1)) 4 a else a
  if 3 < leAt a.1 30 1 then depend 30 1 0xFF 3 a else a
/-- SWAP is allowed (11 R282). -/
def swapOk (cls period : Nat) (feed : Bool) : Bool := !feed && (cls != 0 || decide (10000 ≤ period))
/-- The stream that a start asks for. -/
def startStream (s : State) (r : Req) (b : List Byte) (img : Image) (k : Kernel) : Stream :=
  let feed := startFlag r 0
  let cls := leAt b 0 1
  let per := if feed then feedPeriod s (leAt b 28 2) (leAt b 7 1) else 0
  { valid := true, den := true, reset := true, cls := cls, feed := feed, swap := startFlag r 1, noin := startFlag r 2
    tenant := r.tenant, k := leAt b 1 1, kt := img.kts.getD (leAt b 3 1) 0, image := leAt b 4 2, paramUnits := k.paramUnits
    decim := if feed then leAt b 7 1 else 1, out := leAt b 8 4
    period := if feed then roundUs per else if cls = 0 then leAt b 12 4 else 0
    phase := if feed || cls = 0 then leAt b 16 4 else 0, qdepth := leAt b 6 1, seed := leAt b 20 8, kernel := leAt b 3 1
    admAt := s.now, ckptAt := s.now, fd := { per := per } }
/-- A stream's class, K, layout, SWAP and draw set are served (14 R342, 12 R296). -/
def capable (s : State) (k : Kernel) (st : Stream) : Bool :=
  natBit k.classes st.cls && decide (st.k ≤ k.kMax) && (!st.feed || (st.cls == 0 && k.outLayout == 1))
    && (!st.swap || swapOk st.cls st.period st.feed) && decide (slotsOf s st ≤ 32)
/-- A cell is fed by a stream. -/
def cellFed (s : State) (c : Nat) : Bool :=
  s.sched.streams.any (fun (e : Nat × Stream) => e.2.valid && e.2.feed && e.2.out % 4096 == c)
/-- The state in which a new stream is admitted: as it is, or with the migration under way of one ONLINE non-SWAP stream that makes
room for it in the schedule (11 R281; log 174). -/
def roomFor (s : State) (st : Stream) (mask : Nat) (wantStore : Bool) : State :=
  match admitStream s none st mask wantStore false with
  | .ok _ => s
  | .error _ =>
    (s.sched.streams.findSome? (fun (e : Nat × Stream) =>
      if e.2.valid && e.2.den && e.2.cls == 0 && !e.2.swap && e.2.xfer.isNone && s.tileLive e.2.tile then
        (newHome s e.2).bind (fun p =>
          let s' := startCopy s e.1 (.migrate p.1 p.2)
          match admitStream s' none st mask wantStore false with
          | .ok _ => some s'
          | .error _ => none)
      else none)).getD s
/-- STREAM_START. A kernel flagged NOIN, or one that declares WAITIN entries, is served as a FEED stream too; the feeder writes its one
entry per kept sweep, and what the kernel takes is what it is built to take (01 R15; log 180). -/
def streamStartDo (r : Req) (s : State) : State :=
  let (b, es) := clampStart s r
  match imageOf s (leAt b 4 2) with
  | none => noObject s r
  | some img =>
    match img.kernels[leAt b 3 1]?, freeStream s with
    | some k, some n =>
      let st := startStream s r b img k
      let cell := leAt b 28 2
      if k.kind != 0 || (st.feed && !cellOn s cell) then noObject s r
      else if !capable s k st then refuse s r [0x0B]
      else if st.feed && cellFed s cell then refuse s r [0x2B]
      else
        let mask := if leAt b 30 1 < 4 then 2 ^ leAt b 30 1 else 15
        let store := startFlag r 3 || st.swap
        let s' := roomFor s st mask store
        match admitStream s' none st mask store false with
        | .error c => refuse s r c
        | .ok (p, q) =>
          let s := takePlace s' st p
          let st := { st with tile := p.tile, unit := p.unit, slot := p.slot, storePtr := p.store, qbase := q, res := !st.swap }
          let s := setDue (s.updStream n (fun _ => st)) n (tb s + 12000)
          answer s r (leBytes 2 n ++ leBytes 1 (if st.swap then 0xFF else p.tile) ++ zeros 1) es
    | some _, none => refuse s r [0x2C]
    | none, _ => noObject s r

/-! ### Pause, resume, reset, end -/

/-- DEN is cleared for the host (11 R266, R290). -/
def hostPause (s : State) (n : Nat) : State :=
  let s := if (s.stream n).feed then cutRun s n true else s
  s.updStream n (fun x => { x with den := false, pauseReason := 1, queue := if x.feed then [] else x.queue
                                   xfer := x.xfer.map (fun y => { y with cancelled := y.kind == .bringIn }) })
/-- STREAM_PAUSE. -/
def streamPauseDo (r : Req) (n : Nat) (s : State) : State := answer (hostPause s n) r []
/-- DEN is set again: R50 (02) and R266 (11). A step still in flight does not move the new due time. -/
def resumeStream (s : State) (n : Nat) : State :=
  let s := cutRun (setBehind s n false) n false
  let s := s.updStream n (fun x => { x with den := true, pauseReason := 0, lagUs := 0, eligOfs := 0, admAt := s.now })
  setDue s n (tb s)
/-- The store of a SWAP stream is in reach. -/
def storeUp (s : State) (st : Stream) : Bool :=
  match st.storePtr with
  | some p => dramUsable s (p * 128) (areaUnits s st * 128)
  | none => !st.swap
/-- A place other than its own: where the tile is live the area migrates, where it is lost the state comes from the store. -/
def moveTo (s : State) (n : Nat) (p : Place) : State :=
  let st := s.stream n
  if st.swap then
    (takePlace s st p).updStream n (fun x => { x with slot := p.slot, tile := if x.res then x.tile else p.tile
                                                      unit := if x.res then x.unit else p.unit })
  else if p.tile == st.tile then s
  else if s.tileLive st.tile then startCopy s n (.migrate p.tile p.unit) else rehome s n (p.tile, p.unit)
/-- STREAM_RESUME: an admission; refused while the cause of a pause stands (11 Edges of 11.2). -/
def streamResumeDo (r : Req) (n : Nat) (s : State) : State :=
  let st := s.stream n
  if st.ending then refuse s r [0x2C]
  else if st.den then answer s r []
  else if st.swap && !storeUp s st then refuse s r [0x2C]
  else
    let mask := ((imageOf s st.image).map (fun i => i.mask)).getD 0
    match admitStream s (some n) st mask false true with
    | .error c => refuse s r c
    | .ok (p, _) => answer (resumeStream (moveTo s n p) n) r []
/-- STREAM_RESET (11 R267). -/
def streamResetDo (r : Req) (n : Nat) (s : State) : State := answer (setReset s n) r []
/-- STREAM_END (11 R268, R269). -/
def streamEndDo (r : Req) (n : Nat) (s : State) : State :=
  let s := s.updStream n (fun x => { x with den := false, ending := true })
  answer (if inFlight s n then s else releaseStream s n) r []

/-! ### Settings, status, input, parameters -/

/-- The payload of STREAM_SET brought into range for a stream. -/
def clampSet (r : Req) (st : Stream) : List Byte × List ClampEntry :=
  let cls := if 2 < byteAt r.payload 2 then 0 else byteAt r.payload 2
  let a := applyRules ([⟨2, 1, .enum 2 0⟩, ⟨3, 1, .near 1 8⟩]
    ++ (if !st.feed && cls = 0 then [⟨8, 4, .near 100 60000000⟩] else [])) r.payload
  let ph := leAt a.1 12 4
  let a := if st.feed then depend 12 4 (clampNat 3100 (st.period - 100) ph) 4 a
    else if cls = 0 then depend 12 4 (min ph (leAt a.1 8 4 - 1)) 4 a else a
  if st.feed then (putLe a.1 8 4 st.period, a.2)
  else if cls != 0 then (putLe (putLe a.1 8 4 0) 12 4 0, a.2) else a
/-- STREAM_SET (16 R386): an admission; it takes effect between two steps. -/
def streamSetDo (r : Req) (n : Nat) (s : State) : State :=
  let st := s.stream n
  let (b, es) := clampSet r st
  let cand := { st with cls := leAt b 2 1, k := leAt b 3 1, swap := natBit (leAt b 4 1) 1, period := leAt b 8 4, phase := leAt b 12 4 }
  match kernelOf s st, imageOf s st.image with
  | some k, some img =>
    if st.ending then refuse s r [0x2C]
    else if !capable s k cand then refuse s r [0x0B]
    else
      match admitStream s (some n) cand img.mask (cand.swap || st.storePtr.isSome) (!cand.swap && !st.swap) with
      | .error c => refuse s r c
      | .ok (p, _) =>
        let s := if cand.swap then (takePlace s cand p).updStream n (fun x => { x with slot := p.slot, storePtr := p.store })
          else if st.swap then
            (takePlace s cand p).updStream n (fun x => { x with between := { x.between with home := some (p.tile, p.unit) } })
          else if p.tile == st.tile || st.xfer.isSome then s else moveTo s n p
        let set := some (cand.cls, cand.k, cand.swap, cand.period, cand.phase)
        let s := s.updStream n (fun x => { x with between := { x.between with set := set } })
        answer (settleStream s n) r (sliceAt b 0 4 ++ leBytes 1 (leAt b 4 1 % 4 / 2 * 2) ++ zeros 3 ++ b.drop 8) es
  | _, _ => refuse s r [0x19]
/-- STREAM_STATUS. -/
def streamStatusDo (r : Req) (n : Nat) (s : State) : State := answer s r (streamBytes (s.stream n))
/-- Entries as lanes. -/
def entriesOf (b : List Byte) (c : Nat) : List (List Nat) :=
  (List.range c).map (fun i => (List.range 16).map (fun l => leAt b (i * 32 + l * 2) 2))
/-- Size of an input command. -/
def inputLen (r : Req) : Bool :=
  let c := leAt r.payload 2 2
  (decide (1 ≤ c) && decide (c ≤ 7) && lenIs (4 + 32 * c) r)
    || (r.len == 4 && decide (1 ≤ c) && decide (c ≤ 128) && bulkIs r (32 * c))
/-- Rights of an input: the owner's, and never for a FEED stream (11 R272). -/
def inputRights (s : State) (r : Req) : Bool := ownStream s r && !(streamThere s r && (s.stream (streamNo r)).feed)
/-- STREAM_INPUT. -/
def streamInputDo (r : Req) (n : Nat) (s : State) : State :=
  let c := leAt r.payload 2 2
  let st := s.stream n
  let b := if r.len = 4 then bulkIn s r else r.payload.drop 4
  if st.qdepth < st.queue.length + c then busy s r
  else answer (s.updStream n (fun x => { x with queue := x.queue ++ entriesOf b c })) r []
/-- STREAM_PARAM. -/
def streamParamDo (r : Req) (n : Nat) (s : State) : State :=
  let first := byteAt r.payload 2
  let u := byteAt r.payload 3
  if (s.stream n).paramUnits < first + u then noObject s r
  else
    let b := bulkIn s r
    let s := s.updStream n (fun x => { x with between := { x.between with param := x.between.param ++ [(first, b)] } })
    answer (settleStream s n) r []
/-- CLEAR_FLAGS. -/
def clearFlagsDo (r : Req) (n : Nat) (s : State) : State :=
  let m := byteAt r.payload 2
  answer (s.updStream n (fun x => { x with
    sat := x.sat && !natBit m 0, nan := x.nan && !natBit m 1, overflow := x.overflow && !natBit m 2
    lateCnt := if natBit m 3 then 0 else x.lateCnt })) r []
/-- SET_OUT_RING (16 R387). -/
def setOutRingDo (r : Req) (s : State) : State :=
  let n := byteAt r.payload 0
  let ofs := leAt r.payload 4 8
  let ents := leAt r.payload 12 4
  match tblFind? s.foreman.datasets r.tenant with
  | none => refuse s r [0x1B]
  | some d =>
    if ofs % 128 != 0 || ents < 2 || 65536 < ents || d.mib * 1048576 < ofs + 128 + 32 * ents then refuse s r [0x1B]
    else if s.sched.streams.any (fun (e : Nat × Stream) => e.2.valid && e.2.tenant == r.tenant && e.2.out / 2 ^ 30 == 1
        && e.2.out % 256 == n) then busy s r
    else
      let rings := tblSet (r.tenant * 256 + n) ({ ofs := ofs, entries := ents } : Ring) s.foreman.rings
      let s := dramWrite { s with foreman := { s.foreman with rings := rings } } (d.base + ofs) (zeros 128)
      answer s r []

/-! ### The rows -/

/-- STREAM_START. -/
def execStreamStart (t : Nat) (s : State) : Host.Outcome State Fault Refusal :=
  .next (foremanRow t 0x0401 (lenIs 32) startRights computeReady streamStartDo s)
/-- STREAM_PAUSE. -/
def execStreamPause (t : Nat) (s : State) : Host.Outcome State Fault Refusal :=
  .next (foremanRow t 0x0402 (lenIs 2) ownStream0 computeReady (onStream streamPauseDo) s)
/-- STREAM_RESUME. -/
def execStreamResume (t : Nat) (s : State) : Host.Outcome State Fault Refusal :=
  .next (foremanRow t 0x0403 (lenIs 2) ownStream0 computeReady (onStream streamResumeDo) s)
/-- STREAM_RESET. -/
def execStreamReset (t : Nat) (s : State) : Host.Outcome State Fault Refusal :=
  .next (foremanRow t 0x0404 (lenIs 2) ownStream computeReady (onStream streamResetDo) s)
/-- STREAM_END. -/
def execStreamEnd (t : Nat) (s : State) : Host.Outcome State Fault Refusal :=
  .next (foremanRow t 0x0405 (lenIs 2) ownStream computeReady (onStream streamEndDo) s)
/-- STREAM_SET. -/
def execStreamSet (t : Nat) (s : State) : Host.Outcome State Fault Refusal :=
  .next (foremanRow t 0x0406 (lenIs 16) ownStream computeReady (onStream streamSetDo) s)
/-- STREAM_STATUS. -/
def execStreamStatus (t : Nat) (s : State) : Host.Outcome State Fault Refusal :=
  .next (foremanRow t 0x0407 (lenIs 2) ownStream0 computeReady (onStream streamStatusDo) s)
/-- STREAM_INPUT. -/
def execStreamInput (t : Nat) (s : State) : Host.Outcome State Fault Refusal :=
  .next (foremanRow t 0x0410 inputLen inputRights computeReady (onStream streamInputDo) s)
/-- STREAM_PARAM. -/
def execStreamParam (t : Nat) (s : State) : Host.Outcome State Fault Refusal :=
  .next (foremanRow t 0x0411 (fun r => r.len == 4 && bulkIs r (128 * byteAt r.payload 3)) ownStream computeReady
    (onStream streamParamDo) s)
/-- CLEAR_FLAGS. -/
def execClearFlags (t : Nat) (s : State) : Host.Outcome State Fault Refusal :=
  .next (foremanRow t 0x0412 (lenIs 3) ownStream computeReady (onStream clearFlagsDo) s)
/-- SET_OUT_RING. -/
def execSetOutRing (t : Nat) (s : State) : Host.Outcome State Fault Refusal :=
  .next (foremanRow t 0x0420 (lenIs 16) anyone computeReady setOutRingDo s)

end Sys2Proof.Machine
end

