-- ==== Sys2Proof/Machine/Images.lean ====
section
/-! DEFINITION. Sketch images: the container, its structural and claim checks, placement and removal (14 14.1 to 14.3). -/

namespace Sys2Proof.Machine

/-! ### The container (14 R331, R332) -/

/-- A used entry of the section table: type, offset, length. -/
abbrev Sect := Nat × Nat × Nat
/-- Used entries of the section table. -/
def sectsOf (b : List Byte) : List Sect :=
  (List.range 8).filterMap (fun i =>
    let o := 32 + 12 * i
    if byteAt b o = 0 then none else some (byteAt b o, leAt b (o + 4) 4, leAt b (o + 8) 4))
/-- Section of a type: offset and length, both 0 where there is none. -/
def sectOf (b : List Byte) (ty : Nat) : Nat × Nat := (((sectsOf b).find? (fun x => x.1 == ty)).map (fun x => x.2)).getD (0, 0)
/-- Bytes of a section. -/
def sectBytes (b : List Byte) (ty : Nat) : List Byte := let x := sectOf b ty; sliceAt b x.1 x.2
/-- Length of a section is one that Table 14-2 allows. -/
def sectLenOk (kernels : Nat) (x : Sect) : Bool :=
  match x.1 with
  | 1 => decide (0 < x.2.2) && x.2.2 % 64 == 0 && decide (x.2.2 ≤ 65536)
  | 2 => x.2.2 % 4 == 0
  | 3 => x.2.2 % 128 == 0 && decide (x.2.2 ≤ 4194304)
  | 4 => x.2.2 % 128 == 0
  | 5 => x.2.2 == kernels * 128
  | 6 => x.2.2 == 32
  | _ => x.1 == 7
/-- Two sections do not overlap. -/
def sectsApart (x y : Sect) : Bool := decide (x.2.1 + x.2.2 ≤ y.2.1) || decide (y.2.1 + y.2.2 ≤ x.2.1) || x.2.2 == 0 || y.2.2 == 0
/-- Every two elements of a list pass a test. -/
def allPairs {α : Type} (p : α → α → Bool) : List α → Bool
  | [] => true
  | x :: xs => xs.all (p x) && allPairs p xs
/-- Header and section table keep R331 and R332. -/
def headerOk (b : List Byte) : Bool :=
  let n := leAt b 8 4
  let k := byteAt b 17
  let ss := sectsOf b
  leAt b 0 4 == 0x4B534C56 && leAt b 4 2 == 1 && n == b.length && decide (512 ≤ n) && decide (n ≤ 8388608) && n % 64 == 0
    && leAt b 12 4 != 0 && decide (byteAt b 16 ≤ 7) && decide (1 ≤ k) && decide (k ≤ 8)
    && ss.all (fun x => x.2.1 % 128 == 0 && decide (128 ≤ x.2.1) && decide (x.2.1 + x.2.2 ≤ n - 64) && sectLenOk k x)
    && allPairs (fun x y => x.1 != y.1 && sectsApart x y) ss && [1, 5, 6].all (fun t => ss.any (fun x => x.1 == t))

/-! ### Kernels (14 Table 14-3, 12 Table 12-3) -/

/-- A draw set entry. -/
def drawOf (b : List Byte) : DrawSet :=
  { site := byteAt b 0, blk0 := byteAt b 1, nblk := byteAt b 2 % 64, perSample := natBit (byteAt b 2) 7 }
/-- A descriptor. -/
def kernelOfBytes (b : List Byte) : Kernel :=
  { kind := byteAt b 0, form := byteAt b 1 % 4, sf := byteAt b 1 / 4 % 2, classes := byteAt b 2 % 8, kMax := byteAt b 3
    entry := leAt b 4 2, len := leAt b 6 2, cyc := leAt b 8 4, cycPer := leAt b 12 4, stateUnits := byteAt b 16
    paramUnits := byteAt b 17, qMin := byteAt b 18, waitinMax := byteAt b 19, initOfs := leAt b 20 4, e := leAt b 24 4
    ePer := leAt b 28 4, palBase := leAt b 32 2, palPer := leAt b 34 2, gang := byteAt b 36, outLayout := byteAt b 38
    draws := (List.range (min 16 (byteAt b 37))).map (fun i => drawOf (sliceAt b (64 + 4 * i) 4)) }
/-- Kernels of an image. -/
def kernelsOf (b : List Byte) : List Kernel :=
  let k := sectBytes b 5
  (List.range (byteAt b 17)).map (fun i => kernelOfBytes (sliceAt k (128 * i) 128))
/-- A draw set keeps R296 (12). -/
def drawsOk (ds : List DrawSet) : Bool :=
  ds.all (fun d => decide (1 ≤ d.nblk) && decide (d.nblk ≤ 32) && decide (d.blk0 + d.nblk ≤ 256))
    && allPairs (fun x y => x.site != y.site || decide (x.blk0 + x.nblk ≤ y.blk0) || decide (y.blk0 + y.nblk ≤ x.blk0)) ds
/-- A descriptor's fields are in range, its bundles and its initial state block exist (14 R337). -/
def kernelOk (b : List Byte) (i : Nat) (k : Kernel) : Bool :=
  let d := sliceAt (sectBytes b 5) (128 * i) 128
  decide (k.kind ≤ 4) && decide (1 ≤ k.kMax) && decide (k.kMax ≤ 8) && decide (1 ≤ k.len) && decide (k.len ≤ 1024)
    && decide (k.entry + k.len ≤ (sectOf b 1).2 / 64) && decide (1 ≤ k.stateUnits) && decide (k.stateUnits ≤ 128)
    && decide (k.paramUnits ≤ 16) && decide (2 ≤ k.qMin) && decide (k.qMin ≤ 64) && decide (k.waitinMax < k.qMin)
    && decide (byteAt d 37 ≤ 16) && decide (k.outLayout ≤ 1) && drawsOk k.draws
    && (if k.kind = 0 then byteAt d 1 == 0 && k.cycPer == 0 && k.initOfs % 128 == 0
          && decide (k.initOfs + k.stateUnits * 128 ≤ (sectOf b 4).2) else true)
    && (k.gang == 0 || (k.kind == 1 && [2, 4, 8, 16].contains k.gang))
/-- Every FORM and SF pair of the scan kernels has the four scan kinds. -/
def scanKindsOk (ks : List Kernel) : Bool :=
  ks.all (fun k => k.kind == 0 || [1, 2, 3, 4].all (fun d => ks.any (fun x => x.kind == d && x.form == k.form && x.sf == k.sf)))
/-- Relocation entries. -/
def relocsOf (b : List Byte) : List Nat :=
  let r := sectBytes b 2
  (List.range (r.length / 4)).map (fun i => leAt r (4 * i) 2)
/-- A relocation entry names a bundle whose L slot holds LDW or LDPW with its WADR inside the weight region. -/
def relocOk (b : List Byte) (i : Nat) : Bool :=
  let w := leAt (sectBytes b 1) (64 * i + 40) 8
  decide (i < (sectOf b 1).2 / 64) && (field w 56 8 == 3 || field w 56 8 == 4) && decide (w % 32768 < (sectOf b 3).2 / 128)
/-- The structure of an image (14 R337). -/
def imageOk (b : List Byte) : Bool :=
  headerOk b
    && (let ks := kernelsOf b
        (List.range ks.length).all (fun i => match ks[i]? with
          | some k => kernelOk b i k
          | none => true)
        && scanKindsOk ks && (relocsOf b).all (relocOk b))
/-- The claim equals what is derived (14 R336, Table 14-4). -/
def claimOk (b : List Byte) : Bool :=
  let c := sectBytes b 6
  let ks := kernelsOf b
  let st := ks.filter (fun k => k.kind == 0)
  leAt c 0 4 == (sectOf b 1).2 / 64 && leAt c 4 4 == (sectOf b 3).2
    && decide (maxNat (st.map (fun k => (2 * k.stateUnits + k.paramUnits) * 128)) ≤ leAt c 8 4)
    && leAt c 12 4 == maxNat (st.map (fun k => k.cyc)) && leAt c 16 2 == sumNat (ks.map (fun k => k.draws.length))
    && byteAt c 18 == maxNat (ks.map (fun k => k.qMin)) && leAt c 20 4 == maxNat (st.map (fun k => k.e))

/-! ### Placement (14 R338, R339) -/

/-- Units of the initial state blocks that a kernel list puts on each tile. -/
def initUnits (ks : List Kernel) : Nat := sumNat (ks.map (fun k => if k.kind = 0 then k.stateUnits else 0))
/-- Places of the initial state blocks on a tile: the lowest free run, within one bank where there is one. -/
def initPlaces (s : State) (tile : Nat) (ks : List Kernel) : Option (List Nat) :=
  let one := fun (used : List (Nat × Nat)) (n : Nat) =>
    match (List.range 16).findSome? (fun b => firstFree used 1 n (b * 256) ((b + 1) * 256)) with
    | some a => some a
    | none => firstFree used 1 n 0 4096
  let go := ks.foldl (fun (a : Option (List (Nat × Nat) × List Nat)) k =>
    a.bind (fun p => if k.kind != 0 then some (p.1, p.2 ++ [0])
      else (one p.1 k.stateUnits).map (fun u => ((u, k.stateUnits) :: p.1, p.2 ++ [u])))) (some (palUsed s tile, []))
  go.map (fun p => p.2)
/-- Bundles relocated for a bench: the weight region's base in units goes into every WADR marked (09 R224). -/
def relocated (img : Image) (wbase : Nat) : List Byte :=
  img.reloc.foldl (fun b i =>
    let o := 64 * i + 40
    let w := leAt b o 8
    putLe b o 8 (w - w % 32768 + (w + wbase / 128) % 32768)) img.bundles
/-- Foreman writes an image's bundles, initial state blocks and, last, its kernel table entries on a tile (08 R198). -/
def loadTile (s : State) (img : Image) (tile : Nat) : State :=
  let base := tblGet 0 img.bases tile
  let ini := tblGet [] img.inits tile
  let code := relocated img (tblGet 0 img.wbase (tile / 16))
  let s := s.updTile tile (fun x => { x with kstore := memWrite 0#8 x.kstore (base * 64) code })
  (List.range img.kernels.length).foldl (fun s i =>
    match img.kernels[i]? with
    | none => s
    | some k =>
      let u := ini.getD i 0
      let s := if k.kind = 0 then palWrite s tile u (sliceAt img.state k.initOfs (k.stateUnits * 128)) else s
      let e : KEntry :=
        { valid := true, entry := base + k.entry, len := k.len, cycMax := k.cyc, initBase := u, stateUnits := k.stateUnits
          bankMask := if k.kind = 0 then bankBits u k.stateUnits else 0 }
      s.updTile tile (fun x => { x with ktab := tblSet (img.kts.getD i 0) e x.ktab })) s
/-- Foreman writes an image's weights on a bench. -/
def loadWeights (s : State) (img : Image) (b : Nat) : State :=
  { s with sched := { s.sched with
      wstore := modAt s.sched.wstore b (fun m => memWrite 0#8 m (tblGet 0 img.wbase b) img.weights) } }
/-- An image is written on every tile and bench it has a place on. -/
def loadImage (s : State) (img : Image) : State :=
  let s := img.wbase.foldl (fun s (e : Nat × Nat) => loadWeights s img e.1) s
  img.bases.foldl (fun s (e : Nat × Nat) => loadTile s img e.1) s
/-- Free kernel table indexes on every tile of a list. -/
def freeIndexes (s : State) (tiles : List Nat) : List Nat :=
  (List.range 32).filter (fun i => tiles.all (fun t => !(tblGet {} (s.tile t).ktab i).valid))
/-- Live tiles of the benches of a mask. -/
def tilesOf (s : State) (mask : Nat) : List Nat := (liveTiles s).filter (fun t => natBit mask (t / 16))
/-- Benches of a mask. -/
def benchesOf (mask : Nat) : List Nat := (List.range 4).filter (fun b => natBit mask b)
/-- An image with its places for a mask, or every failing code of Table 14-5. -/
def admitImage (s : State) (img : Image) : Except (List Nat) Image :=
  let bs := benchesOf img.mask
  if bs.isEmpty || !bs.all (fun b => s.benchLive b) then .error [0x19]
  else
    let ts := tilesOf s img.mask
    let runs := ts.map (fun t => (t, firstFree (kstoreUsed s t) 1 (img.bundles.length / 64) 0 1024))
    let ks := freeIndexes s ts
    let ws := bs.map (fun b => (b, firstFree (wstoreUsed s b) 128 img.weights.length 0 4194304))
    let ini := ts.map (fun t => (t, initPlaces s t img.kernels))
    let codes := (if runs.all (fun p => p.2.isSome) then [] else [0x10])
      ++ (if img.kernels.length ≤ ks.length then [] else [0x11])
      ++ (if ws.all (fun p => p.2.isSome) then [] else [0x12])
      ++ (if ini.all (fun p => p.2.isSome) then [] else [0x13])
      ++ (if powerOk s (onlineOf (otherStreams s none)) then [] else [0x18])
      ++ (if img.tenant != 0
            && decide ((quotas s img.tenant).qPal < palCharged s img.tenant none + ts.length * initUnits img.kernels) then [0x21]
          else [])
    if codes.isEmpty then
      .ok { img with kts := ks.take img.kernels.length, bases := runs.map (fun p => (p.1, p.2.getD 0))
                     inits := ini.map (fun p => (p.1, p.2.getD [])), wbase := ws.map (fun p => (p.1, p.2.getD 0)) }
    else .error codes
/-- Lowest free image handle, from 1. -/
def freeHandle (s : State) : Nat :=
  ((List.range (s.foreman.images.length + 1)).map (· + 1)).find? (fun h => (imageOf s h).isNone) |>.getD 0
/-- An image is placed anew on benches that were reset: the same handle and kernel table indexes, new places where the old
ones are not free; a tile without room stays out of dispatch and is logged as PLACE_FAIL (14 Edges of 14.3, 21 R488). -/
def replaceTile (s : State) (h tile : Nat) : State :=
  match imageOf s h with
  | none => s
  | some img =>
    let b := tile / 16
    let without : Image := { img with bases := tblDel tile img.bases, inits := tblDel tile img.inits }
    let s0 := { s with foreman := { s.foreman with images := tblSet h without s.foreman.images } }
    let free := img.kts.all (fun i => !(tblGet {} (s0.tile tile).ktab i).valid)
    match firstFree (kstoreUsed s0 tile) 1 (img.bundles.length / 64) 0 1024, initPlaces s0 tile img.kernels with
    | some base, some ini =>
      if free && (tblFind? img.wbase b).isSome then
        let img : Image := { img with bases := tblSet tile base img.bases, inits := tblSet tile ini img.inits }
        loadTile { s0 with foreman := { s0.foreman with images := tblSet h img s0.foreman.images } } img tile
      else logFault (s0.updTile tile (fun x => { x with out := true })) 0x0306 1 false img.tenant 2 tile (leBytes 2 h)
    | _, _ => logFault (s0.updTile tile (fun x => { x with out := true })) 0x0306 1 false img.tenant 2 tile (leBytes 2 h)

/-! ### Loads and unloads (14 R334, R340, R341, R347) -/

/-- An image's signature verifies under a key: the last 64 of IMG_LEN bytes, over those before them (14 R333). -/
def imageSigned (key b : List Byte) : Bool := let n := leAt b 8 4 - 64; sigGood key (sliceAt b 0 n) (sliceAt b n 64)
/-- The key that an image's KEY_SLOT names; none in an empty slot (14 R333). -/
def imageKey (s : State) (b : List Byte) : Option (List Byte) :=
  let slot := byteAt b 16
  let rec_ := kaBytes s (kaKey slot) 40
  if slot = 0 then some romKey
  else if 7 < slot || byteAt rec_ 2 % 2 = 0 then none
  else some (sliceAt rec_ 4 32)
/-- The image's KEY_SLOT admits a tenant (14 R333). -/
def keyAdmits (s : State) (tenant : Nat) (b : List Byte) : Bool := byteAt b 16 == 0 || natBit (leAt (kaBytes s (kaKey (byteAt b 16)) 2) 0 2) tenant
/-- Authentication: the code of Table 14-8 that fails (14 R333, R334). -/
def authCode (s : State) (tenant : Nat) (b : List Byte) : Option Nat := match imageKey s b with
  | none => some 2
  | some key => if !imageSigned key b then some 1 else if keyAdmits s tenant b then none else some 3
/-- The image a container spells, not yet placed. -/
def imageOfBytes (b : List Byte) (tenant mask : Nat) (slot : Option Nat) : Image :=
  { tenant := tenant, id := leAt b 12 4, keySlot := byteAt b 16, mask := mask, kernels := kernelsOf b, bundles := sectBytes b 1
    weights := sectBytes b 3, state := sectBytes b 4, reloc := relocsOf b, palBytes := leAt (sectBytes b 6) 8 4, slot := slot
    kts := [], bases := [], inits := [], wbase := [] }
/-- Outcome of a load: status, reason and mask, or the image placed. -/
def judgeImage (s : State) (tenant mask : Nat) (slot : Option Nat) (b : List Byte) : Except (Nat × List Nat) Image :=
  match authCode s tenant b with
  | some c => .error (3, [c])
  | none =>
    if !imageOk b then .error (2, [8])
    else if !claimOk b then .error (2, [9])
    else if s.foreman.images.any (fun (e : Nat × Image) => e.2.tenant == tenant && e.2.id == leAt b 12 4) then .error (2, [0xA])
    else if 3 < leAt b 6 2 then .error (2, [0xB])
    else
      let m := if mask = 0 then sumNat (((List.range 4).filter (fun b => s.benchLive b)).map (fun b => 2 ^ b)) else mask
      match admitImage s (imageOfBytes b tenant m slot) with
      | .ok i => .ok i
      | .error c => .error (2, c)
/-- An image leaves its tiles: kernel table entries first (14 R341). -/
def unloadImage (s : State) (h : Nat) (img : Image) : State :=
  let clear := fun (s : State) (t : Nat) => s.updTile t (fun x => { x with ktab := img.kts.foldl (fun k i => tblDel i k) x.ktab })
  let s := img.bases.foldl (fun s (e : Nat × Nat) => clear s e.1) s
  { s with foreman := { s.foreman with images := tblDel h s.foreman.images } }
/-- Streams using an image. -/
def imageStreams (s : State) (h : Nat) : Nat :=
  (s.sched.streams.filter (fun (e : Nat × Stream) => e.2.valid && e.2.image == h)).length
/-- A job is RUNNING or PAUSED. -/
def jobHeld (j : Job) : Bool := j.st == .running || j.st == .paused

end Sys2Proof.Machine
end

