-- ==== Sys2Proof/Machine/ImageCmds.lean ====
section
/-! DEFINITION. The image, scan job and dataset commands (16 16.6, 10 10.5 to 10.7). -/

namespace Sys2Proof.Machine

/-! ### Images -/

/-- The image a request names is the tenant's own, where it exists. -/
def ownImage (s : State) (r : Req) : Bool := ((imageOf s (leAt r.payload 0 2)).map (fun i => i.tenant == r.tenant)).getD true
/-- Density of the flash. -/
def flashSize (s : State) : Nat := s.flash.density.getD 0
/-- Address of image slot n (20 Table 20-4). -/
def slotAt (n : Nat) : Nat := 0x100000 + n * 0x800000
/-- An image slot exists (20 R469). -/
def slotThere (s : State) (n : Nat) : Bool := decide (n < 16) && decide (slotAt n + 0x800000 ≤ flashSize s)
/-- A range lies in a tenant's dataset region. -/
def inDataset (s : State) (tenant ofs n : Nat) : Bool :=
  match tblFind? s.foreman.datasets tenant with
  | some d => decide (ofs + n ≤ d.mib * 1048576)
  | none => false
/-- Bytes of a tenant's dataset region. -/
def datasetRead (s : State) (tenant ofs n : Nat) : List Byte :=
  dramRead s (((tblFind? s.foreman.datasets tenant).map (fun d => d.base)).getD 0 + ofs) n
/-- IMAGE_LOAD (16 R388). -/
def imageLoadDo (r : Req) (s : State) : State :=
  let p := r.payload
  let len := leAt p 4 4
  if 1 < byteAt p 0 then refuse s r [0x0B]
  else if byteAt p 0 = 1 && !slotThere s (leAt p 2 2) then noObject s r
  else if byteAt p 0 = 0 && !inDataset s r.tenant (leAt p 8 8) len then refuse s r [0x1B]
  else if 4 ≤ ticketsOf s r.tenant then busy s r
  else
    let stop := s.now + 48000000 + 12000000 * ceilDiv len 1048576
    let (s, k) := defer s r.tenant (.image (byteAt p 0) (byteAt p 1 % 16) (leAt p 2 2) len (leAt p 8 8) stop)
    answer s r (leBytes 2 k)
/-- Bytes that an image load reads. -/
def loadBytes (s : State) (tenant source slot len ofs : Nat) : List Byte :=
  if source = 1 then memRead 0xFF#8 s.flash.mem (slotAt slot) (min len 0x800000) else datasetRead s tenant ofs (min len 8388608)
/-- IMAGE_LOAD_VERIFIED: the load is decided (14 R334 to R340). -/
def imageVerified (ticket : Nat) (s : State) : State :=
  match s.foreman.tickets.find? (fun k => k.ticket == ticket) with
  | some { tenant := n, ticket := _, what := .image source mask slot len ofs _ } =>
    (match judgeImage s n mask (if source = 1 then some slot else none) (loadBytes s n source slot len ofs) with
    | .error (st, c) => endTicket s n ticket 0x05E0 st (c.foldl min 0xFF) (refuseMask c) []
    | .ok img =>
      let h := freeHandle s
      let s := loadImage { s with foreman := { s.foreman with images := tblSet h img s.foreman.images } } img
      endTicket s n ticket 0x05E0 0 0 0 (leBytes 2 h))
  | _ => s
/-- IMAGE_UNLOAD (14 R341). -/
def imageUnloadDo (r : Req) (s : State) : State :=
  let h := leAt r.payload 0 2
  match imageOf s h with
  | none => noObject s r
  | some img =>
    if 0 < imageStreams s h || s.sched.jobs.any (fun (e : Nat × Job) => jobHeld e.2 && e.2.image == h) then busy s r
    else answer (unloadImage s h img) r []
/-- One item of IMAGE_LIST. -/
def imageItem (s : State) (h : Nat) (i : Image) : List Byte :=
  leBytes 2 h ++ zeros 2 ++ leBytes 4 i.id ++ leBytes 1 i.mask ++ leBytes 1 i.keySlot ++ leBytes 2 (imageStreams s h)
    ++ leBytes 2 (s.sched.jobs.filter (fun (e : Nat × Job) => e.2.st != .ended && e.2.image == h)).length ++ zeros 2
/-- IMAGE_LIST. -/
def imageListDo (r : Req) (s : State) : State :=
  let own := (s.foreman.images.filter (fun (e : Nat × Image) => e.2.tenant == r.tenant)).take (r.bulkLen / 16)
  answer s r (leBytes 2 own.length) [] (own.flatMap (fun (e : Nat × Image) => imageItem s e.1 e.2))
/-- A key slot that tenants may hold keys in. -/
def keySlotOk (n : Nat) : Bool := decide (1 ≤ n) && decide (n ≤ 7)
/-- KEY_SET (14 R333). -/
def keySetDo (r : Req) (s : State) : State :=
  let n := byteAt r.payload 0
  if !keySlotOk n then noObject s r
  else answer (storeSetting s (kaKey n) (sliceAt r.payload 2 2 ++ [1#8, 0#8] ++ sliceAt r.payload 4 32 ++ zeros 4)) r []
/-- KEY_CLEAR. -/
def keyClearDo (r : Req) (s : State) : State :=
  let n := byteAt r.payload 0
  if !keySlotOk n then noObject s r else answer (storeSetting s (kaKey n) (zeros 40)) r []

/-! ### Scan jobs -/

/-- The job a request names. -/
def jobNo (r : Req) : Nat := leAt r.payload 0 2
/-- The job is the tenant's own, where it exists. -/
def ownJob (s : State) (r : Req) : Bool := ((jobOf s (jobNo r)).map (fun j => j.tenant == r.tenant)).getD true
/-- The same, and tenant 0 any. -/
def ownJob0 (s : State) (r : Req) : Bool := r.tenant == 0 || ownJob s r
/-- COMPUTE and the DRAM channel of the tenant's dataset region are ready; any channel where it has none (16 R374). -/
def jobReady (s : State) (r : Req) : Bool :=
  readyBit s 3 && (match tblFind? s.foreman.datasets r.tenant with
    | some d => readyBit s (16 + d.base / 2 ^ 36)
    | none => readyBit s 16 || readyBit s 17)
/-- A command on a job that exists. -/
def onJob (f : Req → Nat → Job → State → State) (r : Req) (s : State) : State :=
  match jobOf s (jobNo r) with
  | some j => f r (jobNo r) j s
  | none => noObject s r
/-- A scan descriptor brought into range (10 Table 10-4). -/
def clampJob (b : List Byte) : List Byte × List ClampEntry :=
  let a := applyRules ((if byteAt b 1 = 0 then [⟨2, 1, .near 6 16⟩] else []) ++ [⟨9, 1, .near 1 64⟩]) b
  let o := leAt b 56 1
  if 20 < o && o != 0xFF then depend 56 1 0 3 a else a
/-- The job a descriptor spells. -/
def jobOfBytes (s : State) (tenant h : Nat) (b : List Byte) : Job :=
  let h0 := leAt b 32 8
  { tenant := tenant, form := byteAt b 0, seqMode := byteAt b 1 == 1, log2c := byteAt b 2, sf := byteAt b 3, t := leAt b 4 4
    groups := byteAt b 8, tilesMax := byteAt b 9, image := h, inOfs := leAt b 16 8, outOfs := leAt b 24 8
    h0Ofs := if h0 = 0xFFFFFFFFFFFFFFFF then none else some h0, scratchOfs := leAt b 40 8, coefOfs := leAt b 48 8
    outSel := byteAt b 56, g := 64, startAt := s.now }
/-- Fields and combinations that refuse the job (10 Table 10-4). -/
def jobFieldsOk (j : Job) (mode : Nat) : Bool :=
  decide (j.form ≤ 3) && decide (mode ≤ 1) && decide (j.sf ≤ 1) && (j.sf == 0 || (j.seqMode && decide (j.form ≤ 1)))
    && decide (1 ≤ j.t) && decide (j.t ≤ 1048576) && decide (1 ≤ j.groups) && decide (j.groups ≤ 64)
/-- Every range of a job lies in the region and begins at a multiple of 128. -/
def jobRangesOk (s : State) (j : Job) : Bool :=
  (jobRanges j).all (fun p => p.2 == 0 || (p.1 % 128 == 0 && inDataset s j.tenant p.1 p.2))
/-- Addresses of ranges of a job. -/
def jobSpans (s : State) (j : Job) (l : List (Nat × Nat)) : List (Nat × Nat) := l.map (fun p => (jobAddr s j p.1, p.2))
/-- Output and scratch ranges. -/
def outRanges (j : Job) : List (Nat × Nat) := [(j.outOfs, j.groups * outCount j * 256), (j.scratchOfs, scratchBytes j)]
/-- Two spans overlap; an empty one overlaps none. -/
def spansMeet (x y : Nat × Nat) : Bool := decide (x.2 ≠ 0) && decide (y.2 ≠ 0) && decide (x.1 < y.1 + y.2) && decide (y.1 < x.1 + x.2)
/-- No overlap with the output or scratch ranges of a RUNNING or PAUSED job (10 R255). -/
def jobApart (s : State) (j : Job) : Bool :=
  (s.sched.jobs.filter (fun (e : Nat × Job) => jobHeld e.2)).all (fun e =>
    (jobSpans s j (jobRanges j)).all (fun x => (jobSpans s e.2 (outRanges e.2)).all (fun y => !spansMeet x y)))
/-- The work chunk area a job holds at most. -/
def jobUnits (img : Image) (j : Job) : Nat :=
  maxNat ((jobKinds j).map (fun kd => ((scanKernel img kd j.form j.sf).bind (fun i => img.kernels[i]?)).elim 0 (fun k => chunkUnits k j.g)))
/-- Failing codes of a job's admission, and its work chunk size. -/
def admitJob (s : State) (img : Image) (j : Job) : List Nat × Nat :=
  let live := (liveTiles s).any (fun t => (tblFind? img.bases t).isSome)
  let g := chooseG s img j
  let j1 := { j with g := g.getD 64 }
  let q := quotas s j.tenant
  ((if live && g.isSome && !gPlaces s img j1 j1.g then [0x13] else []) ++ (if live then [] else [0x19])
    ++ (if g.isSome then [] else [0x1A]) ++ (if jobRangesOk s j then [] else [0x1B]) ++ (if jobApart s j then [] else [0x1C])
    ++ (if j.tenant != 0 && decide (q.qPal < palCharged s j.tenant none + jobUnits img j1) then [0x21] else [])
    ++ (if j.tenant != 0 && decide (q.qDram * 1048576 < datasetBytes s j.tenant + storeCharged s j.tenant none) then [0x23] else []),
    j1.g)
/-- Lowest free job number. -/
def freeJob (s : State) : Nat :=
  ((List.range (s.sched.jobs.length + 1)).find? (fun n => (jobOf s n).isNone)).getD 0
/-- The scan kernels of a job draw from at most 32 slots (12 R296, R297; log 178). -/
def jobDrawsOk (img : Image) (j : Job) : Bool :=
  (jobKinds j).all (fun kd => match (scanKernel img kd j.form j.sf).bind (fun i => img.kernels[i]?) with
    | some k => decide ((drawKeys k.draws 1).length ≤ 32)
    | none => false)
/-- JOB_SUBMIT (10 R244 to R249). -/
def jobSubmitDo (r : Req) (s : State) : State :=
  let (b, es) := clampJob r.payload
  match s.foreman.images.find? (fun (e : Nat × Image) => e.2.tenant == r.tenant && e.2.id == leAt b 12 4) with
  | none => noObject s r
  | some (h, img) =>
    let j := jobOfBytes s r.tenant h b
    if !jobFieldsOk j (byteAt b 1) || !jobDrawsOk img j then refuse s r [0x0B]
    else
      let (codes, g) := admitJob s img j
      if !codes.isEmpty then refuse s r codes
      else
        let n := freeJob s
        let jobs := tblSet n ({ j with g := g, phase := if j.seqMode then 4 else 1 } : Job) s.sched.jobs
        answer { s with sched := { s.sched with jobs := jobs } } r (leBytes 2 n ++ leBytes 2 g) es
/-- JOB_PAUSE: at the next work chunk boundary (10 R253). A job that is paused already keeps its reason. -/
def jobPauseDo (r : Req) (n : Nat) (j : Job) (s : State) : State :=
  if j.st == .ended then refuse s r [0x2C]
  else if j.pauseWant || (j.st == .paused && !j.ctrl) then answer s r []
  else answer (jobBoundary (updJob s n (fun x => { x with pauseWant := true, pauseReason := 1 })) n) r []
/-- JOB_RESUME: refused while G = 64 does not fit. -/
def jobResumeDo (r : Req) (n : Nat) (j : Job) (s : State) : State :=
  match imageOf s j.image with
  | none => refuse s r [0x19]
  | some img =>
    if j.st == .ended then refuse s r [0x2C]
    else
      match chooseG s img j with
      | none => refuse s r [0x1A]
      | some g =>
        answer (updJob s n (fun x => { x with
          st := if x.st == .paused then (if x.doneCnt = 0 then .queued else .running) else x.st
          pauseWant := false, pauseReason := 0, refitAt := none, g := min x.g g })) r []
/-- JOB_DELETE (10 Edges of 10.7). -/
def jobDeleteDo (r : Req) (n : Nat) (j : Job) (s : State) : State :=
  if j.st == .ended then answer { s with sched := { s.sched with jobs := tblDel n s.sched.jobs } } r []
  else answer (jobBoundary (updJob s n (fun x => { x with delWant := true })) n) r []
/-- STATE of a job. -/
def jobStNo : JobSt → Nat
  | .queued => 0 | .running => 1 | .paused => 2 | .ended => 3
/-- JOB_STATUS (16 Table 16-9). -/
def jobStatusDo (r : Req) (n : Nat) (j : Job) (s : State) : State :=
  answer s r (leBytes 2 n ++ leBytes 1 (jobStNo j.st) ++ leBytes 1 j.endCode ++ leBytes 1 j.phase ++ leBytes 1 (b2n j.sat + b2n j.nan * 2)
    ++ leBytes 2 j.g ++ leBytes 4 j.doneCnt ++ leBytes 4 (jobTotal j)
    ++ leBytes 8 (((if j.st == .ended then j.endAt else s.now) - j.startAt) / 48) ++ leBytes 1 j.pauseReason ++ zeros 7)

/-! ### Dataset regions (16 R389) -/

/-- Channels of the variant (19 Table 19-6): those of its code, the fused ones where the code is no variant's. -/
def variantChannels (f : Fuses) : Nat := if 1 ≤ f.variant && f.variant ≤ 3 then 2 else popCount f.channels 2
/-- A channel's share of the fused DRAM maximum in MiB: the whole on a one-channel variant, half of it on a two-channel one (19
R446). -/
def chanShare (s : State) : Nat := s.sys.fuses.dramMib / max 1 (variantChannels s.sys.fuses)
/-- BAR2 offset of a DRAM address: the channels one after another in the window of the fused maximum (17 Table 17-2). -/
def bar2Of (s : State) (a : Nat) : Nat :=
  (if a / 2 ^ 36 = 1 && natBit s.sys.fuses.channels 0 then chanShare s * 1048576 else 0) + a % 2 ^ 36
/-- Move `n` bytes of DRAM from one address to another. -/
def dramMove (s : State) (src dst n : Nat) : State :=
  let o := src % 2 ^ 36
  let p := dst % 2 ^ 36
  let cells := (s.dram.getD (src / 2 ^ 36) []).filter (fun (c : Host.Cell) => decide (o ≤ c.1) && decide (c.1 < o + n))
  let put := fun (m : Mem) => cells.foldl (fun (m : Mem) (c : Host.Cell) => memSet 0#8 m (c.1 - o + p) c.2) (memErase m p n)
  if src = dst then s else { s with dram := modAt s.dram (dst / 2 ^ 36) put }
/-- The dataset region of a tenant may not be resized now. -/
def datasetBusy (s : State) (tenant : Nat) : Bool :=
  s.sched.jobs.any (fun (e : Nat × Job) => jobHeld e.2 && e.2.tenant == tenant)
    || s.foreman.rings.any (fun (e : Nat × Ring) => e.1 / 256 == tenant)
    || s.foreman.tickets.any (fun k => k.tenant == tenant && match k.what with
      | .image 0 _ _ _ _ _ => true
      | _ => false)
/-- Where a region of `n` bytes goes: where it lies if it can, else the lowest free released run outside the state store. -/
def datasetPlace (s : State) (tenant n : Nat) : Option Nat :=
  let used := (s.foreman.datasets.filter (fun (e : Nat × Dataset) => e.1 != tenant)).map (fun e => (e.2.base, e.2.mib * 1048576))
  match tblFind? s.foreman.datasets tenant with
  | some d =>
    let c := d.base / 2 ^ 36
    let ch := s.sys.channels.getD c {}
    let stay := ch.up && (releasedRuns (dataRegions s c)).any (fun r =>
      decide (chanBase c + r.1 * regionBytes ≤ d.base)
        && fits used d.base n (chanBase c + min ((r.1 + r.2) * regionBytes) (ch.mib * 1048576)))
    if stay then some d.base else dataFree s used 1048576 n
  | none => dataFree s used 1048576 n
/-- SET_DATASET. -/
def setDatasetDo (r : Req) (s : State) : State :=
  let size := leAt r.payload 0 8
  let mib := ceilDiv size 1048576
  let es : List ClampEntry := if mib * 1048576 = size then [] else [(0, 5, mib * 1048576 % 4294967296)]
  let old := tblFind? s.foreman.datasets r.tenant
  let put := fun (f : Tbl Dataset → Tbl Dataset) (s : State) => { s with foreman := { s.foreman with datasets := f s.foreman.datasets } }
  if (old.map (fun d => d.mib)).getD 0 != mib && datasetBusy s r.tenant then busy s r
  else if mib = 0 then answer (put (tblDel r.tenant) s) r (zeros 16) es
  else if r.tenant != 0
      && decide ((quotas s r.tenant).qDram * 1048576 < mib * 1048576 + storeCharged s r.tenant none) then refuse s r [0x23]
  else
    match datasetPlace s r.tenant (mib * 1048576) with
    | none => refuse s r [0x2C]
    | some a =>
      let s := match old with
        | some d => dramMove s d.base a (min d.mib mib * 1048576)
        | none => s
      let b2 := bar2Of s a
      answer (put (tblSet r.tenant ({ mib := mib, base := a, bar2 := b2 } : Dataset)) s) r (leBytes 8 (mib * 1048576) ++ leBytes 8 b2) es

/-! ### The rows -/

/-- Rights of IMAGE_LOAD: flash is tenant 0's (16 R388). -/
def loadRights (_ : State) (r : Req) : Bool := r.tenant == 0 || byteAt r.payload 0 != 1
/-- IMAGE_LOAD. -/
def execImageLoad (t : Nat) (s : State) : Host.Outcome State Fault Refusal :=
  .next (foremanRow t 0x0501 (lenIs 16) loadRights computeReady imageLoadDo s)
/-- IMAGE_LOAD_VERIFIED. -/
def execImageLoadVerified (t : Nat) (ticket : Half) (s : State) : Host.Outcome State Fault Refusal :=
  .next (finish (imageVerified ticket.toNat (s.at t)))
/-- IMAGE_UNLOAD. -/
def execImageUnload (t : Nat) (s : State) : Host.Outcome State Fault Refusal :=
  .next (foremanRow t 0x0502 (lenIs 2) ownImage computeReady imageUnloadDo s)
/-- IMAGE_LIST. -/
def execImageList (t : Nat) (s : State) : Host.Outcome State Fault Refusal :=
  .next (foremanRow t 0x0503 (fun r => r.len == 0 && bulkFor r 16) anyone computeReady imageListDo s)
/-- KEY_SET. -/
def execKeySet (t : Nat) (s : State) : Host.Outcome State Fault Refusal :=
  .next (foremanRow t 0x0510 (lenIs 36) only0 computeReady keySetDo s)
/-- KEY_CLEAR. -/
def execKeyClear (t : Nat) (s : State) : Host.Outcome State Fault Refusal :=
  .next (foremanRow t 0x0511 (lenIs 1) only0 computeReady keyClearDo s)
/-- JOB_SUBMIT. -/
def execJobSubmit (t : Nat) (s : State) : Host.Outcome State Fault Refusal :=
  .next (foremanRow t 0x0601 (lenIs 64) anyone jobReady jobSubmitDo s)
/-- JOB_PAUSE. -/
def execJobPause (t : Nat) (s : State) : Host.Outcome State Fault Refusal :=
  .next (foremanRow t 0x0602 (lenIs 2) ownJob jobReady (onJob jobPauseDo) s)
/-- JOB_RESUME. -/
def execJobResume (t : Nat) (s : State) : Host.Outcome State Fault Refusal :=
  .next (foremanRow t 0x0603 (lenIs 2) ownJob jobReady (onJob jobResumeDo) s)
/-- JOB_DELETE. -/
def execJobDelete (t : Nat) (s : State) : Host.Outcome State Fault Refusal :=
  .next (foremanRow t 0x0604 (lenIs 2) ownJob jobReady (onJob jobDeleteDo) s)
/-- JOB_STATUS. -/
def execJobStatus (t : Nat) (s : State) : Host.Outcome State Fault Refusal :=
  .next (foremanRow t 0x0605 (lenIs 2) ownJob0 jobReady (onJob jobStatusDo) s)
/-- SET_DATASET. -/
def execSetDataset (t : Nat) (s : State) : Host.Outcome State Fault Refusal :=
  .next (foremanRow t 0x0610 (lenIs 8) anyone jobReady setDatasetDo s)

end Sys2Proof.Machine
end

