-- ==== Sys2Proof/Machine/SysCmds.lean ====
section
/-! DEFINITION. The system commands (16 16.2, Table 16-3) and the live and fused counts that IDENT and the identification
block show (24 Table 24-2). -/

namespace Sys2Proof.Machine

/-! ### Counts -/

/-- Tiles fused in. -/
def tilesFused (s : State) : Nat := 16 * popCount s.sys.fuses.benches 4
/-- Tiles passing self-test and in dispatch. -/
def tilesLive (s : State) : Nat := (liveTiles s).length
/-- Links UP. -/
def linksLive (s : State) : Nat := (s.fabric.links.filter (fun l => l.st == .up)).length
/-- Fused chain ports of pairs whose PAIR_n is set. -/
def portsLive (s : State) : Nat :=
  sumNat ((List.range 4).map (fun p =>
    if (s.pair p).ready then
      if (s.pair p).mode == .direct && (s.pair p).nExp ≤ 1 then b2n (natBit s.sys.fuses.ports (2 * p)) else popCount (s.sys.fuses.ports / 4 ^ p) 2
    else 0))
/-- Channels trained. -/
def channelsLive (s : State) : Nat := (s.sys.channels.filter (fun c => c.up)).length
/-- MiB of RELEASED regions. -/
def mibLive (s : State) : Nat :=
  sumNat (s.sys.channels.map (fun c => if c.up then
    sumNat ((List.range c.regions.length).map (fun i =>
      if c.regions.getD i .pending == .released then min 256 (c.mib - 256 * i) else 0)) else 0))
/-- Benches live, a bit each. -/
def benchesLive (s : State) : Nat := sumNat ((List.range 4).map (fun b => b2n (s.benchLive b) * 2 ^ b))

/-! ### Commands -/

/-- The IDENT layout of Table 16-3, as a tenant's response and the window show it (17 R398). -/
def identBytes (s : State) (tenant : Nat) : List Byte :=
  let f := s.sys.fuses
  leBytes 2 s.host.ifl ++ leBytes 2 s.host.romVer ++ leBytes 4 s.host.patchVer ++ leBytes 1 f.variant ++ leBytes 1 tenant
    ++ zeros 2 ++ leBytes 8 f.serial ++ leBytes 1 (tilesFused s) ++ leBytes 1 (tilesLive s) ++ leBytes 1 (linksLive s)
    ++ leBytes 1 (portsLive s) ++ leBytes 1 (channelsLive s) ++ zeros 3 ++ leBytes 4 (mibLive s) ++ leBytes 2 f.ceilMhz
    ++ leBytes 2 f.envelope ++ zeros 12
/-- IDENT. -/
def identDo (r : Req) (s : State) : State := answer s r (identBytes s r.tenant)
/-- TENANT_STATUS: the tenant's own, tenant 0 any. -/
def tenantStatusDo (r : Req) (s : State) : State :=
  let n := byteAt r.payload 0
  if 15 < n then noObject s r
  else
    let mine := (otherStreams s none).filter (fun x => x.tenant == n)
    let share := fracSum ((onlineOf mine).map (fun x => onlineShare s (homeOf s x / 16) (cycOf s x) (periodOf x)))
    let q := if n = 0 then { en := true } else quotas s n
    answer s r (leBytes 1 n ++ leBytes 1 (b2n q.en) ++ leBytes 2 mine.length ++ leBytes 4 (palCharged s n none)
      ++ leBytes 2 (share.1 * 10000 / max 1 (share.2 * tilesLive s)) ++ zeros 2
      ++ leBytes 4 (ceilDiv (datasetBytes s n + storeCharged s n none) 1048576)
      ++ leBytes 4 (sumNat (mine.map (fun x => pow2Up x.qdepth))) ++ tenBytes n q)
/-- SET_CATCHUP (02 R47): it applies from each stream's next dispatch. -/
def setCatchupDo (r : Req) (s : State) : State :=
  let (b, es) := applyRules [⟨0, 1, .near 10 50⟩] r.payload
  let s := { s with foreman := { s.foreman with catchup := leAt b 0 1 } }
  answer (storeSetting s 0x40 b) r b es
/-- The RTC stands at a value from now on. -/
def loadRtc (s : State) (v : Nat) : State := { s with ka := { s.ka with rtcBase := v, rtcAt := s.now } }
/-- SET_RTC: the invalid flag clears (20 R459). -/
def setRtcDo (r : Req) (s : State) : State :=
  let s := loadRtc s (leAt r.payload 0 8)
  answer { s with ka := { s.ka with rtcValid := true } } r []
/-- GET_RTC. -/
def getRtcDo (r : Req) (s : State) : State := answer s r (leBytes 8 (rtc s) ++ leBytes 1 (b2n s.ka.rtcValid))
/-- A disabled tenant's streams and jobs pause with reason HOST (15 R357). -/
def pauseTenant (s : State) (n : Nat) : State :=
  let ss := s.sched.streams.filterMap (fun (e : Nat × Stream) => if e.2.valid && e.2.den && e.2.tenant == n then some e.1 else none)
  let js := s.sched.jobs.filterMap (fun (e : Nat × Job) =>
    if e.2.tenant == n && (e.2.st == .queued || e.2.st == .running) then some e.1 else none)
  let s := ss.foldl hostPause s
  js.foldl (fun s j => jobBoundary (updJob s j (fun x => { x with pauseWant := true, pauseReason := 1 })) j) s
/-- SET_TENANT (15 R356, R357). -/
def setTenantDo (r : Req) (s : State) : State :=
  let n := byteAt r.payload 0
  if n = 0 || 15 < n then noObject s r
  else
    let (b, es) := applyRules tenantRules r.payload
    let t := tenOfBytes b
    let s := { s with foreman := { s.foreman with tenants := tblSet n t s.foreman.tenants } }
    let s := storeSetting s (kaTenant n) (zeros 1 ++ (tenBytes n t).drop 1)
    answer (if t.en then s else pauseTenant s n) r (tenBytes n t) es
/-- A reset of COMPUTE or of a bench by command. -/
def resetCompute (s : State) (scope bench : Nat) : State :=
  let s := logFault s 0x0404 1 false 0 0 0 (leBytes 1 scope ++ leBytes 1 bench)
  if scope = 3 then computeReset s true else benchReset s bench
/-- RESET (16 R379): SHELL and CTRL wait for the response; COMPUTE and a bench are reset before it. -/
def resetDo (r : Req) (s : State) : State :=
  let scope := byteAt r.payload 0
  let b := byteAt r.payload 1
  if byteAt r.payload 2 != 0xA5 || scope = 0 || 4 < scope then refuse s r [0x0B]
  else if scope = 4 && !(decide (b < 4) && natBit s.sys.fuses.benches b) then noObject s r
  else if scope ≤ 2 then
    answer { s with foreman := { s.foreman with resetReq := some (scope, b) } } r []
  else answer (resetCompute s scope b) r []
/-- RESET_BEGIN: 100 microseconds, give or take 10, after RSP_READY was set (16 R379). -/
def resetBeginDo (s : State) : State :=
  match s.foreman.resetAt with
  | some (scope, a) =>
    if s.now < a + 4320 then s
    else if scope = 1 then shellReset s
    else ctrlReset (logFault s 0x0404 1 false 0 0 0 (leBytes 1 scope ++ leBytes 1 0))
  | none => s
/-- BOOT_CLAMP_READ (15 R372). -/
def bootClampDo (r : Req) (s : State) : State :=
  let n := min (kaField s 0x2481 1) (r.bulkLen / 8)
  answer s r (kaBytes s 0x2480 8) [] (kaBytes s 0x2488 (8 * n))

/-! ### The rows -/

/-- Rights of TENANT_STATUS. -/
def ownTenant (_ : State) (r : Req) : Bool := r.tenant == 0 || byteAt r.payload 0 == r.tenant
/-- IDENT. -/
def execIdent (t : Nat) (s : State) : Host.Outcome State Fault Refusal :=
  .next (foremanRow t 0x0101 (lenIs 0) anyone always identDo s)
/-- TENANT_STATUS. -/
def execTenantStatus (t : Nat) (s : State) : Host.Outcome State Fault Refusal :=
  .next (foremanRow t 0x0102 (lenIs 1) ownTenant always tenantStatusDo s)
/-- SET_CATCHUP. -/
def execSetCatchup (t : Nat) (s : State) : Host.Outcome State Fault Refusal :=
  .next (foremanRow t 0x0110 (lenIs 1) only0 always setCatchupDo s)
/-- SET_RTC. -/
def execSetRtc (t : Nat) (s : State) : Host.Outcome State Fault Refusal :=
  .next (foremanRow t 0x0111 (lenIs 8) only0 always setRtcDo s)
/-- GET_RTC. -/
def execGetRtc (t : Nat) (s : State) : Host.Outcome State Fault Refusal :=
  .next (foremanRow t 0x0112 (lenIs 0) anyone always getRtcDo s)
/-- SET_TENANT. -/
def execSetTenant (t : Nat) (s : State) : Host.Outcome State Fault Refusal :=
  .next (foremanRow t 0x0120 (lenIs 20) only0 always setTenantDo s)
/-- RESET. -/
def execReset (t : Nat) (s : State) : Host.Outcome State Fault Refusal :=
  .next (foremanRow t 0x0130 (lenIs 4) only0 always resetDo s)
/-- RESET_BEGIN. -/
def execResetBegin (t : Nat) (s : State) : Host.Outcome State Fault Refusal := .next (finish (resetBeginDo (s.at t)))
/-- BOOT_CLAMP_READ. -/
def execBootClampRead (t : Nat) (s : State) : Host.Outcome State Fault Refusal :=
  .next (foremanRow t 0x0140 (fun r => r.len == 0 && bulkFor r 8) only0 always bootClampDo s)

end Sys2Proof.Machine
end

