-- ==== Sys2Proof/Machine/ChainOps.lean ====
section
/-! DEFINITION. The chain pairs at Broros: ports, frames, the command queue, urgent bursts, wake, enumeration, sweep timing
and the settings written back to a member (06, 02 2.5). -/

namespace Sys2Proof.Machine

/-! ### Ports -/

/-- A pair as an operand. -/
def pNo (p : Nat) : Fin 4 := Fin.ofNat 4 p
/-- The chain port of a pair's side. -/
def cport (s : State) (p : Nat) : Side → ChainPort
  | .a => (s.pair p).portA
  | .b => (s.pair p).portB
/-- Change it. -/
def updCport (s : State) (p : Nat) (sd : Side) (f : ChainPort → ChainPort) : State :=
  s.updPair p (fun q => match sd with
    | .a => { q with portA := f q.portA }
    | .b => { q with portB := f q.portB })
/-- The port is fused in. -/
def portFused (s : State) (p : Nat) (sd : Side) : Bool := natBit s.sys.fuses.ports (2 * p + b2n (sd == .b))
/-- The pair is fused in. -/
def pairFused (s : State) (p : Nat) : Bool := decide (p < 4) && portFused s p .a
/-- Enabled ports: none when OFF, port A alone for a single DIRECT member (25 R535). -/
def portsOn (s : State) (p : Nat) : List Side :=
  let q := s.pair p
  ((match q.mode with
    | .off => []
    | .direct => if q.nExp ≤ 1 then [.a] else [.a, .b]
    | .ring => [.a, .b] : List Side)).filter (portFused s p)
/-- Enabled ports of the device. -/
def allPorts (s : State) : List (Nat × Side) := (List.range 4).flatMap (fun p => (portsOn s p).map (fun sd => (p, sd)))

/-! ### Frames -/

/-- The earliest start of Broros's next frame on a port (06 R126). -/
def txStart (s : State) (p : Nat) (sd : Side) : Nat :=
  let b := (cport s p sd).busy
  if b = 0 then s.now else max s.now (b + 96)
/-- Broros sends a DIR = 0 frame, 2.0 microseconds after the port's last frame at the earliest, with the port's next FSEQ
(06 R126, R138). -/
def txFrame (s : State) (p : Nat) (sd : Side) (type : Nat) (pos ret : Bool) (addr : Nat) (payload : List Byte) : State :=
  let c := cport s p sd
  let e := txStart s p sd + frameTime payload.length
  let f : Frame := { type := type, dir := false, pos := pos, ret := ret, addr := addr, fseq := c.fseq, payload := payload }
  (updCport s p sd (fun c => { c with fseq := (c.fseq + 1) % 256, lastTx := e, busy := e })).emit (.chainFrame (pNo p) sd f)
/-- Nothing starts on a port before `t`. -/
def notBefore (s : State) (p : Nat) (sd : Side) (t : Nat) : State := updCport s p sd (fun c => { c with busy := max c.busy (t - 96) })
/-- A broadcast CONTROL frame. -/
def txControl (s : State) (p : Nat) (sd : Side) (code arg : Nat) : State :=
  txFrame s p sd 0xC false false 0x3F (leBytes 1 code ++ leBytes 1 arg)
/-- The return of a frame sent from port A is awaited at port B. -/
def await (s : State) (p kind : Nat) : State :=
  s.updPair p (fun q => { q with awaited := q.awaited.filter (fun a => a.kind != kind) ++ [{ kind := kind, endAt := q.portA.lastTx }] })
/-- The frame of a kind whose return is awaited. -/
def awaitedOf (s : State) (p kind : Nat) : Option Awaited := (s.pair p).awaited.find? (fun a => a.kind == kind)
/-- It is awaited no longer. -/
def unawait (s : State) (p kind : Nat) : State :=
  s.updPair p (fun q => { q with awaited := q.awaited.filter (fun a => a.kind != kind) })
/-- It is overdue: 50 microseconds have passed since its end left port A (06 R143). -/
def overdue (s : State) (p kind : Nat) : Bool := match awaitedOf s p kind with
  | some a => decide (a.endAt + 2400 ≤ s.now)
  | none => false
/-- Three copies of an urgent frame with its CRC, 2.0 microseconds apart, out of each port named (06 R125, R146). -/
def burst (s : State) (ports : List (Nat × Side)) (u : List Byte) : State :=
  ports.foldl (fun s pb =>
    let s := updCport s pb.1 pb.2 (fun c => { c with busy := s.now + 3 * urgentTime + 2 * 96 })
    (List.range 3).foldl (fun s _ => s.emit (.chainUrgent (pNo pb.1) pb.2 (urgentSeal u))) s) s
/-- EOPEN on every enabled chain port (06 R146). -/
def eopenAll (s : State) : State := burst s (allPorts s) [0x1A#8, 0x3F#8, 0#8]

/-! ### States of a pair -/

/-- STATE of PAIR_STATUS (16 Table 16-4). -/
def stCode : PairSt → Nat
  | .off => 0 | .ring => 1 | .split => 2 | .directWake => 3 | .direct => 3 | .broken => 4 | .waking => 5 | .enumerating => 5
/-- A change of pair state raises its event (06 R152). -/
def setSt (s : State) (p : Nat) (new : PairSt) : State :=
  let old := stCode (s.pair p).st
  let s := s.updPair p (fun q => { q with st := new })
  if old = stCode new then s
  else raiseEvent s 0 0x02E1 (leBytes 1 p ++ leBytes 1 old ++ leBytes 1 (stCode new) ++ leBytes 1 (s.pair p).hA ++ leBytes 1 (s.pair p).hB)
/-- TOPOLOGY: what was expected and what was received. -/
def topology (s : State) (p expected received : Nat) : State :=
  raiseEvent s 0 0x02E2 (leBytes 1 p ++ leBytes 1 expected ++ leBytes 1 received)
/-- Index of member h of a pair. -/
def memNo (p h : Nat) : Nat := p * 32 + h - 1
/-- A member is reachable: found, answering and not cut off. -/
def memReached (m : Member) : Bool := m.reached && !m.unresponsive && !m.isolated
/-- A member counts as unreachable from now on (07 R183). -/
def lostMember (s : State) (i : Nat) : State :=
  updMem s i (fun m => { m with absentSince := match m.absentSince with | some a => some a | none => some s.now })
/-- UNRESPONSIVE: event and log entry (06 R138, 21 Table 21-3). -/
def unresponsive (s : State) (p h : Nat) : State :=
  let id := if (s.pair p).mode == .direct then 0 else h
  let f := leBytes 1 id ++ leBytes 1 h
  let s := lostMember (updMem s (memNo p h) (fun m => { m with unresponsive := true })) (memNo p h)
  logFault (raiseEvent s 0 0x02E3 (leBytes 1 p ++ f)) 0x0203 1 false 0xFF 1 p f

/-! ### Commands to a member -/

/-- How Broros addresses member h: side, MODE, ADDR (06 R135, R136, R152). -/
def route (s : State) (p h : Nat) : Side × Bool × Nat :=
  let q := s.pair p
  match q.st with
  | .direct => (if h = 1 then .a else .b, true, 1)
  | .split => if h ≤ q.hA then (.a, q.addrPos, h) else (.b, true, q.nExp + 1 - h)
  | _ => (.a, q.addrPos, h)
/-- A command joins a port's queue. -/
def enqueue (s : State) (p : Nat) (sd : Side) (c : ChainCmd) : State := updCport s p sd (fun q => { q with queue := q.queue ++ [c] })
/-- A command for member h, as Broros routes it. -/
def toMember (s : State) (p h : Nat) (o : Origin) (type : Nat) (payload : List Byte) : State :=
  let r := route s p h
  enqueue s p r.1 { origin := o, type := type, pos := r.2.1, addr := r.2.2, payload := payload }
/-- The side from which Broros reaches member h (06 R135, R152). -/
def sideOf (q : Pair) (h : Nat) : Side :=
  if q.mode == .direct then (if h = 1 then .a else .b) else if q.st == .split && decide (q.hA < h) then .b else .a
/-- ADDR of member h by hop from a side (06 R133, R135). -/
def hopOf (q : Pair) (sd : Side) (h : Nat) : Nat :=
  if q.mode == .direct then 1 else match sd with | .a => h | .b => q.nExp + 1 - h
/-- A command by hop from a side (06 R134, R152, R153). -/
def byHop (s : State) (p : Nat) (sd : Side) (h : Nat) (o : Origin) (type : Nat) (payload : List Byte) : State :=
  enqueue s p sd { origin := o, type := type, pos := true, addr := hopOf (s.pair p) sd h, payload := payload }
/-- A command by hop, from the side that reaches the member. -/
def byPos (s : State) (p h : Nat) (o : Origin) (type : Nat) (payload : List Byte) : State := byHop s p (sideOf (s.pair p) h) h o type payload
/-- Payload of REG_READ. -/
def readPl (reg n : Nat) : List Byte := leBytes 2 reg ++ leBytes 1 n
/-- Payload of REG_WRITE. -/
def writePl (reg : Nat) (ws : List Nat) : List Byte := leBytes 2 reg ++ ws.flatMap (leBytes 2)
/-- The words of an ACK's data. -/
def wordsOf (sd : List Byte) : List Nat := (List.range (sd.length / 2)).map (fun i => leAt sd (2 * i) 2)
/-- A collection on the ring keeps port A silent (06 R141). -/
def silentNow (s : State) (p : Nat) : Bool :=
  let q := s.pair p
  q.silent && q.st == .ring && decide (s.now < q.closeAt)
/-- When the collection silence and the 10 ms after a wake preamble are over (06 R141, R158). -/
def quietTill (q : Pair) : Nat :=
  max (if q.silent && q.st == .ring then q.closeAt else 0) (if q.wakeEnd = 0 then 0 else q.wakeEnd + 480000)
/-- A non-urgent frame of n payload bytes keeps R141's silence and is off the wire at the next due time (22 R502). -/
def lineOk (s : State) (p n : Nat) : Bool :=
  !silentNow s p && (match (s.pair p).nextDue with
    | none => true
    | some d => decide (s.now + frameTime n ≤ d) || decide (d ≤ s.now))
/-- A non-urgent frame of n payload bytes may start now (06 R126, R141, R158; 22 R502). -/
def mayStart (s : State) (p : Nat) (sd : Side) (n : Nat) : Bool :=
  let q := s.pair p
  let c := cport s p sd
  s.shellUp && (portsOn s p).contains sd && decide (q.wakeEnd + 480000 ≤ s.now || q.wakeEnd = 0) && lineOk s p n
    && decide (c.busy = 0 || c.busy + 96 ≤ s.now) && c.out.isNone
/-- The pair carries addressed commands. -/
def pairCarries (q : Pair) : Bool := q.st == .ring || q.st == .split || q.st == .broken || q.st == .direct
/-- It carries Broros's own while it is enumerated, too (06 R134). -/
def pairTalks (q : Pair) : Bool := pairCarries q || q.st == .enumerating

/-! ### Settings that Broros holds for a member (06 R153, 19 R440) -/

/-- OV_TH and UV_TH in the order that suits a member at its reset values (03 Edges of 3.2). -/
def thresholdWrites (ov uv : Nat) (ovFirst : Bool) : List (Nat × List Nat) :=
  if ovFirst then [(0x0011, [ov]), (0x0012, [uv])] else [(0x0012, [uv]), (0x0011, [ov])]
/-- Register writes that give member h every setting held for it. -/
def memberWrites (s : State) (p h : Nat) : List (Nat × List Nat) :=
  let m := lmem s (memNo p h)
  let own := if m.stored then [(0x0010, [m.nCells]), (0x0015, [m.thEn, m.thBeta]), (0x0031, [m.balNr, m.balRcs, m.balIpk])] else []
  match strOfMember s (memNo p h) with
  | none => own
  | some n =>
    let x := strSet s n
    let head := x.head == h
    [(0x0007, [x.first, x.aspEn, x.tComm])] ++ own ++ thresholdWrites x.ovTh x.uvTh (decide (42500 ≤ x.ovTh))
      ++ [(0x0013, [x.almHys, x.almN])]
      ++ (if head then
          [(0x0021, [x.drvMode, x.shunt, x.scdTh, x.scdBlank, x.dsatEn, x.pchgEn, x.pchgIdone, x.pchgTmin, x.pchgTmax, x.vauxEn])]
          else [])
      ++ [(0x0020, [b2n head])]
/-- Write them back, by hop, so that a member hears them whether or not its ID was lost (06 R153). -/
def writeBack (s : State) (p h : Nat) : State :=
  (memberWrites s p h).foldl (fun s w => byPos s p h (.writeBack (memNo p h)) 7 (writePl w.1 w.2)) s
/-- Write DEV_ID by hop from a side (06 R134, R152, R153). -/
def writeId (s : State) (p : Nat) (sd : Side) (h : Nat) : State := byHop s p sd h (.idWrite (memNo p h)) 7 (writePl 0x0006 [h])
/-- Read DEV_ID by hop from a side (06 R134, R152). -/
def checkId (s : State) (p : Nat) (sd : Side) (h : Nat) (again : Bool) : State :=
  byHop s p sd h (.idCheck (memNo p h) again) 6 (readPl 0x0006 1)
/-- Read what identifies member h, by hop from a side: SERIAL, DEV_ID and JAB_CNT in one read; `once` takes no
retransmission (06 R134, R150; 07 R183; 21 R491). -/
def askIdentity (s : State) (p : Nat) (sd : Side) (h : Nat) (once : Bool) : State :=
  enqueue s p sd { origin := .identify (memNo p h), type := 6, pos := true, addr := hopOf (s.pair p) sd h
                   payload := readPl 0x0002 10, noRetry := once }
/-- Read JAB_CNT of member h (21 R491). -/
def askJab (s : State) (p h : Nat) : State := byPos s p h (.jab (memNo p h)) 6 (readPl 0x000B 1)

/-! ### Sweep timing (02 2.5) -/

/-- Sweeps begin: the first one is due now, SWEEP_SEQ continuing. -/
def startSweeps (s : State) (p : Nat) : State :=
  s.updPair p (fun q => { q with nextDue := some s.now, nextNom := s.now, due := s.now, lag := 0, curSeq := none })
/-- Every sweep and command of the pair stops (16 R380). -/
def stopPair (s : State) (p : Nat) : State :=
  s.updPair p (fun q => { q with
    nextDue := none, curSeq := none, collecting := false, silent := false, damaged := false, asked := false, awaited := []
    got := [], late := [], ringTest := false, restoreRing := false, suspect := none, jabBelow := none, jabAbove := none
    portA := { q.portA with queue := [], out := none, stopped := false, reach := 0 }
    portB := { q.portB with queue := [], out := none, stopped := false, reach := 0 } })
/-- Wake the chain: 300 microseconds of preamble on every enabled port, then 10 ms of nothing else (06 R158). -/
def wakePair (s : State) (p : Nat) : State :=
  let on := portsOn s p
  let s := on.foldl (fun s sd =>
    (updCport s p sd (fun c => { c with busy := max s.now c.busy + 14400 })).emit (.chainPreamble (pNo p) sd)) s
  let s := s.updPair p (fun q => { q with wakeEnd := max s.now (max q.portA.busy q.portB.busy), enumTries := 0 })
  if (s.pair p).mode == .ring then setSt (s.updPair p (fun q => { q with ready := false })) p .waking else setSt s p .directWake
/-- CLEAR_ID and ENUMERATE leave port A (06 R134). -/
def sendEnumerate (s : State) (p : Nat) : State :=
  let s := txControl s p .a 0x05 0
  let s := txFrame s p .a 9 false false 0x3F (leBytes 1 1)
  await (s.updPair p (fun q => { q with enumTries := q.enumTries + 1 })) p 9

end Sys2Proof.Machine
end

