-- ==== Sys2Proof/Machine/LedgerSnap.lean ====
section
/-! DEFINITION. The Ledger snapshot in KA: its encoding, its writing, its check and its restore (20 R462 to R468, R475;
07 R186). -/

namespace Sys2Proof.Machine

/-- Capacity of a cell in microcoulomb. -/
def capUc (x : LCell) : Nat := x.cL * 360000
/-- The least U code that stands for at least u of a capacity c, at most 31 (20 R462). -/
def uCode (c u : Nat) : Nat :=
  if u = 0 then 0 else ((List.range 31).find? (fun n => decide (u * u * 2 ^ 32 ≤ c * c * 2 ^ (n + 1)))).elim 31 (· + 1)
/-- What a U code stands for, rounded up (20 R462). -/
def uOfCode (c n : Nat) : Nat := if n = 0 then 0 else isqrtUp (ceilDiv (c * c * 2 ^ n) (2 ^ 32))
/-- Upper bounds of the age bands in seconds (20 Table 20-3). -/
def ageBands : List Nat := [3600, 21600, 86400, 259200, 604800, 2592000, 7776000]
/-- Age code of an anchor (20 Table 20-3). -/
def ageCode (s : State) (x : LCell) : Nat :=
  match x.anchorAt with
  | none => 7
  | some a => ((List.range 7).find? (fun i => decide ((s.now - a) / 48000000 + x.anchorOlder < ageBands.getD i 0))).getD 7
/-- A cell record (20 Table 20-3). -/
def cellRecord (s : State) (x : LCell) : List Byte :=
  let c := capUc x
  let q := if c = 0 then 0 else clampInt (-131072) 131071 (divRoundAway (x.qRem * 65536) c)
  leBytes 8 (x.cL % 2 ^ 25 + b2n x.valid * 2 ^ 25 + x.kind * 2 ^ 26 + pattern 18 q * 2 ^ 28
    + (if c = 0 then 0 else min 31 (ceilDiv (x.a * 8) c)) * 2 ^ 46 + uCode c x.uX * 2 ^ 51 + uCode (1000 * c) x.uOfs * 2 ^ 56
    + ageCode s x * 2 ^ 61)
/-- A head record (20 R463). -/
def headRecord (x : LString) : List Byte :=
  match x.qLast with
  | some (q, n) => leBytes 8 (pattern 64 q) ++ leBytes 4 n ++ leBytes 1 1 ++ zeros 3
  | none => zeros 16
/-- A member balance record (20 R463). -/
def balRecord (m : Member) : List Byte :=
  leBytes 6 (pattern 48 m.qmb) ++ leBytes 6 (pattern 48 (m.qb.getD (m.balCell - 1) 0)) ++ leBytes 2 m.xferId ++ leBytes 1 m.balCell
    ++ leBytes 1 (b2n (m.reached && m.counted))
/-- The records of a snapshot: heads, members, cells. -/
def snapRecords (s : State) : List Byte :=
  (List.range 64).flatMap (fun n => headRecord (lstr s n)) ++ (List.range 128).flatMap (fun i => balRecord (lmem s i))
    ++ (List.range 2304).flatMap (fun c => cellRecord s (lcell s c))
/-- A snapshot is written, SNAP_GEN odd while it is (20 R468); before the Ledger is restored the one in KA stays (log 169). -/
def takeSnapshot (s : State) (cause : Nat) : State :=
  if !s.sys.ledgerReady then s
  else
  let gen := kaField s 0x2A50 4
  let s := kaPut s 0x2A90 (snapRecords s)
  let seqs := (List.range 4).flatMap (fun p => leBytes 2 (((s.pair p).curSeq).getD 0))
  let s := kaPut s 0x2A50 (leBytes 4 (2 * (gen / 2) + 2) ++ leBytes 4 (crc32 (kaBytes s 0x2A90 0x5400)) ++ leBytes 8 (rtc s)
    ++ leBytes 8 (tb s) ++ seqs ++ leBytes 1 cause ++ leBytes 1 (b2n s.ka.rtcValid))
  { s with ledger := { s.ledger with snapAt := s.now } }
/-- No pair is between the first record of a sweep and the close of its collection: the counters are consistent with one
counted sweep of each pair (07 R186, 20 R467). -/
def betweenSweeps (s : State) : Bool := (List.range 4).all (fun p => !((s.pair p).collecting && !(s.pair p).got.isEmpty))
/-- A snapshot in the sweep of an update or a swap: at once, or at the close of the sweep (20 R467). -/
def askSnapshot (s : State) (cause : Nat) : State :=
  if betweenSweeps s then takeSnapshot s cause else { s with ledger := { s.ledger with snapDue := some cause } }
/-- The snapshot that waits is taken. -/
def dueSnapshot (s : State) : State :=
  match s.ledger.snapDue with
  | some c => if betweenSweeps s then takeSnapshot { s with ledger := { s.ledger with snapDue := none } } c else s
  | none => s
/-- The snapshot in KA is valid (20 R468). -/
def snapValid (s : State) : Bool := kaField s 0x2A50 4 % 2 == 0 && kaField s 0x2A54 4 == crc32 (kaBytes s 0x2A90 0x5400)

/-! ### Restore (07 R186, 20 R465, R475) -/

/-- A restored cell. -/
def restoreCell (s : State) (age : Option Nat) (shunt : Nat) (v : Nat) : LCell :=
  let cL := field v 0 25
  let c := cL * 360000
  let kind := field v 26 2
  let code := field v 61 3
  let low := if code = 0 then 0 else ageBands.getD (code - 1) 0
  let aged := match age with
    | some a => if 86400 < a then ceilDiv (2000000000 * a) (max 1 shunt) else 0
    | none => 0
  { qRem := divRoundAway (signed 18 (field v 28 18) * c) 65536, cL := cL, a := ceilDiv (field v 46 5 * c) 8
    uX := uOfCode c (field v 51 5) + ceilDiv c 131072, uOfs := uOfCode (1000 * c) (field v 56 5) + aged
    anchorAt := if kind = 0 then none else some s.now, anchorOlder := low, kind := kind
    valid := natBit v 25 && age.isSome }
/-- The string whose members hold a cell, and its settings. -/
def strOfCell (s : State) (c : Nat) : Option StrSet := (strOfMember s (c / 18)).map (fun n => strSet s n)
/-- The Ledger's counters from the snapshot in KA; without one every cell is invalid at C_NOM. -/
def restoreLedger (s : State) : State :=
  let live := (List.range 2304).filter (fun c => cellOn s c)
  if !snapValid s then
    live.foldl (fun s c => updCell s c (fun _ => { cL := ((strOfCell s c).map (fun x => x.cNom)).getD 1000000 })) s
  else
    let age := if s.ka.rtcValid then some ((rtc s - kaField s 0x2A58 8) / 32768) else none
    let s := live.foldl (fun s c =>
      updCell s c (fun _ => restoreCell s age (((strOfCell s c).map (fun x => x.shunt)).getD 100) (kaField s (0x3690 + 8 * c) 8))) s
    let s := (List.range 64).foldl (fun s n =>
      if strOn s n && natBit (kaField s (0x2A90 + 16 * n + 12) 1) 0 then
        updStr s n (fun l => { l with qLast := some (signed 64 (kaField s (0x2A90 + 16 * n) 8), kaField s (0x2A90 + 16 * n + 8) 4) })
      else s) s
    let s := (List.range 128).foldl (fun s i =>
      let o := 0x2E90 + 16 * i
      if natBit (kaField s (o + 15) 1) 0 then
        let k := kaField s (o + 14) 1
        updMem s i (fun m => { m with
          counted := true, qmb := signed 48 (kaField s o 6), qb := modAt m.qb (k - 1) (fun _ => signed 48 (kaField s (o + 6) 6))
          qbKnown := if k = 0 then 0 else 2 ^ (k - 1), xferId := kaField s (o + 12) 2, balCell := k, restoreRead := true })
      else s) s
    { s with ledger := { s.ledger with restoreAge := age.getD 0 } }
/-- XFER_ID words after another one, modulo 2^16. -/
def after16 (a b : Nat) : Nat := (a + 65536 - b % 65536) % 65536

end Sys2Proof.Machine
end

