-- ==== Sys2Proof/Machine/LedgerOps.lean ====
section
/-! DEFINITION. The Ledger's operations (07): conversion, uncertainty, counting, anchors, EOD and EOC, learning cycles, module
swap, reset. -/

namespace Sys2Proof.Machine

/-! ### Conversion (00 R6) and uncertainty (07 7.4) -/

/-- Microcoulomb in 0.1 mAh, ties away from zero (00 R6). -/
def toUnits (q : Int) : Int := divRoundAway q 360000
/-- Remaining charge as it is reported; the invalid code without VALID (07 R166). -/
def remOf (x : LCell) : Nat := if x.valid then (clampInt 0 0xFFFFFFFE (toUnits x.qRem)).toNat else 0xFFFFFFFF
/-- State of charge in 0.01 % (00 R6, 07 R166). -/
def socOf (x : LCell) : Nat :=
  if x.valid then (clampInt 0 10000 (if capUc x = 0 then 0 else divRoundAway (x.qRem * 10000) (capUc x))).toNat else 0xFFFF
/-- u_C in 0.01 %, rounded up, at most 10,000 (07 R173, R174). -/
def uCof (x : LCell) : Nat :=
  if !x.valid then 0xFFFF
  else if capUc x = 0 then 10000
  else min 10000 (ceilDiv (50000 * capUc x + 100000 * x.a + 10000 * (x.uOfs + 1000 * x.uX)) (1000 * capUc x))
/-- Reference capacity C_S: the smallest C_L of the string's valid cells (07 R160). -/
def refCap (s : State) (n : Nat) : Option Nat :=
  ((strCells s n).filter (fun c => (lcell s c).valid)).foldl (fun (m : Option Nat) c =>
    some (match m with | some v => min v (lcell s c).cL | none => (lcell s c).cL)) none
/-- V_OFS of a counted record in 0.1 microvolt (07 Table 7-3). -/
def vOfs (curFault frozen60 lg : Bool) : Nat := if curFault then 2000 else if frozen60 then 500 else if lg then 50 else 20
/-- How a current is taken (07 R160). -/
def flowOf (x : StrSet) (i : Int) : Flow := if (x.iDb : Int) < i then .charging else if i < -(x.iDb : Int) then .discharging else .rest
/-- Charge in microcoulomb of a current in mA over time base counts, rounded up. -/
def chargeOver (mA counts : Nat) : Nat := ceilDiv (mA * counts) 48000

/-! ### Cells -/

/-- The FEED stream of a cell. -/
def fedBy (s : State) (c : Nat) : Option Nat :=
  (s.sched.streams.find? (fun (e : Nat × Stream) => e.2.valid && e.2.feed && e.2.out % 2 ^ 30 == c)).map (·.1)
/-- Charge counted into a cell: Q_REM, A, D, the cycle's balance charge from entry to RUNNING, and the feeder's sum (07 R161,
R173, R177, R179; 11 Table 11-4). -/
def addCharge (s : State) (c : Nat) (dq : Int) (bal : Bool) : State :=
  let running := match strOfMember s (c / 18) with | some n => (lstr s n).lc == .running | none => false
  let s := updCell s c (fun x => { x with
    qRem := x.qRem + dq, a := x.a + dq.natAbs, d := if x.cyc then x.d - dq else x.d
    cycBal := if bal && running then x.cycBal + dq.natAbs else x.cycBal })
  match fedBy s c with
  | some n => s.updStream n (fun x => { x with fd := { x.fd with
      charge := x.fd.charge + dq, bal := if bal then x.fd.bal + dq else x.fd.bal } })
  | none => s
/-- Uncertainty charge of a cell. -/
def addUx (s : State) (c u : Nat) : State := updCell s c (fun x => { x with uX := x.uX + u })
/-- A cell's class and counters start anew (13 13.2: no evaluation since); that it was SUSPECT or MODEL_UNSURE until now stays
known (13 R315). -/
def assayNone (s : State) (c : Nat) : State :=
  { s with assayer := { s.assayer with cells := s.assayer.cells.map (fun (e : Nat × AssayCell) =>
      if e.1 = c then (e.1, { e.2 with
        badAt := if e.2.cls = 2 || e.2.cls = 3 then some s.now else e.2.badAt, evtWant := e.2.evtWant || e.2.cls != 0xF, cls := 0xF, dis := 0, agr := 0, evals := [], sign := 0, runAgree := false, reanchoring := false })
      else e) } }
/-- A cell loses VALID and its anchor timers (07 R184, R185). -/
def invalidate (s : State) (c : Nat) : State :=
  assayNone (updCell s c (fun x => { x with
    valid := false, taperSince := none, taperHit := false, emptyCnt := 0, cyc := false })) c

/-! ### EOD and EOC (07 7.3) -/

/-- FLAGS of STRING_LEDGER (16 Table 16-5). -/
def strFlags (x : LString) : Nat :=
  b2n (x.eod == some true) + b2n (x.eoc == some true) * 2 + b2n (x.eod.isNone || x.eoc.isNone) * 4 + b2n x.headOk * 8
/-- GPIO outputs as the strings map them (07 R172, 16 R383). -/
def driveGpio (s : State) : State :=
  let maps := (List.range 64).flatMap (fun n =>
    if strOn s n then
      let x := strSet s n
      let l := lstr s n
      [(x.eodGpio, l.eod == some true, natBit x.pol 0), (x.eocGpio, l.eoc == some true, natBit x.pol 1)]
    else [])
  let level := fun (g : Nat) =>
    let mine := maps.filter (fun m => m.1 == g + 1)
    match mine.head? with
    | some m => if mine.any (fun m => m.2.1) then m.2.2 else !m.2.2
    | none => false
  { s with ledger := { s.ledger with gpioOut := sumNat ((List.range 8).map (fun g => b2n (level g) * 2 ^ g)) } }
/-- EOD and EOC of a string as its valid cells and its reserves give them; while a cycle is RUNNING no EOD comes from counted
charge, and one declared before is cleared (07 R171, R172, R176; log 168). -/
def judge (s : State) (n : Nat) : State :=
  let x := strSet s n
  let l := lstr s n
  let cells := ((strCells s n).map (fun c => lcell s c)).filter (fun c => c.valid)
  let open_ := l.lc == .armed || l.lc == .running
  let top : Int := if open_ then 0 else x.resTop
  let any := fun (p : LCell → Bool) => cells.any p
  let all := fun (p : LCell → Bool) => cells.all p
  let q := fun (c : LCell) => c.qRem * 10000
  let f := fun (c : LCell) (r : Int) => r * (capUc c : Int)
  let eod : Option Bool :=
    if cells.isEmpty then none
    else if l.lc == .running then some false
    else if any (fun c => decide (q c ≤ f c x.resBot)) then some true
    else if all (fun c => decide (f c (x.resBot + 100) ≤ q c)) then some false
    else some (l.eod.getD false)
  let eoc : Option Bool :=
    if cells.isEmpty then none
    else if any (fun c => decide (f c (10000 - top) ≤ q c)) then some true
    else if all (fun c => decide (q c ≤ f c (9900 - top))) then some false
    else some (l.eoc.getD false)
  if eod = l.eod && eoc = l.eoc then s
  else
    let s := updStr s n (fun l => { l with eod := eod, eoc := eoc })
    driveGpio (raiseEvent s 0 0x03E0 (leBytes 1 n ++ leBytes 1 (strFlags (lstr s n))))

/-! ### Learning cycles (07 7.5) -/

/-- LC_END. -/
def lcEvent (s : State) (n : Nat) : State :=
  let code := match (lstr s n).lc with | .idle => 0 | .armed => 1 | .running => 2 | .done => 3 | .disqualified => 4
  raiseEvent s 0 0x03E1 (leBytes 1 n ++ leBytes 1 code ++ leBytes 1 (lstr s n).lcReason)
/-- LC_STATE (07 Table 7-4). -/
def lcCode : LcSt → Nat
  | .idle => 0 | .armed => 1 | .running => 2 | .done => 3 | .disqualified => 4
/-- The codes that disqualify an ARMED cycle (07 R178). -/
def armedCode (c : Nat) : Bool := c == 8 || c == 9 || c == 10 || c == 12 || c == 13
/-- An entry of the Ledger's log. -/
def ledgerNote (s : State) (e : LedgerNote) : State := { s with ledger := { s.ledger with log := s.ledger.log ++ [e] } }
/-- The state of a cycle for the reasons of the sweep in hand: one disqualified in this sweep counts as before (07 R178). -/
def lcLive (s : State) (n : Nat) : LcSt :=
  let l := lstr s n
  match l.lc, l.lcEnd with
  | .disqualified, some (k, was) => if k = (s.pair (strSet s n).pair).k then was else .disqualified
  | x, _ => x
/-- A cycle is disqualified for the lowest of the reasons that apply to its state, each of which is logged; the reserves apply
again at once. A reason of the same sweep that comes later is logged, and recorded where it is lower (07 R176, R178). -/
def disqualify (s : State) (n : Nat) (codes : List Nat) : State :=
  let l := lstr s n
  let was := lcLive s n
  let mine := if was == .running then codes else if was == .armed then codes.filter armedCode else []
  match mine with
  | [] => s
  | c :: cs =>
    let low := cs.foldl min c
    let s := mine.foldl (fun s c => ledgerNote s (.reason n c s.now)) s
    if l.lc == .disqualified then (if low < l.lcReason then lcEvent (updStr s n (fun l => { l with lcReason := low })) n else s)
    else
      let s := updStr s n (fun l => { l with lc := .disqualified, lcReason := low, lcEnd := some ((s.pair (strSet s n).pair).k, was) })
      let s := (strCells s n).foldl (fun s c => updCell s c (fun x => { x with cyc := false })) s
      judge (lcEvent s n) n
/-- An ARMED string enters RUNNING at its first full anchor (07 R177). -/
def enterRunning (s : State) (n : Nat) : State :=
  if (lstr s n).lc != .armed then s
  else
    let s := (strCells s n).foldl (fun s c => updCell s c (fun x => { x with cycBal := 0 })) s
    updStr s n (fun l => { l with
      lc := .running, lcReason := 0, lcAt := s.now, lcDisch := false, lcTmin := none, lcTmaxSeen := none, tempAt := s.now
      lcAbsQ := 0, lcPeak := 0, restSince := if l.flow == .rest then some s.now else none, lcRecharge := 0 })

/-! ### Anchors (07 7.2) -/

/-- An entry of the anchor log with its check value (20 R464). -/
def anchorLog (s : State) (n kind cells : Nat) : State :=
  let seq := ((s.pair (strSet s n).pair).curSeq).getD 0
  let nx := kaField s 0x2850 1 % 63
  let ct := kaField s 0x2851 1
  let s := kaPut s (0x2858 + 8 * nx)
    (leBytes 1 (n + 64 * kind) ++ leBytes 1 (min 255 cells) ++ leBytes 2 seq ++ leBytes 4 (rtc s / 32768 % 4294967296))
  let s := kaPut s 0x2850 (leBytes 1 ((nx + 1) % 63) ++ leBytes 1 (min 63 (ct + 1)) ++ zeros 2)
  kaPut s 0x2854 (leBytes 4 (crc32 (kaBytes s 0x2858 504)))
/-- A cell takes an anchor (07 R169; 13 R313). -/
def takeAnchor (s : State) (c kind : Nat) (q : Int) : State :=
  let s := updCell s c (fun x => { x with
    qRem := q, a := 0, uX := 0, uOfs := 0, anchorAt := some s.now, anchorOlder := 0, kind := kind, valid := true, adj := 0 })
  let f := fun (a : AssayCell) => { a with
    dis := 0, cls := if a.cls = 1 then 0 else a.cls, evtWant := a.evtWant || a.cls == 1, reanchoring := false, raCapped := false }
  { s with assayer := { s.assayer with cells := s.assayer.cells.map (fun (e : Nat × AssayCell) =>
      if e.1 = c then (e.1, f e.2) else e) } }
/-- Full anchors of cells of one string: Q_REM is C_L; a cycle that waits for them begins (07 R169, R177). -/
def fullAnchors (s : State) (n kind : Nat) (cells : List Nat) : State :=
  if cells.isEmpty then s
  else
    let s := enterRunning s n
    let cyc := (lstr s n).lc == .running && !(lstr s n).lcDisch
    let s := cells.foldl (fun s c =>
      let s := takeAnchor s c kind (capUc (lcell s c))
      updCell s c (fun x => { x with taperSince := if kind = 1 then some s.now else x.taperSince, taperHit := false
                                     cyc := cyc || x.cyc, d := if cyc then 0 else x.d })) s
    judge (anchorLog s n kind cells.length) n

/-! ### Capacity update (07 7.6) -/

/-- New capacity of an empty-anchored cell; none where the measurement is implausible (07 R181). -/
def learnedEmpty (x : StrSet) (cL : Nat) (cM : Int) : Option Nat :=
  if cM * 2 < x.cNom || 12 * x.cNom < cM * 10 then none
  else
    let step := clampInt (-(5 * cL : Int)) (5 * cL) (100 * (cM - cL))
    some (divRoundAway (1600 * (cL : Int) + x.capGain * step) 1600).toNat
/-- New capacity of a cell whose discharge is a lower bound (07 R181). -/
def learnedBound (x : StrSet) (cL : Nat) (d : Int) : Nat :=
  if d ≤ cL then cL
  else (divRoundAway (min (100 * d) (min (105 * cL) (120 * x.cNom))) 100).toNat
/-- Capacity update of the cells anchored in a completed cycle; CAP_IMPLAUSIBLE reports C_M as an unsigned capacity
(07 R179, R181, R182; 00 R6). -/
def updateCap (s : State) (n : Nat) (emptied : List Nat) : State :=
  let x := strSet s n
  (strCells s n).foldl (fun s c =>
    let k := lcell s c
    if !k.cyc then s
    else
      let excluded := decide (capUc k < 100 * k.cycBal)
      let cM := toUnits k.d
      let em := emptied.contains c
      let r : Option Nat := if em then learnedEmpty x k.cL cM else some (learnedBound x k.cL cM)
      let s := if !excluded && r.isNone then raiseEvent s 0 0x03E3 (leBytes 2 c ++ leBytes 4 (clampInt 0 0xFFFFFFFE cM).toNat) else s
      let cL := if excluded then k.cL else r.getD k.cL
      updCell s c (fun k => { k with cL := cL, qRem := if em then 0 else (cL * 360000 : Nat) - k.d, cyc := false })) s

/-! ### Module swap and reset (07 7.7, R185) -/

/-- Streams that a cell feeds start anew (07 R184). -/
def resetFed (s : State) (c : Nat) : State := match fedBy s c with
  | some n => setReset s n
  | none => s
/-- KA record of a member and its check value. -/
def storeMember (s : State) (i : Nat) : State := storeSetting s (kaMember i) (memberBytes (lmem s i))
/-- A module swap: a new identity is in place, its serial number where that has been read, and a snapshot follows
(07 R184, 20 R467). -/
def moduleSwap (s : State) (p h modid : Nat) (serial : Option Nat) : State :=
  let i := memNo p h
  let n := strOfMember s i
  let cNom := match n with | some k => (strSet s k).cNom | none => 1000000
  let s := (memberCells s i).foldl (fun s c =>
    resetFed (updCell (invalidate s c) c (fun x => { x with cL := cNom })) c) s
  let s := match n with | some k => judge (disqualify s k [9]) k | none => s
  let s := updMem s i (fun m => { m with modid := modid, serial := serial.getD 0, absent := false, absentSince := none })
  let s := askSnapshot (storeMember s i) 2
  let s := toMember s p h (.thMap i) 6 (readPl 0x0017 5)
  let s := toMember s p h (.modidAck i) 0xC (leBytes 1 4 ++ leBytes 1 0)
  raiseEvent s 0 0x03E4 (leBytes 1 p ++ leBytes 1 (if (s.pair p).mode == .direct then 0 else h) ++ leBytes 2 (i * 18))
/-- Ledger reset of a string (07 R185). -/
def resetString (s : State) (n : Nat) (capacity : Bool) : State :=
  let s := (strCells s n).foldl (fun s c =>
    let s := invalidate s c
    if capacity then updCell s c (fun x => { x with cL := (strSet s n).cNom }) else s) s
  judge (disqualify s n [9]) n

end Sys2Proof.Machine
end

