-- ==== Sys2Proof/Machine/LedgerCount.lean ====
section
/-! DEFINITION. What the Ledger takes from a RECORD: the head's charge packet, the member's balance counters, identity, wiring
and gate state (07 R161 to R164, R183, R184; 06 R153; 16 R395). -/

namespace Sys2Proof.Machine

/-! ### Fields of a record (03 Tables 3-6, 3-7; 04 Tables 4-4, 4-5; 05 Table 5-3) -/

/-- SFLAGS. -/
def recFlags (b : List Byte) : Nat := leAt b 2 2
/-- The record is NOT_SAMPLED. -/
def notSampled (b : List Byte) : Bool := natBit (recFlags b) 9
/-- It carries WOKE. -/
def recWoke (b : List Byte) : Bool := natBit (recFlags b) 10
/-- It carries a current section. -/
def recHead (b : List Byte) : Bool := natBit (recFlags b) 8
/-- Offset of its balance section, where it has one. -/
def balAt (b : List Byte) : Option Nat := if natBit (recFlags b) 4 then some (if recHead b then 102 else 70) else none
/-- HFLAGS. -/
def recHflags (b : List Byte) : Nat := leAt b 88 2
/-- BAL_FLAGS, 0 without a balance section. -/
def recBalFlags (b : List Byte) : Nat := match balAt b with | some o => leAt b (o + 20) 2 | none => 0

/-! ### Head records (07 R161 to R163) -/

/-- CAL_FROZEN has been set for more than 60 s. -/
def frozen60 (s : State) (l : LString) : Bool := match l.frozenSince with
  | some a => decide (a + 2880000000 < s.now)
  | none => false
/-- The learning cycle's sums take a counted record; the reasons that then apply (07 Table 7-5). -/
def lcCount (s : State) (n : Nat) (dq i : Int) (dn : Nat) (hf : Nat) : State :=
  let x := strSet s n
  if lcLive s n != .running && lcLive s n != .armed then s
  else
    let cs := (refCap s n).getD 0
    let fl := flowOf x i
    let s := updStr s n (fun l => { l with
      lcAbsQ := l.lcAbsQ + dq.natAbs, lcPeak := if 10 * i.natAbs > cs then l.lcPeak + dn else l.lcPeak
      restSince := if fl == .rest then (match l.restSince with | some a => some a | none => some s.now) else none
      lcRecharge := if l.lcDisch && 0 < dq then l.lcRecharge + dq.toNat else l.lcRecharge
      lcDisch := l.lcDisch || fl == .discharging })
    let l := lstr s n
    disqualify s n ((if 240000 < l.lcPeak then [5] else []) ++ (if cs * 7200 < l.lcRecharge then [7] else [])
      ++ (if natBit hf 1 || natBit hf 3 then [10] else []))
/-- Charge of a head record counted into every cell of the string (07 R161, R162, R173). -/
def countHead (s : State) (n : Nat) (b : List Byte) (dq : Int) (dn gap : Nat) : State :=
  let x := strSet s n
  let hf := recHflags b
  let v := vOfs (natBit hf 3) (frozen60 s (lstr s n)) (natBit hf 0)
  let ofs := ceilDiv (v * dn * 25000) (max 1 x.shunt)
  let extra := if natBit hf 1 then dq.natAbs else 0
  let s := (strCells s n).foldl (fun s c =>
    updCell (addCharge s c dq false) c (fun k => { k with uOfs := k.uOfs + ofs, uX := k.uX + gap + extra })) s
  lcCount (updStr s n (fun l => { l with vOfs := v })) n dq (sleAt b 82 4) dn hf
/-- A counted record leaves its totals, its current and its time. -/
def headSeen (s : State) (n : Nat) (b : List Byte) : State :=
  let x := strSet s n
  let hf := recHflags b
  let i := sleAt b 82 4
  let fl := flowOf x i
  updStr s n (fun l => { l with
    qLast := some (sleAt b 70 8, leAt b 78 4), seqLast := some (leAt b 0 2), iLast := some i, iAt := s.now
    iAlign := if natBit hf 11 then none else some i, flow := fl, counted := true, lgOvr := natBit hf 1, recAt := s.now
    chargedAt := if fl == .charging then some s.now else l.chargedAt })
/-- GATE_ST of a head's record; a change is told (16 R395). -/
def headGateIn (s : State) (n : Nat) (b : List Byte) : State :=
  let gate := leAt b 96 1
  let changed := match (lstr s n).gateSt with | some g => g % 8 != gate % 8 | none => false
  let s := updStr s n (fun l => { l with gateSt := some gate })
  if changed then raiseEvent s 0 0x08E0 (leBytes 1 n ++ leBytes 1 gate) else s
/-- A record that is counted: Ledger settings written before it take effect, HFLAGS are kept, and gate open cause 4
disqualifies a learning cycle (07 R160, Table 7-3, Table 7-5 code 8). -/
def headFlagsIn (s : State) (n : Nat) (b : List Byte) : State :=
  let hf := recHflags b
  let gate := leAt b 96 1
  let s := updStr s n (fun l => { l with
    held := none, hflags := hf
    frozenSince := if natBit hf 2 then (match l.frozenSince with | some a => some a | none => some s.now) else none })
  if gate % 8 = 0 && gate / 8 % 16 = 4 then disqualify s n [8] else s
/-- Whether a head's record is no newer than the last one counted. -/
def headOlder (l : LString) (b : List Byte) : Bool :=
  match l.qLast, l.seqLast with
  | some _, some q0 => let d := after16 (leAt b 0 2) q0; d == 0 || decide (32768 ≤ d)
  | _, _ => false
/-- The charge a head's record accounts for, against what the string last knew (`l`). -/
def headCountIn (s : State) (n : Nat) (b : List Byte) (l : LString) : State :=
  let q := sleAt b 70 8
  let nc := leAt b 78 4
  let i := sleAt b 82 4
  if recWoke b || natBit (recHflags b) 10 then
    let s := headFlagsIn s n b
    let span := (s.now - l.iAt) - min (s.now - l.iAt) (nc * 12000)
    let gap := match l.iLast with
      | some i0 => chargeOver (max i0.natAbs i.natAbs) span
      | none => 0
    disqualify (headSeen (countHead s n b q nc gap) n b) n [8]
  else
    match l.qLast with
    | none =>
      let s := headFlagsIn s n b
      let u := match l.iLast with | some _ => chargeOver i.natAbs (s.now - l.iAt) | none => 0
      let s := (strCells s n).foldl (fun s c => if (lcell s c).valid then addUx s c u else s) s
      disqualify (headSeen s n b) n [8]
    | some (q0, n0) =>
      let dn := (nc + 2 ^ 32 - n0) % 2 ^ 32
      if dn = 0 || 2 ^ 31 ≤ dn then s else headSeen (countHead (headFlagsIn s n b) n b (q - q0) dn 0) n b
/-- The Ledger takes the head record of a string: one whose SEQ is not newer is ignored, one that is NOT_SAMPLED shows its
GATE_ST alone (07 R161, 16 R395). -/
def headRecordIn (s : State) (n : Nat) (b : List Byte) : State :=
  let l := lstr s n
  if headOlder l b then s
  else
    let s := headGateIn s n b
    if notSampled b then s else headCountIn s n b l

/-! ### Balance counters (07 R164) -/

/-- Balance charge of a member: the change of a cell's own counter and of the module's. -/
def addBalance (s : State) (i k : Nat) (dqb : Int) : State :=
  if dqb = 0 then s else addUx (addCharge s (i * 18 + k) dqb true) (i * 18 + k) (ceilDiv (3 * dqb.natAbs) 100 + 50)
/-- Balance charge of every used cell of a module. -/
def addModule (s : State) (i : Nat) (dqmb : Int) : State :=
  if dqmb = 0 then s else (memberCells s i).foldl (fun s c => addCharge s c dqmb true) s
/-- Difference of 48-bit running totals. -/
def diff48 (a b : Int) : Int := signed 48 (pattern 48 (a - b))
/-- A counter of cell k (from 0) becomes v: its change is counted where a baseline is known. -/
def qbTo (s : State) (i k : Nat) (v : Int) : State :=
  let m := lmem s i
  let s := if natBit m.qbKnown k then addBalance s i k (diff48 v (m.qb.getD k 0)) else s
  updMem s i (fun m => { m with qb := modAt m.qb k (fun _ => v), qbKnown := setBit m.qbKnown k true })
/-- QMB becomes v. -/
def qmbTo (s : State) (i : Nat) (v : Int) : State :=
  let m := lmem s i
  let s := if m.counted then addModule s i (diff48 v m.qmb) else s
  updMem s i (fun m => { m with qmb := v, counted := true })
/-- A read of a member's balance counters waits or is outstanding. -/
def balAsked (s : State) (i : Nat) : Bool :=
  let q := s.pair (i / 32)
  let mine := fun (c : ChainCmd) => c.origin == .balRead i
  let on := fun (c : ChainPort) => c.queue.any mine || (match c.out with | some o => mine o.cmd | none => false)
  on q.portA || on q.portB
/-- The balance counters of a member are to be read in the next command window (07 R164). -/
def askBalance (s : State) (i : Nat) : State :=
  if balAsked s i then s else byPos s (i / 32) (i % 32 + 1) (.balRead i) 6 (readPl 0x0060 57)
/-- I_SET of the newest schedule entry sent for a cell, 0 where none is known (07 R164). -/
def sentSet (l : List (Nat × Nat)) (cell : Nat) : Nat := match l.find? (fun e => e.1 == cell) with | some e => e.2 | none => 0
/-- A member restarts its balance counters: they count from zero; the gap term goes to the cell of the transfer that the last
counted record showed in progress, and the transfer log is read for one that began later (07 R163, R164; log 171). -/
def balanceRestart (s : State) (i : Nat) : State :=
  let m := lmem s i
  let gap := s.now - m.lastAt
  let cell := if m.balOn && decide (1 ≤ m.balCell) && decide (m.balCell ≤ 18) then m.balCell else 0
  let s := if cell = 0 then s else addUx s (i * 18 + cell - 1) (chargeOver (sentSet m.sent cell) gap)
  let s := if m.sent.isEmpty then s else byPos s (i / 32) (i % 32 + 1) (.tlog i) 6 (readPl 0x00A0 2)
  updMem s i (fun m => { m with counted := true, qbKnown := 2 ^ 18 - 1, qb := List.replicate 18 0, qmb := 0, xferId := 0
                                balCell := 0, sent := [], balOn := false, gapFor := gap, gapId := m.xferId, gapSent := m.sent
                                gapCell := cell, restoreRead := false })
/-- TLOG_0 after a restart: where it holds a transfer that ended after the last counted record, of another cell than the one
that took the gap term, that cell takes it (07 R164, 05 R112). -/
def tlogRead (s : State) (i : Nat) (ws : List Nat) : State :=
  let m := lmem s i
  let w := ws.getD 1 0
  let cell := w % 32
  let d := after16 (ws.getD 0 0) m.gapId
  if natBit w 15 && 0 < d && d < 32768 && 1 ≤ cell && cell ≤ 18 && cell != m.gapCell then
    addUx s (i * 18 + cell - 1) (chargeOver (sentSet m.gapSent cell) m.gapFor)
  else s
/-- The Ledger takes a member's balance section, and a restart of its counters (07 R163, R164). -/
def balanceIn (s : State) (i : Nat) (b : List Byte) : State :=
  let s := if recWoke b then balanceRestart s i else s
  match balAt b with
  | none => s
  | some o =>
    let k := leAt b o 1 % 32
    let x := leAt b (o + 2) 2
    let m := lmem s i
    let unseen := m.needRead || (m.counted && decide (1 < after16 x m.xferId)) || (m.balCell != k && !recWoke b)
    let s := if 1 ≤ k && k ≤ 18 then qbTo s i (k - 1) (sleAt b (o + 8) 6) else s
    let s := qmbTo s i (sleAt b (o + 14) 6)
    let s := updMem s i (fun m => { m with
      xferId := x, balCell := k, balOn := leAt b (o + 1) 1 % 8 != 0, needRead := unseen })
    if unseen then askBalance s i else s
/-- Words of a member's counters from 0x0060 on, read in the next command window (07 R164). -/
def balanceRead (s : State) (i : Nat) (ws : List Nat) : State :=
  let v := fun (j : Nat) => signed 48 (ws.getD j 0 + ws.getD (j + 1) 0 * 65536 + ws.getD (j + 2) 0 * 4294967296)
  let s := (List.range (min 18 (lmem s i).nCells)).foldl (fun s k => qbTo s i k (v (3 * k))) s
  updMem (qmbTo s i (v 54)) i (fun m => { m with needRead := false })
/-- The reads of a restore: counters and transfer log from 0x0060 on (20 R466). -/
def restoreRead (s : State) (i : Nat) (ws : List Nat) : State :=
  let m := lmem s i
  let v := fun (j : Nat) => signed 48 (ws.getD j 0 + ws.getD (j + 1) 0 * 65536 + ws.getD (j + 2) 0 * 4294967296)
  let xid := ws.getD 57 0
  let logs := (List.range 4).filterMap (fun j =>
    let o := 64 + 8 * j
    let w := ws.getD (o + 1) 0
    let d := after16 (ws.getD o 0) m.xferId
    if natBit w 15 && 0 < d && d < 32768 then some (w % 32, signed 32 (ws.getD (o + 2) 0 + ws.getD (o + 3) 0 * 65536)) else none)
  let s := qmbTo s i (v 54)
  let s := if 1 ≤ m.balCell then qbTo s i (m.balCell - 1) (v (3 * (m.balCell - 1))) else s
  let s := logs.foldl (fun s e => if 1 ≤ e.1 && e.1 ≤ 18 && e.1 != m.balCell then addBalance s i (e.1 - 1) e.2 else s) s
  let comm := match strOfMember s i with | some n => (strSet s n).tComm | none => 8
  let tb := if s.ledger.restoreJournal then 4 * s.ledger.restoreAge + comm else 240 + comm
  let s := if logs.length < after16 xid m.xferId && after16 xid m.xferId < 32768 then
      (memberCells s i).foldl (fun s c => addUx s c (525000 * tb)) s else s
  let s := (List.range 18).foldl (fun s k =>
    updMem s i (fun m => { m with qb := modAt m.qb k (fun _ => v (3 * k)), qbKnown := setBit m.qbKnown k true })) s
  updMem s i (fun m => { m with xferId := xid, restoreRead := false })

/-! ### Identity, wiring, settings -/

/-- Codes of the inputs that are enabled: THSTAT without UNUSED. -/
def thCodes (b : List Byte) : List Nat := ((List.range 8).map (fun i => leAt b 60 2 / 4 ^ i % 4)).filter (· != 3)
/-- A record shows absence: every enabled input ABSENT (07 R183). -/
def showsAbsent (b : List Byte) : Bool := let l := thCodes b; !l.isEmpty && l.all (· == 1)
/-- A record shows presence: an enabled input OK, or none enabled. -/
def showsPresent (b : List Byte) : Bool := let l := thCodes b; l.isEmpty || l.any (· == 0)
/-- The serial number is read (07 R183). -/
def readSerial (s : State) (p h : Nat) : State := byPos s p h (.serial (memNo p h)) 6 (readPl 0x0002 4)
/-- Swap detection on a record (07 R183). -/
def watchSwap (s : State) (p h : Nat) (b : List Byte) : State :=
  let i := memNo p h
  let m := lmem s i
  let st := leAt b 68 1
  if notSampled b then s
  else if m.serial = 0 && m.modid = 0 && !m.stored then readSerial (updMem s i (fun m => { m with modid := st })) p h
  else if !natBit st 5 && st != m.modid then readSerial (moduleSwap s p h st none) p h
  else if showsAbsent b then lostMember s i
  else if showsPresent b then
    let s := updMem s i (fun m => { m with absentSince := none })
    if m.absent then readSerial s p h else s
  else s
/-- WIRING flags of a record: MASK_MISMATCH, SEL_FAULT, PRI_OC, MEAS_FAULT as codes 0 to 3 (16 Table 16-12). -/
def wiringOf (b : List Byte) : Nat :=
  let f := recFlags b
  let g := recBalFlags b
  b2n (natBit f 11) + b2n (natBit g 2) * 2 + b2n (natBit g 3) * 4 + b2n (natBit f 3) * 8
/-- A wiring flag that appears is reported (16 Table 16-12, 21 Table 21-3). -/
def watchWiring (s : State) (p h : Nat) (b : List Byte) : State :=
  let i := memNo p h
  let was := (lmem s i).wiring
  let now := wiringOf b
  let id := if (s.pair p).mode == .direct then 0 else h
  let s := (List.range 4).foldl (fun s f =>
    if natBit now f && !natBit was f then
      let d := leBytes 1 id ++ leBytes 1 f
      logFault (raiseEvent s 0 0x02E5 (leBytes 1 p ++ d)) 0x0204 2 false 0xFF 1 p d
    else s) s
  updMem s i (fun m => { m with wiring := now })
/-- After a record with WOKE its ID is checked and its settings are written back (06 R153). -/
def afterWoke (s : State) (p h : Nat) : State :=
  let s := if (s.pair p).mode == .direct then s else checkId s p (sideOf (s.pair p) h) h false
  readSerial (writeBack s p h) p h
/-- The Ledger and the chain take a good record of member h (06 R145). -/
def takeRecord (s : State) (p h : Nat) (b : List Byte) : State :=
  let i := memNo p h
  let back := !memReached (lmem s i)
  let s := updMem s i (fun m => { m with reached := true, unresponsive := false })
  let s := if showsAbsent b || notSampled b then s else updMem s i (fun m => { m with absentSince := none })
  let s := if back then readSerial s p h else s
  let s := watchSwap s p h b
  let s := watchWiring s p h b
  let s := match strOfMember s i with
    | some n =>
      let s := if recHead b && (strSet s n).head = h then headRecordIn s n b else s
      if notSampled b then s else balanceIn s i b
    | none => s
  let s := updMem s i (fun m => { m with lastAt := s.now })
  if recWoke b then afterWoke s p h else s

end Sys2Proof.Machine
end

