-- ==== Sys2Proof/Machine/Feeder.lean ====
section
/-! DEFINITION. The close of a sweep's collection: the feeder's input entries (11 11.4), the Ledger values handed to the Assayer
(07 R165, 13 R307), anchor conditions and cycle temperatures (07 R167, R170, Table 7-5). -/

namespace Sys2Proof.Machine

/-! ### Numbers -/

/-- BF16 of a rational by nearest, ties to even (11 R275, 09 R213). -/
def bf16Rat (n : Int) (d : Nat) : Nat :=
  let m := n.natAbs * 2 ^ 64 / max 1 d
  let sticky := if n.natAbs * 2 ^ 64 % max 1 d = 0 then 0 else 1
  (toBf16 .nearest (.fin (decide (n < 0)) (2 * m + sticky) (-65))).bits

/-! ### What a sweep holds of a cell -/

/-- The record of a member in the sweep in progress. -/
def recOf (q : Pair) (h : Nat) : Option (List Byte) := (q.got.find? (fun e => e.1 == h)).map (·.2)
/-- The record in which a sweep ran. -/
def sampledOf (q : Pair) (h : Nat) : Option (List Byte) := (recOf q h).bind (fun b => if notSampled b then none else some b)
/-- Thermistor codes of THSTAT. -/
def thCode (b : List Byte) (i : Nat) : Nat := leAt b 60 2 / 4 ^ i % 4
/-- Inputs that are OK. -/
def okInputs (b : List Byte) : List Nat := (List.range 8).filter (fun i => thCode b i == 0)
/-- Temperature of a cell (03 R68): its mapped input, or the OK input nearest in index, substituted. -/
def cellTemp (m : Member) (k : Nat) (b : List Byte) : Option (Int × Bool) :=
  let i := m.thMap.getD k 0xF
  if 8 ≤ i then none
  else if thCode b i = 0 then some (sleAt b (44 + 2 * i) 2, false)
  else
    let far := fun (j : Nat) => max i j - min i j
    match (okInputs b).foldl (fun (a : Option Nat) j => match a with
        | some x => if far j < far x then some j else some x
        | none => some j) none with
    | some j => some (sleAt b (44 + 2 * j) 2, true)
    | none => none
/-- Cell voltage of a record, where it is valid. -/
def cellVolt (b : List Byte) (k : Nat) : Option Nat := let v := leAt b (4 + 2 * k) 2; if v = 0xFFFF then none else some v
/-- Mean of the used cells' valid voltages: sum and count. -/
def meanVolt (m : Member) (b : List Byte) : Nat × Nat :=
  let vs := (List.range m.nCells).filterMap (fun k => cellVolt b k)
  (sumNat vs, vs.length)
/-- A member's t_start in the sweep against that of member 1 or of its port's first member, in units of 0.01 microsecond, but for its
skew (03 3.3). A sweep with members triggered late began in a whole ring, from port A. -/
def startOf (q : Pair) (h : Nat) : Int :=
  match q.st with
  | .direct => 0
  | .split => if !q.skew.isEmpty then 95 * (h - 1 : Int) else if h ≤ q.hA then 95 * (h - 1 : Int) else 95 * (q.nExp - h : Int)
  | _ => 95 * (h - 1 : Int)

/-! ### Input entries (11 Table 11-4) -/

/-- Flags of lane 15. -/
def feedFlags (q : Pair) (h : Nat) (rc head : Option (List Byte)) (counted : Bool) (temp : Option (Int × Bool)) : Nat :=
  let f := match rc with | some b => recFlags b | none => 0
  b2n (q.skew.any (fun e => e.1 == h)) + b2n rc.isNone * 2 + b2n (natBit f 0) * 4
    + b2n (match temp with | some t => t.2 | none => false) * 8 + b2n temp.isNone * 16
    + b2n (!counted || (match head with | some b => natBit (recHflags b) 11 | none => true)) * 32
    + b2n (natBit f 4) * 64 + b2n (natBit f 3) * 128 + b2n (natBit f 10) * 256
/-- The entry of a fed cell for the sweep in progress. -/
def feedEntry (s : State) (p : Nat) (c : Nat) (fd : Feed) (at_ : Nat) : List Nat :=
  let q := s.pair p
  let h := c / 18 % 32 + 1
  let k := c % 18
  let m := lmem s (c / 18)
  let n := strOfMember s (c / 18)
  let rc := if n.isSome then sampledOf q h else none
  let headNo := match n with | some i => (strSet s i).head | none => 0
  let head := if headNo = 0 then none else sampledOf q headNo
  let counted := match n with | some i => (lstr s i).counted | none => false
  let temp := rc.bind (fun b => cellTemp m k b)
  let fl := feedFlags q h rc head counted temp
  let noCur := natBit fl 5
  let last := fun (i : Nat) => fd.last.getD i 0
  let volt := rc.bind (fun b => cellVolt b k)
  let dt : Nat := match fd.at_ with | some a => at_ - a | none => 0
  let mean := match rc with | some b => meanVolt m b | none => (0, 0)
  let oks := match rc with | some b => (okInputs b).map (fun i => sleAt b (44 + 2 * i) 2) | none => []
  let cap := (lcell s c).cL
  let cNom := match n with | some i => (strSet s i).cNom | none => 1000000
  let skewOf := fun (m : Nat) => (((q.skew.find? (fun e => e.1 == m)).map (·.2)).getD 0 : Int)
  let l0 := match volt with | some v => bf16Rat v 10000 | none => last 0
  let l1 := match head with | some b => if noCur then last 1 else bf16Rat (sleAt b 82 4) 1000 | none => last 1
  let l2 := match temp with | some t => bf16Rat t.1 10 | none => last 2
  let l6 := match volt, fd.volt with
    | some v, some w => bf16Rat ((v : Int) - w) 10000
    | some _, none => 0
    | none, _ => last 6
  let l8 := match rc, head with
    | some _, some b =>
      if noCur then last 8
      else bf16Rat (400 * (k + 1 : Int) + 300 + startOf q h - startOf q headNo - 4100 - 10 * sleAt b 86 2 + skewOf h - skewOf headNo) 100000
    | _, _ => last 8
  [l0, l1, l2, if dt = 0 then 0 else bf16Rat (fd.bal * 48) dt, bf16Rat dt 48000000, bf16Rat fd.charge 3600000000, l6
   , if mean.2 = 0 then last 7 else bf16Rat mean.1 (10000 * mean.2), l8
   , if oks.isEmpty then last 9 else bf16Rat (sumInt oks) (10 * oks.length), bf16Rat fd.sweeps 1, bf16Rat cap cNom
   , (q.curSeq).getD 0, c, 0, fl]
/-- The feeder writes an entry, or restarts the stream where its queue is full (11 R273). -/
def feedWrite (s : State) (n : Nat) (entry : List Nat) (seq due k : Nat) : State :=
  let st := s.stream n
  if st.queue.length < st.qdepth then s.updStream n (fun x => { x with queue := x.queue ++ [entry] })
  else
    let s := cutRun (setBehind (setReset s n) n false) n true
    let s := s.updStream n (fun x => { x with
      queue := [entry], qhead := 0, overflow := true, lagUs := 0, eligOfs := 0, nomDue := due % 2 ^ 48
      fd := { x.fd with n0 := some k, fresh := none } })
    raiseEvent s st.tenant 0x04E2 (leBytes 2 n ++ leBytes 2 seq)
/-- The Ledger value of a cell for the sweep (13 R307): what the Assayer holds. -/
def heldOf (s : State) (p c : Nat) : Held :=
  let q := s.pair p
  let x := lcell s c
  let h := c / 18 % 32 + 1
  let n := strOfMember s (c / 18)
  let head := match n with
    | some i => let l := lstr s i; l.counted && (natBit l.hflags 3 || natBit l.hflags 1 || frozen60 s l)
    | none => false
  let g := match recOf q h with | some b => recBalFlags b | none => 0
  let rc := sampledOf q h
  let t := rc.bind (fun b => cellTemp (lmem s (c / 18)) (c % 18) b)
  { seq := (q.curSeq).getD 0, at_ := s.now, rtc := rtc s, skewed := q.skew.any (fun e => e.1 == h)
    tempSubst := match t with | some y => y.2 | none => false
    qRem := x.qRem, cL := x.cL, uC := uCof x, valid := x.valid
    current := n.bind (fun i => let l := lstr s i; if l.counted then l.iAlign else none)
    indicator := head || natBit g 2 || natBit g 3 }
/-- The Assayer holds the last 16 of a cell. -/
def holdValue (s : State) (c : Nat) (v : Held) : State :=
  let a := tblGet {} s.assayer.cells c
  { s with assayer := { s.assayer with cells := tblSet c { a with held := pushBounded 16 a.held v } s.assayer.cells } }
/-- A kept sweep with a new SWEEP_HZ: the period, PERIOD_US and the range of PHASE_US follow (11 R276). -/
def newPeriod (s : State) (n per : Nat) : State :=
  s.updStream n (fun x => if x.fd.per = per then x else
    { x with fd := { x.fd with per := per }, period := roundUs per, phase := clampNat 3100 (roundUs per - 100) x.phase })
/-- The queue is full when the feeder writes the next entry. -/
def queueFull (st : Stream) : Bool := decide (st.qdepth ≤ st.queue.length)
/-- The feeder writes a kept sweep's entry, or discards it while the scheduler is in reset. A restart's entry repeats nothing of the
sequence before it (11 R277). -/
def feedKept (s : State) (p n due k : Nat) : State :=
  let st := s.stream n
  let q := s.pair p
  let c := st.out % 2 ^ 30
  let at_ := q.sweepAt - s.sys.tbZero
  let fd := if st.fd.at_.isNone then { st.fd with sweeps := 0, charge := 0, bal := 0 } else st.fd
  let e := feedEntry s p c (if queueFull st then { fd with last := [] } else fd) at_
  let volt := (sampledOf q (c / 18 % 32 + 1)).bind (fun b => cellVolt b (c % 18))
  let s := crossOffer s 7 0 256
  if s.sys.computeUp && !s.sys.schedReset then
    (feedWrite s n e (e.getD 12 0) due k).updStream n (fun x => { x with fd := { x.fd with
      last := e, at_ := some at_, volt := volt.or x.fd.volt, sweeps := 0, charge := 0, bal := 0 } })
  else (crossDiscard s 7).updStream n (fun x => { x with fd := { x.fd with fresh := some 0 } })
/-- One FEED stream at the close of a sweep of its pair (11 R275 to R277). The sweep counts while it is paused too. NOM_DUE follows the
kept sweeps' nominal starts: it is set at the first, and where the grid has changed since the last one. -/
def feedStream (s : State) (p n : Nat) : State :=
  let q := s.pair p
  let s := s.updStream n (fun x => { x with fd := { x.fd with sweeps := x.fd.sweeps + 1 } })
  let st := s.stream n
  let k := q.k
  let kept := match st.fd.n0 with | some n0 => (k - n0) % max 1 st.decim == 0 | none => true
  let per := sweepPeriod q * max 1 st.decim
  if !st.den || !kept then s
  else
    let s := newPeriod s n per
    let st := s.stream n
    let due := q.due - s.sys.tbZero + st.phase * 48
    if (match st.fd.fresh with | some f => decide (due < f) | none => false) then s
    else
      let anew := st.fd.fresh.isSome || st.fd.n0.isNone || st.fd.due.map (· + per) != some due
      let s := s.updStream n (fun x => { x with
        nomDue := if anew then (due + 2 ^ 48 * x.queue.length * per - x.queue.length * per) % 2 ^ 48 else x.nomDue
        fd := { x.fd with n0 := x.fd.n0.or (some k), fresh := none, due := some due } })
      let c := st.out % 2 ^ 30
      holdValue (feedKept s p n due k) c (heldOf s p c)

/-! ### The Ledger at the close -/

/-- Voltage and temperature of a cell for the sweep; a voltage counts only where it is verified (07 R170). -/
def settleCell (s : State) (p c : Nat) : State :=
  let q := s.pair p
  let rc := sampledOf q (c / 18 % 32 + 1)
  let f := match rc with | some b => recFlags b | none => 0
  let t := rc.bind (fun b => cellTemp (lmem s (c / 18)) (c % 18) b)
  let v := rc.bind (fun b => cellVolt b (c % 18))
  updCell s c (fun x => { x with
    volt := if natBit f 0 || natBit f 3 then none else v, temp := t.map (·.1)
    flags := b2n (q.skew.any (fun e => e.1 == c / 18 % 32 + 1)) + b2n rc.isNone * 2
      + b2n (match t with | some y => y.2 | none => false) * 8 })
/-- Anchor conditions of a cell at a counted sweep (07 Table 7-2, R167, R170). -/
def anchorCond (s : State) (n c : Nat) : State :=
  let x := strSet s n
  let l := lstr s n
  match l.counted, (lcell s c).volt with
  | true, some v =>
    let taper := decide (x.vFull ≤ v) && (match l.iAlign with
      | some i => decide (-(x.iDb : Int) ≤ i) && decide (i ≤ x.iTaper)
      | none => false)
    let empty := decide (v ≤ x.vEmpty) && l.iAlign.isSome && l.flow == .discharging
    updCell s c (fun y => { y with
      taperSince := if taper then (match y.taperSince with | some a => some a | none => some s.now) else none
      taperHit := taper && (match y.taperSince with | some a => decide (a + 48000000 * x.tTaper ≤ s.now) | none => false)
      emptyCnt := if empty then min 16 (y.emptyCnt + 1) else 0 })
  | _, _ => updCell s c (fun y => { y with taperSince := none, taperHit := false, emptyCnt := 0 })
/-- Temperatures of a RUNNING cycle (07 Table 7-5, codes 1 and 2). -/
def lcTemps (s : State) (n : Nat) : State :=
  if lcLive s n != .running then s
  else
    let ts := (strCells s n).filterMap (fun c => (lcell s c).temp)
    match ts with
    | [] => s
    | t :: rest =>
      let lo := rest.foldl min t
      let hi := rest.foldl max t
      let s := updStr s n (fun l => { l with
        tempAt := s.now
        lcTmin := some (match l.lcTmin with | some v => min v lo | none => lo)
        lcTmaxSeen := some (match l.lcTmaxSeen with | some v => max v hi | none => hi) })
      let l := lstr s n
      disqualify s n ((if lo < 150 || 350 < hi then [1] else [])
        ++ (if 100 < (l.lcTmaxSeen.getD 0) - (l.lcTmin.getD 0) then [2] else []))
/-- A 10 s rule observes whether its current lies below the threshold (13 R323). -/
def disObserve (s : State) (d : DisState) (below : Bool) : DisState :=
  if d.since.isNone || d.below != below then { d with below := below, since := some s.now } else d
/-- Sums of the currents and of I_DB of the strings whose current is known, with the summaries a manager holds that are at
most 3 s old (13 R323, 18 R435). -/
def siteCurrent (s : State) : Option (Int × Nat) :=
  let own := (List.range 64).filterMap (fun n =>
    if strOn s n then (lstr s n).iRep.map (fun i => (i, (strSet s n).iDb)) else none)
  let far := if s.fabric.role == .manager then
      (s.fabric.sums.filter (fun x => decide (s.now ≤ x.at_ + 144000000))).flatMap (fun x =>
        x.recs.filterMap (fun r => if r.current = -2147483648 then none else some (r.current, r.iDb)))
    else []
  match own ++ far with
  | [] => none
  | l => some (sumInt (l.map (fun e => e.1)), sumNat (l.map (fun e => e.2)))
/-- The site's discharging rule takes the currents as they stand, once a string first configured has its first counted sweep
(13 R323). -/
def observeSite (s : State) : State := match s.assayer.siteFirst, siteCurrent s with
  | none, some (i, db) => { s with assayer := { s.assayer with siteDis := disObserve s s.assayer.siteDis (decide (i < -(db : Int))) } }
  | _, _ => s
/-- The discharging rules take a counted sweep of a string (13 R323). -/
def observe (s : State) (n : Nat) : State :=
  match (lstr s n).iRep with
  | none => s
  | some i =>
    let d := disObserve s (tblGet {} s.assayer.strDis n) (decide (i < -((strSet s n).iDb : Int)))
    observeSite { s with assayer := { s.assayer with
      strDis := tblSet n d s.assayer.strDis, siteFirst := if s.assayer.siteFirst = some n then none else s.assayer.siteFirst } }
/-- The latest Ledger value of a cell (13 R319). -/
def keepLast (s : State) (p c : Nat) : State :=
  let a := tblGet {} s.assayer.cells c
  { s with assayer := { s.assayer with cells := tblSet c { a with last := some (heldOf s p c) } s.assayer.cells } }
/-- A string at the close of a sweep of its pair. -/
def closeString (s : State) (p n : Nat) : State :=
  let x := strSet s n
  let cells := strCells s n
  let s := cells.foldl (fun s c => settleCell s p c) s
  let s := lcTemps s n
  let s := cells.foldl (fun s c => anchorCond s n c) s
  let s := updStr s n (fun l => { l with
    held := if x.head = 0 then none else l.held, headOk := l.counted, termDue := l.termDue || (l.termPending && l.counted), iRep := if l.counted then l.iAlign else none })
  let s := observe (cells.foldl (fun s c => keepLast s p c) s) n
  judge s n
/-- The FEED streams of a pair. -/
def fedStreams (s : State) (p : Nat) : List Nat :=
  s.sched.streams.filterMap (fun (e : Nat × Stream) =>
    if e.2.valid && e.2.feed && e.2.out % 2 ^ 30 / 576 == p then some e.1 else none)
/-- COLLECTION_CLOSE: the Ledger values and the input entries of the sweep are fixed (07 R165, 02 R45). -/
def closeSweep (s : State) (p : Nat) : State :=
  let q := s.pair p
  let s := (List.range 64).foldl (fun s n => if strOn s n && (strSet s n).pair = p then closeString s p n else s) s
  let s := (fedStreams s p).foldl (fun s n => feedStream s p n) s
  let late := decide (q.nextNom < min s.now q.closeAt)
  let noReads := fun (c : ChainPort) =>
    if q.st == .ring then { c with queue := c.queue.filter (fun x => match x.origin with | .retrieve _ _ => false | _ => true) } else c
  dueSnapshot (s.updPair p (fun q => { q with
    collecting := false, silent := false, damaged := false, lateCnt := if late then (q.lateCnt + 1) % 2 ^ 32 else q.lateCnt
    portA := noReads q.portA, portB := noReads q.portB }))

end Sys2Proof.Machine
end

