-- ==== Sys2Proof/Machine/ChainAck.lean ====
section
/-! DEFINITION. How an addressed chain command is sent, retried and completed (06 R138 to R141), what its answer does, and how
it appears in a mailbox response (16 R375 to R377, R382). -/

namespace Sys2Proof.Machine

/-! ### Mailbox responses of chain commands (16 Table 16-1) -/

/-- Mailbox status and REASON of an RSTAT; 0xFF stands for no response. -/
def ackMap (rs : Nat) : Nat × Nat :=
  if rs = 0 then (0, 0) else if rs = 1 then (1, 0) else if rs = 2 then (4, 0) else if rs = 3 then (2, 0x0E)
  else if rs = 5 then (4, 0) else if rs = 0xFF then (10, 0) else (9, 0)
/-- The request under way on a chain ends. -/
def endCurrent (s : State) (r : Req) (f : State → State) : State :=
  if s.foreman.current = some r then
    flushBad (f { s with foreman := { s.foreman with current := none, script := none } })
  else s
/-- A status that applies nothing, with RSTAT after the mask or alone (16 R375). -/
def chainFail (s : State) (r : Req) (st reason rs : Nat) (tail : List Byte) : State :=
  reply s r st reason 0 ((if st = 2 then leBytes 4 0 else []) ++ leBytes 1 rs ++ tail) []
/-- Clamp entries built from the words a Rumbe applied (15 Edges of 15.8). -/
def wordEntries (base reg : Nat) (req app : List Nat) : List ClampEntry :=
  (List.range req.length).filterMap (fun i =>
    let v := req.getD i 0
    let a := app.getD i v
    if a = v then none
    else some (base + 2 * i, if reg + i = 0x21 then 3 else if v < a then 1 else 2, a))
/-- Clamp entries of a setting group from the applied payload. -/
def fieldEntries (rules : List FieldRule) (req app : List Byte) : List ClampEntry :=
  rules.filterMap (fun r =>
    let c := clampKind r.kind (leAt req r.off r.size)
    let a := leAt app r.off r.size
    match r.kind with
    | .bits _ => none
    | _ => if a = leAt req r.off r.size then none else some (r.off, if c.2 = 0 then 4 else c.2, a))
/-- Clamp entries of BALANCE entries: I_SET, Q_TGT and T_MAX of each. -/
def balEntries (req : List Byte) (data : List Byte) (m : Nat) : List ClampEntry :=
  (List.range m).flatMap (fun i =>
    let o := 5 + 10 * i
    let e := 1 + 9 * i
    [(o + 2, 2, e + 1), (o + 4, 4, e + 3), (o + 8, 2, e + 7)].filterMap (fun f =>
      let v := leAt req f.1 f.2.1
      let a := leAt data f.2.2 f.2.1
      if a = v || 2 ≤ leAt data e 1 then none else some (f.1, if v < a then 1 else 2, a)))

/-! ### What Broros keeps of what it wrote (16 R377, 20 R461) -/

/-- Member number h of an address on a side. -/
def memberAt (s : State) (p : Nat) (sd : Side) (pos : Bool) (addr : Nat) : Nat :=
  let q := s.pair p
  if q.mode == .direct then (match sd with | .a => 1 | .b => 2)
  else match sd with
    | .a => addr
    | .b => if pos then q.nExp + 1 - addr else addr
/-- Words written to a member's registers: the settings of its KA record, and TH_MAP. -/
def keepWords (s : State) (i reg : Nat) (ws : List Nat) : State :=
  let m := lmem s i
  let w := fun (a d : Nat) => if reg ≤ a && a < reg + ws.length then ws.getD (a - reg) d else d
  let held := [0x10, 0x15, 0x16, 0x31, 0x32, 0x33].any (fun a => decide (reg ≤ a) && decide (a < reg + ws.length))
  let map0 := fun (k : Nat) (d : Nat) =>
    let a := 0x17 + k / 4
    if reg ≤ a && a < reg + ws.length then ws.getD (a - reg) 0 / 16 ^ (k % 4) % 16 else d
  let s := updMem s i (fun m => { m with thMap := (List.range 18).map (fun k => map0 k (m.thMap.getD k 0xF)) })
  if held then
    storeMember (updMem s i (fun _ => { lmem s i with
      stored := true, nCells := w 0x10 m.nCells, thEn := w 0x15 m.thEn, thBeta := w 0x16 m.thBeta, balNr := w 0x31 m.balNr
      balRcs := w 0x32 m.balRcs, balIpk := w 0x33 m.balIpk })) i
  else s
/-- TH_MAP as read: a nibble per cell (03 R67). -/
def thMapOf (ws : List Nat) : List Nat := (List.range 18).map (fun k => ws.getD (k / 4) 0 / 16 ^ (k % 4) % 16)

/-! ### Targets (16 R377) -/

/-- The port, MODE and ADDR of each copy that a target names, and its member; none for no object. -/
def target (s : State) (b : List Byte) (bcast : Bool) : Option (Nat × List (Side × Bool × Nat) × Nat) :=
  let p := byteAt b 0
  let form := byteAt b 1
  let a := byteAt b 2
  let q := s.pair p
  if 4 ≤ p || !pairFused s p || q.mode == .off || 2 < form && q.mode != .direct then none
  else if a = 0x3F then
    if bcast then some (p, (if q.st == .ring then [.a] else portsOn s p).map (fun sd => (sd, false, 0x3F)), 0) else none
  else if a = 0 || q.nExp < a then none
  else if q.mode == .direct then some (p, [(if a = 1 then .a else .b, true, 1)], a)
  else if form = 1 then some (p, [(.a, true, a)], a)
  else if form = 2 then some (p, [(.b, true, a)], q.nExp + 1 - a)
  else if q.st == .split && q.hA < a then some (p, [(.b, true, q.nExp + 1 - a)], a)
  else some (p, [(.a, false, a)], a)
/-- Foreman begins a chain command: it joins the queue of each port it leaves from. -/
def beginChain (s : State) (r : Req) (p : Nat) (dests : List (Side × Bool × Nat)) (type : Nat) (payload : List Byte) : State :=
  let s := { s with foreman := { s.foreman with current := some r } }
  dests.foldl (fun s t => enqueue s p t.1 { origin := .mailbox r, type := type, pos := t.2.1, addr := t.2.2, payload := payload }) s
/-- The member that a request with a target names. -/
def reqMember (s : State) (r : Req) : Option Nat := (target s r.payload false).map (fun t => memNo t.1 t.2.2)
/-- PORT_RESTORE frees the neighbour it faces (21 R491). -/
def portRestored (s : State) (r : Req) : State :=
  match target s r.payload false with
  | some (p, _, h) =>
    if byteAt r.payload 3 = 8 then
      let o := if byteAt r.payload 4 = 1 then h + 1 else h - 1
      if 1 ≤ o && o ≤ (s.pair p).nExp then updMem s (memNo p o) (fun m => { m with isolated := false }) else s
    else s
  | none => s
/-- Cell and applied I_SET of the BALANCE entries that were queued, newest first (07 R164). -/
def sentEntries (req : List Byte) (data : List Byte) (m : Nat) : List (Nat × Nat) :=
  ((List.range m).filterMap (fun i =>
    if 2 ≤ leAt data (1 + 9 * i) 1 then none else some (byteAt req (5 + 10 * i), leAt data (2 + 9 * i) 2))).reverse
/-- A mailbox chain command that its Rumbe applied. -/
def chainOk (s : State) (r : Req) (rs : Nat) (data : List Byte) : State :=
  let head := leBytes 1 rs
  if r.opcode = 0x0211 then
    let reg := leAt r.payload 3 2
    let req := wordsOf (r.payload.drop 5)
    let app := wordsOf data
    let s := match reqMember s r with | some i => keepWords s i reg app | none => s
    answer s r (head ++ data) (wordEntries 5 reg req app)
  else if r.opcode = 0x0230 then
    let m := byteAt r.payload 4
    let s := match reqMember s r with
      | some i => updMem s i (fun x => { x with sent := (sentEntries r.payload data m ++ x.sent).take 8 })
      | none => s
    answer s r (head ++ data) (balEntries r.payload data m)
  else if r.opcode = 0x0212 then answer (portRestored s r) r head
  else if r.opcode = 0x0820 || r.opcode = 0x0821 then answer s r head
  else if r.opcode = 0x0810 then answer s r (head ++ data.take 1)
  else answer s r (head ++ data)
/-- The answer of the Rumbe to a mailbox command. -/
def mailboxAck (s : State) (r : Req) (rs : Nat) (data : List Byte) : State :=
  endCurrent s r (fun s =>
    if rs ≤ 1 then chainOk s r rs data else let m := ackMap rs; chainFail s r m.1 m.2 rs [])

/-! ### Commands that write several Rumbe (16 R382) -/

/-- Write words of a member for the script. -/
def scriptSend (s : State) (p : Nat) (w : WriteTo) (words : List Nat) : State :=
  toMember s p (w.mem + 1) .script 7 (writePl w.reg words)
/-- Begin a script with its first write. -/
def beginScript (s : State) (r : Req) (p first : Nat) (todo : List WriteTo) : State :=
  let s := { s with foreman := { s.foreman with
    current := some r, script := some { req := r, pair := p, first := first, todo := todo } } }
  match todo with
  | w :: _ => scriptSend s p w w.words
  | [] => s
/-- Write back what the writes so far replaced, newest first, then answer. -/
def undoNext (s : State) (sc : Script) : State :=
  match sc.done, sc.undo with
  | w :: ws, _ => scriptSend { s with foreman := { s.foreman with script := some { sc with done := ws } } } sc.pair w w.old
  | [], some (st, reason, rs, pos) => endCurrent s sc.req (fun s => chainFail s sc.req st reason rs (leBytes 1 pos))
  | [], none => s
/-- A string that is first configured, and its site, count as not discharging; both rules start anew (13 R323). -/
def notDischarging (s : State) (n : Nat) : State :=
  { s with assayer := { s.assayer with strDis := tblSet n {} s.assayer.strDis, siteDis := {}, siteFirst := some n } }
/-- A string that is taken out of the settings holds the site's rule no longer. -/
def dropSiteFirst (s : State) (n : Nat) : State :=
  if s.assayer.siteFirst = some n then { s with assayer := { s.assayer with siteFirst := none } } else s
/-- A string's settings as SET_STRING leaves them, in the Ledger and in KA (16 R381, 07 R163). -/
def applyString (s : State) (n : Nat) (x : StrSet) : State :=
  let old := strSet s n
  let gone := if old.en then strCells s n else []
  let s := { s with ledger := { s.ledger with set := tblSet n x s.ledger.set } }
  let s := storeSetting s (kaStr n) (strBytes x)
  let s := if x.en then
      let newHead := !old.en || old.pair != x.pair || old.head != x.head
      let cells := strCells s n
      let s := (gone.filter (fun c => !cells.contains c)).foldl (fun s c => updCell (invalidate s c) c (fun _ => {})) s
      let s := cells.foldl (fun s c => updCell s c (fun y => { y with cL := if y.cL = 0 then x.cNom else y.cL })) s
      let s := if newHead then updStr s n (fun l => { l with qLast := none, gateSt := none, headOk := false }) else s
      if old.en then s else notDischarging s n
    else
      let s := gone.foldl (fun s c => updCell (invalidate s c) c (fun _ => {})) s
      dropSiteFirst (updStr s n (fun _ => {})) n
  driveGpio (judge s n)
/-- What a script's writes left at the Rumbe, by register. -/
def appliedWord (sc : Script) (reg d : Nat) : Nat :=
  sc.applied.foldl (fun v w => if w.1 ≤ reg && reg < w.1 + w.2.length then w.2.getD (reg - w.1) v else v) d
/-- SET_HEAD's payload as the head applied it (16 R390). -/
def headApplied (sc : Script) : List Byte :=
  let b := sc.req.payload
  let w := fun (reg off n : Nat) => appliedWord sc reg (leAt b off n)
  leBytes 1 (byteAt b 0) ++ leBytes 1 (w 0x21 1 1) ++ leBytes 1 (w 0x23 2 1) ++ leBytes 1 (w 0x24 3 1) ++ leBytes 1 (w 0x25 4 1)
    ++ leBytes 1 (w 0x26 5 1) ++ leBytes 1 (w 0x2A 6 1) ++ zeros 1 ++ leBytes 4 (w 0x22 8 4) ++ leBytes 4 (w 0x27 12 4)
    ++ leBytes 2 (w 0x28 16 2) ++ leBytes 2 (w 0x29 18 2) ++ zeros 4
/-- SET_PROTECT's payload as the members applied it. -/
def protectApplied (sc : Script) : List Byte :=
  let b := sc.req.payload
  let w := fun (reg off n : Nat) => appliedWord sc reg (leAt b off n)
  leBytes 1 (byteAt b 0) ++ leBytes 1 (w 0x14 1 1) ++ leBytes 1 (w 0x08 2 1) ++ leBytes 1 (w 0x09 3 1) ++ leBytes 2 (w 0x11 4 2)
    ++ leBytes 2 (w 0x12 6 2) ++ leBytes 2 (w 0x13 8 2) ++ zeros 2
/-- The string as SET_STRING's payload leaves it. -/
def stringOf (s : State) (b : List Byte) : StrSet :=
  let x := strKept s (byteAt b 0)
  if natBit (byteAt b 5) 0 then
    { x with pair := byteAt b 1, first := byteAt b 2, last := byteAt b 3, head := byteAt b 4, en := true }
  else { x with en := false }
/-- Every write of a script is applied. -/
def scriptDone (s : State) (sc : Script) : State :=
  let r := sc.req
  let n := byteAt r.payload 0
  let x := strKept s n
  endCurrent s r (fun s =>
    if r.opcode = 0x0220 then
      let y := stringOf s r.payload
      answer (applyString s n y) r (leBytes 1 n ++ leBytes 1 y.pair ++ leBytes 1 y.first ++ leBytes 1 y.last ++ leBytes 1 y.head
        ++ leBytes 1 (b2n y.en) ++ zeros 2)
    else if r.opcode = 0x0811 then
      let b := headApplied sc
      let y := { x with
        drvMode := byteAt b 1, scdTh := byteAt b 2, scdBlank := byteAt b 3, dsatEn := byteAt b 4, pchgEn := byteAt b 5
        vauxEn := byteAt b 6, shunt := leAt b 8 4, pchgIdone := leAt b 12 4, pchgTmin := leAt b 16 2, pchgTmax := leAt b 18 2 }
      let s := { s with ledger := { s.ledger with set := tblSet n y s.ledger.set } }
      answer (storeSetting s (kaStr n) (strBytes y)) r b (fieldEntries headRules r.payload b)
    else
      let b := protectApplied sc
      let y := { x with
        almN := byteAt b 1, aspEn := byteAt b 2, tComm := byteAt b 3, ovTh := leAt b 4 2, uvTh := leAt b 6 2, almHys := leAt b 8 2 }
      let s := { s with ledger := { s.ledger with set := tblSet n y s.ledger.set } }
      answer (storeSetting s (kaStr n) (strBytes y)) r b (fieldEntries protectRules r.payload b))
/-- A write of the script is answered; 0xFF stands for no response. -/
def scriptAck (s : State) (rs : Nat) (data : List Byte) : State :=
  match s.foreman.script with
  | none => s
  | some sc =>
    match sc.undo, sc.todo with
    | some _, _ => undoNext s sc
    | none, [] => s
    | none, w :: ws =>
      if rs ≤ 1 then
        let sc := { sc with todo := ws, done := w :: sc.done, applied := sc.applied ++ [(w.reg, wordsOf data)] }
        match ws with
        | [] => scriptDone s sc
        | v :: _ => scriptSend { s with foreman := { s.foreman with script := some sc } } sc.pair v v.words
      else
        let m := ackMap rs
        undoNext s { sc with undo := some (m.1, m.2, rs, w.mem + 2 - sc.first) }

/-! ### Completion -/

/-- DEV_ID of a member has been read by hop from a side (06 R134, R152, R153). -/
def idChecked (s : State) (p : Nat) (sd : Side) (h : Nat) (again : Bool) (v : Nat) : State :=
  let q := s.pair p
  if !q.ringTest then (if v = h then s else if again then unresponsive s p h else writeId s p sd h)
  else if v = h then
    let c := if q.checked.contains h then q.checked else q.checked ++ [h]
    let all := decide (c.length = q.nExp)
    s.updPair p (fun q => { q with checked := c, restoreRing := q.restoreRing || all, ringTest := !all })
  else if again then unresponsive (s.updPair p (fun q => { q with ringTest := false })) p h
  else checkId (writeBack (writeId (topology s p h v) p sd h) p h) p sd h true
/-- A 64-bit serial number from its four words. -/
def serialOf (ws : List Nat) : Nat := ws.getD 0 0 + ws.getD 1 0 * 65536 + ws.getD 2 0 * 4294967296 + ws.getD 3 0 * 281474976710656
/-- A serial number is compared with the recorded one after an absence, and recorded, once the Ledger counts (07 R183). -/
def serialSeen (s : State) (p h v : Nat) : State :=
  let i := memNo p h
  let m := lmem s i
  if !s.sys.ledgerReady then s
  else if m.absent && m.serial != 0 && m.serial != v then moduleSwap s p h m.modid (some v)
  else if m.serial = v then s
  else storeMember (updMem s i (fun m => { m with serial := v })) i
/-- A serial number has been read after a return or a WOKE record (07 R183). -/
def serialRead (s : State) (p h v : Nat) : State := updMem (serialSeen s p h v) (memNo p h) (fun m => { m with absent := false })
/-- MODID_ST is compared with the recorded one after an absence, and recorded, once the Ledger counts (07 R183). -/
def modidSeen (s : State) (p h v : Nat) : State :=
  let i := memNo p h
  let m := lmem s i
  if !s.sys.ledgerReady then s
  else if m.absent && !natBit v 5 && m.modid != v then moduleSwap s p h v (some m.serial)
  else storeMember (updMem s i (fun m => { m with modid := v, absent := false, absentSince := none })) i
/-- Bring-up writes a member the settings that KA holds for it, and the counters of a restore are read (19 R440, 20 R466). -/
def bringUp (s : State) (p : Nat) (sd : Side) (h : Nat) : State :=
  let i := memNo p h
  let s := (memberWrites s p h).foldl (fun s w => byHop s p sd h (.setup i w.1 w.2) 7 (writePl w.1 w.2)) s
  if (lmem s i).restoreRead then byHop s p sd h (.restore i) 6 (readPl 0x0060 96) else s
/-- SERIAL, DEV_ID and JAB_CNT of a member have been read from a side: a DEV_ID that is not h is written and read again,
TOPOLOGY tells of it where the member has its ID from ENUMERATE (06 R134 and Edges of 6.5). -/
def identified (s : State) (p : Nat) (sd : Side) (h : Nat) (ws : List Nat) : State :=
  let i := memNo p h
  let s := serialSeen (updMem s i (fun m => { m with isolated := false, jabCnt := ws.getD 9 0 })) p h (serialOf ws)
  let s := byHop s p sd h (.modidRead i) 6 (readPl 0x0044 1)
  let s := byHop s p sd h (.thMap i) 6 (readPl 0x0017 5)
  let q := s.pair p
  let id := ws.getD 4 0 % 64
  let s := if q.mode == .direct || id = h then s
    else checkId (writeId (if sd == .a then topology s p h id else s) p sd h) p sd h true
  if q.bringup then bringUp s p sd h else s
/-- JAB_CNT of a member has been read: for the decision of R491, or kept. -/
def jabRead (s : State) (p h v : Nat) : State :=
  match (s.pair p).suspect with
  | some k =>
    if h + 1 = k then s.updPair p (fun q => { q with jabBelow := some v })
    else if h = k + 1 then s.updPair p (fun q => { q with jabAbove := some v })
    else updMem s (memNo p h) (fun m => { m with jabCnt := v })
  | none => updMem s (memNo p h) (fun m => { m with jabCnt := v })
/-- A member answers, and its serial number is read where it had not been reachable (07 R183). -/
def heardFrom (s : State) (p h : Nat) (c : ChainCmd) : State :=
  let back := !memReached (lmem s (memNo p h))
  let s := updMem s (memNo p h) (fun m => { m with unresponsive := false, reached := true })
  match c.origin with
  | .identify _ => s
  | .serial _ => s
  | _ => if back then readSerial s p h else s
/-- An addressed command has been answered with a status and data. -/
def finishCmd (s : State) (p : Nat) (sd : Side) (c : ChainCmd) (rs : Nat) (data : List Byte) : State :=
  let h := memberAt s p sd c.pos c.addr
  let s := heardFrom s p h c
  let ws := wordsOf data
  match c.origin with
  | .mailbox r => mailboxAck s r rs data
  | .script => scriptAck s rs data
  | .retrieve _ _ => s
  | .restore i => if rs = 0 then restoreRead s i ws else s
  | .idCheck _ again => if rs = 0 then idChecked s p sd h again (ws.getD 0 0) else s
  | .idWrite _ => s
  | .writeBack _ => s
  | .thMap i => if rs = 0 then updMem s i (fun m => { m with thMap := thMapOf ws }) else s
  | .modidAck _ => s
  | .serial _ => if rs = 0 then serialRead s p h (serialOf ws) else s
  | .isolate _ => s
  | .identify _ =>
    let s := if c.noRetry then updCport s p sd (fun q => { q with reach := q.reach + 1 }) else s
    if rs = 0 then identified s p sd h ws else s
  | .modidRead _ => if rs = 0 then modidSeen s p h (ws.getD 0 0 % 256) else s
  | .setup i reg want => byHop s p sd h (.setupCheck i reg want) 6 (readPl reg want.length)
  | .setupCheck _ _ want => if rs = 0 && ws != want.map (· % 65536) then topology s p h h else s
  | .balRead i => if rs = 0 then balanceRead s i ws else updMem s i (fun m => { m with needRead := false })
  | .tlog i => if rs = 0 then tlogRead s i ws else s
  | .jab _ => if rs = 0 then jabRead s p h (ws.getD 0 0) else s
/-- A command got no response after its retransmissions (06 R138), or at its first timeout in reverse retrieval (06 R150). -/
def failCmd (s : State) (p : Nat) (sd : Side) (c : ChainCmd) : State :=
  if c.noRetry then
    updCport s p sd (fun q => { q with stopped := true, queue := q.queue.filter (fun x => !x.noRetry) })
  else
    let h := memberAt s p sd c.pos c.addr
    let s := unresponsive s p h
    match c.origin with
    | .mailbox r => endCurrent s r (fun s => chainFail s r 10 0 0xFF [])
    | .script => scriptAck s 0xFF []
    | .idCheck _ _ => s.updPair p (fun q => { q with ringTest := false })
    | .identify i => updMem s i (fun m => { m with reached := false })
    | .balRead i => updMem s i (fun m => { m with needRead := false })
    | .jab _ => s.updPair p (fun q => { q with suspect := none, jabBelow := none, jabAbove := none })
    | _ => s
/-- A GATE command that would close a string is refused while EOPEN_N is low (06 R146). -/
def gateBarred (s : State) (c : ChainCmd) : Bool := s.eopen.low && c.type == 0xA && decide (1 ≤ byteAt c.payload 0) && decide (byteAt c.payload 0 ≤ 3)
/-- The command outstanding on a port is sent again with its FSEQ, or has failed (06 R138); a GATE barred by EOPEN_N is not
sent again and ends without a response (log 165). -/
def retryCmd (s : State) (p : Nat) (sd : Side) (o : Outstanding) : State :=
  if gateBarred s o.cmd then
    let s := updCport s p sd (fun q => { q with out := none })
    match o.cmd.origin with
    | .mailbox r => endCurrent s r (fun s => chainFail s r 10 0 0xFF [])
    | _ => s
  else if o.cmd.noRetry || 2 ≤ o.tries then failCmd (updCport s p sd (fun q => { q with out := none })) p sd o.cmd
  else
    let e := txStart s p sd + frameTime o.cmd.payload.length
    let f : Frame := { type := o.cmd.type, dir := false, pos := o.cmd.pos, ret := true, addr := o.cmd.addr, fseq := o.fseq
                       payload := o.cmd.payload }
    (updCport s p sd (fun q => { q with
      out := some { o with tries := o.tries + 1, sentAt := e }, lastTx := e, busy := e })).emit (.chainFrame (pNo p) sd f)
/-- A response with a good CRC shows DEV_ID 0 where the pair has IDs: the ID is written again by hop (06 R153). -/
def lostId (s : State) (p : Nat) (sd : Side) (h : Nat) (l : List Chip) : State :=
  if lineAddr l = 0 && ((s.pair p).st == .ring || (s.pair p).st == .split || (s.pair p).st == .broken) then writeId s p sd h else s
/-- The same for the answer of a read that does not itself look at the ID. -/
def ackId (s : State) (p : Nat) (sd : Side) (c : ChainCmd) (l : List Chip) : State :=
  match c.origin with
  | .identify _ => s
  | .idCheck _ _ => s
  | _ => if c.type = 6 then lostId s p sd (memberAt s p sd c.pos c.addr) l else s
/-- ACK: a response frame reaches a port. A bad CRC, or a violation that aborts it, counts as no response (06 R120, R138);
an ACK with another FSEQ, and a frame that is no ACK, answer nothing. -/
def ackIn (s : State) (p : Nat) (sd : Side) (l : List Chip) : State :=
  match (cport s p sd).out with
  | none => s
  | some o =>
    let s := updCport s p sd (fun q => { q with busy := max q.busy s.now })
    if !lineGood l then (if o.tries < 2 && !lineOk s p o.cmd.payload.length then s else retryCmd s p sd o)
    else if !(lineType l == 8 && lineH0 l 3) || lineFseq l != o.fseq then s
    else
      let a := linePayload l
      ackId (finishCmd (updCport s p sd (fun q => { q with out := none })) p sd o.cmd (byteAt a 0) (a.drop 1)) p sd o.cmd l
/-- COMMAND_TIMEOUT: 100 microseconds have passed without a response (06 R138). -/
def timeoutIn (s : State) (p : Nat) (sd : Side) : State :=
  match (cport s p sd).out with
  | none => s
  | some o =>
    if s.now < o.sentAt + 4800 || (o.tries < 2 && !lineOk s p o.cmd.payload.length) then s
    else retryCmd (s.updPair p (fun q => { q with timeouts := (q.timeouts + 1) % 65536 })) p sd o
/-- CHAIN_COMMAND_WINDOW: the next command of a port's queue is sent once R141 and R502 allow; a broadcast completes as its
last copy leaves (16 Edges of 16.1); a GATE barred by EOPEN_N is refused with STATE (06 R146, 16 R391). -/
def windowSend (s : State) (p : Nat) (sd : Side) : State :=
  match (cport s p sd).queue with
  | [] => s
  | c :: cs =>
    if !pairTalks (s.pair p) || !mayStart s p sd c.payload.length then s
    else if gateBarred s c then
      let s := updCport s p sd (fun q => { q with queue := cs })
      match c.origin with
      | .mailbox r => endCurrent s r (fun s => refuse s r [0x2C])
      | _ => s
    else
      let fs := (cport s p sd).fseq
      let s := updCport s p sd (fun q => { q with queue := cs })
      let s := txFrame s p sd c.type c.pos (c.addr != 0x3F) c.addr c.payload
      if c.addr != 0x3F then
        updCport s p sd (fun q => { q with out := some { cmd := c, fseq := fs, sentAt := q.lastTx } })
      else
        match c.origin with
        | .mailbox r =>
          let same := fun (x : ChainCmd) => x.origin == c.origin
          if (s.pair p).portA.queue.any same || (s.pair p).portB.queue.any same then s
          else
            let s := if r.opcode = 0x0211 then
                (List.range (s.pair p).nExp).foldl (fun s k =>
                  keepWords s (p * 32 + k) (leAt r.payload 3 2) (wordsOf (r.payload.drop 5))) s
              else s
            endCurrent s r (fun s => answer s r (leBytes 1 0xFE))
        | _ => s

end Sys2Proof.Machine
end

