-- ==== Sys2Proof/Machine/ChainCmds.lean ====
section
/-! DEFINITION. The mailbox commands of the chain and protection groups (16 16.3, 16.7). -/

namespace Sys2Proof.Machine

/-! ### Readiness and rights -/

/-- The chain pair that a request's first byte names is ready, where there is such a pair: readiness of
SET_PAIR (16 R374, 17 Table 17-6; log 43). -/
def pairNamed (s : State) (r : Req) : Bool := let p := byteAt r.payload 0; 4 ≤ p || !pairFused s p || (s.pair p).ready
/-- Chain commands of a pair can run: NOT_READY while it is ENUMERATING or OFF (16 R374, R380). -/
def pairOpen (s : State) (p : Nat) : Bool :=
  decide (4 ≤ p) || !pairFused s p || ((s.pair p).ready && pairCarries (s.pair p))
/-- Readiness of a command with a target. -/
def tgtReady (s : State) (r : Req) : Bool := pairOpen s (byteAt r.payload 0)
/-- Readiness of a command that names a string. -/
def strReady (s : State) (r : Req) : Bool :=
  let n := byteAt r.payload 0
  decide (64 ≤ n) || !strOn s n || pairOpen s (strSet s n).pair
/-- Readiness of SET_STRING: the pair it names, or the string's. -/
def setStrReady (s : State) (r : Req) : Bool :=
  if natBit (byteAt r.payload 5) 0 then pairOpen s (byteAt r.payload 1) else strReady s r
/-- Readiness of OPEN_ALL: every enabled pair (16 R374). -/
def allReady (s : State) (_ : Req) : Bool := (List.range 4).all (fun p => (s.pair p).mode == .off || (s.pair p).ready)
/-- A string's head is OPEN as its last record showed it, or no record has shown it (log 40). -/
def headOpen (s : State) (n : Nat) : Bool := match (lstr s n).gateSt with | some g => g % 8 == 0 | none => true

/-! ### Pairs -/

/-- A pair's settings as 6 bytes of SET_PAIR. -/
def pairBytes (p : Nat) (q : Pair) : List Byte :=
  let m := match q.mode with | .off => 0 | .ring => 1 | .direct => 2
  leBytes 1 p ++ leBytes 1 m ++ leBytes 1 (b2n q.addrPos) ++ leBytes 1 q.nExp ++ leBytes 2 q.sweepHz
/-- PAIR_MODE of a code. -/
def modeOf (c : Nat) : PairMode := if c = 1 then .ring else if c = 2 then .direct else .off
/-- The SET_PAIR commands that wait for a pair end with PAIR_READY (16 R380, Table 16-12). -/
def endPairTickets (s : State) (p found : Nat) : State :=
  (s.foreman.tickets.filter (fun k => k.what == .pair p)).foldl (fun s k =>
    endTicket s k.tenant k.ticket 0x02E0 0 0 0 (leBytes 1 p ++ leBytes 1 found)) s
/-- The sweeps of a pair stop: no cell of it holds its taper condition (07 R167). -/
def breakTaper (s : State) (p : Nat) : State :=
  { s with ledger := { s.ledger with cell := s.ledger.cell.map (fun (e : Nat × LCell) =>
      if e.1 / 576 = p then (e.1, { e.2 with taperSince := none, taperHit := false }) else e) } }
/-- SET_PAIR (16 R380): a change that wakes the chain is deferred; OFF ends what still waits (log 148), and its SLEEP keeps
the collection silence and the 10 ms after a preamble (06 R141, R158). A string of the pair that no longer fits its mode or
N_EXP (01 R19, 16 Table 16-4) stays configured as it was (log 166). -/
def setPairDo (r : Req) (s : State) : State :=
  let p := byteAt r.payload 0
  if 4 ≤ p || !pairFused s p then noObject s r
  else
    let (b, es) := clampPair r.payload
    let q := s.pair p
    let mode := modeOf (leAt b 1 1)
    let moved := mode != q.mode || leAt b 3 1 != q.nExp
    let defers := moved && mode != .off
    if defers && 4 ≤ ticketsOf s r.tenant then busy s r
    else
      let on := portsOn s p
      let s := storeSetting s (kaPair p) (sliceAt b 1 3 ++ zeros 1 ++ sliceAt b 4 2)
      let set := fun (s : State) => s.updPair p (fun q => { q with mode := mode, addrPos := leAt b 2 1 == 1, nExp := leAt b 3 1, sweepHz := leAt b 4 2 })
      if !moved then answer (set s) r b es
      else
        let s := breakTaper (stopPair s p) p
        if mode == .off then
          let s := on.foldl (fun s sd => txControl (notBefore s p sd (quietTill q)) p sd 9 0) s
          let d := s.draw
          answer (endPairTickets (setSt (set d.2) p .off) p (d.1 % 256)) r b es
        else
          let s := wakePair (set s) p
          if defers then
            let d := defer s r.tenant (.pair p)
            answer d.1 r (b ++ leBytes 2 d.2) es
          else answer s r b es
/-- PAIR_STATUS. -/
def pairStatusDo (r : Req) (s : State) : State :=
  let p := byteAt r.payload 0
  if 4 ≤ p || !pairFused s p then noObject s r
  else
    let q := s.pair p
    answer s r (leBytes 1 p ++ leBytes 1 (stCode q.st) ++ leBytes 1 (b2n q.behind) ++ leBytes 1 q.nFound ++ leBytes 1 q.hA
      ++ leBytes 1 q.hB ++ leBytes 2 (q.curSeq.getD 0) ++ leBytes 2 (min 65535 q.lateCnt) ++ leBytes 2 q.timeouts ++ zeros 4)

/-! ### Commands to a target -/

/-- A command sent to the target it names. -/
def toTarget (r : Req) (bcast : Bool) (type : Nat) (payload : List Byte) (s : State) : State :=
  match target s r.payload bcast with
  | none => noObject s r
  | some (p, dests, _) => beginChain s r p dests type payload
/-- REG_READ of the mailbox. -/
def mbRegReadDo (r : Req) (s : State) : State := toTarget r false 6 (r.payload.drop 3) s
/-- REG_WRITE of the mailbox. -/
def mbRegWriteDo (r : Req) (s : State) : State := toTarget r true 7 (r.payload.drop 3) s
/-- CONTROL codes that a broadcast may carry (06 Table 6-4). -/
def bcastCode (c : Nat) : Bool := c == 1 || c == 3 || c == 5 || c == 9 || c == 10
/-- CONTROL of the mailbox: FAULT_CLEAR and ASP_RELEASE have commands of their own (16 Table 16-4). -/
def mbControlDo (r : Req) (s : State) : State :=
  let c := byteAt r.payload 3
  if c = 2 || c = 6 then refuse s r [0x0B] else toTarget r (bcastCode c) 0xC (r.payload.drop 3) s
/-- READ_RECORD of the mailbox. -/
def mbReadRecordDo (r : Req) (s : State) : State := toTarget r false 5 (r.payload.drop 3) s
/-- BALANCE of the mailbox. -/
def mbBalanceDo (r : Req) (s : State) : State := toTarget r false 0xB (r.payload.drop 3) s
/-- FAULT_CLEAR of the mailbox (16 R391). -/
def mbFaultClearDo (r : Req) (s : State) : State := toTarget r false 0xC (leBytes 1 2 ++ leBytes 1 0) s

/-! ### Commands to a string -/

/-- Execute on a configured string with a head. -/
def onHead (r : Req) (f : Nat → StrSet → State → State) (s : State) : State :=
  let n := byteAt r.payload 0
  if 64 ≤ n || !strOn s n then noObject s r
  else if (strSet s n).head = 0 then refuse s r [0x29]
  else f n (strSet s n) s
/-- A command sent to a string's head. -/
def toHead (r : Req) (type : Nat) (payload : List Byte) (s : State) : State :=
  onHead r (fun _ x s =>
    let t := route s x.pair x.head
    beginChain s r x.pair [t] type payload) s
/-- GATE of the mailbox: no close while EOPEN_N is low (16 R391, 06 R146). -/
def mbGateDo (eopenN : Bool) (r : Req) (s : State) : State :=
  onHead r (fun _ x s =>
    let c := byteAt r.payload 1
    if 1 ≤ c && c ≤ 3 && (!eopenN || s.eopen.low) then refuse s r [0x2C]
    else beginChain s r x.pair [route s x.pair x.head] 0xA (leBytes 1 c)) s
/-- ASP_RELEASE of the mailbox. -/
def mbAspReleaseDo (r : Req) (s : State) : State := toHead r 0xC (leBytes 1 6 ++ leBytes 1 0) s
/-- SET_HEAD: BUSY where it changes DRV_MODE or SHUNT while the head is not OPEN; else the head settings are written (16 R390). -/
def setHeadDo (r : Req) (s : State) : State :=
  onHead r (fun n x s =>
    let b := r.payload
    let w := fun (o : Nat) => min 65535 (leAt b o 4)
    if (byteAt b 1 != x.drvMode || leAt b 8 4 != x.shunt) && !headOpen s n then busy s r
    else
      beginScript s r x.pair x.first
        [{ mem := x.head - 1, reg := 0x0021
           words := [byteAt b 1, w 8, byteAt b 2, byteAt b 3, byteAt b 4, byteAt b 5, w 12, leAt b 16 2, leAt b 18 2, byteAt b 6]
           old := [x.drvMode, x.shunt, x.scdTh, x.scdBlank, x.dsatEn, x.pchgEn, x.pchgIdone, x.pchgTmin, x.pchgTmax, x.vauxEn] }]) s
/-- SET_PROTECT: every member of the string, OV_TH before UV_TH when it rises, else after it (16 Table 16-10, 03 3.2). -/
def setProtectDo (r : Req) (s : State) : State :=
  let n := byteAt r.payload 0
  if 64 ≤ n || !strOn s n then noObject s r
  else
    let b := r.payload
    let x := strSet s n
    let ov := leAt b 4 2
    let uv := leAt b 6 2
    let th := (thresholdWrites ov uv (decide (x.ovTh < ov))).map (fun w => (w.1, w.2, if w.1 = 0x11 then [x.ovTh] else [x.uvTh]))
    let ws := [(0x0008, [byteAt b 2, byteAt b 3], [x.aspEn, x.tComm])] ++ th ++ [(0x0013, [leAt b 8 2, byteAt b 1], [x.almHys, x.almN])]
    beginScript s r x.pair x.first ((List.range (x.last + 1 - x.first)).flatMap (fun i =>
      ws.map (fun w => { mem := x.first + i - 1, reg := w.1, words := w.2.1, old := w.2.2 })))
/-- The refusals of SET_STRING with EN = 1 (16 Table 16-4). -/
def stringFaults (s : State) (n : Nat) (y : StrSet) : List Nat :=
  let q := s.pair y.pair
  let inN := fun (h : Nat) => decide (1 ≤ h) && decide (h ≤ q.nExp)
  let taken := (strMembers y).any (fun i => match strOfMember s i with | some k => k != n | none => false)
  (if inN y.first && inN y.last && inN y.head then [] else [0x0C])
    ++ (if y.last < y.first || y.head < y.first || y.last < y.head || taken || (q.mode == .direct && y.first != y.last) then [0x2B]
        else [])
/-- SET_STRING (16 R381): BUSY while the present head is not OPEN. -/
def setStringDo (r : Req) (s : State) : State :=
  let n := byteAt r.payload 0
  let en := natBit (byteAt r.payload 5) 0
  let y := stringOf s r.payload
  if 64 ≤ n || (!en && !strOn s n) || (en && (4 ≤ y.pair || !pairFused s y.pair || (s.pair y.pair).mode == .off)) then noObject s r
  else
    let codes := if en then stringFaults s n y else []
    if !codes.isEmpty then refuse s r codes
    else if strOn s n && !headOpen s n then busy s r
    else
      let old := fun (i : Nat) => match strOfMember s i with
        | some k => let x := strSet s k; (x.first, b2n (x.pair * 32 + x.head - 1 == i))
        | none => (0, 0)
      beginScript s r y.pair y.first ((strMembers y).flatMap (fun i =>
        [{ mem := i % 32, reg := 0x0007, words := [if en then y.first else 0], old := [(old i).1] },
         { mem := i % 32, reg := 0x0020, words := [b2n (en && y.head - 1 == i % 32)], old := [(old i).2] }]))

/-! ### Urgent opens (16 Table 16-10, 06 R146) -/

/-- OPEN_ALL. -/
def openAllDo (r : Req) (s : State) : State := answer (eopenAll s) r []
/-- OPEN_STRING: STR_OPEN on the string's pair alone. -/
def openStringDo (r : Req) (s : State) : State :=
  let n := byteAt r.payload 0
  if 64 ≤ n || !strOn s n then noObject s r
  else
    let x := strSet s n
    answer (burst s ((portsOn s x.pair).map (fun sd => (x.pair, sd))) [0x2A#8, 0x3F#8, BitVec.ofNat 8 x.first]) r []

/-! ### The rows -/

/-- SET_PAIR. -/
def execSetPair (t : Nat) (s : State) : Host.Outcome State Fault Refusal :=
  .next (foremanRow t 0x0201 (lenIs 6) only0 pairNamed setPairDo s)
/-- PAIR_STATUS. -/
def execPairStatus (t : Nat) (s : State) : Host.Outcome State Fault Refusal :=
  .next (foremanRow t 0x0202 (lenIs 1) only0 always pairStatusDo s)
/-- MB_REG_READ. -/
def execMbRegRead (t : Nat) (s : State) : Host.Outcome State Fault Refusal :=
  .next (foremanRow t 0x0210 (lenIs 6) only0 tgtReady mbRegReadDo s)
/-- MB_REG_WRITE. -/
def execMbRegWrite (t : Nat) (s : State) : Host.Outcome State Fault Refusal :=
  .next (foremanRow t 0x0211 (fun r => noBulk r && decide (7 ≤ r.len) && decide (r.len ≤ 51) && r.len % 2 == 1) only0 tgtReady mbRegWriteDo s)
/-- MB_CONTROL. -/
def execMbControl (t : Nat) (s : State) : Host.Outcome State Fault Refusal :=
  .next (foremanRow t 0x0212 (lenIs 5) only0 tgtReady mbControlDo s)
/-- MB_READ_RECORD. -/
def execMbReadRecord (t : Nat) (s : State) : Host.Outcome State Fault Refusal :=
  .next (foremanRow t 0x0213 (fun r => r.len == 5 && natBit r.flags 1 && decide (70 ≤ r.bulkLen) && decide (r.bulkLen ≤ 126)) only0 tgtReady
    mbReadRecordDo s)
/-- SET_STRING. -/
def execSetString (t : Nat) (s : State) : Host.Outcome State Fault Refusal :=
  .next (foremanRow t 0x0220 (lenIs 8) only0 setStrReady setStringDo s)
/-- MB_BALANCE. -/
def execMbBalance (t : Nat) (s : State) : Host.Outcome State Fault Refusal :=
  .next (foremanRow t 0x0230 (fun r => noBulk r && decide (1 ≤ byteAt r.payload 4) && decide (byteAt r.payload 4 ≤ 4)
    && r.len == 5 + 10 * byteAt r.payload 4) only0 tgtReady mbBalanceDo s)
/-- OPEN_ALL. -/
def execOpenAll (t : Nat) (s : State) : Host.Outcome State Fault Refusal :=
  .next (foremanRow t 0x0801 (lenIs 0) only0 allReady openAllDo s)
/-- OPEN_STRING. -/
def execOpenString (t : Nat) (s : State) : Host.Outcome State Fault Refusal :=
  .next (foremanRow t 0x0802 (lenIs 1) only0 strReady openStringDo s)
/-- MB_GATE. -/
def execMbGate (t : Nat) (eopenN : Bool) (s : State) : Host.Outcome State Fault Refusal :=
  .next (foremanRow t 0x0810 (lenIs 2) only0 strReady (mbGateDo eopenN) s)
/-- SET_HEAD. -/
def execSetHead (t : Nat) (s : State) : Host.Outcome State Fault Refusal :=
  .next (foremanRow t 0x0811 (lenIs 24) only0 strReady setHeadDo s)
/-- SET_PROTECT. -/
def execSetProtect (t : Nat) (s : State) : Host.Outcome State Fault Refusal :=
  .next (foremanRow t 0x0812 (lenIs 12) only0 strReady setProtectDo s)
/-- MB_ASP_RELEASE. -/
def execMbAspRelease (t : Nat) (s : State) : Host.Outcome State Fault Refusal :=
  .next (foremanRow t 0x0820 (lenIs 1) only0 strReady mbAspReleaseDo s)
/-- MB_FAULT_CLEAR. -/
def execMbFaultClear (t : Nat) (s : State) : Host.Outcome State Fault Refusal :=
  .next (foremanRow t 0x0821 (lenIs 3) only0 tgtReady mbFaultClearDo s)

end Sys2Proof.Machine
end

