-- ==== Sys2Proof/Machine/ChainRows.lean ====
section
/-! DEFINITION. The events of the chain pairs at Broros: sweeps, collection, breaks, commands, wake, enumeration, urgent frames,
jabber guards (06, 02 2.5, 21 R491, 19 R440). -/

namespace Sys2Proof.Machine

/-- A row of a chain pair: it happens with SHELL out of reset while its condition holds. -/
def chainRow (t : Nat) (c : State → Bool) (f : State → State) (s : State) : State :=
  let s := s.at t
  finish (when (s.shellUp && c s) f s)

/-! ### Sweeps (06 R142, R143; 02 R46, R49) -/

/-- A READ_RECORD for the feeder, or a read that finds how far a broken ring is reached (06 R144, R150, Edges of 6.5). -/
def isRead (c : ChainCmd) : Bool := match c.origin with | .retrieve _ _ => true | .identify _ => c.noRetry | _ => false
/-- Such a read waits or is outstanding on a port. -/
def portReads (c : ChainPort) : Bool := c.queue.any isRead || (match c.out with | some o => isRead o.cmd | none => false)
/-- The same, on a pair. -/
def pairReads (q : Pair) : Bool := portReads q.portA || portReads q.portB
/-- The pair sweeps. -/
def pairSweeps (q : Pair) : Bool := q.st == .ring || q.st == .split || q.st == .broken || q.st == .direct
/-- A sweep is due: its time has come, the collection before it has closed, its ports are free. -/
def sweepIsDue (s : State) (p : Nat) : Bool :=
  let q := s.pair p
  let free := fun (c : ChainPort) => decide (c.busy ≤ s.now)
  (match q.nextDue with | some d => decide (d ≤ s.now) | none => false)
    && !q.collecting && pairSweeps q && free q.portA && free q.portB
/-- BEHIND of a pair follows its lag (02 R49, R51). -/
def ringBehind (s : State) (p lag period : Nat) : State :=
  let q := s.pair p
  let b := if lag = 0 then false else q.behind || decide (8 * period < lag)
  let s := s.updPair p (fun q => { q with behind := b, lag := lag })
  if b = q.behind then s else raiseEvent s 0 0x02E4 (leBytes 1 p ++ leBytes 1 (b2n b))
/-- SWEEP_DUE (06 R142; 02 R46): the sweep leaves, and the next one is due at its nominal time or, while the pair lags, at
(1 - f) P after this start where that is later. -/
def sweepDueDo (p : Nat) (s : State) : State :=
  let s := if (s.pair p).restoreRing then setSt (s.updPair p (fun q => { q with restoreRing := false })) p .ring else s
  let q := s.pair p
  let period := sweepPeriod q
  let lag := s.now - q.nextNom
  let nom := q.nextNom + period
  let next := if 0 < lag then max nom (s.now + ceilDiv ((100 - s.foreman.catchup) * period) 100) else nom
  let ring := q.st == .ring
  let s := (if ring then [.a] else portsOn s p : List Side).foldl (fun s sd => txFrame s p sd 1 false false 0x3F (leBytes 2 q.seq)) s
  let drop := fun (c : ChainPort) => { c with queue := c.queue.filter (fun x => !isRead x), stopped := false, reach := 0 }
  let s := s.updPair p (fun q => { q with
    curSeq := some q.seq, seq := (q.seq + 1) % 65536, k := q.k + 1, due := q.nextNom, nextNom := nom, nextDue := some next
    sweepAt := s.now, closeAt := s.now + 144000, sweepEnd := q.portA.lastTx, collecting := true, silent := false, damaged := false
    asked := false, train := 0, got := [], late := [], skew := [], suspect := none
    awaited := q.awaited.filter (fun a => a.kind != 1 && a.kind != 3), portA := drop q.portA, portB := drop q.portB })
  let s := if ring then await s p 1 else s
  let s := (List.range 64).foldl (fun s n =>
    if strOn s n && (strSet s n).pair = p then updStr s n (fun l => { l with counted := false, iAlign := none }) else s) s
  ringBehind s p lag period
/-- No SWEEP end arrives: the pair is BROKEN and LATE_SWEEP leaves port B (06 R149). -/
def sweepTimeoutDo (p : Nat) (s : State) : State :=
  let s := setSt (unawait s p 1) p .broken
  let q := s.pair p
  let s := txFrame s p .b 2 true false q.nExp (leBytes 2 (q.curSeq.getD 0))
  s.updPair p (fun q => { q with lateAt := q.portB.lastTx })

/-! ### Collection (06 R144, R150) -/

/-- A read of a member's record for the sweep in progress. -/
def readCmd (s : State) (p h : Nat) (pos : Bool) (addr : Nat) (once : Bool) : ChainCmd :=
  let seq := ((s.pair p).curSeq).getD 0
  { origin := .retrieve (memNo p h) seq, type := 5, pos := pos, addr := addr, payload := leBytes 2 seq, noRetry := once }
/-- Reads go before what waits on a port. -/
def readFirst (s : State) (p : Nat) (sd : Side) (cs : List ChainCmd) : State :=
  updCport s p sd (fun q => { q with queue := cs ++ q.queue })
/-- The first of them leaves each port as soon as it may. -/
def sendBoth (s : State) (p : Nat) : State := windowSend (windowSend s p .a) p .b
/-- Reverse retrieval begins on both sides of a broken ring (06 R150). -/
def retrieveBoth (s : State) (p : Nat) : State :=
  let q := s.pair p
  let hs := (List.range q.nExp).map (· + 1)
  let s := s.updPair p (fun q => { q with asked := true, silent := false })
  let s := readFirst s p .a (hs.map (fun h => readCmd s p h q.addrPos h true))
  sendBoth (readFirst s p .b (hs.map (fun x => readCmd s p (q.nExp + 1 - x) true x true))) p
/-- COLLECT_DUE (06 R144). -/
def collectDueDo (p : Nat) (s : State) : State :=
  let q := s.pair p
  let s := s.updPair p (fun q => { q with asked := true })
  if q.st = .ring then
    let s := txFrame s p .a 3 false false 0x3F (leBytes 2 (q.curSeq.getD 0) ++ zeros 1)
    await (s.updPair p (fun x => { x with silent := true, rxAt := x.portA.lastTx, collectFseq := q.portA.fseq })) p 3
  else if q.st = .broken then retrieveBoth s p
  else
    let hs := ((List.range q.nExp).map (· + 1)).filter (fun h => q.st == .direct || decide (h ≤ q.hA) || decide (q.nExp < h + q.hB))
    let mine := fun (sd : Side) => hs.filterMap (fun h =>
      let r := route s p h
      if r.1 = sd then some (readCmd s p h r.2.1 r.2.2 false) else none)
    sendBoth (readFirst (readFirst s p .a (mine .a)) p .b (mine .b)) p
/-- COLLECT_RETURN_TIMEOUT: the ring broke during collection (06 R144, Edges of 6.9). -/
def collectTimeoutDo (p : Nat) (s : State) : State := retrieveBoth (setSt (unawait s p 3) p .broken) p
/-- Members of a pair whose record of the sweep is not held. -/
def lacking (q : Pair) : List Nat := ((List.range q.nExp).map (· + 1)).filter (fun h => (recOf q h).isNone)
/-- COLLECT_RECOVERY: every missing record is read by DEV_ID from port A (06 R144). -/
def collectRecoveryDo (p : Nat) (s : State) : State :=
  let s := s.updPair p (fun q => { q with silent := false, damaged := false })
  sendBoth (readFirst s p .a ((lacking (s.pair p)).map (fun h => readCmd s p h false h false))) p
/-- The collection of a sweep has ended (07 R165). -/
def collectionOver (q : Pair) : Bool :=
  q.asked && !pairReads q && (q.st != .ring || (lacking q).isEmpty || (!q.silent && !q.damaged))

/-! ### Returns at port B (06 R134, R143, R144, R152) -/

/-- No ENUMERATE came back good: the ring counts as broken, and its members are sought by hop from both sides
(06 R134, Edges of 6.5). -/
def enumBroken (p : Nat) (s : State) : State :=
  let s := (setSt (unawait s p 9) p .broken).updPair p (fun q => { q with asked := true })
  let hs := (List.range (s.pair p).nExp).map (· + 1)
  let s := hs.foldl (fun s h => askIdentity s p .a h true) s
  sendBoth (hs.reverse.foldl (fun s h => askIdentity s p .b h true) s) p
/-- PORT_B_SWEEP_TIMEOUT: of a SWEEP, and of an ENUMERATE, which has the same 50 microseconds (06 R134, R149). -/
def portBTimeoutDo (p : Nat) (s : State) : State := if (s.pair p).st == .enumerating then enumBroken p s else sweepTimeoutDo p s
/-- What a frame at port B is the return of: its TYPE, 0xC only for a RING_TEST; where its CRC fails and no such TYPE is
awaited, the first frame that is (log 157). -/
def returnKind (s : State) (p : Nat) (l : List Chip) : Nat :=
  let k := lineType l
  if lineGood l then (if k = 0xC && byteAt (linePayload l) 0 != 0x0A then 0 else k)
  else if (awaitedOf s p k).isSome then k
  else (((s.pair p).awaited.head?).map (·.kind)).getD 0
/-- The frame is awaited and within its 50 microseconds. -/
def returns (s : State) (p kind : Nat) : Bool := match awaitedOf s p kind with
  | some a => decide (s.now ≤ a.endAt + 2400)
  | none => false
/-- A COLLECT is back: its COUNT is checked. -/
def collectBack (s : State) (p count : Nat) (ok : Bool) : State :=
  let n := (s.pair p).nExp
  let s := s.updPair p (fun q => { q with rxAt := s.now, damaged := q.damaged || !ok || count != n })
  if ok && count != n then topology s p n count else s
/-- An ENUMERATE is back: every member is asked for its identity; a bad CRC sends both frames again twice, and after the
third the ring counts as broken. -/
def enumBack (s : State) (p nextId : Nat) (ok : Bool) : State :=
  let q := s.pair p
  if ok then
    let s := s.updPair p (fun q => { q with nFound := nextId - 1 })
    let s := if nextId = q.nExp + 1 then s else topology s p (q.nExp + 1) nextId
    (List.range q.nExp).foldl (fun s i => askIdentity s p .a (i + 1) false) s
  else if q.enumTries < 3 then sendEnumerate s p
  else s.updPair p (fun q => { q with awaited := q.awaited ++ [{ kind := 9, endAt := 0 }] })
/-- A RING_TEST is back on a split pair: DEV_ID is read by hop for every member. -/
def testBack (s : State) (p : Nat) (ok : Bool) : State :=
  let q := s.pair p
  if !ok || q.st != .split then s
  else
    let s := s.updPair p (fun q => { q with ringTest := true, checked := [], restoreRing := false })
    (List.range q.nExp).foldl (fun s i => checkId s p .a (i + 1) false) s
/-- PORT_B_RETURN. -/
def portBDo (p : Nat) (l : List Chip) (s : State) : State :=
  let k := returnKind s p l
  let ok := lineGood l
  let b := linePayload l
  let s := updCport (unawait s p k) p .b (fun c => { c with busy := max c.busy s.now })
  if k = 3 then collectBack s p (byteAt b 2) ok
  else if k = 9 then enumBack s p (byteAt b 0) ok
  else if k = 0xC then testBack s p ok
  else s

/-! ### The end of reverse retrieval (06 R150, R152; 21 R491) -/

/-- A member that answers neither side. -/
def unreached (s : State) (p h : Nat) : State :=
  let i := memNo p h
  let s := updMem (unresponsive s p h) i (fun m => { m with reached := false })
  match strOfMember s i with
  | some n => if (strSet s n).head = h then disqualify s n [8] else s
  | none => s
/-- REVERSE_RETRIEVAL_DONE: the pair runs SPLIT; where a sweep's retrieval missed exactly one inner member, JAB_CNT of its
neighbours is read (06 R152, 21 R491). -/
def retrievalDoneDo (p : Nat) (s : State) : State :=
  let q := s.pair p
  let hA := q.portA.reach
  let hB := q.portB.reach
  let gone := ((List.range q.nExp).map (· + 1)).filter (fun h => decide (hA < h) && decide (h + hB ≤ q.nExp))
  let lone := q.curSeq.isSome ∧ hA + hB + 1 = q.nExp ∧ 1 < hA + 1 ∧ hA + 1 < q.nExp
  let s := s.updPair p (fun q => { q with
    hA := hA, hB := hB, nFound := min q.nExp (hA + hB), asked := q.curSeq.isSome, suspect := if lone then some (hA + 1) else none
    jabBelow := none, jabAbove := none })
  let s := setSt (gone.foldl (fun s h => unreached s p h) s) p .split
  if lone then sendBoth (askJab (askJab s p hA) p (hA + 2)) p else s
/-- Both JAB_CNT that R491 asks for have been read. -/
def jabsRead (q : Pair) : Bool := q.st == .split && q.suspect.isSome && q.jabBelow.isSome && q.jabAbove.isSome
/-- BABBLER_ISOLATION: where both counts have advanced, both neighbours are cut by hop, ISOLATED is written, and JAB_CNT of
every other member is read again (06 R155, 21 R491). -/
def isolationDo (p : Nat) (s : State) : State :=
  let q := s.pair p
  match q.suspect with
  | none => s
  | some h =>
    let i := memNo p h
    let n := q.nExp
    let below := q.jabBelow.getD 0
    let above := q.jabAbove.getD 0
    let advanced := fun (j v : Nat) => v != (lmem s j).jabCnt
    let cut := advanced (i - 1) below && advanced (i + 1) above
    let s := updMem s (i - 1) (fun m => { m with jabCnt := below })
    let s := updMem s (i + 1) (fun m => { m with jabCnt := above })
    let s := s.updPair p (fun q => { q with suspect := none, jabBelow := none, jabAbove := none })
    if !cut then s
    else
      let cmd := fun (addr arg : Nat) =>
        ({ origin := .isolate i, type := 0xC, pos := true, addr := addr, payload := leBytes 1 7 ++ leBytes 1 arg } : ChainCmd)
      let s := readFirst s p .a [cmd (h - 1) 1]
      let s := sendBoth (readFirst s p .b [cmd (n - h) 0]) p
      let s := (((List.range n).map (· + 1)).filter (· != h)).foldl (fun s k => askJab s p k) s
      logFault (updMem s i (fun m => { m with isolated := true })) 0x0202 2 true 0xFF 1 p (leBytes 1 h)

/-! ### Records (06 R145, R150, R151) -/

/-- The side on which a READ_RECORD for member h is outstanding. -/
def readSide (s : State) (p h : Nat) : Option (Side × Outstanding) :=
  [Side.a, Side.b].findSome? (fun sd => match (cport s p sd).out with
    | some o => if o.cmd.type = 5 && memberAt s p sd o.cmd.pos o.cmd.addr = h then some (sd, o) else none
    | none => none)
/-- A record of the sweep in progress is kept for the close; one triggered by LATE_SWEEP gets its skew (06 R151). -/
def keepRecord (s : State) (p h : Nat) (b : List Byte) : State :=
  let q := s.pair p
  if !q.collecting || q.curSeq != some (leAt b 0 2) || (recOf q h).isSome then s
  else
    let s := s.updPair p (fun q => { q with got := q.got ++ [(h, b)] })
    if natBit (recFlags b) 5 && decide (q.sweepEnd ≤ q.lateAt) then
      let k := divRoundAway ((q.lateAt - q.sweepEnd : Int) * 100) 48 + 95 * (q.nExp - h : Int) - 95 * (h - 1 : Int)
      s.updPair p (fun q => { q with late := q.late ++ [h], skew := q.skew ++ [(h, k)] })
    else s
/-- A record of the train reaches port B. -/
def trainRecord (s : State) (p : Nat) (ok : Bool) : State :=
  let q := s.pair p
  if !(q.collecting && q.asked && q.st == .ring) then s
  else s.updPair p (fun q => { q with
    train := q.train + 1, rxAt := s.now, damaged := q.damaged || !ok
    silent := q.silent && decide (q.train + 1 < q.nExp) })
/-- The read that a record answers is complete. -/
def readDone (s : State) (p : Nat) (sd : Side) (o : Outstanding) (b : List Byte) : State :=
  let s := updCport s p sd (fun c => { c with out := none, busy := max c.busy s.now })
  match o.cmd.origin with
  | .mailbox r => endCurrent s r (fun s => answer s r (zeros 1) [] (b.take r.bulkLen))
  | _ => if o.cmd.noRetry then updCport s p sd (fun c => { c with reach := c.reach + 1 }) else s
/-- A RECORD whose LEN fits its sections (06 Table 6-3, 03 Table 3-6). -/
def isRecord (l : List Chip) : Bool :=
  let b := linePayload l
  lineType l == 4 && lineH0 l 3 && decide (70 ≤ b.length)
    && b.length == 70 + 32 * b2n (recHead b) + 24 * b2n (natBit (recFlags b) 4)
/-- RECORD: the answer of a READ_RECORD by its FSEQ, or one of the train by the COLLECT's FSEQ (06 R138, R144, R145). -/
def recordDo (d : Dev) (l : List Chip) (s : State) : State :=
  let p := d.pair.val
  let h := d.mem.val + 1
  let b := linePayload l
  let take := fun (s : State) => crossOffer (takeRecord (keepRecord s p h b) p h b) 2 0 (8 * (l.length / 8))
  match readSide s p h with
  | some (sd, o) =>
    if !lineGood l then (if o.tries < 2 && !o.cmd.noRetry && !lineOk s p o.cmd.payload.length then s else retryCmd s p sd o)
    else if !isRecord l || lineFseq l != o.fseq then s
    else lostId (take (readDone s p sd o b)) p sd h l
  | none =>
    let ok := lineGood l && isRecord l && lineFseq l == (s.pair p).collectFseq && (lineAddr l == h || lineAddr l == 0)
    let s := trainRecord s p ok
    if ok && (s.pair p).st == .ring then lostId (take s) p .a h l else s

/-! ### Ring test, wake, enumeration (06 R134, R141, R152, R158; 16 R380; 19 R440) -/

/-- A RING_TEST is due on a port: 100 ms without a frame, or 1 s since the last one from port A of a split pair. -/
def testDue (s : State) (p : Nat) (sd : Side) : Bool :=
  let q := s.pair p
  mayStart s p sd 2 && pairCarries q
    && (decide ((cport s p sd).lastTx + 4800000 ≤ s.now) || (q.st == .split && sd == .a && decide (q.testAt + 48000000 ≤ s.now)))
/-- RING_TEST_DUE. -/
def ringTestDueDo (p : Nat) (sd : Side) (s : State) : State :=
  let s := txControl s p sd 0x0A 0
  match sd with
  | .a => await (s.updPair p (fun q => { q with testAt := s.now })) p 0xC
  | .b => s
/-- CHAIN_WAKE_DONE: 10 ms after the preamble's end a ring is enumerated; a direct pair, which knows no enumeration
(06 R135), runs, its members are asked for their identity, and a SET_PAIR that waits for it ends (25 Table 25-2; the
members found are a free value, log 148). -/
def wakeDoneDo (p : Nat) (s : State) : State :=
  match (s.pair p).st with
  | .waking => sendEnumerate (setSt s p .enumerating) p
  | .directWake =>
    let s := setSt s p .direct
    let s := (List.range (s.pair p).nExp).foldl (fun s i => askIdentity s p (sideOf (s.pair p) (i + 1)) (i + 1) false) s
    if (s.pair p).bringup then s
    else
      let d := s.draw
      let found := d.1 % ((s.pair p).nExp + 1)
      endPairTickets (startSweeps (d.2.updPair p (fun q => { q with nFound := found })) p) p found
  | _ => s
/-- Nothing waits or is outstanding on either port. -/
def pairDrained (q : Pair) : Bool := q.portA.queue.isEmpty && q.portA.out.isNone && q.portB.queue.isEmpty && q.portB.out.isNone
/-- The enumeration of a ring, its DEV_ID check and what depends on it are over (06 R134). -/
def enumOver (s : State) (p : Nat) : Bool :=
  let q := s.pair p
  q.mode == .ring && !q.ready && ((q.st == .enumerating && (awaitedOf s p 9).isNone) || q.st == .split) && pairDrained q
/-- The pair runs: RING where its ENUMERATE came back, SPLIT where it did not; sweeps start. -/
def pairRuns (p : Nat) (s : State) : State :=
  let s := if (s.pair p).st == .enumerating then setSt s p .ring else s
  startSweeps (s.updPair p (fun q => { q with ready := true, bringup := false })) p
/-- ENUMERATION_DONE: the pair runs, and a SET_PAIR that waits for it ends. -/
def enumerationDoneDo (p : Nat) (s : State) : State := let s := pairRuns p s; endPairTickets s p (s.pair p).nFound

/-! ### Urgent frames, jabber, the EOPEN pin (06 R146, R148, R154) -/

/-- URGENT_RX: each frame is logged once (06 Edges of 6.8). -/
def urgentRxDo (p : Nat) (sd : Side) (u : List Byte) (s : State) : State :=
  let b := u.take 3
  let other := match sd with | .a => Side.b | .b => Side.a
  let copy := match (cport s p other).lastUrgent with | some (c, a) => c == b && decide (s.now ≤ a + 4800) | none => false
  if copy then updCport s p other (fun c => { c with lastUrgent := none })
  else
    let s := updCport s p sd (fun c => { c with lastUrgent := some (b, s.now) })
    raiseEvent s 0 0x02E6 (leBytes 1 p ++ leBytes 1 (ucode u) ++ leBytes 1 (byteAt u 1 % 64) ++ leBytes 1 (byteAt u 2))
/-- A Broros port is cut by its guard. -/
def brorosCut (p : Nat) (sd : Side) (s : State) : State :=
  if (cport s p sd).jab then s
  else logFault (updCport s p sd (fun c => { c with jab := true })) 0x0201 1 false 0xFF 1 p (leBytes 1 (b2n (sd == .b)))
/-- EOPEN_N_ACCEPT. -/
def eopenAcceptDo (s : State) : State := eopenAll { s with eopen := { low := true, nextAt := s.now + 480000 } }
/-- EOPEN_REPEAT: again while the pin stays low; nothing once it is high. -/
def eopenRepeatDo (low : Bool) (s : State) : State :=
  if !low then { s with eopen := { s.eopen with low := false } }
  else if s.now < s.eopen.nextAt then s
  else eopenAll { s with eopen := { s.eopen with nextAt := s.now + 480000 } }

/-! ### The rows -/

/-- SWEEP_DUE. -/
def execSweepDue (t : Nat) (p : Fin 4) (s : State) : Host.Outcome State Fault Refusal :=
  .next (chainRow t (fun s => sweepIsDue s p.val) (sweepDueDo p.val) s)
/-- PORT_B_SWEEP_TIMEOUT. -/
def execPortBSweepTimeout (t : Nat) (p : Fin 4) (s : State) : Host.Outcome State Fault Refusal :=
  .next (chainRow t (fun s =>
    let st := (s.pair p.val).st
    (st == .ring && overdue s p.val 1) || (st == .enumerating && overdue s p.val 9)) (portBTimeoutDo p.val) s)
/-- PORT_B_RETURN: a frame that a violation aborts is none (06 R120). -/
def execPortBReturn (t : Nat) (p : Fin 4) (line : List Chip) (s : State) : Host.Outcome State Fault Refusal :=
  .next (chainRow t (fun s => lineFrame line && returns s p.val (returnKind s p.val line)) (portBDo p.val line) s)
/-- COLLECT_DUE. -/
def execCollectDue (t : Nat) (p : Fin 4) (s : State) : Host.Outcome State Fault Refusal :=
  .next (chainRow t (fun s =>
    let q := s.pair p.val
    q.collecting && !q.asked && pairSweeps q && decide (q.sweepAt + 9600 ≤ s.now)) (collectDueDo p.val) s)
/-- COLLECT_RETURN_TIMEOUT. -/
def execCollectReturnTimeout (t : Nat) (p : Fin 4) (s : State) : Host.Outcome State Fault Refusal :=
  .next (chainRow t (fun s => (s.pair p.val).st == .ring && overdue s p.val 3) (collectTimeoutDo p.val) s)
/-- COLLECT_RECOVERY. -/
def execCollectRecovery (t : Nat) (p : Fin 4) (s : State) : Host.Outcome State Fault Refusal :=
  .next (chainRow t (fun s =>
    let q := s.pair p.val
    q.st == .ring && q.collecting && q.asked && (q.silent || q.damaged) && (awaitedOf s p.val 3).isNone
      && !(lacking q).isEmpty && decide (q.rxAt + 4800 ≤ s.now)) (collectRecoveryDo p.val) s)
/-- REVERSE_RETRIEVAL_DONE. -/
def execReverseRetrievalDone (t : Nat) (p : Fin 4) (s : State) : Host.Outcome State Fault Refusal :=
  .next (chainRow t (fun s =>
    let q := s.pair p.val
    q.st == .broken && q.asked && !pairReads q) (retrievalDoneDo p.val) s)
/-- BABBLER_ISOLATION. -/
def execBabblerIsolation (t : Nat) (p : Fin 4) (s : State) : Host.Outcome State Fault Refusal :=
  .next (chainRow t (fun s => s.sys.ctrlUp && jabsRead (s.pair p.val)) (isolationDo p.val) s)
/-- COLLECTION_CLOSE. -/
def execCollectionClose (t : Nat) (p : Fin 4) (s : State) : Host.Outcome State Fault Refusal :=
  .next (chainRow t (fun s =>
    let q := s.pair p.val
    q.collecting && (decide (q.closeAt ≤ s.now) || collectionOver q)) (fun s => closeSweep s p.val) s)
/-- RECORD. -/
def execRecord (t : Nat) (d : Dev) (line : List Chip) (s : State) : Host.Outcome State Fault Refusal :=
  .next (chainRow t (fun s => pairCarries (s.pair d.pair.val)) (recordDo d line) s)
/-- The side on which a read of a member's balance counters is outstanding. -/
def balSide (s : State) (p i : Nat) : Option Side :=
  [Side.a, Side.b].find? (fun sd => match (cport s p sd).out with | some o => o.cmd.origin == .balRead i | none => false)
/-- The command outstanding on a side reads balance counters. -/
def readsBal (s : State) (p : Nat) (sd : Side) : Bool := match (cport s p sd).out with
  | some o => (match o.cmd.origin with | .balRead _ => true | _ => false)
  | none => false
/-- LEDGER_BALANCE_READ: the answer to the read of a member's balance counters whose transfers went unseen (07 R164). -/
def execLedgerBalanceRead (t : Nat) (d : Dev) (line : List Chip) (s : State) : Host.Outcome State Fault Refusal :=
  let p := d.pair.val
  let i := p * 32 + d.mem.val
  .next (chainRow t (fun s => (balSide s p i).isSome) (fun s => ackIn s p ((balSide s p i).getD .a) line) s)
/-- ACK; LEDGER_BALANCE_READ is the answer to a read of balance counters. -/
def execAck (t : Nat) (p : Fin 4) (side : Side) (line : List Chip) (s : State) : Host.Outcome State Fault Refusal :=
  .next (chainRow t (fun s => !readsBal s p.val side) (fun s => ackIn s p.val side line) s)
/-- COMMAND_TIMEOUT. -/
def execCommandTimeout (t : Nat) (p : Fin 4) (side : Side) (s : State) : Host.Outcome State Fault Refusal :=
  .next (chainRow t (fun _ => true) (fun s => timeoutIn s p.val side) s)
/-- CHAIN_COMMAND_WINDOW. -/
def execChainCommandWindow (t : Nat) (p : Fin 4) (side : Side) (s : State) : Host.Outcome State Fault Refusal :=
  .next (chainRow t (fun _ => true) (fun s => windowSend s p.val side) s)
/-- RING_TEST_DUE. -/
def execRingTestDue (t : Nat) (p : Fin 4) (side : Side) (s : State) : Host.Outcome State Fault Refusal :=
  .next (chainRow t (fun s => testDue s p.val side) (ringTestDueDo p.val side) s)
/-- CHAIN_WAKE_DONE. -/
def execChainWakeDone (t : Nat) (p : Fin 4) (s : State) : Host.Outcome State Fault Refusal :=
  .next (chainRow t (fun s => decide ((s.pair p.val).wakeEnd + 480000 ≤ s.now)) (wakeDoneDo p.val) s)
/-- ENUMERATION_DONE. -/
def execEnumerationDone (t : Nat) (p : Fin 4) (s : State) : Host.Outcome State Fault Refusal :=
  .next (chainRow t (fun s => !(s.pair p.val).bringup && enumOver s p.val) (enumerationDoneDo p.val) s)
/-- PAIR_BRINGUP_DONE: the settings of KA have been written and read back (19 R440, 20 R466). -/
def execPairBringupDone (t : Nat) (p : Fin 4) (s : State) : Host.Outcome State Fault Refusal :=
  .next (chainRow t (fun s =>
    let q := s.pair p.val
    q.bringup && (enumOver s p.val || (q.st == .direct && pairDrained q))) (pairRuns p.val) s)
/-- URGENT_RX: a frame with a bad CRC or another low nibble is not decoded (06 R129). -/
def execUrgentRx (t : Nat) (p : Fin 4) (side : Side) (line : List Chip) (s : State) : Host.Outcome State Fault Refusal :=
  .next (chainRow t (fun s => urgentDecodes (lineUrgent line) && (portsOn s p.val).contains side)
    (urgentRxDo p.val side (lineUrgent line)) s)
/-- JABBER_CUT. -/
def execJabberCut (t : Nat) (j : JabPort) (s : State) : Host.Outcome State Fault Refusal :=
  match j with
  | .broros p sd => .next (chainRow t (fun s => (portsOn s p.val).contains sd) (brorosCut p.val sd) s)
  | .rumbe d p => .next (onRumbe t d (jabCutDo p) s)
/-- JABBER_RESUME. -/
def execJabberResume (t : Nat) (j : JabPort) (s : State) : Host.Outcome State Fault Refusal :=
  match j with
  | .broros p sd => .next (chainRow t (fun _ => true) (fun s => updCport s p.val sd (fun c => { c with jab := false })) s)
  | .rumbe d p => .next (onRumbe t d (jabResumeDo p) s)
/-- EOPEN_N_ACCEPT. -/
def execEopenNAccept (t : Nat) (s : State) : Host.Outcome State Fault Refusal :=
  .next (chainRow t (fun s => !s.eopen.low) eopenAcceptDo s)
/-- EOPEN_REPEAT. -/
def execEopenRepeat (t : Nat) (low : Bool) (s : State) : Host.Outcome State Fault Refusal :=
  .next (chainRow t (fun s => s.eopen.low) (eopenRepeatDo low) s)

end Sys2Proof.Machine
end

