-- ==== Sys2Proof/Machine/LedgerCmds.lean ====
section
/-! DEFINITION. The Ledger's own events, anchors, cycle expiries, restore and snapshot (07, 20 R467), and the Ledger commands
of the mailbox (16 16.4). -/

namespace Sys2Proof.Machine

/-- Seconds in time base counts. -/
def secs (n : Nat) : Nat := n * 48000000
/-! ### Expiries of a learning cycle (07 Table 7-5) -/

/-- The cycle of a string runs. -/
def lcIs (s : State) (n : Nat) (x : LcSt) : Bool := strOn s n && (lstr s n).lc == x
/-- A cycle is longer than LC_TMAX. -/
def pastTmax (s : State) (n : Nat) : Bool := decide ((lstr s n).lcAt + secs (3600 * (strSet s n).lcTmax) < s.now)
/-- At rest for more than 2 h. -/
def pastRest (s : State) (n : Nat) : Bool := match (lstr s n).restSince with
  | some a => decide (a + secs 7200 < s.now)
  | none => false
/-- No valid temperature for more than 60 s. -/
def pastTemp (s : State) (n : Nat) : Bool := decide ((lstr s n).tempAt + secs 60 < s.now)
/-- No countable head record for 2 s, counted from the arm at the earliest. -/
def pastRecord (s : State) (n : Nat) : Bool := let l := lstr s n; decide (max l.recAt l.lcAt + secs 2 ≤ s.now)

/-! ### Anchors (07 R167 to R170, R180) -/

/-- The settings and number of the string that has a cell. -/
def cellString (s : State) (c : Nat) : Option Nat := if cellOn s c then strOfMember s (c / 18) else none
/-- ANCHOR_TAPER: at a counted sweep the taper condition had held for T_TAPER. -/
def anchorTaperDo (c : Nat) (s : State) : State :=
  match cellString s c with
  | some n => if (lcell s c).taperHit then fullAnchors s n 1 [c] else s
  | none => s
/-- ANCHOR_TERMINATION: cells near V_FULL in the counted sweep take a full anchor. -/
def anchorTermDo (n : Nat) (s : State) : State :=
  if !strOn s n || !(lstr s n).termDue then s
  else
    let x := strSet s n
    let s := updStr s n (fun l => { l with termPending := false, termDue := false })
    fullAnchors s n 2 ((strCells s n).filter (fun c => match (lcell s c).volt with
      | some v => decide (x.vFull ≤ v + x.fullMargin)
      | none => false))
/-- A cell meets the empty condition. -/
def emptyNow (s : State) (n c : Nat) : Bool := decide ((strSet s n).emptyN ≤ (lcell s c).emptyCnt)
/-- An empty anchor. -/
def emptyAnchor (s : State) (c : Nat) : State := updCell (takeAnchor s c 3 0) c (fun x => { x with emptyCnt := 0 })
/-- The cycle's average current exceeds half of 1 C at its empty anchor (07 Table 7-5, code 4). -/
def avgOver (s : State) (n : Nat) : Bool :=
  let l := lstr s n
  decide ((refCap s n).getD 0 * (s.now - l.lcAt) < l.lcAbsQ * 960000)
/-- Reasons that apply to a RUNNING cycle at its empty anchor: average current, and what a timer would end as well (07 R180,
Table 7-5). -/
def emptyReasons (s : State) (n : Nat) : List Nat :=
  (if pastTemp s n then [3] else []) ++ (if avgOver s n then [4] else []) ++ (if pastRest s n then [6] else [])
    ++ (if pastRecord s n then [8] else []) ++ (if pastTmax s n then [11] else [])
/-- The first empty anchor of a RUNNING string: the cycle completes, provided that no reason applies (07 R180 to R182). -/
def completeCycle (s : State) (n : Nat) : State :=
  let cells := (strCells s n).filter (emptyNow s n)
  let codes := emptyReasons s n
  let s := cells.foldl emptyAnchor s
  let s := anchorLog s n 3 cells.length
  if !codes.isEmpty then disqualify s n codes
  else
    let s := updateCap s n cells
    let s := updStr s n (fun l => { l with lc := .done, lcReason := 0 })
    judge (significant (askSnapshot (lcEvent s n) 2)) n
/-- ANCHOR_EMPTY. -/
def anchorEmptyDo (c : Nat) (s : State) : State :=
  match cellString s c with
  | none => s
  | some n =>
    if !emptyNow s n c then s
    else if (lstr s n).lc == .running then completeCycle s n
    else
      let s := anchorLog (emptyAnchor s c) n 3 1
      judge (raiseEvent s 0 0x03E2 (leBytes 2 c)) n
/-- A termination event for a string: accepted where it was charging within 60 s, else logged and ignored (07 R168). -/
def termEvent (s : State) (n : Nat) : State :=
  let ok := match (lstr s n).chargedAt with | some a => decide (s.now ≤ a + secs 60) | none => false
  if ok then updStr s n (fun l => { l with termPending := true, termDue := false }) else ledgerNote s (.termination n s.now)
/-- GPIO_TERMINATION: for every string that names the pin. -/
def gpioTermDo (g : Nat) (s : State) : State :=
  (List.range 64).foldl (fun s n => if strOn s n && (strSet s n).termSrc = g + 1 then termEvent s n else s) s

/-! ### Commands (16 Tables 16-5, 16-6) -/

/-- The Ledger is ready. -/
def ledgerIs (s : State) (_ : Req) : Bool := readyBit s 0
/-- Strings that STR names: 0xFF is every configured string; none where there is no such object. -/
def strNamed (s : State) (n : Nat) (all : Bool) : Option (List Nat) :=
  if all && n = 0xFF then some ((List.range 64).filter (strOn s)) else if n < 64 && strOn s n then some [n] else none
/-- Ledger settings of a string from the payload of SET_LEDGER. -/
def ledgerOf (x : StrSet) (b : List Byte) : StrSet :=
  { x with
    termSrc := leAt b 1 1, emptyN := leAt b 2 1, capGain := leAt b 3 1, cNom := leAt b 4 4, vFull := leAt b 8 2
    vEmpty := leAt b 10 2, fullMargin := leAt b 12 2, resBot := leAt b 14 2, resTop := leAt b 16 2, tTaper := leAt b 18 2
    lcTmax := leAt b 20 2, iTaper := leAt b 24 4, iDb := leAt b 28 4 }
/-- Keep a string's settings, and write its KA record. -/
def keepStr (s : State) (n : Nat) (x : StrSet) : State :=
  storeSetting { s with ledger := { s.ledger with set := tblSet n x s.ledger.set } } (kaStr n) (strBytes x)
/-- SET_LEDGER: the settings in force stay so until the next counted sweep (07 R160); reserved bytes 22 and 23 read zero
(00 R8). -/
def setLedgerDo (r : Req) (s : State) : State :=
  match strNamed s (byteAt r.payload 0) true with
  | none => noObject s r
  | some ns =>
    let (b, es) := clampLedger r.payload
    let hold := fun (s : State) (n : Nat) => let y := strSet s n; updStr s n (fun l => { l with held := some y })
    let s := ns.foldl (fun s n => keepStr (hold s n) n (ledgerOf (strKept s n) b)) s
    answer s r (putLe b 22 2 0) es
/-- STRING_LEDGER. -/
def stringLedgerDo (r : Req) (s : State) : State :=
  let n := byteAt r.payload 0
  match strNamed s n false with
  | none => noObject s r
  | some _ =>
    let l := lstr s n
    let open_ := l.lc == .armed || l.lc == .running
    let cur := match l.iRep with | some i => pattern 32 i | none => 0x80000000
    let valid := ((strCells s n).filter (fun c => (lcell s c).valid)).length
    answer s r (leBytes 1 n ++ leBytes 1 (strFlags l) ++ leBytes 1 (lcCode l.lc) ++ leBytes 1 l.lcReason
      ++ leBytes 4 ((refCap s n).getD 0xFFFFFFFF) ++ leBytes 4 cur ++ leBytes 2 (l.seqLast.getD 0) ++ leBytes 2 valid
      ++ leBytes 8 (match l.qLast with | some q => pattern 64 q.1 | none => 0)
      ++ leBytes 4 (if open_ then (s.now - l.lcAt) / 48000000 else 0) ++ zeros 4)
/-- Age of a cell's anchor in seconds, or the code for none. -/
def anchorAge (s : State) (x : LCell) : Nat := match x.anchorAt with
  | some a => min 0xFFFFFFFE ((s.now - a) / 48000000 + x.anchorOlder)
  | none => 0xFFFFFFFF
/-- The 32 bytes of a cell in CELL_LEDGER. -/
def cellBytes (s : State) (c : Nat) : List Byte :=
  if !cellOn s c then
    zeros 8 ++ leBytes 4 0xFFFFFFFF ++ leBytes 2 0xFFFF ++ leBytes 2 0xFFFF ++ leBytes 4 0xFFFFFFFF ++ zeros 8 ++ leBytes 4 0xFFFFFFFF
  else
    let x := lcell s c
    let running := match strOfMember s (c / 18) with | some n => (lstr s n).lc == .running | none => false
    let excluded := running && (!x.cyc || decide (capUc x < 100 * x.cycBal))
    leBytes 8 (pattern 64 x.qRem) ++ leBytes 4 x.cL ++ leBytes 2 (socOf x) ++ leBytes 2 (uCof x) ++ leBytes 4 (remOf x)
      ++ leBytes 4 (satPattern 32 x.adj) ++ leBytes 1 (b2n x.valid + b2n x.cyc * 2 + b2n excluded * 4) ++ leBytes 1 x.kind ++ zeros 2
      ++ leBytes 4 (anchorAge s x)
/-- CELL_LEDGER. -/
def cellLedgerDo (r : Req) (s : State) : State :=
  let first := leAt r.payload 0 2
  let count := leAt r.payload 2 2
  answer s r (r.payload.take 4) [] ((List.range count).flatMap (fun i => cellBytes s (first + i)))
/-- TERMINATE. -/
def terminateDo (r : Req) (s : State) : State :=
  match strNamed s (byteAt r.payload 0) true with
  | none => noObject s r
  | some ns => answer (ns.foldl termEvent s) r []
/-- Cycles ARMED or RUNNING. -/
def lcOpen (s : State) : Nat :=
  ((List.range 64).filter (fun n => (lstr s n).lc == .armed || (lstr s n).lc == .running)).length
/-- Why an arm is refused (07 R175). -/
def armFaults (s : State) (n : Nat) : List Nat :=
  let cells := strCells s n
  (if 4 ≤ lcOpen s then [0x28] else []) ++ (if (strSet s n).head = 0 then [0x29] else [])
    ++ (if cells.any (fun c => !(lcell s c).valid) then [0x2A] else [])
    ++ (if (lstr s n).lc == .armed || (lstr s n).lc == .running then [0x2C] else [])
/-- LC_ARM. -/
def lcArmDo (r : Req) (s : State) : State :=
  let n := byteAt r.payload 0
  match strNamed s n false with
  | none => noObject s r
  | some _ =>
    let codes := armFaults s n
    if !codes.isEmpty then refuse s r codes
    else
      let s := updStr s n (fun l => { l with lc := .armed, lcEnd := none, lcReason := 0, lcAt := s.now, lcDisch := false, lcPeak := 0, lcRecharge := 0 })
      let s := (strCells s n).foldl (fun s c => updCell s c (fun x => { x with cyc := false, d := 0, cycBal := 0 })) s
      answer (judge s n) r []
/-- LC_ABORT. -/
def lcAbortDo (r : Req) (s : State) : State :=
  let n := byteAt r.payload 0
  match strNamed s n false with
  | none => noObject s r
  | some _ =>
    if (lstr s n).lc == .armed || (lstr s n).lc == .running then answer (disqualify s n [12]) r [] else refuse s r [0x2C]
/-- LEDGER_RESET. -/
def ledgerResetDo (r : Req) (s : State) : State :=
  match strNamed s (byteAt r.payload 0) true with
  | none => noObject s r
  | some ns => answer (ns.foldl (fun s n => resetString s n (natBit (byteAt r.payload 1) 0)) s) r []
/-- A GPIO (1 to 8) is the TERM_SRC of a configured string. -/
def isTermSrc (s : State) (g : Nat) : Bool := g != 0 && (List.range 64).any (fun n => strOn s n && (strKept s n).termSrc == g)
/-- MAP_GPIO. -/
def mapGpioDo (r : Req) (s : State) : State :=
  let n := byteAt r.payload 0
  match strNamed s n false with
  | none => noObject s r
  | some _ =>
    let (b, es) := applyRules gpioRules r.payload
    if isTermSrc s (byteAt b 1) || isTermSrc s (byteAt b 2) then refuse s r [0x2B]
    else
      let s := keepStr s n { strKept s n with eodGpio := byteAt b 1, eocGpio := byteAt b 2, pol := byteAt b 3 }
      answer (driveGpio s) r b es

/-! ### The rows -/

/-- A row of the Ledger: it happens while the Ledger counts and its condition holds. -/
def ledgerRow (t : Nat) (c : State → Bool) (f : State → State) (s : State) : State :=
  chainRow t (fun s => s.sys.ledgerReady && c s) f s
/-- ANCHOR_TAPER. -/
def execAnchorTaper (t : Nat) (cell : Fin 2304) (s : State) : Host.Outcome State Fault Refusal :=
  .next (ledgerRow t (fun _ => true) (anchorTaperDo cell.val) s)
/-- ANCHOR_TERMINATION. -/
def execAnchorTermination (t : Nat) (str : Fin 64) (s : State) : Host.Outcome State Fault Refusal :=
  .next (ledgerRow t (fun _ => true) (anchorTermDo str.val) s)
/-- ANCHOR_EMPTY. -/
def execAnchorEmpty (t : Nat) (cell : Fin 2304) (s : State) : Host.Outcome State Fault Refusal :=
  .next (ledgerRow t (fun _ => true) (anchorEmptyDo cell.val) s)
/-- LC_DURATION_EXPIRY. -/
def execLcDurationExpiry (t : Nat) (str : Fin 64) (s : State) : Host.Outcome State Fault Refusal :=
  .next (ledgerRow t (fun s => lcIs s str.val .running && pastTmax s str.val) (fun s => disqualify s str.val [11]) s)
/-- LC_ARM_EXPIRY. -/
def execLcArmExpiry (t : Nat) (str : Fin 64) (s : State) : Host.Outcome State Fault Refusal :=
  .next (ledgerRow t (fun s => lcIs s str.val .armed && pastTmax s str.val) (fun s => disqualify s str.val [13]) s)
/-- LC_REST_GAP_EXPIRY. -/
def execLcRestGapExpiry (t : Nat) (str : Fin 64) (s : State) : Host.Outcome State Fault Refusal :=
  .next (ledgerRow t (fun s => lcIs s str.val .running && pastRest s str.val) (fun s => disqualify s str.val [6]) s)
/-- LC_TEMP_INVALID_EXPIRY. -/
def execLcTempInvalidExpiry (t : Nat) (str : Fin 64) (s : State) : Host.Outcome State Fault Refusal :=
  .next (ledgerRow t (fun s => lcIs s str.val .running && pastTemp s str.val) (fun s => disqualify s str.val [3]) s)
/-- LC_NO_RECORD_EXPIRY. -/
def execLcNoRecordExpiry (t : Nat) (str : Fin 64) (s : State) : Host.Outcome State Fault Refusal :=
  .next (ledgerRow t (fun s => (lcIs s str.val .running || lcIs s str.val .armed) && pastRecord s str.val)
    (fun s => disqualify s str.val [8]) s)
/-- ABSENCE_TIMEOUT: absence above 2 s arms swap detection (07 R183). -/
def execAbsenceTimeout (t : Nat) (d : Dev) (s : State) : Host.Outcome State Fault Refusal :=
  let i := d.pair.val * 32 + d.mem.val
  .next (ledgerRow t (fun s => match (lmem s i).absentSince with | some a => decide (a + secs 2 < s.now) | none => false)
    (fun s => updMem s i (fun m => { m with absent := true })) s)
/-- GPIO_TERMINATION. -/
def execGpioTermination (t : Nat) (gpio : Fin 8) (s : State) : Host.Outcome State Fault Refusal :=
  .next (ledgerRow t (fun _ => true) (gpioTermDo gpio.val) s)
/-- LEDGER_SNAPSHOT: every 60 s plus or minus 1 s, between two counted sweeps of each pair. -/
def execLedgerSnapshot (t : Nat) (s : State) : Host.Outcome State Fault Refusal :=
  .next (ledgerRow t (fun s => decide (s.ledger.snapAt + secs 59 ≤ s.now) && betweenSweeps s) (fun s => takeSnapshot s 0) s)
/-- SET_LEDGER. -/
def execSetLedger (t : Nat) (s : State) : Host.Outcome State Fault Refusal :=
  .next (foremanRow t 0x0301 (lenIs 32) only0 ledgerIs setLedgerDo s)
/-- STRING_LEDGER. -/
def execStringLedger (t : Nat) (s : State) : Host.Outcome State Fault Refusal :=
  .next (foremanRow t 0x0302 (lenIs 1) anyone ledgerIs stringLedgerDo s)
/-- CELL_LEDGER. -/
def execCellLedger (t : Nat) (s : State) : Host.Outcome State Fault Refusal :=
  .next (foremanRow t 0x0303 (fun r =>
    let n := leAt r.payload 2 2
    r.len == 4 && decide (1 ≤ n) && decide (n ≤ 128) && bulkIs r (32 * n)) anyone ledgerIs cellLedgerDo s)
/-- TERMINATE. -/
def execTerminate (t : Nat) (s : State) : Host.Outcome State Fault Refusal :=
  .next (foremanRow t 0x0310 (lenIs 1) only0 ledgerIs terminateDo s)
/-- LC_ARM. -/
def execLcArm (t : Nat) (s : State) : Host.Outcome State Fault Refusal :=
  .next (foremanRow t 0x0311 (lenIs 1) only0 ledgerIs lcArmDo s)
/-- LC_ABORT. -/
def execLcAbort (t : Nat) (s : State) : Host.Outcome State Fault Refusal :=
  .next (foremanRow t 0x0312 (lenIs 1) only0 ledgerIs lcAbortDo s)
/-- LEDGER_RESET. -/
def execLedgerReset (t : Nat) (s : State) : Host.Outcome State Fault Refusal :=
  .next (foremanRow t 0x0320 (lenIs 2) only0 ledgerIs ledgerResetDo s)
/-- MAP_GPIO. -/
def execMapGpio (t : Nat) (s : State) : Host.Outcome State Fault Refusal :=
  .next (foremanRow t 0x0330 (lenIs 4) only0 ledgerIs mapGpioDo s)

end Sys2Proof.Machine
end

