-- ==== Sys2Proof/Machine/Assay.lean ====
section
/-! DEFINITION. The Assayer: pairing, evaluation, classes, soft re-anchor (13 13.1 to 13.3). -/

namespace Sys2Proof.Machine

/-- The Assayer's state of a cell. -/
def acell (s : State) (c : Nat) : AssayCell := tblGet {} s.assayer.cells c
/-- Change it. -/
def updAcell (s : State) (c : Nat) (f : AssayCell → AssayCell) : State :=
  { s with assayer := { s.assayer with cells := tblSet c (f (acell s c)) s.assayer.cells } }
/-- A finite FP32 value times k, as a numerator and a denominator. -/
def fpTimes (bits k : Nat) : Option (Int × Nat) := match ofFp32 bits with
  | .fin n m e =>
    let v : Int := if n then -(m * k : Nat) else (m * k : Nat)
    some (if 0 ≤ e then (v * 2 ^ e.toNat, 1) else (v, 2 ^ (-e).toNat))
  | _ => none
/-- The stream state in which a cell's learned input is stale at once (13 R309). -/
def streamStale (s : State) (c : Nat) : Bool := match fedBy s c with
  | some n => let st := s.stream n; st.behind || !st.den || !s.sys.computeUp || s.sys.schedReset
  | none => true
/-- A cell's learned input is stale. -/
def staleNow (s : State) (c : Nat) : Bool := (acell s c).stale || streamStale s c
/-- Period of the stream of a cell. -/
def cellPeriod (s : State) (c : Nat) : Nat := match fedBy s c with
  | some n => periodOf (s.stream n)
  | none => 0
/-- Fault indicators of the feeder flags (13 Table 13-2). -/
def feedFault (f : Nat) : Bool := natBit f 1 || natBit f 2 || natBit f 4 || natBit f 5 || natBit f 7

/-! ### Classes (13 R310 to R312) -/

/-- The class after an evaluation (13 Table 13-1). -/
def classOf (cls sigma uC dis agr : Nat) (evals : List Eval) : Nat :=
  if 400 < sigma then 2
  else if cls = 0xF || 16 ≤ agr || (cls = 2 && dis < 16) then 0
  else if 16 ≤ dis && evals.any (fun e => e.indicator || e.signChange || e.unsure) then 3
  else if 16 ≤ dis && 3 * sigma + 50 ≤ uC then 1
  else if 16 ≤ dis then 3
  else cls
/-- Sign of a difference. -/
def signOf (d : Int) : Int := if 0 < d then 1 else if d < 0 then -1 else 0
/-- The counters, the window and the class of a cell take an evaluation. -/
def classify (s : State) (c mu sigma sC uC : Nat) (fault : Bool) : State :=
  let a := acell s c
  let diff : Int := (mu : Int) - sC
  let d := diff.natAbs
  let tau := max 150 (3 * sigma + uC)
  let dis := if tau < d then min 255 (a.dis + 1) else 0
  let agr := if 2 * d ≤ tau then min 255 (a.agr + 1) else 0
  let sg := signOf diff
  let ev : Eval := { indicator := fault, signChange := sg != 0 && a.sign != 0 && sg != a.sign, unsure := decide (400 < sigma) }
  let evals := pushBounded 16 a.evals ev
  let cls := classOf a.cls sigma uC dis agr evals
  let bad := fun (k : Nat) => k == 2 || k == 3
  updAcell s c (fun a => { a with
    dis := dis, agr := agr, evals := evals, sign := if sg = 0 then a.sign else sg
    runAgree := if dis = 1 && a.dis = 0 then a.cls == 0 else a.runAgree
    badAt := if bad a.cls || bad cls then some s.now else a.badAt
    evtWant := a.evtWant || cls != a.cls, cls := cls, reanchoring := false })

/-! ### Soft re-anchor (13 R315 to R317, 07 R187) -/

/-- A time lies at least HIST_H back. -/
def histOk (s : State) (at_ : Nat) : Bool := decide (at_ + secs (3600 * s.assayer.histH) ≤ s.now)
/-- Limit of the adjustment total in microcoulomb. -/
def raLimit (s : State) (cL : Nat) : Nat := s.assayer.raCap * (cL * 360000) / 10000
/-- The Assayer asks for an adjustment at this evaluation (13 R315). -/
def wantsAnchor (s : State) (c : Nat) (v : Held) (sigma : Nat) : Bool :=
  let a := acell s c
  let lc := match strOfMember s (c / 18) with | some n => (lstr s n).lc | none => .idle
  let since := match fedBy s c with | some n => (s.stream n).since | none => none
  s.assayer.raEn && a.cls == 1 && decide (sigma ≤ 100) && a.runAgree
    && histOk s (match a.badAt with | some b => max b s.sys.tbZero | none => s.sys.tbZero)
    && (match since with | some b => histOk s b | none => false)
    && !a.raCapped && decide ((lcell s c).adj.natAbs * 10000 < s.assayer.raCap * (v.cL * 360000))
    && v.valid && lc != .armed && lc != .running
/-- The adjustment (13 R316): `te` is the interval since the previous evaluation. -/
def anchorDelta (s : State) (c : Nat) (v : Held) (mu sC te : Nat) : Int :=
  let diff : Int := (mu : Int) - sC
  let cap := v.cL * 360000
  let mag := min (diff.natAbs * cap / 10000) (cap * te / (200 * 3600 * 48000000))
  let adj := (lcell s c).adj
  let lim : Int := raLimit s v.cL
  clampInt (-lim) lim (adj + signOf diff * mag) - adj
/-- The Ledger applies an adjustment, or refuses it (07 R187); at the limit the Assayer stops and reports. -/
def reanchor (s : State) (c : Nat) (v : Held) (dq : Int) : State :=
  let lc := match strOfMember s (c / 18) with | some n => (lstr s n).lc | none => .idle
  if !(lcell s c).valid || lc == .armed || lc == .running then updAcell s c (fun a => { a with refused := min 65535 (a.refused + 1) })
  else
    let s := updCell s c (fun x => { x with qRem := x.qRem + dq, adj := x.adj + dq })
    let s := updAcell s c (fun a => { a with reanchoring := true })
    if raLimit s v.cL ≤ (lcell s c).adj.natAbs then
      raiseEvent (updAcell s c (fun a => { a with raCapped := true })) 0 0x07E1 (leBytes 2 c)
    else s

/-! ### Evaluation (13 R306 to R309) -/

/-- What an estimate gives: mu and sigma in 0.01 %; none where it is invalid (13 R308). -/
def estimateOf (e : Estimate) : Option (Nat × Nat) :=
  match fpTimes (leAt e.entry 0 4) 10000, fpTimes (leAt e.entry 4 4) 100000000, fpTimes (leAt e.entry 8 4) 1 with
  | some mu, some var, some _ =>
    if e.nan || var.1 < 0 then none
    else some ((clampInt 0 10000 (divRoundAway mu.1 mu.2)).toNat, isqrtUp (ceilDiv var.1.toNat var.2))
  | _, _, _ => none
/-- An estimate meets its held value. -/
def evaluate (s : State) (e : Estimate) (v : Held) : State :=
  let c := e.cell
  let prev := (acell s c).evalAt
  let s := updAcell s c (fun a => { a with held := a.held.map (fun x => if x.seq = e.seq then { x with done := true } else x) })
  match estimateOf e with
  | none => updAcell s c (fun a => { a with invalid := true, stale := true })
  | some (mu, sigma) =>
    let s := updAcell s c (fun a => { a with
      mu := mu, sigma := sigma, muSoc := leAt e.entry 0 4, muCut := leAt e.entry 8 4, seq := e.seq, pair := some v
      evalAt := some s.now, evalRtc := rtc s, invalid := false, stale := false, skewed := natBit e.flags 0
      tempSubst := natBit e.flags 3, s := 0xFFFF, uC := 0xFFFF })
    if !v.valid || v.cL = 0 then s
    else
      let sC := (clampInt 0 10000 (divRoundAway (v.qRem * 10000) (v.cL * 360000))).toNat
      let s := classify s c mu sigma sC v.uC (feedFault e.flags || v.indicator || e.sat)
      let s := updAcell s c (fun a => { a with s := sC, uC := v.uC })
      if wantsAnchor s c v sigma then
        let p := cellPeriod s c
        let dq := anchorDelta s c v mu sC (match prev with | some b => min (s.now - b) (2 * p) | none => p)
        if dq = 0 then s else reanchor s c v dq
      else s
/-- ASSAYER_EVALUATE: the next estimate of XC_8. One whose sequence is not held, or is already evaluated, counts in PAIR_MISS
(13 R307); one that finds its cell's input stale is not evaluated (13 R309). -/
def assayEvalDo (s : State) : State :=
  match s.assayer.inbox with
  | [] => s
  | e :: es =>
    let s := { s with assayer := { s.assayer with inbox := es } }
    let s := if es.length < 32 then s.updSys (fun y => { y with crossFull := y.crossFull.filter (· != 8) }) else s
    match (acell s e.cell).held.find? (fun v => v.seq == e.seq && !v.done) with
      | some v => if e.behind || streamStale s e.cell then s else evaluate s e v
      | none => updAcell s e.cell (fun a => { a with pairMiss := min 65535 (a.pairMiss + 1) })
/-- A class change may be reported: 10 s since the cell's last event (13 R313). -/
def classDue (s : State) (c : Nat) : Bool :=
  let a := acell s c
  a.evtWant && (match a.evtAt with | some b => decide (b + secs 10 ≤ s.now) | none => true)
/-- CLASS_CHANGE_EVENT. -/
def classEventDo (c : Nat) (s : State) : State :=
  raiseEvent (updAcell s c (fun a => { a with evtWant := false, evtAt := some s.now })) 0 0x07E0
    (leBytes 2 c ++ leBytes 1 (acell s c).cls)
/-- No estimate has been evaluated within 8 of the stream's periods (13 R309). -/
def learnedOld (s : State) (c : Nat) : Bool :=
  let a := acell s c
  !a.stale && (match a.evalAt with | some b => decide (b + 8 * cellPeriod s c < s.now) | none => true)
/-- A 10 s rule has run its time (13 R323). -/
def disDue (s : State) (d : DisState) : Bool :=
  d.below != d.dis && (match d.since with | some b => decide (b + secs 10 ≤ s.now) | none => false)

/-! ### The rows -/

/-- A row of the Assayer. -/
def assayRow (t : Nat) (c : State → Bool) (f : State → State) (s : State) : State := chainRow t (fun s => s.sys.assayerReady && c s) f s
/-- ASSAYER_EVALUATE. -/
def execAssayerEvaluate (t : Nat) (s : State) : Host.Outcome State Fault Refusal :=
  .next (assayRow t (fun _ => true) assayEvalDo s)
/-- CLASS_CHANGE_EVENT. -/
def execClassChangeEvent (t : Nat) (cell : Fin 2304) (s : State) : Host.Outcome State Fault Refusal :=
  .next (assayRow t (fun s => classDue s cell.val) (classEventDo cell.val) s)
/-- LEARNED_STALE. -/
def execLearnedStale (t : Nat) (cell : Fin 2304) (s : State) : Host.Outcome State Fault Refusal :=
  .next (assayRow t (fun s => learnedOld s cell.val) (fun s => updAcell s cell.val (fun a => { a with stale := true })) s)
/-- The state that a discharging rule changes. -/
def disChangeDo (sc : DisScope) (s : State) : State := match sc with
  | .string n =>
    let d := tblGet {} s.assayer.strDis n.val
    if disDue s d then { s with assayer := { s.assayer with strDis := tblSet n.val { d with dis := d.below } s.assayer.strDis } } else s
  | .site =>
    let d := s.assayer.siteDis
    if disDue s d then { s with assayer := { s.assayer with siteDis := { d with dis := d.below } } } else s
/-- DISCHARGE_CHANGE. -/
def execDischargeChange (t : Nat) (sc : DisScope) (s : State) : Host.Outcome State Fault Refusal :=
  .next (assayRow t (fun _ => true) (disChangeDo sc) s)

end Sys2Proof.Machine
end

