-- ==== Sys2Proof/Machine/Reports.lean ====
section
/-! DEFINITION. The report channels (13 13.4 to 13.8), the string values that fabric summaries carry (18 R434), and the commands
of the Assayer group (16 16.7). -/

namespace Sys2Proof.Machine

/-! ### Exact quantities -/

/-- A quantity as a numerator and a positive denominator. -/
abbrev Ratio := Int × Nat
/-- An integer. -/
def ratOf (n : Int) : Ratio := (n, 1)
/-- Sum. -/
def ratAdd (a b : Ratio) : Ratio := (a.1 * b.2 + b.1 * a.2, a.2 * b.2)
/-- Difference. -/
def ratSub (a b : Ratio) : Ratio := (a.1 * b.2 - b.1 * a.2, a.2 * b.2)
/-- Order. -/
def ratLt (a b : Ratio) : Bool := decide (a.1 * b.2 < b.1 * a.2)
/-- Held between 0 and c. -/
def ratClamp (c : Int) (a : Ratio) : Ratio := if a.1 < 0 then ratOf 0 else if ratLt (ratOf c) a then ratOf c else a
/-- Ties away from zero (00 R6). -/
def ratRound (a : Ratio) : Int := divRoundAway a.1 a.2
/-- a / b x 10,000, rounded and held within 0 to 10,000; 0 where b is 0 (13 R322). -/
def socRatio (a b : Ratio) : Nat :=
  if b.1 ≤ 0 then 0 else (clampInt 0 10000 (divRoundAway (a.1 * 10000 * b.2) (a.2 * b.1.toNat))).toNat
/-- In 0.1 mAh, held within the valid range. -/
def ratUnits (a : Ratio) : Nat := (clampInt 0 0xFFFFFFFE (divRoundAway a.1 (a.2 * 360000))).toNat

/-! ### The blend of R321 in FP32 -/

/-- A quotient as a float before rounding. -/
def flRatio (n : Int) (d : Nat) : Fl :=
  let q := n.natAbs * 2 ^ 128 / max 1 d
  .fin (decide (n < 0)) (2 * q + b2n (n.natAbs * 2 ^ 128 % max 1 d != 0)) (-129)
/-- Round to FP32. -/
def fp32 (x : Fl) : Fl := ofFp32 (toFp32 .nearest x).bits
/-- Quotient of two positive finite floats. -/
def flDiv : Fl → Fl → Fl
  | .fin a m e, .fin b n f => if n = 0 then .nan else
    let q := m * 2 ^ 64 / n
    .fin (a != b) (2 * q + b2n (m * 2 ^ 64 % n != 0)) (e - f - 65)
  | _, _ => .nan
/-- A finite float rounded to an integer. -/
def flInt : Fl → Int
  | .fin n m e =>
    let v : Int := if n then -(m : Int) else m
    if 0 ≤ e then v * 2 ^ e.toNat else divRoundAway v (2 ^ (-e).toNat)
  | _ => 0
/-- w = u_C^2 / (u_C^2 + 9 sigma^2). -/
def blendW (uC sigma : Nat) : Fl :=
  let u2 := fp32 (.fin false (uC * uC) 0)
  let s2 := fp32 (.fin false (sigma * sigma) 0)
  fp32 (flDiv u2 (fp32 (flAdd u2 (fp32 (flMul (.fin false 9 0) s2)))))
/-- Q_C + w (Q_L - Q_C). -/
def blend (w : Fl) (c l : Ratio) : Int :=
  let qc := fp32 (flRatio c.1 c.2)
  let ql := fp32 (flRatio l.1 l.2)
  flInt (fp32 (flAdd qc (fp32 (flMul w (fp32 (flSub ql qc))))))

/-! ### Values of a cell (13 R320 to R322) -/

/-- What one path yields: state of charge, remaining charge and zero point in microcoulomb. -/
structure PathVal where
  soc : Nat
  r : Ratio
  z : Ratio
  deriving DecidableEq, Repr

/-- What a channel uses of a cell or a string. -/
structure RepVal where
  ok : Bool := false
  flags : Nat := 8
  cls : Nat := 0xF
  seq : Nat := 0xFFFF
  at_ : Option Nat := none
  rtc : Nat := 0
  weak : Nat := 0xFFFF
  uC : Nat := 0xFFFF
  sigma : Nat := 0xFFFF
  mu : Nat := 0xFFFF
  s : Nat := 0xFFFF
  cap : Option Nat := none  -- 0.1 mAh
  soc : Nat := 0
  r : Ratio := (0, 1)
  den : Ratio := (0, 1)
  deriving DecidableEq, Repr

/-- Classical path. -/
def classicalPath (resc : Bool) (resBot : Nat) (v : Held) : PathVal :=
  let c := v.cL * 360000
  if resc then
    let z : Ratio := (resBot * c, 10000)
    let r := ratClamp c (ratSub (ratOf v.qRem) z)
    { soc := socRatio r (ratSub (ratOf c) z), r := r, z := z }
  else { soc := socRatio (ratOf v.qRem) (ratOf c), r := ratOf v.qRem, z := ratOf 0 }
/-- Learned path. -/
def learnedPath (resc : Bool) (a : AssayCell) (cL : Nat) : PathVal :=
  let c := cL * 360000
  let ms : Ratio := (fpTimes a.muSoc c).getD (0, 1)
  let mc : Ratio := (fpTimes a.muCut c).getD (0, 1)
  if resc then
    let r := ratClamp c mc
    let z := ratClamp c (ratSub ms r)
    { soc := socRatio r (ratSub (ratOf c) z), r := r, z := z }
  else { soc := a.mu, r := ratClamp c ms, z := ratOf 0 }
/-- Both paths weighed (13 R321). -/
def blended (uC sigma : Nat) (c l : PathVal) : PathVal :=
  let w := blendW uC sigma
  { soc := (clampInt 0 10000 (blend w (ratOf c.soc) (ratOf l.soc))).toNat, r := ratOf (blend w c.r l.r), z := ratOf (blend w c.z l.z) }
/-- The value a channel of a source takes of a cell (13 Table 13-5). -/
def cellVal (s : State) (source : Nat) (resc : Bool) (c : Nat) : RepVal :=
  let a := acell s c
  let fresh := !staleNow s c
  let base : RepVal := { cls := a.cls, weak := c }
  match (if fresh then a.pair else a.last) with
  | none => base
  | some v =>
    if !cellOn s c then base
    else
      let resBot := match strOfMember s (c / 18) with | some n => (strSet s n).resBot | none => 0
      let classical := v.valid && v.cL != 0
      let cp := classicalPath resc resBot v
      let lp := learnedPath resc a v.cL
      let fl := b2n (v.skewed || (fresh && a.skewed)) * 2 + b2n a.reanchoring * 8192 + b2n (v.tempSubst || (fresh && a.tempSubst)) * 16384
      let base := { base with
        seq := v.seq, at_ := if fresh then a.evalAt else some v.at_, rtc := if fresh then a.evalRtc else v.rtc
        uC := if classical then v.uC else 0xFFFF, s := if classical then (classicalPath false 0 v).soc else 0xFFFF
        sigma := if fresh then min 65535 a.sigma else 0xFFFF, mu := if fresh then a.mu else 0xFFFF, cap := some v.cL }
      let use := fun (p : PathVal) (f : Nat) => { base with
        ok := true, flags := fl + f, soc := p.soc, r := p.r, den := ratSub (ratOf (v.cL * 360000 : Nat)) p.z }
      if !fresh then (if classical then use cp 1 else base)
      else if !classical then
        (if source = 0 then { base with flags := fl + 8 + 4 } else use lp (if source = 2 then 4 else 0))
      else if source = 0 then use cp 0
      else if source = 1 then use lp 0
      else if a.cls = 0 || a.cls = 0xF then use (blended v.uC a.sigma cp lp) 0
      else if a.cls = 1 then use lp 0
      else use cp 0

/-! ### Strings and sites (13 R326, R327) -/

/-- Badness of a class: SUSPECT, MODEL_UNSURE, ANCHOR_DUE, AGREE, NONE. -/
def badness (c : Nat) : Nat := if c = 3 then 4 else if c = 2 then 3 else if c = 1 then 2 else if c = 0 then 1 else 0
/-- The worse of two classes. -/
def worse (a b : Nat) : Nat := if badness a < badness b then b else a
/-- OR of flag words. -/
def orFlags (l : List Nat) : Nat := l.foldl (· ||| ·) 0
/-- Flags that a string gives its values. -/
def stringFlags (s : State) (n : Nat) : Nat :=
  let l := lstr s n
  b2n (tblGet {} s.assayer.strDis n).dis * 64 + b2n (l.eod == some true) * 128 + b2n (l.eoc == some true) * 256
    + b2n (l.lc == .armed || l.lc == .running) * 512
/-- The value of a string: its cell with the smallest remaining charge. -/
def stringVal (s : State) (source : Nat) (resc : Bool) (n : Nat) : RepVal :=
  let vs := (strCells s n).map (fun c => cellVal s source resc c)
  let oks := vs.filter (fun v => v.ok)
  let cls := (vs.map (fun v => v.cls)).foldl worse 0xF
  match oks with
  | [] => { flags := orFlags (8 :: vs.map (fun v => v.flags)), cls := cls }
  | o :: os =>
    let weak := os.foldl (fun a b => if ratLt b.r a.r then b else a) o
    let old := os.foldl (fun a b => if b.at_.getD 0 < a.at_.getD 0 then b else a) o
    let flags := orFlags (vs.map (fun v => if v.ok then v.flags else clearFrom v.flags 8))
    let cs := refCap s n
    { weak with
      cls := cls, flags := flags, seq := old.seq, at_ := old.at_, rtc := old.rtc, cap := cs
      den := if resc then weak.den else ratOf ((cs.getD 0) * 360000 : Nat) }
/-- The string value has a denominator. -/
def summable (v : RepVal) : Bool := v.ok && decide (0 < v.den.1)
/-- The pair of Table 18-7 for a source and a continuity. -/
def sumPair (s : State) (n source : Nat) (resc : Bool) : Nat × Nat :=
  let v := stringVal s source resc n
  if summable v then (ratUnits v.r, ratUnits v.den) else (0xFFFFFFFF, 0xFFFFFFFF)
/-- Where the node publishes SITE channels: alone, or as the elected manager (13 R327); a node of a fabric whose role is not yet
resolved is neither (01 R20, 17 Table 17-6 FABRIC; log 182). -/
def siteOwner (s : State) : Bool := s.fabric.role == .manager || (s.fabric.role == .single && s.fabric.ready)
/-- The value of a site: own strings, and the summaries that a manager holds. -/
def siteVal (s : State) (source : Nat) (resc : Bool) : RepVal :=
  if !siteOwner s then { flags := 8 + 1024 }
  else
    let own := ((List.range 64).filter (strOn s)).map (fun n => (n, stringVal s source resc n))
    let used := own.filter (fun e => summable e.2)
    let k := 2 * source + b2n resc
    let mgr := s.fabric.role == .manager
    let fresh := s.fabric.sums.filter (fun x => decide (s.now ≤ x.at_ + 144000000))
    let recs := if mgr then fresh.flatMap (fun x => x.recs) else []
    let far := (recs.map (fun r => (r, r.sums.getD k (0xFFFFFFFF, 0xFFFFFFFF)))).filter (fun e => e.2.1 != 0xFFFFFFFF)
    let others := if mgr then s.fabric.table_.filter (fun e => e.2 != s.fabric.node) else []
    let partly := used.length != own.length || far.length != recs.length
      || others.any (fun e => !fresh.any (fun x => x.serial == e.1))
    let r := far.foldl (fun a e => ratAdd a (ratOf (e.2.1 * 360000 : Nat))) (used.foldl (fun a e => ratAdd a e.2.r) (ratOf 0))
    let den := far.foldl (fun a e => ratAdd a (ratOf (e.2.2 * 360000 : Nat))) (used.foldl (fun a e => ratAdd a e.2.den) (ratOf 0))
    let farFlags := recs.map (fun x => b2n (natBit x.flags 0) + b2n (natBit x.flags 1) * 2 + b2n (natBit x.flags 6) * 4
      + b2n (natBit x.flags 2) * 128 + b2n (natBit x.flags 3) * 256 + b2n (natBit x.flags 4) * 512 + b2n (natBit x.flags 5) * 16384)
    let any := !used.isEmpty || !far.isEmpty
    let flags := clearFrom (orFlags (used.map (fun e => e.2.flags ||| stringFlags s e.1) ++ farFlags)) 64
    let first := used.foldl (fun (a : Option RepVal) e => match a with
      | some b => if e.2.at_.getD 0 < b.at_.getD 0 then some e.2 else some b
      | none => some e.2) none
    { ok := any, flags := flags + b2n partly * 2048 + b2n (!any) * 8 + b2n s.assayer.siteDis.dis * 64
      cls := (own.map (fun e => e.2.cls)).foldl worse 0xF, at_ := first.bind (fun v => v.at_), rtc := (first.map (fun v => v.rtc)).getD 0
      cap := if any then some (ratUnits den) else none, soc := socRatio r den, r := r, den := den }

/-! ### Publication (13 R319, R324, R328, R329) -/

/-- A report channel. -/
def rchan (s : State) (n : Nat) : RChan := tblGet {} s.assayer.chans n
/-- Change it. -/
def updChan (s : State) (n : Nat) (f : RChan → RChan) : State :=
  { s with assayer := { s.assayer with chans := tblSet n (f (rchan s n)) s.assayer.chans } }
/-- The next multiple of a channel's PERIOD on the time base (13 R319). -/
def nextPub (s : State) (c : RChan) : Nat := let p := max 1 c.period * 12000000; s.sys.tbZero + (tb s / p + 1) * p
/-- CFG. -/
def chanCfg (c : RChan) : Nat := c.source + c.scope * 4 + c.cont * 16 + b2n c.en * 128
/-- The channel's value, its discharging state and its current. -/
def chanVal (s : State) (c : RChan) : RepVal × Bool × Option Int :=
  let resc := decide (2 ≤ c.cont)
  if c.scope = 2 then
    (siteVal s c.source resc, s.assayer.siteDis.dis, if siteOwner s then (siteCurrent s).map (fun e => e.1) else none)
  else
    let n := if c.scope = 1 then some c.obj else strOfMember s (c.obj / 18)
    let v := if c.scope = 1 then stringVal s c.source resc c.obj else cellVal s c.source resc c.obj
    match n with
    | some k => ({ v with flags := v.flags ||| stringFlags s k }, (tblGet {} s.assayer.strDis k).dis, (lstr s k).iRep)
    | none => (v, false, none)
/-- P after a publication with target t, both in 0.001 of 0.01 %, and HELD and SLEWING (13 R324). -/
def holdStep (c : RChan) (dis : Bool) (t : Nat) : Nat × Nat :=
  if c.cont % 2 = 0 then (t, 0)
  else match c.p with
    | none => (t, 0)
    | some p =>
      let step := 100000 * c.period / 240
      if dis then (min p t, if p < t then 16 else 0)
      else if p < t then (if p + step < t then (p + step, 32) else (t, 0))
      else (if t + step < p then (p - step, 32) else (t, 0))
/-- Settings that wait take effect; continuity restarts where a write since the last publication asks for it (13 R319). -/
def takePend (c : RChan) : RChan := match c.pend with
  | some b =>
    let d := chanOfBytes { c with pend := none, restart := false } b
    if c.restart then { d with p := none } else d
  | none => c
/-- SOURCE, SCOPE, OBJ and CONT of two settings are the same. -/
def sameView (c d : RChan) : Bool := c.source == d.source && c.scope == d.scope && c.obj == d.obj && c.cont == d.cont
/-- Bytes 4 to 59 of a snapshot. -/
def snapBody (s : State) (c : RChan) (v : RepVal) (cur : Option Int) (flags soc rem updates : Nat) : List Byte :=
  let site := c.scope == 2
  let ok := v.ok
  leBytes 1 (chanCfg c) ++ leBytes 1 v.cls ++ leBytes 2 flags ++ leBytes 2 (if ok then soc else 0xFFFF)
    ++ leBytes 2 (if ok then v.soc else 0xFFFF) ++ leBytes 4 (if ok then rem else 0xFFFFFFFF)
    ++ leBytes 4 (if ok then v.cap.getD 0xFFFFFFFF else 0xFFFFFFFF) ++ leBytes 2 v.uC ++ leBytes 2 v.sigma ++ leBytes 2 v.mu
    ++ leBytes 2 v.s ++ leBytes 2 (if site then 0xFFFF else v.seq) ++ leBytes 2 (if site then 0xFFFF else c.obj)
    ++ leBytes 4 (match cur with | some i => satPattern 32 i | none => 0x80000000) ++ leBytes 8 v.rtc
    ++ leBytes 4 (match v.at_ with | some a => min 0xFFFFFFFF (divRoundAway ((s.now - a : Nat) : Int) 48000).toNat | none => 0xFFFFFFFF)
    ++ leBytes 4 updates ++ leBytes 2 (if site then 0xFFFF else v.weak) ++ zeros 6
/-- A snapshot is written, GEN odd while it is (13 R329). -/
def writeSnap (s : State) (n : Nat) (body : List Byte) : State :=
  updChan s n (fun c =>
    let g := (c.gen + 2) % 2 ^ 32
    { c with gen := g, snap := leBytes 4 g ++ body ++ leBytes 4 g })
/-- REPORT_PUBLISH. -/
def publishDo (n : Nat) (s : State) : State :=
  let s := updChan s n takePend
  let c := rchan s n
  let (v, dis, cur) := chanVal s c
  let h := if v.ok then holdStep c dis (v.soc * 1000) else (c.p.getD 0, 0)
  let t := v.soc * 1000
  let soc := (divRoundAway h.1 1000).toNat
  let rem := if c.cont % 2 = 0 || t = 0 then ratUnits v.r else ratUnits (v.r.1 * h.1, v.r.2 * t)
  let flags := v.flags + h.2 + b2n (!s.ka.rtcValid) * 4096
  let up := (c.updates + 1) % 2 ^ 32
  let s := updChan s n (fun c => { c with p := if v.ok then some h.1 else c.p, updates := up, nextAt := some (nextPub s c) })
  let s := writeSnap s n (snapBody s c v cur flags soc rem up)
  (List.range 16).foldl (fun s k => s.portSet k (fun p => { p with snapStat := setBit p.snapStat n true })
    (fun j => { j with snap := setBit j.snap n true })) s
/-- REPORT_PUBLISH. -/
def execReportPublish (t : Nat) (ch : Fin 16) (s : State) : Host.Outcome State Fault Refusal :=
  .next (assayRow t (fun s =>
    let c := rchan s ch.val
    c.en && (match c.nextAt with | some a => decide (a ≤ s.now) | none => false)) (publishDo ch.val) s)

/-! ### Commands (16 Table 16-10) -/

/-- The Assayer is ready. -/
def assayerIs (s : State) (_ : Req) : Bool := readyBit s 1
/-- SET_ASSAYER. -/
def setAssayerDo (r : Req) (s : State) : State :=
  let (b, es) := applyRules assayerRules r.payload
  let s := { s with assayer := { s.assayer with raEn := byteAt b 0 == 1, histH := byteAt b 1, raCap := leAt b 2 2 } }
  answer (storeSetting s 0x68 b) r b es
/-- A channel names a configured cell or string, or a site. -/
def objOk (s : State) (scope obj : Nat) : Bool := if scope = 0 then cellOn s obj else if scope = 1 then decide (obj < 64) && strOn s obj else true
/-- A channel's settings as last written. -/
def chanSettings (c : RChan) : List Byte := match c.pend with | some b => b | none => chanBytes c
/-- SET_CHANNEL: an enable begins at the next multiple of PERIOD, a disable marks the snapshot, any other write waits for the
next publication; each write that changes SOURCE, SCOPE, OBJ or CONT, be it of settings that still wait, asks for a restart. -/
def setChannelDo (r : Req) (s : State) : State :=
  let n := byteAt r.payload 0
  if 16 ≤ n then noObject s r
  else
    let (b, es) := applyRules channelRules r.payload
    if !objOk s (byteAt b 3) (leAt b 4 2) then noObject s r
    else
      let set := b.drop 1
      let s := storeSetting s (kaChan n) set
      let c := rchan s n
      let on := byteAt b 1 == 1
      let d := chanOfBytes { c with pend := none } set
      let s :=
        if c.en && on then
          let was := chanOfBytes c (chanSettings c)
          updChan s n (fun c => { c with pend := some set, restart := c.restart || !sameView was d })
        else if on then updChan s n (fun _ => { d with p := none, restart := false, updates := 0, nextAt := some (nextPub s d) })
        else if c.en then
          let s := updChan s n (fun _ => { d with nextAt := none, p := none, restart := false })
          writeSnap s n (leBytes 1 (byteAt c.snap 4 % 128) ++ sliceAt c.snap 5 55)
        else updChan s n (fun _ => d)
      answer s r b es
/-- GET_CHANNEL. -/
def getChannelDo (r : Req) (s : State) : State :=
  let n := byteAt r.payload 0
  if 16 ≤ n then noObject s r else answer s r (leBytes 1 n ++ chanSettings (rchan s n))
/-- CELL_ASSAY. -/
def cellAssayDo (r : Req) (s : State) : State :=
  let c := leAt r.payload 0 2
  if !cellOn s c then noObject s r
  else
    let a := acell s c
    let seen := a.evalAt.isSome
    answer s r (leBytes 2 c ++ leBytes 1 a.cls ++ leBytes 1 a.dis ++ leBytes 1 a.agr
      ++ leBytes 1 (b2n (staleNow s c) + b2n a.reanchoring * 2 + b2n a.raCapped * 4) ++ leBytes 2 a.pairMiss
      ++ leBytes 4 (satPattern 32 (lcell s c).adj) ++ leBytes 2 a.refused ++ leBytes 2 (if seen then a.mu else 0xFFFF)
      ++ leBytes 2 (if seen then min 65535 a.sigma else 0xFFFF) ++ leBytes 2 a.s ++ leBytes 2 a.uC ++ leBytes 2 a.seq)
/-- SET_ASSAYER. -/
def execSetAssayer (t : Nat) (s : State) : Host.Outcome State Fault Refusal :=
  .next (foremanRow t 0x0701 (lenIs 4) only0 assayerIs setAssayerDo s)
/-- SET_CHANNEL. -/
def execSetChannel (t : Nat) (s : State) : Host.Outcome State Fault Refusal :=
  .next (foremanRow t 0x0702 (lenIs 8) only0 assayerIs setChannelDo s)
/-- GET_CHANNEL. -/
def execGetChannel (t : Nat) (s : State) : Host.Outcome State Fault Refusal :=
  .next (foremanRow t 0x0703 (lenIs 1) anyone assayerIs getChannelDo s)
/-- CELL_ASSAY. -/
def execCellAssay (t : Nat) (s : State) : Host.Outcome State Fault Refusal :=
  .next (foremanRow t 0x0704 (lenIs 2) anyone assayerIs cellAssayDo s)

/-! ### Restore (07 R186, 20 R465) -/

/-- LEDGER_RESTORE: counters from the newest valid snapshot; a cycle that the reset cut is disqualified; the Assayer has its
settings and its enabled channels publish from now on. -/
def restoreDo (s : State) : State :=
  let s := restoreLedger s
  let s := { s with ledger := { s.ledger with restored := true, snapAt := s.now } }
  let s := s.updSys (fun y => { y with ledgerReady := true, assayerReady := true })
  let s := (List.range 64).foldl (fun s n => disqualify s n [9]) s
  let s := { s with assayer := { s.assayer with chans := s.assayer.chans.map (fun (e : Nat × RChan) =>
    (e.1, if e.2.en then { e.2 with nextAt := some (nextPub s e.2) } else e.2)) } }
  driveGpio ((List.range 64).foldl (fun s n => if strOn s n then judge s n else s) s)

/-- LEDGER_RESTORE. -/
def execLedgerRestore (t : Nat) (s : State) : Host.Outcome State Fault Refusal :=
  .next (chainRow t (fun s => s.sys.boot == .parallel && !s.sys.ledgerReady) restoreDo s)

end Sys2Proof.Machine
end

