-- ==== Sys2Proof/Machine/FabricOps.lean ====
section
/-! DEFINITION. The fabric engine's operations (18): links and training, frames, floods, discovery and the manager's lease, routes,
summaries. -/

namespace Sys2Proof.Machine

/-- Change the fabric engine. -/
def State.updFab (s : State) (f : Fabric → Fabric) : State := { s with fabric := f s.fabric }
/-- Link l. -/
def State.link (s : State) (l : Nat) : Link := s.fabric.links.getD l {}
/-- Change link l. -/
def State.updLink (s : State) (l : Nat) (f : Link → Link) : State := s.updFab (fun x => { x with links := modAt x.links l f })
/-- Links that are UP. -/
def upLinks (s : State) : List Nat := (List.range 6).filter (fun l => (s.link l).st == .up)
/-- Milliseconds in time counts. -/
def ms (n : Nat) : Nat := n * 48000
/-- The device's serial number. -/
def ownSerial (s : State) : Nat := s.sys.fuses.serial
/-- The code of a link state (18 Table 18-2). -/
def linkCode : LinkSt → Nat
  | .disabled => 0
  | .down => 1
  | .detect => 2
  | .exchange => 3
  | .align => 4
  | .up => 5
/-- COST of an UP link (18 R416). -/
def linkCost (x : Link) : Nat := 8 / (x.width * (if x.rate = 1 then 2 else 1))
/-- A code of ROLE (16 FABRIC_STATUS). -/
def roleCode : Role → Nat
  | .single => 0
  | .worker => 1
  | .manager => 2

/-! ### Frames (18 R422 to R424) -/

/-- A frame with its CRC-32, least significant byte first (18 Table 18-4). -/
def fabFrame (type flags src dst ttl serial seq : Nat) (payload : List Byte) : List Byte :=
  let b := leBytes 1 type ++ leBytes 1 flags ++ leBytes 1 src ++ leBytes 1 dst ++ leBytes 2 payload.length ++ leBytes 1 ttl ++ zeros 1
    ++ leBytes 8 serial ++ leBytes 4 seq ++ payload
  b ++ leBytes 4 (crc32 b)
/-- A frame as received, its header's fields taken out (18 Table 18-4). -/
structure Fab where
  type : Nat
  flags : Nat
  src : Nat
  dst : Nat
  ttl : Nat
  serial : Nat
  seq : Nat
  payload : List Byte
  deriving DecidableEq, Repr
/-- The fields of the bytes between a start and a terminate control block (18 R422). -/
def fabOf (b : List Byte) : Fab :=
  { type := byteAt b 0, flags := byteAt b 1, src := byteAt b 2, dst := byteAt b 3, ttl := byteAt b 6, serial := leAt b 8 8
    seq := leAt b 16 4, payload := sliceAt b 20 (leAt b 4 2) }
/-- A frame that is neither damaged nor too long: LEN is at most 1,008 and is the payload's length, and the CRC-32 over header and
payload passes (18 R422). -/
def frameOk (b : List Byte) : Bool :=
  let n := leAt b 4 2
  decide (n ≤ 1008) && b.length == 24 + n && leAt b (20 + n) 4 == crc32 (b.take (20 + n))
/-- The next SEQ of a TYPE of the node's own; a multiple of 2^20 goes to FAB_SEQ_BASE (18 R424). -/
def takeSeq (s : State) (type : Nat) : Nat × State :=
  let q := s.fabric.own.getD (type - 1) 0
  let s := if q % 1048576 = 0 then kaConfig s 0x78 (leBytes 4 q) else s
  (q, s.updFab (fun x => { x with own := modAt x.own (type - 1) (fun v => (v + 1) % 4294967296) }))
/-- Send one frame on links. -/
def emitOn (s : State) (ls : List Nat) (b : List Byte) : State := ls.foldl (fun s l => s.emit (.fabric l b)) s
/-- Originate a FLOOD frame out of every UP link, unless the SEQ base may be stale (18 R424). -/
def flood (s : State) (type : Nat) (payload : List Byte) : State :=
  if s.fabric.hold then s
  else
    let q := takeSeq s type
    emitOn q.2 (upLinks q.2) (fabFrame type 1 q.2.fabric.node 0xFF 64 (ownSerial q.2) q.1 payload)
/-- Newer modulo 2^32 within a window of 2^31 (18 R423). -/
def newer (held seq : Nat) : Bool := let d := (seq + 4294967296 - held) % 4294967296; decide (0 < d ∧ d < 2147483648)
/-- The link that carries routed frames to a node ID: the primary, the alternate while the primary is not UP or its neighbour
is dropped (18 R423, R430). -/
def routeLink (s : State) (dst : Nat) : Option Nat :=
  let r := tblGet {} s.fabric.routes dst
  let on := fun (l : Nat) => decide (l < 6) && (s.link l).st == .up && !(s.link l).dropped
  if on r.primary then some r.primary else if on r.alt then some r.alt else none
/-- Send a routed frame, or discard and count it (18 R423). -/
def sendRouted (s : State) (dst : Nat) (b : List Byte) : State :=
  match routeLink s dst with
  | some l => s.emit (.fabric l b)
  | none => s.updFab (fun x => { x with discards := x.discards + 1 })
/-- A frame arrives on an UP link: a bad one is counted and discarded (18 R422); a row takes the frames of its kind. -/
def fabIn (l : Nat) (b : List Byte) (kind : State → Fab → Bool) (k : Fab → State → State) (s : State) : State :=
  if (s.link l).st != .up then s
  else if !frameOk b then s.updLink l (fun x => { x with errors := x.errors + 1 })
  else if kind s (fabOf b) then k (fabOf b) s
  else s
/-- The frames of a TYPE. -/
def ofType (type : Nat) (_ : State) (f : Fab) : Bool := f.type == type
/-- The last SEQ held of a serial and TYPE. -/
def heldSeq (s : State) (serial type : Nat) : Option Nat :=
  (s.fabric.seqs.find? (fun e => e.serial == serial && e.type == type)).map (fun e => e.seq)
/-- Put a value for a serial. -/
def putSerial (l : List (Nat × Nat)) (serial v : Nat) : List (Nat × Nat) := l.filter (fun e => e.1 != serial) ++ [(serial, v)]
/-- A FLOOD frame: what is new is acted on and forwarded out of every other UP link (18 R423, R424). -/
def takeFlood (l : Nat) (k : Fab → State → State) (f : Fab) (s : State) : State :=
  if f.serial = ownSerial s then s
  else
    let s := s.updFab (fun x => { x with floodAt := putSerial x.floodAt f.serial s.now })
    let fresh := match heldSeq s f.serial f.type with | some q => newer q f.seq | none => true
    if !fresh then s
    else
      let s := s.updFab (fun x => { x with
        seqs := x.seqs.filter (fun e => !(e.serial == f.serial && e.type == f.type)) ++ [{ serial := f.serial, type := f.type, seq := f.seq }] })
      let s := k f s
      if f.ttl ≤ 1 then s
      else emitOn s ((upLinks s).filter (fun x => x != l))
        (fabFrame f.type f.flags f.src f.dst (f.ttl - 1) f.serial f.seq f.payload)
/-- A frame of a TYPE that floods arrives. -/
def floodIn (l type : Nat) (b : List Byte) (k : Fab → State → State) (s : State) : State := fabIn l b (ofType type) (takeFlood l k) s

/-! ### Link state (18 18.2) -/

/-- LINK_STATE (16 Table 16-12). -/
def linkState (s : State) (l : Nat) : State :=
  let x := s.link l
  raiseEvent s 0 0x09E1 (leBytes 1 l ++ leBytes 1 (linkCode x.st) ++ leBytes 1 x.width ++ leBytes 1 x.rate)
/-- The held link lists have changed (18 R430). -/
def listsChanged (s : State) : State :=
  s.updFab (fun x => { x with dirty := match x.dirty with | some d => some d | none => some s.now })
/-- A change of the node's own links: a HELLO is due, routes are to be recomputed (18 Table 18-5, R430). -/
def linkChanged (s : State) : State := listsChanged (s.updFab (fun x => { x with helloWant := true }))
/-- All links down starts its 3 s (18 R432). -/
def countAlone (s : State) : State :=
  s.updFab (fun x => { x with aloneSince := if (upLinks s).isEmpty then (match x.aloneSince with | some a => some a | none => some s.now) else none })
/-- A link leaves its state for one that carries nothing. -/
def leaveTo (s : State) (l : Nat) (st : LinkSt) (rate : Nat) : State :=
  let was := (s.link l).st == .up
  let s := s.updLink l (fun x => { x with st := st, width := 0, lanes := 0, rate := rate, since := s.now, neigh := none, dropped := false })
  if was then countAlone (linkChanged s) else s
/-- Start DETECT (18 R419). -/
def startDetect (s : State) (l : Nat) : State := leaveTo s l .detect 2
/-- DOWN: the width and rate limits end, the retry is 10 s away (18 R420, R421). -/
def enterDown (s : State) (l : Nat) : State :=
  (leaveTo s l .down 0).updLink l (fun x => { x with
    retryAt := s.now + ms 10000, capW := 4, capRate := 1, single := false, fails := 0 })
/-- LINK_DOWN (18 R420, 21 Table 21-3). -/
def linkDown (s : State) (l rounds : Nat) : State :=
  linkState (logFault (enterDown s l) 0x0601 1 false 0xFF 4 l (leBytes 1 rounds)) l
/-- A round fails: another one, or DOWN after three, or back to DOWN after a single one (18 R420). -/
def failRound (s : State) (l : Nat) : State :=
  let x := s.link l
  if x.single then enterDown s l
  else if 3 ≤ x.fails + 1 then linkDown s l (x.fails + 1)
  else startDetect (s.updLink l (fun x => { x with fails := x.fails + 1 })) l
/-- An UP link starts a round at once (18 R421). -/
def retrain (s : State) (l : Nat) : State := startDetect (s.updLink l (fun x => { x with single := false, fails := 0 })) l
/-- The 56 payload bits of a training block (18 Table 18-3). -/
def trainingBlock (s : State) (lane lock st hi go : Nat) : Nat :=
  0xA7 * 2 ^ 48 + lane * 2 ^ 44 + lock * 2 ^ 40 + st * 2 ^ 36 + hi * 2 ^ 35 + go * 2 ^ 32 + ownSerial s % 2 ^ 32
/-- MARK of a training block, against an alignment marker's (18 Table 18-3). -/
def isTraining (b : BitVec 56) : Bool := b.toNat / 2 ^ 48 == 0xA7
/-- LANE, LOCK, STATE, HI and SER of a training block (18 Table 18-3). -/
def blkLane (b : BitVec 56) : Nat := b.toNat / 2 ^ 44 % 16
def blkLock (b : BitVec 56) : Nat := b.toNat / 2 ^ 40 % 16
def blkState (b : BitVec 56) : Nat := b.toNat / 2 ^ 36 % 16
def blkHi (b : BitVec 56) : Bool := natBit b.toNat 35
def blkSer (b : BitVec 56) : Nat := b.toNat % 2 ^ 32
/-- Training blocks on every lane. -/
def emitTraining (s : State) (l lock st go : Nat) : State :=
  let hi := b2n ((s.link l).capRate == 1)
  (List.range 4).foldl (fun s lane => s.emit (.training l lane (trainingBlock s lane lock st hi go))) s
/-- The lanes that the width rule takes from a common mask, at most w of them (18 R419, R421). -/
def linkLanes (w mask : Nat) : Nat :=
  if mask % 16 = 0xF && 4 ≤ w then 0xF
  else if natBit mask 0 && natBit mask 1 && 2 ≤ w then 3
  else if natBit mask 2 && natBit mask 3 && 2 ≤ w then 0xC
  else match lowestBit mask 4 with | some i => 2 ^ i | none => 0

/-! ### Discovery, election, lease (18 18.4, 18.6) -/

/-- Higher rank: higher PRIORITY, then the lower serial (18 18.4). -/
def outranks (a b : Nat × Nat) : Bool := decide (b.1 < a.1 ∨ (a.1 = b.1 ∧ a.2 < b.2))
/-- Open a discovery window; a stored PRIORITY counts from here (18 R425, 16 R392). -/
def openWindow (s : State) : State :=
  s.updFab (fun x => { x with window := some (s.now + ms 1500), waitEnd := none, heard := [], prio := kaField s 0x6C 1 })
/-- MANAGER_ID takes a value; a change is told to tenant 0 and restarts the continuity of the SITE channels (18 R432, Edges of
13.6). -/
def setManager (s : State) (id : Nat) : State :=
  if s.fabric.manager = id then s
  else
    let s := s.updFab (fun x => { x with manager := id })
    let chans := s.assayer.chans.map (fun (e : Nat × RChan) => if e.2.scope = 2 then (e.1, { e.2 with p := none }) else e)
    raiseEvent { s with assayer := { s.assayer with chans := chans } } 0 0x09E0 (leBytes 1 id ++ leBytes 1 (roleCode s.fabric.role))
/-- The node ID of a serial in a table of nodes. -/
def idOf (t : List (Nat × Nat)) (serial : Nat) : Nat := match t.find? (fun e => e.1 == serial) with | some e => e.2 | none => 0xFF
/-- SINGLE: no manager, no node ID (18 R426, R432). -/
def becomeSingle (s : State) : State :=
  let s := s.updFab (fun x => { x with
    role := .single, ready := true, node := 0xFF, mgrSerial := 0, mgrPrio := 0, lease := none, window := none, waitEnd := none
    table_ := [], full := [], routes := [], sums := [], assembling := [] })
  setManager s 0xFF
/-- A serial heard of (18 R425). -/
def hear (s : State) (serial prio : Nat) : State :=
  if s.fabric.window.isSome then s.updFab (fun x => { x with heard := putSerial x.heard serial prio }) else s
/-- A serial beyond the 64th: logged once (18 R427). -/
def fabricFull (s : State) (serial : Nat) : State :=
  if s.fabric.full.contains serial then s
  else logFault (s.updFab (fun x => { x with full := x.full ++ [serial] })) 0x0602 1 false 0xFF 0 0 (leBytes 4 serial)
/-- The manager gives a serial that has none the lowest free ID (18 R427). -/
def giveId (s : State) (serial : Nat) : State :=
  if s.fabric.role != .manager || s.fabric.table_.any (fun e => e.1 == serial) then s
  else match (List.range 64).find? (fun i => !s.fabric.table_.any (fun e => e.2 == i)) with
    | some i => listsChanged (s.updFab (fun x => { x with table_ := x.table_ ++ [(serial, i)] }))
    | none => fabricFull s serial
/-- Flood a BEACON; the lease timer starts again (18 R431). -/
def sendBeacon (s : State) : State :=
  let x := s.fabric
  let body := leBytes 1 x.prio ++ zeros 3 ++ leBytes 4 x.epoch ++ leBytes 4 3000 ++ leBytes 1 x.table_.length ++ zeros 3
    ++ x.table_.flatMap (fun e => leBytes 8 e.1 ++ leBytes 1 e.2)
  (flood s 3 body).updFab (fun x => { x with lastBeacon := s.now, lease := some (s.now + ms 3000) })
/-- Insert into an ascending list. -/
def insertAsc (v : Nat) : List Nat → List Nat
  | [] => [v]
  | x :: xs => if v < x then v :: x :: xs else if v = x then x :: xs else x :: insertAsc v xs
/-- The node is elected: epoch + 1, node IDs in ascending serial order, a BEACON at once (18 R426). -/
def becomeManager (s : State) : State :=
  let sers := s.fabric.heard.foldl (fun a e => insertAsc e.1 a) [ownSerial s]
  let tab := (sers.take 64).zipIdx
  let s := s.updFab (fun x => { x with
    role := .manager, ready := true, epoch := (x.epoch + 1) % 4294967296, table_ := tab, full := [], node := idOf tab (ownSerial s)
    mgrSerial := ownSerial s, mgrPrio := x.prio, window := none, waitEnd := none, sums := [], assembling := [] })
  let s := setManager (listsChanged s) s.fabric.node
  sendBeacon ((sers.drop 64).foldl fabricFull s)
/-- The nodes of a BEACON. -/
def beaconTable (b : List Byte) : List (Nat × Nat) :=
  (List.range (min 64 (leAt b 12 1))).map (fun i => (leAt b (16 + 9 * i) 8, leAt b (24 + 9 * i) 1))
/-- The node follows a manager's BEACON (18 R425, R428, R431). -/
def follow (s : State) (serial : Nat) (b : List Byte) : State :=
  let tab := beaconTable b
  let change := s.fabric.table_ != tab
  let s := s.updFab (fun x => { x with
    role := .worker, ready := true, epoch := leAt b 4 4, table_ := tab, node := idOf tab (ownSerial s), mgrSerial := serial
    mgrPrio := leAt b 0 1, lease := some (s.now + ms 3000), window := none, waitEnd := none, sums := [], assembling := [] })
  let s := if change then listsChanged s else s
  setManager s (idOf tab serial)
/-- A new BEACON (18 R425, R428, R431): it ends the window or the wait, the node's manager renews its lease, a higher-ranked one
replaces the manager. -/
def takeBeacon (s : State) (serial : Nat) (b : List Byte) : State :=
  let x := s.fabric
  if leAt b 8 4 = 0 then s
  else if x.window.isSome || x.waitEnd.isSome then follow s serial b
  else if x.role == .single then s
  else if x.mgrSerial = serial then (if leAt b 4 4 < x.epoch then s else follow s serial b)
  else if outranks (leAt b 0 1, serial) (x.mgrPrio, x.mgrSerial) then follow s serial b
  else s

/-! ### Link lists and routes (18 18.5) -/

/-- The node's own link list: links that are UP with a neighbour in routing. -/
def ownLinks (s : State) : List (Nat × Nat × Nat) :=
  (upLinks s).filterMap (fun l =>
    let x := s.link l
    match x.neigh with | some n => if x.dropped then none else some (l, linkCost x, n) | none => none)
/-- Every link list: the node's own and those of the HELLOs held. -/
def linkLists (s : State) : List (Nat × List (Nat × Nat × Nat)) :=
  (ownSerial s, ownLinks s) :: s.fabric.lists.map (fun h => (h.serial, h.links))
/-- The cheapest link that node a reports to node b. -/
def reported (ls : List (Nat × List (Nat × Nat × Nat))) (a b : Nat) : Option Nat :=
  (ls.flatMap (fun e => if e.1 = a then e.2 else [])).foldl (fun (m : Option Nat) x =>
    if x.2.2 = b then some (match m with | some c => min c x.2.1 | none => x.2.1) else m) none
/-- The links that count: from, link, cost, to (18 R429). -/
def edges (ls : List (Nat × List (Nat × Nat × Nat))) : List (Nat × Nat × Nat × Nat) :=
  ls.flatMap (fun e => e.2.filterMap (fun x =>
    match reported ls x.2.2 e.1 with | some c => some (e.1, x.1, max c x.2.1, x.2.2) | none => none))
/-- Lower cost, then fewer hops. -/
def better (a b : Nat × Nat) : Bool := decide (a.1 < b.1 ∨ (a.1 = b.1 ∧ a.2 < b.2))
/-- One round of relaxation over the links. -/
def relax (es : List (Nat × Nat × Nat × Nat)) (d : List (Nat × Nat × Nat)) : List (Nat × Nat × Nat) :=
  es.foldl (fun (d : List (Nat × Nat × Nat)) e =>
    match d.find? (fun x => x.1 == e.1) with
    | none => d
    | some a =>
      let v := (a.2.1 + e.2.2.1, a.2.2 + 1)
      match d.find? (fun x => x.1 == e.2.2.2) with
      | none => d ++ [(e.2.2.2, v)]
      | some o => if better v o.2 then d.map (fun x => if x.1 = e.2.2.2 then (x.1, v) else x) else d) d
/-- Cost and hops from a node to every node it reaches without passing the device itself. -/
def distances (es : List (Nat × Nat × Nat × Nat)) (own start : Nat) : List (Nat × Nat × Nat) :=
  let es := es.filter (fun e => e.1 != own && e.2.2.2 != own)
  (List.range 64).foldl (fun d _ => relax es d) [(start, 0, 0)]
/-- The paths to every node by first link: link, and cost and hops per node. -/
def firstLinks (s : State) : List (Nat × List (Nat × Nat × Nat)) :=
  let es := edges (linkLists s)
  let own := ownSerial s
  es.filterMap (fun e =>
    if e.1 = own then
      some (e.2.1, (distances es own e.2.2.2).map (fun d => (d.1, d.2.1 + e.2.2.1, d.2.2 + 1)))
    else none)
/-- The best of the paths, ties to the lower first link. -/
def bestPath (ps : List (Nat × Nat × Nat)) : Option (Nat × Nat × Nat) :=
  ps.foldl (fun (a : Option (Nat × Nat × Nat)) p =>
    match a with
    | some b => if better p.2 b.2 || (p.2 == b.2 && decide (p.1 < b.1)) then some p else a
    | none => some p) none
/-- The row of a destination (18 R429). -/
def routeOf (fl : List (Nat × List (Nat × Nat × Nat))) (serial : Nat) : Route :=
  let ps := fl.filterMap (fun f => (f.2.find? (fun d => d.1 == serial)).map (fun d => (f.1, d.2)))
  match bestPath ps with
  | none => {}
  | some p =>
    { primary := p.1, alt := match bestPath (ps.filter (fun q => q.1 != p.1)) with | some q => q.1 | none => 0xFF
      cost := min 254 p.2.1, hops := p.2.2 }
/-- Recompute every route (18 R430). -/
def recompute (s : State) : State :=
  let fl := firstLinks s
  let rows := s.fabric.table_.filterMap (fun e =>
    if e.1 = ownSerial s then none else some (e.2, routeOf fl e.1))
  s.updFab (fun x => { x with dirty := none, routes := rows.foldl (fun (t : Tbl Route) e => tblSet e.1 e.2 t) [] })

/-! ### Summaries (18 18.7) -/

/-- A string record of the node's own (18 Table 18-7, R434). -/
def ownRecord (s : State) (n : Nat) : List Byte :=
  let v := stringVal s 2 false n
  let f := v.flags ||| stringFlags s n
  let bit := fun (i o : Nat) => b2n (natBit f i) * 2 ^ o
  let cur := match (lstr s n).iRep with | some i => pattern 32 i | none => 0x80000000
  let pairs := [sumPair s n 0 false, sumPair s n 0 true, sumPair s n 1 false, sumPair s n 1 true, sumPair s n 2 false, sumPair s n 2 true]
  leBytes 1 n ++ leBytes 1 (bit 0 0 + bit 1 1 + bit 7 2 + bit 8 3 + bit 9 4 + bit 14 5 + bit 2 6) ++ zeros 2 ++ leBytes 4 cur
    ++ leBytes 4 (strSet s n).iDb ++ pairs.flatMap (fun p => leBytes 4 p.1 ++ leBytes 4 p.2)
/-- A string record as received. -/
def recAt (b : List Byte) (i : Nat) : SumRec :=
  let r := sliceAt b (8 + 60 * i) 60
  { str := leAt r 0 1, flags := leAt r 1 1, current := sleAt r 4 4, iDb := leAt r 8 4
    sums := (List.range 6).map (fun k => (leAt r (12 + 8 * k) 4, leAt r (16 + 8 * k) 4)) }
/-- The summary of the node's own, as SUMMARY frames to the manager (18 R433). -/
def sendSummary (s : State) : State :=
  let strs := (List.range 64).filter (strOn s)
  let parts := max 1 (ceilDiv strs.length 16)
  let round := s.fabric.round
  let s := (List.range parts).foldl (fun s i =>
    let these := (strs.drop (16 * i)).take 16
    let body := leBytes 1 i ++ leBytes 1 parts ++ leBytes 1 these.length ++ zeros 1 ++ leBytes 4 round ++ these.flatMap (ownRecord s)
    let q := takeSeq s 4
    sendRouted q.2 s.fabric.manager (fabFrame 4 0 s.fabric.node s.fabric.manager 64 (ownSerial s) q.1 body)) s
  s.updFab (fun x => { x with round := (x.round + 1) % 4294967296, lastSummary := s.now })
/-- A SUMMARY frame for the manager: a summary is held once every PART of one ROUND has come (18 R435), and the site's discharging
rule takes its currents (13 R323). -/
def takeSummary (s : State) (serial : Nat) (b : List Byte) : State :=
  let part := leAt b 0 1
  let parts := leAt b 1 1
  let round := leAt b 4 4
  let recs := (List.range (min 16 (leAt b 2 1))).map (recAt b)
  let same := fun (x : SumSet) => x.serial == serial
  let held : SumSet := match s.fabric.assembling.find? (fun x => same x && x.round == round && x.parts == parts) with
    | some x => if x.got.contains part then x else { x with got := x.got ++ [part], recs := x.recs ++ recs, at_ := s.now }
    | none => { serial := serial, round := round, parts := parts, got := [part], recs := recs, at_ := s.now }
  let rest := s.fabric.assembling.filter (fun x => !same x)
  if (List.range parts).all (fun i => held.got.contains i) then
    observeSite (s.updFab (fun x => { x with assembling := rest, sums := x.sums.filter (fun y => !same y) ++ [held] }))
  else s.updFab (fun x => { x with assembling := rest ++ [held] })

/-! ### Start (18 R424 to R426) -/

/-- A link that the device has and LINK_EN enables. -/
def linkOn (s : State) (l : Nat) : Bool := natBit s.sys.fuses.links l && natBit s.fabric.linkEn l
/-- The fabric engine starts at T_K: SEQs from FAB_SEQ_BASE, links to DETECT, discovery; `stale`: the core section did not come
from KA. -/
def fabricStart (s : State) (stale : Bool) : State :=
  let base := (kaField s 0x78 4 + 1048576) % 4294967296
  let s := s.updFab (fun x => { x with
    prio := kaField s 0x6C 1, linkEn := kaField s 0x6D 1 % 64, own := List.replicate 4 base, hold := stale, aloneSince := some s.now
    lastNeigh := s.now, lastHello := s.now, lastBeacon := s.now, lastSummary := s.now })
  let s := (List.range 6).foldl (fun s l => if linkOn s l then startDetect s l else s) s
  if s.sys.fuses.links = 0 then becomeSingle s else if stale then s else openWindow s

end Sys2Proof.Machine
end

