-- ==== Sys2Proof/Machine/FabricRows.lean ====
section
/-! DEFINITION. The rows of the fabric (18) and its commands (16 Table 16-8). -/

namespace Sys2Proof.Machine

/-- A row of a link: it happens while the link is in a state and its condition holds. -/
def linkRow (t l : Nat) (st : LinkSt) (c : State → Bool) (f : State → State) (s : State) : State :=
  chainRow t (fun s => (s.link l).st == st && c s) f s
/-- A time has passed since the link entered its state. -/
def linkAge (l n : Nat) (s : State) : Bool := decide ((s.link l).since + n ≤ s.now)
/-- No condition. -/
def anyTime (_ : State) : Bool := true

/-! ### Training (18 R419 to R421) -/

/-- LINK_DETECT_DONE: a training block with another SER, a lane in lock. -/
def detectDoneDo (l : Nat) (s : State) : State := s.updLink l (fun x => { x with st := .exchange, since := s.now })
/-- A training block whose SER is another device's. -/
def otherSer (b : BitVec 56) (s : State) : Bool := isTraining b && blkSer b != ownSerial s % 2 ^ 32
/-- A training block of a STATE. -/
def ofState (b : BitVec 56) (st : Nat) : Bool := isTraining b && blkState b == st
/-- Lanes of the common mask: the link's own LOCK and the LOCK last received, less any lane whose received LANE field differs from
its own number (18 R419). -/
def commonMask (own : Nat) (last : BitVec 56) (lanes : List (Option (BitVec 56))) : Nat :=
  own &&& blkLock last &&& sumNat ((List.range 4).map (fun i => match lanes.getD i none with
    | some b => b2n (blkLane b == i) * 2 ^ i
    | none => 2 ^ i))
/-- LINK_EXCHANGE_DONE: the blocks with GO 0 to 7 leave, then the agreed rate is set. Which lanes the link holds in lock in this
state is outside the model: the LOCK field is free. -/
def exchangeDoneDo (l : Nat) (peerHi : Bool) (s : State) : State :=
  let d := s.draw
  let s := (List.range 8).foldl (fun s go => emitTraining s l (d.1 % 16) 3 go) d.2
  s.updLink l (fun x => { x with st := .align, since := s.now, rate := if peerHi && x.capRate == 1 then 1 else 2 })
/-- LINK_ALIGN_EVALUATE: the common mask sets the width, ALIGN repeats at the lower rate, or the round fails. -/
def alignDo (l own : Nat) (last : BitVec 56) (seen : List (Option (BitVec 56))) (s : State) : State :=
  let s := emitTraining s l own 4 0
  let x := s.link l
  let lanes := linkLanes x.capW (commonMask own last seen)
  if lanes = 0 then
    if x.rate = 1 then s.updLink l (fun x => { x with rate := 2, since := s.now }) else failRound s l
  else
    let w := popCount lanes 4
    let s := s.updLink l (fun x => { x with
      st := .up, since := s.now, width := w, lanes := lanes, capW := w, capRate := x.rate, single := false, fails := 0
      neigh := none, neighAt := s.now, dropped := false })
    let s := linkState (countAlone (linkChanged s)) l
    if s.fabric.hold then
      s.updFab (fun x => { x with holdEnd := match x.holdEnd with | some e => some e | none => some (s.now + ms 3000) })
    else if s.fabric.role == .single && s.fabric.window.isNone && s.fabric.waitEnd.isNone then openWindow s
    else s
/-- A single round from DOWN (18 R420). -/
def singleRound (l : Nat) (s : State) : State := startDetect (s.updLink l (fun x => { x with single := true, fails := 0 })) l

/-- LINK_DETECT_DONE (18 R419). -/
def execLinkDetectDone (t : Nat) (l : Fin 6) (b : BitVec 56) (s : State) : Host.Outcome State Fault Refusal :=
  .next (linkRow t l .detect (otherSer b) (detectDoneDo l) s)
/-- LINK_DETECT_TIMEOUT (18 R419). -/
def execLinkDetectTimeout (t : Nat) (l : Fin 6) (s : State) : Host.Outcome State Fault Refusal :=
  .next (linkRow t l .detect (linkAge l (ms 8)) (fun s => failRound s l) s)
/-- LINK_EXCHANGE_DONE (18 R419): a STATE 3 block has been received. -/
def execLinkExchangeDone (t : Nat) (l : Fin 6) (b : BitVec 56) (s : State) : Host.Outcome State Fault Refusal :=
  .next (linkRow t l .exchange (fun _ => ofState b 3) (exchangeDoneDo l (blkHi b)) s)
/-- EXCHANGE_LIMIT_EXPIRY (18 R417). -/
def execExchangeLimitExpiry (t : Nat) (l : Fin 6) (s : State) : Host.Outcome State Fault Refusal :=
  .next (linkRow t l .exchange (linkAge l (ms 1)) (fun s => failRound s l) s)
/-- LINK_ALIGN_EVALUATE (18 R419): the lanes in block lock, the training block last received, and the last block that each lane
received. -/
def execLinkAlignEvaluate (t : Nat) (l : Fin 6) (own : BitVec 4) (last : BitVec 56) (lanes : List (Option (BitVec 56))) (s : State) :
    Host.Outcome State Fault Refusal :=
  .next (linkRow t l .align (fun s => linkAge l (ms 2) s && isTraining last) (alignDo l own.toNat last lanes) s)
/-- LINK_RETRY (18 R420): 10 s ±50 ms. -/
def execLinkRetry (t : Nat) (l : Fin 6) (s : State) : Host.Outcome State Fault Refusal :=
  .next (linkRow t l .down (fun s => decide ((s.link l).retryAt ≤ s.now + ms 50)) (singleRound l) s)
/-- TRAINING_BLOCK_WAKE (18 R420). -/
def execTrainingBlockWake (t : Nat) (l : Fin 6) (b : BitVec 56) (s : State) : Host.Outcome State Fault Refusal :=
  .next (linkRow t l .down (otherSer b) (singleRound l) s)
/-- Lane of an UP link that carries blocks. -/
def laneActive (l lane : Nat) (s : State) : Bool := natBit (s.link l).lanes lane
/-- LINK_LOCK_LOSS (18 R421): an active lane has been out of block lock for 1 ms. -/
def execLinkLockLoss (t : Nat) (l : Fin 6) (lane : Fin 4) (lasted : Nat) (s : State) : Host.Outcome State Fault Refusal :=
  .next (linkRow t l .up (fun s => laneActive l lane s && decide (ms 1 ≤ lasted)) (fun s => retrain s l) s)
/-- LINK_SYNC_ERRORS (18 R421): invalid sync headers that an active lane received within the last 125 us. -/
def execLinkSyncErrors (t : Nat) (l : Fin 6) (lane : Fin 4) (n : Nat) (s : State) : Host.Outcome State Fault Refusal :=
  .next (linkRow t l .up (fun s => laneActive l lane s && decide (16 < n)) (fun s => retrain s l) s)

/-! ### Messages received (18 Table 18-5) -/

/-- NEIGH: the neighbour on a link. -/
def neighDo (l : Nat) (f : Fab) (s : State) : State :=
  let ser := f.serial
  let x := s.link l
  let news := x.dropped || x.neigh != some ser
  let s := s.updLink l (fun x => { x with neigh := some ser, neighAt := s.now, dropped := false })
  let s := hear s ser (leAt f.payload 0 1)
  if news then linkChanged s else s
/-- The link list of a HELLO. -/
def helloLinks (b : List Byte) : List (Nat × Nat × Nat) :=
  (List.range (leAt b 16 1)).map (fun i => (leAt b (20 + 12 * i) 1, leAt b (21 + 12 * i) 1, leAt b (24 + 12 * i) 8))
/-- HELLO: held, heard, and given an ID by the manager. -/
def helloDo (f : Fab) (s : State) : State :=
  let ser := f.serial
  let b := f.payload
  let h : Hello := { serial := ser, prio := leAt b 0 1, role := leAt b 1 1, node := leAt b 2 1, at_ := s.now, links := helloLinks b }
  let same := s.fabric.lists.any (fun x => x.serial == ser && x.links == h.links)
  let s := s.updFab (fun x => { x with lists := x.lists.filter (fun y => y.serial != ser) ++ [h] })
  let s := giveId (hear s ser h.prio) ser
  if same then s else listsChanged s
/-- A routed frame for another node goes on, its TTL one less (18 R423). -/
def forwardDo (f : Fab) (s : State) : State :=
  if f.ttl ≤ 1 then s.updFab (fun x => { x with discards := x.discards + 1 })
  else sendRouted s f.dst (fabFrame f.type f.flags f.src f.dst (f.ttl - 1) f.serial f.seq f.payload)
/-- A frame that is neither FLOOD nor LOCAL, for another node. -/
def routedOn (s : State) (f : Fab) : Bool := f.flags % 4 == 0 && f.dst != s.fabric.node
/-- A SUMMARY for this node. -/
def summaryHere (s : State) (f : Fab) : Bool := f.type == 4 && f.dst == s.fabric.node

/-- NEIGH (18 R422, R424). -/
def execNeigh (t : Nat) (l : Fin 6) (b : List Byte) (s : State) : Host.Outcome State Fault Refusal :=
  .next (chainRow t anyTime (fabIn l b (ofType 1) (neighDo l)) s)
/-- HELLO (18 R423, R427, R429). -/
def execHello (t : Nat) (l : Fin 6) (b : List Byte) (s : State) : Host.Outcome State Fault Refusal :=
  .next (chainRow t anyTime (floodIn l 2 b helloDo) s)
/-- BEACON (18 R425, R428, R431). -/
def execBeacon (t : Nat) (l : Fin 6) (b : List Byte) (s : State) : Host.Outcome State Fault Refusal :=
  .next (chainRow t anyTime (floodIn l 3 b (fun f s => takeBeacon s f.serial f.payload)) s)
/-- SUMMARY (18 R435). -/
def execSummary (t : Nat) (l : Fin 6) (b : List Byte) (s : State) : Host.Outcome State Fault Refusal :=
  .next (chainRow t anyTime (fabIn l b summaryHere
    (fun f s => if s.fabric.role == .manager then takeSummary s f.serial f.payload else s)) s)
/-- ROUTED_FRAME_FORWARD (18 R423). -/
def execRoutedFrameForward (t : Nat) (l : Fin 6) (b : List Byte) (s : State) : Host.Outcome State Fault Refusal :=
  .next (chainRow t anyTime (fabIn l b routedOn forwardDo) s)

/-! ### Messages sent (18 Table 18-5, R433) -/

/-- NEIGH on every UP link. -/
def neighSendDo (s : State) : State :=
  let s := (upLinks s).foldl (fun s l =>
    let q := takeSeq s 1
    emitOn q.2 [l] (fabFrame 1 2 q.2.fabric.node 0xFF 64 (ownSerial s) q.1 (leBytes 1 q.2.fabric.prio ++ leBytes 1 l ++ zeros 2))) s
  s.updFab (fun x => { x with lastNeigh := s.now })
/-- The serial number of the manager, a free value while there is none. -/
def managerSerial (s : State) : Nat × State :=
  if s.fabric.manager = 0xFF && s.fabric.mgrSerial = 0 then let d := s.draw; (d.1 % 2 ^ 64, d.2) else (s.fabric.mgrSerial, s)
/-- HELLO to every node. -/
def helloSendDo (s : State) : State :=
  let m := managerSerial s
  let s := m.2
  let x := s.fabric
  let ls := ownLinks s
  let body := leBytes 1 x.prio ++ leBytes 1 (roleCode x.role) ++ leBytes 1 x.node ++ zeros 1 ++ leBytes 8 m.1 ++ leBytes 4 x.epoch
    ++ leBytes 1 ls.length ++ zeros 3 ++ ls.flatMap (fun e => leBytes 1 e.1 ++ leBytes 1 e.2.1 ++ zeros 2 ++ leBytes 8 e.2.2)
  (flood s 2 body).updFab (fun x => { x with lastHello := s.now, helloWant := false })
/-- A HELLO is due. -/
def helloIsDue (s : State) : Bool :=
  let x := s.fabric
  !x.hold && (x.helloWant || decide (x.lastHello + (if x.window.isSome then ms 100 else ms 1000) ≤ s.now))

/-- NEIGH_SEND. -/
def execNeighSend (t : Nat) (s : State) : Host.Outcome State Fault Refusal :=
  .next (chainRow t (fun s => s.sys.boot == .parallel && decide (s.fabric.lastNeigh + ms 100 ≤ s.now)) neighSendDo s)
/-- HELLO_SEND. -/
def execHelloSend (t : Nat) (s : State) : Host.Outcome State Fault Refusal :=
  .next (chainRow t (fun s => s.sys.boot == .parallel && helloIsDue s) helloSendDo s)
/-- BEACON_SEND: with a link UP, since a manager that cannot send lets its lease run out (18 R432). -/
def execBeaconSend (t : Nat) (s : State) : Host.Outcome State Fault Refusal :=
  .next (chainRow t (fun s => s.fabric.role == .manager && !(upLinks s).isEmpty && decide (s.fabric.lastBeacon + ms 1000 ≤ s.now)) sendBeacon s)
/-- SUMMARY_SEND: every 1 s ±1 ms by a worker that has a manager and an ID (18 R433, R427). -/
def execSummarySend (t : Nat) (s : State) : Host.Outcome State Fault Refusal :=
  .next (chainRow t (fun s => s.fabric.role == .worker && s.fabric.manager != 0xFF && s.fabric.node != 0xFF
    && decide (s.fabric.lastSummary + ms 999 ≤ s.now)) sendSummary s)

/-! ### Timers (18 R424 to R432) -/

/-- NEIGH_SILENT. -/
def neighSilentDo (l : Nat) (s : State) : State :=
  let s := logFault s 0x0603 0 false 0xFF 4 l (leBytes 4 ((s.link l).neigh.getD 0))
  linkChanged (s.updLink l (fun x => { x with dropped := true }))
/-- FLOOD_HOLD_END. -/
def floodHoldEndDo (s : State) : State := openWindow (s.updFab (fun x => { x with hold := false, holdEnd := none }))
/-- DISCOVERY_WINDOW_CLOSE: SINGLE, MANAGER, or wait (18 R426). -/
def windowCloseDo (s : State) : State :=
  let x := s.fabric
  if (upLinks s).isEmpty then becomeSingle s
  else if x.heard.all (fun e => outranks (x.prio, ownSerial s) (e.2, e.1)) then becomeManager s
  else s.updFab (fun x => { x with window := none, waitEnd := some (s.now + ms 1500) })
/-- MANAGER_LEASE_EXPIRY (18 R432). -/
def managerLeaseDo (s : State) : State :=
  let s := s.updFab (fun x => { x with role := .worker, lease := none, mgrSerial := 0, mgrPrio := 0 })
  let s := setManager s 0xFF
  if s.fabric.hold then s else openWindow s
/-- A deadline has passed. -/
def passed (s : State) (d : Option Nat) (early : Nat) : Bool := match d with | some e => decide (e ≤ s.now + early) | none => false

/-- NEIGH_SILENT (18 Edges of 18.3). -/
def execNeighSilent (t : Nat) (l : Fin 6) (s : State) : Host.Outcome State Fault Refusal :=
  .next (linkRow t l .up (fun s => (s.link l).neigh.isSome && !(s.link l).dropped && decide ((s.link l).neighAt + ms 300 ≤ s.now))
    (neighSilentDo l) s)
/-- HELLO_AGE_OUT (18 R429). -/
def execHelloAgeOut (t : Nat) (serial : BitVec 64) (s : State) : Host.Outcome State Fault Refusal :=
  .next (chainRow t (fun s => s.fabric.lists.any (fun h => h.serial == serial.toNat && decide (h.at_ + ms 3000 ≤ s.now)))
    (fun s => listsChanged (s.updFab (fun x => { x with lists := x.lists.filter (fun h => h.serial != serial.toNat) }))) s)
/-- FLOOD_SEQ_FORGET (18 R424). -/
def execFloodSeqForget (t : Nat) (serial : BitVec 64) (s : State) : Host.Outcome State Fault Refusal :=
  .next (chainRow t (fun s => s.fabric.floodAt.any (fun e => e.1 == serial.toNat && decide (e.2 + ms 3000 ≤ s.now)))
    (fun s => s.updFab (fun x => { x with
      floodAt := x.floodAt.filter (fun e => e.1 != serial.toNat), seqs := x.seqs.filter (fun e => e.serial != serial.toNat) })) s)
/-- FLOOD_HOLD_END (18 R424). -/
def execFloodHoldEnd (t : Nat) (s : State) : Host.Outcome State Fault Refusal :=
  .next (chainRow t (fun s => s.fabric.hold && passed s s.fabric.holdEnd 0) floodHoldEndDo s)
/-- DISCOVERY_WINDOW_CLOSE (18 R425, R426): 1,500 ms ±10 ms. -/
def execDiscoveryWindowClose (t : Nat) (s : State) : Host.Outcome State Fault Refusal :=
  .next (chainRow t (fun s => passed s s.fabric.window (ms 10)) windowCloseDo s)
/-- BEACON_WAIT_TIMEOUT (18 R426). -/
def execBeaconWaitTimeout (t : Nat) (s : State) : Host.Outcome State Fault Refusal :=
  .next (chainRow t (fun s => passed s s.fabric.waitEnd 0) openWindow s)
/-- MANAGER_LEASE_EXPIRY (18 R432). -/
def execManagerLeaseExpiry (t : Nat) (s : State) : Host.Outcome State Fault Refusal :=
  .next (chainRow t (fun s => passed s s.fabric.lease 0) managerLeaseDo s)
/-- ALL_LINKS_DOWN (18 R432). -/
def execAllLinksDown (t : Nat) (s : State) : Host.Outcome State Fault Refusal :=
  .next (chainRow t (fun s => (upLinks s).isEmpty && passed s (s.fabric.aloneSince.map (· + ms 3000)) 0
    && !(s.fabric.role == .single && s.fabric.ready)) becomeSingle s)
/-- ROUTE_RECOMPUTE (18 R430). -/
def execRouteRecompute (t : Nat) (s : State) : Host.Outcome State Fault Refusal :=
  .next (chainRow t (fun s => s.fabric.dirty.isSome) recompute s)

/-! ### Commands (16 Table 16-8) -/

/-- Nodes: those of the table, the node alone while SINGLE. -/
def nodeCount (s : State) : Nat := if s.fabric.role == .single then 1 else s.fabric.table_.length
/-- State, width, rate code and cost of the links; the cost of a link that is not UP is a free value (log 10). -/
def linkBytes (s : State) : List Byte × State :=
  (List.range 6).foldl (fun (a : List Byte × State) l =>
    let x := a.2.link l
    let head := leBytes 1 (linkCode x.st) ++ leBytes 1 x.width ++ leBytes 1 x.rate
    if x.st == .up then (a.1 ++ head ++ leBytes 1 (linkCost x), a.2)
    else let d := a.2.draw; (a.1 ++ head ++ leBytes 1 (d.1 % 256), d.2)) ([], s)
/-- FABRIC_STATUS. -/
def fabricStatusDo (r : Req) (s : State) : State :=
  let lb := linkBytes s
  let m := managerSerial lb.2
  let s := m.2
  let x := s.fabric
  let left := match x.lease with | some e => (e - s.now) / 48000 | none => 0
  answer s r (leBytes 1 x.node ++ leBytes 1 x.manager ++ leBytes 1 (roleCode x.role) ++ leBytes 1 (nodeCount s) ++ leBytes 4 left
    ++ lb.1 ++ leBytes 8 m.1)
/-- ROUTES. -/
def routesDo (r : Req) (s : State) : State :=
  let row := fun (i : Nat) =>
    if i = s.fabric.node then [0xFF#8, 0xFF#8, 0#8, 0#8]
    else
      let x := tblGet ({} : Route) s.fabric.routes i
      leBytes 1 x.primary ++ leBytes 1 x.alt ++ leBytes 1 x.cost ++ leBytes 1 x.hops
  answer s r [] [] ((List.range 64).flatMap row)
/-- SET_FABRIC (16 R392). -/
def setFabricDo (r : Req) (s : State) : State :=
  let en := leAt r.payload 1 1 % 64
  let ok := en &&& s.sys.fuses.links
  let es : List ClampEntry := if en = ok then [] else [(1, 6, ok)]
  let s := storeSetting s 0x6C (leBytes 1 (leAt r.payload 0 1) ++ leBytes 1 ok)
  let old := s.fabric.linkEn
  let s := s.updFab (fun x => { x with linkEn := ok })
  let s := (List.range 6).foldl (fun s l =>
    if natBit ok l then (if (s.link l).st == .disabled then startDetect (s.updLink l (fun x => { x with single := false, fails := 0 })) l else s)
    else if natBit old l && (s.link l).st != .disabled then leaveTo s l .disabled 0 else s) s
  answer s r (leBytes 1 (leAt r.payload 0 1) ++ leBytes 1 ok ++ zeros 2) es
/-- LINK_RETRAIN (18 R421). -/
def linkRetrainDo (r : Req) (s : State) : State :=
  let l := leAt r.payload 0 1
  if 6 ≤ l || !natBit s.sys.fuses.links l then noObject s r
  else
    let s := s.updLink l (fun x => { x with capW := 4, capRate := 1 })
    answer (if (s.link l).st == .up then retrain s l else s) r []
/-- FABRIC is ready. -/
def fabricReady (s : State) (_ : Req) : Bool := readyBit s 6

/-- FABRIC_STATUS (18 R431). -/
def execFabricStatus (t : Nat) (s : State) : Host.Outcome State Fault Refusal :=
  .next (foremanRow t 0x0901 (lenIs 0) anyone fabricReady fabricStatusDo s)
/-- ROUTES (18 R430). -/
def execRoutes (t : Nat) (s : State) : Host.Outcome State Fault Refusal :=
  .next (foremanRow t 0x0902 (fun r => r.len == 0 && bulkIs r 256) anyone fabricReady routesDo s)
/-- SET_FABRIC (16 R392). -/
def execSetFabric (t : Nat) (s : State) : Host.Outcome State Fault Refusal :=
  .next (foremanRow t 0x0910 (lenIs 4) only0 fabricReady setFabricDo s)
/-- LINK_RETRAIN (18 R421). -/
def execLinkRetrain (t : Nat) (s : State) : Host.Outcome State Fault Refusal :=
  .next (foremanRow t 0x0911 (lenIs 1) only0 fabricReady linkRetrainDo s)

end Sys2Proof.Machine
end

