-- ==== Sys2Proof/Machine/Journal.lean ====
section
/-! DEFINITION. The journal (20 20.5 to 20.8): records, generations, recovery copies; and the persistence commands (16 Table
16-11, group 0x0A). -/

namespace Sys2Proof.Machine

/-! ### Records (20 Tables 20-4 to 20-6) -/

/-- Flash bytes. -/
def flashBytes (s : State) (a n : Nat) : List Byte := memRead 0xFF#8 s.flash.mem a n
/-- Write flash bytes. -/
def flashPut (s : State) (a : Nat) (b : List Byte) : State := { s with flash := { s.flash with mem := memWrite 0xFF#8 s.flash.mem a b } }
/-- Address of a record of a journal area. -/
def recordAddr (area part : Nat) : Nat := 0x40000 + 0x40000 * area + 4096 * part
/-- KA range of a PART: offset and length. -/
def partRange (part : Nat) : Nat × Nat :=
  if part < 2 then (0x40 + 4064 * part, 4064)
  else if part = 2 then (0x2000, 1152)
  else if part < 8 then (0x2850 + 4064 * (part - 3), 4064)
  else (0x77B0, 1760)
/-- Bytes 0 to 23 of a record. -/
def recordHead (g : GenRun) (part : Nat) : List Byte :=
  leBytes 4 0x4A524C56 ++ leBytes 4 g.seq ++ leBytes 1 part ++ leBytes 1 9 ++ leBytes 2 (partRange part).2 ++ leBytes 2 (partRange part).1
    ++ leBytes 1 (b2n g.rtcValid) ++ zeros 1 ++ leBytes 8 g.rtc
/-- A record without COMMIT: its bytes and where they lie. -/
def programRecord (s : State) (g : GenRun) (commit : Bool) : State :=
  let r := partRange g.part
  let head := recordHead g g.part
  let pay := memRead 0#8 g.staging r.1 r.2
  let a := recordAddr g.area g.part
  let s := flashPut s a (head ++ leBytes 4 (crc32 (head ++ pay)))
  let s := flashPut s (a + 32) pay
  if commit then flashPut s (a + 28) (leBytes 4 0xA55A3CC3) else s
/-- The SEQ of a committed record, its RTC and its payload with the KA offset (20 R470). -/
structure JRecord where
  seq : Nat
  part : Nat
  rtc : Nat
  ofs : Nat
  payload : List Byte
  deriving DecidableEq, Repr
/-- A record where it is committed. -/
def recordAt (s : State) (area part : Nat) : Option JRecord :=
  let a := recordAddr area part
  let h := flashBytes s a 32
  let len := leAt h 10 2
  if leAt h 0 4 != 0x4A524C56 || leAt h 28 4 != 0xA55A3CC3 || len = 0 || 4064 < len || leAt h 9 1 ≤ leAt h 8 1 then none
  else
    let pay := flashBytes s (a + 32) len
    if leAt h 24 4 != crc32 (h.take 24 ++ pay) then none
    else some { seq := leAt h 4 4, part := leAt h 8 1, rtc := leAt h 16 8, ofs := leAt h 12 2, payload := pay }
/-- The committed records of an area. -/
def areaRecords (s : State) (area : Nat) : List JRecord := (List.range 9).filterMap (recordAt s area)
/-- The generation of an area: its SEQ and RTC, where all nine records are committed (20 R472). -/
def areaComplete (s : State) (area : Nat) : Option (Nat × Nat) :=
  match areaRecords s area with
  | [] => none
  | r :: rs => if rs.length = 8 && rs.all (fun x => x.seq == r.seq) then some (r.seq, r.rtc) else none
/-- The journal is scanned. -/
def scanJournal (s : State) : State :=
  let c0 := areaComplete s 0
  let c1 := areaComplete s 1
  let seqs := [0, 1].map (fun a => maxNat ((areaRecords s a).map (fun r => r.seq)))
  let pick : Option (Nat × Nat × Nat) := match c0, c1 with
    | some x, some y => if x.1 < y.1 then some (1, y) else some (0, x)
    | some x, none => some (0, x)
    | none, some y => some (1, y)
    | none, none => none
  { s with journal := { s.journal with
      scanned := true, newestArea := pick.map (fun p => p.1), areaSeq := seqs, lastSeq := maxNat seqs
      newest := match s.journal.newest with | some n => some n | none => pick.map (fun p => (p.2.2, 0)) } }
/-- The parts that cover a section of Table 20-7. -/
def configParts : List Nat := [0, 1]
/-- The newest journal copy of a section: every record that covers it committed with one SEQ (20 R474). -/
def journalCopy (s : State) (parts : List Nat) : Option (List JRecord) :=
  let copy := fun (a : Nat) =>
    let rs := (areaRecords s a).filter (fun r => parts.contains r.part)
    match rs with
    | [] => none
    | r :: _ => if rs.length = parts.length && rs.all (fun x => x.seq == r.seq) then some rs else none
  match copy 0, copy 1 with
  | some x, some y => if (x.map (fun r => r.seq)).foldl max 0 < (y.map (fun r => r.seq)).foldl max 0 then some y else some x
  | some x, none => some x
  | none, y => y

/-! ### Generations (20 R471 to R473) -/

/-- A generation may begin: the flash works, none is under way, the junction is below T_NVM (20 R476). -/
def journalFree (s : State) : Bool :=
  readyBit s 5 && s.journal.run.isNone && !s.sys.thermal.nvm && !s.sys.thermal.shut
/-- A generation begins: the snapshot, the copy of KA, the erase of its area. -/
def journalBegin (s : State) (snap : Option Nat) : State :=
  let s := match snap with | some c => takeSnapshot s c | none => s
  let j := s.journal
  let area := match j.newestArea with
    | some a => 1 - a
    | none => if j.areaSeq.getD 1 0 < j.areaSeq.getD 0 0 then 1 else 0
  let seq := j.lastSeq + 1
  { s with journal := { j with
      lastSeq := seq, areaSeq := modAt j.areaSeq area (fun _ => seq), newest := some (rtc s, tb s), want := false, wantNow := false, waiters := []
      run := some { seq := seq, area := area, staging := s.ka.file, rtc := rtc s, rtcValid := s.ka.rtcValid, waiters := j.waiters } } }
/-- What waits without spacing begins as soon as it may. -/
def journalNext (s : State) : State := if s.journal.wantNow && journalFree s then journalBegin s (some 3) else s
/-- Commands that wait for a generation end. -/
def endWaiters (s : State) (ws : List JWait) (status seq : Nat) : State :=
  ws.foldl (fun s w =>
    let f := if status = 0 && !w.shutdown then leBytes 4 seq else []
    endTicket s w.tenant w.ticket (if w.shutdown then 0x0AE2 else 0x0AE0) status 0 0 f) s
/-- The record in programming is committed; after the last one the generation is complete (20 R472). -/
def commitRecord (s : State) (g : GenRun) : State :=
  let s := programRecord s g true
  if g.part < 8 then { s with journal := { s.journal with run := some { g with part := g.part + 1 } } }
  else
    let s := { s with journal := { s.journal with run := none, newestArea := some g.area } }
    journalNext (endWaiters s g.waiters 0 g.seq)
/-- The flash fails: no journal, FLASH clears (20 Table 20-10). -/
def flashFails (s : State) (g : GenRun) : State :=
  endWaiters { s with journal := { s.journal with run := none, scanned := false, waiters := [] } } (g.waiters ++ s.journal.waiters) 9 0
/-- The generation under way ends torn; what asked for it waits again (20 R477, R478, Edges of 20.8). -/
def journalTorn (s : State) : State :=
  match s.journal.run with
  | none => { s with journal := { s.journal with grace := none } }
  | some g =>
    { s with journal := { s.journal with run := none, grace := none, waiters := g.waiters ++ s.journal.waiters, wantNow := true } }
/-- T_SHUT: a grace for a record in flight, otherwise no further command (20 R477). -/
def journalShut (s : State) : State :=
  match s.journal.run with
  | none => s
  | some g =>
    if g.erased then { s with journal := { s.journal with grace := some (s.now + ms 4) } }
    else journalTorn s
/-- Time base counts since the newest generation began, or since the SHELL start where it began before (20 R473). -/
def sinceGen (s : State) : Nat := tb s - ((s.journal.newest.map (fun n => n.2)).getD 0)
/-- 24 h have passed since the newest generation began: by RTC while it is valid, else on the time base (20 R473). -/
def cadenceDue (s : State) : Bool :=
  match s.journal.newest with
  | some n => if s.ka.rtcValid then decide (n.1 + 86400 * 32768 ≤ rtc s) else decide (secs 86400 ≤ sinceGen s)
  | none => decide (secs 86400 ≤ tb s)
/-- 30 min have passed since the newest generation began. -/
def spacingDone (s : State) : Bool :=
  match s.journal.newest with
  | some n => if n.2 = 0 && s.ka.rtcValid then decide (n.1 + 1800 * 32768 ≤ rtc s) else decide (secs 1800 ≤ sinceGen s)
  | none => true

/-- JOURNAL_CADENCE (20 R473). -/
def execJournalCadence (t : Nat) (s : State) : Host.Outcome State Fault Refusal :=
  .next (chainRow t (fun s => journalFree s && cadenceDue s) (fun s => journalBegin s (some 3)) s)
/-- JOURNAL_SPACING_END (20 R473). -/
def execJournalSpacingEnd (t : Nat) (s : State) : Host.Outcome State Fault Refusal :=
  .next (chainRow t (fun s => journalFree s && s.journal.want && spacingDone s) (fun s => journalBegin s (some 3)) s)
/-- The area is erased: the records follow. -/
def eraseDone (s : State) : State :=
  match s.journal.run with
  | some g =>
    let s := { s with flash := { s.flash with mem := memErase s.flash.mem (recordAddr g.area 0) 0x40000 } }
    { s with journal := { s.journal with run := some { g with erased := true } } }
  | none => s
/-- JOURNAL_ERASE_DONE (20 R472). -/
def execJournalEraseDone (t : Nat) (s : State) : Host.Outcome State Fault Refusal :=
  .next (chainRow t (fun s => (s.journal.run.map (fun g => !g.erased)).getD false) eraseDone s)
/-- A record is programmed and read back. -/
def recordDone (ok : Bool) (s : State) : State :=
  match s.journal.run with
  | some g => if ok then commitRecord s g else flashFails (programRecord s g false) g
  | none => s
/-- JOURNAL_RECORD_COMMIT (20 R470 to R472). -/
def execJournalRecordCommit (t : Nat) (readBackOk : Bool) (s : State) : Host.Outcome State Fault Refusal :=
  .next (chainRow t (fun s => (s.journal.run.map (fun g => g.erased)).getD false && s.journal.grace.isNone) (recordDone readBackOk) s)
/-- The grace ends: with the record committed, or torn after 4 ms; the last record completes its generation (20 R477). -/
def graceEndDo (committed : Bool) (s : State) : State :=
  match s.journal.run with
  | some g =>
    if !committed then journalTorn s
    else if g.part = 8 then commitRecord { s with journal := { s.journal with grace := none } } g
    else journalTorn (programRecord s g true)
  | none => journalTorn s
/-- WRITE_GRACE_END (20 R477). -/
def execWriteGraceEnd (t : Nat) (committed : Bool) (s : State) : Host.Outcome State Fault Refusal :=
  .next (chainRow t (fun s => match s.journal.grace with | some e => committed || decide (e ≤ s.now) | none => false) (graceEndDo committed) s)

/-! ### Commands (16 Table 16-11) -/

/-- FLASH is ready. -/
def flashReady (s : State) (_ : Req) : Bool := readyBit s 5
/-- A generation without spacing is asked for by a deferred command. -/
def askJournal (s : State) (r : Req) (k : Nat) (sd : Bool) : State :=
  { s with journal := { s.journal with wantNow := true, waiters := s.journal.waiters ++ [{ tenant := r.tenant, ticket := k, shutdown := sd }] } }
/-- JOURNAL_WRITE (20 R473, R476). -/
def journalWriteDo (r : Req) (s : State) : State :=
  if s.sys.thermal.nvm then failWith s r 9
  else if 4 ≤ ticketsOf s r.tenant then busy s r
  else
    let (s, k) := defer s r.tenant .journal
    journalNext (answer (askJournal s r k false) r (leBytes 2 k))
/-- SHUTDOWN (16, 20 R467, R473): the snapshot at once, then a generation. -/
def shutdownDo (r : Req) (s : State) : State :=
  if 4 ≤ ticketsOf s r.tenant then busy s r
  else
    let (s, k) := defer s r.tenant .shutdown
    let s := answer (askJournal (takeSnapshot s 1) r k true) r (leBytes 2 k)
    if journalFree s then journalBegin s none else s
/-- PATCH_CHUNK (16 R393). -/
def patchChunkDo (r : Req) (s : State) : State :=
  let o := leAt r.payload 0 4
  if o % 4096 != 0 || 98432 ≤ o then noObject s r
  else
    let b := bulkIn s r
    answer { s with foreman := { s.foreman with patchBuf := memWrite 0#8 s.foreman.patchBuf o (b.take (98560 - o)) } } r []
/-- A patch container is whole: MAGIC, LEN and the total length (15 Table 15-2). -/
def patchWhole (b : List Byte) : Bool :=
  let len := leAt b 12 4
  leAt b 0 4 == 0x50464C56 && decide (64 ≤ len) && decide (len ≤ 98304) && len % 64 == 0 && b.length == 128 + len
/-- A patch's signature verifies under key slot 0: its last 64 bytes, over every byte before them (15 R351). -/
def patchSigned (b : List Byte) : Bool := let n := b.length - 64; sigGood romKey (b.take n) (b.drop n)
/-- The first of R352's conditions that a patch fails: 1 signature, 2 IFL, 3 ROM_VER, 4 PATCH_MIN; 0 none. -/
def patchFails (s : State) (b : List Byte) : Nat :=
  if !patchWhole b || !patchSigned b then 1
  else if leAt b 4 2 != 3 then 2
  else if leAt b 6 2 != Config.romVer % 65536 then 3
  else if leAt b 8 4 < kaField s 0x74 4 then 4
  else 0
/-- PATCH_COMMIT (16 R393, 15 R352). -/
def patchCommitDo (r : Req) (s : State) : State :=
  let n := leAt r.payload 0 4
  let b := memRead 0#8 s.foreman.patchBuf 0 (min n 98560)
  if 98560 < n || !patchWhole b then refuse s r [8]
  else
    let c := patchFails s b
    if c = 1 then reply s r 3 1 0 [] []
    else if c != 0 then refuse s r [0x0B]
    else if 4 ≤ ticketsOf s r.tenant then busy s r
    else
      let (s, k) := defer s r.tenant (.patch b)
      answer s r (leBytes 2 k)
/-- A patch whose write is under way. -/
def isPatch (k : Ticket) : Option (List Byte) := match k.what with | .patch b => some b | _ => none
/-- PATCH_WRITE_DONE: the running firmware is unchanged (15 R353, 16 R393). -/
def patchDone (ok : Bool) (s : State) : State :=
  match s.foreman.tickets.find? (fun k => (isPatch k).isSome) with
  | some k =>
    if ok then
      let b := (isPatch k).getD []
      let s := flashPut { s with flash := { s.flash with mem := memErase s.flash.mem 0 0x40000 } } 0 b
      endTicket s k.tenant k.ticket 0x0AE1 0 0 0 (leBytes 4 (leAt b 8 4))
    else endTicket s k.tenant k.ticket 0x0AE1 0x0A 0 0 []
  | none => s
/-- SET_PATCH_MIN (15 R353). -/
def setPatchMinDo (r : Req) (s : State) : State :=
  let v := leAt r.payload 0 4
  let old := kaField s 0x74 4
  let es : List ClampEntry := if v < old then [(0, 1, old)] else []
  answer (storeSetting s 0x74 (leBytes 4 (max v old))) r (leBytes 4 (max v old)) es
/-- An image store under way: slot, length and offset in the dataset region of the tenant. -/
def isStore (k : Ticket) : Option (Nat × Nat × Nat) := match k.what with | .store a b c => some (a, b, c) | _ => none
/-- IMAGE_STORE (16, 20 R469). -/
def imageStoreDo (r : Req) (s : State) : State :=
  let p := r.payload
  let slot := byteAt p 0
  let len := leAt p 4 4
  if !slotThere s slot then noObject s r
  else if 0x800000 < len then refuse s r [8]
  else if !inDataset s r.tenant (leAt p 8 8) len then refuse s r [0x1B]
  else if 4 ≤ ticketsOf s r.tenant || s.foreman.tickets.any (fun k => match isStore k with | some x => x.1 == slot | none => false) then busy s r
  else
    let (s, k) := defer s r.tenant (.store slot len (leAt p 8 8))
    answer s r (leBytes 2 k)
/-- What fails of an image to be stored: its signature or an empty key slot; which tenants may load it is judged at each load
(14 R333, R334; log 6). -/
def storeFails (s : State) (b : List Byte) : Option Nat := match imageKey s b with
  | none => some 2
  | some key => if imageSigned key b then none else some 1
/-- IMAGE_STORE_DONE: the slot's image is replaced once the new one is written and verified (16 Edges of 16.8). -/
def imageStored (ok : Bool) (s : State) : State :=
  match s.foreman.tickets.find? (fun k => (isStore k).isSome) with
  | some k =>
    let x := (isStore k).getD (0, 0, 0)
    let b := datasetRead s k.tenant x.2.2 x.2.1
    if !ok then endTicket s k.tenant k.ticket 0x0AE3 0x0A 0 0 []
    else match storeFails s b with
    | some c => endTicket s k.tenant k.ticket 0x0AE3 3 c (refuseMask [c]) []
    | none =>
      let s := flashPut { s with flash := { s.flash with mem := memErase s.flash.mem (slotAt x.1) 0x800000 } } (slotAt x.1) b
      endTicket s k.tenant k.ticket 0x0AE3 0 0 0 (leBytes 1 x.1)
  | none => s
/-- KA_READ. -/
def kaReadDo (r : Req) (s : State) : State :=
  let o := leAt r.payload 0 2
  let n := leAt r.payload 2 2
  if 32768 < o + n then noObject s r else answer s r (r.payload.take 4) [] (kaBytes s o n)
/-- LEN and BULK of KA_READ. -/
def kaReadLen (r : Req) : Bool := r.len == 4 && bulkIs r (leAt r.payload 2 2)
/-- LEN and BULK of PATCH_CHUNK. -/
def chunkLen (r : Req) : Bool := r.len == 4 && natBit r.flags 1 && decide (r.bulkLen ≤ 4096)

/-- JOURNAL_WRITE (20 R473). -/
def execJournalWrite (t : Nat) (s : State) : Host.Outcome State Fault Refusal :=
  .next (foremanRow t 0x0A01 (lenIs 0) only0 flashReady journalWriteDo s)
/-- PATCH_CHUNK (16 R393). -/
def execPatchChunk (t : Nat) (s : State) : Host.Outcome State Fault Refusal :=
  .next (foremanRow t 0x0A02 chunkLen only0 flashReady patchChunkDo s)
/-- PATCH_COMMIT (16 R393). -/
def execPatchCommit (t : Nat) (s : State) : Host.Outcome State Fault Refusal :=
  .next (foremanRow t 0x0A03 (lenIs 4) only0 flashReady patchCommitDo s)
/-- PATCH_WRITE_DONE (16 R393). -/
def execPatchWriteDone (t : Nat) (ok : Bool) (s : State) : Host.Outcome State Fault Refusal := .next (chainRow t anyTime (patchDone ok) s)
/-- SET_PATCH_MIN (15 R353). -/
def execSetPatchMin (t : Nat) (s : State) : Host.Outcome State Fault Refusal :=
  .next (foremanRow t 0x0A04 (lenIs 4) only0 flashReady setPatchMinDo s)
/-- SHUTDOWN (20 R467). -/
def execShutdown (t : Nat) (s : State) : Host.Outcome State Fault Refusal :=
  .next (foremanRow t 0x0A05 (lenIs 0) only0 flashReady shutdownDo s)
/-- IMAGE_STORE (20 R469). -/
def execImageStore (t : Nat) (s : State) : Host.Outcome State Fault Refusal :=
  .next (foremanRow t 0x0A06 (lenIs 16) only0 flashReady imageStoreDo s)
/-- IMAGE_STORE_DONE (20 R469). -/
def execImageStoreDone (t : Nat) (ok : Bool) (s : State) : Host.Outcome State Fault Refusal :=
  .next (chainRow t anyTime (imageStored ok) s)
/-- KA_READ (24 R529). -/
def execKaRead (t : Nat) (s : State) : Host.Outcome State Fault Refusal :=
  .next (foremanRow t 0x0A07 kaReadLen only0 flashReady kaReadDo s)

end Sys2Proof.Machine
end

