-- ==== Sys2Proof/Machine/Boot.lean ====
section
/-! DEFINITION. Gesso's bring-up up to T_K: fuses and variants, PLL lock, the KA check with its recovery and its clamp report (19 19.1,
19.7; 20 R474; 15 15.9). -/

namespace Sys2Proof.Machine

/-! ### Fuses (19 R454, R455) -/

/-- Structural resources and limits of a variant: benches, links, ports, channels, DRAM in MiB, clock ceiling in MHz, envelope in
0.1 W (00 Table 0-1, 19 Table 19-6). -/
def variantLimits : Nat → Option (List Nat)
  | 1 => some [0xF, 0x3F, 0xFF, 3, 16384, 1200, 280]
  | 2 => some [0xF, 0x3F, 0xFF, 3, 16384, 900, 150]
  | 3 => some [7, 0xF, 0xFF, 3, 16384, 1000, 180]
  | 4 => some [3, 3, 0xF, 1, 8192, 800, 90]
  | 5 => some [1, 0, 3, 1, 4096, 600, 50]
  | _ => none
/-- The fuse block's CRC passes (19 R454). -/
def fuseCrcOk (v : Nat) : Bool := crc16 (beBytes 34 (v / 65536)) == v % 65536
/-- What a fuse block leaves: fields held within the variant's resources and limits (19 R455). -/
def fusesOf (v : Nat) : Fuses :=
  let lim := variantLimits (field v 216 8)
  let cap := fun (i x : Nat) => match lim with | some l => x &&& l.getD i 0 | none => x
  let low := fun (i x : Nat) => match lim with | some l => min x (l.getD i 0) | none => x
  let dm := field v 194 2
  { serial := field v 224 64, variant := field v 216 8, benches := cap 0 (field v 212 4), links := cap 1 (field v 206 6)
    ports := cap 2 (field v 198 8), channels := cap 3 (field v 196 2), dramMib := low 4 (if dm = 3 then 4096 else 4096 * 2 ^ dm)
    ceilMhz := low 5 (field v 182 12), envelope := low 6 (field v 172 10), tsTrim := field v 100 72, pwrCal := field v 36 64 }
/-- Gesso has the fuses: the benches and pairs that are fused in, waiting. -/
def fusesRead (v : Nat) (s : State) : State :=
  let f := fusesOf v
  s.updSys (fun y => { y with
    powerGood := true, boot := .pll, fuses := f
    benches := (List.range 4).map (fun b => { phase := if natBit f.benches b then .off else .absent : Bench }) })
/-- POWER_GOOD_RISE: up to three reads; where the CRC fails on all, Gesso halts with FAULT_N (19 R454). -/
def fuseReadDo (reads : List (BitVec 288)) (s : State) : State :=
  let rs := (reads.take 3).map (fun r => r.toNat)
  let n := (rs.takeWhile (fun v => !fuseCrcOk v)).length
  match rs.find? fuseCrcOk with
  | some v => fusesRead v (s.updSys (fun y => { y with fuseReads := n + 1 }))
  | none =>
    if rs.length < 3 then s
    else devFault (s.updSys (fun y => { y with powerGood := true, boot := .halted, fuseReads := 3 })) 0x0106 3 true (leBytes 1 3)
/-- POWER_GOOD_RISE (19 R438). -/
def execPowerGoodRise (t : Nat) (reads : List (BitVec 288)) (s : State) : Host.Outcome State Fault Refusal :=
  let s := s.at t
  .next (finish (when (s.sys.boot == .off && !s.sys.thermal.abs) (fuseReadDo reads) s))

/-! ### PLL lock (19 R438, Edges of 19.1) -/

/-- The PLLs that lock: without PLL_S and PLL_C Gesso restarts from the fuse read. -/
def pllLockedDo (locked : List Pll) (s : State) : State :=
  let lost := [Pll.pllT, .pllM0, .pllM1, .pllF].filter (fun p => !locked.contains p)
  if locked.contains .pllS && locked.contains .pllC then
    s.updSys (fun y => { y with boot := .kaCheck, locked := locked, tbZero := s.now, lost := lost })
  else s.updSys (fun y => { y with boot := .off, locked := locked })
/-- GESSO_PLL_LOCKED. -/
def execGessoPllLocked (t : Nat) (locked : List Pll) (s : State) : Host.Outcome State Fault Refusal :=
  let s := s.at t
  .next (finish (when (s.sys.boot == .pll) (pllLockedDo locked) s))

/-! ### Recovery of the KA sections (20 R474) -/

/-- KA_MAGIC and LAYOUT are right and KA_LOST is not latched. -/
def kaWhole (s : State) : Bool := !s.ka.lost && kaField s 0 4 == 0x4B414C56 && kaField s 4 2 == 3
/-- Take a section from journal records. -/
def takeSection (s : State) (lo hi : Nat) (rs : List JRecord) : State :=
  rs.foldl (fun s r =>
    let a := max lo r.ofs
    let b := min hi (r.ofs + r.payload.length)
    if b ≤ a then s else kaPut s a (sliceAt r.payload (a - r.ofs) (b - a))) s
/-- Where a section came from: 0 KA, 1 the journal, 2 neither. -/
def recoverSection (s : State) (valid : Bool) (parts : List Nat) (lo hi : Nat) : Nat × State :=
  if kaWhole s && valid then (0, s)
  else match if s.journal.scanned then journalCopy s parts else none with
    | some rs => (1, takeSection s lo hi rs)
    | none => (2, s)
/-- CRC_CONFIG passes. -/
def configOk (s : State) : Bool := kaField s 8 4 == crc32 (kaBytes s 0x40 0x1FC0)
/-- CRC_MEMMAP passes. -/
def memmapOk (s : State) : Bool := kaField s 12 4 == crc32 (kaBytes s 0x2000 0x480)
/-- The anchor log's CRC passes. -/
def anchorOk (s : State) : Bool := kaField s 0x2854 4 == crc32 (kaBytes s 0x2858 504)

/-! ### The clamp of the configuration (15 R369, R371, R372) -/

/-- A KA section as a request payload: the runs (payload offset, KA offset, bytes) and the clamp rules of its command. -/
structure KaGroup where
  runs : List (Nat × Nat × Nat)
  clamp : List Byte → List Byte × List ClampEntry

/-- Clamp a section in place; the entries name KA offsets. -/
def clampGroup (g : KaGroup) (a : State × List ClampEntry) : State × List ClampEntry :=
  let len := g.runs.foldl (fun m r => max m (r.1 + r.2.2)) 0
  let pay := g.runs.foldl (fun p r => p.take r.1 ++ kaBytes a.1 r.2.1 r.2.2 ++ p.drop (r.1 + r.2.2)) (zeros len)
  let c := g.clamp pay
  let s := g.runs.foldl (fun s r => kaPut s r.2.1 (sliceAt c.1 r.1 r.2.2)) a.1
  let ofs := fun (o : Nat) => match g.runs.find? (fun r => decide (r.1 ≤ o) && decide (o < r.1 + r.2.2)) with
    | some r => r.2.1 + (o - r.1)
    | none => o
  (s, a.2 ++ c.2.map (fun e => (ofs e.1, e.2.1, e.2.2)))
/-- Rules alone. -/
def byRules (rules : List FieldRule) (b : List Byte) : List Byte × List ClampEntry := applyRules rules b
/-- LINK_EN within the fused links. -/
def clampLinkEn (links : Nat) (b : List Byte) : List Byte × List ClampEntry :=
  let v := leAt b 0 1 % 64
  if v &&& links = v then (leBytes 1 v, []) else (leBytes 1 (v &&& links), [(0, 6, v &&& links)])
/-- Memory test levels; the state store is never tested at NONE. -/
def clampLevels (b : List Byte) : List Byte × List ClampEntry :=
  let a := applyRules [⟨0, 1, .enum 2 1⟩, ⟨1, 1, .enum 2 1⟩] b
  depend 0 1 (if leAt a.1 0 1 = 2 then 1 else leAt a.1 0 1) 6 a
/-- A string's members lie within a pair. -/
def clampMembers (b : List Byte) : List Byte × List ClampEntry :=
  let ok := leAt b 0 1 < 4 && decide (1 ≤ leAt b 1 1) && decide (leAt b 1 1 ≤ leAt b 2 1) && decide (leAt b 2 1 ≤ 32)
  if leAt b 4 1 = 0 || ok then (b, []) else (putLe b 4 1 0, [(4, 6, 0)])
/-- The groups of the core section. -/
def coreGroups (links : Nat) : List KaGroup :=
  [⟨[(0, 0x40, 1)], byRules [⟨0, 1, .near 10 50⟩]⟩]
    ++ (List.range 4).map (fun p => ⟨[(1, kaPair p, 3), (4, kaPair p + 4, 2)], clampPair⟩)
    ++ [⟨[(0, 0x68, 4)], byRules assayerRules⟩, ⟨[(0, 0x6D, 1)], clampLinkEn links⟩, ⟨[(0, 0x70, 2)], clampLevels⟩]
/-- The groups of the tenant and channel sections. -/
def tableGroups : List KaGroup :=
  (List.range 15).map (fun i => ⟨[(0, kaTenant (i + 1), 20)], byRules tenantRules⟩)
    ++ (List.range 16).map (fun n => ⟨[(1, kaChan n, 7)], byRules channelRules⟩)
/-- The groups of a string's record. -/
def stringGroups (n : Nat) : List KaGroup :=
  let a := kaStr n
  [⟨[(0, a, 5)], clampMembers⟩, ⟨[(1, a + 5, 21), (24, a + 26, 8)], clampLedger⟩, ⟨[(1, a + 34, 6), (8, a + 40, 12)], clampHead⟩,
   ⟨[(1, a + 52, 9)], clampProtect⟩, ⟨[(1, a + 61, 3)], byRules gpioRules⟩]
/-- A record of zeros is absent and left as it is (24 Edges of 24.7). -/
def allZero (b : List Byte) : Bool := b.all (· == 0#8)
/-- Every field of the configuration within its range, with the entries. -/
def clampConfig (s : State) : State × List ClampEntry :=
  let strs := (List.range 64).filter (fun n => !allZero (kaBytes s (kaStr n) 64))
  (coreGroups s.sys.fuses.links ++ tableGroups ++ strs.flatMap stringGroups).foldl (fun a g => clampGroup g a) (s, [])
/-- Fields whose default is not zero: KA offset, bytes, default (15 Edges of 15.9). -/
def kaDefaults (links : Nat) : List (Nat × Nat × Nat) :=
  [(0x40, 1, 25)] ++ (List.range 4).flatMap (fun p => [(kaPair p + 2, 1, 32), (kaPair p + 4, 2, 128)])
    ++ [(0x68, 1, 1), (0x69, 1, 24), (0x6A, 2, 500), (0x6C, 1, 128), (0x6D, 1, links), (0x70, 1, 1), (0x71, 1, 1)]
    ++ (List.range 16).flatMap (fun n => [(kaChan n + 2, 1, 1), (kaChan n + 6, 1, 4)])
/-- Every field at its default, with an entry each, reason BAD_ENUM: safe default applied. -/
def defaultConfig (s : State) : State × List ClampEntry :=
  let s := kaPut s 0x40 (zeros 0x1FC0)
  (kaDefaults s.sys.fuses.links).foldl (fun (a : State × List ClampEntry) d =>
    (kaPut a.1 d.1 (leBytes d.2.1 d.2.2), a.2 ++ [(d.1, 3, d.2.2)])) (s, [])
/-- The boot clamp report (15 R372). -/
def clampReport (s : State) (source : Nat) (es : List ClampEntry) : State :=
  let kept := es.take 120
  kaPut s 0x2480 (fit 976 (leBytes 1 source ++ leBytes 1 kept.length ++ leBytes 2 (es.length - 120)
    ++ leBytes 4 (rtc s / 32768 % 4294967296) ++ entryBytes 1 kept))

/-! ### The KA check (15 R371, 20 R474, 19 R449, R452) -/

/-- Configuration: source 0 KA, 1 journal, 2 KA as it stands or the defaults where KA is lost. -/
def checkConfig (s : State) : Nat × State :=
  let r := recoverSection s (configOk s) [0, 1] 0x40 0x2000
  let c := if r.1 = 2 && s.ka.lost then defaultConfig r.2 else clampConfig r.2
  let s := clampReport c.1 r.1 c.2
  if r.1 = 0 && c.2.isEmpty then (0, s)
  else (r.1, significant (kaPut s 8 (leBytes 4 (crc32 (kaBytes s 0x40 0x1FC0)))))
/-- Memory map: whether a FULL test follows; such a start builds the patch table and the region map anew. -/
def checkMap (s : State) (source : Nat) : Bool × State :=
  let r := recoverSection s (memmapOk s) [2] 0x2000 0x2480
  let full := source != 0 || r.1 == 2
  let s := if r.1 = 2 then kaPut r.2 0x2000 (zeros 0x480) else r.2
  let s := if full then kaPut s 0x2000 (zeros 0x408) else s
  (full, kaPut s 12 (leBytes 4 (crc32 (kaBytes s 0x2000 0x480))))
/-- Anchor log and snapshot; whether the snapshot came from the journal. -/
def checkSnapshot (s : State) : Bool × State :=
  let a := recoverSection s (anchorOk s) [3] 0x2850 0x2A50
  let n := recoverSection s (snapValid s) [3, 4, 5, 6, 7, 8] 0x2A50 0x7E90
  let s := if a.1 = 1 then kaPut s 0x2850 (kaBytes a.2 0x2850 512)
    else if a.1 = 2 then kaPut (kaPut s 0x2850 (zeros 512)) 0x2854 (leBytes 4 (crc32 (zeros 504))) else s
  let s := if n.1 = 1 then kaPut s 0x2A50 (kaBytes n.2 0x2A50 0x5440) else if n.1 = 2 then kaPut s 0x2A50 (zeros 0x5440) else s
  (n.1 == 1, s)
/-- The settings that KA holds are loaded into the blocks. A member whose identity is recorded counts as absent over the
reset, so that its identity is compared when it is reached (07 R183; log 167). -/
def loadSettings (s : State) : State :=
  let tens := ((List.range 15).map (· + 1)).filterMap (fun n =>
    let b := kaBytes s (kaTenant n) 20
    if allZero b then none else some (n, tenOfBytes b))
  let strs := (List.range 64).filterMap (fun n =>
    let b := kaBytes s (kaStr n) 64
    if allZero b then none else some (n, strOfBytes b))
  let mems := (List.range 128).filterMap (fun i =>
    let b := kaBytes s (kaMember i) 24
    let m := memberOfBytes (lmem s i) b
    if allZero b then none else some (i, { m with absent := m.serial != 0 }))
  let chans := (List.range 16).map (fun n => (n, chanOfBytes {} (kaBytes s (kaChan n) 7)))
  let s := (List.range 4).foldl (fun s p =>
    let b := kaBytes s (kaPair p) 6
    if pairFused s p then s.updPair p (fun q => { q with
      mode := modeOf (leAt b 0 1), addrPos := leAt b 1 1 == 1, nExp := leAt b 2 1, sweepHz := leAt b 4 2 })
    else s) s
  { s with
    foreman := { s.foreman with tenants := tens, catchup := kaField s 0x40 1 }
    ledger := { s.ledger with set := strs, mem := mems }
    assayer := { s.assayer with raEn := kaField s 0x68 1 == 1, histH := kaField s 0x69 1, raCap := kaField s 0x6A 2, chans := chans } }
/-- Each pair that KA configures is woken; the others' port controllers are up (19 R440, Edges of 19.1). -/
def wakePairs (s : State) : State :=
  (List.range 4).foldl (fun s p =>
    if !pairFused s p then s
    else if (s.pair p).mode == .off then s.updPair p (fun q => { q with ready := true })
    else wakePair (s.updPair p (fun q => { q with bringup := true })) p) s
/-- The benches' waves from T_K: 5,000 microseconds apart in ascending order (19 R442). -/
def planWaves (s : State) : State :=
  let bs := (List.range 4).filter (fun b => natBit s.sys.fuses.benches b)
  bs.zipIdx.foldl (fun s (e : Nat × Nat) => s.updBench e.1 (fun x => { x with wave := s.now + ms 5 * e.2 })) s
/-- KA_CHECK_DONE: the flash is there where the check had to read the journal. -/
def kaCheckDo (density : Option Nat) (s : State) : State :=
  let lost := s.ka.lost
  let s := match density with
    | some d => if kaWhole s && configOk s && memmapOk s && anchorOk s && snapValid s then s
      else scanJournal { s with flash := { s.flash with density := some d } }
    | none => s
  let a := checkConfig s
  let b := checkMap a.2 a.1
  let c := checkSnapshot b.2
  let s := c.2
  let s := if lost || a.1 != 0 || b.1 || !kaWhole s then significant s else s
  let s := kaPut (kaPut s 0 (leBytes 4 0x4B414C56)) 4 (leBytes 2 3)
  let s := { s with ka := { s.ka with lost := false, lostSeen := lost }, ledger := { s.ledger with restoreJournal := c.1 } }
  let s := loadSettings s
  let s := s.updSys (fun y => { y with
    boot := .parallel, tkAt := s.now, kaSource := a.1, bootClamped := a.1 != 0 || kaField s 0x2481 1 != 0, computeUp := y.locked.contains .pllT
    levelState := if b.1 then 0 else kaField s 0x70 1, levelOther := if b.1 then 0 else kaField s 0x71 1
    patches := (List.range 256).filterMap (fun i => let v := kaField s (0x2000 + 4 * i) 4; if natBit v 31 then some v else none)
    channels := (List.range 2).map (fun c => { y.channels.getD c {} with spareBad := kaField s (0x2408 + 32 * c) 32 }) })
  planWaves (fabricStart (wakePairs s) (a.1 != 0))
/-- KA_CHECK_DONE (19 R439). -/
def execKaCheckDone (t : Nat) (density : Option Nat) (s : State) : Host.Outcome State Fault Refusal :=
  let s := s.at t
  .next (finish (when (s.sys.boot == .kaCheck) (kaCheckDo density) s))

/-! ### The flash and the keep-alive domain (20 R458, R459, R469) -/

/-- FLASH_IDENTIFIED: SFDP gives the density; the journal is scanned (17 Table 17-6). -/
def flashDo (density : Option Nat) (s : State) : State :=
  match density with
  | some d => journalNext (scanJournal { s with flash := { s.flash with density := some d } })
  | none => s
/-- FLASH_IDENTIFIED (17 R406). -/
def execFlashIdentified (t : Nat) (density : Option Nat) (s : State) : Host.Outcome State Fault Refusal :=
  .next (chainRow t (fun s => s.sys.boot == .parallel && !readyBit s 5) (flashDo density) s)
/-- RTC_VALID clears, the RTC keeps counting (log 60); the loss is logged by its cause while SHELL runs (20 R459, 21 Table 21-3). -/
def rtcInvalid (s : State) (cause : Nat) : State :=
  if !s.ka.rtcValid then s
  else
    let s := { s with ka := { s.ka with rtcValid := false } }
    if s.shellUp then devFault s 0x0105 0 false (leBytes 1 cause) else s
/-- KA_LOST: the file reads zero, the RTC starts from zero and is invalid (20 R458, 02 Edges of 2.1). -/
def kaLostDo (s : State) : State :=
  let s := rtcInvalid s 0
  { s with ka := { s.ka with file := [], lost := true, rtcBase := 0, rtcAt := s.now } }
/-- KA_LOST (20 R458). -/
def execKaLost (t : Nat) (s : State) : Host.Outcome State Fault Refusal := .next (finish (kaLostDo (s.at t)))
/-- VKA_LOW sets or clears; setting it is logged (20 R458, 21 Table 21-3). -/
def vkaLowDo (low : Bool) (s : State) : State :=
  let was := s.ka.vkaLow
  let s := { s with ka := { s.ka with vkaLow := low } }
  if low && !was && s.shellUp then devFault s 0x0104 1 true [] else s
/-- VKA_LOW (20 R458). -/
def execVkaLow (t : Nat) (low : Bool) (s : State) : Host.Outcome State Fault Refusal := .next (finish (vkaLowDo low (s.at t)))
/-- OSCILLATOR_STOP (20 R459). -/
def execOscillatorStop (t : Nat) (s : State) : Host.Outcome State Fault Refusal := .next (finish (rtcInvalid (s.at t) 1))
/-- RTC_TICK_MISSING (20 R459, 02 Table 2-6). -/
def execRtcTickMissing (t : Nat) (s : State) : Host.Outcome State Fault Refusal := .next (chainRow t anyTime (fun s => rtcInvalid s 2) s)

end Sys2Proof.Machine
end

