-- ==== Sys2Proof/Machine/Benches.lean ====
section
/-! DEFINITION. Benches and the resets of Gesso: power good, brownout, PLL lock, waves, self-test, what a retest restores, the
Stipple known-answer test, the start of Foreman (02, 19 19.1, 19.2; 21 R487 to R489). -/

namespace Sys2Proof.Machine

/-! ### Power and clocks (02 Table 2-4, R51; 23 R509, R511) -/

/-- PWRGOOD falls: SHELL stays in reset until it rises. -/
def powerFall (s : State) : State := (shellReset s).updSys (fun y => { y with powerGood := false })
/-- PWRGOOD_FALL (23 R511). -/
def execPwrgoodFall (t : Nat) (s : State) : Host.Outcome State Fault Refusal := .next (finish (powerFall (s.at t)))
/-- CORE_RAIL_BROWNOUT: a SHELL reset, whichever rail it was (23 R509). -/
def brownout (_ : Rail) (s : State) : State := shellReset s
/-- CORE_RAIL_BROWNOUT. -/
def execCoreRailBrownout (t : Nat) (rail : Rail) (s : State) : Host.Outcome State Fault Refusal := .next (finish (brownout rail (s.at t)))
/-- A PLL as the CLOCK event codes it (16 Table 16-12); PLL_S and PLL_C have no code there. -/
def pllCode : Pll → Option Nat
  | .pllT => some 0 | .pllM0 => some 1 | .pllM1 => some 2 | .pllF => some 3 | .pllS => none | .pllC => none
/-- A channel goes down: its state store with it (17 Table 17-6, 19 Table 19-9). -/
def channelDown (s : State) (c : Nat) : State :=
  let held := (List.range 32).any (fun i => inStore s c i)
  let s := logFault s 0x0502 2 true 0xFF 5 c []
  let s := s.updSys (fun y => { y with
    stateStoreReady := y.stateStoreReady && !held
    channels := modAt y.channels c (fun x => { x with up := false, retrain := true }) })
  (s.sched.streams.map (fun e => e.1)).foldl (fun s n =>
    let st := s.stream n
    if !st.valid || st.storePtr.isNone || (st.storePtr.getD 0) * 128 / 2 ^ 36 != c then s
    else if st.swap && (inFlight s n || (st.res && st.xfer.isNone)) then s
    else
      let s := endCopy s n
      if st.den && (st.swap || !st.res) then pauseFreed s n 3 else s) s
/-- Scan jobs whose dataset lies on a channel stop (02 Table 2-6). -/
def stopJobs (s : State) (c reason : Nat) : State :=
  (s.sched.jobs.map (fun e => e.1)).foldl (fun s n =>
    match jobOf s n with
    | some j =>
      if (j.st == .queued || j.st == .running) && ((tblFind? s.foreman.datasets j.tenant).map (fun d => d.base / 2 ^ 36)) == some c then
        jobBoundary (updJob s n (fun x => { x with pauseWant := true, pauseReason := reason })) n
      else s
    | none => s) s
/-- A channel goes down at run time: what uses it stops, its tests are void. -/
def channelLost (s : State) (c : Nat) : State :=
  if !(s.sys.channels.getD c {}).up then s
  else
    let s := stopJobs (channelDown s c) c 3
    s.updSys (fun y => { y with channels := modAt y.channels c (fun x => { x with
      regions := x.regions.map (fun r => if r == .mappedOut then .mappedOut else .pending) }) })
/-- PLL_LOCK_LOSS (02 R41, R51, Table 2-6). -/
def lockLost (p : Pll) (s : State) : State :=
  let s := s.updSys (fun y => { y with locked := y.locked.filter (· != p), lost := y.lost.filter (· != p) ++ [p] })
  let tell := fun (cls : Nat) (k : Nat) (s : State) =>
    raiseEvent (devFault s 0x0101 cls false (leBytes 1 k ++ leBytes 1 1)) 0 0x01E4 (leBytes 1 k ++ leBytes 1 1)
  match p with
  | .pllT => tell 3 0 ((computeReset s false).updSys (fun y => { y with computeUp := false }))
  | .pllM0 => channelLost (tell 1 1 s) 0
  | .pllM1 => channelLost (tell 1 2 s) 1
  | .pllF => tell 1 3 s
  | _ =>
    let d := s.draw
    shellReset (devFault d.2 0x0101 3 false (leBytes 1 (d.1 % 256) ++ leBytes 1 1))
/-- PLL_LOCK_LOSS. -/
def execPllLockLoss (t : Nat) (p : Pll) (s : State) : Host.Outcome State Fault Refusal :=
  .next (chainRow t (fun s => s.sys.locked.contains p) (lockLost p) s)
/-- PLL_LOCK_REGAIN: the whole COMPUTE reset held since the loss of PLL_T goes on with its self-test (02 Table 2-6). -/
def lockRegained (p : Pll) (s : State) : State :=
  match pllCode p with
  | none => s
  | some k =>
    let s := s.updSys (fun y => { y with locked := y.locked ++ [p], lost := y.lost.filter (· != p) })
    let s := raiseEvent (devFault s 0x0101 1 false (leBytes 1 k ++ leBytes 1 0)) 0 0x01E4 (leBytes 1 k ++ leBytes 1 0)
    if p != .pllT || s.sys.boot != .parallel then s
    else s.updSys (fun y => { y with
      computeUp := true
      benches := y.benches.map (fun b => if b.phase == .testing then { b with testAt := s.now } else b) })
/-- PLL_LOCK_REGAIN (02 R51). -/
def execPllLockRegain (t : Nat) (p : Pll) (s : State) : Host.Outcome State Fault Refusal :=
  .next (chainRow t (fun s => s.sys.lost.contains p) (lockRegained p) s)

/-! ### Waves and gates (19 R442) -/

/-- BENCH_WAVE_START: its wave's time has come and the benches may run (21 Edges of 21.6). -/
def waveDue (b : Nat) (s : State) : Bool :=
  s.sys.boot == .parallel && s.sys.computeUp && (s.bench b).phase == .off && decide ((s.bench b).wave ≤ s.now) && !s.sys.thermal.shut
/-- The gate starts to open. -/
def gateOpens (b : Nat) (s : State) : State := s.updBench b (fun x => { x with phase := .opening, openAt := s.now })
/-- BENCH_WAVE_START. -/
def execBenchWaveStart (t : Nat) (b : Fin 4) (s : State) : Host.Outcome State Fault Refusal :=
  .next (chainRow t (waveDue b.val) (gateOpens b.val) s)
/-- 8 stages of 50 microseconds have passed. -/
def gateDue (b : Nat) (s : State) : Bool :=
  s.sys.computeUp && (s.bench b).phase == .opening && decide ((s.bench b).openAt + 19200 ≤ s.now)
/-- The self-test begins. -/
def testBegins (b : Nat) (s : State) : State := s.updBench b (fun x => { x with phase := .testing, testAt := s.now, k := min 16 s.sys.thermal.ceil })
/-- BENCH_GATE_OPEN. -/
def execBenchGateOpen (t : Nat) (b : Fin 4) (s : State) : Host.Outcome State Fault Refusal :=
  .next (chainRow t (gateDue b.val) (testBegins b.val) s)

/-! ### Images on benches (14 R338, Edges of 14.3; 21 R488) -/

/-- Foreman's source of an image's bundles, weights and initial state blocks: its copy in DRAM, else the flash slot it came from
where the slot still holds that image and its key is still good (21 R488). -/
def sourceKept (s : State) (img : Image) : Bool :=
  copiesKept s || (match img.slot with
    | some k =>
      let b := flashBytes s (slotAt k) (min 0x800000 (leAt (flashBytes s (slotAt k) 12) 8 4))
      readyBit s 5 && slotThere s k && (authCode s img.tenant b).isNone && imageOk b && leAt b 12 4 == img.id
        && sectBytes b 1 == img.bundles && sectBytes b 3 == img.weights && sectBytes b 4 == img.state
    | none => false)
/-- Images leave the tiles of a bench that a test has overwritten; each keeps its handle, indexes and weight region. -/
def imagesOff (s : State) (b : Nat) : State :=
  let off := fun (i : Image) => { i with
    bases := i.bases.filter (fun e => e.1 / 16 != b), inits := i.inits.filter (fun e => e.1 / 16 != b) }
  { s with foreman := { s.foreman with images := s.foreman.images.map (fun e => (e.1, off e.2)) } }
/-- Every image whose mask names a bench is placed on its live tiles, weights first. -/
def placeOn (s : State) (b : Nat) : State :=
  let hs := (s.foreman.images.filter (fun (e : Nat × Image) => natBit e.2.mask b && sourceKept s e.2)).map (fun e => e.1)
  let s := imagesOff s b
  hs.foldl (fun s h => match imageOf s h with
    | some img => (tilesOf s (2 ^ b)).foldl (fun s t => replaceTile s h t) (loadWeights s img b)
    | none => s) s
/-- A kernel's BANK_MASK takes in the areas and swap slots that stand on a bench (14 R339). -/
def widenOn (s : State) (b : Nat) : State :=
  let s := s.sched.streams.foldl (fun s (e : Nat × Stream) =>
    if e.2.valid && !e.2.swap && e.2.tile / 16 == b then widenMask s e.2.tile e.2.kt e.2.unit (areaUnits s e.2) else s) s
  s.sched.streams.foldl (fun s (e : Nat × Stream) =>
    match e.2.slot.bind (fun i => tblFind? s.sched.lanes i) with
    | some l => if e.2.valid && l.tile / 16 == b then widenMask s l.tile e.2.kt l.unit l.units else s
    | none => s) s

/-! ### Streams after a retest (21 R489, Table 21-5) -/

/-- One more stream restored, by source: 0 the store, 1 an older state, 2 the initial state. -/
def countRestore (s : State) (tenant k : Nat) : State :=
  let c := tblGet (0, 0, 0) s.sched.restores tenant
  let c := if k = 0 then (c.1 + 1, c.2) else if k = 1 then (c.1, c.2.1 + 1, c.2.2) else (c.1, c.2.1, c.2.2 + 1)
  { s with sched := { s.sched with restores := tblSet tenant c s.sched.restores } }
/-- R50 for a stream that the device resumes: its lag is zero; its inputs stay. A FEED stream's inputs that wait keep their grid. -/
def reviveStream (s : State) (n : Nat) : State :=
  let s := setBehind s n false
  let s := s.updStream n (fun x => { x with lagUs := 0, eligOfs := 0 })
  let st := s.stream n
  if st.feed && !st.queue.isEmpty then
    let per := max 1 (periodOf st)
    let lag := (max 0 (lagInt s st)).toNat
    s.updStream n (fun x => { x with nomDue := (x.nomDue + ceilDiv lag per * per) % 2 ^ 48 })
  else setDue s n (tb s)
/-- A stream takes its state from the first source that Table 21-5 gives it. -/
def restoreStream (s : State) (n : Nat) : State :=
  let st := s.stream n
  let initial := fun (s : State) => countRestore (s.updStream n (fun x => { x with reset := true })) st.tenant 2
  if st.swap then
    match st.stored with
    | some k =>
      if !storeUp s st then s
      else if k = st.step then countRestore s st.tenant 0
      else
        let s := dramWrite s (st.storePtr.getD 0 * 128) (storedArea s st)
        countRestore (s.updStream n (fun x => { x with stored := some x.step })) st.tenant 1
    | none => if st.reset then countRestore s st.tenant 0 else initial s
  else
    let s := s.updStream n (fun x => { x with res := true })
    if st.stored.isSome && storeUp s st then countRestore (palWrite s st.tile st.unit (storedArea s st)) st.tenant 1
    else initial s
/-- A stream of a retested bench: paused where its image or its store is gone, otherwise restored and resumed. On a lost tile
the recheck of R25 takes it. -/
def resumeOne (s : State) (n : Nat) : State :=
  let st := s.stream n
  let there := (imageOf s st.image).any (fun i => (tblFind? i.bases st.tile).isSome)
  if !s.tileLive st.tile then s
  else if !there then (if st.den then pauseStream s n 5 else s)
  else if st.swap && st.stored.isSome && !storeUp s st then (if st.den then pauseStream s n 3 else s)
  else
    let s := settleStream (restoreStream s n) n
    if st.den then reviveStream s n else s
/-- Streams whose tile lies in a bench. -/
def streamsOn (s : State) (b : Nat) : List Nat :=
  s.sched.streams.filterMap (fun (e : Nat × Stream) => if e.2.valid && e.2.tile / 16 == b then some e.1 else none)
/-- STREAM_RESTORE, one entry per tenant once the reset's last bench has ended its test. -/
def tellRestore (s : State) : State :=
  if s.sys.benches.any (fun b => b.retest) then s
  else
    let es := s.sched.restores
    let s := { s with sched := { s.sched with restores := [] } }
    let s := es.foldl (fun s (e : Nat × Nat × Nat × Nat) =>
      newFault s 0x0308 0 false e.1 0 0 (leBytes 2 e.2.1 ++ leBytes 2 e.2.2.1 ++ leBytes 2 e.2.2.2)) s
    s.updSys (fun y => { y with schedReset := false })
/-- A bench whose self-test has passed enters dispatch: images first, then streams, the recheck, and the tiles pick. -/
def benchEnters (s : State) (b : Nat) : State :=
  let again := (s.bench b).retest
  let s := s.updBench b (fun x => { x with phase := .live, retest := false })
  let s := s.updSys (fun y => { y with schedReset := false })
  let s := widenOn (placeOn s b) b
  let s := if again then tellRestore ((streamsOn s b).foldl resumeOne s) else s
  (List.range 16).foldl (fun s i => dispatchTile s (b * 16 + i)) (recheck s)
/-- A bench without a live tile, a passing dispatcher and a passing weight store closes its gate (19 R444). -/
def benchFails (s : State) (b : Nat) (item : Nat) : State :=
  let s := s.updBench b (fun x => { x with phase := .closed, retest := false, live := 0, failItem := item })
  let s := imagesOff (logFault s 0x0305 2 true 0xFF 3 b (leBytes 1 item)) b
  tellRestore (recheck s)
/-- BENCH_SELF_TEST_DONE: live with at least one tile, a passing dispatcher and a passing weight store (19 R444). Foreman places
the images of a retested bench, so that one waits while CTRL is in reset (21 Edges of 21.4). Which item of Table 19-2 a tile
failed is not told: its number is free. -/
def selfTestDone (b : Nat) (r : SelfTest) (s : State) : State :=
  let d := s.draw
  let s := d.2
  if !r.dispatcherOk then benchFails s b 6
  else if !r.storeOk then benchFails s b 5
  else if r.tiles = 0#16 then benchFails s b (d.1 % 4 + 1)
  else
    let s := clearTiles (s.updBench b (fun x => { x with live := r.tiles.toNat, failItem := 0 })) b
    if s.sys.ctrlUp || s.foreman.images.isEmpty then benchEnters s b else s.updBench b (fun x => { x with phase := .passed })
/-- BENCH_SELF_TEST_DONE. -/
def execBenchSelfTestDone (t : Nat) (b : Fin 4) (r : SelfTest) (s : State) : Host.Outcome State Fault Refusal :=
  .next (chainRow t (fun s => s.sys.computeUp && (s.bench b.val).phase == .testing) (selfTestDone b.val r) s)

/-! ### The Stipple known-answer test (12 R304) -/

/-- The test compares three class states of one key with those of Table 12-5. -/
def stippleTest (c0 c1 c2 : BitVec 72) (s : State) : State :=
  let good := fun (c : Nat) (v : BitVec 72) => v.toNat == classState 0 c
  let bad := [(0, c0), (1, c1), (2, c2)].find? (fun e => !good e.1 e.2)
  match bad with
  | none => s.updSys (fun y => { y with stippleOk := true })
  | some e => devFault (s.updSys (fun y => { y with stippleBad := some e.1 })) 0x0307 2 true (leBytes 1 e.1)
/-- STIPPLE_KAT_DONE. -/
def execStippleKatDone (t : Nat) (c0 c1 c2 : BitVec 72) (s : State) : Host.Outcome State Fault Refusal :=
  .next (chainRow t (fun s => s.sys.boot == .parallel && !s.sys.stippleOk && s.sys.stippleBad.isNone) (stippleTest c0 c1 c2) s)

/-! ### The start of Foreman (15 R352, 21 R487) -/

/-- The patch in the flash is verified: it runs, or the ROM firmware runs alone (15 R352, R353; 19 Table 19-9). -/
def verifyPatch (s : State) : State :=
  let b := flashBytes s 0 (128 + min 98304 (leAt (flashBytes s 0 16) 12 4))
  let c := if s.flash.density.isSome then patchFails s b else 1
  let v := if c = 0 then leAt b 8 4 else 0
  let s := { s with foreman := { s.foreman with patchVer := v }
                    host := { s.host with ifl := 3, romVer := Config.romVer % 65536, patchVer := v } }
  if c = 0 then s else raiseEvent (devFault s 0x0405 1 false (leBytes 1 c)) 0 0x01E3 (leBytes 1 c)
/-- An object whose registry record fails is released (21 R487). -/
def releaseObj (s : State) : RegObj → State
  | .image h =>
    match imageOf s h with
    | some img =>
      let ns := s.sched.streams.filterMap (fun (e : Nat × Stream) => if e.2.valid && e.2.image == h && e.2.den then some e.1 else none)
      ns.foldl (fun s n => pauseStream s n 5) (unloadImage s h img)
    | none => s
  | .job n => { s with sched := { s.sched with jobs := tblDel n s.sched.jobs } }
  | .ring t n => { s with foreman := { s.foreman with rings := tblDel (t * 256 + n) s.foreman.rings } }
  | .dataset t => { s with foreman := { s.foreman with datasets := tblDel t s.foreman.datasets } }
  | .stream n => if (s.stream n).valid then releaseStream s n else s
/-- Jobs that a CTRL reset paused go on from their progress records; what waits for their boundary happens (10 R253, R256). -/
def restoreJobs (s : State) : State :=
  jobBoundaries { s with sched := { s.sched with jobs := s.sched.jobs.map (fun e =>
      if e.2.ctrl && e.2.st == .paused then
        (e.1, { e.2 with ctrl := false, st := if e.2.doneCnt = 0 && e.2.fly.isEmpty then .queued else .running })
      else e) } }
/-- Swap transfers abandoned at the reset start again. -/
def restartCopies (s : State) : State :=
  updStreams s (fun x => x.xfer.isSome) (fun x => { x with xfer := x.xfer.map (fun y => { y with startAt := s.now }) })
/-- CTRL_RESTART goes first to every enabled tenant (15 Edges of 15.5). -/
def tellRestart (s : State) : State :=
  let ns := (List.range 16).filter (fun n => tenantOn s n)
  let lost := s.foreman.discarded
  let s := ns.foldl (fun s n => raiseEvent s n 0x01E0 (leBytes 2 (lost.getD n 0))) s
  { s with foreman := { s.foreman with restart := false, discarded := List.replicate 16 0 } }
/-- FOREMAN_START: BOOT_CLAMP is the first message after bring-up, CTRL_RESTART after a CTRL reset. -/
def foremanStarts (badRecords : List RegObj) (s : State) : State :=
  let s := s.updSys (fun y => { y with ctrlUp := true })
  let again := s.foreman.restart
  let s := if again then tellRestart s else s
  let s := if s.sys.bootClamped && !again then raiseEvent s 0 0x01E2 (leBytes 1 s.sys.kaSource ++ leBytes 1 (kaField s 0x2481 1)) else s
  let s := verifyPatch (s.updSys (fun y => { y with bootClamped := false }))
  let s := if again then restartCopies (restoreJobs (badRecords.foldl releaseObj s)) else s
  let ps := (List.range 4).filter (fun b => (s.bench b).phase == .passed)
  recheck (ps.foldl benchEnters s)
/-- FOREMAN_START. -/
def execForemanStart (t : Nat) (badRecords : List RegObj) (s : State) : Host.Outcome State Fault Refusal :=
  .next (chainRow t (fun s => s.sys.boot == .parallel && !s.sys.ctrlUp) (foremanStarts badRecords) s)

end Sys2Proof.Machine
end

