-- ==== Sys2Proof/Machine/Memtest.lean ====
section
/-! DEFINITION. The DRAM channels: training, the memory test, row patches, mapped-out regions, a channel down (19 19.3 to 19.5). -/

namespace Sys2Proof.Machine

/-- A channel. -/
def State.chan (s : State) (c : Nat) : Channel := s.sys.channels.getD c {}
/-- Change a channel. -/
def State.updChan (s : State) (c : Nat) (f : Channel → Channel) : State :=
  s.updSys (fun y => { y with channels := modAt y.channels c f })
/-- Level at which a region is tested: 0 FULL, 1 QUICK, 2 NONE (19 R449, Table 19-9). -/
def regionLevel (s : State) (c i : Nat) : Nat :=
  if (s.chan c).retrain then 1 else if inStore s c i then s.sys.levelState else s.sys.levelOther
/-- The region that a channel's engine takes next: the state store's first, ascending (19 R448). -/
def nextRegion (s : State) (c : Nat) : Option Nat :=
  let rs := (s.chan c).regions
  let left := (List.range rs.length).filter (fun i => rs.getD i .mappedOut == .pending)
  (left.find? (fun i => inStore s c i)).or left.head?
/-- The engine goes on, unless a region is in test. -/
def testNext (s : State) (c : Nat) : State :=
  if !(s.chan c).up || (s.chan c).regions.any (· == .testing) then s
  else match nextRegion s c with
    | some i => s.updChan c (fun x => { x with regions := x.regions.set i .testing })
    | none => s
/-- What follows from the regions' states: STATE_STORE and MEMTEST_DONE. -/
def storeState (s : State) : State :=
  let rs := storeRegions s
  let whole := !rs.isEmpty && rs.all (fun p => (s.chan p.1).up && (s.chan p.1).regions.getD p.2 .pending == .released)
  let done := s.sys.channels.any (fun c => !c.regions.isEmpty)
    && s.sys.channels.all (fun c => c.regions.all (fun r => r == .released || r == .mappedOut))
  s.updSys (fun y => { y with stateStoreReady := y.stateStoreReady || whole, memtestDone := y.memtestDone || done })
/-- Streams whose store area lies on a channel. -/
def storedOn (s : State) (c : Nat) (p : Nat → Bool) : List Nat :=
  s.sched.streams.filterMap (fun (e : Nat × Stream) =>
    match e.2.storePtr with
    | some a => if e.2.valid && a * 128 / 2 ^ 36 == c && p (a * 128 % 2 ^ 36 / regionBytes) then some e.1 else none
    | none => none)
/-- A stream's store area is lost: a SWAP stream pauses with STORE_LOST, told to tenant 0 too; checkpoints start anew (11 11.8,
19 Table 19-9). -/
def storeLost (s : State) (n : Nat) : State :=
  let st := s.stream n
  let s := s.updStream n (fun x => { x with stored := none, reset := x.reset || (x.swap && !x.res) })
  if !st.swap then s
  else
    let s := pauseStream s n 4
    if st.tenant = 0 then s
    else raiseEvent s 0 0x04E0 (leBytes 2 n ++ leBytes 1 4 ++ leBytes 6 st.step ++ leBytes 4 st.lagUs)
/-- Regions of a channel as training finds it: those the region map in KA takes out stay out (19 R452). -/
def regionsAt (s : State) (c size : Nat) : List RegionSt :=
  (List.range (ceilDiv size 256)).map (fun i => if natBit (kaField s (0x2400 + 4 * c) 4) i then .mappedOut else .pending)
/-- DRAM_CHANNEL_TRAINED: the usable size, its regions, and the first test; after a retraining the contents are lost. -/
def channelTrained (c mib : Nat) (s : State) : State :=
  let size := min mib (chanShare s)
  let was := (s.chan c).retrain
  let s := if was then { s with dram := modAt s.dram c (fun _ => []) } else s
  let s := s.updChan c (fun x => { x with up := true, mib := size - 1, regions := regionsAt s c size })
  let s := if was then (storedOn s c (fun _ => true)).foldl storeLost s else s
  storeState (testNext s c)
/-- A channel may train. -/
def mayTrain (c mib : Nat) (s : State) : Bool :=
  s.sys.boot == .parallel && natBit s.sys.fuses.channels c && s.sys.locked.contains (if c = 0 then .pllM0 else .pllM1)
    && !(s.chan c).up && decide (1 < min mib (chanShare s))
/-- DRAM_CHANNEL_TRAINED (19 R448). -/
def execDramChannelTrained (t : Nat) (ch : Fin 2) (mib : Nat) (s : State) : Host.Outcome State Fault Refusal :=
  .next (chainRow t (mayTrain ch.val mib) (channelTrained ch.val mib) s)

/-! ### The end of a region's test (19 R451, R452) -/

/-- A patch entry (19 Table 19-4). -/
def patchWord (c : Nat) (row : Nat × Nat) (slot : Nat) : Nat :=
  2 ^ 31 + c * 2 ^ 30 + row.1 % 16 * 2 ^ 26 + row.2 % 2 ^ 18 * 2 ^ 8 + slot % 256
/-- A spare slot for each failing row, the lowest that is free and not bad; one that fails its test is marked bad. -/
def takeSlots (c : Nat) (bad : List Nat) (fails : List Nat) : List Nat → List (Nat × Nat) → List Nat × Option (List Nat)
  | _, [] => (bad, some [])
  | [], _ :: _ => (bad, none)
  | k :: free, row :: rows =>
    if fails.contains k then takeSlots c (bad ++ [k]) fails free (row :: rows)
    else
      let r := takeSlots c bad fails free rows
      (r.1, r.2.map (fun ws => patchWord c row k :: ws))
/-- The failing rows of a test, each once. -/
def failingRows (r : RegionTest) : List (Nat × Nat) := r.rows.eraseDups
/-- The region is judged: marked slots, and its patches where it is released. -/
def judgeRegion (s : State) (c : Nat) (level : Nat) (r : RegionTest) : List Nat × Option (List Nat) :=
  let rows := failingRows r
  let used := (s.sys.patches.filter (fun w => w / 2 ^ 30 % 2 = c)).map (fun w => w % 256)
  let free := (List.range 256).filter (fun k => !used.contains k && !natBit (s.chan c).spareBad k)
  if level = 2 then ([], some [])
  else if r.addrFault || 16 < rows.length || 256 < s.sys.patches.length + rows.length then ([], none)
  else takeSlots c [] r.spareBad free rows
/-- Patch table, region map and bad slots go to KA (19 R452, 20 R460). -/
def keepMap (s : State) : State :=
  let words := (List.range 256).flatMap (fun i => leBytes 4 (s.sys.patches.getD i 0))
  let maps := (List.range 2).flatMap (fun c =>
    if (s.chan c).regions.isEmpty then kaBytes s (0x2400 + 4 * c) 4
    else leBytes 4 (sumNat ((List.range 32).map (fun i => if (s.chan c).regions.getD i .pending == .mappedOut then 2 ^ i else 0))))
  let bad := (List.range 2).flatMap (fun c => leBytes 32 (s.chan c).spareBad)
  let b := words ++ maps ++ bad
  if kaBytes s 0x2000 b.length = b then s else significant (kaMap s 0x2000 b)
/-- A region leaves its test: released with its patches, or mapped out (19 R451). -/
def regionDone (c i : Nat) (r : RegionTest) (s : State) : State :=
  let j := judgeRegion s c (regionLevel s c i) r
  let ok := j.2.isSome
  let s := s.updSys (fun y => { y with patches := y.patches ++ j.2.getD [] })
  let s := s.updChan c (fun x => { x with
    regions := x.regions.set i (if ok then .released else .mappedOut)
    spareBad := j.1.foldl (fun v k => setBit v k true) x.spareBad })
  let s := keepMap s
  let s := if ok then s
    else
      let s := logFault s 0x0501 1 false 0xFF 5 c (leBytes 1 i ++ leBytes 2 (failingRows r).length)
      (storedOn s c (fun k => k == i)).foldl storeLost s
  let s := raiseEvent s 0 0x0BE1 (leBytes 2 (32 * c + i) ++ leBytes 1 (b2n ok))
  storeState (testNext s c)
/-- MEMTEST_REGION_DONE. -/
def execMemtestRegionDone (t : Nat) (ch : Fin 2) (region : Fin 32) (r : RegionTest) (s : State) : Host.Outcome State Fault Refusal :=
  .next (chainRow t (fun s => (s.chan ch.val).up && (s.chan ch.val).regions.getD region.val .pending == .testing)
    (regionDone ch.val region.val r) s)
/-- DRAM_CHANNEL_DOWN (19 R446, Table 19-9; 02 Table 2-6). -/
def execDramChannelDown (t : Nat) (ch : Fin 2) (s : State) : Host.Outcome State Fault Refusal :=
  .next (chainRow t anyTime (fun s => channelLost s ch.val) s)

end Sys2Proof.Machine
end

