-- ==== Sys2Proof/Machine/Guards.lean ====
section
/-! DEFINITION. What Watchman and the power governor do: watchdogs (21 R484), thermal actions (21 21.6, 20 20.8), the governor (19
19.8). -/

namespace Sys2Proof.Machine

/-! ### Watchdogs (21 Table 21-4) -/

/-- Foreman has had 100 ms, give or take 1 ms, in which to kick. -/
def kickMissed (s : State) : Bool :=
  s.sys.boot == .parallel && (s.sys.ctrlUp || decide (max s.sys.tkAt s.sys.ctrlResetAt + ms 99 ≤ s.now))
/-- FOREMAN_WDOG and a CTRL reset. -/
def foremanHung (s : State) : State := ctrlReset (devFault s 0x0401 3 false (leBytes 2 s.foreman.lastOp))
/-- FOREMAN_WATCHDOG. -/
def execForemanWatchdog (t : Nat) (s : State) : Host.Outcome State Fault Refusal := .next (chainRow t kickMissed foremanHung s)
/-- An urgent request has waited 100 microseconds since its take. -/
def urgentLate (s : State) : Bool := s.sys.ctrlUp && (match s.foreman.urgent with
  | u :: _ => decide (u.2 + 4800 ≤ s.now)
  | [] => false)
/-- EOPEN on every enabled port, URGENT_WDOG and a CTRL reset. -/
def urgentHung (s : State) : State := ctrlReset (devFault (eopenAll s) 0x0402 3 false [])
/-- URGENT_WATCHDOG. -/
def execUrgentWatchdog (t : Nat) (s : State) : Host.Outcome State Fault Refusal := .next (chainRow t urgentLate urgentHung s)
/-- BENCH_WDOG and a reset of the tile's bench; cause 0 step, 1 dispatcher. -/
def benchHung (s : State) (tile cause : Nat) : State :=
  benchReset (logFault s 0x0403 3 false 0xFF 3 (tile / 16) (leBytes 1 tile ++ leBytes 1 cause)) (tile / 16)
/-- A step or work chunk has had twice its cycles at the lowest clock since dispatch, and 60 microseconds. -/
def stepLate (tile : Nat) (s : State) : Bool :=
  s.benchLive (tile / 16) && !s.sys.thermal.shut && (match (s.tile tile).run with
    | some r => decide (r.startAt + ceilDiv (2 * r.cycMax * 48000 * 16) (s.sys.fuses.ceilMhz * 1000 * r.kLow) + 2880 ≤ s.now)
    | none => false)
/-- STEP_WATCHDOG. -/
def execStepWatchdog (t : Nat) (tile : Fin 64) (s : State) : Host.Outcome State Fault Refusal :=
  .next (chainRow t (stepLate tile.val) (fun s => benchHung s tile.val 0) s)
/-- An ONLINE step, eligible and staged, has waited 100 microseconds with its tile idle. -/
def dispatchLate (n : Nat) (s : State) : Bool :=
  let st := s.stream n
  st.cls == 0 && stepReady s n && tileIdle s st.tile && decide ((st.eligOfs : Int) + 4800 ≤ lagInt s st)
    && decide ((s.tile st.tile).idleAt + 4800 ≤ s.now)
/-- DISPATCHER_WATCHDOG. -/
def execDispatcherWatchdog (t : Nat) (n : Fin 16384) (s : State) : Host.Outcome State Fault Refusal :=
  .next (chainRow t (dispatchLate n.val) (fun s => benchHung s (s.stream n.val).tile 1) s)

/-! ### Dividers (02 R35, 19 R457) -/

/-- Every idle tile's dispatcher picks its work. -/
def dispatchAll (s : State) : State := (List.range 64).foldl dispatchTile s
/-- A bench takes a divider; the lowest since dispatch is kept for the step watchdog. -/
def setDivider (s : State) (b k : Nat) : State :=
  let s := s.updBench b (fun x => { x with k := k })
  { s with tiles := s.tiles.map (fun e =>
      if e.1 / 16 == b then (e.1, { e.2 with run := e.2.run.map (fun (r : Run) => { r with kLow := min r.kLow k }) }) else e) }
/-- Benches that are powered. -/
def poweredBenches (s : State) : List Nat :=
  (List.range 4).filter (fun b => let p := (s.bench b).phase; p == .opening || p == .testing || p == .passed || p == .live)
/-- The ceiling acts on every bench above it. -/
def applyCeiling (s : State) : State :=
  let bs := (poweredBenches s).filter (fun b => decide (s.sys.thermal.ceil < (s.bench b).k))
  if bs.isEmpty then s else recheck (bs.foldl (fun s b => setDivider s b s.sys.thermal.ceil) s)

/-! ### Thermal actions (21 R493 to R495) -/

/-- Change the thermal state. -/
def State.updThermal (s : State) (f : Thermal → Thermal) : State := s.updSys (fun y => { y with thermal := f y.thermal })
/-- Whether an action is in force after a sample: from its threshold on, until below its end (0.1 degree). -/
def inForce (was : Bool) (th stop : Int) (tj : Int) : Bool := if was then !decide (tj < stop) else decide (th ≤ tj)
/-- The highest reading and the first sensor that gives it. -/
def hottest (l : List Int) : Option (Int × Nat) :=
  leastBy (fun (a b : Int × Nat) => decide (b.1 < a.1)) l.zipIdx
/-- A THERMAL entry; how its threshold byte is coded is not told, so it is free. -/
def thermalFault (s : State) (cls : Nat) (tj : Int) (k : Nat) : State :=
  let d := s.draw
  logFault d.2 0x0701 cls true 0xFF 9 k (leBytes 1 d.1 ++ leBytes 1 k ++ leBytes 2 (pattern 16 tj))
/-- T_SHUT: the benches stop; snapshot and write grace (21 R495, 20 R477). -/
def thermalStop (s : State) (tj : Int) (k : Nat) : State :=
  let s := thermalFault s 3 tj k
  let s := s.updThermal (fun x => { x with shut := true, shutAt := s.now })
  journalShut (takeSnapshot s 4)
/-- The clock returns: timers that stood go on, a step that lost a lease meanwhile aborts, the dispatchers pick. -/
def thermalGo (s : State) : State :=
  let d := s.now - s.sys.thermal.shutAt
  let s := { s with tiles := s.tiles.map (fun (e : Nat × Tile) => (e.1, { e.2 with
      idleAt := e.2.idleAt + d
      run := e.2.run.map (fun (r : Run) => { r with startAt := r.startAt + d, stallAt := r.stallAt + d }) })) }
  let s := s.updThermal (fun x => { x with shut := false })
  let lost := s.tiles.filterMap (fun (e : Nat × Tile) => if e.2.run.any (fun (r : Run) => r.leaseLost) then some e.1 else none)
  dispatchAll (lost.foldl (fun s t => abortTile s t .leaseLost none) s)
/-- T_ABS: a SHELL reset that is held (21 Table 21-8). -/
def thermalReset (s : State) (tj : Int) (k : Nat) : State :=
  (shellReset (thermalFault s 3 tj k)).updThermal (fun x => { x with abs := true })
/-- The thresholds at a sample, SHELL running. -/
def thermalActs (tj : Int) (k : Nat) (s : State) : State :=
  let x := s.sys.thermal
  let s := s.updThermal (fun y => { y with tj := some tj, sensor := k })
  let warn := inForce x.warn 1000 950 tj
  let opmax := inForce x.opmax 1050 1000 tj
  let nvm := inForce x.nvm 1080 1030 tj
  let shut := inForce x.shut 1150 1100 tj
  let s := s.updThermal (fun y => { y with warn := warn, opmax := opmax, nvm := nvm })
  let s := if warn && !x.warn then thermalFault s 1 tj k else s
  let s := if x.opmax && !opmax then dispatchAll s else s
  let s := if shut && !x.shut then thermalStop s tj k else if x.shut && !shut then thermalGo s else s
  let s := if x.nvm && !nvm then journalNext s else s
  if 1220 ≤ tj then thermalReset s tj k else s
/-- A sample while T_ABS holds SHELL in reset: below 117 degrees the hold ends, the actions below it are in force. -/
def thermalHeld (tj : Int) (s : State) : State :=
  if 1170 ≤ tj then s
  else s.updThermal (fun y => { y with
    abs := false, warn := inForce true 1000 950 tj, opmax := inForce true 1050 1000 tj, nvm := inForce true 1080 1030 tj
    shut := inForce true 1150 1100 tj, shutAt := s.now })
/-- THERMAL_SAMPLE: Watchman acts on the highest of the nine readings. -/
def thermalDo (sensors : List Int) (s : State) : State :=
  match hottest sensors with
  | none => s
  | some (tj, k) =>
    if s.sys.thermal.abs then thermalHeld tj s
    else if s.sys.boot == .kaCheck || s.sys.boot == .parallel then thermalActs tj k s else s
/-- THERMAL_SAMPLE (21 R493). -/
def execThermalSample (t : Nat) (sensors : List Int) (s : State) : Host.Outcome State Fault Refusal :=
  .next (finish (thermalDo sensors (s.at t)))
/-- The ceiling's next step: down every 10 ms from 100 degrees on, up every 100 ms below 95 (21 R494). -/
def ceilingStep (s : State) : Option Nat :=
  let x := s.sys.thermal
  match x.tj with
  | none => none
  | some tj =>
    if 1000 ≤ tj then (if 4 < x.ceil && decide (x.ceilAt + ms 10 ≤ s.now) then some (x.ceil - 1) else none)
    else if tj < 950 then (if x.ceil < 16 && decide (x.ceilAt + ms 100 ≤ s.now) then some (x.ceil + 1) else none)
    else none
/-- THERMAL_CEILING_STEP. -/
def ceilingDo (s : State) : State :=
  match ceilingStep s with
  | some k => applyCeiling (s.updThermal (fun x => { x with ceil := k, ceilAt := s.now }))
  | none => s
/-- THERMAL_CEILING_STEP. -/
def execThermalCeilingStep (t : Nat) (s : State) : Host.Outcome State Fault Refusal := .next (chainRow t anyTime ceilingDo s)

/-! ### The power governor (19 R456, Table 19-7) -/

/-- Change the governor. -/
def State.updGov (s : State) (f : Governor → Governor) : State := s.updSys (fun y => { y with gov := f y.gov })
/-- A condition that has held since a time. -/
def sinceWhen (s : State) (c : Bool) (old : Option Nat) : Option Nat := if c then some (old.getD s.now) else none
/-- E in the unit of P_M, 10 mW. -/
def envelopeOf (s : State) : Nat := s.sys.fuses.envelope * 10
/-- GOV_ESTIMATE: the 1 ms mean and the benches' shares; at 0.97 E the hold begins. -/
def estimateDo (pm : Nat) (shares : List Nat) (s : State) : State :=
  let e := envelopeOf s
  s.updGov (fun g => { g with
    pm := min 65535 pm, shares := shares, hold := g.hold || decide (97 * e ≤ 100 * pm)
    lowSince := sinceWhen s (decide (100 * pm < 90 * e)) g.lowSince, overSince := sinceWhen s (decide (e ≤ pm)) g.overSince
    quietSince := sinceWhen s (decide (100 * pm < 85 * e)) g.quietSince })
/-- GOV_ESTIMATE. -/
def execGovEstimate (t : Nat) (pm : Nat) (shares : List Nat) (s : State) : Host.Outcome State Fault Refusal :=
  .next (chainRow t anyTime (estimateDo pm shares) s)
/-- A condition has held for a time. -/
def heldFor (s : State) (a : Option Nat) (n : Nat) : Bool := match a with
  | some v => decide (v + n ≤ s.now)
  | none => false
/-- GOV_RELEASE: below 0.90 E for 10 ms. -/
def releaseDue (s : State) : Bool := s.sys.gov.hold && heldFor s s.sys.gov.lowSince (ms 10)
/-- The hold ends. -/
def govReleases (s : State) : State := dispatchAll (s.updGov (fun g => { g with hold := false }))
/-- GOV_RELEASE. -/
def execGovRelease (t : Nat) (s : State) : Host.Outcome State Fault Refusal := .next (chainRow t releaseDue govReleases s)
/-- GOV_DIVIDER_DECREASE: held and at or above E for 1 ms. -/
def decreaseDue (s : State) : Bool := s.sys.gov.hold && heldFor s s.sys.gov.overSince (ms 1)
/-- The powered bench with the highest share takes a lower divider; ties to the lower bench; never below 1. -/
def govDecreases (s : State) : State :=
  let s := s.updGov (fun g => { g with overSince := some s.now })
  match leastBy (fun (a b : Nat) => decide (s.sys.gov.shares.getD b 0 < s.sys.gov.shares.getD a 0)) (poweredBenches s) with
  | none => s
  | some b =>
    let k := (s.bench b).k
    if k ≤ 1 then s
    else recheck (logFault (setDivider s b (k - 1)) 0x0702 0 false 0xFF 3 b (leBytes 1 b ++ leBytes 1 (k - 1)))
/-- GOV_DIVIDER_DECREASE. -/
def execGovDividerDecrease (t : Nat) (s : State) : Host.Outcome State Fault Refusal := .next (chainRow t decreaseDue govDecreases s)
/-- GOV_DIVIDER_RAISE: not held and below 0.85 E for 100 ms. -/
def raiseDue (s : State) : Bool := !s.sys.gov.hold && heldFor s s.sys.gov.quietSince (ms 100)
/-- The powered bench with the lowest divider takes a higher one, up to 16 and the thermal ceiling. -/
def govRaises (s : State) : State :=
  match leastBy (fun (a b : Nat) => decide ((s.bench a).k < (s.bench b).k)) (poweredBenches s) with
  | none => s
  | some b =>
    let k := (s.bench b).k
    if min 16 s.sys.thermal.ceil ≤ k then s
    else refitWatch (setDivider (s.updGov (fun g => { g with quietSince := some s.now })) b (k + 1))
/-- GOV_DIVIDER_RAISE. -/
def execGovDividerRaise (t : Nat) (s : State) : Host.Outcome State Fault Refusal := .next (chainRow t raiseDue govRaises s)

end Sys2Proof.Machine
end

