-- ==== Sys2Proof/Machine/Diag.lean ====
section
/-! DEFINITION. The diagnostics commands (16 Table 16-11, R394; 21 R480 to R482; 19 R449). -/

namespace Sys2Proof.Machine

/-- Entries of the log that a tenant is given: all to tenant 0, its own to another. -/
def ownEntries (s : State) (tenant : Nat) : List FaultEntry := s.log.entries.filter (fun e => tenant == 0 || e.tenant == tenant)
/-- FAULT_READ: as many as the bulk length asked for holds, and the sequence number to go on from. -/
def faultReadDo (r : Req) (s : State) : State :=
  let es := (ownEntries s r.tenant).filter (fun e => decide (leAt r.payload 0 4 ≤ e.seq))
  let n := min (r.bulkLen / 32) es.length
  let next := match es[n]? with
    | some e => e.seq
    | none => s.log.nextSeq
  answer s r (leBytes 4 n ++ leBytes 4 next) [] ((es.take n).flatMap faultBytes)
/-- A condition that Table 21-3 marks standing. -/
structure Standing where
  code : Nat
  cls : Nat
  kind : Nat := 0
  index : Nat := 0
  detail : List Byte := []
/-- Standing conditions in force, in the order of Table 21-3. How THERMAL codes its threshold byte is not told: `th`. -/
def standing (s : State) (th : Nat) : List Standing :=
  let t := s.sys.thermal
  let hot := fun (cls : Nat) =>
    ({ code := 0x0701, cls := cls, kind := 9, index := t.sensor
       detail := leBytes 1 th ++ leBytes 1 t.sensor ++ leBytes 2 (pattern 16 (t.tj.getD 0)) } : Standing)
  (if s.ka.vkaLow then [{ code := 0x0104, cls := 1 }] else [])
    ++ (List.range 128).filterMap (fun i =>
      if (lmem s i).isolated then some { code := 0x0202, cls := 2, kind := 1, index := i / 32, detail := leBytes 1 (i % 32 + 1) } else none)
    ++ s.tiles.filterMap (fun (e : Nat × Tile) =>
      if e.2.out && e.2.outCode != 0 then some { code := 0x0302, cls := 2, kind := 2, index := e.1, detail := leBytes 1 e.2.outCode } else none)
    ++ (List.range 4).filterMap (fun b =>
      if (s.bench b).phase == .closed then some { code := 0x0305, cls := 2, kind := 3, index := b, detail := leBytes 1 (s.bench b).failItem }
      else none)
    ++ s.sys.stippleBad.toList.map (fun c => { code := 0x0307, cls := 2, detail := leBytes 1 c })
    ++ (List.range 2).filterMap (fun c =>
      if (s.chan c).retrain && !(s.chan c).up then some { code := 0x0502, cls := 2, kind := 5, index := c } else none)
    ++ (if t.warn then [hot 1] else []) ++ (if t.shut then [hot 3] else [])
/-- FAULT_LOG_CLEAR: the log is empty, FAULT_N released, and each standing condition is written afresh (21 R480). -/
def logClearDo (r : Req) (s : State) : State :=
  let d := s.draw
  let s := { d.2 with log := { d.2.log with entries := [], faultN := false, crit := false } }
  answer ((standing s (d.1 % 256)).foldl (fun s e => newFault s e.code e.cls true 0xFF e.kind e.index e.detail) s) r []
/-- The level that a running memory test uses; none runs: free. -/
def levelRunning (s : State) (other : Nat) : Nat :=
  match (List.range 2).findSome? (fun c =>
    ((List.range 32).find? (fun i => (s.chan c).regions.getD i .pending == .testing)).map (fun i => regionLevel s c i)) with
  | some l => l
  | none => other % 256
/-- Regions in a state. -/
def regionsIn (s : State) (p : RegionSt → Bool) : Nat := sumNat (s.sys.channels.map (fun c => (c.regions.filter p).length))
/-- GESSO_STATUS; a region in test is not yet passed or failed and counts as pending. -/
def gessoStatusDo (r : Req) (s : State) : State :=
  let d := s.draw
  let s := d.2
  answer s r (leBytes 8 (readyNow s) ++ leBytes 2 (regionsIn s (· == .released)) ++ leBytes 2 (regionsIn s (· == .mappedOut))
    ++ leBytes 2 (regionsIn s (fun x => x == .pending || x == .testing)) ++ leBytes 2 s.sys.patches.length ++ leBytes 1 (tilesLive s)
    ++ leBytes 1 (levelRunning s d.1) ++ zeros 14)
/-- SET_MEMTEST: stored for the next start (19 Edges of 19.4). -/
def setMemtestDo (r : Req) (s : State) : State :=
  let (b, es) := clampLevels r.payload
  answer (storeSetting s 0x70 b) r b es
/-- DBG_CHALLENGE: a nonce, SERIAL and zeros; it serves one attempt (16 R394). -/
def dbgChallengeDo (r : Req) (s : State) : State :=
  let d := s.draw
  let b := leBytes 16 d.1 ++ leBytes 8 s.sys.fuses.serial ++ zeros 8
  answer { d.2 with foreman := { d.2.foreman with challenge := some b } } r b
/-- DBG_UNLOCK: a good signature under key slot 0 over the challenge last returned opens JTAG debug (16 R394). -/
def dbgUnlockDo (r : Req) (s : State) : State :=
  let ok := s.foreman.challenge.any (fun c => sigGood romKey c (sliceAt r.payload 0 64))
  let s := { s with foreman := { s.foreman with challenge := none, dbgOpen := s.foreman.dbgOpen || ok } }
  if ok then answer s r [] else reply s r 3 1 0 [] []

/-- FAULT_READ. -/
def execFaultRead (t : Nat) (s : State) : Host.Outcome State Fault Refusal :=
  .next (foremanRow t 0x0B01 (fun r => r.len == 4 && bulkFor r 32) anyone always faultReadDo s)
/-- FAULT_LOG_CLEAR. -/
def execFaultLogClear (t : Nat) (s : State) : Host.Outcome State Fault Refusal :=
  .next (foremanRow t 0x0B02 (lenIs 0) only0 always logClearDo s)
/-- GESSO_STATUS. -/
def execGessoStatus (t : Nat) (s : State) : Host.Outcome State Fault Refusal :=
  .next (foremanRow t 0x0B03 (lenIs 0) only0 always gessoStatusDo s)
/-- SET_MEMTEST. -/
def execSetMemtest (t : Nat) (s : State) : Host.Outcome State Fault Refusal :=
  .next (foremanRow t 0x0B04 (lenIs 2) only0 always setMemtestDo s)
/-- DBG_CHALLENGE. -/
def execDbgChallenge (t : Nat) (s : State) : Host.Outcome State Fault Refusal :=
  .next (foremanRow t 0x0B10 (lenIs 0) only0 always dbgChallengeDo s)
/-- DBG_UNLOCK. -/
def execDbgUnlock (t : Nat) (s : State) : Host.Outcome State Fault Refusal :=
  .next (foremanRow t 0x0B11 (lenIs 64) only0 always dbgUnlockDo s)

end Sys2Proof.Machine
end

