-- ==== Sys2Proof/Machine/Window.lean ====
section
/-! DEFINITION. The host window: its registers and blocks, reads and writes, as both host ports reach them (17 17.1, 17.4, 17.5; 15
15.4; 24 24.1 to 24.6). -/

namespace Sys2Proof.Machine

/-! ### Registers as they read -/

/-- Identification and device status (24 Table 24-2). -/
def identWindow (s : State) : List Byte :=
  let f := s.sys.fuses
  let t := s.sys.thermal
  let k := fun (b : Nat) => if (poweredBenches s).contains b || (s.bench b).phase == .off then (s.bench b).k else 0
  identBytes s 0xFF ++ leBytes 1 (popCount f.links 6) ++ leBytes 1 (popCount f.ports 8) ++ leBytes 1 (popCount f.channels 2)
    ++ leBytes 1 (benchesLive s) ++ leBytes 4 f.dramMib ++ zeros 8 ++ (List.range 4).flatMap (fun b => leBytes 1 (k b))
    ++ leBytes 2 (match t.tj with
      | some v => pattern 16 v
      | none => 0x8000)
    ++ leBytes 1 t.ceil ++ leBytes 1 (b2n t.warn + b2n t.opmax * 2 + b2n t.nvm * 4 + b2n t.shut * 8)
    ++ leBytes 2 s.sys.gov.pm ++ leBytes 1 (b2n s.sys.gov.hold) ++ zeros 1
    ++ leBytes 1 (b2n s.ka.vkaLow + b2n s.ka.lostSeen * 2 + b2n s.ka.rtcValid * 4) ++ zeros 179
/-- READY and its interrupts (24 Table 24-3). -/
def readyWindow (s : State) : List Byte :=
  leBytes 8 s.host.ready ++ leBytes 8 s.host.rdyIe ++ leBytes 8 s.host.rdyRise ++ leBytes 8 s.host.rdyFall ++ zeros 224
/-- Interrupt registers, INT_N routing, fault status (17 Table 17-7, 24 Table 24-4). -/
def intWindow (s : State) : List Byte :=
  let es := s.log.entries
  (List.range 16).flatMap (fun n =>
      leBytes 4 (intStat s n) ++ leBytes 4 (s.port n).intMask ++ leBytes 4 (s.port n).snapStat ++ leBytes 4 (s.port n).snapMask)
    ++ leBytes 4 s.host.intnSel ++ leBytes 4 (b2n s.host.intnEn)
    ++ leBytes 4 (b2n s.log.faultN + b2n s.log.crit * 2 + b2n (es.any (fun e => e.standing)) * 4)
    ++ leBytes 4 ((es.getLast?.map (fun e => e.seq)).getD 0xFFFFFFFF) ++ leBytes 4 ((es.head?.map (fun e => e.seq)).getD 0xFFFFFFFF)
    ++ leBytes 2 es.length ++ leBytes 2 (kaField s 0x7E91 1) ++ zeros 232
/-- DBS_n (15 Table 15-6); INFLIGHT shows at most 4, also while an urgent request is taken beside four (log 123). -/
def dbsWord (p : TenantPort) : Nat :=
  b2n p.reqPend + b2n p.rspReady * 2 + b2n p.bulkDev * 4 + b2n p.evtLost * 8 + min 4 p.inflight * 16
/-- Doorbells: DB_n reads zero (15 Table 15-6). -/
def bellWindow (s : State) : List Byte :=
  zeros 64 ++ (List.range 16).flatMap (fun n => leBytes 4 (dbsWord (s.port n)))
    ++ (List.range 16).flatMap (fun n => leBytes 4 (b2n (s.port n).bulkHalf))
/-- MSI-X table and pending bits, over PCIe only (24 Table 24-5). -/
def msixWindow (s : State) : List Byte :=
  (List.range 16).flatMap (fun v =>
      let e := s.pcie.msix.getD v {}
      leBytes 4 e.addrLo ++ leBytes 4 e.addrHi ++ leBytes 4 e.data ++ leBytes 4 (b2n e.mask))
    ++ leBytes 8 (sumNat ((List.range 16).map (fun v => b2n (s.pcie.msix.getD v {}).pend * 2 ^ v)))
/-- Bytes of the register region. -/
def regBytes (s : State) (port : HostPort) (off n : Nat) : List Byte :=
  if off < 0x100 then sliceAt (identWindow s) off n
  else if off < 0x200 then sliceAt (readyWindow s) (off - 0x100) n
  else if off < 0x400 then sliceAt (intWindow s) (off - 0x200) n
  else if off < 0x1000 then sliceAt (bellWindow s) (off - 0x400) n
  else if port = .pcie then sliceAt (msixWindow s) (off - 0x1000) n
  else zeros n
/-- Bytes of a block region; no access crosses 256 bytes. -/
def blockBytes (s : State) (off n : Nat) : List Byte :=
  if off < 0x4000 then
    let p := s.port ((off - 0x2000) / 0x200)
    if off % 0x200 < 0x100 then memRead 0#8 p.req (off % 0x100) n else memRead 0#8 p.rsp (off % 0x100) n
  else if off < 0x4400 then sliceAt ((List.range 16).flatMap (fun c => fit 64 (rchan s c).snap)) (off - 0x4000) n
  else if off < 0x8000 then zeros n
  else
    let p := s.port ((off - 0x8000) / 0x800)
    memRead 0#8 p.bulk (b2n p.bulkHalf * 2048 + off % 0x800) n
/-- A read that the access rules allow (17 R396). -/
def readAllowed (off n : Nat) : Bool :=
  if off < 0x2000 then off % 4 == 0 && (n == 4 || n == 8) && decide (off + n ≤ 0x2000)
  else decide (1 ≤ n) && decide (n ≤ 256) && decide (off % 256 + n ≤ 256) && decide (off + n ≤ 0x10000)
/-- Bytes of the window. -/
def winBytes (s : State) (port : HostPort) (off n : Nat) : List Byte :=
  if off < 0x2000 then regBytes s port off 4 ++ (if n = 8 then regBytes s port (off + 4) 4 else []) else blockBytes s off n
/-- Number of a host port in a HOST_ACCESS entry (log 70). -/
def portNo : HostPort → Nat
  | .pcie => 0 | .shp => 1
/-- An access that breaks R396 is logged and changes nothing else. -/
def badAccess (s : State) (port : HostPort) (off : Nat) : State :=
  devFault s 0x0406 0 false (leBytes 1 (portNo port) ++ leBytes 4 off)

/-! ### Writes with an effect of their own -/

/-- The message is sent again where a write leaves the interrupt pending (17 R408). -/
def resend (s : State) (n : Nat) : State := if (s.port n).intWas && intPending s n then msixSend s n else s
/-- DB_n: RING submits the request; a ring while one is pending is ignored; an honoured URGENT request is taken at once (15 R359,
R360, R365). -/
def ring (s : State) (n w : Nat) : State :=
  if !s.sys.ctrlUp || !natBit w 0 || (s.port n).reqPend then s
  else
    let s := s.updPort n (fun p => { p with reqPend := true })
    if n = 0 then takeUrgent s else s
/-- DBS_n: clearing RSP_READY releases the message, and the bulk window where it was that message's (15 R358 to R360); a bit that
an event set at this moment stays set (00 R10). -/
def dbsClear (s : State) (n w : Nat) : State :=
  if !s.sys.ctrlUp then s
  else
    let s := s.updPort n (fun p =>
      let j := setNow s.now p
      let p := if natBit w 3 && !j.lost then { p with evtLost := false } else p
      if natBit w 1 && p.rspReady && !j.rsp then
        { p with rspReady := false, bulkDev := p.bulkDev && !p.rspOwnsBulk, rspOwnsBulk := false }
      else p)
    resend s n
/-- INT_STAT_n: REQ_TAKEN, and tenant 0's FAULT (17 Table 17-7, 00 R10). -/
def intClear (s : State) (n w : Nat) : State :=
  resend (s.updPort n (fun p =>
    let j := setNow s.now p
    { p with reqTaken := p.reqTaken && (!natBit w 1 || j.taken), faultInt := p.faultInt && (!(n == 0 && natBit w 9) || j.fault) })) n
/-- SNAP_STAT_n (00 R10). -/
def snapClear (s : State) (n w : Nat) : State :=
  resend (s.updPort n (fun p => { p with snapStat := clearFrom p.snapStat (clearFrom (w % 65536) (setNow s.now p).snap) })) n
/-- RDY_RISE or RDY_FALL, one word of the two (17 R407, 00 R10). -/
def rdyClear (s : State) (fall high : Bool) (w : Nat) : State :=
  let m := w % 2 ^ 32 * (if high then 2 ^ 32 else 1)
  let h := s.host
  let keep := fun (k : Nat) => if h.newAt = s.now then clearFrom m k else m
  if fall then { s with host := { h with rdyFall := clearFrom h.rdyFall (keep h.newFall) } }
  else { s with host := { h with rdyRise := clearFrom h.rdyRise (keep h.newRise) } }
/-- A vector is unmasked: its pending message is sent where the interrupt is still pending (17 R408). -/
def unmask (s : State) (v : Nat) : State :=
  let e := s.pcie.msix.getD v {}
  let was := e.pend
  let s := { s with pcie := { s.pcie with msix := modAt s.pcie.msix v (fun e => { e with mask := false, pend := e.pend && s.pcie.d3 }) } }
  if was && !s.pcie.d3 && intPending s v then msixSend s v else s
/-- One word of the MSI-X table (24 Table 24-5). -/
def msixWrite (s : State) (v i w : Nat) : State :=
  let put := fun (f : MsixEntry → MsixEntry) => { s with pcie := { s.pcie with msix := modAt s.pcie.msix v f } }
  if i = 0 then put (fun e => { e with addrLo := w / 4 * 4 })
  else if i = 1 then put (fun e => { e with addrHi := w })
  else if i = 2 then put (fun e => { e with data := w })
  else if natBit w 0 then put (fun e => { e with mask := true })
  else unmask s v
/-- A write of one register word; read-only fields, reserved bits and unassigned offsets ignore it (00 R8, 24 R523). -/
def regWrite (s : State) (port : HostPort) (off w : Nat) : State :=
  let n := off % 0x100 / 16
  if off = 0x108 then { s with host := { s.host with rdyIe := w % 2 ^ 27 } }
  else if off = 0x110 then rdyClear s false false w
  else if off = 0x114 then rdyClear s false true w
  else if off = 0x118 then rdyClear s true false w
  else if off = 0x11C then rdyClear s true true w
  else if 0x200 ≤ off && off < 0x300 then
    if off % 16 = 0 then intClear s n w
    else if off % 16 = 4 then s.updPort n (fun p => { p with intMask := w % 1024 })
    else if off % 16 = 8 then snapClear s n w
    else s.updPort n (fun p => { p with snapMask := w % 65536 })
  else if off = 0x300 then { s with host := { s.host with intnSel := w % 65536 } }
  else if off = 0x304 then { s with host := { s.host with intnEn := natBit w 0 } }
  else if 0x400 ≤ off && off < 0x440 then ring s ((off - 0x400) / 4) w
  else if 0x440 ≤ off && off < 0x480 then dbsClear s ((off - 0x440) / 4) w
  else if 0x480 ≤ off && off < 0x4C0 then
    if s.sys.ctrlUp then s.updPort ((off - 0x480) / 4) (fun p => { p with bulkHalf := natBit w 0 }) else s
  else if 0x1000 ≤ off && off < 0x1100 && port = .pcie then msixWrite s ((off - 0x1000) / 16) (off % 16 / 4) w
  else s
/-- Enabled bytes into a memory. -/
def putBytes (m : Mem) (k : Nat) : List (Bool × Byte) → Mem
  | [] => m
  | (e, b) :: l => putBytes (if e then memSet 0#8 m k b else m) (k + 1) l
/-- A write of a block: request mailboxes and bulk apertures, while CTRL is out of reset (02 R43, 24 Table 24-6). -/
def blockWrite (s : State) (off : Nat) (b : List (Bool × Byte)) : State :=
  if !s.sys.ctrlUp then s
  else if off < 0x4000 then
    if off % 0x200 < 0x100 then s.updPort ((off - 0x2000) / 0x200) (fun p => { p with req := putBytes p.req (off % 0x100) b }) else s
  else if off < 0x8000 then s
  else s.updPort ((off - 0x8000) / 0x800) (fun p => { p with bulk := putBytes p.bulk (b2n p.bulkHalf * 2048 + off % 0x800) b })
/-- A write that the access rules allow (17 R396). -/
def writeAllowed (off : Nat) (b : List (Bool × Byte)) : Bool :=
  if off < 0x2000 then off % 4 == 0 && b.length == 4 && b.all (fun e => e.1)
  else readAllowed off b.length
/-- A write of the window that the rules allow. -/
def winWrite (s : State) (port : HostPort) (off : Nat) (b : List (Bool × Byte)) : State :=
  if off < 0x2000 then regWrite s port off (ofLe (b.map (fun e => e.2))) else blockWrite s off b

end Sys2Proof.Machine
end

