-- ==== Sys2Proof/Machine/HostRows.lean ====
section
/-! DEFINITION. The host ports' rows: mailboxes, doorbells, interrupts, the PCIe function, BAR2, the serial host port (15 15.4, 17). -/

namespace Sys2Proof.Machine

/-! ### Mailboxes (15 R359, R364) -/

/-- DOORBELL_RING. -/
def execDoorbellRing (t : Nat) (n : Fin 16) (w : Word) (s : State) : Host.Outcome State Fault Refusal :=
  .next (chainRow t anyTime (fun s => ring s n.val w.toNat) s)
/-- REQUEST_TAKE: a pending ring is taken once the queue has room. -/
def execRequestTake (t : Nat) (n : Fin 16) (s : State) : Host.Outcome State Fault Refusal :=
  .next (chainRow t (fun s => mayTake s n.val) (fun s => takeNow s n.val) s)
/-- The message that MB_RSP_n takes next: responses first, then events, last the EVENT_LOST event of merged ones; with the port as
it is left. -/
def nextMessage (s : State) (p : TenantPort) : Option (Msg × TenantPort) :=
  match p.replies, p.events with
  | m :: ms, _ => some (m, { p with replies := ms, inflight := p.inflight - 1, rspOwnsBulk := m.owner })
  | [], e :: es => some (e, { p with events := es, rspOwnsBulk := false })
  | [], [] =>
    if p.lost = 0 then none
    else some ({ opcode := 0x01E1, flags := 4, tag := 0xFFFF, payload := leBytes 8 (tb s) ++ leBytes 4 p.lost },
      { p with lost := 0, rspOwnsBulk := false })
/-- More messages wait. -/
def moreWait (p : TenantPort) : Bool := !p.replies.isEmpty || !p.events.isEmpty || p.lost != 0
/-- The bytes of a message (15 Table 15-7). -/
def msgBytes (m : Msg) (more : Bool) (rseq : Nat) : List Byte :=
  leBytes 2 m.opcode ++ leBytes 1 (m.flags + b2n more * 8) ++ leBytes 1 m.status ++ leBytes 2 m.payload.length ++ leBytes 2 m.tag
    ++ leBytes 4 m.bulkLen ++ leBytes 1 m.reason ++ leBytes 1 m.clampN ++ leBytes 2 rseq ++ m.payload
/-- A reset that waits for its response counts from the moment RSP_READY is set (16 R379). -/
def armReset (s : State) (n : Nat) (m : Msg) : State :=
  if n = 0 && m.opcode = 0x0130 && m.status = 0 && s.foreman.resetReq.isSome then
    { s with foreman := { s.foreman with
        resetAt := s.foreman.resetReq.map (fun q => (q.1, s.now)), resetReq := none } }
  else s
/-- RESPONSE_DELIVER: the message is written, RSP_READY set. -/
def deliver (s : State) (n : Nat) : State :=
  let p := s.port n
  match nextMessage s p with
  | none => s
  | some (m, q) =>
    let k := (p.rseq + 1) % 65536
    let s := s.portSet n (fun _ => { q with
      rsp := memWrite 0#8 q.rsp 0 (msgBytes m (moreWait q) k), rspReady := true, rseq := k }) (fun j => { j with rsp := true })
    armReset s n m
/-- RESPONSE_DELIVER. -/
def execResponseDeliver (t : Nat) (n : Fin 16) (s : State) : Host.Outcome State Fault Refusal :=
  .next (chainRow t (fun s => s.sys.ctrlUp && !(s.port n.val).rspReady) (fun s => deliver s n.val) s)
/-- DBS_WRITE. -/
def execDbsWrite (t : Nat) (n : Fin 16) (w : Word) (s : State) : Host.Outcome State Fault Refusal :=
  .next (chainRow t anyTime (fun s => dbsClear s n.val w.toNat) s)

/-! ### Interrupts (17 R407, R408) -/

/-- INT_STAT_WRITE. -/
def execIntStatWrite (t : Nat) (n : Fin 16) (w : Word) (s : State) : Host.Outcome State Fault Refusal :=
  .next (chainRow t anyTime (fun s => intClear s n.val w.toNat) s)
/-- SNAP_STAT_WRITE. -/
def execSnapStatWrite (t : Nat) (n : Fin 16) (w : Word) (s : State) : Host.Outcome State Fault Refusal :=
  .next (chainRow t anyTime (fun s => snapClear s n.val w.toNat) s)
/-- RDY_W1C_WRITE. -/
def execRdyW1cWrite (t : Nat) (fall high : Bool) (w : Word) (s : State) : Host.Outcome State Fault Refusal :=
  .next (chainRow t anyTime (fun s => rdyClear s fall high w.toNat) s)
/-- MSIX_UNMASK. -/
def execMsixUnmask (t : Nat) (v : Fin 16) (s : State) : Host.Outcome State Fault Refusal :=
  .next (chainRow t anyTime (fun s => unmask s v.val) s)

/-! ### The PCIe function (17 17.2, 17.7) -/

/-- PCIE_CORE_CONFIGURED (17 R401). -/
def execPcieCoreConfigured (t : Nat) (s : State) : Host.Outcome State Fault Refusal :=
  .next (chainRow t (fun s => !s.pcie.configured) (fun s => { s with pcie := { s.pcie with configured := true, linkUp := true } }) s)
/-- CONVENTIONAL_RESET: the endpoint core, its configuration space and the MSI-X table, whatever caused it (17 R414). -/
def endpointReset (_ : ConvReset) (s : State) : State := { s with pcie := {} }
/-- CONVENTIONAL_RESET. -/
def execConventionalReset (t : Nat) (kind : ConvReset) (s : State) : Host.Outcome State Fault Refusal :=
  .next (chainRow t anyTime (endpointReset kind) s)
/-- FUNCTION_LEVEL_RESET (17 Table 17-8). -/
def flr (s : State) : State :=
  let s := { s with
    pcie := { linkUp := s.pcie.linkUp, configured := s.pcie.configured }
    host := { s.host with rdyIe := 0, rdyRise := 0, rdyFall := 0, intnSel := 1, intnEn := true }
    ports := s.ports.map (fun e => (e.1, { e.2 with reqTaken := false, faultInt := false, intMask := 0, snapStat := 0, snapMask := 0 })) }
  ctrlReset s
/-- FUNCTION_LEVEL_RESET. -/
def execFunctionLevelReset (t : Nat) (s : State) : Host.Outcome State Fault Refusal := .next (chainRow t (fun s => s.pcie.configured) flr s)
/-- PCIE_D0_RETURN: pending messages of unmasked vectors are sent where the interrupt is still pending (17 R408). -/
def d0Return (s : State) : State :=
  let s := { s with pcie := { s.pcie with d3 := false } }
  (List.range 16).foldl (fun s v =>
    let e := s.pcie.msix.getD v {}
    if e.pend && !e.mask then unmask s v else s) s
/-- PCIE_D0_RETURN. -/
def execPcieD0Return (t : Nat) (s : State) : Host.Outcome State Fault Refusal := .next (chainRow t (fun s => s.pcie.d3) d0Return s)
/-- Size of the BAR2 window: the variant's maximum DRAM (17 Table 17-2). -/
def bar2Size (s : State) : Nat := (match variantLimits s.sys.fuses.variant with
  | some l => l.getD 4 0
  | none => s.sys.fuses.dramMib) * 1048576
/-- What a configuration read shows of the identity: the vendor's assigned ID is not told, so it is free (17 Table 17-2). -/
def identity (s : State) (vendor : Nat) : List Byte :=
  leBytes 2 vendor ++ leBytes 2 (0x4800 + s.sys.fuses.variant) ++ leBytes 3 0x0B4000 ++ leBytes 8 s.sys.fuses.serial
/-- A configuration request to the configured endpoint; BAR1, BAR4 and BAR5 are not there. -/
def configDo (c : ConfigReq) (s : State) : State :=
  match c with
  | .read => let d := s.draw; d.2.emit (.readData .pcie (identity d.2 d.1))
  | .bar n v =>
    let w := v.toNat % 2 ^ 32
    let x := if n.val = 0 then w / 65536 * 65536
      else if n.val = 2 then w / bar2Size s * bar2Size s
      else if n.val = 3 then (let k := max 1 (bar2Size s / 2 ^ 32); w / k * k) else 0
    { s with pcie := { s.pcie with bars := s.pcie.bars.set n.val x } }
  | .command m i => { s with pcie := { s.pcie with memEn := m, intDisable := i } }
  | .msixEnable on => { s with pcie := { s.pcie with msixEn := on } }
  | .power d3hot => if d3hot then { s with pcie := { s.pcie with d3 := true } } else if s.pcie.d3 then d0Return s else s
/-- CONFIG_REQUEST: retry status until the core is configured (17 R401). -/
def configRequest (c : ConfigReq) (s : State) : State := if s.pcie.configured then configDo c s else s.emit .configRetry
/-- CONFIG_REQUEST. -/
def execConfigRequest (t : Nat) (c : ConfigReq) (s : State) : Host.Outcome State Fault Refusal :=
  .next (chainRow t anyTime (configRequest c) s)

/-! ### The window over PCIe (17 R396) -/

/-- Memory requests reach the function: configured, memory decoding on, in D0 (17 R399, Edges of 17.2). -/
def memDecoded (s : State) : Bool := s.pcie.configured && s.pcie.memEn && !s.pcie.d3
/-- A port reaches the window. -/
def portOpen (s : State) (port : HostPort) : Bool := port == .shp || memDecoded s
/-- WINDOW_READ. -/
def windowReadDo (port : HostPort) (off len : Nat) (s : State) : State :=
  if !portOpen s port then s.emit (.readError port)
  else if readAllowed off len then s.emit (.readData port (winBytes s port off len))
  else (badAccess s port off).emit (.readError port)
/-- WINDOW_READ. -/
def execWindowRead (t : Nat) (port : HostPort) (off len : Nat) (s : State) : Host.Outcome State Fault Refusal :=
  .next (chainRow t anyTime (windowReadDo port off len) s)
/-- REGISTER_WRITE. -/
def registerWriteDo (w : WinWrite) (s : State) : State :=
  if !portOpen s w.port then s.emit (.readError w.port)
  else if writeAllowed w.off w.data then winWrite s w.port w.off w.data
  else (badAccess s w.port w.off).emit (.readError w.port)
/-- REGISTER_WRITE. -/
def execRegisterWrite (t : Nat) (w : WinWrite) (s : State) : Host.Outcome State Fault Refusal :=
  .next (chainRow t anyTime (registerWriteDo w) s)

/-! ### BAR2 (17 R400, 10 R255) -/

/-- The dataset region that holds a BAR2 range, with its DRAM up: the tenant, the offset in the region, the DRAM address. -/
def datasetAt (s : State) (off n : Nat) : Option (Nat × Nat × Nat) :=
  s.foreman.datasets.findSome? (fun (e : Nat × Dataset) =>
    if e.2.bar2 ≤ off && decide (off + n ≤ e.2.bar2 + e.2.mib * 1048576) && dramUsable s (e.2.base + (off - e.2.bar2)) n then
      some (e.1, off - e.2.bar2, e.2.base + (off - e.2.bar2))
    else none)
/-- A BAR2 request is 1 to 256 bytes and crosses no 4 KiB boundary. -/
def bar2Allowed (off n : Nat) : Bool := decide (1 ≤ n) && decide (n ≤ 256) && decide (off % 4096 + n ≤ 4096)
/-- BAR2_STRAY. -/
def stray (s : State) (off : Nat) : State := devFault s 0x0407 0 false (leBytes 6 off)
/-- A write that lands in a range of a RUNNING or PAUSED job ends it at its next boundary (10 R255). -/
def touchJobs (s : State) (tenant ofs n : Nat) : State :=
  (s.sched.jobs.map (fun e => e.1)).foldl (fun s k => match jobOf s k with
    | some j =>
      if jobHeld j && j.tenant == tenant && (jobRanges j).any (fun r => decide (r.2 ≠ 0) && decide (r.1 < ofs + n) && decide (ofs < r.1 + r.2)) then
        jobBoundary (updJob s k (fun x => { x with dataChanged := true })) k
      else s
    | none => s) s
/-- A dataset write by either port. -/
def datasetWrite (s : State) (off : Nat) (data : List Byte) : State :=
  match datasetAt s off data.length with
  | some (tn, o, a) => touchJobs (dramWrite s a data) tn o data.length
  | none => stray s off
/-- A dataset read by either port: zeros where no region is, logged. -/
def datasetFetch (s : State) (off n : Nat) : List Byte × State :=
  match datasetAt s off n with
  | some (_, _, a) => (dramRead s a n, s)
  | none => (zeros n, stray s off)
/-- BAR2_WRITE. -/
def bar2WriteDo (off : Nat) (data : List Byte) (s : State) : State :=
  if !memDecoded s || !bar2Allowed off data.length then s.emit (.readError .pcie) else datasetWrite s off data
/-- BAR2_WRITE. -/
def execBar2Write (t : Nat) (off : Nat) (data : List Byte) (s : State) : Host.Outcome State Fault Refusal :=
  .next (chainRow t anyTime (bar2WriteDo off data) s)
/-- BAR2_READ. -/
def bar2ReadDo (off len : Nat) (s : State) : State :=
  if !memDecoded s || !bar2Allowed off len then s.emit (.readError .pcie)
  else
    let d := datasetFetch s off len
    d.2.emit (.readData .pcie d.1)
/-- BAR2_READ. -/
def execBar2Read (t : Nat) (off len : Nat) (s : State) : Host.Outcome State Fault Refusal :=
  .next (chainRow t anyTime (bar2ReadDo off len) s)

/-! ### The serial host port (17 17.3) -/

/-- OP: 0 READ, 1 WRITE. -/
def shpOp (f : ShpFrame) : Nat := f.cmd.toNat / 64
/-- SPACE is the dataset. -/
def shpDataset (f : ShpFrame) : Bool := natBit f.cmd.toNat 5
/-- Bytes that a frame moves. -/
def shpBytes (f : ShpFrame) : Nat := 4 * (f.len.toNat + 1)
/-- The bytes HCRC covers, as they are sent: CMD, ADDR most significant byte first, LEN (17 R403). -/
def shpHead (f : ShpFrame) : List Byte := f.cmd :: (leBytes 5 f.addr.toNat).reverse ++ [f.len]
/-- HCRC is the CRC of the header (17 R403). -/
def hcrcOk (f : ShpFrame) : Bool := f.hcrc.toNat == crc16 (shpHead f)
/-- DCRC is the CRC of the data bytes alone (17 R403). -/
def dcrcOk (f : ShpFrame) : Bool := f.data.length == shpBytes f && f.dcrc.toNat == crc16 f.data
/-- Data with their DCRC, high byte first, as the device drives them (17 Table 17-3, R403). -/
def withDcrc (b : List Byte) : List Byte := b ++ (leBytes 2 (crc16 b)).reverse
/-- A frame's header is rejected: OP, the low nibble, alignment, length. -/
def shpHeadBad (f : ShpFrame) : Bool :=
  decide (1 < shpOp f) || f.cmd.toNat % 16 != 6 || f.addr.toNat % 4 != 0 || decide (63 < f.len.toNat)
/-- The access rules of a frame's space are kept. -/
def shpAllowed (f : ShpFrame) : Bool :=
  if shpDataset f then decide (f.addr.toNat % 4096 + shpBytes f ≤ 4096)
  else if shpOp f = 1 then writeAllowed f.addr.toNat (List.replicate (shpBytes f) (true, 0#8))
  else readAllowed f.addr.toNat (shpBytes f)
/-- NAK_ACCESS; a breach of the window's rules is logged (17 R396). -/
def shpNak (s : State) (f : ShpFrame) : State :=
  (if shpDataset f || shpHeadBad f then s else badAccess s .shp f.addr.toNat).emit (.shp 0x69 [])
/-- A write that HCRC and the access rules let through: applied where DCRC passes. -/
def shpPut (f : ShpFrame) (s : State) : State :=
  if !dcrcOk f then s.emit (.shp 0x96 [])
  else
    (if shpDataset f then datasetWrite s f.addr.toNat f.data
     else winWrite s .shp f.addr.toNat (f.data.map (fun x => (true, x)))).emit (.shp 0xA5 [])
/-- A read that HCRC and the access rules let through. -/
def shpGet (f : ShpFrame) (s : State) : State :=
  if shpDataset f then
    let d := datasetFetch s f.addr.toNat (shpBytes f)
    d.2.emit (.shp 0xA5 (withDcrc d.1))
  else s.emit (.shp 0xA5 (withDcrc (winBytes s .shp f.addr.toNat (shpBytes f))))
/-- What a frame does (17 R404): one that is not whole changes nothing. -/
def shpDo (f : ShpFrame) (s : State) : State :=
  if !f.complete then s
  else if !hcrcOk f then s.emit (.shp 0xC3 [])
  else if shpHeadBad f || !shpAllowed f then shpNak s f
  else if shpOp f = 1 then shpPut f s
  else shpGet f s
/-- SHP_READ: a frame whose OP is not WRITE. -/
def execShpRead (t : Nat) (f : ShpFrame) (s : State) : Host.Outcome State Fault Refusal :=
  .next (chainRow t (fun _ => shpOp f != 1) (shpDo f) s)
/-- SHP_WRITE: a frame whose OP is not READ. -/
def execShpWrite (t : Nat) (f : ShpFrame) (s : State) : Host.Outcome State Fault Refusal :=
  .next (chainRow t (fun _ => shpOp f != 0) (shpDo f) s)

end Sys2Proof.Machine
end

