-- ==== Sys2Proof/Machine/RumbeLink.lean ====
section
/-! DEFINITION. The Rumbe commands (03, 04, 05, 06, 24.8): each lifts a step of one Rumbe to the block. -/

namespace Sys2Proof.Machine

/-- A REG_WRITE that the device takes and that changes word `a` as `p` says; another REG_WRITE is no step of the row. -/
def rxWriteOf (x : Rx) (a : Nat) (p : Rumbe → Nat → Bool) (c : RCtx) : RCtx :=
  match writeValue x a with
  | some v => if writeTakes c.r x && p c.r v then rxRegWrite c x else c
  | none => c
/-- An urgent frame no other row takes: a reserved code, or a low nibble other than 0b1010 (06 R129). -/
def reservedUrgent (bs : List Byte) : Bool :=
  byteAt bs 0 % 16 != 10 || !([1, 2, 8, 9, 10] : List Nat).contains (ucode bs)
/-- MODID_STATE_CHANGE: what the commit left due (03 R70). -/
def modidChangeDo (c : RCtx) : RCtx :=
  match c.r.due.find? (fun d => match d with | .modid _ => true | _ => false) with
  | some d => fireOne c d
  | none => c

/-- RUMBE_POR (00 R12). -/
def execRumbePor (t : Nat) (d : Dev) (s : State) : Host.Outcome State Fault Refusal :=
  .next (onRumbe t d (porDo) s)
/-- SWEEP (03 R55). -/
def execSweep (t : Nat) (d : Dev) (r : Rx) (s : State) : Host.Outcome State Fault Refusal :=
  .next (onRumbe t d (fun c => rxSweep c r) s)
/-- SWEEP_START (03 R55, R56). -/
def execSweepStart (t : Nat) (d : Dev) (s : State) : Host.Outcome State Fault Refusal :=
  .next (onRumbe t d (sweepStartDo) s)
/-- SWEEP_COMMIT (03 R71). -/
def execSweepCommit (t : Nat) (d : Dev) (m : Readings) (s : State) : Host.Outcome State Fault Refusal :=
  .next (onRumbe t d (sweepCommitDo m) s)
/-- CELL_ALARM_ASSERT (03 R62, R64). -/
def execCellAlarmAssert (t : Nat) (d : Dev) (cell : Fin 18) (k : AlarmKind) (s : State) : Host.Outcome State Fault Refusal :=
  .next (onRumbe t d (fun c => fireOne c (.assert cell.val k)) s)
/-- CELL_ALARM_CLEAR (03 R62). -/
def execCellAlarmClear (t : Nat) (d : Dev) (cell : Fin 18) (k : AlarmKind) (s : State) : Host.Outcome State Fault Refusal :=
  .next (onRumbe t d (fun c => fireOne c (.clear cell.val k)) s)
/-- MEAS_FAULT_LATCH (03 R60). -/
def execMeasFaultLatch (t : Nat) (d : Dev) (s : State) : Host.Outcome State Fault Refusal :=
  .next (onRumbe t d (fun c => fireOne c .measFault) s)
/-- MODID_STATE_CHANGE (03 R70). -/
def execModidStateChange (t : Nat) (d : Dev) (s : State) : Host.Outcome State Fault Refusal :=
  .next (onRumbe t d (modidChangeDo) s)
/-- BAL_IDLE_END (05 R113). -/
def execBalIdleEnd (t : Nat) (d : Dev) (s : State) : Host.Outcome State Fault Refusal :=
  .next (onRumbe t d (balIdleEndDo) s)
/-- LATE_SWEEP (06 R149). -/
def execLateSweep (t : Nat) (d : Dev) (r : Rx) (s : State) : Host.Outcome State Fault Refusal :=
  .next (onRumbe t d (fun c => rxLateSweep c r) s)
/-- COLLECT (06 R144). -/
def execCollect (t : Nat) (d : Dev) (r : Rx) (s : State) : Host.Outcome State Fault Refusal :=
  .next (onRumbe t d (fun c => rxCollect c r) s)
/-- RECORD_SEND (06 R144). -/
def execRecordSend (t : Nat) (d : Dev) (s : State) : Host.Outcome State Fault Refusal :=
  .next (onRumbe t d (recordSendDo) s)
/-- READ_RECORD (03 R73). -/
def execReadRecord (t : Nat) (d : Dev) (r : Rx) (s : State) : Host.Outcome State Fault Refusal :=
  .next (onRumbe t d (fun c => rxReadRecord c r) s)
/-- REG_READ (24 R532). -/
def execRegRead (t : Nat) (d : Dev) (r : Rx) (s : State) : Host.Outcome State Fault Refusal :=
  .next (onRumbe t d (fun c => rxRegRead c r) s)
/-- REG_WRITE (24 R533). -/
def execRegWrite (t : Nat) (d : Dev) (r : Rx) (s : State) : Host.Outcome State Fault Refusal :=
  .next (onRumbe t d (fun c => rxRegWrite c r) s)
/-- HEAD_EN_SET: a REG_WRITE that sets HEAD_EN (04 R538). -/
def execHeadEnSet (t : Nat) (d : Dev) (r : Rx) (s : State) : Host.Outcome State Fault Refusal :=
  .next (onRumbe t d (rxWriteOf r 0x20 (fun q v => v % 2 == 1 && !q.head.headEn)) s)
/-- HEAD_EN_CLEAR: a REG_WRITE that clears HEAD_EN (04 R538). -/
def execHeadEnClear (t : Nat) (d : Dev) (r : Rx) (s : State) : Host.Outcome State Fault Refusal :=
  .next (onRumbe t d (rxWriteOf r 0x20 (fun q v => v % 2 == 0 && q.head.headEn)) s)
/-- SHUNT_CHANGE: a REG_WRITE of a new SHUNT (04 R83). -/
def execShuntChange (t : Nat) (d : Dev) (r : Rx) (s : State) : Host.Outcome State Fault Refusal :=
  .next (onRumbe t d (rxWriteOf r 0x22 (fun q v => v != q.head.shunt)) s)
/-- DEV_ID_WRITE: a REG_WRITE of DEV_ID (03 R70). -/
def execDevIdWrite (t : Nat) (d : Dev) (r : Rx) (s : State) : Host.Outcome State Fault Refusal :=
  .next (onRumbe t d (rxWriteOf r 6 (fun _ _ => true)) s)
/-- T_COMM_WRITE: a REG_WRITE of T_COMM (06 R137). -/
def execTCommWrite (t : Nat) (d : Dev) (r : Rx) (s : State) : Host.Outcome State Fault Refusal :=
  .next (onRumbe t d (rxWriteOf r 9 (fun _ _ => true)) s)
/-- VAUX_EN_SET: a REG_WRITE that sets VAUX_EN (04 R98). -/
def execVauxEnSet (t : Nat) (d : Dev) (r : Rx) (s : State) : Host.Outcome State Fault Refusal :=
  .next (onRumbe t d (rxWriteOf r 0x2A (fun q v => v % 2 == 1 && !q.head.vauxEn)) s)
/-- VAUX_EN_CLEAR: a REG_WRITE that clears VAUX_EN (04 R100). -/
def execVauxEnClear (t : Nat) (d : Dev) (r : Rx) (s : State) : Host.Outcome State Fault Refusal :=
  .next (onRumbe t d (rxWriteOf r 0x2A (fun q v => v % 2 == 0 && q.head.vauxEn)) s)
/-- BAL_EN_CLEAR: a REG_WRITE that clears BAL_EN (05 R108). -/
def execBalEnClear (t : Nat) (d : Dev) (r : Rx) (s : State) : Host.Outcome State Fault Refusal :=
  .next (onRumbe t d (rxWriteOf r 0x30 (fun q v => v % 2 == 0 && q.balSet.en)) s)
/-- ENUMERATE (06 R134). -/
def execEnumerate (t : Nat) (d : Dev) (r : Rx) (s : State) : Host.Outcome State Fault Refusal :=
  .next (onRumbe t d (fun c => rxEnumerate c r) s)
/-- GATE_OPEN (04 R91). -/
def execGateOpen (t : Nat) (d : Dev) (r : Rx) (s : State) : Host.Outcome State Fault Refusal :=
  .next (onRumbe t d (fun c => rxGate c r 0 gateOpenDo) s)
/-- GATE_CLOSE (04 R88). -/
def execGateClose (t : Nat) (d : Dev) (r : Rx) (s : State) : Host.Outcome State Fault Refusal :=
  .next (onRumbe t d (fun c => rxGate c r 1 (gateMoveDo .closed)) s)
/-- GATE_CHG_ONLY (04 R88). -/
def execGateChgOnly (t : Nat) (d : Dev) (r : Rx) (s : State) : Host.Outcome State Fault Refusal :=
  .next (onRumbe t d (fun c => rxGate c r 2 (gateMoveDo .chgOnly)) s)
/-- GATE_DSG_ONLY (04 R88). -/
def execGateDsgOnly (t : Nat) (d : Dev) (r : Rx) (s : State) : Host.Outcome State Fault Refusal :=
  .next (onRumbe t d (fun c => rxGate c r 3 (gateMoveDo .dsgOnly)) s)
/-- BALANCE_APPEND (05 R105). -/
def execBalanceAppend (t : Nat) (d : Dev) (r : Rx) (s : State) : Host.Outcome State Fault Refusal :=
  .next (onRumbe t d (fun c => rxBalance c r false) s)
/-- BALANCE_REPLACE (05 R105). -/
def execBalanceReplace (t : Nat) (d : Dev) (r : Rx) (s : State) : Host.Outcome State Fault Refusal :=
  .next (onRumbe t d (fun c => rxBalance c r true) s)
/-- BAL_STOP (05 R108). -/
def execBalStop (t : Nat) (d : Dev) (r : Rx) (s : State) : Host.Outcome State Fault Refusal :=
  .next (onRumbe t d (fun c => rxControl c r 1 (fun _ => true) (fun _ => balStopDo)) s)
/-- FAULT_CLEAR (04 R92). -/
def execFaultClear (t : Nat) (d : Dev) (r : Rx) (s : State) : Host.Outcome State Fault Refusal :=
  .next (onRumbe t d (fun c => rxControl c r 2 (fun _ => true) (fun _ => faultClearDo)) s)
/-- SOFT_RESET (06 R128). -/
def execSoftReset (t : Nat) (d : Dev) (r : Rx) (s : State) : Host.Outcome State Fault Refusal :=
  .next (onRumbe t d (fun c => rxControl c r 3 (fun a => a == 0x5A) (fun _ => softResetDo (broadcast r))) s)
/-- SOFT_RESET_EXECUTE (00 R12). -/
def execSoftResetExecute (t : Nat) (d : Dev) (repeating : Bool) (s : State) : Host.Outcome State Fault Refusal :=
  .next (onRumbe t d (softDo repeating) s)
/-- MODID_ACK (03 R70). -/
def execModidAck (t : Nat) (d : Dev) (r : Rx) (s : State) : Host.Outcome State Fault Refusal :=
  .next (onRumbe t d (fun c => rxControl c r 4 (fun _ => true) (fun _ => modidAckDo)) s)
/-- CLEAR_ID (06 R128). -/
def execClearId (t : Nat) (d : Dev) (r : Rx) (s : State) : Host.Outcome State Fault Refusal :=
  .next (onRumbe t d (fun c => rxControl c r 5 (fun _ => true) (fun _ => clearIdDo)) s)
/-- ASP_RELEASE (06 R148). -/
def execAspRelease (t : Nat) (d : Dev) (r : Rx) (s : State) : Host.Outcome State Fault Refusal :=
  .next (onRumbe t d (fun c => rxControl c r 6 (fun _ => true) (fun _ => aspReleaseDo)) s)
/-- PORT_CUT (06 R155). -/
def execPortCut (t : Nat) (d : Dev) (r : Rx) (s : State) : Host.Outcome State Fault Refusal :=
  .next (onRumbe t d (fun c => rxControl c r 7 (fun a => decide (a < 2)) (portCutDo true)) s)
/-- PORT_RESTORE (06 R155). -/
def execPortRestore (t : Nat) (d : Dev) (r : Rx) (s : State) : Host.Outcome State Fault Refusal :=
  .next (onRumbe t d (fun c => rxControl c r 8 (fun a => decide (a < 2)) (portCutDo false)) s)
/-- SLEEP (06 R157). -/
def execSleep (t : Nat) (d : Dev) (r : Rx) (s : State) : Host.Outcome State Fault Refusal :=
  .next (onRumbe t d (fun c => rxControl c r 9 (fun _ => true) (fun _ => sleepDo)) s)
/-- RING_TEST (06 R128). -/
def execRingTest (t : Nat) (d : Dev) (r : Rx) (s : State) : Host.Outcome State Fault Refusal :=
  .next (onRumbe t d (fun c => rxControl c r 10 (fun _ => true) (fun _ c => (c, 0))) s)
/-- RESERVED_FRAME: a frame that is repeated and no more, the responses of other Rumbes among them (06 R127, R130). -/
def execReservedFrame (t : Nat) (d : Dev) (r : Rx) (s : State) : Host.Outcome State Fault Refusal :=
  .next (onRumbe t d (fun c => rxRepeatOnly c r) s)
/-- EOPEN (06 R129). -/
def execEopen (t : Nat) (d : Dev) (u : URx) (s : State) : Host.Outcome State Fault Refusal :=
  .next (onRumbe t d (fun c => rxUrgentCode c u 1 eopenDo) s)
/-- STR_OPEN (06 R129). -/
def execStrOpen (t : Nat) (d : Dev) (u : URx) (s : State) : Host.Outcome State Fault Refusal :=
  .next (onRumbe t d (fun c => rxUrgentCode c u 2 (strOpenDo (byteAt u.bytes 2))) s)
/-- ALARM_CELL (06 R148). -/
def execAlarmCell (t : Nat) (d : Dev) (u : URx) (s : State) : Host.Outcome State Fault Refusal :=
  .next (onRumbe t d (fun c => rxUrgentCode c u 8 (alarmRxDo (byteAt u.bytes 2))) s)
/-- ALARM_MEAS (06 R148). -/
def execAlarmMeas (t : Nat) (d : Dev) (u : URx) (s : State) : Host.Outcome State Fault Refusal :=
  .next (onRumbe t d (fun c => rxUrgentCode c u 9 (alarmRxDo (byteAt u.bytes 2))) s)
/-- ALARM_TRIP (06 R129). -/
def execAlarmTrip (t : Nat) (d : Dev) (u : URx) (s : State) : Host.Outcome State Fault Refusal :=
  .next (onRumbe t d (fun c => rxUrgentCode c u 10 id) s)
/-- RESERVED_URGENT_CODE (06 R129). -/
def execReservedUrgentCode (t : Nat) (d : Dev) (u : URx) (s : State) : Host.Outcome State Fault Refusal :=
  .next (onRumbe t d (fun c => if reservedUrgent u.bytes then rxUrgent c u id else c) s)
/-- URGENT_QUEUE_SEND (06 R132). -/
def execUrgentQueueSend (t : Nat) (d : Dev) (port : RPort) (idle : Bool) (s : State) :
    Host.Outcome State Fault Refusal :=
  .next (onRumbe t d (urgentQueueDo port idle) s)
/-- FRAME_RESEND (06 R122). -/
def execFrameResend (t : Nat) (d : Dev) (port : RPort) (idle : Bool) (s : State) :
    Host.Outcome State Fault Refusal :=
  .next (onRumbe t d (frameResendDo port idle) s)
/-- T_COMM_EXPIRY (05 R117, 06 R156). -/
def execTCommExpiry (t : Nat) (d : Dev) (s : State) : Host.Outcome State Fault Refusal :=
  .next (onRumbe t d (commExpireDo) s)
/-- SLEEP_ENTER (06 R157). -/
def execSleepEnter (t : Nat) (d : Dev) (s : State) : Host.Outcome State Fault Refusal :=
  .next (onRumbe t d (sleepEnterDo) s)
/-- WAKE_DETECT (06 R158). -/
def execWakeDetect (t : Nat) (d : Dev) (port : RPort) (s : State) : Host.Outcome State Fault Refusal :=
  .next (onRumbe t d (wakeDetectDo port) s)
/-- WAKE_READY (06 R158). -/
def execWakeReady (t : Nat) (d : Dev) (s : State) : Host.Outcome State Fault Refusal :=
  .next (onRumbe t d (wakeReadyDo) s)
/-- MODULATOR_SETTLE (04 R538). -/
def execModulatorSettle (t : Nat) (d : Dev) (s : State) : Host.Outcome State Fault Refusal :=
  .next (onRumbe t d (modSettleDo) s)
/-- CURRENT_INTERVAL (04 R79). -/
def execCurrentInterval (t : Nat) (d : Dev) (hg : Int) (lg : Int) (hgOver : Bool) (lgOver : Bool) (s : State) : Host.Outcome State Fault Refusal :=
  .next (onRumbe t d (intervalDo hg lg hgOver lgOver) s)
/-- RANGE_TO_HG (04 R79). -/
def execRangeToHg (t : Nat) (d : Dev) (s : State) : Host.Outcome State Fault Refusal :=
  .next (onRumbe t d (fun c => fireOne c .rangeHg) s)
/-- CAL_FROZEN (04 R82). -/
def execCalFrozen (t : Nat) (d : Dev) (s : State) : Host.Outcome State Fault Refusal :=
  .next (onRumbe t d (fun c => fireOne c .calFrozen) s)
/-- CUR_FAULT_LATCH (04 R82). -/
def execCurFaultLatch (t : Nat) (d : Dev) (s : State) : Host.Outcome State Fault Refusal :=
  .next (onRumbe t d (fun c => fireOne c .curFault) s)
/-- SC_TRIP (04 R95). -/
def execScTrip (t : Nat) (d : Dev) (uv : Int) (ns : Nat) (s : State) : Host.Outcome State Fault Refusal :=
  .next (onRumbe t d (scTripDo uv ns) s)
/-- RAMP_WATCH_TRIP (04 R97). -/
def execRampWatchTrip (t : Nat) (d : Dev) (k : RampTrip) (s : State) : Host.Outcome State Fault Refusal :=
  .next (onRumbe t d (rampTripDo k) s)
/-- PRECHARGE_DONE (04 R89). -/
def execPrechargeDone (t : Nat) (d : Dev) (s : State) : Host.Outcome State Fault Refusal :=
  .next (onRumbe t d (prechargeDoneDo) s)
/-- PRECHARGE_TIMEOUT (04 R89). -/
def execPrechargeTimeout (t : Nat) (d : Dev) (s : State) : Host.Outcome State Fault Refusal :=
  .next (onRumbe t d (prechargeTimeoutDo) s)
/-- RAMP_DONE (04 R90). -/
def execRampDone (t : Nat) (d : Dev) (chgMv dsgMv : Nat) (s : State) : Host.Outcome State Fault Refusal :=
  .next (onRumbe t d (rampDoneDo chgMv dsgMv) s)
/-- CONTACTOR_RAMP_END (04 R93). -/
def execContactorRampEnd (t : Nat) (d : Dev) (s : State) : Host.Outcome State Fault Refusal :=
  .next (onRumbe t d (contactorEndDo) s)
/-- PCHG_OFF (04 R90). -/
def execPchgOff (t : Nat) (d : Dev) (s : State) : Host.Outcome State Fault Refusal :=
  .next (onRumbe t d (pchgOffDo) s)
/-- RAMP_TIMEOUT (04 R90). -/
def execRampTimeout (t : Nat) (d : Dev) (s : State) : Host.Outcome State Fault Refusal :=
  .next (onRumbe t d (rampTimeoutDo) s)
/-- PUMP_UV (04 R90). -/
def execPumpUv (t : Nat) (d : Dev) (chgMv dsgMv ns : Nat) (s : State) : Host.Outcome State Fault Refusal :=
  .next (onRumbe t d (pumpUvDo chgMv dsgMv ns) s)
/-- VAUX_SOFT_START_CHECK (04 R99). -/
def execVauxSoftStartCheck (t : Nat) (d : Dev) (mv : Nat) (s : State) : Host.Outcome State Fault Refusal :=
  .next (onRumbe t d (vauxCheckDo mv) s)
/-- VAUX_UNDERVOLTAGE (04 R99). -/
def execVauxUndervoltage (t : Nat) (d : Dev) (mv : Nat) (s : State) : Host.Outcome State Fault Refusal :=
  .next (onRumbe t d (vauxUvDo mv) s)
/-- VAUX_RETRY (04 R99). -/
def execVauxRetry (t : Nat) (d : Dev) (s : State) : Host.Outcome State Fault Refusal :=
  .next (onRumbe t d (vauxRetryDo) s)
/-- VAUX_RETRY_RESET (04 R99). -/
def execVauxRetryReset (t : Nat) (d : Dev) (mv : Nat) (s : State) : Host.Outcome State Fault Refusal :=
  .next (onRumbe t d (vauxRetryResetDo mv) s)
/-- VAUX_THERMAL_SHUTDOWN (04 R100). -/
def execVauxThermalShutdown (t : Nat) (d : Dev) (tj : Int) (s : State) : Host.Outcome State Fault Refusal :=
  .next (onRumbe t d (vauxThermalDo tj) s)
/-- BAL_TRANSFER_START (05 R103). -/
def execBalTransferStart (t : Nat) (d : Dev) (s : State) : Host.Outcome State Fault Refusal :=
  .next (onRumbe t d (balStartDo) s)
/-- BAL_CHECK_DONE (05 R103). -/
def execBalCheckDone (t : Nat) (d : Dev) (busMv : Int) (s : State) : Host.Outcome State Fault Refusal :=
  .next (onRumbe t d (balCheckDo busMv) s)
/-- BAL_CYCLE (05 R107). -/
def execBalCycle (t : Nat) (d : Dev) (bcsUv tPri tSec : Nat) (tDie : Int) (s : State) : Host.Outcome State Fault Refusal :=
  .next (onRumbe t d (balCycleDo bcsUv tPri tSec tDie) s)
/-- BAL_TIMEOUT (05 R116). -/
def execBalTimeout (t : Nat) (d : Dev) (s : State) : Host.Outcome State Fault Refusal :=
  .next (onRumbe t d (balTimeoutDo) s)
/-- BAL_OVERTEMP (05 R114). -/
def execBalOvertemp (t : Nat) (d : Dev) (tDie : Int) (s : State) : Host.Outcome State Fault Refusal :=
  .next (onRumbe t d (balOvertempDo tDie) s)
/-- BAL_PRI_OC (05 R116). -/
def execBalPriOc (t : Nat) (d : Dev) (bcsUv ns : Nat) (s : State) : Host.Outcome State Fault Refusal :=
  .next (onRumbe t d (balPriOcDo bcsUv ns) s)
/-- BAL_MODULE_V (05 R115). -/
def execBalModuleV (t : Nat) (d : Dev) (mv : Nat) (s : State) : Host.Outcome State Fault Refusal :=
  .next (onRumbe t d (balModuleDo mv) s)

end Sys2Proof.Machine
end

