-- ==== Sys2Proof/Machine/TileArms.lean ====
section
/-! DEFINITION. The tile operations and the events of a tile (08, 09): one meaning for each row. -/

namespace Sys2Proof.Machine

/-- A K operation on source, second source and immediate (09 Table 9-4). -/
def kOp (f : Nat → Nat → Nat → Nat) (e : TEnv) : TRes := kResult e f
/-- RDLC: the loop counter of field [43:42]. -/
def opRdlc (e : TEnv) : TRes := kResult e (fun _ _ _ => lReg e.run (field e.word 42 2))
/-- EXTU: bits msb down to lsb. -/
def opExtu (e : TEnv) : TRes :=
  let hi := field e.word 37 5
  let lo := field e.word 32 5
  kResult e (fun x _ _ => if hi < lo then 0 else field x lo (hi - lo + 1))
/-- DRAW whose slot must be declared (12 R300). -/
def drawDo (tile : Nat) (ecc : Ecc) (s : State) : State :=
  if !(slotOpen s tile 0 && slotIs s tile 0 1) then s
  else
    match (landDue s tile).tile tile |>.run with
    | none => s
    | some r =>
      let w := slotWord (s.tile tile).kstore r.pc 0
      let xs := field w 36 4
      let k := if xs = 0 then 0 else xReg r xs % 8
      if (findSlot (tblFind? s.sched.active tile) (field w 40 8) k (field w 0 16 / 256)).isNone then abortTile (landDue s tile) tile .illegalOp (some 0)
      else issueMem tile 0 1 ecc opDraw s

/-- NOP: opcode 0x00 of a slot (08 R189). -/
def execNop (tile : Fin 64) (slot : Slot) (parity : Bool) (s : State) : Host.Outcome State Fault Refusal :=
  .next (tileStep (nopDo tile.val (slotRank slot) parity) s)
/-- LOOP (08 R194, R195). -/
def execLoop (tile : Fin 64) (s : State) : Host.Outcome State Fault Refusal :=
  .next (tileStep (loopDo tile.val) s)
/-- WAITIN (09 R219). -/
def execWaitin (tile : Fin 64) (s : State) : Host.Outcome State Fault Refusal :=
  .next (tileStep (waitinDo tile.val) s)
/-- ENDSTEP (08 R207). -/
def execEndstep (tile : Fin 64) (s : State) : Host.Outcome State Fault Refusal :=
  .next (tileStep (endstepDo tile.val) s)
/-- BARRIER (09 R220). -/
def execBarrier (tile : Fin 64) (s : State) : Host.Outcome State Fault Refusal :=
  .next (tileStep (barrierDo tile.val) s)
/-- LEASE (08 R202, 09 R221). -/
def execLease (tile : Fin 64) (s : State) : Host.Outcome State Fault Refusal :=
  .next (tileStep (leaseDo tile.val) s)
/-- RELEASE (09 R221). -/
def execRelease (tile : Fin 64) (s : State) : Host.Outcome State Fault Refusal :=
  .next (tileStep (releaseDo tile.val) s)
/-- K ADD (09 R222). -/
def execKAdd (tile : Fin 64) (s : State) : Host.Outcome State Fault Refusal :=
  .next (tileStep (issueOp tile.val 6 1 (kOp (fun s t _ => s + t))) s)
/-- K SUB (09 R222). -/
def execKSub (tile : Fin 64) (s : State) : Host.Outcome State Fault Refusal :=
  .next (tileStep (issueOp tile.val 6 2 (kOp (fun s t _ => s + (4294967296 - t)))) s)
/-- AND (09 R222). -/
def execAnd (tile : Fin 64) (s : State) : Host.Outcome State Fault Refusal :=
  .next (tileStep (issueOp tile.val 6 3 (kOp (fun s t _ => s &&& t))) s)
/-- OR (09 R222). -/
def execOr (tile : Fin 64) (s : State) : Host.Outcome State Fault Refusal :=
  .next (tileStep (issueOp tile.val 6 4 (kOp (fun s t _ => s ||| t))) s)
/-- XOR (09 R222). -/
def execXor (tile : Fin 64) (s : State) : Host.Outcome State Fault Refusal :=
  .next (tileStep (issueOp tile.val 6 5 (kOp (fun s t _ => s ^^^ t))) s)
/-- ADDI (09 R222). -/
def execAddi (tile : Fin 64) (s : State) : Host.Outcome State Fault Refusal :=
  .next (tileStep (issueOp tile.val 6 6 (kOp (fun s _ i => s + i))) s)
/-- SHLI (09 R222). -/
def execShli (tile : Fin 64) (s : State) : Host.Outcome State Fault Refusal :=
  .next (tileStep (issueOp tile.val 6 7 (kOp (fun s _ i => s * 2 ^ (i % 32)))) s)
/-- SHRI (09 R222). -/
def execShri (tile : Fin 64) (s : State) : Host.Outcome State Fault Refusal :=
  .next (tileStep (issueOp tile.val 6 8 (kOp (fun s _ i => s / 2 ^ (i % 32)))) s)
/-- SARI (09 R222). -/
def execSari (tile : Fin 64) (s : State) : Host.Outcome State Fault Refusal :=
  .next (tileStep (issueOp tile.val 6 9 (kOp (fun s _ i => pattern 32 (signed 32 s / 2 ^ (i % 32))))) s)
/-- MOVI (09 R222). -/
def execMovi (tile : Fin 64) (s : State) : Host.Outcome State Fault Refusal :=
  .next (tileStep (issueOp tile.val 6 10 (kOp (fun _ _ i => i))) s)
/-- MULI (09 R222). -/
def execMuli (tile : Fin 64) (s : State) : Host.Outcome State Fault Refusal :=
  .next (tileStep (issueOp tile.val 6 11 (kOp (fun s _ i => s * i))) s)
/-- RDLC (09 R222). -/
def execRdlc (tile : Fin 64) (s : State) : Host.Outcome State Fault Refusal :=
  .next (tileStep (issueOp tile.val 6 12 opRdlc) s)
/-- EXTU (09 R222). -/
def execExtu (tile : Fin 64) (s : State) : Host.Outcome State Fault Refusal :=
  .next (tileStep (issueOp tile.val 6 13 opExtu) s)
/-- LDP (09 R223). -/
def execLdp (tile : Fin 64) (ecc : Ecc) (s : State) : Host.Outcome State Fault Refusal :=
  .next (tileStep (issueMem tile.val 5 1 ecc opLdp) s)
/-- LDPR (09 R223). -/
def execLdpr (tile : Fin 64) (ecc : Ecc) (s : State) : Host.Outcome State Fault Refusal :=
  .next (tileStep (issueMem tile.val 5 2 ecc opLdpr) s)
/-- LDW (09 R223). -/
def execLdw (tile : Fin 64) (ecc : Ecc) (s : State) : Host.Outcome State Fault Refusal :=
  .next (tileStep (issueMem tile.val 5 3 ecc opLdw) s)
/-- LDPW (09 R223). -/
def execLdpw (tile : Fin 64) (ecc : Ecc) (s : State) : Host.Outcome State Fault Refusal :=
  .next (tileStep (issueMem tile.val 5 4 ecc opLdpw) s)
/-- STP (09 R223). -/
def execStp (tile : Fin 64) (s : State) : Host.Outcome State Fault Refusal :=
  .next (tileStep (issueOp tile.val 4 1 opStp) s)
/-- STPR (09 R223). -/
def execStpr (tile : Fin 64) (s : State) : Host.Outcome State Fault Refusal :=
  .next (tileStep (issueOp tile.val 4 2 opStpr) s)
/-- MACV (09 R226). -/
def execMacv (tile : Fin 64) (s : State) : Host.Outcome State Fault Refusal :=
  .next (tileStep (issueOp tile.val 3 1 (opM true false)) s)
/-- MACB (09 R226). -/
def execMacb (tile : Fin 64) (s : State) : Host.Outcome State Fault Refusal :=
  .next (tileStep (issueOp tile.val 3 2 (opM true true)) s)
/-- MULV (09 R226). -/
def execMulv (tile : Fin 64) (s : State) : Host.Outcome State Fault Refusal :=
  .next (tileStep (issueOp tile.val 3 3 (opM false false)) s)
/-- MULB (09 R226). -/
def execMulb (tile : Fin 64) (s : State) : Host.Outcome State Fault Refusal :=
  .next (tileStep (issueOp tile.val 3 4 (opM false true)) s)
/-- FADD (09 R227). -/
def execFAdd (tile : Fin 64) (s : State) : Host.Outcome State Fault Refusal :=
  .next (tileStep (issueOp tile.val 2 1 opFAdd) s)
/-- FSUB (09 R227). -/
def execFSub (tile : Fin 64) (s : State) : Host.Outcome State Fault Refusal :=
  .next (tileStep (issueOp tile.val 2 2 opFSub) s)
/-- MUL (09 R227). -/
def execMul (tile : Fin 64) (s : State) : Host.Outcome State Fault Refusal :=
  .next (tileStep (issueOp tile.val 2 3 opMul) s)
/-- FMA (09 R227). -/
def execFma (tile : Fin 64) (s : State) : Host.Outcome State Fault Refusal :=
  .next (tileStep (issueOp tile.val 2 4 opFma) s)
/-- MAX (09 R227). -/
def execMax (tile : Fin 64) (s : State) : Host.Outcome State Fault Refusal :=
  .next (tileStep (issueOp tile.val 2 5 opMax) s)
/-- MIN (09 R227). -/
def execMin (tile : Fin 64) (s : State) : Host.Outcome State Fault Refusal :=
  .next (tileStep (issueOp tile.val 2 6 opMin) s)
/-- SEL (09 R227). -/
def execSel (tile : Fin 64) (s : State) : Host.Outcome State Fault Refusal :=
  .next (tileStep (issueOp tile.val 2 7 opSel) s)
/-- CGT (09 R227). -/
def execCgt (tile : Fin 64) (s : State) : Host.Outcome State Fault Refusal :=
  .next (tileStep (issueOp tile.val 2 8 opCgt) s)
/-- CVT (09 R227). -/
def execCvt (tile : Fin 64) (s : State) : Host.Outcome State Fault Refusal :=
  .next (tileStep (issueOp tile.val 2 9 opCvt) s)
/-- MOV (09 R227). -/
def execMov (tile : Fin 64) (s : State) : Host.Outcome State Fault Refusal :=
  .next (tileStep (issueOp tile.val 2 10 opMov) s)
/-- ACT (09 R228). -/
def execAct (tile : Fin 64) (s : State) : Host.Outcome State Fault Refusal :=
  .next (tileStep (issueOp tile.val 2 11 opAct) s)
/-- EMA (09 R229 to R232). -/
def execEma (tile : Fin 64) (s : State) : Host.Outcome State Fault Refusal :=
  .next (tileStep (issueOp tile.val 1 1 opEma) s)
/-- FO1 (09 R229 to R232). -/
def execFo1 (tile : Fin 64) (s : State) : Host.Outcome State Fault Refusal :=
  .next (tileStep (issueOp tile.val 1 2 opFo1) s)
/-- SOS (09 R229 to R232). -/
def execSos (tile : Fin 64) (s : State) : Host.Outcome State Fault Refusal :=
  .next (tileStep (issueOp tile.val 1 3 opSos) s)
/-- SCMB (09 R229 to R232). -/
def execScmb (tile : Fin 64) (s : State) : Host.Outcome State Fault Refusal :=
  .next (tileStep (issueOp tile.val 1 4 opScmb) s)
/-- SCMB2 (09 R229 to R232). -/
def execScmb2 (tile : Fin 64) (s : State) : Host.Outcome State Fault Refusal :=
  .next (tileStep (issueOp tile.val 1 5 opScmb2) s)
/-- SAPP (09 R229 to R232). -/
def execSapp (tile : Fin 64) (s : State) : Host.Outcome State Fault Refusal :=
  .next (tileStep (issueOp tile.val 1 6 opSapp) s)
/-- DRAW (09 R233, 12 R300). -/
def execDraw (tile : Fin 64) (ecc : Ecc) (s : State) : Host.Outcome State Fault Refusal :=
  .next (tileStep (drawDo tile.val ecc) s)
/-- MASK (09 R233). -/
def execMask (tile : Fin 64) (s : State) : Host.Outcome State Fault Refusal :=
  .next (tileStep (issueOp tile.val 0 2 opMask) s)
/-- CMPM (09 R233). -/
def execCmpm (tile : Fin 64) (s : State) : Host.Outcome State Fault Refusal :=
  .next (tileStep (issueOp tile.val 0 3 opCmpm) s)
/-- RESULT_LAND (08 R192). -/
def execResultLand (tile : Fin 64) (s : State) : Host.Outcome State Fault Refusal :=
  .next (tileStep (landDo tile.val) s)
/-- BARRIER_COMPLETE (09 R220). -/
def execBarrierComplete (tile : Fin 64) (s : State) : Host.Outcome State Fault Refusal :=
  .next (tileStep (barrierCompleteDo tile.val) s)
/-- LEASE_GRANT (08 R201, R202). -/
def execLeaseGrant (t : Nat) (tile : Fin 64) (bank : Fin 16) (h : Holder) (s : State) : Host.Outcome State Fault Refusal :=
  .next (finish (leaseGrantDo tile.val bank.val h (s.at t)))
/-- STALL_TIMEOUT (08 R196). -/
def execStallTimeout (t : Nat) (tile : Fin 64) (s : State) : Host.Outcome State Fault Refusal :=
  .next (finish (stallTimeoutDo tile.val (s.at t)))
/-- LEASE_EXPIRY (08 R203). -/
def execLeaseExpiry (t : Nat) (tile : Fin 64) (bank : Fin 16) (s : State) : Host.Outcome State Fault Refusal :=
  .next (finish (leaseExpiryDo tile.val bank.val (s.at t)))

end Sys2Proof.Machine
end

