-- ==== Sys2Proof/Machine/Dispatch.lean ====
section
/-! DEFINITION. exec: one arm for each command. -/

namespace Sys2Proof.Machine

def exec (i : Instr) (s : State) : Host.Outcome State Fault Refusal :=
  match i with
  | .powerGoodRise t reads => Sys2Proof.Machine.execPowerGoodRise t reads s
  | .gessoPllLocked t locked => Sys2Proof.Machine.execGessoPllLocked t locked s
  | .kaCheckDone t density => Sys2Proof.Machine.execKaCheckDone t density s
  | .pwrgoodFall t => Sys2Proof.Machine.execPwrgoodFall t s
  | .coreRailBrownout t rail => Sys2Proof.Machine.execCoreRailBrownout t rail s
  | .pllLockLoss t p => Sys2Proof.Machine.execPllLockLoss t p s
  | .pllLockRegain t p => Sys2Proof.Machine.execPllLockRegain t p s
  | .benchWaveStart t b => Sys2Proof.Machine.execBenchWaveStart t b s
  | .benchGateOpen t b => Sys2Proof.Machine.execBenchGateOpen t b s
  | .benchSelfTestDone t b r => Sys2Proof.Machine.execBenchSelfTestDone t b r s
  | .stippleKatDone t c0 c1 c2 => Sys2Proof.Machine.execStippleKatDone t c0 c1 c2 s
  | .ledgerRestore t => Sys2Proof.Machine.execLedgerRestore t s
  | .flashIdentified t density => Sys2Proof.Machine.execFlashIdentified t density s
  | .dramChannelTrained t ch mib => Sys2Proof.Machine.execDramChannelTrained t ch mib s
  | .memtestRegionDone t ch region r => Sys2Proof.Machine.execMemtestRegionDone t ch region r s
  | .dramChannelDown t ch => Sys2Proof.Machine.execDramChannelDown t ch s
  | .pairBringupDone t p => Sys2Proof.Machine.execPairBringupDone t p s
  | .foremanStart t badRecords => Sys2Proof.Machine.execForemanStart t badRecords s
  | .pcieCoreConfigured t => Sys2Proof.Machine.execPcieCoreConfigured t s
  | .conventionalReset t kind => Sys2Proof.Machine.execConventionalReset t kind s
  | .functionLevelReset t => Sys2Proof.Machine.execFunctionLevelReset t s
  | .pcieD0Return t => Sys2Proof.Machine.execPcieD0Return t s
  | .kaLost t => Sys2Proof.Machine.execKaLost t s
  | .vkaLow t low => Sys2Proof.Machine.execVkaLow t low s
  | .oscillatorStop t => Sys2Proof.Machine.execOscillatorStop t s
  | .rtcTickMissing t => Sys2Proof.Machine.execRtcTickMissing t s
  | .foremanWatchdog t => Sys2Proof.Machine.execForemanWatchdog t s
  | .urgentWatchdog t => Sys2Proof.Machine.execUrgentWatchdog t s
  | .stepWatchdog t tile => Sys2Proof.Machine.execStepWatchdog t tile s
  | .dispatcherWatchdog t n => Sys2Proof.Machine.execDispatcherWatchdog t n s
  | .leaseExpiry t tile bank => Sys2Proof.Machine.execLeaseExpiry t tile bank s
  | .thermalSample t sensors => Sys2Proof.Machine.execThermalSample t sensors s
  | .thermalCeilingStep t => Sys2Proof.Machine.execThermalCeilingStep t s
  | .writeGraceEnd t committed => Sys2Proof.Machine.execWriteGraceEnd t committed s
  | .govEstimate t pm shares => Sys2Proof.Machine.execGovEstimate t pm shares s
  | .govRelease t => Sys2Proof.Machine.execGovRelease t s
  | .govDividerDecrease t => Sys2Proof.Machine.execGovDividerDecrease t s
  | .govDividerRaise t => Sys2Proof.Machine.execGovDividerRaise t s
  | .migrationDone t n => Sys2Proof.Machine.execMigrationDone t n s
  | .eopenNAccept t => Sys2Proof.Machine.execEopenNAccept t s
  | .eopenRepeat t low => Sys2Proof.Machine.execEopenRepeat t low s
  | .gpioTermination t gpio => Sys2Proof.Machine.execGpioTermination t gpio s
  | .sweepDue t p => Sys2Proof.Machine.execSweepDue t p s
  | .portBSweepTimeout t p => Sys2Proof.Machine.execPortBSweepTimeout t p s
  | .portBReturn t p line => Sys2Proof.Machine.execPortBReturn t p line s
  | .collectDue t p => Sys2Proof.Machine.execCollectDue t p s
  | .collectReturnTimeout t p => Sys2Proof.Machine.execCollectReturnTimeout t p s
  | .collectRecovery t p => Sys2Proof.Machine.execCollectRecovery t p s
  | .reverseRetrievalDone t p => Sys2Proof.Machine.execReverseRetrievalDone t p s
  | .babblerIsolation t p => Sys2Proof.Machine.execBabblerIsolation t p s
  | .collectionClose t p => Sys2Proof.Machine.execCollectionClose t p s
  | .anchorTaper t cell => Sys2Proof.Machine.execAnchorTaper t cell s
  | .anchorTermination t str => Sys2Proof.Machine.execAnchorTermination t str s
  | .anchorEmpty t cell => Sys2Proof.Machine.execAnchorEmpty t cell s
  | .lcDurationExpiry t str => Sys2Proof.Machine.execLcDurationExpiry t str s
  | .lcArmExpiry t str => Sys2Proof.Machine.execLcArmExpiry t str s
  | .lcRestGapExpiry t str => Sys2Proof.Machine.execLcRestGapExpiry t str s
  | .lcTempInvalidExpiry t str => Sys2Proof.Machine.execLcTempInvalidExpiry t str s
  | .lcNoRecordExpiry t str => Sys2Proof.Machine.execLcNoRecordExpiry t str s
  | .absenceTimeout t d => Sys2Proof.Machine.execAbsenceTimeout t d s
  | .record t d line => Sys2Proof.Machine.execRecord t d line s
  | .ledgerBalanceRead t d line => Sys2Proof.Machine.execLedgerBalanceRead t d line s
  | .ack t p side line => Sys2Proof.Machine.execAck t p side line s
  | .commandTimeout t p side => Sys2Proof.Machine.execCommandTimeout t p side s
  | .chainCommandWindow t p side => Sys2Proof.Machine.execChainCommandWindow t p side s
  | .ringTestDue t p side => Sys2Proof.Machine.execRingTestDue t p side s
  | .chainWakeDone t p => Sys2Proof.Machine.execChainWakeDone t p s
  | .enumerationDone t p => Sys2Proof.Machine.execEnumerationDone t p s
  | .urgentRx t p side line => Sys2Proof.Machine.execUrgentRx t p side line s
  | .jabberCut t j => Sys2Proof.Machine.execJabberCut t j s
  | .jabberResume t j => Sys2Proof.Machine.execJabberResume t j s
  | .stepDue t w => Sys2Proof.Machine.execStepDue t w s
  | .stepCommit t tile => Sys2Proof.Machine.execStepCommit t tile s
  | .resultLand tile => Sys2Proof.Machine.execResultLand tile s
  | .stallTimeout t tile => Sys2Proof.Machine.execStallTimeout t tile s
  | .barrierComplete tile => Sys2Proof.Machine.execBarrierComplete tile s
  | .leaseGrant t tile bank h => Sys2Proof.Machine.execLeaseGrant t tile bank h s
  | .stagingRequest t tile w => Sys2Proof.Machine.execStagingRequest t tile w s
  | .stagingDone t tile => Sys2Proof.Machine.execStagingDone t tile s
  | .swapBringIn t n => Sys2Proof.Machine.execSwapBringIn t n s
  | .swapBringInDone t n => Sys2Proof.Machine.execSwapBringInDone t n s
  | .swapWriteBackDone t n => Sys2Proof.Machine.execSwapWriteBackDone t n s
  | .checkpointDone t n => Sys2Proof.Machine.execCheckpointDone t n s
  | .behindCheck t n => Sys2Proof.Machine.execBehindCheck t n s
  | .jobRefitTimeout t job => Sys2Proof.Machine.execJobRefitTimeout t job s
  | .assayerEvaluate t => Sys2Proof.Machine.execAssayerEvaluate t s
  | .classChangeEvent t cell => Sys2Proof.Machine.execClassChangeEvent t cell s
  | .learnedStale t cell => Sys2Proof.Machine.execLearnedStale t cell s
  | .reportPublish t ch => Sys2Proof.Machine.execReportPublish t ch s
  | .dischargeChange t sc => Sys2Proof.Machine.execDischargeChange t sc s
  | .ledgerSnapshot t => Sys2Proof.Machine.execLedgerSnapshot t s
  | .journalCadence t => Sys2Proof.Machine.execJournalCadence t s
  | .journalSpacingEnd t => Sys2Proof.Machine.execJournalSpacingEnd t s
  | .journalEraseDone t => Sys2Proof.Machine.execJournalEraseDone t s
  | .journalRecordCommit t readBackOk => Sys2Proof.Machine.execJournalRecordCommit t readBackOk s
  | .doorbellRing t n w => Sys2Proof.Machine.execDoorbellRing t n w s
  | .requestTake t n => Sys2Proof.Machine.execRequestTake t n s
  | .responseDeliver t n => Sys2Proof.Machine.execResponseDeliver t n s
  | .dbsWrite t n w => Sys2Proof.Machine.execDbsWrite t n w s
  | .intStatWrite t n w => Sys2Proof.Machine.execIntStatWrite t n w s
  | .snapStatWrite t n w => Sys2Proof.Machine.execSnapStatWrite t n w s
  | .rdyW1cWrite t fall high w => Sys2Proof.Machine.execRdyW1cWrite t fall high w s
  | .msixUnmask t v => Sys2Proof.Machine.execMsixUnmask t v s
  | .registerWrite t w => Sys2Proof.Machine.execRegisterWrite t w s
  | .bar2Write t off data => Sys2Proof.Machine.execBar2Write t off data s
  | .shpRead t f => Sys2Proof.Machine.execShpRead t f s
  | .shpWrite t f => Sys2Proof.Machine.execShpWrite t f s
  | .ident t => Sys2Proof.Machine.execIdent t s
  | .tenantStatus t => Sys2Proof.Machine.execTenantStatus t s
  | .setCatchup t => Sys2Proof.Machine.execSetCatchup t s
  | .setRtc t => Sys2Proof.Machine.execSetRtc t s
  | .getRtc t => Sys2Proof.Machine.execGetRtc t s
  | .setTenant t => Sys2Proof.Machine.execSetTenant t s
  | .reset t => Sys2Proof.Machine.execReset t s
  | .resetBegin t => Sys2Proof.Machine.execResetBegin t s
  | .bootClampRead t => Sys2Proof.Machine.execBootClampRead t s
  | .setPair t => Sys2Proof.Machine.execSetPair t s
  | .pairStatus t => Sys2Proof.Machine.execPairStatus t s
  | .mbRegRead t => Sys2Proof.Machine.execMbRegRead t s
  | .mbRegWrite t => Sys2Proof.Machine.execMbRegWrite t s
  | .mbControl t => Sys2Proof.Machine.execMbControl t s
  | .mbReadRecord t => Sys2Proof.Machine.execMbReadRecord t s
  | .setString t => Sys2Proof.Machine.execSetString t s
  | .mbBalance t => Sys2Proof.Machine.execMbBalance t s
  | .setLedger t => Sys2Proof.Machine.execSetLedger t s
  | .stringLedger t => Sys2Proof.Machine.execStringLedger t s
  | .cellLedger t => Sys2Proof.Machine.execCellLedger t s
  | .terminate t => Sys2Proof.Machine.execTerminate t s
  | .lcArm t => Sys2Proof.Machine.execLcArm t s
  | .lcAbort t => Sys2Proof.Machine.execLcAbort t s
  | .ledgerReset t => Sys2Proof.Machine.execLedgerReset t s
  | .mapGpio t => Sys2Proof.Machine.execMapGpio t s
  | .streamStart t => Sys2Proof.Machine.execStreamStart t s
  | .streamPause t => Sys2Proof.Machine.execStreamPause t s
  | .streamResume t => Sys2Proof.Machine.execStreamResume t s
  | .streamReset t => Sys2Proof.Machine.execStreamReset t s
  | .streamEnd t => Sys2Proof.Machine.execStreamEnd t s
  | .streamSet t => Sys2Proof.Machine.execStreamSet t s
  | .streamStatus t => Sys2Proof.Machine.execStreamStatus t s
  | .streamInput t => Sys2Proof.Machine.execStreamInput t s
  | .streamParam t => Sys2Proof.Machine.execStreamParam t s
  | .clearFlags t => Sys2Proof.Machine.execClearFlags t s
  | .setOutRing t => Sys2Proof.Machine.execSetOutRing t s
  | .imageLoad t => Sys2Proof.Machine.execImageLoad t s
  | .imageLoadVerified t ticket => Sys2Proof.Machine.execImageLoadVerified t ticket s
  | .imageUnload t => Sys2Proof.Machine.execImageUnload t s
  | .imageList t => Sys2Proof.Machine.execImageList t s
  | .keySet t => Sys2Proof.Machine.execKeySet t s
  | .keyClear t => Sys2Proof.Machine.execKeyClear t s
  | .jobSubmit t => Sys2Proof.Machine.execJobSubmit t s
  | .jobPause t => Sys2Proof.Machine.execJobPause t s
  | .jobResume t => Sys2Proof.Machine.execJobResume t s
  | .jobDelete t => Sys2Proof.Machine.execJobDelete t s
  | .jobStatus t => Sys2Proof.Machine.execJobStatus t s
  | .setDataset t => Sys2Proof.Machine.execSetDataset t s
  | .setAssayer t => Sys2Proof.Machine.execSetAssayer t s
  | .setChannel t => Sys2Proof.Machine.execSetChannel t s
  | .getChannel t => Sys2Proof.Machine.execGetChannel t s
  | .cellAssay t => Sys2Proof.Machine.execCellAssay t s
  | .openAll t => Sys2Proof.Machine.execOpenAll t s
  | .openString t => Sys2Proof.Machine.execOpenString t s
  | .mbGate t eopenN => Sys2Proof.Machine.execMbGate t eopenN s
  | .setHead t => Sys2Proof.Machine.execSetHead t s
  | .setProtect t => Sys2Proof.Machine.execSetProtect t s
  | .mbAspRelease t => Sys2Proof.Machine.execMbAspRelease t s
  | .mbFaultClear t => Sys2Proof.Machine.execMbFaultClear t s
  | .fabricStatus t => Sys2Proof.Machine.execFabricStatus t s
  | .routes t => Sys2Proof.Machine.execRoutes t s
  | .setFabric t => Sys2Proof.Machine.execSetFabric t s
  | .linkRetrain t => Sys2Proof.Machine.execLinkRetrain t s
  | .journalWrite t => Sys2Proof.Machine.execJournalWrite t s
  | .patchChunk t => Sys2Proof.Machine.execPatchChunk t s
  | .patchCommit t => Sys2Proof.Machine.execPatchCommit t s
  | .patchWriteDone t ok => Sys2Proof.Machine.execPatchWriteDone t ok s
  | .setPatchMin t => Sys2Proof.Machine.execSetPatchMin t s
  | .shutdown t => Sys2Proof.Machine.execShutdown t s
  | .imageStore t => Sys2Proof.Machine.execImageStore t s
  | .imageStoreDone t ok => Sys2Proof.Machine.execImageStoreDone t ok s
  | .kaRead t => Sys2Proof.Machine.execKaRead t s
  | .faultRead t => Sys2Proof.Machine.execFaultRead t s
  | .faultLogClear t => Sys2Proof.Machine.execFaultLogClear t s
  | .gessoStatus t => Sys2Proof.Machine.execGessoStatus t s
  | .setMemtest t => Sys2Proof.Machine.execSetMemtest t s
  | .dbgChallenge t => Sys2Proof.Machine.execDbgChallenge t s
  | .dbgUnlock t => Sys2Proof.Machine.execDbgUnlock t s
  | .nop tile slot parity => Sys2Proof.Machine.execNop tile slot parity s
  | .loop tile => Sys2Proof.Machine.execLoop tile s
  | .waitin tile => Sys2Proof.Machine.execWaitin tile s
  | .endstep tile => Sys2Proof.Machine.execEndstep tile s
  | .barrier tile => Sys2Proof.Machine.execBarrier tile s
  | .lease tile => Sys2Proof.Machine.execLease tile s
  | .release tile => Sys2Proof.Machine.execRelease tile s
  | .kAdd tile => Sys2Proof.Machine.execKAdd tile s
  | .kSub tile => Sys2Proof.Machine.execKSub tile s
  | .and tile => Sys2Proof.Machine.execAnd tile s
  | .or tile => Sys2Proof.Machine.execOr tile s
  | .xor tile => Sys2Proof.Machine.execXor tile s
  | .addi tile => Sys2Proof.Machine.execAddi tile s
  | .shli tile => Sys2Proof.Machine.execShli tile s
  | .shri tile => Sys2Proof.Machine.execShri tile s
  | .sari tile => Sys2Proof.Machine.execSari tile s
  | .movi tile => Sys2Proof.Machine.execMovi tile s
  | .muli tile => Sys2Proof.Machine.execMuli tile s
  | .rdlc tile => Sys2Proof.Machine.execRdlc tile s
  | .extu tile => Sys2Proof.Machine.execExtu tile s
  | .ldp tile ecc => Sys2Proof.Machine.execLdp tile ecc s
  | .ldpr tile ecc => Sys2Proof.Machine.execLdpr tile ecc s
  | .ldw tile ecc => Sys2Proof.Machine.execLdw tile ecc s
  | .ldpw tile ecc => Sys2Proof.Machine.execLdpw tile ecc s
  | .stp tile => Sys2Proof.Machine.execStp tile s
  | .stpr tile => Sys2Proof.Machine.execStpr tile s
  | .macv tile => Sys2Proof.Machine.execMacv tile s
  | .macb tile => Sys2Proof.Machine.execMacb tile s
  | .mulv tile => Sys2Proof.Machine.execMulv tile s
  | .mulb tile => Sys2Proof.Machine.execMulb tile s
  | .fAdd tile => Sys2Proof.Machine.execFAdd tile s
  | .fSub tile => Sys2Proof.Machine.execFSub tile s
  | .mul tile => Sys2Proof.Machine.execMul tile s
  | .fma tile => Sys2Proof.Machine.execFma tile s
  | .max tile => Sys2Proof.Machine.execMax tile s
  | .min tile => Sys2Proof.Machine.execMin tile s
  | .sel tile => Sys2Proof.Machine.execSel tile s
  | .cgt tile => Sys2Proof.Machine.execCgt tile s
  | .cvt tile => Sys2Proof.Machine.execCvt tile s
  | .mov tile => Sys2Proof.Machine.execMov tile s
  | .act tile => Sys2Proof.Machine.execAct tile s
  | .ema tile => Sys2Proof.Machine.execEma tile s
  | .fo1 tile => Sys2Proof.Machine.execFo1 tile s
  | .sos tile => Sys2Proof.Machine.execSos tile s
  | .scmb tile => Sys2Proof.Machine.execScmb tile s
  | .scmb2 tile => Sys2Proof.Machine.execScmb2 tile s
  | .sapp tile => Sys2Proof.Machine.execSapp tile s
  | .draw tile ecc => Sys2Proof.Machine.execDraw tile ecc s
  | .mask tile => Sys2Proof.Machine.execMask tile s
  | .cmpm tile => Sys2Proof.Machine.execCmpm tile s
  | .rumbePor t d => Sys2Proof.Machine.execRumbePor t d s
  | .sweep t d r => Sys2Proof.Machine.execSweep t d r s
  | .sweepStart t d => Sys2Proof.Machine.execSweepStart t d s
  | .sweepCommit t d m => Sys2Proof.Machine.execSweepCommit t d m s
  | .cellAlarmAssert t d cell k => Sys2Proof.Machine.execCellAlarmAssert t d cell k s
  | .cellAlarmClear t d cell k => Sys2Proof.Machine.execCellAlarmClear t d cell k s
  | .measFaultLatch t d => Sys2Proof.Machine.execMeasFaultLatch t d s
  | .modidStateChange t d => Sys2Proof.Machine.execModidStateChange t d s
  | .balIdleEnd t d => Sys2Proof.Machine.execBalIdleEnd t d s
  | .lateSweep t d r => Sys2Proof.Machine.execLateSweep t d r s
  | .collect t d r => Sys2Proof.Machine.execCollect t d r s
  | .recordSend t d => Sys2Proof.Machine.execRecordSend t d s
  | .readRecord t d r => Sys2Proof.Machine.execReadRecord t d r s
  | .regRead t d r => Sys2Proof.Machine.execRegRead t d r s
  | .regWrite t d r => Sys2Proof.Machine.execRegWrite t d r s
  | .headEnSet t d r => Sys2Proof.Machine.execHeadEnSet t d r s
  | .headEnClear t d r => Sys2Proof.Machine.execHeadEnClear t d r s
  | .shuntChange t d r => Sys2Proof.Machine.execShuntChange t d r s
  | .devIdWrite t d r => Sys2Proof.Machine.execDevIdWrite t d r s
  | .tCommWrite t d r => Sys2Proof.Machine.execTCommWrite t d r s
  | .vauxEnSet t d r => Sys2Proof.Machine.execVauxEnSet t d r s
  | .vauxEnClear t d r => Sys2Proof.Machine.execVauxEnClear t d r s
  | .balEnClear t d r => Sys2Proof.Machine.execBalEnClear t d r s
  | .enumerate t d r => Sys2Proof.Machine.execEnumerate t d r s
  | .gateOpen t d r => Sys2Proof.Machine.execGateOpen t d r s
  | .gateClose t d r => Sys2Proof.Machine.execGateClose t d r s
  | .gateChgOnly t d r => Sys2Proof.Machine.execGateChgOnly t d r s
  | .gateDsgOnly t d r => Sys2Proof.Machine.execGateDsgOnly t d r s
  | .balanceAppend t d r => Sys2Proof.Machine.execBalanceAppend t d r s
  | .balanceReplace t d r => Sys2Proof.Machine.execBalanceReplace t d r s
  | .balStop t d r => Sys2Proof.Machine.execBalStop t d r s
  | .faultClear t d r => Sys2Proof.Machine.execFaultClear t d r s
  | .softReset t d r => Sys2Proof.Machine.execSoftReset t d r s
  | .softResetExecute t d repeating => Sys2Proof.Machine.execSoftResetExecute t d repeating s
  | .modidAck t d r => Sys2Proof.Machine.execModidAck t d r s
  | .clearId t d r => Sys2Proof.Machine.execClearId t d r s
  | .aspRelease t d r => Sys2Proof.Machine.execAspRelease t d r s
  | .portCut t d r => Sys2Proof.Machine.execPortCut t d r s
  | .portRestore t d r => Sys2Proof.Machine.execPortRestore t d r s
  | .sleep t d r => Sys2Proof.Machine.execSleep t d r s
  | .ringTest t d r => Sys2Proof.Machine.execRingTest t d r s
  | .reservedFrame t d r => Sys2Proof.Machine.execReservedFrame t d r s
  | .eopen t d u => Sys2Proof.Machine.execEopen t d u s
  | .strOpen t d u => Sys2Proof.Machine.execStrOpen t d u s
  | .alarmCell t d u => Sys2Proof.Machine.execAlarmCell t d u s
  | .alarmMeas t d u => Sys2Proof.Machine.execAlarmMeas t d u s
  | .alarmTrip t d u => Sys2Proof.Machine.execAlarmTrip t d u s
  | .urgentQueueSend t d port idle => Sys2Proof.Machine.execUrgentQueueSend t d port idle s
  | .frameResend t d port idle => Sys2Proof.Machine.execFrameResend t d port idle s
  | .tCommExpiry t d => Sys2Proof.Machine.execTCommExpiry t d s
  | .sleepEnter t d => Sys2Proof.Machine.execSleepEnter t d s
  | .wakeDetect t d port => Sys2Proof.Machine.execWakeDetect t d port s
  | .wakeReady t d => Sys2Proof.Machine.execWakeReady t d s
  | .modulatorSettle t d => Sys2Proof.Machine.execModulatorSettle t d s
  | .currentInterval t d hg lg hgOver lgOver => Sys2Proof.Machine.execCurrentInterval t d hg lg hgOver lgOver s
  | .rangeToHg t d => Sys2Proof.Machine.execRangeToHg t d s
  | .calFrozen t d => Sys2Proof.Machine.execCalFrozen t d s
  | .curFaultLatch t d => Sys2Proof.Machine.execCurFaultLatch t d s
  | .scTrip t d uv ns => Sys2Proof.Machine.execScTrip t d uv ns s
  | .rampWatchTrip t d k => Sys2Proof.Machine.execRampWatchTrip t d k s
  | .prechargeDone t d => Sys2Proof.Machine.execPrechargeDone t d s
  | .prechargeTimeout t d => Sys2Proof.Machine.execPrechargeTimeout t d s
  | .rampDone t d chgMv dsgMv => Sys2Proof.Machine.execRampDone t d chgMv dsgMv s
  | .contactorRampEnd t d => Sys2Proof.Machine.execContactorRampEnd t d s
  | .pchgOff t d => Sys2Proof.Machine.execPchgOff t d s
  | .rampTimeout t d => Sys2Proof.Machine.execRampTimeout t d s
  | .pumpUv t d chgMv dsgMv ns => Sys2Proof.Machine.execPumpUv t d chgMv dsgMv ns s
  | .vauxSoftStartCheck t d mv => Sys2Proof.Machine.execVauxSoftStartCheck t d mv s
  | .vauxUndervoltage t d mv => Sys2Proof.Machine.execVauxUndervoltage t d mv s
  | .vauxRetry t d => Sys2Proof.Machine.execVauxRetry t d s
  | .vauxRetryReset t d mv => Sys2Proof.Machine.execVauxRetryReset t d mv s
  | .vauxThermalShutdown t d tj => Sys2Proof.Machine.execVauxThermalShutdown t d tj s
  | .balTransferStart t d => Sys2Proof.Machine.execBalTransferStart t d s
  | .balCheckDone t d busMv => Sys2Proof.Machine.execBalCheckDone t d busMv s
  | .balCycle t d bcsUv tPri tSec tDie => Sys2Proof.Machine.execBalCycle t d bcsUv tPri tSec tDie s
  | .balTimeout t d => Sys2Proof.Machine.execBalTimeout t d s
  | .balOvertemp t d tDie => Sys2Proof.Machine.execBalOvertemp t d tDie s
  | .balPriOc t d bcsUv ns => Sys2Proof.Machine.execBalPriOc t d bcsUv ns s
  | .balModuleV t d mv => Sys2Proof.Machine.execBalModuleV t d mv s
  | .linkDetectDone t l b => Sys2Proof.Machine.execLinkDetectDone t l b s
  | .linkDetectTimeout t l => Sys2Proof.Machine.execLinkDetectTimeout t l s
  | .linkExchangeDone t l b => Sys2Proof.Machine.execLinkExchangeDone t l b s
  | .linkAlignEvaluate t l own last lanes => Sys2Proof.Machine.execLinkAlignEvaluate t l own last lanes s
  | .linkRetry t l => Sys2Proof.Machine.execLinkRetry t l s
  | .trainingBlockWake t l b => Sys2Proof.Machine.execTrainingBlockWake t l b s
  | .linkLockLoss t l lane lasted => Sys2Proof.Machine.execLinkLockLoss t l lane lasted s
  | .linkSyncErrors t l lane n => Sys2Proof.Machine.execLinkSyncErrors t l lane n s
  | .neigh t l b => Sys2Proof.Machine.execNeigh t l b s
  | .hello t l b => Sys2Proof.Machine.execHello t l b s
  | .beacon t l b => Sys2Proof.Machine.execBeacon t l b s
  | .summary t l b => Sys2Proof.Machine.execSummary t l b s
  | .neighSend t => Sys2Proof.Machine.execNeighSend t s
  | .helloSend t => Sys2Proof.Machine.execHelloSend t s
  | .beaconSend t => Sys2Proof.Machine.execBeaconSend t s
  | .summarySend t => Sys2Proof.Machine.execSummarySend t s
  | .neighSilent t l => Sys2Proof.Machine.execNeighSilent t l s
  | .helloAgeOut t serial => Sys2Proof.Machine.execHelloAgeOut t serial s
  | .floodSeqForget t serial => Sys2Proof.Machine.execFloodSeqForget t serial s
  | .floodHoldEnd t => Sys2Proof.Machine.execFloodHoldEnd t s
  | .discoveryWindowClose t => Sys2Proof.Machine.execDiscoveryWindowClose t s
  | .beaconWaitTimeout t => Sys2Proof.Machine.execBeaconWaitTimeout t s
  | .managerLeaseExpiry t => Sys2Proof.Machine.execManagerLeaseExpiry t s
  | .allLinksDown t => Sys2Proof.Machine.execAllLinksDown t s
  | .routeRecompute t => Sys2Proof.Machine.execRouteRecompute t s
  | .reservedUrgentCode t d u => Sys2Proof.Machine.execReservedUrgentCode t d u s
  | .exchangeLimitExpiry t l => Sys2Proof.Machine.execExchangeLimitExpiry t l s
  | .routedFrameForward t l b => Sys2Proof.Machine.execRoutedFrameForward t l b s
  | .configRequest t c => Sys2Proof.Machine.execConfigRequest t c s
  | .windowRead t port off len => Sys2Proof.Machine.execWindowRead t port off len s
  | .bar2Read t off len => Sys2Proof.Machine.execBar2Read t off len s

end Sys2Proof.Machine
end

