-- ==== Sys2Proof/WellFormed.lean ====
section
/-! DEFINITION. Which commands are well formed: the sizes that the wire, the converters and the host ports impose on
the operands a step takes from outside. -/

namespace Sys2Proof

/-- A receive activity on a chain port: the port's jabber guard ends it after 400 microseconds, 9,600 chips (06 R119, R154). -/
def lineWf (l : List Chip) : Bool := decide (l.length ≤ 9600)
/-- A frame at a Rumbe port. -/
def Rx.wf (r : Rx) : Bool := lineWf r.line
/-- An urgent frame at a Rumbe port. -/
def URx.wf (u : URx) : Bool := lineWf u.line
/-- Eighteen cells and eight thermistors (03 Table 3-1). -/
def Readings.wf (m : Readings) : Bool := m.cells.length == 18 && m.th.length == 8
/-- A fabric frame holds its header, the payload of a two-byte LEN and its CRC at most (18 R422, Table 18-4); one of more than
1,008 payload bytes is counted. -/
def fabWf (b : List Byte) : Bool := decide (b.length ≤ 65559)
/-- A host write carries 1 to 256 bytes (17 R396). -/
def WinWrite.wf (w : WinWrite) : Bool := decide (1 ≤ w.data.length) && decide (w.data.length ≤ 256)
/-- An SHP frame has at most 64 words (17 Table 17-3). -/
def ShpFrame.wf (f : ShpFrame) : Bool := decide (f.data.length ≤ 256)
/-- Failing rows and slots of a region test (19 Table 19-4). -/
def RegionTest.wf (r : RegionTest) : Bool :=
  r.rows.all (fun x => decide (x.1 < 16) && decide (x.2 < 2 ^ 18)) && r.spareBad.all (fun x => decide (x < 256))

/-- A command whose operands have the sizes the spec gives them. -/
def Instr.wf : Instr → Bool
  | .powerGoodRise _ reads => decide (1 ≤ reads.length) && decide (reads.length ≤ 3)
  | .memtestRegionDone _ _ _ r => r.wf
  | .thermalSample _ sensors => sensors.length == 9
  | .govEstimate _ _ shares => shares.length == 4
  | .portBReturn _ _ l => lineWf l
  | .record _ _ l => lineWf l
  | .ledgerBalanceRead _ _ l => lineWf l
  | .ack _ _ _ l => lineWf l
  | .urgentRx _ _ _ l => lineWf l
  | .sweep _ _ r => r.wf
  | .sweepCommit _ _ m => m.wf
  | .lateSweep _ _ r => r.wf
  | .collect _ _ r => r.wf
  | .readRecord _ _ r => r.wf
  | .regRead _ _ r => r.wf
  | .regWrite _ _ r => r.wf
  | .headEnSet _ _ r => r.wf
  | .headEnClear _ _ r => r.wf
  | .shuntChange _ _ r => r.wf
  | .devIdWrite _ _ r => r.wf
  | .tCommWrite _ _ r => r.wf
  | .vauxEnSet _ _ r => r.wf
  | .vauxEnClear _ _ r => r.wf
  | .balEnClear _ _ r => r.wf
  | .enumerate _ _ r => r.wf
  | .gateOpen _ _ r => r.wf
  | .gateClose _ _ r => r.wf
  | .gateChgOnly _ _ r => r.wf
  | .gateDsgOnly _ _ r => r.wf
  | .balanceAppend _ _ r => r.wf
  | .balanceReplace _ _ r => r.wf
  | .balStop _ _ r => r.wf
  | .faultClear _ _ r => r.wf
  | .softReset _ _ r => r.wf
  | .modidAck _ _ r => r.wf
  | .clearId _ _ r => r.wf
  | .aspRelease _ _ r => r.wf
  | .portCut _ _ r => r.wf
  | .portRestore _ _ r => r.wf
  | .sleep _ _ r => r.wf
  | .ringTest _ _ r => r.wf
  | .reservedFrame _ _ r => r.wf
  | .eopen _ _ u => u.wf
  | .strOpen _ _ u => u.wf
  | .alarmCell _ _ u => u.wf
  | .alarmMeas _ _ u => u.wf
  | .alarmTrip _ _ u => u.wf
  | .reservedUrgentCode _ _ u => u.wf
  | .linkAlignEvaluate _ _ _ _ lanes => lanes.length == 4
  | .neigh _ _ b => fabWf b
  | .hello _ _ b => fabWf b
  | .beacon _ _ b => fabWf b
  | .summary _ _ b => fabWf b
  | .routedFrameForward _ _ b => fabWf b
  | .registerWrite _ w => w.wf
  | .bar2Write _ _ data => decide (1 ≤ data.length) && decide (data.length ≤ 256)
  | .bar2Read _ _ len => decide (1 ≤ len) && decide (len ≤ 256)
  | .windowRead _ _ _ len => decide (1 ≤ len) && decide (len ≤ 4096)
  | .shpRead _ f => f.wf
  | .shpWrite _ f => f.wf
  | _ => true

end Sys2Proof
end

