-- ==== Sys2Proof/Safety.lean ====
section
/-! DEFINITION. The terms in which claims speak of a run: what a Rumbe has heard, what a tile issues, when a
command of a host is served, and the invariants that a safe run keeps. -/

namespace Sys2Proof.Machine

/-! ### Steps of one Rumbe -/

/-- The state after a step of the Rumbe at `d` at time `t` that leaves it as `c` has it: time, this step's outputs and that
one Rumbe have changed, nothing else. -/
def afterRumbe (s : State) (t : Nat) (d : Dev) (c : RCtx) : State :=
  { s with now := max s.now t, out := c.out, rumbes := tblSet (devIndex d) c.r s.rumbes }
/-- The Rumbe at `d` at time `t`, before anything of this step. -/
def before (s : State) (t : Nat) (d : Dev) : RCtx := { dev := d, now := max s.now t, r := s.rumbe d }
/-- The Rumbe at `d` at time `t`, with what had fallen due done. -/
def turn (s : State) (t : Nat) (d : Dev) : RCtx := settle (before s t d)
/-- A context with another Rumbe in it. -/
def RCtx.into (c : RCtx) (r : Rumbe) : RCtx := { c with r := r }

/-- The Rumbe at `d` once it has received from `since` on at port `p`: what it had on that line has yielded (06 R122, R132). -/
def met (s : State) (t : Nat) (d : Dev) (p : RPort) (since : Nat) : RCtx :=
  let c := turn s t d
  c.upd (fun r => updPort r p (fun q => portHears q since c.now))
/-- A good frame of type `type` from Broros reaches the Rumbe at `d`: it is awake, the arrival port is not cut, no code violation
aborts the frame, it is whole, its CRC passes, its DIR is 0, and the opposite port is not busy (06 R120, R125, R126, R132, R155
to R157). -/
def hears (s : State) (t : Nat) (d : Dev) (x : Rx) (type : Nat) : Bool :=
  !(s.rumbe d).asleep && !(portOf (s.rumbe d) x.port).cut && x.isFrame type && x.crcOk && x.whole && !x.dir
    && rxLost (met s t d x.port (x.since (max s.now t))) x == (false, false)
/-- The Rumbe once it has repeated such a frame, rewritten as `rw` says, and restarted t_comm (06 R130, R131, R154, R156). -/
def heard (s : State) (t : Nat) (d : Dev) (x : Rx) (rw : List Byte → List Byte) : RCtx :=
  let c := met s t d x.port (x.since (max s.now t))
  let c := c.upd (fun r => { r with commAt := c.now })
  if (portOf c.r x.port).jab then c else sendRepeat c (otherPort x.port) (repeated x rw)
/-- No addressed command with this frame's FSEQ and TYPE was the last one executed (06 R139). -/
def fresh (c : RCtx) (x : Rx) (type : Nat) : Bool :=
  match c.r.lastCmd with
  | some l => !(l.fseq == x.fseq && l.type == type)
  | none => true
/-- The response a command is answered with is kept and sent (06 R130, R138, R139). -/
def answered (c : RCtx) (x : Rx) (type rt : Nat) (bs : List Byte) : RCtx :=
  respond (c.upd (fun r => { r with lastCmd := some { fseq := x.fseq, type := type, respType := rt, resp := bs } })) x rt bs
/-- A good addressed command of type `type`, not the last one executed, reaches the Rumbe at `d`. -/
def commanded (s : State) (t : Nat) (d : Dev) (x : Rx) (type : Nat) : Bool :=
  hears s t d x type && addressed (s.rumbe d) x && fresh (before s t d) x type
/-- An urgent frame that decodes reaches the Rumbe at `d`: awake, the port not cut, a break-in and five bytes, the low nibble
0b1010, a good CRC (06 R120, R129, R155, R157). -/
def hearsUrgent (s : State) (d : Dev) (u : URx) : Bool :=
  !(s.rumbe d).asleep && !(portOf (s.rumbe d) u.port).cut && urgentDecodes u.bytes
/-- The Rumbe once it has yielded to an urgent frame and relayed it (06 R122, R132, R154). -/
def relayed (s : State) (t : Nat) (d : Dev) (u : URx) : RCtx :=
  let since := max s.now t - lineTime u.line
  let c := met s t d u.port since
  if (portOf c.r u.port).jab then c else relayUrgent c (otherPort u.port) since u.bytes
/-- The Rumbe that a command is a step of, if it is one of a Rumbe. -/
def rumbeOf : Instr → Option Dev
  | .rumbePor _ d => some d
  | .sweep _ d _ => some d
  | .sweepStart _ d => some d
  | .sweepCommit _ d _ => some d
  | .cellAlarmAssert _ d _ _ => some d
  | .cellAlarmClear _ d _ _ => some d
  | .measFaultLatch _ d => some d
  | .modidStateChange _ d => some d
  | .balIdleEnd _ d => some d
  | .lateSweep _ d _ => some d
  | .collect _ d _ => some d
  | .recordSend _ d => some d
  | .readRecord _ d _ => some d
  | .regRead _ d _ => some d
  | .regWrite _ d _ => some d
  | .headEnSet _ d _ => some d
  | .headEnClear _ d _ => some d
  | .shuntChange _ d _ => some d
  | .devIdWrite _ d _ => some d
  | .tCommWrite _ d _ => some d
  | .vauxEnSet _ d _ => some d
  | .vauxEnClear _ d _ => some d
  | .balEnClear _ d _ => some d
  | .enumerate _ d _ => some d
  | .gateOpen _ d _ => some d
  | .gateClose _ d _ => some d
  | .gateChgOnly _ d _ => some d
  | .gateDsgOnly _ d _ => some d
  | .balanceAppend _ d _ => some d
  | .balanceReplace _ d _ => some d
  | .balStop _ d _ => some d
  | .faultClear _ d _ => some d
  | .softReset _ d _ => some d
  | .softResetExecute _ d _ => some d
  | .modidAck _ d _ => some d
  | .clearId _ d _ => some d
  | .aspRelease _ d _ => some d
  | .portCut _ d _ => some d
  | .portRestore _ d _ => some d
  | .sleep _ d _ => some d
  | .ringTest _ d _ => some d
  | .reservedFrame _ d _ => some d
  | .eopen _ d _ => some d
  | .strOpen _ d _ => some d
  | .alarmCell _ d _ => some d
  | .alarmMeas _ d _ => some d
  | .alarmTrip _ d _ => some d
  | .reservedUrgentCode _ d _ => some d
  | .urgentQueueSend _ d _ _ => some d
  | .frameResend _ d _ _ => some d
  | .tCommExpiry _ d => some d
  | .sleepEnter _ d => some d
  | .wakeDetect _ d _ => some d
  | .wakeReady _ d => some d
  | .modulatorSettle _ d => some d
  | .currentInterval _ d _ _ _ _ => some d
  | .rangeToHg _ d => some d
  | .calFrozen _ d => some d
  | .curFaultLatch _ d => some d
  | .scTrip _ d _ _ => some d
  | .rampWatchTrip _ d _ => some d
  | .prechargeDone _ d => some d
  | .prechargeTimeout _ d => some d
  | .rampDone _ d _ _ => some d
  | .contactorRampEnd _ d => some d
  | .pchgOff _ d => some d
  | .rampTimeout _ d => some d
  | .pumpUv _ d _ _ _ => some d
  | .vauxSoftStartCheck _ d _ => some d
  | .vauxUndervoltage _ d _ => some d
  | .vauxRetry _ d => some d
  | .vauxRetryReset _ d _ => some d
  | .vauxThermalShutdown _ d _ => some d
  | .balTransferStart _ d => some d
  | .balCheckDone _ d _ => some d
  | .balCycle _ d _ _ _ _ => some d
  | .balTimeout _ d => some d
  | .balOvertemp _ d _ => some d
  | .balPriOc _ d _ _ => some d
  | .balModuleV _ d _ => some d
  | .jabberCut _ (.rumbe d _) => some d
  | .jabberResume _ (.rumbe d _) => some d
  | _ => none

/-! ### Steps of one tile -/

/-- The slot of rank `rank` of a tile is to issue opcode `op` now (08 R189, R190). -/
def issues (s : State) (tile : Fin 64) (rank op : Nat) : Bool := slotOpen s tile.val rank && slotIs s tile.val rank op
/-- The state in which a tile operation reads: its outputs empty, the corrected error of a load counted, every result that
has come due landed (08 R192, Table 8-9). -/
def landed (s : State) (tile : Fin 64) (corrected : Bool) : State :=
  landDue (if corrected then noteCorrected (s.at 0) tile.val else s.at 0) tile.val
/-- The running step of a tile in such a state. -/
def runIn (s : State) (tile : Fin 64) : Option Run := (s.tile tile.val).run
/-- The 64-bit word of the slot of rank `rank` that a step is about to issue. -/
def wordIn (s : State) (tile : Fin 64) (rank : Nat) (r : Run) : Nat := slotWord (s.tile tile.val).kstore r.pc rank
/-- The next state of an operation that issues in state `s` with results `o`: they go in flight with their latencies, the
slot has issued, the next bundle follows where it was the last (08 R190, R192). -/
def issued (s : State) (tile : Fin 64) (rank : Nat) (o : TOut) : State :=
  finish (advance (updRun s tile.val (fun r => markIssued rank (takeOut rank o r))) tile.val)
/-- The next state of an operation of the slot of rank `rank` that aborts its step (08 R208). -/
def stopped (s : State) (tile : Fin 64) (code : AbortCode) (rank : Nat) : State := finish (abortTile s tile.val code (some rank))
/-- One result of 64 lanes, each exact and rounded once, with the sticky flags that rounding sets (09 R213, R214). -/
def lanesOut (latency : Nat) (dest : List Nat → Dest) (f : Nat → Rounded) : TOut :=
  let rs := (List.range 64).map f
  { writes := [(latency, dest (rs.map (fun r => r.bits)))], sat := rs.any (fun r => r.sat), nan := rs.any (fun r => r.nan) }
/-- The results of a state operation: 64 lanes of H register `hn`, and where `copied`, the copy of each in A register `an`
(09 Table 9-8). -/
def stateOut (hn an : Nat) (copied : Bool) (f : Nat → Rounded × Rounded) : TOut :=
  let rs := (List.range 64).map f
  let h := (4, Dest.h hn 0 (rs.map (fun r => r.1.bits)))
  { writes := if copied then [h, (4, Dest.a an (rs.map (fun r => r.2.bits)))] else [h]
    sat := rs.any (fun r => r.1.sat || (copied && r.2.sat)), nan := rs.any (fun r => r.1.nan || (copied && r.2.nan)) }
/-- Whether a load's check bits show a corrected error. -/
def eccCorrected : Ecc → Bool
  | .corrected => true
  | _ => false

/-! ### Steps of a chain pair and of Foreman -/

/-- Command `i` completes, leaving chain pair `p` as one of which `w` holds, in a state of which `w` holds. -/
def leaves (i : Instr) (s : State) (p : Nat) (w : Pair → State → Prop) : Prop :=
  ∃ u r, exec i s = .next u ∧ u.pairs[p]? = some r ∧ w r u
/-- A frame from Broros: DIR is 0 (06 Table 6-2). -/
def brorosFrame (type : Nat) (pos ret : Bool) (addr fseq : Nat) (payload : List Byte) : Frame :=
  { type := type, dir := false, pos := pos, ret := ret, addr := addr, fseq := fseq, payload := payload }
/-- The port of a pair's side. -/
def sidePort (q : Pair) : Side → ChainPort
  | .a => q.portA
  | .b => q.portB
/-- A response for request `r` with this STATUS and REASON waits at its tenant's mailbox. -/
def answersWith (u : State) (r : Req) (status reason : Nat) : Prop :=
  ∃ m ∈ (u.port r.tenant).replies, m.opcode = r.opcode ∧ m.tag = r.tag ∧ m.status = status ∧ m.reason = reason

/-- A response for request `r` with this STATUS, of which `w` holds. -/
def answersSo (u : State) (r : Req) (status : Nat) (w : Msg → Prop) : Prop :=
  ∃ m ∈ (u.port r.tenant).replies, m.opcode = r.opcode ∧ m.tag = r.tag ∧ m.status = status ∧ w m
/-- Request `r` with opcode `op` is the one Foreman executes next at `t`, and every check of 15 R368 that does not rest on
the command passes: the opcode, LEN at most 240 and as many bytes, the tenant enabled, URGENT where it is honoured, and no
other command owning the bulk window (15 R355, R360, R362, R365). -/
def granted (s : State) (t op : Nat) (r : Req) : Prop :=
  nextReq (s.at t) = some r ∧ r.opcode = op ∧ s.sys.ctrlUp = true ∧ r.len ≤ 240 ∧ r.payload.length = r.len
    ∧ (op = 0x0101 ∨ tenantOn s r.tenant = true) ∧ (natBit r.flags 0 = false ∨ urgentOk r.tenant r.flags r.opcode = true)
    ∧ r.busy = false
/-- The state in which Foreman executes that request: it has left the queue and its opcode is noted (15 R362). -/
def begun (s : State) (t op : Nat) : State :=
  let z := popReq (s.at t)
  { z with foreman := { z.foreman with lastOp := op } }
/-- A request has been executed: undefined opcodes now at the head are answered, a waiting urgent one is taken, and READY,
interrupts and lines follow (15 R365, R368, 17 R407 to R410). -/
def served (s : State) : State := finish (takeUrgent (flushBad s))
/-- LEN is n and there is no bulk data. -/
def plain (r : Req) (n : Nat) : Prop := lenIs n r = true

/-! ### Invariants -/

/-- A Rumbe is safe: outside OPEN only a head stands, with no trip latched and no protection hold; a transfer in progress
has no latch of the balancer's; the alarm thresholds are a volt tenth apart and the buffers hold no more than they can
(03 Table 3-2, R72, 04 R75, R88, R91, 05 R105, R112, R118, 06 R132, R148). -/
def RumbeSafe (r : Rumbe) : Prop :=
  (r.gate.st ≠ .open → r.head.headEn = true ∧ r.gate.scTrip = false ∧ r.gate.rampFault = false ∧ r.gate.pchgFault = false
      ∧ r.gate.pumpUv = false ∧ r.gate.aspHold = false)
    ∧ (r.bal.selFault = true ∨ r.bal.priOc = true → r.bal.phase = .idle)
    ∧ r.meas.uvTh + 1000 ≤ r.meas.ovTh
    ∧ 6 ≤ r.meas.nCells ∧ r.meas.nCells ≤ 18 ∧ 80 ≤ r.head.shunt
    ∧ r.records.length ≤ 4 ∧ r.bal.queue.length ≤ 4 ∧ r.bal.log.length ≤ 4
    ∧ r.portN.uq.length ≤ 4 ∧ r.portS.uq.length ≤ 4
/-- The invariant of the block: every Rumbe is safe and every waiting command is well formed. -/
def Inv (s : State) : Prop := (∀ d : Dev, RumbeSafe (s.rumbe d)) ∧ ∀ c ∈ s.pending, c.wf = true


/-! ### Memories -/

/-- Every memory of a list has its canonical form. -/
def AllWf (l : List Mem) : Prop := ∀ m ∈ l, memWf 0#8 m = true
/-- The instruction store and Palette slice of a tile have their canonical form. -/
def TileOk (t : Tile) : Prop := memWf 0#8 t.kstore = true ∧ memWf 0#8 t.pal = true
/-- The request, response and bulk windows of a mailbox have their canonical form. -/
def PortOk (p : TenantPort) : Prop := memWf 0#8 p.req = true ∧ memWf 0#8 p.rsp = true ∧ memWf 0#8 p.bulk = true
/-- So has every tile's. -/
def TilesOk (t : Tbl Tile) : Prop := ∀ e ∈ t, TileOk e.2
/-- So has every mailbox's. -/
def PortsOk (t : Tbl TenantPort) : Prop := ∀ e ∈ t, PortOk e.2
/-- A journal generation's staging copy has its canonical form. -/
def RunOk (r : Option GenRun) : Prop := ∀ g, r = some g → memWf 0#8 g.staging = true
/-- Every memory of the block has its canonical form: KA, the flash (erased 0xFF), a generation under way, the patch buffer, the
mailboxes, the tiles' stores, the weight stores and DRAM. -/
def MemOk (s : State) : Prop :=
  memWf 0#8 s.ka.file = true ∧ memWf 0xFF#8 s.flash.mem = true ∧ RunOk s.journal.run
    ∧ memWf 0#8 s.foreman.patchBuf = true ∧ PortsOk s.ports ∧ TilesOk s.tiles ∧ AllWf s.sched.wstore ∧ AllWf s.dram

end Sys2Proof.Machine
end

