-- ==== Sys2Proof/Certificates/Slice0/Obligations.lean ====
section
/-! DEFINITION. The statements about the block: what a step is, what reset leaves, what every command does and where it
completes, what it leaves alone, and the invariants that every step keeps. -/

open Sys2Proof Sys2Proof.Machine

/-! ### The queue and reset -/

/-- A step takes the command at the front of the queue and runs it on the state with the queue's rest.
On an empty queue a step changes nothing (the model's choice: assumption log 1). -/
def Obligations.StepRunsFrontCommand : Prop :=
  (∀ (c : Instr) (rest : List Instr) (s : State),
    step { s with pending := c :: rest } = exec c { s with pending := rest })
  ∧ (∀ s : State, s.pending = [] → step s = .next s)

/-! ### Steps of a Rumbe: power, reset, sleep (00, 06 6.10) -/

/-- POR, SOFT, t_comm, sleep and wake (00 R12, 05 R117, 06 R128, R156 to R158): each gives the whole next state, in which
only that Rumbe has changed.
While asleep a Rumbe ignores every frame (06 R157): only time passes. -/
def Obligations.RumbePowerSteps : Prop :=
  (∀ (s : State) (t : Nat) (d : Dev),
    let c := turn s t d
    (exec (.rumbePor t d) s = .next (afterRumbe s t d ((before s t d).into
        { cur := { ofsLg := Config.ofsFactory (devIndex d) }, commAt := max s.now t })))
    ∧ (∀ u, c.r.softAt = some u → u ≤ c.now → passingOn c.r.portN c.now = false → passingOn c.r.portS c.now = false →
        exec (.softResetExecute t d false) s = .next (afterRumbe s t d (c.into
          { cur := { ofsLg := Config.ofsFactory (devIndex d) }, commAt := c.now, devId := c.r.devId })))
    ∧ (c.r.asleep = false → c.r.sleepAt = none → c.r.commAt + c.r.tComm * 11400000 ≤ c.now →
        let q := { c.r with bal := balEndClear c.r.bal c.now 12 }
        exec (.tCommExpiry t d) s = .next (afterRumbe s t d (c.into
          { (if q.head.headEn then openReq q 4 c.now else q) with sleepAt := some (c.now + 4800) })))
    ∧ (∀ u, c.r.sleepAt = some u → u ≤ c.now → c.r.sweep = none → c.r.trig = none →
        exec (.sleepEnter t d) s = .next (afterRumbe s t d (c.into
          { c.r with bal := balEndClear c.r.bal c.now 12, asleep := true, sleepAt := none, wakeAt := none })))
    ∧ (∀ p, c.r.asleep = true → c.r.wakeAt = none → (portOf c.r p).cut = false →
        exec (.wakeDetect t d p) s = .next (afterRumbe s t d
          (let w := c.into { c.r with wakeAt := some c.now }
           if (portOf c.r (otherPort p)).cut then w else w.emit (.rumbePreamble d (otherPort p)))))
    ∧ (∀ w, c.r.wakeAt = some w → w + 144000 ≤ c.now →
        exec (.wakeReady t d) s = .next (afterRumbe s t d (c.into
          { c.r with asleep := false, wakeAt := none, commAt := c.now, woke := true }))))
  ∧ (∀ (s : State) (t : Nat) (d : Dev) (x : Rx) (u : URx) (i : Instr), (s.rumbe d).asleep = true →
    i ∈ [Instr.sweep t d x, .lateSweep t d x, .collect t d x, .readRecord t d x, .regRead t d x, .regWrite t d x,
         .headEnSet t d x, .headEnClear t d x, .shuntChange t d x, .devIdWrite t d x, .tCommWrite t d x,
         .vauxEnSet t d x, .vauxEnClear t d x, .balEnClear t d x, .enumerate t d x, .gateOpen t d x, .gateClose t d x, .gateChgOnly t d x, .gateDsgOnly t d x,
         .balanceAppend t d x, .balanceReplace t d x, .balStop t d x, .faultClear t d x, .softReset t d x,
         .modidAck t d x, .clearId t d x, .aspRelease t d x, .portCut t d x, .portRestore t d x, .sleep t d x,
         .ringTest t d x, .reservedFrame t d x, .eopen t d u, .strOpen t d u, .alarmCell t d u,
         .alarmMeas t d u, .alarmTrip t d u, .reservedUrgentCode t d u] →
    exec i s = .next (afterRumbe s t d (before s t d)))

/-! ### Sweeps, records, enumeration (03, 06 6.5 to 6.7) -/

/-- Sweep triggers, COLLECT, READ_RECORD, ENUMERATE and the reserved types, heard by a Rumbe, and the record it sends
(03 R55, R57, R72, R73, 05 R113, 06 R127, R130, R131, R134, R142, R144, R149).
A sweep starts, commits, and what its commit made due (03 R55, R56, R60 to R64, R70, R72, 05 R113, 06 R147, R148).
A RECORD leaves 2.0 microseconds after p - 1 RECORD frames have been repeated, or after 10 microseconds of idle input
(06 R144).
The record buffer (03 R72): a new record replaces the one with its SEQ, else the oldest of four, and is then read back. -/
def Obligations.RumbeSweepFramesAndSteps : Prop :=
  (∀ (s : State) (t : Nat) (d : Dev) (x : Rx),
    let c := heard s t d x id
    let held := { c.r with bal := holdBal c.r.bal (x.since c.now + 96) (c.now + 96) }
    let free := c.r.sweep = none ∧ c.r.trig = none ∧ ∀ u, c.r.lastStart = some u → u + 5760 ≤ c.now
    let taken := fun b => c.into { held with trig := some { seq := leAt x.payload 0 2, start := c.now + 96, addrTrig := b } }
    let missed := c.into { held with notSampled := c.r.notSampled ++ [{ seq := leAt x.payload 0 2, start := c.now + 96 }] }
    (hears s t d x 1 = true → broadcast x = true → x.payload.length = 2 →
      (free → exec (.sweep t d x) s = .next (afterRumbe s t d (taken false)))
      ∧ (c.r.sweep.isSome = true ∨ c.r.trig.isSome = true →
        exec (.sweep t d x) s = .next (afterRumbe s t d missed)))
    ∧ (hears s t d x 2 = true → x.pos = true → 1 ≤ x.addr → x.addr ≤ 32 → x.payload.length = 2 →
      (free → exec (.lateSweep t d x) s = .next (afterRumbe s t d (taken true)))
      ∧ (c.r.sweep.isSome = true ∨ c.r.trig.isSome = true →
        exec (.lateSweep t d x) s = .next (afterRumbe s t d missed)))
    ∧ (hears s t d x 3 = true → broadcast x = true → lineLen x.line = 3 → x.payload.length = 3 →
      let n := byteAt x.payload 2
      let c := heard s t d x (fun b => modAt b 6 (fun v => if v = 0xFF#8 then v else v + 1#8))
      let k : CollectTx := { pos := n + 1, fseq := x.fseq, ret := x.ret, port := if x.ret then x.port else otherPort x.port
                             bytes := recordFor c.r (leAt x.payload 0 2), lastAt := c.now }
      exec (.collect t d x) s = .next (afterRumbe s t d (c.into { c.r with collect := some k })))
    ∧ (commanded s t d x 5 = true → x.payload.length = 2 →
      exec (.readRecord t d x) s = .next (afterRumbe s t d (answered c x 5 4 (recordFor c.r (leAt x.payload 0 2)))))
    ∧ (hears s t d x 9 = true → broadcast x = true → x.payload.length = 1 → (s.rumbe d).devId = 0 → 1 ≤ byteAt x.payload 0 →
      byteAt x.payload 0 ≤ 32 →
      let c := heard s t d x (fun b => modAt b 4 (fun v => v + 1#8))
      exec (.enumerate t d x) s = .next (afterRumbe s t d (c.into
        { c.r with devId := byteAt x.payload 0, modidRef := c.r.modid })))
    ∧ (hears s t d x x.type = true → x.type = 0 ∨ 13 ≤ x.type → exec (.reservedFrame t d x) s = .next (afterRumbe s t d c)))
  ∧ (∀ (s : State) (t : Nat) (d : Dev),
    let c := turn s t d
    let r := s.rumbe d
    (∀ w, c.r.asleep = false → c.r.trig = some w → w.start ≤ c.now + 5 →
      exec (.sweepStart t d) s = .next (afterRumbe s t d (c.into { c.r with
        trig := none, sweep := some { w with start := c.now }, latched := c.r.meas, lastStart := some c.now
        records := dropRecord c.r.records ((c.r.notSampled.filter (fun s => s.started)).map (fun s => s.seq)) w.seq
        bal := holdBal c.r.bal c.now c.now
        alarms := c.r.alarms.take c.r.meas.nCells ++ List.replicate (18 - c.r.meas.nCells) {} })))
    ∧ (∀ w m, c.r.sweep = some w → w.start + 5512 ≤ c.now →
      exec (.sweepCommit t d m) s = .next (afterRumbe s t d (commitDo w m c))
        ∧ (commitDo w m c).r.sweep = none ∧ (commitDo w m c).r.woke = false
        ∧ ∃ b, (w.seq, b) ∈ (commitDo w m c).r.records ∧ leAt b 0 2 = w.seq % 65536
          ∧ leAt b 2 2 = (commitDo w m c).r.sflags % 65536
          ∧ natBit (leAt b 2 2) 0 = refFails m.refHi m.refZero ∧ natBit (leAt b 2 2) 9 = false)
    ∧ (∀ u, c.r.bal.holdUntil = some u → u ≤ c.now + 38 →
      exec (.balIdleEnd t d) s =
        .next (afterRumbe s t d (c.into { c.r with bal := { c.r.bal with
          holdUntil := none, checkAt := c.now, cycleAt := c.now } })))
    ∧ (∀ (cell : Fin 18) k, RDue.clear cell.val k ∈ r.due →
      exec (.cellAlarmClear t d cell k) s = .next (afterRumbe s t d ((before s t d).into
        (setAlarm { r with due := r.due.erase (.clear cell.val k) } cell.val k false))))
    ∧ (∀ st, RDue.modid st ∈ r.due → (∀ x, RDue.modid x ∈ r.due → x = st) →
      exec (.modidStateChange t d) s = .next (afterRumbe s t d ((before s t d).into
        { r with due := r.due.erase (.modid st), modid := some st }))))
  ∧ (∀ (s : State) (t : Nat) (d : Dev) (k : CollectTx),
    let c := turn s t d
    let q := portOf c.r k.port
    c.r.asleep = false → c.r.collect = some k → q.cut = false →
    (k.pos ≤ k.count + 1 → k.lastAt + 139 ≤ c.now) →
    (k.count + 1 < k.pos → max k.lastAt (portOf c.r (otherPort k.port)).rxEnd + 480 ≤ c.now) →
    let f : Frame := { type := 4, dir := true, ret := k.ret, addr := c.r.devId, fseq := k.fseq, payload := k.bytes }
    let e := max c.now q.freeAt + frameTime k.bytes.length
    exec (.recordSend t d) s = .next (afterRumbe s t d ((c.into (updPort { c.r with collect := none } k.port
      (fun q => { q with tx := some { start := max c.now q.freeAt, till := e, frame := f }, freeAt := e + 96 }))).emit
        (.rumbeFrame d k.port f))))
  ∧ (∀ (l : List (Nat × List Byte)) (q : Nat) (b : List Byte),
    (putRecord l q b).length ≤ 4 ∧ (putRecord l q b).find? (fun e => e.1 == q) = some (q, b)
      ∧ (l.length ≤ 4 → (∃ e ∈ l, e.1 = q) → ∀ e ∈ l, e.1 ≠ q → e ∈ putRecord l q b)
      ∧ (l.length = 4 → (∀ e ∈ l, e.1 ≠ q) → putRecord l q b = l.drop 1 ++ [(q, b)]))

/-! ### Addressed commands (06 R127, R138 to R140) -/

/-- A Rumbe keeps the FSEQ, TYPE and response of the last addressed command it executed; one with the same FSEQ and TYPE is
answered with the stored response and not executed again (06 R139). -/
def Obligations.RepeatedCommandResendsResponse : Prop :=
  ∀ (c : RCtx) (x : Rx) (type : Nat) (bc : Bool) (run : RCtx → RCtx × Nat × List Byte), addressed c.r x = true →
    (∀ l : LastCmd, c.r.lastCmd = some l → l.fseq = x.fseq → l.type = type →
      command c x type bc true run = respond c x l.respType l.resp)
    ∧ (fresh c x type = true → (run c).2.2 ≠ [0x06#8] →
      command c x type bc true run = answered (run c).1 x type (run c).2.1 (run c).2.2)

/-- An addressed frame whose LEN does not match its type is answered BAD_FRAME and not otherwise acted on (06 R127). -/
def Obligations.WrongLengthAnsweredBadFrame : Prop :=
  ∀ (s : State) (t : Nat) (d : Dev) (x : Rx), addressed (s.rumbe d) x = true →
    let bad := Host.Outcome.next (afterRumbe s t d (respond (heard s t d x id) x 8 [0x06#8]))
    (hears s t d x 5 = true → x.payload.length ≠ 2 → exec (.readRecord t d x) s = bad)
    ∧ (hears s t d x 6 = true → x.payload.length ≠ 3 → exec (.regRead t d x) s = bad)
    ∧ (hears s t d x 7 = true → writeLenOk x.payload = false → exec (.regWrite t d x) s = bad)
    ∧ (hears s t d x 0xA = true → x.payload.length ≠ 1 → exec (.gateClose t d x) s = bad)
    ∧ (hears s t d x 0xB = true → balLenOk x.payload = false → exec (.balanceAppend t d x) s = bad)
    ∧ (hears s t d x 0xC = true → x.payload.length ≠ 2 → exec (.balStop t d x) s = bad)

/-! ### Registers (24.8) -/

/-- REG_READ answers OK and every word it names as it stood at the decode; a word the register table does not list reads
zero (24 R532).
REG_WRITE is checked whole (24 R533): refused and nothing written; locked and nothing written; or every word applied in
ascending order, and the answer carries the words that then hold.
The rows of a REG_WRITE that changes HEAD_EN, SHUNT, DEV_ID, T_COMM, VAUX_EN or BAL_EN, each with one word, heard as a
broadcast (03 R70, 04 R81, R83, R98, R100, R538, 05 R108, 06 R137, 24 R533): what the register and what follows it hold. -/
def Obligations.RegistersAreReadAndWritten : Prop :=
  (∀ (s : State) (t : Nat) (d : Dev) (x : Rx), commanded s t d x 6 = true → x.payload.length = 3 →
    let n := byteAt x.payload 2
    let c := heard s t d x id
    1 ≤ n → n ≤ 119 →
    exec (.regRead t d x) s = .next (afterRumbe s t d (answered c x 6 8
      (0x00#8 :: (regWords c.r d (leAt x.payload 0 2) n).flatMap (fun w => leBytes 2 w))))
    ∧ ∀ a, (a = 0x0F ∨ (0x1D ≤ a ∧ a < 0x20) ∨ (0x2B ≤ a ∧ a < 0x30) ∨ (0x34 ≤ a ∧ a < 0x40) ∨ (0x49 ≤ a ∧ a < 0x50)
        ∨ (0x57 ≤ a ∧ a < 0x60) ∨ (0x9C ≤ a ∧ a < 0xA0) ∨ (0xA0 ≤ a ∧ a % 8 = 7 ∧ a < 0xC0)
        ∨ 0xC0 ≤ a) → regWord c.r d a = 0)
  ∧ (∀ (s : State) (t : Nat) (d : Dev) (x : Rx), commanded s t d x 7 = true → writeLenOk x.payload = true →
    let a := leAt x.payload 0 2
    let ws := writeWords x.payload
    let c := heard s t d x id
    let back := fun r => (regWords r d a ws.length).flatMap (fun w => leBytes 2 w)
    (regWriteRefused c.r a ws = true → exec (.regWrite t d x) s = .next (afterRumbe s t d (answered c x 7 8 [0x03#8])))
    ∧ (regWriteRefused c.r a ws = false → (∃ i < ws.length, settingLocked c.r (a + i) = true) →
        exec (.regWrite t d x) s = .next (afterRumbe s t d (answered c x 7 8 (0x02#8 :: back c.r))))
    ∧ (regWriteRefused c.r a ws = false → (∀ i < ws.length, settingLocked c.r (a + i) = false) →
        let w := applyWords d c.now c.r a ws
        exec (.regWrite t d x) s = .next (afterRumbe s t d (answered (c.into w.1) x 7 8
          ((if w.2 then 0x01#8 else 0x00#8) :: back w.1)))))
  ∧ (∀ (s : State) (t : Nat) (d : Dev) (x : Rx) (a v : Nat), hears s t d x 7 = true → broadcast x = true →
    x.payload.length = 4 → leAt x.payload 0 2 = a → leAt x.payload 2 2 = v →
    let q := s.rumbe d
    let c := heard s t d x id
    (a = 0x20 → v % 2 = 1 → q.head.headEn = false → q.gate.st = .open →
      exec (.headEnSet t d x) s = .next (afterRumbe s t d (c.into (headSet c.r d c.now)))
        ∧ (headSet c.r d c.now).head.headEn = true ∧ qCum (headSet c.r d c.now) = 0
        ∧ (headSet c.r d c.now).cur.nCum = 0 ∧ (headSet c.r d c.now).cur.settleAt = c.now + 12000)
    ∧ (a = 0x20 → v % 2 = 0 → q.head.headEn = true → q.gate.st = .open →
      exec (.headEnClear t d x) s = .next (afterRumbe s t d (c.into { c.r with
        head := { c.r.head with headEn := false }, cur := { c.r.cur with running := false, gridAt := none }
        vaux := { c.r.vaux with st := .off, retries := 0, low := false, mv := 0xFFFF } })))
    ∧ (a = 0x22 → v ≠ q.head.shunt → q.gate.st = .open → clampNat 80 10000 v ≠ q.head.shunt →
      exec (.shuntChange t d x) s = .next (afterRumbe s t d (c.into { c.r with
        head := { c.r.head with shunt := clampNat 80 10000 v }
        cur := { c.r.cur with qBase := c.r.cur.qBase + c.r.cur.sumV / (4 * c.r.head.shunt : Nat), sumV := 0 } })))
    ∧ (a = 0x06 → v % 64 ≤ 32 →
      exec (.devIdWrite t d x) s = .next (afterRumbe s t d (c.into { c.r with devId := v % 64, modidRef := c.r.modid })))
    ∧ (a = 0x09 →
      exec (.tCommWrite t d x) s = .next (afterRumbe s t d (c.into
        { c.r with tComm := clampNat 1 64 (v % 128), commAt := c.now })))
    ∧ (a = 0x2A → v % 2 = 1 → q.head.vauxEn = false →
      exec (.vauxEnSet t d x) s = .next (afterRumbe s t d (c.into { c.r with
        head := { c.r.head with vauxEn := true }
        vaux := if c.r.head.headEn && !c.r.vaux.fault then { c.r.vaux with st := .softStart, since := c.now, retries := 0 }
          else c.r.vaux })))
    ∧ (a = 0x2A → v % 2 = 0 → q.head.vauxEn = true →
      exec (.vauxEnClear t d x) s = .next (afterRumbe s t d (c.into { c.r with
        head := { c.r.head with vauxEn := false }
        vaux := { c.r.vaux with st := .off, retries := 0, low := false, mv := 0xFFFF } })))
    ∧ (a = 0x30 → v % 2 = 0 → q.balSet.en = true →
      exec (.balEnClear t d x) s = .next (afterRumbe s t d (c.into { c.r with
        balSet := { c.r.balSet with en := false }, bal := balEnd c.r.bal c.now 3 }))))

/-! ### Gates and trips (04 4.5 to 4.8) -/

/-- An open request (04 R91, R92): from any state but OPEN every output is pulled down, the head is OPEN and the cause is
recorded; the latches, the settings and all else stand; of two causes at one moment the higher code is recorded.
Trips (04 R94 to R97): a shunt voltage beyond the threshold for the blanking time opens the head with the trip's cause, the
latch sets and ALARM_TRIP goes out of both ports; in FET mode RAMP is watched by the comparator without blanking and, where
DSAT_EN was set at its start, by the desaturation check.
An alarm that asserts, or MEAS_FAULT, latches, ends balancing with ALARM and an empty queue, makes a protecting head
open and hold with cause 3, and breaks in with its urgent frame (03 R64, 05 R116, 06 R147, R148). -/
def Obligations.TripsAndAlarmsOpenHead : Prop :=
  (∀ (r : Rumbe) (now : Nat), r.gate.st ≠ .open → r.gate.openAt ≠ some now →
    (∀ cause, openReq r cause now = { r with gate := { r.gate with
        st := .open, target := .open, cause := cause, pchg := false, pchgOffAt := none, lowRun := 0
        openAt := some now, openFrom := r.gate.st, openTarget := r.gate.target, openCause := cause } }
      ∧ chgOn (openReq r cause now) = false ∧ dsgOn (openReq r cause now) = false)
    ∧ ∀ a b, (openReq (openReq r a now) b now).gate.cause = max a b)
  ∧ (∀ (s : State) (t : Nat) (d : Dev),
    let c := turn s t d
    let tripped := fun (r : Rumbe) => Host.Outcome.next (afterRumbe s t d (sendAlarm (c.into r) 0xA))
    (∀ (uv : Int) (ns : Nat), c.r.head.headEn = true → (gateWas c.r c.now ≠ .ramp ∨ c.r.head.drvContactor = true) →
        scThreshold d c.r.head.scdTh < uv.natAbs → scBlanking d c.r.head.scdBlank ≤ ns →
      let r := openReq c.r 5 c.now
      exec (.scTrip t d uv ns) s = tripped { r with gate := { r.gate with scTrip := true } } ∧ r.gate.st = .open
        ∧ (c.r.gate.openAt ≠ some c.now → r.gate.cause = 5))
    ∧ (∀ k, c.r.head.headEn = true → gateWas c.r c.now = .ramp → c.r.head.drvContactor = false →
        rampTrips c.r d c.now k = true →
      let r := openReq c.r (rampCause k) c.now
      exec (.rampWatchTrip t d k) s = tripped { r with gate := { r.gate with rampFault := true } } ∧ r.gate.st = .open
        ∧ (c.r.gate.openAt ≠ some c.now → r.gate.cause = rampCause k))
    ∧ (∀ uv, rampTrips c.r d c.now (.comparator uv) = decide (scThreshold d c.r.head.scdTh < uv.natAbs))
    ∧ (∀ chg dsg vds ns, c.r.gate.dsat = false → rampTrips c.r d c.now (.desaturation chg dsg vds ns) = false)
    ∧ (∀ chg dsg vds ns, lowerGate (rampTarget c.r c.now) chg dsg < 4000 →
        rampTrips c.r d c.now (.desaturation chg dsg vds ns) = false))
  ∧ (∀ (s : State) (t : Nat) (d : Dev),
    let r := s.rumbe d
    let a := min (max s.now t) r.dueAt
    (∀ (cell : Fin 18) k, RDue.assert cell.val k ∈ r.due → r.alarms.length = 18 →
      ∃ n, exec (.cellAlarmAssert t d cell k) s = .next n ∧ anyAlarm (n.rumbe d) = true
        ∧ (n.rumbe d).bal.phase = .idle ∧ (n.rumbe d).bal.queue = [] ∧ (n.rumbe d).almSentAt = some a
        ∧ (n.rumbe d).gate.aspAt = some a
        ∧ (r.head.headEn = true → r.aspEn = true → (n.rumbe d).gate.st = .open ∧ (n.rumbe d).gate.aspHold = true))
    ∧ (RDue.measFault ∈ r.due →
      ∃ n, exec (.measFaultLatch t d) s = .next n ∧ (n.rumbe d).measFault = true
        ∧ (n.rumbe d).bal.phase = .idle ∧ (n.rumbe d).bal.queue = [] ∧ (n.rumbe d).measSentAt = some a
        ∧ (n.rumbe d).gate.aspAt = some a
        ∧ (r.head.headEn = true → r.aspEn = true → (n.rumbe d).gate.st = .open ∧ (n.rumbe d).gate.aspHold = true)))

/-- GATE commands at a head (04 R75, R88, Table 4-1): OPEN opens with cause 1; from OPEN with no latch and no hold, CLOSE
enters PRECHARGE where PCHG_EN is 1 and RAMP otherwise, CHG_ONLY and DSG_ONLY enter RAMP with the named output; each is
acknowledged OK with GATE_ST.
A move command is refused, with nothing moved, on a device that is no head, while a latch of HFLAGS bits 4 to 8 is
set, while the protection hold stands, together with an open request, in PRECHARGE or RAMP, and from another conducting
state (04 R91); one that names the state the head is in, with none of these, is acknowledged and changes nothing (04 R75, R88).
How PRECHARGE and RAMP end, and PCHG goes off (04 R89, R90, R93). -/
def Obligations.GateCommandsMoveHead : Prop :=
  (∀ (s : State) (t : Nat) (d : Dev) (x : Rx), commanded s t d x 0xA = true → x.payload.length = 1 →
    let k := byteAt x.payload 0
    let c := heard s t d x id
    let ok := fun r => answered (c.into r) x 0xA 8 (0x00#8 :: leBytes 1 (gateStByte r))
    let free := c.r.head.headEn = true ∧ gateLatched c.r = false ∧ c.r.gate.aspHold = false ∧ c.r.gate.openAt ≠ some c.now
      ∧ c.r.gate.st = .open
    let ramp := fun g => { c.r with gate := { c.r.gate with st := .ramp, target := g, enteredAt := c.now, dsat := c.r.head.dsatEn } }
    (k = 0 → exec (.gateOpen t d x) s =
      .next (afterRumbe s t d (ok (if c.r.head.headEn then openReq c.r 1 c.now else c.r))))
    ∧ (k = 1 → free → c.r.head.pchgEn = true → exec (.gateClose t d x) s = .next (afterRumbe s t d (ok { c.r with
        gate := { c.r.gate with st := .precharge, target := .closed, pchg := true, enteredAt := c.now, lowRun := 0
                                idone := c.r.head.pchgIdone, tmin := c.r.head.pchgTmin, tmax := c.r.head.pchgTmax } })))
    ∧ (k = 1 → free → c.r.head.pchgEn = false → exec (.gateClose t d x) s = .next (afterRumbe s t d (ok (ramp .closed))))
    ∧ (k = 2 → free → exec (.gateChgOnly t d x) s = .next (afterRumbe s t d (ok (ramp .chgOnly))))
    ∧ (k = 3 → free → exec (.gateDsgOnly t d x) s = .next (afterRumbe s t d (ok (ramp .dsgOnly)))))
  ∧ (∀ (s : State) (t : Nat) (d : Dev) (x : Rx) (g : GateSt) (i : Instr), commanded s t d x 0xA = true → x.payload.length = 1 →
    (byteAt x.payload 0 = 1 ∧ g = .closed ∧ i = .gateClose t d x ∨ byteAt x.payload 0 = 2 ∧ g = .chgOnly ∧ i = .gateChgOnly t d x
      ∨ byteAt x.payload 0 = 3 ∧ g = .dsgOnly ∧ i = .gateDsgOnly t d x) →
    let c := heard s t d x id
    let bar := c.r.head.headEn = false ∨ gateLatched c.r = true ∨ c.r.gate.aspHold = true ∨ c.r.gate.openAt = some c.now
    (bar ∨ c.r.gate.st ≠ .open ∧ c.r.gate.st ≠ g →
      exec i s = .next (afterRumbe s t d (answered c x 0xA 8 (0x03#8 :: leBytes 1 (gateStByte c.r)))))
    ∧ (¬ bar → c.r.gate.st = g →
      exec i s = .next (afterRumbe s t d (answered c x 0xA 8 (0x00#8 :: leBytes 1 (gateStByte c.r))))))
  ∧ (∀ (s : State) (t : Nat) (d : Dev),
    let c := turn s t d
    let g := c.r.gate
    let was := gateWas c.r c.now
    let done := { c.r with gate := { g with st := g.target, pchgOffAt := if g.pchg then some (c.now + 48000) else none } }
    let opened := openReq c.r
    (g.st = .precharge → g.enteredAt + g.tmin * 48000 ≤ c.now → 8 ≤ g.lowRun →
      exec (.prechargeDone t d) s = .next (afterRumbe s t d (c.into { c.r with
        gate := { g with st := .ramp, target := .closed, enteredAt := c.now, dsat := c.r.head.dsatEn } })))
    ∧ (was = .precharge → g.enteredAt + g.tmax * 48000 ≤ c.now →
      exec (.prechargeTimeout t d) s = .next (afterRumbe s t d (c.into { opened 9 c.now with
        gate := { (opened 9 c.now).gate with pchgFault := true } })))
    ∧ (∀ chg dsg, g.st = .ramp → c.r.head.drvContactor = false → (g.target ≠ .dsgOnly → 9000 ≤ chg) →
        (g.target ≠ .chgOnly → 9000 ≤ dsg) →
      exec (.rampDone t d chg dsg) s = .next (afterRumbe s t d (c.into done)))
    ∧ (g.st = .ramp → c.r.head.drvContactor = true → g.enteredAt + 4320 ≤ c.now →
      exec (.contactorRampEnd t d) s = .next (afterRumbe s t d (c.into done)))
    ∧ (∀ u, g.pchgOffAt = some u → u ≤ c.now + 2400 →
      exec (.pchgOff t d) s = .next (afterRumbe s t d (c.into { c.r with gate := { g with pchg := false, pchgOffAt := none } })))
    ∧ (was = .ramp → g.enteredAt + 91200 ≤ c.now →
      exec (.rampTimeout t d) s = .next (afterRumbe s t d (c.into { opened 8 c.now with
        gate := { (opened 8 c.now).gate with rampFault := true } })))
    ∧ (∀ chg dsg ns, (was = .closed ∨ was = .chgOnly ∨ was = .dsgOnly) → c.r.head.drvContactor = false →
        (was ≠ .dsgOnly ∧ chg < 8500 ∨ was ≠ .chgOnly ∧ dsg < 8500) → 10000 ≤ ns →
      exec (.pumpUv t d chg dsg ns) s = .next (afterRumbe s t d (c.into { opened 10 c.now with
        gate := { (opened 10 c.now).gate with pumpUv := true } })))
    ∧ (g.openAt ≠ some c.now → was = g.st))

/-! ### Current, measurement, alarms (03, 04 4.2 to 4.4) -/

/-- The current channel (04 R59, R79 to R83, R538): the grid starts 250 microseconds after HEAD_EN; an interval's selected
sample goes into SUM_V and N_CUM and the steps it makes due (range, CAL_FROZEN, CUR_FAULT) happen as rows of their own.
VAUX (04 R98 to R100): the check after a soft start, undervoltage, thermal shutdown, the retries and the fault latched
by a fourth failed attempt. -/
def Obligations.CurrentAndVauxSteps : Prop :=
  (∀ (s : State) (t : Nat) (d : Dev),
    let c := turn s t d
    (c.r.cur.running = true → c.r.cur.gridAt = none → c.r.cur.settleAt ≤ c.now →
      exec (.modulatorSettle t d) s =
        .next (afterRumbe s t d (c.into { c.r with cur := { c.r.cur with gridAt := some c.now } })))
    ∧ (∀ hg lg ho lo g, c.r.cur.running = true → c.r.cur.gridAt = some g → g + 11880 ≤ c.now →
      let x := intervalCur c.r.cur c.r.head.shunt c.now hg lg ho lo
      ∃ n, exec (.currentInterval t d hg lg ho lo) s = .next n ∧ (n.rumbe d).cur = x.1 ∧ (n.rumbe d).due = x.2.2
        ∧ x.1.nCum = (c.r.cur.nCum + 1) % 2 ^ 32 ∧ x.1.gridAt = some c.now
        ∧ x.1.sumV = signed 80 (pattern 80 (c.r.cur.sumV + x.2.1))
        ∧ x.2.1 = (if c.r.cur.lgState || ho || decide (9000000 < hg) || decide (hg < -9000000) then
            (lgSample c.r.cur lg lo).1 else hg))
    ∧ (RDue.rangeHg ∈ (s.rumbe d).due → exec (.rangeToHg t d) s = .next (afterRumbe s t d ((before s t d).into
        { s.rumbe d with due := (s.rumbe d).due.erase .rangeHg, cur := { (s.rumbe d).cur with lgState := false, lgCnt := 0 } })))
    ∧ (RDue.calFrozen ∈ (s.rumbe d).due → exec (.calFrozen t d) s = .next (afterRumbe s t d ((before s t d).into
        { s.rumbe d with due := (s.rumbe d).due.erase .calFrozen, cur := { (s.rumbe d).cur with calFrozen := true } })))
    ∧ (RDue.curFault ∈ (s.rumbe d).due → exec (.curFaultLatch t d) s = .next (afterRumbe s t d ((before s t d).into
        { s.rumbe d with due := (s.rumbe d).due.erase .curFault, cur := { (s.rumbe d).cur with curFault := true } }))))
  ∧ (∀ (s : State) (t : Nat) (d : Dev),
    let c := turn s t d
    let v := c.r.vaux
    let fail := if 3 ≤ v.retries then { v with st := VauxSt.off, fault := true, low := false }
      else { v with st := .retryWait, since := c.now, low := false }
    (∀ mv, v.st = .softStart → v.since + 129600 ≤ c.now →
      exec (.vauxSoftStartCheck t d mv) s = .next (afterRumbe s t d (c.into { c.r with
        vaux := if mv < 1000 then fail else { v with st := .on, since := c.now } })))
    ∧ (∀ mv, v.st = .on → mv < 1000 → v.since + 48000 ≤ c.now →
      exec (.vauxUndervoltage t d mv) s = .next (afterRumbe s t d (c.into { c.r with vaux := fail })))
    ∧ (∀ tj, v.st = .on ∨ v.st = .softStart → 1450 ≤ tj →
      exec (.vauxThermalShutdown t d tj) s = .next (afterRumbe s t d (c.into { c.r with vaux := fail })))
    ∧ (v.st = .retryWait → v.since + 4560000 ≤ c.now →
      exec (.vauxRetry t d) s = .next (afterRumbe s t d (c.into { c.r with
        vaux := { v with st := .softStart, since := c.now, retries := v.retries + 1 } })))
    ∧ (∀ mv, v.st = .on → 4500 ≤ mv → v.since + 48000000 ≤ c.now →
      exec (.vauxRetryReset t d mv) s = .next (afterRumbe s t d (c.into { c.r with vaux := { v with retries := 0 } }))))

/-! ### Balancing (05) -/

/-- The schedule (05 R105, R118): an entry is faulted while a latch is set, refused for a cell or direction there is none
of, full at four, else queued last with its values held to their ranges; REPLACE first ends the transfer and empties the
queue; the answer tells the queue's length and each entry's status and applied values. -/
def Obligations.BalanceFramesQueueEntries : Prop :=
  ∀ (s : State) (t : Nat) (d : Dev) (x : Rx), commanded s t d x 0xB = true → balLenOk x.payload = true →
    let c := heard s t d x id
    let mode := natBit (byteAt x.payload 0) 0
    let c' := if mode then c.into { c.r with bal := balEndClear c.r.bal c.now 4 } else c
    let e := balEntriesDo x.payload (byteAt x.payload 1) 0 c'.r
    (mode = false → exec (.balanceAppend t d x) s = .next (afterRumbe s t d (answered (c'.into e.1) x 0xB 8
        (leBytes 1 (balStatus e.2.1) ++ leBytes 1 e.1.bal.queue.length ++ e.2.2))))
    ∧ (mode = true → exec (.balanceReplace t d x) s = .next (afterRumbe s t d (answered (c'.into e.1) x 0xB 8
        (leBytes 1 (balStatus e.2.1) ++ leBytes 1 e.1.bal.queue.length ++ e.2.2))))
    ∧ (∀ (r : Rumbe) (b : List Byte),
        (r.bal.selFault = true ∨ r.bal.priOc = true → (balEntryDo r b).1 = r ∧ (balEntryDo r b).2.1 = 4)
        ∧ (r.bal.selFault = false → r.bal.priOc = false → 1 ≤ byteAt b 0 → byteAt b 0 ≤ r.meas.nCells → byteAt b 1 ≤ 1 →
            r.bal.queue.length < 4 →
            (balEntryDo r b).1 = { r with bal := { r.bal with queue := r.bal.queue ++
              [{ cell := byteAt b 0, out := byteAt b 1 = 1, iSet := clampNat 100 2000 (leAt b 2 2)
                 qTgt := clampNat 1000 2000000000 (leAt b 4 4), tMax := clampNat 1 1000 (leAt b 8 2) }] } }))

/-- A transfer's life (05 R101, R103, R107 to R118): start, check, cycles and the ends TARGET, TIMEOUT, MODULE_V, PRI_OC and
OVERTEMP.
The end of a transfer (05 R112, R116): outputs off, the cause, ENDED and XFER_ID written, an entry put first into the log
of four; charge counters and queue stand; of two causes at one moment the higher code is recorded, for one transfer.
While a balancer latch is set no transfer starts, and with BAL_EN at 0 queued entries are held (05 R108, R118): the
step that would start one changes no part of the balancer. -/
def Obligations.BalanceTransferSteps : Prop :=
  (∀ (s : State) (t : Nat) (d : Dev),
    let c := turn s t d
    let b := c.r.bal
    (∀ e es, b.queue = e :: es → balMayStart c.r c.now = true →
      let b := { b with phase := .check, cur := e, queue := es, startAt := c.now, checkAt := c.now, offAt := none, xferQ := 0
                        qmb0 := b.qmb, seen := true }
      exec (.balTransferStart t d) s = .next (afterRumbe s t d (c.into { c.r with
        bal := if anyAlarm c.r || c.r.measFault then balEndClear b c.now 8 else b })))
    ∧ (∀ mv, b.phase = .check → b.holdUntil = none → b.checkAt + 4800 ≤ c.now →
      exec (.balCheckDone t d mv) s = .next (afterRumbe s t d (c.into { c.r with
        bal := if selFails c.r d mv then { balEndClear b c.now 9 with selFault := true }
          else { b with phase := .run, cycleAt := c.now } })))
    ∧ (∀ uv tp ts td, b.phase = .run → cycleMay b c.now tp ts = true → cycleFits c.r c.now uv tp ts = true →
      let q := cycleCharge c.r.balSet b.cur.out uv tp ts
      ∃ n, exec (.balCycle t d uv tp ts td) s = .next n ∧ (n.rumbe d).bal.xferQ = b.xferQ + q.1
        ∧ (n.rumbe d).bal.qmb = signed 48 (pattern 48 (b.qmb + q.2))
        ∧ (n.rumbe d).bal.qb = modAt b.qb (b.cur.cell - 1) (fun v => signed 48 (pattern 48 (v + q.1)))
        ∧ (td < 1250 → (b.cur.qTgt ≤ (b.xferQ + q.1).natAbs →
            (n.rumbe d).bal.phase = .idle ∧ (n.rumbe d).bal.cause = 1 ∧ (n.rumbe d).bal.ended = true
              ∧ (n.rumbe d).bal.xferId = (b.xferId + 1) % 65536)
          ∧ ((b.xferQ + q.1).natAbs < b.cur.qTgt → (n.rumbe d).bal.phase = .run)))
    ∧ (balActive b = true → b.startAt + b.cur.tMax * 48000000 ≤ c.now →
      exec (.balTimeout t d) s = .next (afterRumbe s t d (c.into { c.r with bal := balEnd b c.now 2 })))
    ∧ (∀ td, exec (.balOvertemp t d td) s = .next (afterRumbe s t d (c.into { c.r with bal := balTemp b c.now td })))
    ∧ (∀ uv ns, balActive b = true → 24 * c.r.balSet.ipk * c.r.balSet.rcs < uv * c.r.balSet.nr → 1000 ≤ ns →
      exec (.balPriOc t d uv ns) s = .next (afterRumbe s t d (c.into { c.r with
        bal := { balEndClear b c.now 10 with priOc := true } })))
    ∧ (∀ mv, exec (.balModuleV t d mv) s = .next (afterRumbe s t d (c.into { c.r with
        bal := if mv < 12000 ∨ 90000 < mv then { balEnd b c.now 6 with badModule := true } else { b with badModule := false } }))))
  ∧ (∀ (b : Bal) (now cause : Nat), b.phase ≠ .idle →
    let e := balEnd b now cause
    e.phase = .idle ∧ e.offAt = some now ∧ e.cause = cause ∧ e.ended = true ∧ e.xferId = (b.xferId + 1) % 65536
      ∧ e.log.head? = some { xferId := (b.xferId + 1) % 65536, cell := b.cur.cell, out := b.cur.out, cause := cause,
                             xferQ := b.xferQ, dQmb := b.qmb - b.qmb0 }
      ∧ e.log.length ≤ 4 ∧ e.queue = b.queue ∧ e.qb = b.qb ∧ e.qmb = b.qmb ∧ e.xferQ = b.xferQ
      ∧ (∀ k, sgDrive e k = .low) ∧ (∀ odd, pgDrive e odd = .low)
      ∧ ∀ other, (balEnd e now other).cause = max cause other ∧ (balEnd e now other).xferId = e.xferId)
  ∧ (∀ (s : State) (t : Nat) (d : Dev),
    ((s.rumbe d).bal.selFault = true ∨ (s.rumbe d).bal.priOc = true ∨ (s.rumbe d).balSet.en = false) →
    exec (.balTransferStart t d) s = .next (afterRumbe s t d (turn s t d)))

/-! ### CONTROL and urgent frames (06 Tables 6-4 to 6-6) -/

/-- Each CONTROL code addressed to a Rumbe does what its row of 06 Table 6-4 says and is acknowledged.
Broadcasts (06 Tables 6-3, 6-4, R539): GATE OPEN and the CONTROL codes that allow it execute with no answer; GATE CLOSE
and the codes that do not are repeated without action. -/
def Obligations.ControlCodesTakeEffect : Prop :=
  (∀ (s : State) (t : Nat) (d : Dev) (x : Rx), commanded s t d x 0xC = true → x.payload.length = 2 →
    let k := byteAt x.payload 0
    let arg := byteAt x.payload 1
    let c := heard s t d x id
    let ok := fun r => .next (afterRumbe s t d (answered (c.into r) x 0xC 8 [0x00#8]))
    let stop := { c.r with bal := balEndClear c.r.bal c.now 3 }
    (k = 1 → exec (.balStop t d x) s = ok stop)
    ∧ (k = 2 → ∃ n, exec (.faultClear t d x) s = .next n
        ∧ (n.rumbe d).gate = { c.r.gate with scTrip := false, rampFault := false, pchgFault := false, pumpUv := false }
        ∧ (n.rumbe d).bal = { c.r.bal with selFault := false, priOc := false } ∧ (n.rumbe d).cur.curFault = false
        ∧ (n.rumbe d).vaux.fault = false ∧ (n.rumbe d).measFault = c.r.measFault ∧ (n.rumbe d).alarms = c.r.alarms)
    ∧ (k = 3 → arg = 0x5A → exec (.softReset t d x) s = ok { c.r with softAt := some (c.now + 480 + (96 + frameTime 1)) })
    ∧ (k = 4 → exec (.modidAck t d x) s = ok { c.r with modidRef := c.r.modid })
    ∧ (k = 5 → ∃ n, exec (.clearId t d x) s = .next n ∧ (n.rumbe d).devId = 0)
    ∧ (k = 6 → aspBlocked c.r c.now = false →
        exec (.aspRelease t d x) s = ok { c.r with gate := { c.r.gate with aspHold := false } })
    ∧ (k = 6 → aspBlocked c.r c.now = true →
        exec (.aspRelease t d x) s = .next (afterRumbe s t d (answered c x 0xC 8 [0x03#8])))
    ∧ (k = 7 → arg < 2 → ∃ n, exec (.portCut t d x) s = .next n ∧ (portOf (n.rumbe d) (argPort arg)).cut = true
        ∧ (portOf (n.rumbe d) (otherPort (argPort arg))).cut = (portOf c.r (otherPort (argPort arg))).cut)
    ∧ (k = 8 → arg < 2 → ∃ n, exec (.portRestore t d x) s = .next n ∧ (portOf (n.rumbe d) (argPort arg)).cut = false
        ∧ (portOf (n.rumbe d) (otherPort (argPort arg))).cut = (portOf c.r (otherPort (argPort arg))).cut)
    ∧ (k = 9 → exec (.sleep t d x) s = ok { (if c.r.head.headEn then openReq c.r 1 c.now else c.r) with sleepAt := some (c.now + 4800) })
    ∧ (k = 10 → exec (.ringTest t d x) s = ok c.r)
    ∧ ((k = 0 ∨ 10 < k) → exec (.balStop t d x) s = .next (afterRumbe s t d (respond c x 8 [0x06#8]))))
  ∧ (∀ (s : State) (t : Nat) (d : Dev) (x : Rx), broadcast x = true →
    let k := byteAt x.payload 0
    let c := heard s t d x id
    let done := fun r => .next (afterRumbe s t d (c.into r))
    (hears s t d x 0xA = true → x.payload.length = 1 →
      (k = 0 → exec (.gateOpen t d x) s = done (if c.r.head.headEn then openReq c.r 1 c.now else c.r))
      ∧ (k = 1 → exec (.gateClose t d x) s = done c.r))
    ∧ (hears s t d x 0xC = true → x.payload.length = 2 →
      (k = 1 → exec (.balStop t d x) s = done { c.r with bal := balEndClear c.r.bal c.now 3 })
      ∧ (k = 3 → byteAt x.payload 1 = 0x5A → exec (.softReset t d x) s = done { c.r with softAt := some (c.now + 480) })
      ∧ (k = 5 → exec (.clearId t d x) s = done { c.r with devId := 0 })
      ∧ (k = 9 → exec (.sleep t d x) s =
          done { (if c.r.head.headEn then openReq c.r 1 c.now else c.r) with sleepAt := some (c.now + 4800) })
      ∧ (k = 10 → exec (.ringTest t d x) s = done c.r)
      ∧ (k = 2 → exec (.faultClear t d x) s = done c.r)
      ∧ (k = 4 → exec (.modidAck t d x) s = done c.r)
      ∧ (k = 6 → exec (.aspRelease t d x) s = done c.r)
      ∧ (k = 7 → exec (.portCut t d x) s = done c.r)
      ∧ (k = 8 → exec (.portRestore t d x) s = done c.r)))

/-- Urgent frames (06 R129, R132, R148, R156): relayed; EOPEN opens a head with cause 2 and ends every member's transfer
with EOPEN; STR_OPEN opens the head of that string; an alarm for the string, or for all, is taken by a protecting head;
ALARM_TRIP and a reserved code are only relayed; waiting frames leave when the port allows. -/
def Obligations.UrgentFramesTakeEffect : Prop :=
  ∀ (s : State) (t : Nat) (d : Dev) (u : URx), hearsUrgent s d u = true →
    let c := relayed s t d u
    let k := ucode u.bytes
    let q := { c.r with commAt := c.now }
    let arg := byteAt u.bytes 2
    let h := if c.r.head.headEn then openReq q 2 c.now else q
    let alarm := if arg = c.r.strId ∨ arg = 0 then aspTake c.r c.now else c.r
    (k = 1 → exec (.eopen t d u) s = .next (afterRumbe s t d (c.into { h with bal := balEndClear h.bal c.now 11 })))
    ∧ (k = 2 → exec (.strOpen t d u) s = .next (afterRumbe s t d (c.into
        (if c.r.head.headEn = true ∧ c.r.strId = arg then openReq q 2 c.now else q))))
    ∧ (k = 8 → exec (.alarmCell t d u) s = .next (afterRumbe s t d (c.into alarm)))
    ∧ (k = 9 → exec (.alarmMeas t d u) s = .next (afterRumbe s t d (c.into alarm)))
    ∧ (k = 10 → exec (.alarmTrip t d u) s = .next (afterRumbe s t d c))
    ∧ ((k = 0 ∨ 11 ≤ k) → exec (.reservedUrgentCode t d u) s = .next (afterRumbe s t d c))
    ∧ (3 ≤ k → k ≤ 7 → exec (.reservedUrgentCode t d u) s = .next (afterRumbe s t d (c.into q)))

/-- What waits at a port of a Rumbe goes out when the line there is free; an EOPEN does not wait for the receiver (06 R122,
R126, R132, R147).
An EOPEN that is relayed preempts another urgent frame on the line, which waits if it is the device's own; another frame
waits behind it (06 R132, R147).
A jabber guard at a Rumbe port cuts it in and counts, and lets it out (06 R154). -/
def Obligations.WaitingFramesLeave : Prop :=
  (∀ (s : State) (t : Nat) (d : Dev) (p : RPort),
    let c := turn s t d
    let q := portOf c.r p
    c.r.asleep = false → q.cut = false → urgentAfter q c.now = false →
    (∀ u us idle, q.uq = u :: us → (ucode u.bytes = 1 ∨ (idle = true ∧ q.freeAt ≤ c.now)) →
      exec (.urgentQueueSend t d p idle) s = .next (afterRumbe s t d
      ((c.into (updPort c.r p (fun q => { q with
          uq := us, utx := some (c.now + 192, u), tx := none, freeAt := max q.freeAt (c.now + 288) }))).emit
        (.rumbeUrgent d p u.bytes))))
    ∧ (∀ f, q.resend = some f → q.freeAt ≤ c.now →
      let e := max c.now q.freeAt + frameTime f.payload.length
      exec (.frameResend t d p true) s = .next (afterRumbe s t d
      ((c.into (updPort c.r p (fun q => { q with
          resend := none, tx := some { start := max c.now q.freeAt, till := e, frame := f }, freeAt := e + 96 }))).emit
        (.rumbeFrame d p f)))))
  ∧ (∀ (c : RCtx) (p : RPort) (since e : Nat) (bs : List Byte) (v : UFrame), (portOf c.r p).cut = false →
    (portOf c.r p).utx = some (e, v) → since < e → urgentDecodes bs = true →
    let u : UFrame := { bytes := bs, own := false }
    let n := relayUrgent c p since bs
    (ucode bs = 1 → ucode v.bytes ≠ 1 →
      (portOf n.r p).utx = some (c.now + 46, u) ∧ n.out = c.out ++ [.rumbeUrgent c.dev p bs]
        ∧ (portOf n.r p).uq = (if v.own then (queueUrgent (portOf c.r p) v).uq else (portOf c.r p).uq))
    ∧ (ucode bs ≠ 1 ∨ ucode v.bytes = 1 →
      (portOf n.r p).utx = some (e, v) ∧ (portOf n.r p).uq = (queueUrgent (portOf c.r p) u).uq ∧ n.out = c.out))
  ∧ (∀ (s : State) (t : Nat) (d : Dev) (p : RPort),
    let c := turn s t d
    ((portOf c.r p).jab = false → exec (.jabberCut t (.rumbe d p)) s = .next (afterRumbe s t d
      (c.into { updPort c.r p (fun q => { q with jab := true }) with jabCnt := (c.r.jabCnt + 1) % 65536 })))
    ∧ ((portOf c.r p).jab = true → exec (.jabberResume t (.rumbe d p)) s = .next (afterRumbe s t d
      (c.into (updPort c.r p (fun q => { q with jab := false }))))))

/-- A frame that changes nothing but one Rumbe: every command of a Rumbe leaves all the rest of the block, and every other
Rumbe, as it was; only time and the outputs of the step change besides. -/
def Obligations.RumbeRowsChangeOneRumbe : Prop :=
  ∀ (i : Instr) (s : State) (d : Dev), rumbeOf i = some d → ∃ (t : Nat) (r : Rumbe) (o : List Output),
    exec i s = .next { s with now := max s.now t, out := o, rumbes := tblSet (devIndex d) r s.rumbes }
      ∧ ∀ e : Dev, e ≠ d → ({ s with now := max s.now t, out := o, rumbes := tblSet (devIndex d) r s.rumbes } : State).rumbe e
          = s.rumbe e

/-- Only CLOSE, CHG_ONLY or DSG_ONLY takes a head out of OPEN (04 R88, R91, R92): any other command of a Rumbe leaves an
OPEN head OPEN. -/
def Obligations.OnlyGateCommandsLeaveOpen : Prop :=
  ∀ (i : Instr) (s n : State) (d : Dev), rumbeOf i = some d → (s.rumbe d).gate.st = .open → exec i s = .next n →
    (n.rumbe d).gate.st ≠ .open →
    ∃ t x, i = .gateClose t d x ∨ i = .gateChgOnly t d x ∨ i = .gateDsgOnly t d x

/-! ### Tile operations (08, 09) -/

/-- The K slot (09 Table 9-4, R222): 32-bit results of the two sources and the immediate, written one cycle later; nothing
where the destination is X0 to X7 (08 R190).
Palette and weight loads and Palette stores (09 Table 9-5, R216, R223, R225): the units addressed, with the two of a
wide access aligned down (08 R200); a bank that the step may not use aborts it with LEASE_FAULT.
Palette stores (09 Table 9-5, R216, R223, R225): the bytes of the register reach the addressed units of the tile's own
slice one cycle later, of another tile's eight cycles later; a bank the step may not use aborts it. -/
def Obligations.ScalarsLoadsAndStoresAct : Prop :=
  (∀ (s : State) (tile : Fin 64) (r : Run), runIn (landed s tile false) tile = some r →
    let l := landed s tile false
    let w := wordIn l tile 6 r
    let d := field w 52 4
    let x := xReg r (field w 48 4)
    let y := xReg r (field w 44 4)
    let i := field w 0 32
    let hi := field w 37 5
    let lo := field w 32 5
    let k := fun v => Host.Outcome.next (issued l tile 6 { writes := if d < 8 then [] else [(1, .x d (v % 2 ^ 32))] })
    (issues s tile 6 1 = true → exec (.kAdd tile) s = k (x + y))
    ∧ (issues s tile 6 2 = true → exec (.kSub tile) s = k (x + (2 ^ 32 - y)))
    ∧ (issues s tile 6 3 = true → exec (.and tile) s = k (x &&& y))
    ∧ (issues s tile 6 4 = true → exec (.or tile) s = k (x ||| y))
    ∧ (issues s tile 6 5 = true → exec (.xor tile) s = k (x ^^^ y))
    ∧ (issues s tile 6 6 = true → exec (.addi tile) s = k (x + i))
    ∧ (issues s tile 6 7 = true → exec (.shli tile) s = k (x * 2 ^ (i % 32)))
    ∧ (issues s tile 6 8 = true → exec (.shri tile) s = k (x / 2 ^ (i % 32)))
    ∧ (issues s tile 6 9 = true → exec (.sari tile) s = k (pattern 32 (signed 32 x / 2 ^ (i % 32))))
    ∧ (issues s tile 6 10 = true → exec (.movi tile) s = k i)
    ∧ (issues s tile 6 11 = true → exec (.muli tile) s = k (x * i))
    ∧ (issues s tile 6 12 = true → exec (.rdlc tile) s = k (lReg r (field w 42 2)))
    ∧ (issues s tile 6 13 = true → exec (.extu tile) s = k (if hi < lo then 0 else field x lo (hi - lo + 1))))
  ∧ (∀ (s : State) (tile : Fin 64) (ecc : Ecc) (r : Run), ecc ≠ .bad →
    let l := landed s tile (eccCorrected ecc)
    runIn l tile = some r →
    let w := wordIn l tile 5 r
    let e := tileEnv l tile.val r 5
    let at_ := fun (c sz xb ofs : Nat) => evenUnit (unitsOf c sz) ((xBase r xb + ofs) % 4096)
    let pal := fun (p c sz xb ofs lat : Nat) =>
      (loadDest c sz (memRead 0#8 (l.tile (tile.val / 16 * 16 + p)).pal (at_ c sz xb ofs * 128) (unitsOf c sz * 128))).map
        (fun d => (lat, d))
    let wst := fun (c sz xb ofs : Nat) =>
      (loadDest c sz (memRead 0#8 (l.sched.wstore.getD (tile.val / 16) [])
        (evenUnit (unitsOf c sz) ((xBase r xb + ofs) % 32768) * 128) (unitsOf c sz * 128))).map (fun d => (6, d))
    let c := field w 50 6
    let sz := field w 48 1
    let xb := field w 44 4
    let p := field w 28 4
    let c2 := field w 44 6
    (issues s tile 5 1 = true → c ≤ 0x33 → mayAccess e (tile.val % 16) (at_ c sz xb (field w 32 12)) = true →
      exec (.ldp tile ecc) s = .next (issued l tile 5 { writes := pal (tile.val % 16) c sz xb (field w 32 12) 2 }))
    ∧ (issues s tile 5 1 = true → c ≤ 0x33 → mayAccess e (tile.val % 16) (at_ c sz xb (field w 32 12)) = false →
      exec (.ldp tile ecc) s = .next (stopped l tile .leaseFault 5))
    ∧ (issues s tile 5 2 = true → c ≤ 0x33 → mayAccess e p (at_ c sz xb (field w 32 12)) = true →
      exec (.ldpr tile ecc) s = .next (issued l tile 5 { writes := pal p c sz xb (field w 32 12) 8 }))
    ∧ (issues s tile 5 3 = true → c ≤ 0x33 →
      exec (.ldw tile ecc) s = .next (issued l tile 5 { writes := wst c sz xb (field w 0 15) }))
    ∧ (issues s tile 5 4 = true → c ≤ 0x33 → c2 ≤ 0x33 →
      mayAccess e (tile.val % 16) (at_ c (field w 43 1) (field w 38 4) (field w 26 12)) = true →
      let wr := pal (tile.val % 16) c (field w 43 1) (field w 38 4) (field w 26 12) 2
        ++ wst c2 (field w 42 1) (field w 22 4) (field w 0 15)
      exec (.ldpw tile ecc) s = .next (issued l tile 5 { writes := wr }))
    ∧ (issues s tile 5 1 = true → 0x33 < c → exec (.ldp tile ecc) s = .next (stopped l tile .illegalOp 5)))
  ∧ (∀ (s : State) (tile : Fin 64) (r : Run), runIn (landed s tile false) tile = some r →
    let l := landed s tile false
    let w := wordIn l tile 4 r
    let e := tileEnv l tile.val r 4
    let c := field w 50 6
    let sz := field w 48 1
    let u := evenUnit (unitsOf c sz) ((xBase r (field w 44 4) + field w 32 12) % 4096)
    let p := field w 28 4
    (issues s tile 4 1 = true → c ≤ 0x33 → mayAccess e (tile.val % 16) u = true →
      exec (.stp tile) s = .next (issued l tile 4 { writes := [(1, .pal (tile.val % 16) (u * 128) (storeBytes r c sz))] }))
    ∧ (issues s tile 4 2 = true → c ≤ 0x33 → mayAccess e p u = true →
      exec (.stpr tile) s = .next (issued l tile 4 { writes := [(8, .pal p (u * 128) (storeBytes r c sz))] }))
    ∧ (issues s tile 4 1 = true → c ≤ 0x33 → mayAccess e (tile.val % 16) u = false →
      exec (.stp tile) s = .next (stopped l tile .leaseFault 4)))

/-- The M slot (09 Table 9-6, R226): each lane's product, negated by NEG, is added to the accumulator lane by MACV and MACB
and rounded once; MACB and MULB take lane J of Vb.
The arithmetic of the F slot (09 Table 9-7, R227): operands of one family, each lane exact and rounded once into D, to
nearest or by the words of S3 (09 R213). -/
def Obligations.VectorArithmeticLanes : Prop :=
  (∀ (s : State) (tile : Fin 64) (r : Run), runIn (landed s tile false) tile = some r →
    let l := landed s tile false
    let w := wordIn l tile 3 r
    let va := vReg r (field w 45 5)
    let vb := vReg r (field w 40 5)
    let acc := aReg r (field w 50 3)
    let j := field w 34 6
    let prod := fun x y => if natBit w 32 then (flMul (ofBf16 x) (ofBf16 y)).neg else flMul (ofBf16 x) (ofBf16 y)
    let fix := fun x y => if natBit w 32 then -(signed 16 x * signed 16 y) else signed 16 x * signed 16 y
    let mac := fun (b : Nat → Nat) => Host.Outcome.next (issued l tile 3 (lanesOut 4 (Dest.a (field w 53 3)) (fun i =>
      if natBit w 33 then toFp32 .nearest (flAdd (ofFp32 (lane acc i)) (prod (lane va i) (lane vb (b i))))
      else toFix .nearest 30 30 32 (signed 32 (lane acc i) + fix (lane va i) (lane vb (b i))))))
    let mul := fun (b : Nat → Nat) => Host.Outcome.next (issued l tile 3 (lanesOut 4 (Dest.a (field w 53 3)) (fun i =>
      if natBit w 33 then toFp32 .nearest (prod (lane va i) (lane vb (b i)))
      else toFix .nearest 30 30 32 (fix (lane va i) (lane vb (b i))))))
    (issues s tile 3 1 = true → exec (.macv tile) s = mac (fun i => i))
    ∧ (issues s tile 3 2 = true → exec (.macb tile) s = mac (fun _ => j))
    ∧ (issues s tile 3 3 = true → exec (.mulv tile) s = mul (fun i => i))
    ∧ (issues s tile 3 4 = true → exec (.mulb tile) s = mul (fun _ => j)))
  ∧ (∀ (s : State) (tile : Fin 64) (r : Run), runIn (landed s tile false) tile = some r →
    let l := landed s tile false
    let w := wordIn l tile 2 r
    let d := field w 50 6
    let st := natBit w 30
    let fl := natBit w 31
    let s3 := (fReg r (field w 32 6)).getD (zeroLanes, true)
    ∀ (a b : List Nat) (va vb : Bool), (∀ i ∈ ([50, 44, 38, 32] : List Nat), field w i 6 ≤ 0x27) →
      fReg r (field w 44 6) = some (a, va) →
      let rnd := fun i => if st then Rnd.stoch (lane s3.1 i % 65536) else Rnd.nearest
      let A := fun i => flLane va (lane a i)
      let B := fun i => flLane vb (lane b i)
      let X := fun i => fixLane va (lane a i)
      let Y := fun i => fixLane vb (lane b i)
      let out := fun (f : Nat → Fl) (g : Nat → Int) (bits : Nat) => Host.Outcome.next (issued l tile 2 (lanesOut 3 (fDest d)
        (fun i => if fl then flInto (d < 0x20) (rnd i) (f i) else fixInto (d < 0x20) (rnd i) bits (g i))))
      (issues s tile 2 10 = true → exec (.mov tile) s = out A X 30)
      ∧ (fReg r (field w 38 6) = some (b, vb) →
        (issues s tile 2 1 = true → exec (.fAdd tile) s = out (fun i => flAdd (A i) (B i)) (fun i => X i + Y i) 30)
        ∧ (issues s tile 2 2 = true → exec (.fSub tile) s = out (fun i => flSub (A i) (B i)) (fun i => X i - Y i) 30)
        ∧ (issues s tile 2 3 = true → exec (.mul tile) s = out (fun i => flMul (A i) (B i)) (fun i => X i * Y i) 60)
        ∧ (issues s tile 2 4 = true → st = false →
            exec (.fma tile) s = out (fun i => flAdd (flMul (A i) (B i)) (flLane s3.2 (lane s3.1 i)))
              (fun i => X i * Y i + fixLane s3.2 (lane s3.1 i) * 2 ^ 30) 60)
        ∧ (issues s tile 2 5 = true → exec (.max tile) s = out (fun i => flPick true (A i) (B i)) (fun i => max (X i) (Y i)) 30)
        ∧ (issues s tile 2 6 = true → exec (.min tile) s = out (fun i => flPick false (A i) (B i)) (fun i => min (X i) (Y i)) 30)))

/-- The other F operations (09 Table 9-7, R227, R228): SEL by the mask lanes of S3, CGT into a mask, CVT to the other
family, ACT through 64 segments of slope and intercept; a code that names no V or A register, in any register field of any F
operation, aborts it.
The P slot (09 Table 9-9, R233, R234, 12 R295, R300): DRAW gives the 64 words of its logical elements from a declared,
staged slot, or aborts; MASK and CMPM go by a compare with the immediate. -/
def Obligations.VectorSelectDrawAndMask : Prop :=
  (∀ (s : State) (tile : Fin 64) (r : Run), runIn (landed s tile false) tile = some r →
    let l := landed s tile false
    let w := wordIn l tile 2 r
    let d := field w 50 6
    let st := natBit w 30
    let fl := natBit w 31
    let m := field w 32 6
    let t := field w 38 6
    ((∃ i ∈ ([50, 44, 38, 32] : List Nat), 0x27 < field w i 6) →
      ∀ p ∈ [(1, Instr.fAdd tile), (2, .fSub tile), (3, .mul tile), (4, .fma tile), (5, .max tile), (6, .min tile),
          (7, .sel tile), (8, .cgt tile), (9, .cvt tile), (10, .mov tile), (11, .act tile)],
        issues s tile 2 p.1 = true → exec p.2 s = .next (stopped l tile .illegalOp 2))
    ∧ ∀ (a b : List Nat) (va vb : Bool), (∀ i ∈ ([50, 44, 38, 32] : List Nat), field w i 6 ≤ 0x27) →
      fReg r (field w 44 6) = some (a, va) →
      let ws := ((fReg r m).getD (zeroLanes, true)).1
      let rnd := fun i => if st then Rnd.stoch (lane ws i % 65536) else Rnd.nearest
      (issues s tile 2 7 = true → st = false → m ≤ 0x1F → fReg r t = some (b, vb) →
        exec (.sel tile) s = .next (issued l tile 2 (lanesOut 3 (fDest d) (fun i =>
          if lane (vReg r m) i ≠ 0 then moveLane fl va (d < 0x20) (lane a i) else moveLane fl vb (d < 0x20) (lane b i)))))
      ∧ (issues s tile 2 8 = true → d ≤ 0x1F → st = false → fReg r t = some (b, vb) →
        let gt := fun i => if fl then flLt (flLane vb (lane b i)) (flLane va (lane a i))
          else decide (fixLane vb (lane b i) < fixLane va (lane a i))
        exec (.cgt tile) s = .next (issued l tile 2
          { writes := [(3, .v d ((List.range 64).map (fun i => if gt i then 0xFFFF else 0)))] }))
      ∧ (issues s tile 2 9 = true →
        exec (.cvt tile) s = .next (issued l tile 2 (lanesOut 3 (fDest d) (fun i =>
          if fl then flFix (rnd i) (if d < 0x20 then 15 else 30) (if d < 0x20 then 16 else 32) (flLane va (lane a i))
          else flInto (d < 0x20) (rnd i) (fixFl 30 (fixLane va (lane a i)))))))
      ∧ (issues s tile 2 11 = true → fl = true → t ≤ 0x1F →
        exec (.act tile) s = .next (issued l tile 2 (lanesOut 3 (fDest d) (fun i =>
          let x := flLane va (lane a i)
          let k := actIndex (field w 27 3) x
          flInto (d < 0x20) (rnd i) (flAdd (flMul (ofBf16 (lane (vReg r (t / 2 * 2)) k)) x)
            (ofBf16 (lane (vReg r (t / 2 * 2 + 1)) k))))))))
  ∧ (∀ (s : State) (tile : Fin 64) (ecc : Ecc) (r : Run), ecc ≠ .bad →
    let l := landed s tile (eccCorrected ecc)
    runIn l tile = some r →
    let w := wordIn l tile 0 r
    let e0 := field w 0 16
    let xs := field w 36 4
    let k := if xs = 0 then 0 else xReg r xs % 8
    let vd := field w 51 5
    let vs := vReg r (field w 46 5)
    let vr := vReg r (field w 41 5)
    (∀ x, issues s tile 0 1 = true → e0 % 64 = 0 →
      findSlot (tblFind? s.sched.active tile.val) (field w 40 8) k (e0 / 256) = some x →
      exec (.draw tile ecc) s = .next (issued l tile 0
        { writes := [(1, .v vd ((List.range 64).map (fun i => stipWord x.states (e0 + i))))] }))
    ∧ (ecc = .clean → issues s tile 0 1 = true →
      findSlot (tblFind? s.sched.active tile.val) (field w 40 8) k (e0 / 256) = none →
      exec (.draw tile ecc) s = .next (stopped l tile .illegalOp 0))
    ∧ (ecc = .clean → issues s tile 0 2 = true → exec (.mask tile) s = .next (issued l tile 0
        { writes := [(1, .v vd ((List.range 64).map (fun i => if natBit w 31 ∨ lane vr i < e0 then lane vs i else 0)))] }))
    ∧ (ecc = .clean → issues s tile 0 3 = true → exec (.cmpm tile) s = .next (issued l tile 0
        { writes := [(1, .v vd ((List.range 64).map (fun i => if lane vr i < e0 then 0xFFFF else 0)))] })))

/-- The Q slot (09 Table 9-8, R229 to R232): what each recurrence or combination issues is what its table row computes; the
register numbers no row allows abort with ILLEGAL_OP. -/
def Obligations.StateOperationsCompute : Prop :=
  ∀ (s : State) (tile : Fin 64) (r : Run), runIn (landed s tile false) tile = some r →
    let l := landed s tile false
    let w := wordIn l tile 1 r
    let f := fun (n i : Nat) => ofFp32 (lane (aReg r n) i)
    let hn := field w 54 2
    let u := fun i => if natBit w 39 then flAdd (f (field w 40 3) i) (f (field w 36 3) i) else f (field w 40 3) i
    let co := fun (n : Nat) (i : Nat) => ofBf16 (lane (vReg r n) i)
    let h := fun i => hFl (lane (hReg r hn) i)
    let d := field w 53 3
    let s1 := field w 50 3
    let t1 := field w 47 3
    let an := field w 32 3
    let cen := natBit w 35
    let q8 := natBit w 31
    let fixed := natBit w 53
    let ui := fun i => signed 32 (lane (aReg r (field w 40 3)) i) + (if natBit w 39 then signed 32 (lane (aReg r (field w 36 3)) i) else 0)
    let ci := fun (n : Nat) (i : Nat) => signed 16 (lane (vReg r n) i)
    let hi := fun i => signed 40 (lane (hReg r hn) i)
    let rec_ := fun (g : Nat → Fl) (gi : Nat → Int) => Host.Outcome.next (issued l tile 1 (stateOut hn an cen (fun i =>
      if fixed then
        let v := toFix .nearest 47 32 40 (gi i)
        (v, copyFix q8 (signed 40 v.bits))
      else
        let v := toFp32 .nearest (g i)
        (v, copyFl q8 v.bits))))
    let sos := fun i => sosLane fixed (lane (vReg r (field w 48 5)) i) (lane (vReg r (field w 48 5 + 1)) i)
      (lane (vReg r (field w 48 5 + 2)) i) (lane (vReg r (field w 48 5 + 3)) i) (lane (vReg r (field w 48 5 + 4)) i)
      (lane (hReg r hn) i) (lane (hReg r (hn + 1)) i) (lane (aReg r (field w 40 3)) i) (lane (aReg r (field w 36 3)) i) (natBit w 39)
    let sosCopy := fun i => if fixed then copyFix q8 (signed 40 (sos i).1.bits) else copyFl q8 (sos i).1.bits
    let bits := fun (g : Nat → Rounded) => (List.range 64).map (fun i => (g i).bits)
    let prod := fun i => toFp32 .nearest (flMul (f s1 i) (f t1 i))
    let comb := fun i => toFp32 .nearest (flAdd (flMul (f t1 i) (f (s1 + 1) i)) (f (t1 + 1) i))
    (issues s tile 1 1 = true → exec (.ema tile) s =
      rec_ (fun i => flAdd (h i) (flMul (co (field w 48 5) i) (flSub (u i) (h i))))
        (fun i => hi i * 32768 + ci (field w 48 5) i * (ui i * 4 - hi i)))
    ∧ (issues s tile 1 2 = true → exec (.fo1 tile) s =
      rec_ (fun i => flAdd (flMul (co (field w 48 5) i) (h i)) (flMul (co (field w 43 5) i) (u i)))
        (fun i => ci (field w 48 5) i * hi i + ci (field w 43 5) i * ui i * 4))
    ∧ (issues s tile 1 3 = true → hn % 2 = 0 → field w 48 5 ≤ 27 →
      let wr := [(4, Dest.h hn 0 (bits (fun i => (sos i).2.1))), (4, Dest.h (hn + 1) 0 (bits (fun i => (sos i).2.2))),
                 (4, Dest.a an (bits sosCopy))]
      ∃ sat nan, exec (.sos tile) s = .next (issued l tile 1 { writes := wr, sat := sat, nan := nan }))
    ∧ (issues s tile 1 4 = true → d ≠ 7 → s1 ≠ 7 → t1 ≠ 7 →
      let wr := [(4, Dest.a d (bits prod)), (4, Dest.a (d + 1) (bits comb))]
      ∃ sat nan, exec (.scmb tile) s = .next (issued l tile 1 { writes := wr, sat := sat, nan := nan }))
    ∧ (issues s tile 1 5 = true → d ≤ 5 → s1 ≤ 5 → t1 ≤ 5 →
      let wr := [(4, Dest.a d (bits (fun i => scmb2Entry f s1 t1 (i / 2) 0 (i % 2)))),
                 (4, Dest.a (d + 1) (bits (fun i => scmb2Entry f s1 t1 (i / 2) 1 (i % 2)))),
                 (4, Dest.a (d + 2) (bits (fun i => scmb2Vec f s1 t1 (i / 2) (i % 2))))]
      ∃ sat nan, exec (.scmb2 tile) s = .next (issued l tile 1 { writes := wr, sat := sat, nan := nan }))
    ∧ (issues s tile 1 6 = true → fixed = false → s1 ≠ 7 →
      exec (.sapp tile) s = .next (issued l tile 1 (stateOut hn an cen (fun i =>
        let v := toFp32 .nearest (flAdd (flMul (f s1 i) (h i)) (f (s1 + 1) i))
        (v, copyFl q8 v.bits)))))
    ∧ (issues s tile 1 6 = true → fixed = true → exec (.sapp tile) s = .next (stopped l tile .illegalOp 1))
    ∧ (issues s tile 1 3 = true → (hn % 2 = 1 ∨ 27 < field w 48 5) → exec (.sos tile) s = .next (stopped l tile .illegalOp 1))

/-- The C slot, and opcode 0x00 of every slot (08 R189, R194, R195, R199, R207, 09 R219 to R221). -/
def Obligations.ControlOperationsSteerTile : Prop :=
  ∀ (s : State) (tile : Fin 64) (r : Run), runIn (landed s tile false) tile = some r →
    let l := landed s tile false
    let w := wordIn l tile 7 r
    let e := field w 44 10
    let n := if natBit w 43 then field (xReg r 0) 20 4 else field w 0 16
    let b := (field w 48 4, field w 44 4)
    let go := fun (l : State) (f : Run → Run) =>
      Host.Outcome.next (finish (advance (updRun l tile.val (fun r => markIssued 7 (f r))) tile.val))
    (∀ sl : Slot, issues s tile (slotRank sl) 0 = true →
      exec (.nop tile sl true) s = .next (issued l tile (slotRank sl) {})
        ∧ exec (.nop tile sl false) s = .next (stopped (s.at 0) tile .kstoreParity (slotRank sl)))
    ∧ (∀ sl : Slot, slotOpen s tile.val (slotRank sl) = true →
      (∀ o ∈ slotOps (slotRank sl), slotIs s tile.val (slotRank sl) o = false) →
      exec (.nop tile sl true) s = .next (stopped (s.at 0) tile .illegalOp (slotRank sl)))
    ∧ (issues s tile 7 1 = true → r.pc < e → (∀ f fs, r.loops = f :: fs → e ≤ f.stop) → n = 0 →
      exec (.loop tile) s = go l (fun r => { r with nextPc := some (e + 1) }))
    ∧ (issues s tile 7 1 = true → r.pc < e → (∀ f fs, r.loops = f :: fs → e ≤ f.stop) → n ≠ 0 → r.loops.length < 4 →
      exec (.loop tile) s = go l (fun r => { r with newLoop := some ({ n := field w 54 2, start := r.pc + 1, stop := e }, n) }))
    ∧ (issues s tile 7 1 = true → (e ≤ r.pc ∨ (n ≠ 0 ∧ 4 ≤ r.loops.length)) →
      exec (.loop tile) s = .next (stopped l tile .loopFault 7))
    ∧ (∀ q, issues s tile 7 2 = true → waitEntry l r = some q → r.stall = none →
      exec (.waitin tile) s = go l (fun r => takeOut 7 { writes := [(1, .v 31 (entryLanes q))] } { r with taken := r.taken + 1 }))
    ∧ (∀ q, issues s tile 7 2 = true → waitEntry l r = some q → r.stall = some .input →
      exec (.waitin tile) s = go (endStall l tile.val)
        (fun r => takeOut 7 { writes := [(1, .v 31 (entryLanes q))] } { r with taken := r.taken + 1 }))
    ∧ (issues s tile 7 2 = true → waitEntry l r = none → r.stall = none →
      exec (.waitin tile) s = .next (finish (beginStall l tile.val .input)))
    ∧ (issues s tile 7 3 = true → exec (.endstep tile) s = .next (finish (updRun l tile.val (fun r =>
        markIssued 7 { r with ended := true, out := (vReg r 30).take 16 }))))
    ∧ (issues s tile 7 4 = true → exec (.barrier tile) s = .next (finish (updRun
        (beginStall l tile.val (.barrier (field w 32 16) (field w 0 8))) tile.val (markIssued 7))))
    ∧ (issues s tile 7 5 = true → (b.1 = tile.val % 16 ∨ b ∈ r.held) → exec (.lease tile) s = go l (fun r => r))
    ∧ (issues s tile 7 5 = true → b.1 ≠ tile.val % 16 → b ∉ r.held →
      let req : LeaseReq := { bank := b.2, who := .remote tile, at_ := l.now }
      let asked := l.updTile (tile.val / 16 * 16 + b.1) (fun x => { x with requests := x.requests ++ [req] })
      exec (.lease tile) s = .next (finish (updRun (beginStall asked tile.val (.lease b.1 b.2)) tile.val (markIssued 7))))
    ∧ (issues s tile 7 6 = true → exec (.release tile) s =
        go (if b ∈ r.held then goHome l (tile.val / 16 * 16 + b.1) b.2 else l)
          (fun r => { r with held := r.held.filter (fun q => q != b) }))

/-- Results, barriers, leases and stalls of a tile (08 R192, R196, R201 to R203, Table 8-6, 09 R220): what the events of a
tile do.
Where two results of one cycle land in one register the higher slot's is kept, and the other is discarded whole, and a later
landing wins (08 R191): results are held in the order of their cycle, then of their slot, and one is hidden exactly by a
higher slot's of its cycle in its register. -/
def Obligations.TileEventsHappen : Prop :=
  (∀ (s : State) (t : Nat) (tile : Fin 64) (bank : Fin 16), s.sys.thermal.shut = false →
    let x := s.tile tile.val
    (∀ r, x.run = some r → r.stall = none → r.ended = false →
      exec (.resultLand tile) s = .next (finish (landDue (s.at 0) tile.val)))
    ∧ (∀ r y ys, x.run = some r → r.stall = none → r.ended = true → r.issued = 255 → r.flight = y :: ys →
      exec (.resultLand tile) s = .next (finish (landDue (updRun (s.at 0) tile.val
        (fun r => { r with cycle := max r.cycle y.land })) tile.val)))
    ∧ (barrierTiles s tile.val ≠ [] → (∀ p ∈ barrierTiles s tile.val, barrierTag s p = barrierTag s tile.val) →
      exec (.barrierComplete tile) s = .next (finish ((barrierTiles s tile.val).foldl (fun s p => advance (endStall s p) p) (s.at 0))))
    ∧ (∀ q, firstReq x bank.val = some q → holderOf x bank.val = .home →
        (bankInUse x bank.val = false ∨ gangLets s tile.val q.who = true) →
      let g := (s.at t).updTile tile.val (fun x => { x with
        holders := tblSet bank.val q.who x.holders, leaseAt := tblSet bank.val (max s.now t) x.leaseAt
        requests := x.requests.filter (fun y => !(y.bank == bank.val && y.who == q.who)) })
      (q.who = .swap ∨ q.who = .home → exec (.leaseGrant t tile bank q.who) s = .next (finish g))
      ∧ (q.who = .foreman → exec (.leaseGrant t tile bank q.who) s =
          .next (finish (dispatchTile (foremanWrites g tile.val) tile.val)))
      ∧ (∀ u, q.who = .remote u →
        let g := updRun g u.val (fun r => { r with held := r.held ++ [(tile.val % 16, bank.val)] })
        (∀ r, (g.tile u.val).run = some r → r.stall = some (.lease (tile.val % 16) bank.val) →
          exec (.leaseGrant t tile bank q.who) s = .next (finish (advance (endStall g u.val) u.val)))
        ∧ ((∀ r, (g.tile u.val).run = some r → r.stall ≠ some (.lease (tile.val % 16) bank.val)) →
          exec (.leaseGrant t tile bank q.who) s = .next (finish g))))
    ∧ (∀ r, x.run = some r → r.stall.isSome = true → r.stallAt + stallLimit r ≤ max s.now t → s.benchLive (tile.val / 16) = true →
      exec (.stallTimeout t tile) s = .next (stopped (s.at t) tile .stallTimeout 7))
    ∧ (∀ u : Fin 64, holderOf x bank.val = .remote u → s.benchLive (tile.val / 16) = true →
      tblGet 0 x.leaseAt bank.val + 2400 ≤ max s.now t →
      let owner := ((s.tile u.val).run.map (fun r => r.tenant)).getD 0xFF
      exec (.leaseExpiry t tile bank) s = .next (finish (abortTile (goHome (logFault (s.at t) 0x0303 1 false owner 2 tile.val
        (leBytes 1 bank.val ++ leBytes 1 1 ++ leBytes 1 u.val)) tile.val bank.val) u.val .leaseLost none)))
    ∧ (holderOf x bank.val = .swap → s.benchLive (tile.val / 16) = true → tblGet 0 x.leaseAt bank.val + 960 ≤ max s.now t →
      ∃ n, exec (.leaseExpiry t tile bank) s = .next n ∧ holderOf (n.tile tile.val) bank.val = .home)
    ∧ (holderOf x bank.val = .foreman → s.benchLive (tile.val / 16) = true →
      tblGet 0 x.leaseAt bank.val + 9600 ≤ max s.now t →
      ∃ n, exec (.leaseExpiry t tile bank) s = .next n ∧ holderOf (n.tile tile.val) bank.val = .home))
  ∧ (∀ (x : InFlight) (l : List InFlight),
    (∀ i j : Nat, i < j → ∀ a b, l[i]? = some a → l[j]? = some b → a.land < b.land ∨ a.land = b.land ∧ a.rank ≤ b.rank) →
    (∀ i j : Nat, i < j → ∀ a b, (insertFlight x l)[i]? = some a → (insertFlight x l)[j]? = some b →
      a.land < b.land ∨ a.land = b.land ∧ a.rank ≤ b.rank)
    ∧ (insertFlight x l).length = l.length + 1 ∧ (∀ y, y ∈ insertFlight x l ↔ y = x ∨ y ∈ l)
    ∧ ∀ y ∈ l, y.land = x.land → sameReg x.dest y.dest = true → x.rank < y.rank → hidden (insertFlight x l) x = true)

/-- A load whose check bits cannot be corrected aborts its step with MEM_UNCORR (08 R209).
An aborted step of a stream that is not ending and has not been retried is retried once, with its step counter, queue and
settings as they were; aborted again it is paused with the abort's reason (08 R208, 11 Table 11-2). -/
def Obligations.AbortedStepsAreRetriedOnce : Prop :=
  (∀ (s : State) (tile : Fin 64),
    (issues s tile 5 1 = true → exec (.ldp tile .bad) s = .next (stopped (s.at 0) tile .memUncorr 5))
    ∧ (issues s tile 5 2 = true → exec (.ldpr tile .bad) s = .next (stopped (s.at 0) tile .memUncorr 5))
    ∧ (issues s tile 5 3 = true → exec (.ldw tile .bad) s = .next (stopped (s.at 0) tile .memUncorr 5))
    ∧ (issues s tile 5 4 = true → exec (.ldpw tile .bad) s = .next (stopped (s.at 0) tile .memUncorr 5)))
  ∧ (∀ (s : State) (n : Nat) (code : AbortCode), (s.stream n).ending = false →
    ((s.stream n).retry = false →
      let x := s.stream n
      (streamAbort s n code).stream n =
        { x with retry := true, reset := x.reset || x.resetNew, resetNew := false })
    ∧ ((s.stream n).retry = true → (s.stream n).between = {} → (s.stream n).swap = false →
      ((streamAbort s n code).stream n).den = false ∧ ((streamAbort s n code).stream n).pauseReason = 0x0F + abortNo code
        ∧ ((streamAbort s n code).stream n).retry = false))

/-! ### Scheduler, staging, swap (08 8.8, 11, 12) -/

/-- A due step or eligible work makes its idle tile take what the dispatcher picks: the earliest ONLINE deadline, else BATCH,
else MAINT (11 R278, R279).
What a dispatched stream's step starts with (08 R205, Table 8-7): its kernel's entry, the state copy of its parity or the
initial state after RESET, the other copy to write, the oldest queue entry in V31. -/
def Obligations.DueWorkIsDispatched : Prop :=
  (∀ (s : State) (t : Nat) (w : Work),
    let u := s.at t
    let tile := workTile u w
    workReady u w = true → tileIdle u tile = true →
    (∀ n, pickOnline u tile = some n → exec (.stepDue t w) s = .next (finish (dispatchStream u n)))
    ∧ (∀ b, pickOnline u tile = none → pickBg u tile 1 = some b →
        exec (.stepDue t w) s = .next (finish (dispatchBg u tile 1 b)))
    ∧ (∀ b, pickOnline u tile = none → pickBg u tile 1 = none → pickBg u tile 2 = some b →
        exec (.stepDue t w) s = .next (finish (dispatchBg u tile 2 b))))
  ∧ (∀ (s : State) (n : Nat),
    let st := s.stream n
    let kt := tblGet {} (s.tile st.tile).ktab st.kt
    let copy := fun (k : Nat) => (st.unit + k % 2 * kt.stateUnits) % 4096
    ∃ r, ((dispatchStream s n).tile st.tile).run = some r ∧ r.work = .stream (sNo n) ∧ r.kt0 = kt ∧ r.pc = kt.entry
      ∧ r.cycMax = kt.cycMax ∧ r.cls = st.cls ∧ r.tenant = st.tenant ∧ r.wasReset = st.reset ∧ r.startAt = s.now
      ∧ tblGet 0 r.x 3 = (if st.reset then kt.initBase else copy st.step) ∧ tblGet 0 r.x 4 = copy (st.step + 1)
      ∧ tblGet 0 r.x 6 = st.out ∧ (st.noin = false → tblGet zeroLanes r.v 31 = entryLanes (st.queue.headD []))
      ∧ r.taken = b2n (!st.noin))

/-- A step that has ended and landed commits (08 R207, 11 R265, R270, R287, 13 R306): its stream's counter goes up by one,
its inputs leave the queue, an ONLINE step's nominal due time moves on by one period; an estimate goes to the Assayer.
A pending ONLINE step more than eight periods late is BEHIND, and its owner is told once (11 R289).
A job paused because even G = 64 no longer fits ends after 60 seconds with its code (10 Table 10-9). -/
def Obligations.StepsCommitOrFallBehind : Prop :=
  (∀ (s : State) (t : Nat) (tile : Fin 64) (r : Run) (n : Fin 16384), mayCommit s tile.val = true →
    (s.tile tile.val).run = some r →
    exec (.stepCommit t tile) s = .next (finish (commitTile (s.at t) tile.val))
    ∧ (r.work = .stream n →
      let st := s.stream n.val
      st.ending = false → st.between = {} → st.swap = false →
      let x := (commitTile (s.at t) tile.val).stream n.val
      x.step = (st.step + 1) % 2 ^ 48 ∧ x.queue = st.queue.drop (if r.gone then 0 else r.taken) ∧ x.retry = false
        ∧ x.nomDue = (if st.cls = 0 ∧ r.moved = false then (st.nomDue + periodOf st) % 2 ^ 48 else st.nomDue)
        ∧ (st.out / 2 ^ 30 = 0 → ∃ e, (commitTile (s.at t) tile.val).assayer.inbox = s.assayer.inbox ++ [e]
            ∧ e.cell = st.out % 4096 ∧ e.seq = r.input.getD 12 0 ∧ e.step = st.step)))
  ∧ (∀ (s : State) (t : Nat) (n : Fin 16384),
    let u := s.at t
    let st := u.stream n.val
    st.valid = true → st.den = true → st.cls = 0 → inFlight u n.val = false → u.sys.computeUp = true → dueUnknown u st = false →
    (8 * periodOf st : Int) < lagInt u st →
    ∃ x, exec (.behindCheck t n) s = .next x ∧ (x.stream n.val).behind = true
      ∧ (st.behind = true → exec (.behindCheck t n) s = .next (finish u)))
  ∧ (∀ (s : State) (t : Nat) (job : Fin 65536) (j : Job) (img : Image) (a : Nat),
    let u := s.at t
    jobOf u job.val = some j → j.refitAt = some a → imageOf u j.image = some img → a + 2880000000 ≤ u.now →
    j.st = .paused → gFits u img j 64 = false →
    exec (.jobRefitTimeout t job) s = .next (finish (endJob u job.val 5)))

/-- The staging unit fills a tile's bank for its next candidate and marks it whole (12 R297 to R299).
The swap engine's copies (11 R281, R283 to R285): a bring-in takes its stream's lane and asks for the banks; a finished
copy has moved the area and gives the banks back. -/
def Obligations.BanksAndAreasAreFilled : Prop :=
  (∀ (s : State) (t : Nat) (tile : Fin 64),
    let u := s.at t
    (∀ w key, stageNeed u tile.val w = some key → nextCandidate u tile.val = some w → bankFor u tile.val w key.2.1 = false →
      u.sys.stippleOk = true → u.tileLive tile.val = true → u.sched.stageWait = [] →
      exec (.stagingRequest t tile w) s = .next (finish (takeStaging { u with sched := { u.sched with
        stage := tblDel tile.val u.sched.stage, stageWait := [(tile.val, w)] } })))
    ∧ (∀ b, tblFind? u.sched.stage tile.val = some b → (∀ e, b.doneAt = some e → e ≤ u.now) →
      exec (.stagingDone t tile) s = .next (finish (takeStaging { u with sched := { u.sched with
        stage := tblSet tile.val { b with doneAt := none } u.sched.stage } }))))
  ∧ (∀ (u : State) (tile : Fin 64) (w : Work),
    (u.now < u.sched.stagingFree → takeStaging u = u)
    ∧ (∀ keys step seed ls, u.sched.stagingFree ≤ u.now → u.sched.stageWait = [(tile.val, w)] → u.tileLive tile.val = true →
      stageNeed u tile.val w = some (keys, step, seed, ls) →
      let stop := u.now + ceilDiv (480 + 96 * keys.length) 100
      let b : StipBank := { work := w, step := step, doneAt := some stop
                            slots := keys.map (fun k => stipSlot seed ls step k.1 k.2.1 k.2.2) }
      takeStaging u = { u with sched := { u.sched with
        stage := tblSet tile.val b u.sched.stage, stagingFree := stop, stageWait := [] } }))
  ∧ (∀ (s : State) (t : Nat) (n : Fin 16384),
    let u := s.at t
    let k := n.val
    let st := u.stream k
    let size := areaUnits u st
    (∀ i l, swapSlot u st = some (i, l) → bringReady u st = true → bringLater u k = false →
      let v := { u with sched := { u.sched with lanes := tblSet i { l with user := some k } u.sched.lanes } }
      exec (.swapBringIn t n) s = .next (finish (startCopy (v.updStream k (fun x => { x with tile := l.tile, unit := l.unit })) k
        .bringIn)))
    ∧ (∀ x, copyHeld u k = some x →
      (x.kind = .bringIn → dramUsable u (st.storePtr.getD 0 * 128) (size * 128) = true →
        let v := endCopy (palWrite u st.tile st.unit (dramRead u (st.storePtr.getD 0 * 128) (size * 128))) k
        (st.swap = false ∨ (x.cancelled = false ∧ st.den = true) →
          exec (.swapBringInDone t n) s = .next (finish (settleStream (v.updStream k (fun y => { y with res := true })) k)))
        ∧ (st.swap = true → (x.cancelled = true ∨ st.den = false) →
          exec (.swapBringInDone t n) s =
            .next (finish (settleStream ((freeSlot v k).updStream k (fun y => { y with res := false })) k))))
      ∧ (x.kind = .writeBack → exec (.swapWriteBackDone t n) s = .next (finish (settleStream
          ((freeSlot (endCopy (storeArea u k) k) k).updStream k (fun y => { y with res := false, stored := some y.step })) k)))
      ∧ (x.kind = .checkpoint → exec (.checkpointDone t n) s = .next (finish (settleStream
          ((endCopy (storeArea u k) k).updStream k (fun y => { y with ckptAt := u.now, stored := some y.step })) k)))
      ∧ (∀ tl un, x.kind = .migrate tl un → u.benchLive (tl / 16) = true →
        let v := widenMask (palWrite u tl un (palRead u st.tile st.unit size)) tl st.kt un size
        exec (.migrationDone t n) s = .next (finish (settleStream
          ((freeSlot (endCopy v k) k).updStream k (fun y => { y with tile := tl, unit := un })) k)))))

/-! ### Chain pairs at Broros (02 2.5, 06, 07 R165, 21 R491) -/

/-- The rows that run a sweep: its start and next due time (02 R46, R47, R49, 06 R142), the break that port B shows (R149),
the returns at port B (R134, R143, R144, R152), collection and its recovery (R144, R150), its close (07 R165). -/
def Obligations.SweepRowsRunSweep : Prop :=
  ∀ (s : State) (t : Nat) (p : Fin 4) (q : Pair), s.shellUp = true → s.pairs[p.val]? = some q →
    let now := max s.now t
    let z := s.at t
    let per := sweepPeriod q
    (∀ d, q.nextDue = some d → d ≤ now → q.collecting = false → pairSweeps q = true → q.portA.busy ≤ now →
        q.portB.busy ≤ now → leaves (.sweepDue t p) s p.val (fun r u =>
      r.curSeq = some q.seq ∧ r.seq = (q.seq + 1) % 65536 ∧ r.due = q.nextNom ∧ r.nextNom = q.nextNom + per
      ∧ r.nextDue = some (if now ≤ q.nextNom then q.nextNom + per
          else max (q.nextNom + per) (now + ceilDiv ((100 - s.foreman.catchup) * per) 100))
      ∧ r.behind = (decide (q.nextNom < now) && (q.behind || decide (8 * per < now - q.nextNom)))
      ∧ r.sweepAt = now ∧ r.closeAt = now + 144000 ∧ r.collecting = true ∧ r.asked = false ∧ r.got = []
      ∧ (q.st = .ring ∨ q.restoreRing = true →
          r.st = .ring ∧ .chainFrame p .a (brorosFrame 1 false false 0x3F q.portA.fseq (leBytes 2 q.seq)) ∈ u.out)))
    ∧ (q.st = .ring → overdue z p.val 1 = true → leaves (.portBSweepTimeout t p) s p.val (fun r u =>
      r.st = .broken
      ∧ .chainFrame p .b (brorosFrame 2 true false q.nExp q.portB.fseq (leBytes 2 (q.curSeq.getD 0))) ∈ u.out))
    ∧ (q.st = .enumerating → overdue z p.val 9 = true → leaves (.portBSweepTimeout t p) s p.val (fun r _ =>
      r.st = .broken ∧ r.asked = true))
    ∧ (∀ line, lineFrame line = true → returns z p.val (returnKind s p.val line) = true →
      let ok := lineGood line
      let b := linePayload line
      let back := leaves (.portBReturn t p line) s p.val
      (returnKind s p.val line = 1 → back (fun r _ => r.awaited = q.awaited.filter (fun a => a.kind != 1) ∧ r.st = q.st))
      ∧ (returnKind s p.val line = 3 → back (fun r _ => r.awaited = q.awaited.filter (fun a => a.kind != 3)
          ∧ r.damaged = (q.damaged || !ok || byteAt b 2 != q.nExp)))
      ∧ (returnKind s p.val line = 9 →
        (ok = true → back (fun r _ => r.nFound = byteAt b 0 - 1))
        ∧ (ok = false → q.enumTries < 3 → back (fun r u => r.enumTries = q.enumTries + 1
            ∧ .chainFrame p .a (brorosFrame 9 false false 0x3F ((q.portA.fseq + 1) % 256) (leBytes 1 1)) ∈ u.out))
        ∧ (ok = false → 3 ≤ q.enumTries → back (fun r _ => r.enumTries = q.enumTries)))
      ∧ (returnKind s p.val line = 0xC → back (fun r _ =>
          r.ringTest = if ok = true ∧ q.st = .split then true else q.ringTest)))
    ∧ (q.collecting = true → q.asked = false → pairSweeps q = true → q.sweepAt + 9600 ≤ now →
      leaves (.collectDue t p) s p.val (fun r u => r.asked = true
        ∧ (q.st = .ring → r.silent = true ∧
            .chainFrame p .a (brorosFrame 3 false false 0x3F q.portA.fseq (leBytes 2 (q.curSeq.getD 0) ++ [0#8])) ∈ u.out)))
    ∧ (q.st = .ring → overdue z p.val 3 = true →
      leaves (.collectReturnTimeout t p) s p.val (fun r _ => r.st = .broken ∧ r.asked = true))
    ∧ (q.st = .ring → q.collecting = true → q.asked = true → q.silent = true ∨ q.damaged = true → awaitedOf s p.val 3 = none →
        lacking q ≠ [] → q.rxAt + 4800 ≤ now →
      leaves (.collectRecovery t p) s p.val (fun r _ => r.silent = false ∧ r.damaged = false))
    ∧ (q.st = .broken → q.asked = true → pairReads q = false →
      leaves (.reverseRetrievalDone t p) s p.val (fun r _ => r.st = .split ∧ r.hA = q.portA.reach ∧ r.hB = q.portB.reach))
    ∧ (∀ h below above, s.sys.ctrlUp = true → q.st = .split → q.suspect = some h → 1 < h → h < q.nExp →
        q.jabBelow = some below → q.jabAbove = some above → below ≠ (lmem s (memNo p.val h - 1)).jabCnt →
        above ≠ (lmem s (memNo p.val h + 1)).jabCnt →
      leaves (.babblerIsolation t p) s p.val (fun r u => r.suspect = none ∧ (lmem u (memNo p.val h)).isolated = true))
    ∧ (q.collecting = true → q.closeAt ≤ now ∨ collectionOver q = true →
      leaves (.collectionClose t p) s p.val (fun r _ => r.collecting = false ∧ r.silent = false ∧ r.damaged = false
        ∧ r.lateCnt = if q.nextNom < min now q.closeAt then (q.lateCnt + 1) % 2 ^ 32 else q.lateCnt))

/-- The rows of addressed commands at Broros: a window sends the next one and holds it outstanding (06 R138, R141), its
answer completes it and maps RSTAT to a mailbox status (16 R375), silence for 100 microseconds sends it again with its
FSEQ, and after two more the member is UNRESPONSIVE and the request ends with TIMEOUT (06 R138); a GATE that would close is
refused while EOPEN_N is low (06 R146).
Records and balance counters at Broros (06 R138, R145, 07 R164): a record of the sweep in progress is kept for the close, the
read it answers is complete, and the answer to a read of a member's balance counters gives them. -/
def Obligations.ChainCommandsAreAnswered : Prop :=
  (∀ (s : State) (t : Nat) (p : Fin 4) (sd : Side) (q : Pair), s.shellUp = true → s.pairs[p.val]? = some q →
    let now := max s.now t
    let k := sidePort q sd
    (∀ c cs, k.queue = c :: cs → pairTalks q = true → mayStart (s.at t) p.val sd c.payload.length = true →
      (gateBarred s c = false → c.addr ≠ 0x3F → leaves (.chainCommandWindow t p sd) s p.val (fun r u =>
        (sidePort r sd).queue = cs ∧ (sidePort r sd).fseq = (k.fseq + 1) % 256
        ∧ (∃ o, (sidePort r sd).out = some o ∧ o.cmd = c ∧ o.fseq = k.fseq ∧ o.tries = 0)
        ∧ .chainFrame p sd (brorosFrame c.type c.pos true c.addr k.fseq c.payload) ∈ u.out))
      ∧ (gateBarred s c = true → leaves (.chainCommandWindow t p sd) s p.val (fun r u =>
        (sidePort r sd).queue = cs ∧ (sidePort r sd).out = none
        ∧ ∀ m, c.origin = .mailbox m → s.foreman.current = some m → answersWith u m 2 0x2C)))
    ∧ (∀ (o : Outstanding) (line : List Chip), k.out = some o → (∀ i, o.cmd.origin ≠ .balRead i) → lineGood line = true →
        lineType line = 8 → lineH0 line 3 = true → lineFseq line = o.fseq →
      leaves (.ack t p sd line) s p.val (fun r u => (sidePort r sd).out = none
        ∧ ∀ m, o.cmd.origin = .mailbox m → s.foreman.current = some m → 1 < byteAt (linePayload line) 0 →
            answersWith u m (ackMap (byteAt (linePayload line) 0)).1 (ackMap (byteAt (linePayload line) 0)).2))
    ∧ (∀ o : Outstanding, k.out = some o → o.sentAt + 4800 ≤ now → gateBarred s o.cmd = false → o.cmd.noRetry = false →
        o.tries < 2 → lineOk (s.at t) p.val o.cmd.payload.length = true →
      let e := txStart (s.at t) p.val sd + frameTime o.cmd.payload.length
      leaves (.commandTimeout t p sd) s p.val (fun r u => r.timeouts = (q.timeouts + 1) % 65536
        ∧ (sidePort r sd).out = some { o with tries := o.tries + 1, sentAt := e }
        ∧ .chainFrame p sd (brorosFrame o.cmd.type o.cmd.pos true o.cmd.addr o.fseq o.cmd.payload) ∈ u.out))
    ∧ (∀ o : Outstanding, k.out = some o → o.sentAt + 4800 ≤ now → gateBarred s o.cmd = false → o.cmd.noRetry = false →
        2 ≤ o.tries →
      leaves (.commandTimeout t p sd) s p.val (fun r u => (sidePort r sd).out = none
        ∧ (lmem u (memNo p.val (memberAt s p.val sd o.cmd.pos o.cmd.addr))).unresponsive = true
        ∧ ∀ m, o.cmd.origin = .mailbox m → s.foreman.current = some m → answersWith u m 10 0)))
  ∧ (∀ (s : State) (t : Nat) (d : Dev) (q : Pair) (line : List Chip), s.shellUp = true →
    s.pairs[d.pair.val]? = some q → lineGood line = true →
    let b := linePayload line
    let i := d.pair.val * 32 + d.mem.val
    (pairCarries q = true → isRecord line = true →
      (readSide s d.pair.val (d.mem.val + 1) = none → q.st = .ring → lineFseq line = q.collectFseq →
          lineAddr line = d.mem.val + 1 ∨ lineAddr line = 0 → q.collecting = true → q.curSeq = some (leAt b 0 2) →
          recOf q (d.mem.val + 1) = none →
        leaves (.record t d line) s d.pair.val (fun r u =>
          recOf r (d.mem.val + 1) = some b ∧ (lmem u (memNo d.pair.val (d.mem.val + 1))).lastAt = max s.now t))
      ∧ (∀ sd o, readSide s d.pair.val (d.mem.val + 1) = some (sd, o) → lineFseq line = o.fseq →
        leaves (.record t d line) s d.pair.val (fun r _ => (sidePort r sd).out = none)))
    ∧ (∀ sd o, balSide s d.pair.val i = some sd → (sidePort q sd).out = some o → lineType line = 8 → lineH0 line 3 = true →
        lineFseq line = o.fseq → byteAt b 0 = 0 →
      let ws := wordsOf (b.drop 1)
      ∃ u, exec (.ledgerBalanceRead t d line) s = .next u ∧ (lmem u i).needRead = false ∧ (lmem u i).counted = true
        ∧ (lmem u i).qmb = signed 48 (ws.getD 54 0 + ws.getD 55 0 * 65536 + ws.getD 56 0 * 4294967296)))

/-- Wake, enumeration, ring test, urgent frames, the EOPEN pin and the jabber guards (06 R134, R141, R146, R148, R152, R154,
R158; 19 R440); a SET_PAIR of a direct pair ends with the wake (the model's reading: assumption log 148). -/
def Obligations.ChainUpkeepRows : Prop :=
  ∀ (s : State) (t : Nat) (p : Fin 4) (sd : Side) (q : Pair), s.shellUp = true → s.pairs[p.val]? = some q →
    let now := max s.now t
    let z := s.at t
    (testDue z p.val sd = true → leaves (.ringTestDue t p sd) s p.val (fun r u =>
      .chainFrame p sd (brorosFrame 0xC false false 0x3F (sidePort q sd).fseq [0x0A#8, 0#8]) ∈ u.out
      ∧ (sd = .a → r.testAt = now)))
    ∧ (q.wakeEnd + 480000 ≤ now →
      (q.st = .waking → leaves (.chainWakeDone t p) s p.val (fun r u => r.st = .enumerating ∧ r.enumTries = q.enumTries + 1
        ∧ .chainFrame p .a (brorosFrame 0xC false false 0x3F q.portA.fseq [0x05#8, 0#8]) ∈ u.out
        ∧ .chainFrame p .a (brorosFrame 9 false false 0x3F ((q.portA.fseq + 1) % 256) [0x01#8]) ∈ u.out))
      ∧ (q.st = .directWake → leaves (.chainWakeDone t p) s p.val (fun r u =>
          r.st = .direct ∧ (q.bringup = false → r.nextDue = some now ∧ r.nFound ≤ q.nExp ∧ ∀ k ∈ u.foreman.tickets, k.what ≠ .pair p.val))))
    ∧ (q.bringup = false → enumOver z p.val = true →
      leaves (.enumerationDone t p) s p.val (fun r u => r.ready = true ∧ r.nextDue = some now
        ∧ (q.st = .enumerating → r.st = .ring) ∧ (q.st = .split → r.st = .split)
        ∧ ∀ k ∈ u.foreman.tickets, k.what ≠ .pair p.val))
    ∧ (q.bringup = true → enumOver z p.val = true ∨ (q.st = .direct ∧ pairDrained q = true) →
      leaves (.pairBringupDone t p) s p.val (fun r _ => r.ready = true ∧ r.bringup = false ∧ r.nextDue = some now))
    ∧ (∀ line, urgentDecodes (lineUrgent line) = true → (portsOn s p.val).contains sd = true →
      leaves (.urgentRx t p sd line) s p.val (fun r v =>
        let b := lineUrgent line
        let old := (sidePort q (match sd with | .a => .b | .b => .a)).lastUrgent
        (∀ a, old = some (b.take 3, a) → now ≤ a + 4800 → (v.port 0).events = (s.port 0).events)
        ∧ (old = none → (sidePort r sd).lastUrgent = some (b.take 3, now)
            ∧ (s.sys.ctrlUp = true → (s.port 0).events.length < 64 → ∃ e, (v.port 0).events = (s.port 0).events ++ [e]
                ∧ e.opcode = 0x02E6
                ∧ e.payload = leBytes 8 (tb z) ++ (leBytes 1 p.val ++ leBytes 1 (ucode b) ++ leBytes 1 (byteAt b 1 % 64)
                    ++ leBytes 1 (byteAt b 2))))))
    ∧ ((portsOn s p.val).contains sd = true → leaves (.jabberCut t (.broros p sd)) s p.val (fun r _ => (sidePort r sd).jab = true))
    ∧ leaves (.jabberResume t (.broros p sd)) s p.val (fun r _ => (sidePort r sd).jab = false)
    ∧ (s.eopen.low = false → ∃ u, exec (.eopenNAccept t) s = .next u ∧ u.eopen = { low := true, nextAt := now + 480000 }
        ∧ ∀ a ∈ allPorts s, .chainUrgent (pNo a.1) a.2 (urgentSeal [0x1A#8, 0x3F#8, 0#8]) ∈ u.out)
    ∧ (s.eopen.low = true → s.eopen.nextAt ≤ now → ∃ u, exec (.eopenRepeat t true) s = .next u
        ∧ u.eopen = { low := true, nextAt := now + 480000 }
        ∧ ∀ a ∈ allPorts s, .chainUrgent (pNo a.1) a.2 (urgentSeal [0x1A#8, 0x3F#8, 0#8]) ∈ u.out)
    ∧ (s.eopen.low = true → ∃ u, exec (.eopenRepeat t false) s = .next u ∧ u.eopen.low = false)

/-! ### Mailbox commands (15, 16): each on a request that passes the checks of 15 R368 -/

/-- The commands of the system group (16 Table 16-3, 02 R47, 15 R356, R357, R372, 20 R459, 16 R379).
The diagnostics commands (16 Table 16-11, R394; 21 R480, R481; 19 R449): log reads, a clear that writes each standing
condition afresh, status, stored test levels, and a challenge that serves one unlock. -/
def Obligations.SystemCommandsExecute : Prop :=
  (∀ (s : State) (t : Nat) (r : Req),
    let b := r.payload
    (granted s t 0x0101 r → plain r 0 →
      exec (.ident t) s = .next (served (answer (begun s t 0x0101) r (identBytes (begun s t 0x0101) r.tenant))))
    ∧ (granted s t 0x0102 r → plain r 1 → r.tenant = 0 ∨ byteAt b 0 = r.tenant → byteAt b 0 ≤ 15 →
      ∃ u, exec (.tenantStatus t) s = .next u ∧ answersSo u r 0 (fun m =>
        m.payload.take 2 = leBytes 1 (byteAt b 0) ++ leBytes 1 (b2n (byteAt b 0 == 0 || (quotas s (byteAt b 0)).en))
        ∧ m.payload.drop 20 = tenBytes (byteAt b 0) (if byteAt b 0 = 0 then { en := true } else quotas s (byteAt b 0))))
    ∧ (granted s t 0x0110 r → plain r 1 → r.tenant = 0 →
      ∃ u, exec (.setCatchup t) s = .next u ∧ u.foreman.catchup = clampNat 10 50 (byteAt b 0)
        ∧ answersSo u r (if 10 ≤ byteAt b 0 ∧ byteAt b 0 ≤ 50 then 0 else 1) (fun m => m.payload.take 1 = leBytes 1 (clampNat 10 50 (byteAt b 0))))
    ∧ (granted s t 0x0111 r → plain r 8 → r.tenant = 0 →
      let z := begun s t 0x0111
      exec (.setRtc t) s = .next (served (answer { z with ka := { z.ka with
        rtcBase := leAt b 0 8, rtcAt := max s.now t, rtcValid := true } } r [])))
    ∧ (granted s t 0x0112 r → plain r 0 →
      let z := begun s t 0x0112
      exec (.getRtc t) s = .next (served (answer z r (leBytes 8 (rtc z) ++ leBytes 1 (b2n s.ka.rtcValid)))))
    ∧ (granted s t 0x0120 r → plain r 20 → r.tenant = 0 →
      (1 ≤ byteAt b 0 → byteAt b 0 ≤ 15 → ∃ u, exec (.setTenant t) s = .next u
        ∧ tblGet {} u.foreman.tenants (byteAt b 0) =
            { en := byteAt b 1 == 1, qStreams := min 16384 (leAt b 2 2), qPal := min 262144 (leAt b 4 4), qShare := min 90 (byteAt b 8)
              qDram := min 16384 (leAt b 12 4), qQueue := min 131072 (leAt b 16 4) })
      ∧ (byteAt b 0 = 0 ∨ 15 < byteAt b 0 → exec (.setTenant t) s = .next (served (noObject (begun s t 0x0120) r))))
    ∧ (granted s t 0x0130 r → plain r 4 → r.tenant = 0 →
      let z := begun s t 0x0130
      let scope := byteAt b 0
      (byteAt b 2 ≠ 0xA5 ∨ scope = 0 ∨ 4 < scope → exec (.reset t) s = .next (served (refuse z r [0x0B])))
      ∧ (byteAt b 2 = 0xA5 → scope = 1 ∨ scope = 2 → exec (.reset t) s = .next (served
          (answer { z with foreman := { z.foreman with resetReq := some (scope, byteAt b 1) } } r [])))
      ∧ (byteAt b 2 = 0xA5 → scope = 3 → exec (.reset t) s = .next (served (answer (computeReset
          (logFault z 0x0404 1 false 0 0 0 (leBytes 1 3 ++ leBytes 1 (byteAt b 1))) true) r [])))
      ∧ (byteAt b 2 = 0xA5 → scope = 4 → byteAt b 1 < 4 → natBit s.sys.fuses.benches (byteAt b 1) = true →
          exec (.reset t) s = .next (served (answer (benchReset
            (logFault z 0x0404 1 false 0 0 0 (leBytes 1 4 ++ leBytes 1 (byteAt b 1))) (byteAt b 1)) r []))))
    ∧ (∀ a, s.foreman.resetAt = some (1, a) → a + 4320 ≤ max s.now t →
      exec (.resetBegin t) s = .next (finish (shellReset (s.at t))))
    ∧ (∀ a, s.foreman.resetAt = some (2, a) → a + 4320 ≤ max s.now t →
      exec (.resetBegin t) s = .next (finish (ctrlReset
        (logFault (s.at t) 0x0404 1 false 0 0 0 (leBytes 1 2 ++ leBytes 1 0)))))
    ∧ (granted s t 0x0140 r → r.len = 0 → bulkFor r 8 = true → r.tenant = 0 →
      let z := begun s t 0x0140
      exec (.bootClampRead t) s = .next (served (answer z r (kaBytes z 0x2480 8) []
        (kaBytes z 0x2488 (8 * min (kaField z 0x2481 1) (r.bulkLen / 8)))))))
  ∧ (∀ (s : State) (t : Nat) (r : Req),
    let b := r.payload
    (granted s t 0x0B01 r → r.len = 4 → bulkFor r 32 = true →
      let es := (ownEntries s r.tenant).filter (fun e => decide (leAt b 0 4 ≤ e.seq))
      let n := min (r.bulkLen / 32) es.length
      let next := match es[n]? with
        | some e => e.seq
        | none => s.log.nextSeq
      exec (.faultRead t) s = .next (served (answer (begun s t 0x0B01) r (leBytes 4 n ++ leBytes 4 next) []
        ((es.take n).flatMap faultBytes))))
    ∧ (granted s t 0x0B02 r → plain r 0 → r.tenant = 0 → ∃ u, exec (.faultLogClear t) s = .next u ∧ answersWith u r 0 0
      ∧ (∀ e ∈ u.log.entries, e.standing = true)
      ∧ ((∀ th, standing s th = []) → u.log.entries = [] ∧ u.log.faultN = false ∧ u.log.crit = false))
    ∧ (granted s t 0x0B03 r → plain r 0 → r.tenant = 0 → ∃ u, exec (.gessoStatus t) s = .next u
      ∧ answersSo u r 0 (fun m => m.payload.take 17 = leBytes 8 (readyNow s) ++ leBytes 2 (regionsIn s (· == .released))
        ++ leBytes 2 (regionsIn s (· == .mappedOut)) ++ leBytes 2 (regionsIn s (fun x => x == .pending || x == .testing))
        ++ leBytes 2 s.sys.patches.length ++ leBytes 1 (tilesLive s)))
    ∧ (granted s t 0x0B04 r → plain r 2 → r.tenant = 0 → ∃ u, exec (.setMemtest t) s = .next u
      ∧ u.ka.file = (storeSetting s 0x70 (clampLevels b).1).ka.file
      ∧ answersSo u r (if (clampLevels b).2 = [] then 0 else 1) (fun m => m.payload.take b.length = (clampLevels b).1))
    ∧ (granted s t 0x0B10 r → plain r 0 → r.tenant = 0 → ∃ u c, exec (.dbgChallenge t) s = .next u
      ∧ u.foreman.challenge = some c ∧ c.length = 32 ∧ c.drop 16 = leBytes 8 s.sys.fuses.serial ++ zeros 8
      ∧ answersSo u r 0 (fun m => m.payload = c))
    ∧ (granted s t 0x0B11 r → plain r 64 → r.tenant = 0 → ∃ u, exec (.dbgUnlock t) s = .next u
      ∧ u.foreman.challenge = none
      ∧ (∀ c, s.foreman.challenge = some c → u.foreman.dbgOpen = (s.foreman.dbgOpen || sigGood romKey c b)
          ∧ (if sigGood romKey c b = true then answersWith u r 0 0 else answersWith u r 3 1))
      ∧ (s.foreman.challenge = none → u.foreman.dbgOpen = s.foreman.dbgOpen ∧ answersWith u r 3 1)))

/-- SET_PAIR and PAIR_STATUS (16 R380, 06 Table 6-7), and the commands to a target (16 R376, R377, 06 R138): those wait at the
ports they leave from, FAULT_CLEAR and ASP_RELEASE as CONTROL are refused, and no such member is NO_OBJECT. SET_PAIR answers
NOT_READY while PAIR_n is clear and waits for PAIR_READY in RING and DIRECT alike (the model's reading: assumption logs 43, 148). -/
def Obligations.ChainCommandsBegin : Prop :=
  ∀ (s : State) (t : Nat) (r : Req), r.tenant = 0 →
    let b := r.payload
    (granted s t 0x0201 r → plain r 6 → pairNamed s r = true → ∀ q, s.pairs[byteAt b 0]? = some q → byteAt b 0 < 4 → pairFused s (byteAt b 0) = true →
      let m := if 2 < byteAt b 1 then 0 else byteAt b 1
      let n := if m = 2 then min 2 (clampNat 1 32 (byteAt b 3)) else clampNat 1 32 (byteAt b 3)
      let moved := modeOf m ≠ q.mode ∨ n ≠ q.nExp
      ticketsOf s 0 < 4 → leaves (.setPair t) s (byteAt b 0) (fun x u =>
        x.mode = modeOf m ∧ x.nExp = n ∧ x.addrPos = (byteAt b 2 == 1) ∧ x.sweepHz = clampNat 1 256 (leAt b 4 2)
        ∧ (moved → m = 0 → x.st = .off ∧ x.nextDue = none)
        ∧ (moved → m = 1 → x.st = .waking)
        ∧ (moved → m = 2 → x.st = .directWake)
        ∧ (moved → m ≠ 0 → ∃ k ∈ u.foreman.tickets, k.what = .pair (byteAt b 0))
        ∧ (¬ moved → x.st = q.st ∧ x.nextDue = q.nextDue)))
    ∧ (granted s t 0x0201 r → plain r 6 → pairNamed s r = false → exec (.setPair t) s = .next (served (failWith (begun s t 0x0201) r 5)))
    ∧ (granted s t 0x0202 r → plain r 1 →
      let q := s.pair (byteAt b 0)
      (byteAt b 0 < 4 → pairFused s (byteAt b 0) = true → exec (.pairStatus t) s = .next (served (answer (begun s t 0x0202) r
        (leBytes 1 (byteAt b 0) ++ leBytes 1 (stCode q.st) ++ leBytes 1 (b2n q.behind) ++ leBytes 1 q.nFound ++ leBytes 1 q.hA
          ++ leBytes 1 q.hB ++ leBytes 2 (q.curSeq.getD 0) ++ leBytes 2 (min 65535 q.lateCnt) ++ leBytes 2 q.timeouts ++ zeros 4))))
      ∧ (4 ≤ byteAt b 0 ∨ pairFused s (byteAt b 0) = false →
          exec (.pairStatus t) s = .next (served (noObject (begun s t 0x0202) r))))
    ∧ (tgtReady s r = true →
      let goesTo := fun (i : Instr) (op type : Nat) (bc : Bool) (pl : List Byte) => granted s t op r →
        (∀ p ds h, target s b bc = some (p, ds, h) → exec i s = .next (served (beginChain (begun s t op) r p ds type pl)))
        ∧ (target s b bc = none → exec i s = .next (served (noObject (begun s t op) r)))
      (plain r 6 → goesTo (.mbRegRead t) 0x0210 6 false (b.drop 3))
      ∧ (noBulk r = true → 7 ≤ r.len → r.len ≤ 51 → r.len % 2 = 1 → goesTo (.mbRegWrite t) 0x0211 7 true (b.drop 3))
      ∧ (plain r 5 → byteAt b 3 ≠ 2 → byteAt b 3 ≠ 6 → goesTo (.mbControl t) 0x0212 0xC (bcastCode (byteAt b 3)) (b.drop 3))
      ∧ (plain r 5 → byteAt b 3 = 2 ∨ byteAt b 3 = 6 → granted s t 0x0212 r →
          exec (.mbControl t) s = .next (served (refuse (begun s t 0x0212) r [0x0B])))
      ∧ (r.len = 5 → natBit r.flags 1 = true → 70 ≤ r.bulkLen → r.bulkLen ≤ 126 → goesTo (.mbReadRecord t) 0x0213 5 false (b.drop 3))
      ∧ (noBulk r = true → 1 ≤ byteAt b 4 → byteAt b 4 ≤ 4 → r.len = 5 + 10 * byteAt b 4 →
          goesTo (.mbBalance t) 0x0230 0xB false (b.drop 3))
      ∧ (plain r 3 → goesTo (.mbFaultClear t) 0x0821 0xC false [0x02#8, 0x00#8]))

/-- The commands to a string (16 R381, R382, R390, R391, Tables 16-4, 16-10; 06 R146): a head is needed, no close while EOPEN_N
is low, BUSY where an open head is needed and it is not, SET_STRING and SET_PROTECT as a list of writes, urgent opens at once.
OPEN_ALL sends EOPEN three times out of every enabled chain port and answers OK (16 Table 16-10, 06 R146). -/
def Obligations.StringCommandsBegin : Prop :=
  (∀ (s : State) (t : Nat) (r : Req) (n : Nat), r.tenant = 0 → byteAt r.payload 0 = n → strReady s r = true →
    let b := r.payload
    let x := strSet s n
    (n < 64 → strOn s n = true → x.head ≠ 0 →
      (granted s t 0x0810 r → plain r 2 → ∀ eo,
        (1 ≤ byteAt b 1 → byteAt b 1 ≤ 3 → eo = false ∨ s.eopen.low = true →
          exec (.mbGate t eo) s = .next (served (refuse (begun s t 0x0810) r [0x2C])))
        ∧ (byteAt b 1 = 0 ∨ 3 < byteAt b 1 ∨ (eo = true ∧ s.eopen.low = false) → exec (.mbGate t eo) s = .next (served
            (beginChain (begun s t 0x0810) r x.pair [route s x.pair x.head] 0xA (leBytes 1 (byteAt b 1))))))
      ∧ (granted s t 0x0820 r → plain r 1 → exec (.mbAspRelease t) s = .next (served
          (beginChain (begun s t 0x0820) r x.pair [route s x.pair x.head] 0xC [0x06#8, 0x00#8])))
      ∧ (granted s t 0x0811 r → plain r 24 →
          (byteAt b 1 ≠ x.drvMode ∨ leAt b 8 4 ≠ x.shunt → headOpen s n = false →
            exec (.setHead t) s = .next (served (busy (begun s t 0x0811) r)))
          ∧ ((byteAt b 1 = x.drvMode ∧ leAt b 8 4 = x.shunt) ∨ headOpen s n = true →
            ∃ u sc w, exec (.setHead t) s = .next u ∧ u.foreman.current = some r ∧ u.foreman.script = some sc ∧ sc.todo = [w]
              ∧ w.mem + 1 = x.head ∧ w.reg = 0x0021 ∧ w.words.length = 10 ∧ w.words.getD 0 0 = byteAt b 1
              ∧ w.words.getD 9 0 = byteAt b 6)))
    ∧ (n < 64 → strOn s n = true → x.head = 0 → granted s t 0x0820 r → plain r 1 →
        exec (.mbAspRelease t) s = .next (served (refuse (begun s t 0x0820) r [0x29])))
    ∧ (n < 64 → strOn s n = true → granted s t 0x0812 r → plain r 12 →
        ∃ u sc, exec (.setProtect t) s = .next u ∧ u.foreman.current = some r ∧ u.foreman.script = some sc
          ∧ sc.todo.length = 4 * (x.last + 1 - x.first)
          ∧ ∀ w ∈ sc.todo, x.first ≤ w.mem + 1 ∧ w.mem ≤ x.last ∧ (w.reg = 0x08 ∨ w.reg = 0x11 ∨ w.reg = 0x12 ∨ w.reg = 0x13))
    ∧ (granted s t 0x0220 r → plain r 8 → setStrReady s r = true → natBit (byteAt b 5) 0 = true → n < 64 → byteAt b 1 < 4 →
        pairFused s (byteAt b 1) = true → (s.pair (byteAt b 1)).mode ≠ .off →
        let y := stringOf s b
        (stringFaults s n y ≠ [] → exec (.setString t) s = .next (served (refuse (begun s t 0x0220) r (stringFaults s n y))))
        ∧ (stringFaults s n y = [] → strOn s n = true → headOpen s n = false →
            exec (.setString t) s = .next (served (busy (begun s t 0x0220) r)))
        ∧ (stringFaults s n y = [] → strOn s n = false ∨ headOpen s n = true →
            ∃ u sc, exec (.setString t) s = .next u ∧ u.foreman.current = some r ∧ u.foreman.script = some sc
              ∧ sc.todo.map (fun w => (w.mem, w.reg, w.words)) = (strMembers y).flatMap (fun i =>
                  [(i % 32, 0x07, [byteAt b 2]), (i % 32, 0x20, [b2n (byteAt b 4 - 1 == i % 32)])])))
    ∧ (n < 64 → strOn s n = true → granted s t 0x0802 r → plain r 1 →
        ∃ u, exec (.openString t) s = .next u ∧ answersWith u r 0 0
          ∧ ∀ sd ∈ portsOn s x.pair, .chainUrgent (pNo x.pair) sd (urgentSeal [0x2A#8, 0x3F#8, BitVec.ofNat 8 x.first]) ∈ u.out))
  ∧ (∀ (s : State) (t : Nat) (r : Req), granted s t 0x0801 r → plain r 0 → r.tenant = 0 → allReady s r = true →
    ∃ u, exec (.openAll t) s = .next u ∧ answersWith u r 0 0
      ∧ ∀ a ∈ allPorts s, 3 ≤ (u.out.filter (fun o => o == .chainUrgent (pNo a.1) a.2 (urgentSeal [0x1A#8, 0x3F#8, 0#8]))).length)

/-- The Ledger's commands (16 Tables 16-5, 16-6, 07 R168, R172, R175, R178, R185): settings, readings, termination, the arming
and abort of a learning cycle, reset, GPIO mapping. -/
def Obligations.LedgerCommandsExecute : Prop :=
  ∀ (s : State) (t : Nat) (r : Req) (n : Nat), byteAt r.payload 0 = n → n < 64 → strOn s n = true → readyBit s 0 = true →
    let b := r.payload
    (granted s t 0x0301 r → plain r 32 → r.tenant = 0 → ∃ u, exec (.setLedger t) s = .next u
        ∧ strKept u n = ledgerOf (strKept s n) (clampLedger b).1 ∧ strSet u n = strSet s n
        ∧ (∀ k, k ≠ n → strKept u k = strKept s k)
        ∧ answersSo u r (if (clampLedger b).2.isEmpty then 0 else 1) (fun m =>
            m.payload = putLe (clampLedger b).1 22 2 0 ++ entryBytes 0 (clampLedger b).2))
    ∧ (granted s t 0x0302 r → plain r 1 → ∃ u, exec (.stringLedger t) s = .next u ∧ answersSo u r 0 (fun m =>
        m.payload.take 8 = leBytes 1 n ++ leBytes 1 (strFlags (lstr s n)) ++ leBytes 1 (lcCode (lstr s n).lc)
          ++ leBytes 1 (lstr s n).lcReason ++ leBytes 4 ((refCap s n).getD 0xFFFFFFFF)))
    ∧ (granted s t 0x0303 r → r.len = 4 → 1 ≤ leAt b 2 2 → leAt b 2 2 ≤ 128 → bulkIs r (32 * leAt b 2 2) = true →
      let z := begun s t 0x0303
      exec (.cellLedger t) s = .next (served (answer z r (b.take 4) []
        ((List.range (leAt b 2 2)).flatMap (fun i => cellBytes z (leAt b 0 2 + i))))))
    ∧ (granted s t 0x0310 r → plain r 1 → r.tenant = 0 →
      exec (.terminate t) s = .next (served (answer (termEvent (begun s t 0x0310) n) r [])))
    ∧ (granted s t 0x0311 r → plain r 1 → r.tenant = 0 →
      (armFaults s n ≠ [] → exec (.lcArm t) s = .next (served (refuse (begun s t 0x0311) r (armFaults s n))))
      ∧ (armFaults s n = [] → ∃ u, exec (.lcArm t) s = .next u ∧ (lstr u n).lc = .armed ∧ (lstr u n).lcAt = max s.now t
          ∧ answersWith u r 0 0 ∧ ∀ c ∈ strCells s n, (lcell u c).cyc = false ∧ (lcell u c).d = 0))
    ∧ (granted s t 0x0312 r → plain r 1 → r.tenant = 0 →
      ((lstr s n).lc = .armed ∨ (lstr s n).lc = .running → ∃ u, exec (.lcAbort t) s = .next u ∧ (lstr u n).lc = .disqualified
          ∧ (lstr u n).lcReason = 12 ∧ answersWith u r 0 0)
      ∧ ((lstr s n).lc ≠ .armed → (lstr s n).lc ≠ .running →
          exec (.lcAbort t) s = .next (served (refuse (begun s t 0x0312) r [0x2C]))))
    ∧ (granted s t 0x0320 r → plain r 2 → r.tenant = 0 → ∃ u, exec (.ledgerReset t) s = .next u ∧ answersWith u r 0 0
        ∧ ∀ c ∈ strCells s n, (lcell u c).valid = false ∧ (natBit (byteAt b 1) 0 = true → (lcell u c).cL = (strSet s n).cNom))
    ∧ (granted s t 0x0330 r → plain r 4 → r.tenant = 0 →
      let e := if 8 < byteAt b 1 then 0 else byteAt b 1
      let c := if 8 < byteAt b 2 then 0 else byteAt b 2
      (isTermSrc s e = true ∨ isTermSrc s c = true → exec (.mapGpio t) s = .next (served (refuse (begun s t 0x0330) r [0x2B])))
      ∧ (isTermSrc s e = false → isTermSrc s c = false → ∃ u, exec (.mapGpio t) s = .next u
          ∧ strKept u n = { strKept s n with eodGpio := e, eocGpio := c, pol := byteAt b 3 % 4 }))

/-- STREAM_START (16 R384, Table 16-7, 11 11.2, 14 R347): an image, kernel or cell that is not there is NO_OBJECT, an image that
does not serve the stream is refused with CAPABILITY, admission refuses with its codes, and otherwise the lowest free stream
runs with RESET set at the place that admission gave it.
The commands on a stream that is there (16 Table 16-7, R386, 11 R266 to R268, R272, Edges of 11.2): pause, resume, restart,
end, settings, status, inputs, parameters, flags. -/
def Obligations.StreamCommandsExecute : Prop :=
  (∀ (s : State) (t : Nat) (r : Req), granted s t 0x0401 r → plain r 32 → startRights s r = true → readyBit s 3 = true →
    let z := begun s t 0x0401
    let b := (clampStart z r).1
    (imageOf s (leAt b 4 2) = none → exec (.streamStart t) s = .next (served (noObject z r)))
    ∧ (∀ img k n, imageOf s (leAt b 4 2) = some img → img.kernels[leAt b 3 1]? = some k → freeStream s = some n → k.kind = 0 →
      startFlag r 0 = false ∨ cellOn s (leAt b 28 2) = true →
      let st := startStream z r b img k
      let mask := if leAt b 30 1 < 4 then 2 ^ leAt b 30 1 else 15
      (capable z k st = false → exec (.streamStart t) s = .next (served (refuse z r [0x0B])))
      ∧ (capable z k st = true → startFlag r 0 = true → cellFed s (leAt b 28 2) = true →
          exec (.streamStart t) s = .next (served (refuse z r [0x2B])))
      ∧ (capable z k st = true → startFlag r 0 = false ∨ cellFed s (leAt b 28 2) = false →
          let room := roomFor z st mask (startFlag r 3 || st.swap)
          (∀ c, admitStream room none st mask (startFlag r 3 || st.swap) false = .error c →
            exec (.streamStart t) s = .next (served (refuse room r c)))
          ∧ (∀ p q, admitStream room none st mask (startFlag r 3 || st.swap) false = .ok (p, q) →
            ∃ u, exec (.streamStart t) s = .next u ∧ (u.stream n).valid = true ∧ (u.stream n).den = true ∧ (u.stream n).reset = true
              ∧ (u.stream n).tenant = r.tenant ∧ (u.stream n).image = leAt b 4 2 ∧ (u.stream n).tile = p.tile
              ∧ (u.stream n).unit = p.unit ∧ (u.stream n).qbase = q ∧ (u.stream n).storePtr = p.store
              ∧ (u.stream n).queue = [] ∧ (u.stream n).step = 0 ∧ (st.cls = 0 → st.feed = false → (u.stream n).nomDue = firstDue st (tb z + 12000))
              ∧ ∀ m, m ≠ n → u.stream m = room.stream m))))
  ∧ (∀ (s : State) (t : Nat) (r : Req) (n : Nat), streamNo r = n → (s.stream n).valid = true → readyBit s 3 = true →
    let x := s.stream n
    let b := r.payload
    (r.tenant = 0 ∨ x.tenant = r.tenant →
      (granted s t 0x0402 r → plain r 2 → ∃ u, exec (.streamPause t) s = .next u ∧ answersWith u r 0 0
        ∧ (u.stream n).den = false ∧ (u.stream n).pauseReason = 1 ∧ (u.stream n).step = x.step)
      ∧ (granted s t 0x0403 r → plain r 2 →
          (x.ending = true ∨ (x.den = false ∧ x.swap = true ∧ storeUp s x = false) →
            exec (.streamResume t) s = .next (served (refuse (begun s t 0x0403) r [0x2C])))
          ∧ (x.ending = false → x.den = true → exec (.streamResume t) s = .next (served (answer (begun s t 0x0403) r [])))
          ∧ (x.ending = false → x.den = false → x.swap = false ∨ storeUp s x = true →
              let z := begun s t 0x0403
              let adm := admitStream z (some n) x (((imageOf s x.image).map (fun i => i.mask)).getD 0) false true
              (∀ c, adm = .error c → exec (.streamResume t) s = .next (served (refuse z r c)))
              ∧ (∀ p q, adm = .ok (p, q) → ∃ u, exec (.streamResume t) s = .next u ∧ answersWith u r 0 0
                  ∧ (u.stream n).den = true ∧ (u.stream n).pauseReason = 0 ∧ (u.stream n).lagUs = 0 ∧ (u.stream n).eligOfs = 0
                  ∧ (u.stream n).behind = false)))
      ∧ (granted s t 0x0407 r → plain r 2 →
          exec (.streamStatus t) s = .next (served (answer (begun s t 0x0407) r (streamBytes x)))))
    ∧ (x.tenant = r.tenant →
      (granted s t 0x0404 r → plain r 2 → ∃ u, exec (.streamReset t) s = .next u ∧ answersWith u r 0 0
        ∧ ((u.stream n).reset || (u.stream n).resetNew) = true ∧ (u.stream n).den = x.den)
      ∧ (granted s t 0x0405 r → plain r 2 → ∃ u, exec (.streamEnd t) s = .next u ∧ answersWith u r 0 0
        ∧ (inFlight s n = true → (u.stream n).ending = true ∧ (u.stream n).den = false ∧ (u.stream n).valid = true)
        ∧ (inFlight s n = false → (u.stream n).valid = false))
      ∧ (granted s t 0x0406 r → plain r 16 → ∀ k img, kernelOf s x = some k → imageOf s x.image = some img →
          let z := begun s t 0x0406
          let c := (clampSet r x).1
          let cand := { x with
            cls := leAt c 2 1, k := leAt c 3 1, swap := natBit (leAt c 4 1) 1, period := leAt c 8 4, phase := leAt c 12 4 }
          (x.ending = true → exec (.streamSet t) s = .next (served (refuse z r [0x2C])))
          ∧ (x.ending = false → capable z k cand = false → exec (.streamSet t) s = .next (served (refuse z r [0x0B])))
          ∧ (x.ending = false → capable z k cand = true →
              let adm := admitStream z (some n) cand img.mask (cand.swap || x.storePtr.isSome) (!cand.swap && !x.swap)
              (∀ e, adm = .error e → exec (.streamSet t) s = .next (served (refuse z r e)))
              ∧ (∀ p q, adm = .ok (p, q) → inFlight s n = true → ∃ u, exec (.streamSet t) s = .next u
                  ∧ answersSo u r (if (clampSet r x).2.isEmpty then 0 else 1) (fun m => sliceAt m.payload 5 3 = zeros 3)
                  ∧ (u.stream n).between.set = some (cand.cls, cand.k, cand.swap, cand.period, cand.phase)
                  ∧ (u.stream n).period = x.period ∧ (u.stream n).cls = x.cls)))
      ∧ (granted s t 0x0410 r → x.feed = false → ∀ c, leAt b 2 2 = c → 1 ≤ c → c ≤ 7 → plain r (4 + 32 * c) →
          (x.queue.length + c ≤ x.qdepth → ∃ u, exec (.streamInput t) s = .next u ∧ answersWith u r 0 0
            ∧ u.stream n = { x with queue := x.queue ++ entriesOf (b.drop 4) c })
          ∧ (x.qdepth < x.queue.length + c → exec (.streamInput t) s = .next (served (busy (begun s t 0x0410) r))))
      ∧ (granted s t 0x0411 r → r.len = 4 → bulkIs r (128 * byteAt b 3) = true →
          (x.paramUnits < byteAt b 2 + byteAt b 3 → exec (.streamParam t) s = .next (served (noObject (begun s t 0x0411) r)))
          ∧ (byteAt b 2 + byteAt b 3 ≤ x.paramUnits → inFlight s n = true → ∃ u, exec (.streamParam t) s = .next u
              ∧ answersWith u r 0 0 ∧ (u.stream n).between.param = x.between.param ++ [(byteAt b 2, bulkIn s r)]))
      ∧ (granted s t 0x0412 r → plain r 3 → ∃ u, exec (.clearFlags t) s = .next u ∧ answersWith u r 0 0
          ∧ u.stream n = { x with
              sat := x.sat && !natBit (byteAt b 2) 0, nan := x.nan && !natBit (byteAt b 2) 1
              overflow := x.overflow && !natBit (byteAt b 2) 2, lateCnt := if natBit (byteAt b 2) 3 then 0 else x.lateCnt })))

/-- Output rings, images, keys and dataset regions (16 R387 to R389, 14 R333, R334, R340, R341, R347): what is not there is
NO_OBJECT, a range outside the region SCAN_RANGE, what is in use BUSY; a load ends with its event and the lowest free handle. -/
def Obligations.ImageCommandsExecute : Prop :=
  ∀ (s : State) (t : Nat) (r : Req),
    let b := r.payload
    (readyBit s 3 = true →
      (granted s t 0x0420 r → plain r 16 → ∀ d, tblFind? s.foreman.datasets r.tenant = some d →
          let ofs := leAt b 4 8
          let n := leAt b 12 4
          let ok := ofs % 128 = 0 ∧ 2 ≤ n ∧ n ≤ 65536 ∧ ofs + 128 + 32 * n ≤ d.mib * 1048576
          (¬ ok → exec (.setOutRing t) s = .next (served (refuse (begun s t 0x0420) r [0x1B])))
          ∧ (ok → (∀ e ∈ s.sched.streams, (e.2.valid && e.2.tenant == r.tenant && e.2.out / 2 ^ 30 == 1
                && e.2.out % 256 == byteAt b 0) = false) →
              ∃ u, exec (.setOutRing t) s = .next u ∧ answersWith u r 0 0
                ∧ tblFind? u.foreman.rings (r.tenant * 256 + byteAt b 0) = some { ofs := ofs, entries := n }))
      ∧ (granted s t 0x0501 r → plain r 16 → r.tenant = 0 ∨ byteAt b 0 ≠ 1 →
          (1 < byteAt b 0 → exec (.imageLoad t) s = .next (served (refuse (begun s t 0x0501) r [0x0B])))
          ∧ (byteAt b 0 = 0 → inDataset s r.tenant (leAt b 8 8) (leAt b 4 4) = false →
              exec (.imageLoad t) s = .next (served (refuse (begun s t 0x0501) r [0x1B])))
          ∧ (byteAt b 0 = 0 → inDataset s r.tenant (leAt b 8 8) (leAt b 4 4) = true → ticketsOf s r.tenant < 4 →
              ∃ u, exec (.imageLoad t) s = .next u
                ∧ answersSo u r 0 (fun m => m.payload = leBytes 2 s.foreman.nextTicket)
                ∧ ∃ k ∈ u.foreman.tickets, k.tenant = r.tenant ∧ k.ticket = s.foreman.nextTicket))
      ∧ (granted s t 0x0502 r → plain r 2 →
          (imageOf s (leAt b 0 2) = none → exec (.imageUnload t) s = .next (served (noObject (begun s t 0x0502) r)))
          ∧ (∀ i, imageOf s (leAt b 0 2) = some i → i.tenant = r.tenant → imageStreams s (leAt b 0 2) = 0 →
              (∀ e ∈ s.sched.jobs, (jobHeld e.2 && e.2.image == leAt b 0 2) = false) →
              ∃ u, exec (.imageUnload t) s = .next u ∧ answersWith u r 0 0 ∧ imageOf u (leAt b 0 2) = none))
      ∧ (granted s t 0x0503 r → r.len = 0 → bulkFor r 16 = true →
          let own := (s.foreman.images.filter (fun e => e.2.tenant == r.tenant)).take (r.bulkLen / 16)
          let z := begun s t 0x0503
          exec (.imageList t) s = .next (served (answer z r (leBytes 2 own.length) []
            (own.flatMap (fun e => imageItem z e.1 e.2)))))
      ∧ (r.tenant = 0 → keySlotOk (byteAt b 0) = true →
          (granted s t 0x0510 r → plain r 36 → ∃ u, exec (.keySet t) s = .next u ∧ answersWith u r 0 0
            ∧ u.ka.file = (storeSetting s (kaKey (byteAt b 0)) (sliceAt b 2 2 ++ [1#8, 0#8] ++ sliceAt b 4 32 ++ zeros 4)).ka.file)
          ∧ (granted s t 0x0511 r → plain r 1 → ∃ u, exec (.keyClear t) s = .next u ∧ answersWith u r 0 0
            ∧ u.ka.file = (storeSetting s (kaKey (byteAt b 0)) (zeros 40)).ka.file)))
    ∧ (jobReady s r = true → granted s t 0x0610 r → plain r 8 → datasetBusy s r.tenant = false →
        (leAt b 0 8 = 0 → ∃ u, exec (.setDataset t) s = .next u ∧ answersSo u r 0 (fun m => m.payload = zeros 16)
            ∧ u.foreman.datasets = tblDel r.tenant s.foreman.datasets)
        ∧ (∀ a, 0 < leAt b 0 8 → r.tenant = 0 →
            datasetPlace s r.tenant (ceilDiv (leAt b 0 8) 1048576 * 1048576) = some a →
            ∃ u, exec (.setDataset t) s = .next u
              ∧ tblFind? u.foreman.datasets r.tenant = some { mib := ceilDiv (leAt b 0 8) 1048576, base := a, bar2 := bar2Of s a }))
    ∧ (∀ (k : Half) n sr m sl ln o e, s.foreman.tickets.find? (fun x => x.ticket == k.toNat)
          = some { tenant := n, ticket := k.toNat, what := .image sr m sl ln o e } →
        let z := s.at t
        let judged := judgeImage z n m (if sr = 1 then some sl else none) (loadBytes z n sr sl ln o)
        ∃ u, exec (.imageLoadVerified t k) s = .next u ∧ (match judged with
          | .error (st, c) => u = finish (endTicket z n k.toNat 0x05E0 st (c.foldl min 0xFF) (refuseMask c) [])
          | .ok i => imageOf u (freeHandle s) = some i ∧ ∀ x ∈ u.foreman.tickets, ¬ (x.tenant = n ∧ x.ticket = k.toNat)))

/-- Scan jobs (16 Table 16-9, 10 R244 to R249, R253, Edges of 10.7): a descriptor that the image or the fields do not serve is
refused, admission refuses with its codes, otherwise the lowest free job number is QUEUED; pause, resume, delete, status. -/
def Obligations.JobCommandsExecute : Prop :=
  ∀ (s : State) (t : Nat) (r : Req), jobReady s r = true →
    let b := r.payload
    let n := jobNo r
    (granted s t 0x0601 r → plain r 64 →
      let z := begun s t 0x0601
      let c := (clampJob b).1
      let own := s.foreman.images.find? (fun e => e.2.tenant == r.tenant && e.2.id == leAt c 12 4)
      (own = none → exec (.jobSubmit t) s = .next (served (noObject z r)))
      ∧ (∀ h img, own = some (h, img) →
          let j := jobOfBytes z r.tenant h c
          let fine := jobFieldsOk j (byteAt c 1) && jobDrawsOk img j
          (fine = false → exec (.jobSubmit t) s = .next (served (refuse z r [0x0B])))
          ∧ (fine = true → (admitJob z img j).1 ≠ [] → exec (.jobSubmit t) s = .next (served (refuse z r (admitJob z img j).1)))
          ∧ (fine = true → (admitJob z img j).1 = [] → ∃ u, exec (.jobSubmit t) s = .next u
              ∧ jobOf u (freeJob s) = some { j with g := (admitJob z img j).2, phase := if j.seqMode then 4 else 1 })))
    ∧ (∀ j, jobOf s n = some j →
      (j.tenant = r.tenant →
        (granted s t 0x0602 r → plain r 2 →
          (j.st = .ended → exec (.jobPause t) s = .next (served (refuse (begun s t 0x0602) r [0x2C])))
          ∧ (j.st = .paused → j.ctrl = false → exec (.jobPause t) s = .next (served (answer (begun s t 0x0602) r [])))
          ∧ (j.st = .queued ∨ j.st = .running → 0 < flying j → ∃ u x, exec (.jobPause t) s = .next u ∧ answersWith u r 0 0
              ∧ jobOf u n = some x ∧ x.pauseWant = true ∧ x.st = j.st)
          ∧ (j.st = .queued ∨ j.st = .running → j.pauseWant = false → flying j = 0 → j.delWant = false → j.dataChanged = false →
              ∃ u x, exec (.jobPause t) s = .next u
              ∧ answersWith u r 0 0 ∧ jobOf u n = some x ∧ x.st = .paused ∧ x.pauseReason = 1))
        ∧ (granted s t 0x0603 r → plain r 2 → ∀ img, imageOf s j.image = some img → j.st ≠ .ended →
          (chooseG s img j = none → exec (.jobResume t) s = .next (served (refuse (begun s t 0x0603) r [0x1A])))
          ∧ (∀ g, chooseG s img j = some g → ∃ u x, exec (.jobResume t) s = .next u ∧ answersWith u r 0 0
              ∧ jobOf u n = some x ∧ x.g = min j.g g ∧ x.pauseReason = 0
              ∧ x.st = if j.st = .paused then (if j.doneCnt = 0 then .queued else .running) else j.st))
        ∧ (granted s t 0x0604 r → plain r 2 →
          (j.st = .ended → ∃ u, exec (.jobDelete t) s = .next u ∧ answersWith u r 0 0 ∧ jobOf u n = none)
          ∧ (j.st ≠ .ended → 0 < flying j → ∃ u x, exec (.jobDelete t) s = .next u ∧ answersWith u r 0 0
              ∧ jobOf u n = some x ∧ x.delWant = true)))
      ∧ (r.tenant = 0 ∨ j.tenant = r.tenant → granted s t 0x0605 r → plain r 2 →
          ∃ u, exec (.jobStatus t) s = .next u ∧ answersSo u r 0 (fun m => m.payload.take 4
            = leBytes 2 n ++ leBytes 1 (jobStNo j.st) ++ leBytes 1 j.endCode)))

/-! ### Ledger and Assayer (07, 13, 20 R465, R467, 16 16.7) -/

/-- The Ledger's own rows: anchors (07 R167 to R170, R177, R180 to R182), the expiries of a learning cycle (Table 7-5), armed
swap detection (R183), a termination pin (R168), the snapshot and the restore (20 R465, R467, 07 R186). -/
def Obligations.LedgerEventsHappen : Prop :=
  ∀ (s : State) (t : Nat), s.shellUp = true →
    let now := max s.now t
    let z := s.at t
    (s.sys.ledgerReady = true →
      (∀ (c : Fin 2304) (n : Nat), cellString s c.val = some n →
        let k := lcell s c.val
        (k.taperHit = true → ∃ u, exec (.anchorTaper t c) s = .next u
          ∧ (let x := lcell u c.val
             x.qRem = (k.cL * 360000 : Nat) ∧ x.a = 0 ∧ x.uX = 0 ∧ x.uOfs = 0 ∧ x.adj = 0 ∧ x.valid = true ∧ x.kind = 1
              ∧ x.anchorAt = some now ∧ x.cL = k.cL)
          ∧ ((lstr s n).lc = .armed → (lstr u n).lc = .running))
        ∧ (emptyNow s n c.val = true → (lstr s n).lc ≠ .running → ∃ u, exec (.anchorEmpty t c) s = .next u
          ∧ (let x := lcell u c.val
             x.qRem = 0 ∧ x.a = 0 ∧ x.uX = 0 ∧ x.uOfs = 0 ∧ x.adj = 0 ∧ x.valid = true ∧ x.kind = 3 ∧ x.cL = k.cL))
        ∧ (emptyNow s n c.val = true → (lstr s n).lc = .running → ∃ u, exec (.anchorEmpty t c) s = .next u
          ∧ (∀ code more, emptyReasons z n = code :: more → (lstr u n).lc = .disqualified ∧ (lstr u n).lcReason = code)
          ∧ (emptyReasons z n = [] → (lstr u n).lc = .done ∧ ∀ d ∈ strCells s n, emptyNow s n d = true →
              (lcell u d).qRem = 0 ∧ (lcell u d).kind = 3)))
      ∧ (∀ n : Fin 64, strOn s n.val = true →
        let l := lstr s n.val
        let ends := fun (i : Instr) (code : Nat) => ∃ u, exec i s = .next u ∧ (lstr u n.val).lc = .disqualified
          ∧ (lstr u n.val).lcReason = code ∧ ∀ c ∈ strCells s n.val, (lcell u c).cyc = false
        (l.termDue = true → ∃ u, exec (.anchorTermination t n) s = .next u ∧ (lstr u n.val).termDue = false
          ∧ ∀ c ∈ strCells s n.val, ∀ v, (lcell s c).volt = some v → (strSet s n.val).vFull ≤ v + (strSet s n.val).fullMargin →
              (lcell u c).qRem = ((lcell s c).cL * 360000 : Nat) ∧ (lcell u c).valid = true ∧ (lcell u c).kind = 2)
        ∧ (l.lc = .running → l.lcAt + secs (3600 * (strSet s n.val).lcTmax) < now → ends (.lcDurationExpiry t n) 11)
        ∧ (l.lc = .armed → l.lcAt + secs (3600 * (strSet s n.val).lcTmax) < now → ends (.lcArmExpiry t n) 13)
        ∧ (∀ a, l.lc = .running → l.restSince = some a → a + secs 7200 < now → ends (.lcRestGapExpiry t n) 6)
        ∧ (l.lc = .running → l.tempAt + secs 60 < now → ends (.lcTempInvalidExpiry t n) 3)
        ∧ (l.lc = .running ∨ l.lc = .armed → max l.recAt l.lcAt + secs 2 ≤ now → ends (.lcNoRecordExpiry t n) 8)
        ∧ (∀ (g : Fin 8) (a : Nat), (strSet s n.val).termSrc = g.val + 1 → l.chargedAt = some a →
            ∃ u, exec (.gpioTermination t g) s = .next u
              ∧ (now ≤ a + secs 60 → lstr u n.val = { l with termPending := true, termDue := false })
              ∧ (a + secs 60 < now → lstr u n.val = l ∧ .termination n.val now ∈ u.ledger.log)))
      ∧ (∀ (d : Dev) (a : Nat), (lmem s (d.pair.val * 32 + d.mem.val)).absentSince = some a → a + secs 2 < now →
          ∃ u, exec (.absenceTimeout t d) s = .next u ∧ (lmem u (d.pair.val * 32 + d.mem.val)).absent = true)
      ∧ (s.ledger.snapAt + secs 59 ≤ now → betweenSweeps s = true → exec (.ledgerSnapshot t) s = .next (finish (takeSnapshot z 0))))
    ∧ (s.sys.boot = .parallel → s.sys.ledgerReady = false → ∃ u, exec (.ledgerRestore t) s = .next u
        ∧ u.sys.ledgerReady = true ∧ u.sys.assayerReady = true
        ∧ (∀ n, n < 64 → (lstr s n).lc = .running ∨ (lstr s n).lc = .armed →
            (lstr u n).lc = .disqualified ∧ (lstr u n).lcReason = 9)
        ∧ (snapValid s = false → ∀ c, cellOn s c = true → (lcell u c).valid = false
            ∧ (lcell u c).cL = ((strOfCell s c).map (fun x => x.cNom)).getD 1000000))

/-- The Assayer's own rows: an estimate meets its held value (13 R306 to R310), a class change is reported (R313), a learned
input turns stale (R309), a discharging rule switches (R323), a channel publishes (R319, R329).
The Assayer's commands (16 16.7, 13 R315, R318, R319): settings, a report channel set at once or at its next publication,
readings; what is not there is NO_OBJECT. -/
def Obligations.AssayerEvaluatesAndReports : Prop :=
  (∀ (s : State) (t : Nat), s.shellUp = true → s.sys.assayerReady = true →
    let now := max s.now t
    let z := s.at t
    (∀ e es, s.assayer.inbox = e :: es → e.behind = false → streamStale s e.cell = false →
      let a := acell s e.cell
      let match_ := a.held.find? (fun v => v.seq == e.seq && !v.done)
      (match_ = none → ∃ u, exec (.assayerEvaluate t) s = .next u ∧ u.assayer.inbox = es
        ∧ (acell u e.cell).pairMiss = min 65535 (a.pairMiss + 1) ∧ (acell u e.cell).cls = a.cls)
      ∧ (∀ v, match_ = some v → estimateOf e = none → ∃ u, exec (.assayerEvaluate t) s = .next u ∧ u.assayer.inbox = es
        ∧ (acell u e.cell).invalid = true ∧ (acell u e.cell).stale = true ∧ (acell u e.cell).cls = a.cls)
      ∧ (∀ v mu sigma, match_ = some v → estimateOf e = some (mu, sigma) → ∃ u, exec (.assayerEvaluate t) s = .next u
        ∧ u.assayer.inbox = es
        ∧ (let x := acell u e.cell
           x.mu = mu ∧ x.sigma = sigma ∧ x.evalAt = some now ∧ x.seq = e.seq ∧ x.pair = some v ∧ x.invalid = false ∧ x.stale = false
           ∧ (v.valid = false → x.cls = a.cls ∧ x.dis = a.dis)
           ∧ (v.valid = true → v.cL ≠ 0 →
              let sC := (clampInt 0 10000 (divRoundAway (v.qRem * 10000) (v.cL * 360000))).toNat
              let d := ((mu : Int) - sC).natAbs
              let tau := max 150 (3 * sigma + v.uC)
              x.dis = (if tau < d then min 255 (a.dis + 1) else 0) ∧ x.agr = (if 2 * d ≤ tau then min 255 (a.agr + 1) else 0)
                ∧ (400 < sigma → x.cls = 2) ∧ (sigma ≤ 400 → a.cls = 0xF → x.cls = 0)))))
    ∧ (∀ c : Fin 2304, classDue z c.val = true → ∃ u, exec (.classChangeEvent t c) s = .next u
        ∧ (acell u c.val).evtWant = false ∧ (acell u c.val).evtAt = some now
        ∧ ((s.port 0).events.length < 64 → s.sys.ctrlUp = true → ∃ e, (u.port 0).events = (s.port 0).events ++ [e] ∧ e.opcode = 0x07E0
            ∧ e.payload = leBytes 8 (tb z) ++ leBytes 2 c.val ++ leBytes 1 (acell s c.val).cls))
    ∧ (∀ c : Fin 2304, learnedOld z c.val = true → ∃ u, exec (.learnedStale t c) s = .next u ∧ (acell u c.val).stale = true)
    ∧ (∀ n : Fin 64, disDue z (tblGet {} s.assayer.strDis n.val) = true → ∃ u, exec (.dischargeChange t (.string n)) s = .next u
        ∧ (tblGet {} u.assayer.strDis n.val).dis = (tblGet {} s.assayer.strDis n.val).below)
    ∧ (disDue z s.assayer.siteDis = true → ∃ u, exec (.dischargeChange t .site) s = .next u
        ∧ u.assayer.siteDis.dis = s.assayer.siteDis.below)
    ∧ (∀ (ch : Fin 16) (a : Nat), (rchan s ch.val).en = true → (rchan s ch.val).nextAt = some a → a ≤ now →
        ∃ u, exec (.reportPublish t ch) s = .next u
          ∧ (rchan u ch.val).updates = ((rchan s ch.val).updates + 1) % 2 ^ 32
          ∧ (rchan u ch.val).gen = ((rchan s ch.val).gen + 2) % 2 ^ 32
          ∧ (rchan u ch.val).snap.take 4 = leBytes 4 (rchan u ch.val).gen ∧ (rchan u ch.val).pend = none
          ∧ ∀ k, k < 16 → natBit (u.port k).snapStat ch.val = true))
  ∧ (∀ (s : State) (t : Nat) (r : Req), readyBit s 1 = true →
    let b := r.payload
    (granted s t 0x0701 r → plain r 4 → r.tenant = 0 →
      let c := (applyRules assayerRules b).1
      ∃ u, exec (.setAssayer t) s = .next u ∧ u.assayer.raEn = (byteAt c 0 == 1) ∧ u.assayer.histH = byteAt c 1
        ∧ u.assayer.raCap = leAt c 2 2)
    ∧ (granted s t 0x0702 r → plain r 8 → r.tenant = 0 → ∀ n, byteAt b 0 = n →
      let c := (applyRules channelRules b).1
      let q := rchan s n
      (16 ≤ n ∨ objOk s (byteAt c 3) (leAt c 4 2) = false → exec (.setChannel t) s = .next (served (noObject (begun s t 0x0702) r)))
      ∧ (n < 16 → objOk s (byteAt c 3) (leAt c 4 2) = true →
          (q.en = true → byteAt c 1 = 1 → ∃ u, exec (.setChannel t) s = .next u ∧ rchan u n = { q with pend := some (c.drop 1) })
          ∧ (q.en = false → byteAt c 1 = 1 → ∃ u, exec (.setChannel t) s = .next u ∧ (rchan u n).en = true
              ∧ (rchan u n).p = none ∧ (rchan u n).updates = 0
              ∧ (rchan u n).nextAt = some (nextPub (s.at t) (chanOfBytes { q with pend := none } (c.drop 1))))
          ∧ (q.en = true → byteAt c 1 ≠ 1 → ∃ u, exec (.setChannel t) s = .next u ∧ (rchan u n).en = false
              ∧ (rchan u n).nextAt = none ∧ (rchan u n).gen = (q.gen + 2) % 2 ^ 32)))
    ∧ (granted s t 0x0703 r → plain r 1 →
      let z := begun s t 0x0703
      (byteAt b 0 < 16 → exec (.getChannel t) s = .next (served
        (answer z r (leBytes 1 (byteAt b 0) ++ chanSettings (rchan s (byteAt b 0))))))
      ∧ (16 ≤ byteAt b 0 → exec (.getChannel t) s = .next (served (noObject z r))))
    ∧ (granted s t 0x0704 r → plain r 2 →
      let a := acell s (leAt b 0 2)
      (cellOn s (leAt b 0 2) = true → ∃ u, exec (.cellAssay t) s = .next u ∧ answersSo u r 0 (fun m => m.payload.take 8
        = leBytes 2 (leAt b 0 2) ++ leBytes 1 a.cls ++ leBytes 1 a.dis ++ leBytes 1 a.agr
          ++ leBytes 1 (b2n (staleNow s (leAt b 0 2)) + b2n a.reanchoring * 2 + b2n a.raCapped * 4) ++ leBytes 2 a.pairMiss))
      ∧ (cellOn s (leAt b 0 2) = false → exec (.cellAssay t) s = .next (served (noObject (begun s t 0x0704) r)))))

/-! ### Fabric (18, 16 Table 16-8) -/

/-- Link training (18 R417, R419 to R421): rounds of DETECT, EXCHANGE and ALIGN, the width rule, failed rounds, the retry from
DOWN, a retrain of a link that is UP. -/
def Obligations.LinksTrain : Prop :=
  ∀ (s : State) (t : Nat) (l : Fin 6) (x : Link), s.shellUp = true → s.fabric.links[l.val]? = some x →
    let now := max s.now t
    let gives := fun (i : Instr) (w : Link → State → Prop) => ∃ u y, exec i s = .next u ∧ u.fabric.links[l.val]? = some y ∧ w y u
    (∀ b, x.st = .detect → isTraining b = true → blkSer b ≠ s.sys.fuses.serial % 2 ^ 32 →
      gives (.linkDetectDone t l b) (fun y _ => y = { x with st := .exchange, since := now }))
    ∧ (x.st = .detect → x.since + 384000 ≤ now →
      (x.single = false → x.fails < 2 → gives (.linkDetectTimeout t l) (fun y _ => y.st = .detect ∧ y.fails = x.fails + 1 ∧ y.since = now))
      ∧ (x.single = false → 2 ≤ x.fails → gives (.linkDetectTimeout t l) (fun y _ => y.st = .down ∧ y.retryAt = now + 480000000))
      ∧ (x.single = true → gives (.linkDetectTimeout t l) (fun y _ => y.st = .down ∧ y.retryAt = now + 480000000)))
    ∧ (x.st = .exchange → x.since + 48000 ≤ now → x.single = false → x.fails < 2 →
      gives (.exchangeLimitExpiry t l) (fun y _ => y.st = .detect ∧ y.fails = x.fails + 1))
    ∧ (∀ b, x.st = .exchange → isTraining b = true → blkState b = 3 → gives (.linkExchangeDone t l b) (fun y u =>
        y = { x with st := .align, since := now, rate := if blkHi b = true ∧ x.capRate = 1 then 1 else 2 }
        ∧ ∃ lock, ∀ go lane, go < 8 → lane < 4 →
            .training l.val lane (trainingBlock s lane lock 3 (b2n (x.capRate == 1)) go) ∈ u.out))
    ∧ (∀ (own : BitVec 4) (last : BitVec 56) lanes, x.st = .align → x.since + 96000 ≤ now → isTraining last = true →
      let w := linkLanes x.capW (commonMask own.toNat last lanes)
      (w ≠ 0 → gives (.linkAlignEvaluate t l own last lanes) (fun y u => y.st = .up ∧ y.lanes = w ∧ y.width = popCount w 4
        ∧ y.capW = popCount w 4 ∧ y.capRate = x.rate ∧ y.fails = 0 ∧ u.fabric.helloWant = true ∧ u.fabric.aloneSince = none))
      ∧ (w = 0 → x.rate = 1 → gives (.linkAlignEvaluate t l own last lanes) (fun y _ => y = { x with rate := 2, since := now }))
      ∧ (w = 0 → x.rate ≠ 1 → x.single = false → x.fails < 2 →
          gives (.linkAlignEvaluate t l own last lanes) (fun y _ => y.st = .detect ∧ y.fails = x.fails + 1)))
    ∧ (x.st = .down → x.retryAt ≤ now + 2400000 → gives (.linkRetry t l) (fun y _ => y.st = .detect ∧ y.single = true))
    ∧ (∀ b, x.st = .down → isTraining b = true → blkSer b ≠ s.sys.fuses.serial % 2 ^ 32 →
      gives (.trainingBlockWake t l b) (fun y _ => y.st = .detect ∧ y.single = true))
    ∧ (∀ (lane : Fin 4) (n : Nat) (i : Instr), x.st = .up → natBit x.lanes lane.val = true →
        (i = .linkLockLoss t l lane n ∧ 48000 ≤ n) ∨ (i = .linkSyncErrors t l lane n ∧ 16 < n) →
      gives i (fun y u => y.st = .detect ∧ y.single = false ∧ y.width = 0 ∧ y.capW = x.capW ∧ y.capRate = x.capRate
        ∧ u.fabric.helloWant = true))
    ∧ (x.st = .up → x.neigh.isSome = true → x.dropped = false → x.neighAt + 14400000 ≤ now →
      gives (.neighSilent t l) (fun y u => y = { x with dropped := true } ∧ u.fabric.helloWant = true ∧ u.fabric.dirty.isSome = true))

/-- Frames that arrive on an UP link (18 R422 to R425, R427 to R429, R431, R435): one that its CRC or LEN shows to be damaged is
counted, NEIGH names the neighbour, a new flood is acted on and goes out of every other UP link with its TTL one less, a routed
frame goes on or is discarded and counted. -/
def Obligations.FabricFramesArrive : Prop :=
  ∀ (s : State) (t : Nat) (l : Fin 6) (x : Link) (b : List Byte), s.shellUp = true → s.fabric.links[l.val]? = some x → x.st = .up →
    let now := max s.now t
    let f := fabOf b
    let ser := f.serial
    (frameOk b = false → ∀ i : Instr, i ∈ [.neigh t l b, .hello t l b, .beacon t l b, .summary t l b, .routedFrameForward t l b] →
      ∃ u, exec i s = .next u ∧ u.fabric.links[l.val]? = some { x with errors := x.errors + 1 } ∧ u.fabric.seqs = s.fabric.seqs)
    ∧ (frameOk b = true →
      (f.type = 1 → ∃ u y, exec (.neigh t l b) s = .next u ∧ u.fabric.links[l.val]? = some y ∧ y.neigh = some ser ∧ y.neighAt = now
        ∧ y.dropped = false ∧ (x.dropped = true ∨ x.neigh ≠ some ser → u.fabric.dirty.isSome = true ∧ u.fabric.helloWant = true))
      ∧ (ser ≠ s.sys.fuses.serial →
        let out := fun (u : State) (type : Nat) => 2 ≤ f.ttl → ∀ m ∈ upLinks s, m ≠ l.val →
          .fabric m (fabFrame type f.flags f.src f.dst (f.ttl - 1) ser f.seq f.payload) ∈ u.out
        (f.type = 2 → (∀ q, heldSeq s ser 2 = some q → newer q f.seq = true) → ∃ u, exec (.hello t l b) s = .next u
          ∧ heldSeq u ser 2 = some f.seq ∧ out u 2
          ∧ (∃ h ∈ u.fabric.lists, h.serial = ser ∧ h.prio = leAt f.payload 0 1 ∧ h.links = helloLinks f.payload ∧ h.at_ = now)
          ∧ (s.fabric.role = .manager → (s.fabric.table_.any (fun e => e.1 == ser)) = false → s.fabric.table_.length < 64 →
              u.fabric.table_.any (fun e => e.1 == ser) = true))
        ∧ (f.type = 2 → (∃ q, heldSeq s ser 2 = some q ∧ newer q f.seq = false) → ∃ u, exec (.hello t l b) s = .next u
          ∧ u.fabric.lists = s.fabric.lists ∧ u.fabric.seqs = s.fabric.seqs ∧ u.out = (finish (s.at t)).out)
        ∧ (f.type = 3 → (∀ q, heldSeq s ser 3 = some q → newer q f.seq = true) → ∃ u, exec (.beacon t l b) s = .next u
          ∧ heldSeq u ser 3 = some f.seq ∧ out u 3
          ∧ (leAt f.payload 8 4 ≠ 0 → s.fabric.window.isSome = true ∨ s.fabric.waitEnd.isSome = true →
              u.fabric.role = .worker ∧ u.fabric.mgrSerial = ser ∧ u.fabric.epoch = leAt f.payload 4 4
              ∧ u.fabric.table_ = beaconTable f.payload ∧ u.fabric.lease = some (now + 144000000)
              ∧ u.fabric.manager = idOf (beaconTable f.payload) ser)))
      ∧ (f.type = 4 → f.dst = s.fabric.node → s.fabric.role = .manager →
          exec (.summary t l b) s = .next (finish (takeSummary (s.at t) ser f.payload))
          ∧ (byteAt f.payload 1 = 1 → byteAt f.payload 0 = 0 →
              ∃ u, exec (.summary t l b) s = .next u ∧ ∃ y ∈ u.fabric.sums, y.serial = ser))
      ∧ (routedOn s f = true →
        (∀ m, 2 ≤ f.ttl → routeLink s f.dst = some m → ∃ u, exec (.routedFrameForward t l b) s = .next u
          ∧ .fabric m (fabFrame f.type f.flags f.src f.dst (f.ttl - 1) ser f.seq f.payload) ∈ u.out
          ∧ u.fabric.discards = s.fabric.discards)
        ∧ (f.ttl ≤ 1 ∨ routeLink s f.dst = none → ∃ u, exec (.routedFrameForward t l b) s = .next u
          ∧ u.fabric.discards = s.fabric.discards + 1)))

/-- Frames that the node sends and its timers (18 Table 18-5, R424 to R426, R429 to R433). -/
def Obligations.FabricKeepsTime : Prop :=
  ∀ (s : State) (t : Nat), s.shellUp = true →
    let now := max s.now t
    let z := s.at t
    let x := s.fabric
    let own := s.sys.fuses.serial
    (s.sys.boot = .parallel → x.lastNeigh + 4800000 ≤ now → ∃ u, exec (.neighSend t) s = .next u ∧ u.fabric.lastNeigh = now
        ∧ ∀ l ∈ upLinks s, ∃ q, .fabric l (fabFrame 1 2 x.node 0xFF 64 own q (leBytes 1 x.prio ++ leBytes 1 l ++ zeros 2)) ∈ u.out)
    ∧ (s.sys.boot = .parallel → helloIsDue z = true → ∃ u, exec (.helloSend t) s = .next u ∧ u.fabric.lastHello = now
        ∧ u.fabric.helloWant = false ∧ ∀ l ∈ upLinks s, ∃ b, .fabric l (fabFrame 2 1 x.node 0xFF 64 own (x.own.getD 1 0) b) ∈ u.out)
    ∧ (x.role = .manager → upLinks s ≠ [] → x.lastBeacon + 48000000 ≤ now →
        exec (.beaconSend t) s = .next (finish (sendBeacon z))
        ∧ (sendBeacon z).fabric.lastBeacon = now ∧ (sendBeacon z).fabric.lease = some (now + 144000000))
    ∧ (x.role = .worker → x.manager ≠ 0xFF → x.node ≠ 0xFF → x.lastSummary + 47952000 ≤ now → ∃ u, exec (.summarySend t) s = .next u
        ∧ u.fabric.lastSummary = now ∧ u.fabric.round = (x.round + 1) % 2 ^ 32)
    ∧ (∀ serial : BitVec 64, (∃ h ∈ x.lists, h.serial = serial.toNat ∧ h.at_ + 144000000 ≤ now) →
        ∃ u, exec (.helloAgeOut t serial) s = .next u ∧ (∀ h ∈ u.fabric.lists, h.serial ≠ serial.toNat) ∧ u.fabric.dirty.isSome = true)
    ∧ (∀ serial : BitVec 64, (∃ e ∈ x.floodAt, e.1 = serial.toNat ∧ e.2 + 144000000 ≤ now) →
        ∃ u, exec (.floodSeqForget t serial) s = .next u ∧ ∀ type, heldSeq u serial.toNat type = none)
    ∧ (∀ e, x.hold = true → x.holdEnd = some e → e ≤ now → ∃ u, exec (.floodHoldEnd t) s = .next u
        ∧ u.fabric.hold = false ∧ u.fabric.window = some (now + 72000000))
    ∧ (∀ e, x.window = some e → e ≤ now + 480000 →
        (upLinks s = [] → ∃ u, exec (.discoveryWindowClose t) s = .next u ∧ u.fabric.role = .single ∧ u.fabric.node = 0xFF
          ∧ u.fabric.manager = 0xFF ∧ u.fabric.window = none)
        ∧ (upLinks s ≠ [] → (∀ h ∈ x.heard, outranks (x.prio, own) (h.2, h.1) = true) →
            ∃ u, exec (.discoveryWindowClose t) s = .next u ∧ u.fabric.role = .manager ∧ u.fabric.epoch = (x.epoch + 1) % 2 ^ 32
              ∧ u.fabric.mgrSerial = own ∧ u.fabric.window = none)
        ∧ (upLinks s ≠ [] → (∃ h ∈ x.heard, outranks (x.prio, own) (h.2, h.1) = false) →
            ∃ u, exec (.discoveryWindowClose t) s = .next u ∧ u.fabric.window = none ∧ u.fabric.waitEnd = some (now + 72000000)))
    ∧ (∀ e, x.waitEnd = some e → e ≤ now → ∃ u, exec (.beaconWaitTimeout t) s = .next u
        ∧ u.fabric.window = some (now + 72000000) ∧ u.fabric.waitEnd = none ∧ u.fabric.heard = [])
    ∧ (∀ e, x.lease = some e → e ≤ now → ∃ u, exec (.managerLeaseExpiry t) s = .next u ∧ u.fabric.manager = 0xFF
        ∧ u.fabric.lease = none ∧ (x.hold = false → u.fabric.window = some (now + 72000000)))
    ∧ (∀ a, upLinks s = [] → x.aloneSince = some a → a + 144000000 ≤ now → x.role ≠ .single ∨ x.ready = false →
        ∃ u, exec (.allLinksDown t) s = .next u ∧ u.fabric.role = .single ∧ u.fabric.node = 0xFF ∧ u.fabric.manager = 0xFF
          ∧ u.fabric.routes = [] ∧ u.fabric.ready = true)
    ∧ (x.dirty.isSome = true → ∃ u, exec (.routeRecompute t) s = .next u ∧ u.fabric.dirty = none
        ∧ ∀ e ∈ x.table_, (x.table_.filter (fun a => a.2 == e.2)).length = 1 → e.1 ≠ own →
            tblGet {} u.fabric.routes e.2 = routeOf (firstLinks s) e.1)

/-- The fabric commands (16 Table 16-8, R392, 18 R421, R430, R431). -/
def Obligations.FabricCommandsExecute : Prop :=
  ∀ (s : State) (t : Nat) (r : Req), readyBit s 6 = true →
    let b := r.payload
    (granted s t 0x0901 r → plain r 0 → ∃ u, exec (.fabricStatus t) s = .next u ∧ answersSo u r 0 (fun m => m.payload.take 8
        = leBytes 1 s.fabric.node ++ leBytes 1 s.fabric.manager ++ leBytes 1 (roleCode s.fabric.role) ++ leBytes 1 (nodeCount s)
          ++ leBytes 4 (match s.fabric.lease with | some e => (e - max s.now t) / 48000 | none => 0)))
    ∧ (granted s t 0x0902 r → r.len = 0 → bulkIs r 256 = true →
        exec (.routes t) s = .next (served (answer (begun s t 0x0902) r [] [] ((List.range 64).flatMap (fun i =>
          if i = s.fabric.node then [0xFF#8, 0xFF#8, 0#8, 0#8]
          else
            let x := tblGet ({} : Route) s.fabric.routes i
            leBytes 1 x.primary ++ leBytes 1 x.alt ++ leBytes 1 x.cost ++ leBytes 1 x.hops)))))
    ∧ (granted s t 0x0910 r → plain r 4 → r.tenant = 0 →
        let ok := leAt b 1 1 % 64 &&& s.sys.fuses.links
        ∃ u, exec (.setFabric t) s = .next u ∧ u.fabric.linkEn = ok
          ∧ answersSo u r (if leAt b 1 1 % 64 = ok then 0 else 1) (fun _ => True)
          ∧ ∀ l x, l < 6 → s.fabric.links[l]? = some x → ∃ y, u.fabric.links[l]? = some y
            ∧ (natBit ok l = true → x.st = .disabled → y.st = .detect)
            ∧ (natBit ok l = true → x.st ≠ .disabled → y.st = x.st)
            ∧ (natBit ok l = false → natBit s.fabric.linkEn l = true → y.st = .disabled))
    ∧ (granted s t 0x0911 r → plain r 1 → r.tenant = 0 →
        (6 ≤ byteAt b 0 ∨ natBit s.sys.fuses.links (byteAt b 0) = false →
          exec (.linkRetrain t) s = .next (served (noObject (begun s t 0x0911) r)))
        ∧ (byteAt b 0 < 6 → natBit s.sys.fuses.links (byteAt b 0) = true → ∀ x, s.fabric.links[byteAt b 0]? = some x →
          ∃ u y, exec (.linkRetrain t) s = .next u ∧ answersWith u r 0 0 ∧ u.fabric.links[byteAt b 0]? = some y
            ∧ y.capW = 4 ∧ y.capRate = 1 ∧ y.st = if x.st = .up then .detect else x.st))

/-! ### Journal, flash, diagnostics (20, 15 R353, 16 Table 16-11, R393, R394, 21 R480) -/

/-- The journal's rows (20 R470 to R473, R477): a generation begins at its cadence or after its spacing with a snapshot, its
area is erased, its nine records are committed one by one, a record that reads back wrong ends the journal's use, and a
grace ends with the generation torn or complete. -/
def Obligations.JournalRowsHappen : Prop :=
  ∀ (s : State) (t : Nat), s.shellUp = true →
    let now := max s.now t
    let z := s.at t
    (journalFree s = true → ∀ i : Instr, (i = .journalCadence t ∧ cadenceDue z = true)
        ∨ (i = .journalSpacingEnd t ∧ s.journal.want = true ∧ spacingDone z = true) →
      ∃ u g, exec i s = .next u ∧ u.journal.run = some g ∧ g.seq = s.journal.lastSeq + 1 ∧ g.staging = u.ka.file ∧ g.part = 0
        ∧ g.erased = false ∧ u.ledger.snapAt = now ∧ u.journal.want = false
        ∧ ∀ a, s.journal.newestArea = some a → g.area = 1 - a)
    ∧ (∀ g, s.journal.run = some g →
      (g.erased = false → ∃ u, exec (.journalEraseDone t) s = .next u ∧ u.journal.run = some { g with erased := true }
        ∧ (memWf 0xFF#8 s.flash.mem = true → ∀ a, memGet 0xFF#8 u.flash.mem a
            = if recordAddr g.area 0 ≤ a ∧ a < recordAddr g.area 0 + 0x40000 then 0xFF#8 else memGet 0xFF#8 s.flash.mem a))
      ∧ (g.erased = true → s.journal.grace = none →
        (g.part < 8 → ∃ u, exec (.journalRecordCommit t true) s = .next u ∧ u.journal.run = some { g with part := g.part + 1 }
          ∧ u.flash = (programRecord z g true).flash)
        ∧ (8 ≤ g.part → s.journal.wantNow = false → ∃ u, exec (.journalRecordCommit t true) s = .next u
          ∧ u.journal.run = none ∧ u.journal.newestArea = some g.area ∧ u.flash = (programRecord z g true).flash)
        ∧ (∃ u, exec (.journalRecordCommit t false) s = .next u ∧ u.journal.run = none ∧ readyBit u 5 = false))
      ∧ (∀ e, s.journal.grace = some e →
        (e ≤ now → ∃ u, exec (.writeGraceEnd t false) s = .next u ∧ u.journal.run = none ∧ u.journal.grace = none
          ∧ u.journal.wantNow = true ∧ u.flash = s.flash)
        ∧ (g.part ≠ 8 → ∃ u, exec (.writeGraceEnd t true) s = .next u ∧ u.journal.run = none ∧ u.journal.grace = none
          ∧ u.journal.wantNow = true ∧ u.flash = (programRecord z g true).flash)
        ∧ (g.part = 8 → s.journal.wantNow = false → ∃ u, exec (.writeGraceEnd t true) s = .next u ∧ u.journal.run = none
          ∧ u.journal.newestArea = some g.area ∧ u.journal.grace = none)))
    ∧ (∀ k b, s.foreman.tickets.find? (fun k => (isPatch k).isSome) = some k → isPatch k = some b →
      exec (.patchWriteDone t true) s = .next (finish (endTicket (flashPut { z with flash := { z.flash with
          mem := memErase z.flash.mem 0 0x40000 } } 0 b) k.tenant k.ticket 0x0AE1 0 0 0 (leBytes 4 (leAt b 8 4))))
      ∧ exec (.patchWriteDone t false) s = .next (finish (endTicket z k.tenant k.ticket 0x0AE1 0x0A 0 0 [])))
    ∧ (∀ k n len o, s.foreman.tickets.find? (fun k => (isStore k).isSome) = some k → isStore k = some (n, len, o) →
      exec (.imageStoreDone t true) s = .next (finish (match storeFails z (datasetRead z k.tenant o len) with
        | none => endTicket (flashPut { z with flash := { z.flash with mem := memErase z.flash.mem (slotAt n) 0x800000 } } (slotAt n)
            (datasetRead z k.tenant o len)) k.tenant k.ticket 0x0AE3 0 0 0 (leBytes 1 n)
        | some c => endTicket z k.tenant k.ticket 0x0AE3 3 c (refuseMask [c]) []))
      ∧ exec (.imageStoreDone t false) s = .next (finish (endTicket z k.tenant k.ticket 0x0AE3 0x0A 0 0 [])))

/-- The persistence commands (16 Table 16-11, R393; 15 R352, R353; 20 R467, R469, R473, R476; 24 R529). -/
def Obligations.FlashCommandsExecute : Prop :=
  ∀ (s : State) (t : Nat) (r : Req), readyBit s 5 = true → r.tenant = 0 →
    let b := r.payload
    (granted s t 0x0A01 r → plain r 0 →
      let z := begun s t 0x0A01
      (s.sys.thermal.nvm = true → exec (.journalWrite t) s = .next (served (failWith z r 9)))
      ∧ (s.sys.thermal.nvm = false → 4 ≤ ticketsOf s 0 → exec (.journalWrite t) s = .next (served (busy z r)))
      ∧ (s.sys.thermal.nvm = false → ticketsOf s 0 < 4 → ∃ u, exec (.journalWrite t) s = .next u
          ∧ answersSo u r 0 (fun m => m.payload = leBytes 2 s.foreman.nextTicket)
          ∧ (∃ k ∈ u.foreman.tickets, k.tenant = 0 ∧ k.ticket = s.foreman.nextTicket ∧ k.what = .journal)
          ∧ (journalFree s = true → ∃ g, u.journal.run = some g ∧ ∃ w ∈ g.waiters, w.ticket = s.foreman.nextTicket)))
    ∧ (granted s t 0x0A02 r → r.len = 4 → natBit r.flags 1 = true → r.bulkLen ≤ 4096 →
      let z := begun s t 0x0A02
      let o := leAt b 0 4
      (o % 4096 = 0 → o < 98432 → exec (.patchChunk t) s = .next (served (answer { z with foreman := { z.foreman with
          patchBuf := memWrite 0#8 z.foreman.patchBuf o ((bulkIn z r).take (98560 - o)) } } r [])))
      ∧ (o % 4096 ≠ 0 ∨ 98432 ≤ o → exec (.patchChunk t) s = .next (served (noObject z r))))
    ∧ (granted s t 0x0A03 r → plain r 4 →
      let z := begun s t 0x0A03
      let p := memRead 0#8 s.foreman.patchBuf 0 (min (leAt b 0 4) 98560)
      (98560 < leAt b 0 4 ∨ patchWhole p = false → exec (.patchCommit t) s = .next (served (refuse z r [8])))
      ∧ (leAt b 0 4 ≤ 98560 → patchWhole p = true → ∃ u, exec (.patchCommit t) s = .next u
          ∧ (patchSigned p = false → u = served (reply z r 3 1 0 [] []))
          ∧ (1 < patchFails s p → u = served (refuse z r [0x0B]))
          ∧ (patchFails s p = 0 → ticketsOf s 0 < 4 → answersSo u r 0 (fun m => m.payload = leBytes 2 s.foreman.nextTicket)
              ∧ ∃ k ∈ u.foreman.tickets, k.ticket = s.foreman.nextTicket ∧ k.what = .patch p)))
    ∧ (granted s t 0x0A04 r → plain r 4 →
      let v := leAt b 0 4
      let old := kaField s 0x74 4
      ∃ u, exec (.setPatchMin t) s = .next u ∧ u.ka.file = (storeSetting s 0x74 (leBytes 4 (max v old))).ka.file
        ∧ answersSo u r (if v < old then 1 else 0) (fun m => m.payload.take 4 = leBytes 4 (max v old)))
    ∧ (granted s t 0x0A05 r → plain r 0 → ticketsOf s 0 < 4 → ∃ u, exec (.shutdown t) s = .next u
      ∧ answersSo u r 0 (fun m => m.payload = leBytes 2 s.foreman.nextTicket) ∧ u.ledger.snapAt = max s.now t
      ∧ (journalFree s = true → ∃ g, u.journal.run = some g ∧ g.staging = u.ka.file
          ∧ ∃ w ∈ g.waiters, w.ticket = s.foreman.nextTicket ∧ w.shutdown = true))
    ∧ (granted s t 0x0A06 r → plain r 16 →
      let z := begun s t 0x0A06
      (slotThere s (byteAt b 0) = false → exec (.imageStore t) s = .next (served (noObject z r)))
      ∧ (slotThere s (byteAt b 0) = true → 0x800000 < leAt b 4 4 → exec (.imageStore t) s = .next (served (refuse z r [8])))
      ∧ (slotThere s (byteAt b 0) = true → leAt b 4 4 ≤ 0x800000 → inDataset s 0 (leAt b 8 8) (leAt b 4 4) = false →
          exec (.imageStore t) s = .next (served (refuse z r [0x1B])))
      ∧ (slotThere s (byteAt b 0) = true → leAt b 4 4 ≤ 0x800000 → inDataset s 0 (leAt b 8 8) (leAt b 4 4) = true →
          ticketsOf s 0 < 4 → (∀ k ∈ s.foreman.tickets, isStore k = none) → ∃ u, exec (.imageStore t) s = .next u
            ∧ answersSo u r 0 (fun m => m.payload = leBytes 2 s.foreman.nextTicket)
            ∧ ∃ k ∈ u.foreman.tickets, k.ticket = s.foreman.nextTicket ∧ k.what = .store (byteAt b 0) (leAt b 4 4) (leAt b 8 8)))
    ∧ (granted s t 0x0A07 r → r.len = 4 → bulkIs r (leAt b 2 2) = true →
      let z := begun s t 0x0A07
      (leAt b 0 2 + leAt b 2 2 ≤ 32768 →
        exec (.kaRead t) s = .next (served (answer z r (b.take 4) [] (kaBytes s (leAt b 0 2) (leAt b 2 2)))))
      ∧ (32768 < leAt b 0 2 + leAt b 2 2 → exec (.kaRead t) s = .next (served (noObject z r))))

/-! ### Gesso, benches, DRAM (19, 02 Table 2-6, 20 R458, R459, 21 R487, R490, 12 R304, 15 R352) -/

/-- The bring-up up to T_K, the keep-alive domain and the resets of SHELL (19 R438, R439, R454, 20 R458, R459, 23 R509, R511). -/
def Obligations.GessoBringsUp : Prop :=
  ∀ (s : State) (t : Nat),
    let now := max s.now t
    let z := s.at t
    (∀ reads : List (BitVec 288), s.sys.boot = .off → s.sys.thermal.abs = false →
      let rs := (reads.take 3).map (fun r => r.toNat)
      (∀ v, rs.find? fuseCrcOk = some v → ∃ u, exec (.powerGoodRise t reads) s = .next u ∧ u.sys.boot = .pll
        ∧ u.sys.powerGood = true ∧ u.sys.fuses = fusesOf v)
      ∧ (rs.length = 3 → rs.find? fuseCrcOk = none → ∃ u, exec (.powerGoodRise t reads) s = .next u ∧ u.sys.boot = .halted
          ∧ u.shellUp = false))
    ∧ (∀ locked : List Pll, s.sys.boot = .pll →
      (locked.contains .pllS = true → locked.contains .pllC = true → ∃ u, exec (.gessoPllLocked t locked) s = .next u
        ∧ u.sys.boot = .kaCheck ∧ u.sys.tbZero = now ∧ u.sys.locked = locked)
      ∧ (locked.contains .pllS = false ∨ locked.contains .pllC = false → ∃ u, exec (.gessoPllLocked t locked) s = .next u
        ∧ u.sys.boot = .off))
    ∧ (∀ d, s.sys.boot = .kaCheck → ∃ u, exec (.kaCheckDone t d) s = .next u ∧ u.sys.boot = .parallel ∧ u.sys.tkAt = now
        ∧ u.ka.lost = false ∧ u.ka.lostSeen = s.ka.lost ∧ u.sys.computeUp = s.sys.locked.contains .pllT
        ∧ u.fabric.hold = (u.sys.kaSource != 0))
    ∧ (∀ d, s.sys.boot = .parallel → readyBit s 5 = false → ∃ u, exec (.flashIdentified t (some d)) s = .next u
        ∧ u.flash.density = some d ∧ u.journal.scanned = true ∧ readyBit u 5 = true)
    ∧ (∃ u, exec (.kaLost t) s = .next u ∧ u.ka.file = [] ∧ u.ka.lost = true ∧ u.ka.rtcValid = false ∧ rtc u = 0)
    ∧ (∀ low, ∃ u, exec (.vkaLow t low) s = .next u ∧ u.ka.vkaLow = low)
    ∧ (∀ i : Instr, i = .oscillatorStop t ∨ (i = .rtcTickMissing t ∧ s.shellUp = true) → ∃ u, exec i s = .next u
        ∧ u.ka.rtcValid = false ∧ rtc u = rtc z)
    ∧ (∀ i : Instr, i = .pwrgoodFall t ∨ (∃ r, i = .coreRailBrownout t r) → ∃ u, exec i s = .next u ∧ u.shellUp = false
        ∧ u.sys.boot = .off ∧ u.ka = s.ka ∧ u.flash.mem = s.flash.mem ∧ u.rumbes = s.rumbes ∧ u.log.entries = []
        ∧ u.sys.powerGood = if i = .pwrgoodFall t then false else s.sys.powerGood)
    ∧ (s.shellUp = true →
      (∀ p, s.sys.locked.contains p = true → ∃ u, exec (.pllLockLoss t p) s = .next u ∧ u.sys.locked.contains p = false
        ∧ (p = .pllT → u.sys.computeUp = false ∧ u.sys.boot = s.sys.boot)
        ∧ (p = .pllS ∨ p = .pllC → u.sys.boot = .off ∧ u.ka.lost = s.ka.lost ∧ u.rumbes = s.rumbes))
      ∧ (∀ p, s.sys.lost.contains p = true → p ≠ .pllS → p ≠ .pllC → ∃ u, exec (.pllLockRegain t p) s = .next u
        ∧ u.sys.locked.contains p = true ∧ u.sys.lost.contains p = false
        ∧ (p = .pllT → s.sys.boot = .parallel → u.sys.computeUp = true)))

/-- Benches, the known-answer test, Foreman's start and the DRAM channels (19 R442 to R444, R448, R451, 12 R304, 15 R352). -/
def Obligations.BlocksStart : Prop :=
  ∀ (s : State) (t : Nat), s.shellUp = true →
    let now := max s.now t
    let z := s.at t
    (∀ (b : Fin 4) (x : Bench), s.sys.benches[b.val]? = some x → s.sys.computeUp = true →
      (s.sys.boot = .parallel → x.phase = .off → x.wave ≤ now → s.sys.thermal.shut = false →
        ∃ u, exec (.benchWaveStart t b) s = .next u ∧ u.sys.benches[b.val]? = some { x with phase := .opening, openAt := now })
      ∧ (x.phase = .opening → x.openAt + 19200 ≤ now → ∃ u, exec (.benchGateOpen t b) s = .next u
          ∧ u.sys.benches[b.val]? = some { x with phase := .testing, testAt := now, k := min 16 s.sys.thermal.ceil })
      ∧ (x.phase = .testing → ∀ r : SelfTest,
          (r.dispatcherOk = false ∨ r.storeOk = false ∨ r.tiles = 0#16 → ∃ u, exec (.benchSelfTestDone t b r) s = .next u
            ∧ (u.bench b.val).phase = .closed ∧ (u.bench b.val).live = 0)
          ∧ (r.dispatcherOk = true → r.storeOk = true → r.tiles ≠ 0#16 → ∃ u, exec (.benchSelfTestDone t b r) s = .next u
            ∧ (u.bench b.val).live = r.tiles.toNat
            ∧ (u.bench b.val).phase = if s.sys.ctrlUp = true ∨ s.foreman.images = [] then .live else .passed)))
    ∧ (s.sys.boot = .parallel → s.sys.stippleOk = false → s.sys.stippleBad = none → ∀ c0 c1 c2 : BitVec 72,
      let good := fun (c : Nat) (v : BitVec 72) => v.toNat = classState 0 c
      (good 0 c0 ∧ good 1 c1 ∧ good 2 c2 → ∃ u, exec (.stippleKatDone t c0 c1 c2) s = .next u ∧ u.sys.stippleOk = true)
      ∧ (¬ (good 0 c0 ∧ good 1 c1 ∧ good 2 c2) → ∃ u, exec (.stippleKatDone t c0 c1 c2) s = .next u ∧ u.sys.stippleOk = false
          ∧ u.sys.stippleBad.isSome = true))
    ∧ (s.sys.boot = .parallel → s.sys.ctrlUp = false → ∀ bad, ∃ u, exec (.foremanStart t bad) s = .next u
        ∧ u.sys.ctrlUp = true ∧ u.host.ifl = 3 ∧ u.foreman.restart = false ∧ u.host.patchVer = u.foreman.patchVer
        ∧ (s.flash.density = none → u.foreman.patchVer = 0)
        ∧ (s.flash.density.isSome = true →
            let b := flashBytes s 0 (128 + min 98304 (leAt (flashBytes s 0 16) 12 4))
            u.foreman.patchVer = if patchFails s b = 0 then leAt b 8 4 else 0))
    ∧ (∀ (c : Fin 2) (x : Channel), s.sys.channels[c.val]? = some x →
      (∀ mib, mayTrain c.val mib z = true → ∃ u y, exec (.dramChannelTrained t c mib) s = .next u
        ∧ u.sys.channels[c.val]? = some y ∧ y.up = true ∧ y.mib = min mib (chanShare s) - 1
        ∧ y.regions.length = ceilDiv (min mib (chanShare s)) 256)
      ∧ (∀ (i : Fin 32) (r : RegionTest), x.up = true → x.regions[i.val]? = some .testing →
          let ok := (judgeRegion s c.val (regionLevel s c.val i.val) r).2.isSome
          ∃ u y, exec (.memtestRegionDone t c i r) s = .next u ∧ u.sys.channels[c.val]? = some y
            ∧ y.regions[i.val]? = some (if ok then .released else .mappedOut))
      ∧ (x.up = true → ∃ u y, exec (.dramChannelDown t c) s = .next u ∧ u.sys.channels[c.val]? = some y ∧ y.up = false
          ∧ y.retrain = true ∧ ∀ r ∈ y.regions, r = .mappedOut ∨ r = .pending))

/-- Watchman and the power governor (21 R484, R493 to R495, 19 R456, R457): watchdogs reset CTRL or a bench, thermal thresholds
act with their hysteresis, the clock ceiling steps, the governor holds, releases, lowers and raises dividers. -/
def Obligations.GuardsAct : Prop :=
  ∀ (s : State) (t : Nat),
    let now := max s.now t
    let z := s.at t
    (s.shellUp = true →
      (∀ i : Instr, (i = .foremanWatchdog t ∧ kickMissed z = true) ∨ (i = .urgentWatchdog t ∧ urgentLate z = true) →
        ∃ u, exec i s = .next u ∧ u.sys.ctrlUp = false ∧ u.sys.ctrlResetAt = now ∧ u.foreman.order = [] ∧ u.foreman.urgent = []
          ∧ u.foreman.current = none ∧ u.foreman.tickets = [] ∧ u.foreman.restart = true ∧ u.rumbes = s.rumbes
          ∧ u.ledger = s.ledger
          ∧ (i = .urgentWatchdog t → ∀ a ∈ allPorts s, .chainUrgent (pNo a.1) a.2 (urgentSeal [0x1A#8, 0x3F#8, 0#8]) ∈ u.out))
      ∧ (∀ tile : Fin 64, stepLate tile.val z = true → ∃ u, exec (.stepWatchdog t tile) s = .next u
          ∧ (u.bench (tile.val / 16)).phase = .testing ∧ (u.bench (tile.val / 16)).testAt = now)
      ∧ (∀ n : Fin 16384, dispatchLate n.val z = true → (s.bench ((s.stream n.val).tile / 16)).phase = .live →
          ∃ u, exec (.dispatcherWatchdog t n) s = .next u ∧ (u.bench ((s.stream n.val).tile / 16)).phase = .testing)
      ∧ (∀ x, s.sys.thermal.tj = some x →
          (1000 ≤ x → 4 < s.sys.thermal.ceil → s.sys.thermal.ceilAt + 480000 ≤ now → ∃ u, exec (.thermalCeilingStep t) s = .next u
            ∧ u.sys.thermal.ceil = s.sys.thermal.ceil - 1 ∧ u.sys.thermal.ceilAt = now
            ∧ ∀ b ∈ poweredBenches s, (u.bench b).k = min (s.bench b).k (s.sys.thermal.ceil - 1))
          ∧ (x < 950 → s.sys.thermal.ceil < 16 → s.sys.thermal.ceilAt + 4800000 ≤ now →
              ∃ u, exec (.thermalCeilingStep t) s = .next u ∧ u.sys.thermal.ceil = s.sys.thermal.ceil + 1))
      ∧ (∀ (pm : Nat) (shares : List Nat), ∃ u, exec (.govEstimate t pm shares) s = .next u ∧ u.sys.gov.pm = min 65535 pm
          ∧ u.sys.gov.shares = shares
          ∧ u.sys.gov.hold = (s.sys.gov.hold || decide (97 * (s.sys.fuses.envelope * 10) ≤ 100 * pm)))
      ∧ (releaseDue z = true → ∃ u, exec (.govRelease t) s = .next u ∧ u.sys.gov.hold = false)
      ∧ (∀ b, decreaseDue z = true →
          leastBy (fun (a b : Nat) => decide (s.sys.gov.shares.getD b 0 < s.sys.gov.shares.getD a 0)) (poweredBenches s) = some b →
          1 < (s.bench b).k → ∃ u, exec (.govDividerDecrease t) s = .next u ∧ (u.bench b).k = (s.bench b).k - 1
            ∧ ∀ c, c ≠ b → (u.bench c).k = (s.bench c).k)
      ∧ (∀ b, raiseDue z = true → leastBy (fun (a b : Nat) => decide ((s.bench a).k < (s.bench b).k)) (poweredBenches s) = some b →
          (s.bench b).k < min 16 s.sys.thermal.ceil → ∃ u, exec (.govDividerRaise t) s = .next u ∧ (u.bench b).k = (s.bench b).k + 1
            ∧ ∀ c, c ≠ b → (u.bench c).k = (s.bench c).k))
    ∧ (∀ (l : List Int) (tj : Int) (k : Nat), hottest l = some (tj, k) →
      (s.sys.boot = .parallel → s.sys.thermal.abs = false →
        (tj < 1220 → ∃ u, exec (.thermalSample t l) s = .next u
          ∧ (let x := s.sys.thermal
             let y := u.sys.thermal
             y.tj = some tj ∧ y.sensor = k ∧ y.warn = inForce x.warn 1000 950 tj ∧ y.opmax = inForce x.opmax 1050 1000 tj
              ∧ y.nvm = inForce x.nvm 1080 1030 tj ∧ y.shut = inForce x.shut 1150 1100 tj))
        ∧ (1220 ≤ tj → ∃ u, exec (.thermalSample t l) s = .next u ∧ u.sys.thermal.abs = true ∧ u.shellUp = false
          ∧ u.rumbes = s.rumbes))
      ∧ (s.sys.thermal.abs = true → ∃ u, exec (.thermalSample t l) s = .next u ∧ u.sys.thermal.abs = decide (1170 ≤ tj)))

/-! ### The host ports (15 15.4 to 15.7, 17, 10 R255) -/

/-- A mailbox at work (15 R358 to R360, R364, R365): a ring, its take, an honoured urgent ring at once, the message that
MB_RSP_n takes next, and what DBS_n releases; a bit that was set at this very moment stays set (00 R10). -/
def Obligations.MailboxesCarryMessages : Prop :=
  ∀ (s : State) (t : Nat) (n : Fin 16), s.shellUp = true → s.sys.ctrlUp = true →
    let z := s.at t
    let p := s.port n.val
    let r := reqAt s n.val
    let urgent := urgentOk n.val r.flags r.opcode
    (∀ w : Word,
      (natBit w.toNat 0 = false ∨ p.reqPend = true → exec (.doorbellRing t n w) s = .next (finish z))
      ∧ (natBit w.toNat 0 = true → p.reqPend = false →
          (urgent = false → ∃ u, exec (.doorbellRing t n w) s = .next u ∧ (u.port n.val).reqPend = true
            ∧ (u.port n.val).inflight = p.inflight)
          ∧ (urgent = true → s.foreman.urgent = [] → ∃ u q a, exec (.doorbellRing t n w) s = .next u
              ∧ u.foreman.urgent = [(q, a)] ∧ q.opcode = r.opcode ∧ q.tenant = 0 ∧ a = max s.now t
              ∧ (u.port 0).reqPend = false ∧ (u.port 0).reqTaken = true)))
    ∧ (p.reqPend = true → urgent = false → p.inflight < 4 → ∃ u, exec (.requestTake t n) s = .next u
        ∧ (u.port n.val).reqPend = false ∧ (u.port n.val).reqTaken = true ∧ (u.port n.val).inflight = p.inflight + 1
        ∧ (opcodes.contains r.opcode = true → ∃ q ∈ u.foreman.order, q.tenant = n.val ∧ q.opcode = r.opcode ∧ q.tag = r.tag)
        ∧ (opcodes.contains r.opcode = false → s.foreman.order = [] → s.foreman.current = none →
            ∃ m ∈ (u.port n.val).replies, m.status = 6 ∧ m.opcode = r.opcode ∧ m.tag = r.tag))
    ∧ (∀ m q, p.rspReady = false → nextMessage z p = some (m, q) → ∃ u, exec (.responseDeliver t n) s = .next u
        ∧ (u.port n.val).rspReady = true ∧ (u.port n.val).rseq = (p.rseq + 1) % 65536 ∧ (u.port n.val).replies = q.replies
        ∧ (u.port n.val).rsp = memWrite 0#8 p.rsp 0 (msgBytes m (moreWait q) ((p.rseq + 1) % 65536)))
    ∧ (∀ w : Word, natBit w.toNat 1 = true → p.rspReady = true →
        let j := setNow (max s.now t) p
        ∃ u, exec (.dbsWrite t n w) s = .next u ∧ (u.port n.val).evtLost = (p.evtLost && (!natBit w.toNat 3 || j.lost))
        ∧ (j.rsp = false → (u.port n.val).rspReady = false ∧ (u.port n.val).bulkDev = (p.bulkDev && !p.rspOwnsBulk))
        ∧ (j.rsp = true → (u.port n.val).rspReady = true ∧ (u.port n.val).bulkDev = p.bulkDev))

/-- Interrupt registers, whose bits set at this very moment stay set (00 R10), and the PCIe function (17 R399, R401, R407, R408, R414, Tables 17-7, 17-8). -/
def Obligations.InterruptsAndPcieAct : Prop :=
  ∀ (s : State) (t : Nat), s.shellUp = true →
    let z := s.at t
    (∀ (n : Fin 16) (w : Word),
      let j := setNow (max s.now t) (s.port n.val)
      (∃ u, exec (.intStatWrite t n w) s = .next u
        ∧ (u.port n.val).reqTaken = ((s.port n.val).reqTaken && (!natBit w.toNat 1 || j.taken))
        ∧ (u.port n.val).faultInt = ((s.port n.val).faultInt && (!(n.val == 0 && natBit w.toNat 9) || j.fault)))
      ∧ (∃ u, exec (.snapStatWrite t n w) s = .next u
        ∧ (u.port n.val).snapStat = clearFrom (s.port n.val).snapStat (clearFrom (w.toNat % 65536) j.snap)))
    ∧ (∀ (fall high : Bool) (w : Word), exec (.rdyW1cWrite t fall high w) s = .next (finish (rdyClear z fall high w.toNat)))
    ∧ (∀ (v : Fin 16) (e : MsixEntry), s.pcie.msix[v.val]? = some e → ∃ u y, exec (.msixUnmask t v) s = .next u
        ∧ u.pcie.msix[v.val]? = some y ∧ y.mask = false
        ∧ (e.pend = true → s.pcie.d3 = false → s.pcie.msixEn = true → intPending s v.val = true →
            .msix v.val (e.addrLo + e.addrHi * 4294967296) e.data ∈ u.out))
    ∧ (s.pcie.configured = false → ∃ u, exec (.pcieCoreConfigured t) s = .next u ∧ u.pcie.configured = true ∧ u.pcie.linkUp = true)
    ∧ (s.pcie.configured = false → ∀ c, ∃ u, exec (.configRequest t c) s = .next u ∧ .configRetry ∈ u.out)
    ∧ (s.pcie.configured = true →
      (∃ u v, exec (.configRequest t .read) s = .next u ∧ .readData .pcie (identity s v) ∈ u.out)
      ∧ (∀ m i, ∃ u, exec (.configRequest t (.command m i)) s = .next u ∧ u.pcie.memEn = m ∧ u.pcie.intDisable = i)
      ∧ (∀ on, ∃ u, exec (.configRequest t (.msixEnable on)) s = .next u ∧ u.pcie.msixEn = on)
      ∧ (∀ d, ∃ u, exec (.configRequest t (.power d)) s = .next u ∧ u.pcie.d3 = d)
      ∧ (∀ v : BitVec 64, s.pcie.bars.length = 6 → ∃ u, exec (.configRequest t (.bar 0 v)) s = .next u
          ∧ u.pcie.bars[0]? = some (v.toNat % 2 ^ 32 / 65536 * 65536))
      ∧ (∃ u, exec (.functionLevelReset t) s = .next u ∧ u.sys.ctrlUp = false ∧ u.host.rdyIe = 0 ∧ u.host.intnSel = 1
          ∧ u.host.intnEn = true ∧ u.pcie.configured = true ∧ u.pcie.memEn = false
          ∧ ∀ n, (u.port n).intMask = 0 ∧ (u.port n).snapMask = 0 ∧ (u.port n).reqTaken = false))
    ∧ (s.pcie.d3 = true → ∃ u, exec (.pcieD0Return t) s = .next u ∧ u.pcie.d3 = false)
    ∧ (∀ k, exec (.conventionalReset t k) s = .next (finish { z with pcie := {} }))

/-- Reads and writes of the window and of BAR2 over PCIe (17 R396, R399, R400, 10 R255): what the rules allow is done, a breach
is logged and answered with an error, a dataset access without a region reads zeros or is lost, and is logged. -/
def Obligations.HostAccessesAreServed : Prop :=
  ∀ (s : State) (t : Nat), s.shellUp = true →
    let z := s.at t
    (∀ (port : HostPort) (off len : Nat), portOpen s port = true →
      (readAllowed off len = true → exec (.windowRead t port off len) s = .next (finish (z.emit (.readData port (winBytes z port off len)))))
      ∧ (readAllowed off len = false → exec (.windowRead t port off len) s = .next (finish
          ((devFault z 0x0406 0 false (leBytes 1 (portNo port) ++ leBytes 4 off)).emit (.readError port)))))
    ∧ (∀ w : WinWrite, portOpen s w.port = true →
      (writeAllowed w.off w.data = true → exec (.registerWrite t w) s = .next (finish (winWrite z w.port w.off w.data)))
      ∧ (writeAllowed w.off w.data = false → exec (.registerWrite t w) s = .next (finish
          ((devFault z 0x0406 0 false (leBytes 1 (portNo w.port) ++ leBytes 4 w.off)).emit (.readError w.port))))
      ∧ (writeAllowed w.off w.data = true → 0x2000 ≤ w.off → w.off < 0x4000 → 0x100 ≤ w.off % 0x200 ∨ s.sys.ctrlUp = false →
          exec (.registerWrite t w) s = .next (finish z)))
    ∧ (memDecoded s = true →
      (∀ (off : Nat) (data : List Byte), bar2Allowed off data.length = true →
        (∀ tn o a, datasetAt s off data.length = some (tn, o, a) →
          exec (.bar2Write t off data) s = .next (finish (touchJobs (dramWrite z a data) tn o data.length)))
        ∧ (datasetAt s off data.length = none → exec (.bar2Write t off data) s = .next (finish (stray z off))))
      ∧ (∀ off len, bar2Allowed off len = true →
        (∀ tn o a, datasetAt s off len = some (tn, o, a) →
          exec (.bar2Read t off len) s = .next (finish (z.emit (.readData .pcie (dramRead s a len)))))
        ∧ (datasetAt s off len = none →
          exec (.bar2Read t off len) s = .next (finish ((stray z off).emit (.readData .pcie (zeros len)))))))
    ∧ (memDecoded s = false → ∀ off len data,
      exec (.bar2Read t off len) s = .next (finish (z.emit (.readError .pcie)))
      ∧ exec (.bar2Write t off data) s = .next (finish (z.emit (.readError .pcie)))
      ∧ exec (.windowRead t .pcie off len) s = .next (finish (z.emit (.readError .pcie))))

/-- The serial host port (17 R402 to R404, Tables 17-3, 17-4): a frame that is not whole changes nothing; an HCRC that is not the
CRC-16 of CMD, ADDR and LEN, a bad header or a breach, and a DCRC that is not the CRC-16 of the data are answered with their codes
and nothing else; the rest is done and answered 0xA5, a read with its data and their CRC-16. Which code a frame with more than one
fault gets is the model's choice (assumption log 126). -/
def Obligations.SerialPortAnswers : Prop :=
  ∀ (s : State) (t : Nat) (f : ShpFrame) (i : Instr), s.shellUp = true →
    (i = .shpRead t f ∧ shpOp f ≠ 1) ∨ (i = .shpWrite t f ∧ shpOp f ≠ 0) →
    let z := s.at t
    let a := f.addr.toNat
    let n := 4 * (f.len.toNat + 1)
    let bad := shpHeadBad f = true ∨ shpAllowed f = false
    let head := f.hcrc.toNat = crc16 (f.cmd :: (leBytes 5 a).reverse ++ [f.len])
    let whole := f.data.length = n ∧ f.dcrc.toNat = crc16 f.data
    (f.complete = false → exec i s = .next (finish z))
    ∧ (f.complete = true → ¬ head → exec i s = .next (finish (z.emit (.shp 0xC3 []))))
    ∧ (f.complete = true → head → bad → exec i s = .next (finish (shpNak z f)))
    ∧ (f.complete = true → head → ¬ bad →
      (shpOp f = 1 → ¬ whole → exec i s = .next (finish (z.emit (.shp 0x96 []))))
      ∧ (shpOp f = 1 → whole → shpDataset f = false → exec i s = .next (finish
          ((winWrite z .shp a (f.data.map (fun x => (true, x)))).emit (.shp 0xA5 []))))
      ∧ (shpOp f = 1 → whole → shpDataset f = true → exec i s = .next (finish ((datasetWrite z a f.data).emit (.shp 0xA5 []))))
      ∧ (shpOp f = 0 → shpDataset f = false →
          let d := winBytes z .shp a n
          exec i s = .next (finish (z.emit (.shp 0xA5 (d ++ (leBytes 2 (crc16 d)).reverse)))))
      ∧ (shpOp f = 0 → shpDataset f = true → ∀ tn o x, datasetAt s a n = some (tn, o, x) →
          let d := dramRead s x n
          exec i s = .next (finish (z.emit (.shp 0xA5 (d ++ (leBytes 2 (crc16 d)).reverse))))))

/-- The checks of a request go in order (15 R368): wrong LEN, no rights, not ready, busy, for every command of this table, whose
entries are opcode, LEN, whether tenant 0 alone may give it, the READY bit it needs; a request with another opcode waits. -/
def Obligations.RequestChecksGoInOrder : Prop :=
  ∀ (s : State) (t : Nat) (r : Req) (i : Instr) (op len : Nat) (only : Bool) (bit : Option Nat),
    (i, op, len, only, bit) ∈ [(Instr.setCatchup t, 0x0110, 1, true, none), (.setRtc t, 0x0111, 8, true, none),
      (.getRtc t, 0x0112, 0, false, none), (.setTenant t, 0x0120, 20, true, none), (.setLedger t, 0x0301, 32, true, some 0),
      (.stringLedger t, 0x0302, 1, false, some 0), (.terminate t, 0x0310, 1, true, some 0), (.lcArm t, 0x0311, 1, true, some 0),
      (.lcAbort t, 0x0312, 1, true, some 0), (.ledgerReset t, 0x0320, 2, true, some 0), (.mapGpio t, 0x0330, 4, true, some 0),
      (.setOutRing t, 0x0420, 16, false, some 3), (.setAssayer t, 0x0701, 4, true, some 1), (.setChannel t, 0x0702, 8, true, some 1),
      (.getChannel t, 0x0703, 1, false, some 1), (.cellAssay t, 0x0704, 2, false, some 1), (.fabricStatus t, 0x0901, 0, false, some 6),
      (.setFabric t, 0x0910, 4, true, some 6), (.linkRetrain t, 0x0911, 1, true, some 6), (.journalWrite t, 0x0A01, 0, true, some 5),
      (.setPatchMin t, 0x0A04, 4, true, some 5), (.shutdown t, 0x0A05, 0, true, some 5), (.imageStore t, 0x0A06, 16, true, some 5),
      (.faultLogClear t, 0x0B02, 0, true, none), (.gessoStatus t, 0x0B03, 0, true, none), (.setMemtest t, 0x0B04, 2, true, none)] →
    let z := s.at t
    (nextReq z = none → exec i s = .next (finish z))
    ∧ (nextReq z = some r →
      let w := begun s t op
      let lenBad := lenIs len r = false ∨ 240 < r.len
      let rightsBad := (only = true ∧ r.tenant ≠ 0) ∨ tenantOn s r.tenant = false
        ∨ (natBit r.flags 0 = true ∧ urgentOk r.tenant r.flags r.opcode = false)
      let down := ∃ k, bit = some k ∧ readyBit s k = false
      (r.opcode ≠ op ∨ s.sys.ctrlUp = false → exec i s = .next (finish z))
      ∧ (r.opcode = op → s.sys.ctrlUp = true →
        (lenBad → exec i s = .next (served (failWith w r 7)))
        ∧ (¬ lenBad → rightsBad → exec i s = .next (served (failWith w r 8)))
        ∧ (¬ lenBad → ¬ rightsBad → down → exec i s = .next (served (failWith w r 5)))
        ∧ (¬ lenBad → ¬ rightsBad → ¬ down → r.busy = true → exec i s = .next (served (failWith w r 4)))))

/-- After every command at Broros the lines follow the interrupts (17 R409, R410): INTA is asserted exactly while MSI-X is off,
Interrupt Disable is clear and some tenant's interrupt is pending, INT_N is low exactly while INTN_EN is 1 and a tenant that
INTN_SEL selects has an interrupt pending. -/
def Obligations.InterruptLinesFollow : Prop :=
  ∀ (i : Instr) (s u : State), rumbeOf i = none → exec i s = .next u →
    (u.pcie.inta = true ↔ u.pcie.msixEn = false ∧ u.pcie.intDisable = false ∧ ∃ n, n < 16 ∧ intPending u n = true)
    ∧ (u.host.intnLow = true ↔ u.host.intnEn = true ∧ ∃ n, n < 16 ∧ natBit u.host.intnSel n = true ∧ intPending u n = true)

/-! ### The block as a whole: reset, frames, invariants -/

/-- The state after reset: nothing is queued; each Rumbe has the register values that Table 24-11 gives for POR, its gates
OPEN; Broros is in reset with the keep-alive supply just lost. -/
def Obligations.ResetState : Prop :=
  State.reset.pending = [] ∧ State.reset.shellUp = false ∧ State.reset.ka.lost = true ∧ State.reset.ka.file = []
    ∧ ∀ d : Dev,
      let r := State.reset.rumbe d
      r.gate.st = .open ∧ r.asleep = false
        ∧ regWords r d 0x06 4 = [0, 0, 1, 8] ∧ regWords r d 0x0A 5 = [0, 0, 0, 0, 0]
        ∧ regWords r d 0x10 13 = [18, 42500, 25000, 500, 2, 0xFF, 3435, 0x1100, 0x3222, 0x5443, 0x6665, 0x77, 0xFF]
        ∧ regWords r d 0x20 11 = [0, 0, 100, 8, 3, 1, 1, 1000, 50, 1000, 0] ∧ regWords r d 0x30 4 = [0, 128, 100, 6000]

/-- Every command leaves the queue alone, and a command that is not one of a Rumbe leaves every Rumbe as it is: Broros reaches
a Rumbe through frames only (06 R122, R125).
Every command completes with a next state: none stops the block. -/
def Obligations.CommandsAnswerAndKeepQueue : Prop :=
  (∀ (i : Instr) (s u : State), exec i s = .next u → u.pending = s.pending ∧ (rumbeOf i = none → u.rumbes = s.rumbes))
  ∧ (∀ (i : Instr) (s : State), ∃ u, exec i s = .next u)

/-- A command that only reads leaves all the state it could read as it was: what changes is the mailboxes, Foreman's own queue,
and what follows every step (16: the commands whose description is a reading). -/
def Obligations.ReadingsChangeNothing : Prop :=
  ∀ (t : Nat) (i : Instr) (s u : State),
    i ∈ [Instr.ident t, .tenantStatus t, .getRtc t, .bootClampRead t, .pairStatus t, .stringLedger t, .cellLedger t, .streamStatus t,
      .imageList t, .jobStatus t, .getChannel t, .cellAssay t, .routes t, .kaRead t, .faultRead t] → exec i s = .next u →
    u.sys = s.sys ∧ u.ka = s.ka ∧ u.flash = s.flash ∧ u.journal = s.journal ∧ u.log = s.log ∧ u.pairs = s.pairs ∧ u.eopen = s.eopen
      ∧ u.ledger = s.ledger ∧ u.sched = s.sched ∧ u.tiles = s.tiles ∧ u.dram = s.dram ∧ u.assayer = s.assayer ∧ u.fabric = s.fabric
      ∧ u.rumbes = s.rumbes ∧ u.foreman.images = s.foreman.images ∧ u.foreman.tickets = s.foreman.tickets
      ∧ u.foreman.tenants = s.foreman.tenants ∧ u.free = s.free

/-- What a tile operation, a link's training or a fabric frame cannot reach: a tile operation leaves the Ledger, the chain
pairs, the fabric and the flash alone; a command of the fabric's links and messages leaves tiles, streams, DRAM, the Ledger,
the chain pairs and the flash alone. -/
def Obligations.FamiliesStayApart : Prop :=
  ∀ (s u : State) (i : Instr), exec i s = .next u →
    ((∃ tile, i = .kAdd tile ∨ i = .kSub tile ∨ i = .and tile ∨ i = .or tile ∨ i = .xor tile ∨ i = .addi tile ∨ i = .shli tile
        ∨ i = .shri tile ∨ i = .sari tile ∨ i = .movi tile ∨ i = .muli tile ∨ i = .rdlc tile ∨ i = .extu tile ∨ i = .macv tile
        ∨ i = .macb tile ∨ i = .mulv tile ∨ i = .mulb tile ∨ i = .fAdd tile ∨ i = .fSub tile ∨ i = .mul tile ∨ i = .fma tile
        ∨ i = .max tile ∨ i = .min tile ∨ i = .sel tile ∨ i = .cgt tile ∨ i = .cvt tile ∨ i = .mov tile ∨ i = .act tile
        ∨ i = .ema tile ∨ i = .fo1 tile ∨ i = .sos tile ∨ i = .scmb tile ∨ i = .scmb2 tile ∨ i = .sapp tile ∨ i = .mask tile
        ∨ i = .cmpm tile ∨ i = .stp tile ∨ i = .stpr tile ∨ i = .loop tile ∨ i = .waitin tile ∨ i = .barrier tile ∨ i = .lease tile
        ∨ i = .release tile) →
      u.ledger = s.ledger ∧ u.pairs = s.pairs ∧ u.eopen = s.eopen ∧ u.fabric = s.fabric ∧ u.flash = s.flash ∧ u.rumbes = s.rumbes)
    ∧ ((∃ (t : Nat) (l : Fin 6), (∃ b, i = .linkDetectDone t l b ∨ i = .trainingBlockWake t l b) ∨ i = .linkDetectTimeout t l
        ∨ (∃ h, i = .linkExchangeDone t l h) ∨ i = .exchangeLimitExpiry t l ∨ (∃ a b c, i = .linkAlignEvaluate t l a b c)
        ∨ i = .linkRetry t l ∨ (∃ a n, i = .linkLockLoss t l a n ∨ i = .linkSyncErrors t l a n) ∨ i = .neighSilent t l
        ∨ (∃ f, i = .neigh t l f ∨ i = .hello t l f ∨ i = .beacon t l f ∨ i = .summary t l f ∨ i = .routedFrameForward t l f)) →
      u.tiles = s.tiles ∧ u.sched = s.sched ∧ u.dram = s.dram ∧ u.ledger = s.ledger ∧ u.pairs = s.pairs ∧ u.eopen = s.eopen
        ∧ u.flash = s.flash ∧ u.rumbes = s.rumbes)

/-- The invariant of the block (see Inv) holds at reset. -/
def Obligations.InvAtReset : Prop := Inv State.reset

/-- Every step keeps the invariant of the block: every Rumbe stays safe, whatever Broros and the other Rumbes do, and every
waiting command stays well formed. -/
def Obligations.StepKeepsInv : Prop := ∀ s u : State, Inv s → step s = .next u → Inv u

/-- Every memory of the block has its canonical form at reset, and every step keeps it: the KA file, the flash, a journal
generation's staging copy, the patch buffer, the mailboxes, the tiles' stores, the weight stores and the DRAM are lists of
address and byte with rising addresses and no byte that an unlisted address reads as. -/
def Obligations.MemoriesStayCanonical : Prop :=
  MemOk State.reset ∧ ∀ s u : State, MemOk s → step s = .next u → MemOk u
end

