-- ==== Sys2Proof/Laws/Memory.lean ====
section
/-! SUPPORT. The laws of the two containers: a byte memory keeps its canonical form under every operation and reads back what
was written; a table reads back what was set. -/

namespace Sys2Proof.Machine

/-! ### Canonical form -/

theorem memWfFrom_weaken {blank : Byte} {lo hi : Nat} {m : Mem} (h : memWfFrom blank hi m = true) (hl : lo ≤ hi) :
    memWfFrom blank lo m = true := by
  cases m with
  | nil => rfl
  | cons c m => obtain ⟨a, b⟩ := c; simp [memWfFrom] at h ⊢; exact ⟨⟨by omega, h.1.2⟩, h.2⟩

theorem memPut_wfFrom {blank v : Byte} {k : Nat} (hv : v ≠ blank) : ∀ {m : Mem} {lo : Nat}, lo ≤ k →
    memWfFrom blank lo m = true → memWfFrom blank lo (memPut k v m) = true
  | [], lo, hk, _ => by simp [memPut, memWfFrom, hk, hv]
  | (a, b) :: m, lo, hk, h => by
    simp only [memWfFrom, Bool.and_eq_true, decide_eq_true_eq, bne_iff_ne] at h
    simp only [memPut]
    split
    · subst_vars; simp [memWfFrom, h, hv]
    · split
      · simp [memWfFrom, hk, hv, h]; omega
      · simp only [memWfFrom, Bool.and_eq_true, decide_eq_true_eq, bne_iff_ne]
        exact ⟨h.1, memPut_wfFrom hv (by omega) h.2⟩

theorem memDel_wfFrom {blank : Byte} {k : Nat} : ∀ {m : Mem} {lo : Nat},
    memWfFrom blank lo m = true → memWfFrom blank lo (memDel k m) = true
  | [], _, _ => rfl
  | (a, b) :: m, lo, h => by
    have h' := h
    simp only [memWfFrom, Bool.and_eq_true, decide_eq_true_eq, bne_iff_ne] at h
    simp only [memDel]
    split
    · exact memWfFrom_weaken h.2 (by omega)
    · split
      · exact h'
      · simp only [memWfFrom, Bool.and_eq_true, decide_eq_true_eq, bne_iff_ne]
        exact ⟨h.1, memDel_wfFrom h.2⟩

theorem memFilter_wfFrom {blank : Byte} (p : Host.Cell → Bool) : ∀ {m : Mem} {lo : Nat},
    memWfFrom blank lo m = true → memWfFrom blank lo (m.filter p) = true
  | [], _, _ => rfl
  | (a, b) :: m, lo, h => by
    simp only [memWfFrom, Bool.and_eq_true, decide_eq_true_eq, bne_iff_ne] at h
    by_cases hp : p (a, b) = true
    · simp only [List.filter_cons, hp, ↓reduceIte, memWfFrom, Bool.and_eq_true, decide_eq_true_eq, bne_iff_ne]
      exact ⟨h.1, memFilter_wfFrom p h.2⟩
    · simp only [List.filter_cons, hp]
      exact memWfFrom_weaken (memFilter_wfFrom p h.2) (by omega)

/-- The empty memory is canonical. -/
@[simp] theorem memWf_nil (blank : Byte) : memWf blank [] = true := rfl
/-- Writing a byte keeps the canonical form. -/
@[simp] theorem memSet_wf {blank : Byte} {m : Mem} (h : memWf blank m = true) (k : Nat) (v : Byte) :
    memWf blank (memSet blank m k v) = true := by
  unfold memSet; split
  · exact memDel_wfFrom h
  · exact memPut_wfFrom ‹_› (by omega) h
/-- Writing bytes keeps the canonical form. -/
@[simp] theorem memWrite_wf {blank : Byte} (bs : List Byte) : ∀ {m : Mem} (_ : memWf blank m = true) (k : Nat),
    memWf blank (memWrite blank m k bs) = true := by
  induction bs with
  | nil => intro m h k; exact h
  | cons b bs ih => intro m h k; exact ih (memSet_wf h k b) (k + 1)
/-- Erasing a range keeps the canonical form. -/
@[simp] theorem memErase_wf {blank : Byte} {m : Mem} (h : memWf blank m = true) (k n : Nat) :
    memWf blank (memErase m k n) = true := memFilter_wfFrom _ h

/-! ### Reading back -/

theorem memGet_below {blank : Byte} : ∀ {m : Mem} {lo k : Nat}, memWfFrom blank lo m = true → k < lo →
    memGet blank m k = blank
  | [], _, _, _, _ => rfl
  | (a, b) :: m, lo, k, h, hk => by
    simp only [memWfFrom, Bool.and_eq_true, decide_eq_true_eq] at h
    simp only [memGet]
    rw [if_neg (by omega), if_pos (by omega)]

theorem memGet_memPut {blank v : Byte} {k j : Nat} : ∀ {m : Mem} {lo : Nat}, memWfFrom blank lo m = true →
    memGet blank (memPut k v m) j = if j = k then v else memGet blank m j
  | [], _, _ => by
    simp only [memPut, memGet]; (repeat' split) <;> first | rfl | omega
  | (a, b) :: m, lo, h => by
    simp only [memWfFrom, Bool.and_eq_true, decide_eq_true_eq] at h
    simp only [memPut]
    split
    · simp only [memGet]; (repeat' split) <;> first | rfl | omega
    · split
      · simp only [memGet]
        (repeat' split) <;> first | rfl | omega
      · simp only [memGet, memGet_memPut h.2]
        (repeat' split) <;> first | rfl | omega

theorem memGet_memDel {blank : Byte} {k j : Nat} : ∀ {m : Mem} {lo : Nat}, memWfFrom blank lo m = true →
    memGet blank (memDel k m) j = if j = k then blank else memGet blank m j
  | [], _, _ => by simp [memDel, memGet]
  | (a, b) :: m, lo, h => by
    simp only [memWfFrom, Bool.and_eq_true, decide_eq_true_eq] at h
    simp only [memDel]
    split
    · subst_vars
      by_cases hj : j ≤ a
      · rw [memGet_below h.2 (by omega)]
        simp only [memGet]
        (repeat' split) <;> first | rfl | omega
      · simp only [memGet]; (repeat' split) <;> first | rfl | omega
    · split
      · simp only [memGet]; (repeat' split) <;> first | rfl | omega
      · simp only [memGet, memGet_memDel h.2]
        (repeat' split) <;> first | rfl | omega

/-- A byte written reads back, and every other byte reads as before. -/
theorem memGet_memSet {blank : Byte} {m : Mem} (h : memWf blank m = true) (k j : Nat) (v : Byte) :
    memGet blank (memSet blank m k v) j = if j = k then v else memGet blank m j := by
  unfold memSet; split
  · subst_vars; exact memGet_memDel h
  · exact memGet_memPut h

/-- A byte outside the bytes written reads as before. -/
theorem memGet_memWrite_of_outside {blank : Byte} (bs : List Byte) : ∀ {m : Mem} (_ : memWf blank m = true) (k j : Nat),
    (j < k ∨ k + bs.length ≤ j) → memGet blank (memWrite blank m k bs) j = memGet blank m j := by
  induction bs with
  | nil => intros; rfl
  | cons b bs ih =>
    intro m h k j hj
    simp only [List.length_cons] at hj
    rw [memWrite, ih (memSet_wf h k b) (k + 1) j (by omega), memGet_memSet h, if_neg (by omega)]

/-- The bytes written read back. -/
theorem memGet_memWrite {blank : Byte} (bs : List Byte) : ∀ {m : Mem} (_ : memWf blank m = true) (k i : Nat) (hi : i < bs.length),
    memGet blank (memWrite blank m k bs) (k + i) = bs[i] := by
  induction bs with
  | nil => intro m h k i hi; simp at hi
  | cons b bs ih =>
    intro m h k i hi
    rw [memWrite]
    cases i with
    | zero => rw [memGet_memWrite_of_outside bs (memSet_wf h k b) (k + 1) (k + 0) (by omega), memGet_memSet h]; simp
    | succ i => rw [show k + (i + 1) = k + 1 + i by omega]; exact ih (memSet_wf h k b) (k + 1) i (by simpa using hi)

/-- Reading the bytes just written gives them. -/
theorem memRead_memWrite {blank : Byte} {m : Mem} (h : memWf blank m = true) (k : Nat) (bs : List Byte) :
    memRead blank (memWrite blank m k bs) k bs.length = bs := by
  apply List.ext_getElem
  · simp [memRead]
  · intro i h1 h2; simp only [memRead, List.getElem_map, List.getElem_range]; exact memGet_memWrite bs h k i h2

/-! ### Tables -/

@[simp] theorem tblFind?_tblSet {α : Type} (k : Nat) (v : α) : ∀ t : Tbl α, tblFind? (tblSet k v t) k = some v
  | [] => by simp [tblSet, tblFind?]
  | (a, w) :: t => by
    simp only [tblSet]
    split
    · simp [tblFind?]
    · split
      · simp [tblFind?]
      · simp only [tblFind?]; rw [if_neg ‹_›]; exact tblFind?_tblSet k v t

theorem tblFind?_tblSet_ne {α : Type} {k j : Nat} (h : j ≠ k) (v : α) : ∀ t : Tbl α, tblFind? (tblSet k v t) j = tblFind? t j
  | [] => by simp [tblSet, tblFind?, Ne.symm h]
  | (a, w) :: t => by
    simp only [tblSet]
    split
    · subst_vars; simp [tblFind?, Ne.symm h]
    · split
      · simp [tblFind?, Ne.symm h]
      · simp only [tblFind?, tblFind?_tblSet_ne h v t]

/-- The entry just set. -/
@[simp] theorem tblGet_tblSet {α : Type} (d : α) (k : Nat) (v : α) (t : Tbl α) : tblGet d (tblSet k v t) k = v := by
  simp [tblGet]
/-- Every other entry stands. -/
theorem tblGet_tblSet_ne {α : Type} {k j : Nat} (h : j ≠ k) (d v : α) (t : Tbl α) :
    tblGet d (tblSet k v t) j = tblGet d t j := by simp [tblGet, tblFind?_tblSet_ne h]

/-- What a table holds after a set: the new entry, or what it held. -/
theorem mem_tblSet {α : Type} {k : Nat} {v : α} : ∀ {t : Tbl α} {e : Nat × α}, e ∈ tblSet k v t → e = (k, v) ∨ e ∈ t
  | [], e, h => by simpa [tblSet] using h
  | (a, w) :: t, e, h => by
    simp only [tblSet] at h
    split at h
    · simp only [List.mem_cons] at h ⊢; exact h.imp_right .inr
    · split at h
      · simp only [List.mem_cons] at h ⊢; exact h
      · simp only [List.mem_cons] at h ⊢
        rcases h with h | h
        · exact .inr (.inl h)
        · rcases mem_tblSet h with h | h
          · exact .inl h
          · exact .inr (.inr h)

/-- A property of every entry is one of the entry a table answers with, the default's apart. -/
theorem tblGet_of_all {α : Type} {p : α → Prop} {d : α} (hd : p d) : ∀ {t : Tbl α} (_ : ∀ e ∈ t, p e.2) (k : Nat), p (tblGet d t k)
  | [], _, _ => hd
  | (a, w) :: t, h, k => by
    have := tblGet_of_all hd (t := t) (fun e he => h e (List.mem_cons_of_mem _ he)) k
    simp only [tblGet, tblFind?] at this ⊢
    split
    · exact h (a, w) (List.mem_cons_self ..)
    · exact this

end Sys2Proof.Machine
end

