-- ==== Sys2Proof/Laws/Canonical.lean ====
section
/-! SUPPORT. Which operations keep every memory of the block in its canonical form: one lemma for each operation over the state. -/

namespace Sys2Proof.Machine
@[simp] theorem allWf_modAt {l : List Mem} (h : AllWf l) (i : Nat) (f : Mem → Mem)
    (hf : memWf 0#8 (f (l[i]?.getD [])) = true) : AllWf (modAt l i f) := by
  intro m hm
  unfold modAt at hm
  induction l generalizing i with
  | nil => simp at hm
  | cons a l ih =>
    have ha := h a (List.mem_cons_self ..)
    have hl : AllWf l := fun m hm => h m (List.mem_cons_of_mem _ hm)
    cases i with
    | zero => simp at hm; rcases hm with rfl | hm
              · simpa using hf
              · exact hl m hm
    | succ i => simp at hm; rcases hm with rfl | hm
                · exact ha
                · exact ih hl i (by simpa using hf) hm
@[simp] theorem allWf_getD {l : List Mem} (h : AllWf l) (i : Nat) : memWf 0#8 (l[i]?.getD []) = true := by
  cases hx : l[i]? with
  | none => rfl
  | some m => exact h m (List.mem_of_getElem? hx)
@[simp] theorem allWf_modAt_clear {l : List Mem} (h : AllWf l) (i : Nat) : AllWf (modAt l i (fun _ => [])) :=
  allWf_modAt h i _ rfl
@[simp] theorem allWf_replicate (n : Nat) : AllWf (List.replicate n []) := by
  intro m hm; rw [List.eq_of_mem_replicate hm]; rfl
@[simp] theorem portsOk_nil : PortsOk [] := by intro e he; cases he
@[simp] theorem tilesOk_nil : TilesOk [] := by intro e he; cases he
@[simp] theorem runOk_none : RunOk none := by intro g hg; cases hg
@[simp] theorem runOk_some (g : GenRun) : RunOk (some g) ↔ memWf 0#8 g.staging = true := by
  constructor
  · intro h; exact h g rfl
  · intro h x hx; cases hx; exact h
@[simp] theorem runOk_map {r : Option GenRun} (h : RunOk r) (f : GenRun → GenRun) (hf : ∀ g, (f g).staging = g.staging) :
    RunOk (r.map f) := by
  cases r with
  | none => simp
  | some g => simp [hf]; simpa using h
@[simp] theorem portOk_mk (a b c d e f g h i j k l m n o p q r t u v) :
    PortOk (TenantPort.mk a b c d e f g h i j k l m n o p q r t u v) ↔
      memWf 0#8 a = true ∧ memWf 0#8 b = true ∧ memWf 0#8 c = true := Iff.rfl
@[simp] theorem portOk_ite (c : Prop) [Decidable c] {a b : TenantPort} (ha : PortOk a) (hb : PortOk b) :
    PortOk (if c then a else b) := by split <;> assumption
@[simp] theorem PortOk.reqWf {p : TenantPort} (h : PortOk p) : memWf 0#8 p.req = true := h.1
@[simp] theorem PortOk.rspWf {p : TenantPort} (h : PortOk p) : memWf 0#8 p.rsp = true := h.2.1
@[simp] theorem PortOk.bulkWf {p : TenantPort} (h : PortOk p) : memWf 0#8 p.bulk = true := h.2.2
@[simp] theorem tileOk_mk (a b c d e f g h i j k l) :
    TileOk (Tile.mk a b c d e f g h i j k l) ↔ memWf 0#8 c = true ∧ memWf 0#8 e = true := Iff.rfl
@[simp] theorem tileOk_ite (c : Prop) [Decidable c] {a b : Tile} (ha : TileOk a) (hb : TileOk b) :
    TileOk (if c then a else b) := by split <;> assumption
@[simp] theorem TileOk.kstoreWf {p : Tile} (h : TileOk p) : memWf 0#8 p.kstore = true := h.1
@[simp] theorem TileOk.palWf {p : Tile} (h : TileOk p) : memWf 0#8 p.pal = true := h.2
@[simp] theorem portsOk_tblSet {t : Tbl TenantPort} (h : PortsOk t) (n : Nat) {p : TenantPort} (hp : PortOk p) :
    PortsOk (tblSet n p t) := by
  intro e he; rcases mem_tblSet he with rfl | he
  · exact hp
  · exact h e he
@[simp] theorem tilesOk_tblSet {t : Tbl Tile} (h : TilesOk t) (n : Nat) {p : Tile} (hp : TileOk p) : TilesOk (tblSet n p t) := by
  intro e he; rcases mem_tblSet he with rfl | he
  · exact hp
  · exact h e he
@[simp] theorem tilesOk_filter {t : Tbl Tile} (h : TilesOk t) (p : Nat × Tile → Bool) : TilesOk (t.filter p) :=
  fun e he => h e (List.mem_filter.1 he).1
@[simp] theorem portsOk_map {t : Tbl TenantPort} (h : PortsOk t) (f : Nat × TenantPort → Nat × TenantPort)
    (hf : ∀ e, PortOk e.2 → PortOk (f e).2) : PortsOk (t.map f) := by
  intro e he; obtain ⟨x, hx, rfl⟩ := List.mem_map.1 he; exact hf x (h x hx)
@[simp] theorem tilesOk_map {t : Tbl Tile} (h : TilesOk t) (f : Nat × Tile → Nat × Tile)
    (hf : ∀ e, TileOk e.2 → TileOk (f e).2) : TilesOk (t.map f) := by
  intro e he; obtain ⟨x, hx, rfl⟩ := List.mem_map.1 he; exact hf x (h x hx)
@[simp] theorem MemOk.port {s : State} (h : MemOk s) (n : Nat) : PortOk (s.port n) :=
  tblGet_of_all (by simp) h.2.2.2.2.1 n
@[simp] theorem MemOk.tile {s : State} (h : MemOk s) (n : Nat) : TileOk (s.tile n) :=
  tblGet_of_all (by simp) h.2.2.2.2.2.1 n
@[simp] theorem MemOk.kaFile {s : State} (h : MemOk s) : memWf 0#8 s.ka.file = true := h.1
@[simp] theorem MemOk.flash {s : State} (h : MemOk s) : memWf 0xFF#8 s.flash.mem = true := h.2.1
@[simp] theorem MemOk.run {s : State} (h : MemOk s) : RunOk s.journal.run := h.2.2.1
@[simp] theorem MemOk.patchBuf {s : State} (h : MemOk s) : memWf 0#8 s.foreman.patchBuf = true := h.2.2.2.1
@[simp] theorem MemOk.ports {s : State} (h : MemOk s) : PortsOk s.ports := h.2.2.2.2.1
@[simp] theorem MemOk.tiles {s : State} (h : MemOk s) : TilesOk s.tiles := h.2.2.2.2.2.1
@[simp] theorem MemOk.wstore {s : State} (h : MemOk s) : AllWf s.sched.wstore := h.2.2.2.2.2.2.1
@[simp] theorem MemOk.dram {s : State} (h : MemOk s) : AllWf s.dram := h.2.2.2.2.2.2.2
/-- Canonical form of a state written out field by field. -/
@[simp] theorem memOk_mk (a b c d e f g h i j k l m n o p q r t u v w) :
    MemOk (State.mk a b c d e f g h i j k l m n o p q r t u v w) ↔
      memWf 0#8 f.file = true ∧ memWf 0xFF#8 g.mem = true ∧ RunOk h.run ∧ memWf 0#8 m.patchBuf = true ∧ PortsOk j ∧ TilesOk r
        ∧ AllWf q.wstore ∧ AllWf t := Iff.rfl
@[simp] theorem memOk_ite (c : Prop) [Decidable c] {a b : State} (ha : MemOk a) (hb : MemOk b) : MemOk (if c then a else b) := by
  split <;> assumption
@[simp] theorem foldl_memOk {α : Type} (l : List α) (g : State → α → State) (s : State)
    (h : ∀ s x, MemOk s → MemOk (g s x)) (hs : MemOk s) : MemOk (l.foldl g s) := by
  induction l generalizing s with
  | nil => exact hs
  | cons a l ih => exact ih _ (h s a hs)
@[simp] theorem foldl_memOk_snd {α β : Type} (l : List α) (g : β × State → α → β × State) (a : β × State)
    (h : ∀ a x, MemOk a.2 → MemOk (g a x).2) (hs : MemOk a.2) : MemOk (l.foldl g a).2 := by
  induction l generalizing a with
  | nil => exact hs
  | cons x l ih => exact ih _ (h a x hs)
@[simp] theorem foldl_memOk_fst {α β : Type} (l : List α) (g : State × β → α → State × β) (a : State × β)
    (h : ∀ a x, MemOk a.1 → MemOk (g a x).1) (hs : MemOk a.1) : MemOk (l.foldl g a).1 := by
  induction l generalizing a with
  | nil => exact hs
  | cons x l ih => exact ih _ (h a x hs)
@[simp] theorem memOk_ite_fst {β : Type} (c : Prop) [Decidable c] {a b : State × β} (ha : MemOk a.1) (hb : MemOk b.1) :
    MemOk (if c then a else b).1 := by split <;> assumption
@[simp] theorem memOk_ite_snd {β : Type} (c : Prop) [Decidable c] {a b : β × State} (ha : MemOk a.2) (hb : MemOk b.2) :
    MemOk (if c then a else b).2 := by split <;> assumption
@[simp] theorem allWf_nil : AllWf [] := by intro m hm; cases hm
@[simp] theorem allWf_cons (m : Mem) (l : List Mem) : AllWf (m :: l) ↔ memWf 0#8 m = true ∧ AllWf l := by simp [AllWf]
@[simp] theorem ctrlPort_ok (p : TenantPort) : PortOk (ctrlPort p) := ⟨rfl, rfl, rfl⟩
/-- Copying a range of bytes into a memory keeps its canonical form. -/
@[simp] theorem foldl_memSet_wf {blank : Byte} {m : Mem} (h : memWf blank m = true) (l : List Host.Cell) (k : Host.Cell → Nat)
    (v : Host.Cell → Byte) : memWf blank (l.foldl (fun m c => memSet blank m (k c) (v c)) m) = true := by
  induction l generalizing m with
  | nil => exact h
  | cons c l ih => exact ih (memSet_wf h _ _)
theorem MemOk.staging {s : State} (h : MemOk s) {g : GenRun} (hg : s.journal.run = some g) :
    memWf 0#8 g.staging = true := h.2.2.1 g hg
@[simp] theorem putBytes_wf (l : List (Bool × Byte)) : ∀ {m : Mem} (_ : memWf 0#8 m = true) (k : Nat),
    memWf 0#8 (putBytes m k l) = true := by
  induction l with
  | nil => intro m h k; exact h
  | cons x l ih => intro m h k; simp only [putBytes]; split <;> simp [ih, h]
theorem nextMessage_ok {s : State} {p q : TenantPort} {m : Msg} (h : nextMessage s p = some (m, q)) (hp : PortOk p) : PortOk q := by
  unfold nextMessage at h
  split at h
  · cases h; exact ⟨hp.1, hp.2.1, hp.2.2⟩
  · cases h; exact ⟨hp.1, hp.2.1, hp.2.2⟩
  · split at h
    · cases h
    · cases h; exact ⟨hp.1, hp.2.1, hp.2.2⟩
@[simp] theorem State.updPort_memOk (s : State) (n : Nat) (f : TenantPort → TenantPort) (h_f : PortOk (f (s.port n))) (hMem : MemOk s) : MemOk (State.updPort s n f) := by
  unfold State.updPort; simp (maxDischargeDepth := 40) [*]
@[simp] theorem State.portSet_memOk (s : State) (n : Nat) (f : TenantPort → TenantPort) (g : JustSet → JustSet) (h_f : PortOk (f (s.port n))) (hMem : MemOk s) : MemOk (State.portSet s n f g) := by
  unfold State.portSet; exact State.updPort_memOk _ _ _ h_f hMem
@[simp] theorem State.updPair_memOk (s : State) (p : Nat) (f : Pair → Pair)  (hMem : MemOk s) : MemOk (State.updPair s p f) := by
  unfold State.updPair; simp (maxDischargeDepth := 40) [*]
@[simp] theorem State.updSys_memOk (s : State) (f : Sys → Sys)  (hMem : MemOk s) : MemOk (State.updSys s f) := by
  unfold State.updSys; simp (maxDischargeDepth := 40) [*]
@[simp] theorem State.updBench_memOk (s : State) (b : Nat) (f : Bench → Bench)  (hMem : MemOk s) : MemOk (State.updBench s b f) := by
  unfold State.updBench; simp (maxDischargeDepth := 40) [*]
@[simp] theorem refreshReady_memOk (s : State)  (hMem : MemOk s) : MemOk (refreshReady s) := by
  unfold refreshReady; simp (maxDischargeDepth := 40) [*]
@[simp] theorem msixSend_memOk (s : State) (v : Nat)  (hMem : MemOk s) : MemOk (msixSend s v) := by
  unfold msixSend; simp (maxDischargeDepth := 40) [*]
@[simp] theorem refreshTenant_memOk (s : State) (n : Nat)  (hMem : MemOk s) : MemOk (refreshTenant s n) := by
  unfold refreshTenant; simp (maxDischargeDepth := 40) [*]
@[simp] theorem refreshLines_memOk (s : State)  (hMem : MemOk s) : MemOk (refreshLines s) := by
  unfold refreshLines; simp (maxDischargeDepth := 40) [*]
@[simp] theorem finish_memOk (s : State)  (hMem : MemOk s) : MemOk (finish s) := by
  unfold finish; simp +contextual (maxDischargeDepth := 40) [*]
@[simp] theorem State.at_memOk (s : State) (t : Nat)  (hMem : MemOk s) : MemOk (State.at s t) := by
  unfold State.at; simp (maxDischargeDepth := 40) [*]
@[simp] theorem State.emit_memOk (s : State) (o : Output)  (hMem : MemOk s) : MemOk (State.emit s o) := by
  unfold State.emit; simp (maxDischargeDepth := 40) [*]
@[simp] theorem State.draw_memOk (s : State)  (hMem : MemOk s) : MemOk (State.draw s).2 := by
  unfold State.draw; simp (maxDischargeDepth := 40) [*]
@[simp] theorem when_memOk (c : Bool) (f : State → State) (s : State) (h_f : ∀ x0, MemOk x0 → MemOk (f x0)) (hMem : MemOk s) : MemOk (when c f s) := by
  unfold when; simp (maxDischargeDepth := 40) [*]
@[simp] theorem onRumbe_memOk (t : Nat) (d : Dev) (f : RCtx → RCtx) (s : State)  (hMem : MemOk s) : MemOk (onRumbe t d f s) := by
  unfold onRumbe; simp (maxDischargeDepth := 40) [*]
@[simp] theorem kaPut_memOk (s : State) (ofs : Nat) (b : List Byte)  (hMem : MemOk s) : MemOk (kaPut s ofs b) := by
  unfold kaPut; simp (maxDischargeDepth := 40) [*]
@[simp] theorem kaConfig_memOk (s : State) (ofs : Nat) (b : List Byte)  (hMem : MemOk s) : MemOk (kaConfig s ofs b) := by
  unfold kaConfig; simp (maxDischargeDepth := 40) [*]
@[simp] theorem kaMap_memOk (s : State) (ofs : Nat) (b : List Byte)  (hMem : MemOk s) : MemOk (kaMap s ofs b) := by
  unfold kaMap; simp (maxDischargeDepth := 40) [*]
@[simp] theorem significant_memOk (s : State)  (hMem : MemOk s) : MemOk (significant s) := by
  unfold significant; simp (maxDischargeDepth := 40) [*]
@[simp] theorem storeSetting_memOk (s : State) (ofs : Nat) (b : List Byte)  (hMem : MemOk s) : MemOk (storeSetting s ofs b) := by
  unfold storeSetting; simp (maxDischargeDepth := 40) [*]
@[simp] theorem raiseEvent_memOk (s : State) (tenant opcode : Nat) (fields : List Byte)  (hMem : MemOk s) : MemOk (raiseEvent s tenant opcode fields) := by
  unfold raiseEvent; simp (maxDischargeDepth := 40) [*]
@[simp] theorem kaTail_memOk (s : State) (b : List Byte)  (hMem : MemOk s) : MemOk (kaTail s b) := by
  unfold kaTail; simp (maxDischargeDepth := 40) [*]
@[simp] theorem newFault_memOk (s : State) (code cls : Nat) (standing : Bool) (tenant kind index : Nat) (detail : List Byte)  (hMem : MemOk s) : MemOk (newFault s code cls standing tenant kind index detail) := by
  unfold newFault; simp (maxDischargeDepth := 40) [*]
@[simp] theorem logFault_memOk (s : State) (code cls : Nat) (standing : Bool) (tenant kind index : Nat) (detail : List Byte)  (hMem : MemOk s) : MemOk (logFault s code cls standing tenant kind index detail) := by
  unfold logFault; simp (maxDischargeDepth := 40) [*]
@[simp] theorem devFault_memOk (s : State) (code cls : Nat) (standing : Bool) (detail : List Byte)  (hMem : MemOk s) : MemOk (devFault s code cls standing detail) := by
  unfold devFault; simp (maxDischargeDepth := 40) [*]
@[simp] theorem crossDiscard_memOk (s : State) (x : Nat)  (hMem : MemOk s) : MemOk (crossDiscard s x) := by
  unfold crossDiscard; simp (maxDischargeDepth := 40) [*]
@[simp] theorem crossOffer_memOk (s : State) (x waiting bits : Nat) (hMem : MemOk s) : MemOk (crossOffer s x waiting bits) := by
  unfold crossOffer; split <;> simp (maxDischargeDepth := 40) [*]
@[simp] theorem State.updStream_memOk (s : State) (n : Nat) (f : Stream → Stream)  (hMem : MemOk s) : MemOk (State.updStream s n f) := by
  unfold State.updStream; simp (maxDischargeDepth := 40) [*]
@[simp] theorem State.updTile_memOk (s : State) (n : Nat) (f : Tile → Tile) (h_f : TileOk (f (s.tile n))) (hMem : MemOk s) : MemOk (State.updTile s n f) := by
  unfold State.updTile; simp (maxDischargeDepth := 40) [*]
@[simp] theorem updStreams_memOk (s : State) (p : Stream → Bool) (f : Stream → Stream)  (hMem : MemOk s) : MemOk (updStreams s p f) := by
  unfold updStreams; simp (maxDischargeDepth := 40) [*]
@[simp] theorem cutRun_memOk (s : State) (n : Nat) (gone : Bool) (hMem : MemOk s) : MemOk (cutRun s n gone) := by
  unfold cutRun; simp (maxDischargeDepth := 40) [*]
@[simp] theorem pauseStream_memOk (s : State) (n reason : Nat)  (hMem : MemOk s) : MemOk (pauseStream s n reason) := by
  unfold pauseStream; simp (maxDischargeDepth := 40) [*]
@[simp] theorem updJob_memOk (s : State) (n : Nat) (f : Job → Job)  (hMem : MemOk s) : MemOk (updJob s n f) := by
  unfold updJob; split <;> simp (maxDischargeDepth := 40) [*]
@[simp] theorem jobEndEvent_memOk (s : State) (n : Nat) (j : Job) (code : Nat)  (hMem : MemOk s) : MemOk (jobEndEvent s n j code) := by
  unfold jobEndEvent; simp (maxDischargeDepth := 40) [*]
@[simp] theorem endJob_memOk (s : State) (n code : Nat)  (hMem : MemOk s) : MemOk (endJob s n code) := by
  unfold endJob; split <;> simp (maxDischargeDepth := 40) [*]
@[simp] theorem removeJob_memOk (s : State) (n code : Nat)  (hMem : MemOk s) : MemOk (removeJob s n code) := by
  unfold removeJob; simp (maxDischargeDepth := 40) [*]
@[simp] theorem jobBoundary_memOk (s : State) (n : Nat)  (hMem : MemOk s) : MemOk (jobBoundary s n) := by
  unfold jobBoundary; split <;> simp (maxDischargeDepth := 40) [*]
@[simp] theorem jobBoundaries_memOk (s : State) (hMem : MemOk s) : MemOk (jobBoundaries s) := by
  unfold jobBoundaries; simp +contextual (maxDischargeDepth := 40) [*]
@[simp] theorem ctrlReset_memOk (s : State)  (hMem : MemOk s) : MemOk (ctrlReset s) := by
  unfold ctrlReset; simp (maxDischargeDepth := 40) [*]
@[simp] theorem clearTiles_memOk (s : State) (b : Nat)  (hMem : MemOk s) : MemOk (clearTiles s b) := by
  unfold clearTiles; simp (maxDischargeDepth := 40) [*]
@[simp] theorem dropStreams_memOk (s : State) (b : Nat)  (hMem : MemOk s) : MemOk (dropStreams s b) := by
  unfold dropStreams; simp (maxDischargeDepth := 40) [*]
@[simp] theorem benchReset_memOk (s : State) (b : Nat)  (hMem : MemOk s) : MemOk (benchReset s b) := by
  unfold benchReset; simp (maxDischargeDepth := 40) [*]
@[simp] theorem computeReset_memOk (s : State) (commanded : Bool)  (hMem : MemOk s) : MemOk (computeReset s commanded) := by
  unfold computeReset; simp +contextual (maxDischargeDepth := 40) [*]
@[simp] theorem shellReset_memOk (s : State)  (hMem : MemOk s) : MemOk (shellReset s) := by
  unfold shellReset; simp (maxDischargeDepth := 40) [*]
@[simp] theorem goHome_memOk (s : State) (tile bank : Nat)  (hMem : MemOk s) : MemOk (goHome s tile bank) := by
  unfold goHome; simp (maxDischargeDepth := 40) [*]
@[simp] theorem dropLeases_memOk (s : State) (tile : Nat)  (hMem : MemOk s) : MemOk (dropLeases s tile) := by
  unfold dropLeases; (repeat' split) <;> simp +contextual (maxDischargeDepth := 40) [*]
@[simp] theorem landOne_memOk (s : State) (tile : Nat) (x : InFlight)  (hMem : MemOk s) : MemOk (landOne s tile x) := by
  unfold landOne; split <;> simp (maxDischargeDepth := 40) [*]
@[simp] theorem landDue_memOk (s : State) (tile : Nat)  (hMem : MemOk s) : MemOk (landDue s tile) := by
  unfold landDue; (repeat' split) <;> simp +contextual (maxDischargeDepth := 40) [*]
@[simp] theorem dramWrite_memOk (s : State) (a : Nat) (b : List Byte)  (hMem : MemOk s) : MemOk (dramWrite s a b) := by
  unfold dramWrite; simp (maxDischargeDepth := 40) [*]
@[simp] theorem palWrite_memOk (s : State) (tile unit : Nat) (b : List Byte)  (hMem : MemOk s) : MemOk (palWrite s tile unit b) := by
  unfold palWrite; simp (maxDischargeDepth := 40) [*]
@[simp] theorem widenNow_memOk (s : State) (tile kt bits : Nat) (hMem : MemOk s) : MemOk (widenNow s tile kt bits) := by
  unfold widenNow; simp (maxDischargeDepth := 40) [*]
@[simp] theorem widenMask_memOk (s : State) (tile kt unit units : Nat)  (hMem : MemOk s) : MemOk (widenMask s tile kt unit units) := by
  unfold widenMask; simp (maxDischargeDepth := 40) [*]
@[simp] theorem widenLate_memOk (s : State) (tile : Nat) (hMem : MemOk s) : MemOk (widenLate s tile) := by
  unfold widenLate; simp +contextual (maxDischargeDepth := 40) [*]
@[simp] theorem stageChunk_memOk (s : State) (j : Job) (c : Chunk)  (hMem : MemOk s) : MemOk (stageChunk s j c) := by
  unfold stageChunk; simp (maxDischargeDepth := 40) [*]
@[simp] theorem writeOutputs_memOk (s : State) (j : Job) (c : Chunk) (outs : List Byte)  (hMem : MemOk s) : MemOk (writeOutputs s j c outs) := by
  unfold writeOutputs; simp +contextual (maxDischargeDepth := 40) [*]
@[simp] theorem drainChunk_memOk (s : State) (n : Nat) (j : Job) (c : Chunk)  (hMem : MemOk s) : MemOk (drainChunk s n j c) := by
  unfold drainChunk; simp (maxDischargeDepth := 40) [*]
@[simp] theorem progress_memOk (s : State) (j : Job)  (hMem : MemOk s) : MemOk (progress s j) := by
  unfold progress; simp (maxDischargeDepth := 40) [*]
@[simp] theorem setBehind_memOk (s : State) (n : Nat) (b : Bool)  (hMem : MemOk s) : MemOk (setBehind s n b) := by
  unfold setBehind; simp (maxDischargeDepth := 40) [*]
@[simp] theorem setDue_memOk (s : State) (n from_ : Nat) (hMem : MemOk s) : MemOk (setDue s n from_) := by
  unfold setDue; simp (maxDischargeDepth := 40) [*]
@[simp] theorem askFor_memOk (s : State) (tile : Nat) (who : Holder) (bs : List Nat) (hMem : MemOk s) : MemOk (askFor s tile who bs) := by
  unfold askFor; simp (maxDischargeDepth := 40) [*]
@[simp] theorem askBanks_memOk (s : State) (tile unit units : Nat)  (hMem : MemOk s) : MemOk (askBanks s tile unit units) := by
  unfold askBanks; simp (maxDischargeDepth := 40) [*]
@[simp] theorem endCopy_memOk (s : State) (n : Nat)  (hMem : MemOk s) : MemOk (endCopy s n) := by
  unfold endCopy; simp +contextual (maxDischargeDepth := 40) [*]
@[simp] theorem startCopy_memOk (s : State) (n : Nat) (k : XferKind)  (hMem : MemOk s) : MemOk (startCopy s n k) := by
  unfold startCopy; simp (maxDischargeDepth := 40) [*]
@[simp] theorem yieldCkpts_memOk (s : State) (tile mask : Nat)  (hMem : MemOk s) : MemOk (yieldCkpts s tile mask) := by
  unfold yieldCkpts; simp +contextual (maxDischargeDepth := 40) [*]
@[simp] theorem beginRun_memOk (s : State) (tile : Nat) (w : Work) (step : Nat) (need : Bool) (r : Run)  (hMem : MemOk s) : MemOk (beginRun s tile w step need r) := by
  unfold beginRun; simp (maxDischargeDepth := 40) [*] <;> (repeat' split) <;> simp +contextual (maxDischargeDepth := 40) [*]
@[simp] theorem dispatchStream_memOk (s : State) (n : Nat)  (hMem : MemOk s) : MemOk (dispatchStream s n) := by
  unfold dispatchStream; simp (maxDischargeDepth := 40) [*]
@[simp] theorem dispatchChunk_memOk (s : State) (n : Nat) (j : Job) (c : Chunk)  (hMem : MemOk s) : MemOk (dispatchChunk s n j c) := by
  unfold dispatchChunk; split <;> simp (maxDischargeDepth := 40) [*]
@[simp] theorem dispatchJob_memOk (s : State) (n tile : Nat)  (hMem : MemOk s) : MemOk (dispatchJob s n tile) := by
  unfold dispatchJob; (repeat' split) <;> simp +contextual (maxDischargeDepth := 40) [*]
@[simp] theorem dispatchBg_memOk (s : State) (tile cls : Nat) (w : Nat × Nat × Bool × Nat)  (hMem : MemOk s) : MemOk (dispatchBg s tile cls w) := by
  unfold dispatchBg; simp (maxDischargeDepth := 40) [*]
@[simp] theorem dispatchTile_memOk (s : State) (tile : Nat)  (hMem : MemOk s) : MemOk (dispatchTile s tile) := by
  unfold dispatchTile; (repeat' split) <;> simp (maxDischargeDepth := 40) [*]
@[simp] theorem dropLanes_memOk (s : State)  (hMem : MemOk s) : MemOk (dropLanes s) := by
  unfold dropLanes; simp (maxDischargeDepth := 40) [*]
@[simp] theorem freeSlot_memOk (s : State) (n : Nat)  (hMem : MemOk s) : MemOk (freeSlot s n) := by
  unfold freeSlot; simp (maxDischargeDepth := 40) [*]
@[simp] theorem foremanTidy_memOk (s : State) (tile : Nat) (hMem : MemOk s) : MemOk (foremanTidy s tile) := by
  unfold foremanTidy; simp +contextual (maxDischargeDepth := 40) [*]
@[simp] theorem releaseStream_memOk (s : State) (n : Nat)  (hMem : MemOk s) : MemOk (releaseStream s n) := by
  unfold releaseStream; simp (maxDischargeDepth := 40) [*]
@[simp] theorem applyParams_memOk (s : State) (n : Nat)  (hMem : MemOk s) : MemOk (applyParams s n) := by
  unfold applyParams; simp +contextual (maxDischargeDepth := 40) [*]
@[simp] theorem leaveOnline_memOk (s : State) (n c : Nat) (hMem : MemOk s) : MemOk (leaveOnline s n c) := by
  unfold leaveOnline; simp (maxDischargeDepth := 40) [*]
@[simp] theorem applySwap_memOk (s : State) (n : Nat) (st : Stream) (hMem : MemOk s) : MemOk (applySwap s n st) := by
  unfold applySwap; dsimp only; (repeat' split) <;> simp (maxDischargeDepth := 40) [*]
@[simp] theorem applySet_memOk (s : State) (n : Nat)  (hMem : MemOk s) : MemOk (applySet s n) := by
  unfold applySet; dsimp only; (repeat' split) <;> simp (maxDischargeDepth := 40) [*]
@[simp] theorem applyBetween_memOk (s : State) (n : Nat)  (hMem : MemOk s) : MemOk (applyBetween s n) := by
  unfold applyBetween; simp (maxDischargeDepth := 40) [*]
@[simp] theorem settleStream_memOk (s : State) (n : Nat)  (hMem : MemOk s) : MemOk (settleStream s n) := by
  unfold settleStream; simp (maxDischargeDepth := 40) [*]
@[simp] theorem betweenSteps_memOk (s : State) (n : Nat)  (hMem : MemOk s) : MemOk (betweenSteps s n) := by
  unfold betweenSteps; simp (maxDischargeDepth := 40) [*]
@[simp] theorem setReset_memOk (s : State) (n : Nat)  (hMem : MemOk s) : MemOk (setReset s n) := by
  unfold setReset; simp (maxDischargeDepth := 40) [*]
@[simp] theorem pauseFreed_memOk (s : State) (n reason : Nat)  (hMem : MemOk s) : MemOk (pauseFreed s n reason) := by
  unfold pauseFreed; simp (maxDischargeDepth := 40) [*]
@[simp] theorem countUsage_memOk (s : State) (tile : Nat) (r : Run)  (hMem : MemOk s) : MemOk (countUsage s tile r) := by
  unfold countUsage; simp (maxDischargeDepth := 40) [*]
@[simp] theorem rehome_memOk (s : State) (n : Nat) (p : Nat × Nat)  (hMem : MemOk s) : MemOk (rehome s n p) := by
  unfold rehome; simp (maxDischargeDepth := 40) [*]
@[simp] theorem moveStream_memOk (s : State) (n : Nat) (p : Nat × Nat) (hMem : MemOk s) : MemOk (moveStream s n p) := by
  unfold moveStream; (repeat' split) <;> simp (maxDischargeDepth := 40) [*]
@[simp] theorem fixBound_memOk (s : State) (n : Nat)  (hMem : MemOk s) : MemOk (fixBound s n) := by
  unfold fixBound; simp (maxDischargeDepth := 40) [*] <;> (repeat' split) <;> simp +contextual (maxDischargeDepth := 40) [*]
@[simp] theorem fixJob_memOk (s : State) (n : Nat)  (hMem : MemOk s) : MemOk (fixJob s n) := by
  unfold fixJob; (repeat' split) <;> simp (maxDischargeDepth := 40) [*]
@[simp] theorem refitWatch_memOk (s : State) (hMem : MemOk s) : MemOk (refitWatch s) := by
  unfold refitWatch; refine foldl_memOk _ _ _ (fun s x h => ?_) ?_ <;> (repeat' split) <;> simp (maxDischargeDepth := 40) [*]
@[simp] theorem fixWork_memOk (s : State) (w : WorkNo) (hMem : MemOk s) : MemOk (fixWork s w) := by
  unfold fixWork; simp (maxDischargeDepth := 40) [*]
@[simp] theorem recheck_memOk (s : State)  (hMem : MemOk s) : MemOk (recheck s) := by
  unfold recheck; simp +contextual (maxDischargeDepth := 40) [*]
@[simp] theorem streamAbort_memOk (s : State) (n : Nat) (code : AbortCode)  (hMem : MemOk s) : MemOk (streamAbort s n code) := by
  unfold streamAbort; simp (maxDischargeDepth := 40) [*]
@[simp] theorem jobAbort_memOk (s : State) (n tile : Nat) (code : AbortCode)  (hMem : MemOk s) : MemOk (jobAbort s n tile code) := by
  unfold jobAbort; split <;> simp (maxDischargeDepth := 40) [*]
@[simp] theorem leaveTile_memOk (s : State) (tile : Nat) (r : Run) (hMem : MemOk s) : MemOk (leaveTile s tile r) := by
  unfold leaveTile; simp (maxDischargeDepth := 40) [*]
@[simp] theorem abortTile_memOk (s : State) (tile : Nat) (code : AbortCode) (slot : Option Nat) (hMem : MemOk s) : MemOk (abortTile s tile code slot) := by
  unfold abortTile; (repeat' split) <;> simp (maxDischargeDepth := 40) [*]
@[simp] theorem ringWrite_memOk (s : State) (tenant ring : Nat) (entry : List Byte)  (hMem : MemOk s) : MemOk (ringWrite s tenant ring entry) := by
  unfold ringWrite; split <;> simp (maxDischargeDepth := 40) [*]
@[simp] theorem sendEstimate_memOk (s : State) (st : Stream) (r : Run) (entry : List Byte)  (hMem : MemOk s) : MemOk (sendEstimate s st r entry) := by
  unfold sendEstimate; simp (maxDischargeDepth := 40) [*]
@[simp] theorem afterCommit_memOk (s : State) (n : Nat)  (hMem : MemOk s) : MemOk (afterCommit s n) := by
  unfold afterCommit; simp (maxDischargeDepth := 40) [*] <;> (repeat' split) <;> simp +contextual (maxDischargeDepth := 40) [*]
@[simp] theorem streamCommit_memOk (s : State) (n : Nat) (r : Run)  (hMem : MemOk s) : MemOk (streamCommit s n r) := by
  unfold streamCommit; simp (maxDischargeDepth := 40) [*]
@[simp] theorem jobCommit_memOk (s : State) (n tile : Nat) (r : Run)  (hMem : MemOk s) : MemOk (jobCommit s n tile r) := by
  unfold jobCommit; simp (maxDischargeDepth := 40) [*] <;> (repeat' split) <;> simp +contextual (maxDischargeDepth := 40) [*]
@[simp] theorem commitTile_memOk (s : State) (tile : Nat)  (hMem : MemOk s) : MemOk (commitTile s tile) := by
  unfold commitTile; (repeat' split) <;> simp (maxDischargeDepth := 40) [*]
@[simp] theorem updRun_memOk (s : State) (tile : Nat) (f : Run → Run)  (hMem : MemOk s) : MemOk (updRun s tile f) := by
  unfold updRun; simp (maxDischargeDepth := 40) [*]
@[simp] theorem advance_memOk (s : State) (tile : Nat)  (hMem : MemOk s) : MemOk (advance s tile) := by
  unfold advance; (repeat' split) <;> simp (maxDischargeDepth := 40) [*]
@[simp] theorem issueOp_memOk (tile rank op : Nat) (f : TEnv → TRes) (s : State)  (hMem : MemOk s) : MemOk (issueOp tile rank op f s) := by
  unfold issueOp; simp (maxDischargeDepth := 40) [*] <;> (repeat' split) <;> simp +contextual (maxDischargeDepth := 40) [*]
@[simp] theorem tileStep_memOk (f : State → State) (s : State) (h_f : ∀ x0, MemOk x0 → MemOk (f x0)) (hMem : MemOk s) : MemOk (tileStep f s) := by
  unfold tileStep; simp (maxDischargeDepth := 40) [*]
@[simp] theorem noteCorrected_memOk (s : State) (tile : Nat)  (hMem : MemOk s) : MemOk (noteCorrected s tile) := by
  unfold noteCorrected; simp (maxDischargeDepth := 40) [*]
@[simp] theorem issueMem_memOk (tile rank op : Nat) (ecc : Ecc) (f : TEnv → TRes) (s : State)  (hMem : MemOk s) : MemOk (issueMem tile rank op ecc f s) := by
  unfold issueMem; (repeat' split) <;> simp (maxDischargeDepth := 40) [*]
@[simp] theorem nopDo_memOk (tile rank : Nat) (parity : Bool) (s : State)  (hMem : MemOk s) : MemOk (nopDo tile rank parity s) := by
  unfold nopDo; simp (maxDischargeDepth := 40) [*]
@[simp] theorem loopDo_memOk (tile : Nat) (s : State)  (hMem : MemOk s) : MemOk (loopDo tile s) := by
  unfold loopDo; simp (maxDischargeDepth := 40) [*] <;> (repeat' split) <;> simp +contextual (maxDischargeDepth := 40) [*]
@[simp] theorem endStall_memOk (s : State) (tile : Nat)  (hMem : MemOk s) : MemOk (endStall s tile) := by
  unfold endStall; simp (maxDischargeDepth := 40) [*]
@[simp] theorem beginStall_memOk (s : State) (tile : Nat) (k : Stall)  (hMem : MemOk s) : MemOk (beginStall s tile k) := by
  unfold beginStall; simp (maxDischargeDepth := 40) [*]
@[simp] theorem waitinDo_memOk (tile : Nat) (s : State)  (hMem : MemOk s) : MemOk (waitinDo tile s) := by
  unfold waitinDo; simp (maxDischargeDepth := 40) [*] <;> (repeat' split) <;> simp +contextual (maxDischargeDepth := 40) [*]
@[simp] theorem endstepDo_memOk (tile : Nat) (s : State)  (hMem : MemOk s) : MemOk (endstepDo tile s) := by
  unfold endstepDo; simp (maxDischargeDepth := 40) [*]
@[simp] theorem barrierDo_memOk (tile : Nat) (s : State)  (hMem : MemOk s) : MemOk (barrierDo tile s) := by
  unfold barrierDo; simp (maxDischargeDepth := 40) [*] <;> (repeat' split) <;> simp +contextual (maxDischargeDepth := 40) [*]
@[simp] theorem leaseDo_memOk (tile : Nat) (s : State)  (hMem : MemOk s) : MemOk (leaseDo tile s) := by
  unfold leaseDo; simp (maxDischargeDepth := 40) [*] <;> (repeat' split) <;> simp +contextual (maxDischargeDepth := 40) [*]
@[simp] theorem releaseDo_memOk (tile : Nat) (s : State)  (hMem : MemOk s) : MemOk (releaseDo tile s) := by
  unfold releaseDo; simp (maxDischargeDepth := 40) [*] <;> (repeat' split) <;> simp +contextual (maxDischargeDepth := 40) [*]
@[simp] theorem landDo_memOk (tile : Nat) (s : State)  (hMem : MemOk s) : MemOk (landDo tile s) := by
  unfold landDo; (repeat' split) <;> simp (maxDischargeDepth := 40) [*]
@[simp] theorem barrierCompleteDo_memOk (tile : Nat) (s : State)  (hMem : MemOk s) : MemOk (barrierCompleteDo tile s) := by
  unfold barrierCompleteDo; simp +contextual (maxDischargeDepth := 40) [*]
@[simp] theorem foremanWrites_memOk (s : State) (tile : Nat) (hMem : MemOk s) : MemOk (foremanWrites s tile) := by
  unfold foremanWrites; simp +contextual (maxDischargeDepth := 40) [*]
@[simp] theorem leaseGrantDo_memOk (tile bank : Nat) (h : Holder) (s : State)  (hMem : MemOk s) : MemOk (leaseGrantDo tile bank h s) := by
  unfold leaseGrantDo; simp (maxDischargeDepth := 40) [*] <;> (repeat' split) <;> simp +contextual (maxDischargeDepth := 40) [*]
@[simp] theorem stallTimeoutDo_memOk (tile : Nat) (s : State)  (hMem : MemOk s) : MemOk (stallTimeoutDo tile s) := by
  unfold stallTimeoutDo; split <;> simp (maxDischargeDepth := 40) [*]
@[simp] theorem leaseExpiryDo_memOk (tile bank : Nat) (s : State)  (hMem : MemOk s) : MemOk (leaseExpiryDo tile bank s) := by
  unfold leaseExpiryDo; simp (maxDischargeDepth := 40) [*] <;> (repeat' split) <;> simp +contextual (maxDischargeDepth := 40) [*]
@[simp] theorem stepDueDo_memOk (w : Work) (s : State)  (hMem : MemOk s) : MemOk (stepDueDo w s) := by
  unfold stepDueDo; simp (maxDischargeDepth := 40) [*]
@[simp] theorem takeStaging_memOk (s : State) (hMem : MemOk s) : MemOk (takeStaging s) := by
  unfold takeStaging; dsimp only; (repeat' split) <;> simp (maxDischargeDepth := 40) [*]
@[simp] theorem stagingRequestDo_memOk (tile : Nat) (w : Work) (s : State)  (hMem : MemOk s) : MemOk (stagingRequestDo tile w s) := by
  unfold stagingRequestDo; split <;> simp (maxDischargeDepth := 40) [*]
@[simp] theorem stagingDoneDo_memOk (tile : Nat) (s : State)  (hMem : MemOk s) : MemOk (stagingDoneDo tile s) := by
  unfold stagingDoneDo; split <;> simp (maxDischargeDepth := 40) [*]
@[simp] theorem bringInDo_memOk (n : Nat) (s : State)  (hMem : MemOk s) : MemOk (bringInDo n s) := by
  unfold bringInDo; simp (maxDischargeDepth := 40) [*] <;> (repeat' split) <;> simp +contextual (maxDischargeDepth := 40) [*]
@[simp] theorem bringInDoneDo_memOk (n : Nat) (s : State)  (hMem : MemOk s) : MemOk (bringInDoneDo n s) := by
  unfold bringInDoneDo; split <;> simp (maxDischargeDepth := 40) [*]
@[simp] theorem storeArea_memOk (s : State) (n : Nat)  (hMem : MemOk s) : MemOk (storeArea s n) := by
  unfold storeArea; simp (maxDischargeDepth := 40) [*]
@[simp] theorem writeBackDoneDo_memOk (n : Nat) (s : State)  (hMem : MemOk s) : MemOk (writeBackDoneDo n s) := by
  unfold writeBackDoneDo; split <;> simp (maxDischargeDepth := 40) [*]
@[simp] theorem checkpointDoneDo_memOk (n : Nat) (s : State)  (hMem : MemOk s) : MemOk (checkpointDoneDo n s) := by
  unfold checkpointDoneDo; split <;> simp (maxDischargeDepth := 40) [*]
@[simp] theorem migrationDoneDo_memOk (n : Nat) (s : State)  (hMem : MemOk s) : MemOk (migrationDoneDo n s) := by
  unfold migrationDoneDo; (repeat' split) <;> simp (maxDischargeDepth := 40) [*]
@[simp] theorem behindCheckDo_memOk (n : Nat) (s : State)  (hMem : MemOk s) : MemOk (behindCheckDo n s) := by
  unfold behindCheckDo; simp (maxDischargeDepth := 40) [*]
@[simp] theorem refitTimeoutDo_memOk (n : Nat) (s : State)  (hMem : MemOk s) : MemOk (refitTimeoutDo n s) := by
  unfold refitTimeoutDo; (repeat' split) <;> simp (maxDischargeDepth := 40) [*]
@[simp] theorem updStr_memOk (s : State) (n : Nat) (f : LString → LString)  (hMem : MemOk s) : MemOk (updStr s n f) := by
  unfold updStr; simp (maxDischargeDepth := 40) [*]
@[simp] theorem updCell_memOk (s : State) (n : Nat) (f : LCell → LCell)  (hMem : MemOk s) : MemOk (updCell s n f) := by
  unfold updCell; simp (maxDischargeDepth := 40) [*]
@[simp] theorem updMem_memOk (s : State) (i : Nat) (f : Member → Member)  (hMem : MemOk s) : MemOk (updMem s i f) := by
  unfold updMem; simp (maxDischargeDepth := 40) [*]
@[simp] theorem reply_memOk (s : State) (r : Req) (status reason clampN : Nat) (payload bulk : List Byte)  (hMem : MemOk s) : MemOk (reply s r status reason clampN payload bulk) := by
  unfold reply; simp (maxDischargeDepth := 40) [*]
@[simp] theorem answer_memOk (s : State) (r : Req) (payload : List Byte) (es : List ClampEntry) (bulk : List Byte)  (hMem : MemOk s) : MemOk (answer s r payload es bulk) := by
  unfold answer; simp (maxDischargeDepth := 40) [*]
@[simp] theorem failWith_memOk (s : State) (r : Req) (status : Nat)  (hMem : MemOk s) : MemOk (failWith s r status) := by
  unfold failWith; simp (maxDischargeDepth := 40) [*]
@[simp] theorem refuse_memOk (s : State) (r : Req) (codes : List Nat)  (hMem : MemOk s) : MemOk (refuse s r codes) := by
  unfold refuse; simp (maxDischargeDepth := 40) [*]
@[simp] theorem noObject_memOk (s : State) (r : Req)  (hMem : MemOk s) : MemOk (noObject s r) := by
  unfold noObject; simp (maxDischargeDepth := 40) [*]
@[simp] theorem busy_memOk (s : State) (r : Req)  (hMem : MemOk s) : MemOk (busy s r) := by
  unfold busy; simp (maxDischargeDepth := 40) [*]
@[simp] theorem flushBad_memOk (s : State)  (hMem : MemOk s) : MemOk (flushBad s) := by
  unfold flushBad; simp +contextual (maxDischargeDepth := 40) [*]
@[simp] theorem takeNow_memOk (s : State) (n : Nat)  (hMem : MemOk s) : MemOk (takeNow s n) := by
  unfold takeNow; simp (maxDischargeDepth := 40) [*] <;> (repeat' split) <;> simp +contextual (maxDischargeDepth := 40) [*]
@[simp] theorem takeUrgent_memOk (s : State)  (hMem : MemOk s) : MemOk (takeUrgent s) := by
  unfold takeUrgent; simp (maxDischargeDepth := 40) [*]
@[simp] theorem popReq_memOk (s : State)  (hMem : MemOk s) : MemOk (popReq s) := by
  unfold popReq; simp (maxDischargeDepth := 40) [*] <;> (repeat' split) <;> simp +contextual (maxDischargeDepth := 40) [*]
@[simp] theorem serve_memOk (op : Nat) (len : Req → Bool) (rights ready : State → Req → Bool) (body : Req → State → State) (s : State) (h_body : ∀ x0 x1, MemOk x1 → MemOk (body x0 x1)) (hMem : MemOk s) : MemOk (serve op len rights ready body s) := by
  unfold serve; split <;> simp (maxDischargeDepth := 40) [*]
@[simp] theorem foremanRow_memOk (t op : Nat) (len : Req → Bool) (rights ready : State → Req → Bool) (body : Req → State → State) (s : State) (h_body : ∀ x0 x1, MemOk x1 → MemOk (body x0 x1)) (hMem : MemOk s) : MemOk (foremanRow t op len rights ready body s) := by
  unfold foremanRow; simp +contextual (maxDischargeDepth := 40) [*]
@[simp] theorem defer_memOk (s : State) (tenant : Nat) (d : Deferred)  (hMem : MemOk s) : MemOk (defer s tenant d).1 := by
  unfold defer; simp (maxDischargeDepth := 40) [*]
@[simp] theorem endTicket_memOk (s : State) (tenant ticket event status reason mask : Nat) (fields : List Byte)  (hMem : MemOk s) : MemOk (endTicket s tenant ticket event status reason mask fields) := by
  unfold endTicket; simp (maxDischargeDepth := 40) [*]
@[simp] theorem takePlace_memOk (s : State) (st : Stream) (p : Place)  (hMem : MemOk s) : MemOk (takePlace s st p) := by
  unfold takePlace; split <;> simp (maxDischargeDepth := 40) [*]
@[simp] theorem onStream_memOk (f : Req → Nat → State → State) (r : Req) (s : State) (h_f : ∀ x0 x1 x2, MemOk x2 → MemOk (f x0 x1 x2)) (hMem : MemOk s) : MemOk (onStream f r s) := by
  unfold onStream; simp (maxDischargeDepth := 40) [*]
@[simp] theorem roomFor_memOk (s : State) (st : Stream) (mask : Nat) (wantStore : Bool) (hMem : MemOk s) :
    MemOk (roomFor s st mask wantStore) := by
  unfold roomFor
  split
  · exact hMem
  · rename_i hx
    cases e : (s.sched.streams.findSome? _) with
    | none => exact hMem
    | some u =>
      obtain ⟨a, -, ha⟩ := List.exists_of_findSome?_eq_some e
      rw [Option.getD_some]
      split at ha
      · rw [Option.bind_eq_some_iff] at ha
        obtain ⟨q, -, hq⟩ := ha
        simp only at hq
        split at hq
        · cases hq; simp (maxDischargeDepth := 40) [*]
        · cases hq
      · cases ha
@[simp] theorem streamStartDo_memOk (r : Req) (s : State)  (hMem : MemOk s) : MemOk (streamStartDo r s) := by
  unfold streamStartDo; simp (maxDischargeDepth := 40) [*] <;> (repeat' split) <;> simp +contextual (maxDischargeDepth := 40) [*]
@[simp] theorem hostPause_memOk (s : State) (n : Nat)  (hMem : MemOk s) : MemOk (hostPause s n) := by
  unfold hostPause; simp (maxDischargeDepth := 40) [*]
@[simp] theorem streamPauseDo_memOk (r : Req) (n : Nat) (s : State)  (hMem : MemOk s) : MemOk (streamPauseDo r n s) := by
  unfold streamPauseDo; simp (maxDischargeDepth := 40) [*]
@[simp] theorem resumeStream_memOk (s : State) (n : Nat)  (hMem : MemOk s) : MemOk (resumeStream s n) := by
  unfold resumeStream; simp (maxDischargeDepth := 40) [*]
@[simp] theorem moveTo_memOk (s : State) (n : Nat) (p : Place)  (hMem : MemOk s) : MemOk (moveTo s n p) := by
  unfold moveTo; simp (maxDischargeDepth := 40) [*]
@[simp] theorem streamResumeDo_memOk (r : Req) (n : Nat) (s : State)  (hMem : MemOk s) : MemOk (streamResumeDo r n s) := by
  unfold streamResumeDo; simp (maxDischargeDepth := 40) [*] <;> (repeat' split) <;> simp +contextual (maxDischargeDepth := 40) [*]
@[simp] theorem streamResetDo_memOk (r : Req) (n : Nat) (s : State)  (hMem : MemOk s) : MemOk (streamResetDo r n s) := by
  unfold streamResetDo; simp (maxDischargeDepth := 40) [*]
@[simp] theorem streamEndDo_memOk (r : Req) (n : Nat) (s : State)  (hMem : MemOk s) : MemOk (streamEndDo r n s) := by
  unfold streamEndDo; simp (maxDischargeDepth := 40) [*]
@[simp] theorem streamSetDo_memOk (r : Req) (n : Nat) (s : State)  (hMem : MemOk s) : MemOk (streamSetDo r n s) := by
  unfold streamSetDo; simp (maxDischargeDepth := 40) [*] <;> (repeat' split) <;> simp +contextual (maxDischargeDepth := 40) [*]
@[simp] theorem streamStatusDo_memOk (r : Req) (n : Nat) (s : State)  (hMem : MemOk s) : MemOk (streamStatusDo r n s) := by
  unfold streamStatusDo; simp (maxDischargeDepth := 40) [*]
@[simp] theorem streamInputDo_memOk (r : Req) (n : Nat) (s : State)  (hMem : MemOk s) : MemOk (streamInputDo r n s) := by
  unfold streamInputDo; simp (maxDischargeDepth := 40) [*]
@[simp] theorem streamParamDo_memOk (r : Req) (n : Nat) (s : State)  (hMem : MemOk s) : MemOk (streamParamDo r n s) := by
  unfold streamParamDo; simp (maxDischargeDepth := 40) [*]
@[simp] theorem clearFlagsDo_memOk (r : Req) (n : Nat) (s : State)  (hMem : MemOk s) : MemOk (clearFlagsDo r n s) := by
  unfold clearFlagsDo; simp (maxDischargeDepth := 40) [*]
@[simp] theorem setOutRingDo_memOk (r : Req) (s : State)  (hMem : MemOk s) : MemOk (setOutRingDo r s) := by
  unfold setOutRingDo; split <;> simp (maxDischargeDepth := 40) [*]
@[simp] theorem loadTile_memOk (s : State) (img : Image) (tile : Nat)  (hMem : MemOk s) : MemOk (loadTile s img tile) := by
  unfold loadTile; refine foldl_memOk _ _ _ (fun s x h => ?_) (by simp (maxDischargeDepth := 40) [*]); split <;> simp (maxDischargeDepth := 40) [*]
@[simp] theorem loadWeights_memOk (s : State) (img : Image) (b : Nat)  (hMem : MemOk s) : MemOk (loadWeights s img b) := by
  unfold loadWeights; simp (maxDischargeDepth := 40) [*]
@[simp] theorem loadImage_memOk (s : State) (img : Image)  (hMem : MemOk s) : MemOk (loadImage s img) := by
  unfold loadImage; simp +contextual (maxDischargeDepth := 40) [*]
@[simp] theorem replaceTile_memOk (s : State) (h tile : Nat)  (hMem : MemOk s) : MemOk (replaceTile s h tile) := by
  unfold replaceTile; simp (maxDischargeDepth := 40) [*] <;> (repeat' split) <;> simp +contextual (maxDischargeDepth := 40) [*]
@[simp] theorem unloadImage_memOk (s : State) (h : Nat) (img : Image)  (hMem : MemOk s) : MemOk (unloadImage s h img) := by
  unfold unloadImage; simp +contextual (maxDischargeDepth := 40) [*]
@[simp] theorem imageLoadDo_memOk (r : Req) (s : State)  (hMem : MemOk s) : MemOk (imageLoadDo r s) := by
  unfold imageLoadDo; simp (maxDischargeDepth := 40) [*]
@[simp] theorem imageVerified_memOk (ticket : Nat) (s : State) (hMem : MemOk s) : MemOk (imageVerified ticket s) := by
  unfold imageVerified; (repeat' split) <;> simp (maxDischargeDepth := 40) [*]
@[simp] theorem imageUnloadDo_memOk (r : Req) (s : State)  (hMem : MemOk s) : MemOk (imageUnloadDo r s) := by
  unfold imageUnloadDo; simp (maxDischargeDepth := 40) [*] <;> (repeat' split) <;> simp +contextual (maxDischargeDepth := 40) [*]
@[simp] theorem imageListDo_memOk (r : Req) (s : State)  (hMem : MemOk s) : MemOk (imageListDo r s) := by
  unfold imageListDo; simp (maxDischargeDepth := 40) [*]
@[simp] theorem keySetDo_memOk (r : Req) (s : State)  (hMem : MemOk s) : MemOk (keySetDo r s) := by
  unfold keySetDo; simp (maxDischargeDepth := 40) [*]
@[simp] theorem keyClearDo_memOk (r : Req) (s : State)  (hMem : MemOk s) : MemOk (keyClearDo r s) := by
  unfold keyClearDo; simp (maxDischargeDepth := 40) [*]
@[simp] theorem onJob_memOk (f : Req → Nat → Job → State → State) (r : Req) (s : State) (h_f : ∀ x0 x1 x2 x3, MemOk x3 → MemOk (f x0 x1 x2 x3)) (hMem : MemOk s) : MemOk (onJob f r s) := by
  unfold onJob; split <;> simp (maxDischargeDepth := 40) [*]
@[simp] theorem jobSubmitDo_memOk (r : Req) (s : State)  (hMem : MemOk s) : MemOk (jobSubmitDo r s) := by
  unfold jobSubmitDo; (repeat' split) <;> simp (maxDischargeDepth := 40) [*]
@[simp] theorem jobPauseDo_memOk (r : Req) (n : Nat) (j : Job) (s : State)  (hMem : MemOk s) : MemOk (jobPauseDo r n j s) := by
  unfold jobPauseDo; simp (maxDischargeDepth := 40) [*]
@[simp] theorem jobResumeDo_memOk (r : Req) (n : Nat) (j : Job) (s : State)  (hMem : MemOk s) : MemOk (jobResumeDo r n j s) := by
  unfold jobResumeDo; (repeat' split) <;> simp (maxDischargeDepth := 40) [*]
@[simp] theorem jobDeleteDo_memOk (r : Req) (n : Nat) (j : Job) (s : State)  (hMem : MemOk s) : MemOk (jobDeleteDo r n j s) := by
  unfold jobDeleteDo; simp (maxDischargeDepth := 40) [*]
@[simp] theorem jobStatusDo_memOk (r : Req) (n : Nat) (j : Job) (s : State)  (hMem : MemOk s) : MemOk (jobStatusDo r n j s) := by
  unfold jobStatusDo; simp (maxDischargeDepth := 40) [*]
@[simp] theorem dramMove_memOk (s : State) (src dst n : Nat)  (hMem : MemOk s) : MemOk (dramMove s src dst n) := by
  unfold dramMove; simp (maxDischargeDepth := 40) [*]
@[simp] theorem setDatasetDo_memOk (r : Req) (s : State)  (hMem : MemOk s) : MemOk (setDatasetDo r s) := by
  unfold setDatasetDo; simp (maxDischargeDepth := 40) [*] <;> (repeat' split) <;> simp +contextual (maxDischargeDepth := 40) [*]
@[simp] theorem identDo_memOk (r : Req) (s : State)  (hMem : MemOk s) : MemOk (identDo r s) := by
  unfold identDo; simp (maxDischargeDepth := 40) [*]
@[simp] theorem tenantStatusDo_memOk (r : Req) (s : State)  (hMem : MemOk s) : MemOk (tenantStatusDo r s) := by
  unfold tenantStatusDo; simp (maxDischargeDepth := 40) [*]
@[simp] theorem setCatchupDo_memOk (r : Req) (s : State)  (hMem : MemOk s) : MemOk (setCatchupDo r s) := by
  unfold setCatchupDo; simp (maxDischargeDepth := 40) [*]
@[simp] theorem loadRtc_memOk (s : State) (v : Nat)  (hMem : MemOk s) : MemOk (loadRtc s v) := by
  unfold loadRtc; simp (maxDischargeDepth := 40) [*]
@[simp] theorem setRtcDo_memOk (r : Req) (s : State)  (hMem : MemOk s) : MemOk (setRtcDo r s) := by
  unfold setRtcDo; simp (maxDischargeDepth := 40) [*]
@[simp] theorem getRtcDo_memOk (r : Req) (s : State)  (hMem : MemOk s) : MemOk (getRtcDo r s) := by
  unfold getRtcDo; simp (maxDischargeDepth := 40) [*]
@[simp] theorem pauseTenant_memOk (s : State) (n : Nat)  (hMem : MemOk s) : MemOk (pauseTenant s n) := by
  unfold pauseTenant; simp +contextual (maxDischargeDepth := 40) [*]
@[simp] theorem setTenantDo_memOk (r : Req) (s : State)  (hMem : MemOk s) : MemOk (setTenantDo r s) := by
  unfold setTenantDo; simp (maxDischargeDepth := 40) [*]
@[simp] theorem resetCompute_memOk (s : State) (scope bench : Nat)  (hMem : MemOk s) : MemOk (resetCompute s scope bench) := by
  unfold resetCompute; simp (maxDischargeDepth := 40) [*]
@[simp] theorem resetDo_memOk (r : Req) (s : State)  (hMem : MemOk s) : MemOk (resetDo r s) := by
  unfold resetDo; simp (maxDischargeDepth := 40) [*]
@[simp] theorem resetBeginDo_memOk (s : State)  (hMem : MemOk s) : MemOk (resetBeginDo s) := by
  unfold resetBeginDo; split <;> simp (maxDischargeDepth := 40) [*]
@[simp] theorem bootClampDo_memOk (r : Req) (s : State)  (hMem : MemOk s) : MemOk (bootClampDo r s) := by
  unfold bootClampDo; simp (maxDischargeDepth := 40) [*]
@[simp] theorem updCport_memOk (s : State) (p : Nat) (sd : Side) (f : ChainPort → ChainPort)  (hMem : MemOk s) : MemOk (updCport s p sd f) := by
  unfold updCport; simp (maxDischargeDepth := 40) [*]
@[simp] theorem txFrame_memOk (s : State) (p : Nat) (sd : Side) (type : Nat) (pos ret : Bool) (addr : Nat) (payload : List Byte)  (hMem : MemOk s) : MemOk (txFrame s p sd type pos ret addr payload) := by
  unfold txFrame; simp (maxDischargeDepth := 40) [*]
@[simp] theorem notBefore_memOk (s : State) (p : Nat) (sd : Side) (t : Nat) (hMem : MemOk s) : MemOk (notBefore s p sd t) := by
  unfold notBefore; simp (maxDischargeDepth := 40) [*]
@[simp] theorem txControl_memOk (s : State) (p : Nat) (sd : Side) (code arg : Nat)  (hMem : MemOk s) : MemOk (txControl s p sd code arg) := by
  unfold txControl; simp (maxDischargeDepth := 40) [*]
@[simp] theorem await_memOk (s : State) (p kind : Nat)  (hMem : MemOk s) : MemOk (await s p kind) := by
  unfold await; simp (maxDischargeDepth := 40) [*]
@[simp] theorem unawait_memOk (s : State) (p kind : Nat)  (hMem : MemOk s) : MemOk (unawait s p kind) := by
  unfold unawait; simp (maxDischargeDepth := 40) [*]
@[simp] theorem burst_memOk (s : State) (ports : List (Nat × Side)) (u : List Byte)  (hMem : MemOk s) : MemOk (burst s ports u) := by
  unfold burst; simp +contextual (maxDischargeDepth := 40) [*]
@[simp] theorem eopenAll_memOk (s : State)  (hMem : MemOk s) : MemOk (eopenAll s) := by
  unfold eopenAll; simp (maxDischargeDepth := 40) [*]
@[simp] theorem setSt_memOk (s : State) (p : Nat) (new : PairSt)  (hMem : MemOk s) : MemOk (setSt s p new) := by
  unfold setSt; simp (maxDischargeDepth := 40) [*]
@[simp] theorem topology_memOk (s : State) (p expected received : Nat)  (hMem : MemOk s) : MemOk (topology s p expected received) := by
  unfold topology; simp (maxDischargeDepth := 40) [*]
@[simp] theorem lostMember_memOk (s : State) (i : Nat)  (hMem : MemOk s) : MemOk (lostMember s i) := by
  unfold lostMember; simp (maxDischargeDepth := 40) [*]
@[simp] theorem unresponsive_memOk (s : State) (p h : Nat)  (hMem : MemOk s) : MemOk (unresponsive s p h) := by
  unfold unresponsive; simp (maxDischargeDepth := 40) [*]
@[simp] theorem enqueue_memOk (s : State) (p : Nat) (sd : Side) (c : ChainCmd)  (hMem : MemOk s) : MemOk (enqueue s p sd c) := by
  unfold enqueue; simp (maxDischargeDepth := 40) [*]
@[simp] theorem toMember_memOk (s : State) (p h : Nat) (o : Origin) (type : Nat) (payload : List Byte)  (hMem : MemOk s) : MemOk (toMember s p h o type payload) := by
  unfold toMember; simp (maxDischargeDepth := 40) [*]
@[simp] theorem byHop_memOk (s : State) (p : Nat) (sd : Side) (h : Nat) (o : Origin) (type : Nat) (payload : List Byte) (hMem : MemOk s) : MemOk (byHop s p sd h o type payload) := by
  unfold byHop; simp (maxDischargeDepth := 40) [*]
@[simp] theorem byPos_memOk (s : State) (p h : Nat) (o : Origin) (type : Nat) (payload : List Byte) (hMem : MemOk s) : MemOk (byPos s p h o type payload) := by
  unfold byPos; simp (maxDischargeDepth := 40) [*]
@[simp] theorem writeBack_memOk (s : State) (p h : Nat)  (hMem : MemOk s) : MemOk (writeBack s p h) := by
  unfold writeBack; simp +contextual (maxDischargeDepth := 40) [*]
@[simp] theorem writeId_memOk (s : State) (p : Nat) (sd : Side) (h : Nat) (hMem : MemOk s) : MemOk (writeId s p sd h) := by
  unfold writeId; simp (maxDischargeDepth := 40) [*]
@[simp] theorem checkId_memOk (s : State) (p : Nat) (sd : Side) (h : Nat) (again : Bool) (hMem : MemOk s) : MemOk (checkId s p sd h again) := by
  unfold checkId; simp (maxDischargeDepth := 40) [*]
@[simp] theorem askIdentity_memOk (s : State) (p : Nat) (sd : Side) (h : Nat) (once : Bool) (hMem : MemOk s) : MemOk (askIdentity s p sd h once) := by
  unfold askIdentity; simp (maxDischargeDepth := 40) [*]
@[simp] theorem askJab_memOk (s : State) (p h : Nat) (hMem : MemOk s) : MemOk (askJab s p h) := by
  unfold askJab; simp (maxDischargeDepth := 40) [*]
@[simp] theorem startSweeps_memOk (s : State) (p : Nat)  (hMem : MemOk s) : MemOk (startSweeps s p) := by
  unfold startSweeps; simp (maxDischargeDepth := 40) [*]
@[simp] theorem stopPair_memOk (s : State) (p : Nat)  (hMem : MemOk s) : MemOk (stopPair s p) := by
  unfold stopPair; simp (maxDischargeDepth := 40) [*]
@[simp] theorem wakePair_memOk (s : State) (p : Nat)  (hMem : MemOk s) : MemOk (wakePair s p) := by
  unfold wakePair; simp +contextual (maxDischargeDepth := 40) [*]
@[simp] theorem sendEnumerate_memOk (s : State) (p : Nat)  (hMem : MemOk s) : MemOk (sendEnumerate s p) := by
  unfold sendEnumerate; simp (maxDischargeDepth := 40) [*]
@[simp] theorem takeSnapshot_memOk (s : State) (cause : Nat)  (hMem : MemOk s) : MemOk (takeSnapshot s cause) := by
  unfold takeSnapshot; simp (maxDischargeDepth := 40) [*]
@[simp] theorem askSnapshot_memOk (s : State) (cause : Nat) (hMem : MemOk s) : MemOk (askSnapshot s cause) := by
  unfold askSnapshot; simp (maxDischargeDepth := 40) [*]
@[simp] theorem dueSnapshot_memOk (s : State) (hMem : MemOk s) : MemOk (dueSnapshot s) := by
  unfold dueSnapshot; split <;> simp (maxDischargeDepth := 40) [*]
@[simp] theorem restoreLedger_memOk (s : State)  (hMem : MemOk s) : MemOk (restoreLedger s) := by
  unfold restoreLedger; simp +contextual (maxDischargeDepth := 40) [*]
@[simp] theorem addCharge_memOk (s : State) (c : Nat) (dq : Int) (bal : Bool)  (hMem : MemOk s) : MemOk (addCharge s c dq bal) := by
  unfold addCharge; simp (maxDischargeDepth := 40) [*] <;> (repeat' split) <;> simp +contextual (maxDischargeDepth := 40) [*]
@[simp] theorem addUx_memOk (s : State) (c u : Nat)  (hMem : MemOk s) : MemOk (addUx s c u) := by
  unfold addUx; simp (maxDischargeDepth := 40) [*]
@[simp] theorem assayNone_memOk (s : State) (c : Nat)  (hMem : MemOk s) : MemOk (assayNone s c) := by
  unfold assayNone; simp (maxDischargeDepth := 40) [*]
@[simp] theorem invalidate_memOk (s : State) (c : Nat)  (hMem : MemOk s) : MemOk (invalidate s c) := by
  unfold invalidate; simp (maxDischargeDepth := 40) [*]
@[simp] theorem driveGpio_memOk (s : State)  (hMem : MemOk s) : MemOk (driveGpio s) := by
  unfold driveGpio; simp (maxDischargeDepth := 40) [*]
@[simp] theorem judge_memOk (s : State) (n : Nat)  (hMem : MemOk s) : MemOk (judge s n) := by
  unfold judge; simp (maxDischargeDepth := 40) [*]
@[simp] theorem lcEvent_memOk (s : State) (n : Nat)  (hMem : MemOk s) : MemOk (lcEvent s n) := by
  unfold lcEvent; simp (maxDischargeDepth := 40) [*]
@[simp] theorem ledgerNote_memOk (s : State) (e : LedgerNote) (hMem : MemOk s) : MemOk (ledgerNote s e) := by
  unfold ledgerNote; simp (maxDischargeDepth := 40) [*]
@[simp] theorem disqualify_memOk (s : State) (n : Nat) (codes : List Nat)  (hMem : MemOk s) : MemOk (disqualify s n codes) := by
  unfold disqualify; simp (maxDischargeDepth := 40) [*] <;> (repeat' split) <;> simp +contextual (maxDischargeDepth := 40) [*]
@[simp] theorem enterRunning_memOk (s : State) (n : Nat) (hMem : MemOk s) : MemOk (enterRunning s n) := by
  unfold enterRunning; simp +contextual (maxDischargeDepth := 40) [*]
@[simp] theorem anchorLog_memOk (s : State) (n kind cells : Nat)  (hMem : MemOk s) : MemOk (anchorLog s n kind cells) := by
  unfold anchorLog; simp (maxDischargeDepth := 40) [*]
@[simp] theorem takeAnchor_memOk (s : State) (c kind : Nat) (q : Int)  (hMem : MemOk s) : MemOk (takeAnchor s c kind q) := by
  unfold takeAnchor; simp (maxDischargeDepth := 40) [*]
@[simp] theorem fullAnchors_memOk (s : State) (n kind : Nat) (cells : List Nat)  (hMem : MemOk s) : MemOk (fullAnchors s n kind cells) := by
  unfold fullAnchors; simp +contextual (maxDischargeDepth := 40) [*]
@[simp] theorem updateCap_memOk (s : State) (n : Nat) (emptied : List Nat)  (hMem : MemOk s) : MemOk (updateCap s n emptied) := by
  unfold updateCap; simp +contextual (maxDischargeDepth := 40) [*]
@[simp] theorem resetFed_memOk (s : State) (c : Nat)  (hMem : MemOk s) : MemOk (resetFed s c) := by
  unfold resetFed; split <;> simp (maxDischargeDepth := 40) [*]
@[simp] theorem storeMember_memOk (s : State) (i : Nat)  (hMem : MemOk s) : MemOk (storeMember s i) := by
  unfold storeMember; simp (maxDischargeDepth := 40) [*]
@[simp] theorem moduleSwap_memOk (s : State) (p h modid : Nat) (serial : Option Nat) (hMem : MemOk s) : MemOk (moduleSwap s p h modid serial) := by
  unfold moduleSwap; dsimp only; split <;> simp +contextual (maxDischargeDepth := 40) [*]
@[simp] theorem resetString_memOk (s : State) (n : Nat) (capacity : Bool)  (hMem : MemOk s) : MemOk (resetString s n capacity) := by
  unfold resetString; simp +contextual (maxDischargeDepth := 40) [*]
@[simp] theorem lcCount_memOk (s : State) (n : Nat) (dq i : Int) (dn : Nat) (hf : Nat)  (hMem : MemOk s) : MemOk (lcCount s n dq i dn hf) := by
  unfold lcCount; simp (maxDischargeDepth := 40) [*]
@[simp] theorem countHead_memOk (s : State) (n : Nat) (b : List Byte) (dq : Int) (dn gap : Nat)  (hMem : MemOk s) : MemOk (countHead s n b dq dn gap) := by
  unfold countHead; simp +contextual (maxDischargeDepth := 40) [*]
@[simp] theorem headSeen_memOk (s : State) (n : Nat) (b : List Byte)  (hMem : MemOk s) : MemOk (headSeen s n b) := by
  unfold headSeen; simp (maxDischargeDepth := 40) [*]
@[simp] theorem headGateIn_memOk (s : State) (n : Nat) (b : List Byte)  (hMem : MemOk s) : MemOk (headGateIn s n b) := by
  unfold headGateIn; simp (maxDischargeDepth := 40) [*]
@[simp] theorem headFlagsIn_memOk (s : State) (n : Nat) (b : List Byte) (hMem : MemOk s) : MemOk (headFlagsIn s n b) := by
  unfold headFlagsIn; simp (maxDischargeDepth := 40) [*]
@[simp] theorem headCountIn_memOk (s : State) (n : Nat) (b : List Byte) (l : LString)  (hMem : MemOk s) : MemOk (headCountIn s n b l) := by
  unfold headCountIn; (repeat' split) <;> simp +contextual (maxDischargeDepth := 40) [*]
@[simp] theorem headRecordIn_memOk (s : State) (n : Nat) (b : List Byte)  (hMem : MemOk s) : MemOk (headRecordIn s n b) := by
  unfold headRecordIn; simp (maxDischargeDepth := 40) [*]
@[simp] theorem addBalance_memOk (s : State) (i k : Nat) (dqb : Int)  (hMem : MemOk s) : MemOk (addBalance s i k dqb) := by
  unfold addBalance; simp (maxDischargeDepth := 40) [*]
@[simp] theorem addModule_memOk (s : State) (i : Nat) (dqmb : Int)  (hMem : MemOk s) : MemOk (addModule s i dqmb) := by
  unfold addModule; simp +contextual (maxDischargeDepth := 40) [*]
@[simp] theorem qbTo_memOk (s : State) (i k : Nat) (v : Int)  (hMem : MemOk s) : MemOk (qbTo s i k v) := by
  unfold qbTo; simp (maxDischargeDepth := 40) [*]
@[simp] theorem qmbTo_memOk (s : State) (i : Nat) (v : Int)  (hMem : MemOk s) : MemOk (qmbTo s i v) := by
  unfold qmbTo; simp (maxDischargeDepth := 40) [*]
@[simp] theorem askBalance_memOk (s : State) (i : Nat) (hMem : MemOk s) : MemOk (askBalance s i) := by
  unfold askBalance; simp (maxDischargeDepth := 40) [*]
@[simp] theorem balanceRestart_memOk (s : State) (i : Nat) (hMem : MemOk s) : MemOk (balanceRestart s i) := by
  unfold balanceRestart; simp (maxDischargeDepth := 40) [*]
@[simp] theorem tlogRead_memOk (s : State) (i : Nat) (ws : List Nat) (hMem : MemOk s) : MemOk (tlogRead s i ws) := by
  unfold tlogRead; simp (maxDischargeDepth := 40) [*]
@[simp] theorem balanceIn_memOk (s : State) (i : Nat) (b : List Byte)  (hMem : MemOk s) : MemOk (balanceIn s i b) := by
  unfold balanceIn; (repeat' split) <;> simp (maxDischargeDepth := 40) [*]
@[simp] theorem balanceRead_memOk (s : State) (i : Nat) (ws : List Nat)  (hMem : MemOk s) : MemOk (balanceRead s i ws) := by
  unfold balanceRead; simp +contextual (maxDischargeDepth := 40) [*]
@[simp] theorem restoreRead_memOk (s : State) (i : Nat) (ws : List Nat)  (hMem : MemOk s) : MemOk (restoreRead s i ws) := by
  unfold restoreRead; dsimp only
  repeat first
    | with_reducible assumption
    | with_reducible apply updMem_memOk
    | with_reducible apply addUx_memOk
    | with_reducible apply qmbTo_memOk
    | with_reducible apply qbTo_memOk
    | with_reducible apply addBalance_memOk
    | with_reducible refine foldl_memOk _ _ _ (fun s x h => ?_) ?_
    | split
@[simp] theorem readSerial_memOk (s : State) (p h : Nat)  (hMem : MemOk s) : MemOk (readSerial s p h) := by
  unfold readSerial; simp (maxDischargeDepth := 40) [*]
@[simp] theorem watchSwap_memOk (s : State) (p h : Nat) (b : List Byte)  (hMem : MemOk s) : MemOk (watchSwap s p h b) := by
  unfold watchSwap; simp (maxDischargeDepth := 40) [*]
@[simp] theorem watchWiring_memOk (s : State) (p h : Nat) (b : List Byte)  (hMem : MemOk s) : MemOk (watchWiring s p h b) := by
  unfold watchWiring; simp +contextual (maxDischargeDepth := 40) [*]
@[simp] theorem afterWoke_memOk (s : State) (p h : Nat)  (hMem : MemOk s) : MemOk (afterWoke s p h) := by
  unfold afterWoke; simp (maxDischargeDepth := 40) [*]
@[simp] theorem takeRecord_memOk (s : State) (p h : Nat) (b : List Byte)  (hMem : MemOk s) : MemOk (takeRecord s p h b) := by
  unfold takeRecord; dsimp only
  have h1 : ∀ (c : Prop) [Decidable c] (a b : State), MemOk a → MemOk b → MemOk (if c then a else b) := by
    intro c _ a b x y; split <;> assumption
  refine h1 _ _ _ ?_ ?_ <;> (try refine afterWoke_memOk _ _ _ ?_) <;> refine updMem_memOk _ _ _ ?_ <;> split <;>
    (try (refine h1 _ _ _ ?_ (balanceIn_memOk _ _ _ ?_) <;> refine h1 _ _ _ (headRecordIn_memOk _ _ _ ?_) ?_)) <;>
    refine watchWiring_memOk _ _ _ _ (watchSwap_memOk _ _ _ _ ?_) <;>
    refine h1 _ _ _ (readSerial_memOk _ _ _ ?_) ?_ <;> refine h1 _ _ _ ?_ (updMem_memOk _ _ _ ?_) <;>
    exact updMem_memOk _ _ _ hMem
@[simp] theorem feedWrite_memOk (s : State) (n : Nat) (entry : List Nat) (seq due k : Nat)  (hMem : MemOk s) : MemOk (feedWrite s n entry seq due k) := by
  unfold feedWrite; simp (maxDischargeDepth := 40) [*]
@[simp] theorem holdValue_memOk (s : State) (c : Nat) (v : Held)  (hMem : MemOk s) : MemOk (holdValue s c v) := by
  unfold holdValue; simp (maxDischargeDepth := 40) [*]
@[simp] theorem newPeriod_memOk (s : State) (n per : Nat) (hMem : MemOk s) : MemOk (newPeriod s n per) := by
  unfold newPeriod; simp (maxDischargeDepth := 40) [*]
@[simp] theorem feedKept_memOk (s : State) (p n due k : Nat) (hMem : MemOk s) : MemOk (feedKept s p n due k) := by
  unfold feedKept; simp (maxDischargeDepth := 40) [*]
@[simp] theorem feedStream_memOk (s : State) (p n : Nat)  (hMem : MemOk s) : MemOk (feedStream s p n) := by
  unfold feedStream; simp (maxDischargeDepth := 40) [*]
@[simp] theorem settleCell_memOk (s : State) (p c : Nat)  (hMem : MemOk s) : MemOk (settleCell s p c) := by
  unfold settleCell; simp (maxDischargeDepth := 40) [*]
@[simp] theorem anchorCond_memOk (s : State) (n c : Nat)  (hMem : MemOk s) : MemOk (anchorCond s n c) := by
  unfold anchorCond; simp (maxDischargeDepth := 40) [*] <;> (repeat' split) <;> simp +contextual (maxDischargeDepth := 40) [*]
@[simp] theorem lcTemps_memOk (s : State) (n : Nat)  (hMem : MemOk s) : MemOk (lcTemps s n) := by
  unfold lcTemps; simp (maxDischargeDepth := 40) [*] <;> (repeat' split) <;> simp +contextual (maxDischargeDepth := 40) [*]
@[simp] theorem observeSite_memOk (s : State) (hMem : MemOk s) : MemOk (observeSite s) := by
  unfold observeSite; split <;> simp (maxDischargeDepth := 40) [*]
@[simp] theorem observe_memOk (s : State) (n : Nat)  (hMem : MemOk s) : MemOk (observe s n) := by
  unfold observe; simp (maxDischargeDepth := 40) [*] <;> (repeat' split) <;> simp +contextual (maxDischargeDepth := 40) [*]
@[simp] theorem keepLast_memOk (s : State) (p c : Nat)  (hMem : MemOk s) : MemOk (keepLast s p c) := by
  unfold keepLast; simp (maxDischargeDepth := 40) [*]
@[simp] theorem closeString_memOk (s : State) (p n : Nat)  (hMem : MemOk s) : MemOk (closeString s p n) := by
  unfold closeString; simp +contextual (maxDischargeDepth := 40) [*]
@[simp] theorem closeSweep_memOk (s : State) (p : Nat)  (hMem : MemOk s) : MemOk (closeSweep s p) := by
  unfold closeSweep; simp +contextual (maxDischargeDepth := 40) [*]
@[simp] theorem endCurrent_memOk (s : State) (r : Req) (f : State → State) (h_f : ∀ x0, MemOk x0 → MemOk (f x0)) (hMem : MemOk s) : MemOk (endCurrent s r f) := by
  unfold endCurrent; simp (maxDischargeDepth := 40) [*]
@[simp] theorem chainFail_memOk (s : State) (r : Req) (st reason rs : Nat) (tail : List Byte)  (hMem : MemOk s) : MemOk (chainFail s r st reason rs tail) := by
  unfold chainFail; simp (maxDischargeDepth := 40) [*]
@[simp] theorem keepWords_memOk (s : State) (i reg : Nat) (ws : List Nat)  (hMem : MemOk s) : MemOk (keepWords s i reg ws) := by
  unfold keepWords; simp (maxDischargeDepth := 40) [*]
@[simp] theorem beginChain_memOk (s : State) (r : Req) (p : Nat) (dests : List (Side × Bool × Nat)) (type : Nat) (payload : List Byte)  (hMem : MemOk s) : MemOk (beginChain s r p dests type payload) := by
  unfold beginChain; simp +contextual (maxDischargeDepth := 40) [*]
@[simp] theorem portRestored_memOk (s : State) (r : Req)  (hMem : MemOk s) : MemOk (portRestored s r) := by
  unfold portRestored; split <;> simp (maxDischargeDepth := 40) [*]
@[simp] theorem chainOk_memOk (s : State) (r : Req) (rs : Nat) (data : List Byte)  (hMem : MemOk s) : MemOk (chainOk s r rs data) := by
  unfold chainOk; (repeat' split) <;> simp (maxDischargeDepth := 40) [*]
@[simp] theorem mailboxAck_memOk (s : State) (r : Req) (rs : Nat) (data : List Byte)  (hMem : MemOk s) : MemOk (mailboxAck s r rs data) := by
  unfold mailboxAck; simp +contextual (maxDischargeDepth := 40) [*]
@[simp] theorem scriptSend_memOk (s : State) (p : Nat) (w : WriteTo) (words : List Nat)  (hMem : MemOk s) : MemOk (scriptSend s p w words) := by
  unfold scriptSend; simp (maxDischargeDepth := 40) [*]
@[simp] theorem beginScript_memOk (s : State) (r : Req) (p first : Nat) (todo : List WriteTo)  (hMem : MemOk s) : MemOk (beginScript s r p first todo) := by
  unfold beginScript; split <;> simp (maxDischargeDepth := 40) [*]
@[simp] theorem undoNext_memOk (s : State) (sc : Script)  (hMem : MemOk s) : MemOk (undoNext s sc) := by
  unfold undoNext; (repeat' split) <;> simp +contextual (maxDischargeDepth := 40) [*]
@[simp] theorem notDischarging_memOk (s : State) (n : Nat) (hMem : MemOk s) : MemOk (notDischarging s n) := by
  unfold notDischarging; simp (maxDischargeDepth := 40) [*]
@[simp] theorem dropSiteFirst_memOk (s : State) (n : Nat) (hMem : MemOk s) : MemOk (dropSiteFirst s n) := by
  unfold dropSiteFirst; simp (maxDischargeDepth := 40) [*]
@[simp] theorem applyString_memOk (s : State) (n : Nat) (x : StrSet)  (hMem : MemOk s) : MemOk (applyString s n x) := by
  unfold applyString; simp +contextual (maxDischargeDepth := 40) [*]
@[simp] theorem scriptDone_memOk (s : State) (sc : Script)  (hMem : MemOk s) : MemOk (scriptDone s sc) := by
  unfold scriptDone; simp +contextual (maxDischargeDepth := 40) [*]
@[simp] theorem scriptAck_memOk (s : State) (rs : Nat) (data : List Byte)  (hMem : MemOk s) : MemOk (scriptAck s rs data) := by
  unfold scriptAck; (repeat' split) <;> simp (maxDischargeDepth := 40) [*]
@[simp] theorem idChecked_memOk (s : State) (p : Nat) (sd : Side) (h : Nat) (again : Bool) (v : Nat) (hMem : MemOk s) : MemOk (idChecked s p sd h again v) := by
  unfold idChecked; simp (maxDischargeDepth := 40) [*]
@[simp] theorem serialSeen_memOk (s : State) (p h v : Nat) (hMem : MemOk s) : MemOk (serialSeen s p h v) := by
  unfold serialSeen; simp (maxDischargeDepth := 40) [*]
@[simp] theorem serialRead_memOk (s : State) (p h v : Nat)  (hMem : MemOk s) : MemOk (serialRead s p h v) := by
  unfold serialRead; simp (maxDischargeDepth := 40) [*]
@[simp] theorem modidSeen_memOk (s : State) (p h v : Nat) (hMem : MemOk s) : MemOk (modidSeen s p h v) := by
  unfold modidSeen; simp (maxDischargeDepth := 40) [*]
@[simp] theorem bringUp_memOk (s : State) (p : Nat) (sd : Side) (h : Nat) (hMem : MemOk s) : MemOk (bringUp s p sd h) := by
  unfold bringUp; simp +contextual (maxDischargeDepth := 40) [*]
@[simp] theorem identified_memOk (s : State) (p : Nat) (sd : Side) (h : Nat) (ws : List Nat) (hMem : MemOk s) : MemOk (identified s p sd h ws) := by
  unfold identified; simp (maxDischargeDepth := 40) [*]
@[simp] theorem jabRead_memOk (s : State) (p h v : Nat) (hMem : MemOk s) : MemOk (jabRead s p h v) := by
  unfold jabRead; split <;> simp (maxDischargeDepth := 40) [*]
@[simp] theorem heardFrom_memOk (s : State) (p h : Nat) (c : ChainCmd) (hMem : MemOk s) : MemOk (heardFrom s p h c) := by
  unfold heardFrom; split <;> simp (maxDischargeDepth := 40) [*]
@[simp] theorem finishCmd_memOk (s : State) (p : Nat) (sd : Side) (c : ChainCmd) (rs : Nat) (data : List Byte)  (hMem : MemOk s) : MemOk (finishCmd s p sd c rs data) := by
  unfold finishCmd; split <;> simp (maxDischargeDepth := 40) [*]
@[simp] theorem failCmd_memOk (s : State) (p : Nat) (sd : Side) (c : ChainCmd)  (hMem : MemOk s) : MemOk (failCmd s p sd c) := by
  unfold failCmd; (repeat' split) <;> simp +contextual (maxDischargeDepth := 40) [*]
@[simp] theorem retryCmd_memOk (s : State) (p : Nat) (sd : Side) (o : Outstanding) (hMem : MemOk s) : MemOk (retryCmd s p sd o) := by
  unfold retryCmd; dsimp only; (repeat' split) <;> simp +contextual (maxDischargeDepth := 40) [*]
@[simp] theorem lostId_memOk (s : State) (p : Nat) (sd : Side) (h : Nat) (l : List Chip) (hMem : MemOk s) : MemOk (lostId s p sd h l) := by
  unfold lostId; simp (maxDischargeDepth := 40) [*]
@[simp] theorem ackId_memOk (s : State) (p : Nat) (sd : Side) (c : ChainCmd) (l : List Chip) (hMem : MemOk s) : MemOk (ackId s p sd c l) := by
  unfold ackId; split <;> simp (maxDischargeDepth := 40) [*]
@[simp] theorem ackIn_memOk (s : State) (p : Nat) (sd : Side) (l : List Chip) (hMem : MemOk s) : MemOk (ackIn s p sd l) := by
  unfold ackIn; split <;> simp (maxDischargeDepth := 40) [*]
@[simp] theorem timeoutIn_memOk (s : State) (p : Nat) (sd : Side)  (hMem : MemOk s) : MemOk (timeoutIn s p sd) := by
  unfold timeoutIn; split <;> simp (maxDischargeDepth := 40) [*]
@[simp] theorem windowSend_memOk (s : State) (p : Nat) (sd : Side)  (hMem : MemOk s) : MemOk (windowSend s p sd) := by
  unfold windowSend; (repeat' split) <;> simp +contextual (maxDischargeDepth := 40) [*]
@[simp] theorem endPairTickets_memOk (s : State) (p found : Nat)  (hMem : MemOk s) : MemOk (endPairTickets s p found) := by
  unfold endPairTickets; simp +contextual (maxDischargeDepth := 40) [*]
@[simp] theorem breakTaper_memOk (s : State) (p : Nat) (hMem : MemOk s) : MemOk (breakTaper s p) := by
  unfold breakTaper; simp (maxDischargeDepth := 40) [*]
@[simp] theorem setPairDo_memOk (r : Req) (s : State)  (hMem : MemOk s) : MemOk (setPairDo r s) := by
  unfold setPairDo; simp +contextual (maxDischargeDepth := 40) [*]
@[simp] theorem pairStatusDo_memOk (r : Req) (s : State)  (hMem : MemOk s) : MemOk (pairStatusDo r s) := by
  unfold pairStatusDo; simp (maxDischargeDepth := 40) [*]
@[simp] theorem toTarget_memOk (r : Req) (bcast : Bool) (type : Nat) (payload : List Byte) (s : State)  (hMem : MemOk s) : MemOk (toTarget r bcast type payload s) := by
  unfold toTarget; split <;> simp (maxDischargeDepth := 40) [*]
@[simp] theorem mbRegReadDo_memOk (r : Req) (s : State)  (hMem : MemOk s) : MemOk (mbRegReadDo r s) := by
  unfold mbRegReadDo; simp (maxDischargeDepth := 40) [*]
@[simp] theorem mbRegWriteDo_memOk (r : Req) (s : State)  (hMem : MemOk s) : MemOk (mbRegWriteDo r s) := by
  unfold mbRegWriteDo; simp (maxDischargeDepth := 40) [*]
@[simp] theorem mbControlDo_memOk (r : Req) (s : State)  (hMem : MemOk s) : MemOk (mbControlDo r s) := by
  unfold mbControlDo; simp (maxDischargeDepth := 40) [*]
@[simp] theorem mbReadRecordDo_memOk (r : Req) (s : State)  (hMem : MemOk s) : MemOk (mbReadRecordDo r s) := by
  unfold mbReadRecordDo; simp (maxDischargeDepth := 40) [*]
@[simp] theorem mbBalanceDo_memOk (r : Req) (s : State)  (hMem : MemOk s) : MemOk (mbBalanceDo r s) := by
  unfold mbBalanceDo; simp (maxDischargeDepth := 40) [*]
@[simp] theorem mbFaultClearDo_memOk (r : Req) (s : State)  (hMem : MemOk s) : MemOk (mbFaultClearDo r s) := by
  unfold mbFaultClearDo; simp (maxDischargeDepth := 40) [*]
@[simp] theorem onHead_memOk (r : Req) (f : Nat → StrSet → State → State) (s : State) (h_f : ∀ x0 x1 x2, MemOk x2 → MemOk (f x0 x1 x2)) (hMem : MemOk s) : MemOk (onHead r f s) := by
  unfold onHead; simp (maxDischargeDepth := 40) [*]
@[simp] theorem toHead_memOk (r : Req) (type : Nat) (payload : List Byte) (s : State)  (hMem : MemOk s) : MemOk (toHead r type payload s) := by
  unfold toHead; simp +contextual (maxDischargeDepth := 40) [*]
@[simp] theorem mbGateDo_memOk (eopenN : Bool) (r : Req) (s : State)  (hMem : MemOk s) : MemOk (mbGateDo eopenN r s) := by
  unfold mbGateDo; simp +contextual (maxDischargeDepth := 40) [*]
@[simp] theorem mbAspReleaseDo_memOk (r : Req) (s : State)  (hMem : MemOk s) : MemOk (mbAspReleaseDo r s) := by
  unfold mbAspReleaseDo; simp (maxDischargeDepth := 40) [*]
@[simp] theorem setHeadDo_memOk (r : Req) (s : State)  (hMem : MemOk s) : MemOk (setHeadDo r s) := by
  unfold setHeadDo; simp +contextual (maxDischargeDepth := 40) [*]
@[simp] theorem setProtectDo_memOk (r : Req) (s : State)  (hMem : MemOk s) : MemOk (setProtectDo r s) := by
  unfold setProtectDo; simp (maxDischargeDepth := 40) [*]
@[simp] theorem setStringDo_memOk (r : Req) (s : State)  (hMem : MemOk s) : MemOk (setStringDo r s) := by
  unfold setStringDo; simp (maxDischargeDepth := 40) [*]
@[simp] theorem openAllDo_memOk (r : Req) (s : State)  (hMem : MemOk s) : MemOk (openAllDo r s) := by
  unfold openAllDo; simp (maxDischargeDepth := 40) [*]
@[simp] theorem openStringDo_memOk (r : Req) (s : State)  (hMem : MemOk s) : MemOk (openStringDo r s) := by
  unfold openStringDo; simp (maxDischargeDepth := 40) [*]
@[simp] theorem chainRow_memOk (t : Nat) (c : State → Bool) (f : State → State) (s : State) (h_f : ∀ x0, MemOk x0 → MemOk (f x0)) (hMem : MemOk s) : MemOk (chainRow t c f s) := by
  unfold chainRow; simp +contextual (maxDischargeDepth := 40) [*]
@[simp] theorem ringBehind_memOk (s : State) (p lag period : Nat)  (hMem : MemOk s) : MemOk (ringBehind s p lag period) := by
  unfold ringBehind; simp (maxDischargeDepth := 40) [*]
@[simp] theorem sweepDueDo_memOk (p : Nat) (s : State)  (hMem : MemOk s) : MemOk (sweepDueDo p s) := by
  unfold sweepDueDo; simp +contextual (maxDischargeDepth := 40) [*]
@[simp] theorem sweepTimeoutDo_memOk (p : Nat) (s : State)  (hMem : MemOk s) : MemOk (sweepTimeoutDo p s) := by
  unfold sweepTimeoutDo; simp (maxDischargeDepth := 40) [*]
@[simp] theorem readFirst_memOk (s : State) (p : Nat) (sd : Side) (cs : List ChainCmd)  (hMem : MemOk s) : MemOk (readFirst s p sd cs) := by
  unfold readFirst; simp (maxDischargeDepth := 40) [*]
@[simp] theorem sendBoth_memOk (s : State) (p : Nat)  (hMem : MemOk s) : MemOk (sendBoth s p) := by
  unfold sendBoth; simp (maxDischargeDepth := 40) [*]
@[simp] theorem retrieveBoth_memOk (s : State) (p : Nat)  (hMem : MemOk s) : MemOk (retrieveBoth s p) := by
  unfold retrieveBoth; simp (maxDischargeDepth := 40) [*]
@[simp] theorem collectDueDo_memOk (p : Nat) (s : State)  (hMem : MemOk s) : MemOk (collectDueDo p s) := by
  unfold collectDueDo; simp (maxDischargeDepth := 40) [*]
@[simp] theorem collectTimeoutDo_memOk (p : Nat) (s : State)  (hMem : MemOk s) : MemOk (collectTimeoutDo p s) := by
  unfold collectTimeoutDo; simp (maxDischargeDepth := 40) [*]
@[simp] theorem collectRecoveryDo_memOk (p : Nat) (s : State)  (hMem : MemOk s) : MemOk (collectRecoveryDo p s) := by
  unfold collectRecoveryDo; simp (maxDischargeDepth := 40) [*]
@[simp] theorem enumBroken_memOk (p : Nat) (s : State)  (hMem : MemOk s) : MemOk (enumBroken p s) := by
  unfold enumBroken; dsimp only
  refine sendBoth_memOk _ _ (foldl_memOk _ _ _ (fun s x h => by simp (maxDischargeDepth := 40) [*]) (foldl_memOk _ _ _ (fun s x h => by simp (maxDischargeDepth := 40) [*]) ?_))
  simp (maxDischargeDepth := 40) [*]
@[simp] theorem portBTimeoutDo_memOk (p : Nat) (s : State)  (hMem : MemOk s) : MemOk (portBTimeoutDo p s) := by
  unfold portBTimeoutDo; split <;> simp (maxDischargeDepth := 40) [*]
@[simp] theorem collectBack_memOk (s : State) (p count : Nat) (ok : Bool)  (hMem : MemOk s) : MemOk (collectBack s p count ok) := by
  unfold collectBack; simp (maxDischargeDepth := 40) [*]
@[simp] theorem enumBack_memOk (s : State) (p nextId : Nat) (ok : Bool) (hMem : MemOk s) : MemOk (enumBack s p nextId ok) := by
  unfold enumBack; simp +contextual (maxDischargeDepth := 40) [*]
@[simp] theorem testBack_memOk (s : State) (p : Nat) (ok : Bool)  (hMem : MemOk s) : MemOk (testBack s p ok) := by
  unfold testBack; simp +contextual (maxDischargeDepth := 40) [*]
@[simp] theorem portBDo_memOk (p : Nat) (l : List Chip) (s : State) (hMem : MemOk s) : MemOk (portBDo p l s) := by
  unfold portBDo; simp (maxDischargeDepth := 40) [*]
@[simp] theorem unreached_memOk (s : State) (p h : Nat)  (hMem : MemOk s) : MemOk (unreached s p h) := by
  unfold unreached; simp (maxDischargeDepth := 40) [*] <;> (repeat' split) <;> simp +contextual (maxDischargeDepth := 40) [*]
@[simp] theorem retrievalDoneDo_memOk (p : Nat) (s : State)  (hMem : MemOk s) : MemOk (retrievalDoneDo p s) := by
  unfold retrievalDoneDo; simp +contextual (maxDischargeDepth := 40) [*]
@[simp] theorem isolationDo_memOk (p : Nat) (s : State) (hMem : MemOk s) : MemOk (isolationDo p s) := by
  unfold isolationDo; dsimp only; split <;> simp +contextual (maxDischargeDepth := 40) [*]
@[simp] theorem keepRecord_memOk (s : State) (p h : Nat) (b : List Byte)  (hMem : MemOk s) : MemOk (keepRecord s p h b) := by
  unfold keepRecord; simp (maxDischargeDepth := 40) [*]
@[simp] theorem trainRecord_memOk (s : State) (p : Nat) (ok : Bool)  (hMem : MemOk s) : MemOk (trainRecord s p ok) := by
  unfold trainRecord; simp (maxDischargeDepth := 40) [*]
@[simp] theorem readDone_memOk (s : State) (p : Nat) (sd : Side) (o : Outstanding) (b : List Byte)  (hMem : MemOk s) : MemOk (readDone s p sd o b) := by
  unfold readDone; (repeat' split) <;> simp +contextual (maxDischargeDepth := 40) [*]
@[simp] theorem recordDo_memOk (d : Dev) (l : List Chip) (s : State)  (hMem : MemOk s) : MemOk (recordDo d l s) := by
  unfold recordDo; dsimp only; (repeat' split) <;> simp +contextual (maxDischargeDepth := 40) [*]
@[simp] theorem ringTestDueDo_memOk (p : Nat) (sd : Side) (s : State)  (hMem : MemOk s) : MemOk (ringTestDueDo p sd s) := by
  unfold ringTestDueDo; split <;> simp (maxDischargeDepth := 40) [*]
@[simp] theorem wakeDoneDo_memOk (p : Nat) (s : State)  (hMem : MemOk s) : MemOk (wakeDoneDo p s) := by
  unfold wakeDoneDo; (repeat' split) <;> simp +contextual (maxDischargeDepth := 40) [*]
@[simp] theorem pairRuns_memOk (p : Nat) (s : State) (hMem : MemOk s) : MemOk (pairRuns p s) := by
  unfold pairRuns; simp (maxDischargeDepth := 40) [*]
@[simp] theorem enumerationDoneDo_memOk (p : Nat) (s : State) (hMem : MemOk s) : MemOk (enumerationDoneDo p s) := by
  unfold enumerationDoneDo; simp (maxDischargeDepth := 40) [*]
@[simp] theorem urgentRxDo_memOk (p : Nat) (sd : Side) (u : List Byte) (s : State) (hMem : MemOk s) : MemOk (urgentRxDo p sd u s) := by
  unfold urgentRxDo; simp (maxDischargeDepth := 40) [*]
@[simp] theorem brorosCut_memOk (p : Nat) (sd : Side) (s : State)  (hMem : MemOk s) : MemOk (brorosCut p sd s) := by
  unfold brorosCut; simp (maxDischargeDepth := 40) [*]
@[simp] theorem eopenAcceptDo_memOk (s : State)  (hMem : MemOk s) : MemOk (eopenAcceptDo s) := by
  unfold eopenAcceptDo; simp (maxDischargeDepth := 40) [*]
@[simp] theorem eopenRepeatDo_memOk (low : Bool) (s : State)  (hMem : MemOk s) : MemOk (eopenRepeatDo low s) := by
  unfold eopenRepeatDo; simp (maxDischargeDepth := 40) [*]
@[simp] theorem anchorTaperDo_memOk (c : Nat) (s : State)  (hMem : MemOk s) : MemOk (anchorTaperDo c s) := by
  unfold anchorTaperDo; split <;> simp (maxDischargeDepth := 40) [*]
@[simp] theorem anchorTermDo_memOk (n : Nat) (s : State)  (hMem : MemOk s) : MemOk (anchorTermDo n s) := by
  unfold anchorTermDo; simp (maxDischargeDepth := 40) [*]
@[simp] theorem emptyAnchor_memOk (s : State) (c : Nat)  (hMem : MemOk s) : MemOk (emptyAnchor s c) := by
  unfold emptyAnchor; simp (maxDischargeDepth := 40) [*]
@[simp] theorem completeCycle_memOk (s : State) (n : Nat)  (hMem : MemOk s) : MemOk (completeCycle s n) := by
  unfold completeCycle; simp +contextual (maxDischargeDepth := 40) [*]
@[simp] theorem anchorEmptyDo_memOk (c : Nat) (s : State)  (hMem : MemOk s) : MemOk (anchorEmptyDo c s) := by
  unfold anchorEmptyDo; split <;> simp (maxDischargeDepth := 40) [*]
@[simp] theorem termEvent_memOk (s : State) (n : Nat)  (hMem : MemOk s) : MemOk (termEvent s n) := by
  unfold termEvent; split <;> simp (maxDischargeDepth := 40) [*]
@[simp] theorem gpioTermDo_memOk (g : Nat) (s : State)  (hMem : MemOk s) : MemOk (gpioTermDo g s) := by
  unfold gpioTermDo; simp +contextual (maxDischargeDepth := 40) [*]
@[simp] theorem keepStr_memOk (s : State) (n : Nat) (x : StrSet)  (hMem : MemOk s) : MemOk (keepStr s n x) := by
  unfold keepStr; simp (maxDischargeDepth := 40) [*]
@[simp] theorem setLedgerDo_memOk (r : Req) (s : State)  (hMem : MemOk s) : MemOk (setLedgerDo r s) := by
  unfold setLedgerDo; (repeat' split) <;> simp +contextual (maxDischargeDepth := 40) [*]
@[simp] theorem stringLedgerDo_memOk (r : Req) (s : State)  (hMem : MemOk s) : MemOk (stringLedgerDo r s) := by
  unfold stringLedgerDo; simp (maxDischargeDepth := 40) [*] <;> (repeat' split) <;> simp +contextual (maxDischargeDepth := 40) [*]
@[simp] theorem cellLedgerDo_memOk (r : Req) (s : State)  (hMem : MemOk s) : MemOk (cellLedgerDo r s) := by
  unfold cellLedgerDo; simp (maxDischargeDepth := 40) [*]
@[simp] theorem terminateDo_memOk (r : Req) (s : State)  (hMem : MemOk s) : MemOk (terminateDo r s) := by
  unfold terminateDo; (repeat' split) <;> simp +contextual (maxDischargeDepth := 40) [*]
@[simp] theorem lcArmDo_memOk (r : Req) (s : State)  (hMem : MemOk s) : MemOk (lcArmDo r s) := by
  unfold lcArmDo; simp (maxDischargeDepth := 40) [*] <;> (repeat' split) <;> simp +contextual (maxDischargeDepth := 40) [*]
@[simp] theorem lcAbortDo_memOk (r : Req) (s : State)  (hMem : MemOk s) : MemOk (lcAbortDo r s) := by
  unfold lcAbortDo; simp (maxDischargeDepth := 40) [*] <;> (repeat' split) <;> simp +contextual (maxDischargeDepth := 40) [*]
@[simp] theorem ledgerResetDo_memOk (r : Req) (s : State)  (hMem : MemOk s) : MemOk (ledgerResetDo r s) := by
  unfold ledgerResetDo; (repeat' split) <;> simp +contextual (maxDischargeDepth := 40) [*]
@[simp] theorem mapGpioDo_memOk (r : Req) (s : State)  (hMem : MemOk s) : MemOk (mapGpioDo r s) := by
  unfold mapGpioDo; simp (maxDischargeDepth := 40) [*] <;> (repeat' split) <;> simp +contextual (maxDischargeDepth := 40) [*]
@[simp] theorem ledgerRow_memOk (t : Nat) (c : State → Bool) (f : State → State) (s : State) (h_f : ∀ x0, MemOk x0 → MemOk (f x0)) (hMem : MemOk s) : MemOk (ledgerRow t c f s) := by
  unfold ledgerRow; simp +contextual (maxDischargeDepth := 40) [*]
@[simp] theorem updAcell_memOk (s : State) (c : Nat) (f : AssayCell → AssayCell)  (hMem : MemOk s) : MemOk (updAcell s c f) := by
  unfold updAcell; simp (maxDischargeDepth := 40) [*]
@[simp] theorem classify_memOk (s : State) (c mu sigma sC uC : Nat) (fault : Bool)  (hMem : MemOk s) : MemOk (classify s c mu sigma sC uC fault) := by
  unfold classify; simp (maxDischargeDepth := 40) [*]
@[simp] theorem reanchor_memOk (s : State) (c : Nat) (v : Held) (dq : Int)  (hMem : MemOk s) : MemOk (reanchor s c v dq) := by
  unfold reanchor; simp (maxDischargeDepth := 40) [*]
@[simp] theorem evaluate_memOk (s : State) (e : Estimate) (v : Held)  (hMem : MemOk s) : MemOk (evaluate s e v) := by
  unfold evaluate; split <;> simp (maxDischargeDepth := 40) [*]
@[simp] theorem assayEvalDo_memOk (s : State)  (hMem : MemOk s) : MemOk (assayEvalDo s) := by
  unfold assayEvalDo; simp (maxDischargeDepth := 40) [*] <;> (repeat' split) <;> simp +contextual (maxDischargeDepth := 40) [*]
@[simp] theorem classEventDo_memOk (c : Nat) (s : State)  (hMem : MemOk s) : MemOk (classEventDo c s) := by
  unfold classEventDo; simp (maxDischargeDepth := 40) [*]
@[simp] theorem assayRow_memOk (t : Nat) (c : State → Bool) (f : State → State) (s : State) (h_f : ∀ x0, MemOk x0 → MemOk (f x0)) (hMem : MemOk s) : MemOk (assayRow t c f s) := by
  unfold assayRow; simp +contextual (maxDischargeDepth := 40) [*]
@[simp] theorem disChangeDo_memOk (sc : DisScope) (s : State)  (hMem : MemOk s) : MemOk (disChangeDo sc s) := by
  unfold disChangeDo; split <;> simp (maxDischargeDepth := 40) [*]
@[simp] theorem updChan_memOk (s : State) (n : Nat) (f : RChan → RChan)  (hMem : MemOk s) : MemOk (updChan s n f) := by
  unfold updChan; simp (maxDischargeDepth := 40) [*]
@[simp] theorem writeSnap_memOk (s : State) (n : Nat) (body : List Byte)  (hMem : MemOk s) : MemOk (writeSnap s n body) := by
  unfold writeSnap; simp (maxDischargeDepth := 40) [*]
@[simp] theorem publishDo_memOk (n : Nat) (s : State)  (hMem : MemOk s) : MemOk (publishDo n s) := by
  unfold publishDo; simp +contextual (maxDischargeDepth := 40) [*]
@[simp] theorem setAssayerDo_memOk (r : Req) (s : State)  (hMem : MemOk s) : MemOk (setAssayerDo r s) := by
  unfold setAssayerDo; simp (maxDischargeDepth := 40) [*]
@[simp] theorem setChannelDo_memOk (r : Req) (s : State)  (hMem : MemOk s) : MemOk (setChannelDo r s) := by
  unfold setChannelDo; simp (maxDischargeDepth := 40) [*]
@[simp] theorem getChannelDo_memOk (r : Req) (s : State)  (hMem : MemOk s) : MemOk (getChannelDo r s) := by
  unfold getChannelDo; simp (maxDischargeDepth := 40) [*]
@[simp] theorem cellAssayDo_memOk (r : Req) (s : State)  (hMem : MemOk s) : MemOk (cellAssayDo r s) := by
  unfold cellAssayDo; simp (maxDischargeDepth := 40) [*]
@[simp] theorem restoreDo_memOk (s : State)  (hMem : MemOk s) : MemOk (restoreDo s) := by
  unfold restoreDo; simp +contextual (maxDischargeDepth := 40) [*]
@[simp] theorem State.updFab_memOk (s : State) (f : Fabric → Fabric)  (hMem : MemOk s) : MemOk (State.updFab s f) := by
  unfold State.updFab; simp (maxDischargeDepth := 40) [*]
@[simp] theorem State.updLink_memOk (s : State) (l : Nat) (f : Link → Link)  (hMem : MemOk s) : MemOk (State.updLink s l f) := by
  unfold State.updLink; simp (maxDischargeDepth := 40) [*]
@[simp] theorem takeSeq_memOk (s : State) (type : Nat)  (hMem : MemOk s) : MemOk (takeSeq s type).2 := by
  unfold takeSeq; simp (maxDischargeDepth := 40) [*]
@[simp] theorem emitOn_memOk (s : State) (ls : List Nat) (b : List Byte)  (hMem : MemOk s) : MemOk (emitOn s ls b) := by
  unfold emitOn; simp +contextual (maxDischargeDepth := 40) [*]
@[simp] theorem flood_memOk (s : State) (type : Nat) (payload : List Byte)  (hMem : MemOk s) : MemOk (flood s type payload) := by
  unfold flood; simp (maxDischargeDepth := 40) [*]
@[simp] theorem sendRouted_memOk (s : State) (dst : Nat) (b : List Byte)  (hMem : MemOk s) : MemOk (sendRouted s dst b) := by
  unfold sendRouted; split <;> simp (maxDischargeDepth := 40) [*]
@[simp] theorem fabIn_memOk (l : Nat) (b : List Byte) (kind : State → Fab → Bool) (k : Fab → State → State) (s : State) (h_k : ∀ x0 x1, MemOk x1 → MemOk (k x0 x1)) (hMem : MemOk s) : MemOk (fabIn l b kind k s) := by
  unfold fabIn; simp (maxDischargeDepth := 40) [*]
@[simp] theorem takeFlood_memOk (l : Nat) (k : Fab → State → State) (f : Fab) (s : State) (h_k : ∀ x0 x1, MemOk x1 → MemOk (k x0 x1)) (hMem : MemOk s) : MemOk (takeFlood l k f s) := by
  unfold takeFlood; simp (maxDischargeDepth := 40) [*]
@[simp] theorem floodIn_memOk (l type : Nat) (b : List Byte) (k : Fab → State → State) (s : State) (h_k : ∀ x0 x1, MemOk x1 → MemOk (k x0 x1)) (hMem : MemOk s) : MemOk (floodIn l type b k s) := by
  unfold floodIn; simp +contextual (maxDischargeDepth := 40) [*]
@[simp] theorem linkState_memOk (s : State) (l : Nat)  (hMem : MemOk s) : MemOk (linkState s l) := by
  unfold linkState; simp (maxDischargeDepth := 40) [*]
@[simp] theorem listsChanged_memOk (s : State)  (hMem : MemOk s) : MemOk (listsChanged s) := by
  unfold listsChanged; simp (maxDischargeDepth := 40) [*]
@[simp] theorem linkChanged_memOk (s : State)  (hMem : MemOk s) : MemOk (linkChanged s) := by
  unfold linkChanged; simp (maxDischargeDepth := 40) [*]
@[simp] theorem countAlone_memOk (s : State)  (hMem : MemOk s) : MemOk (countAlone s) := by
  unfold countAlone; simp (maxDischargeDepth := 40) [*]
@[simp] theorem leaveTo_memOk (s : State) (l : Nat) (st : LinkSt) (rate : Nat)  (hMem : MemOk s) : MemOk (leaveTo s l st rate) := by
  unfold leaveTo; simp (maxDischargeDepth := 40) [*]
@[simp] theorem startDetect_memOk (s : State) (l : Nat)  (hMem : MemOk s) : MemOk (startDetect s l) := by
  unfold startDetect; simp (maxDischargeDepth := 40) [*]
@[simp] theorem enterDown_memOk (s : State) (l : Nat)  (hMem : MemOk s) : MemOk (enterDown s l) := by
  unfold enterDown; simp (maxDischargeDepth := 40) [*]
@[simp] theorem linkDown_memOk (s : State) (l rounds : Nat)  (hMem : MemOk s) : MemOk (linkDown s l rounds) := by
  unfold linkDown; simp (maxDischargeDepth := 40) [*]
@[simp] theorem failRound_memOk (s : State) (l : Nat)  (hMem : MemOk s) : MemOk (failRound s l) := by
  unfold failRound; simp (maxDischargeDepth := 40) [*]
@[simp] theorem retrain_memOk (s : State) (l : Nat)  (hMem : MemOk s) : MemOk (retrain s l) := by
  unfold retrain; simp (maxDischargeDepth := 40) [*]
@[simp] theorem emitTraining_memOk (s : State) (l lock st go : Nat)  (hMem : MemOk s) : MemOk (emitTraining s l lock st go) := by
  unfold emitTraining; simp +contextual (maxDischargeDepth := 40) [*]
@[simp] theorem openWindow_memOk (s : State)  (hMem : MemOk s) : MemOk (openWindow s) := by
  unfold openWindow; simp (maxDischargeDepth := 40) [*]
@[simp] theorem setManager_memOk (s : State) (id : Nat)  (hMem : MemOk s) : MemOk (setManager s id) := by
  unfold setManager; simp (maxDischargeDepth := 40) [*]
@[simp] theorem becomeSingle_memOk (s : State)  (hMem : MemOk s) : MemOk (becomeSingle s) := by
  unfold becomeSingle; simp (maxDischargeDepth := 40) [*]
@[simp] theorem hear_memOk (s : State) (serial prio : Nat)  (hMem : MemOk s) : MemOk (hear s serial prio) := by
  unfold hear; simp (maxDischargeDepth := 40) [*]
@[simp] theorem fabricFull_memOk (s : State) (serial : Nat)  (hMem : MemOk s) : MemOk (fabricFull s serial) := by
  unfold fabricFull; simp (maxDischargeDepth := 40) [*]
@[simp] theorem giveId_memOk (s : State) (serial : Nat)  (hMem : MemOk s) : MemOk (giveId s serial) := by
  unfold giveId; (repeat' split) <;> simp (maxDischargeDepth := 40) [*]
@[simp] theorem sendBeacon_memOk (s : State)  (hMem : MemOk s) : MemOk (sendBeacon s) := by
  unfold sendBeacon; simp (maxDischargeDepth := 40) [*]
@[simp] theorem becomeManager_memOk (s : State)  (hMem : MemOk s) : MemOk (becomeManager s) := by
  unfold becomeManager; simp +contextual (maxDischargeDepth := 40) [*]
@[simp] theorem follow_memOk (s : State) (serial : Nat) (b : List Byte)  (hMem : MemOk s) : MemOk (follow s serial b) := by
  unfold follow; simp (maxDischargeDepth := 40) [*]
@[simp] theorem takeBeacon_memOk (s : State) (serial : Nat) (b : List Byte)  (hMem : MemOk s) : MemOk (takeBeacon s serial b) := by
  unfold takeBeacon; simp (maxDischargeDepth := 40) [*]
@[simp] theorem recompute_memOk (s : State)  (hMem : MemOk s) : MemOk (recompute s) := by
  unfold recompute; simp (maxDischargeDepth := 40) [*]
@[simp] theorem sendSummary_memOk (s : State)  (hMem : MemOk s) : MemOk (sendSummary s) := by
  unfold sendSummary; simp +contextual (maxDischargeDepth := 40) [*]
@[simp] theorem takeSummary_memOk (s : State) (serial : Nat) (b : List Byte)  (hMem : MemOk s) : MemOk (takeSummary s serial b) := by
  unfold takeSummary; simp (maxDischargeDepth := 40) [*]
@[simp] theorem fabricStart_memOk (s : State) (stale : Bool)  (hMem : MemOk s) : MemOk (fabricStart s stale) := by
  unfold fabricStart; simp +contextual (maxDischargeDepth := 40) [*]
@[simp] theorem linkRow_memOk (t l : Nat) (st : LinkSt) (c : State → Bool) (f : State → State) (s : State) (h_f : ∀ x0, MemOk x0 → MemOk (f x0)) (hMem : MemOk s) : MemOk (linkRow t l st c f s) := by
  unfold linkRow; simp +contextual (maxDischargeDepth := 40) [*]
@[simp] theorem detectDoneDo_memOk (l : Nat) (s : State)  (hMem : MemOk s) : MemOk (detectDoneDo l s) := by
  unfold detectDoneDo; simp (maxDischargeDepth := 40) [*]
@[simp] theorem exchangeDoneDo_memOk (l : Nat) (peerHi : Bool) (s : State)  (hMem : MemOk s) : MemOk (exchangeDoneDo l peerHi s) := by
  unfold exchangeDoneDo; simp +contextual (maxDischargeDepth := 40) [*]
@[simp] theorem alignDo_memOk (l own : Nat) (last : BitVec 56) (seen : List (Option (BitVec 56))) (s : State) (hMem : MemOk s) : MemOk (alignDo l own last seen s) := by
  unfold alignDo; simp (maxDischargeDepth := 40) [*]
@[simp] theorem singleRound_memOk (l : Nat) (s : State)  (hMem : MemOk s) : MemOk (singleRound l s) := by
  unfold singleRound; simp (maxDischargeDepth := 40) [*]
@[simp] theorem neighDo_memOk (l : Nat) (f : Fab) (s : State) (hMem : MemOk s) : MemOk (neighDo l f s) := by
  unfold neighDo; simp (maxDischargeDepth := 40) [*]
@[simp] theorem helloDo_memOk (f : Fab) (s : State) (hMem : MemOk s) : MemOk (helloDo f s) := by
  unfold helloDo; simp (maxDischargeDepth := 40) [*]
@[simp] theorem forwardDo_memOk (f : Fab) (s : State) (hMem : MemOk s) : MemOk (forwardDo f s) := by
  unfold forwardDo; simp (maxDischargeDepth := 40) [*]
@[simp] theorem neighSendDo_memOk (s : State)  (hMem : MemOk s) : MemOk (neighSendDo s) := by
  unfold neighSendDo; simp +contextual (maxDischargeDepth := 40) [*]
@[simp] theorem managerSerial_memOk (s : State)  (hMem : MemOk s) : MemOk (managerSerial s).2 := by
  unfold managerSerial; split <;> simp (maxDischargeDepth := 40) [*]
@[simp] theorem helloSendDo_memOk (s : State)  (hMem : MemOk s) : MemOk (helloSendDo s) := by
  unfold helloSendDo; simp (maxDischargeDepth := 40) [*]
@[simp] theorem neighSilentDo_memOk (l : Nat) (s : State)  (hMem : MemOk s) : MemOk (neighSilentDo l s) := by
  unfold neighSilentDo; simp (maxDischargeDepth := 40) [*]
@[simp] theorem floodHoldEndDo_memOk (s : State)  (hMem : MemOk s) : MemOk (floodHoldEndDo s) := by
  unfold floodHoldEndDo; simp (maxDischargeDepth := 40) [*]
@[simp] theorem windowCloseDo_memOk (s : State)  (hMem : MemOk s) : MemOk (windowCloseDo s) := by
  unfold windowCloseDo; simp (maxDischargeDepth := 40) [*]
@[simp] theorem managerLeaseDo_memOk (s : State)  (hMem : MemOk s) : MemOk (managerLeaseDo s) := by
  unfold managerLeaseDo; simp (maxDischargeDepth := 40) [*]
@[simp] theorem linkBytes_memOk (s : State)  (hMem : MemOk s) : MemOk (linkBytes s).2 := by
  unfold linkBytes; simp +contextual (maxDischargeDepth := 40) [*]
@[simp] theorem fabricStatusDo_memOk (r : Req) (s : State)  (hMem : MemOk s) : MemOk (fabricStatusDo r s) := by
  unfold fabricStatusDo; simp (maxDischargeDepth := 40) [*]
@[simp] theorem routesDo_memOk (r : Req) (s : State)  (hMem : MemOk s) : MemOk (routesDo r s) := by
  unfold routesDo; simp (maxDischargeDepth := 40) [*]
@[simp] theorem setFabricDo_memOk (r : Req) (s : State)  (hMem : MemOk s) : MemOk (setFabricDo r s) := by
  unfold setFabricDo; simp +contextual (maxDischargeDepth := 40) [*]
@[simp] theorem linkRetrainDo_memOk (r : Req) (s : State)  (hMem : MemOk s) : MemOk (linkRetrainDo r s) := by
  unfold linkRetrainDo; simp (maxDischargeDepth := 40) [*]
@[simp] theorem flashPut_memOk (s : State) (a : Nat) (b : List Byte)  (hMem : MemOk s) : MemOk (flashPut s a b) := by
  unfold flashPut; simp (maxDischargeDepth := 40) [*]
@[simp] theorem programRecord_memOk (s : State) (g : GenRun) (commit : Bool) (h_g : memWf 0#8 g.staging = true) (hMem : MemOk s) : MemOk (programRecord s g commit) := by
  unfold programRecord; simp (maxDischargeDepth := 40) [*]
@[simp] theorem scanJournal_memOk (s : State)  (hMem : MemOk s) : MemOk (scanJournal s) := by
  unfold scanJournal; simp (maxDischargeDepth := 40) [*]
@[simp] theorem journalBegin_memOk (s : State) (snap : Option Nat)  (hMem : MemOk s) : MemOk (journalBegin s snap) := by
  unfold journalBegin; split <;> simp (maxDischargeDepth := 40) [*]
@[simp] theorem journalNext_memOk (s : State)  (hMem : MemOk s) : MemOk (journalNext s) := by
  unfold journalNext; simp (maxDischargeDepth := 40) [*]
@[simp] theorem endWaiters_memOk (s : State) (ws : List JWait) (status seq : Nat)  (hMem : MemOk s) : MemOk (endWaiters s ws status seq) := by
  unfold endWaiters; simp +contextual (maxDischargeDepth := 40) [*]
@[simp] theorem commitRecord_memOk (s : State) (g : GenRun) (h_g : memWf 0#8 g.staging = true) (hMem : MemOk s) : MemOk (commitRecord s g) := by
  unfold commitRecord; simp (maxDischargeDepth := 40) [*]
@[simp] theorem flashFails_memOk (s : State) (g : GenRun) (h_g : memWf 0#8 g.staging = true) (hMem : MemOk s) : MemOk (flashFails s g) := by
  unfold flashFails; simp (maxDischargeDepth := 40) [*]
@[simp] theorem journalTorn_memOk (s : State)  (hMem : MemOk s) : MemOk (journalTorn s) := by
  unfold journalTorn; split <;> simp (maxDischargeDepth := 40) [*]
@[simp] theorem journalShut_memOk (s : State)  (hMem : MemOk s) : MemOk (journalShut s) := by
  unfold journalShut; split
  all_goals first
    | (have hg := hMem.staging ‹_›; (repeat' split) <;> simp (maxDischargeDepth := 40) [hMem, hg])
    | ((repeat' split) <;> simp (maxDischargeDepth := 40) [hMem])
@[simp] theorem eraseDone_memOk (s : State)  (hMem : MemOk s) : MemOk (eraseDone s) := by
  unfold eraseDone; split
  all_goals first
    | (have hg := hMem.staging ‹_›; (repeat' split) <;> simp (maxDischargeDepth := 40) [hMem, hg])
    | ((repeat' split) <;> simp (maxDischargeDepth := 40) [hMem])
@[simp] theorem recordDone_memOk (ok : Bool) (s : State)  (hMem : MemOk s) : MemOk (recordDone ok s) := by
  unfold recordDone; split
  all_goals first
    | (have hg := hMem.staging ‹_›; (repeat' split) <;> simp (maxDischargeDepth := 40) [hMem, hg])
    | ((repeat' split) <;> simp (maxDischargeDepth := 40) [hMem])
@[simp] theorem graceEndDo_memOk (committed : Bool) (s : State)  (hMem : MemOk s) : MemOk (graceEndDo committed s) := by
  unfold graceEndDo; split
  all_goals first
    | (have hg := hMem.staging ‹_›; (repeat' split) <;> simp (maxDischargeDepth := 40) [hMem, hg])
    | ((repeat' split) <;> simp (maxDischargeDepth := 40) [hMem])
@[simp] theorem askJournal_memOk (s : State) (r : Req) (k : Nat) (sd : Bool)  (hMem : MemOk s) : MemOk (askJournal s r k sd) := by
  unfold askJournal; simp (maxDischargeDepth := 40) [*]
@[simp] theorem journalWriteDo_memOk (r : Req) (s : State)  (hMem : MemOk s) : MemOk (journalWriteDo r s) := by
  unfold journalWriteDo; simp (maxDischargeDepth := 40) [*]
@[simp] theorem shutdownDo_memOk (r : Req) (s : State)  (hMem : MemOk s) : MemOk (shutdownDo r s) := by
  unfold shutdownDo; simp (maxDischargeDepth := 40) [*]
@[simp] theorem patchChunkDo_memOk (r : Req) (s : State)  (hMem : MemOk s) : MemOk (patchChunkDo r s) := by
  unfold patchChunkDo; simp (maxDischargeDepth := 40) [*]
@[simp] theorem patchCommitDo_memOk (r : Req) (s : State) (hMem : MemOk s) : MemOk (patchCommitDo r s) := by
  unfold patchCommitDo; simp (maxDischargeDepth := 40) [*]
@[simp] theorem patchDone_memOk (ok : Bool) (s : State)  (hMem : MemOk s) : MemOk (patchDone ok s) := by
  unfold patchDone; split <;> simp (maxDischargeDepth := 40) [*]
@[simp] theorem setPatchMinDo_memOk (r : Req) (s : State)  (hMem : MemOk s) : MemOk (setPatchMinDo r s) := by
  unfold setPatchMinDo; simp (maxDischargeDepth := 40) [*]
@[simp] theorem imageStoreDo_memOk (r : Req) (s : State)  (hMem : MemOk s) : MemOk (imageStoreDo r s) := by
  unfold imageStoreDo; simp (maxDischargeDepth := 40) [*]
@[simp] theorem imageStored_memOk (ok : Bool) (s : State) (hMem : MemOk s) : MemOk (imageStored ok s) := by
  unfold imageStored; dsimp only; (repeat' split) <;> simp (maxDischargeDepth := 40) [*]
@[simp] theorem kaReadDo_memOk (r : Req) (s : State)  (hMem : MemOk s) : MemOk (kaReadDo r s) := by
  unfold kaReadDo; simp (maxDischargeDepth := 40) [*]
@[simp] theorem fusesRead_memOk (v : Nat) (s : State)  (hMem : MemOk s) : MemOk (fusesRead v s) := by
  unfold fusesRead; simp (maxDischargeDepth := 40) [*]
@[simp] theorem fuseReadDo_memOk (reads : List (BitVec 288)) (s : State)  (hMem : MemOk s) : MemOk (fuseReadDo reads s) := by
  unfold fuseReadDo; simp (maxDischargeDepth := 40) [*] <;> (repeat' split) <;> simp +contextual (maxDischargeDepth := 40) [*]
@[simp] theorem pllLockedDo_memOk (locked : List Pll) (s : State)  (hMem : MemOk s) : MemOk (pllLockedDo locked s) := by
  unfold pllLockedDo; simp (maxDischargeDepth := 40) [*]
@[simp] theorem takeSection_memOk (s : State) (lo hi : Nat) (rs : List JRecord)  (hMem : MemOk s) : MemOk (takeSection s lo hi rs) := by
  unfold takeSection; simp +contextual (maxDischargeDepth := 40) [*]
@[simp] theorem recoverSection_memOk (s : State) (valid : Bool) (parts : List Nat) (lo hi : Nat)  (hMem : MemOk s) : MemOk (recoverSection s valid parts lo hi).2 := by
  unfold recoverSection; (repeat' split) <;> simp (maxDischargeDepth := 40) [*]
@[simp] theorem clampGroup_memOk (g : KaGroup) (a : State × List ClampEntry) (h : MemOk a.1) : MemOk (clampGroup g a).1 := by
  unfold clampGroup; exact foldl_memOk _ _ _ (fun s r h => by simp (maxDischargeDepth := 40) [*]) h
@[simp] theorem clampConfig_memOk (s : State)  (hMem : MemOk s) : MemOk (clampConfig s).1 := by
  unfold clampConfig; exact foldl_memOk_fst _ _ _ (fun a g h => clampGroup_memOk g a h) hMem
@[simp] theorem defaultConfig_memOk (s : State)  (hMem : MemOk s) : MemOk (defaultConfig s).1 := by
  unfold defaultConfig; simp +contextual (maxDischargeDepth := 40) [*]
@[simp] theorem clampReport_memOk (s : State) (source : Nat) (es : List ClampEntry)  (hMem : MemOk s) : MemOk (clampReport s source es) := by
  unfold clampReport; simp (maxDischargeDepth := 40) [*]
@[simp] theorem checkConfig_memOk (s : State)  (hMem : MemOk s) : MemOk (checkConfig s).2 := by
  unfold checkConfig; simp (maxDischargeDepth := 40) [*] <;> (repeat' split) <;> simp +contextual (maxDischargeDepth := 40) [*]
@[simp] theorem checkMap_memOk (s : State) (source : Nat)  (hMem : MemOk s) : MemOk (checkMap s source).2 := by
  unfold checkMap; simp (maxDischargeDepth := 40) [*]
@[simp] theorem checkSnapshot_memOk (s : State)  (hMem : MemOk s) : MemOk (checkSnapshot s).2 := by
  unfold checkSnapshot; simp (maxDischargeDepth := 40) [*]
@[simp] theorem loadSettings_memOk (s : State)  (hMem : MemOk s) : MemOk (loadSettings s) := by
  unfold loadSettings; simp +contextual (maxDischargeDepth := 40) [*]
@[simp] theorem wakePairs_memOk (s : State)  (hMem : MemOk s) : MemOk (wakePairs s) := by
  unfold wakePairs; simp +contextual (maxDischargeDepth := 40) [*]
@[simp] theorem planWaves_memOk (s : State)  (hMem : MemOk s) : MemOk (planWaves s) := by
  unfold planWaves; simp +contextual (maxDischargeDepth := 40) [*]
@[simp] theorem kaCheckDo_memOk (density : Option Nat) (s : State)  (hMem : MemOk s) : MemOk (kaCheckDo density s) := by
  unfold kaCheckDo; split <;> simp (maxDischargeDepth := 40) [*]
@[simp] theorem flashDo_memOk (density : Option Nat) (s : State)  (hMem : MemOk s) : MemOk (flashDo density s) := by
  unfold flashDo; split <;> simp (maxDischargeDepth := 40) [*]
@[simp] theorem rtcInvalid_memOk (s : State) (cause : Nat)  (hMem : MemOk s) : MemOk (rtcInvalid s cause) := by
  unfold rtcInvalid; simp (maxDischargeDepth := 40) [*]
@[simp] theorem kaLostDo_memOk (s : State)  (hMem : MemOk s) : MemOk (kaLostDo s) := by
  unfold kaLostDo; simp (maxDischargeDepth := 40) [*]
@[simp] theorem vkaLowDo_memOk (low : Bool) (s : State)  (hMem : MemOk s) : MemOk (vkaLowDo low s) := by
  unfold vkaLowDo; simp (maxDischargeDepth := 40) [*]
@[simp] theorem powerFall_memOk (s : State)  (hMem : MemOk s) : MemOk (powerFall s) := by
  unfold powerFall; simp (maxDischargeDepth := 40) [*]
@[simp] theorem brownout_memOk (_u : Rail) (s : State)  (hMem : MemOk s) : MemOk (brownout _u s) := by
  unfold brownout; simp (maxDischargeDepth := 40) [*]
@[simp] theorem channelDown_memOk (s : State) (c : Nat)  (hMem : MemOk s) : MemOk (channelDown s c) := by
  unfold channelDown; simp +contextual (maxDischargeDepth := 40) [*]
@[simp] theorem stopJobs_memOk (s : State) (c reason : Nat)  (hMem : MemOk s) : MemOk (stopJobs s c reason) := by
  unfold stopJobs; refine foldl_memOk _ _ _ (fun s x h => ?_) hMem; (repeat' split) <;> simp (maxDischargeDepth := 40) [*]
@[simp] theorem channelLost_memOk (s : State) (c : Nat)  (hMem : MemOk s) : MemOk (channelLost s c) := by
  unfold channelLost; simp (maxDischargeDepth := 40) [*]
@[simp] theorem lockLost_memOk (p : Pll) (s : State)  (hMem : MemOk s) : MemOk (lockLost p s) := by
  unfold lockLost; split <;> simp (maxDischargeDepth := 40) [*]
@[simp] theorem lockRegained_memOk (p : Pll) (s : State)  (hMem : MemOk s) : MemOk (lockRegained p s) := by
  unfold lockRegained; split <;> simp (maxDischargeDepth := 40) [*]
@[simp] theorem gateOpens_memOk (b : Nat) (s : State)  (hMem : MemOk s) : MemOk (gateOpens b s) := by
  unfold gateOpens; simp (maxDischargeDepth := 40) [*]
@[simp] theorem testBegins_memOk (b : Nat) (s : State)  (hMem : MemOk s) : MemOk (testBegins b s) := by
  unfold testBegins; simp (maxDischargeDepth := 40) [*]
@[simp] theorem imagesOff_memOk (s : State) (b : Nat)  (hMem : MemOk s) : MemOk (imagesOff s b) := by
  unfold imagesOff; simp (maxDischargeDepth := 40) [*]
@[simp] theorem placeOn_memOk (s : State) (b : Nat)  (hMem : MemOk s) : MemOk (placeOn s b) := by
  unfold placeOn; refine foldl_memOk _ _ _ (fun s x h => ?_) hMem; split <;> simp +contextual (maxDischargeDepth := 40) [*]
@[simp] theorem widenOn_memOk (s : State) (b : Nat)  (hMem : MemOk s) : MemOk (widenOn s b) := by
  unfold widenOn; refine foldl_memOk _ _ _ (fun s x h => ?_) (foldl_memOk _ _ _ (fun s x h => ?_) hMem) <;> (repeat' split) <;> simp (maxDischargeDepth := 40) [*]
@[simp] theorem countRestore_memOk (s : State) (tenant k : Nat)  (hMem : MemOk s) : MemOk (countRestore s tenant k) := by
  unfold countRestore; simp (maxDischargeDepth := 40) [*]
@[simp] theorem reviveStream_memOk (s : State) (n : Nat)  (hMem : MemOk s) : MemOk (reviveStream s n) := by
  unfold reviveStream; simp (maxDischargeDepth := 40) [*]
@[simp] theorem restoreStream_memOk (s : State) (n : Nat)  (hMem : MemOk s) : MemOk (restoreStream s n) := by
  unfold restoreStream; simp (maxDischargeDepth := 40) [*] <;> (repeat' split) <;> simp +contextual (maxDischargeDepth := 40) [*]
@[simp] theorem resumeOne_memOk (s : State) (n : Nat)  (hMem : MemOk s) : MemOk (resumeOne s n) := by
  unfold resumeOne; simp (maxDischargeDepth := 40) [*]
@[simp] theorem tellRestore_memOk (s : State)  (hMem : MemOk s) : MemOk (tellRestore s) := by
  unfold tellRestore; simp +contextual (maxDischargeDepth := 40) [*]
@[simp] theorem benchEnters_memOk (s : State) (b : Nat)  (hMem : MemOk s) : MemOk (benchEnters s b) := by
  unfold benchEnters; simp +contextual (maxDischargeDepth := 40) [*]
@[simp] theorem benchFails_memOk (s : State) (b : Nat) (item : Nat)  (hMem : MemOk s) : MemOk (benchFails s b item) := by
  unfold benchFails; simp (maxDischargeDepth := 40) [*]
@[simp] theorem selfTestDone_memOk (b : Nat) (r : SelfTest) (s : State)  (hMem : MemOk s) : MemOk (selfTestDone b r s) := by
  unfold selfTestDone; simp (maxDischargeDepth := 40) [*]
@[simp] theorem stippleTest_memOk (c0 c1 c2 : BitVec 72) (s : State)  (hMem : MemOk s) : MemOk (stippleTest c0 c1 c2 s) := by
  unfold stippleTest; simp (maxDischargeDepth := 40) [*] <;> (repeat' split) <;> simp +contextual (maxDischargeDepth := 40) [*]
@[simp] theorem verifyPatch_memOk (s : State) (hMem : MemOk s) : MemOk (verifyPatch s) := by
  unfold verifyPatch; simp (maxDischargeDepth := 40) [*]
@[simp] theorem releaseObj_memOk (s : State) (o : RegObj)  (hMem : MemOk s) : MemOk (releaseObj s o) := by
  cases o with
  | image h =>
    simp only [releaseObj]; split
    · exact foldl_memOk _ _ _ (fun s x h => by simp (maxDischargeDepth := 40) [*]) (by simp (maxDischargeDepth := 40) [*])
    · exact hMem
  | job n => exact hMem
  | ring a n => exact hMem
  | dataset t => exact hMem
  | stream n => simp only [releaseObj]; split <;> simp (maxDischargeDepth := 40) [*]
@[simp] theorem restoreJobs_memOk (s : State)  (hMem : MemOk s) : MemOk (restoreJobs s) := by
  unfold restoreJobs; simp (maxDischargeDepth := 40) [*]
@[simp] theorem restartCopies_memOk (s : State)  (hMem : MemOk s) : MemOk (restartCopies s) := by
  unfold restartCopies; simp (maxDischargeDepth := 40) [*]
@[simp] theorem tellRestart_memOk (s : State)  (hMem : MemOk s) : MemOk (tellRestart s) := by
  unfold tellRestart; simp +contextual (maxDischargeDepth := 40) [*]
@[simp] theorem foremanStarts_memOk (badRecords : List RegObj) (s : State) (hMem : MemOk s) : MemOk (foremanStarts badRecords s) := by
  unfold foremanStarts; simp +contextual (maxDischargeDepth := 40) [*]
@[simp] theorem State.updChan_memOk (s : State) (c : Nat) (f : Channel → Channel)  (hMem : MemOk s) : MemOk (State.updChan s c f) := by
  unfold State.updChan; simp (maxDischargeDepth := 40) [*]
@[simp] theorem testNext_memOk (s : State) (c : Nat)  (hMem : MemOk s) : MemOk (testNext s c) := by
  unfold testNext; (repeat' split) <;> simp (maxDischargeDepth := 40) [*]
@[simp] theorem storeState_memOk (s : State)  (hMem : MemOk s) : MemOk (storeState s) := by
  unfold storeState; simp (maxDischargeDepth := 40) [*]
@[simp] theorem storeLost_memOk (s : State) (n : Nat)  (hMem : MemOk s) : MemOk (storeLost s n) := by
  unfold storeLost; simp (maxDischargeDepth := 40) [*]
@[simp] theorem channelTrained_memOk (c mib : Nat) (s : State)  (hMem : MemOk s) : MemOk (channelTrained c mib s) := by
  unfold channelTrained; simp +contextual (maxDischargeDepth := 40) [*]
@[simp] theorem keepMap_memOk (s : State)  (hMem : MemOk s) : MemOk (keepMap s) := by
  unfold keepMap; simp (maxDischargeDepth := 40) [*]
@[simp] theorem regionDone_memOk (c i : Nat) (r : RegionTest) (s : State)  (hMem : MemOk s) : MemOk (regionDone c i r s) := by
  unfold regionDone; simp +contextual (maxDischargeDepth := 40) [*]
@[simp] theorem foremanHung_memOk (s : State)  (hMem : MemOk s) : MemOk (foremanHung s) := by
  unfold foremanHung; simp (maxDischargeDepth := 40) [*]
@[simp] theorem urgentHung_memOk (s : State)  (hMem : MemOk s) : MemOk (urgentHung s) := by
  unfold urgentHung; simp (maxDischargeDepth := 40) [*]
@[simp] theorem benchHung_memOk (s : State) (tile cause : Nat)  (hMem : MemOk s) : MemOk (benchHung s tile cause) := by
  unfold benchHung; simp (maxDischargeDepth := 40) [*]
@[simp] theorem dispatchAll_memOk (s : State)  (hMem : MemOk s) : MemOk (dispatchAll s) := by
  unfold dispatchAll; simp +contextual (maxDischargeDepth := 40) [*]
@[simp] theorem setDivider_memOk (s : State) (b k : Nat)  (hMem : MemOk s) : MemOk (setDivider s b k) := by
  unfold setDivider; simp (maxDischargeDepth := 40) [*]; exact tilesOk_map (by simp (maxDischargeDepth := 40) [*]) _ (fun e he => by split <;> simp (maxDischargeDepth := 40) [*])
@[simp] theorem applyCeiling_memOk (s : State)  (hMem : MemOk s) : MemOk (applyCeiling s) := by
  unfold applyCeiling; simp +contextual (maxDischargeDepth := 40) [*]
@[simp] theorem State.updThermal_memOk (s : State) (f : Thermal → Thermal)  (hMem : MemOk s) : MemOk (State.updThermal s f) := by
  unfold State.updThermal; simp (maxDischargeDepth := 40) [*]
@[simp] theorem thermalFault_memOk (s : State) (cls : Nat) (tj : Int) (k : Nat)  (hMem : MemOk s) : MemOk (thermalFault s cls tj k) := by
  unfold thermalFault; simp (maxDischargeDepth := 40) [*]
@[simp] theorem thermalStop_memOk (s : State) (tj : Int) (k : Nat)  (hMem : MemOk s) : MemOk (thermalStop s tj k) := by
  unfold thermalStop; simp (maxDischargeDepth := 40) [*]
@[simp] theorem thermalGo_memOk (s : State)  (hMem : MemOk s) : MemOk (thermalGo s) := by
  unfold thermalGo; simp +contextual (maxDischargeDepth := 40) [*]
@[simp] theorem thermalReset_memOk (s : State) (tj : Int) (k : Nat)  (hMem : MemOk s) : MemOk (thermalReset s tj k) := by
  unfold thermalReset; simp (maxDischargeDepth := 40) [*]
@[simp] theorem thermalActs_memOk (tj : Int) (k : Nat) (s : State)  (hMem : MemOk s) : MemOk (thermalActs tj k s) := by
  unfold thermalActs; simp (maxDischargeDepth := 40) [*]
@[simp] theorem thermalHeld_memOk (tj : Int) (s : State)  (hMem : MemOk s) : MemOk (thermalHeld tj s) := by
  unfold thermalHeld; simp (maxDischargeDepth := 40) [*]
@[simp] theorem thermalDo_memOk (sensors : List Int) (s : State)  (hMem : MemOk s) : MemOk (thermalDo sensors s) := by
  unfold thermalDo; split <;> simp (maxDischargeDepth := 40) [*]
@[simp] theorem ceilingDo_memOk (s : State)  (hMem : MemOk s) : MemOk (ceilingDo s) := by
  unfold ceilingDo; split <;> simp (maxDischargeDepth := 40) [*]
@[simp] theorem State.updGov_memOk (s : State) (f : Governor → Governor)  (hMem : MemOk s) : MemOk (State.updGov s f) := by
  unfold State.updGov; simp (maxDischargeDepth := 40) [*]
@[simp] theorem estimateDo_memOk (pm : Nat) (shares : List Nat) (s : State)  (hMem : MemOk s) : MemOk (estimateDo pm shares s) := by
  unfold estimateDo; simp (maxDischargeDepth := 40) [*]
@[simp] theorem govReleases_memOk (s : State)  (hMem : MemOk s) : MemOk (govReleases s) := by
  unfold govReleases; simp (maxDischargeDepth := 40) [*]
@[simp] theorem govDecreases_memOk (s : State)  (hMem : MemOk s) : MemOk (govDecreases s) := by
  unfold govDecreases; simp (maxDischargeDepth := 40) [*] <;> (repeat' split) <;> simp +contextual (maxDischargeDepth := 40) [*]
@[simp] theorem govRaises_memOk (s : State)  (hMem : MemOk s) : MemOk (govRaises s) := by
  unfold govRaises; split <;> simp (maxDischargeDepth := 40) [*]
@[simp] theorem faultReadDo_memOk (r : Req) (s : State)  (hMem : MemOk s) : MemOk (faultReadDo r s) := by
  unfold faultReadDo; simp (maxDischargeDepth := 40) [*]
@[simp] theorem logClearDo_memOk (r : Req) (s : State)  (hMem : MemOk s) : MemOk (logClearDo r s) := by
  unfold logClearDo; simp +contextual (maxDischargeDepth := 40) [*]
@[simp] theorem gessoStatusDo_memOk (r : Req) (s : State)  (hMem : MemOk s) : MemOk (gessoStatusDo r s) := by
  unfold gessoStatusDo; simp (maxDischargeDepth := 40) [*]
@[simp] theorem setMemtestDo_memOk (r : Req) (s : State)  (hMem : MemOk s) : MemOk (setMemtestDo r s) := by
  unfold setMemtestDo; simp (maxDischargeDepth := 40) [*]
@[simp] theorem dbgChallengeDo_memOk (r : Req) (s : State)  (hMem : MemOk s) : MemOk (dbgChallengeDo r s) := by
  unfold dbgChallengeDo; simp (maxDischargeDepth := 40) [*]
@[simp] theorem dbgUnlockDo_memOk (r : Req) (s : State) (hMem : MemOk s) : MemOk (dbgUnlockDo r s) := by
  unfold dbgUnlockDo; simp (maxDischargeDepth := 40) [*]
@[simp] theorem badAccess_memOk (s : State) (port : HostPort) (off : Nat)  (hMem : MemOk s) : MemOk (badAccess s port off) := by
  unfold badAccess; simp (maxDischargeDepth := 40) [*]
@[simp] theorem resend_memOk (s : State) (n : Nat)  (hMem : MemOk s) : MemOk (resend s n) := by
  unfold resend; simp (maxDischargeDepth := 40) [*]
@[simp] theorem ring_memOk (s : State) (n w : Nat)  (hMem : MemOk s) : MemOk (ring s n w) := by
  unfold ring; simp (maxDischargeDepth := 40) [*]
@[simp] theorem dbsClear_memOk (s : State) (n w : Nat)  (hMem : MemOk s) : MemOk (dbsClear s n w) := by
  unfold dbsClear; simp (maxDischargeDepth := 40) [*]
@[simp] theorem intClear_memOk (s : State) (n w : Nat)  (hMem : MemOk s) : MemOk (intClear s n w) := by
  unfold intClear; simp (maxDischargeDepth := 40) [*]
@[simp] theorem snapClear_memOk (s : State) (n w : Nat)  (hMem : MemOk s) : MemOk (snapClear s n w) := by
  unfold snapClear; simp (maxDischargeDepth := 40) [*]
@[simp] theorem rdyClear_memOk (s : State) (fall high : Bool) (w : Nat)  (hMem : MemOk s) : MemOk (rdyClear s fall high w) := by
  unfold rdyClear; simp (maxDischargeDepth := 40) [*]
@[simp] theorem unmask_memOk (s : State) (v : Nat)  (hMem : MemOk s) : MemOk (unmask s v) := by
  unfold unmask; simp (maxDischargeDepth := 40) [*]
@[simp] theorem msixWrite_memOk (s : State) (v i w : Nat)  (hMem : MemOk s) : MemOk (msixWrite s v i w) := by
  unfold msixWrite; simp (maxDischargeDepth := 40) [*]
@[simp] theorem regWrite_memOk (s : State) (port : HostPort) (off w : Nat)  (hMem : MemOk s) : MemOk (regWrite s port off w) := by
  unfold regWrite; simp (maxDischargeDepth := 40) [*]
@[simp] theorem blockWrite_memOk (s : State) (off : Nat) (b : List (Bool × Byte))  (hMem : MemOk s) : MemOk (blockWrite s off b) := by
  unfold blockWrite; (repeat' split) <;> simp (maxDischargeDepth := 40) [*]
@[simp] theorem winWrite_memOk (s : State) (port : HostPort) (off : Nat) (b : List (Bool × Byte))  (hMem : MemOk s) : MemOk (winWrite s port off b) := by
  unfold winWrite; simp (maxDischargeDepth := 40) [*]
@[simp] theorem armReset_memOk (s : State) (n : Nat) (m : Msg)  (hMem : MemOk s) : MemOk (armReset s n m) := by
  unfold armReset; simp (maxDischargeDepth := 40) [*]
@[simp] theorem deliver_memOk (s : State) (n : Nat)  (hMem : MemOk s) : MemOk (deliver s n) := by
  unfold deliver; dsimp only; split
  · exact hMem
  · have hq := nextMessage_ok ‹_› (hMem.port n); simp (maxDischargeDepth := 40) [*]
@[simp] theorem endpointReset_memOk (_u : ConvReset) (s : State)  (hMem : MemOk s) : MemOk (endpointReset _u s) := by
  unfold endpointReset; simp (maxDischargeDepth := 40) [*]
@[simp] theorem flr_memOk (s : State)  (hMem : MemOk s) : MemOk (flr s) := by
  unfold flr; simp +contextual (maxDischargeDepth := 40) [*]
@[simp] theorem d0Return_memOk (s : State)  (hMem : MemOk s) : MemOk (d0Return s) := by
  unfold d0Return; simp +contextual (maxDischargeDepth := 40) [*]
@[simp] theorem configDo_memOk (c : ConfigReq) (s : State)  (hMem : MemOk s) : MemOk (configDo c s) := by
  unfold configDo; split <;> simp (maxDischargeDepth := 40) [*]
@[simp] theorem configRequest_memOk (c : ConfigReq) (s : State)  (hMem : MemOk s) : MemOk (configRequest c s) := by
  unfold configRequest; simp (maxDischargeDepth := 40) [*]
@[simp] theorem windowReadDo_memOk (port : HostPort) (off len : Nat) (s : State)  (hMem : MemOk s) : MemOk (windowReadDo port off len s) := by
  unfold windowReadDo; simp (maxDischargeDepth := 40) [*]
@[simp] theorem registerWriteDo_memOk (w : WinWrite) (s : State)  (hMem : MemOk s) : MemOk (registerWriteDo w s) := by
  unfold registerWriteDo; simp (maxDischargeDepth := 40) [*]
@[simp] theorem stray_memOk (s : State) (off : Nat)  (hMem : MemOk s) : MemOk (stray s off) := by
  unfold stray; simp (maxDischargeDepth := 40) [*]
@[simp] theorem touchJobs_memOk (s : State) (tenant ofs n : Nat)  (hMem : MemOk s) : MemOk (touchJobs s tenant ofs n) := by
  unfold touchJobs; refine foldl_memOk _ _ _ (fun s x h => ?_) hMem; (repeat' split) <;> simp (maxDischargeDepth := 40) [*]
@[simp] theorem datasetWrite_memOk (s : State) (off : Nat) (data : List Byte)  (hMem : MemOk s) : MemOk (datasetWrite s off data) := by
  unfold datasetWrite; split <;> simp (maxDischargeDepth := 40) [*]
@[simp] theorem datasetFetch_memOk (s : State) (off n : Nat)  (hMem : MemOk s) : MemOk (datasetFetch s off n).2 := by
  unfold datasetFetch; split <;> simp (maxDischargeDepth := 40) [*]
@[simp] theorem bar2WriteDo_memOk (off : Nat) (data : List Byte) (s : State)  (hMem : MemOk s) : MemOk (bar2WriteDo off data s) := by
  unfold bar2WriteDo; simp (maxDischargeDepth := 40) [*]
@[simp] theorem bar2ReadDo_memOk (off len : Nat) (s : State)  (hMem : MemOk s) : MemOk (bar2ReadDo off len s) := by
  unfold bar2ReadDo; simp (maxDischargeDepth := 40) [*]
@[simp] theorem shpNak_memOk (s : State) (f : ShpFrame)  (hMem : MemOk s) : MemOk (shpNak s f) := by
  unfold shpNak; simp (maxDischargeDepth := 40) [*]
@[simp] theorem shpPut_memOk (f : ShpFrame) (s : State) (hMem : MemOk s) : MemOk (shpPut f s) := by
  unfold shpPut; simp (maxDischargeDepth := 40) [*]
@[simp] theorem shpGet_memOk (f : ShpFrame) (s : State) (hMem : MemOk s) : MemOk (shpGet f s) := by
  unfold shpGet; simp (maxDischargeDepth := 40) [*]
@[simp] theorem shpDo_memOk (f : ShpFrame) (s : State)  (hMem : MemOk s) : MemOk (shpDo f s) := by
  unfold shpDo; simp (maxDischargeDepth := 40) [*]
@[simp] theorem drawDo_memOk (tile : Nat) (ecc : Ecc) (s : State)  (hMem : MemOk s) : MemOk (drawDo tile ecc s) := by
  unfold drawDo; (repeat' split) <;> simp (maxDischargeDepth := 40) [*]
@[simp] theorem State.withFetchWord_memOk (s : State) (nbits w : Nat) (hMem : MemOk s) : MemOk (State.withFetchWord s nbits w) := by
  unfold State.withFetchWord; split <;> simp (maxDischargeDepth := 40) [*]

end Sys2Proof.Machine
end

