-- ==== Sys2Proof/Laws/Dispatch.lean ====
section
/-! SUPPORT. What exec answers for each command, one lemma per row of the table: its meaning. No later proof unfolds exec. -/

namespace Sys2Proof.Machine

theorem exec_powerGoodRise : ∀ t reads s, exec (.powerGoodRise t reads) s = execPowerGoodRise t reads s := fun _ _ _ => rfl
theorem exec_gessoPllLocked : ∀ t locked s, exec (.gessoPllLocked t locked) s = execGessoPllLocked t locked s := fun _ _ _ => rfl
theorem exec_kaCheckDone : ∀ t density s, exec (.kaCheckDone t density) s = execKaCheckDone t density s := fun _ _ _ => rfl
theorem exec_pwrgoodFall : ∀ t s, exec (.pwrgoodFall t) s = execPwrgoodFall t s := fun _ _ => rfl
theorem exec_coreRailBrownout : ∀ t rail s, exec (.coreRailBrownout t rail) s = execCoreRailBrownout t rail s := fun _ _ _ => rfl
theorem exec_pllLockLoss : ∀ t p s, exec (.pllLockLoss t p) s = execPllLockLoss t p s := fun _ _ _ => rfl
theorem exec_pllLockRegain : ∀ t p s, exec (.pllLockRegain t p) s = execPllLockRegain t p s := fun _ _ _ => rfl
theorem exec_benchWaveStart : ∀ t b s, exec (.benchWaveStart t b) s = execBenchWaveStart t b s := fun _ _ _ => rfl
theorem exec_benchGateOpen : ∀ t b s, exec (.benchGateOpen t b) s = execBenchGateOpen t b s := fun _ _ _ => rfl
theorem exec_benchSelfTestDone : ∀ t b r s, exec (.benchSelfTestDone t b r) s = execBenchSelfTestDone t b r s := fun _ _ _ _ => rfl
theorem exec_stippleKatDone : ∀ t c0 c1 c2 s, exec (.stippleKatDone t c0 c1 c2) s = execStippleKatDone t c0 c1 c2 s := fun _ _ _ _ _ => rfl
theorem exec_ledgerRestore : ∀ t s, exec (.ledgerRestore t) s = execLedgerRestore t s := fun _ _ => rfl
theorem exec_flashIdentified : ∀ t density s, exec (.flashIdentified t density) s = execFlashIdentified t density s := fun _ _ _ => rfl
theorem exec_dramChannelTrained : ∀ t ch mib s, exec (.dramChannelTrained t ch mib) s = execDramChannelTrained t ch mib s := fun _ _ _ _ => rfl
theorem exec_memtestRegionDone : ∀ t ch region r s, exec (.memtestRegionDone t ch region r) s = execMemtestRegionDone t ch region r s := fun _ _ _ _ _ => rfl
theorem exec_dramChannelDown : ∀ t ch s, exec (.dramChannelDown t ch) s = execDramChannelDown t ch s := fun _ _ _ => rfl
theorem exec_pairBringupDone : ∀ t p s, exec (.pairBringupDone t p) s = execPairBringupDone t p s := fun _ _ _ => rfl
theorem exec_foremanStart : ∀ t badRecords s, exec (.foremanStart t badRecords) s = execForemanStart t badRecords s := fun _ _ _ => rfl
theorem exec_pcieCoreConfigured : ∀ t s, exec (.pcieCoreConfigured t) s = execPcieCoreConfigured t s := fun _ _ => rfl
theorem exec_conventionalReset : ∀ t kind s, exec (.conventionalReset t kind) s = execConventionalReset t kind s := fun _ _ _ => rfl
theorem exec_functionLevelReset : ∀ t s, exec (.functionLevelReset t) s = execFunctionLevelReset t s := fun _ _ => rfl
theorem exec_pcieD0Return : ∀ t s, exec (.pcieD0Return t) s = execPcieD0Return t s := fun _ _ => rfl
theorem exec_kaLost : ∀ t s, exec (.kaLost t) s = execKaLost t s := fun _ _ => rfl
theorem exec_vkaLow : ∀ t low s, exec (.vkaLow t low) s = execVkaLow t low s := fun _ _ _ => rfl
theorem exec_oscillatorStop : ∀ t s, exec (.oscillatorStop t) s = execOscillatorStop t s := fun _ _ => rfl
theorem exec_rtcTickMissing : ∀ t s, exec (.rtcTickMissing t) s = execRtcTickMissing t s := fun _ _ => rfl
theorem exec_foremanWatchdog : ∀ t s, exec (.foremanWatchdog t) s = execForemanWatchdog t s := fun _ _ => rfl
theorem exec_urgentWatchdog : ∀ t s, exec (.urgentWatchdog t) s = execUrgentWatchdog t s := fun _ _ => rfl
theorem exec_stepWatchdog : ∀ t tile s, exec (.stepWatchdog t tile) s = execStepWatchdog t tile s := fun _ _ _ => rfl
theorem exec_dispatcherWatchdog : ∀ t n s, exec (.dispatcherWatchdog t n) s = execDispatcherWatchdog t n s := fun _ _ _ => rfl
theorem exec_leaseExpiry : ∀ t tile bank s, exec (.leaseExpiry t tile bank) s = execLeaseExpiry t tile bank s := fun _ _ _ _ => rfl
theorem exec_thermalSample : ∀ t sensors s, exec (.thermalSample t sensors) s = execThermalSample t sensors s := fun _ _ _ => rfl
theorem exec_thermalCeilingStep : ∀ t s, exec (.thermalCeilingStep t) s = execThermalCeilingStep t s := fun _ _ => rfl
theorem exec_writeGraceEnd : ∀ t committed s, exec (.writeGraceEnd t committed) s = execWriteGraceEnd t committed s := fun _ _ _ => rfl
theorem exec_govEstimate : ∀ t pm shares s, exec (.govEstimate t pm shares) s = execGovEstimate t pm shares s := fun _ _ _ _ => rfl
theorem exec_govRelease : ∀ t s, exec (.govRelease t) s = execGovRelease t s := fun _ _ => rfl
theorem exec_govDividerDecrease : ∀ t s, exec (.govDividerDecrease t) s = execGovDividerDecrease t s := fun _ _ => rfl
theorem exec_govDividerRaise : ∀ t s, exec (.govDividerRaise t) s = execGovDividerRaise t s := fun _ _ => rfl
theorem exec_migrationDone : ∀ t n s, exec (.migrationDone t n) s = execMigrationDone t n s := fun _ _ _ => rfl
theorem exec_eopenNAccept : ∀ t s, exec (.eopenNAccept t) s = execEopenNAccept t s := fun _ _ => rfl
theorem exec_eopenRepeat : ∀ t low s, exec (.eopenRepeat t low) s = execEopenRepeat t low s := fun _ _ _ => rfl
theorem exec_gpioTermination : ∀ t gpio s, exec (.gpioTermination t gpio) s = execGpioTermination t gpio s := fun _ _ _ => rfl
theorem exec_sweepDue : ∀ t p s, exec (.sweepDue t p) s = execSweepDue t p s := fun _ _ _ => rfl
theorem exec_portBSweepTimeout : ∀ t p s, exec (.portBSweepTimeout t p) s = execPortBSweepTimeout t p s := fun _ _ _ => rfl
theorem exec_portBReturn : ∀ t p line s, exec (.portBReturn t p line) s = execPortBReturn t p line s := fun _ _ _ _ => rfl
theorem exec_collectDue : ∀ t p s, exec (.collectDue t p) s = execCollectDue t p s := fun _ _ _ => rfl
theorem exec_collectReturnTimeout : ∀ t p s, exec (.collectReturnTimeout t p) s = execCollectReturnTimeout t p s := fun _ _ _ => rfl
theorem exec_collectRecovery : ∀ t p s, exec (.collectRecovery t p) s = execCollectRecovery t p s := fun _ _ _ => rfl
theorem exec_reverseRetrievalDone : ∀ t p s, exec (.reverseRetrievalDone t p) s = execReverseRetrievalDone t p s := fun _ _ _ => rfl
theorem exec_babblerIsolation : ∀ t p s, exec (.babblerIsolation t p) s = execBabblerIsolation t p s := fun _ _ _ => rfl
theorem exec_collectionClose : ∀ t p s, exec (.collectionClose t p) s = execCollectionClose t p s := fun _ _ _ => rfl
theorem exec_anchorTaper : ∀ t cell s, exec (.anchorTaper t cell) s = execAnchorTaper t cell s := fun _ _ _ => rfl
theorem exec_anchorTermination : ∀ t str s, exec (.anchorTermination t str) s = execAnchorTermination t str s := fun _ _ _ => rfl
theorem exec_anchorEmpty : ∀ t cell s, exec (.anchorEmpty t cell) s = execAnchorEmpty t cell s := fun _ _ _ => rfl
theorem exec_lcDurationExpiry : ∀ t str s, exec (.lcDurationExpiry t str) s = execLcDurationExpiry t str s := fun _ _ _ => rfl
theorem exec_lcArmExpiry : ∀ t str s, exec (.lcArmExpiry t str) s = execLcArmExpiry t str s := fun _ _ _ => rfl
theorem exec_lcRestGapExpiry : ∀ t str s, exec (.lcRestGapExpiry t str) s = execLcRestGapExpiry t str s := fun _ _ _ => rfl
theorem exec_lcTempInvalidExpiry : ∀ t str s, exec (.lcTempInvalidExpiry t str) s = execLcTempInvalidExpiry t str s := fun _ _ _ => rfl
theorem exec_lcNoRecordExpiry : ∀ t str s, exec (.lcNoRecordExpiry t str) s = execLcNoRecordExpiry t str s := fun _ _ _ => rfl
theorem exec_absenceTimeout : ∀ t d s, exec (.absenceTimeout t d) s = execAbsenceTimeout t d s := fun _ _ _ => rfl
theorem exec_record : ∀ t d line s, exec (.record t d line) s = execRecord t d line s := fun _ _ _ _ => rfl
theorem exec_ledgerBalanceRead : ∀ t d line s, exec (.ledgerBalanceRead t d line) s = execLedgerBalanceRead t d line s := fun _ _ _ _ => rfl
theorem exec_ack : ∀ t p side line s, exec (.ack t p side line) s = execAck t p side line s := fun _ _ _ _ _ => rfl
theorem exec_commandTimeout : ∀ t p side s, exec (.commandTimeout t p side) s = execCommandTimeout t p side s := fun _ _ _ _ => rfl
theorem exec_chainCommandWindow : ∀ t p side s, exec (.chainCommandWindow t p side) s = execChainCommandWindow t p side s := fun _ _ _ _ => rfl
theorem exec_ringTestDue : ∀ t p side s, exec (.ringTestDue t p side) s = execRingTestDue t p side s := fun _ _ _ _ => rfl
theorem exec_chainWakeDone : ∀ t p s, exec (.chainWakeDone t p) s = execChainWakeDone t p s := fun _ _ _ => rfl
theorem exec_enumerationDone : ∀ t p s, exec (.enumerationDone t p) s = execEnumerationDone t p s := fun _ _ _ => rfl
theorem exec_urgentRx : ∀ t p side line s, exec (.urgentRx t p side line) s = execUrgentRx t p side line s := fun _ _ _ _ _ => rfl
theorem exec_jabberCut : ∀ t j s, exec (.jabberCut t j) s = execJabberCut t j s := fun _ _ _ => rfl
theorem exec_jabberResume : ∀ t j s, exec (.jabberResume t j) s = execJabberResume t j s := fun _ _ _ => rfl
theorem exec_stepDue : ∀ t w s, exec (.stepDue t w) s = execStepDue t w s := fun _ _ _ => rfl
theorem exec_stepCommit : ∀ t tile s, exec (.stepCommit t tile) s = execStepCommit t tile s := fun _ _ _ => rfl
theorem exec_resultLand : ∀ tile s, exec (.resultLand tile) s = execResultLand tile s := fun _ _ => rfl
theorem exec_stallTimeout : ∀ t tile s, exec (.stallTimeout t tile) s = execStallTimeout t tile s := fun _ _ _ => rfl
theorem exec_barrierComplete : ∀ tile s, exec (.barrierComplete tile) s = execBarrierComplete tile s := fun _ _ => rfl
theorem exec_leaseGrant : ∀ t tile bank h s, exec (.leaseGrant t tile bank h) s = execLeaseGrant t tile bank h s := fun _ _ _ _ _ => rfl
theorem exec_stagingRequest : ∀ t tile w s, exec (.stagingRequest t tile w) s = execStagingRequest t tile w s := fun _ _ _ _ => rfl
theorem exec_stagingDone : ∀ t tile s, exec (.stagingDone t tile) s = execStagingDone t tile s := fun _ _ _ => rfl
theorem exec_swapBringIn : ∀ t n s, exec (.swapBringIn t n) s = execSwapBringIn t n s := fun _ _ _ => rfl
theorem exec_swapBringInDone : ∀ t n s, exec (.swapBringInDone t n) s = execSwapBringInDone t n s := fun _ _ _ => rfl
theorem exec_swapWriteBackDone : ∀ t n s, exec (.swapWriteBackDone t n) s = execSwapWriteBackDone t n s := fun _ _ _ => rfl
theorem exec_checkpointDone : ∀ t n s, exec (.checkpointDone t n) s = execCheckpointDone t n s := fun _ _ _ => rfl
theorem exec_behindCheck : ∀ t n s, exec (.behindCheck t n) s = execBehindCheck t n s := fun _ _ _ => rfl
theorem exec_jobRefitTimeout : ∀ t job s, exec (.jobRefitTimeout t job) s = execJobRefitTimeout t job s := fun _ _ _ => rfl
theorem exec_assayerEvaluate : ∀ t s, exec (.assayerEvaluate t) s = execAssayerEvaluate t s := fun _ _ => rfl
theorem exec_classChangeEvent : ∀ t cell s, exec (.classChangeEvent t cell) s = execClassChangeEvent t cell s := fun _ _ _ => rfl
theorem exec_learnedStale : ∀ t cell s, exec (.learnedStale t cell) s = execLearnedStale t cell s := fun _ _ _ => rfl
theorem exec_reportPublish : ∀ t ch s, exec (.reportPublish t ch) s = execReportPublish t ch s := fun _ _ _ => rfl
theorem exec_dischargeChange : ∀ t sc s, exec (.dischargeChange t sc) s = execDischargeChange t sc s := fun _ _ _ => rfl
theorem exec_ledgerSnapshot : ∀ t s, exec (.ledgerSnapshot t) s = execLedgerSnapshot t s := fun _ _ => rfl
theorem exec_journalCadence : ∀ t s, exec (.journalCadence t) s = execJournalCadence t s := fun _ _ => rfl
theorem exec_journalSpacingEnd : ∀ t s, exec (.journalSpacingEnd t) s = execJournalSpacingEnd t s := fun _ _ => rfl
theorem exec_journalEraseDone : ∀ t s, exec (.journalEraseDone t) s = execJournalEraseDone t s := fun _ _ => rfl
theorem exec_journalRecordCommit : ∀ t readBackOk s, exec (.journalRecordCommit t readBackOk) s = execJournalRecordCommit t readBackOk s := fun _ _ _ => rfl
theorem exec_doorbellRing : ∀ t n w s, exec (.doorbellRing t n w) s = execDoorbellRing t n w s := fun _ _ _ _ => rfl
theorem exec_requestTake : ∀ t n s, exec (.requestTake t n) s = execRequestTake t n s := fun _ _ _ => rfl
theorem exec_responseDeliver : ∀ t n s, exec (.responseDeliver t n) s = execResponseDeliver t n s := fun _ _ _ => rfl
theorem exec_dbsWrite : ∀ t n w s, exec (.dbsWrite t n w) s = execDbsWrite t n w s := fun _ _ _ _ => rfl
theorem exec_intStatWrite : ∀ t n w s, exec (.intStatWrite t n w) s = execIntStatWrite t n w s := fun _ _ _ _ => rfl
theorem exec_snapStatWrite : ∀ t n w s, exec (.snapStatWrite t n w) s = execSnapStatWrite t n w s := fun _ _ _ _ => rfl
theorem exec_rdyW1cWrite : ∀ t fall high w s, exec (.rdyW1cWrite t fall high w) s = execRdyW1cWrite t fall high w s := fun _ _ _ _ _ => rfl
theorem exec_msixUnmask : ∀ t v s, exec (.msixUnmask t v) s = execMsixUnmask t v s := fun _ _ _ => rfl
theorem exec_registerWrite : ∀ t w s, exec (.registerWrite t w) s = execRegisterWrite t w s := fun _ _ _ => rfl
theorem exec_bar2Write : ∀ t off data s, exec (.bar2Write t off data) s = execBar2Write t off data s := fun _ _ _ _ => rfl
theorem exec_shpRead : ∀ t f s, exec (.shpRead t f) s = execShpRead t f s := fun _ _ _ => rfl
theorem exec_shpWrite : ∀ t f s, exec (.shpWrite t f) s = execShpWrite t f s := fun _ _ _ => rfl
theorem exec_ident : ∀ t s, exec (.ident t) s = execIdent t s := fun _ _ => rfl
theorem exec_tenantStatus : ∀ t s, exec (.tenantStatus t) s = execTenantStatus t s := fun _ _ => rfl
theorem exec_setCatchup : ∀ t s, exec (.setCatchup t) s = execSetCatchup t s := fun _ _ => rfl
theorem exec_setRtc : ∀ t s, exec (.setRtc t) s = execSetRtc t s := fun _ _ => rfl
theorem exec_getRtc : ∀ t s, exec (.getRtc t) s = execGetRtc t s := fun _ _ => rfl
theorem exec_setTenant : ∀ t s, exec (.setTenant t) s = execSetTenant t s := fun _ _ => rfl
theorem exec_reset : ∀ t s, exec (.reset t) s = execReset t s := fun _ _ => rfl
theorem exec_resetBegin : ∀ t s, exec (.resetBegin t) s = execResetBegin t s := fun _ _ => rfl
theorem exec_bootClampRead : ∀ t s, exec (.bootClampRead t) s = execBootClampRead t s := fun _ _ => rfl
theorem exec_setPair : ∀ t s, exec (.setPair t) s = execSetPair t s := fun _ _ => rfl
theorem exec_pairStatus : ∀ t s, exec (.pairStatus t) s = execPairStatus t s := fun _ _ => rfl
theorem exec_mbRegRead : ∀ t s, exec (.mbRegRead t) s = execMbRegRead t s := fun _ _ => rfl
theorem exec_mbRegWrite : ∀ t s, exec (.mbRegWrite t) s = execMbRegWrite t s := fun _ _ => rfl
theorem exec_mbControl : ∀ t s, exec (.mbControl t) s = execMbControl t s := fun _ _ => rfl
theorem exec_mbReadRecord : ∀ t s, exec (.mbReadRecord t) s = execMbReadRecord t s := fun _ _ => rfl
theorem exec_setString : ∀ t s, exec (.setString t) s = execSetString t s := fun _ _ => rfl
theorem exec_mbBalance : ∀ t s, exec (.mbBalance t) s = execMbBalance t s := fun _ _ => rfl
theorem exec_setLedger : ∀ t s, exec (.setLedger t) s = execSetLedger t s := fun _ _ => rfl
theorem exec_stringLedger : ∀ t s, exec (.stringLedger t) s = execStringLedger t s := fun _ _ => rfl
theorem exec_cellLedger : ∀ t s, exec (.cellLedger t) s = execCellLedger t s := fun _ _ => rfl
theorem exec_terminate : ∀ t s, exec (.terminate t) s = execTerminate t s := fun _ _ => rfl
theorem exec_lcArm : ∀ t s, exec (.lcArm t) s = execLcArm t s := fun _ _ => rfl
theorem exec_lcAbort : ∀ t s, exec (.lcAbort t) s = execLcAbort t s := fun _ _ => rfl
theorem exec_ledgerReset : ∀ t s, exec (.ledgerReset t) s = execLedgerReset t s := fun _ _ => rfl
theorem exec_mapGpio : ∀ t s, exec (.mapGpio t) s = execMapGpio t s := fun _ _ => rfl
theorem exec_streamStart : ∀ t s, exec (.streamStart t) s = execStreamStart t s := fun _ _ => rfl
theorem exec_streamPause : ∀ t s, exec (.streamPause t) s = execStreamPause t s := fun _ _ => rfl
theorem exec_streamResume : ∀ t s, exec (.streamResume t) s = execStreamResume t s := fun _ _ => rfl
theorem exec_streamReset : ∀ t s, exec (.streamReset t) s = execStreamReset t s := fun _ _ => rfl
theorem exec_streamEnd : ∀ t s, exec (.streamEnd t) s = execStreamEnd t s := fun _ _ => rfl
theorem exec_streamSet : ∀ t s, exec (.streamSet t) s = execStreamSet t s := fun _ _ => rfl
theorem exec_streamStatus : ∀ t s, exec (.streamStatus t) s = execStreamStatus t s := fun _ _ => rfl
theorem exec_streamInput : ∀ t s, exec (.streamInput t) s = execStreamInput t s := fun _ _ => rfl
theorem exec_streamParam : ∀ t s, exec (.streamParam t) s = execStreamParam t s := fun _ _ => rfl
theorem exec_clearFlags : ∀ t s, exec (.clearFlags t) s = execClearFlags t s := fun _ _ => rfl
theorem exec_setOutRing : ∀ t s, exec (.setOutRing t) s = execSetOutRing t s := fun _ _ => rfl
theorem exec_imageLoad : ∀ t s, exec (.imageLoad t) s = execImageLoad t s := fun _ _ => rfl
theorem exec_imageLoadVerified : ∀ t ticket s, exec (.imageLoadVerified t ticket) s = execImageLoadVerified t ticket s := fun _ _ _ => rfl
theorem exec_imageUnload : ∀ t s, exec (.imageUnload t) s = execImageUnload t s := fun _ _ => rfl
theorem exec_imageList : ∀ t s, exec (.imageList t) s = execImageList t s := fun _ _ => rfl
theorem exec_keySet : ∀ t s, exec (.keySet t) s = execKeySet t s := fun _ _ => rfl
theorem exec_keyClear : ∀ t s, exec (.keyClear t) s = execKeyClear t s := fun _ _ => rfl
theorem exec_jobSubmit : ∀ t s, exec (.jobSubmit t) s = execJobSubmit t s := fun _ _ => rfl
theorem exec_jobPause : ∀ t s, exec (.jobPause t) s = execJobPause t s := fun _ _ => rfl
theorem exec_jobResume : ∀ t s, exec (.jobResume t) s = execJobResume t s := fun _ _ => rfl
theorem exec_jobDelete : ∀ t s, exec (.jobDelete t) s = execJobDelete t s := fun _ _ => rfl
theorem exec_jobStatus : ∀ t s, exec (.jobStatus t) s = execJobStatus t s := fun _ _ => rfl
theorem exec_setDataset : ∀ t s, exec (.setDataset t) s = execSetDataset t s := fun _ _ => rfl
theorem exec_setAssayer : ∀ t s, exec (.setAssayer t) s = execSetAssayer t s := fun _ _ => rfl
theorem exec_setChannel : ∀ t s, exec (.setChannel t) s = execSetChannel t s := fun _ _ => rfl
theorem exec_getChannel : ∀ t s, exec (.getChannel t) s = execGetChannel t s := fun _ _ => rfl
theorem exec_cellAssay : ∀ t s, exec (.cellAssay t) s = execCellAssay t s := fun _ _ => rfl
theorem exec_openAll : ∀ t s, exec (.openAll t) s = execOpenAll t s := fun _ _ => rfl
theorem exec_openString : ∀ t s, exec (.openString t) s = execOpenString t s := fun _ _ => rfl
theorem exec_mbGate : ∀ t eopenN s, exec (.mbGate t eopenN) s = execMbGate t eopenN s := fun _ _ _ => rfl
theorem exec_setHead : ∀ t s, exec (.setHead t) s = execSetHead t s := fun _ _ => rfl
theorem exec_setProtect : ∀ t s, exec (.setProtect t) s = execSetProtect t s := fun _ _ => rfl
theorem exec_mbAspRelease : ∀ t s, exec (.mbAspRelease t) s = execMbAspRelease t s := fun _ _ => rfl
theorem exec_mbFaultClear : ∀ t s, exec (.mbFaultClear t) s = execMbFaultClear t s := fun _ _ => rfl
theorem exec_fabricStatus : ∀ t s, exec (.fabricStatus t) s = execFabricStatus t s := fun _ _ => rfl
theorem exec_routes : ∀ t s, exec (.routes t) s = execRoutes t s := fun _ _ => rfl
theorem exec_setFabric : ∀ t s, exec (.setFabric t) s = execSetFabric t s := fun _ _ => rfl
theorem exec_linkRetrain : ∀ t s, exec (.linkRetrain t) s = execLinkRetrain t s := fun _ _ => rfl
theorem exec_journalWrite : ∀ t s, exec (.journalWrite t) s = execJournalWrite t s := fun _ _ => rfl
theorem exec_patchChunk : ∀ t s, exec (.patchChunk t) s = execPatchChunk t s := fun _ _ => rfl
theorem exec_patchCommit : ∀ t s, exec (.patchCommit t) s = execPatchCommit t s := fun _ _ => rfl
theorem exec_patchWriteDone : ∀ t ok s, exec (.patchWriteDone t ok) s = execPatchWriteDone t ok s := fun _ _ _ => rfl
theorem exec_setPatchMin : ∀ t s, exec (.setPatchMin t) s = execSetPatchMin t s := fun _ _ => rfl
theorem exec_shutdown : ∀ t s, exec (.shutdown t) s = execShutdown t s := fun _ _ => rfl
theorem exec_imageStore : ∀ t s, exec (.imageStore t) s = execImageStore t s := fun _ _ => rfl
theorem exec_imageStoreDone : ∀ t ok s, exec (.imageStoreDone t ok) s = execImageStoreDone t ok s := fun _ _ _ => rfl
theorem exec_kaRead : ∀ t s, exec (.kaRead t) s = execKaRead t s := fun _ _ => rfl
theorem exec_faultRead : ∀ t s, exec (.faultRead t) s = execFaultRead t s := fun _ _ => rfl
theorem exec_faultLogClear : ∀ t s, exec (.faultLogClear t) s = execFaultLogClear t s := fun _ _ => rfl
theorem exec_gessoStatus : ∀ t s, exec (.gessoStatus t) s = execGessoStatus t s := fun _ _ => rfl
theorem exec_setMemtest : ∀ t s, exec (.setMemtest t) s = execSetMemtest t s := fun _ _ => rfl
theorem exec_dbgChallenge : ∀ t s, exec (.dbgChallenge t) s = execDbgChallenge t s := fun _ _ => rfl
theorem exec_dbgUnlock : ∀ t s, exec (.dbgUnlock t) s = execDbgUnlock t s := fun _ _ => rfl
theorem exec_nop : ∀ tile slot parity s, exec (.nop tile slot parity) s = execNop tile slot parity s := fun _ _ _ _ => rfl
theorem exec_loop : ∀ tile s, exec (.loop tile) s = execLoop tile s := fun _ _ => rfl
theorem exec_waitin : ∀ tile s, exec (.waitin tile) s = execWaitin tile s := fun _ _ => rfl
theorem exec_endstep : ∀ tile s, exec (.endstep tile) s = execEndstep tile s := fun _ _ => rfl
theorem exec_barrier : ∀ tile s, exec (.barrier tile) s = execBarrier tile s := fun _ _ => rfl
theorem exec_lease : ∀ tile s, exec (.lease tile) s = execLease tile s := fun _ _ => rfl
theorem exec_release : ∀ tile s, exec (.release tile) s = execRelease tile s := fun _ _ => rfl
theorem exec_kAdd : ∀ tile s, exec (.kAdd tile) s = execKAdd tile s := fun _ _ => rfl
theorem exec_kSub : ∀ tile s, exec (.kSub tile) s = execKSub tile s := fun _ _ => rfl
theorem exec_and : ∀ tile s, exec (.and tile) s = execAnd tile s := fun _ _ => rfl
theorem exec_or : ∀ tile s, exec (.or tile) s = execOr tile s := fun _ _ => rfl
theorem exec_xor : ∀ tile s, exec (.xor tile) s = execXor tile s := fun _ _ => rfl
theorem exec_addi : ∀ tile s, exec (.addi tile) s = execAddi tile s := fun _ _ => rfl
theorem exec_shli : ∀ tile s, exec (.shli tile) s = execShli tile s := fun _ _ => rfl
theorem exec_shri : ∀ tile s, exec (.shri tile) s = execShri tile s := fun _ _ => rfl
theorem exec_sari : ∀ tile s, exec (.sari tile) s = execSari tile s := fun _ _ => rfl
theorem exec_movi : ∀ tile s, exec (.movi tile) s = execMovi tile s := fun _ _ => rfl
theorem exec_muli : ∀ tile s, exec (.muli tile) s = execMuli tile s := fun _ _ => rfl
theorem exec_rdlc : ∀ tile s, exec (.rdlc tile) s = execRdlc tile s := fun _ _ => rfl
theorem exec_extu : ∀ tile s, exec (.extu tile) s = execExtu tile s := fun _ _ => rfl
theorem exec_ldp : ∀ tile ecc s, exec (.ldp tile ecc) s = execLdp tile ecc s := fun _ _ _ => rfl
theorem exec_ldpr : ∀ tile ecc s, exec (.ldpr tile ecc) s = execLdpr tile ecc s := fun _ _ _ => rfl
theorem exec_ldw : ∀ tile ecc s, exec (.ldw tile ecc) s = execLdw tile ecc s := fun _ _ _ => rfl
theorem exec_ldpw : ∀ tile ecc s, exec (.ldpw tile ecc) s = execLdpw tile ecc s := fun _ _ _ => rfl
theorem exec_stp : ∀ tile s, exec (.stp tile) s = execStp tile s := fun _ _ => rfl
theorem exec_stpr : ∀ tile s, exec (.stpr tile) s = execStpr tile s := fun _ _ => rfl
theorem exec_macv : ∀ tile s, exec (.macv tile) s = execMacv tile s := fun _ _ => rfl
theorem exec_macb : ∀ tile s, exec (.macb tile) s = execMacb tile s := fun _ _ => rfl
theorem exec_mulv : ∀ tile s, exec (.mulv tile) s = execMulv tile s := fun _ _ => rfl
theorem exec_mulb : ∀ tile s, exec (.mulb tile) s = execMulb tile s := fun _ _ => rfl
theorem exec_fAdd : ∀ tile s, exec (.fAdd tile) s = execFAdd tile s := fun _ _ => rfl
theorem exec_fSub : ∀ tile s, exec (.fSub tile) s = execFSub tile s := fun _ _ => rfl
theorem exec_mul : ∀ tile s, exec (.mul tile) s = execMul tile s := fun _ _ => rfl
theorem exec_fma : ∀ tile s, exec (.fma tile) s = execFma tile s := fun _ _ => rfl
theorem exec_max : ∀ tile s, exec (.max tile) s = execMax tile s := fun _ _ => rfl
theorem exec_min : ∀ tile s, exec (.min tile) s = execMin tile s := fun _ _ => rfl
theorem exec_sel : ∀ tile s, exec (.sel tile) s = execSel tile s := fun _ _ => rfl
theorem exec_cgt : ∀ tile s, exec (.cgt tile) s = execCgt tile s := fun _ _ => rfl
theorem exec_cvt : ∀ tile s, exec (.cvt tile) s = execCvt tile s := fun _ _ => rfl
theorem exec_mov : ∀ tile s, exec (.mov tile) s = execMov tile s := fun _ _ => rfl
theorem exec_act : ∀ tile s, exec (.act tile) s = execAct tile s := fun _ _ => rfl
theorem exec_ema : ∀ tile s, exec (.ema tile) s = execEma tile s := fun _ _ => rfl
theorem exec_fo1 : ∀ tile s, exec (.fo1 tile) s = execFo1 tile s := fun _ _ => rfl
theorem exec_sos : ∀ tile s, exec (.sos tile) s = execSos tile s := fun _ _ => rfl
theorem exec_scmb : ∀ tile s, exec (.scmb tile) s = execScmb tile s := fun _ _ => rfl
theorem exec_scmb2 : ∀ tile s, exec (.scmb2 tile) s = execScmb2 tile s := fun _ _ => rfl
theorem exec_sapp : ∀ tile s, exec (.sapp tile) s = execSapp tile s := fun _ _ => rfl
theorem exec_draw : ∀ tile ecc s, exec (.draw tile ecc) s = execDraw tile ecc s := fun _ _ _ => rfl
theorem exec_mask : ∀ tile s, exec (.mask tile) s = execMask tile s := fun _ _ => rfl
theorem exec_cmpm : ∀ tile s, exec (.cmpm tile) s = execCmpm tile s := fun _ _ => rfl
theorem exec_rumbePor : ∀ t d s, exec (.rumbePor t d) s = execRumbePor t d s := fun _ _ _ => rfl
theorem exec_sweep : ∀ t d r s, exec (.sweep t d r) s = execSweep t d r s := fun _ _ _ _ => rfl
theorem exec_sweepStart : ∀ t d s, exec (.sweepStart t d) s = execSweepStart t d s := fun _ _ _ => rfl
theorem exec_sweepCommit : ∀ t d m s, exec (.sweepCommit t d m) s = execSweepCommit t d m s := fun _ _ _ _ => rfl
theorem exec_cellAlarmAssert : ∀ t d cell k s, exec (.cellAlarmAssert t d cell k) s = execCellAlarmAssert t d cell k s := fun _ _ _ _ _ => rfl
theorem exec_cellAlarmClear : ∀ t d cell k s, exec (.cellAlarmClear t d cell k) s = execCellAlarmClear t d cell k s := fun _ _ _ _ _ => rfl
theorem exec_measFaultLatch : ∀ t d s, exec (.measFaultLatch t d) s = execMeasFaultLatch t d s := fun _ _ _ => rfl
theorem exec_modidStateChange : ∀ t d s, exec (.modidStateChange t d) s = execModidStateChange t d s := fun _ _ _ => rfl
theorem exec_balIdleEnd : ∀ t d s, exec (.balIdleEnd t d) s = execBalIdleEnd t d s := fun _ _ _ => rfl
theorem exec_lateSweep : ∀ t d r s, exec (.lateSweep t d r) s = execLateSweep t d r s := fun _ _ _ _ => rfl
theorem exec_collect : ∀ t d r s, exec (.collect t d r) s = execCollect t d r s := fun _ _ _ _ => rfl
theorem exec_recordSend : ∀ t d s, exec (.recordSend t d) s = execRecordSend t d s := fun _ _ _ => rfl
theorem exec_readRecord : ∀ t d r s, exec (.readRecord t d r) s = execReadRecord t d r s := fun _ _ _ _ => rfl
theorem exec_regRead : ∀ t d r s, exec (.regRead t d r) s = execRegRead t d r s := fun _ _ _ _ => rfl
theorem exec_regWrite : ∀ t d r s, exec (.regWrite t d r) s = execRegWrite t d r s := fun _ _ _ _ => rfl
theorem exec_headEnSet : ∀ t d r s, exec (.headEnSet t d r) s = execHeadEnSet t d r s := fun _ _ _ _ => rfl
theorem exec_headEnClear : ∀ t d r s, exec (.headEnClear t d r) s = execHeadEnClear t d r s := fun _ _ _ _ => rfl
theorem exec_shuntChange : ∀ t d r s, exec (.shuntChange t d r) s = execShuntChange t d r s := fun _ _ _ _ => rfl
theorem exec_devIdWrite : ∀ t d r s, exec (.devIdWrite t d r) s = execDevIdWrite t d r s := fun _ _ _ _ => rfl
theorem exec_tCommWrite : ∀ t d r s, exec (.tCommWrite t d r) s = execTCommWrite t d r s := fun _ _ _ _ => rfl
theorem exec_vauxEnSet : ∀ t d r s, exec (.vauxEnSet t d r) s = execVauxEnSet t d r s := fun _ _ _ _ => rfl
theorem exec_vauxEnClear : ∀ t d r s, exec (.vauxEnClear t d r) s = execVauxEnClear t d r s := fun _ _ _ _ => rfl
theorem exec_balEnClear : ∀ t d r s, exec (.balEnClear t d r) s = execBalEnClear t d r s := fun _ _ _ _ => rfl
theorem exec_enumerate : ∀ t d r s, exec (.enumerate t d r) s = execEnumerate t d r s := fun _ _ _ _ => rfl
theorem exec_gateOpen : ∀ t d r s, exec (.gateOpen t d r) s = execGateOpen t d r s := fun _ _ _ _ => rfl
theorem exec_gateClose : ∀ t d r s, exec (.gateClose t d r) s = execGateClose t d r s := fun _ _ _ _ => rfl
theorem exec_gateChgOnly : ∀ t d r s, exec (.gateChgOnly t d r) s = execGateChgOnly t d r s := fun _ _ _ _ => rfl
theorem exec_gateDsgOnly : ∀ t d r s, exec (.gateDsgOnly t d r) s = execGateDsgOnly t d r s := fun _ _ _ _ => rfl
theorem exec_balanceAppend : ∀ t d r s, exec (.balanceAppend t d r) s = execBalanceAppend t d r s := fun _ _ _ _ => rfl
theorem exec_balanceReplace : ∀ t d r s, exec (.balanceReplace t d r) s = execBalanceReplace t d r s := fun _ _ _ _ => rfl
theorem exec_balStop : ∀ t d r s, exec (.balStop t d r) s = execBalStop t d r s := fun _ _ _ _ => rfl
theorem exec_faultClear : ∀ t d r s, exec (.faultClear t d r) s = execFaultClear t d r s := fun _ _ _ _ => rfl
theorem exec_softReset : ∀ t d r s, exec (.softReset t d r) s = execSoftReset t d r s := fun _ _ _ _ => rfl
theorem exec_softResetExecute : ∀ t d repeating s, exec (.softResetExecute t d repeating) s = execSoftResetExecute t d repeating s := fun _ _ _ _ => rfl
theorem exec_modidAck : ∀ t d r s, exec (.modidAck t d r) s = execModidAck t d r s := fun _ _ _ _ => rfl
theorem exec_clearId : ∀ t d r s, exec (.clearId t d r) s = execClearId t d r s := fun _ _ _ _ => rfl
theorem exec_aspRelease : ∀ t d r s, exec (.aspRelease t d r) s = execAspRelease t d r s := fun _ _ _ _ => rfl
theorem exec_portCut : ∀ t d r s, exec (.portCut t d r) s = execPortCut t d r s := fun _ _ _ _ => rfl
theorem exec_portRestore : ∀ t d r s, exec (.portRestore t d r) s = execPortRestore t d r s := fun _ _ _ _ => rfl
theorem exec_sleep : ∀ t d r s, exec (.sleep t d r) s = execSleep t d r s := fun _ _ _ _ => rfl
theorem exec_ringTest : ∀ t d r s, exec (.ringTest t d r) s = execRingTest t d r s := fun _ _ _ _ => rfl
theorem exec_reservedFrame : ∀ t d r s, exec (.reservedFrame t d r) s = execReservedFrame t d r s := fun _ _ _ _ => rfl
theorem exec_eopen : ∀ t d u s, exec (.eopen t d u) s = execEopen t d u s := fun _ _ _ _ => rfl
theorem exec_strOpen : ∀ t d u s, exec (.strOpen t d u) s = execStrOpen t d u s := fun _ _ _ _ => rfl
theorem exec_alarmCell : ∀ t d u s, exec (.alarmCell t d u) s = execAlarmCell t d u s := fun _ _ _ _ => rfl
theorem exec_alarmMeas : ∀ t d u s, exec (.alarmMeas t d u) s = execAlarmMeas t d u s := fun _ _ _ _ => rfl
theorem exec_alarmTrip : ∀ t d u s, exec (.alarmTrip t d u) s = execAlarmTrip t d u s := fun _ _ _ _ => rfl
theorem exec_urgentQueueSend : ∀ t d port idle s, exec (.urgentQueueSend t d port idle) s = execUrgentQueueSend t d port idle s := fun _ _ _ _ _ => rfl
theorem exec_frameResend : ∀ t d port idle s, exec (.frameResend t d port idle) s = execFrameResend t d port idle s := fun _ _ _ _ _ => rfl
theorem exec_tCommExpiry : ∀ t d s, exec (.tCommExpiry t d) s = execTCommExpiry t d s := fun _ _ _ => rfl
theorem exec_sleepEnter : ∀ t d s, exec (.sleepEnter t d) s = execSleepEnter t d s := fun _ _ _ => rfl
theorem exec_wakeDetect : ∀ t d port s, exec (.wakeDetect t d port) s = execWakeDetect t d port s := fun _ _ _ _ => rfl
theorem exec_wakeReady : ∀ t d s, exec (.wakeReady t d) s = execWakeReady t d s := fun _ _ _ => rfl
theorem exec_modulatorSettle : ∀ t d s, exec (.modulatorSettle t d) s = execModulatorSettle t d s := fun _ _ _ => rfl
theorem exec_currentInterval : ∀ t d hg lg hgOver lgOver s, exec (.currentInterval t d hg lg hgOver lgOver) s = execCurrentInterval t d hg lg hgOver lgOver s := fun _ _ _ _ _ _ _ => rfl
theorem exec_rangeToHg : ∀ t d s, exec (.rangeToHg t d) s = execRangeToHg t d s := fun _ _ _ => rfl
theorem exec_calFrozen : ∀ t d s, exec (.calFrozen t d) s = execCalFrozen t d s := fun _ _ _ => rfl
theorem exec_curFaultLatch : ∀ t d s, exec (.curFaultLatch t d) s = execCurFaultLatch t d s := fun _ _ _ => rfl
theorem exec_scTrip : ∀ t d uv ns s, exec (.scTrip t d uv ns) s = execScTrip t d uv ns s := fun _ _ _ _ _ => rfl
theorem exec_rampWatchTrip : ∀ t d k s, exec (.rampWatchTrip t d k) s = execRampWatchTrip t d k s := fun _ _ _ _ => rfl
theorem exec_prechargeDone : ∀ t d s, exec (.prechargeDone t d) s = execPrechargeDone t d s := fun _ _ _ => rfl
theorem exec_prechargeTimeout : ∀ t d s, exec (.prechargeTimeout t d) s = execPrechargeTimeout t d s := fun _ _ _ => rfl
theorem exec_rampDone : ∀ t d chgMv dsgMv s, exec (.rampDone t d chgMv dsgMv) s = execRampDone t d chgMv dsgMv s := fun _ _ _ _ _ => rfl
theorem exec_contactorRampEnd : ∀ t d s, exec (.contactorRampEnd t d) s = execContactorRampEnd t d s := fun _ _ _ => rfl
theorem exec_pchgOff : ∀ t d s, exec (.pchgOff t d) s = execPchgOff t d s := fun _ _ _ => rfl
theorem exec_rampTimeout : ∀ t d s, exec (.rampTimeout t d) s = execRampTimeout t d s := fun _ _ _ => rfl
theorem exec_pumpUv : ∀ t d chgMv dsgMv ns s, exec (.pumpUv t d chgMv dsgMv ns) s = execPumpUv t d chgMv dsgMv ns s := fun _ _ _ _ _ _ => rfl
theorem exec_vauxSoftStartCheck : ∀ t d mv s, exec (.vauxSoftStartCheck t d mv) s = execVauxSoftStartCheck t d mv s := fun _ _ _ _ => rfl
theorem exec_vauxUndervoltage : ∀ t d mv s, exec (.vauxUndervoltage t d mv) s = execVauxUndervoltage t d mv s := fun _ _ _ _ => rfl
theorem exec_vauxRetry : ∀ t d s, exec (.vauxRetry t d) s = execVauxRetry t d s := fun _ _ _ => rfl
theorem exec_vauxRetryReset : ∀ t d mv s, exec (.vauxRetryReset t d mv) s = execVauxRetryReset t d mv s := fun _ _ _ _ => rfl
theorem exec_vauxThermalShutdown : ∀ t d tj s, exec (.vauxThermalShutdown t d tj) s = execVauxThermalShutdown t d tj s := fun _ _ _ _ => rfl
theorem exec_balTransferStart : ∀ t d s, exec (.balTransferStart t d) s = execBalTransferStart t d s := fun _ _ _ => rfl
theorem exec_balCheckDone : ∀ t d busMv s, exec (.balCheckDone t d busMv) s = execBalCheckDone t d busMv s := fun _ _ _ _ => rfl
theorem exec_balCycle : ∀ t d bcsUv tPri tSec tDie s, exec (.balCycle t d bcsUv tPri tSec tDie) s = execBalCycle t d bcsUv tPri tSec tDie s := fun _ _ _ _ _ _ _ => rfl
theorem exec_balTimeout : ∀ t d s, exec (.balTimeout t d) s = execBalTimeout t d s := fun _ _ _ => rfl
theorem exec_balOvertemp : ∀ t d tDie s, exec (.balOvertemp t d tDie) s = execBalOvertemp t d tDie s := fun _ _ _ _ => rfl
theorem exec_balPriOc : ∀ t d bcsUv ns s, exec (.balPriOc t d bcsUv ns) s = execBalPriOc t d bcsUv ns s := fun _ _ _ _ _ => rfl
theorem exec_balModuleV : ∀ t d mv s, exec (.balModuleV t d mv) s = execBalModuleV t d mv s := fun _ _ _ _ => rfl
theorem exec_linkDetectDone : ∀ t l b s, exec (.linkDetectDone t l b) s = execLinkDetectDone t l b s := fun _ _ _ _ => rfl
theorem exec_linkDetectTimeout : ∀ t l s, exec (.linkDetectTimeout t l) s = execLinkDetectTimeout t l s := fun _ _ _ => rfl
theorem exec_linkExchangeDone : ∀ t l b s, exec (.linkExchangeDone t l b) s = execLinkExchangeDone t l b s := fun _ _ _ _ => rfl
theorem exec_linkAlignEvaluate : ∀ t l own last lanes s, exec (.linkAlignEvaluate t l own last lanes) s = execLinkAlignEvaluate t l own last lanes s := fun _ _ _ _ _ _ => rfl
theorem exec_linkRetry : ∀ t l s, exec (.linkRetry t l) s = execLinkRetry t l s := fun _ _ _ => rfl
theorem exec_trainingBlockWake : ∀ t l b s, exec (.trainingBlockWake t l b) s = execTrainingBlockWake t l b s := fun _ _ _ _ => rfl
theorem exec_linkLockLoss : ∀ t l lane lasted s, exec (.linkLockLoss t l lane lasted) s = execLinkLockLoss t l lane lasted s := fun _ _ _ _ _ => rfl
theorem exec_linkSyncErrors : ∀ t l lane n s, exec (.linkSyncErrors t l lane n) s = execLinkSyncErrors t l lane n s := fun _ _ _ _ _ => rfl
theorem exec_neigh : ∀ t l b s, exec (.neigh t l b) s = execNeigh t l b s := fun _ _ _ _ => rfl
theorem exec_hello : ∀ t l b s, exec (.hello t l b) s = execHello t l b s := fun _ _ _ _ => rfl
theorem exec_beacon : ∀ t l b s, exec (.beacon t l b) s = execBeacon t l b s := fun _ _ _ _ => rfl
theorem exec_summary : ∀ t l b s, exec (.summary t l b) s = execSummary t l b s := fun _ _ _ _ => rfl
theorem exec_neighSend : ∀ t s, exec (.neighSend t) s = execNeighSend t s := fun _ _ => rfl
theorem exec_helloSend : ∀ t s, exec (.helloSend t) s = execHelloSend t s := fun _ _ => rfl
theorem exec_beaconSend : ∀ t s, exec (.beaconSend t) s = execBeaconSend t s := fun _ _ => rfl
theorem exec_summarySend : ∀ t s, exec (.summarySend t) s = execSummarySend t s := fun _ _ => rfl
theorem exec_neighSilent : ∀ t l s, exec (.neighSilent t l) s = execNeighSilent t l s := fun _ _ _ => rfl
theorem exec_helloAgeOut : ∀ t serial s, exec (.helloAgeOut t serial) s = execHelloAgeOut t serial s := fun _ _ _ => rfl
theorem exec_floodSeqForget : ∀ t serial s, exec (.floodSeqForget t serial) s = execFloodSeqForget t serial s := fun _ _ _ => rfl
theorem exec_floodHoldEnd : ∀ t s, exec (.floodHoldEnd t) s = execFloodHoldEnd t s := fun _ _ => rfl
theorem exec_discoveryWindowClose : ∀ t s, exec (.discoveryWindowClose t) s = execDiscoveryWindowClose t s := fun _ _ => rfl
theorem exec_beaconWaitTimeout : ∀ t s, exec (.beaconWaitTimeout t) s = execBeaconWaitTimeout t s := fun _ _ => rfl
theorem exec_managerLeaseExpiry : ∀ t s, exec (.managerLeaseExpiry t) s = execManagerLeaseExpiry t s := fun _ _ => rfl
theorem exec_allLinksDown : ∀ t s, exec (.allLinksDown t) s = execAllLinksDown t s := fun _ _ => rfl
theorem exec_routeRecompute : ∀ t s, exec (.routeRecompute t) s = execRouteRecompute t s := fun _ _ => rfl
theorem exec_reservedUrgentCode : ∀ t d u s, exec (.reservedUrgentCode t d u) s = execReservedUrgentCode t d u s := fun _ _ _ _ => rfl
theorem exec_exchangeLimitExpiry : ∀ t l s, exec (.exchangeLimitExpiry t l) s = execExchangeLimitExpiry t l s := fun _ _ _ => rfl
theorem exec_routedFrameForward : ∀ t l b s, exec (.routedFrameForward t l b) s = execRoutedFrameForward t l b s := fun _ _ _ _ => rfl
theorem exec_configRequest : ∀ t c s, exec (.configRequest t c) s = execConfigRequest t c s := fun _ _ _ => rfl
theorem exec_windowRead : ∀ t port off len s, exec (.windowRead t port off len) s = execWindowRead t port off len s := fun _ _ _ _ _ => rfl
theorem exec_bar2Read : ∀ t off len s, exec (.bar2Read t off len) s = execBar2Read t off len s := fun _ _ _ _ => rfl

end Sys2Proof.Machine
end

