-- ==== Sys2Proof/Laws/State.lean ====
section
/-! SUPPORT. What each update of the state does to each field: the field it writes, and every other field kept. No later
proof unfolds a record update. -/

namespace Sys2Proof.Machine

/-! ### State.at -/

@[simp] theorem State.at_pending (s : State) (t : Nat) : (s.at t).pending = s.pending := rfl
@[simp] theorem State.at_now (s : State) (t : Nat) : (s.at t).now = max s.now t := rfl
@[simp] theorem State.at_free (s : State) (t : Nat) : (s.at t).free = s.free := rfl
@[simp] theorem State.at_out (s : State) (t : Nat) : (s.at t).out = [] := rfl
@[simp] theorem State.at_sys (s : State) (t : Nat) : (s.at t).sys = s.sys := rfl
@[simp] theorem State.at_ka (s : State) (t : Nat) : (s.at t).ka = s.ka := rfl
@[simp] theorem State.at_flash (s : State) (t : Nat) : (s.at t).flash = s.flash := rfl
@[simp] theorem State.at_journal (s : State) (t : Nat) : (s.at t).journal = s.journal := rfl
@[simp] theorem State.at_host (s : State) (t : Nat) : (s.at t).host = s.host := rfl
@[simp] theorem State.at_ports (s : State) (t : Nat) : (s.at t).ports = s.ports := rfl
@[simp] theorem State.at_pcie (s : State) (t : Nat) : (s.at t).pcie = s.pcie := rfl
@[simp] theorem State.at_log (s : State) (t : Nat) : (s.at t).log = s.log := rfl
@[simp] theorem State.at_foreman (s : State) (t : Nat) : (s.at t).foreman = s.foreman := rfl
@[simp] theorem State.at_pairs (s : State) (t : Nat) : (s.at t).pairs = s.pairs := rfl
@[simp] theorem State.at_eopen (s : State) (t : Nat) : (s.at t).eopen = s.eopen := rfl
@[simp] theorem State.at_ledger (s : State) (t : Nat) : (s.at t).ledger = s.ledger := rfl
@[simp] theorem State.at_sched (s : State) (t : Nat) : (s.at t).sched = s.sched := rfl
@[simp] theorem State.at_tiles (s : State) (t : Nat) : (s.at t).tiles = s.tiles := rfl
@[simp] theorem State.at_dram (s : State) (t : Nat) : (s.at t).dram = s.dram := rfl
@[simp] theorem State.at_assayer (s : State) (t : Nat) : (s.at t).assayer = s.assayer := rfl
@[simp] theorem State.at_fabric (s : State) (t : Nat) : (s.at t).fabric = s.fabric := rfl
@[simp] theorem State.at_rumbes (s : State) (t : Nat) : (s.at t).rumbes = s.rumbes := rfl
@[simp] theorem State.at_at_rumbe (s : State) (t : Nat) (d : Dev) : (s.at t).rumbe d = s.rumbe d := rfl
@[simp] theorem State.at_at_port (s : State) (t : Nat) (k : Nat) : (s.at t).port k = s.port k := rfl
@[simp] theorem State.at_at_pair (s : State) (t : Nat) (k : Nat) : (s.at t).pair k = s.pair k := rfl
@[simp] theorem State.at_at_bench (s : State) (t : Nat) (k : Nat) : (s.at t).bench k = s.bench k := rfl
@[simp] theorem State.at_at_stream (s : State) (t : Nat) (k : Nat) : (s.at t).stream k = s.stream k := rfl
@[simp] theorem State.at_at_tile (s : State) (t : Nat) (k : Nat) : (s.at t).tile k = s.tile k := rfl
@[simp] theorem State.at_at_link (s : State) (t : Nat) (k : Nat) : (s.at t).link k = s.link k := rfl

/-! ### State.emit -/

@[simp] theorem State.emit_pending (s : State) (o : Output) : (s.emit o).pending = s.pending := rfl
@[simp] theorem State.emit_now (s : State) (o : Output) : (s.emit o).now = s.now := rfl
@[simp] theorem State.emit_free (s : State) (o : Output) : (s.emit o).free = s.free := rfl
@[simp] theorem State.emit_out (s : State) (o : Output) : (s.emit o).out = s.out ++ [o] := rfl
@[simp] theorem State.emit_sys (s : State) (o : Output) : (s.emit o).sys = s.sys := rfl
@[simp] theorem State.emit_ka (s : State) (o : Output) : (s.emit o).ka = s.ka := rfl
@[simp] theorem State.emit_flash (s : State) (o : Output) : (s.emit o).flash = s.flash := rfl
@[simp] theorem State.emit_journal (s : State) (o : Output) : (s.emit o).journal = s.journal := rfl
@[simp] theorem State.emit_host (s : State) (o : Output) : (s.emit o).host = s.host := rfl
@[simp] theorem State.emit_ports (s : State) (o : Output) : (s.emit o).ports = s.ports := rfl
@[simp] theorem State.emit_pcie (s : State) (o : Output) : (s.emit o).pcie = s.pcie := rfl
@[simp] theorem State.emit_log (s : State) (o : Output) : (s.emit o).log = s.log := rfl
@[simp] theorem State.emit_foreman (s : State) (o : Output) : (s.emit o).foreman = s.foreman := rfl
@[simp] theorem State.emit_pairs (s : State) (o : Output) : (s.emit o).pairs = s.pairs := rfl
@[simp] theorem State.emit_eopen (s : State) (o : Output) : (s.emit o).eopen = s.eopen := rfl
@[simp] theorem State.emit_ledger (s : State) (o : Output) : (s.emit o).ledger = s.ledger := rfl
@[simp] theorem State.emit_sched (s : State) (o : Output) : (s.emit o).sched = s.sched := rfl
@[simp] theorem State.emit_tiles (s : State) (o : Output) : (s.emit o).tiles = s.tiles := rfl
@[simp] theorem State.emit_dram (s : State) (o : Output) : (s.emit o).dram = s.dram := rfl
@[simp] theorem State.emit_assayer (s : State) (o : Output) : (s.emit o).assayer = s.assayer := rfl
@[simp] theorem State.emit_fabric (s : State) (o : Output) : (s.emit o).fabric = s.fabric := rfl
@[simp] theorem State.emit_rumbes (s : State) (o : Output) : (s.emit o).rumbes = s.rumbes := rfl
@[simp] theorem State.emit_at_rumbe (s : State) (o : Output) (d : Dev) : (s.emit o).rumbe d = s.rumbe d := rfl
@[simp] theorem State.emit_at_port (s : State) (o : Output) (k : Nat) : (s.emit o).port k = s.port k := rfl
@[simp] theorem State.emit_at_pair (s : State) (o : Output) (k : Nat) : (s.emit o).pair k = s.pair k := rfl
@[simp] theorem State.emit_at_bench (s : State) (o : Output) (k : Nat) : (s.emit o).bench k = s.bench k := rfl
@[simp] theorem State.emit_at_stream (s : State) (o : Output) (k : Nat) : (s.emit o).stream k = s.stream k := rfl
@[simp] theorem State.emit_at_tile (s : State) (o : Output) (k : Nat) : (s.emit o).tile k = s.tile k := rfl
@[simp] theorem State.emit_at_link (s : State) (o : Output) (k : Nat) : (s.emit o).link k = s.link k := rfl

/-! ### State.draw_state -/

@[simp] theorem State.draw_state_pending (s : State) : (s.draw.2).pending = s.pending := rfl
@[simp] theorem State.draw_state_now (s : State) : (s.draw.2).now = s.now := rfl
@[simp] theorem State.draw_state_free (s : State) : (s.draw.2).free = s.free + 1 := rfl
@[simp] theorem State.draw_state_out (s : State) : (s.draw.2).out = s.out := rfl
@[simp] theorem State.draw_state_sys (s : State) : (s.draw.2).sys = s.sys := rfl
@[simp] theorem State.draw_state_ka (s : State) : (s.draw.2).ka = s.ka := rfl
@[simp] theorem State.draw_state_flash (s : State) : (s.draw.2).flash = s.flash := rfl
@[simp] theorem State.draw_state_journal (s : State) : (s.draw.2).journal = s.journal := rfl
@[simp] theorem State.draw_state_host (s : State) : (s.draw.2).host = s.host := rfl
@[simp] theorem State.draw_state_ports (s : State) : (s.draw.2).ports = s.ports := rfl
@[simp] theorem State.draw_state_pcie (s : State) : (s.draw.2).pcie = s.pcie := rfl
@[simp] theorem State.draw_state_log (s : State) : (s.draw.2).log = s.log := rfl
@[simp] theorem State.draw_state_foreman (s : State) : (s.draw.2).foreman = s.foreman := rfl
@[simp] theorem State.draw_state_pairs (s : State) : (s.draw.2).pairs = s.pairs := rfl
@[simp] theorem State.draw_state_eopen (s : State) : (s.draw.2).eopen = s.eopen := rfl
@[simp] theorem State.draw_state_ledger (s : State) : (s.draw.2).ledger = s.ledger := rfl
@[simp] theorem State.draw_state_sched (s : State) : (s.draw.2).sched = s.sched := rfl
@[simp] theorem State.draw_state_tiles (s : State) : (s.draw.2).tiles = s.tiles := rfl
@[simp] theorem State.draw_state_dram (s : State) : (s.draw.2).dram = s.dram := rfl
@[simp] theorem State.draw_state_assayer (s : State) : (s.draw.2).assayer = s.assayer := rfl
@[simp] theorem State.draw_state_fabric (s : State) : (s.draw.2).fabric = s.fabric := rfl
@[simp] theorem State.draw_state_rumbes (s : State) : (s.draw.2).rumbes = s.rumbes := rfl
@[simp] theorem State.draw_state_at_rumbe (s : State) (d : Dev) : (s.draw.2).rumbe d = s.rumbe d := rfl
@[simp] theorem State.draw_state_at_port (s : State) (k : Nat) : (s.draw.2).port k = s.port k := rfl
@[simp] theorem State.draw_state_at_pair (s : State) (k : Nat) : (s.draw.2).pair k = s.pair k := rfl
@[simp] theorem State.draw_state_at_bench (s : State) (k : Nat) : (s.draw.2).bench k = s.bench k := rfl
@[simp] theorem State.draw_state_at_stream (s : State) (k : Nat) : (s.draw.2).stream k = s.stream k := rfl
@[simp] theorem State.draw_state_at_tile (s : State) (k : Nat) : (s.draw.2).tile k = s.tile k := rfl
@[simp] theorem State.draw_state_at_link (s : State) (k : Nat) : (s.draw.2).link k = s.link k := rfl

/-! ### State.updPort -/

@[simp] theorem State.updPort_pending (s : State) (n : Nat) (f : TenantPort → TenantPort) : (s.updPort n f).pending = s.pending := rfl
@[simp] theorem State.updPort_now (s : State) (n : Nat) (f : TenantPort → TenantPort) : (s.updPort n f).now = s.now := rfl
@[simp] theorem State.updPort_free (s : State) (n : Nat) (f : TenantPort → TenantPort) : (s.updPort n f).free = s.free := rfl
@[simp] theorem State.updPort_out (s : State) (n : Nat) (f : TenantPort → TenantPort) : (s.updPort n f).out = s.out := rfl
@[simp] theorem State.updPort_sys (s : State) (n : Nat) (f : TenantPort → TenantPort) : (s.updPort n f).sys = s.sys := rfl
@[simp] theorem State.updPort_ka (s : State) (n : Nat) (f : TenantPort → TenantPort) : (s.updPort n f).ka = s.ka := rfl
@[simp] theorem State.updPort_flash (s : State) (n : Nat) (f : TenantPort → TenantPort) : (s.updPort n f).flash = s.flash := rfl
@[simp] theorem State.updPort_journal (s : State) (n : Nat) (f : TenantPort → TenantPort) : (s.updPort n f).journal = s.journal := rfl
@[simp] theorem State.updPort_host (s : State) (n : Nat) (f : TenantPort → TenantPort) : (s.updPort n f).host = s.host := rfl
@[simp] theorem State.updPort_ports (s : State) (n : Nat) (f : TenantPort → TenantPort) : (s.updPort n f).ports = tblSet n (f (s.port n)) s.ports := rfl
@[simp] theorem State.updPort_pcie (s : State) (n : Nat) (f : TenantPort → TenantPort) : (s.updPort n f).pcie = s.pcie := rfl
@[simp] theorem State.updPort_log (s : State) (n : Nat) (f : TenantPort → TenantPort) : (s.updPort n f).log = s.log := rfl
@[simp] theorem State.updPort_foreman (s : State) (n : Nat) (f : TenantPort → TenantPort) : (s.updPort n f).foreman = s.foreman := rfl
@[simp] theorem State.updPort_pairs (s : State) (n : Nat) (f : TenantPort → TenantPort) : (s.updPort n f).pairs = s.pairs := rfl
@[simp] theorem State.updPort_eopen (s : State) (n : Nat) (f : TenantPort → TenantPort) : (s.updPort n f).eopen = s.eopen := rfl
@[simp] theorem State.updPort_ledger (s : State) (n : Nat) (f : TenantPort → TenantPort) : (s.updPort n f).ledger = s.ledger := rfl
@[simp] theorem State.updPort_sched (s : State) (n : Nat) (f : TenantPort → TenantPort) : (s.updPort n f).sched = s.sched := rfl
@[simp] theorem State.updPort_tiles (s : State) (n : Nat) (f : TenantPort → TenantPort) : (s.updPort n f).tiles = s.tiles := rfl
@[simp] theorem State.updPort_dram (s : State) (n : Nat) (f : TenantPort → TenantPort) : (s.updPort n f).dram = s.dram := rfl
@[simp] theorem State.updPort_assayer (s : State) (n : Nat) (f : TenantPort → TenantPort) : (s.updPort n f).assayer = s.assayer := rfl
@[simp] theorem State.updPort_fabric (s : State) (n : Nat) (f : TenantPort → TenantPort) : (s.updPort n f).fabric = s.fabric := rfl
@[simp] theorem State.updPort_rumbes (s : State) (n : Nat) (f : TenantPort → TenantPort) : (s.updPort n f).rumbes = s.rumbes := rfl
@[simp] theorem State.updPort_at_rumbe (s : State) (n : Nat) (f : TenantPort → TenantPort) (d : Dev) : (s.updPort n f).rumbe d = s.rumbe d := rfl
@[simp] theorem State.updPort_at_pair (s : State) (n : Nat) (f : TenantPort → TenantPort) (k : Nat) : (s.updPort n f).pair k = s.pair k := rfl
@[simp] theorem State.updPort_at_bench (s : State) (n : Nat) (f : TenantPort → TenantPort) (k : Nat) : (s.updPort n f).bench k = s.bench k := rfl
@[simp] theorem State.updPort_at_stream (s : State) (n : Nat) (f : TenantPort → TenantPort) (k : Nat) : (s.updPort n f).stream k = s.stream k := rfl
@[simp] theorem State.updPort_at_tile (s : State) (n : Nat) (f : TenantPort → TenantPort) (k : Nat) : (s.updPort n f).tile k = s.tile k := rfl
@[simp] theorem State.updPort_at_link (s : State) (n : Nat) (f : TenantPort → TenantPort) (k : Nat) : (s.updPort n f).link k = s.link k := rfl

/-! ### State.portSet -/

@[simp] theorem State.portSet_pending (s : State) (n : Nat) (f : TenantPort → TenantPort) (g : JustSet → JustSet) : (s.portSet n f g).pending = s.pending := rfl
@[simp] theorem State.portSet_now (s : State) (n : Nat) (f : TenantPort → TenantPort) (g : JustSet → JustSet) : (s.portSet n f g).now = s.now := rfl
@[simp] theorem State.portSet_free (s : State) (n : Nat) (f : TenantPort → TenantPort) (g : JustSet → JustSet) : (s.portSet n f g).free = s.free := rfl
@[simp] theorem State.portSet_out (s : State) (n : Nat) (f : TenantPort → TenantPort) (g : JustSet → JustSet) : (s.portSet n f g).out = s.out := rfl
@[simp] theorem State.portSet_sys (s : State) (n : Nat) (f : TenantPort → TenantPort) (g : JustSet → JustSet) : (s.portSet n f g).sys = s.sys := rfl
@[simp] theorem State.portSet_ka (s : State) (n : Nat) (f : TenantPort → TenantPort) (g : JustSet → JustSet) : (s.portSet n f g).ka = s.ka := rfl
@[simp] theorem State.portSet_flash (s : State) (n : Nat) (f : TenantPort → TenantPort) (g : JustSet → JustSet) : (s.portSet n f g).flash = s.flash := rfl
@[simp] theorem State.portSet_journal (s : State) (n : Nat) (f : TenantPort → TenantPort) (g : JustSet → JustSet) : (s.portSet n f g).journal = s.journal := rfl
@[simp] theorem State.portSet_host (s : State) (n : Nat) (f : TenantPort → TenantPort) (g : JustSet → JustSet) : (s.portSet n f g).host = s.host := rfl
@[simp] theorem State.portSet_ports (s : State) (n : Nat) (f : TenantPort → TenantPort) (g : JustSet → JustSet) :
    (s.portSet n f g).ports = tblSet n { f (s.port n) with new := g (setNow s.now (s.port n)) } s.ports := rfl
@[simp] theorem State.portSet_pcie (s : State) (n : Nat) (f : TenantPort → TenantPort) (g : JustSet → JustSet) : (s.portSet n f g).pcie = s.pcie := rfl
@[simp] theorem State.portSet_log (s : State) (n : Nat) (f : TenantPort → TenantPort) (g : JustSet → JustSet) : (s.portSet n f g).log = s.log := rfl
@[simp] theorem State.portSet_foreman (s : State) (n : Nat) (f : TenantPort → TenantPort) (g : JustSet → JustSet) : (s.portSet n f g).foreman = s.foreman := rfl
@[simp] theorem State.portSet_pairs (s : State) (n : Nat) (f : TenantPort → TenantPort) (g : JustSet → JustSet) : (s.portSet n f g).pairs = s.pairs := rfl
@[simp] theorem State.portSet_eopen (s : State) (n : Nat) (f : TenantPort → TenantPort) (g : JustSet → JustSet) : (s.portSet n f g).eopen = s.eopen := rfl
@[simp] theorem State.portSet_ledger (s : State) (n : Nat) (f : TenantPort → TenantPort) (g : JustSet → JustSet) : (s.portSet n f g).ledger = s.ledger := rfl
@[simp] theorem State.portSet_sched (s : State) (n : Nat) (f : TenantPort → TenantPort) (g : JustSet → JustSet) : (s.portSet n f g).sched = s.sched := rfl
@[simp] theorem State.portSet_tiles (s : State) (n : Nat) (f : TenantPort → TenantPort) (g : JustSet → JustSet) : (s.portSet n f g).tiles = s.tiles := rfl
@[simp] theorem State.portSet_dram (s : State) (n : Nat) (f : TenantPort → TenantPort) (g : JustSet → JustSet) : (s.portSet n f g).dram = s.dram := rfl
@[simp] theorem State.portSet_assayer (s : State) (n : Nat) (f : TenantPort → TenantPort) (g : JustSet → JustSet) : (s.portSet n f g).assayer = s.assayer := rfl
@[simp] theorem State.portSet_fabric (s : State) (n : Nat) (f : TenantPort → TenantPort) (g : JustSet → JustSet) : (s.portSet n f g).fabric = s.fabric := rfl
@[simp] theorem State.portSet_rumbes (s : State) (n : Nat) (f : TenantPort → TenantPort) (g : JustSet → JustSet) : (s.portSet n f g).rumbes = s.rumbes := rfl
@[simp] theorem State.portSet_at_rumbe (s : State) (n : Nat) (f : TenantPort → TenantPort) (g : JustSet → JustSet) (d : Dev) : (s.portSet n f g).rumbe d = s.rumbe d := rfl
@[simp] theorem State.portSet_at_pair (s : State) (n : Nat) (f : TenantPort → TenantPort) (g : JustSet → JustSet) (k : Nat) : (s.portSet n f g).pair k = s.pair k := rfl
@[simp] theorem State.portSet_at_bench (s : State) (n : Nat) (f : TenantPort → TenantPort) (g : JustSet → JustSet) (k : Nat) : (s.portSet n f g).bench k = s.bench k := rfl
@[simp] theorem State.portSet_at_stream (s : State) (n : Nat) (f : TenantPort → TenantPort) (g : JustSet → JustSet) (k : Nat) : (s.portSet n f g).stream k = s.stream k := rfl
@[simp] theorem State.portSet_at_tile (s : State) (n : Nat) (f : TenantPort → TenantPort) (g : JustSet → JustSet) (k : Nat) : (s.portSet n f g).tile k = s.tile k := rfl
@[simp] theorem State.portSet_at_link (s : State) (n : Nat) (f : TenantPort → TenantPort) (g : JustSet → JustSet) (k : Nat) : (s.portSet n f g).link k = s.link k := rfl

/-! ### State.updPair -/

@[simp] theorem State.updPair_pending (s : State) (n : Nat) (f : Pair → Pair) : (s.updPair n f).pending = s.pending := rfl
@[simp] theorem State.updPair_now (s : State) (n : Nat) (f : Pair → Pair) : (s.updPair n f).now = s.now := rfl
@[simp] theorem State.updPair_free (s : State) (n : Nat) (f : Pair → Pair) : (s.updPair n f).free = s.free := rfl
@[simp] theorem State.updPair_out (s : State) (n : Nat) (f : Pair → Pair) : (s.updPair n f).out = s.out := rfl
@[simp] theorem State.updPair_sys (s : State) (n : Nat) (f : Pair → Pair) : (s.updPair n f).sys = s.sys := rfl
@[simp] theorem State.updPair_ka (s : State) (n : Nat) (f : Pair → Pair) : (s.updPair n f).ka = s.ka := rfl
@[simp] theorem State.updPair_flash (s : State) (n : Nat) (f : Pair → Pair) : (s.updPair n f).flash = s.flash := rfl
@[simp] theorem State.updPair_journal (s : State) (n : Nat) (f : Pair → Pair) : (s.updPair n f).journal = s.journal := rfl
@[simp] theorem State.updPair_host (s : State) (n : Nat) (f : Pair → Pair) : (s.updPair n f).host = s.host := rfl
@[simp] theorem State.updPair_ports (s : State) (n : Nat) (f : Pair → Pair) : (s.updPair n f).ports = s.ports := rfl
@[simp] theorem State.updPair_pcie (s : State) (n : Nat) (f : Pair → Pair) : (s.updPair n f).pcie = s.pcie := rfl
@[simp] theorem State.updPair_log (s : State) (n : Nat) (f : Pair → Pair) : (s.updPair n f).log = s.log := rfl
@[simp] theorem State.updPair_foreman (s : State) (n : Nat) (f : Pair → Pair) : (s.updPair n f).foreman = s.foreman := rfl
@[simp] theorem State.updPair_pairs (s : State) (n : Nat) (f : Pair → Pair) : (s.updPair n f).pairs = modAt s.pairs n f := rfl
@[simp] theorem State.updPair_eopen (s : State) (n : Nat) (f : Pair → Pair) : (s.updPair n f).eopen = s.eopen := rfl
@[simp] theorem State.updPair_ledger (s : State) (n : Nat) (f : Pair → Pair) : (s.updPair n f).ledger = s.ledger := rfl
@[simp] theorem State.updPair_sched (s : State) (n : Nat) (f : Pair → Pair) : (s.updPair n f).sched = s.sched := rfl
@[simp] theorem State.updPair_tiles (s : State) (n : Nat) (f : Pair → Pair) : (s.updPair n f).tiles = s.tiles := rfl
@[simp] theorem State.updPair_dram (s : State) (n : Nat) (f : Pair → Pair) : (s.updPair n f).dram = s.dram := rfl
@[simp] theorem State.updPair_assayer (s : State) (n : Nat) (f : Pair → Pair) : (s.updPair n f).assayer = s.assayer := rfl
@[simp] theorem State.updPair_fabric (s : State) (n : Nat) (f : Pair → Pair) : (s.updPair n f).fabric = s.fabric := rfl
@[simp] theorem State.updPair_rumbes (s : State) (n : Nat) (f : Pair → Pair) : (s.updPair n f).rumbes = s.rumbes := rfl
@[simp] theorem State.updPair_at_rumbe (s : State) (n : Nat) (f : Pair → Pair) (d : Dev) : (s.updPair n f).rumbe d = s.rumbe d := rfl
@[simp] theorem State.updPair_at_port (s : State) (n : Nat) (f : Pair → Pair) (k : Nat) : (s.updPair n f).port k = s.port k := rfl
@[simp] theorem State.updPair_at_bench (s : State) (n : Nat) (f : Pair → Pair) (k : Nat) : (s.updPair n f).bench k = s.bench k := rfl
@[simp] theorem State.updPair_at_stream (s : State) (n : Nat) (f : Pair → Pair) (k : Nat) : (s.updPair n f).stream k = s.stream k := rfl
@[simp] theorem State.updPair_at_tile (s : State) (n : Nat) (f : Pair → Pair) (k : Nat) : (s.updPair n f).tile k = s.tile k := rfl
@[simp] theorem State.updPair_at_link (s : State) (n : Nat) (f : Pair → Pair) (k : Nat) : (s.updPair n f).link k = s.link k := rfl

/-! ### State.updSys -/

@[simp] theorem State.updSys_pending (s : State) (f : Sys → Sys) : (s.updSys f).pending = s.pending := rfl
@[simp] theorem State.updSys_now (s : State) (f : Sys → Sys) : (s.updSys f).now = s.now := rfl
@[simp] theorem State.updSys_free (s : State) (f : Sys → Sys) : (s.updSys f).free = s.free := rfl
@[simp] theorem State.updSys_out (s : State) (f : Sys → Sys) : (s.updSys f).out = s.out := rfl
@[simp] theorem State.updSys_sys (s : State) (f : Sys → Sys) : (s.updSys f).sys = f s.sys := rfl
@[simp] theorem State.updSys_ka (s : State) (f : Sys → Sys) : (s.updSys f).ka = s.ka := rfl
@[simp] theorem State.updSys_flash (s : State) (f : Sys → Sys) : (s.updSys f).flash = s.flash := rfl
@[simp] theorem State.updSys_journal (s : State) (f : Sys → Sys) : (s.updSys f).journal = s.journal := rfl
@[simp] theorem State.updSys_host (s : State) (f : Sys → Sys) : (s.updSys f).host = s.host := rfl
@[simp] theorem State.updSys_ports (s : State) (f : Sys → Sys) : (s.updSys f).ports = s.ports := rfl
@[simp] theorem State.updSys_pcie (s : State) (f : Sys → Sys) : (s.updSys f).pcie = s.pcie := rfl
@[simp] theorem State.updSys_log (s : State) (f : Sys → Sys) : (s.updSys f).log = s.log := rfl
@[simp] theorem State.updSys_foreman (s : State) (f : Sys → Sys) : (s.updSys f).foreman = s.foreman := rfl
@[simp] theorem State.updSys_pairs (s : State) (f : Sys → Sys) : (s.updSys f).pairs = s.pairs := rfl
@[simp] theorem State.updSys_eopen (s : State) (f : Sys → Sys) : (s.updSys f).eopen = s.eopen := rfl
@[simp] theorem State.updSys_ledger (s : State) (f : Sys → Sys) : (s.updSys f).ledger = s.ledger := rfl
@[simp] theorem State.updSys_sched (s : State) (f : Sys → Sys) : (s.updSys f).sched = s.sched := rfl
@[simp] theorem State.updSys_tiles (s : State) (f : Sys → Sys) : (s.updSys f).tiles = s.tiles := rfl
@[simp] theorem State.updSys_dram (s : State) (f : Sys → Sys) : (s.updSys f).dram = s.dram := rfl
@[simp] theorem State.updSys_assayer (s : State) (f : Sys → Sys) : (s.updSys f).assayer = s.assayer := rfl
@[simp] theorem State.updSys_fabric (s : State) (f : Sys → Sys) : (s.updSys f).fabric = s.fabric := rfl
@[simp] theorem State.updSys_rumbes (s : State) (f : Sys → Sys) : (s.updSys f).rumbes = s.rumbes := rfl
@[simp] theorem State.updSys_at_rumbe (s : State) (f : Sys → Sys) (d : Dev) : (s.updSys f).rumbe d = s.rumbe d := rfl
@[simp] theorem State.updSys_at_port (s : State) (f : Sys → Sys) (k : Nat) : (s.updSys f).port k = s.port k := rfl
@[simp] theorem State.updSys_at_pair (s : State) (f : Sys → Sys) (k : Nat) : (s.updSys f).pair k = s.pair k := rfl
@[simp] theorem State.updSys_at_stream (s : State) (f : Sys → Sys) (k : Nat) : (s.updSys f).stream k = s.stream k := rfl
@[simp] theorem State.updSys_at_tile (s : State) (f : Sys → Sys) (k : Nat) : (s.updSys f).tile k = s.tile k := rfl
@[simp] theorem State.updSys_at_link (s : State) (f : Sys → Sys) (k : Nat) : (s.updSys f).link k = s.link k := rfl

/-! ### State.updBench -/

@[simp] theorem State.updBench_pending (s : State) (n : Nat) (f : Bench → Bench) : (s.updBench n f).pending = s.pending := rfl
@[simp] theorem State.updBench_now (s : State) (n : Nat) (f : Bench → Bench) : (s.updBench n f).now = s.now := rfl
@[simp] theorem State.updBench_free (s : State) (n : Nat) (f : Bench → Bench) : (s.updBench n f).free = s.free := rfl
@[simp] theorem State.updBench_out (s : State) (n : Nat) (f : Bench → Bench) : (s.updBench n f).out = s.out := rfl
@[simp] theorem State.updBench_sys (s : State) (n : Nat) (f : Bench → Bench) : (s.updBench n f).sys = { s.sys with benches := modAt s.sys.benches n f } := rfl
@[simp] theorem State.updBench_ka (s : State) (n : Nat) (f : Bench → Bench) : (s.updBench n f).ka = s.ka := rfl
@[simp] theorem State.updBench_flash (s : State) (n : Nat) (f : Bench → Bench) : (s.updBench n f).flash = s.flash := rfl
@[simp] theorem State.updBench_journal (s : State) (n : Nat) (f : Bench → Bench) : (s.updBench n f).journal = s.journal := rfl
@[simp] theorem State.updBench_host (s : State) (n : Nat) (f : Bench → Bench) : (s.updBench n f).host = s.host := rfl
@[simp] theorem State.updBench_ports (s : State) (n : Nat) (f : Bench → Bench) : (s.updBench n f).ports = s.ports := rfl
@[simp] theorem State.updBench_pcie (s : State) (n : Nat) (f : Bench → Bench) : (s.updBench n f).pcie = s.pcie := rfl
@[simp] theorem State.updBench_log (s : State) (n : Nat) (f : Bench → Bench) : (s.updBench n f).log = s.log := rfl
@[simp] theorem State.updBench_foreman (s : State) (n : Nat) (f : Bench → Bench) : (s.updBench n f).foreman = s.foreman := rfl
@[simp] theorem State.updBench_pairs (s : State) (n : Nat) (f : Bench → Bench) : (s.updBench n f).pairs = s.pairs := rfl
@[simp] theorem State.updBench_eopen (s : State) (n : Nat) (f : Bench → Bench) : (s.updBench n f).eopen = s.eopen := rfl
@[simp] theorem State.updBench_ledger (s : State) (n : Nat) (f : Bench → Bench) : (s.updBench n f).ledger = s.ledger := rfl
@[simp] theorem State.updBench_sched (s : State) (n : Nat) (f : Bench → Bench) : (s.updBench n f).sched = s.sched := rfl
@[simp] theorem State.updBench_tiles (s : State) (n : Nat) (f : Bench → Bench) : (s.updBench n f).tiles = s.tiles := rfl
@[simp] theorem State.updBench_dram (s : State) (n : Nat) (f : Bench → Bench) : (s.updBench n f).dram = s.dram := rfl
@[simp] theorem State.updBench_assayer (s : State) (n : Nat) (f : Bench → Bench) : (s.updBench n f).assayer = s.assayer := rfl
@[simp] theorem State.updBench_fabric (s : State) (n : Nat) (f : Bench → Bench) : (s.updBench n f).fabric = s.fabric := rfl
@[simp] theorem State.updBench_rumbes (s : State) (n : Nat) (f : Bench → Bench) : (s.updBench n f).rumbes = s.rumbes := rfl
@[simp] theorem State.updBench_at_rumbe (s : State) (n : Nat) (f : Bench → Bench) (d : Dev) : (s.updBench n f).rumbe d = s.rumbe d := rfl
@[simp] theorem State.updBench_at_port (s : State) (n : Nat) (f : Bench → Bench) (k : Nat) : (s.updBench n f).port k = s.port k := rfl
@[simp] theorem State.updBench_at_pair (s : State) (n : Nat) (f : Bench → Bench) (k : Nat) : (s.updBench n f).pair k = s.pair k := rfl
@[simp] theorem State.updBench_at_stream (s : State) (n : Nat) (f : Bench → Bench) (k : Nat) : (s.updBench n f).stream k = s.stream k := rfl
@[simp] theorem State.updBench_at_tile (s : State) (n : Nat) (f : Bench → Bench) (k : Nat) : (s.updBench n f).tile k = s.tile k := rfl
@[simp] theorem State.updBench_at_link (s : State) (n : Nat) (f : Bench → Bench) (k : Nat) : (s.updBench n f).link k = s.link k := rfl

/-! ### State.updChan -/

@[simp] theorem State.updChan_pending (s : State) (n : Nat) (f : Channel → Channel) : (s.updChan n f).pending = s.pending := rfl
@[simp] theorem State.updChan_now (s : State) (n : Nat) (f : Channel → Channel) : (s.updChan n f).now = s.now := rfl
@[simp] theorem State.updChan_free (s : State) (n : Nat) (f : Channel → Channel) : (s.updChan n f).free = s.free := rfl
@[simp] theorem State.updChan_out (s : State) (n : Nat) (f : Channel → Channel) : (s.updChan n f).out = s.out := rfl
@[simp] theorem State.updChan_sys (s : State) (n : Nat) (f : Channel → Channel) : (s.updChan n f).sys = { s.sys with channels := modAt s.sys.channels n f } := rfl
@[simp] theorem State.updChan_ka (s : State) (n : Nat) (f : Channel → Channel) : (s.updChan n f).ka = s.ka := rfl
@[simp] theorem State.updChan_flash (s : State) (n : Nat) (f : Channel → Channel) : (s.updChan n f).flash = s.flash := rfl
@[simp] theorem State.updChan_journal (s : State) (n : Nat) (f : Channel → Channel) : (s.updChan n f).journal = s.journal := rfl
@[simp] theorem State.updChan_host (s : State) (n : Nat) (f : Channel → Channel) : (s.updChan n f).host = s.host := rfl
@[simp] theorem State.updChan_ports (s : State) (n : Nat) (f : Channel → Channel) : (s.updChan n f).ports = s.ports := rfl
@[simp] theorem State.updChan_pcie (s : State) (n : Nat) (f : Channel → Channel) : (s.updChan n f).pcie = s.pcie := rfl
@[simp] theorem State.updChan_log (s : State) (n : Nat) (f : Channel → Channel) : (s.updChan n f).log = s.log := rfl
@[simp] theorem State.updChan_foreman (s : State) (n : Nat) (f : Channel → Channel) : (s.updChan n f).foreman = s.foreman := rfl
@[simp] theorem State.updChan_pairs (s : State) (n : Nat) (f : Channel → Channel) : (s.updChan n f).pairs = s.pairs := rfl
@[simp] theorem State.updChan_eopen (s : State) (n : Nat) (f : Channel → Channel) : (s.updChan n f).eopen = s.eopen := rfl
@[simp] theorem State.updChan_ledger (s : State) (n : Nat) (f : Channel → Channel) : (s.updChan n f).ledger = s.ledger := rfl
@[simp] theorem State.updChan_sched (s : State) (n : Nat) (f : Channel → Channel) : (s.updChan n f).sched = s.sched := rfl
@[simp] theorem State.updChan_tiles (s : State) (n : Nat) (f : Channel → Channel) : (s.updChan n f).tiles = s.tiles := rfl
@[simp] theorem State.updChan_dram (s : State) (n : Nat) (f : Channel → Channel) : (s.updChan n f).dram = s.dram := rfl
@[simp] theorem State.updChan_assayer (s : State) (n : Nat) (f : Channel → Channel) : (s.updChan n f).assayer = s.assayer := rfl
@[simp] theorem State.updChan_fabric (s : State) (n : Nat) (f : Channel → Channel) : (s.updChan n f).fabric = s.fabric := rfl
@[simp] theorem State.updChan_rumbes (s : State) (n : Nat) (f : Channel → Channel) : (s.updChan n f).rumbes = s.rumbes := rfl
@[simp] theorem State.updChan_at_rumbe (s : State) (n : Nat) (f : Channel → Channel) (d : Dev) : (s.updChan n f).rumbe d = s.rumbe d := rfl
@[simp] theorem State.updChan_at_port (s : State) (n : Nat) (f : Channel → Channel) (k : Nat) : (s.updChan n f).port k = s.port k := rfl
@[simp] theorem State.updChan_at_pair (s : State) (n : Nat) (f : Channel → Channel) (k : Nat) : (s.updChan n f).pair k = s.pair k := rfl
@[simp] theorem State.updChan_at_stream (s : State) (n : Nat) (f : Channel → Channel) (k : Nat) : (s.updChan n f).stream k = s.stream k := rfl
@[simp] theorem State.updChan_at_tile (s : State) (n : Nat) (f : Channel → Channel) (k : Nat) : (s.updChan n f).tile k = s.tile k := rfl
@[simp] theorem State.updChan_at_link (s : State) (n : Nat) (f : Channel → Channel) (k : Nat) : (s.updChan n f).link k = s.link k := rfl

/-! ### State.updThermal -/

@[simp] theorem State.updThermal_pending (s : State) (f : Thermal → Thermal) : (s.updThermal f).pending = s.pending := rfl
@[simp] theorem State.updThermal_now (s : State) (f : Thermal → Thermal) : (s.updThermal f).now = s.now := rfl
@[simp] theorem State.updThermal_free (s : State) (f : Thermal → Thermal) : (s.updThermal f).free = s.free := rfl
@[simp] theorem State.updThermal_out (s : State) (f : Thermal → Thermal) : (s.updThermal f).out = s.out := rfl
@[simp] theorem State.updThermal_sys (s : State) (f : Thermal → Thermal) : (s.updThermal f).sys = { s.sys with thermal := f s.sys.thermal } := rfl
@[simp] theorem State.updThermal_ka (s : State) (f : Thermal → Thermal) : (s.updThermal f).ka = s.ka := rfl
@[simp] theorem State.updThermal_flash (s : State) (f : Thermal → Thermal) : (s.updThermal f).flash = s.flash := rfl
@[simp] theorem State.updThermal_journal (s : State) (f : Thermal → Thermal) : (s.updThermal f).journal = s.journal := rfl
@[simp] theorem State.updThermal_host (s : State) (f : Thermal → Thermal) : (s.updThermal f).host = s.host := rfl
@[simp] theorem State.updThermal_ports (s : State) (f : Thermal → Thermal) : (s.updThermal f).ports = s.ports := rfl
@[simp] theorem State.updThermal_pcie (s : State) (f : Thermal → Thermal) : (s.updThermal f).pcie = s.pcie := rfl
@[simp] theorem State.updThermal_log (s : State) (f : Thermal → Thermal) : (s.updThermal f).log = s.log := rfl
@[simp] theorem State.updThermal_foreman (s : State) (f : Thermal → Thermal) : (s.updThermal f).foreman = s.foreman := rfl
@[simp] theorem State.updThermal_pairs (s : State) (f : Thermal → Thermal) : (s.updThermal f).pairs = s.pairs := rfl
@[simp] theorem State.updThermal_eopen (s : State) (f : Thermal → Thermal) : (s.updThermal f).eopen = s.eopen := rfl
@[simp] theorem State.updThermal_ledger (s : State) (f : Thermal → Thermal) : (s.updThermal f).ledger = s.ledger := rfl
@[simp] theorem State.updThermal_sched (s : State) (f : Thermal → Thermal) : (s.updThermal f).sched = s.sched := rfl
@[simp] theorem State.updThermal_tiles (s : State) (f : Thermal → Thermal) : (s.updThermal f).tiles = s.tiles := rfl
@[simp] theorem State.updThermal_dram (s : State) (f : Thermal → Thermal) : (s.updThermal f).dram = s.dram := rfl
@[simp] theorem State.updThermal_assayer (s : State) (f : Thermal → Thermal) : (s.updThermal f).assayer = s.assayer := rfl
@[simp] theorem State.updThermal_fabric (s : State) (f : Thermal → Thermal) : (s.updThermal f).fabric = s.fabric := rfl
@[simp] theorem State.updThermal_rumbes (s : State) (f : Thermal → Thermal) : (s.updThermal f).rumbes = s.rumbes := rfl
@[simp] theorem State.updThermal_at_rumbe (s : State) (f : Thermal → Thermal) (d : Dev) : (s.updThermal f).rumbe d = s.rumbe d := rfl
@[simp] theorem State.updThermal_at_port (s : State) (f : Thermal → Thermal) (k : Nat) : (s.updThermal f).port k = s.port k := rfl
@[simp] theorem State.updThermal_at_pair (s : State) (f : Thermal → Thermal) (k : Nat) : (s.updThermal f).pair k = s.pair k := rfl
@[simp] theorem State.updThermal_at_stream (s : State) (f : Thermal → Thermal) (k : Nat) : (s.updThermal f).stream k = s.stream k := rfl
@[simp] theorem State.updThermal_at_tile (s : State) (f : Thermal → Thermal) (k : Nat) : (s.updThermal f).tile k = s.tile k := rfl
@[simp] theorem State.updThermal_at_link (s : State) (f : Thermal → Thermal) (k : Nat) : (s.updThermal f).link k = s.link k := rfl

/-! ### State.updGov -/

@[simp] theorem State.updGov_pending (s : State) (f : Governor → Governor) : (s.updGov f).pending = s.pending := rfl
@[simp] theorem State.updGov_now (s : State) (f : Governor → Governor) : (s.updGov f).now = s.now := rfl
@[simp] theorem State.updGov_free (s : State) (f : Governor → Governor) : (s.updGov f).free = s.free := rfl
@[simp] theorem State.updGov_out (s : State) (f : Governor → Governor) : (s.updGov f).out = s.out := rfl
@[simp] theorem State.updGov_sys (s : State) (f : Governor → Governor) : (s.updGov f).sys = { s.sys with gov := f s.sys.gov } := rfl
@[simp] theorem State.updGov_ka (s : State) (f : Governor → Governor) : (s.updGov f).ka = s.ka := rfl
@[simp] theorem State.updGov_flash (s : State) (f : Governor → Governor) : (s.updGov f).flash = s.flash := rfl
@[simp] theorem State.updGov_journal (s : State) (f : Governor → Governor) : (s.updGov f).journal = s.journal := rfl
@[simp] theorem State.updGov_host (s : State) (f : Governor → Governor) : (s.updGov f).host = s.host := rfl
@[simp] theorem State.updGov_ports (s : State) (f : Governor → Governor) : (s.updGov f).ports = s.ports := rfl
@[simp] theorem State.updGov_pcie (s : State) (f : Governor → Governor) : (s.updGov f).pcie = s.pcie := rfl
@[simp] theorem State.updGov_log (s : State) (f : Governor → Governor) : (s.updGov f).log = s.log := rfl
@[simp] theorem State.updGov_foreman (s : State) (f : Governor → Governor) : (s.updGov f).foreman = s.foreman := rfl
@[simp] theorem State.updGov_pairs (s : State) (f : Governor → Governor) : (s.updGov f).pairs = s.pairs := rfl
@[simp] theorem State.updGov_eopen (s : State) (f : Governor → Governor) : (s.updGov f).eopen = s.eopen := rfl
@[simp] theorem State.updGov_ledger (s : State) (f : Governor → Governor) : (s.updGov f).ledger = s.ledger := rfl
@[simp] theorem State.updGov_sched (s : State) (f : Governor → Governor) : (s.updGov f).sched = s.sched := rfl
@[simp] theorem State.updGov_tiles (s : State) (f : Governor → Governor) : (s.updGov f).tiles = s.tiles := rfl
@[simp] theorem State.updGov_dram (s : State) (f : Governor → Governor) : (s.updGov f).dram = s.dram := rfl
@[simp] theorem State.updGov_assayer (s : State) (f : Governor → Governor) : (s.updGov f).assayer = s.assayer := rfl
@[simp] theorem State.updGov_fabric (s : State) (f : Governor → Governor) : (s.updGov f).fabric = s.fabric := rfl
@[simp] theorem State.updGov_rumbes (s : State) (f : Governor → Governor) : (s.updGov f).rumbes = s.rumbes := rfl
@[simp] theorem State.updGov_at_rumbe (s : State) (f : Governor → Governor) (d : Dev) : (s.updGov f).rumbe d = s.rumbe d := rfl
@[simp] theorem State.updGov_at_port (s : State) (f : Governor → Governor) (k : Nat) : (s.updGov f).port k = s.port k := rfl
@[simp] theorem State.updGov_at_pair (s : State) (f : Governor → Governor) (k : Nat) : (s.updGov f).pair k = s.pair k := rfl
@[simp] theorem State.updGov_at_stream (s : State) (f : Governor → Governor) (k : Nat) : (s.updGov f).stream k = s.stream k := rfl
@[simp] theorem State.updGov_at_tile (s : State) (f : Governor → Governor) (k : Nat) : (s.updGov f).tile k = s.tile k := rfl
@[simp] theorem State.updGov_at_link (s : State) (f : Governor → Governor) (k : Nat) : (s.updGov f).link k = s.link k := rfl

/-! ### State.updStream -/

@[simp] theorem State.updStream_pending (s : State) (n : Nat) (f : Stream → Stream) : (s.updStream n f).pending = s.pending := rfl
@[simp] theorem State.updStream_now (s : State) (n : Nat) (f : Stream → Stream) : (s.updStream n f).now = s.now := rfl
@[simp] theorem State.updStream_free (s : State) (n : Nat) (f : Stream → Stream) : (s.updStream n f).free = s.free := rfl
@[simp] theorem State.updStream_out (s : State) (n : Nat) (f : Stream → Stream) : (s.updStream n f).out = s.out := rfl
@[simp] theorem State.updStream_sys (s : State) (n : Nat) (f : Stream → Stream) : (s.updStream n f).sys = s.sys := rfl
@[simp] theorem State.updStream_ka (s : State) (n : Nat) (f : Stream → Stream) : (s.updStream n f).ka = s.ka := rfl
@[simp] theorem State.updStream_flash (s : State) (n : Nat) (f : Stream → Stream) : (s.updStream n f).flash = s.flash := rfl
@[simp] theorem State.updStream_journal (s : State) (n : Nat) (f : Stream → Stream) : (s.updStream n f).journal = s.journal := rfl
@[simp] theorem State.updStream_host (s : State) (n : Nat) (f : Stream → Stream) : (s.updStream n f).host = s.host := rfl
@[simp] theorem State.updStream_ports (s : State) (n : Nat) (f : Stream → Stream) : (s.updStream n f).ports = s.ports := rfl
@[simp] theorem State.updStream_pcie (s : State) (n : Nat) (f : Stream → Stream) : (s.updStream n f).pcie = s.pcie := rfl
@[simp] theorem State.updStream_log (s : State) (n : Nat) (f : Stream → Stream) : (s.updStream n f).log = s.log := rfl
@[simp] theorem State.updStream_foreman (s : State) (n : Nat) (f : Stream → Stream) : (s.updStream n f).foreman = s.foreman := rfl
@[simp] theorem State.updStream_pairs (s : State) (n : Nat) (f : Stream → Stream) : (s.updStream n f).pairs = s.pairs := rfl
@[simp] theorem State.updStream_eopen (s : State) (n : Nat) (f : Stream → Stream) : (s.updStream n f).eopen = s.eopen := rfl
@[simp] theorem State.updStream_ledger (s : State) (n : Nat) (f : Stream → Stream) : (s.updStream n f).ledger = s.ledger := rfl
@[simp] theorem State.updStream_sched (s : State) (n : Nat) (f : Stream → Stream) : (s.updStream n f).sched = { s.sched with streams := tblSet n (f (s.stream n)) s.sched.streams } := rfl
@[simp] theorem State.updStream_tiles (s : State) (n : Nat) (f : Stream → Stream) : (s.updStream n f).tiles = s.tiles := rfl
@[simp] theorem State.updStream_dram (s : State) (n : Nat) (f : Stream → Stream) : (s.updStream n f).dram = s.dram := rfl
@[simp] theorem State.updStream_assayer (s : State) (n : Nat) (f : Stream → Stream) : (s.updStream n f).assayer = s.assayer := rfl
@[simp] theorem State.updStream_fabric (s : State) (n : Nat) (f : Stream → Stream) : (s.updStream n f).fabric = s.fabric := rfl
@[simp] theorem State.updStream_rumbes (s : State) (n : Nat) (f : Stream → Stream) : (s.updStream n f).rumbes = s.rumbes := rfl
@[simp] theorem State.updStream_at_rumbe (s : State) (n : Nat) (f : Stream → Stream) (d : Dev) : (s.updStream n f).rumbe d = s.rumbe d := rfl
@[simp] theorem State.updStream_at_port (s : State) (n : Nat) (f : Stream → Stream) (k : Nat) : (s.updStream n f).port k = s.port k := rfl
@[simp] theorem State.updStream_at_pair (s : State) (n : Nat) (f : Stream → Stream) (k : Nat) : (s.updStream n f).pair k = s.pair k := rfl
@[simp] theorem State.updStream_at_bench (s : State) (n : Nat) (f : Stream → Stream) (k : Nat) : (s.updStream n f).bench k = s.bench k := rfl
@[simp] theorem State.updStream_at_tile (s : State) (n : Nat) (f : Stream → Stream) (k : Nat) : (s.updStream n f).tile k = s.tile k := rfl
@[simp] theorem State.updStream_at_link (s : State) (n : Nat) (f : Stream → Stream) (k : Nat) : (s.updStream n f).link k = s.link k := rfl

/-! ### State.updTile -/

@[simp] theorem State.updTile_pending (s : State) (n : Nat) (f : Tile → Tile) : (s.updTile n f).pending = s.pending := rfl
@[simp] theorem State.updTile_now (s : State) (n : Nat) (f : Tile → Tile) : (s.updTile n f).now = s.now := rfl
@[simp] theorem State.updTile_free (s : State) (n : Nat) (f : Tile → Tile) : (s.updTile n f).free = s.free := rfl
@[simp] theorem State.updTile_out (s : State) (n : Nat) (f : Tile → Tile) : (s.updTile n f).out = s.out := rfl
@[simp] theorem State.updTile_sys (s : State) (n : Nat) (f : Tile → Tile) : (s.updTile n f).sys = s.sys := rfl
@[simp] theorem State.updTile_ka (s : State) (n : Nat) (f : Tile → Tile) : (s.updTile n f).ka = s.ka := rfl
@[simp] theorem State.updTile_flash (s : State) (n : Nat) (f : Tile → Tile) : (s.updTile n f).flash = s.flash := rfl
@[simp] theorem State.updTile_journal (s : State) (n : Nat) (f : Tile → Tile) : (s.updTile n f).journal = s.journal := rfl
@[simp] theorem State.updTile_host (s : State) (n : Nat) (f : Tile → Tile) : (s.updTile n f).host = s.host := rfl
@[simp] theorem State.updTile_ports (s : State) (n : Nat) (f : Tile → Tile) : (s.updTile n f).ports = s.ports := rfl
@[simp] theorem State.updTile_pcie (s : State) (n : Nat) (f : Tile → Tile) : (s.updTile n f).pcie = s.pcie := rfl
@[simp] theorem State.updTile_log (s : State) (n : Nat) (f : Tile → Tile) : (s.updTile n f).log = s.log := rfl
@[simp] theorem State.updTile_foreman (s : State) (n : Nat) (f : Tile → Tile) : (s.updTile n f).foreman = s.foreman := rfl
@[simp] theorem State.updTile_pairs (s : State) (n : Nat) (f : Tile → Tile) : (s.updTile n f).pairs = s.pairs := rfl
@[simp] theorem State.updTile_eopen (s : State) (n : Nat) (f : Tile → Tile) : (s.updTile n f).eopen = s.eopen := rfl
@[simp] theorem State.updTile_ledger (s : State) (n : Nat) (f : Tile → Tile) : (s.updTile n f).ledger = s.ledger := rfl
@[simp] theorem State.updTile_sched (s : State) (n : Nat) (f : Tile → Tile) : (s.updTile n f).sched = s.sched := rfl
@[simp] theorem State.updTile_tiles (s : State) (n : Nat) (f : Tile → Tile) : (s.updTile n f).tiles = tblSet n (f (s.tile n)) s.tiles := rfl
@[simp] theorem State.updTile_dram (s : State) (n : Nat) (f : Tile → Tile) : (s.updTile n f).dram = s.dram := rfl
@[simp] theorem State.updTile_assayer (s : State) (n : Nat) (f : Tile → Tile) : (s.updTile n f).assayer = s.assayer := rfl
@[simp] theorem State.updTile_fabric (s : State) (n : Nat) (f : Tile → Tile) : (s.updTile n f).fabric = s.fabric := rfl
@[simp] theorem State.updTile_rumbes (s : State) (n : Nat) (f : Tile → Tile) : (s.updTile n f).rumbes = s.rumbes := rfl
@[simp] theorem State.updTile_at_rumbe (s : State) (n : Nat) (f : Tile → Tile) (d : Dev) : (s.updTile n f).rumbe d = s.rumbe d := rfl
@[simp] theorem State.updTile_at_port (s : State) (n : Nat) (f : Tile → Tile) (k : Nat) : (s.updTile n f).port k = s.port k := rfl
@[simp] theorem State.updTile_at_pair (s : State) (n : Nat) (f : Tile → Tile) (k : Nat) : (s.updTile n f).pair k = s.pair k := rfl
@[simp] theorem State.updTile_at_bench (s : State) (n : Nat) (f : Tile → Tile) (k : Nat) : (s.updTile n f).bench k = s.bench k := rfl
@[simp] theorem State.updTile_at_stream (s : State) (n : Nat) (f : Tile → Tile) (k : Nat) : (s.updTile n f).stream k = s.stream k := rfl
@[simp] theorem State.updTile_at_link (s : State) (n : Nat) (f : Tile → Tile) (k : Nat) : (s.updTile n f).link k = s.link k := rfl

/-! ### updRun -/

@[simp] theorem updRun_pending (s : State) (n : Nat) (f : Run → Run) : (updRun s n f).pending = s.pending := rfl
@[simp] theorem updRun_now (s : State) (n : Nat) (f : Run → Run) : (updRun s n f).now = s.now := rfl
@[simp] theorem updRun_free (s : State) (n : Nat) (f : Run → Run) : (updRun s n f).free = s.free := rfl
@[simp] theorem updRun_out (s : State) (n : Nat) (f : Run → Run) : (updRun s n f).out = s.out := rfl
@[simp] theorem updRun_sys (s : State) (n : Nat) (f : Run → Run) : (updRun s n f).sys = s.sys := rfl
@[simp] theorem updRun_ka (s : State) (n : Nat) (f : Run → Run) : (updRun s n f).ka = s.ka := rfl
@[simp] theorem updRun_flash (s : State) (n : Nat) (f : Run → Run) : (updRun s n f).flash = s.flash := rfl
@[simp] theorem updRun_journal (s : State) (n : Nat) (f : Run → Run) : (updRun s n f).journal = s.journal := rfl
@[simp] theorem updRun_host (s : State) (n : Nat) (f : Run → Run) : (updRun s n f).host = s.host := rfl
@[simp] theorem updRun_ports (s : State) (n : Nat) (f : Run → Run) : (updRun s n f).ports = s.ports := rfl
@[simp] theorem updRun_pcie (s : State) (n : Nat) (f : Run → Run) : (updRun s n f).pcie = s.pcie := rfl
@[simp] theorem updRun_log (s : State) (n : Nat) (f : Run → Run) : (updRun s n f).log = s.log := rfl
@[simp] theorem updRun_foreman (s : State) (n : Nat) (f : Run → Run) : (updRun s n f).foreman = s.foreman := rfl
@[simp] theorem updRun_pairs (s : State) (n : Nat) (f : Run → Run) : (updRun s n f).pairs = s.pairs := rfl
@[simp] theorem updRun_eopen (s : State) (n : Nat) (f : Run → Run) : (updRun s n f).eopen = s.eopen := rfl
@[simp] theorem updRun_ledger (s : State) (n : Nat) (f : Run → Run) : (updRun s n f).ledger = s.ledger := rfl
@[simp] theorem updRun_sched (s : State) (n : Nat) (f : Run → Run) : (updRun s n f).sched = s.sched := rfl
@[simp] theorem updRun_tiles (s : State) (n : Nat) (f : Run → Run) : (updRun s n f).tiles = tblSet n { s.tile n with run := (s.tile n).run.map f } s.tiles := rfl
@[simp] theorem updRun_dram (s : State) (n : Nat) (f : Run → Run) : (updRun s n f).dram = s.dram := rfl
@[simp] theorem updRun_assayer (s : State) (n : Nat) (f : Run → Run) : (updRun s n f).assayer = s.assayer := rfl
@[simp] theorem updRun_fabric (s : State) (n : Nat) (f : Run → Run) : (updRun s n f).fabric = s.fabric := rfl
@[simp] theorem updRun_rumbes (s : State) (n : Nat) (f : Run → Run) : (updRun s n f).rumbes = s.rumbes := rfl
@[simp] theorem updRun_at_rumbe (s : State) (n : Nat) (f : Run → Run) (d : Dev) : (updRun s n f).rumbe d = s.rumbe d := rfl
@[simp] theorem updRun_at_port (s : State) (n : Nat) (f : Run → Run) (k : Nat) : (updRun s n f).port k = s.port k := rfl
@[simp] theorem updRun_at_pair (s : State) (n : Nat) (f : Run → Run) (k : Nat) : (updRun s n f).pair k = s.pair k := rfl
@[simp] theorem updRun_at_bench (s : State) (n : Nat) (f : Run → Run) (k : Nat) : (updRun s n f).bench k = s.bench k := rfl
@[simp] theorem updRun_at_stream (s : State) (n : Nat) (f : Run → Run) (k : Nat) : (updRun s n f).stream k = s.stream k := rfl
@[simp] theorem updRun_at_link (s : State) (n : Nat) (f : Run → Run) (k : Nat) : (updRun s n f).link k = s.link k := rfl

/-! ### State.updFab -/

@[simp] theorem State.updFab_pending (s : State) (f : Fabric → Fabric) : (s.updFab f).pending = s.pending := rfl
@[simp] theorem State.updFab_now (s : State) (f : Fabric → Fabric) : (s.updFab f).now = s.now := rfl
@[simp] theorem State.updFab_free (s : State) (f : Fabric → Fabric) : (s.updFab f).free = s.free := rfl
@[simp] theorem State.updFab_out (s : State) (f : Fabric → Fabric) : (s.updFab f).out = s.out := rfl
@[simp] theorem State.updFab_sys (s : State) (f : Fabric → Fabric) : (s.updFab f).sys = s.sys := rfl
@[simp] theorem State.updFab_ka (s : State) (f : Fabric → Fabric) : (s.updFab f).ka = s.ka := rfl
@[simp] theorem State.updFab_flash (s : State) (f : Fabric → Fabric) : (s.updFab f).flash = s.flash := rfl
@[simp] theorem State.updFab_journal (s : State) (f : Fabric → Fabric) : (s.updFab f).journal = s.journal := rfl
@[simp] theorem State.updFab_host (s : State) (f : Fabric → Fabric) : (s.updFab f).host = s.host := rfl
@[simp] theorem State.updFab_ports (s : State) (f : Fabric → Fabric) : (s.updFab f).ports = s.ports := rfl
@[simp] theorem State.updFab_pcie (s : State) (f : Fabric → Fabric) : (s.updFab f).pcie = s.pcie := rfl
@[simp] theorem State.updFab_log (s : State) (f : Fabric → Fabric) : (s.updFab f).log = s.log := rfl
@[simp] theorem State.updFab_foreman (s : State) (f : Fabric → Fabric) : (s.updFab f).foreman = s.foreman := rfl
@[simp] theorem State.updFab_pairs (s : State) (f : Fabric → Fabric) : (s.updFab f).pairs = s.pairs := rfl
@[simp] theorem State.updFab_eopen (s : State) (f : Fabric → Fabric) : (s.updFab f).eopen = s.eopen := rfl
@[simp] theorem State.updFab_ledger (s : State) (f : Fabric → Fabric) : (s.updFab f).ledger = s.ledger := rfl
@[simp] theorem State.updFab_sched (s : State) (f : Fabric → Fabric) : (s.updFab f).sched = s.sched := rfl
@[simp] theorem State.updFab_tiles (s : State) (f : Fabric → Fabric) : (s.updFab f).tiles = s.tiles := rfl
@[simp] theorem State.updFab_dram (s : State) (f : Fabric → Fabric) : (s.updFab f).dram = s.dram := rfl
@[simp] theorem State.updFab_assayer (s : State) (f : Fabric → Fabric) : (s.updFab f).assayer = s.assayer := rfl
@[simp] theorem State.updFab_fabric (s : State) (f : Fabric → Fabric) : (s.updFab f).fabric = f s.fabric := rfl
@[simp] theorem State.updFab_rumbes (s : State) (f : Fabric → Fabric) : (s.updFab f).rumbes = s.rumbes := rfl
@[simp] theorem State.updFab_at_rumbe (s : State) (f : Fabric → Fabric) (d : Dev) : (s.updFab f).rumbe d = s.rumbe d := rfl
@[simp] theorem State.updFab_at_port (s : State) (f : Fabric → Fabric) (k : Nat) : (s.updFab f).port k = s.port k := rfl
@[simp] theorem State.updFab_at_pair (s : State) (f : Fabric → Fabric) (k : Nat) : (s.updFab f).pair k = s.pair k := rfl
@[simp] theorem State.updFab_at_bench (s : State) (f : Fabric → Fabric) (k : Nat) : (s.updFab f).bench k = s.bench k := rfl
@[simp] theorem State.updFab_at_stream (s : State) (f : Fabric → Fabric) (k : Nat) : (s.updFab f).stream k = s.stream k := rfl
@[simp] theorem State.updFab_at_tile (s : State) (f : Fabric → Fabric) (k : Nat) : (s.updFab f).tile k = s.tile k := rfl

/-! ### State.updLink -/

@[simp] theorem State.updLink_pending (s : State) (n : Nat) (f : Link → Link) : (s.updLink n f).pending = s.pending := rfl
@[simp] theorem State.updLink_now (s : State) (n : Nat) (f : Link → Link) : (s.updLink n f).now = s.now := rfl
@[simp] theorem State.updLink_free (s : State) (n : Nat) (f : Link → Link) : (s.updLink n f).free = s.free := rfl
@[simp] theorem State.updLink_out (s : State) (n : Nat) (f : Link → Link) : (s.updLink n f).out = s.out := rfl
@[simp] theorem State.updLink_sys (s : State) (n : Nat) (f : Link → Link) : (s.updLink n f).sys = s.sys := rfl
@[simp] theorem State.updLink_ka (s : State) (n : Nat) (f : Link → Link) : (s.updLink n f).ka = s.ka := rfl
@[simp] theorem State.updLink_flash (s : State) (n : Nat) (f : Link → Link) : (s.updLink n f).flash = s.flash := rfl
@[simp] theorem State.updLink_journal (s : State) (n : Nat) (f : Link → Link) : (s.updLink n f).journal = s.journal := rfl
@[simp] theorem State.updLink_host (s : State) (n : Nat) (f : Link → Link) : (s.updLink n f).host = s.host := rfl
@[simp] theorem State.updLink_ports (s : State) (n : Nat) (f : Link → Link) : (s.updLink n f).ports = s.ports := rfl
@[simp] theorem State.updLink_pcie (s : State) (n : Nat) (f : Link → Link) : (s.updLink n f).pcie = s.pcie := rfl
@[simp] theorem State.updLink_log (s : State) (n : Nat) (f : Link → Link) : (s.updLink n f).log = s.log := rfl
@[simp] theorem State.updLink_foreman (s : State) (n : Nat) (f : Link → Link) : (s.updLink n f).foreman = s.foreman := rfl
@[simp] theorem State.updLink_pairs (s : State) (n : Nat) (f : Link → Link) : (s.updLink n f).pairs = s.pairs := rfl
@[simp] theorem State.updLink_eopen (s : State) (n : Nat) (f : Link → Link) : (s.updLink n f).eopen = s.eopen := rfl
@[simp] theorem State.updLink_ledger (s : State) (n : Nat) (f : Link → Link) : (s.updLink n f).ledger = s.ledger := rfl
@[simp] theorem State.updLink_sched (s : State) (n : Nat) (f : Link → Link) : (s.updLink n f).sched = s.sched := rfl
@[simp] theorem State.updLink_tiles (s : State) (n : Nat) (f : Link → Link) : (s.updLink n f).tiles = s.tiles := rfl
@[simp] theorem State.updLink_dram (s : State) (n : Nat) (f : Link → Link) : (s.updLink n f).dram = s.dram := rfl
@[simp] theorem State.updLink_assayer (s : State) (n : Nat) (f : Link → Link) : (s.updLink n f).assayer = s.assayer := rfl
@[simp] theorem State.updLink_fabric (s : State) (n : Nat) (f : Link → Link) : (s.updLink n f).fabric = { s.fabric with links := modAt s.fabric.links n f } := rfl
@[simp] theorem State.updLink_rumbes (s : State) (n : Nat) (f : Link → Link) : (s.updLink n f).rumbes = s.rumbes := rfl
@[simp] theorem State.updLink_at_rumbe (s : State) (n : Nat) (f : Link → Link) (d : Dev) : (s.updLink n f).rumbe d = s.rumbe d := rfl
@[simp] theorem State.updLink_at_port (s : State) (n : Nat) (f : Link → Link) (k : Nat) : (s.updLink n f).port k = s.port k := rfl
@[simp] theorem State.updLink_at_pair (s : State) (n : Nat) (f : Link → Link) (k : Nat) : (s.updLink n f).pair k = s.pair k := rfl
@[simp] theorem State.updLink_at_bench (s : State) (n : Nat) (f : Link → Link) (k : Nat) : (s.updLink n f).bench k = s.bench k := rfl
@[simp] theorem State.updLink_at_stream (s : State) (n : Nat) (f : Link → Link) (k : Nat) : (s.updLink n f).stream k = s.stream k := rfl
@[simp] theorem State.updLink_at_tile (s : State) (n : Nat) (f : Link → Link) (k : Nat) : (s.updLink n f).tile k = s.tile k := rfl

/-! ### updStr -/

@[simp] theorem updStr_pending (s : State) (n : Nat) (f : LString → LString) : (updStr s n f).pending = s.pending := rfl
@[simp] theorem updStr_now (s : State) (n : Nat) (f : LString → LString) : (updStr s n f).now = s.now := rfl
@[simp] theorem updStr_free (s : State) (n : Nat) (f : LString → LString) : (updStr s n f).free = s.free := rfl
@[simp] theorem updStr_out (s : State) (n : Nat) (f : LString → LString) : (updStr s n f).out = s.out := rfl
@[simp] theorem updStr_sys (s : State) (n : Nat) (f : LString → LString) : (updStr s n f).sys = s.sys := rfl
@[simp] theorem updStr_ka (s : State) (n : Nat) (f : LString → LString) : (updStr s n f).ka = s.ka := rfl
@[simp] theorem updStr_flash (s : State) (n : Nat) (f : LString → LString) : (updStr s n f).flash = s.flash := rfl
@[simp] theorem updStr_journal (s : State) (n : Nat) (f : LString → LString) : (updStr s n f).journal = s.journal := rfl
@[simp] theorem updStr_host (s : State) (n : Nat) (f : LString → LString) : (updStr s n f).host = s.host := rfl
@[simp] theorem updStr_ports (s : State) (n : Nat) (f : LString → LString) : (updStr s n f).ports = s.ports := rfl
@[simp] theorem updStr_pcie (s : State) (n : Nat) (f : LString → LString) : (updStr s n f).pcie = s.pcie := rfl
@[simp] theorem updStr_log (s : State) (n : Nat) (f : LString → LString) : (updStr s n f).log = s.log := rfl
@[simp] theorem updStr_foreman (s : State) (n : Nat) (f : LString → LString) : (updStr s n f).foreman = s.foreman := rfl
@[simp] theorem updStr_pairs (s : State) (n : Nat) (f : LString → LString) : (updStr s n f).pairs = s.pairs := rfl
@[simp] theorem updStr_eopen (s : State) (n : Nat) (f : LString → LString) : (updStr s n f).eopen = s.eopen := rfl
@[simp] theorem updStr_ledger (s : State) (n : Nat) (f : LString → LString) : (updStr s n f).ledger = { s.ledger with str := tblSet n (f (lstr s n)) s.ledger.str } := rfl
@[simp] theorem updStr_sched (s : State) (n : Nat) (f : LString → LString) : (updStr s n f).sched = s.sched := rfl
@[simp] theorem updStr_tiles (s : State) (n : Nat) (f : LString → LString) : (updStr s n f).tiles = s.tiles := rfl
@[simp] theorem updStr_dram (s : State) (n : Nat) (f : LString → LString) : (updStr s n f).dram = s.dram := rfl
@[simp] theorem updStr_assayer (s : State) (n : Nat) (f : LString → LString) : (updStr s n f).assayer = s.assayer := rfl
@[simp] theorem updStr_fabric (s : State) (n : Nat) (f : LString → LString) : (updStr s n f).fabric = s.fabric := rfl
@[simp] theorem updStr_rumbes (s : State) (n : Nat) (f : LString → LString) : (updStr s n f).rumbes = s.rumbes := rfl
@[simp] theorem updStr_at_rumbe (s : State) (n : Nat) (f : LString → LString) (d : Dev) : (updStr s n f).rumbe d = s.rumbe d := rfl
@[simp] theorem updStr_at_port (s : State) (n : Nat) (f : LString → LString) (k : Nat) : (updStr s n f).port k = s.port k := rfl
@[simp] theorem updStr_at_pair (s : State) (n : Nat) (f : LString → LString) (k : Nat) : (updStr s n f).pair k = s.pair k := rfl
@[simp] theorem updStr_at_bench (s : State) (n : Nat) (f : LString → LString) (k : Nat) : (updStr s n f).bench k = s.bench k := rfl
@[simp] theorem updStr_at_stream (s : State) (n : Nat) (f : LString → LString) (k : Nat) : (updStr s n f).stream k = s.stream k := rfl
@[simp] theorem updStr_at_tile (s : State) (n : Nat) (f : LString → LString) (k : Nat) : (updStr s n f).tile k = s.tile k := rfl
@[simp] theorem updStr_at_link (s : State) (n : Nat) (f : LString → LString) (k : Nat) : (updStr s n f).link k = s.link k := rfl

/-! ### updCell -/

@[simp] theorem updCell_pending (s : State) (n : Nat) (f : LCell → LCell) : (updCell s n f).pending = s.pending := rfl
@[simp] theorem updCell_now (s : State) (n : Nat) (f : LCell → LCell) : (updCell s n f).now = s.now := rfl
@[simp] theorem updCell_free (s : State) (n : Nat) (f : LCell → LCell) : (updCell s n f).free = s.free := rfl
@[simp] theorem updCell_out (s : State) (n : Nat) (f : LCell → LCell) : (updCell s n f).out = s.out := rfl
@[simp] theorem updCell_sys (s : State) (n : Nat) (f : LCell → LCell) : (updCell s n f).sys = s.sys := rfl
@[simp] theorem updCell_ka (s : State) (n : Nat) (f : LCell → LCell) : (updCell s n f).ka = s.ka := rfl
@[simp] theorem updCell_flash (s : State) (n : Nat) (f : LCell → LCell) : (updCell s n f).flash = s.flash := rfl
@[simp] theorem updCell_journal (s : State) (n : Nat) (f : LCell → LCell) : (updCell s n f).journal = s.journal := rfl
@[simp] theorem updCell_host (s : State) (n : Nat) (f : LCell → LCell) : (updCell s n f).host = s.host := rfl
@[simp] theorem updCell_ports (s : State) (n : Nat) (f : LCell → LCell) : (updCell s n f).ports = s.ports := rfl
@[simp] theorem updCell_pcie (s : State) (n : Nat) (f : LCell → LCell) : (updCell s n f).pcie = s.pcie := rfl
@[simp] theorem updCell_log (s : State) (n : Nat) (f : LCell → LCell) : (updCell s n f).log = s.log := rfl
@[simp] theorem updCell_foreman (s : State) (n : Nat) (f : LCell → LCell) : (updCell s n f).foreman = s.foreman := rfl
@[simp] theorem updCell_pairs (s : State) (n : Nat) (f : LCell → LCell) : (updCell s n f).pairs = s.pairs := rfl
@[simp] theorem updCell_eopen (s : State) (n : Nat) (f : LCell → LCell) : (updCell s n f).eopen = s.eopen := rfl
@[simp] theorem updCell_ledger (s : State) (n : Nat) (f : LCell → LCell) : (updCell s n f).ledger = { s.ledger with cell := tblSet n (f (lcell s n)) s.ledger.cell } := rfl
@[simp] theorem updCell_sched (s : State) (n : Nat) (f : LCell → LCell) : (updCell s n f).sched = s.sched := rfl
@[simp] theorem updCell_tiles (s : State) (n : Nat) (f : LCell → LCell) : (updCell s n f).tiles = s.tiles := rfl
@[simp] theorem updCell_dram (s : State) (n : Nat) (f : LCell → LCell) : (updCell s n f).dram = s.dram := rfl
@[simp] theorem updCell_assayer (s : State) (n : Nat) (f : LCell → LCell) : (updCell s n f).assayer = s.assayer := rfl
@[simp] theorem updCell_fabric (s : State) (n : Nat) (f : LCell → LCell) : (updCell s n f).fabric = s.fabric := rfl
@[simp] theorem updCell_rumbes (s : State) (n : Nat) (f : LCell → LCell) : (updCell s n f).rumbes = s.rumbes := rfl
@[simp] theorem updCell_at_rumbe (s : State) (n : Nat) (f : LCell → LCell) (d : Dev) : (updCell s n f).rumbe d = s.rumbe d := rfl
@[simp] theorem updCell_at_port (s : State) (n : Nat) (f : LCell → LCell) (k : Nat) : (updCell s n f).port k = s.port k := rfl
@[simp] theorem updCell_at_pair (s : State) (n : Nat) (f : LCell → LCell) (k : Nat) : (updCell s n f).pair k = s.pair k := rfl
@[simp] theorem updCell_at_bench (s : State) (n : Nat) (f : LCell → LCell) (k : Nat) : (updCell s n f).bench k = s.bench k := rfl
@[simp] theorem updCell_at_stream (s : State) (n : Nat) (f : LCell → LCell) (k : Nat) : (updCell s n f).stream k = s.stream k := rfl
@[simp] theorem updCell_at_tile (s : State) (n : Nat) (f : LCell → LCell) (k : Nat) : (updCell s n f).tile k = s.tile k := rfl
@[simp] theorem updCell_at_link (s : State) (n : Nat) (f : LCell → LCell) (k : Nat) : (updCell s n f).link k = s.link k := rfl

/-! ### updMem -/

@[simp] theorem updMem_pending (s : State) (n : Nat) (f : Member → Member) : (updMem s n f).pending = s.pending := rfl
@[simp] theorem updMem_now (s : State) (n : Nat) (f : Member → Member) : (updMem s n f).now = s.now := rfl
@[simp] theorem updMem_free (s : State) (n : Nat) (f : Member → Member) : (updMem s n f).free = s.free := rfl
@[simp] theorem updMem_out (s : State) (n : Nat) (f : Member → Member) : (updMem s n f).out = s.out := rfl
@[simp] theorem updMem_sys (s : State) (n : Nat) (f : Member → Member) : (updMem s n f).sys = s.sys := rfl
@[simp] theorem updMem_ka (s : State) (n : Nat) (f : Member → Member) : (updMem s n f).ka = s.ka := rfl
@[simp] theorem updMem_flash (s : State) (n : Nat) (f : Member → Member) : (updMem s n f).flash = s.flash := rfl
@[simp] theorem updMem_journal (s : State) (n : Nat) (f : Member → Member) : (updMem s n f).journal = s.journal := rfl
@[simp] theorem updMem_host (s : State) (n : Nat) (f : Member → Member) : (updMem s n f).host = s.host := rfl
@[simp] theorem updMem_ports (s : State) (n : Nat) (f : Member → Member) : (updMem s n f).ports = s.ports := rfl
@[simp] theorem updMem_pcie (s : State) (n : Nat) (f : Member → Member) : (updMem s n f).pcie = s.pcie := rfl
@[simp] theorem updMem_log (s : State) (n : Nat) (f : Member → Member) : (updMem s n f).log = s.log := rfl
@[simp] theorem updMem_foreman (s : State) (n : Nat) (f : Member → Member) : (updMem s n f).foreman = s.foreman := rfl
@[simp] theorem updMem_pairs (s : State) (n : Nat) (f : Member → Member) : (updMem s n f).pairs = s.pairs := rfl
@[simp] theorem updMem_eopen (s : State) (n : Nat) (f : Member → Member) : (updMem s n f).eopen = s.eopen := rfl
@[simp] theorem updMem_ledger (s : State) (n : Nat) (f : Member → Member) : (updMem s n f).ledger = { s.ledger with mem := tblSet n (f (lmem s n)) s.ledger.mem } := rfl
@[simp] theorem updMem_sched (s : State) (n : Nat) (f : Member → Member) : (updMem s n f).sched = s.sched := rfl
@[simp] theorem updMem_tiles (s : State) (n : Nat) (f : Member → Member) : (updMem s n f).tiles = s.tiles := rfl
@[simp] theorem updMem_dram (s : State) (n : Nat) (f : Member → Member) : (updMem s n f).dram = s.dram := rfl
@[simp] theorem updMem_assayer (s : State) (n : Nat) (f : Member → Member) : (updMem s n f).assayer = s.assayer := rfl
@[simp] theorem updMem_fabric (s : State) (n : Nat) (f : Member → Member) : (updMem s n f).fabric = s.fabric := rfl
@[simp] theorem updMem_rumbes (s : State) (n : Nat) (f : Member → Member) : (updMem s n f).rumbes = s.rumbes := rfl
@[simp] theorem updMem_at_rumbe (s : State) (n : Nat) (f : Member → Member) (d : Dev) : (updMem s n f).rumbe d = s.rumbe d := rfl
@[simp] theorem updMem_at_port (s : State) (n : Nat) (f : Member → Member) (k : Nat) : (updMem s n f).port k = s.port k := rfl
@[simp] theorem updMem_at_pair (s : State) (n : Nat) (f : Member → Member) (k : Nat) : (updMem s n f).pair k = s.pair k := rfl
@[simp] theorem updMem_at_bench (s : State) (n : Nat) (f : Member → Member) (k : Nat) : (updMem s n f).bench k = s.bench k := rfl
@[simp] theorem updMem_at_stream (s : State) (n : Nat) (f : Member → Member) (k : Nat) : (updMem s n f).stream k = s.stream k := rfl
@[simp] theorem updMem_at_tile (s : State) (n : Nat) (f : Member → Member) (k : Nat) : (updMem s n f).tile k = s.tile k := rfl
@[simp] theorem updMem_at_link (s : State) (n : Nat) (f : Member → Member) (k : Nat) : (updMem s n f).link k = s.link k := rfl

/-! ### updAcell -/

@[simp] theorem updAcell_pending (s : State) (n : Nat) (f : AssayCell → AssayCell) : (updAcell s n f).pending = s.pending := rfl
@[simp] theorem updAcell_now (s : State) (n : Nat) (f : AssayCell → AssayCell) : (updAcell s n f).now = s.now := rfl
@[simp] theorem updAcell_free (s : State) (n : Nat) (f : AssayCell → AssayCell) : (updAcell s n f).free = s.free := rfl
@[simp] theorem updAcell_out (s : State) (n : Nat) (f : AssayCell → AssayCell) : (updAcell s n f).out = s.out := rfl
@[simp] theorem updAcell_sys (s : State) (n : Nat) (f : AssayCell → AssayCell) : (updAcell s n f).sys = s.sys := rfl
@[simp] theorem updAcell_ka (s : State) (n : Nat) (f : AssayCell → AssayCell) : (updAcell s n f).ka = s.ka := rfl
@[simp] theorem updAcell_flash (s : State) (n : Nat) (f : AssayCell → AssayCell) : (updAcell s n f).flash = s.flash := rfl
@[simp] theorem updAcell_journal (s : State) (n : Nat) (f : AssayCell → AssayCell) : (updAcell s n f).journal = s.journal := rfl
@[simp] theorem updAcell_host (s : State) (n : Nat) (f : AssayCell → AssayCell) : (updAcell s n f).host = s.host := rfl
@[simp] theorem updAcell_ports (s : State) (n : Nat) (f : AssayCell → AssayCell) : (updAcell s n f).ports = s.ports := rfl
@[simp] theorem updAcell_pcie (s : State) (n : Nat) (f : AssayCell → AssayCell) : (updAcell s n f).pcie = s.pcie := rfl
@[simp] theorem updAcell_log (s : State) (n : Nat) (f : AssayCell → AssayCell) : (updAcell s n f).log = s.log := rfl
@[simp] theorem updAcell_foreman (s : State) (n : Nat) (f : AssayCell → AssayCell) : (updAcell s n f).foreman = s.foreman := rfl
@[simp] theorem updAcell_pairs (s : State) (n : Nat) (f : AssayCell → AssayCell) : (updAcell s n f).pairs = s.pairs := rfl
@[simp] theorem updAcell_eopen (s : State) (n : Nat) (f : AssayCell → AssayCell) : (updAcell s n f).eopen = s.eopen := rfl
@[simp] theorem updAcell_ledger (s : State) (n : Nat) (f : AssayCell → AssayCell) : (updAcell s n f).ledger = s.ledger := rfl
@[simp] theorem updAcell_sched (s : State) (n : Nat) (f : AssayCell → AssayCell) : (updAcell s n f).sched = s.sched := rfl
@[simp] theorem updAcell_tiles (s : State) (n : Nat) (f : AssayCell → AssayCell) : (updAcell s n f).tiles = s.tiles := rfl
@[simp] theorem updAcell_dram (s : State) (n : Nat) (f : AssayCell → AssayCell) : (updAcell s n f).dram = s.dram := rfl
@[simp] theorem updAcell_assayer (s : State) (n : Nat) (f : AssayCell → AssayCell) : (updAcell s n f).assayer = { s.assayer with cells := tblSet n (f (acell s n)) s.assayer.cells } := rfl
@[simp] theorem updAcell_fabric (s : State) (n : Nat) (f : AssayCell → AssayCell) : (updAcell s n f).fabric = s.fabric := rfl
@[simp] theorem updAcell_rumbes (s : State) (n : Nat) (f : AssayCell → AssayCell) : (updAcell s n f).rumbes = s.rumbes := rfl
@[simp] theorem updAcell_at_rumbe (s : State) (n : Nat) (f : AssayCell → AssayCell) (d : Dev) : (updAcell s n f).rumbe d = s.rumbe d := rfl
@[simp] theorem updAcell_at_port (s : State) (n : Nat) (f : AssayCell → AssayCell) (k : Nat) : (updAcell s n f).port k = s.port k := rfl
@[simp] theorem updAcell_at_pair (s : State) (n : Nat) (f : AssayCell → AssayCell) (k : Nat) : (updAcell s n f).pair k = s.pair k := rfl
@[simp] theorem updAcell_at_bench (s : State) (n : Nat) (f : AssayCell → AssayCell) (k : Nat) : (updAcell s n f).bench k = s.bench k := rfl
@[simp] theorem updAcell_at_stream (s : State) (n : Nat) (f : AssayCell → AssayCell) (k : Nat) : (updAcell s n f).stream k = s.stream k := rfl
@[simp] theorem updAcell_at_tile (s : State) (n : Nat) (f : AssayCell → AssayCell) (k : Nat) : (updAcell s n f).tile k = s.tile k := rfl
@[simp] theorem updAcell_at_link (s : State) (n : Nat) (f : AssayCell → AssayCell) (k : Nat) : (updAcell s n f).link k = s.link k := rfl

/-! ### updChan -/

@[simp] theorem updChan_pending (s : State) (n : Nat) (f : RChan → RChan) : (updChan s n f).pending = s.pending := rfl
@[simp] theorem updChan_now (s : State) (n : Nat) (f : RChan → RChan) : (updChan s n f).now = s.now := rfl
@[simp] theorem updChan_free (s : State) (n : Nat) (f : RChan → RChan) : (updChan s n f).free = s.free := rfl
@[simp] theorem updChan_out (s : State) (n : Nat) (f : RChan → RChan) : (updChan s n f).out = s.out := rfl
@[simp] theorem updChan_sys (s : State) (n : Nat) (f : RChan → RChan) : (updChan s n f).sys = s.sys := rfl
@[simp] theorem updChan_ka (s : State) (n : Nat) (f : RChan → RChan) : (updChan s n f).ka = s.ka := rfl
@[simp] theorem updChan_flash (s : State) (n : Nat) (f : RChan → RChan) : (updChan s n f).flash = s.flash := rfl
@[simp] theorem updChan_journal (s : State) (n : Nat) (f : RChan → RChan) : (updChan s n f).journal = s.journal := rfl
@[simp] theorem updChan_host (s : State) (n : Nat) (f : RChan → RChan) : (updChan s n f).host = s.host := rfl
@[simp] theorem updChan_ports (s : State) (n : Nat) (f : RChan → RChan) : (updChan s n f).ports = s.ports := rfl
@[simp] theorem updChan_pcie (s : State) (n : Nat) (f : RChan → RChan) : (updChan s n f).pcie = s.pcie := rfl
@[simp] theorem updChan_log (s : State) (n : Nat) (f : RChan → RChan) : (updChan s n f).log = s.log := rfl
@[simp] theorem updChan_foreman (s : State) (n : Nat) (f : RChan → RChan) : (updChan s n f).foreman = s.foreman := rfl
@[simp] theorem updChan_pairs (s : State) (n : Nat) (f : RChan → RChan) : (updChan s n f).pairs = s.pairs := rfl
@[simp] theorem updChan_eopen (s : State) (n : Nat) (f : RChan → RChan) : (updChan s n f).eopen = s.eopen := rfl
@[simp] theorem updChan_ledger (s : State) (n : Nat) (f : RChan → RChan) : (updChan s n f).ledger = s.ledger := rfl
@[simp] theorem updChan_sched (s : State) (n : Nat) (f : RChan → RChan) : (updChan s n f).sched = s.sched := rfl
@[simp] theorem updChan_tiles (s : State) (n : Nat) (f : RChan → RChan) : (updChan s n f).tiles = s.tiles := rfl
@[simp] theorem updChan_dram (s : State) (n : Nat) (f : RChan → RChan) : (updChan s n f).dram = s.dram := rfl
@[simp] theorem updChan_assayer (s : State) (n : Nat) (f : RChan → RChan) : (updChan s n f).assayer = { s.assayer with chans := tblSet n (f (rchan s n)) s.assayer.chans } := rfl
@[simp] theorem updChan_fabric (s : State) (n : Nat) (f : RChan → RChan) : (updChan s n f).fabric = s.fabric := rfl
@[simp] theorem updChan_rumbes (s : State) (n : Nat) (f : RChan → RChan) : (updChan s n f).rumbes = s.rumbes := rfl
@[simp] theorem updChan_at_rumbe (s : State) (n : Nat) (f : RChan → RChan) (d : Dev) : (updChan s n f).rumbe d = s.rumbe d := rfl
@[simp] theorem updChan_at_port (s : State) (n : Nat) (f : RChan → RChan) (k : Nat) : (updChan s n f).port k = s.port k := rfl
@[simp] theorem updChan_at_pair (s : State) (n : Nat) (f : RChan → RChan) (k : Nat) : (updChan s n f).pair k = s.pair k := rfl
@[simp] theorem updChan_at_bench (s : State) (n : Nat) (f : RChan → RChan) (k : Nat) : (updChan s n f).bench k = s.bench k := rfl
@[simp] theorem updChan_at_stream (s : State) (n : Nat) (f : RChan → RChan) (k : Nat) : (updChan s n f).stream k = s.stream k := rfl
@[simp] theorem updChan_at_tile (s : State) (n : Nat) (f : RChan → RChan) (k : Nat) : (updChan s n f).tile k = s.tile k := rfl
@[simp] theorem updChan_at_link (s : State) (n : Nat) (f : RChan → RChan) (k : Nat) : (updChan s n f).link k = s.link k := rfl

/-! ### Reading the entry that was updated, or another -/

@[simp] theorem State.updPort_port (s : State) (n : Nat) (f : TenantPort → TenantPort) : (s.updPort n f).port n = f (s.port n) := by
  simp [State.port, tblGet, tblFind?_tblSet]
theorem State.updPort_port_ne (s : State) (f : TenantPort → TenantPort) {n k : Nat} (h : k ≠ n) :
    (s.updPort n f).port k = s.port k := by
  simp [State.port, tblGet, tblFind?_tblSet_ne h]
@[simp] theorem State.portSet_port (s : State) (n : Nat) (f : TenantPort → TenantPort) (g : JustSet → JustSet) :
    (s.portSet n f g).port n = { f (s.port n) with new := g (setNow s.now (s.port n)) } := by
  simp [State.portSet]
@[simp] theorem State.updTile_tile (s : State) (n : Nat) (f : Tile → Tile) : (s.updTile n f).tile n = f (s.tile n) := by
  simp [State.tile, tblGet, tblFind?_tblSet]
theorem State.updTile_tile_ne (s : State) (f : Tile → Tile) {n k : Nat} (h : k ≠ n) : (s.updTile n f).tile k = s.tile k := by
  simp [State.tile, tblGet, tblFind?_tblSet_ne h]
@[simp] theorem State.updStream_stream (s : State) (n : Nat) (f : Stream → Stream) :
    (s.updStream n f).stream n = f (s.stream n) := by
  simp [State.stream, tblGet, tblFind?_tblSet]
theorem State.updStream_stream_ne (s : State) (f : Stream → Stream) {n k : Nat} (h : k ≠ n) :
    (s.updStream n f).stream k = s.stream k := by
  simp [State.stream, tblGet, tblFind?_tblSet_ne h]
theorem State.updPair_pair (s : State) (n : Nat) (f : Pair → Pair) (h : n < s.pairs.length) :
    (s.updPair n f).pair n = f (s.pair n) := by
  simp [State.pair, modAt, h]
theorem State.updPair_pair_ne (s : State) (f : Pair → Pair) {n k : Nat} (h : k ≠ n) : (s.updPair n f).pair k = s.pair k := by
  simp [State.pair, modAt, Ne.symm h]
theorem State.updLink_link (s : State) (n : Nat) (f : Link → Link) (h : n < s.fabric.links.length) :
    (s.updLink n f).link n = f (s.link n) := by
  simp [State.link, modAt, h]
theorem State.updLink_link_ne (s : State) (f : Link → Link) {n k : Nat} (h : k ≠ n) : (s.updLink n f).link k = s.link k := by
  simp [State.link, modAt, Ne.symm h]
theorem State.updBench_bench (s : State) (n : Nat) (f : Bench → Bench) (h : n < s.sys.benches.length) :
    (s.updBench n f).bench n = f (s.bench n) := by
  simp [State.bench, modAt, h]
theorem State.updBench_bench_ne (s : State) (f : Bench → Bench) {n k : Nat} (h : k ≠ n) :
    (s.updBench n f).bench k = s.bench k := by
  simp [State.bench, modAt, Ne.symm h]

/-! ### One Rumbe and the context of its step -/

@[simp] theorem RCtx.upd_dev (c : RCtx) (f : Rumbe → Rumbe) : (c.upd f).dev = c.dev := rfl
@[simp] theorem RCtx.upd_now (c : RCtx) (f : Rumbe → Rumbe) : (c.upd f).now = c.now := rfl
@[simp] theorem RCtx.upd_r (c : RCtx) (f : Rumbe → Rumbe) : (c.upd f).r = f c.r := rfl
@[simp] theorem RCtx.upd_out (c : RCtx) (f : Rumbe → Rumbe) : (c.upd f).out = c.out := rfl
@[simp] theorem RCtx.emit_dev (c : RCtx) (x : Output) : (c.emit x).dev = c.dev := rfl
@[simp] theorem RCtx.emit_now (c : RCtx) (x : Output) : (c.emit x).now = c.now := rfl
@[simp] theorem RCtx.emit_r (c : RCtx) (x : Output) : (c.emit x).r = c.r := rfl
@[simp] theorem RCtx.emit_out (c : RCtx) (x : Output) : (c.emit x).out = c.out ++ [x] := rfl

/-- Numbers of distinct Rumbes are distinct (01 R18). -/
theorem devIndex_inj {d e : Dev} (h : devIndex d = devIndex e) : d = e := by
  obtain ⟨p, i⟩ := d; obtain ⟨q, j⟩ := e
  simp only [devIndex] at h
  have hp : p.val = q.val := by omega
  have hi : i.val = j.val := by omega
  have : p = q := Fin.ext hp
  have : i = j := Fin.ext hi
  subst_vars; rfl
/-- A step of the Rumbe at d does f to it, after time has moved on, and puts out what f puts out. -/
theorem onRumbe_eq (t : Nat) (d : Dev) (f : RCtx → RCtx) (s : State) :
    onRumbe t d f s = afterRumbe s t d (f (before s t d)) := rfl
@[simp] theorem afterRumbe_rumbe (s : State) (t : Nat) (d : Dev) (c : RCtx) : (afterRumbe s t d c).rumbe d = c.r := by
  simp [State.rumbe, afterRumbe, tblGet]
theorem afterRumbe_rumbe_ne (s : State) (t : Nat) {d e : Dev} (c : RCtx) (h : e ≠ d) :
    (afterRumbe s t d c).rumbe e = s.rumbe e := by
  have : devIndex e ≠ devIndex d := fun x => h (devIndex_inj x)
  simp [State.rumbe, afterRumbe, tblGet, tblFind?_tblSet_ne this]

@[simp] theorem onRumbe_pending (t : Nat) (d : Dev) (f : RCtx → RCtx) (s : State) : (onRumbe t d f s).pending = s.pending := rfl
@[simp] theorem onRumbe_free (t : Nat) (d : Dev) (f : RCtx → RCtx) (s : State) : (onRumbe t d f s).free = s.free := rfl
@[simp] theorem onRumbe_sys (t : Nat) (d : Dev) (f : RCtx → RCtx) (s : State) : (onRumbe t d f s).sys = s.sys := rfl
@[simp] theorem onRumbe_ka (t : Nat) (d : Dev) (f : RCtx → RCtx) (s : State) : (onRumbe t d f s).ka = s.ka := rfl
@[simp] theorem onRumbe_flash (t : Nat) (d : Dev) (f : RCtx → RCtx) (s : State) : (onRumbe t d f s).flash = s.flash := rfl
@[simp] theorem onRumbe_journal (t : Nat) (d : Dev) (f : RCtx → RCtx) (s : State) : (onRumbe t d f s).journal = s.journal := rfl
@[simp] theorem onRumbe_host (t : Nat) (d : Dev) (f : RCtx → RCtx) (s : State) : (onRumbe t d f s).host = s.host := rfl
@[simp] theorem onRumbe_ports (t : Nat) (d : Dev) (f : RCtx → RCtx) (s : State) : (onRumbe t d f s).ports = s.ports := rfl
@[simp] theorem onRumbe_pcie (t : Nat) (d : Dev) (f : RCtx → RCtx) (s : State) : (onRumbe t d f s).pcie = s.pcie := rfl
@[simp] theorem onRumbe_log (t : Nat) (d : Dev) (f : RCtx → RCtx) (s : State) : (onRumbe t d f s).log = s.log := rfl
@[simp] theorem onRumbe_foreman (t : Nat) (d : Dev) (f : RCtx → RCtx) (s : State) : (onRumbe t d f s).foreman = s.foreman := rfl
@[simp] theorem onRumbe_pairs (t : Nat) (d : Dev) (f : RCtx → RCtx) (s : State) : (onRumbe t d f s).pairs = s.pairs := rfl
@[simp] theorem onRumbe_eopen (t : Nat) (d : Dev) (f : RCtx → RCtx) (s : State) : (onRumbe t d f s).eopen = s.eopen := rfl
@[simp] theorem onRumbe_ledger (t : Nat) (d : Dev) (f : RCtx → RCtx) (s : State) : (onRumbe t d f s).ledger = s.ledger := rfl
@[simp] theorem onRumbe_sched (t : Nat) (d : Dev) (f : RCtx → RCtx) (s : State) : (onRumbe t d f s).sched = s.sched := rfl
@[simp] theorem onRumbe_tiles (t : Nat) (d : Dev) (f : RCtx → RCtx) (s : State) : (onRumbe t d f s).tiles = s.tiles := rfl
@[simp] theorem onRumbe_dram (t : Nat) (d : Dev) (f : RCtx → RCtx) (s : State) : (onRumbe t d f s).dram = s.dram := rfl
@[simp] theorem onRumbe_assayer (t : Nat) (d : Dev) (f : RCtx → RCtx) (s : State) : (onRumbe t d f s).assayer = s.assayer := rfl
@[simp] theorem onRumbe_fabric (t : Nat) (d : Dev) (f : RCtx → RCtx) (s : State) : (onRumbe t d f s).fabric = s.fabric := rfl

end Sys2Proof.Machine
end

