-- ==== Sys2Proof/Laws/Frames.lean ====
section
/-! SUPPORT. What each operation over the state leaves as it was: one lemma an operation, one conjunct for each field of State
that no path of it writes. -/

namespace Sys2Proof.Machine
@[simp] theorem State.ite_pending (c : Prop) [Decidable c] (a b : State) : (if c then a else b).pending = if c then a.pending else b.pending := apply_ite ..
@[simp] theorem State.ite_now (c : Prop) [Decidable c] (a b : State) : (if c then a else b).now = if c then a.now else b.now := apply_ite ..
@[simp] theorem State.ite_free (c : Prop) [Decidable c] (a b : State) : (if c then a else b).free = if c then a.free else b.free := apply_ite ..
@[simp] theorem State.ite_out (c : Prop) [Decidable c] (a b : State) : (if c then a else b).out = if c then a.out else b.out := apply_ite ..
@[simp] theorem State.ite_sys (c : Prop) [Decidable c] (a b : State) : (if c then a else b).sys = if c then a.sys else b.sys := apply_ite ..
@[simp] theorem State.ite_ka (c : Prop) [Decidable c] (a b : State) : (if c then a else b).ka = if c then a.ka else b.ka := apply_ite ..
@[simp] theorem State.ite_flash (c : Prop) [Decidable c] (a b : State) : (if c then a else b).flash = if c then a.flash else b.flash := apply_ite ..
@[simp] theorem State.ite_journal (c : Prop) [Decidable c] (a b : State) : (if c then a else b).journal = if c then a.journal else b.journal := apply_ite ..
@[simp] theorem State.ite_host (c : Prop) [Decidable c] (a b : State) : (if c then a else b).host = if c then a.host else b.host := apply_ite ..
@[simp] theorem State.ite_ports (c : Prop) [Decidable c] (a b : State) : (if c then a else b).ports = if c then a.ports else b.ports := apply_ite ..
@[simp] theorem State.ite_pcie (c : Prop) [Decidable c] (a b : State) : (if c then a else b).pcie = if c then a.pcie else b.pcie := apply_ite ..
@[simp] theorem State.ite_log (c : Prop) [Decidable c] (a b : State) : (if c then a else b).log = if c then a.log else b.log := apply_ite ..
@[simp] theorem State.ite_foreman (c : Prop) [Decidable c] (a b : State) : (if c then a else b).foreman = if c then a.foreman else b.foreman := apply_ite ..
@[simp] theorem State.ite_pairs (c : Prop) [Decidable c] (a b : State) : (if c then a else b).pairs = if c then a.pairs else b.pairs := apply_ite ..
@[simp] theorem State.ite_eopen (c : Prop) [Decidable c] (a b : State) : (if c then a else b).eopen = if c then a.eopen else b.eopen := apply_ite ..
@[simp] theorem State.ite_ledger (c : Prop) [Decidable c] (a b : State) : (if c then a else b).ledger = if c then a.ledger else b.ledger := apply_ite ..
@[simp] theorem State.ite_sched (c : Prop) [Decidable c] (a b : State) : (if c then a else b).sched = if c then a.sched else b.sched := apply_ite ..
@[simp] theorem State.ite_tiles (c : Prop) [Decidable c] (a b : State) : (if c then a else b).tiles = if c then a.tiles else b.tiles := apply_ite ..
@[simp] theorem State.ite_dram (c : Prop) [Decidable c] (a b : State) : (if c then a else b).dram = if c then a.dram else b.dram := apply_ite ..
@[simp] theorem State.ite_assayer (c : Prop) [Decidable c] (a b : State) : (if c then a else b).assayer = if c then a.assayer else b.assayer := apply_ite ..
@[simp] theorem State.ite_fabric (c : Prop) [Decidable c] (a b : State) : (if c then a else b).fabric = if c then a.fabric else b.fabric := apply_ite ..
@[simp] theorem State.ite_rumbes (c : Prop) [Decidable c] (a b : State) : (if c then a else b).rumbes = if c then a.rumbes else b.rumbes := apply_ite ..
@[simp] theorem foldl_pending {α : Type} (l : List α) (g : State → α → State) (s : State) (h : ∀ s x, (g s x).pending = s.pending) : (l.foldl g s).pending = s.pending := by
  induction l generalizing s with
  | nil => rfl
  | cons a l ih => simp [List.foldl_cons, ih, h]
@[simp] theorem foldl_pending_snd {α β : Type} (l : List α) (g : β × State → α → β × State) (a : β × State) (h : ∀ a x, (g a x).2.pending = a.2.pending) : (l.foldl g a).2.pending = a.2.pending := by
  induction l generalizing a with
  | nil => rfl
  | cons x l ih => simp [List.foldl_cons, ih, h]
@[simp] theorem foldl_pending_fst {α β : Type} (l : List α) (g : State × β → α → State × β) (a : State × β) (h : ∀ a x, (g a x).1.pending = a.1.pending) : (l.foldl g a).1.pending = a.1.pending := by
  induction l generalizing a with
  | nil => rfl
  | cons x l ih => simp [List.foldl_cons, ih, h]
@[simp] theorem foldl_now {α : Type} (l : List α) (g : State → α → State) (s : State) (h : ∀ s x, (g s x).now = s.now) : (l.foldl g s).now = s.now := by
  induction l generalizing s with
  | nil => rfl
  | cons a l ih => simp [List.foldl_cons, ih, h]
@[simp] theorem foldl_now_snd {α β : Type} (l : List α) (g : β × State → α → β × State) (a : β × State) (h : ∀ a x, (g a x).2.now = a.2.now) : (l.foldl g a).2.now = a.2.now := by
  induction l generalizing a with
  | nil => rfl
  | cons x l ih => simp [List.foldl_cons, ih, h]
@[simp] theorem foldl_now_fst {α β : Type} (l : List α) (g : State × β → α → State × β) (a : State × β) (h : ∀ a x, (g a x).1.now = a.1.now) : (l.foldl g a).1.now = a.1.now := by
  induction l generalizing a with
  | nil => rfl
  | cons x l ih => simp [List.foldl_cons, ih, h]
@[simp] theorem foldl_free {α : Type} (l : List α) (g : State → α → State) (s : State) (h : ∀ s x, (g s x).free = s.free) : (l.foldl g s).free = s.free := by
  induction l generalizing s with
  | nil => rfl
  | cons a l ih => simp [List.foldl_cons, ih, h]
@[simp] theorem foldl_free_snd {α β : Type} (l : List α) (g : β × State → α → β × State) (a : β × State) (h : ∀ a x, (g a x).2.free = a.2.free) : (l.foldl g a).2.free = a.2.free := by
  induction l generalizing a with
  | nil => rfl
  | cons x l ih => simp [List.foldl_cons, ih, h]
@[simp] theorem foldl_free_fst {α β : Type} (l : List α) (g : State × β → α → State × β) (a : State × β) (h : ∀ a x, (g a x).1.free = a.1.free) : (l.foldl g a).1.free = a.1.free := by
  induction l generalizing a with
  | nil => rfl
  | cons x l ih => simp [List.foldl_cons, ih, h]
@[simp] theorem foldl_out {α : Type} (l : List α) (g : State → α → State) (s : State) (h : ∀ s x, (g s x).out = s.out) : (l.foldl g s).out = s.out := by
  induction l generalizing s with
  | nil => rfl
  | cons a l ih => simp [List.foldl_cons, ih, h]
@[simp] theorem foldl_out_snd {α β : Type} (l : List α) (g : β × State → α → β × State) (a : β × State) (h : ∀ a x, (g a x).2.out = a.2.out) : (l.foldl g a).2.out = a.2.out := by
  induction l generalizing a with
  | nil => rfl
  | cons x l ih => simp [List.foldl_cons, ih, h]
@[simp] theorem foldl_out_fst {α β : Type} (l : List α) (g : State × β → α → State × β) (a : State × β) (h : ∀ a x, (g a x).1.out = a.1.out) : (l.foldl g a).1.out = a.1.out := by
  induction l generalizing a with
  | nil => rfl
  | cons x l ih => simp [List.foldl_cons, ih, h]
@[simp] theorem foldl_sys {α : Type} (l : List α) (g : State → α → State) (s : State) (h : ∀ s x, (g s x).sys = s.sys) : (l.foldl g s).sys = s.sys := by
  induction l generalizing s with
  | nil => rfl
  | cons a l ih => simp [List.foldl_cons, ih, h]
@[simp] theorem foldl_sys_snd {α β : Type} (l : List α) (g : β × State → α → β × State) (a : β × State) (h : ∀ a x, (g a x).2.sys = a.2.sys) : (l.foldl g a).2.sys = a.2.sys := by
  induction l generalizing a with
  | nil => rfl
  | cons x l ih => simp [List.foldl_cons, ih, h]
@[simp] theorem foldl_sys_fst {α β : Type} (l : List α) (g : State × β → α → State × β) (a : State × β) (h : ∀ a x, (g a x).1.sys = a.1.sys) : (l.foldl g a).1.sys = a.1.sys := by
  induction l generalizing a with
  | nil => rfl
  | cons x l ih => simp [List.foldl_cons, ih, h]
@[simp] theorem foldl_ka {α : Type} (l : List α) (g : State → α → State) (s : State) (h : ∀ s x, (g s x).ka = s.ka) : (l.foldl g s).ka = s.ka := by
  induction l generalizing s with
  | nil => rfl
  | cons a l ih => simp [List.foldl_cons, ih, h]
@[simp] theorem foldl_ka_snd {α β : Type} (l : List α) (g : β × State → α → β × State) (a : β × State) (h : ∀ a x, (g a x).2.ka = a.2.ka) : (l.foldl g a).2.ka = a.2.ka := by
  induction l generalizing a with
  | nil => rfl
  | cons x l ih => simp [List.foldl_cons, ih, h]
@[simp] theorem foldl_ka_fst {α β : Type} (l : List α) (g : State × β → α → State × β) (a : State × β) (h : ∀ a x, (g a x).1.ka = a.1.ka) : (l.foldl g a).1.ka = a.1.ka := by
  induction l generalizing a with
  | nil => rfl
  | cons x l ih => simp [List.foldl_cons, ih, h]
@[simp] theorem foldl_flash {α : Type} (l : List α) (g : State → α → State) (s : State) (h : ∀ s x, (g s x).flash = s.flash) : (l.foldl g s).flash = s.flash := by
  induction l generalizing s with
  | nil => rfl
  | cons a l ih => simp [List.foldl_cons, ih, h]
@[simp] theorem foldl_flash_snd {α β : Type} (l : List α) (g : β × State → α → β × State) (a : β × State) (h : ∀ a x, (g a x).2.flash = a.2.flash) : (l.foldl g a).2.flash = a.2.flash := by
  induction l generalizing a with
  | nil => rfl
  | cons x l ih => simp [List.foldl_cons, ih, h]
@[simp] theorem foldl_flash_fst {α β : Type} (l : List α) (g : State × β → α → State × β) (a : State × β) (h : ∀ a x, (g a x).1.flash = a.1.flash) : (l.foldl g a).1.flash = a.1.flash := by
  induction l generalizing a with
  | nil => rfl
  | cons x l ih => simp [List.foldl_cons, ih, h]
@[simp] theorem foldl_journal {α : Type} (l : List α) (g : State → α → State) (s : State) (h : ∀ s x, (g s x).journal = s.journal) : (l.foldl g s).journal = s.journal := by
  induction l generalizing s with
  | nil => rfl
  | cons a l ih => simp [List.foldl_cons, ih, h]
@[simp] theorem foldl_journal_snd {α β : Type} (l : List α) (g : β × State → α → β × State) (a : β × State) (h : ∀ a x, (g a x).2.journal = a.2.journal) : (l.foldl g a).2.journal = a.2.journal := by
  induction l generalizing a with
  | nil => rfl
  | cons x l ih => simp [List.foldl_cons, ih, h]
@[simp] theorem foldl_journal_fst {α β : Type} (l : List α) (g : State × β → α → State × β) (a : State × β) (h : ∀ a x, (g a x).1.journal = a.1.journal) : (l.foldl g a).1.journal = a.1.journal := by
  induction l generalizing a with
  | nil => rfl
  | cons x l ih => simp [List.foldl_cons, ih, h]
@[simp] theorem foldl_host {α : Type} (l : List α) (g : State → α → State) (s : State) (h : ∀ s x, (g s x).host = s.host) : (l.foldl g s).host = s.host := by
  induction l generalizing s with
  | nil => rfl
  | cons a l ih => simp [List.foldl_cons, ih, h]
@[simp] theorem foldl_host_snd {α β : Type} (l : List α) (g : β × State → α → β × State) (a : β × State) (h : ∀ a x, (g a x).2.host = a.2.host) : (l.foldl g a).2.host = a.2.host := by
  induction l generalizing a with
  | nil => rfl
  | cons x l ih => simp [List.foldl_cons, ih, h]
@[simp] theorem foldl_host_fst {α β : Type} (l : List α) (g : State × β → α → State × β) (a : State × β) (h : ∀ a x, (g a x).1.host = a.1.host) : (l.foldl g a).1.host = a.1.host := by
  induction l generalizing a with
  | nil => rfl
  | cons x l ih => simp [List.foldl_cons, ih, h]
@[simp] theorem foldl_ports {α : Type} (l : List α) (g : State → α → State) (s : State) (h : ∀ s x, (g s x).ports = s.ports) : (l.foldl g s).ports = s.ports := by
  induction l generalizing s with
  | nil => rfl
  | cons a l ih => simp [List.foldl_cons, ih, h]
@[simp] theorem foldl_ports_snd {α β : Type} (l : List α) (g : β × State → α → β × State) (a : β × State) (h : ∀ a x, (g a x).2.ports = a.2.ports) : (l.foldl g a).2.ports = a.2.ports := by
  induction l generalizing a with
  | nil => rfl
  | cons x l ih => simp [List.foldl_cons, ih, h]
@[simp] theorem foldl_ports_fst {α β : Type} (l : List α) (g : State × β → α → State × β) (a : State × β) (h : ∀ a x, (g a x).1.ports = a.1.ports) : (l.foldl g a).1.ports = a.1.ports := by
  induction l generalizing a with
  | nil => rfl
  | cons x l ih => simp [List.foldl_cons, ih, h]
@[simp] theorem foldl_pcie {α : Type} (l : List α) (g : State → α → State) (s : State) (h : ∀ s x, (g s x).pcie = s.pcie) : (l.foldl g s).pcie = s.pcie := by
  induction l generalizing s with
  | nil => rfl
  | cons a l ih => simp [List.foldl_cons, ih, h]
@[simp] theorem foldl_pcie_snd {α β : Type} (l : List α) (g : β × State → α → β × State) (a : β × State) (h : ∀ a x, (g a x).2.pcie = a.2.pcie) : (l.foldl g a).2.pcie = a.2.pcie := by
  induction l generalizing a with
  | nil => rfl
  | cons x l ih => simp [List.foldl_cons, ih, h]
@[simp] theorem foldl_pcie_fst {α β : Type} (l : List α) (g : State × β → α → State × β) (a : State × β) (h : ∀ a x, (g a x).1.pcie = a.1.pcie) : (l.foldl g a).1.pcie = a.1.pcie := by
  induction l generalizing a with
  | nil => rfl
  | cons x l ih => simp [List.foldl_cons, ih, h]
@[simp] theorem foldl_log {α : Type} (l : List α) (g : State → α → State) (s : State) (h : ∀ s x, (g s x).log = s.log) : (l.foldl g s).log = s.log := by
  induction l generalizing s with
  | nil => rfl
  | cons a l ih => simp [List.foldl_cons, ih, h]
@[simp] theorem foldl_log_snd {α β : Type} (l : List α) (g : β × State → α → β × State) (a : β × State) (h : ∀ a x, (g a x).2.log = a.2.log) : (l.foldl g a).2.log = a.2.log := by
  induction l generalizing a with
  | nil => rfl
  | cons x l ih => simp [List.foldl_cons, ih, h]
@[simp] theorem foldl_log_fst {α β : Type} (l : List α) (g : State × β → α → State × β) (a : State × β) (h : ∀ a x, (g a x).1.log = a.1.log) : (l.foldl g a).1.log = a.1.log := by
  induction l generalizing a with
  | nil => rfl
  | cons x l ih => simp [List.foldl_cons, ih, h]
@[simp] theorem foldl_foreman {α : Type} (l : List α) (g : State → α → State) (s : State) (h : ∀ s x, (g s x).foreman = s.foreman) : (l.foldl g s).foreman = s.foreman := by
  induction l generalizing s with
  | nil => rfl
  | cons a l ih => simp [List.foldl_cons, ih, h]
@[simp] theorem foldl_foreman_snd {α β : Type} (l : List α) (g : β × State → α → β × State) (a : β × State) (h : ∀ a x, (g a x).2.foreman = a.2.foreman) : (l.foldl g a).2.foreman = a.2.foreman := by
  induction l generalizing a with
  | nil => rfl
  | cons x l ih => simp [List.foldl_cons, ih, h]
@[simp] theorem foldl_foreman_fst {α β : Type} (l : List α) (g : State × β → α → State × β) (a : State × β) (h : ∀ a x, (g a x).1.foreman = a.1.foreman) : (l.foldl g a).1.foreman = a.1.foreman := by
  induction l generalizing a with
  | nil => rfl
  | cons x l ih => simp [List.foldl_cons, ih, h]
@[simp] theorem foldl_pairs {α : Type} (l : List α) (g : State → α → State) (s : State) (h : ∀ s x, (g s x).pairs = s.pairs) : (l.foldl g s).pairs = s.pairs := by
  induction l generalizing s with
  | nil => rfl
  | cons a l ih => simp [List.foldl_cons, ih, h]
@[simp] theorem foldl_pairs_snd {α β : Type} (l : List α) (g : β × State → α → β × State) (a : β × State) (h : ∀ a x, (g a x).2.pairs = a.2.pairs) : (l.foldl g a).2.pairs = a.2.pairs := by
  induction l generalizing a with
  | nil => rfl
  | cons x l ih => simp [List.foldl_cons, ih, h]
@[simp] theorem foldl_pairs_fst {α β : Type} (l : List α) (g : State × β → α → State × β) (a : State × β) (h : ∀ a x, (g a x).1.pairs = a.1.pairs) : (l.foldl g a).1.pairs = a.1.pairs := by
  induction l generalizing a with
  | nil => rfl
  | cons x l ih => simp [List.foldl_cons, ih, h]
@[simp] theorem foldl_eopen {α : Type} (l : List α) (g : State → α → State) (s : State) (h : ∀ s x, (g s x).eopen = s.eopen) : (l.foldl g s).eopen = s.eopen := by
  induction l generalizing s with
  | nil => rfl
  | cons a l ih => simp [List.foldl_cons, ih, h]
@[simp] theorem foldl_eopen_snd {α β : Type} (l : List α) (g : β × State → α → β × State) (a : β × State) (h : ∀ a x, (g a x).2.eopen = a.2.eopen) : (l.foldl g a).2.eopen = a.2.eopen := by
  induction l generalizing a with
  | nil => rfl
  | cons x l ih => simp [List.foldl_cons, ih, h]
@[simp] theorem foldl_eopen_fst {α β : Type} (l : List α) (g : State × β → α → State × β) (a : State × β) (h : ∀ a x, (g a x).1.eopen = a.1.eopen) : (l.foldl g a).1.eopen = a.1.eopen := by
  induction l generalizing a with
  | nil => rfl
  | cons x l ih => simp [List.foldl_cons, ih, h]
@[simp] theorem foldl_ledger {α : Type} (l : List α) (g : State → α → State) (s : State) (h : ∀ s x, (g s x).ledger = s.ledger) : (l.foldl g s).ledger = s.ledger := by
  induction l generalizing s with
  | nil => rfl
  | cons a l ih => simp [List.foldl_cons, ih, h]
@[simp] theorem foldl_ledger_snd {α β : Type} (l : List α) (g : β × State → α → β × State) (a : β × State) (h : ∀ a x, (g a x).2.ledger = a.2.ledger) : (l.foldl g a).2.ledger = a.2.ledger := by
  induction l generalizing a with
  | nil => rfl
  | cons x l ih => simp [List.foldl_cons, ih, h]
@[simp] theorem foldl_ledger_fst {α β : Type} (l : List α) (g : State × β → α → State × β) (a : State × β) (h : ∀ a x, (g a x).1.ledger = a.1.ledger) : (l.foldl g a).1.ledger = a.1.ledger := by
  induction l generalizing a with
  | nil => rfl
  | cons x l ih => simp [List.foldl_cons, ih, h]
@[simp] theorem foldl_sched {α : Type} (l : List α) (g : State → α → State) (s : State) (h : ∀ s x, (g s x).sched = s.sched) : (l.foldl g s).sched = s.sched := by
  induction l generalizing s with
  | nil => rfl
  | cons a l ih => simp [List.foldl_cons, ih, h]
@[simp] theorem foldl_sched_snd {α β : Type} (l : List α) (g : β × State → α → β × State) (a : β × State) (h : ∀ a x, (g a x).2.sched = a.2.sched) : (l.foldl g a).2.sched = a.2.sched := by
  induction l generalizing a with
  | nil => rfl
  | cons x l ih => simp [List.foldl_cons, ih, h]
@[simp] theorem foldl_sched_fst {α β : Type} (l : List α) (g : State × β → α → State × β) (a : State × β) (h : ∀ a x, (g a x).1.sched = a.1.sched) : (l.foldl g a).1.sched = a.1.sched := by
  induction l generalizing a with
  | nil => rfl
  | cons x l ih => simp [List.foldl_cons, ih, h]
@[simp] theorem foldl_tiles {α : Type} (l : List α) (g : State → α → State) (s : State) (h : ∀ s x, (g s x).tiles = s.tiles) : (l.foldl g s).tiles = s.tiles := by
  induction l generalizing s with
  | nil => rfl
  | cons a l ih => simp [List.foldl_cons, ih, h]
@[simp] theorem foldl_tiles_snd {α β : Type} (l : List α) (g : β × State → α → β × State) (a : β × State) (h : ∀ a x, (g a x).2.tiles = a.2.tiles) : (l.foldl g a).2.tiles = a.2.tiles := by
  induction l generalizing a with
  | nil => rfl
  | cons x l ih => simp [List.foldl_cons, ih, h]
@[simp] theorem foldl_tiles_fst {α β : Type} (l : List α) (g : State × β → α → State × β) (a : State × β) (h : ∀ a x, (g a x).1.tiles = a.1.tiles) : (l.foldl g a).1.tiles = a.1.tiles := by
  induction l generalizing a with
  | nil => rfl
  | cons x l ih => simp [List.foldl_cons, ih, h]
@[simp] theorem foldl_dram {α : Type} (l : List α) (g : State → α → State) (s : State) (h : ∀ s x, (g s x).dram = s.dram) : (l.foldl g s).dram = s.dram := by
  induction l generalizing s with
  | nil => rfl
  | cons a l ih => simp [List.foldl_cons, ih, h]
@[simp] theorem foldl_dram_snd {α β : Type} (l : List α) (g : β × State → α → β × State) (a : β × State) (h : ∀ a x, (g a x).2.dram = a.2.dram) : (l.foldl g a).2.dram = a.2.dram := by
  induction l generalizing a with
  | nil => rfl
  | cons x l ih => simp [List.foldl_cons, ih, h]
@[simp] theorem foldl_dram_fst {α β : Type} (l : List α) (g : State × β → α → State × β) (a : State × β) (h : ∀ a x, (g a x).1.dram = a.1.dram) : (l.foldl g a).1.dram = a.1.dram := by
  induction l generalizing a with
  | nil => rfl
  | cons x l ih => simp [List.foldl_cons, ih, h]
@[simp] theorem foldl_assayer {α : Type} (l : List α) (g : State → α → State) (s : State) (h : ∀ s x, (g s x).assayer = s.assayer) : (l.foldl g s).assayer = s.assayer := by
  induction l generalizing s with
  | nil => rfl
  | cons a l ih => simp [List.foldl_cons, ih, h]
@[simp] theorem foldl_assayer_snd {α β : Type} (l : List α) (g : β × State → α → β × State) (a : β × State) (h : ∀ a x, (g a x).2.assayer = a.2.assayer) : (l.foldl g a).2.assayer = a.2.assayer := by
  induction l generalizing a with
  | nil => rfl
  | cons x l ih => simp [List.foldl_cons, ih, h]
@[simp] theorem foldl_assayer_fst {α β : Type} (l : List α) (g : State × β → α → State × β) (a : State × β) (h : ∀ a x, (g a x).1.assayer = a.1.assayer) : (l.foldl g a).1.assayer = a.1.assayer := by
  induction l generalizing a with
  | nil => rfl
  | cons x l ih => simp [List.foldl_cons, ih, h]
@[simp] theorem foldl_fabric {α : Type} (l : List α) (g : State → α → State) (s : State) (h : ∀ s x, (g s x).fabric = s.fabric) : (l.foldl g s).fabric = s.fabric := by
  induction l generalizing s with
  | nil => rfl
  | cons a l ih => simp [List.foldl_cons, ih, h]
@[simp] theorem foldl_fabric_snd {α β : Type} (l : List α) (g : β × State → α → β × State) (a : β × State) (h : ∀ a x, (g a x).2.fabric = a.2.fabric) : (l.foldl g a).2.fabric = a.2.fabric := by
  induction l generalizing a with
  | nil => rfl
  | cons x l ih => simp [List.foldl_cons, ih, h]
@[simp] theorem foldl_fabric_fst {α β : Type} (l : List α) (g : State × β → α → State × β) (a : State × β) (h : ∀ a x, (g a x).1.fabric = a.1.fabric) : (l.foldl g a).1.fabric = a.1.fabric := by
  induction l generalizing a with
  | nil => rfl
  | cons x l ih => simp [List.foldl_cons, ih, h]
@[simp] theorem foldl_rumbes {α : Type} (l : List α) (g : State → α → State) (s : State) (h : ∀ s x, (g s x).rumbes = s.rumbes) : (l.foldl g s).rumbes = s.rumbes := by
  induction l generalizing s with
  | nil => rfl
  | cons a l ih => simp [List.foldl_cons, ih, h]
@[simp] theorem foldl_rumbes_snd {α β : Type} (l : List α) (g : β × State → α → β × State) (a : β × State) (h : ∀ a x, (g a x).2.rumbes = a.2.rumbes) : (l.foldl g a).2.rumbes = a.2.rumbes := by
  induction l generalizing a with
  | nil => rfl
  | cons x l ih => simp [List.foldl_cons, ih, h]
@[simp] theorem foldl_rumbes_fst {α β : Type} (l : List α) (g : State × β → α → State × β) (a : State × β) (h : ∀ a x, (g a x).1.rumbes = a.1.rumbes) : (l.foldl g a).1.rumbes = a.1.rumbes := by
  induction l generalizing a with
  | nil => rfl
  | cons x l ih => simp [List.foldl_cons, ih, h]

/-- The state in which a stream is admitted is the state as it is, or that state with one stream's copy begun. -/
theorem roomFor_cases (s : State) (st : Stream) (mask : Nat) (wantStore : Bool) :
    roomFor s st mask wantStore = s ∨ ∃ n a b, roomFor s st mask wantStore = startCopy s n (.migrate a b) := by
  unfold roomFor
  split
  · exact .inl rfl
  · cases e : (s.sched.streams.findSome? _) with
    | none => exact .inl rfl
    | some u =>
      obtain ⟨x, -, hx⟩ := List.exists_of_findSome?_eq_some e
      rw [Option.getD_some]
      split at hx
      · obtain ⟨q, -, hq⟩ := Option.bind_eq_some_iff.mp hx
        dsimp only at hq
        split at hq
        · exact .inr ⟨_, _, _, (Option.some.inj hq).symm⟩
        · cases hq
      · cases hx

/-! ### Flags -/

@[simp] theorem refreshReady_frame (s : State) :
    (refreshReady s).pending = s.pending ∧ (refreshReady s).now = s.now ∧ (refreshReady s).free = s.free ∧ (refreshReady
      s).out = s.out ∧ (refreshReady s).sys = s.sys ∧ (refreshReady s).ka = s.ka ∧ (refreshReady s).flash = s.flash ∧
      (refreshReady s).journal = s.journal ∧ (refreshReady s).ports = s.ports ∧ (refreshReady s).pcie = s.pcie ∧ (refreshReady
      s).log = s.log ∧ (refreshReady s).foreman = s.foreman ∧ (refreshReady s).pairs = s.pairs ∧ (refreshReady s).eopen =
      s.eopen ∧ (refreshReady s).ledger = s.ledger ∧ (refreshReady s).sched = s.sched ∧ (refreshReady s).tiles = s.tiles ∧
      (refreshReady s).dram = s.dram ∧ (refreshReady s).assayer = s.assayer ∧ (refreshReady s).fabric = s.fabric ∧
      (refreshReady s).rumbes = s.rumbes := by
  unfold refreshReady; simp [*]
@[simp] theorem msixSend_frame (s : State) (v : Nat) :
    (msixSend s v).pending = s.pending ∧ (msixSend s v).now = s.now ∧ (msixSend s v).free = s.free ∧ (msixSend s v).sys =
      s.sys ∧ (msixSend s v).ka = s.ka ∧ (msixSend s v).flash = s.flash ∧ (msixSend s v).journal = s.journal ∧ (msixSend s
      v).host = s.host ∧ (msixSend s v).ports = s.ports ∧ (msixSend s v).log = s.log ∧ (msixSend s v).foreman = s.foreman ∧
      (msixSend s v).pairs = s.pairs ∧ (msixSend s v).eopen = s.eopen ∧ (msixSend s v).ledger = s.ledger ∧ (msixSend s
      v).sched = s.sched ∧ (msixSend s v).tiles = s.tiles ∧ (msixSend s v).dram = s.dram ∧ (msixSend s v).assayer = s.assayer
      ∧ (msixSend s v).fabric = s.fabric ∧ (msixSend s v).rumbes = s.rumbes := by
  unfold msixSend; simp [*]
@[simp] theorem refreshTenant_frame (s : State) (n : Nat) :
    (refreshTenant s n).pending = s.pending ∧ (refreshTenant s n).now = s.now ∧ (refreshTenant s n).free = s.free ∧
      (refreshTenant s n).sys = s.sys ∧ (refreshTenant s n).ka = s.ka ∧ (refreshTenant s n).flash = s.flash ∧ (refreshTenant s
      n).journal = s.journal ∧ (refreshTenant s n).host = s.host ∧ (refreshTenant s n).log = s.log ∧ (refreshTenant s
      n).foreman = s.foreman ∧ (refreshTenant s n).pairs = s.pairs ∧ (refreshTenant s n).eopen = s.eopen ∧ (refreshTenant s
      n).ledger = s.ledger ∧ (refreshTenant s n).sched = s.sched ∧ (refreshTenant s n).tiles = s.tiles ∧ (refreshTenant s
      n).dram = s.dram ∧ (refreshTenant s n).assayer = s.assayer ∧ (refreshTenant s n).fabric = s.fabric ∧ (refreshTenant s
      n).rumbes = s.rumbes := by
  unfold refreshTenant; simp [*]
@[simp] theorem refreshLines_frame (s : State) :
    (refreshLines s).pending = s.pending ∧ (refreshLines s).now = s.now ∧ (refreshLines s).free = s.free ∧ (refreshLines
      s).out = s.out ∧ (refreshLines s).sys = s.sys ∧ (refreshLines s).ka = s.ka ∧ (refreshLines s).flash = s.flash ∧
      (refreshLines s).journal = s.journal ∧ (refreshLines s).ports = s.ports ∧ (refreshLines s).log = s.log ∧ (refreshLines
      s).foreman = s.foreman ∧ (refreshLines s).pairs = s.pairs ∧ (refreshLines s).eopen = s.eopen ∧ (refreshLines s).ledger =
      s.ledger ∧ (refreshLines s).sched = s.sched ∧ (refreshLines s).tiles = s.tiles ∧ (refreshLines s).dram = s.dram ∧
      (refreshLines s).assayer = s.assayer ∧ (refreshLines s).fabric = s.fabric ∧ (refreshLines s).rumbes = s.rumbes := by
  unfold refreshLines; simp [*]
@[simp] theorem finish_frame (s : State) :
    (finish s).pending = s.pending ∧ (finish s).now = s.now ∧ (finish s).free = s.free ∧ (finish s).sys = s.sys ∧ (finish
      s).ka = s.ka ∧ (finish s).flash = s.flash ∧ (finish s).journal = s.journal ∧ (finish s).log = s.log ∧ (finish s).foreman
      = s.foreman ∧ (finish s).pairs = s.pairs ∧ (finish s).eopen = s.eopen ∧ (finish s).ledger = s.ledger ∧ (finish s).sched
      = s.sched ∧ (finish s).tiles = s.tiles ∧ (finish s).dram = s.dram ∧ (finish s).assayer = s.assayer ∧ (finish s).fabric =
      s.fabric ∧ (finish s).rumbes = s.rumbes := by
  unfold finish; simp [*]

/-! ### Ops -/

@[simp] theorem State.draw_frame (s : State) :
    (State.draw s).2.pending = s.pending ∧ (State.draw s).2.now = s.now ∧ (State.draw s).2.out = s.out ∧ (State.draw
      s).2.sys = s.sys ∧ (State.draw s).2.ka = s.ka ∧ (State.draw s).2.flash = s.flash ∧ (State.draw s).2.journal =
      s.journal ∧ (State.draw s).2.host = s.host ∧ (State.draw s).2.ports = s.ports ∧ (State.draw s).2.pcie = s.pcie ∧
      (State.draw s).2.log = s.log ∧ (State.draw s).2.foreman = s.foreman ∧ (State.draw s).2.pairs = s.pairs ∧
      (State.draw s).2.eopen = s.eopen ∧ (State.draw s).2.ledger = s.ledger ∧ (State.draw s).2.sched = s.sched ∧
      (State.draw s).2.tiles = s.tiles ∧ (State.draw s).2.dram = s.dram ∧ (State.draw s).2.assayer = s.assayer ∧
      (State.draw s).2.fabric = s.fabric ∧ (State.draw s).2.rumbes = s.rumbes := by
  unfold State.draw; simp -implicitDefEqProofs [*]
@[simp] theorem when_pending (c : Bool) (f : State → State) (s : State) (h_f : ∀ x0, (f x0).pending = x0.pending) :
    (when c f s).pending = s.pending := by
  unfold when; simp -implicitDefEqProofs [*]
@[simp] theorem when_now (c : Bool) (f : State → State) (s : State) (h_f : ∀ x0, (f x0).now = x0.now) :
    (when c f s).now = s.now := by
  unfold when; simp -implicitDefEqProofs [*]
@[simp] theorem when_free (c : Bool) (f : State → State) (s : State) (h_f : ∀ x0, (f x0).free = x0.free) :
    (when c f s).free = s.free := by
  unfold when; simp -implicitDefEqProofs [*]
@[simp] theorem when_out (c : Bool) (f : State → State) (s : State) (h_f : ∀ x0, (f x0).out = x0.out) :
    (when c f s).out = s.out := by
  unfold when; simp -implicitDefEqProofs [*]
@[simp] theorem when_sys (c : Bool) (f : State → State) (s : State) (h_f : ∀ x0, (f x0).sys = x0.sys) :
    (when c f s).sys = s.sys := by
  unfold when; simp -implicitDefEqProofs [*]
@[simp] theorem when_ka (c : Bool) (f : State → State) (s : State) (h_f : ∀ x0, (f x0).ka = x0.ka) :
    (when c f s).ka = s.ka := by
  unfold when; simp -implicitDefEqProofs [*]
@[simp] theorem when_flash (c : Bool) (f : State → State) (s : State) (h_f : ∀ x0, (f x0).flash = x0.flash) :
    (when c f s).flash = s.flash := by
  unfold when; simp -implicitDefEqProofs [*]
@[simp] theorem when_journal (c : Bool) (f : State → State) (s : State) (h_f : ∀ x0, (f x0).journal = x0.journal) :
    (when c f s).journal = s.journal := by
  unfold when; simp -implicitDefEqProofs [*]
@[simp] theorem when_host (c : Bool) (f : State → State) (s : State) (h_f : ∀ x0, (f x0).host = x0.host) :
    (when c f s).host = s.host := by
  unfold when; simp -implicitDefEqProofs [*]
@[simp] theorem when_ports (c : Bool) (f : State → State) (s : State) (h_f : ∀ x0, (f x0).ports = x0.ports) :
    (when c f s).ports = s.ports := by
  unfold when; simp -implicitDefEqProofs [*]
@[simp] theorem when_pcie (c : Bool) (f : State → State) (s : State) (h_f : ∀ x0, (f x0).pcie = x0.pcie) :
    (when c f s).pcie = s.pcie := by
  unfold when; simp -implicitDefEqProofs [*]
@[simp] theorem when_log (c : Bool) (f : State → State) (s : State) (h_f : ∀ x0, (f x0).log = x0.log) :
    (when c f s).log = s.log := by
  unfold when; simp -implicitDefEqProofs [*]
@[simp] theorem when_foreman (c : Bool) (f : State → State) (s : State) (h_f : ∀ x0, (f x0).foreman = x0.foreman) :
    (when c f s).foreman = s.foreman := by
  unfold when; simp -implicitDefEqProofs [*]
@[simp] theorem when_pairs (c : Bool) (f : State → State) (s : State) (h_f : ∀ x0, (f x0).pairs = x0.pairs) :
    (when c f s).pairs = s.pairs := by
  unfold when; simp -implicitDefEqProofs [*]
@[simp] theorem when_eopen (c : Bool) (f : State → State) (s : State) (h_f : ∀ x0, (f x0).eopen = x0.eopen) :
    (when c f s).eopen = s.eopen := by
  unfold when; simp -implicitDefEqProofs [*]
@[simp] theorem when_ledger (c : Bool) (f : State → State) (s : State) (h_f : ∀ x0, (f x0).ledger = x0.ledger) :
    (when c f s).ledger = s.ledger := by
  unfold when; simp -implicitDefEqProofs [*]
@[simp] theorem when_sched (c : Bool) (f : State → State) (s : State) (h_f : ∀ x0, (f x0).sched = x0.sched) :
    (when c f s).sched = s.sched := by
  unfold when; simp -implicitDefEqProofs [*]
@[simp] theorem when_tiles (c : Bool) (f : State → State) (s : State) (h_f : ∀ x0, (f x0).tiles = x0.tiles) :
    (when c f s).tiles = s.tiles := by
  unfold when; simp -implicitDefEqProofs [*]
@[simp] theorem when_dram (c : Bool) (f : State → State) (s : State) (h_f : ∀ x0, (f x0).dram = x0.dram) :
    (when c f s).dram = s.dram := by
  unfold when; simp -implicitDefEqProofs [*]
@[simp] theorem when_assayer (c : Bool) (f : State → State) (s : State) (h_f : ∀ x0, (f x0).assayer = x0.assayer) :
    (when c f s).assayer = s.assayer := by
  unfold when; simp -implicitDefEqProofs [*]
@[simp] theorem when_fabric (c : Bool) (f : State → State) (s : State) (h_f : ∀ x0, (f x0).fabric = x0.fabric) :
    (when c f s).fabric = s.fabric := by
  unfold when; simp -implicitDefEqProofs [*]
@[simp] theorem when_rumbes (c : Bool) (f : State → State) (s : State) (h_f : ∀ x0, (f x0).rumbes = x0.rumbes) :
    (when c f s).rumbes = s.rumbes := by
  unfold when; simp -implicitDefEqProofs [*]
@[simp] theorem kaPut_frame (s : State) (ofs : Nat) (b : List Byte) :
    (kaPut s ofs b).pending = s.pending ∧ (kaPut s ofs b).now = s.now ∧ (kaPut s ofs b).free = s.free ∧ (kaPut s ofs b).out
      = s.out ∧ (kaPut s ofs b).sys = s.sys ∧ (kaPut s ofs b).flash = s.flash ∧ (kaPut s ofs b).journal = s.journal ∧ (kaPut s
      ofs b).host = s.host ∧ (kaPut s ofs b).ports = s.ports ∧ (kaPut s ofs b).pcie = s.pcie ∧ (kaPut s ofs b).log = s.log ∧
      (kaPut s ofs b).foreman = s.foreman ∧ (kaPut s ofs b).pairs = s.pairs ∧ (kaPut s ofs b).eopen = s.eopen ∧ (kaPut s ofs
      b).ledger = s.ledger ∧ (kaPut s ofs b).sched = s.sched ∧ (kaPut s ofs b).tiles = s.tiles ∧ (kaPut s ofs b).dram = s.dram
      ∧ (kaPut s ofs b).assayer = s.assayer ∧ (kaPut s ofs b).fabric = s.fabric ∧ (kaPut s ofs b).rumbes = s.rumbes := by
  unfold kaPut; simp [*]
@[simp] theorem kaConfig_frame (s : State) (ofs : Nat) (b : List Byte) :
    (kaConfig s ofs b).pending = s.pending ∧ (kaConfig s ofs b).now = s.now ∧ (kaConfig s ofs b).free = s.free ∧ (kaConfig s
      ofs b).out = s.out ∧ (kaConfig s ofs b).sys = s.sys ∧ (kaConfig s ofs b).flash = s.flash ∧ (kaConfig s ofs b).journal =
      s.journal ∧ (kaConfig s ofs b).host = s.host ∧ (kaConfig s ofs b).ports = s.ports ∧ (kaConfig s ofs b).pcie = s.pcie ∧
      (kaConfig s ofs b).log = s.log ∧ (kaConfig s ofs b).foreman = s.foreman ∧ (kaConfig s ofs b).pairs = s.pairs ∧ (kaConfig
      s ofs b).eopen = s.eopen ∧ (kaConfig s ofs b).ledger = s.ledger ∧ (kaConfig s ofs b).sched = s.sched ∧ (kaConfig s ofs
      b).tiles = s.tiles ∧ (kaConfig s ofs b).dram = s.dram ∧ (kaConfig s ofs b).assayer = s.assayer ∧ (kaConfig s ofs
      b).fabric = s.fabric ∧ (kaConfig s ofs b).rumbes = s.rumbes := by
  unfold kaConfig; simp [*]
@[simp] theorem kaMap_frame (s : State) (ofs : Nat) (b : List Byte) :
    (kaMap s ofs b).pending = s.pending ∧ (kaMap s ofs b).now = s.now ∧ (kaMap s ofs b).free = s.free ∧ (kaMap s ofs b).out
      = s.out ∧ (kaMap s ofs b).sys = s.sys ∧ (kaMap s ofs b).flash = s.flash ∧ (kaMap s ofs b).journal = s.journal ∧ (kaMap s
      ofs b).host = s.host ∧ (kaMap s ofs b).ports = s.ports ∧ (kaMap s ofs b).pcie = s.pcie ∧ (kaMap s ofs b).log = s.log ∧
      (kaMap s ofs b).foreman = s.foreman ∧ (kaMap s ofs b).pairs = s.pairs ∧ (kaMap s ofs b).eopen = s.eopen ∧ (kaMap s ofs
      b).ledger = s.ledger ∧ (kaMap s ofs b).sched = s.sched ∧ (kaMap s ofs b).tiles = s.tiles ∧ (kaMap s ofs b).dram = s.dram
      ∧ (kaMap s ofs b).assayer = s.assayer ∧ (kaMap s ofs b).fabric = s.fabric ∧ (kaMap s ofs b).rumbes = s.rumbes := by
  unfold kaMap; simp [*]
@[simp] theorem significant_frame (s : State) :
    (significant s).pending = s.pending ∧ (significant s).now = s.now ∧ (significant s).free = s.free ∧ (significant s).out
      = s.out ∧ (significant s).sys = s.sys ∧ (significant s).ka = s.ka ∧ (significant s).flash = s.flash ∧ (significant
      s).host = s.host ∧ (significant s).ports = s.ports ∧ (significant s).pcie = s.pcie ∧ (significant s).log = s.log ∧
      (significant s).foreman = s.foreman ∧ (significant s).pairs = s.pairs ∧ (significant s).eopen = s.eopen ∧ (significant
      s).ledger = s.ledger ∧ (significant s).sched = s.sched ∧ (significant s).tiles = s.tiles ∧ (significant s).dram = s.dram
      ∧ (significant s).assayer = s.assayer ∧ (significant s).fabric = s.fabric ∧ (significant s).rumbes = s.rumbes := by
  unfold significant; simp [*]
@[simp] theorem storeSetting_frame (s : State) (ofs : Nat) (b : List Byte) :
    (storeSetting s ofs b).pending = s.pending ∧ (storeSetting s ofs b).now = s.now ∧ (storeSetting s ofs b).free = s.free ∧
      (storeSetting s ofs b).out = s.out ∧ (storeSetting s ofs b).sys = s.sys ∧ (storeSetting s ofs b).flash = s.flash ∧
      (storeSetting s ofs b).host = s.host ∧ (storeSetting s ofs b).ports = s.ports ∧ (storeSetting s ofs b).pcie = s.pcie ∧
      (storeSetting s ofs b).log = s.log ∧ (storeSetting s ofs b).foreman = s.foreman ∧ (storeSetting s ofs b).pairs = s.pairs
      ∧ (storeSetting s ofs b).eopen = s.eopen ∧ (storeSetting s ofs b).ledger = s.ledger ∧ (storeSetting s ofs b).sched =
      s.sched ∧ (storeSetting s ofs b).tiles = s.tiles ∧ (storeSetting s ofs b).dram = s.dram ∧ (storeSetting s ofs b).assayer
      = s.assayer ∧ (storeSetting s ofs b).fabric = s.fabric ∧ (storeSetting s ofs b).rumbes = s.rumbes := by
  unfold storeSetting; simp [*]
@[simp] theorem raiseEvent_frame (s : State) (tenant opcode : Nat) (fields : List Byte) :
    (raiseEvent s tenant opcode fields).pending = s.pending ∧ (raiseEvent s tenant opcode fields).now = s.now ∧ (raiseEvent
      s tenant opcode fields).free = s.free ∧ (raiseEvent s tenant opcode fields).out = s.out ∧ (raiseEvent s tenant opcode
      fields).sys = s.sys ∧ (raiseEvent s tenant opcode fields).ka = s.ka ∧ (raiseEvent s tenant opcode fields).flash =
      s.flash ∧ (raiseEvent s tenant opcode fields).journal = s.journal ∧ (raiseEvent s tenant opcode fields).host = s.host ∧
      (raiseEvent s tenant opcode fields).pcie = s.pcie ∧ (raiseEvent s tenant opcode fields).log = s.log ∧ (raiseEvent s
      tenant opcode fields).foreman = s.foreman ∧ (raiseEvent s tenant opcode fields).pairs = s.pairs ∧ (raiseEvent s tenant
      opcode fields).eopen = s.eopen ∧ (raiseEvent s tenant opcode fields).ledger = s.ledger ∧ (raiseEvent s tenant opcode
      fields).sched = s.sched ∧ (raiseEvent s tenant opcode fields).tiles = s.tiles ∧ (raiseEvent s tenant opcode fields).dram
      = s.dram ∧ (raiseEvent s tenant opcode fields).assayer = s.assayer ∧ (raiseEvent s tenant opcode fields).fabric =
      s.fabric ∧ (raiseEvent s tenant opcode fields).rumbes = s.rumbes := by
  unfold raiseEvent; simp [*]
@[simp] theorem kaTail_frame (s : State) (b : List Byte) :
    (kaTail s b).pending = s.pending ∧ (kaTail s b).now = s.now ∧ (kaTail s b).free = s.free ∧ (kaTail s b).out = s.out ∧
      (kaTail s b).sys = s.sys ∧ (kaTail s b).flash = s.flash ∧ (kaTail s b).journal = s.journal ∧ (kaTail s b).host = s.host
      ∧ (kaTail s b).ports = s.ports ∧ (kaTail s b).pcie = s.pcie ∧ (kaTail s b).log = s.log ∧ (kaTail s b).foreman =
      s.foreman ∧ (kaTail s b).pairs = s.pairs ∧ (kaTail s b).eopen = s.eopen ∧ (kaTail s b).ledger = s.ledger ∧ (kaTail s
      b).sched = s.sched ∧ (kaTail s b).tiles = s.tiles ∧ (kaTail s b).dram = s.dram ∧ (kaTail s b).assayer = s.assayer ∧
      (kaTail s b).fabric = s.fabric ∧ (kaTail s b).rumbes = s.rumbes := by
  unfold kaTail; simp [*]
@[simp] theorem newFault_frame (s : State) (code cls : Nat) (standing : Bool) (tenant kind index : Nat) (detail : List
  Byte) :
    (newFault s code cls standing tenant kind index detail).pending = s.pending ∧ (newFault s code cls standing tenant kind
      index detail).now = s.now ∧ (newFault s code cls standing tenant kind index detail).free = s.free ∧ (newFault s code cls
      standing tenant kind index detail).out = s.out ∧ (newFault s code cls standing tenant kind index detail).sys = s.sys ∧
      (newFault s code cls standing tenant kind index detail).flash = s.flash ∧ (newFault s code cls standing tenant kind
      index detail).journal = s.journal ∧ (newFault s code cls standing tenant kind index detail).host = s.host ∧ (newFault s
      code cls standing tenant kind index detail).pcie = s.pcie ∧ (newFault s code cls standing tenant kind index
      detail).foreman = s.foreman ∧ (newFault s code cls standing tenant kind index detail).pairs = s.pairs ∧ (newFault s code
      cls standing tenant kind index detail).eopen = s.eopen ∧ (newFault s code cls standing tenant kind index detail).ledger
      = s.ledger ∧ (newFault s code cls standing tenant kind index detail).sched = s.sched ∧ (newFault s code cls standing
      tenant kind index detail).tiles = s.tiles ∧ (newFault s code cls standing tenant kind index detail).dram = s.dram ∧
      (newFault s code cls standing tenant kind index detail).assayer = s.assayer ∧ (newFault s code cls standing tenant kind
      index detail).fabric = s.fabric ∧ (newFault s code cls standing tenant kind index detail).rumbes = s.rumbes := by
  unfold newFault; simp [*]
@[simp] theorem logFault_frame (s : State) (code cls : Nat) (standing : Bool) (tenant kind index : Nat) (detail : List
  Byte) :
    (logFault s code cls standing tenant kind index detail).pending = s.pending ∧ (logFault s code cls standing tenant kind
      index detail).now = s.now ∧ (logFault s code cls standing tenant kind index detail).free = s.free ∧ (logFault s code cls
      standing tenant kind index detail).out = s.out ∧ (logFault s code cls standing tenant kind index detail).sys = s.sys ∧
      (logFault s code cls standing tenant kind index detail).flash = s.flash ∧ (logFault s code cls standing tenant kind
      index detail).journal = s.journal ∧ (logFault s code cls standing tenant kind index detail).host = s.host ∧ (logFault s
      code cls standing tenant kind index detail).pcie = s.pcie ∧ (logFault s code cls standing tenant kind index
      detail).foreman = s.foreman ∧ (logFault s code cls standing tenant kind index detail).pairs = s.pairs ∧ (logFault s code
      cls standing tenant kind index detail).eopen = s.eopen ∧ (logFault s code cls standing tenant kind index detail).ledger
      = s.ledger ∧ (logFault s code cls standing tenant kind index detail).sched = s.sched ∧ (logFault s code cls standing
      tenant kind index detail).tiles = s.tiles ∧ (logFault s code cls standing tenant kind index detail).dram = s.dram ∧
      (logFault s code cls standing tenant kind index detail).assayer = s.assayer ∧ (logFault s code cls standing tenant kind
      index detail).fabric = s.fabric ∧ (logFault s code cls standing tenant kind index detail).rumbes = s.rumbes := by
  unfold logFault; simp [*]
@[simp] theorem devFault_frame (s : State) (code cls : Nat) (standing : Bool) (detail : List Byte) :
    (devFault s code cls standing detail).pending = s.pending ∧ (devFault s code cls standing detail).now = s.now ∧
      (devFault s code cls standing detail).free = s.free ∧ (devFault s code cls standing detail).out = s.out ∧ (devFault s
      code cls standing detail).sys = s.sys ∧ (devFault s code cls standing detail).flash = s.flash ∧ (devFault s code cls
      standing detail).journal = s.journal ∧ (devFault s code cls standing detail).host = s.host ∧ (devFault s code cls
      standing detail).pcie = s.pcie ∧ (devFault s code cls standing detail).foreman = s.foreman ∧ (devFault s code cls
      standing detail).pairs = s.pairs ∧ (devFault s code cls standing detail).eopen = s.eopen ∧ (devFault s code cls standing
      detail).ledger = s.ledger ∧ (devFault s code cls standing detail).sched = s.sched ∧ (devFault s code cls standing
      detail).tiles = s.tiles ∧ (devFault s code cls standing detail).dram = s.dram ∧ (devFault s code cls standing
      detail).assayer = s.assayer ∧ (devFault s code cls standing detail).fabric = s.fabric ∧ (devFault s code cls standing
      detail).rumbes = s.rumbes := by
  unfold devFault; simp [*]
@[simp] theorem crossDiscard_frame (s : State) (x : Nat) :
    (crossDiscard s x).pending = s.pending ∧ (crossDiscard s x).now = s.now ∧ (crossDiscard s x).free = s.free ∧
      (crossDiscard s x).out = s.out ∧ (crossDiscard s x).flash = s.flash ∧ (crossDiscard s x).journal = s.journal ∧
      (crossDiscard s x).host = s.host ∧ (crossDiscard s x).pcie = s.pcie ∧ (crossDiscard s x).foreman = s.foreman ∧
      (crossDiscard s x).pairs = s.pairs ∧ (crossDiscard s x).eopen = s.eopen ∧ (crossDiscard s x).ledger = s.ledger ∧
      (crossDiscard s x).sched = s.sched ∧ (crossDiscard s x).tiles = s.tiles ∧ (crossDiscard s x).dram = s.dram ∧
      (crossDiscard s x).assayer = s.assayer ∧ (crossDiscard s x).fabric = s.fabric ∧ (crossDiscard s x).rumbes = s.rumbes :=
      by
  unfold crossDiscard; simp [*]
@[simp] theorem crossOffer_frame (s : State) (x waiting bits : Nat) :
    (crossOffer s x waiting bits).pending = s.pending ∧ (crossOffer s x waiting bits).now = s.now ∧ (crossOffer s x
      waiting bits).free = s.free ∧ (crossOffer s x waiting bits).out = s.out ∧ (crossOffer s x waiting bits).flash =
      s.flash ∧ (crossOffer s x waiting bits).journal = s.journal ∧ (crossOffer s x waiting bits).host = s.host ∧
      (crossOffer s x waiting bits).pcie = s.pcie ∧ (crossOffer s x waiting bits).foreman = s.foreman ∧ (crossOffer s x
      waiting bits).pairs = s.pairs ∧ (crossOffer s x waiting bits).eopen = s.eopen ∧ (crossOffer s x waiting
      bits).ledger = s.ledger ∧ (crossOffer s x waiting bits).sched = s.sched ∧ (crossOffer s x waiting bits).tiles =
      s.tiles ∧ (crossOffer s x waiting bits).dram = s.dram ∧ (crossOffer s x waiting bits).assayer = s.assayer ∧
      (crossOffer s x waiting bits).fabric = s.fabric ∧ (crossOffer s x waiting bits).rumbes = s.rumbes := by
  unfold crossOffer; split <;> simp -implicitDefEqProofs [*]
@[simp] theorem updStreams_frame (s : State) (p : Stream → Bool) (f : Stream → Stream) :
    (updStreams s p f).pending = s.pending ∧ (updStreams s p f).now = s.now ∧ (updStreams s p f).free = s.free ∧ (updStreams
      s p f).out = s.out ∧ (updStreams s p f).sys = s.sys ∧ (updStreams s p f).ka = s.ka ∧ (updStreams s p f).flash = s.flash
      ∧ (updStreams s p f).journal = s.journal ∧ (updStreams s p f).host = s.host ∧ (updStreams s p f).ports = s.ports ∧
      (updStreams s p f).pcie = s.pcie ∧ (updStreams s p f).log = s.log ∧ (updStreams s p f).foreman = s.foreman ∧ (updStreams
      s p f).pairs = s.pairs ∧ (updStreams s p f).eopen = s.eopen ∧ (updStreams s p f).ledger = s.ledger ∧ (updStreams s p
      f).tiles = s.tiles ∧ (updStreams s p f).dram = s.dram ∧ (updStreams s p f).assayer = s.assayer ∧ (updStreams s p
      f).fabric = s.fabric ∧ (updStreams s p f).rumbes = s.rumbes := by
  unfold updStreams; simp [*]
@[simp] theorem cutRun_frame (s : State) (n : Nat) (gone : Bool) :
    (cutRun s n gone).pending = s.pending ∧ (cutRun s n gone).now = s.now ∧ (cutRun s n gone).free = s.free ∧ (cutRun s
      n gone).out = s.out ∧ (cutRun s n gone).sys = s.sys ∧ (cutRun s n gone).ka = s.ka ∧ (cutRun s n gone).flash =
      s.flash ∧ (cutRun s n gone).journal = s.journal ∧ (cutRun s n gone).host = s.host ∧ (cutRun s n gone).ports =
      s.ports ∧ (cutRun s n gone).pcie = s.pcie ∧ (cutRun s n gone).log = s.log ∧ (cutRun s n gone).foreman = s.foreman
      ∧ (cutRun s n gone).pairs = s.pairs ∧ (cutRun s n gone).eopen = s.eopen ∧ (cutRun s n gone).ledger = s.ledger ∧
      (cutRun s n gone).sched = s.sched ∧ (cutRun s n gone).dram = s.dram ∧ (cutRun s n gone).assayer = s.assayer ∧
      (cutRun s n gone).fabric = s.fabric ∧ (cutRun s n gone).rumbes = s.rumbes := by
  unfold cutRun; simp -implicitDefEqProofs [*]
@[simp] theorem pauseStream_frame (s : State) (n reason : Nat) :
    (pauseStream s n reason).pending = s.pending ∧ (pauseStream s n reason).now = s.now ∧ (pauseStream s n reason).free
      = s.free ∧ (pauseStream s n reason).out = s.out ∧ (pauseStream s n reason).sys = s.sys ∧ (pauseStream s n
      reason).ka = s.ka ∧ (pauseStream s n reason).flash = s.flash ∧ (pauseStream s n reason).journal = s.journal ∧
      (pauseStream s n reason).host = s.host ∧ (pauseStream s n reason).pcie = s.pcie ∧ (pauseStream s n reason).log =
      s.log ∧ (pauseStream s n reason).foreman = s.foreman ∧ (pauseStream s n reason).pairs = s.pairs ∧ (pauseStream s n
      reason).eopen = s.eopen ∧ (pauseStream s n reason).ledger = s.ledger ∧ (pauseStream s n reason).dram = s.dram ∧
      (pauseStream s n reason).assayer = s.assayer ∧ (pauseStream s n reason).fabric = s.fabric ∧ (pauseStream s n
      reason).rumbes = s.rumbes := by
  unfold pauseStream; simp -implicitDefEqProofs [*]
@[simp] theorem updJob_frame (s : State) (n : Nat) (f : Job → Job) :
    (updJob s n f).pending = s.pending ∧ (updJob s n f).now = s.now ∧ (updJob s n f).free = s.free ∧ (updJob s n f).out =
      s.out ∧ (updJob s n f).sys = s.sys ∧ (updJob s n f).ka = s.ka ∧ (updJob s n f).flash = s.flash ∧ (updJob s n f).journal
      = s.journal ∧ (updJob s n f).host = s.host ∧ (updJob s n f).ports = s.ports ∧ (updJob s n f).pcie = s.pcie ∧ (updJob s n
      f).log = s.log ∧ (updJob s n f).foreman = s.foreman ∧ (updJob s n f).pairs = s.pairs ∧ (updJob s n f).eopen = s.eopen ∧
      (updJob s n f).ledger = s.ledger ∧ (updJob s n f).tiles = s.tiles ∧ (updJob s n f).dram = s.dram ∧ (updJob s n
      f).assayer = s.assayer ∧ (updJob s n f).fabric = s.fabric ∧ (updJob s n f).rumbes = s.rumbes := by
  unfold updJob; split <;> simp [*]
@[simp] theorem jobEndEvent_frame (s : State) (n : Nat) (j : Job) (code : Nat) :
    (jobEndEvent s n j code).pending = s.pending ∧ (jobEndEvent s n j code).now = s.now ∧ (jobEndEvent s n j code).free =
      s.free ∧ (jobEndEvent s n j code).out = s.out ∧ (jobEndEvent s n j code).sys = s.sys ∧ (jobEndEvent s n j code).ka =
      s.ka ∧ (jobEndEvent s n j code).flash = s.flash ∧ (jobEndEvent s n j code).journal = s.journal ∧ (jobEndEvent s n j
      code).host = s.host ∧ (jobEndEvent s n j code).pcie = s.pcie ∧ (jobEndEvent s n j code).log = s.log ∧ (jobEndEvent s n j
      code).foreman = s.foreman ∧ (jobEndEvent s n j code).pairs = s.pairs ∧ (jobEndEvent s n j code).eopen = s.eopen ∧
      (jobEndEvent s n j code).ledger = s.ledger ∧ (jobEndEvent s n j code).sched = s.sched ∧ (jobEndEvent s n j code).tiles =
      s.tiles ∧ (jobEndEvent s n j code).dram = s.dram ∧ (jobEndEvent s n j code).assayer = s.assayer ∧ (jobEndEvent s n j
      code).fabric = s.fabric ∧ (jobEndEvent s n j code).rumbes = s.rumbes := by
  unfold jobEndEvent; simp [*]
@[simp] theorem endJob_frame (s : State) (n code : Nat) :
    (endJob s n code).pending = s.pending ∧ (endJob s n code).now = s.now ∧ (endJob s n code).free = s.free ∧ (endJob s n
      code).out = s.out ∧ (endJob s n code).sys = s.sys ∧ (endJob s n code).ka = s.ka ∧ (endJob s n code).flash = s.flash ∧
      (endJob s n code).journal = s.journal ∧ (endJob s n code).host = s.host ∧ (endJob s n code).pcie = s.pcie ∧ (endJob s n
      code).log = s.log ∧ (endJob s n code).foreman = s.foreman ∧ (endJob s n code).pairs = s.pairs ∧ (endJob s n code).eopen
      = s.eopen ∧ (endJob s n code).ledger = s.ledger ∧ (endJob s n code).tiles = s.tiles ∧ (endJob s n code).dram = s.dram ∧
      (endJob s n code).assayer = s.assayer ∧ (endJob s n code).fabric = s.fabric ∧ (endJob s n code).rumbes = s.rumbes := by
  unfold endJob; split <;> simp [*]
@[simp] theorem removeJob_frame (s : State) (n code : Nat) :
    (removeJob s n code).pending = s.pending ∧ (removeJob s n code).now = s.now ∧ (removeJob s n code).free = s.free ∧
      (removeJob s n code).out = s.out ∧ (removeJob s n code).sys = s.sys ∧ (removeJob s n code).ka = s.ka ∧ (removeJob s n
      code).flash = s.flash ∧ (removeJob s n code).journal = s.journal ∧ (removeJob s n code).host = s.host ∧ (removeJob s n
      code).pcie = s.pcie ∧ (removeJob s n code).log = s.log ∧ (removeJob s n code).foreman = s.foreman ∧ (removeJob s n
      code).pairs = s.pairs ∧ (removeJob s n code).eopen = s.eopen ∧ (removeJob s n code).ledger = s.ledger ∧ (removeJob s n
      code).tiles = s.tiles ∧ (removeJob s n code).dram = s.dram ∧ (removeJob s n code).assayer = s.assayer ∧ (removeJob s n
      code).fabric = s.fabric ∧ (removeJob s n code).rumbes = s.rumbes := by
  unfold removeJob; simp [*]
@[simp] theorem jobBoundary_frame (s : State) (n : Nat) :
    (jobBoundary s n).pending = s.pending ∧ (jobBoundary s n).now = s.now ∧ (jobBoundary s n).free = s.free ∧ (jobBoundary s
      n).out = s.out ∧ (jobBoundary s n).sys = s.sys ∧ (jobBoundary s n).ka = s.ka ∧ (jobBoundary s n).flash = s.flash ∧
      (jobBoundary s n).journal = s.journal ∧ (jobBoundary s n).host = s.host ∧ (jobBoundary s n).pcie = s.pcie ∧ (jobBoundary
      s n).log = s.log ∧ (jobBoundary s n).foreman = s.foreman ∧ (jobBoundary s n).pairs = s.pairs ∧ (jobBoundary s n).eopen =
      s.eopen ∧ (jobBoundary s n).ledger = s.ledger ∧ (jobBoundary s n).tiles = s.tiles ∧ (jobBoundary s n).dram = s.dram ∧
      (jobBoundary s n).assayer = s.assayer ∧ (jobBoundary s n).fabric = s.fabric ∧ (jobBoundary s n).rumbes = s.rumbes := by
  unfold jobBoundary; split <;> simp [*]
@[simp] theorem jobBoundaries_frame (s : State) :
    (jobBoundaries s).pending = s.pending ∧ (jobBoundaries s).now = s.now ∧ (jobBoundaries s).free = s.free ∧
      (jobBoundaries s).out = s.out ∧ (jobBoundaries s).sys = s.sys ∧ (jobBoundaries s).ka = s.ka ∧ (jobBoundaries
      s).flash = s.flash ∧ (jobBoundaries s).journal = s.journal ∧ (jobBoundaries s).host = s.host ∧ (jobBoundaries
      s).pcie = s.pcie ∧ (jobBoundaries s).log = s.log ∧ (jobBoundaries s).foreman = s.foreman ∧ (jobBoundaries s).pairs
      = s.pairs ∧ (jobBoundaries s).eopen = s.eopen ∧ (jobBoundaries s).ledger = s.ledger ∧ (jobBoundaries s).tiles =
      s.tiles ∧ (jobBoundaries s).dram = s.dram ∧ (jobBoundaries s).assayer = s.assayer ∧ (jobBoundaries s).fabric =
      s.fabric ∧ (jobBoundaries s).rumbes = s.rumbes := by
  unfold jobBoundaries; simp -implicitDefEqProofs [*]
@[simp] theorem ctrlReset_frame (s : State) :
    (ctrlReset s).pending = s.pending ∧ (ctrlReset s).now = s.now ∧ (ctrlReset s).free = s.free ∧ (ctrlReset s).out = s.out
      ∧ (ctrlReset s).ka = s.ka ∧ (ctrlReset s).flash = s.flash ∧ (ctrlReset s).host = s.host ∧ (ctrlReset s).pcie = s.pcie ∧
      (ctrlReset s).log = s.log ∧ (ctrlReset s).eopen = s.eopen ∧ (ctrlReset s).ledger = s.ledger ∧ (ctrlReset s).tiles =
      s.tiles ∧ (ctrlReset s).dram = s.dram ∧ (ctrlReset s).assayer = s.assayer ∧ (ctrlReset s).fabric = s.fabric ∧ (ctrlReset
      s).rumbes = s.rumbes := by
  unfold ctrlReset; simp [*]
@[simp] theorem clearTiles_frame (s : State) (b : Nat) :
    (clearTiles s b).pending = s.pending ∧ (clearTiles s b).now = s.now ∧ (clearTiles s b).free = s.free ∧ (clearTiles s
      b).out = s.out ∧ (clearTiles s b).sys = s.sys ∧ (clearTiles s b).ka = s.ka ∧ (clearTiles s b).flash = s.flash ∧
      (clearTiles s b).journal = s.journal ∧ (clearTiles s b).host = s.host ∧ (clearTiles s b).pcie = s.pcie ∧
      (clearTiles s b).log = s.log ∧ (clearTiles s b).foreman = s.foreman ∧ (clearTiles s b).pairs = s.pairs ∧
      (clearTiles s b).eopen = s.eopen ∧ (clearTiles s b).ledger = s.ledger ∧ (clearTiles s b).dram = s.dram ∧
      (clearTiles s b).assayer = s.assayer ∧ (clearTiles s b).fabric = s.fabric ∧ (clearTiles s b).rumbes = s.rumbes :=
      by
  unfold clearTiles; simp -implicitDefEqProofs [*]
@[simp] theorem dropStreams_frame (s : State) (b : Nat) :
    (dropStreams s b).pending = s.pending ∧ (dropStreams s b).now = s.now ∧ (dropStreams s b).free = s.free ∧ (dropStreams s
      b).out = s.out ∧ (dropStreams s b).sys = s.sys ∧ (dropStreams s b).ka = s.ka ∧ (dropStreams s b).flash = s.flash ∧
      (dropStreams s b).journal = s.journal ∧ (dropStreams s b).host = s.host ∧ (dropStreams s b).ports = s.ports ∧
      (dropStreams s b).pcie = s.pcie ∧ (dropStreams s b).log = s.log ∧ (dropStreams s b).foreman = s.foreman ∧ (dropStreams s
      b).pairs = s.pairs ∧ (dropStreams s b).eopen = s.eopen ∧ (dropStreams s b).ledger = s.ledger ∧ (dropStreams s b).tiles =
      s.tiles ∧ (dropStreams s b).dram = s.dram ∧ (dropStreams s b).assayer = s.assayer ∧ (dropStreams s b).fabric = s.fabric
      ∧ (dropStreams s b).rumbes = s.rumbes := by
  unfold dropStreams; simp [*]
@[simp] theorem benchReset_frame (s : State) (b : Nat) :
    (benchReset s b).pending = s.pending ∧ (benchReset s b).now = s.now ∧ (benchReset s b).free = s.free ∧ (benchReset s
      b).out = s.out ∧ (benchReset s b).ka = s.ka ∧ (benchReset s b).flash = s.flash ∧ (benchReset s b).journal =
      s.journal ∧ (benchReset s b).host = s.host ∧ (benchReset s b).pcie = s.pcie ∧ (benchReset s b).log = s.log ∧
      (benchReset s b).foreman = s.foreman ∧ (benchReset s b).pairs = s.pairs ∧ (benchReset s b).eopen = s.eopen ∧
      (benchReset s b).ledger = s.ledger ∧ (benchReset s b).dram = s.dram ∧ (benchReset s b).assayer = s.assayer ∧
      (benchReset s b).fabric = s.fabric ∧ (benchReset s b).rumbes = s.rumbes := by
  unfold benchReset; simp -implicitDefEqProofs [*]
@[simp] theorem computeReset_frame (s : State) (commanded : Bool) :
    (computeReset s commanded).pending = s.pending ∧ (computeReset s commanded).now = s.now ∧ (computeReset s
      commanded).free = s.free ∧ (computeReset s commanded).out = s.out ∧ (computeReset s commanded).ka = s.ka ∧
      (computeReset s commanded).flash = s.flash ∧ (computeReset s commanded).journal = s.journal ∧ (computeReset s
      commanded).host = s.host ∧ (computeReset s commanded).pcie = s.pcie ∧ (computeReset s commanded).log = s.log ∧
      (computeReset s commanded).foreman = s.foreman ∧ (computeReset s commanded).pairs = s.pairs ∧ (computeReset s
      commanded).eopen = s.eopen ∧ (computeReset s commanded).ledger = s.ledger ∧ (computeReset s commanded).dram =
      s.dram ∧ (computeReset s commanded).fabric = s.fabric ∧ (computeReset s commanded).rumbes = s.rumbes := by
  unfold computeReset; simp -implicitDefEqProofs [*]
@[simp] theorem shellReset_frame (s : State) :
    (shellReset s).pending = s.pending ∧ (shellReset s).rumbes = s.rumbes := by
  unfold shellReset; simp [*]

/-! ### TileRun -/

@[simp] theorem goHome_frame (s : State) (tile bank : Nat) :
    (goHome s tile bank).pending = s.pending ∧ (goHome s tile bank).now = s.now ∧ (goHome s tile bank).free = s.free ∧
      (goHome s tile bank).out = s.out ∧ (goHome s tile bank).sys = s.sys ∧ (goHome s tile bank).ka = s.ka ∧ (goHome s tile
      bank).flash = s.flash ∧ (goHome s tile bank).journal = s.journal ∧ (goHome s tile bank).host = s.host ∧ (goHome s tile
      bank).ports = s.ports ∧ (goHome s tile bank).pcie = s.pcie ∧ (goHome s tile bank).log = s.log ∧ (goHome s tile
      bank).foreman = s.foreman ∧ (goHome s tile bank).pairs = s.pairs ∧ (goHome s tile bank).eopen = s.eopen ∧ (goHome s tile
      bank).ledger = s.ledger ∧ (goHome s tile bank).sched = s.sched ∧ (goHome s tile bank).dram = s.dram ∧ (goHome s tile
      bank).assayer = s.assayer ∧ (goHome s tile bank).fabric = s.fabric ∧ (goHome s tile bank).rumbes = s.rumbes := by
  unfold goHome; simp [*]
@[simp] theorem dropLeases_frame (s : State) (tile : Nat) :
    (dropLeases s tile).pending = s.pending ∧ (dropLeases s tile).now = s.now ∧ (dropLeases s tile).free = s.free ∧
      (dropLeases s tile).out = s.out ∧ (dropLeases s tile).sys = s.sys ∧ (dropLeases s tile).ka = s.ka ∧ (dropLeases s
      tile).flash = s.flash ∧ (dropLeases s tile).journal = s.journal ∧ (dropLeases s tile).host = s.host ∧ (dropLeases s
      tile).ports = s.ports ∧ (dropLeases s tile).pcie = s.pcie ∧ (dropLeases s tile).log = s.log ∧ (dropLeases s
      tile).foreman = s.foreman ∧ (dropLeases s tile).pairs = s.pairs ∧ (dropLeases s tile).eopen = s.eopen ∧ (dropLeases s
      tile).ledger = s.ledger ∧ (dropLeases s tile).sched = s.sched ∧ (dropLeases s tile).dram = s.dram ∧ (dropLeases s
      tile).assayer = s.assayer ∧ (dropLeases s tile).fabric = s.fabric ∧ (dropLeases s tile).rumbes = s.rumbes := by
  unfold dropLeases; split <;> simp [*]
@[simp] theorem landOne_frame (s : State) (tile : Nat) (x : InFlight) :
    (landOne s tile x).pending = s.pending ∧ (landOne s tile x).now = s.now ∧ (landOne s tile x).free = s.free ∧ (landOne s
      tile x).out = s.out ∧ (landOne s tile x).sys = s.sys ∧ (landOne s tile x).ka = s.ka ∧ (landOne s tile x).flash = s.flash
      ∧ (landOne s tile x).journal = s.journal ∧ (landOne s tile x).host = s.host ∧ (landOne s tile x).ports = s.ports ∧
      (landOne s tile x).pcie = s.pcie ∧ (landOne s tile x).log = s.log ∧ (landOne s tile x).foreman = s.foreman ∧ (landOne s
      tile x).pairs = s.pairs ∧ (landOne s tile x).eopen = s.eopen ∧ (landOne s tile x).ledger = s.ledger ∧ (landOne s tile
      x).sched = s.sched ∧ (landOne s tile x).dram = s.dram ∧ (landOne s tile x).assayer = s.assayer ∧ (landOne s tile
      x).fabric = s.fabric ∧ (landOne s tile x).rumbes = s.rumbes := by
  unfold landOne; split <;> simp [*]
@[simp] theorem landDue_frame (s : State) (tile : Nat) :
    (landDue s tile).pending = s.pending ∧ (landDue s tile).now = s.now ∧ (landDue s tile).free = s.free ∧ (landDue s
      tile).out = s.out ∧ (landDue s tile).sys = s.sys ∧ (landDue s tile).ka = s.ka ∧ (landDue s tile).flash = s.flash ∧
      (landDue s tile).journal = s.journal ∧ (landDue s tile).host = s.host ∧ (landDue s tile).ports = s.ports ∧ (landDue s
      tile).pcie = s.pcie ∧ (landDue s tile).log = s.log ∧ (landDue s tile).foreman = s.foreman ∧ (landDue s tile).pairs =
      s.pairs ∧ (landDue s tile).eopen = s.eopen ∧ (landDue s tile).ledger = s.ledger ∧ (landDue s tile).sched = s.sched ∧
      (landDue s tile).dram = s.dram ∧ (landDue s tile).assayer = s.assayer ∧ (landDue s tile).fabric = s.fabric ∧ (landDue s
      tile).rumbes = s.rumbes := by
  unfold landDue; split <;> simp [*]

/-! ### Alloc -/

@[simp] theorem dramWrite_frame (s : State) (a : Nat) (b : List Byte) :
    (dramWrite s a b).pending = s.pending ∧ (dramWrite s a b).now = s.now ∧ (dramWrite s a b).free = s.free ∧ (dramWrite s a
      b).out = s.out ∧ (dramWrite s a b).sys = s.sys ∧ (dramWrite s a b).ka = s.ka ∧ (dramWrite s a b).flash = s.flash ∧
      (dramWrite s a b).journal = s.journal ∧ (dramWrite s a b).host = s.host ∧ (dramWrite s a b).ports = s.ports ∧ (dramWrite
      s a b).pcie = s.pcie ∧ (dramWrite s a b).log = s.log ∧ (dramWrite s a b).foreman = s.foreman ∧ (dramWrite s a b).pairs =
      s.pairs ∧ (dramWrite s a b).eopen = s.eopen ∧ (dramWrite s a b).ledger = s.ledger ∧ (dramWrite s a b).sched = s.sched ∧
      (dramWrite s a b).tiles = s.tiles ∧ (dramWrite s a b).assayer = s.assayer ∧ (dramWrite s a b).fabric = s.fabric ∧
      (dramWrite s a b).rumbes = s.rumbes := by
  unfold dramWrite; simp [*]
@[simp] theorem palWrite_frame (s : State) (tile unit : Nat) (b : List Byte) :
    (palWrite s tile unit b).pending = s.pending ∧ (palWrite s tile unit b).now = s.now ∧ (palWrite s tile unit b).free =
      s.free ∧ (palWrite s tile unit b).out = s.out ∧ (palWrite s tile unit b).sys = s.sys ∧ (palWrite s tile unit b).ka =
      s.ka ∧ (palWrite s tile unit b).flash = s.flash ∧ (palWrite s tile unit b).journal = s.journal ∧ (palWrite s tile unit
      b).host = s.host ∧ (palWrite s tile unit b).ports = s.ports ∧ (palWrite s tile unit b).pcie = s.pcie ∧ (palWrite s tile
      unit b).log = s.log ∧ (palWrite s tile unit b).foreman = s.foreman ∧ (palWrite s tile unit b).pairs = s.pairs ∧
      (palWrite s tile unit b).eopen = s.eopen ∧ (palWrite s tile unit b).ledger = s.ledger ∧ (palWrite s tile unit b).sched =
      s.sched ∧ (palWrite s tile unit b).dram = s.dram ∧ (palWrite s tile unit b).assayer = s.assayer ∧ (palWrite s tile unit
      b).fabric = s.fabric ∧ (palWrite s tile unit b).rumbes = s.rumbes := by
  unfold palWrite; simp [*]
@[simp] theorem widenNow_frame (s : State) (tile kt bits : Nat) :
    (widenNow s tile kt bits).pending = s.pending ∧ (widenNow s tile kt bits).now = s.now ∧ (widenNow s tile kt
      bits).free = s.free ∧ (widenNow s tile kt bits).out = s.out ∧ (widenNow s tile kt bits).sys = s.sys ∧ (widenNow s
      tile kt bits).ka = s.ka ∧ (widenNow s tile kt bits).flash = s.flash ∧ (widenNow s tile kt bits).journal =
      s.journal ∧ (widenNow s tile kt bits).host = s.host ∧ (widenNow s tile kt bits).ports = s.ports ∧ (widenNow s tile
      kt bits).pcie = s.pcie ∧ (widenNow s tile kt bits).log = s.log ∧ (widenNow s tile kt bits).foreman = s.foreman ∧
      (widenNow s tile kt bits).pairs = s.pairs ∧ (widenNow s tile kt bits).eopen = s.eopen ∧ (widenNow s tile kt
      bits).ledger = s.ledger ∧ (widenNow s tile kt bits).sched = s.sched ∧ (widenNow s tile kt bits).dram = s.dram ∧
      (widenNow s tile kt bits).assayer = s.assayer ∧ (widenNow s tile kt bits).fabric = s.fabric ∧ (widenNow s tile kt
      bits).rumbes = s.rumbes := by
  unfold widenNow; simp -implicitDefEqProofs [*]
@[simp] theorem widenMask_frame (s : State) (tile kt unit units : Nat) :
    (widenMask s tile kt unit units).pending = s.pending ∧ (widenMask s tile kt unit units).now = s.now ∧ (widenMask s tile
      kt unit units).free = s.free ∧ (widenMask s tile kt unit units).out = s.out ∧ (widenMask s tile kt unit units).sys =
      s.sys ∧ (widenMask s tile kt unit units).ka = s.ka ∧ (widenMask s tile kt unit units).flash = s.flash ∧ (widenMask s
      tile kt unit units).journal = s.journal ∧ (widenMask s tile kt unit units).host = s.host ∧ (widenMask s tile kt unit
      units).ports = s.ports ∧ (widenMask s tile kt unit units).pcie = s.pcie ∧ (widenMask s tile kt unit units).log = s.log ∧
      (widenMask s tile kt unit units).foreman = s.foreman ∧ (widenMask s tile kt unit units).pairs = s.pairs ∧ (widenMask s
      tile kt unit units).eopen = s.eopen ∧ (widenMask s tile kt unit units).ledger = s.ledger ∧ (widenMask s tile kt unit
      units).sched = s.sched ∧ (widenMask s tile kt unit units).dram = s.dram ∧ (widenMask s tile kt unit units).assayer =
      s.assayer ∧ (widenMask s tile kt unit units).fabric = s.fabric ∧ (widenMask s tile kt unit units).rumbes = s.rumbes :=
      by
  unfold widenMask; simp [*]
@[simp] theorem widenLate_frame (s : State) (tile : Nat) :
    (widenLate s tile).pending = s.pending ∧ (widenLate s tile).now = s.now ∧ (widenLate s tile).free = s.free ∧
      (widenLate s tile).out = s.out ∧ (widenLate s tile).sys = s.sys ∧ (widenLate s tile).ka = s.ka ∧ (widenLate s
      tile).flash = s.flash ∧ (widenLate s tile).journal = s.journal ∧ (widenLate s tile).host = s.host ∧ (widenLate s
      tile).ports = s.ports ∧ (widenLate s tile).pcie = s.pcie ∧ (widenLate s tile).log = s.log ∧ (widenLate s
      tile).foreman = s.foreman ∧ (widenLate s tile).pairs = s.pairs ∧ (widenLate s tile).eopen = s.eopen ∧ (widenLate s
      tile).ledger = s.ledger ∧ (widenLate s tile).sched = s.sched ∧ (widenLate s tile).dram = s.dram ∧ (widenLate s
      tile).assayer = s.assayer ∧ (widenLate s tile).fabric = s.fabric ∧ (widenLate s tile).rumbes = s.rumbes := by
  unfold widenLate; simp -implicitDefEqProofs [*]

/-! ### Scan -/

@[simp] theorem stageChunk_frame (s : State) (j : Job) (c : Chunk) :
    (stageChunk s j c).pending = s.pending ∧ (stageChunk s j c).now = s.now ∧ (stageChunk s j c).free = s.free ∧ (stageChunk
      s j c).out = s.out ∧ (stageChunk s j c).sys = s.sys ∧ (stageChunk s j c).ka = s.ka ∧ (stageChunk s j c).flash = s.flash
      ∧ (stageChunk s j c).journal = s.journal ∧ (stageChunk s j c).host = s.host ∧ (stageChunk s j c).ports = s.ports ∧
      (stageChunk s j c).pcie = s.pcie ∧ (stageChunk s j c).log = s.log ∧ (stageChunk s j c).foreman = s.foreman ∧ (stageChunk
      s j c).pairs = s.pairs ∧ (stageChunk s j c).eopen = s.eopen ∧ (stageChunk s j c).ledger = s.ledger ∧ (stageChunk s j
      c).sched = s.sched ∧ (stageChunk s j c).dram = s.dram ∧ (stageChunk s j c).assayer = s.assayer ∧ (stageChunk s j
      c).fabric = s.fabric ∧ (stageChunk s j c).rumbes = s.rumbes := by
  unfold stageChunk; simp [*]
@[simp] theorem writeOutputs_frame (s : State) (j : Job) (c : Chunk) (outs : List Byte) :
    (writeOutputs s j c outs).pending = s.pending ∧ (writeOutputs s j c outs).now = s.now ∧ (writeOutputs s j c outs).free =
      s.free ∧ (writeOutputs s j c outs).out = s.out ∧ (writeOutputs s j c outs).sys = s.sys ∧ (writeOutputs s j c outs).ka =
      s.ka ∧ (writeOutputs s j c outs).flash = s.flash ∧ (writeOutputs s j c outs).journal = s.journal ∧ (writeOutputs s j c
      outs).host = s.host ∧ (writeOutputs s j c outs).ports = s.ports ∧ (writeOutputs s j c outs).pcie = s.pcie ∧
      (writeOutputs s j c outs).log = s.log ∧ (writeOutputs s j c outs).foreman = s.foreman ∧ (writeOutputs s j c outs).pairs
      = s.pairs ∧ (writeOutputs s j c outs).eopen = s.eopen ∧ (writeOutputs s j c outs).ledger = s.ledger ∧ (writeOutputs s j
      c outs).sched = s.sched ∧ (writeOutputs s j c outs).tiles = s.tiles ∧ (writeOutputs s j c outs).assayer = s.assayer ∧
      (writeOutputs s j c outs).fabric = s.fabric ∧ (writeOutputs s j c outs).rumbes = s.rumbes := by
  unfold writeOutputs; simp [*]
@[simp] theorem drainChunk_frame (s : State) (n : Nat) (j : Job) (c : Chunk) :
    (drainChunk s n j c).pending = s.pending ∧ (drainChunk s n j c).now = s.now ∧ (drainChunk s n j c).free = s.free ∧
      (drainChunk s n j c).out = s.out ∧ (drainChunk s n j c).sys = s.sys ∧ (drainChunk s n j c).ka = s.ka ∧ (drainChunk s n j
      c).flash = s.flash ∧ (drainChunk s n j c).journal = s.journal ∧ (drainChunk s n j c).host = s.host ∧ (drainChunk s n j
      c).ports = s.ports ∧ (drainChunk s n j c).pcie = s.pcie ∧ (drainChunk s n j c).log = s.log ∧ (drainChunk s n j
      c).foreman = s.foreman ∧ (drainChunk s n j c).pairs = s.pairs ∧ (drainChunk s n j c).eopen = s.eopen ∧ (drainChunk s n j
      c).ledger = s.ledger ∧ (drainChunk s n j c).tiles = s.tiles ∧ (drainChunk s n j c).assayer = s.assayer ∧ (drainChunk s n
      j c).fabric = s.fabric ∧ (drainChunk s n j c).rumbes = s.rumbes := by
  unfold drainChunk; simp [*]
@[simp] theorem progress_frame (s : State) (j : Job) :
    (progress s j).pending = s.pending ∧ (progress s j).now = s.now ∧ (progress s j).out = s.out ∧ (progress s j).sys =
      s.sys ∧ (progress s j).ka = s.ka ∧ (progress s j).flash = s.flash ∧ (progress s j).journal = s.journal ∧ (progress s
      j).host = s.host ∧ (progress s j).ports = s.ports ∧ (progress s j).pcie = s.pcie ∧ (progress s j).log = s.log ∧
      (progress s j).foreman = s.foreman ∧ (progress s j).pairs = s.pairs ∧ (progress s j).eopen = s.eopen ∧ (progress s
      j).ledger = s.ledger ∧ (progress s j).sched = s.sched ∧ (progress s j).tiles = s.tiles ∧ (progress s j).assayer =
      s.assayer ∧ (progress s j).fabric = s.fabric ∧ (progress s j).rumbes = s.rumbes := by
  unfold progress; simp [*]

/-! ### Sched -/

@[simp] theorem setBehind_frame (s : State) (n : Nat) (b : Bool) :
    (setBehind s n b).pending = s.pending ∧ (setBehind s n b).now = s.now ∧ (setBehind s n b).free = s.free ∧ (setBehind s n
      b).out = s.out ∧ (setBehind s n b).sys = s.sys ∧ (setBehind s n b).ka = s.ka ∧ (setBehind s n b).flash = s.flash ∧
      (setBehind s n b).journal = s.journal ∧ (setBehind s n b).host = s.host ∧ (setBehind s n b).pcie = s.pcie ∧ (setBehind s
      n b).log = s.log ∧ (setBehind s n b).foreman = s.foreman ∧ (setBehind s n b).pairs = s.pairs ∧ (setBehind s n b).eopen =
      s.eopen ∧ (setBehind s n b).ledger = s.ledger ∧ (setBehind s n b).tiles = s.tiles ∧ (setBehind s n b).dram = s.dram ∧
      (setBehind s n b).assayer = s.assayer ∧ (setBehind s n b).fabric = s.fabric ∧ (setBehind s n b).rumbes = s.rumbes := by
  unfold setBehind; simp [*]
@[simp] theorem setDue_frame (s : State) (n from_ : Nat) :
    (setDue s n from_).pending = s.pending ∧ (setDue s n from_).now = s.now ∧ (setDue s n from_).free = s.free ∧ (setDue
      s n from_).out = s.out ∧ (setDue s n from_).sys = s.sys ∧ (setDue s n from_).ka = s.ka ∧ (setDue s n from_).flash
      = s.flash ∧ (setDue s n from_).journal = s.journal ∧ (setDue s n from_).host = s.host ∧ (setDue s n from_).ports =
      s.ports ∧ (setDue s n from_).pcie = s.pcie ∧ (setDue s n from_).log = s.log ∧ (setDue s n from_).foreman =
      s.foreman ∧ (setDue s n from_).pairs = s.pairs ∧ (setDue s n from_).eopen = s.eopen ∧ (setDue s n from_).ledger =
      s.ledger ∧ (setDue s n from_).tiles = s.tiles ∧ (setDue s n from_).dram = s.dram ∧ (setDue s n from_).assayer =
      s.assayer ∧ (setDue s n from_).fabric = s.fabric ∧ (setDue s n from_).rumbes = s.rumbes := by
  unfold setDue; simp -implicitDefEqProofs [*]
@[simp] theorem askFor_frame (s : State) (tile : Nat) (who : Holder) (bs : List Nat) :
    (askFor s tile who bs).pending = s.pending ∧ (askFor s tile who bs).now = s.now ∧ (askFor s tile who bs).free =
      s.free ∧ (askFor s tile who bs).out = s.out ∧ (askFor s tile who bs).sys = s.sys ∧ (askFor s tile who bs).ka =
      s.ka ∧ (askFor s tile who bs).flash = s.flash ∧ (askFor s tile who bs).journal = s.journal ∧ (askFor s tile who
      bs).host = s.host ∧ (askFor s tile who bs).ports = s.ports ∧ (askFor s tile who bs).pcie = s.pcie ∧ (askFor s tile
      who bs).log = s.log ∧ (askFor s tile who bs).foreman = s.foreman ∧ (askFor s tile who bs).pairs = s.pairs ∧
      (askFor s tile who bs).eopen = s.eopen ∧ (askFor s tile who bs).ledger = s.ledger ∧ (askFor s tile who bs).sched =
      s.sched ∧ (askFor s tile who bs).dram = s.dram ∧ (askFor s tile who bs).assayer = s.assayer ∧ (askFor s tile who
      bs).fabric = s.fabric ∧ (askFor s tile who bs).rumbes = s.rumbes := by
  unfold askFor; simp -implicitDefEqProofs [*]
@[simp] theorem askBanks_frame (s : State) (tile unit units : Nat) :
    (askBanks s tile unit units).pending = s.pending ∧ (askBanks s tile unit units).now = s.now ∧ (askBanks s tile unit
      units).free = s.free ∧ (askBanks s tile unit units).out = s.out ∧ (askBanks s tile unit units).sys = s.sys ∧ (askBanks s
      tile unit units).ka = s.ka ∧ (askBanks s tile unit units).flash = s.flash ∧ (askBanks s tile unit units).journal =
      s.journal ∧ (askBanks s tile unit units).host = s.host ∧ (askBanks s tile unit units).ports = s.ports ∧ (askBanks s tile
      unit units).pcie = s.pcie ∧ (askBanks s tile unit units).log = s.log ∧ (askBanks s tile unit units).foreman = s.foreman
      ∧ (askBanks s tile unit units).pairs = s.pairs ∧ (askBanks s tile unit units).eopen = s.eopen ∧ (askBanks s tile unit
      units).ledger = s.ledger ∧ (askBanks s tile unit units).sched = s.sched ∧ (askBanks s tile unit units).dram = s.dram ∧
      (askBanks s tile unit units).assayer = s.assayer ∧ (askBanks s tile unit units).fabric = s.fabric ∧ (askBanks s tile
      unit units).rumbes = s.rumbes := by
  unfold askBanks; simp [*]
@[simp] theorem endCopy_frame (s : State) (n : Nat) :
    (endCopy s n).pending = s.pending ∧ (endCopy s n).now = s.now ∧ (endCopy s n).free = s.free ∧ (endCopy s n).out = s.out
      ∧ (endCopy s n).sys = s.sys ∧ (endCopy s n).ka = s.ka ∧ (endCopy s n).flash = s.flash ∧ (endCopy s n).journal =
      s.journal ∧ (endCopy s n).host = s.host ∧ (endCopy s n).ports = s.ports ∧ (endCopy s n).pcie = s.pcie ∧ (endCopy s
      n).log = s.log ∧ (endCopy s n).foreman = s.foreman ∧ (endCopy s n).pairs = s.pairs ∧ (endCopy s n).eopen = s.eopen ∧
      (endCopy s n).ledger = s.ledger ∧ (endCopy s n).dram = s.dram ∧ (endCopy s n).assayer = s.assayer ∧ (endCopy s n).fabric
      = s.fabric ∧ (endCopy s n).rumbes = s.rumbes := by
  unfold endCopy; simp [*]
@[simp] theorem startCopy_frame (s : State) (n : Nat) (k : XferKind) :
    (startCopy s n k).pending = s.pending ∧ (startCopy s n k).now = s.now ∧ (startCopy s n k).free = s.free ∧ (startCopy s n
      k).out = s.out ∧ (startCopy s n k).sys = s.sys ∧ (startCopy s n k).ka = s.ka ∧ (startCopy s n k).flash = s.flash ∧
      (startCopy s n k).journal = s.journal ∧ (startCopy s n k).host = s.host ∧ (startCopy s n k).ports = s.ports ∧ (startCopy
      s n k).pcie = s.pcie ∧ (startCopy s n k).log = s.log ∧ (startCopy s n k).foreman = s.foreman ∧ (startCopy s n k).pairs =
      s.pairs ∧ (startCopy s n k).eopen = s.eopen ∧ (startCopy s n k).ledger = s.ledger ∧ (startCopy s n k).dram = s.dram ∧
      (startCopy s n k).assayer = s.assayer ∧ (startCopy s n k).fabric = s.fabric ∧ (startCopy s n k).rumbes = s.rumbes := by
  unfold startCopy; simp [*]
@[simp] theorem yieldCkpts_frame (s : State) (tile mask : Nat) :
    (yieldCkpts s tile mask).pending = s.pending ∧ (yieldCkpts s tile mask).now = s.now ∧ (yieldCkpts s tile mask).free =
      s.free ∧ (yieldCkpts s tile mask).out = s.out ∧ (yieldCkpts s tile mask).sys = s.sys ∧ (yieldCkpts s tile mask).ka =
      s.ka ∧ (yieldCkpts s tile mask).flash = s.flash ∧ (yieldCkpts s tile mask).journal = s.journal ∧ (yieldCkpts s tile
      mask).host = s.host ∧ (yieldCkpts s tile mask).ports = s.ports ∧ (yieldCkpts s tile mask).pcie = s.pcie ∧ (yieldCkpts s
      tile mask).log = s.log ∧ (yieldCkpts s tile mask).foreman = s.foreman ∧ (yieldCkpts s tile mask).pairs = s.pairs ∧
      (yieldCkpts s tile mask).eopen = s.eopen ∧ (yieldCkpts s tile mask).ledger = s.ledger ∧ (yieldCkpts s tile mask).dram =
      s.dram ∧ (yieldCkpts s tile mask).assayer = s.assayer ∧ (yieldCkpts s tile mask).fabric = s.fabric ∧ (yieldCkpts s tile
      mask).rumbes = s.rumbes := by
  unfold yieldCkpts; simp [*]
@[simp] theorem beginRun_frame (s : State) (tile : Nat) (w : Work) (step : Nat) (need : Bool) (r : Run) :
    (beginRun s tile w step need r).pending = s.pending ∧ (beginRun s tile w step need r).now = s.now ∧ (beginRun s tile w
      step need r).free = s.free ∧ (beginRun s tile w step need r).out = s.out ∧ (beginRun s tile w step need r).sys = s.sys ∧
      (beginRun s tile w step need r).ka = s.ka ∧ (beginRun s tile w step need r).flash = s.flash ∧ (beginRun s tile w step
      need r).journal = s.journal ∧ (beginRun s tile w step need r).host = s.host ∧ (beginRun s tile w step need r).ports =
      s.ports ∧ (beginRun s tile w step need r).pcie = s.pcie ∧ (beginRun s tile w step need r).log = s.log ∧ (beginRun s tile
      w step need r).foreman = s.foreman ∧ (beginRun s tile w step need r).pairs = s.pairs ∧ (beginRun s tile w step need
      r).eopen = s.eopen ∧ (beginRun s tile w step need r).ledger = s.ledger ∧ (beginRun s tile w step need r).dram = s.dram ∧
      (beginRun s tile w step need r).assayer = s.assayer ∧ (beginRun s tile w step need r).fabric = s.fabric ∧ (beginRun s
      tile w step need r).rumbes = s.rumbes := by
  unfold beginRun; simp [*] <;> (repeat' split) <;> simp [*]
@[simp] theorem dispatchStream_frame (s : State) (n : Nat) :
    (dispatchStream s n).pending = s.pending ∧ (dispatchStream s n).now = s.now ∧ (dispatchStream s n).free = s.free ∧
      (dispatchStream s n).out = s.out ∧ (dispatchStream s n).sys = s.sys ∧ (dispatchStream s n).ka = s.ka ∧ (dispatchStream s
      n).flash = s.flash ∧ (dispatchStream s n).journal = s.journal ∧ (dispatchStream s n).host = s.host ∧ (dispatchStream s
      n).pcie = s.pcie ∧ (dispatchStream s n).log = s.log ∧ (dispatchStream s n).foreman = s.foreman ∧ (dispatchStream s
      n).pairs = s.pairs ∧ (dispatchStream s n).eopen = s.eopen ∧ (dispatchStream s n).ledger = s.ledger ∧ (dispatchStream s
      n).dram = s.dram ∧ (dispatchStream s n).assayer = s.assayer ∧ (dispatchStream s n).fabric = s.fabric ∧ (dispatchStream s
      n).rumbes = s.rumbes := by
  unfold dispatchStream; simp [*]
@[simp] theorem dispatchChunk_frame (s : State) (n : Nat) (j : Job) (c : Chunk) :
    (dispatchChunk s n j c).pending = s.pending ∧ (dispatchChunk s n j c).now = s.now ∧ (dispatchChunk s n j c).free =
      s.free ∧ (dispatchChunk s n j c).out = s.out ∧ (dispatchChunk s n j c).sys = s.sys ∧ (dispatchChunk s n j c).ka = s.ka ∧
      (dispatchChunk s n j c).flash = s.flash ∧ (dispatchChunk s n j c).journal = s.journal ∧ (dispatchChunk s n j c).host =
      s.host ∧ (dispatchChunk s n j c).ports = s.ports ∧ (dispatchChunk s n j c).pcie = s.pcie ∧ (dispatchChunk s n j c).log =
      s.log ∧ (dispatchChunk s n j c).foreman = s.foreman ∧ (dispatchChunk s n j c).pairs = s.pairs ∧ (dispatchChunk s n j
      c).eopen = s.eopen ∧ (dispatchChunk s n j c).ledger = s.ledger ∧ (dispatchChunk s n j c).dram = s.dram ∧ (dispatchChunk
      s n j c).assayer = s.assayer ∧ (dispatchChunk s n j c).fabric = s.fabric ∧ (dispatchChunk s n j c).rumbes = s.rumbes :=
      by
  unfold dispatchChunk; split <;> simp [*]
@[simp] theorem dispatchJob_frame (s : State) (n tile : Nat) :
    (dispatchJob s n tile).pending = s.pending ∧ (dispatchJob s n tile).now = s.now ∧ (dispatchJob s n tile).free = s.free ∧
      (dispatchJob s n tile).out = s.out ∧ (dispatchJob s n tile).sys = s.sys ∧ (dispatchJob s n tile).ka = s.ka ∧
      (dispatchJob s n tile).flash = s.flash ∧ (dispatchJob s n tile).journal = s.journal ∧ (dispatchJob s n tile).host =
      s.host ∧ (dispatchJob s n tile).ports = s.ports ∧ (dispatchJob s n tile).pcie = s.pcie ∧ (dispatchJob s n tile).log =
      s.log ∧ (dispatchJob s n tile).foreman = s.foreman ∧ (dispatchJob s n tile).pairs = s.pairs ∧ (dispatchJob s n
      tile).eopen = s.eopen ∧ (dispatchJob s n tile).ledger = s.ledger ∧ (dispatchJob s n tile).dram = s.dram ∧ (dispatchJob s
      n tile).assayer = s.assayer ∧ (dispatchJob s n tile).fabric = s.fabric ∧ (dispatchJob s n tile).rumbes = s.rumbes := by
  unfold dispatchJob; (repeat' split) <;> simp [*]
@[simp] theorem dispatchBg_frame (s : State) (tile cls : Nat) (w : Nat × Nat × Bool × Nat) :
    (dispatchBg s tile cls w).pending = s.pending ∧ (dispatchBg s tile cls w).now = s.now ∧ (dispatchBg s tile cls w).free =
      s.free ∧ (dispatchBg s tile cls w).out = s.out ∧ (dispatchBg s tile cls w).sys = s.sys ∧ (dispatchBg s tile cls w).ka =
      s.ka ∧ (dispatchBg s tile cls w).flash = s.flash ∧ (dispatchBg s tile cls w).journal = s.journal ∧ (dispatchBg s tile
      cls w).host = s.host ∧ (dispatchBg s tile cls w).pcie = s.pcie ∧ (dispatchBg s tile cls w).log = s.log ∧ (dispatchBg s
      tile cls w).foreman = s.foreman ∧ (dispatchBg s tile cls w).pairs = s.pairs ∧ (dispatchBg s tile cls w).eopen = s.eopen
      ∧ (dispatchBg s tile cls w).ledger = s.ledger ∧ (dispatchBg s tile cls w).dram = s.dram ∧ (dispatchBg s tile cls
      w).assayer = s.assayer ∧ (dispatchBg s tile cls w).fabric = s.fabric ∧ (dispatchBg s tile cls w).rumbes = s.rumbes := by
  unfold dispatchBg; simp [*]
@[simp] theorem dispatchTile_frame (s : State) (tile : Nat) :
    (dispatchTile s tile).pending = s.pending ∧ (dispatchTile s tile).now = s.now ∧ (dispatchTile s tile).free = s.free ∧
      (dispatchTile s tile).out = s.out ∧ (dispatchTile s tile).sys = s.sys ∧ (dispatchTile s tile).ka = s.ka ∧ (dispatchTile
      s tile).flash = s.flash ∧ (dispatchTile s tile).journal = s.journal ∧ (dispatchTile s tile).host = s.host ∧
      (dispatchTile s tile).pcie = s.pcie ∧ (dispatchTile s tile).log = s.log ∧ (dispatchTile s tile).foreman = s.foreman ∧
      (dispatchTile s tile).pairs = s.pairs ∧ (dispatchTile s tile).eopen = s.eopen ∧ (dispatchTile s tile).ledger = s.ledger
      ∧ (dispatchTile s tile).dram = s.dram ∧ (dispatchTile s tile).assayer = s.assayer ∧ (dispatchTile s tile).fabric =
      s.fabric ∧ (dispatchTile s tile).rumbes = s.rumbes := by
  unfold dispatchTile; (repeat' split) <;> simp [*]
@[simp] theorem dropLanes_frame (s : State) :
    (dropLanes s).pending = s.pending ∧ (dropLanes s).now = s.now ∧ (dropLanes s).free = s.free ∧ (dropLanes s).out = s.out
      ∧ (dropLanes s).sys = s.sys ∧ (dropLanes s).ka = s.ka ∧ (dropLanes s).flash = s.flash ∧ (dropLanes s).journal =
      s.journal ∧ (dropLanes s).host = s.host ∧ (dropLanes s).ports = s.ports ∧ (dropLanes s).pcie = s.pcie ∧ (dropLanes
      s).log = s.log ∧ (dropLanes s).foreman = s.foreman ∧ (dropLanes s).pairs = s.pairs ∧ (dropLanes s).eopen = s.eopen ∧
      (dropLanes s).ledger = s.ledger ∧ (dropLanes s).tiles = s.tiles ∧ (dropLanes s).dram = s.dram ∧ (dropLanes s).assayer =
      s.assayer ∧ (dropLanes s).fabric = s.fabric ∧ (dropLanes s).rumbes = s.rumbes := by
  unfold dropLanes; simp [*]
@[simp] theorem freeSlot_frame (s : State) (n : Nat) :
    (freeSlot s n).pending = s.pending ∧ (freeSlot s n).now = s.now ∧ (freeSlot s n).out = s.out ∧ (freeSlot s n).sys =
      s.sys ∧ (freeSlot s n).ka = s.ka ∧ (freeSlot s n).flash = s.flash ∧ (freeSlot s n).journal = s.journal ∧ (freeSlot s
      n).host = s.host ∧ (freeSlot s n).ports = s.ports ∧ (freeSlot s n).pcie = s.pcie ∧ (freeSlot s n).log = s.log ∧
      (freeSlot s n).foreman = s.foreman ∧ (freeSlot s n).pairs = s.pairs ∧ (freeSlot s n).eopen = s.eopen ∧ (freeSlot s
      n).ledger = s.ledger ∧ (freeSlot s n).tiles = s.tiles ∧ (freeSlot s n).dram = s.dram ∧ (freeSlot s n).assayer =
      s.assayer ∧ (freeSlot s n).fabric = s.fabric ∧ (freeSlot s n).rumbes = s.rumbes := by
  unfold freeSlot; simp [*]
@[simp] theorem foremanTidy_frame (s : State) (tile : Nat) :
    (foremanTidy s tile).pending = s.pending ∧ (foremanTidy s tile).now = s.now ∧ (foremanTidy s tile).free = s.free ∧
      (foremanTidy s tile).out = s.out ∧ (foremanTidy s tile).sys = s.sys ∧ (foremanTidy s tile).ka = s.ka ∧
      (foremanTidy s tile).flash = s.flash ∧ (foremanTidy s tile).journal = s.journal ∧ (foremanTidy s tile).host =
      s.host ∧ (foremanTidy s tile).ports = s.ports ∧ (foremanTidy s tile).pcie = s.pcie ∧ (foremanTidy s tile).log =
      s.log ∧ (foremanTidy s tile).foreman = s.foreman ∧ (foremanTidy s tile).pairs = s.pairs ∧ (foremanTidy s
      tile).eopen = s.eopen ∧ (foremanTidy s tile).ledger = s.ledger ∧ (foremanTidy s tile).sched = s.sched ∧
      (foremanTidy s tile).dram = s.dram ∧ (foremanTidy s tile).assayer = s.assayer ∧ (foremanTidy s tile).fabric =
      s.fabric ∧ (foremanTidy s tile).rumbes = s.rumbes := by
  unfold foremanTidy; simp -implicitDefEqProofs [*]
@[simp] theorem releaseStream_frame (s : State) (n : Nat) :
    (releaseStream s n).pending = s.pending ∧ (releaseStream s n).now = s.now ∧ (releaseStream s n).out = s.out ∧
      (releaseStream s n).sys = s.sys ∧ (releaseStream s n).ka = s.ka ∧ (releaseStream s n).flash = s.flash ∧ (releaseStream s
      n).journal = s.journal ∧ (releaseStream s n).host = s.host ∧ (releaseStream s n).ports = s.ports ∧ (releaseStream s
      n).pcie = s.pcie ∧ (releaseStream s n).log = s.log ∧ (releaseStream s n).foreman = s.foreman ∧ (releaseStream s n).pairs
      = s.pairs ∧ (releaseStream s n).eopen = s.eopen ∧ (releaseStream s n).ledger = s.ledger ∧ (releaseStream s n).dram =
      s.dram ∧ (releaseStream s n).assayer = s.assayer ∧ (releaseStream s n).fabric = s.fabric ∧ (releaseStream s n).rumbes =
      s.rumbes := by
  unfold releaseStream; simp [*]
@[simp] theorem applyParams_frame (s : State) (n : Nat) :
    (applyParams s n).pending = s.pending ∧ (applyParams s n).now = s.now ∧ (applyParams s n).free = s.free ∧ (applyParams s
      n).out = s.out ∧ (applyParams s n).sys = s.sys ∧ (applyParams s n).ka = s.ka ∧ (applyParams s n).flash = s.flash ∧
      (applyParams s n).journal = s.journal ∧ (applyParams s n).host = s.host ∧ (applyParams s n).ports = s.ports ∧
      (applyParams s n).pcie = s.pcie ∧ (applyParams s n).log = s.log ∧ (applyParams s n).foreman = s.foreman ∧ (applyParams s
      n).pairs = s.pairs ∧ (applyParams s n).eopen = s.eopen ∧ (applyParams s n).ledger = s.ledger ∧ (applyParams s n).assayer
      = s.assayer ∧ (applyParams s n).fabric = s.fabric ∧ (applyParams s n).rumbes = s.rumbes := by
  unfold applyParams; simp [*]
@[simp] theorem leaveOnline_frame (s : State) (n c : Nat) :
    (leaveOnline s n c).pending = s.pending ∧ (leaveOnline s n c).now = s.now ∧ (leaveOnline s n c).free = s.free ∧
      (leaveOnline s n c).out = s.out ∧ (leaveOnline s n c).sys = s.sys ∧ (leaveOnline s n c).ka = s.ka ∧ (leaveOnline s
      n c).flash = s.flash ∧ (leaveOnline s n c).journal = s.journal ∧ (leaveOnline s n c).host = s.host ∧ (leaveOnline
      s n c).pcie = s.pcie ∧ (leaveOnline s n c).log = s.log ∧ (leaveOnline s n c).foreman = s.foreman ∧ (leaveOnline s
      n c).pairs = s.pairs ∧ (leaveOnline s n c).eopen = s.eopen ∧ (leaveOnline s n c).ledger = s.ledger ∧ (leaveOnline
      s n c).tiles = s.tiles ∧ (leaveOnline s n c).dram = s.dram ∧ (leaveOnline s n c).assayer = s.assayer ∧
      (leaveOnline s n c).fabric = s.fabric ∧ (leaveOnline s n c).rumbes = s.rumbes := by
  unfold leaveOnline; simp -implicitDefEqProofs [*]
@[simp] theorem applySwap_frame (s : State) (n : Nat) (st : Stream) :
    (applySwap s n st).pending = s.pending ∧ (applySwap s n st).now = s.now ∧ (applySwap s n st).free = s.free ∧
      (applySwap s n st).out = s.out ∧ (applySwap s n st).sys = s.sys ∧ (applySwap s n st).ka = s.ka ∧ (applySwap s n
      st).flash = s.flash ∧ (applySwap s n st).journal = s.journal ∧ (applySwap s n st).host = s.host ∧ (applySwap s n
      st).ports = s.ports ∧ (applySwap s n st).pcie = s.pcie ∧ (applySwap s n st).log = s.log ∧ (applySwap s n
      st).foreman = s.foreman ∧ (applySwap s n st).pairs = s.pairs ∧ (applySwap s n st).eopen = s.eopen ∧ (applySwap s n
      st).ledger = s.ledger ∧ (applySwap s n st).dram = s.dram ∧ (applySwap s n st).assayer = s.assayer ∧ (applySwap s n
      st).fabric = s.fabric ∧ (applySwap s n st).rumbes = s.rumbes := by
  unfold applySwap; split <;> simp -implicitDefEqProofs [*]
@[simp] theorem applySet_frame (s : State) (n : Nat) :
    (applySet s n).pending = s.pending ∧ (applySet s n).now = s.now ∧ (applySet s n).free = s.free ∧ (applySet s n).out
      = s.out ∧ (applySet s n).sys = s.sys ∧ (applySet s n).ka = s.ka ∧ (applySet s n).flash = s.flash ∧ (applySet s
      n).journal = s.journal ∧ (applySet s n).host = s.host ∧ (applySet s n).pcie = s.pcie ∧ (applySet s n).log = s.log
      ∧ (applySet s n).foreman = s.foreman ∧ (applySet s n).pairs = s.pairs ∧ (applySet s n).eopen = s.eopen ∧ (applySet
      s n).ledger = s.ledger ∧ (applySet s n).dram = s.dram ∧ (applySet s n).assayer = s.assayer ∧ (applySet s n).fabric
      = s.fabric ∧ (applySet s n).rumbes = s.rumbes := by
  unfold applySet; dsimp only; (repeat' split) <;> simp -implicitDefEqProofs [*]
@[simp] theorem applyBetween_frame (s : State) (n : Nat) :
    (applyBetween s n).pending = s.pending ∧ (applyBetween s n).now = s.now ∧ (applyBetween s n).free = s.free ∧
      (applyBetween s n).out = s.out ∧ (applyBetween s n).sys = s.sys ∧ (applyBetween s n).ka = s.ka ∧ (applyBetween s
      n).flash = s.flash ∧ (applyBetween s n).journal = s.journal ∧ (applyBetween s n).host = s.host ∧ (applyBetween s
      n).pcie = s.pcie ∧ (applyBetween s n).log = s.log ∧ (applyBetween s n).foreman = s.foreman ∧ (applyBetween s
      n).pairs = s.pairs ∧ (applyBetween s n).eopen = s.eopen ∧ (applyBetween s n).ledger = s.ledger ∧ (applyBetween s
      n).assayer = s.assayer ∧ (applyBetween s n).fabric = s.fabric ∧ (applyBetween s n).rumbes = s.rumbes := by
  unfold applyBetween; simp -implicitDefEqProofs [*]
@[simp] theorem settleStream_frame (s : State) (n : Nat) :
    (settleStream s n).pending = s.pending ∧ (settleStream s n).now = s.now ∧ (settleStream s n).free = s.free ∧
      (settleStream s n).out = s.out ∧ (settleStream s n).sys = s.sys ∧ (settleStream s n).ka = s.ka ∧ (settleStream s
      n).flash = s.flash ∧ (settleStream s n).journal = s.journal ∧ (settleStream s n).host = s.host ∧ (settleStream s
      n).pcie = s.pcie ∧ (settleStream s n).log = s.log ∧ (settleStream s n).foreman = s.foreman ∧ (settleStream s
      n).pairs = s.pairs ∧ (settleStream s n).eopen = s.eopen ∧ (settleStream s n).ledger = s.ledger ∧ (settleStream s
      n).assayer = s.assayer ∧ (settleStream s n).fabric = s.fabric ∧ (settleStream s n).rumbes = s.rumbes := by
  unfold settleStream; simp -implicitDefEqProofs [*]
@[simp] theorem betweenSteps_frame (s : State) (n : Nat) :
    (betweenSteps s n).pending = s.pending ∧ (betweenSteps s n).now = s.now ∧ (betweenSteps s n).out = s.out ∧
      (betweenSteps s n).sys = s.sys ∧ (betweenSteps s n).ka = s.ka ∧ (betweenSteps s n).flash = s.flash ∧ (betweenSteps
      s n).journal = s.journal ∧ (betweenSteps s n).host = s.host ∧ (betweenSteps s n).pcie = s.pcie ∧ (betweenSteps s
      n).log = s.log ∧ (betweenSteps s n).foreman = s.foreman ∧ (betweenSteps s n).pairs = s.pairs ∧ (betweenSteps s
      n).eopen = s.eopen ∧ (betweenSteps s n).ledger = s.ledger ∧ (betweenSteps s n).assayer = s.assayer ∧ (betweenSteps
      s n).fabric = s.fabric ∧ (betweenSteps s n).rumbes = s.rumbes := by
  unfold betweenSteps; simp -implicitDefEqProofs [*]
@[simp] theorem setReset_frame (s : State) (n : Nat) :
    (setReset s n).pending = s.pending ∧ (setReset s n).now = s.now ∧ (setReset s n).free = s.free ∧ (setReset s n).out =
      s.out ∧ (setReset s n).sys = s.sys ∧ (setReset s n).ka = s.ka ∧ (setReset s n).flash = s.flash ∧ (setReset s n).journal
      = s.journal ∧ (setReset s n).host = s.host ∧ (setReset s n).ports = s.ports ∧ (setReset s n).pcie = s.pcie ∧ (setReset s
      n).log = s.log ∧ (setReset s n).foreman = s.foreman ∧ (setReset s n).pairs = s.pairs ∧ (setReset s n).eopen = s.eopen ∧
      (setReset s n).ledger = s.ledger ∧ (setReset s n).tiles = s.tiles ∧ (setReset s n).dram = s.dram ∧ (setReset s
      n).assayer = s.assayer ∧ (setReset s n).fabric = s.fabric ∧ (setReset s n).rumbes = s.rumbes := by
  unfold setReset; simp [*]
@[simp] theorem pauseFreed_frame (s : State) (n reason : Nat) :
    (pauseFreed s n reason).pending = s.pending ∧ (pauseFreed s n reason).now = s.now ∧ (pauseFreed s n reason).out =
      s.out ∧ (pauseFreed s n reason).sys = s.sys ∧ (pauseFreed s n reason).ka = s.ka ∧ (pauseFreed s n reason).flash =
      s.flash ∧ (pauseFreed s n reason).journal = s.journal ∧ (pauseFreed s n reason).host = s.host ∧ (pauseFreed s n
      reason).pcie = s.pcie ∧ (pauseFreed s n reason).log = s.log ∧ (pauseFreed s n reason).foreman = s.foreman ∧
      (pauseFreed s n reason).pairs = s.pairs ∧ (pauseFreed s n reason).eopen = s.eopen ∧ (pauseFreed s n reason).ledger
      = s.ledger ∧ (pauseFreed s n reason).dram = s.dram ∧ (pauseFreed s n reason).assayer = s.assayer ∧ (pauseFreed s n
      reason).fabric = s.fabric ∧ (pauseFreed s n reason).rumbes = s.rumbes := by
  unfold pauseFreed; simp -implicitDefEqProofs [*]
@[simp] theorem countUsage_frame (s : State) (tile : Nat) (r : Run) :
    (countUsage s tile r).pending = s.pending ∧ (countUsage s tile r).now = s.now ∧ (countUsage s tile r).free = s.free ∧
      (countUsage s tile r).out = s.out ∧ (countUsage s tile r).sys = s.sys ∧ (countUsage s tile r).ka = s.ka ∧ (countUsage s
      tile r).flash = s.flash ∧ (countUsage s tile r).journal = s.journal ∧ (countUsage s tile r).host = s.host ∧ (countUsage
      s tile r).ports = s.ports ∧ (countUsage s tile r).pcie = s.pcie ∧ (countUsage s tile r).log = s.log ∧ (countUsage s tile
      r).foreman = s.foreman ∧ (countUsage s tile r).pairs = s.pairs ∧ (countUsage s tile r).eopen = s.eopen ∧ (countUsage s
      tile r).ledger = s.ledger ∧ (countUsage s tile r).tiles = s.tiles ∧ (countUsage s tile r).dram = s.dram ∧ (countUsage s
      tile r).assayer = s.assayer ∧ (countUsage s tile r).fabric = s.fabric ∧ (countUsage s tile r).rumbes = s.rumbes := by
  unfold countUsage; simp [*]
@[simp] theorem rehome_frame (s : State) (n : Nat) (p : Nat × Nat) :
    (rehome s n p).pending = s.pending ∧ (rehome s n p).now = s.now ∧ (rehome s n p).free = s.free ∧ (rehome s n p).out
      = s.out ∧ (rehome s n p).sys = s.sys ∧ (rehome s n p).ka = s.ka ∧ (rehome s n p).flash = s.flash ∧ (rehome s n
      p).journal = s.journal ∧ (rehome s n p).host = s.host ∧ (rehome s n p).pcie = s.pcie ∧ (rehome s n p).log = s.log
      ∧ (rehome s n p).foreman = s.foreman ∧ (rehome s n p).pairs = s.pairs ∧ (rehome s n p).eopen = s.eopen ∧ (rehome s
      n p).ledger = s.ledger ∧ (rehome s n p).assayer = s.assayer ∧ (rehome s n p).fabric = s.fabric ∧ (rehome s n
      p).rumbes = s.rumbes := by
  unfold rehome; simp -implicitDefEqProofs [*]
@[simp] theorem moveStream_frame (s : State) (n : Nat) (p : Nat × Nat) :
    (moveStream s n p).pending = s.pending ∧ (moveStream s n p).now = s.now ∧ (moveStream s n p).free = s.free ∧
      (moveStream s n p).out = s.out ∧ (moveStream s n p).sys = s.sys ∧ (moveStream s n p).ka = s.ka ∧ (moveStream s n
      p).flash = s.flash ∧ (moveStream s n p).journal = s.journal ∧ (moveStream s n p).host = s.host ∧ (moveStream s n
      p).ports = s.ports ∧ (moveStream s n p).pcie = s.pcie ∧ (moveStream s n p).log = s.log ∧ (moveStream s n
      p).foreman = s.foreman ∧ (moveStream s n p).pairs = s.pairs ∧ (moveStream s n p).eopen = s.eopen ∧ (moveStream s n
      p).ledger = s.ledger ∧ (moveStream s n p).dram = s.dram ∧ (moveStream s n p).assayer = s.assayer ∧ (moveStream s n
      p).fabric = s.fabric ∧ (moveStream s n p).rumbes = s.rumbes := by
  unfold moveStream; (repeat' split) <;> simp -implicitDefEqProofs [*]
@[simp] theorem fixBound_frame (s : State) (n : Nat) :
    (fixBound s n).pending = s.pending ∧ (fixBound s n).now = s.now ∧ (fixBound s n).free = s.free ∧ (fixBound s n).out
      = s.out ∧ (fixBound s n).sys = s.sys ∧ (fixBound s n).ka = s.ka ∧ (fixBound s n).flash = s.flash ∧ (fixBound s
      n).journal = s.journal ∧ (fixBound s n).host = s.host ∧ (fixBound s n).pcie = s.pcie ∧ (fixBound s n).log = s.log
      ∧ (fixBound s n).foreman = s.foreman ∧ (fixBound s n).pairs = s.pairs ∧ (fixBound s n).eopen = s.eopen ∧ (fixBound
      s n).ledger = s.ledger ∧ (fixBound s n).assayer = s.assayer ∧ (fixBound s n).fabric = s.fabric ∧ (fixBound s
      n).rumbes = s.rumbes := by
  unfold fixBound; dsimp only; (repeat' split) <;> simp -implicitDefEqProofs [*]
@[simp] theorem fixJob_frame (s : State) (n : Nat) :
    (fixJob s n).pending = s.pending ∧ (fixJob s n).now = s.now ∧ (fixJob s n).free = s.free ∧ (fixJob s n).out = s.out ∧
      (fixJob s n).sys = s.sys ∧ (fixJob s n).ka = s.ka ∧ (fixJob s n).flash = s.flash ∧ (fixJob s n).journal = s.journal ∧
      (fixJob s n).host = s.host ∧ (fixJob s n).pcie = s.pcie ∧ (fixJob s n).log = s.log ∧ (fixJob s n).foreman = s.foreman ∧
      (fixJob s n).pairs = s.pairs ∧ (fixJob s n).eopen = s.eopen ∧ (fixJob s n).ledger = s.ledger ∧ (fixJob s n).tiles =
      s.tiles ∧ (fixJob s n).dram = s.dram ∧ (fixJob s n).assayer = s.assayer ∧ (fixJob s n).fabric = s.fabric ∧ (fixJob s
      n).rumbes = s.rumbes := by
  unfold fixJob; (repeat' split) <;> simp [*]
@[simp] theorem refitWatch_frame (s : State) :
    (refitWatch s).pending = s.pending ∧ (refitWatch s).now = s.now ∧ (refitWatch s).free = s.free ∧ (refitWatch s).out
      = s.out ∧ (refitWatch s).sys = s.sys ∧ (refitWatch s).ka = s.ka ∧ (refitWatch s).flash = s.flash ∧ (refitWatch
      s).journal = s.journal ∧ (refitWatch s).host = s.host ∧ (refitWatch s).ports = s.ports ∧ (refitWatch s).pcie =
      s.pcie ∧ (refitWatch s).log = s.log ∧ (refitWatch s).foreman = s.foreman ∧ (refitWatch s).pairs = s.pairs ∧
      (refitWatch s).eopen = s.eopen ∧ (refitWatch s).ledger = s.ledger ∧ (refitWatch s).tiles = s.tiles ∧ (refitWatch
      s).dram = s.dram ∧ (refitWatch s).assayer = s.assayer ∧ (refitWatch s).fabric = s.fabric ∧ (refitWatch s).rumbes =
      s.rumbes := by
  refine ⟨?_, ?_, ?_, ?_, ?_, ?_, ?_, ?_, ?_, ?_, ?_, ?_, ?_, ?_, ?_, ?_, ?_, ?_, ?_, ?_, ?_⟩
  · unfold refitWatch; exact (foldl_pending _ _ _ (fun s x => by (repeat' split) <;> simp -implicitDefEqProofs)).trans (by simp -implicitDefEqProofs)
  · unfold refitWatch; exact (foldl_now _ _ _ (fun s x => by (repeat' split) <;> simp -implicitDefEqProofs)).trans (by simp -implicitDefEqProofs)
  · unfold refitWatch; exact (foldl_free _ _ _ (fun s x => by (repeat' split) <;> simp -implicitDefEqProofs)).trans (by simp -implicitDefEqProofs)
  · unfold refitWatch; exact (foldl_out _ _ _ (fun s x => by (repeat' split) <;> simp -implicitDefEqProofs)).trans (by simp -implicitDefEqProofs)
  · unfold refitWatch; exact (foldl_sys _ _ _ (fun s x => by (repeat' split) <;> simp -implicitDefEqProofs)).trans (by simp -implicitDefEqProofs)
  · unfold refitWatch; exact (foldl_ka _ _ _ (fun s x => by (repeat' split) <;> simp -implicitDefEqProofs)).trans (by simp -implicitDefEqProofs)
  · unfold refitWatch; exact (foldl_flash _ _ _ (fun s x => by (repeat' split) <;> simp -implicitDefEqProofs)).trans (by simp -implicitDefEqProofs)
  · unfold refitWatch; exact (foldl_journal _ _ _ (fun s x => by (repeat' split) <;> simp -implicitDefEqProofs)).trans (by simp -implicitDefEqProofs)
  · unfold refitWatch; exact (foldl_host _ _ _ (fun s x => by (repeat' split) <;> simp -implicitDefEqProofs)).trans (by simp -implicitDefEqProofs)
  · unfold refitWatch; exact (foldl_ports _ _ _ (fun s x => by (repeat' split) <;> simp -implicitDefEqProofs)).trans (by simp -implicitDefEqProofs)
  · unfold refitWatch; exact (foldl_pcie _ _ _ (fun s x => by (repeat' split) <;> simp -implicitDefEqProofs)).trans (by simp -implicitDefEqProofs)
  · unfold refitWatch; exact (foldl_log _ _ _ (fun s x => by (repeat' split) <;> simp -implicitDefEqProofs)).trans (by simp -implicitDefEqProofs)
  · unfold refitWatch; exact (foldl_foreman _ _ _ (fun s x => by (repeat' split) <;> simp -implicitDefEqProofs)).trans (by simp -implicitDefEqProofs)
  · unfold refitWatch; exact (foldl_pairs _ _ _ (fun s x => by (repeat' split) <;> simp -implicitDefEqProofs)).trans (by simp -implicitDefEqProofs)
  · unfold refitWatch; exact (foldl_eopen _ _ _ (fun s x => by (repeat' split) <;> simp -implicitDefEqProofs)).trans (by simp -implicitDefEqProofs)
  · unfold refitWatch; exact (foldl_ledger _ _ _ (fun s x => by (repeat' split) <;> simp -implicitDefEqProofs)).trans (by simp -implicitDefEqProofs)
  · unfold refitWatch; exact (foldl_tiles _ _ _ (fun s x => by (repeat' split) <;> simp -implicitDefEqProofs)).trans (by simp -implicitDefEqProofs)
  · unfold refitWatch; exact (foldl_dram _ _ _ (fun s x => by (repeat' split) <;> simp -implicitDefEqProofs)).trans (by simp -implicitDefEqProofs)
  · unfold refitWatch; exact (foldl_assayer _ _ _ (fun s x => by (repeat' split) <;> simp -implicitDefEqProofs)).trans (by simp -implicitDefEqProofs)
  · unfold refitWatch; exact (foldl_fabric _ _ _ (fun s x => by (repeat' split) <;> simp -implicitDefEqProofs)).trans (by simp -implicitDefEqProofs)
  · unfold refitWatch; exact (foldl_rumbes _ _ _ (fun s x => by (repeat' split) <;> simp -implicitDefEqProofs)).trans (by simp -implicitDefEqProofs)
@[simp] theorem fixWork_frame (s : State) (w : WorkNo) :
    (fixWork s w).pending = s.pending ∧ (fixWork s w).now = s.now ∧ (fixWork s w).free = s.free ∧ (fixWork s w).out =
      s.out ∧ (fixWork s w).sys = s.sys ∧ (fixWork s w).ka = s.ka ∧ (fixWork s w).flash = s.flash ∧ (fixWork s
      w).journal = s.journal ∧ (fixWork s w).host = s.host ∧ (fixWork s w).pcie = s.pcie ∧ (fixWork s w).log = s.log ∧
      (fixWork s w).foreman = s.foreman ∧ (fixWork s w).pairs = s.pairs ∧ (fixWork s w).eopen = s.eopen ∧ (fixWork s
      w).ledger = s.ledger ∧ (fixWork s w).assayer = s.assayer ∧ (fixWork s w).fabric = s.fabric ∧ (fixWork s w).rumbes
      = s.rumbes := by
  unfold fixWork; simp -implicitDefEqProofs [*]
@[simp] theorem recheck_frame (s : State) :
    (recheck s).pending = s.pending ∧ (recheck s).now = s.now ∧ (recheck s).free = s.free ∧ (recheck s).out = s.out ∧
      (recheck s).sys = s.sys ∧ (recheck s).ka = s.ka ∧ (recheck s).flash = s.flash ∧ (recheck s).journal = s.journal ∧
      (recheck s).host = s.host ∧ (recheck s).pcie = s.pcie ∧ (recheck s).log = s.log ∧ (recheck s).foreman = s.foreman
      ∧ (recheck s).pairs = s.pairs ∧ (recheck s).eopen = s.eopen ∧ (recheck s).ledger = s.ledger ∧ (recheck s).assayer
      = s.assayer ∧ (recheck s).fabric = s.fabric ∧ (recheck s).rumbes = s.rumbes := by
  unfold recheck; simp -implicitDefEqProofs [*]
@[simp] theorem streamAbort_frame (s : State) (n : Nat) (code : AbortCode) :
    (streamAbort s n code).pending = s.pending ∧ (streamAbort s n code).now = s.now ∧ (streamAbort s n code).out = s.out ∧
      (streamAbort s n code).sys = s.sys ∧ (streamAbort s n code).ka = s.ka ∧ (streamAbort s n code).flash = s.flash ∧
      (streamAbort s n code).journal = s.journal ∧ (streamAbort s n code).host = s.host ∧ (streamAbort s n code).pcie = s.pcie
      ∧ (streamAbort s n code).log = s.log ∧ (streamAbort s n code).foreman = s.foreman ∧ (streamAbort s n code).pairs =
      s.pairs ∧ (streamAbort s n code).eopen = s.eopen ∧ (streamAbort s n code).ledger = s.ledger ∧ (streamAbort s n
      code).assayer = s.assayer ∧ (streamAbort s n code).fabric = s.fabric ∧ (streamAbort s n code).rumbes = s.rumbes := by
  unfold streamAbort; simp [*]
@[simp] theorem jobAbort_frame (s : State) (n tile : Nat) (code : AbortCode) :
    (jobAbort s n tile code).pending = s.pending ∧ (jobAbort s n tile code).now = s.now ∧ (jobAbort s n tile code).free =
      s.free ∧ (jobAbort s n tile code).out = s.out ∧ (jobAbort s n tile code).sys = s.sys ∧ (jobAbort s n tile code).ka =
      s.ka ∧ (jobAbort s n tile code).flash = s.flash ∧ (jobAbort s n tile code).journal = s.journal ∧ (jobAbort s n tile
      code).host = s.host ∧ (jobAbort s n tile code).pcie = s.pcie ∧ (jobAbort s n tile code).log = s.log ∧ (jobAbort s n tile
      code).foreman = s.foreman ∧ (jobAbort s n tile code).pairs = s.pairs ∧ (jobAbort s n tile code).eopen = s.eopen ∧
      (jobAbort s n tile code).ledger = s.ledger ∧ (jobAbort s n tile code).tiles = s.tiles ∧ (jobAbort s n tile code).dram =
      s.dram ∧ (jobAbort s n tile code).assayer = s.assayer ∧ (jobAbort s n tile code).fabric = s.fabric ∧ (jobAbort s n tile
      code).rumbes = s.rumbes := by
  unfold jobAbort; split <;> simp [*]
@[simp] theorem leaveTile_frame (s : State) (tile : Nat) (r : Run) :
    (leaveTile s tile r).pending = s.pending ∧ (leaveTile s tile r).now = s.now ∧ (leaveTile s tile r).free = s.free ∧
      (leaveTile s tile r).out = s.out ∧ (leaveTile s tile r).sys = s.sys ∧ (leaveTile s tile r).ka = s.ka ∧ (leaveTile
      s tile r).flash = s.flash ∧ (leaveTile s tile r).journal = s.journal ∧ (leaveTile s tile r).host = s.host ∧
      (leaveTile s tile r).ports = s.ports ∧ (leaveTile s tile r).pcie = s.pcie ∧ (leaveTile s tile r).log = s.log ∧
      (leaveTile s tile r).foreman = s.foreman ∧ (leaveTile s tile r).pairs = s.pairs ∧ (leaveTile s tile r).eopen =
      s.eopen ∧ (leaveTile s tile r).ledger = s.ledger ∧ (leaveTile s tile r).dram = s.dram ∧ (leaveTile s tile
      r).assayer = s.assayer ∧ (leaveTile s tile r).fabric = s.fabric ∧ (leaveTile s tile r).rumbes = s.rumbes := by
  unfold leaveTile; simp -implicitDefEqProofs [*]
@[simp] theorem abortTile_frame (s : State) (tile : Nat) (code : AbortCode) (slot : Option Nat) :
    (abortTile s tile code slot).pending = s.pending ∧ (abortTile s tile code slot).now = s.now ∧ (abortTile s tile code
      slot).out = s.out ∧ (abortTile s tile code slot).sys = s.sys ∧ (abortTile s tile code slot).flash = s.flash ∧
      (abortTile s tile code slot).journal = s.journal ∧ (abortTile s tile code slot).host = s.host ∧ (abortTile s tile
      code slot).pcie = s.pcie ∧ (abortTile s tile code slot).foreman = s.foreman ∧ (abortTile s tile code slot).pairs =
      s.pairs ∧ (abortTile s tile code slot).eopen = s.eopen ∧ (abortTile s tile code slot).ledger = s.ledger ∧
      (abortTile s tile code slot).assayer = s.assayer ∧ (abortTile s tile code slot).fabric = s.fabric ∧ (abortTile s
      tile code slot).rumbes = s.rumbes := by
  unfold abortTile; (repeat' split) <;> simp -implicitDefEqProofs [*]
@[simp] theorem ringWrite_frame (s : State) (tenant ring : Nat) (entry : List Byte) :
    (ringWrite s tenant ring entry).pending = s.pending ∧ (ringWrite s tenant ring entry).now = s.now ∧ (ringWrite s tenant
      ring entry).free = s.free ∧ (ringWrite s tenant ring entry).out = s.out ∧ (ringWrite s tenant ring entry).sys = s.sys ∧
      (ringWrite s tenant ring entry).ka = s.ka ∧ (ringWrite s tenant ring entry).flash = s.flash ∧ (ringWrite s tenant ring
      entry).journal = s.journal ∧ (ringWrite s tenant ring entry).host = s.host ∧ (ringWrite s tenant ring entry).ports =
      s.ports ∧ (ringWrite s tenant ring entry).pcie = s.pcie ∧ (ringWrite s tenant ring entry).log = s.log ∧ (ringWrite s
      tenant ring entry).foreman = s.foreman ∧ (ringWrite s tenant ring entry).pairs = s.pairs ∧ (ringWrite s tenant ring
      entry).eopen = s.eopen ∧ (ringWrite s tenant ring entry).ledger = s.ledger ∧ (ringWrite s tenant ring entry).sched =
      s.sched ∧ (ringWrite s tenant ring entry).tiles = s.tiles ∧ (ringWrite s tenant ring entry).assayer = s.assayer ∧
      (ringWrite s tenant ring entry).fabric = s.fabric ∧ (ringWrite s tenant ring entry).rumbes = s.rumbes := by
  unfold ringWrite; split <;> simp [*]
@[simp] theorem sendEstimate_frame (s : State) (st : Stream) (r : Run) (entry : List Byte) :
    (sendEstimate s st r entry).pending = s.pending ∧ (sendEstimate s st r entry).now = s.now ∧ (sendEstimate s st r
      entry).free = s.free ∧ (sendEstimate s st r entry).out = s.out ∧ (sendEstimate s st r entry).flash = s.flash ∧
      (sendEstimate s st r entry).journal = s.journal ∧ (sendEstimate s st r entry).host = s.host ∧ (sendEstimate s st r
      entry).pcie = s.pcie ∧ (sendEstimate s st r entry).foreman = s.foreman ∧ (sendEstimate s st r entry).pairs = s.pairs ∧
      (sendEstimate s st r entry).eopen = s.eopen ∧ (sendEstimate s st r entry).ledger = s.ledger ∧ (sendEstimate s st r
      entry).sched = s.sched ∧ (sendEstimate s st r entry).tiles = s.tiles ∧ (sendEstimate s st r entry).dram = s.dram ∧
      (sendEstimate s st r entry).fabric = s.fabric ∧ (sendEstimate s st r entry).rumbes = s.rumbes := by
  unfold sendEstimate; simp [*]
@[simp] theorem afterCommit_frame (s : State) (n : Nat) :
    (afterCommit s n).pending = s.pending ∧ (afterCommit s n).now = s.now ∧ (afterCommit s n).out = s.out ∧ (afterCommit s
      n).sys = s.sys ∧ (afterCommit s n).ka = s.ka ∧ (afterCommit s n).flash = s.flash ∧ (afterCommit s n).journal = s.journal
      ∧ (afterCommit s n).host = s.host ∧ (afterCommit s n).pcie = s.pcie ∧ (afterCommit s n).log = s.log ∧ (afterCommit s
      n).foreman = s.foreman ∧ (afterCommit s n).pairs = s.pairs ∧ (afterCommit s n).eopen = s.eopen ∧ (afterCommit s
      n).ledger = s.ledger ∧ (afterCommit s n).dram = s.dram ∧ (afterCommit s n).assayer = s.assayer ∧ (afterCommit s
      n).fabric = s.fabric ∧ (afterCommit s n).rumbes = s.rumbes := by
  unfold afterCommit; simp [*] <;> (repeat' split) <;> simp [*]
@[simp] theorem streamCommit_frame (s : State) (n : Nat) (r : Run) :
    (streamCommit s n r).pending = s.pending ∧ (streamCommit s n r).now = s.now ∧ (streamCommit s n r).out = s.out ∧
      (streamCommit s n r).flash = s.flash ∧ (streamCommit s n r).journal = s.journal ∧ (streamCommit s n r).host = s.host ∧
      (streamCommit s n r).pcie = s.pcie ∧ (streamCommit s n r).foreman = s.foreman ∧ (streamCommit s n r).pairs = s.pairs ∧
      (streamCommit s n r).eopen = s.eopen ∧ (streamCommit s n r).ledger = s.ledger ∧ (streamCommit s n r).fabric = s.fabric ∧
      (streamCommit s n r).rumbes = s.rumbes := by
  unfold streamCommit; simp [*]
@[simp] theorem jobCommit_frame (s : State) (n tile : Nat) (r : Run) :
    (jobCommit s n tile r).pending = s.pending ∧ (jobCommit s n tile r).now = s.now ∧ (jobCommit s n tile r).out = s.out ∧
      (jobCommit s n tile r).sys = s.sys ∧ (jobCommit s n tile r).ka = s.ka ∧ (jobCommit s n tile r).flash = s.flash ∧
      (jobCommit s n tile r).journal = s.journal ∧ (jobCommit s n tile r).host = s.host ∧ (jobCommit s n tile r).pcie = s.pcie
      ∧ (jobCommit s n tile r).log = s.log ∧ (jobCommit s n tile r).foreman = s.foreman ∧ (jobCommit s n tile r).pairs =
      s.pairs ∧ (jobCommit s n tile r).eopen = s.eopen ∧ (jobCommit s n tile r).ledger = s.ledger ∧ (jobCommit s n tile
      r).tiles = s.tiles ∧ (jobCommit s n tile r).assayer = s.assayer ∧ (jobCommit s n tile r).fabric = s.fabric ∧ (jobCommit
      s n tile r).rumbes = s.rumbes := by
  unfold jobCommit; simp [*] <;> (repeat' split) <;> simp [*]
@[simp] theorem commitTile_frame (s : State) (tile : Nat) :
    (commitTile s tile).pending = s.pending ∧ (commitTile s tile).now = s.now ∧ (commitTile s tile).out = s.out ∧
      (commitTile s tile).flash = s.flash ∧ (commitTile s tile).journal = s.journal ∧ (commitTile s tile).host = s.host ∧
      (commitTile s tile).pcie = s.pcie ∧ (commitTile s tile).foreman = s.foreman ∧ (commitTile s tile).pairs = s.pairs ∧
      (commitTile s tile).eopen = s.eopen ∧ (commitTile s tile).ledger = s.ledger ∧ (commitTile s tile).fabric = s.fabric ∧
      (commitTile s tile).rumbes = s.rumbes := by
  unfold commitTile; (repeat' split) <;> simp [*]

/-! ### TileIssue -/

@[simp] theorem advance_frame (s : State) (tile : Nat) :
    (advance s tile).pending = s.pending ∧ (advance s tile).now = s.now ∧ (advance s tile).sys = s.sys ∧ (advance s
      tile).flash = s.flash ∧ (advance s tile).journal = s.journal ∧ (advance s tile).host = s.host ∧ (advance s tile).pcie =
      s.pcie ∧ (advance s tile).foreman = s.foreman ∧ (advance s tile).pairs = s.pairs ∧ (advance s tile).eopen = s.eopen ∧
      (advance s tile).ledger = s.ledger ∧ (advance s tile).assayer = s.assayer ∧ (advance s tile).fabric = s.fabric ∧
      (advance s tile).rumbes = s.rumbes := by
  unfold advance; (repeat' split) <;> simp [*]
@[simp] theorem issueOp_frame (tile rank op : Nat) (f : TEnv → TRes) (s : State) :
    (issueOp tile rank op f s).pending = s.pending ∧ (issueOp tile rank op f s).now = s.now ∧ (issueOp tile rank op f s).sys
      = s.sys ∧ (issueOp tile rank op f s).flash = s.flash ∧ (issueOp tile rank op f s).journal = s.journal ∧ (issueOp tile
      rank op f s).host = s.host ∧ (issueOp tile rank op f s).pcie = s.pcie ∧ (issueOp tile rank op f s).foreman = s.foreman ∧
      (issueOp tile rank op f s).pairs = s.pairs ∧ (issueOp tile rank op f s).eopen = s.eopen ∧ (issueOp tile rank op f
      s).ledger = s.ledger ∧ (issueOp tile rank op f s).assayer = s.assayer ∧ (issueOp tile rank op f s).fabric = s.fabric ∧
      (issueOp tile rank op f s).rumbes = s.rumbes := by
  unfold issueOp; simp [*] <;> (repeat' split) <;> simp [*]
@[simp] theorem tileStep_pending (f : State → State) (s : State) (h_f : ∀ x0, (f x0).pending = x0.pending) :
    (tileStep f s).pending = s.pending := by
  unfold tileStep; simp -implicitDefEqProofs [*]
@[simp] theorem tileStep_now (f : State → State) (s : State) (h_f : ∀ x0, (f x0).now = x0.now) :
    (tileStep f s).now = s.now := by
  unfold tileStep; simp -implicitDefEqProofs [*]
@[simp] theorem tileStep_free (f : State → State) (s : State) (h_f : ∀ x0, (f x0).free = x0.free) :
    (tileStep f s).free = s.free := by
  unfold tileStep; simp -implicitDefEqProofs [*]
@[simp] theorem tileStep_sys (f : State → State) (s : State) (h_f : ∀ x0, (f x0).sys = x0.sys) :
    (tileStep f s).sys = s.sys := by
  unfold tileStep; simp -implicitDefEqProofs [*]
@[simp] theorem tileStep_ka (f : State → State) (s : State) (h_f : ∀ x0, (f x0).ka = x0.ka) :
    (tileStep f s).ka = s.ka := by
  unfold tileStep; simp -implicitDefEqProofs [*]
@[simp] theorem tileStep_flash (f : State → State) (s : State) (h_f : ∀ x0, (f x0).flash = x0.flash) :
    (tileStep f s).flash = s.flash := by
  unfold tileStep; simp -implicitDefEqProofs [*]
@[simp] theorem tileStep_journal (f : State → State) (s : State) (h_f : ∀ x0, (f x0).journal = x0.journal) :
    (tileStep f s).journal = s.journal := by
  unfold tileStep; simp -implicitDefEqProofs [*]
@[simp] theorem tileStep_log (f : State → State) (s : State) (h_f : ∀ x0, (f x0).log = x0.log) :
    (tileStep f s).log = s.log := by
  unfold tileStep; simp -implicitDefEqProofs [*]
@[simp] theorem tileStep_foreman (f : State → State) (s : State) (h_f : ∀ x0, (f x0).foreman = x0.foreman) :
    (tileStep f s).foreman = s.foreman := by
  unfold tileStep; simp -implicitDefEqProofs [*]
@[simp] theorem tileStep_pairs (f : State → State) (s : State) (h_f : ∀ x0, (f x0).pairs = x0.pairs) :
    (tileStep f s).pairs = s.pairs := by
  unfold tileStep; simp -implicitDefEqProofs [*]
@[simp] theorem tileStep_eopen (f : State → State) (s : State) (h_f : ∀ x0, (f x0).eopen = x0.eopen) :
    (tileStep f s).eopen = s.eopen := by
  unfold tileStep; simp -implicitDefEqProofs [*]
@[simp] theorem tileStep_ledger (f : State → State) (s : State) (h_f : ∀ x0, (f x0).ledger = x0.ledger) :
    (tileStep f s).ledger = s.ledger := by
  unfold tileStep; simp -implicitDefEqProofs [*]
@[simp] theorem tileStep_sched (f : State → State) (s : State) (h_f : ∀ x0, (f x0).sched = x0.sched) :
    (tileStep f s).sched = s.sched := by
  unfold tileStep; simp -implicitDefEqProofs [*]
@[simp] theorem tileStep_tiles (f : State → State) (s : State) (h_f : ∀ x0, (f x0).tiles = x0.tiles) :
    (tileStep f s).tiles = s.tiles := by
  unfold tileStep; simp -implicitDefEqProofs [*]
@[simp] theorem tileStep_dram (f : State → State) (s : State) (h_f : ∀ x0, (f x0).dram = x0.dram) :
    (tileStep f s).dram = s.dram := by
  unfold tileStep; simp -implicitDefEqProofs [*]
@[simp] theorem tileStep_assayer (f : State → State) (s : State) (h_f : ∀ x0, (f x0).assayer = x0.assayer) :
    (tileStep f s).assayer = s.assayer := by
  unfold tileStep; simp -implicitDefEqProofs [*]
@[simp] theorem tileStep_fabric (f : State → State) (s : State) (h_f : ∀ x0, (f x0).fabric = x0.fabric) :
    (tileStep f s).fabric = s.fabric := by
  unfold tileStep; simp -implicitDefEqProofs [*]
@[simp] theorem tileStep_rumbes (f : State → State) (s : State) (h_f : ∀ x0, (f x0).rumbes = x0.rumbes) :
    (tileStep f s).rumbes = s.rumbes := by
  unfold tileStep; simp -implicitDefEqProofs [*]
@[simp] theorem noteCorrected_frame (s : State) (tile : Nat) :
    (noteCorrected s tile).pending = s.pending ∧ (noteCorrected s tile).now = s.now ∧ (noteCorrected s tile).free =
      s.free ∧ (noteCorrected s tile).out = s.out ∧ (noteCorrected s tile).flash = s.flash ∧ (noteCorrected s
      tile).journal = s.journal ∧ (noteCorrected s tile).host = s.host ∧ (noteCorrected s tile).pcie = s.pcie ∧
      (noteCorrected s tile).foreman = s.foreman ∧ (noteCorrected s tile).pairs = s.pairs ∧ (noteCorrected s tile).eopen
      = s.eopen ∧ (noteCorrected s tile).ledger = s.ledger ∧ (noteCorrected s tile).sched = s.sched ∧ (noteCorrected s
      tile).dram = s.dram ∧ (noteCorrected s tile).assayer = s.assayer ∧ (noteCorrected s tile).fabric = s.fabric ∧
      (noteCorrected s tile).rumbes = s.rumbes := by
  unfold noteCorrected; simp -implicitDefEqProofs [*]
@[simp] theorem issueMem_frame (tile rank op : Nat) (ecc : Ecc) (f : TEnv → TRes) (s : State) :
    (issueMem tile rank op ecc f s).pending = s.pending ∧ (issueMem tile rank op ecc f s).now = s.now ∧ (issueMem tile
      rank op ecc f s).flash = s.flash ∧ (issueMem tile rank op ecc f s).journal = s.journal ∧ (issueMem tile rank op
      ecc f s).host = s.host ∧ (issueMem tile rank op ecc f s).pcie = s.pcie ∧ (issueMem tile rank op ecc f s).foreman =
      s.foreman ∧ (issueMem tile rank op ecc f s).pairs = s.pairs ∧ (issueMem tile rank op ecc f s).eopen = s.eopen ∧
      (issueMem tile rank op ecc f s).ledger = s.ledger ∧ (issueMem tile rank op ecc f s).assayer = s.assayer ∧
      (issueMem tile rank op ecc f s).fabric = s.fabric ∧ (issueMem tile rank op ecc f s).rumbes = s.rumbes := by
  unfold issueMem; (repeat' split) <;> simp -implicitDefEqProofs [*]
@[simp] theorem nopDo_frame (tile rank : Nat) (parity : Bool) (s : State) :
    (nopDo tile rank parity s).pending = s.pending ∧ (nopDo tile rank parity s).now = s.now ∧ (nopDo tile rank parity s).sys
      = s.sys ∧ (nopDo tile rank parity s).flash = s.flash ∧ (nopDo tile rank parity s).journal = s.journal ∧ (nopDo tile rank
      parity s).host = s.host ∧ (nopDo tile rank parity s).pcie = s.pcie ∧ (nopDo tile rank parity s).foreman = s.foreman ∧
      (nopDo tile rank parity s).pairs = s.pairs ∧ (nopDo tile rank parity s).eopen = s.eopen ∧ (nopDo tile rank parity
      s).ledger = s.ledger ∧ (nopDo tile rank parity s).assayer = s.assayer ∧ (nopDo tile rank parity s).fabric = s.fabric ∧
      (nopDo tile rank parity s).rumbes = s.rumbes := by
  unfold nopDo; simp [*]
@[simp] theorem loopDo_frame (tile : Nat) (s : State) :
    (loopDo tile s).pending = s.pending ∧ (loopDo tile s).now = s.now ∧ (loopDo tile s).sys = s.sys ∧ (loopDo tile s).flash
      = s.flash ∧ (loopDo tile s).journal = s.journal ∧ (loopDo tile s).host = s.host ∧ (loopDo tile s).pcie = s.pcie ∧
      (loopDo tile s).foreman = s.foreman ∧ (loopDo tile s).pairs = s.pairs ∧ (loopDo tile s).eopen = s.eopen ∧ (loopDo tile
      s).ledger = s.ledger ∧ (loopDo tile s).assayer = s.assayer ∧ (loopDo tile s).fabric = s.fabric ∧ (loopDo tile s).rumbes
      = s.rumbes := by
  unfold loopDo; simp [*] <;> (repeat' split) <;> simp [*]
@[simp] theorem endStall_frame (s : State) (tile : Nat) :
    (endStall s tile).pending = s.pending ∧ (endStall s tile).now = s.now ∧ (endStall s tile).free = s.free ∧ (endStall s
      tile).out = s.out ∧ (endStall s tile).sys = s.sys ∧ (endStall s tile).ka = s.ka ∧ (endStall s tile).flash = s.flash ∧
      (endStall s tile).journal = s.journal ∧ (endStall s tile).host = s.host ∧ (endStall s tile).ports = s.ports ∧ (endStall
      s tile).pcie = s.pcie ∧ (endStall s tile).log = s.log ∧ (endStall s tile).foreman = s.foreman ∧ (endStall s tile).pairs
      = s.pairs ∧ (endStall s tile).eopen = s.eopen ∧ (endStall s tile).ledger = s.ledger ∧ (endStall s tile).sched = s.sched
      ∧ (endStall s tile).dram = s.dram ∧ (endStall s tile).assayer = s.assayer ∧ (endStall s tile).fabric = s.fabric ∧
      (endStall s tile).rumbes = s.rumbes := by
  unfold endStall; simp [*]
@[simp] theorem beginStall_frame (s : State) (tile : Nat) (k : Stall) :
    (beginStall s tile k).pending = s.pending ∧ (beginStall s tile k).now = s.now ∧ (beginStall s tile k).free = s.free ∧
      (beginStall s tile k).out = s.out ∧ (beginStall s tile k).sys = s.sys ∧ (beginStall s tile k).ka = s.ka ∧ (beginStall s
      tile k).flash = s.flash ∧ (beginStall s tile k).journal = s.journal ∧ (beginStall s tile k).host = s.host ∧ (beginStall
      s tile k).ports = s.ports ∧ (beginStall s tile k).pcie = s.pcie ∧ (beginStall s tile k).log = s.log ∧ (beginStall s tile
      k).foreman = s.foreman ∧ (beginStall s tile k).pairs = s.pairs ∧ (beginStall s tile k).eopen = s.eopen ∧ (beginStall s
      tile k).ledger = s.ledger ∧ (beginStall s tile k).sched = s.sched ∧ (beginStall s tile k).dram = s.dram ∧ (beginStall s
      tile k).assayer = s.assayer ∧ (beginStall s tile k).fabric = s.fabric ∧ (beginStall s tile k).rumbes = s.rumbes := by
  unfold beginStall; simp [*]
@[simp] theorem waitinDo_frame (tile : Nat) (s : State) :
    (waitinDo tile s).pending = s.pending ∧ (waitinDo tile s).now = s.now ∧ (waitinDo tile s).sys = s.sys ∧ (waitinDo tile
      s).flash = s.flash ∧ (waitinDo tile s).journal = s.journal ∧ (waitinDo tile s).host = s.host ∧ (waitinDo tile s).pcie =
      s.pcie ∧ (waitinDo tile s).foreman = s.foreman ∧ (waitinDo tile s).pairs = s.pairs ∧ (waitinDo tile s).eopen = s.eopen ∧
      (waitinDo tile s).ledger = s.ledger ∧ (waitinDo tile s).assayer = s.assayer ∧ (waitinDo tile s).fabric = s.fabric ∧
      (waitinDo tile s).rumbes = s.rumbes := by
  unfold waitinDo; simp [*] <;> (repeat' split) <;> simp [*]
@[simp] theorem endstepDo_frame (tile : Nat) (s : State) :
    (endstepDo tile s).pending = s.pending ∧ (endstepDo tile s).now = s.now ∧ (endstepDo tile s).free = s.free ∧ (endstepDo
      tile s).sys = s.sys ∧ (endstepDo tile s).ka = s.ka ∧ (endstepDo tile s).flash = s.flash ∧ (endstepDo tile s).journal =
      s.journal ∧ (endstepDo tile s).host = s.host ∧ (endstepDo tile s).ports = s.ports ∧ (endstepDo tile s).pcie = s.pcie ∧
      (endstepDo tile s).log = s.log ∧ (endstepDo tile s).foreman = s.foreman ∧ (endstepDo tile s).pairs = s.pairs ∧
      (endstepDo tile s).eopen = s.eopen ∧ (endstepDo tile s).ledger = s.ledger ∧ (endstepDo tile s).sched = s.sched ∧
      (endstepDo tile s).dram = s.dram ∧ (endstepDo tile s).assayer = s.assayer ∧ (endstepDo tile s).fabric = s.fabric ∧
      (endstepDo tile s).rumbes = s.rumbes := by
  unfold endstepDo; simp [*]
@[simp] theorem barrierDo_frame (tile : Nat) (s : State) :
    (barrierDo tile s).pending = s.pending ∧ (barrierDo tile s).now = s.now ∧ (barrierDo tile s).free = s.free ∧ (barrierDo
      tile s).out = s.out ∧ (barrierDo tile s).sys = s.sys ∧ (barrierDo tile s).ka = s.ka ∧ (barrierDo tile s).flash = s.flash
      ∧ (barrierDo tile s).journal = s.journal ∧ (barrierDo tile s).host = s.host ∧ (barrierDo tile s).ports = s.ports ∧
      (barrierDo tile s).pcie = s.pcie ∧ (barrierDo tile s).log = s.log ∧ (barrierDo tile s).foreman = s.foreman ∧ (barrierDo
      tile s).pairs = s.pairs ∧ (barrierDo tile s).eopen = s.eopen ∧ (barrierDo tile s).ledger = s.ledger ∧ (barrierDo tile
      s).sched = s.sched ∧ (barrierDo tile s).dram = s.dram ∧ (barrierDo tile s).assayer = s.assayer ∧ (barrierDo tile
      s).fabric = s.fabric ∧ (barrierDo tile s).rumbes = s.rumbes := by
  unfold barrierDo; simp [*] <;> (repeat' split) <;> simp [*]
@[simp] theorem leaseDo_frame (tile : Nat) (s : State) :
    (leaseDo tile s).pending = s.pending ∧ (leaseDo tile s).now = s.now ∧ (leaseDo tile s).sys = s.sys ∧ (leaseDo tile
      s).flash = s.flash ∧ (leaseDo tile s).journal = s.journal ∧ (leaseDo tile s).host = s.host ∧ (leaseDo tile s).pcie =
      s.pcie ∧ (leaseDo tile s).foreman = s.foreman ∧ (leaseDo tile s).pairs = s.pairs ∧ (leaseDo tile s).eopen = s.eopen ∧
      (leaseDo tile s).ledger = s.ledger ∧ (leaseDo tile s).assayer = s.assayer ∧ (leaseDo tile s).fabric = s.fabric ∧
      (leaseDo tile s).rumbes = s.rumbes := by
  unfold leaseDo; simp [*] <;> (repeat' split) <;> simp [*]
@[simp] theorem releaseDo_frame (tile : Nat) (s : State) :
    (releaseDo tile s).pending = s.pending ∧ (releaseDo tile s).now = s.now ∧ (releaseDo tile s).sys = s.sys ∧ (releaseDo
      tile s).flash = s.flash ∧ (releaseDo tile s).journal = s.journal ∧ (releaseDo tile s).host = s.host ∧ (releaseDo tile
      s).pcie = s.pcie ∧ (releaseDo tile s).foreman = s.foreman ∧ (releaseDo tile s).pairs = s.pairs ∧ (releaseDo tile
      s).eopen = s.eopen ∧ (releaseDo tile s).ledger = s.ledger ∧ (releaseDo tile s).assayer = s.assayer ∧ (releaseDo tile
      s).fabric = s.fabric ∧ (releaseDo tile s).rumbes = s.rumbes := by
  unfold releaseDo; simp [*] <;> (repeat' split) <;> simp [*]
@[simp] theorem landDo_frame (tile : Nat) (s : State) :
    (landDo tile s).pending = s.pending ∧ (landDo tile s).now = s.now ∧ (landDo tile s).free = s.free ∧ (landDo tile s).out
      = s.out ∧ (landDo tile s).sys = s.sys ∧ (landDo tile s).ka = s.ka ∧ (landDo tile s).flash = s.flash ∧ (landDo tile
      s).journal = s.journal ∧ (landDo tile s).host = s.host ∧ (landDo tile s).ports = s.ports ∧ (landDo tile s).pcie = s.pcie
      ∧ (landDo tile s).log = s.log ∧ (landDo tile s).foreman = s.foreman ∧ (landDo tile s).pairs = s.pairs ∧ (landDo tile
      s).eopen = s.eopen ∧ (landDo tile s).ledger = s.ledger ∧ (landDo tile s).sched = s.sched ∧ (landDo tile s).dram = s.dram
      ∧ (landDo tile s).assayer = s.assayer ∧ (landDo tile s).fabric = s.fabric ∧ (landDo tile s).rumbes = s.rumbes := by
  unfold landDo; (repeat' split) <;> simp [*]
@[simp] theorem barrierCompleteDo_frame (tile : Nat) (s : State) :
    (barrierCompleteDo tile s).pending = s.pending ∧ (barrierCompleteDo tile s).now = s.now ∧ (barrierCompleteDo tile s).sys
      = s.sys ∧ (barrierCompleteDo tile s).flash = s.flash ∧ (barrierCompleteDo tile s).journal = s.journal ∧
      (barrierCompleteDo tile s).host = s.host ∧ (barrierCompleteDo tile s).pcie = s.pcie ∧ (barrierCompleteDo tile s).foreman
      = s.foreman ∧ (barrierCompleteDo tile s).pairs = s.pairs ∧ (barrierCompleteDo tile s).eopen = s.eopen ∧
      (barrierCompleteDo tile s).ledger = s.ledger ∧ (barrierCompleteDo tile s).assayer = s.assayer ∧ (barrierCompleteDo tile
      s).fabric = s.fabric ∧ (barrierCompleteDo tile s).rumbes = s.rumbes := by
  unfold barrierCompleteDo; simp [*]
@[simp] theorem foremanWrites_frame (s : State) (tile : Nat) :
    (foremanWrites s tile).pending = s.pending ∧ (foremanWrites s tile).now = s.now ∧ (foremanWrites s tile).free =
      s.free ∧ (foremanWrites s tile).out = s.out ∧ (foremanWrites s tile).sys = s.sys ∧ (foremanWrites s tile).ka =
      s.ka ∧ (foremanWrites s tile).flash = s.flash ∧ (foremanWrites s tile).journal = s.journal ∧ (foremanWrites s
      tile).host = s.host ∧ (foremanWrites s tile).pcie = s.pcie ∧ (foremanWrites s tile).log = s.log ∧ (foremanWrites s
      tile).foreman = s.foreman ∧ (foremanWrites s tile).pairs = s.pairs ∧ (foremanWrites s tile).eopen = s.eopen ∧
      (foremanWrites s tile).ledger = s.ledger ∧ (foremanWrites s tile).assayer = s.assayer ∧ (foremanWrites s
      tile).fabric = s.fabric ∧ (foremanWrites s tile).rumbes = s.rumbes := by
  unfold foremanWrites; simp -implicitDefEqProofs [*]
@[simp] theorem leaseGrantDo_frame (tile bank : Nat) (h : Holder) (s : State) :
    (leaseGrantDo tile bank h s).pending = s.pending ∧ (leaseGrantDo tile bank h s).now = s.now ∧ (leaseGrantDo tile bank h
      s).sys = s.sys ∧ (leaseGrantDo tile bank h s).flash = s.flash ∧ (leaseGrantDo tile bank h s).journal = s.journal ∧
      (leaseGrantDo tile bank h s).host = s.host ∧ (leaseGrantDo tile bank h s).pcie = s.pcie ∧ (leaseGrantDo tile bank h
      s).foreman = s.foreman ∧ (leaseGrantDo tile bank h s).pairs = s.pairs ∧ (leaseGrantDo tile bank h s).eopen = s.eopen ∧
      (leaseGrantDo tile bank h s).ledger = s.ledger ∧ (leaseGrantDo tile bank h s).assayer = s.assayer ∧ (leaseGrantDo tile
      bank h s).fabric = s.fabric ∧ (leaseGrantDo tile bank h s).rumbes = s.rumbes := by
  unfold leaseGrantDo; simp [*] <;> (repeat' split) <;> simp [*]
@[simp] theorem stallTimeoutDo_frame (tile : Nat) (s : State) :
    (stallTimeoutDo tile s).pending = s.pending ∧ (stallTimeoutDo tile s).now = s.now ∧ (stallTimeoutDo tile s).sys = s.sys
      ∧ (stallTimeoutDo tile s).flash = s.flash ∧ (stallTimeoutDo tile s).journal = s.journal ∧ (stallTimeoutDo tile s).host =
      s.host ∧ (stallTimeoutDo tile s).pcie = s.pcie ∧ (stallTimeoutDo tile s).foreman = s.foreman ∧ (stallTimeoutDo tile
      s).pairs = s.pairs ∧ (stallTimeoutDo tile s).eopen = s.eopen ∧ (stallTimeoutDo tile s).ledger = s.ledger ∧
      (stallTimeoutDo tile s).assayer = s.assayer ∧ (stallTimeoutDo tile s).fabric = s.fabric ∧ (stallTimeoutDo tile s).rumbes
      = s.rumbes := by
  unfold stallTimeoutDo; split <;> simp [*]
@[simp] theorem leaseExpiryDo_frame (tile bank : Nat) (s : State) :
    (leaseExpiryDo tile bank s).pending = s.pending ∧ (leaseExpiryDo tile bank s).now = s.now ∧ (leaseExpiryDo tile bank
      s).sys = s.sys ∧ (leaseExpiryDo tile bank s).flash = s.flash ∧ (leaseExpiryDo tile bank s).journal = s.journal ∧
      (leaseExpiryDo tile bank s).host = s.host ∧ (leaseExpiryDo tile bank s).pcie = s.pcie ∧ (leaseExpiryDo tile bank
      s).foreman = s.foreman ∧ (leaseExpiryDo tile bank s).pairs = s.pairs ∧ (leaseExpiryDo tile bank s).eopen = s.eopen ∧
      (leaseExpiryDo tile bank s).ledger = s.ledger ∧ (leaseExpiryDo tile bank s).assayer = s.assayer ∧ (leaseExpiryDo tile
      bank s).fabric = s.fabric ∧ (leaseExpiryDo tile bank s).rumbes = s.rumbes := by
  unfold leaseExpiryDo; simp [*] <;> (repeat' split) <;> simp [*]

/-! ### SchedArms -/

@[simp] theorem stepDueDo_frame (w : Work) (s : State) :
    (stepDueDo w s).pending = s.pending ∧ (stepDueDo w s).now = s.now ∧ (stepDueDo w s).free = s.free ∧ (stepDueDo w s).out
      = s.out ∧ (stepDueDo w s).sys = s.sys ∧ (stepDueDo w s).ka = s.ka ∧ (stepDueDo w s).flash = s.flash ∧ (stepDueDo w
      s).journal = s.journal ∧ (stepDueDo w s).host = s.host ∧ (stepDueDo w s).pcie = s.pcie ∧ (stepDueDo w s).log = s.log ∧
      (stepDueDo w s).foreman = s.foreman ∧ (stepDueDo w s).pairs = s.pairs ∧ (stepDueDo w s).eopen = s.eopen ∧ (stepDueDo w
      s).ledger = s.ledger ∧ (stepDueDo w s).dram = s.dram ∧ (stepDueDo w s).assayer = s.assayer ∧ (stepDueDo w s).fabric =
      s.fabric ∧ (stepDueDo w s).rumbes = s.rumbes := by
  unfold stepDueDo; simp [*]
@[simp] theorem takeStaging_frame (s : State) :
    (takeStaging s).pending = s.pending ∧ (takeStaging s).now = s.now ∧ (takeStaging s).free = s.free ∧ (takeStaging
      s).out = s.out ∧ (takeStaging s).sys = s.sys ∧ (takeStaging s).ka = s.ka ∧ (takeStaging s).flash = s.flash ∧
      (takeStaging s).journal = s.journal ∧ (takeStaging s).host = s.host ∧ (takeStaging s).ports = s.ports ∧
      (takeStaging s).pcie = s.pcie ∧ (takeStaging s).log = s.log ∧ (takeStaging s).foreman = s.foreman ∧ (takeStaging
      s).pairs = s.pairs ∧ (takeStaging s).eopen = s.eopen ∧ (takeStaging s).ledger = s.ledger ∧ (takeStaging s).tiles =
      s.tiles ∧ (takeStaging s).dram = s.dram ∧ (takeStaging s).assayer = s.assayer ∧ (takeStaging s).fabric = s.fabric
      ∧ (takeStaging s).rumbes = s.rumbes := by
  unfold takeStaging; dsimp only; (repeat' split) <;> simp -implicitDefEqProofs [*]
@[simp] theorem stagingRequestDo_frame (tile : Nat) (w : Work) (s : State) :
    (stagingRequestDo tile w s).pending = s.pending ∧ (stagingRequestDo tile w s).now = s.now ∧ (stagingRequestDo tile w
      s).free = s.free ∧ (stagingRequestDo tile w s).out = s.out ∧ (stagingRequestDo tile w s).sys = s.sys ∧ (stagingRequestDo
      tile w s).ka = s.ka ∧ (stagingRequestDo tile w s).flash = s.flash ∧ (stagingRequestDo tile w s).journal = s.journal ∧
      (stagingRequestDo tile w s).host = s.host ∧ (stagingRequestDo tile w s).ports = s.ports ∧ (stagingRequestDo tile w
      s).pcie = s.pcie ∧ (stagingRequestDo tile w s).log = s.log ∧ (stagingRequestDo tile w s).foreman = s.foreman ∧
      (stagingRequestDo tile w s).pairs = s.pairs ∧ (stagingRequestDo tile w s).eopen = s.eopen ∧ (stagingRequestDo tile w
      s).ledger = s.ledger ∧ (stagingRequestDo tile w s).tiles = s.tiles ∧ (stagingRequestDo tile w s).dram = s.dram ∧
      (stagingRequestDo tile w s).assayer = s.assayer ∧ (stagingRequestDo tile w s).fabric = s.fabric ∧ (stagingRequestDo tile
      w s).rumbes = s.rumbes := by
  unfold stagingRequestDo; split <;> simp [*]
@[simp] theorem stagingDoneDo_frame (tile : Nat) (s : State) :
    (stagingDoneDo tile s).pending = s.pending ∧ (stagingDoneDo tile s).now = s.now ∧ (stagingDoneDo tile s).free = s.free ∧
      (stagingDoneDo tile s).out = s.out ∧ (stagingDoneDo tile s).sys = s.sys ∧ (stagingDoneDo tile s).ka = s.ka ∧
      (stagingDoneDo tile s).flash = s.flash ∧ (stagingDoneDo tile s).journal = s.journal ∧ (stagingDoneDo tile s).host =
      s.host ∧ (stagingDoneDo tile s).ports = s.ports ∧ (stagingDoneDo tile s).pcie = s.pcie ∧ (stagingDoneDo tile s).log =
      s.log ∧ (stagingDoneDo tile s).foreman = s.foreman ∧ (stagingDoneDo tile s).pairs = s.pairs ∧ (stagingDoneDo tile
      s).eopen = s.eopen ∧ (stagingDoneDo tile s).ledger = s.ledger ∧ (stagingDoneDo tile s).tiles = s.tiles ∧ (stagingDoneDo
      tile s).dram = s.dram ∧ (stagingDoneDo tile s).assayer = s.assayer ∧ (stagingDoneDo tile s).fabric = s.fabric ∧
      (stagingDoneDo tile s).rumbes = s.rumbes := by
  unfold stagingDoneDo; split <;> simp [*]
@[simp] theorem bringInDo_frame (n : Nat) (s : State) :
    (bringInDo n s).pending = s.pending ∧ (bringInDo n s).now = s.now ∧ (bringInDo n s).free = s.free ∧ (bringInDo n s).out
      = s.out ∧ (bringInDo n s).sys = s.sys ∧ (bringInDo n s).ka = s.ka ∧ (bringInDo n s).flash = s.flash ∧ (bringInDo n
      s).journal = s.journal ∧ (bringInDo n s).host = s.host ∧ (bringInDo n s).ports = s.ports ∧ (bringInDo n s).pcie = s.pcie
      ∧ (bringInDo n s).log = s.log ∧ (bringInDo n s).foreman = s.foreman ∧ (bringInDo n s).pairs = s.pairs ∧ (bringInDo n
      s).eopen = s.eopen ∧ (bringInDo n s).ledger = s.ledger ∧ (bringInDo n s).dram = s.dram ∧ (bringInDo n s).assayer =
      s.assayer ∧ (bringInDo n s).fabric = s.fabric ∧ (bringInDo n s).rumbes = s.rumbes := by
  unfold bringInDo; simp [*] <;> (repeat' split) <;> simp [*]
@[simp] theorem bringInDoneDo_frame (n : Nat) (s : State) :
    (bringInDoneDo n s).pending = s.pending ∧ (bringInDoneDo n s).now = s.now ∧ (bringInDoneDo n s).out = s.out ∧
      (bringInDoneDo n s).sys = s.sys ∧ (bringInDoneDo n s).ka = s.ka ∧ (bringInDoneDo n s).flash = s.flash ∧
      (bringInDoneDo n s).journal = s.journal ∧ (bringInDoneDo n s).host = s.host ∧ (bringInDoneDo n s).pcie = s.pcie ∧
      (bringInDoneDo n s).log = s.log ∧ (bringInDoneDo n s).foreman = s.foreman ∧ (bringInDoneDo n s).pairs = s.pairs ∧
      (bringInDoneDo n s).eopen = s.eopen ∧ (bringInDoneDo n s).ledger = s.ledger ∧ (bringInDoneDo n s).assayer =
      s.assayer ∧ (bringInDoneDo n s).fabric = s.fabric ∧ (bringInDoneDo n s).rumbes = s.rumbes := by
  unfold bringInDoneDo; split <;> simp -implicitDefEqProofs [*]
@[simp] theorem storeArea_frame (s : State) (n : Nat) :
    (storeArea s n).pending = s.pending ∧ (storeArea s n).now = s.now ∧ (storeArea s n).free = s.free ∧ (storeArea s n).out
      = s.out ∧ (storeArea s n).sys = s.sys ∧ (storeArea s n).ka = s.ka ∧ (storeArea s n).flash = s.flash ∧ (storeArea s
      n).journal = s.journal ∧ (storeArea s n).host = s.host ∧ (storeArea s n).ports = s.ports ∧ (storeArea s n).pcie = s.pcie
      ∧ (storeArea s n).log = s.log ∧ (storeArea s n).foreman = s.foreman ∧ (storeArea s n).pairs = s.pairs ∧ (storeArea s
      n).eopen = s.eopen ∧ (storeArea s n).ledger = s.ledger ∧ (storeArea s n).sched = s.sched ∧ (storeArea s n).tiles =
      s.tiles ∧ (storeArea s n).assayer = s.assayer ∧ (storeArea s n).fabric = s.fabric ∧ (storeArea s n).rumbes = s.rumbes :=
      by
  unfold storeArea; simp [*]
@[simp] theorem writeBackDoneDo_frame (n : Nat) (s : State) :
    (writeBackDoneDo n s).pending = s.pending ∧ (writeBackDoneDo n s).now = s.now ∧ (writeBackDoneDo n s).out = s.out ∧
      (writeBackDoneDo n s).sys = s.sys ∧ (writeBackDoneDo n s).ka = s.ka ∧ (writeBackDoneDo n s).flash = s.flash ∧
      (writeBackDoneDo n s).journal = s.journal ∧ (writeBackDoneDo n s).host = s.host ∧ (writeBackDoneDo n s).pcie =
      s.pcie ∧ (writeBackDoneDo n s).log = s.log ∧ (writeBackDoneDo n s).foreman = s.foreman ∧ (writeBackDoneDo n
      s).pairs = s.pairs ∧ (writeBackDoneDo n s).eopen = s.eopen ∧ (writeBackDoneDo n s).ledger = s.ledger ∧
      (writeBackDoneDo n s).assayer = s.assayer ∧ (writeBackDoneDo n s).fabric = s.fabric ∧ (writeBackDoneDo n s).rumbes
      = s.rumbes := by
  unfold writeBackDoneDo; split <;> simp -implicitDefEqProofs [*]
@[simp] theorem checkpointDoneDo_frame (n : Nat) (s : State) :
    (checkpointDoneDo n s).pending = s.pending ∧ (checkpointDoneDo n s).now = s.now ∧ (checkpointDoneDo n s).free =
      s.free ∧ (checkpointDoneDo n s).out = s.out ∧ (checkpointDoneDo n s).sys = s.sys ∧ (checkpointDoneDo n s).ka =
      s.ka ∧ (checkpointDoneDo n s).flash = s.flash ∧ (checkpointDoneDo n s).journal = s.journal ∧ (checkpointDoneDo n
      s).host = s.host ∧ (checkpointDoneDo n s).pcie = s.pcie ∧ (checkpointDoneDo n s).log = s.log ∧ (checkpointDoneDo n
      s).foreman = s.foreman ∧ (checkpointDoneDo n s).pairs = s.pairs ∧ (checkpointDoneDo n s).eopen = s.eopen ∧
      (checkpointDoneDo n s).ledger = s.ledger ∧ (checkpointDoneDo n s).assayer = s.assayer ∧ (checkpointDoneDo n
      s).fabric = s.fabric ∧ (checkpointDoneDo n s).rumbes = s.rumbes := by
  unfold checkpointDoneDo; split <;> simp -implicitDefEqProofs [*]
@[simp] theorem migrationDoneDo_frame (n : Nat) (s : State) :
    (migrationDoneDo n s).pending = s.pending ∧ (migrationDoneDo n s).now = s.now ∧ (migrationDoneDo n s).out = s.out ∧
      (migrationDoneDo n s).sys = s.sys ∧ (migrationDoneDo n s).ka = s.ka ∧ (migrationDoneDo n s).flash = s.flash ∧
      (migrationDoneDo n s).journal = s.journal ∧ (migrationDoneDo n s).host = s.host ∧ (migrationDoneDo n s).pcie =
      s.pcie ∧ (migrationDoneDo n s).log = s.log ∧ (migrationDoneDo n s).foreman = s.foreman ∧ (migrationDoneDo n
      s).pairs = s.pairs ∧ (migrationDoneDo n s).eopen = s.eopen ∧ (migrationDoneDo n s).ledger = s.ledger ∧
      (migrationDoneDo n s).assayer = s.assayer ∧ (migrationDoneDo n s).fabric = s.fabric ∧ (migrationDoneDo n s).rumbes
      = s.rumbes := by
  unfold migrationDoneDo; (repeat' split) <;> simp -implicitDefEqProofs [*]
@[simp] theorem behindCheckDo_frame (n : Nat) (s : State) :
    (behindCheckDo n s).pending = s.pending ∧ (behindCheckDo n s).now = s.now ∧ (behindCheckDo n s).free = s.free ∧
      (behindCheckDo n s).out = s.out ∧ (behindCheckDo n s).sys = s.sys ∧ (behindCheckDo n s).ka = s.ka ∧ (behindCheckDo n
      s).flash = s.flash ∧ (behindCheckDo n s).journal = s.journal ∧ (behindCheckDo n s).host = s.host ∧ (behindCheckDo n
      s).pcie = s.pcie ∧ (behindCheckDo n s).log = s.log ∧ (behindCheckDo n s).foreman = s.foreman ∧ (behindCheckDo n s).pairs
      = s.pairs ∧ (behindCheckDo n s).eopen = s.eopen ∧ (behindCheckDo n s).ledger = s.ledger ∧ (behindCheckDo n s).tiles =
      s.tiles ∧ (behindCheckDo n s).dram = s.dram ∧ (behindCheckDo n s).assayer = s.assayer ∧ (behindCheckDo n s).fabric =
      s.fabric ∧ (behindCheckDo n s).rumbes = s.rumbes := by
  unfold behindCheckDo; simp [*]
@[simp] theorem refitTimeoutDo_frame (n : Nat) (s : State) :
    (refitTimeoutDo n s).pending = s.pending ∧ (refitTimeoutDo n s).now = s.now ∧ (refitTimeoutDo n s).free = s.free ∧
      (refitTimeoutDo n s).out = s.out ∧ (refitTimeoutDo n s).sys = s.sys ∧ (refitTimeoutDo n s).ka = s.ka ∧ (refitTimeoutDo n
      s).flash = s.flash ∧ (refitTimeoutDo n s).journal = s.journal ∧ (refitTimeoutDo n s).host = s.host ∧ (refitTimeoutDo n
      s).pcie = s.pcie ∧ (refitTimeoutDo n s).log = s.log ∧ (refitTimeoutDo n s).foreman = s.foreman ∧ (refitTimeoutDo n
      s).pairs = s.pairs ∧ (refitTimeoutDo n s).eopen = s.eopen ∧ (refitTimeoutDo n s).ledger = s.ledger ∧ (refitTimeoutDo n
      s).tiles = s.tiles ∧ (refitTimeoutDo n s).dram = s.dram ∧ (refitTimeoutDo n s).assayer = s.assayer ∧ (refitTimeoutDo n
      s).fabric = s.fabric ∧ (refitTimeoutDo n s).rumbes = s.rumbes := by
  unfold refitTimeoutDo; (repeat' split) <;> simp [*]

/-! ### Operands -/

/-! ### ForemanOps -/

@[simp] theorem reply_frame (s : State) (r : Req) (status reason clampN : Nat) (payload bulk : List Byte) :
    (reply s r status reason clampN payload bulk).pending = s.pending ∧ (reply s r status reason clampN payload bulk).now =
      s.now ∧ (reply s r status reason clampN payload bulk).free = s.free ∧ (reply s r status reason clampN payload bulk).out
      = s.out ∧ (reply s r status reason clampN payload bulk).sys = s.sys ∧ (reply s r status reason clampN payload bulk).ka =
      s.ka ∧ (reply s r status reason clampN payload bulk).flash = s.flash ∧ (reply s r status reason clampN payload
      bulk).journal = s.journal ∧ (reply s r status reason clampN payload bulk).host = s.host ∧ (reply s r status reason
      clampN payload bulk).pcie = s.pcie ∧ (reply s r status reason clampN payload bulk).log = s.log ∧ (reply s r status
      reason clampN payload bulk).foreman = s.foreman ∧ (reply s r status reason clampN payload bulk).pairs = s.pairs ∧ (reply
      s r status reason clampN payload bulk).eopen = s.eopen ∧ (reply s r status reason clampN payload bulk).ledger = s.ledger
      ∧ (reply s r status reason clampN payload bulk).sched = s.sched ∧ (reply s r status reason clampN payload bulk).tiles =
      s.tiles ∧ (reply s r status reason clampN payload bulk).dram = s.dram ∧ (reply s r status reason clampN payload
      bulk).assayer = s.assayer ∧ (reply s r status reason clampN payload bulk).fabric = s.fabric ∧ (reply s r status reason
      clampN payload bulk).rumbes = s.rumbes := by
  unfold reply; simp [*]
@[simp] theorem answer_frame (s : State) (r : Req) (payload : List Byte) (es : List ClampEntry) (bulk : List Byte) :
    (answer s r payload es bulk).pending = s.pending ∧ (answer s r payload es bulk).now = s.now ∧ (answer s r payload es
      bulk).free = s.free ∧ (answer s r payload es bulk).out = s.out ∧ (answer s r payload es bulk).sys = s.sys ∧ (answer s r
      payload es bulk).ka = s.ka ∧ (answer s r payload es bulk).flash = s.flash ∧ (answer s r payload es bulk).journal =
      s.journal ∧ (answer s r payload es bulk).host = s.host ∧ (answer s r payload es bulk).pcie = s.pcie ∧ (answer s r
      payload es bulk).log = s.log ∧ (answer s r payload es bulk).foreman = s.foreman ∧ (answer s r payload es bulk).pairs =
      s.pairs ∧ (answer s r payload es bulk).eopen = s.eopen ∧ (answer s r payload es bulk).ledger = s.ledger ∧ (answer s r
      payload es bulk).sched = s.sched ∧ (answer s r payload es bulk).tiles = s.tiles ∧ (answer s r payload es bulk).dram =
      s.dram ∧ (answer s r payload es bulk).assayer = s.assayer ∧ (answer s r payload es bulk).fabric = s.fabric ∧ (answer s r
      payload es bulk).rumbes = s.rumbes := by
  unfold answer; simp [*]
@[simp] theorem failWith_frame (s : State) (r : Req) (status : Nat) :
    (failWith s r status).pending = s.pending ∧ (failWith s r status).now = s.now ∧ (failWith s r status).free = s.free ∧
      (failWith s r status).out = s.out ∧ (failWith s r status).sys = s.sys ∧ (failWith s r status).ka = s.ka ∧ (failWith s r
      status).flash = s.flash ∧ (failWith s r status).journal = s.journal ∧ (failWith s r status).host = s.host ∧ (failWith s
      r status).pcie = s.pcie ∧ (failWith s r status).log = s.log ∧ (failWith s r status).foreman = s.foreman ∧ (failWith s r
      status).pairs = s.pairs ∧ (failWith s r status).eopen = s.eopen ∧ (failWith s r status).ledger = s.ledger ∧ (failWith s
      r status).sched = s.sched ∧ (failWith s r status).tiles = s.tiles ∧ (failWith s r status).dram = s.dram ∧ (failWith s r
      status).assayer = s.assayer ∧ (failWith s r status).fabric = s.fabric ∧ (failWith s r status).rumbes = s.rumbes := by
  unfold failWith; simp [*]
@[simp] theorem refuse_frame (s : State) (r : Req) (codes : List Nat) :
    (refuse s r codes).pending = s.pending ∧ (refuse s r codes).now = s.now ∧ (refuse s r codes).free = s.free ∧ (refuse s r
      codes).out = s.out ∧ (refuse s r codes).sys = s.sys ∧ (refuse s r codes).ka = s.ka ∧ (refuse s r codes).flash = s.flash
      ∧ (refuse s r codes).journal = s.journal ∧ (refuse s r codes).host = s.host ∧ (refuse s r codes).pcie = s.pcie ∧ (refuse
      s r codes).log = s.log ∧ (refuse s r codes).foreman = s.foreman ∧ (refuse s r codes).pairs = s.pairs ∧ (refuse s r
      codes).eopen = s.eopen ∧ (refuse s r codes).ledger = s.ledger ∧ (refuse s r codes).sched = s.sched ∧ (refuse s r
      codes).tiles = s.tiles ∧ (refuse s r codes).dram = s.dram ∧ (refuse s r codes).assayer = s.assayer ∧ (refuse s r
      codes).fabric = s.fabric ∧ (refuse s r codes).rumbes = s.rumbes := by
  unfold refuse; simp [*]
@[simp] theorem noObject_frame (s : State) (r : Req) :
    (noObject s r).pending = s.pending ∧ (noObject s r).now = s.now ∧ (noObject s r).free = s.free ∧ (noObject s r).out =
      s.out ∧ (noObject s r).sys = s.sys ∧ (noObject s r).ka = s.ka ∧ (noObject s r).flash = s.flash ∧ (noObject s r).journal
      = s.journal ∧ (noObject s r).host = s.host ∧ (noObject s r).pcie = s.pcie ∧ (noObject s r).log = s.log ∧ (noObject s
      r).foreman = s.foreman ∧ (noObject s r).pairs = s.pairs ∧ (noObject s r).eopen = s.eopen ∧ (noObject s r).ledger =
      s.ledger ∧ (noObject s r).sched = s.sched ∧ (noObject s r).tiles = s.tiles ∧ (noObject s r).dram = s.dram ∧ (noObject s
      r).assayer = s.assayer ∧ (noObject s r).fabric = s.fabric ∧ (noObject s r).rumbes = s.rumbes := by
  unfold noObject; simp [*]
@[simp] theorem busy_frame (s : State) (r : Req) :
    (busy s r).pending = s.pending ∧ (busy s r).now = s.now ∧ (busy s r).free = s.free ∧ (busy s r).out = s.out ∧ (busy s
      r).sys = s.sys ∧ (busy s r).ka = s.ka ∧ (busy s r).flash = s.flash ∧ (busy s r).journal = s.journal ∧ (busy s r).host =
      s.host ∧ (busy s r).pcie = s.pcie ∧ (busy s r).log = s.log ∧ (busy s r).foreman = s.foreman ∧ (busy s r).pairs = s.pairs
      ∧ (busy s r).eopen = s.eopen ∧ (busy s r).ledger = s.ledger ∧ (busy s r).sched = s.sched ∧ (busy s r).tiles = s.tiles ∧
      (busy s r).dram = s.dram ∧ (busy s r).assayer = s.assayer ∧ (busy s r).fabric = s.fabric ∧ (busy s r).rumbes = s.rumbes
      := by
  unfold busy; simp [*]
@[simp] theorem flushBad_frame (s : State) :
    (flushBad s).pending = s.pending ∧ (flushBad s).now = s.now ∧ (flushBad s).free = s.free ∧ (flushBad s).out = s.out ∧
      (flushBad s).sys = s.sys ∧ (flushBad s).ka = s.ka ∧ (flushBad s).flash = s.flash ∧ (flushBad s).journal = s.journal ∧
      (flushBad s).host = s.host ∧ (flushBad s).pcie = s.pcie ∧ (flushBad s).log = s.log ∧ (flushBad s).pairs = s.pairs ∧
      (flushBad s).eopen = s.eopen ∧ (flushBad s).ledger = s.ledger ∧ (flushBad s).sched = s.sched ∧ (flushBad s).tiles =
      s.tiles ∧ (flushBad s).dram = s.dram ∧ (flushBad s).assayer = s.assayer ∧ (flushBad s).fabric = s.fabric ∧ (flushBad
      s).rumbes = s.rumbes := by
  unfold flushBad; simp [*]
@[simp] theorem takeNow_frame (s : State) (n : Nat) :
    (takeNow s n).pending = s.pending ∧ (takeNow s n).now = s.now ∧ (takeNow s n).free = s.free ∧ (takeNow s n).out = s.out
      ∧ (takeNow s n).sys = s.sys ∧ (takeNow s n).ka = s.ka ∧ (takeNow s n).flash = s.flash ∧ (takeNow s n).journal =
      s.journal ∧ (takeNow s n).host = s.host ∧ (takeNow s n).pcie = s.pcie ∧ (takeNow s n).log = s.log ∧ (takeNow s n).pairs
      = s.pairs ∧ (takeNow s n).eopen = s.eopen ∧ (takeNow s n).ledger = s.ledger ∧ (takeNow s n).sched = s.sched ∧ (takeNow s
      n).tiles = s.tiles ∧ (takeNow s n).dram = s.dram ∧ (takeNow s n).assayer = s.assayer ∧ (takeNow s n).fabric = s.fabric ∧
      (takeNow s n).rumbes = s.rumbes := by
  unfold takeNow; simp [*]
@[simp] theorem takeUrgent_frame (s : State) :
    (takeUrgent s).pending = s.pending ∧ (takeUrgent s).now = s.now ∧ (takeUrgent s).free = s.free ∧ (takeUrgent s).out =
      s.out ∧ (takeUrgent s).sys = s.sys ∧ (takeUrgent s).ka = s.ka ∧ (takeUrgent s).flash = s.flash ∧ (takeUrgent s).journal
      = s.journal ∧ (takeUrgent s).host = s.host ∧ (takeUrgent s).pcie = s.pcie ∧ (takeUrgent s).log = s.log ∧ (takeUrgent
      s).pairs = s.pairs ∧ (takeUrgent s).eopen = s.eopen ∧ (takeUrgent s).ledger = s.ledger ∧ (takeUrgent s).sched = s.sched
      ∧ (takeUrgent s).tiles = s.tiles ∧ (takeUrgent s).dram = s.dram ∧ (takeUrgent s).assayer = s.assayer ∧ (takeUrgent
      s).fabric = s.fabric ∧ (takeUrgent s).rumbes = s.rumbes := by
  unfold takeUrgent; simp [*]
@[simp] theorem popReq_frame (s : State) :
    (popReq s).pending = s.pending ∧ (popReq s).now = s.now ∧ (popReq s).free = s.free ∧ (popReq s).out = s.out ∧ (popReq
      s).sys = s.sys ∧ (popReq s).ka = s.ka ∧ (popReq s).flash = s.flash ∧ (popReq s).journal = s.journal ∧ (popReq s).host =
      s.host ∧ (popReq s).ports = s.ports ∧ (popReq s).pcie = s.pcie ∧ (popReq s).log = s.log ∧ (popReq s).pairs = s.pairs ∧
      (popReq s).eopen = s.eopen ∧ (popReq s).ledger = s.ledger ∧ (popReq s).sched = s.sched ∧ (popReq s).tiles = s.tiles ∧
      (popReq s).dram = s.dram ∧ (popReq s).assayer = s.assayer ∧ (popReq s).fabric = s.fabric ∧ (popReq s).rumbes = s.rumbes
      := by
  unfold popReq; simp [*] <;> (repeat' split) <;> simp [*]
@[simp] theorem serve_pending (op : Nat) (len : Req → Bool) (rights ready : State → Req → Bool) (body : Req → State →
  State) (s : State) (h_body : ∀ x0 x1, (body x0 x1).pending = x1.pending) :
    (serve op len rights ready body s).pending = s.pending := by
  unfold serve; split <;> simp -implicitDefEqProofs [*]
@[simp] theorem serve_now (op : Nat) (len : Req → Bool) (rights ready : State → Req → Bool) (body : Req → State → State)
  (s : State) (h_body : ∀ x0 x1, (body x0 x1).now = x1.now) :
    (serve op len rights ready body s).now = s.now := by
  unfold serve; split <;> simp -implicitDefEqProofs [*]
@[simp] theorem serve_free (op : Nat) (len : Req → Bool) (rights ready : State → Req → Bool) (body : Req → State →
  State) (s : State) (h_body : ∀ x0 x1, (body x0 x1).free = x1.free) :
    (serve op len rights ready body s).free = s.free := by
  unfold serve; split <;> simp -implicitDefEqProofs [*]
@[simp] theorem serve_out (op : Nat) (len : Req → Bool) (rights ready : State → Req → Bool) (body : Req → State → State)
  (s : State) (h_body : ∀ x0 x1, (body x0 x1).out = x1.out) :
    (serve op len rights ready body s).out = s.out := by
  unfold serve; split <;> simp -implicitDefEqProofs [*]
@[simp] theorem serve_sys (op : Nat) (len : Req → Bool) (rights ready : State → Req → Bool) (body : Req → State → State)
  (s : State) (h_body : ∀ x0 x1, (body x0 x1).sys = x1.sys) :
    (serve op len rights ready body s).sys = s.sys := by
  unfold serve; split <;> simp -implicitDefEqProofs [*]
@[simp] theorem serve_ka (op : Nat) (len : Req → Bool) (rights ready : State → Req → Bool) (body : Req → State → State)
  (s : State) (h_body : ∀ x0 x1, (body x0 x1).ka = x1.ka) :
    (serve op len rights ready body s).ka = s.ka := by
  unfold serve; split <;> simp -implicitDefEqProofs [*]
@[simp] theorem serve_flash (op : Nat) (len : Req → Bool) (rights ready : State → Req → Bool) (body : Req → State →
  State) (s : State) (h_body : ∀ x0 x1, (body x0 x1).flash = x1.flash) :
    (serve op len rights ready body s).flash = s.flash := by
  unfold serve; split <;> simp -implicitDefEqProofs [*]
@[simp] theorem serve_journal (op : Nat) (len : Req → Bool) (rights ready : State → Req → Bool) (body : Req → State →
  State) (s : State) (h_body : ∀ x0 x1, (body x0 x1).journal = x1.journal) :
    (serve op len rights ready body s).journal = s.journal := by
  unfold serve; split <;> simp -implicitDefEqProofs [*]
@[simp] theorem serve_host (op : Nat) (len : Req → Bool) (rights ready : State → Req → Bool) (body : Req → State →
  State) (s : State) (h_body : ∀ x0 x1, (body x0 x1).host = x1.host) :
    (serve op len rights ready body s).host = s.host := by
  unfold serve; split <;> simp -implicitDefEqProofs [*]
@[simp] theorem serve_pcie (op : Nat) (len : Req → Bool) (rights ready : State → Req → Bool) (body : Req → State →
  State) (s : State) (h_body : ∀ x0 x1, (body x0 x1).pcie = x1.pcie) :
    (serve op len rights ready body s).pcie = s.pcie := by
  unfold serve; split <;> simp -implicitDefEqProofs [*]
@[simp] theorem serve_log (op : Nat) (len : Req → Bool) (rights ready : State → Req → Bool) (body : Req → State → State)
  (s : State) (h_body : ∀ x0 x1, (body x0 x1).log = x1.log) :
    (serve op len rights ready body s).log = s.log := by
  unfold serve; split <;> simp -implicitDefEqProofs [*]
@[simp] theorem serve_pairs (op : Nat) (len : Req → Bool) (rights ready : State → Req → Bool) (body : Req → State →
  State) (s : State) (h_body : ∀ x0 x1, (body x0 x1).pairs = x1.pairs) :
    (serve op len rights ready body s).pairs = s.pairs := by
  unfold serve; split <;> simp -implicitDefEqProofs [*]
@[simp] theorem serve_eopen (op : Nat) (len : Req → Bool) (rights ready : State → Req → Bool) (body : Req → State →
  State) (s : State) (h_body : ∀ x0 x1, (body x0 x1).eopen = x1.eopen) :
    (serve op len rights ready body s).eopen = s.eopen := by
  unfold serve; split <;> simp -implicitDefEqProofs [*]
@[simp] theorem serve_ledger (op : Nat) (len : Req → Bool) (rights ready : State → Req → Bool) (body : Req → State →
  State) (s : State) (h_body : ∀ x0 x1, (body x0 x1).ledger = x1.ledger) :
    (serve op len rights ready body s).ledger = s.ledger := by
  unfold serve; split <;> simp -implicitDefEqProofs [*]
@[simp] theorem serve_sched (op : Nat) (len : Req → Bool) (rights ready : State → Req → Bool) (body : Req → State →
  State) (s : State) (h_body : ∀ x0 x1, (body x0 x1).sched = x1.sched) :
    (serve op len rights ready body s).sched = s.sched := by
  unfold serve; split <;> simp -implicitDefEqProofs [*]
@[simp] theorem serve_tiles (op : Nat) (len : Req → Bool) (rights ready : State → Req → Bool) (body : Req → State →
  State) (s : State) (h_body : ∀ x0 x1, (body x0 x1).tiles = x1.tiles) :
    (serve op len rights ready body s).tiles = s.tiles := by
  unfold serve; split <;> simp -implicitDefEqProofs [*]
@[simp] theorem serve_dram (op : Nat) (len : Req → Bool) (rights ready : State → Req → Bool) (body : Req → State →
  State) (s : State) (h_body : ∀ x0 x1, (body x0 x1).dram = x1.dram) :
    (serve op len rights ready body s).dram = s.dram := by
  unfold serve; split <;> simp -implicitDefEqProofs [*]
@[simp] theorem serve_assayer (op : Nat) (len : Req → Bool) (rights ready : State → Req → Bool) (body : Req → State →
  State) (s : State) (h_body : ∀ x0 x1, (body x0 x1).assayer = x1.assayer) :
    (serve op len rights ready body s).assayer = s.assayer := by
  unfold serve; split <;> simp -implicitDefEqProofs [*]
@[simp] theorem serve_fabric (op : Nat) (len : Req → Bool) (rights ready : State → Req → Bool) (body : Req → State →
  State) (s : State) (h_body : ∀ x0 x1, (body x0 x1).fabric = x1.fabric) :
    (serve op len rights ready body s).fabric = s.fabric := by
  unfold serve; split <;> simp -implicitDefEqProofs [*]
@[simp] theorem serve_rumbes (op : Nat) (len : Req → Bool) (rights ready : State → Req → Bool) (body : Req → State →
  State) (s : State) (h_body : ∀ x0 x1, (body x0 x1).rumbes = x1.rumbes) :
    (serve op len rights ready body s).rumbes = s.rumbes := by
  unfold serve; split <;> simp -implicitDefEqProofs [*]
@[simp] theorem foremanRow_pending (t op : Nat) (len : Req → Bool) (rights ready : State → Req → Bool) (body : Req →
  State → State) (s : State) (h_body : ∀ x0 x1, (body x0 x1).pending = x1.pending) :
    (foremanRow t op len rights ready body s).pending = s.pending := by
  unfold foremanRow; simp -implicitDefEqProofs [*]
@[simp] theorem foremanRow_free (t op : Nat) (len : Req → Bool) (rights ready : State → Req → Bool) (body : Req → State
  → State) (s : State) (h_body : ∀ x0 x1, (body x0 x1).free = x1.free) :
    (foremanRow t op len rights ready body s).free = s.free := by
  unfold foremanRow; simp -implicitDefEqProofs [*]
@[simp] theorem foremanRow_sys (t op : Nat) (len : Req → Bool) (rights ready : State → Req → Bool) (body : Req → State →
  State) (s : State) (h_body : ∀ x0 x1, (body x0 x1).sys = x1.sys) :
    (foremanRow t op len rights ready body s).sys = s.sys := by
  unfold foremanRow; simp -implicitDefEqProofs [*]
@[simp] theorem foremanRow_ka (t op : Nat) (len : Req → Bool) (rights ready : State → Req → Bool) (body : Req → State →
  State) (s : State) (h_body : ∀ x0 x1, (body x0 x1).ka = x1.ka) :
    (foremanRow t op len rights ready body s).ka = s.ka := by
  unfold foremanRow; simp -implicitDefEqProofs [*]
@[simp] theorem foremanRow_flash (t op : Nat) (len : Req → Bool) (rights ready : State → Req → Bool) (body : Req → State
  → State) (s : State) (h_body : ∀ x0 x1, (body x0 x1).flash = x1.flash) :
    (foremanRow t op len rights ready body s).flash = s.flash := by
  unfold foremanRow; simp -implicitDefEqProofs [*]
@[simp] theorem foremanRow_journal (t op : Nat) (len : Req → Bool) (rights ready : State → Req → Bool) (body : Req →
  State → State) (s : State) (h_body : ∀ x0 x1, (body x0 x1).journal = x1.journal) :
    (foremanRow t op len rights ready body s).journal = s.journal := by
  unfold foremanRow; simp -implicitDefEqProofs [*]
@[simp] theorem foremanRow_log (t op : Nat) (len : Req → Bool) (rights ready : State → Req → Bool) (body : Req → State →
  State) (s : State) (h_body : ∀ x0 x1, (body x0 x1).log = x1.log) :
    (foremanRow t op len rights ready body s).log = s.log := by
  unfold foremanRow; simp -implicitDefEqProofs [*]
@[simp] theorem foremanRow_pairs (t op : Nat) (len : Req → Bool) (rights ready : State → Req → Bool) (body : Req → State
  → State) (s : State) (h_body : ∀ x0 x1, (body x0 x1).pairs = x1.pairs) :
    (foremanRow t op len rights ready body s).pairs = s.pairs := by
  unfold foremanRow; simp -implicitDefEqProofs [*]
@[simp] theorem foremanRow_eopen (t op : Nat) (len : Req → Bool) (rights ready : State → Req → Bool) (body : Req → State
  → State) (s : State) (h_body : ∀ x0 x1, (body x0 x1).eopen = x1.eopen) :
    (foremanRow t op len rights ready body s).eopen = s.eopen := by
  unfold foremanRow; simp -implicitDefEqProofs [*]
@[simp] theorem foremanRow_ledger (t op : Nat) (len : Req → Bool) (rights ready : State → Req → Bool) (body : Req →
  State → State) (s : State) (h_body : ∀ x0 x1, (body x0 x1).ledger = x1.ledger) :
    (foremanRow t op len rights ready body s).ledger = s.ledger := by
  unfold foremanRow; simp -implicitDefEqProofs [*]
@[simp] theorem foremanRow_sched (t op : Nat) (len : Req → Bool) (rights ready : State → Req → Bool) (body : Req → State
  → State) (s : State) (h_body : ∀ x0 x1, (body x0 x1).sched = x1.sched) :
    (foremanRow t op len rights ready body s).sched = s.sched := by
  unfold foremanRow; simp -implicitDefEqProofs [*]
@[simp] theorem foremanRow_tiles (t op : Nat) (len : Req → Bool) (rights ready : State → Req → Bool) (body : Req → State
  → State) (s : State) (h_body : ∀ x0 x1, (body x0 x1).tiles = x1.tiles) :
    (foremanRow t op len rights ready body s).tiles = s.tiles := by
  unfold foremanRow; simp -implicitDefEqProofs [*]
@[simp] theorem foremanRow_dram (t op : Nat) (len : Req → Bool) (rights ready : State → Req → Bool) (body : Req → State
  → State) (s : State) (h_body : ∀ x0 x1, (body x0 x1).dram = x1.dram) :
    (foremanRow t op len rights ready body s).dram = s.dram := by
  unfold foremanRow; simp -implicitDefEqProofs [*]
@[simp] theorem foremanRow_assayer (t op : Nat) (len : Req → Bool) (rights ready : State → Req → Bool) (body : Req →
  State → State) (s : State) (h_body : ∀ x0 x1, (body x0 x1).assayer = x1.assayer) :
    (foremanRow t op len rights ready body s).assayer = s.assayer := by
  unfold foremanRow; simp -implicitDefEqProofs [*]
@[simp] theorem foremanRow_fabric (t op : Nat) (len : Req → Bool) (rights ready : State → Req → Bool) (body : Req →
  State → State) (s : State) (h_body : ∀ x0 x1, (body x0 x1).fabric = x1.fabric) :
    (foremanRow t op len rights ready body s).fabric = s.fabric := by
  unfold foremanRow; simp -implicitDefEqProofs [*]
@[simp] theorem foremanRow_rumbes (t op : Nat) (len : Req → Bool) (rights ready : State → Req → Bool) (body : Req →
  State → State) (s : State) (h_body : ∀ x0 x1, (body x0 x1).rumbes = x1.rumbes) :
    (foremanRow t op len rights ready body s).rumbes = s.rumbes := by
  unfold foremanRow; simp -implicitDefEqProofs [*]
@[simp] theorem defer_frame (s : State) (tenant : Nat) (d : Deferred) :
    (defer s tenant d).1.pending = s.pending ∧ (defer s tenant d).1.now = s.now ∧ (defer s tenant d).1.free = s.free ∧
      (defer s tenant d).1.out = s.out ∧ (defer s tenant d).1.sys = s.sys ∧ (defer s tenant d).1.ka = s.ka ∧ (defer s tenant
      d).1.flash = s.flash ∧ (defer s tenant d).1.journal = s.journal ∧ (defer s tenant d).1.host = s.host ∧ (defer s tenant
      d).1.ports = s.ports ∧ (defer s tenant d).1.pcie = s.pcie ∧ (defer s tenant d).1.log = s.log ∧ (defer s tenant
      d).1.pairs = s.pairs ∧ (defer s tenant d).1.eopen = s.eopen ∧ (defer s tenant d).1.ledger = s.ledger ∧ (defer s tenant
      d).1.sched = s.sched ∧ (defer s tenant d).1.tiles = s.tiles ∧ (defer s tenant d).1.dram = s.dram ∧ (defer s tenant
      d).1.assayer = s.assayer ∧ (defer s tenant d).1.fabric = s.fabric ∧ (defer s tenant d).1.rumbes = s.rumbes := by
  unfold defer; simp [*]
@[simp] theorem endTicket_frame (s : State) (tenant ticket event status reason mask : Nat) (fields : List Byte) :
    (endTicket s tenant ticket event status reason mask fields).pending = s.pending ∧ (endTicket s tenant ticket event
      status reason mask fields).now = s.now ∧ (endTicket s tenant ticket event status reason mask fields).free = s.free ∧
      (endTicket s tenant ticket event status reason mask fields).out = s.out ∧ (endTicket s tenant ticket event status reason
      mask fields).sys = s.sys ∧ (endTicket s tenant ticket event status reason mask fields).ka = s.ka ∧ (endTicket s tenant
      ticket event status reason mask fields).flash = s.flash ∧ (endTicket s tenant ticket event status reason mask
      fields).journal = s.journal ∧ (endTicket s tenant ticket event status reason mask fields).host = s.host ∧ (endTicket s
      tenant ticket event status reason mask fields).pcie = s.pcie ∧ (endTicket s tenant ticket event status reason mask
      fields).log = s.log ∧ (endTicket s tenant ticket event status reason mask fields).pairs = s.pairs ∧ (endTicket s tenant
      ticket event status reason mask fields).eopen = s.eopen ∧ (endTicket s tenant ticket event status reason mask
      fields).ledger = s.ledger ∧ (endTicket s tenant ticket event status reason mask fields).sched = s.sched ∧ (endTicket s
      tenant ticket event status reason mask fields).tiles = s.tiles ∧ (endTicket s tenant ticket event status reason mask
      fields).dram = s.dram ∧ (endTicket s tenant ticket event status reason mask fields).assayer = s.assayer ∧ (endTicket s
      tenant ticket event status reason mask fields).fabric = s.fabric ∧ (endTicket s tenant ticket event status reason mask
      fields).rumbes = s.rumbes := by
  unfold endTicket; simp [*]

/-! ### Admit -/

@[simp] theorem takePlace_frame (s : State) (st : Stream) (p : Place) :
    (takePlace s st p).pending = s.pending ∧ (takePlace s st p).now = s.now ∧ (takePlace s st p).free = s.free ∧ (takePlace
      s st p).out = s.out ∧ (takePlace s st p).sys = s.sys ∧ (takePlace s st p).ka = s.ka ∧ (takePlace s st p).flash = s.flash
      ∧ (takePlace s st p).journal = s.journal ∧ (takePlace s st p).host = s.host ∧ (takePlace s st p).ports = s.ports ∧
      (takePlace s st p).pcie = s.pcie ∧ (takePlace s st p).log = s.log ∧ (takePlace s st p).foreman = s.foreman ∧ (takePlace
      s st p).pairs = s.pairs ∧ (takePlace s st p).eopen = s.eopen ∧ (takePlace s st p).ledger = s.ledger ∧ (takePlace s st
      p).dram = s.dram ∧ (takePlace s st p).assayer = s.assayer ∧ (takePlace s st p).fabric = s.fabric ∧ (takePlace s st
      p).rumbes = s.rumbes := by
  unfold takePlace; split <;> simp [*]

/-! ### StreamCmds -/

@[simp] theorem onStream_pending (f : Req → Nat → State → State) (r : Req) (s : State) (h_f : ∀ x0 x1 x2, (f x0 x1
  x2).pending = x2.pending) :
    (onStream f r s).pending = s.pending := by
  unfold onStream; simp -implicitDefEqProofs [*]
@[simp] theorem onStream_now (f : Req → Nat → State → State) (r : Req) (s : State) (h_f : ∀ x0 x1 x2, (f x0 x1 x2).now =
  x2.now) :
    (onStream f r s).now = s.now := by
  unfold onStream; simp -implicitDefEqProofs [*]
@[simp] theorem onStream_free (f : Req → Nat → State → State) (r : Req) (s : State) (h_f : ∀ x0 x1 x2, (f x0 x1 x2).free
  = x2.free) :
    (onStream f r s).free = s.free := by
  unfold onStream; simp -implicitDefEqProofs [*]
@[simp] theorem onStream_out (f : Req → Nat → State → State) (r : Req) (s : State) (h_f : ∀ x0 x1 x2, (f x0 x1 x2).out =
  x2.out) :
    (onStream f r s).out = s.out := by
  unfold onStream; simp -implicitDefEqProofs [*]
@[simp] theorem onStream_sys (f : Req → Nat → State → State) (r : Req) (s : State) (h_f : ∀ x0 x1 x2, (f x0 x1 x2).sys =
  x2.sys) :
    (onStream f r s).sys = s.sys := by
  unfold onStream; simp -implicitDefEqProofs [*]
@[simp] theorem onStream_ka (f : Req → Nat → State → State) (r : Req) (s : State) (h_f : ∀ x0 x1 x2, (f x0 x1 x2).ka =
  x2.ka) :
    (onStream f r s).ka = s.ka := by
  unfold onStream; simp -implicitDefEqProofs [*]
@[simp] theorem onStream_flash (f : Req → Nat → State → State) (r : Req) (s : State) (h_f : ∀ x0 x1 x2, (f x0 x1
  x2).flash = x2.flash) :
    (onStream f r s).flash = s.flash := by
  unfold onStream; simp -implicitDefEqProofs [*]
@[simp] theorem onStream_journal (f : Req → Nat → State → State) (r : Req) (s : State) (h_f : ∀ x0 x1 x2, (f x0 x1
  x2).journal = x2.journal) :
    (onStream f r s).journal = s.journal := by
  unfold onStream; simp -implicitDefEqProofs [*]
@[simp] theorem onStream_host (f : Req → Nat → State → State) (r : Req) (s : State) (h_f : ∀ x0 x1 x2, (f x0 x1 x2).host
  = x2.host) :
    (onStream f r s).host = s.host := by
  unfold onStream; simp -implicitDefEqProofs [*]
@[simp] theorem onStream_pcie (f : Req → Nat → State → State) (r : Req) (s : State) (h_f : ∀ x0 x1 x2, (f x0 x1 x2).pcie
  = x2.pcie) :
    (onStream f r s).pcie = s.pcie := by
  unfold onStream; simp -implicitDefEqProofs [*]
@[simp] theorem onStream_log (f : Req → Nat → State → State) (r : Req) (s : State) (h_f : ∀ x0 x1 x2, (f x0 x1 x2).log =
  x2.log) :
    (onStream f r s).log = s.log := by
  unfold onStream; simp -implicitDefEqProofs [*]
@[simp] theorem onStream_foreman (f : Req → Nat → State → State) (r : Req) (s : State) (h_f : ∀ x0 x1 x2, (f x0 x1
  x2).foreman = x2.foreman) :
    (onStream f r s).foreman = s.foreman := by
  unfold onStream; simp -implicitDefEqProofs [*]
@[simp] theorem onStream_pairs (f : Req → Nat → State → State) (r : Req) (s : State) (h_f : ∀ x0 x1 x2, (f x0 x1
  x2).pairs = x2.pairs) :
    (onStream f r s).pairs = s.pairs := by
  unfold onStream; simp -implicitDefEqProofs [*]
@[simp] theorem onStream_eopen (f : Req → Nat → State → State) (r : Req) (s : State) (h_f : ∀ x0 x1 x2, (f x0 x1
  x2).eopen = x2.eopen) :
    (onStream f r s).eopen = s.eopen := by
  unfold onStream; simp -implicitDefEqProofs [*]
@[simp] theorem onStream_ledger (f : Req → Nat → State → State) (r : Req) (s : State) (h_f : ∀ x0 x1 x2, (f x0 x1
  x2).ledger = x2.ledger) :
    (onStream f r s).ledger = s.ledger := by
  unfold onStream; simp -implicitDefEqProofs [*]
@[simp] theorem onStream_sched (f : Req → Nat → State → State) (r : Req) (s : State) (h_f : ∀ x0 x1 x2, (f x0 x1
  x2).sched = x2.sched) :
    (onStream f r s).sched = s.sched := by
  unfold onStream; simp -implicitDefEqProofs [*]
@[simp] theorem onStream_tiles (f : Req → Nat → State → State) (r : Req) (s : State) (h_f : ∀ x0 x1 x2, (f x0 x1
  x2).tiles = x2.tiles) :
    (onStream f r s).tiles = s.tiles := by
  unfold onStream; simp -implicitDefEqProofs [*]
@[simp] theorem onStream_dram (f : Req → Nat → State → State) (r : Req) (s : State) (h_f : ∀ x0 x1 x2, (f x0 x1 x2).dram
  = x2.dram) :
    (onStream f r s).dram = s.dram := by
  unfold onStream; simp -implicitDefEqProofs [*]
@[simp] theorem onStream_assayer (f : Req → Nat → State → State) (r : Req) (s : State) (h_f : ∀ x0 x1 x2, (f x0 x1
  x2).assayer = x2.assayer) :
    (onStream f r s).assayer = s.assayer := by
  unfold onStream; simp -implicitDefEqProofs [*]
@[simp] theorem onStream_fabric (f : Req → Nat → State → State) (r : Req) (s : State) (h_f : ∀ x0 x1 x2, (f x0 x1
  x2).fabric = x2.fabric) :
    (onStream f r s).fabric = s.fabric := by
  unfold onStream; simp -implicitDefEqProofs [*]
@[simp] theorem onStream_rumbes (f : Req → Nat → State → State) (r : Req) (s : State) (h_f : ∀ x0 x1 x2, (f x0 x1
  x2).rumbes = x2.rumbes) :
    (onStream f r s).rumbes = s.rumbes := by
  unfold onStream; simp -implicitDefEqProofs [*]
@[simp] theorem roomFor_frame (s : State) (st : Stream) (mask : Nat) (wantStore : Bool) :
    (roomFor s st mask wantStore).pending = s.pending ∧ (roomFor s st mask wantStore).now = s.now ∧ (roomFor s st mask
      wantStore).free = s.free ∧ (roomFor s st mask wantStore).out = s.out ∧ (roomFor s st mask wantStore).sys = s.sys ∧
      (roomFor s st mask wantStore).ka = s.ka ∧ (roomFor s st mask wantStore).flash = s.flash ∧ (roomFor s st mask
      wantStore).journal = s.journal ∧ (roomFor s st mask wantStore).host = s.host ∧ (roomFor s st mask wantStore).ports
      = s.ports ∧ (roomFor s st mask wantStore).pcie = s.pcie ∧ (roomFor s st mask wantStore).log = s.log ∧ (roomFor s
      st mask wantStore).foreman = s.foreman ∧ (roomFor s st mask wantStore).pairs = s.pairs ∧ (roomFor s st mask
      wantStore).eopen = s.eopen ∧ (roomFor s st mask wantStore).ledger = s.ledger ∧ (roomFor s st mask wantStore).dram
      = s.dram ∧ (roomFor s st mask wantStore).assayer = s.assayer ∧ (roomFor s st mask wantStore).fabric = s.fabric ∧
      (roomFor s st mask wantStore).rumbes = s.rumbes := by
  rcases roomFor_cases s st mask wantStore with h | ⟨n, a, b, h⟩ <;> simp [h]
@[simp] theorem streamStartDo_frame (r : Req) (s : State) :
    (streamStartDo r s).pending = s.pending ∧ (streamStartDo r s).now = s.now ∧ (streamStartDo r s).free = s.free ∧
      (streamStartDo r s).out = s.out ∧ (streamStartDo r s).sys = s.sys ∧ (streamStartDo r s).ka = s.ka ∧ (streamStartDo r
      s).flash = s.flash ∧ (streamStartDo r s).journal = s.journal ∧ (streamStartDo r s).host = s.host ∧ (streamStartDo r
      s).pcie = s.pcie ∧ (streamStartDo r s).log = s.log ∧ (streamStartDo r s).foreman = s.foreman ∧ (streamStartDo r s).pairs
      = s.pairs ∧ (streamStartDo r s).eopen = s.eopen ∧ (streamStartDo r s).ledger = s.ledger ∧ (streamStartDo r s).dram =
      s.dram ∧ (streamStartDo r s).assayer = s.assayer ∧ (streamStartDo r s).fabric = s.fabric ∧ (streamStartDo r s).rumbes =
      s.rumbes := by
  unfold streamStartDo; simp [*] <;> (repeat' split) <;> simp [*]
@[simp] theorem hostPause_frame (s : State) (n : Nat) :
    (hostPause s n).pending = s.pending ∧ (hostPause s n).now = s.now ∧ (hostPause s n).free = s.free ∧ (hostPause s
      n).out = s.out ∧ (hostPause s n).sys = s.sys ∧ (hostPause s n).ka = s.ka ∧ (hostPause s n).flash = s.flash ∧
      (hostPause s n).journal = s.journal ∧ (hostPause s n).host = s.host ∧ (hostPause s n).ports = s.ports ∧ (hostPause
      s n).pcie = s.pcie ∧ (hostPause s n).log = s.log ∧ (hostPause s n).foreman = s.foreman ∧ (hostPause s n).pairs =
      s.pairs ∧ (hostPause s n).eopen = s.eopen ∧ (hostPause s n).ledger = s.ledger ∧ (hostPause s n).dram = s.dram ∧
      (hostPause s n).assayer = s.assayer ∧ (hostPause s n).fabric = s.fabric ∧ (hostPause s n).rumbes = s.rumbes := by
  unfold hostPause; simp -implicitDefEqProofs [*]
@[simp] theorem streamPauseDo_frame (r : Req) (n : Nat) (s : State) :
    (streamPauseDo r n s).pending = s.pending ∧ (streamPauseDo r n s).now = s.now ∧ (streamPauseDo r n s).free = s.free
      ∧ (streamPauseDo r n s).out = s.out ∧ (streamPauseDo r n s).sys = s.sys ∧ (streamPauseDo r n s).ka = s.ka ∧
      (streamPauseDo r n s).flash = s.flash ∧ (streamPauseDo r n s).journal = s.journal ∧ (streamPauseDo r n s).host =
      s.host ∧ (streamPauseDo r n s).pcie = s.pcie ∧ (streamPauseDo r n s).log = s.log ∧ (streamPauseDo r n s).foreman =
      s.foreman ∧ (streamPauseDo r n s).pairs = s.pairs ∧ (streamPauseDo r n s).eopen = s.eopen ∧ (streamPauseDo r n
      s).ledger = s.ledger ∧ (streamPauseDo r n s).dram = s.dram ∧ (streamPauseDo r n s).assayer = s.assayer ∧
      (streamPauseDo r n s).fabric = s.fabric ∧ (streamPauseDo r n s).rumbes = s.rumbes := by
  unfold streamPauseDo; simp -implicitDefEqProofs [*]
@[simp] theorem resumeStream_frame (s : State) (n : Nat) :
    (resumeStream s n).pending = s.pending ∧ (resumeStream s n).now = s.now ∧ (resumeStream s n).free = s.free ∧
      (resumeStream s n).out = s.out ∧ (resumeStream s n).sys = s.sys ∧ (resumeStream s n).ka = s.ka ∧ (resumeStream s
      n).flash = s.flash ∧ (resumeStream s n).journal = s.journal ∧ (resumeStream s n).host = s.host ∧ (resumeStream s
      n).pcie = s.pcie ∧ (resumeStream s n).log = s.log ∧ (resumeStream s n).foreman = s.foreman ∧ (resumeStream s
      n).pairs = s.pairs ∧ (resumeStream s n).eopen = s.eopen ∧ (resumeStream s n).ledger = s.ledger ∧ (resumeStream s
      n).dram = s.dram ∧ (resumeStream s n).assayer = s.assayer ∧ (resumeStream s n).fabric = s.fabric ∧ (resumeStream s
      n).rumbes = s.rumbes := by
  unfold resumeStream; simp -implicitDefEqProofs [*]
@[simp] theorem moveTo_frame (s : State) (n : Nat) (p : Place) :
    (moveTo s n p).pending = s.pending ∧ (moveTo s n p).now = s.now ∧ (moveTo s n p).free = s.free ∧ (moveTo s n p).out
      = s.out ∧ (moveTo s n p).sys = s.sys ∧ (moveTo s n p).ka = s.ka ∧ (moveTo s n p).flash = s.flash ∧ (moveTo s n
      p).journal = s.journal ∧ (moveTo s n p).host = s.host ∧ (moveTo s n p).pcie = s.pcie ∧ (moveTo s n p).log = s.log
      ∧ (moveTo s n p).foreman = s.foreman ∧ (moveTo s n p).pairs = s.pairs ∧ (moveTo s n p).eopen = s.eopen ∧ (moveTo s
      n p).ledger = s.ledger ∧ (moveTo s n p).assayer = s.assayer ∧ (moveTo s n p).fabric = s.fabric ∧ (moveTo s n
      p).rumbes = s.rumbes := by
  unfold moveTo; simp -implicitDefEqProofs [*]
@[simp] theorem streamResumeDo_frame (r : Req) (n : Nat) (s : State) :
    (streamResumeDo r n s).pending = s.pending ∧ (streamResumeDo r n s).now = s.now ∧ (streamResumeDo r n s).free =
      s.free ∧ (streamResumeDo r n s).out = s.out ∧ (streamResumeDo r n s).sys = s.sys ∧ (streamResumeDo r n s).ka =
      s.ka ∧ (streamResumeDo r n s).flash = s.flash ∧ (streamResumeDo r n s).journal = s.journal ∧ (streamResumeDo r n
      s).host = s.host ∧ (streamResumeDo r n s).pcie = s.pcie ∧ (streamResumeDo r n s).log = s.log ∧ (streamResumeDo r n
      s).foreman = s.foreman ∧ (streamResumeDo r n s).pairs = s.pairs ∧ (streamResumeDo r n s).eopen = s.eopen ∧
      (streamResumeDo r n s).ledger = s.ledger ∧ (streamResumeDo r n s).assayer = s.assayer ∧ (streamResumeDo r n
      s).fabric = s.fabric ∧ (streamResumeDo r n s).rumbes = s.rumbes := by
  unfold streamResumeDo; dsimp only; (repeat' split) <;> simp -implicitDefEqProofs [*]
@[simp] theorem streamResetDo_frame (r : Req) (n : Nat) (s : State) :
    (streamResetDo r n s).pending = s.pending ∧ (streamResetDo r n s).now = s.now ∧ (streamResetDo r n s).free = s.free ∧
      (streamResetDo r n s).out = s.out ∧ (streamResetDo r n s).sys = s.sys ∧ (streamResetDo r n s).ka = s.ka ∧ (streamResetDo
      r n s).flash = s.flash ∧ (streamResetDo r n s).journal = s.journal ∧ (streamResetDo r n s).host = s.host ∧
      (streamResetDo r n s).pcie = s.pcie ∧ (streamResetDo r n s).log = s.log ∧ (streamResetDo r n s).foreman = s.foreman ∧
      (streamResetDo r n s).pairs = s.pairs ∧ (streamResetDo r n s).eopen = s.eopen ∧ (streamResetDo r n s).ledger = s.ledger
      ∧ (streamResetDo r n s).tiles = s.tiles ∧ (streamResetDo r n s).dram = s.dram ∧ (streamResetDo r n s).assayer =
      s.assayer ∧ (streamResetDo r n s).fabric = s.fabric ∧ (streamResetDo r n s).rumbes = s.rumbes := by
  unfold streamResetDo; simp [*]
@[simp] theorem streamEndDo_frame (r : Req) (n : Nat) (s : State) :
    (streamEndDo r n s).pending = s.pending ∧ (streamEndDo r n s).now = s.now ∧ (streamEndDo r n s).out = s.out ∧
      (streamEndDo r n s).sys = s.sys ∧ (streamEndDo r n s).ka = s.ka ∧ (streamEndDo r n s).flash = s.flash ∧ (streamEndDo r n
      s).journal = s.journal ∧ (streamEndDo r n s).host = s.host ∧ (streamEndDo r n s).pcie = s.pcie ∧ (streamEndDo r n s).log
      = s.log ∧ (streamEndDo r n s).foreman = s.foreman ∧ (streamEndDo r n s).pairs = s.pairs ∧ (streamEndDo r n s).eopen =
      s.eopen ∧ (streamEndDo r n s).ledger = s.ledger ∧ (streamEndDo r n s).dram = s.dram ∧ (streamEndDo r n s).assayer =
      s.assayer ∧ (streamEndDo r n s).fabric = s.fabric ∧ (streamEndDo r n s).rumbes = s.rumbes := by
  unfold streamEndDo; simp [*]
@[simp] theorem streamSetDo_frame (r : Req) (n : Nat) (s : State) :
    (streamSetDo r n s).pending = s.pending ∧ (streamSetDo r n s).now = s.now ∧ (streamSetDo r n s).free = s.free ∧
      (streamSetDo r n s).out = s.out ∧ (streamSetDo r n s).sys = s.sys ∧ (streamSetDo r n s).ka = s.ka ∧ (streamSetDo r n
      s).flash = s.flash ∧ (streamSetDo r n s).journal = s.journal ∧ (streamSetDo r n s).host = s.host ∧ (streamSetDo r n
      s).pcie = s.pcie ∧ (streamSetDo r n s).log = s.log ∧ (streamSetDo r n s).foreman = s.foreman ∧ (streamSetDo r n s).pairs
      = s.pairs ∧ (streamSetDo r n s).eopen = s.eopen ∧ (streamSetDo r n s).ledger = s.ledger ∧ (streamSetDo r n s).assayer =
      s.assayer ∧ (streamSetDo r n s).fabric = s.fabric ∧ (streamSetDo r n s).rumbes = s.rumbes := by
  unfold streamSetDo; simp [*] <;> (repeat' split) <;> simp [*]
@[simp] theorem streamStatusDo_frame (r : Req) (n : Nat) (s : State) :
    (streamStatusDo r n s).pending = s.pending ∧ (streamStatusDo r n s).now = s.now ∧ (streamStatusDo r n s).free = s.free ∧
      (streamStatusDo r n s).out = s.out ∧ (streamStatusDo r n s).sys = s.sys ∧ (streamStatusDo r n s).ka = s.ka ∧
      (streamStatusDo r n s).flash = s.flash ∧ (streamStatusDo r n s).journal = s.journal ∧ (streamStatusDo r n s).host =
      s.host ∧ (streamStatusDo r n s).pcie = s.pcie ∧ (streamStatusDo r n s).log = s.log ∧ (streamStatusDo r n s).foreman =
      s.foreman ∧ (streamStatusDo r n s).pairs = s.pairs ∧ (streamStatusDo r n s).eopen = s.eopen ∧ (streamStatusDo r n
      s).ledger = s.ledger ∧ (streamStatusDo r n s).sched = s.sched ∧ (streamStatusDo r n s).tiles = s.tiles ∧ (streamStatusDo
      r n s).dram = s.dram ∧ (streamStatusDo r n s).assayer = s.assayer ∧ (streamStatusDo r n s).fabric = s.fabric ∧
      (streamStatusDo r n s).rumbes = s.rumbes := by
  unfold streamStatusDo; simp [*]
@[simp] theorem streamInputDo_frame (r : Req) (n : Nat) (s : State) :
    (streamInputDo r n s).pending = s.pending ∧ (streamInputDo r n s).now = s.now ∧ (streamInputDo r n s).free = s.free ∧
      (streamInputDo r n s).out = s.out ∧ (streamInputDo r n s).sys = s.sys ∧ (streamInputDo r n s).ka = s.ka ∧ (streamInputDo
      r n s).flash = s.flash ∧ (streamInputDo r n s).journal = s.journal ∧ (streamInputDo r n s).host = s.host ∧
      (streamInputDo r n s).pcie = s.pcie ∧ (streamInputDo r n s).log = s.log ∧ (streamInputDo r n s).foreman = s.foreman ∧
      (streamInputDo r n s).pairs = s.pairs ∧ (streamInputDo r n s).eopen = s.eopen ∧ (streamInputDo r n s).ledger = s.ledger
      ∧ (streamInputDo r n s).tiles = s.tiles ∧ (streamInputDo r n s).dram = s.dram ∧ (streamInputDo r n s).assayer =
      s.assayer ∧ (streamInputDo r n s).fabric = s.fabric ∧ (streamInputDo r n s).rumbes = s.rumbes := by
  unfold streamInputDo; simp [*]
@[simp] theorem streamParamDo_frame (r : Req) (n : Nat) (s : State) :
    (streamParamDo r n s).pending = s.pending ∧ (streamParamDo r n s).now = s.now ∧ (streamParamDo r n s).free = s.free ∧
      (streamParamDo r n s).out = s.out ∧ (streamParamDo r n s).sys = s.sys ∧ (streamParamDo r n s).ka = s.ka ∧ (streamParamDo
      r n s).flash = s.flash ∧ (streamParamDo r n s).journal = s.journal ∧ (streamParamDo r n s).host = s.host ∧
      (streamParamDo r n s).pcie = s.pcie ∧ (streamParamDo r n s).log = s.log ∧ (streamParamDo r n s).foreman = s.foreman ∧
      (streamParamDo r n s).pairs = s.pairs ∧ (streamParamDo r n s).eopen = s.eopen ∧ (streamParamDo r n s).ledger = s.ledger
      ∧ (streamParamDo r n s).assayer = s.assayer ∧ (streamParamDo r n s).fabric = s.fabric ∧ (streamParamDo r n s).rumbes =
      s.rumbes := by
  unfold streamParamDo; simp [*]
@[simp] theorem clearFlagsDo_frame (r : Req) (n : Nat) (s : State) :
    (clearFlagsDo r n s).pending = s.pending ∧ (clearFlagsDo r n s).now = s.now ∧ (clearFlagsDo r n s).free = s.free ∧
      (clearFlagsDo r n s).out = s.out ∧ (clearFlagsDo r n s).sys = s.sys ∧ (clearFlagsDo r n s).ka = s.ka ∧ (clearFlagsDo r n
      s).flash = s.flash ∧ (clearFlagsDo r n s).journal = s.journal ∧ (clearFlagsDo r n s).host = s.host ∧ (clearFlagsDo r n
      s).pcie = s.pcie ∧ (clearFlagsDo r n s).log = s.log ∧ (clearFlagsDo r n s).foreman = s.foreman ∧ (clearFlagsDo r n
      s).pairs = s.pairs ∧ (clearFlagsDo r n s).eopen = s.eopen ∧ (clearFlagsDo r n s).ledger = s.ledger ∧ (clearFlagsDo r n
      s).tiles = s.tiles ∧ (clearFlagsDo r n s).dram = s.dram ∧ (clearFlagsDo r n s).assayer = s.assayer ∧ (clearFlagsDo r n
      s).fabric = s.fabric ∧ (clearFlagsDo r n s).rumbes = s.rumbes := by
  unfold clearFlagsDo; simp [*]
@[simp] theorem setOutRingDo_frame (r : Req) (s : State) :
    (setOutRingDo r s).pending = s.pending ∧ (setOutRingDo r s).now = s.now ∧ (setOutRingDo r s).free = s.free ∧
      (setOutRingDo r s).out = s.out ∧ (setOutRingDo r s).sys = s.sys ∧ (setOutRingDo r s).ka = s.ka ∧ (setOutRingDo r
      s).flash = s.flash ∧ (setOutRingDo r s).journal = s.journal ∧ (setOutRingDo r s).host = s.host ∧ (setOutRingDo r s).pcie
      = s.pcie ∧ (setOutRingDo r s).log = s.log ∧ (setOutRingDo r s).pairs = s.pairs ∧ (setOutRingDo r s).eopen = s.eopen ∧
      (setOutRingDo r s).ledger = s.ledger ∧ (setOutRingDo r s).sched = s.sched ∧ (setOutRingDo r s).tiles = s.tiles ∧
      (setOutRingDo r s).assayer = s.assayer ∧ (setOutRingDo r s).fabric = s.fabric ∧ (setOutRingDo r s).rumbes = s.rumbes :=
      by
  unfold setOutRingDo; split <;> simp [*]

/-! ### Images -/

@[simp] theorem loadTile_frame (s : State) (img : Image) (tile : Nat) :
    (loadTile s img tile).pending = s.pending ∧ (loadTile s img tile).now = s.now ∧ (loadTile s img tile).free = s.free ∧
      (loadTile s img tile).out = s.out ∧ (loadTile s img tile).sys = s.sys ∧ (loadTile s img tile).ka = s.ka ∧ (loadTile s
      img tile).flash = s.flash ∧ (loadTile s img tile).journal = s.journal ∧ (loadTile s img tile).host = s.host ∧ (loadTile
      s img tile).ports = s.ports ∧ (loadTile s img tile).pcie = s.pcie ∧ (loadTile s img tile).log = s.log ∧ (loadTile s img
      tile).foreman = s.foreman ∧ (loadTile s img tile).pairs = s.pairs ∧ (loadTile s img tile).eopen = s.eopen ∧ (loadTile s
      img tile).ledger = s.ledger ∧ (loadTile s img tile).sched = s.sched ∧ (loadTile s img tile).dram = s.dram ∧ (loadTile s
      img tile).assayer = s.assayer ∧ (loadTile s img tile).fabric = s.fabric ∧ (loadTile s img tile).rumbes = s.rumbes := by
  refine ⟨?_, ?_, ?_, ?_, ?_, ?_, ?_, ?_, ?_, ?_, ?_, ?_, ?_, ?_, ?_, ?_, ?_, ?_, ?_, ?_, ?_⟩
  · unfold loadTile; exact (foldl_pending _ _ _ (fun s x => by (repeat' split) <;> simp)).trans (by simp)
  · unfold loadTile; exact (foldl_now _ _ _ (fun s x => by (repeat' split) <;> simp)).trans (by simp)
  · unfold loadTile; exact (foldl_free _ _ _ (fun s x => by (repeat' split) <;> simp)).trans (by simp)
  · unfold loadTile; exact (foldl_out _ _ _ (fun s x => by (repeat' split) <;> simp)).trans (by simp)
  · unfold loadTile; exact (foldl_sys _ _ _ (fun s x => by (repeat' split) <;> simp)).trans (by simp)
  · unfold loadTile; exact (foldl_ka _ _ _ (fun s x => by (repeat' split) <;> simp)).trans (by simp)
  · unfold loadTile; exact (foldl_flash _ _ _ (fun s x => by (repeat' split) <;> simp)).trans (by simp)
  · unfold loadTile; exact (foldl_journal _ _ _ (fun s x => by (repeat' split) <;> simp)).trans (by simp)
  · unfold loadTile; exact (foldl_host _ _ _ (fun s x => by (repeat' split) <;> simp)).trans (by simp)
  · unfold loadTile; exact (foldl_ports _ _ _ (fun s x => by (repeat' split) <;> simp)).trans (by simp)
  · unfold loadTile; exact (foldl_pcie _ _ _ (fun s x => by (repeat' split) <;> simp)).trans (by simp)
  · unfold loadTile; exact (foldl_log _ _ _ (fun s x => by (repeat' split) <;> simp)).trans (by simp)
  · unfold loadTile; exact (foldl_foreman _ _ _ (fun s x => by (repeat' split) <;> simp)).trans (by simp)
  · unfold loadTile; exact (foldl_pairs _ _ _ (fun s x => by (repeat' split) <;> simp)).trans (by simp)
  · unfold loadTile; exact (foldl_eopen _ _ _ (fun s x => by (repeat' split) <;> simp)).trans (by simp)
  · unfold loadTile; exact (foldl_ledger _ _ _ (fun s x => by (repeat' split) <;> simp)).trans (by simp)
  · unfold loadTile; exact (foldl_sched _ _ _ (fun s x => by (repeat' split) <;> simp)).trans (by simp)
  · unfold loadTile; exact (foldl_dram _ _ _ (fun s x => by (repeat' split) <;> simp)).trans (by simp)
  · unfold loadTile; exact (foldl_assayer _ _ _ (fun s x => by (repeat' split) <;> simp)).trans (by simp)
  · unfold loadTile; exact (foldl_fabric _ _ _ (fun s x => by (repeat' split) <;> simp)).trans (by simp)
  · unfold loadTile; exact (foldl_rumbes _ _ _ (fun s x => by (repeat' split) <;> simp)).trans (by simp)
@[simp] theorem loadWeights_frame (s : State) (img : Image) (b : Nat) :
    (loadWeights s img b).pending = s.pending ∧ (loadWeights s img b).now = s.now ∧ (loadWeights s img b).free = s.free ∧
      (loadWeights s img b).out = s.out ∧ (loadWeights s img b).sys = s.sys ∧ (loadWeights s img b).ka = s.ka ∧ (loadWeights s
      img b).flash = s.flash ∧ (loadWeights s img b).journal = s.journal ∧ (loadWeights s img b).host = s.host ∧ (loadWeights
      s img b).ports = s.ports ∧ (loadWeights s img b).pcie = s.pcie ∧ (loadWeights s img b).log = s.log ∧ (loadWeights s img
      b).foreman = s.foreman ∧ (loadWeights s img b).pairs = s.pairs ∧ (loadWeights s img b).eopen = s.eopen ∧ (loadWeights s
      img b).ledger = s.ledger ∧ (loadWeights s img b).tiles = s.tiles ∧ (loadWeights s img b).dram = s.dram ∧ (loadWeights s
      img b).assayer = s.assayer ∧ (loadWeights s img b).fabric = s.fabric ∧ (loadWeights s img b).rumbes = s.rumbes := by
  unfold loadWeights; simp [*]
@[simp] theorem loadImage_frame (s : State) (img : Image) :
    (loadImage s img).pending = s.pending ∧ (loadImage s img).now = s.now ∧ (loadImage s img).free = s.free ∧ (loadImage s
      img).out = s.out ∧ (loadImage s img).sys = s.sys ∧ (loadImage s img).ka = s.ka ∧ (loadImage s img).flash = s.flash ∧
      (loadImage s img).journal = s.journal ∧ (loadImage s img).host = s.host ∧ (loadImage s img).ports = s.ports ∧ (loadImage
      s img).pcie = s.pcie ∧ (loadImage s img).log = s.log ∧ (loadImage s img).foreman = s.foreman ∧ (loadImage s img).pairs =
      s.pairs ∧ (loadImage s img).eopen = s.eopen ∧ (loadImage s img).ledger = s.ledger ∧ (loadImage s img).dram = s.dram ∧
      (loadImage s img).assayer = s.assayer ∧ (loadImage s img).fabric = s.fabric ∧ (loadImage s img).rumbes = s.rumbes := by
  unfold loadImage; simp [*]
@[simp] theorem replaceTile_frame (s : State) (h tile : Nat) :
    (replaceTile s h tile).pending = s.pending ∧ (replaceTile s h tile).now = s.now ∧ (replaceTile s h tile).sys = s.sys ∧
      (replaceTile s h tile).flash = s.flash ∧ (replaceTile s h tile).journal = s.journal ∧ (replaceTile s h tile).host =
      s.host ∧ (replaceTile s h tile).pcie = s.pcie ∧ (replaceTile s h tile).pairs = s.pairs ∧ (replaceTile s h tile).eopen =
      s.eopen ∧ (replaceTile s h tile).ledger = s.ledger ∧ (replaceTile s h tile).sched = s.sched ∧ (replaceTile s h
      tile).dram = s.dram ∧ (replaceTile s h tile).assayer = s.assayer ∧ (replaceTile s h tile).fabric = s.fabric ∧
      (replaceTile s h tile).rumbes = s.rumbes := by
  unfold replaceTile; simp [*] <;> (repeat' split) <;> simp [*]
@[simp] theorem unloadImage_frame (s : State) (h : Nat) (img : Image) :
    (unloadImage s h img).pending = s.pending ∧ (unloadImage s h img).now = s.now ∧ (unloadImage s h img).free = s.free ∧
      (unloadImage s h img).out = s.out ∧ (unloadImage s h img).sys = s.sys ∧ (unloadImage s h img).ka = s.ka ∧ (unloadImage s
      h img).flash = s.flash ∧ (unloadImage s h img).journal = s.journal ∧ (unloadImage s h img).host = s.host ∧ (unloadImage
      s h img).ports = s.ports ∧ (unloadImage s h img).pcie = s.pcie ∧ (unloadImage s h img).log = s.log ∧ (unloadImage s h
      img).pairs = s.pairs ∧ (unloadImage s h img).eopen = s.eopen ∧ (unloadImage s h img).ledger = s.ledger ∧ (unloadImage s
      h img).sched = s.sched ∧ (unloadImage s h img).dram = s.dram ∧ (unloadImage s h img).assayer = s.assayer ∧ (unloadImage
      s h img).fabric = s.fabric ∧ (unloadImage s h img).rumbes = s.rumbes := by
  unfold unloadImage; (repeat' split) <;> simp -implicitDefEqProofs [*]

/-! ### ImageCmds -/

@[simp] theorem imageLoadDo_frame (r : Req) (s : State) :
    (imageLoadDo r s).pending = s.pending ∧ (imageLoadDo r s).now = s.now ∧ (imageLoadDo r s).free = s.free ∧ (imageLoadDo r
      s).out = s.out ∧ (imageLoadDo r s).sys = s.sys ∧ (imageLoadDo r s).ka = s.ka ∧ (imageLoadDo r s).flash = s.flash ∧
      (imageLoadDo r s).journal = s.journal ∧ (imageLoadDo r s).host = s.host ∧ (imageLoadDo r s).pcie = s.pcie ∧ (imageLoadDo
      r s).log = s.log ∧ (imageLoadDo r s).pairs = s.pairs ∧ (imageLoadDo r s).eopen = s.eopen ∧ (imageLoadDo r s).ledger =
      s.ledger ∧ (imageLoadDo r s).sched = s.sched ∧ (imageLoadDo r s).tiles = s.tiles ∧ (imageLoadDo r s).dram = s.dram ∧
      (imageLoadDo r s).assayer = s.assayer ∧ (imageLoadDo r s).fabric = s.fabric ∧ (imageLoadDo r s).rumbes = s.rumbes := by
  unfold imageLoadDo; simp [*]
@[simp] theorem imageVerified_frame (ticket : Nat) (s : State) :
    (imageVerified ticket s).pending = s.pending ∧ (imageVerified ticket s).now = s.now ∧ (imageVerified ticket s).free
      = s.free ∧ (imageVerified ticket s).out = s.out ∧ (imageVerified ticket s).sys = s.sys ∧ (imageVerified ticket
      s).ka = s.ka ∧ (imageVerified ticket s).flash = s.flash ∧ (imageVerified ticket s).journal = s.journal ∧
      (imageVerified ticket s).host = s.host ∧ (imageVerified ticket s).pcie = s.pcie ∧ (imageVerified ticket s).log =
      s.log ∧ (imageVerified ticket s).pairs = s.pairs ∧ (imageVerified ticket s).eopen = s.eopen ∧ (imageVerified
      ticket s).ledger = s.ledger ∧ (imageVerified ticket s).dram = s.dram ∧ (imageVerified ticket s).assayer =
      s.assayer ∧ (imageVerified ticket s).fabric = s.fabric ∧ (imageVerified ticket s).rumbes = s.rumbes := by
  unfold imageVerified; simp [*] <;> (repeat' split) <;> simp [*]
@[simp] theorem imageUnloadDo_frame (r : Req) (s : State) :
    (imageUnloadDo r s).pending = s.pending ∧ (imageUnloadDo r s).now = s.now ∧ (imageUnloadDo r s).free = s.free ∧
      (imageUnloadDo r s).out = s.out ∧ (imageUnloadDo r s).sys = s.sys ∧ (imageUnloadDo r s).ka = s.ka ∧ (imageUnloadDo r
      s).flash = s.flash ∧ (imageUnloadDo r s).journal = s.journal ∧ (imageUnloadDo r s).host = s.host ∧ (imageUnloadDo r
      s).pcie = s.pcie ∧ (imageUnloadDo r s).log = s.log ∧ (imageUnloadDo r s).pairs = s.pairs ∧ (imageUnloadDo r s).eopen =
      s.eopen ∧ (imageUnloadDo r s).ledger = s.ledger ∧ (imageUnloadDo r s).sched = s.sched ∧ (imageUnloadDo r s).dram =
      s.dram ∧ (imageUnloadDo r s).assayer = s.assayer ∧ (imageUnloadDo r s).fabric = s.fabric ∧ (imageUnloadDo r s).rumbes =
      s.rumbes := by
  unfold imageUnloadDo; simp [*] <;> (repeat' split) <;> simp [*]
@[simp] theorem imageListDo_frame (r : Req) (s : State) :
    (imageListDo r s).pending = s.pending ∧ (imageListDo r s).now = s.now ∧ (imageListDo r s).free = s.free ∧ (imageListDo r
      s).out = s.out ∧ (imageListDo r s).sys = s.sys ∧ (imageListDo r s).ka = s.ka ∧ (imageListDo r s).flash = s.flash ∧
      (imageListDo r s).journal = s.journal ∧ (imageListDo r s).host = s.host ∧ (imageListDo r s).pcie = s.pcie ∧ (imageListDo
      r s).log = s.log ∧ (imageListDo r s).foreman = s.foreman ∧ (imageListDo r s).pairs = s.pairs ∧ (imageListDo r s).eopen =
      s.eopen ∧ (imageListDo r s).ledger = s.ledger ∧ (imageListDo r s).sched = s.sched ∧ (imageListDo r s).tiles = s.tiles ∧
      (imageListDo r s).dram = s.dram ∧ (imageListDo r s).assayer = s.assayer ∧ (imageListDo r s).fabric = s.fabric ∧
      (imageListDo r s).rumbes = s.rumbes := by
  unfold imageListDo; simp [*]
@[simp] theorem keySetDo_frame (r : Req) (s : State) :
    (keySetDo r s).pending = s.pending ∧ (keySetDo r s).now = s.now ∧ (keySetDo r s).free = s.free ∧ (keySetDo r s).out =
      s.out ∧ (keySetDo r s).sys = s.sys ∧ (keySetDo r s).flash = s.flash ∧ (keySetDo r s).host = s.host ∧ (keySetDo r s).pcie
      = s.pcie ∧ (keySetDo r s).log = s.log ∧ (keySetDo r s).foreman = s.foreman ∧ (keySetDo r s).pairs = s.pairs ∧ (keySetDo
      r s).eopen = s.eopen ∧ (keySetDo r s).ledger = s.ledger ∧ (keySetDo r s).sched = s.sched ∧ (keySetDo r s).tiles =
      s.tiles ∧ (keySetDo r s).dram = s.dram ∧ (keySetDo r s).assayer = s.assayer ∧ (keySetDo r s).fabric = s.fabric ∧
      (keySetDo r s).rumbes = s.rumbes := by
  unfold keySetDo; simp [*]
@[simp] theorem keyClearDo_frame (r : Req) (s : State) :
    (keyClearDo r s).pending = s.pending ∧ (keyClearDo r s).now = s.now ∧ (keyClearDo r s).free = s.free ∧ (keyClearDo r
      s).out = s.out ∧ (keyClearDo r s).sys = s.sys ∧ (keyClearDo r s).flash = s.flash ∧ (keyClearDo r s).host = s.host ∧
      (keyClearDo r s).pcie = s.pcie ∧ (keyClearDo r s).log = s.log ∧ (keyClearDo r s).foreman = s.foreman ∧ (keyClearDo r
      s).pairs = s.pairs ∧ (keyClearDo r s).eopen = s.eopen ∧ (keyClearDo r s).ledger = s.ledger ∧ (keyClearDo r s).sched =
      s.sched ∧ (keyClearDo r s).tiles = s.tiles ∧ (keyClearDo r s).dram = s.dram ∧ (keyClearDo r s).assayer = s.assayer ∧
      (keyClearDo r s).fabric = s.fabric ∧ (keyClearDo r s).rumbes = s.rumbes := by
  unfold keyClearDo; simp [*]
@[simp] theorem onJob_pending (f : Req → Nat → Job → State → State) (r : Req) (s : State) (h_f : ∀ x0 x1 x2 x3, (f x0 x1
  x2 x3).pending = x3.pending) :
    (onJob f r s).pending = s.pending := by
  unfold onJob; split <;> simp -implicitDefEqProofs [*]
@[simp] theorem onJob_now (f : Req → Nat → Job → State → State) (r : Req) (s : State) (h_f : ∀ x0 x1 x2 x3, (f x0 x1 x2
  x3).now = x3.now) :
    (onJob f r s).now = s.now := by
  unfold onJob; split <;> simp -implicitDefEqProofs [*]
@[simp] theorem onJob_free (f : Req → Nat → Job → State → State) (r : Req) (s : State) (h_f : ∀ x0 x1 x2 x3, (f x0 x1 x2
  x3).free = x3.free) :
    (onJob f r s).free = s.free := by
  unfold onJob; split <;> simp -implicitDefEqProofs [*]
@[simp] theorem onJob_out (f : Req → Nat → Job → State → State) (r : Req) (s : State) (h_f : ∀ x0 x1 x2 x3, (f x0 x1 x2
  x3).out = x3.out) :
    (onJob f r s).out = s.out := by
  unfold onJob; split <;> simp -implicitDefEqProofs [*]
@[simp] theorem onJob_sys (f : Req → Nat → Job → State → State) (r : Req) (s : State) (h_f : ∀ x0 x1 x2 x3, (f x0 x1 x2
  x3).sys = x3.sys) :
    (onJob f r s).sys = s.sys := by
  unfold onJob; split <;> simp -implicitDefEqProofs [*]
@[simp] theorem onJob_ka (f : Req → Nat → Job → State → State) (r : Req) (s : State) (h_f : ∀ x0 x1 x2 x3, (f x0 x1 x2
  x3).ka = x3.ka) :
    (onJob f r s).ka = s.ka := by
  unfold onJob; split <;> simp -implicitDefEqProofs [*]
@[simp] theorem onJob_flash (f : Req → Nat → Job → State → State) (r : Req) (s : State) (h_f : ∀ x0 x1 x2 x3, (f x0 x1
  x2 x3).flash = x3.flash) :
    (onJob f r s).flash = s.flash := by
  unfold onJob; split <;> simp -implicitDefEqProofs [*]
@[simp] theorem onJob_journal (f : Req → Nat → Job → State → State) (r : Req) (s : State) (h_f : ∀ x0 x1 x2 x3, (f x0 x1
  x2 x3).journal = x3.journal) :
    (onJob f r s).journal = s.journal := by
  unfold onJob; split <;> simp -implicitDefEqProofs [*]
@[simp] theorem onJob_host (f : Req → Nat → Job → State → State) (r : Req) (s : State) (h_f : ∀ x0 x1 x2 x3, (f x0 x1 x2
  x3).host = x3.host) :
    (onJob f r s).host = s.host := by
  unfold onJob; split <;> simp -implicitDefEqProofs [*]
@[simp] theorem onJob_pcie (f : Req → Nat → Job → State → State) (r : Req) (s : State) (h_f : ∀ x0 x1 x2 x3, (f x0 x1 x2
  x3).pcie = x3.pcie) :
    (onJob f r s).pcie = s.pcie := by
  unfold onJob; split <;> simp -implicitDefEqProofs [*]
@[simp] theorem onJob_log (f : Req → Nat → Job → State → State) (r : Req) (s : State) (h_f : ∀ x0 x1 x2 x3, (f x0 x1 x2
  x3).log = x3.log) :
    (onJob f r s).log = s.log := by
  unfold onJob; split <;> simp -implicitDefEqProofs [*]
@[simp] theorem onJob_foreman (f : Req → Nat → Job → State → State) (r : Req) (s : State) (h_f : ∀ x0 x1 x2 x3, (f x0 x1
  x2 x3).foreman = x3.foreman) :
    (onJob f r s).foreman = s.foreman := by
  unfold onJob; split <;> simp -implicitDefEqProofs [*]
@[simp] theorem onJob_pairs (f : Req → Nat → Job → State → State) (r : Req) (s : State) (h_f : ∀ x0 x1 x2 x3, (f x0 x1
  x2 x3).pairs = x3.pairs) :
    (onJob f r s).pairs = s.pairs := by
  unfold onJob; split <;> simp -implicitDefEqProofs [*]
@[simp] theorem onJob_eopen (f : Req → Nat → Job → State → State) (r : Req) (s : State) (h_f : ∀ x0 x1 x2 x3, (f x0 x1
  x2 x3).eopen = x3.eopen) :
    (onJob f r s).eopen = s.eopen := by
  unfold onJob; split <;> simp -implicitDefEqProofs [*]
@[simp] theorem onJob_ledger (f : Req → Nat → Job → State → State) (r : Req) (s : State) (h_f : ∀ x0 x1 x2 x3, (f x0 x1
  x2 x3).ledger = x3.ledger) :
    (onJob f r s).ledger = s.ledger := by
  unfold onJob; split <;> simp -implicitDefEqProofs [*]
@[simp] theorem onJob_sched (f : Req → Nat → Job → State → State) (r : Req) (s : State) (h_f : ∀ x0 x1 x2 x3, (f x0 x1
  x2 x3).sched = x3.sched) :
    (onJob f r s).sched = s.sched := by
  unfold onJob; split <;> simp -implicitDefEqProofs [*]
@[simp] theorem onJob_tiles (f : Req → Nat → Job → State → State) (r : Req) (s : State) (h_f : ∀ x0 x1 x2 x3, (f x0 x1
  x2 x3).tiles = x3.tiles) :
    (onJob f r s).tiles = s.tiles := by
  unfold onJob; split <;> simp -implicitDefEqProofs [*]
@[simp] theorem onJob_dram (f : Req → Nat → Job → State → State) (r : Req) (s : State) (h_f : ∀ x0 x1 x2 x3, (f x0 x1 x2
  x3).dram = x3.dram) :
    (onJob f r s).dram = s.dram := by
  unfold onJob; split <;> simp -implicitDefEqProofs [*]
@[simp] theorem onJob_assayer (f : Req → Nat → Job → State → State) (r : Req) (s : State) (h_f : ∀ x0 x1 x2 x3, (f x0 x1
  x2 x3).assayer = x3.assayer) :
    (onJob f r s).assayer = s.assayer := by
  unfold onJob; split <;> simp -implicitDefEqProofs [*]
@[simp] theorem onJob_fabric (f : Req → Nat → Job → State → State) (r : Req) (s : State) (h_f : ∀ x0 x1 x2 x3, (f x0 x1
  x2 x3).fabric = x3.fabric) :
    (onJob f r s).fabric = s.fabric := by
  unfold onJob; split <;> simp -implicitDefEqProofs [*]
@[simp] theorem onJob_rumbes (f : Req → Nat → Job → State → State) (r : Req) (s : State) (h_f : ∀ x0 x1 x2 x3, (f x0 x1
  x2 x3).rumbes = x3.rumbes) :
    (onJob f r s).rumbes = s.rumbes := by
  unfold onJob; split <;> simp -implicitDefEqProofs [*]
@[simp] theorem jobSubmitDo_frame (r : Req) (s : State) :
    (jobSubmitDo r s).pending = s.pending ∧ (jobSubmitDo r s).now = s.now ∧ (jobSubmitDo r s).free = s.free ∧ (jobSubmitDo r
      s).out = s.out ∧ (jobSubmitDo r s).sys = s.sys ∧ (jobSubmitDo r s).ka = s.ka ∧ (jobSubmitDo r s).flash = s.flash ∧
      (jobSubmitDo r s).journal = s.journal ∧ (jobSubmitDo r s).host = s.host ∧ (jobSubmitDo r s).pcie = s.pcie ∧ (jobSubmitDo
      r s).log = s.log ∧ (jobSubmitDo r s).foreman = s.foreman ∧ (jobSubmitDo r s).pairs = s.pairs ∧ (jobSubmitDo r s).eopen =
      s.eopen ∧ (jobSubmitDo r s).ledger = s.ledger ∧ (jobSubmitDo r s).tiles = s.tiles ∧ (jobSubmitDo r s).dram = s.dram ∧
      (jobSubmitDo r s).assayer = s.assayer ∧ (jobSubmitDo r s).fabric = s.fabric ∧ (jobSubmitDo r s).rumbes = s.rumbes := by
  unfold jobSubmitDo; (repeat' split) <;> simp [*]
@[simp] theorem jobPauseDo_frame (r : Req) (n : Nat) (j : Job) (s : State) :
    (jobPauseDo r n j s).pending = s.pending ∧ (jobPauseDo r n j s).now = s.now ∧ (jobPauseDo r n j s).free = s.free ∧
      (jobPauseDo r n j s).out = s.out ∧ (jobPauseDo r n j s).sys = s.sys ∧ (jobPauseDo r n j s).ka = s.ka ∧ (jobPauseDo r n j
      s).flash = s.flash ∧ (jobPauseDo r n j s).journal = s.journal ∧ (jobPauseDo r n j s).host = s.host ∧ (jobPauseDo r n j
      s).pcie = s.pcie ∧ (jobPauseDo r n j s).log = s.log ∧ (jobPauseDo r n j s).foreman = s.foreman ∧ (jobPauseDo r n j
      s).pairs = s.pairs ∧ (jobPauseDo r n j s).eopen = s.eopen ∧ (jobPauseDo r n j s).ledger = s.ledger ∧ (jobPauseDo r n j
      s).tiles = s.tiles ∧ (jobPauseDo r n j s).dram = s.dram ∧ (jobPauseDo r n j s).assayer = s.assayer ∧ (jobPauseDo r n j
      s).fabric = s.fabric ∧ (jobPauseDo r n j s).rumbes = s.rumbes := by
  unfold jobPauseDo; simp [*]
@[simp] theorem jobResumeDo_frame (r : Req) (n : Nat) (j : Job) (s : State) :
    (jobResumeDo r n j s).pending = s.pending ∧ (jobResumeDo r n j s).now = s.now ∧ (jobResumeDo r n j s).free = s.free ∧
      (jobResumeDo r n j s).out = s.out ∧ (jobResumeDo r n j s).sys = s.sys ∧ (jobResumeDo r n j s).ka = s.ka ∧ (jobResumeDo r
      n j s).flash = s.flash ∧ (jobResumeDo r n j s).journal = s.journal ∧ (jobResumeDo r n j s).host = s.host ∧ (jobResumeDo
      r n j s).pcie = s.pcie ∧ (jobResumeDo r n j s).log = s.log ∧ (jobResumeDo r n j s).foreman = s.foreman ∧ (jobResumeDo r
      n j s).pairs = s.pairs ∧ (jobResumeDo r n j s).eopen = s.eopen ∧ (jobResumeDo r n j s).ledger = s.ledger ∧ (jobResumeDo
      r n j s).tiles = s.tiles ∧ (jobResumeDo r n j s).dram = s.dram ∧ (jobResumeDo r n j s).assayer = s.assayer ∧
      (jobResumeDo r n j s).fabric = s.fabric ∧ (jobResumeDo r n j s).rumbes = s.rumbes := by
  unfold jobResumeDo; (repeat' split) <;> simp [*]
@[simp] theorem jobDeleteDo_frame (r : Req) (n : Nat) (j : Job) (s : State) :
    (jobDeleteDo r n j s).pending = s.pending ∧ (jobDeleteDo r n j s).now = s.now ∧ (jobDeleteDo r n j s).free = s.free ∧
      (jobDeleteDo r n j s).out = s.out ∧ (jobDeleteDo r n j s).sys = s.sys ∧ (jobDeleteDo r n j s).ka = s.ka ∧ (jobDeleteDo r
      n j s).flash = s.flash ∧ (jobDeleteDo r n j s).journal = s.journal ∧ (jobDeleteDo r n j s).host = s.host ∧ (jobDeleteDo
      r n j s).pcie = s.pcie ∧ (jobDeleteDo r n j s).log = s.log ∧ (jobDeleteDo r n j s).foreman = s.foreman ∧ (jobDeleteDo r
      n j s).pairs = s.pairs ∧ (jobDeleteDo r n j s).eopen = s.eopen ∧ (jobDeleteDo r n j s).ledger = s.ledger ∧ (jobDeleteDo
      r n j s).tiles = s.tiles ∧ (jobDeleteDo r n j s).dram = s.dram ∧ (jobDeleteDo r n j s).assayer = s.assayer ∧
      (jobDeleteDo r n j s).fabric = s.fabric ∧ (jobDeleteDo r n j s).rumbes = s.rumbes := by
  unfold jobDeleteDo; simp [*]
@[simp] theorem jobStatusDo_frame (r : Req) (n : Nat) (j : Job) (s : State) :
    (jobStatusDo r n j s).pending = s.pending ∧ (jobStatusDo r n j s).now = s.now ∧ (jobStatusDo r n j s).free = s.free ∧
      (jobStatusDo r n j s).out = s.out ∧ (jobStatusDo r n j s).sys = s.sys ∧ (jobStatusDo r n j s).ka = s.ka ∧ (jobStatusDo r
      n j s).flash = s.flash ∧ (jobStatusDo r n j s).journal = s.journal ∧ (jobStatusDo r n j s).host = s.host ∧ (jobStatusDo
      r n j s).pcie = s.pcie ∧ (jobStatusDo r n j s).log = s.log ∧ (jobStatusDo r n j s).foreman = s.foreman ∧ (jobStatusDo r
      n j s).pairs = s.pairs ∧ (jobStatusDo r n j s).eopen = s.eopen ∧ (jobStatusDo r n j s).ledger = s.ledger ∧ (jobStatusDo
      r n j s).sched = s.sched ∧ (jobStatusDo r n j s).tiles = s.tiles ∧ (jobStatusDo r n j s).dram = s.dram ∧ (jobStatusDo r
      n j s).assayer = s.assayer ∧ (jobStatusDo r n j s).fabric = s.fabric ∧ (jobStatusDo r n j s).rumbes = s.rumbes := by
  unfold jobStatusDo; simp [*]
@[simp] theorem dramMove_frame (s : State) (src dst n : Nat) :
    (dramMove s src dst n).pending = s.pending ∧ (dramMove s src dst n).now = s.now ∧ (dramMove s src dst n).free = s.free ∧
      (dramMove s src dst n).out = s.out ∧ (dramMove s src dst n).sys = s.sys ∧ (dramMove s src dst n).ka = s.ka ∧ (dramMove s
      src dst n).flash = s.flash ∧ (dramMove s src dst n).journal = s.journal ∧ (dramMove s src dst n).host = s.host ∧
      (dramMove s src dst n).ports = s.ports ∧ (dramMove s src dst n).pcie = s.pcie ∧ (dramMove s src dst n).log = s.log ∧
      (dramMove s src dst n).foreman = s.foreman ∧ (dramMove s src dst n).pairs = s.pairs ∧ (dramMove s src dst n).eopen =
      s.eopen ∧ (dramMove s src dst n).ledger = s.ledger ∧ (dramMove s src dst n).sched = s.sched ∧ (dramMove s src dst
      n).tiles = s.tiles ∧ (dramMove s src dst n).assayer = s.assayer ∧ (dramMove s src dst n).fabric = s.fabric ∧ (dramMove s
      src dst n).rumbes = s.rumbes := by
  unfold dramMove; simp [*]
@[simp] theorem setDatasetDo_frame (r : Req) (s : State) :
    (setDatasetDo r s).pending = s.pending ∧ (setDatasetDo r s).now = s.now ∧ (setDatasetDo r s).free = s.free ∧
      (setDatasetDo r s).out = s.out ∧ (setDatasetDo r s).sys = s.sys ∧ (setDatasetDo r s).ka = s.ka ∧ (setDatasetDo r
      s).flash = s.flash ∧ (setDatasetDo r s).journal = s.journal ∧ (setDatasetDo r s).host = s.host ∧ (setDatasetDo r s).pcie
      = s.pcie ∧ (setDatasetDo r s).log = s.log ∧ (setDatasetDo r s).pairs = s.pairs ∧ (setDatasetDo r s).eopen = s.eopen ∧
      (setDatasetDo r s).ledger = s.ledger ∧ (setDatasetDo r s).sched = s.sched ∧ (setDatasetDo r s).tiles = s.tiles ∧
      (setDatasetDo r s).assayer = s.assayer ∧ (setDatasetDo r s).fabric = s.fabric ∧ (setDatasetDo r s).rumbes = s.rumbes :=
      by
  unfold setDatasetDo; simp [*] <;> (repeat' split) <;> simp [*]

/-! ### SysCmds -/

@[simp] theorem identDo_frame (r : Req) (s : State) :
    (identDo r s).pending = s.pending ∧ (identDo r s).now = s.now ∧ (identDo r s).free = s.free ∧ (identDo r s).out = s.out
      ∧ (identDo r s).sys = s.sys ∧ (identDo r s).ka = s.ka ∧ (identDo r s).flash = s.flash ∧ (identDo r s).journal =
      s.journal ∧ (identDo r s).host = s.host ∧ (identDo r s).pcie = s.pcie ∧ (identDo r s).log = s.log ∧ (identDo r
      s).foreman = s.foreman ∧ (identDo r s).pairs = s.pairs ∧ (identDo r s).eopen = s.eopen ∧ (identDo r s).ledger = s.ledger
      ∧ (identDo r s).sched = s.sched ∧ (identDo r s).tiles = s.tiles ∧ (identDo r s).dram = s.dram ∧ (identDo r s).assayer =
      s.assayer ∧ (identDo r s).fabric = s.fabric ∧ (identDo r s).rumbes = s.rumbes := by
  unfold identDo; simp [*]
@[simp] theorem tenantStatusDo_frame (r : Req) (s : State) :
    (tenantStatusDo r s).pending = s.pending ∧ (tenantStatusDo r s).now = s.now ∧ (tenantStatusDo r s).free = s.free ∧
      (tenantStatusDo r s).out = s.out ∧ (tenantStatusDo r s).sys = s.sys ∧ (tenantStatusDo r s).ka = s.ka ∧ (tenantStatusDo r
      s).flash = s.flash ∧ (tenantStatusDo r s).journal = s.journal ∧ (tenantStatusDo r s).host = s.host ∧ (tenantStatusDo r
      s).pcie = s.pcie ∧ (tenantStatusDo r s).log = s.log ∧ (tenantStatusDo r s).foreman = s.foreman ∧ (tenantStatusDo r
      s).pairs = s.pairs ∧ (tenantStatusDo r s).eopen = s.eopen ∧ (tenantStatusDo r s).ledger = s.ledger ∧ (tenantStatusDo r
      s).sched = s.sched ∧ (tenantStatusDo r s).tiles = s.tiles ∧ (tenantStatusDo r s).dram = s.dram ∧ (tenantStatusDo r
      s).assayer = s.assayer ∧ (tenantStatusDo r s).fabric = s.fabric ∧ (tenantStatusDo r s).rumbes = s.rumbes := by
  unfold tenantStatusDo; simp [*]
@[simp] theorem setCatchupDo_frame (r : Req) (s : State) :
    (setCatchupDo r s).pending = s.pending ∧ (setCatchupDo r s).now = s.now ∧ (setCatchupDo r s).free = s.free ∧
      (setCatchupDo r s).out = s.out ∧ (setCatchupDo r s).sys = s.sys ∧ (setCatchupDo r s).flash = s.flash ∧ (setCatchupDo r
      s).host = s.host ∧ (setCatchupDo r s).pcie = s.pcie ∧ (setCatchupDo r s).log = s.log ∧ (setCatchupDo r s).pairs =
      s.pairs ∧ (setCatchupDo r s).eopen = s.eopen ∧ (setCatchupDo r s).ledger = s.ledger ∧ (setCatchupDo r s).sched = s.sched
      ∧ (setCatchupDo r s).tiles = s.tiles ∧ (setCatchupDo r s).dram = s.dram ∧ (setCatchupDo r s).assayer = s.assayer ∧
      (setCatchupDo r s).fabric = s.fabric ∧ (setCatchupDo r s).rumbes = s.rumbes := by
  unfold setCatchupDo; simp [*]
@[simp] theorem loadRtc_frame (s : State) (v : Nat) :
    (loadRtc s v).pending = s.pending ∧ (loadRtc s v).now = s.now ∧ (loadRtc s v).free = s.free ∧ (loadRtc s v).out = s.out
      ∧ (loadRtc s v).sys = s.sys ∧ (loadRtc s v).flash = s.flash ∧ (loadRtc s v).journal = s.journal ∧ (loadRtc s v).host =
      s.host ∧ (loadRtc s v).ports = s.ports ∧ (loadRtc s v).pcie = s.pcie ∧ (loadRtc s v).log = s.log ∧ (loadRtc s v).foreman
      = s.foreman ∧ (loadRtc s v).pairs = s.pairs ∧ (loadRtc s v).eopen = s.eopen ∧ (loadRtc s v).ledger = s.ledger ∧ (loadRtc
      s v).sched = s.sched ∧ (loadRtc s v).tiles = s.tiles ∧ (loadRtc s v).dram = s.dram ∧ (loadRtc s v).assayer = s.assayer ∧
      (loadRtc s v).fabric = s.fabric ∧ (loadRtc s v).rumbes = s.rumbes := by
  unfold loadRtc; simp [*]
@[simp] theorem setRtcDo_frame (r : Req) (s : State) :
    (setRtcDo r s).pending = s.pending ∧ (setRtcDo r s).now = s.now ∧ (setRtcDo r s).free = s.free ∧ (setRtcDo r s).out =
      s.out ∧ (setRtcDo r s).sys = s.sys ∧ (setRtcDo r s).flash = s.flash ∧ (setRtcDo r s).journal = s.journal ∧ (setRtcDo r
      s).host = s.host ∧ (setRtcDo r s).pcie = s.pcie ∧ (setRtcDo r s).log = s.log ∧ (setRtcDo r s).foreman = s.foreman ∧
      (setRtcDo r s).pairs = s.pairs ∧ (setRtcDo r s).eopen = s.eopen ∧ (setRtcDo r s).ledger = s.ledger ∧ (setRtcDo r
      s).sched = s.sched ∧ (setRtcDo r s).tiles = s.tiles ∧ (setRtcDo r s).dram = s.dram ∧ (setRtcDo r s).assayer = s.assayer
      ∧ (setRtcDo r s).fabric = s.fabric ∧ (setRtcDo r s).rumbes = s.rumbes := by
  unfold setRtcDo; simp [*]
@[simp] theorem getRtcDo_frame (r : Req) (s : State) :
    (getRtcDo r s).pending = s.pending ∧ (getRtcDo r s).now = s.now ∧ (getRtcDo r s).free = s.free ∧ (getRtcDo r s).out =
      s.out ∧ (getRtcDo r s).sys = s.sys ∧ (getRtcDo r s).ka = s.ka ∧ (getRtcDo r s).flash = s.flash ∧ (getRtcDo r s).journal
      = s.journal ∧ (getRtcDo r s).host = s.host ∧ (getRtcDo r s).pcie = s.pcie ∧ (getRtcDo r s).log = s.log ∧ (getRtcDo r
      s).foreman = s.foreman ∧ (getRtcDo r s).pairs = s.pairs ∧ (getRtcDo r s).eopen = s.eopen ∧ (getRtcDo r s).ledger =
      s.ledger ∧ (getRtcDo r s).sched = s.sched ∧ (getRtcDo r s).tiles = s.tiles ∧ (getRtcDo r s).dram = s.dram ∧ (getRtcDo r
      s).assayer = s.assayer ∧ (getRtcDo r s).fabric = s.fabric ∧ (getRtcDo r s).rumbes = s.rumbes := by
  unfold getRtcDo; simp [*]
@[simp] theorem pauseTenant_frame (s : State) (n : Nat) :
    (pauseTenant s n).pending = s.pending ∧ (pauseTenant s n).now = s.now ∧ (pauseTenant s n).free = s.free ∧
      (pauseTenant s n).out = s.out ∧ (pauseTenant s n).sys = s.sys ∧ (pauseTenant s n).ka = s.ka ∧ (pauseTenant s
      n).flash = s.flash ∧ (pauseTenant s n).journal = s.journal ∧ (pauseTenant s n).host = s.host ∧ (pauseTenant s
      n).pcie = s.pcie ∧ (pauseTenant s n).log = s.log ∧ (pauseTenant s n).foreman = s.foreman ∧ (pauseTenant s n).pairs
      = s.pairs ∧ (pauseTenant s n).eopen = s.eopen ∧ (pauseTenant s n).ledger = s.ledger ∧ (pauseTenant s n).dram =
      s.dram ∧ (pauseTenant s n).assayer = s.assayer ∧ (pauseTenant s n).fabric = s.fabric ∧ (pauseTenant s n).rumbes =
      s.rumbes := by
  unfold pauseTenant; simp -implicitDefEqProofs [*]
@[simp] theorem setTenantDo_frame (r : Req) (s : State) :
    (setTenantDo r s).pending = s.pending ∧ (setTenantDo r s).now = s.now ∧ (setTenantDo r s).free = s.free ∧
      (setTenantDo r s).out = s.out ∧ (setTenantDo r s).sys = s.sys ∧ (setTenantDo r s).flash = s.flash ∧ (setTenantDo r
      s).host = s.host ∧ (setTenantDo r s).pcie = s.pcie ∧ (setTenantDo r s).log = s.log ∧ (setTenantDo r s).pairs =
      s.pairs ∧ (setTenantDo r s).eopen = s.eopen ∧ (setTenantDo r s).ledger = s.ledger ∧ (setTenantDo r s).dram =
      s.dram ∧ (setTenantDo r s).assayer = s.assayer ∧ (setTenantDo r s).fabric = s.fabric ∧ (setTenantDo r s).rumbes =
      s.rumbes := by
  unfold setTenantDo; simp -implicitDefEqProofs [*]
@[simp] theorem resetCompute_frame (s : State) (scope bench : Nat) :
    (resetCompute s scope bench).pending = s.pending ∧ (resetCompute s scope bench).now = s.now ∧ (resetCompute s scope
      bench).free = s.free ∧ (resetCompute s scope bench).out = s.out ∧ (resetCompute s scope bench).flash = s.flash ∧
      (resetCompute s scope bench).journal = s.journal ∧ (resetCompute s scope bench).host = s.host ∧ (resetCompute s scope
      bench).pcie = s.pcie ∧ (resetCompute s scope bench).foreman = s.foreman ∧ (resetCompute s scope bench).pairs = s.pairs ∧
      (resetCompute s scope bench).eopen = s.eopen ∧ (resetCompute s scope bench).ledger = s.ledger ∧ (resetCompute s scope
      bench).dram = s.dram ∧ (resetCompute s scope bench).fabric = s.fabric ∧ (resetCompute s scope bench).rumbes = s.rumbes
      := by
  unfold resetCompute; simp [*]
@[simp] theorem resetDo_frame (r : Req) (s : State) :
    (resetDo r s).pending = s.pending ∧ (resetDo r s).now = s.now ∧ (resetDo r s).free = s.free ∧ (resetDo r s).out = s.out
      ∧ (resetDo r s).flash = s.flash ∧ (resetDo r s).journal = s.journal ∧ (resetDo r s).host = s.host ∧ (resetDo r s).pcie =
      s.pcie ∧ (resetDo r s).pairs = s.pairs ∧ (resetDo r s).eopen = s.eopen ∧ (resetDo r s).ledger = s.ledger ∧ (resetDo r
      s).dram = s.dram ∧ (resetDo r s).fabric = s.fabric ∧ (resetDo r s).rumbes = s.rumbes := by
  unfold resetDo; simp [*]
@[simp] theorem resetBeginDo_frame (s : State) :
    (resetBeginDo s).pending = s.pending ∧ (resetBeginDo s).rumbes = s.rumbes := by
  unfold resetBeginDo; split <;> simp [*]
@[simp] theorem bootClampDo_frame (r : Req) (s : State) :
    (bootClampDo r s).pending = s.pending ∧ (bootClampDo r s).now = s.now ∧ (bootClampDo r s).free = s.free ∧ (bootClampDo r
      s).out = s.out ∧ (bootClampDo r s).sys = s.sys ∧ (bootClampDo r s).ka = s.ka ∧ (bootClampDo r s).flash = s.flash ∧
      (bootClampDo r s).journal = s.journal ∧ (bootClampDo r s).host = s.host ∧ (bootClampDo r s).pcie = s.pcie ∧ (bootClampDo
      r s).log = s.log ∧ (bootClampDo r s).foreman = s.foreman ∧ (bootClampDo r s).pairs = s.pairs ∧ (bootClampDo r s).eopen =
      s.eopen ∧ (bootClampDo r s).ledger = s.ledger ∧ (bootClampDo r s).sched = s.sched ∧ (bootClampDo r s).tiles = s.tiles ∧
      (bootClampDo r s).dram = s.dram ∧ (bootClampDo r s).assayer = s.assayer ∧ (bootClampDo r s).fabric = s.fabric ∧
      (bootClampDo r s).rumbes = s.rumbes := by
  unfold bootClampDo; simp [*]

/-! ### ChainOps -/

@[simp] theorem updCport_frame (s : State) (p : Nat) (sd : Side) (f : ChainPort → ChainPort) :
    (updCport s p sd f).pending = s.pending ∧ (updCport s p sd f).now = s.now ∧ (updCport s p sd f).free = s.free ∧
      (updCport s p sd f).out = s.out ∧ (updCport s p sd f).sys = s.sys ∧ (updCport s p sd f).ka = s.ka ∧ (updCport s p sd
      f).flash = s.flash ∧ (updCport s p sd f).journal = s.journal ∧ (updCport s p sd f).host = s.host ∧ (updCport s p sd
      f).ports = s.ports ∧ (updCport s p sd f).pcie = s.pcie ∧ (updCport s p sd f).log = s.log ∧ (updCport s p sd f).foreman =
      s.foreman ∧ (updCport s p sd f).eopen = s.eopen ∧ (updCport s p sd f).ledger = s.ledger ∧ (updCport s p sd f).sched =
      s.sched ∧ (updCport s p sd f).tiles = s.tiles ∧ (updCport s p sd f).dram = s.dram ∧ (updCport s p sd f).assayer =
      s.assayer ∧ (updCport s p sd f).fabric = s.fabric ∧ (updCport s p sd f).rumbes = s.rumbes := by
  unfold updCport; simp [*]
@[simp] theorem txFrame_frame (s : State) (p : Nat) (sd : Side) (type : Nat) (pos ret : Bool) (addr : Nat) (payload :
  List Byte) :
    (txFrame s p sd type pos ret addr payload).pending = s.pending ∧ (txFrame s p sd type pos ret addr payload).now = s.now
      ∧ (txFrame s p sd type pos ret addr payload).free = s.free ∧ (txFrame s p sd type pos ret addr payload).sys = s.sys ∧
      (txFrame s p sd type pos ret addr payload).ka = s.ka ∧ (txFrame s p sd type pos ret addr payload).flash = s.flash ∧
      (txFrame s p sd type pos ret addr payload).journal = s.journal ∧ (txFrame s p sd type pos ret addr payload).host =
      s.host ∧ (txFrame s p sd type pos ret addr payload).pcie = s.pcie ∧ (txFrame s p sd type pos ret addr payload).log =
      s.log ∧ (txFrame s p sd type pos ret addr payload).foreman = s.foreman ∧ (txFrame s p sd type pos ret addr
      payload).eopen = s.eopen ∧ (txFrame s p sd type pos ret addr payload).ledger = s.ledger ∧ (txFrame s p sd type pos ret
      addr payload).sched = s.sched ∧ (txFrame s p sd type pos ret addr payload).tiles = s.tiles ∧ (txFrame s p sd type pos
      ret addr payload).dram = s.dram ∧ (txFrame s p sd type pos ret addr payload).assayer = s.assayer ∧ (txFrame s p sd type
      pos ret addr payload).fabric = s.fabric ∧ (txFrame s p sd type pos ret addr payload).rumbes = s.rumbes := by
  unfold txFrame; simp [*]
@[simp] theorem notBefore_frame (s : State) (p : Nat) (sd : Side) (t : Nat) :
    (notBefore s p sd t).pending = s.pending ∧ (notBefore s p sd t).now = s.now ∧ (notBefore s p sd t).free = s.free ∧
      (notBefore s p sd t).out = s.out ∧ (notBefore s p sd t).sys = s.sys ∧ (notBefore s p sd t).ka = s.ka ∧ (notBefore
      s p sd t).flash = s.flash ∧ (notBefore s p sd t).journal = s.journal ∧ (notBefore s p sd t).host = s.host ∧
      (notBefore s p sd t).ports = s.ports ∧ (notBefore s p sd t).pcie = s.pcie ∧ (notBefore s p sd t).log = s.log ∧
      (notBefore s p sd t).foreman = s.foreman ∧ (notBefore s p sd t).eopen = s.eopen ∧ (notBefore s p sd t).ledger =
      s.ledger ∧ (notBefore s p sd t).sched = s.sched ∧ (notBefore s p sd t).tiles = s.tiles ∧ (notBefore s p sd t).dram
      = s.dram ∧ (notBefore s p sd t).assayer = s.assayer ∧ (notBefore s p sd t).fabric = s.fabric ∧ (notBefore s p sd
      t).rumbes = s.rumbes := by
  unfold notBefore; simp -implicitDefEqProofs [*]
@[simp] theorem txControl_frame (s : State) (p : Nat) (sd : Side) (code arg : Nat) :
    (txControl s p sd code arg).pending = s.pending ∧ (txControl s p sd code arg).now = s.now ∧ (txControl s p sd code
      arg).free = s.free ∧ (txControl s p sd code arg).sys = s.sys ∧ (txControl s p sd code arg).ka = s.ka ∧ (txControl s p sd
      code arg).flash = s.flash ∧ (txControl s p sd code arg).journal = s.journal ∧ (txControl s p sd code arg).host = s.host
      ∧ (txControl s p sd code arg).pcie = s.pcie ∧ (txControl s p sd code arg).log = s.log ∧ (txControl s p sd code
      arg).foreman = s.foreman ∧ (txControl s p sd code arg).eopen = s.eopen ∧ (txControl s p sd code arg).ledger = s.ledger ∧
      (txControl s p sd code arg).sched = s.sched ∧ (txControl s p sd code arg).tiles = s.tiles ∧ (txControl s p sd code
      arg).dram = s.dram ∧ (txControl s p sd code arg).assayer = s.assayer ∧ (txControl s p sd code arg).fabric = s.fabric ∧
      (txControl s p sd code arg).rumbes = s.rumbes := by
  unfold txControl; simp [*]
@[simp] theorem await_frame (s : State) (p kind : Nat) :
    (await s p kind).pending = s.pending ∧ (await s p kind).now = s.now ∧ (await s p kind).free = s.free ∧ (await s p
      kind).out = s.out ∧ (await s p kind).sys = s.sys ∧ (await s p kind).ka = s.ka ∧ (await s p kind).flash = s.flash ∧
      (await s p kind).journal = s.journal ∧ (await s p kind).host = s.host ∧ (await s p kind).ports = s.ports ∧ (await s p
      kind).pcie = s.pcie ∧ (await s p kind).log = s.log ∧ (await s p kind).foreman = s.foreman ∧ (await s p kind).eopen =
      s.eopen ∧ (await s p kind).ledger = s.ledger ∧ (await s p kind).sched = s.sched ∧ (await s p kind).tiles = s.tiles ∧
      (await s p kind).dram = s.dram ∧ (await s p kind).assayer = s.assayer ∧ (await s p kind).fabric = s.fabric ∧ (await s p
      kind).rumbes = s.rumbes := by
  unfold await; simp [*]
@[simp] theorem unawait_frame (s : State) (p kind : Nat) :
    (unawait s p kind).pending = s.pending ∧ (unawait s p kind).now = s.now ∧ (unawait s p kind).free = s.free ∧ (unawait s
      p kind).out = s.out ∧ (unawait s p kind).sys = s.sys ∧ (unawait s p kind).ka = s.ka ∧ (unawait s p kind).flash = s.flash
      ∧ (unawait s p kind).journal = s.journal ∧ (unawait s p kind).host = s.host ∧ (unawait s p kind).ports = s.ports ∧
      (unawait s p kind).pcie = s.pcie ∧ (unawait s p kind).log = s.log ∧ (unawait s p kind).foreman = s.foreman ∧ (unawait s
      p kind).eopen = s.eopen ∧ (unawait s p kind).ledger = s.ledger ∧ (unawait s p kind).sched = s.sched ∧ (unawait s p
      kind).tiles = s.tiles ∧ (unawait s p kind).dram = s.dram ∧ (unawait s p kind).assayer = s.assayer ∧ (unawait s p
      kind).fabric = s.fabric ∧ (unawait s p kind).rumbes = s.rumbes := by
  unfold unawait; simp [*]
@[simp] theorem burst_frame (s : State) (ports : List (Nat × Side)) (u : List Byte) :
    (burst s ports u).pending = s.pending ∧ (burst s ports u).now = s.now ∧ (burst s ports u).free = s.free ∧ (burst s ports
      u).sys = s.sys ∧ (burst s ports u).ka = s.ka ∧ (burst s ports u).flash = s.flash ∧ (burst s ports u).journal = s.journal
      ∧ (burst s ports u).host = s.host ∧ (burst s ports u).pcie = s.pcie ∧ (burst s ports u).log = s.log ∧ (burst s ports
      u).foreman = s.foreman ∧ (burst s ports u).eopen = s.eopen ∧ (burst s ports u).ledger = s.ledger ∧ (burst s ports
      u).sched = s.sched ∧ (burst s ports u).tiles = s.tiles ∧ (burst s ports u).dram = s.dram ∧ (burst s ports u).assayer =
      s.assayer ∧ (burst s ports u).fabric = s.fabric ∧ (burst s ports u).rumbes = s.rumbes := by
  unfold burst; (repeat' split) <;> simp -implicitDefEqProofs [*]
@[simp] theorem eopenAll_frame (s : State) :
    (eopenAll s).pending = s.pending ∧ (eopenAll s).now = s.now ∧ (eopenAll s).free = s.free ∧ (eopenAll s).sys = s.sys ∧
      (eopenAll s).ka = s.ka ∧ (eopenAll s).flash = s.flash ∧ (eopenAll s).journal = s.journal ∧ (eopenAll s).host = s.host ∧
      (eopenAll s).pcie = s.pcie ∧ (eopenAll s).log = s.log ∧ (eopenAll s).foreman = s.foreman ∧ (eopenAll s).eopen = s.eopen
      ∧ (eopenAll s).ledger = s.ledger ∧ (eopenAll s).sched = s.sched ∧ (eopenAll s).tiles = s.tiles ∧ (eopenAll s).dram =
      s.dram ∧ (eopenAll s).assayer = s.assayer ∧ (eopenAll s).fabric = s.fabric ∧ (eopenAll s).rumbes = s.rumbes := by
  unfold eopenAll; simp [*]
@[simp] theorem setSt_frame (s : State) (p : Nat) (new : PairSt) :
    (setSt s p new).pending = s.pending ∧ (setSt s p new).now = s.now ∧ (setSt s p new).free = s.free ∧ (setSt s p new).out
      = s.out ∧ (setSt s p new).sys = s.sys ∧ (setSt s p new).ka = s.ka ∧ (setSt s p new).flash = s.flash ∧ (setSt s p
      new).journal = s.journal ∧ (setSt s p new).host = s.host ∧ (setSt s p new).pcie = s.pcie ∧ (setSt s p new).log = s.log ∧
      (setSt s p new).foreman = s.foreman ∧ (setSt s p new).eopen = s.eopen ∧ (setSt s p new).ledger = s.ledger ∧ (setSt s p
      new).sched = s.sched ∧ (setSt s p new).tiles = s.tiles ∧ (setSt s p new).dram = s.dram ∧ (setSt s p new).assayer =
      s.assayer ∧ (setSt s p new).fabric = s.fabric ∧ (setSt s p new).rumbes = s.rumbes := by
  unfold setSt; simp [*]
@[simp] theorem topology_frame (s : State) (p expected received : Nat) :
    (topology s p expected received).pending = s.pending ∧ (topology s p expected received).now = s.now ∧ (topology s p
      expected received).free = s.free ∧ (topology s p expected received).out = s.out ∧ (topology s p expected received).sys =
      s.sys ∧ (topology s p expected received).ka = s.ka ∧ (topology s p expected received).flash = s.flash ∧ (topology s p
      expected received).journal = s.journal ∧ (topology s p expected received).host = s.host ∧ (topology s p expected
      received).pcie = s.pcie ∧ (topology s p expected received).log = s.log ∧ (topology s p expected received).foreman =
      s.foreman ∧ (topology s p expected received).pairs = s.pairs ∧ (topology s p expected received).eopen = s.eopen ∧
      (topology s p expected received).ledger = s.ledger ∧ (topology s p expected received).sched = s.sched ∧ (topology s p
      expected received).tiles = s.tiles ∧ (topology s p expected received).dram = s.dram ∧ (topology s p expected
      received).assayer = s.assayer ∧ (topology s p expected received).fabric = s.fabric ∧ (topology s p expected
      received).rumbes = s.rumbes := by
  unfold topology; simp [*]
@[simp] theorem lostMember_frame (s : State) (i : Nat) :
    (lostMember s i).pending = s.pending ∧ (lostMember s i).now = s.now ∧ (lostMember s i).free = s.free ∧ (lostMember s
      i).out = s.out ∧ (lostMember s i).sys = s.sys ∧ (lostMember s i).ka = s.ka ∧ (lostMember s i).flash = s.flash ∧
      (lostMember s i).journal = s.journal ∧ (lostMember s i).host = s.host ∧ (lostMember s i).ports = s.ports ∧ (lostMember s
      i).pcie = s.pcie ∧ (lostMember s i).log = s.log ∧ (lostMember s i).foreman = s.foreman ∧ (lostMember s i).pairs =
      s.pairs ∧ (lostMember s i).eopen = s.eopen ∧ (lostMember s i).sched = s.sched ∧ (lostMember s i).tiles = s.tiles ∧
      (lostMember s i).dram = s.dram ∧ (lostMember s i).assayer = s.assayer ∧ (lostMember s i).fabric = s.fabric ∧ (lostMember
      s i).rumbes = s.rumbes := by
  unfold lostMember; simp [*]
@[simp] theorem unresponsive_frame (s : State) (p h : Nat) :
    (unresponsive s p h).pending = s.pending ∧ (unresponsive s p h).now = s.now ∧ (unresponsive s p h).free = s.free ∧
      (unresponsive s p h).out = s.out ∧ (unresponsive s p h).sys = s.sys ∧ (unresponsive s p h).flash = s.flash ∧
      (unresponsive s p h).journal = s.journal ∧ (unresponsive s p h).host = s.host ∧ (unresponsive s p h).pcie = s.pcie ∧
      (unresponsive s p h).foreman = s.foreman ∧ (unresponsive s p h).pairs = s.pairs ∧ (unresponsive s p h).eopen = s.eopen ∧
      (unresponsive s p h).sched = s.sched ∧ (unresponsive s p h).tiles = s.tiles ∧ (unresponsive s p h).dram = s.dram ∧
      (unresponsive s p h).assayer = s.assayer ∧ (unresponsive s p h).fabric = s.fabric ∧ (unresponsive s p h).rumbes =
      s.rumbes := by
  unfold unresponsive; simp [*]
@[simp] theorem enqueue_frame (s : State) (p : Nat) (sd : Side) (c : ChainCmd) :
    (enqueue s p sd c).pending = s.pending ∧ (enqueue s p sd c).now = s.now ∧ (enqueue s p sd c).free = s.free ∧ (enqueue s
      p sd c).out = s.out ∧ (enqueue s p sd c).sys = s.sys ∧ (enqueue s p sd c).ka = s.ka ∧ (enqueue s p sd c).flash = s.flash
      ∧ (enqueue s p sd c).journal = s.journal ∧ (enqueue s p sd c).host = s.host ∧ (enqueue s p sd c).ports = s.ports ∧
      (enqueue s p sd c).pcie = s.pcie ∧ (enqueue s p sd c).log = s.log ∧ (enqueue s p sd c).foreman = s.foreman ∧ (enqueue s
      p sd c).eopen = s.eopen ∧ (enqueue s p sd c).ledger = s.ledger ∧ (enqueue s p sd c).sched = s.sched ∧ (enqueue s p sd
      c).tiles = s.tiles ∧ (enqueue s p sd c).dram = s.dram ∧ (enqueue s p sd c).assayer = s.assayer ∧ (enqueue s p sd
      c).fabric = s.fabric ∧ (enqueue s p sd c).rumbes = s.rumbes := by
  unfold enqueue; simp [*]
@[simp] theorem toMember_frame (s : State) (p h : Nat) (o : Origin) (type : Nat) (payload : List Byte) :
    (toMember s p h o type payload).pending = s.pending ∧ (toMember s p h o type payload).now = s.now ∧ (toMember s p h o
      type payload).free = s.free ∧ (toMember s p h o type payload).out = s.out ∧ (toMember s p h o type payload).sys = s.sys
      ∧ (toMember s p h o type payload).ka = s.ka ∧ (toMember s p h o type payload).flash = s.flash ∧ (toMember s p h o type
      payload).journal = s.journal ∧ (toMember s p h o type payload).host = s.host ∧ (toMember s p h o type payload).ports =
      s.ports ∧ (toMember s p h o type payload).pcie = s.pcie ∧ (toMember s p h o type payload).log = s.log ∧ (toMember s p h
      o type payload).foreman = s.foreman ∧ (toMember s p h o type payload).eopen = s.eopen ∧ (toMember s p h o type
      payload).ledger = s.ledger ∧ (toMember s p h o type payload).sched = s.sched ∧ (toMember s p h o type payload).tiles =
      s.tiles ∧ (toMember s p h o type payload).dram = s.dram ∧ (toMember s p h o type payload).assayer = s.assayer ∧
      (toMember s p h o type payload).fabric = s.fabric ∧ (toMember s p h o type payload).rumbes = s.rumbes := by
  unfold toMember; simp [*]
@[simp] theorem byHop_frame (s : State) (p : Nat) (sd : Side) (h : Nat) (o : Origin) (type : Nat) (payload : List Byte)
  :
    (byHop s p sd h o type payload).pending = s.pending ∧ (byHop s p sd h o type payload).now = s.now ∧ (byHop s p sd h
      o type payload).free = s.free ∧ (byHop s p sd h o type payload).out = s.out ∧ (byHop s p sd h o type payload).sys
      = s.sys ∧ (byHop s p sd h o type payload).ka = s.ka ∧ (byHop s p sd h o type payload).flash = s.flash ∧ (byHop s p
      sd h o type payload).journal = s.journal ∧ (byHop s p sd h o type payload).host = s.host ∧ (byHop s p sd h o type
      payload).ports = s.ports ∧ (byHop s p sd h o type payload).pcie = s.pcie ∧ (byHop s p sd h o type payload).log =
      s.log ∧ (byHop s p sd h o type payload).foreman = s.foreman ∧ (byHop s p sd h o type payload).eopen = s.eopen ∧
      (byHop s p sd h o type payload).ledger = s.ledger ∧ (byHop s p sd h o type payload).sched = s.sched ∧ (byHop s p
      sd h o type payload).tiles = s.tiles ∧ (byHop s p sd h o type payload).dram = s.dram ∧ (byHop s p sd h o type
      payload).assayer = s.assayer ∧ (byHop s p sd h o type payload).fabric = s.fabric ∧ (byHop s p sd h o type
      payload).rumbes = s.rumbes := by
  unfold byHop; simp [*]
@[simp] theorem byPos_frame (s : State) (p h : Nat) (o : Origin) (type : Nat) (payload : List Byte) :
    (byPos s p h o type payload).pending = s.pending ∧ (byPos s p h o type payload).now = s.now ∧ (byPos s p h o type
      payload).free = s.free ∧ (byPos s p h o type payload).out = s.out ∧ (byPos s p h o type payload).sys = s.sys ∧
      (byPos s p h o type payload).ka = s.ka ∧ (byPos s p h o type payload).flash = s.flash ∧ (byPos s p h o type
      payload).journal = s.journal ∧ (byPos s p h o type payload).host = s.host ∧ (byPos s p h o type payload).ports =
      s.ports ∧ (byPos s p h o type payload).pcie = s.pcie ∧ (byPos s p h o type payload).log = s.log ∧ (byPos s p h o
      type payload).foreman = s.foreman ∧ (byPos s p h o type payload).eopen = s.eopen ∧ (byPos s p h o type
      payload).ledger = s.ledger ∧ (byPos s p h o type payload).sched = s.sched ∧ (byPos s p h o type payload).tiles =
      s.tiles ∧ (byPos s p h o type payload).dram = s.dram ∧ (byPos s p h o type payload).assayer = s.assayer ∧ (byPos s
      p h o type payload).fabric = s.fabric ∧ (byPos s p h o type payload).rumbes = s.rumbes := by
  unfold byPos; simp -implicitDefEqProofs [*]
@[simp] theorem writeBack_frame (s : State) (p h : Nat) :
    (writeBack s p h).pending = s.pending ∧ (writeBack s p h).now = s.now ∧ (writeBack s p h).free = s.free ∧ (writeBack s p
      h).out = s.out ∧ (writeBack s p h).sys = s.sys ∧ (writeBack s p h).ka = s.ka ∧ (writeBack s p h).flash = s.flash ∧
      (writeBack s p h).journal = s.journal ∧ (writeBack s p h).host = s.host ∧ (writeBack s p h).ports = s.ports ∧ (writeBack
      s p h).pcie = s.pcie ∧ (writeBack s p h).log = s.log ∧ (writeBack s p h).foreman = s.foreman ∧ (writeBack s p h).eopen =
      s.eopen ∧ (writeBack s p h).ledger = s.ledger ∧ (writeBack s p h).sched = s.sched ∧ (writeBack s p h).tiles = s.tiles ∧
      (writeBack s p h).dram = s.dram ∧ (writeBack s p h).assayer = s.assayer ∧ (writeBack s p h).fabric = s.fabric ∧
      (writeBack s p h).rumbes = s.rumbes := by
  unfold writeBack; simp [*]
@[simp] theorem writeId_frame (s : State) (p : Nat) (sd : Side) (h : Nat) :
    (writeId s p sd h).pending = s.pending ∧ (writeId s p sd h).now = s.now ∧ (writeId s p sd h).free = s.free ∧
      (writeId s p sd h).out = s.out ∧ (writeId s p sd h).sys = s.sys ∧ (writeId s p sd h).ka = s.ka ∧ (writeId s p sd
      h).flash = s.flash ∧ (writeId s p sd h).journal = s.journal ∧ (writeId s p sd h).host = s.host ∧ (writeId s p sd
      h).ports = s.ports ∧ (writeId s p sd h).pcie = s.pcie ∧ (writeId s p sd h).log = s.log ∧ (writeId s p sd
      h).foreman = s.foreman ∧ (writeId s p sd h).eopen = s.eopen ∧ (writeId s p sd h).ledger = s.ledger ∧ (writeId s p
      sd h).sched = s.sched ∧ (writeId s p sd h).tiles = s.tiles ∧ (writeId s p sd h).dram = s.dram ∧ (writeId s p sd
      h).assayer = s.assayer ∧ (writeId s p sd h).fabric = s.fabric ∧ (writeId s p sd h).rumbes = s.rumbes := by
  unfold writeId; simp -implicitDefEqProofs [*]
@[simp] theorem checkId_frame (s : State) (p : Nat) (sd : Side) (h : Nat) (again : Bool) :
    (checkId s p sd h again).pending = s.pending ∧ (checkId s p sd h again).now = s.now ∧ (checkId s p sd h again).free
      = s.free ∧ (checkId s p sd h again).out = s.out ∧ (checkId s p sd h again).sys = s.sys ∧ (checkId s p sd h
      again).ka = s.ka ∧ (checkId s p sd h again).flash = s.flash ∧ (checkId s p sd h again).journal = s.journal ∧
      (checkId s p sd h again).host = s.host ∧ (checkId s p sd h again).ports = s.ports ∧ (checkId s p sd h again).pcie
      = s.pcie ∧ (checkId s p sd h again).log = s.log ∧ (checkId s p sd h again).foreman = s.foreman ∧ (checkId s p sd h
      again).eopen = s.eopen ∧ (checkId s p sd h again).ledger = s.ledger ∧ (checkId s p sd h again).sched = s.sched ∧
      (checkId s p sd h again).tiles = s.tiles ∧ (checkId s p sd h again).dram = s.dram ∧ (checkId s p sd h
      again).assayer = s.assayer ∧ (checkId s p sd h again).fabric = s.fabric ∧ (checkId s p sd h again).rumbes =
      s.rumbes := by
  unfold checkId; simp -implicitDefEqProofs [*]
@[simp] theorem askIdentity_frame (s : State) (p : Nat) (sd : Side) (h : Nat) (once : Bool) :
    (askIdentity s p sd h once).pending = s.pending ∧ (askIdentity s p sd h once).now = s.now ∧ (askIdentity s p sd h
      once).free = s.free ∧ (askIdentity s p sd h once).out = s.out ∧ (askIdentity s p sd h once).sys = s.sys ∧
      (askIdentity s p sd h once).ka = s.ka ∧ (askIdentity s p sd h once).flash = s.flash ∧ (askIdentity s p sd h
      once).journal = s.journal ∧ (askIdentity s p sd h once).host = s.host ∧ (askIdentity s p sd h once).ports =
      s.ports ∧ (askIdentity s p sd h once).pcie = s.pcie ∧ (askIdentity s p sd h once).log = s.log ∧ (askIdentity s p
      sd h once).foreman = s.foreman ∧ (askIdentity s p sd h once).eopen = s.eopen ∧ (askIdentity s p sd h once).ledger
      = s.ledger ∧ (askIdentity s p sd h once).sched = s.sched ∧ (askIdentity s p sd h once).tiles = s.tiles ∧
      (askIdentity s p sd h once).dram = s.dram ∧ (askIdentity s p sd h once).assayer = s.assayer ∧ (askIdentity s p sd
      h once).fabric = s.fabric ∧ (askIdentity s p sd h once).rumbes = s.rumbes := by
  unfold askIdentity; simp -implicitDefEqProofs [*]
@[simp] theorem askJab_frame (s : State) (p h : Nat) :
    (askJab s p h).pending = s.pending ∧ (askJab s p h).now = s.now ∧ (askJab s p h).free = s.free ∧ (askJab s p h).out
      = s.out ∧ (askJab s p h).sys = s.sys ∧ (askJab s p h).ka = s.ka ∧ (askJab s p h).flash = s.flash ∧ (askJab s p
      h).journal = s.journal ∧ (askJab s p h).host = s.host ∧ (askJab s p h).ports = s.ports ∧ (askJab s p h).pcie =
      s.pcie ∧ (askJab s p h).log = s.log ∧ (askJab s p h).foreman = s.foreman ∧ (askJab s p h).eopen = s.eopen ∧
      (askJab s p h).ledger = s.ledger ∧ (askJab s p h).sched = s.sched ∧ (askJab s p h).tiles = s.tiles ∧ (askJab s p
      h).dram = s.dram ∧ (askJab s p h).assayer = s.assayer ∧ (askJab s p h).fabric = s.fabric ∧ (askJab s p h).rumbes =
      s.rumbes := by
  unfold askJab; simp -implicitDefEqProofs [*]
@[simp] theorem startSweeps_frame (s : State) (p : Nat) :
    (startSweeps s p).pending = s.pending ∧ (startSweeps s p).now = s.now ∧ (startSweeps s p).free = s.free ∧ (startSweeps s
      p).out = s.out ∧ (startSweeps s p).sys = s.sys ∧ (startSweeps s p).ka = s.ka ∧ (startSweeps s p).flash = s.flash ∧
      (startSweeps s p).journal = s.journal ∧ (startSweeps s p).host = s.host ∧ (startSweeps s p).ports = s.ports ∧
      (startSweeps s p).pcie = s.pcie ∧ (startSweeps s p).log = s.log ∧ (startSweeps s p).foreman = s.foreman ∧ (startSweeps s
      p).eopen = s.eopen ∧ (startSweeps s p).ledger = s.ledger ∧ (startSweeps s p).sched = s.sched ∧ (startSweeps s p).tiles =
      s.tiles ∧ (startSweeps s p).dram = s.dram ∧ (startSweeps s p).assayer = s.assayer ∧ (startSweeps s p).fabric = s.fabric
      ∧ (startSweeps s p).rumbes = s.rumbes := by
  unfold startSweeps; simp [*]
@[simp] theorem stopPair_frame (s : State) (p : Nat) :
    (stopPair s p).pending = s.pending ∧ (stopPair s p).now = s.now ∧ (stopPair s p).free = s.free ∧ (stopPair s p).sys =
      s.sys ∧ (stopPair s p).ka = s.ka ∧ (stopPair s p).flash = s.flash ∧ (stopPair s p).journal = s.journal ∧ (stopPair s
      p).host = s.host ∧ (stopPair s p).ports = s.ports ∧ (stopPair s p).pcie = s.pcie ∧ (stopPair s p).log = s.log ∧
      (stopPair s p).foreman = s.foreman ∧ (stopPair s p).eopen = s.eopen ∧ (stopPair s p).ledger = s.ledger ∧ (stopPair s
      p).sched = s.sched ∧ (stopPair s p).tiles = s.tiles ∧ (stopPair s p).dram = s.dram ∧ (stopPair s p).assayer = s.assayer
      ∧ (stopPair s p).fabric = s.fabric ∧ (stopPair s p).rumbes = s.rumbes := by
  unfold stopPair; simp [*]
@[simp] theorem wakePair_frame (s : State) (p : Nat) :
    (wakePair s p).pending = s.pending ∧ (wakePair s p).now = s.now ∧ (wakePair s p).free = s.free ∧ (wakePair s p).sys =
      s.sys ∧ (wakePair s p).ka = s.ka ∧ (wakePair s p).flash = s.flash ∧ (wakePair s p).journal = s.journal ∧ (wakePair s
      p).host = s.host ∧ (wakePair s p).pcie = s.pcie ∧ (wakePair s p).log = s.log ∧ (wakePair s p).foreman = s.foreman ∧
      (wakePair s p).eopen = s.eopen ∧ (wakePair s p).ledger = s.ledger ∧ (wakePair s p).sched = s.sched ∧ (wakePair s
      p).tiles = s.tiles ∧ (wakePair s p).dram = s.dram ∧ (wakePair s p).assayer = s.assayer ∧ (wakePair s p).fabric =
      s.fabric ∧ (wakePair s p).rumbes = s.rumbes := by
  unfold wakePair; simp [*]
@[simp] theorem sendEnumerate_frame (s : State) (p : Nat) :
    (sendEnumerate s p).pending = s.pending ∧ (sendEnumerate s p).now = s.now ∧ (sendEnumerate s p).free = s.free ∧
      (sendEnumerate s p).sys = s.sys ∧ (sendEnumerate s p).ka = s.ka ∧ (sendEnumerate s p).flash = s.flash ∧ (sendEnumerate s
      p).journal = s.journal ∧ (sendEnumerate s p).host = s.host ∧ (sendEnumerate s p).pcie = s.pcie ∧ (sendEnumerate s p).log
      = s.log ∧ (sendEnumerate s p).foreman = s.foreman ∧ (sendEnumerate s p).eopen = s.eopen ∧ (sendEnumerate s p).ledger =
      s.ledger ∧ (sendEnumerate s p).sched = s.sched ∧ (sendEnumerate s p).tiles = s.tiles ∧ (sendEnumerate s p).dram = s.dram
      ∧ (sendEnumerate s p).assayer = s.assayer ∧ (sendEnumerate s p).fabric = s.fabric ∧ (sendEnumerate s p).rumbes =
      s.rumbes := by
  unfold sendEnumerate; simp [*]

/-! ### LedgerSnap -/

@[simp] theorem takeSnapshot_frame (s : State) (cause : Nat) :
    (takeSnapshot s cause).pending = s.pending ∧ (takeSnapshot s cause).now = s.now ∧ (takeSnapshot s cause).free = s.free ∧
      (takeSnapshot s cause).out = s.out ∧ (takeSnapshot s cause).sys = s.sys ∧ (takeSnapshot s cause).flash = s.flash ∧
      (takeSnapshot s cause).journal = s.journal ∧ (takeSnapshot s cause).host = s.host ∧ (takeSnapshot s cause).ports =
      s.ports ∧ (takeSnapshot s cause).pcie = s.pcie ∧ (takeSnapshot s cause).log = s.log ∧ (takeSnapshot s cause).foreman =
      s.foreman ∧ (takeSnapshot s cause).pairs = s.pairs ∧ (takeSnapshot s cause).eopen = s.eopen ∧ (takeSnapshot s
      cause).sched = s.sched ∧ (takeSnapshot s cause).tiles = s.tiles ∧ (takeSnapshot s cause).dram = s.dram ∧ (takeSnapshot s
      cause).assayer = s.assayer ∧ (takeSnapshot s cause).fabric = s.fabric ∧ (takeSnapshot s cause).rumbes = s.rumbes := by
  unfold takeSnapshot; simp [*]
@[simp] theorem askSnapshot_frame (s : State) (cause : Nat) :
    (askSnapshot s cause).pending = s.pending ∧ (askSnapshot s cause).now = s.now ∧ (askSnapshot s cause).free = s.free
      ∧ (askSnapshot s cause).out = s.out ∧ (askSnapshot s cause).sys = s.sys ∧ (askSnapshot s cause).flash = s.flash ∧
      (askSnapshot s cause).journal = s.journal ∧ (askSnapshot s cause).host = s.host ∧ (askSnapshot s cause).ports =
      s.ports ∧ (askSnapshot s cause).pcie = s.pcie ∧ (askSnapshot s cause).log = s.log ∧ (askSnapshot s cause).foreman
      = s.foreman ∧ (askSnapshot s cause).pairs = s.pairs ∧ (askSnapshot s cause).eopen = s.eopen ∧ (askSnapshot s
      cause).sched = s.sched ∧ (askSnapshot s cause).tiles = s.tiles ∧ (askSnapshot s cause).dram = s.dram ∧
      (askSnapshot s cause).assayer = s.assayer ∧ (askSnapshot s cause).fabric = s.fabric ∧ (askSnapshot s cause).rumbes
      = s.rumbes := by
  unfold askSnapshot; simp -implicitDefEqProofs [*]
@[simp] theorem dueSnapshot_frame (s : State) :
    (dueSnapshot s).pending = s.pending ∧ (dueSnapshot s).now = s.now ∧ (dueSnapshot s).free = s.free ∧ (dueSnapshot
      s).out = s.out ∧ (dueSnapshot s).sys = s.sys ∧ (dueSnapshot s).flash = s.flash ∧ (dueSnapshot s).journal =
      s.journal ∧ (dueSnapshot s).host = s.host ∧ (dueSnapshot s).ports = s.ports ∧ (dueSnapshot s).pcie = s.pcie ∧
      (dueSnapshot s).log = s.log ∧ (dueSnapshot s).foreman = s.foreman ∧ (dueSnapshot s).pairs = s.pairs ∧ (dueSnapshot
      s).eopen = s.eopen ∧ (dueSnapshot s).sched = s.sched ∧ (dueSnapshot s).tiles = s.tiles ∧ (dueSnapshot s).dram =
      s.dram ∧ (dueSnapshot s).assayer = s.assayer ∧ (dueSnapshot s).fabric = s.fabric ∧ (dueSnapshot s).rumbes =
      s.rumbes := by
  unfold dueSnapshot; split <;> simp -implicitDefEqProofs [*]
@[simp] theorem restoreLedger_frame (s : State) :
    (restoreLedger s).pending = s.pending ∧ (restoreLedger s).now = s.now ∧ (restoreLedger s).free = s.free ∧ (restoreLedger
      s).out = s.out ∧ (restoreLedger s).sys = s.sys ∧ (restoreLedger s).ka = s.ka ∧ (restoreLedger s).flash = s.flash ∧
      (restoreLedger s).journal = s.journal ∧ (restoreLedger s).host = s.host ∧ (restoreLedger s).ports = s.ports ∧
      (restoreLedger s).pcie = s.pcie ∧ (restoreLedger s).log = s.log ∧ (restoreLedger s).foreman = s.foreman ∧ (restoreLedger
      s).pairs = s.pairs ∧ (restoreLedger s).eopen = s.eopen ∧ (restoreLedger s).sched = s.sched ∧ (restoreLedger s).tiles =
      s.tiles ∧ (restoreLedger s).dram = s.dram ∧ (restoreLedger s).assayer = s.assayer ∧ (restoreLedger s).fabric = s.fabric
      ∧ (restoreLedger s).rumbes = s.rumbes := by
  unfold restoreLedger; split <;> simp -implicitDefEqProofs [*]

/-! ### LedgerOps -/

@[simp] theorem addCharge_frame (s : State) (c : Nat) (dq : Int) (bal : Bool) :
    (addCharge s c dq bal).pending = s.pending ∧ (addCharge s c dq bal).now = s.now ∧ (addCharge s c dq bal).free = s.free ∧
      (addCharge s c dq bal).out = s.out ∧ (addCharge s c dq bal).sys = s.sys ∧ (addCharge s c dq bal).ka = s.ka ∧ (addCharge
      s c dq bal).flash = s.flash ∧ (addCharge s c dq bal).journal = s.journal ∧ (addCharge s c dq bal).host = s.host ∧
      (addCharge s c dq bal).ports = s.ports ∧ (addCharge s c dq bal).pcie = s.pcie ∧ (addCharge s c dq bal).log = s.log ∧
      (addCharge s c dq bal).foreman = s.foreman ∧ (addCharge s c dq bal).pairs = s.pairs ∧ (addCharge s c dq bal).eopen =
      s.eopen ∧ (addCharge s c dq bal).tiles = s.tiles ∧ (addCharge s c dq bal).dram = s.dram ∧ (addCharge s c dq bal).assayer
      = s.assayer ∧ (addCharge s c dq bal).fabric = s.fabric ∧ (addCharge s c dq bal).rumbes = s.rumbes := by
  unfold addCharge; simp [*] <;> (repeat' split) <;> simp [*]
@[simp] theorem addUx_frame (s : State) (c u : Nat) :
    (addUx s c u).pending = s.pending ∧ (addUx s c u).now = s.now ∧ (addUx s c u).free = s.free ∧ (addUx s c u).out = s.out
      ∧ (addUx s c u).sys = s.sys ∧ (addUx s c u).ka = s.ka ∧ (addUx s c u).flash = s.flash ∧ (addUx s c u).journal =
      s.journal ∧ (addUx s c u).host = s.host ∧ (addUx s c u).ports = s.ports ∧ (addUx s c u).pcie = s.pcie ∧ (addUx s c
      u).log = s.log ∧ (addUx s c u).foreman = s.foreman ∧ (addUx s c u).pairs = s.pairs ∧ (addUx s c u).eopen = s.eopen ∧
      (addUx s c u).sched = s.sched ∧ (addUx s c u).tiles = s.tiles ∧ (addUx s c u).dram = s.dram ∧ (addUx s c u).assayer =
      s.assayer ∧ (addUx s c u).fabric = s.fabric ∧ (addUx s c u).rumbes = s.rumbes := by
  unfold addUx; simp [*]
@[simp] theorem assayNone_frame (s : State) (c : Nat) :
    (assayNone s c).pending = s.pending ∧ (assayNone s c).now = s.now ∧ (assayNone s c).free = s.free ∧ (assayNone s c).out
      = s.out ∧ (assayNone s c).sys = s.sys ∧ (assayNone s c).ka = s.ka ∧ (assayNone s c).flash = s.flash ∧ (assayNone s
      c).journal = s.journal ∧ (assayNone s c).host = s.host ∧ (assayNone s c).ports = s.ports ∧ (assayNone s c).pcie = s.pcie
      ∧ (assayNone s c).log = s.log ∧ (assayNone s c).foreman = s.foreman ∧ (assayNone s c).pairs = s.pairs ∧ (assayNone s
      c).eopen = s.eopen ∧ (assayNone s c).ledger = s.ledger ∧ (assayNone s c).sched = s.sched ∧ (assayNone s c).tiles =
      s.tiles ∧ (assayNone s c).dram = s.dram ∧ (assayNone s c).fabric = s.fabric ∧ (assayNone s c).rumbes = s.rumbes := by
  unfold assayNone; simp [*]
@[simp] theorem invalidate_frame (s : State) (c : Nat) :
    (invalidate s c).pending = s.pending ∧ (invalidate s c).now = s.now ∧ (invalidate s c).free = s.free ∧ (invalidate s
      c).out = s.out ∧ (invalidate s c).sys = s.sys ∧ (invalidate s c).ka = s.ka ∧ (invalidate s c).flash = s.flash ∧
      (invalidate s c).journal = s.journal ∧ (invalidate s c).host = s.host ∧ (invalidate s c).ports = s.ports ∧ (invalidate s
      c).pcie = s.pcie ∧ (invalidate s c).log = s.log ∧ (invalidate s c).foreman = s.foreman ∧ (invalidate s c).pairs =
      s.pairs ∧ (invalidate s c).eopen = s.eopen ∧ (invalidate s c).sched = s.sched ∧ (invalidate s c).tiles = s.tiles ∧
      (invalidate s c).dram = s.dram ∧ (invalidate s c).fabric = s.fabric ∧ (invalidate s c).rumbes = s.rumbes := by
  unfold invalidate; simp [*]
@[simp] theorem driveGpio_frame (s : State) :
    (driveGpio s).pending = s.pending ∧ (driveGpio s).now = s.now ∧ (driveGpio s).free = s.free ∧ (driveGpio s).out = s.out
      ∧ (driveGpio s).sys = s.sys ∧ (driveGpio s).ka = s.ka ∧ (driveGpio s).flash = s.flash ∧ (driveGpio s).journal =
      s.journal ∧ (driveGpio s).host = s.host ∧ (driveGpio s).ports = s.ports ∧ (driveGpio s).pcie = s.pcie ∧ (driveGpio
      s).log = s.log ∧ (driveGpio s).foreman = s.foreman ∧ (driveGpio s).pairs = s.pairs ∧ (driveGpio s).eopen = s.eopen ∧
      (driveGpio s).sched = s.sched ∧ (driveGpio s).tiles = s.tiles ∧ (driveGpio s).dram = s.dram ∧ (driveGpio s).assayer =
      s.assayer ∧ (driveGpio s).fabric = s.fabric ∧ (driveGpio s).rumbes = s.rumbes := by
  unfold driveGpio; simp [*]
@[simp] theorem judge_frame (s : State) (n : Nat) :
    (judge s n).pending = s.pending ∧ (judge s n).now = s.now ∧ (judge s n).free = s.free ∧ (judge s n).out = s.out ∧ (judge
      s n).sys = s.sys ∧ (judge s n).ka = s.ka ∧ (judge s n).flash = s.flash ∧ (judge s n).journal = s.journal ∧ (judge s
      n).host = s.host ∧ (judge s n).pcie = s.pcie ∧ (judge s n).log = s.log ∧ (judge s n).foreman = s.foreman ∧ (judge s
      n).pairs = s.pairs ∧ (judge s n).eopen = s.eopen ∧ (judge s n).sched = s.sched ∧ (judge s n).tiles = s.tiles ∧ (judge s
      n).dram = s.dram ∧ (judge s n).assayer = s.assayer ∧ (judge s n).fabric = s.fabric ∧ (judge s n).rumbes = s.rumbes := by
  unfold judge; simp [*]
@[simp] theorem lcEvent_frame (s : State) (n : Nat) :
    (lcEvent s n).pending = s.pending ∧ (lcEvent s n).now = s.now ∧ (lcEvent s n).free = s.free ∧ (lcEvent s n).out = s.out
      ∧ (lcEvent s n).sys = s.sys ∧ (lcEvent s n).ka = s.ka ∧ (lcEvent s n).flash = s.flash ∧ (lcEvent s n).journal =
      s.journal ∧ (lcEvent s n).host = s.host ∧ (lcEvent s n).pcie = s.pcie ∧ (lcEvent s n).log = s.log ∧ (lcEvent s
      n).foreman = s.foreman ∧ (lcEvent s n).pairs = s.pairs ∧ (lcEvent s n).eopen = s.eopen ∧ (lcEvent s n).ledger = s.ledger
      ∧ (lcEvent s n).sched = s.sched ∧ (lcEvent s n).tiles = s.tiles ∧ (lcEvent s n).dram = s.dram ∧ (lcEvent s n).assayer =
      s.assayer ∧ (lcEvent s n).fabric = s.fabric ∧ (lcEvent s n).rumbes = s.rumbes := by
  unfold lcEvent; simp [*]
@[simp] theorem ledgerNote_frame (s : State) (e : LedgerNote) :
    (ledgerNote s e).pending = s.pending ∧ (ledgerNote s e).now = s.now ∧ (ledgerNote s e).free = s.free ∧ (ledgerNote s
      e).out = s.out ∧ (ledgerNote s e).sys = s.sys ∧ (ledgerNote s e).ka = s.ka ∧ (ledgerNote s e).flash = s.flash ∧
      (ledgerNote s e).journal = s.journal ∧ (ledgerNote s e).host = s.host ∧ (ledgerNote s e).ports = s.ports ∧
      (ledgerNote s e).pcie = s.pcie ∧ (ledgerNote s e).log = s.log ∧ (ledgerNote s e).foreman = s.foreman ∧ (ledgerNote
      s e).pairs = s.pairs ∧ (ledgerNote s e).eopen = s.eopen ∧ (ledgerNote s e).sched = s.sched ∧ (ledgerNote s
      e).tiles = s.tiles ∧ (ledgerNote s e).dram = s.dram ∧ (ledgerNote s e).assayer = s.assayer ∧ (ledgerNote s
      e).fabric = s.fabric ∧ (ledgerNote s e).rumbes = s.rumbes := by
  unfold ledgerNote; simp -implicitDefEqProofs [*]
@[simp] theorem disqualify_frame (s : State) (n : Nat) (codes : List Nat) :
    (disqualify s n codes).pending = s.pending ∧ (disqualify s n codes).now = s.now ∧ (disqualify s n codes).free = s.free ∧
      (disqualify s n codes).out = s.out ∧ (disqualify s n codes).sys = s.sys ∧ (disqualify s n codes).ka = s.ka ∧ (disqualify
      s n codes).flash = s.flash ∧ (disqualify s n codes).journal = s.journal ∧ (disqualify s n codes).host = s.host ∧
      (disqualify s n codes).pcie = s.pcie ∧ (disqualify s n codes).log = s.log ∧ (disqualify s n codes).foreman = s.foreman ∧
      (disqualify s n codes).pairs = s.pairs ∧ (disqualify s n codes).eopen = s.eopen ∧ (disqualify s n codes).sched = s.sched
      ∧ (disqualify s n codes).tiles = s.tiles ∧ (disqualify s n codes).dram = s.dram ∧ (disqualify s n codes).assayer =
      s.assayer ∧ (disqualify s n codes).fabric = s.fabric ∧ (disqualify s n codes).rumbes = s.rumbes := by
  unfold disqualify; simp -implicitDefEqProofs [*] <;> (repeat' split) <;> simp -implicitDefEqProofs [*]
@[simp] theorem enterRunning_frame (s : State) (n : Nat) :
    (enterRunning s n).pending = s.pending ∧ (enterRunning s n).now = s.now ∧ (enterRunning s n).free = s.free ∧
      (enterRunning s n).out = s.out ∧ (enterRunning s n).sys = s.sys ∧ (enterRunning s n).ka = s.ka ∧ (enterRunning s
      n).flash = s.flash ∧ (enterRunning s n).journal = s.journal ∧ (enterRunning s n).host = s.host ∧ (enterRunning s
      n).ports = s.ports ∧ (enterRunning s n).pcie = s.pcie ∧ (enterRunning s n).log = s.log ∧ (enterRunning s
      n).foreman = s.foreman ∧ (enterRunning s n).pairs = s.pairs ∧ (enterRunning s n).eopen = s.eopen ∧ (enterRunning s
      n).sched = s.sched ∧ (enterRunning s n).tiles = s.tiles ∧ (enterRunning s n).dram = s.dram ∧ (enterRunning s
      n).assayer = s.assayer ∧ (enterRunning s n).fabric = s.fabric ∧ (enterRunning s n).rumbes = s.rumbes := by
  unfold enterRunning; simp -implicitDefEqProofs [*]
@[simp] theorem anchorLog_frame (s : State) (n kind cells : Nat) :
    (anchorLog s n kind cells).pending = s.pending ∧ (anchorLog s n kind cells).now = s.now ∧ (anchorLog s n kind
      cells).free = s.free ∧ (anchorLog s n kind cells).out = s.out ∧ (anchorLog s n kind cells).sys = s.sys ∧ (anchorLog s n
      kind cells).flash = s.flash ∧ (anchorLog s n kind cells).journal = s.journal ∧ (anchorLog s n kind cells).host = s.host
      ∧ (anchorLog s n kind cells).ports = s.ports ∧ (anchorLog s n kind cells).pcie = s.pcie ∧ (anchorLog s n kind cells).log
      = s.log ∧ (anchorLog s n kind cells).foreman = s.foreman ∧ (anchorLog s n kind cells).pairs = s.pairs ∧ (anchorLog s n
      kind cells).eopen = s.eopen ∧ (anchorLog s n kind cells).ledger = s.ledger ∧ (anchorLog s n kind cells).sched = s.sched
      ∧ (anchorLog s n kind cells).tiles = s.tiles ∧ (anchorLog s n kind cells).dram = s.dram ∧ (anchorLog s n kind
      cells).assayer = s.assayer ∧ (anchorLog s n kind cells).fabric = s.fabric ∧ (anchorLog s n kind cells).rumbes = s.rumbes
      := by
  unfold anchorLog; simp [*]
@[simp] theorem takeAnchor_frame (s : State) (c kind : Nat) (q : Int) :
    (takeAnchor s c kind q).pending = s.pending ∧ (takeAnchor s c kind q).now = s.now ∧ (takeAnchor s c kind q).free =
      s.free ∧ (takeAnchor s c kind q).out = s.out ∧ (takeAnchor s c kind q).sys = s.sys ∧ (takeAnchor s c kind q).ka = s.ka ∧
      (takeAnchor s c kind q).flash = s.flash ∧ (takeAnchor s c kind q).journal = s.journal ∧ (takeAnchor s c kind q).host =
      s.host ∧ (takeAnchor s c kind q).ports = s.ports ∧ (takeAnchor s c kind q).pcie = s.pcie ∧ (takeAnchor s c kind q).log =
      s.log ∧ (takeAnchor s c kind q).foreman = s.foreman ∧ (takeAnchor s c kind q).pairs = s.pairs ∧ (takeAnchor s c kind
      q).eopen = s.eopen ∧ (takeAnchor s c kind q).sched = s.sched ∧ (takeAnchor s c kind q).tiles = s.tiles ∧ (takeAnchor s c
      kind q).dram = s.dram ∧ (takeAnchor s c kind q).fabric = s.fabric ∧ (takeAnchor s c kind q).rumbes = s.rumbes := by
  unfold takeAnchor; simp [*]
@[simp] theorem fullAnchors_frame (s : State) (n kind : Nat) (cells : List Nat) :
    (fullAnchors s n kind cells).pending = s.pending ∧ (fullAnchors s n kind cells).now = s.now ∧ (fullAnchors s n kind
      cells).free = s.free ∧ (fullAnchors s n kind cells).out = s.out ∧ (fullAnchors s n kind cells).sys = s.sys ∧
      (fullAnchors s n kind cells).flash = s.flash ∧ (fullAnchors s n kind cells).journal = s.journal ∧ (fullAnchors s n kind
      cells).host = s.host ∧ (fullAnchors s n kind cells).pcie = s.pcie ∧ (fullAnchors s n kind cells).log = s.log ∧
      (fullAnchors s n kind cells).foreman = s.foreman ∧ (fullAnchors s n kind cells).pairs = s.pairs ∧ (fullAnchors s n kind
      cells).eopen = s.eopen ∧ (fullAnchors s n kind cells).sched = s.sched ∧ (fullAnchors s n kind cells).tiles = s.tiles ∧
      (fullAnchors s n kind cells).dram = s.dram ∧ (fullAnchors s n kind cells).fabric = s.fabric ∧ (fullAnchors s n kind
      cells).rumbes = s.rumbes := by
  unfold fullAnchors; simp [*]
@[simp] theorem updateCap_frame (s : State) (n : Nat) (emptied : List Nat) :
    (updateCap s n emptied).pending = s.pending ∧ (updateCap s n emptied).now = s.now ∧ (updateCap s n emptied).free =
      s.free ∧ (updateCap s n emptied).out = s.out ∧ (updateCap s n emptied).sys = s.sys ∧ (updateCap s n emptied).ka = s.ka ∧
      (updateCap s n emptied).flash = s.flash ∧ (updateCap s n emptied).journal = s.journal ∧ (updateCap s n emptied).host =
      s.host ∧ (updateCap s n emptied).pcie = s.pcie ∧ (updateCap s n emptied).log = s.log ∧ (updateCap s n emptied).foreman =
      s.foreman ∧ (updateCap s n emptied).pairs = s.pairs ∧ (updateCap s n emptied).eopen = s.eopen ∧ (updateCap s n
      emptied).sched = s.sched ∧ (updateCap s n emptied).tiles = s.tiles ∧ (updateCap s n emptied).dram = s.dram ∧ (updateCap
      s n emptied).assayer = s.assayer ∧ (updateCap s n emptied).fabric = s.fabric ∧ (updateCap s n emptied).rumbes = s.rumbes
      := by
  unfold updateCap; simp [*]
@[simp] theorem resetFed_frame (s : State) (c : Nat) :
    (resetFed s c).pending = s.pending ∧ (resetFed s c).now = s.now ∧ (resetFed s c).free = s.free ∧ (resetFed s c).out =
      s.out ∧ (resetFed s c).sys = s.sys ∧ (resetFed s c).ka = s.ka ∧ (resetFed s c).flash = s.flash ∧ (resetFed s c).journal
      = s.journal ∧ (resetFed s c).host = s.host ∧ (resetFed s c).ports = s.ports ∧ (resetFed s c).pcie = s.pcie ∧ (resetFed s
      c).log = s.log ∧ (resetFed s c).foreman = s.foreman ∧ (resetFed s c).pairs = s.pairs ∧ (resetFed s c).eopen = s.eopen ∧
      (resetFed s c).ledger = s.ledger ∧ (resetFed s c).tiles = s.tiles ∧ (resetFed s c).dram = s.dram ∧ (resetFed s
      c).assayer = s.assayer ∧ (resetFed s c).fabric = s.fabric ∧ (resetFed s c).rumbes = s.rumbes := by
  unfold resetFed; split <;> simp [*]
@[simp] theorem storeMember_frame (s : State) (i : Nat) :
    (storeMember s i).pending = s.pending ∧ (storeMember s i).now = s.now ∧ (storeMember s i).free = s.free ∧ (storeMember s
      i).out = s.out ∧ (storeMember s i).sys = s.sys ∧ (storeMember s i).flash = s.flash ∧ (storeMember s i).host = s.host ∧
      (storeMember s i).ports = s.ports ∧ (storeMember s i).pcie = s.pcie ∧ (storeMember s i).log = s.log ∧ (storeMember s
      i).foreman = s.foreman ∧ (storeMember s i).pairs = s.pairs ∧ (storeMember s i).eopen = s.eopen ∧ (storeMember s
      i).ledger = s.ledger ∧ (storeMember s i).sched = s.sched ∧ (storeMember s i).tiles = s.tiles ∧ (storeMember s i).dram =
      s.dram ∧ (storeMember s i).assayer = s.assayer ∧ (storeMember s i).fabric = s.fabric ∧ (storeMember s i).rumbes =
      s.rumbes := by
  unfold storeMember; simp [*]
@[simp] theorem moduleSwap_frame (s : State) (p h modid : Nat) (serial : Option Nat) :
    (moduleSwap s p h modid serial).pending = s.pending ∧ (moduleSwap s p h modid serial).now = s.now ∧ (moduleSwap s p h
      modid serial).free = s.free ∧ (moduleSwap s p h modid serial).out = s.out ∧ (moduleSwap s p h modid serial).sys = s.sys
      ∧ (moduleSwap s p h modid serial).flash = s.flash ∧ (moduleSwap s p h modid serial).host = s.host ∧ (moduleSwap s p h
      modid serial).pcie = s.pcie ∧ (moduleSwap s p h modid serial).log = s.log ∧ (moduleSwap s p h modid serial).foreman =
      s.foreman ∧ (moduleSwap s p h modid serial).eopen = s.eopen ∧ (moduleSwap s p h modid serial).tiles = s.tiles ∧
      (moduleSwap s p h modid serial).dram = s.dram ∧ (moduleSwap s p h modid serial).fabric = s.fabric ∧ (moduleSwap s p h
      modid serial).rumbes = s.rumbes := by
  unfold moduleSwap; simp [*] <;> (repeat' split) <;> simp [*]
@[simp] theorem resetString_frame (s : State) (n : Nat) (capacity : Bool) :
    (resetString s n capacity).pending = s.pending ∧ (resetString s n capacity).now = s.now ∧ (resetString s n
      capacity).free = s.free ∧ (resetString s n capacity).out = s.out ∧ (resetString s n capacity).sys = s.sys ∧ (resetString
      s n capacity).ka = s.ka ∧ (resetString s n capacity).flash = s.flash ∧ (resetString s n capacity).journal = s.journal ∧
      (resetString s n capacity).host = s.host ∧ (resetString s n capacity).pcie = s.pcie ∧ (resetString s n capacity).log =
      s.log ∧ (resetString s n capacity).foreman = s.foreman ∧ (resetString s n capacity).pairs = s.pairs ∧ (resetString s n
      capacity).eopen = s.eopen ∧ (resetString s n capacity).sched = s.sched ∧ (resetString s n capacity).tiles = s.tiles ∧
      (resetString s n capacity).dram = s.dram ∧ (resetString s n capacity).fabric = s.fabric ∧ (resetString s n
      capacity).rumbes = s.rumbes := by
  unfold resetString; simp [*]

/-! ### LedgerCount -/

@[simp] theorem lcCount_frame (s : State) (n : Nat) (dq i : Int) (dn : Nat) (hf : Nat) :
    (lcCount s n dq i dn hf).pending = s.pending ∧ (lcCount s n dq i dn hf).now = s.now ∧ (lcCount s n dq i dn hf).free =
      s.free ∧ (lcCount s n dq i dn hf).out = s.out ∧ (lcCount s n dq i dn hf).sys = s.sys ∧ (lcCount s n dq i dn hf).ka =
      s.ka ∧ (lcCount s n dq i dn hf).flash = s.flash ∧ (lcCount s n dq i dn hf).journal = s.journal ∧ (lcCount s n dq i dn
      hf).host = s.host ∧ (lcCount s n dq i dn hf).pcie = s.pcie ∧ (lcCount s n dq i dn hf).log = s.log ∧ (lcCount s n dq i dn
      hf).foreman = s.foreman ∧ (lcCount s n dq i dn hf).pairs = s.pairs ∧ (lcCount s n dq i dn hf).eopen = s.eopen ∧ (lcCount
      s n dq i dn hf).sched = s.sched ∧ (lcCount s n dq i dn hf).tiles = s.tiles ∧ (lcCount s n dq i dn hf).dram = s.dram ∧
      (lcCount s n dq i dn hf).assayer = s.assayer ∧ (lcCount s n dq i dn hf).fabric = s.fabric ∧ (lcCount s n dq i dn
      hf).rumbes = s.rumbes := by
  unfold lcCount; simp [*]
@[simp] theorem countHead_frame (s : State) (n : Nat) (b : List Byte) (dq : Int) (dn gap : Nat) :
    (countHead s n b dq dn gap).pending = s.pending ∧ (countHead s n b dq dn gap).now = s.now ∧ (countHead s n b dq dn
      gap).free = s.free ∧ (countHead s n b dq dn gap).out = s.out ∧ (countHead s n b dq dn gap).sys = s.sys ∧ (countHead s n
      b dq dn gap).ka = s.ka ∧ (countHead s n b dq dn gap).flash = s.flash ∧ (countHead s n b dq dn gap).journal = s.journal ∧
      (countHead s n b dq dn gap).host = s.host ∧ (countHead s n b dq dn gap).pcie = s.pcie ∧ (countHead s n b dq dn gap).log
      = s.log ∧ (countHead s n b dq dn gap).foreman = s.foreman ∧ (countHead s n b dq dn gap).pairs = s.pairs ∧ (countHead s n
      b dq dn gap).eopen = s.eopen ∧ (countHead s n b dq dn gap).tiles = s.tiles ∧ (countHead s n b dq dn gap).dram = s.dram ∧
      (countHead s n b dq dn gap).assayer = s.assayer ∧ (countHead s n b dq dn gap).fabric = s.fabric ∧ (countHead s n b dq dn
      gap).rumbes = s.rumbes := by
  unfold countHead; simp [*]
@[simp] theorem headSeen_frame (s : State) (n : Nat) (b : List Byte) :
    (headSeen s n b).pending = s.pending ∧ (headSeen s n b).now = s.now ∧ (headSeen s n b).free = s.free ∧ (headSeen s n
      b).out = s.out ∧ (headSeen s n b).sys = s.sys ∧ (headSeen s n b).ka = s.ka ∧ (headSeen s n b).flash = s.flash ∧
      (headSeen s n b).journal = s.journal ∧ (headSeen s n b).host = s.host ∧ (headSeen s n b).ports = s.ports ∧ (headSeen s n
      b).pcie = s.pcie ∧ (headSeen s n b).log = s.log ∧ (headSeen s n b).foreman = s.foreman ∧ (headSeen s n b).pairs =
      s.pairs ∧ (headSeen s n b).eopen = s.eopen ∧ (headSeen s n b).sched = s.sched ∧ (headSeen s n b).tiles = s.tiles ∧
      (headSeen s n b).dram = s.dram ∧ (headSeen s n b).assayer = s.assayer ∧ (headSeen s n b).fabric = s.fabric ∧ (headSeen s
      n b).rumbes = s.rumbes := by
  unfold headSeen; simp [*]
@[simp] theorem headGateIn_frame (s : State) (n : Nat) (b : List Byte) :
    (headGateIn s n b).pending = s.pending ∧ (headGateIn s n b).now = s.now ∧ (headGateIn s n b).free = s.free ∧ (headGateIn
      s n b).out = s.out ∧ (headGateIn s n b).sys = s.sys ∧ (headGateIn s n b).ka = s.ka ∧ (headGateIn s n b).flash = s.flash
      ∧ (headGateIn s n b).journal = s.journal ∧ (headGateIn s n b).host = s.host ∧ (headGateIn s n b).pcie = s.pcie ∧
      (headGateIn s n b).log = s.log ∧ (headGateIn s n b).foreman = s.foreman ∧ (headGateIn s n b).pairs = s.pairs ∧
      (headGateIn s n b).eopen = s.eopen ∧ (headGateIn s n b).sched = s.sched ∧ (headGateIn s n b).tiles = s.tiles ∧
      (headGateIn s n b).dram = s.dram ∧ (headGateIn s n b).assayer = s.assayer ∧ (headGateIn s n b).fabric = s.fabric ∧
      (headGateIn s n b).rumbes = s.rumbes := by
  unfold headGateIn; simp [*]
@[simp] theorem headFlagsIn_frame (s : State) (n : Nat) (b : List Byte) :
    (headFlagsIn s n b).pending = s.pending ∧ (headFlagsIn s n b).now = s.now ∧ (headFlagsIn s n b).free = s.free ∧
      (headFlagsIn s n b).out = s.out ∧ (headFlagsIn s n b).sys = s.sys ∧ (headFlagsIn s n b).ka = s.ka ∧ (headFlagsIn s
      n b).flash = s.flash ∧ (headFlagsIn s n b).journal = s.journal ∧ (headFlagsIn s n b).host = s.host ∧ (headFlagsIn
      s n b).pcie = s.pcie ∧ (headFlagsIn s n b).log = s.log ∧ (headFlagsIn s n b).foreman = s.foreman ∧ (headFlagsIn s
      n b).pairs = s.pairs ∧ (headFlagsIn s n b).eopen = s.eopen ∧ (headFlagsIn s n b).sched = s.sched ∧ (headFlagsIn s
      n b).tiles = s.tiles ∧ (headFlagsIn s n b).dram = s.dram ∧ (headFlagsIn s n b).assayer = s.assayer ∧ (headFlagsIn
      s n b).fabric = s.fabric ∧ (headFlagsIn s n b).rumbes = s.rumbes := by
  unfold headFlagsIn; simp -implicitDefEqProofs [*]
@[simp] theorem headCountIn_frame (s : State) (n : Nat) (b : List Byte) (l : LString) :
    (headCountIn s n b l).pending = s.pending ∧ (headCountIn s n b l).now = s.now ∧ (headCountIn s n b l).free = s.free ∧
      (headCountIn s n b l).out = s.out ∧ (headCountIn s n b l).sys = s.sys ∧ (headCountIn s n b l).ka = s.ka ∧ (headCountIn s
      n b l).flash = s.flash ∧ (headCountIn s n b l).journal = s.journal ∧ (headCountIn s n b l).host = s.host ∧ (headCountIn
      s n b l).pcie = s.pcie ∧ (headCountIn s n b l).log = s.log ∧ (headCountIn s n b l).foreman = s.foreman ∧ (headCountIn s
      n b l).pairs = s.pairs ∧ (headCountIn s n b l).eopen = s.eopen ∧ (headCountIn s n b l).tiles = s.tiles ∧ (headCountIn s
      n b l).dram = s.dram ∧ (headCountIn s n b l).assayer = s.assayer ∧ (headCountIn s n b l).fabric = s.fabric ∧
      (headCountIn s n b l).rumbes = s.rumbes := by
  unfold headCountIn; (repeat' split) <;> simp [*]
@[simp] theorem headRecordIn_frame (s : State) (n : Nat) (b : List Byte) :
    (headRecordIn s n b).pending = s.pending ∧ (headRecordIn s n b).now = s.now ∧ (headRecordIn s n b).free = s.free ∧
      (headRecordIn s n b).out = s.out ∧ (headRecordIn s n b).sys = s.sys ∧ (headRecordIn s n b).ka = s.ka ∧ (headRecordIn s n
      b).flash = s.flash ∧ (headRecordIn s n b).journal = s.journal ∧ (headRecordIn s n b).host = s.host ∧ (headRecordIn s n
      b).pcie = s.pcie ∧ (headRecordIn s n b).log = s.log ∧ (headRecordIn s n b).foreman = s.foreman ∧ (headRecordIn s n
      b).pairs = s.pairs ∧ (headRecordIn s n b).eopen = s.eopen ∧ (headRecordIn s n b).tiles = s.tiles ∧ (headRecordIn s n
      b).dram = s.dram ∧ (headRecordIn s n b).assayer = s.assayer ∧ (headRecordIn s n b).fabric = s.fabric ∧ (headRecordIn s n
      b).rumbes = s.rumbes := by
  unfold headRecordIn; simp [*]
@[simp] theorem addBalance_frame (s : State) (i k : Nat) (dqb : Int) :
    (addBalance s i k dqb).pending = s.pending ∧ (addBalance s i k dqb).now = s.now ∧ (addBalance s i k dqb).free = s.free ∧
      (addBalance s i k dqb).out = s.out ∧ (addBalance s i k dqb).sys = s.sys ∧ (addBalance s i k dqb).ka = s.ka ∧ (addBalance
      s i k dqb).flash = s.flash ∧ (addBalance s i k dqb).journal = s.journal ∧ (addBalance s i k dqb).host = s.host ∧
      (addBalance s i k dqb).ports = s.ports ∧ (addBalance s i k dqb).pcie = s.pcie ∧ (addBalance s i k dqb).log = s.log ∧
      (addBalance s i k dqb).foreman = s.foreman ∧ (addBalance s i k dqb).pairs = s.pairs ∧ (addBalance s i k dqb).eopen =
      s.eopen ∧ (addBalance s i k dqb).tiles = s.tiles ∧ (addBalance s i k dqb).dram = s.dram ∧ (addBalance s i k dqb).assayer
      = s.assayer ∧ (addBalance s i k dqb).fabric = s.fabric ∧ (addBalance s i k dqb).rumbes = s.rumbes := by
  unfold addBalance; simp [*]
@[simp] theorem addModule_frame (s : State) (i : Nat) (dqmb : Int) :
    (addModule s i dqmb).pending = s.pending ∧ (addModule s i dqmb).now = s.now ∧ (addModule s i dqmb).free = s.free ∧
      (addModule s i dqmb).out = s.out ∧ (addModule s i dqmb).sys = s.sys ∧ (addModule s i dqmb).ka = s.ka ∧ (addModule s i
      dqmb).flash = s.flash ∧ (addModule s i dqmb).journal = s.journal ∧ (addModule s i dqmb).host = s.host ∧ (addModule s i
      dqmb).ports = s.ports ∧ (addModule s i dqmb).pcie = s.pcie ∧ (addModule s i dqmb).log = s.log ∧ (addModule s i
      dqmb).foreman = s.foreman ∧ (addModule s i dqmb).pairs = s.pairs ∧ (addModule s i dqmb).eopen = s.eopen ∧ (addModule s i
      dqmb).tiles = s.tiles ∧ (addModule s i dqmb).dram = s.dram ∧ (addModule s i dqmb).assayer = s.assayer ∧ (addModule s i
      dqmb).fabric = s.fabric ∧ (addModule s i dqmb).rumbes = s.rumbes := by
  unfold addModule; simp [*]
@[simp] theorem qbTo_frame (s : State) (i k : Nat) (v : Int) :
    (qbTo s i k v).pending = s.pending ∧ (qbTo s i k v).now = s.now ∧ (qbTo s i k v).free = s.free ∧ (qbTo s i k v).out =
      s.out ∧ (qbTo s i k v).sys = s.sys ∧ (qbTo s i k v).ka = s.ka ∧ (qbTo s i k v).flash = s.flash ∧ (qbTo s i k v).journal
      = s.journal ∧ (qbTo s i k v).host = s.host ∧ (qbTo s i k v).ports = s.ports ∧ (qbTo s i k v).pcie = s.pcie ∧ (qbTo s i k
      v).log = s.log ∧ (qbTo s i k v).foreman = s.foreman ∧ (qbTo s i k v).pairs = s.pairs ∧ (qbTo s i k v).eopen = s.eopen ∧
      (qbTo s i k v).tiles = s.tiles ∧ (qbTo s i k v).dram = s.dram ∧ (qbTo s i k v).assayer = s.assayer ∧ (qbTo s i k
      v).fabric = s.fabric ∧ (qbTo s i k v).rumbes = s.rumbes := by
  unfold qbTo; simp [*]
@[simp] theorem qmbTo_frame (s : State) (i : Nat) (v : Int) :
    (qmbTo s i v).pending = s.pending ∧ (qmbTo s i v).now = s.now ∧ (qmbTo s i v).free = s.free ∧ (qmbTo s i v).out = s.out
      ∧ (qmbTo s i v).sys = s.sys ∧ (qmbTo s i v).ka = s.ka ∧ (qmbTo s i v).flash = s.flash ∧ (qmbTo s i v).journal =
      s.journal ∧ (qmbTo s i v).host = s.host ∧ (qmbTo s i v).ports = s.ports ∧ (qmbTo s i v).pcie = s.pcie ∧ (qmbTo s i
      v).log = s.log ∧ (qmbTo s i v).foreman = s.foreman ∧ (qmbTo s i v).pairs = s.pairs ∧ (qmbTo s i v).eopen = s.eopen ∧
      (qmbTo s i v).tiles = s.tiles ∧ (qmbTo s i v).dram = s.dram ∧ (qmbTo s i v).assayer = s.assayer ∧ (qmbTo s i v).fabric =
      s.fabric ∧ (qmbTo s i v).rumbes = s.rumbes := by
  unfold qmbTo; simp [*]
@[simp] theorem askBalance_frame (s : State) (i : Nat) :
    (askBalance s i).pending = s.pending ∧ (askBalance s i).now = s.now ∧ (askBalance s i).free = s.free ∧ (askBalance s
      i).out = s.out ∧ (askBalance s i).sys = s.sys ∧ (askBalance s i).ka = s.ka ∧ (askBalance s i).flash = s.flash ∧
      (askBalance s i).journal = s.journal ∧ (askBalance s i).host = s.host ∧ (askBalance s i).ports = s.ports ∧
      (askBalance s i).pcie = s.pcie ∧ (askBalance s i).log = s.log ∧ (askBalance s i).foreman = s.foreman ∧ (askBalance
      s i).eopen = s.eopen ∧ (askBalance s i).ledger = s.ledger ∧ (askBalance s i).sched = s.sched ∧ (askBalance s
      i).tiles = s.tiles ∧ (askBalance s i).dram = s.dram ∧ (askBalance s i).assayer = s.assayer ∧ (askBalance s
      i).fabric = s.fabric ∧ (askBalance s i).rumbes = s.rumbes := by
  unfold askBalance; simp -implicitDefEqProofs [*]
@[simp] theorem balanceRestart_frame (s : State) (i : Nat) :
    (balanceRestart s i).pending = s.pending ∧ (balanceRestart s i).now = s.now ∧ (balanceRestart s i).free = s.free ∧
      (balanceRestart s i).out = s.out ∧ (balanceRestart s i).sys = s.sys ∧ (balanceRestart s i).ka = s.ka ∧
      (balanceRestart s i).flash = s.flash ∧ (balanceRestart s i).journal = s.journal ∧ (balanceRestart s i).host =
      s.host ∧ (balanceRestart s i).ports = s.ports ∧ (balanceRestart s i).pcie = s.pcie ∧ (balanceRestart s i).log =
      s.log ∧ (balanceRestart s i).foreman = s.foreman ∧ (balanceRestart s i).eopen = s.eopen ∧ (balanceRestart s
      i).sched = s.sched ∧ (balanceRestart s i).tiles = s.tiles ∧ (balanceRestart s i).dram = s.dram ∧ (balanceRestart s
      i).assayer = s.assayer ∧ (balanceRestart s i).fabric = s.fabric ∧ (balanceRestart s i).rumbes = s.rumbes := by
  unfold balanceRestart; simp -implicitDefEqProofs [*]
@[simp] theorem tlogRead_frame (s : State) (i : Nat) (ws : List Nat) :
    (tlogRead s i ws).pending = s.pending ∧ (tlogRead s i ws).now = s.now ∧ (tlogRead s i ws).free = s.free ∧ (tlogRead
      s i ws).out = s.out ∧ (tlogRead s i ws).sys = s.sys ∧ (tlogRead s i ws).ka = s.ka ∧ (tlogRead s i ws).flash =
      s.flash ∧ (tlogRead s i ws).journal = s.journal ∧ (tlogRead s i ws).host = s.host ∧ (tlogRead s i ws).ports =
      s.ports ∧ (tlogRead s i ws).pcie = s.pcie ∧ (tlogRead s i ws).log = s.log ∧ (tlogRead s i ws).foreman = s.foreman
      ∧ (tlogRead s i ws).pairs = s.pairs ∧ (tlogRead s i ws).eopen = s.eopen ∧ (tlogRead s i ws).sched = s.sched ∧
      (tlogRead s i ws).tiles = s.tiles ∧ (tlogRead s i ws).dram = s.dram ∧ (tlogRead s i ws).assayer = s.assayer ∧
      (tlogRead s i ws).fabric = s.fabric ∧ (tlogRead s i ws).rumbes = s.rumbes := by
  unfold tlogRead; simp -implicitDefEqProofs [*]
@[simp] theorem balanceIn_frame (s : State) (i : Nat) (b : List Byte) :
    (balanceIn s i b).pending = s.pending ∧ (balanceIn s i b).now = s.now ∧ (balanceIn s i b).free = s.free ∧ (balanceIn
      s i b).out = s.out ∧ (balanceIn s i b).sys = s.sys ∧ (balanceIn s i b).ka = s.ka ∧ (balanceIn s i b).flash =
      s.flash ∧ (balanceIn s i b).journal = s.journal ∧ (balanceIn s i b).host = s.host ∧ (balanceIn s i b).ports =
      s.ports ∧ (balanceIn s i b).pcie = s.pcie ∧ (balanceIn s i b).log = s.log ∧ (balanceIn s i b).foreman = s.foreman
      ∧ (balanceIn s i b).eopen = s.eopen ∧ (balanceIn s i b).tiles = s.tiles ∧ (balanceIn s i b).dram = s.dram ∧
      (balanceIn s i b).assayer = s.assayer ∧ (balanceIn s i b).fabric = s.fabric ∧ (balanceIn s i b).rumbes = s.rumbes
      := by
  unfold balanceIn; (repeat' split) <;> simp -implicitDefEqProofs [*]
@[simp] theorem balanceRead_frame (s : State) (i : Nat) (ws : List Nat) :
    (balanceRead s i ws).pending = s.pending ∧ (balanceRead s i ws).now = s.now ∧ (balanceRead s i ws).free = s.free ∧
      (balanceRead s i ws).out = s.out ∧ (balanceRead s i ws).sys = s.sys ∧ (balanceRead s i ws).ka = s.ka ∧ (balanceRead s i
      ws).flash = s.flash ∧ (balanceRead s i ws).journal = s.journal ∧ (balanceRead s i ws).host = s.host ∧ (balanceRead s i
      ws).ports = s.ports ∧ (balanceRead s i ws).pcie = s.pcie ∧ (balanceRead s i ws).log = s.log ∧ (balanceRead s i
      ws).foreman = s.foreman ∧ (balanceRead s i ws).pairs = s.pairs ∧ (balanceRead s i ws).eopen = s.eopen ∧ (balanceRead s i
      ws).tiles = s.tiles ∧ (balanceRead s i ws).dram = s.dram ∧ (balanceRead s i ws).assayer = s.assayer ∧ (balanceRead s i
      ws).fabric = s.fabric ∧ (balanceRead s i ws).rumbes = s.rumbes := by
  unfold balanceRead; simp [*]
@[simp] theorem restoreRead_frame (s : State) (i : Nat) (ws : List Nat) :
    (restoreRead s i ws).pending = s.pending ∧ (restoreRead s i ws).now = s.now ∧ (restoreRead s i ws).free = s.free ∧
      (restoreRead s i ws).out = s.out ∧ (restoreRead s i ws).sys = s.sys ∧ (restoreRead s i ws).ka = s.ka ∧ (restoreRead s i
      ws).flash = s.flash ∧ (restoreRead s i ws).journal = s.journal ∧ (restoreRead s i ws).host = s.host ∧ (restoreRead s i
      ws).ports = s.ports ∧ (restoreRead s i ws).pcie = s.pcie ∧ (restoreRead s i ws).log = s.log ∧ (restoreRead s i
      ws).foreman = s.foreman ∧ (restoreRead s i ws).pairs = s.pairs ∧ (restoreRead s i ws).eopen = s.eopen ∧ (restoreRead s i
      ws).tiles = s.tiles ∧ (restoreRead s i ws).dram = s.dram ∧ (restoreRead s i ws).assayer = s.assayer ∧ (restoreRead s i
      ws).fabric = s.fabric ∧ (restoreRead s i ws).rumbes = s.rumbes := by
  unfold restoreRead; (repeat' split) <;> simp -implicitDefEqProofs [*]
@[simp] theorem readSerial_frame (s : State) (p h : Nat) :
    (readSerial s p h).pending = s.pending ∧ (readSerial s p h).now = s.now ∧ (readSerial s p h).free = s.free ∧ (readSerial
      s p h).out = s.out ∧ (readSerial s p h).sys = s.sys ∧ (readSerial s p h).ka = s.ka ∧ (readSerial s p h).flash = s.flash
      ∧ (readSerial s p h).journal = s.journal ∧ (readSerial s p h).host = s.host ∧ (readSerial s p h).ports = s.ports ∧
      (readSerial s p h).pcie = s.pcie ∧ (readSerial s p h).log = s.log ∧ (readSerial s p h).foreman = s.foreman ∧ (readSerial
      s p h).eopen = s.eopen ∧ (readSerial s p h).ledger = s.ledger ∧ (readSerial s p h).sched = s.sched ∧ (readSerial s p
      h).tiles = s.tiles ∧ (readSerial s p h).dram = s.dram ∧ (readSerial s p h).assayer = s.assayer ∧ (readSerial s p
      h).fabric = s.fabric ∧ (readSerial s p h).rumbes = s.rumbes := by
  unfold readSerial; simp [*]
@[simp] theorem watchSwap_frame (s : State) (p h : Nat) (b : List Byte) :
    (watchSwap s p h b).pending = s.pending ∧ (watchSwap s p h b).now = s.now ∧ (watchSwap s p h b).free = s.free ∧
      (watchSwap s p h b).out = s.out ∧ (watchSwap s p h b).sys = s.sys ∧ (watchSwap s p h b).flash = s.flash ∧ (watchSwap s p
      h b).host = s.host ∧ (watchSwap s p h b).pcie = s.pcie ∧ (watchSwap s p h b).log = s.log ∧ (watchSwap s p h b).foreman =
      s.foreman ∧ (watchSwap s p h b).eopen = s.eopen ∧ (watchSwap s p h b).tiles = s.tiles ∧ (watchSwap s p h b).dram =
      s.dram ∧ (watchSwap s p h b).fabric = s.fabric ∧ (watchSwap s p h b).rumbes = s.rumbes := by
  unfold watchSwap; simp [*]
@[simp] theorem watchWiring_frame (s : State) (p h : Nat) (b : List Byte) :
    (watchWiring s p h b).pending = s.pending ∧ (watchWiring s p h b).free = s.free ∧ (watchWiring s p h b).out = s.out ∧
      (watchWiring s p h b).sys = s.sys ∧ (watchWiring s p h b).flash = s.flash ∧ (watchWiring s p h b).journal = s.journal ∧
      (watchWiring s p h b).host = s.host ∧ (watchWiring s p h b).pcie = s.pcie ∧ (watchWiring s p h b).foreman = s.foreman ∧
      (watchWiring s p h b).pairs = s.pairs ∧ (watchWiring s p h b).eopen = s.eopen ∧ (watchWiring s p h b).sched = s.sched ∧
      (watchWiring s p h b).tiles = s.tiles ∧ (watchWiring s p h b).dram = s.dram ∧ (watchWiring s p h b).assayer = s.assayer
      ∧ (watchWiring s p h b).fabric = s.fabric ∧ (watchWiring s p h b).rumbes = s.rumbes := by
  unfold watchWiring; simp [*]
@[simp] theorem afterWoke_frame (s : State) (p h : Nat) :
    (afterWoke s p h).pending = s.pending ∧ (afterWoke s p h).now = s.now ∧ (afterWoke s p h).free = s.free ∧ (afterWoke s p
      h).out = s.out ∧ (afterWoke s p h).sys = s.sys ∧ (afterWoke s p h).ka = s.ka ∧ (afterWoke s p h).flash = s.flash ∧
      (afterWoke s p h).journal = s.journal ∧ (afterWoke s p h).host = s.host ∧ (afterWoke s p h).ports = s.ports ∧ (afterWoke
      s p h).pcie = s.pcie ∧ (afterWoke s p h).log = s.log ∧ (afterWoke s p h).foreman = s.foreman ∧ (afterWoke s p h).eopen =
      s.eopen ∧ (afterWoke s p h).ledger = s.ledger ∧ (afterWoke s p h).sched = s.sched ∧ (afterWoke s p h).tiles = s.tiles ∧
      (afterWoke s p h).dram = s.dram ∧ (afterWoke s p h).assayer = s.assayer ∧ (afterWoke s p h).fabric = s.fabric ∧
      (afterWoke s p h).rumbes = s.rumbes := by
  unfold afterWoke; simp [*]
@[simp] theorem takeRecord_frame (s : State) (p h : Nat) (b : List Byte) :
    (takeRecord s p h b).pending = s.pending ∧ (takeRecord s p h b).free = s.free ∧ (takeRecord s p h b).out = s.out ∧
      (takeRecord s p h b).sys = s.sys ∧ (takeRecord s p h b).flash = s.flash ∧ (takeRecord s p h b).host = s.host ∧
      (takeRecord s p h b).pcie = s.pcie ∧ (takeRecord s p h b).foreman = s.foreman ∧ (takeRecord s p h b).eopen = s.eopen ∧
      (takeRecord s p h b).tiles = s.tiles ∧ (takeRecord s p h b).dram = s.dram ∧ (takeRecord s p h b).fabric = s.fabric ∧
      (takeRecord s p h b).rumbes = s.rumbes := by
  unfold takeRecord; simp [*] <;> (repeat' split) <;> simp [*]

/-! ### Feeder -/

@[simp] theorem feedWrite_frame (s : State) (n : Nat) (entry : List Nat) (seq due k : Nat) :
    (feedWrite s n entry seq due k).pending = s.pending ∧ (feedWrite s n entry seq due k).now = s.now ∧ (feedWrite s n
      entry seq due k).free = s.free ∧ (feedWrite s n entry seq due k).out = s.out ∧ (feedWrite s n entry seq due k).sys
      = s.sys ∧ (feedWrite s n entry seq due k).ka = s.ka ∧ (feedWrite s n entry seq due k).flash = s.flash ∧ (feedWrite
      s n entry seq due k).journal = s.journal ∧ (feedWrite s n entry seq due k).host = s.host ∧ (feedWrite s n entry
      seq due k).pcie = s.pcie ∧ (feedWrite s n entry seq due k).log = s.log ∧ (feedWrite s n entry seq due k).foreman =
      s.foreman ∧ (feedWrite s n entry seq due k).pairs = s.pairs ∧ (feedWrite s n entry seq due k).eopen = s.eopen ∧
      (feedWrite s n entry seq due k).ledger = s.ledger ∧ (feedWrite s n entry seq due k).dram = s.dram ∧ (feedWrite s n
      entry seq due k).assayer = s.assayer ∧ (feedWrite s n entry seq due k).fabric = s.fabric ∧ (feedWrite s n entry
      seq due k).rumbes = s.rumbes := by
  unfold feedWrite; simp -implicitDefEqProofs [*]
@[simp] theorem holdValue_frame (s : State) (c : Nat) (v : Held) :
    (holdValue s c v).pending = s.pending ∧ (holdValue s c v).now = s.now ∧ (holdValue s c v).free = s.free ∧ (holdValue s c
      v).out = s.out ∧ (holdValue s c v).sys = s.sys ∧ (holdValue s c v).ka = s.ka ∧ (holdValue s c v).flash = s.flash ∧
      (holdValue s c v).journal = s.journal ∧ (holdValue s c v).host = s.host ∧ (holdValue s c v).ports = s.ports ∧ (holdValue
      s c v).pcie = s.pcie ∧ (holdValue s c v).log = s.log ∧ (holdValue s c v).foreman = s.foreman ∧ (holdValue s c v).pairs =
      s.pairs ∧ (holdValue s c v).eopen = s.eopen ∧ (holdValue s c v).ledger = s.ledger ∧ (holdValue s c v).sched = s.sched ∧
      (holdValue s c v).tiles = s.tiles ∧ (holdValue s c v).dram = s.dram ∧ (holdValue s c v).fabric = s.fabric ∧ (holdValue s
      c v).rumbes = s.rumbes := by
  unfold holdValue; simp [*]
@[simp] theorem newPeriod_frame (s : State) (n per : Nat) :
    (newPeriod s n per).pending = s.pending ∧ (newPeriod s n per).now = s.now ∧ (newPeriod s n per).free = s.free ∧
      (newPeriod s n per).out = s.out ∧ (newPeriod s n per).sys = s.sys ∧ (newPeriod s n per).ka = s.ka ∧ (newPeriod s n
      per).flash = s.flash ∧ (newPeriod s n per).journal = s.journal ∧ (newPeriod s n per).host = s.host ∧ (newPeriod s
      n per).ports = s.ports ∧ (newPeriod s n per).pcie = s.pcie ∧ (newPeriod s n per).log = s.log ∧ (newPeriod s n
      per).foreman = s.foreman ∧ (newPeriod s n per).pairs = s.pairs ∧ (newPeriod s n per).eopen = s.eopen ∧ (newPeriod
      s n per).ledger = s.ledger ∧ (newPeriod s n per).tiles = s.tiles ∧ (newPeriod s n per).dram = s.dram ∧ (newPeriod
      s n per).assayer = s.assayer ∧ (newPeriod s n per).fabric = s.fabric ∧ (newPeriod s n per).rumbes = s.rumbes := by
  unfold newPeriod; simp -implicitDefEqProofs [*]
@[simp] theorem feedKept_frame (s : State) (p n due k : Nat) :
    (feedKept s p n due k).pending = s.pending ∧ (feedKept s p n due k).now = s.now ∧ (feedKept s p n due k).free =
      s.free ∧ (feedKept s p n due k).out = s.out ∧ (feedKept s p n due k).flash = s.flash ∧ (feedKept s p n due
      k).journal = s.journal ∧ (feedKept s p n due k).host = s.host ∧ (feedKept s p n due k).pcie = s.pcie ∧ (feedKept s
      p n due k).foreman = s.foreman ∧ (feedKept s p n due k).pairs = s.pairs ∧ (feedKept s p n due k).eopen = s.eopen ∧
      (feedKept s p n due k).ledger = s.ledger ∧ (feedKept s p n due k).dram = s.dram ∧ (feedKept s p n due k).assayer =
      s.assayer ∧ (feedKept s p n due k).fabric = s.fabric ∧ (feedKept s p n due k).rumbes = s.rumbes := by
  unfold feedKept; simp -implicitDefEqProofs [*]
@[simp] theorem feedStream_frame (s : State) (p n : Nat) :
    (feedStream s p n).pending = s.pending ∧ (feedStream s p n).now = s.now ∧ (feedStream s p n).free = s.free ∧
      (feedStream s p n).out = s.out ∧ (feedStream s p n).flash = s.flash ∧ (feedStream s p n).journal = s.journal ∧
      (feedStream s p n).host = s.host ∧ (feedStream s p n).pcie = s.pcie ∧ (feedStream s p n).foreman = s.foreman ∧
      (feedStream s p n).pairs = s.pairs ∧ (feedStream s p n).eopen = s.eopen ∧ (feedStream s p n).ledger = s.ledger ∧
      (feedStream s p n).dram = s.dram ∧ (feedStream s p n).fabric = s.fabric ∧ (feedStream s p n).rumbes = s.rumbes :=
      by
  unfold feedStream; simp -implicitDefEqProofs [*]
@[simp] theorem settleCell_frame (s : State) (p c : Nat) :
    (settleCell s p c).pending = s.pending ∧ (settleCell s p c).now = s.now ∧ (settleCell s p c).free = s.free ∧ (settleCell
      s p c).out = s.out ∧ (settleCell s p c).sys = s.sys ∧ (settleCell s p c).ka = s.ka ∧ (settleCell s p c).flash = s.flash
      ∧ (settleCell s p c).journal = s.journal ∧ (settleCell s p c).host = s.host ∧ (settleCell s p c).ports = s.ports ∧
      (settleCell s p c).pcie = s.pcie ∧ (settleCell s p c).log = s.log ∧ (settleCell s p c).foreman = s.foreman ∧ (settleCell
      s p c).pairs = s.pairs ∧ (settleCell s p c).eopen = s.eopen ∧ (settleCell s p c).sched = s.sched ∧ (settleCell s p
      c).tiles = s.tiles ∧ (settleCell s p c).dram = s.dram ∧ (settleCell s p c).assayer = s.assayer ∧ (settleCell s p
      c).fabric = s.fabric ∧ (settleCell s p c).rumbes = s.rumbes := by
  unfold settleCell; simp [*]
@[simp] theorem anchorCond_frame (s : State) (n c : Nat) :
    (anchorCond s n c).pending = s.pending ∧ (anchorCond s n c).now = s.now ∧ (anchorCond s n c).free = s.free ∧ (anchorCond
      s n c).out = s.out ∧ (anchorCond s n c).sys = s.sys ∧ (anchorCond s n c).ka = s.ka ∧ (anchorCond s n c).flash = s.flash
      ∧ (anchorCond s n c).journal = s.journal ∧ (anchorCond s n c).host = s.host ∧ (anchorCond s n c).ports = s.ports ∧
      (anchorCond s n c).pcie = s.pcie ∧ (anchorCond s n c).log = s.log ∧ (anchorCond s n c).foreman = s.foreman ∧ (anchorCond
      s n c).pairs = s.pairs ∧ (anchorCond s n c).eopen = s.eopen ∧ (anchorCond s n c).sched = s.sched ∧ (anchorCond s n
      c).tiles = s.tiles ∧ (anchorCond s n c).dram = s.dram ∧ (anchorCond s n c).assayer = s.assayer ∧ (anchorCond s n
      c).fabric = s.fabric ∧ (anchorCond s n c).rumbes = s.rumbes := by
  unfold anchorCond; simp [*] <;> (repeat' split) <;> simp [*]
@[simp] theorem lcTemps_frame (s : State) (n : Nat) :
    (lcTemps s n).pending = s.pending ∧ (lcTemps s n).now = s.now ∧ (lcTemps s n).free = s.free ∧ (lcTemps s n).out = s.out
      ∧ (lcTemps s n).sys = s.sys ∧ (lcTemps s n).ka = s.ka ∧ (lcTemps s n).flash = s.flash ∧ (lcTemps s n).journal =
      s.journal ∧ (lcTemps s n).host = s.host ∧ (lcTemps s n).pcie = s.pcie ∧ (lcTemps s n).log = s.log ∧ (lcTemps s
      n).foreman = s.foreman ∧ (lcTemps s n).pairs = s.pairs ∧ (lcTemps s n).eopen = s.eopen ∧ (lcTemps s n).sched = s.sched ∧
      (lcTemps s n).tiles = s.tiles ∧ (lcTemps s n).dram = s.dram ∧ (lcTemps s n).assayer = s.assayer ∧ (lcTemps s n).fabric =
      s.fabric ∧ (lcTemps s n).rumbes = s.rumbes := by
  unfold lcTemps; simp [*] <;> (repeat' split) <;> simp [*]
@[simp] theorem observeSite_frame (s : State) :
    (observeSite s).pending = s.pending ∧ (observeSite s).now = s.now ∧ (observeSite s).free = s.free ∧ (observeSite
      s).out = s.out ∧ (observeSite s).sys = s.sys ∧ (observeSite s).ka = s.ka ∧ (observeSite s).flash = s.flash ∧
      (observeSite s).journal = s.journal ∧ (observeSite s).host = s.host ∧ (observeSite s).ports = s.ports ∧
      (observeSite s).pcie = s.pcie ∧ (observeSite s).log = s.log ∧ (observeSite s).foreman = s.foreman ∧ (observeSite
      s).pairs = s.pairs ∧ (observeSite s).eopen = s.eopen ∧ (observeSite s).ledger = s.ledger ∧ (observeSite s).sched =
      s.sched ∧ (observeSite s).tiles = s.tiles ∧ (observeSite s).dram = s.dram ∧ (observeSite s).fabric = s.fabric ∧
      (observeSite s).rumbes = s.rumbes := by
  unfold observeSite; split <;> simp -implicitDefEqProofs [*]
@[simp] theorem observe_frame (s : State) (n : Nat) :
    (observe s n).pending = s.pending ∧ (observe s n).now = s.now ∧ (observe s n).free = s.free ∧ (observe s n).out = s.out
      ∧ (observe s n).sys = s.sys ∧ (observe s n).ka = s.ka ∧ (observe s n).flash = s.flash ∧ (observe s n).journal =
      s.journal ∧ (observe s n).host = s.host ∧ (observe s n).ports = s.ports ∧ (observe s n).pcie = s.pcie ∧ (observe s
      n).log = s.log ∧ (observe s n).foreman = s.foreman ∧ (observe s n).pairs = s.pairs ∧ (observe s n).eopen = s.eopen ∧
      (observe s n).ledger = s.ledger ∧ (observe s n).sched = s.sched ∧ (observe s n).tiles = s.tiles ∧ (observe s n).dram =
      s.dram ∧ (observe s n).fabric = s.fabric ∧ (observe s n).rumbes = s.rumbes := by
  unfold observe; simp [*] <;> (repeat' split) <;> simp [*]
@[simp] theorem keepLast_frame (s : State) (p c : Nat) :
    (keepLast s p c).pending = s.pending ∧ (keepLast s p c).now = s.now ∧ (keepLast s p c).free = s.free ∧ (keepLast s p
      c).out = s.out ∧ (keepLast s p c).sys = s.sys ∧ (keepLast s p c).ka = s.ka ∧ (keepLast s p c).flash = s.flash ∧
      (keepLast s p c).journal = s.journal ∧ (keepLast s p c).host = s.host ∧ (keepLast s p c).ports = s.ports ∧ (keepLast s p
      c).pcie = s.pcie ∧ (keepLast s p c).log = s.log ∧ (keepLast s p c).foreman = s.foreman ∧ (keepLast s p c).pairs =
      s.pairs ∧ (keepLast s p c).eopen = s.eopen ∧ (keepLast s p c).ledger = s.ledger ∧ (keepLast s p c).sched = s.sched ∧
      (keepLast s p c).tiles = s.tiles ∧ (keepLast s p c).dram = s.dram ∧ (keepLast s p c).fabric = s.fabric ∧ (keepLast s p
      c).rumbes = s.rumbes := by
  unfold keepLast; simp [*]
@[simp] theorem closeString_frame (s : State) (p n : Nat) :
    (closeString s p n).pending = s.pending ∧ (closeString s p n).now = s.now ∧ (closeString s p n).free = s.free ∧
      (closeString s p n).out = s.out ∧ (closeString s p n).sys = s.sys ∧ (closeString s p n).ka = s.ka ∧ (closeString s p
      n).flash = s.flash ∧ (closeString s p n).journal = s.journal ∧ (closeString s p n).host = s.host ∧ (closeString s p
      n).pcie = s.pcie ∧ (closeString s p n).log = s.log ∧ (closeString s p n).foreman = s.foreman ∧ (closeString s p n).pairs
      = s.pairs ∧ (closeString s p n).eopen = s.eopen ∧ (closeString s p n).sched = s.sched ∧ (closeString s p n).tiles =
      s.tiles ∧ (closeString s p n).dram = s.dram ∧ (closeString s p n).fabric = s.fabric ∧ (closeString s p n).rumbes =
      s.rumbes := by
  unfold closeString; simp [*]
@[simp] theorem closeSweep_frame (s : State) (p : Nat) :
    (closeSweep s p).pending = s.pending ∧ (closeSweep s p).now = s.now ∧ (closeSweep s p).free = s.free ∧ (closeSweep s
      p).out = s.out ∧ (closeSweep s p).flash = s.flash ∧ (closeSweep s p).journal = s.journal ∧ (closeSweep s p).host =
      s.host ∧ (closeSweep s p).pcie = s.pcie ∧ (closeSweep s p).foreman = s.foreman ∧ (closeSweep s p).eopen = s.eopen
      ∧ (closeSweep s p).dram = s.dram ∧ (closeSweep s p).fabric = s.fabric ∧ (closeSweep s p).rumbes = s.rumbes := by
  unfold closeSweep; simp -implicitDefEqProofs [*]

/-! ### ChainAck -/

@[simp] theorem endCurrent_pending (s : State) (r : Req) (f : State → State) (h_f : ∀ x0, (f x0).pending = x0.pending) :
    (endCurrent s r f).pending = s.pending := by
  unfold endCurrent; simp -implicitDefEqProofs [*]
@[simp] theorem endCurrent_now (s : State) (r : Req) (f : State → State) (h_f : ∀ x0, (f x0).now = x0.now) :
    (endCurrent s r f).now = s.now := by
  unfold endCurrent; simp -implicitDefEqProofs [*]
@[simp] theorem endCurrent_free (s : State) (r : Req) (f : State → State) (h_f : ∀ x0, (f x0).free = x0.free) :
    (endCurrent s r f).free = s.free := by
  unfold endCurrent; simp -implicitDefEqProofs [*]
@[simp] theorem endCurrent_out (s : State) (r : Req) (f : State → State) (h_f : ∀ x0, (f x0).out = x0.out) :
    (endCurrent s r f).out = s.out := by
  unfold endCurrent; simp -implicitDefEqProofs [*]
@[simp] theorem endCurrent_sys (s : State) (r : Req) (f : State → State) (h_f : ∀ x0, (f x0).sys = x0.sys) :
    (endCurrent s r f).sys = s.sys := by
  unfold endCurrent; simp -implicitDefEqProofs [*]
@[simp] theorem endCurrent_ka (s : State) (r : Req) (f : State → State) (h_f : ∀ x0, (f x0).ka = x0.ka) :
    (endCurrent s r f).ka = s.ka := by
  unfold endCurrent; simp -implicitDefEqProofs [*]
@[simp] theorem endCurrent_flash (s : State) (r : Req) (f : State → State) (h_f : ∀ x0, (f x0).flash = x0.flash) :
    (endCurrent s r f).flash = s.flash := by
  unfold endCurrent; simp -implicitDefEqProofs [*]
@[simp] theorem endCurrent_journal (s : State) (r : Req) (f : State → State) (h_f : ∀ x0, (f x0).journal = x0.journal) :
    (endCurrent s r f).journal = s.journal := by
  unfold endCurrent; simp -implicitDefEqProofs [*]
@[simp] theorem endCurrent_host (s : State) (r : Req) (f : State → State) (h_f : ∀ x0, (f x0).host = x0.host) :
    (endCurrent s r f).host = s.host := by
  unfold endCurrent; simp -implicitDefEqProofs [*]
@[simp] theorem endCurrent_pcie (s : State) (r : Req) (f : State → State) (h_f : ∀ x0, (f x0).pcie = x0.pcie) :
    (endCurrent s r f).pcie = s.pcie := by
  unfold endCurrent; simp -implicitDefEqProofs [*]
@[simp] theorem endCurrent_log (s : State) (r : Req) (f : State → State) (h_f : ∀ x0, (f x0).log = x0.log) :
    (endCurrent s r f).log = s.log := by
  unfold endCurrent; simp -implicitDefEqProofs [*]
@[simp] theorem endCurrent_pairs (s : State) (r : Req) (f : State → State) (h_f : ∀ x0, (f x0).pairs = x0.pairs) :
    (endCurrent s r f).pairs = s.pairs := by
  unfold endCurrent; simp -implicitDefEqProofs [*]
@[simp] theorem endCurrent_eopen (s : State) (r : Req) (f : State → State) (h_f : ∀ x0, (f x0).eopen = x0.eopen) :
    (endCurrent s r f).eopen = s.eopen := by
  unfold endCurrent; simp -implicitDefEqProofs [*]
@[simp] theorem endCurrent_ledger (s : State) (r : Req) (f : State → State) (h_f : ∀ x0, (f x0).ledger = x0.ledger) :
    (endCurrent s r f).ledger = s.ledger := by
  unfold endCurrent; simp -implicitDefEqProofs [*]
@[simp] theorem endCurrent_sched (s : State) (r : Req) (f : State → State) (h_f : ∀ x0, (f x0).sched = x0.sched) :
    (endCurrent s r f).sched = s.sched := by
  unfold endCurrent; simp -implicitDefEqProofs [*]
@[simp] theorem endCurrent_tiles (s : State) (r : Req) (f : State → State) (h_f : ∀ x0, (f x0).tiles = x0.tiles) :
    (endCurrent s r f).tiles = s.tiles := by
  unfold endCurrent; simp -implicitDefEqProofs [*]
@[simp] theorem endCurrent_dram (s : State) (r : Req) (f : State → State) (h_f : ∀ x0, (f x0).dram = x0.dram) :
    (endCurrent s r f).dram = s.dram := by
  unfold endCurrent; simp -implicitDefEqProofs [*]
@[simp] theorem endCurrent_assayer (s : State) (r : Req) (f : State → State) (h_f : ∀ x0, (f x0).assayer = x0.assayer) :
    (endCurrent s r f).assayer = s.assayer := by
  unfold endCurrent; simp -implicitDefEqProofs [*]
@[simp] theorem endCurrent_fabric (s : State) (r : Req) (f : State → State) (h_f : ∀ x0, (f x0).fabric = x0.fabric) :
    (endCurrent s r f).fabric = s.fabric := by
  unfold endCurrent; simp -implicitDefEqProofs [*]
@[simp] theorem endCurrent_rumbes (s : State) (r : Req) (f : State → State) (h_f : ∀ x0, (f x0).rumbes = x0.rumbes) :
    (endCurrent s r f).rumbes = s.rumbes := by
  unfold endCurrent; simp -implicitDefEqProofs [*]
@[simp] theorem chainFail_frame (s : State) (r : Req) (st reason rs : Nat) (tail : List Byte) :
    (chainFail s r st reason rs tail).pending = s.pending ∧ (chainFail s r st reason rs tail).now = s.now ∧ (chainFail s r
      st reason rs tail).free = s.free ∧ (chainFail s r st reason rs tail).out = s.out ∧ (chainFail s r st reason rs tail).sys
      = s.sys ∧ (chainFail s r st reason rs tail).ka = s.ka ∧ (chainFail s r st reason rs tail).flash = s.flash ∧ (chainFail s
      r st reason rs tail).journal = s.journal ∧ (chainFail s r st reason rs tail).host = s.host ∧ (chainFail s r st reason rs
      tail).pcie = s.pcie ∧ (chainFail s r st reason rs tail).log = s.log ∧ (chainFail s r st reason rs tail).foreman =
      s.foreman ∧ (chainFail s r st reason rs tail).pairs = s.pairs ∧ (chainFail s r st reason rs tail).eopen = s.eopen ∧
      (chainFail s r st reason rs tail).ledger = s.ledger ∧ (chainFail s r st reason rs tail).sched = s.sched ∧ (chainFail s r
      st reason rs tail).tiles = s.tiles ∧ (chainFail s r st reason rs tail).dram = s.dram ∧ (chainFail s r st reason rs
      tail).assayer = s.assayer ∧ (chainFail s r st reason rs tail).fabric = s.fabric ∧ (chainFail s r st reason rs
      tail).rumbes = s.rumbes := by
  unfold chainFail; simp [*]
@[simp] theorem keepWords_frame (s : State) (i reg : Nat) (ws : List Nat) :
    (keepWords s i reg ws).pending = s.pending ∧ (keepWords s i reg ws).now = s.now ∧ (keepWords s i reg ws).free = s.free ∧
      (keepWords s i reg ws).out = s.out ∧ (keepWords s i reg ws).sys = s.sys ∧ (keepWords s i reg ws).flash = s.flash ∧
      (keepWords s i reg ws).host = s.host ∧ (keepWords s i reg ws).ports = s.ports ∧ (keepWords s i reg ws).pcie = s.pcie ∧
      (keepWords s i reg ws).log = s.log ∧ (keepWords s i reg ws).foreman = s.foreman ∧ (keepWords s i reg ws).pairs = s.pairs
      ∧ (keepWords s i reg ws).eopen = s.eopen ∧ (keepWords s i reg ws).sched = s.sched ∧ (keepWords s i reg ws).tiles =
      s.tiles ∧ (keepWords s i reg ws).dram = s.dram ∧ (keepWords s i reg ws).assayer = s.assayer ∧ (keepWords s i reg
      ws).fabric = s.fabric ∧ (keepWords s i reg ws).rumbes = s.rumbes := by
  unfold keepWords; simp [*]
@[simp] theorem beginChain_frame (s : State) (r : Req) (p : Nat) (dests : List (Side × Bool × Nat)) (type : Nat)
  (payload : List Byte) :
    (beginChain s r p dests type payload).pending = s.pending ∧ (beginChain s r p dests type payload).now = s.now ∧
      (beginChain s r p dests type payload).free = s.free ∧ (beginChain s r p dests type payload).out = s.out ∧ (beginChain s
      r p dests type payload).sys = s.sys ∧ (beginChain s r p dests type payload).ka = s.ka ∧ (beginChain s r p dests type
      payload).flash = s.flash ∧ (beginChain s r p dests type payload).journal = s.journal ∧ (beginChain s r p dests type
      payload).host = s.host ∧ (beginChain s r p dests type payload).ports = s.ports ∧ (beginChain s r p dests type
      payload).pcie = s.pcie ∧ (beginChain s r p dests type payload).log = s.log ∧ (beginChain s r p dests type payload).eopen
      = s.eopen ∧ (beginChain s r p dests type payload).ledger = s.ledger ∧ (beginChain s r p dests type payload).sched =
      s.sched ∧ (beginChain s r p dests type payload).tiles = s.tiles ∧ (beginChain s r p dests type payload).dram = s.dram ∧
      (beginChain s r p dests type payload).assayer = s.assayer ∧ (beginChain s r p dests type payload).fabric = s.fabric ∧
      (beginChain s r p dests type payload).rumbes = s.rumbes := by
  unfold beginChain; simp [*]
@[simp] theorem portRestored_frame (s : State) (r : Req) :
    (portRestored s r).pending = s.pending ∧ (portRestored s r).now = s.now ∧ (portRestored s r).free = s.free ∧
      (portRestored s r).out = s.out ∧ (portRestored s r).sys = s.sys ∧ (portRestored s r).ka = s.ka ∧ (portRestored s
      r).flash = s.flash ∧ (portRestored s r).journal = s.journal ∧ (portRestored s r).host = s.host ∧ (portRestored s
      r).ports = s.ports ∧ (portRestored s r).pcie = s.pcie ∧ (portRestored s r).log = s.log ∧ (portRestored s r).foreman =
      s.foreman ∧ (portRestored s r).pairs = s.pairs ∧ (portRestored s r).eopen = s.eopen ∧ (portRestored s r).sched = s.sched
      ∧ (portRestored s r).tiles = s.tiles ∧ (portRestored s r).dram = s.dram ∧ (portRestored s r).assayer = s.assayer ∧
      (portRestored s r).fabric = s.fabric ∧ (portRestored s r).rumbes = s.rumbes := by
  unfold portRestored; split <;> simp [*]
@[simp] theorem chainOk_frame (s : State) (r : Req) (rs : Nat) (data : List Byte) :
    (chainOk s r rs data).pending = s.pending ∧ (chainOk s r rs data).now = s.now ∧ (chainOk s r rs data).free = s.free ∧
      (chainOk s r rs data).out = s.out ∧ (chainOk s r rs data).sys = s.sys ∧ (chainOk s r rs data).flash = s.flash ∧ (chainOk
      s r rs data).host = s.host ∧ (chainOk s r rs data).pcie = s.pcie ∧ (chainOk s r rs data).log = s.log ∧ (chainOk s r rs
      data).foreman = s.foreman ∧ (chainOk s r rs data).pairs = s.pairs ∧ (chainOk s r rs data).eopen = s.eopen ∧ (chainOk s r
      rs data).sched = s.sched ∧ (chainOk s r rs data).tiles = s.tiles ∧ (chainOk s r rs data).dram = s.dram ∧ (chainOk s r rs
      data).assayer = s.assayer ∧ (chainOk s r rs data).fabric = s.fabric ∧ (chainOk s r rs data).rumbes = s.rumbes := by
  unfold chainOk; (repeat' split) <;> simp [*]
@[simp] theorem mailboxAck_frame (s : State) (r : Req) (rs : Nat) (data : List Byte) :
    (mailboxAck s r rs data).pending = s.pending ∧ (mailboxAck s r rs data).now = s.now ∧ (mailboxAck s r rs data).free =
      s.free ∧ (mailboxAck s r rs data).out = s.out ∧ (mailboxAck s r rs data).sys = s.sys ∧ (mailboxAck s r rs data).flash =
      s.flash ∧ (mailboxAck s r rs data).host = s.host ∧ (mailboxAck s r rs data).pcie = s.pcie ∧ (mailboxAck s r rs data).log
      = s.log ∧ (mailboxAck s r rs data).pairs = s.pairs ∧ (mailboxAck s r rs data).eopen = s.eopen ∧ (mailboxAck s r rs
      data).sched = s.sched ∧ (mailboxAck s r rs data).tiles = s.tiles ∧ (mailboxAck s r rs data).dram = s.dram ∧ (mailboxAck
      s r rs data).assayer = s.assayer ∧ (mailboxAck s r rs data).fabric = s.fabric ∧ (mailboxAck s r rs data).rumbes =
      s.rumbes := by
  unfold mailboxAck; simp [*]
@[simp] theorem scriptSend_frame (s : State) (p : Nat) (w : WriteTo) (words : List Nat) :
    (scriptSend s p w words).pending = s.pending ∧ (scriptSend s p w words).now = s.now ∧ (scriptSend s p w words).free =
      s.free ∧ (scriptSend s p w words).out = s.out ∧ (scriptSend s p w words).sys = s.sys ∧ (scriptSend s p w words).ka =
      s.ka ∧ (scriptSend s p w words).flash = s.flash ∧ (scriptSend s p w words).journal = s.journal ∧ (scriptSend s p w
      words).host = s.host ∧ (scriptSend s p w words).ports = s.ports ∧ (scriptSend s p w words).pcie = s.pcie ∧ (scriptSend s
      p w words).log = s.log ∧ (scriptSend s p w words).foreman = s.foreman ∧ (scriptSend s p w words).eopen = s.eopen ∧
      (scriptSend s p w words).ledger = s.ledger ∧ (scriptSend s p w words).sched = s.sched ∧ (scriptSend s p w words).tiles =
      s.tiles ∧ (scriptSend s p w words).dram = s.dram ∧ (scriptSend s p w words).assayer = s.assayer ∧ (scriptSend s p w
      words).fabric = s.fabric ∧ (scriptSend s p w words).rumbes = s.rumbes := by
  unfold scriptSend; simp [*]
@[simp] theorem beginScript_frame (s : State) (r : Req) (p first : Nat) (todo : List WriteTo) :
    (beginScript s r p first todo).pending = s.pending ∧ (beginScript s r p first todo).now = s.now ∧ (beginScript s r p
      first todo).free = s.free ∧ (beginScript s r p first todo).out = s.out ∧ (beginScript s r p first todo).sys = s.sys ∧
      (beginScript s r p first todo).ka = s.ka ∧ (beginScript s r p first todo).flash = s.flash ∧ (beginScript s r p first
      todo).journal = s.journal ∧ (beginScript s r p first todo).host = s.host ∧ (beginScript s r p first todo).ports =
      s.ports ∧ (beginScript s r p first todo).pcie = s.pcie ∧ (beginScript s r p first todo).log = s.log ∧ (beginScript s r p
      first todo).eopen = s.eopen ∧ (beginScript s r p first todo).ledger = s.ledger ∧ (beginScript s r p first todo).sched =
      s.sched ∧ (beginScript s r p first todo).tiles = s.tiles ∧ (beginScript s r p first todo).dram = s.dram ∧ (beginScript s
      r p first todo).assayer = s.assayer ∧ (beginScript s r p first todo).fabric = s.fabric ∧ (beginScript s r p first
      todo).rumbes = s.rumbes := by
  unfold beginScript; split <;> simp [*]
@[simp] theorem undoNext_frame (s : State) (sc : Script) :
    (undoNext s sc).pending = s.pending ∧ (undoNext s sc).now = s.now ∧ (undoNext s sc).free = s.free ∧ (undoNext s sc).out
      = s.out ∧ (undoNext s sc).sys = s.sys ∧ (undoNext s sc).ka = s.ka ∧ (undoNext s sc).flash = s.flash ∧ (undoNext s
      sc).journal = s.journal ∧ (undoNext s sc).host = s.host ∧ (undoNext s sc).pcie = s.pcie ∧ (undoNext s sc).log = s.log ∧
      (undoNext s sc).eopen = s.eopen ∧ (undoNext s sc).ledger = s.ledger ∧ (undoNext s sc).sched = s.sched ∧ (undoNext s
      sc).tiles = s.tiles ∧ (undoNext s sc).dram = s.dram ∧ (undoNext s sc).assayer = s.assayer ∧ (undoNext s sc).fabric =
      s.fabric ∧ (undoNext s sc).rumbes = s.rumbes := by
  unfold undoNext; split <;> simp [*]
@[simp] theorem notDischarging_frame (s : State) (n : Nat) :
    (notDischarging s n).pending = s.pending ∧ (notDischarging s n).now = s.now ∧ (notDischarging s n).free = s.free ∧
      (notDischarging s n).out = s.out ∧ (notDischarging s n).sys = s.sys ∧ (notDischarging s n).ka = s.ka ∧
      (notDischarging s n).flash = s.flash ∧ (notDischarging s n).journal = s.journal ∧ (notDischarging s n).host =
      s.host ∧ (notDischarging s n).ports = s.ports ∧ (notDischarging s n).pcie = s.pcie ∧ (notDischarging s n).log =
      s.log ∧ (notDischarging s n).foreman = s.foreman ∧ (notDischarging s n).pairs = s.pairs ∧ (notDischarging s
      n).eopen = s.eopen ∧ (notDischarging s n).ledger = s.ledger ∧ (notDischarging s n).sched = s.sched ∧
      (notDischarging s n).tiles = s.tiles ∧ (notDischarging s n).dram = s.dram ∧ (notDischarging s n).fabric = s.fabric
      ∧ (notDischarging s n).rumbes = s.rumbes := by
  unfold notDischarging; simp -implicitDefEqProofs [*]
@[simp] theorem dropSiteFirst_frame (s : State) (n : Nat) :
    (dropSiteFirst s n).pending = s.pending ∧ (dropSiteFirst s n).now = s.now ∧ (dropSiteFirst s n).free = s.free ∧
      (dropSiteFirst s n).out = s.out ∧ (dropSiteFirst s n).sys = s.sys ∧ (dropSiteFirst s n).ka = s.ka ∧ (dropSiteFirst
      s n).flash = s.flash ∧ (dropSiteFirst s n).journal = s.journal ∧ (dropSiteFirst s n).host = s.host ∧
      (dropSiteFirst s n).ports = s.ports ∧ (dropSiteFirst s n).pcie = s.pcie ∧ (dropSiteFirst s n).log = s.log ∧
      (dropSiteFirst s n).foreman = s.foreman ∧ (dropSiteFirst s n).pairs = s.pairs ∧ (dropSiteFirst s n).eopen =
      s.eopen ∧ (dropSiteFirst s n).ledger = s.ledger ∧ (dropSiteFirst s n).sched = s.sched ∧ (dropSiteFirst s n).tiles
      = s.tiles ∧ (dropSiteFirst s n).dram = s.dram ∧ (dropSiteFirst s n).fabric = s.fabric ∧ (dropSiteFirst s n).rumbes
      = s.rumbes := by
  unfold dropSiteFirst; simp -implicitDefEqProofs [*]
@[simp] theorem applyString_frame (s : State) (n : Nat) (x : StrSet) :
    (applyString s n x).pending = s.pending ∧ (applyString s n x).now = s.now ∧ (applyString s n x).free = s.free ∧
      (applyString s n x).out = s.out ∧ (applyString s n x).sys = s.sys ∧ (applyString s n x).flash = s.flash ∧ (applyString s
      n x).host = s.host ∧ (applyString s n x).pcie = s.pcie ∧ (applyString s n x).log = s.log ∧ (applyString s n x).foreman =
      s.foreman ∧ (applyString s n x).pairs = s.pairs ∧ (applyString s n x).eopen = s.eopen ∧ (applyString s n x).sched =
      s.sched ∧ (applyString s n x).tiles = s.tiles ∧ (applyString s n x).dram = s.dram ∧ (applyString s n x).fabric =
      s.fabric ∧ (applyString s n x).rumbes = s.rumbes := by
  unfold applyString; split <;> simp -implicitDefEqProofs [*]
@[simp] theorem scriptDone_frame (s : State) (sc : Script) :
    (scriptDone s sc).pending = s.pending ∧ (scriptDone s sc).now = s.now ∧ (scriptDone s sc).free = s.free ∧ (scriptDone s
      sc).out = s.out ∧ (scriptDone s sc).sys = s.sys ∧ (scriptDone s sc).flash = s.flash ∧ (scriptDone s sc).host = s.host ∧
      (scriptDone s sc).pcie = s.pcie ∧ (scriptDone s sc).log = s.log ∧ (scriptDone s sc).pairs = s.pairs ∧ (scriptDone s
      sc).eopen = s.eopen ∧ (scriptDone s sc).sched = s.sched ∧ (scriptDone s sc).tiles = s.tiles ∧ (scriptDone s sc).dram =
      s.dram ∧ (scriptDone s sc).fabric = s.fabric ∧ (scriptDone s sc).rumbes = s.rumbes := by
  unfold scriptDone; simp [*]
@[simp] theorem scriptAck_frame (s : State) (rs : Nat) (data : List Byte) :
    (scriptAck s rs data).pending = s.pending ∧ (scriptAck s rs data).now = s.now ∧ (scriptAck s rs data).free = s.free ∧
      (scriptAck s rs data).out = s.out ∧ (scriptAck s rs data).sys = s.sys ∧ (scriptAck s rs data).flash = s.flash ∧
      (scriptAck s rs data).host = s.host ∧ (scriptAck s rs data).pcie = s.pcie ∧ (scriptAck s rs data).log = s.log ∧
      (scriptAck s rs data).eopen = s.eopen ∧ (scriptAck s rs data).sched = s.sched ∧ (scriptAck s rs data).tiles = s.tiles ∧
      (scriptAck s rs data).dram = s.dram ∧ (scriptAck s rs data).fabric = s.fabric ∧ (scriptAck s rs data).rumbes = s.rumbes
      := by
  unfold scriptAck; (repeat' split) <;> simp [*]
@[simp] theorem idChecked_frame (s : State) (p : Nat) (sd : Side) (h : Nat) (again : Bool) (v : Nat) :
    (idChecked s p sd h again v).pending = s.pending ∧ (idChecked s p sd h again v).now = s.now ∧ (idChecked s p sd h
      again v).free = s.free ∧ (idChecked s p sd h again v).out = s.out ∧ (idChecked s p sd h again v).sys = s.sys ∧
      (idChecked s p sd h again v).flash = s.flash ∧ (idChecked s p sd h again v).journal = s.journal ∧ (idChecked s p
      sd h again v).host = s.host ∧ (idChecked s p sd h again v).pcie = s.pcie ∧ (idChecked s p sd h again v).foreman =
      s.foreman ∧ (idChecked s p sd h again v).eopen = s.eopen ∧ (idChecked s p sd h again v).sched = s.sched ∧
      (idChecked s p sd h again v).tiles = s.tiles ∧ (idChecked s p sd h again v).dram = s.dram ∧ (idChecked s p sd h
      again v).assayer = s.assayer ∧ (idChecked s p sd h again v).fabric = s.fabric ∧ (idChecked s p sd h again
      v).rumbes = s.rumbes := by
  unfold idChecked; simp [*]
@[simp] theorem serialSeen_frame (s : State) (p h v : Nat) :
    (serialSeen s p h v).pending = s.pending ∧ (serialSeen s p h v).now = s.now ∧ (serialSeen s p h v).free = s.free ∧
      (serialSeen s p h v).out = s.out ∧ (serialSeen s p h v).sys = s.sys ∧ (serialSeen s p h v).flash = s.flash ∧
      (serialSeen s p h v).host = s.host ∧ (serialSeen s p h v).pcie = s.pcie ∧ (serialSeen s p h v).log = s.log ∧
      (serialSeen s p h v).foreman = s.foreman ∧ (serialSeen s p h v).eopen = s.eopen ∧ (serialSeen s p h v).tiles =
      s.tiles ∧ (serialSeen s p h v).dram = s.dram ∧ (serialSeen s p h v).fabric = s.fabric ∧ (serialSeen s p h
      v).rumbes = s.rumbes := by
  unfold serialSeen; simp -implicitDefEqProofs [*]
@[simp] theorem serialRead_frame (s : State) (p h v : Nat) :
    (serialRead s p h v).pending = s.pending ∧ (serialRead s p h v).now = s.now ∧ (serialRead s p h v).free = s.free ∧
      (serialRead s p h v).out = s.out ∧ (serialRead s p h v).sys = s.sys ∧ (serialRead s p h v).flash = s.flash ∧ (serialRead
      s p h v).host = s.host ∧ (serialRead s p h v).pcie = s.pcie ∧ (serialRead s p h v).log = s.log ∧ (serialRead s p h
      v).foreman = s.foreman ∧ (serialRead s p h v).eopen = s.eopen ∧ (serialRead s p h v).tiles = s.tiles ∧ (serialRead s p h
      v).dram = s.dram ∧ (serialRead s p h v).fabric = s.fabric ∧ (serialRead s p h v).rumbes = s.rumbes := by
  unfold serialRead; simp [*]
@[simp] theorem modidSeen_frame (s : State) (p h v : Nat) :
    (modidSeen s p h v).pending = s.pending ∧ (modidSeen s p h v).now = s.now ∧ (modidSeen s p h v).free = s.free ∧
      (modidSeen s p h v).out = s.out ∧ (modidSeen s p h v).sys = s.sys ∧ (modidSeen s p h v).flash = s.flash ∧
      (modidSeen s p h v).host = s.host ∧ (modidSeen s p h v).pcie = s.pcie ∧ (modidSeen s p h v).log = s.log ∧
      (modidSeen s p h v).foreman = s.foreman ∧ (modidSeen s p h v).eopen = s.eopen ∧ (modidSeen s p h v).tiles =
      s.tiles ∧ (modidSeen s p h v).dram = s.dram ∧ (modidSeen s p h v).fabric = s.fabric ∧ (modidSeen s p h v).rumbes =
      s.rumbes := by
  unfold modidSeen; simp -implicitDefEqProofs [*]
@[simp] theorem bringUp_frame (s : State) (p : Nat) (sd : Side) (h : Nat) :
    (bringUp s p sd h).pending = s.pending ∧ (bringUp s p sd h).now = s.now ∧ (bringUp s p sd h).free = s.free ∧
      (bringUp s p sd h).out = s.out ∧ (bringUp s p sd h).sys = s.sys ∧ (bringUp s p sd h).ka = s.ka ∧ (bringUp s p sd
      h).flash = s.flash ∧ (bringUp s p sd h).journal = s.journal ∧ (bringUp s p sd h).host = s.host ∧ (bringUp s p sd
      h).ports = s.ports ∧ (bringUp s p sd h).pcie = s.pcie ∧ (bringUp s p sd h).log = s.log ∧ (bringUp s p sd
      h).foreman = s.foreman ∧ (bringUp s p sd h).eopen = s.eopen ∧ (bringUp s p sd h).ledger = s.ledger ∧ (bringUp s p
      sd h).sched = s.sched ∧ (bringUp s p sd h).tiles = s.tiles ∧ (bringUp s p sd h).dram = s.dram ∧ (bringUp s p sd
      h).assayer = s.assayer ∧ (bringUp s p sd h).fabric = s.fabric ∧ (bringUp s p sd h).rumbes = s.rumbes := by
  unfold bringUp; simp -implicitDefEqProofs [*]
@[simp] theorem identified_frame (s : State) (p : Nat) (sd : Side) (h : Nat) (ws : List Nat) :
    (identified s p sd h ws).pending = s.pending ∧ (identified s p sd h ws).now = s.now ∧ (identified s p sd h ws).free
      = s.free ∧ (identified s p sd h ws).out = s.out ∧ (identified s p sd h ws).sys = s.sys ∧ (identified s p sd h
      ws).flash = s.flash ∧ (identified s p sd h ws).host = s.host ∧ (identified s p sd h ws).pcie = s.pcie ∧
      (identified s p sd h ws).log = s.log ∧ (identified s p sd h ws).foreman = s.foreman ∧ (identified s p sd h
      ws).eopen = s.eopen ∧ (identified s p sd h ws).tiles = s.tiles ∧ (identified s p sd h ws).dram = s.dram ∧
      (identified s p sd h ws).fabric = s.fabric ∧ (identified s p sd h ws).rumbes = s.rumbes := by
  unfold identified; simp -implicitDefEqProofs [*]
@[simp] theorem jabRead_frame (s : State) (p h v : Nat) :
    (jabRead s p h v).pending = s.pending ∧ (jabRead s p h v).now = s.now ∧ (jabRead s p h v).free = s.free ∧ (jabRead s
      p h v).out = s.out ∧ (jabRead s p h v).sys = s.sys ∧ (jabRead s p h v).ka = s.ka ∧ (jabRead s p h v).flash =
      s.flash ∧ (jabRead s p h v).journal = s.journal ∧ (jabRead s p h v).host = s.host ∧ (jabRead s p h v).ports =
      s.ports ∧ (jabRead s p h v).pcie = s.pcie ∧ (jabRead s p h v).log = s.log ∧ (jabRead s p h v).foreman = s.foreman
      ∧ (jabRead s p h v).eopen = s.eopen ∧ (jabRead s p h v).sched = s.sched ∧ (jabRead s p h v).tiles = s.tiles ∧
      (jabRead s p h v).dram = s.dram ∧ (jabRead s p h v).assayer = s.assayer ∧ (jabRead s p h v).fabric = s.fabric ∧
      (jabRead s p h v).rumbes = s.rumbes := by
  unfold jabRead; split <;> simp -implicitDefEqProofs [*]
@[simp] theorem heardFrom_frame (s : State) (p h : Nat) (c : ChainCmd) :
    (heardFrom s p h c).pending = s.pending ∧ (heardFrom s p h c).now = s.now ∧ (heardFrom s p h c).free = s.free ∧
      (heardFrom s p h c).out = s.out ∧ (heardFrom s p h c).sys = s.sys ∧ (heardFrom s p h c).ka = s.ka ∧ (heardFrom s p
      h c).flash = s.flash ∧ (heardFrom s p h c).journal = s.journal ∧ (heardFrom s p h c).host = s.host ∧ (heardFrom s
      p h c).ports = s.ports ∧ (heardFrom s p h c).pcie = s.pcie ∧ (heardFrom s p h c).log = s.log ∧ (heardFrom s p h
      c).foreman = s.foreman ∧ (heardFrom s p h c).eopen = s.eopen ∧ (heardFrom s p h c).sched = s.sched ∧ (heardFrom s
      p h c).tiles = s.tiles ∧ (heardFrom s p h c).dram = s.dram ∧ (heardFrom s p h c).assayer = s.assayer ∧ (heardFrom
      s p h c).fabric = s.fabric ∧ (heardFrom s p h c).rumbes = s.rumbes := by
  unfold heardFrom; split <;> simp -implicitDefEqProofs [*]
@[simp] theorem finishCmd_frame (s : State) (p : Nat) (sd : Side) (c : ChainCmd) (rs : Nat) (data : List Byte) :
    (finishCmd s p sd c rs data).pending = s.pending ∧ (finishCmd s p sd c rs data).now = s.now ∧ (finishCmd s p sd c rs
      data).free = s.free ∧ (finishCmd s p sd c rs data).out = s.out ∧ (finishCmd s p sd c rs data).sys = s.sys ∧ (finishCmd s
      p sd c rs data).flash = s.flash ∧ (finishCmd s p sd c rs data).host = s.host ∧ (finishCmd s p sd c rs data).pcie =
      s.pcie ∧ (finishCmd s p sd c rs data).eopen = s.eopen ∧ (finishCmd s p sd c rs data).tiles = s.tiles ∧ (finishCmd s p sd
      c rs data).dram = s.dram ∧ (finishCmd s p sd c rs data).fabric = s.fabric ∧ (finishCmd s p sd c rs data).rumbes =
      s.rumbes := by
  unfold finishCmd; split <;> simp [*]
@[simp] theorem failCmd_frame (s : State) (p : Nat) (sd : Side) (c : ChainCmd) :
    (failCmd s p sd c).pending = s.pending ∧ (failCmd s p sd c).now = s.now ∧ (failCmd s p sd c).free = s.free ∧ (failCmd s
      p sd c).out = s.out ∧ (failCmd s p sd c).sys = s.sys ∧ (failCmd s p sd c).flash = s.flash ∧ (failCmd s p sd c).host =
      s.host ∧ (failCmd s p sd c).pcie = s.pcie ∧ (failCmd s p sd c).eopen = s.eopen ∧ (failCmd s p sd c).sched = s.sched ∧
      (failCmd s p sd c).tiles = s.tiles ∧ (failCmd s p sd c).dram = s.dram ∧ (failCmd s p sd c).fabric = s.fabric ∧ (failCmd
      s p sd c).rumbes = s.rumbes := by
  unfold failCmd; (repeat' split) <;> simp [*]
@[simp] theorem retryCmd_frame (s : State) (p : Nat) (sd : Side) (o : Outstanding) :
    (retryCmd s p sd o).pending = s.pending ∧ (retryCmd s p sd o).now = s.now ∧ (retryCmd s p sd o).free = s.free ∧
      (retryCmd s p sd o).sys = s.sys ∧ (retryCmd s p sd o).flash = s.flash ∧ (retryCmd s p sd o).host = s.host ∧
      (retryCmd s p sd o).pcie = s.pcie ∧ (retryCmd s p sd o).eopen = s.eopen ∧ (retryCmd s p sd o).sched = s.sched ∧
      (retryCmd s p sd o).tiles = s.tiles ∧ (retryCmd s p sd o).dram = s.dram ∧ (retryCmd s p sd o).fabric = s.fabric ∧
      (retryCmd s p sd o).rumbes = s.rumbes := by
  unfold retryCmd; simp [*] <;> (repeat' split) <;> simp [*]
@[simp] theorem lostId_frame (s : State) (p : Nat) (sd : Side) (h : Nat) (l : List Chip) :
    (lostId s p sd h l).pending = s.pending ∧ (lostId s p sd h l).now = s.now ∧ (lostId s p sd h l).free = s.free ∧
      (lostId s p sd h l).out = s.out ∧ (lostId s p sd h l).sys = s.sys ∧ (lostId s p sd h l).ka = s.ka ∧ (lostId s p sd
      h l).flash = s.flash ∧ (lostId s p sd h l).journal = s.journal ∧ (lostId s p sd h l).host = s.host ∧ (lostId s p
      sd h l).ports = s.ports ∧ (lostId s p sd h l).pcie = s.pcie ∧ (lostId s p sd h l).log = s.log ∧ (lostId s p sd h
      l).foreman = s.foreman ∧ (lostId s p sd h l).eopen = s.eopen ∧ (lostId s p sd h l).ledger = s.ledger ∧ (lostId s p
      sd h l).sched = s.sched ∧ (lostId s p sd h l).tiles = s.tiles ∧ (lostId s p sd h l).dram = s.dram ∧ (lostId s p sd
      h l).assayer = s.assayer ∧ (lostId s p sd h l).fabric = s.fabric ∧ (lostId s p sd h l).rumbes = s.rumbes := by
  unfold lostId; simp -implicitDefEqProofs [*]
@[simp] theorem ackId_frame (s : State) (p : Nat) (sd : Side) (c : ChainCmd) (l : List Chip) :
    (ackId s p sd c l).pending = s.pending ∧ (ackId s p sd c l).now = s.now ∧ (ackId s p sd c l).free = s.free ∧ (ackId
      s p sd c l).out = s.out ∧ (ackId s p sd c l).sys = s.sys ∧ (ackId s p sd c l).ka = s.ka ∧ (ackId s p sd c l).flash
      = s.flash ∧ (ackId s p sd c l).journal = s.journal ∧ (ackId s p sd c l).host = s.host ∧ (ackId s p sd c l).ports =
      s.ports ∧ (ackId s p sd c l).pcie = s.pcie ∧ (ackId s p sd c l).log = s.log ∧ (ackId s p sd c l).foreman =
      s.foreman ∧ (ackId s p sd c l).eopen = s.eopen ∧ (ackId s p sd c l).ledger = s.ledger ∧ (ackId s p sd c l).sched =
      s.sched ∧ (ackId s p sd c l).tiles = s.tiles ∧ (ackId s p sd c l).dram = s.dram ∧ (ackId s p sd c l).assayer =
      s.assayer ∧ (ackId s p sd c l).fabric = s.fabric ∧ (ackId s p sd c l).rumbes = s.rumbes := by
  unfold ackId; split <;> simp -implicitDefEqProofs [*]
@[simp] theorem ackIn_frame (s : State) (p : Nat) (sd : Side) (l : List Chip) :
    (ackIn s p sd l).pending = s.pending ∧ (ackIn s p sd l).now = s.now ∧ (ackIn s p sd l).free = s.free ∧ (ackIn s p sd
      l).sys = s.sys ∧ (ackIn s p sd l).flash = s.flash ∧ (ackIn s p sd l).host = s.host ∧ (ackIn s p sd l).pcie =
      s.pcie ∧ (ackIn s p sd l).eopen = s.eopen ∧ (ackIn s p sd l).tiles = s.tiles ∧ (ackIn s p sd l).dram = s.dram ∧
      (ackIn s p sd l).fabric = s.fabric ∧ (ackIn s p sd l).rumbes = s.rumbes := by
  unfold ackIn; split <;> simp [*]
@[simp] theorem timeoutIn_frame (s : State) (p : Nat) (sd : Side) :
    (timeoutIn s p sd).pending = s.pending ∧ (timeoutIn s p sd).now = s.now ∧ (timeoutIn s p sd).free = s.free ∧ (timeoutIn
      s p sd).sys = s.sys ∧ (timeoutIn s p sd).flash = s.flash ∧ (timeoutIn s p sd).host = s.host ∧ (timeoutIn s p sd).pcie =
      s.pcie ∧ (timeoutIn s p sd).eopen = s.eopen ∧ (timeoutIn s p sd).sched = s.sched ∧ (timeoutIn s p sd).tiles = s.tiles ∧
      (timeoutIn s p sd).dram = s.dram ∧ (timeoutIn s p sd).fabric = s.fabric ∧ (timeoutIn s p sd).rumbes = s.rumbes := by
  unfold timeoutIn; split <;> simp [*]
@[simp] theorem windowSend_frame (s : State) (p : Nat) (sd : Side) :
    (windowSend s p sd).pending = s.pending ∧ (windowSend s p sd).now = s.now ∧ (windowSend s p sd).free = s.free ∧
      (windowSend s p sd).sys = s.sys ∧ (windowSend s p sd).flash = s.flash ∧ (windowSend s p sd).host = s.host ∧ (windowSend
      s p sd).pcie = s.pcie ∧ (windowSend s p sd).log = s.log ∧ (windowSend s p sd).eopen = s.eopen ∧ (windowSend s p
      sd).sched = s.sched ∧ (windowSend s p sd).tiles = s.tiles ∧ (windowSend s p sd).dram = s.dram ∧ (windowSend s p
      sd).assayer = s.assayer ∧ (windowSend s p sd).fabric = s.fabric ∧ (windowSend s p sd).rumbes = s.rumbes := by
  unfold windowSend; (repeat' split) <;> simp [*]

/-! ### ChainCmds -/

@[simp] theorem endPairTickets_frame (s : State) (p found : Nat) :
    (endPairTickets s p found).pending = s.pending ∧ (endPairTickets s p found).now = s.now ∧ (endPairTickets s p
      found).free = s.free ∧ (endPairTickets s p found).out = s.out ∧ (endPairTickets s p found).sys = s.sys ∧
      (endPairTickets s p found).ka = s.ka ∧ (endPairTickets s p found).flash = s.flash ∧ (endPairTickets s p found).journal
      = s.journal ∧ (endPairTickets s p found).host = s.host ∧ (endPairTickets s p found).pcie = s.pcie ∧ (endPairTickets s
      p found).log = s.log ∧ (endPairTickets s p found).pairs = s.pairs ∧ (endPairTickets s p found).eopen = s.eopen ∧
      (endPairTickets s p found).ledger = s.ledger ∧ (endPairTickets s p found).sched = s.sched ∧ (endPairTickets s p
      found).tiles = s.tiles ∧ (endPairTickets s p found).dram = s.dram ∧ (endPairTickets s p found).assayer = s.assayer ∧
      (endPairTickets s p found).fabric = s.fabric ∧ (endPairTickets s p found).rumbes = s.rumbes := by
  unfold endPairTickets; simp [*]
@[simp] theorem breakTaper_frame (s : State) (p : Nat) :
    (breakTaper s p).pending = s.pending ∧ (breakTaper s p).now = s.now ∧ (breakTaper s p).free = s.free ∧ (breakTaper s
      p).out = s.out ∧ (breakTaper s p).sys = s.sys ∧ (breakTaper s p).ka = s.ka ∧ (breakTaper s p).flash = s.flash ∧
      (breakTaper s p).journal = s.journal ∧ (breakTaper s p).host = s.host ∧ (breakTaper s p).ports = s.ports ∧
      (breakTaper s p).pcie = s.pcie ∧ (breakTaper s p).log = s.log ∧ (breakTaper s p).foreman = s.foreman ∧ (breakTaper
      s p).pairs = s.pairs ∧ (breakTaper s p).eopen = s.eopen ∧ (breakTaper s p).sched = s.sched ∧ (breakTaper s
      p).tiles = s.tiles ∧ (breakTaper s p).dram = s.dram ∧ (breakTaper s p).assayer = s.assayer ∧ (breakTaper s
      p).fabric = s.fabric ∧ (breakTaper s p).rumbes = s.rumbes := by
  unfold breakTaper; simp -implicitDefEqProofs [*]
@[simp] theorem setPairDo_frame (r : Req) (s : State) :
    (setPairDo r s).pending = s.pending ∧ (setPairDo r s).now = s.now ∧ (setPairDo r s).sys = s.sys ∧ (setPairDo r
      s).flash = s.flash ∧ (setPairDo r s).host = s.host ∧ (setPairDo r s).pcie = s.pcie ∧ (setPairDo r s).log = s.log ∧
      (setPairDo r s).eopen = s.eopen ∧ (setPairDo r s).sched = s.sched ∧ (setPairDo r s).tiles = s.tiles ∧ (setPairDo r
      s).dram = s.dram ∧ (setPairDo r s).assayer = s.assayer ∧ (setPairDo r s).fabric = s.fabric ∧ (setPairDo r
      s).rumbes = s.rumbes := by
  unfold setPairDo; simp -implicitDefEqProofs [*]
@[simp] theorem pairStatusDo_frame (r : Req) (s : State) :
    (pairStatusDo r s).pending = s.pending ∧ (pairStatusDo r s).now = s.now ∧ (pairStatusDo r s).free = s.free ∧
      (pairStatusDo r s).out = s.out ∧ (pairStatusDo r s).sys = s.sys ∧ (pairStatusDo r s).ka = s.ka ∧ (pairStatusDo r
      s).flash = s.flash ∧ (pairStatusDo r s).journal = s.journal ∧ (pairStatusDo r s).host = s.host ∧ (pairStatusDo r s).pcie
      = s.pcie ∧ (pairStatusDo r s).log = s.log ∧ (pairStatusDo r s).foreman = s.foreman ∧ (pairStatusDo r s).pairs = s.pairs
      ∧ (pairStatusDo r s).eopen = s.eopen ∧ (pairStatusDo r s).ledger = s.ledger ∧ (pairStatusDo r s).sched = s.sched ∧
      (pairStatusDo r s).tiles = s.tiles ∧ (pairStatusDo r s).dram = s.dram ∧ (pairStatusDo r s).assayer = s.assayer ∧
      (pairStatusDo r s).fabric = s.fabric ∧ (pairStatusDo r s).rumbes = s.rumbes := by
  unfold pairStatusDo; simp [*]
@[simp] theorem toTarget_frame (r : Req) (bcast : Bool) (type : Nat) (payload : List Byte) (s : State) :
    (toTarget r bcast type payload s).pending = s.pending ∧ (toTarget r bcast type payload s).now = s.now ∧ (toTarget r
      bcast type payload s).free = s.free ∧ (toTarget r bcast type payload s).out = s.out ∧ (toTarget r bcast type payload
      s).sys = s.sys ∧ (toTarget r bcast type payload s).ka = s.ka ∧ (toTarget r bcast type payload s).flash = s.flash ∧
      (toTarget r bcast type payload s).journal = s.journal ∧ (toTarget r bcast type payload s).host = s.host ∧ (toTarget r
      bcast type payload s).pcie = s.pcie ∧ (toTarget r bcast type payload s).log = s.log ∧ (toTarget r bcast type payload
      s).eopen = s.eopen ∧ (toTarget r bcast type payload s).ledger = s.ledger ∧ (toTarget r bcast type payload s).sched =
      s.sched ∧ (toTarget r bcast type payload s).tiles = s.tiles ∧ (toTarget r bcast type payload s).dram = s.dram ∧
      (toTarget r bcast type payload s).assayer = s.assayer ∧ (toTarget r bcast type payload s).fabric = s.fabric ∧ (toTarget
      r bcast type payload s).rumbes = s.rumbes := by
  unfold toTarget; split <;> simp [*]
@[simp] theorem mbRegReadDo_frame (r : Req) (s : State) :
    (mbRegReadDo r s).pending = s.pending ∧ (mbRegReadDo r s).now = s.now ∧ (mbRegReadDo r s).free = s.free ∧ (mbRegReadDo r
      s).out = s.out ∧ (mbRegReadDo r s).sys = s.sys ∧ (mbRegReadDo r s).ka = s.ka ∧ (mbRegReadDo r s).flash = s.flash ∧
      (mbRegReadDo r s).journal = s.journal ∧ (mbRegReadDo r s).host = s.host ∧ (mbRegReadDo r s).pcie = s.pcie ∧ (mbRegReadDo
      r s).log = s.log ∧ (mbRegReadDo r s).eopen = s.eopen ∧ (mbRegReadDo r s).ledger = s.ledger ∧ (mbRegReadDo r s).sched =
      s.sched ∧ (mbRegReadDo r s).tiles = s.tiles ∧ (mbRegReadDo r s).dram = s.dram ∧ (mbRegReadDo r s).assayer = s.assayer ∧
      (mbRegReadDo r s).fabric = s.fabric ∧ (mbRegReadDo r s).rumbes = s.rumbes := by
  unfold mbRegReadDo; simp [*]
@[simp] theorem mbRegWriteDo_frame (r : Req) (s : State) :
    (mbRegWriteDo r s).pending = s.pending ∧ (mbRegWriteDo r s).now = s.now ∧ (mbRegWriteDo r s).free = s.free ∧
      (mbRegWriteDo r s).out = s.out ∧ (mbRegWriteDo r s).sys = s.sys ∧ (mbRegWriteDo r s).ka = s.ka ∧ (mbRegWriteDo r
      s).flash = s.flash ∧ (mbRegWriteDo r s).journal = s.journal ∧ (mbRegWriteDo r s).host = s.host ∧ (mbRegWriteDo r s).pcie
      = s.pcie ∧ (mbRegWriteDo r s).log = s.log ∧ (mbRegWriteDo r s).eopen = s.eopen ∧ (mbRegWriteDo r s).ledger = s.ledger ∧
      (mbRegWriteDo r s).sched = s.sched ∧ (mbRegWriteDo r s).tiles = s.tiles ∧ (mbRegWriteDo r s).dram = s.dram ∧
      (mbRegWriteDo r s).assayer = s.assayer ∧ (mbRegWriteDo r s).fabric = s.fabric ∧ (mbRegWriteDo r s).rumbes = s.rumbes :=
      by
  unfold mbRegWriteDo; simp [*]
@[simp] theorem mbControlDo_frame (r : Req) (s : State) :
    (mbControlDo r s).pending = s.pending ∧ (mbControlDo r s).now = s.now ∧ (mbControlDo r s).free = s.free ∧ (mbControlDo r
      s).out = s.out ∧ (mbControlDo r s).sys = s.sys ∧ (mbControlDo r s).ka = s.ka ∧ (mbControlDo r s).flash = s.flash ∧
      (mbControlDo r s).journal = s.journal ∧ (mbControlDo r s).host = s.host ∧ (mbControlDo r s).pcie = s.pcie ∧ (mbControlDo
      r s).log = s.log ∧ (mbControlDo r s).eopen = s.eopen ∧ (mbControlDo r s).ledger = s.ledger ∧ (mbControlDo r s).sched =
      s.sched ∧ (mbControlDo r s).tiles = s.tiles ∧ (mbControlDo r s).dram = s.dram ∧ (mbControlDo r s).assayer = s.assayer ∧
      (mbControlDo r s).fabric = s.fabric ∧ (mbControlDo r s).rumbes = s.rumbes := by
  unfold mbControlDo; simp [*]
@[simp] theorem mbReadRecordDo_frame (r : Req) (s : State) :
    (mbReadRecordDo r s).pending = s.pending ∧ (mbReadRecordDo r s).now = s.now ∧ (mbReadRecordDo r s).free = s.free ∧
      (mbReadRecordDo r s).out = s.out ∧ (mbReadRecordDo r s).sys = s.sys ∧ (mbReadRecordDo r s).ka = s.ka ∧ (mbReadRecordDo r
      s).flash = s.flash ∧ (mbReadRecordDo r s).journal = s.journal ∧ (mbReadRecordDo r s).host = s.host ∧ (mbReadRecordDo r
      s).pcie = s.pcie ∧ (mbReadRecordDo r s).log = s.log ∧ (mbReadRecordDo r s).eopen = s.eopen ∧ (mbReadRecordDo r s).ledger
      = s.ledger ∧ (mbReadRecordDo r s).sched = s.sched ∧ (mbReadRecordDo r s).tiles = s.tiles ∧ (mbReadRecordDo r s).dram =
      s.dram ∧ (mbReadRecordDo r s).assayer = s.assayer ∧ (mbReadRecordDo r s).fabric = s.fabric ∧ (mbReadRecordDo r s).rumbes
      = s.rumbes := by
  unfold mbReadRecordDo; simp [*]
@[simp] theorem mbBalanceDo_frame (r : Req) (s : State) :
    (mbBalanceDo r s).pending = s.pending ∧ (mbBalanceDo r s).now = s.now ∧ (mbBalanceDo r s).free = s.free ∧ (mbBalanceDo r
      s).out = s.out ∧ (mbBalanceDo r s).sys = s.sys ∧ (mbBalanceDo r s).ka = s.ka ∧ (mbBalanceDo r s).flash = s.flash ∧
      (mbBalanceDo r s).journal = s.journal ∧ (mbBalanceDo r s).host = s.host ∧ (mbBalanceDo r s).pcie = s.pcie ∧ (mbBalanceDo
      r s).log = s.log ∧ (mbBalanceDo r s).eopen = s.eopen ∧ (mbBalanceDo r s).ledger = s.ledger ∧ (mbBalanceDo r s).sched =
      s.sched ∧ (mbBalanceDo r s).tiles = s.tiles ∧ (mbBalanceDo r s).dram = s.dram ∧ (mbBalanceDo r s).assayer = s.assayer ∧
      (mbBalanceDo r s).fabric = s.fabric ∧ (mbBalanceDo r s).rumbes = s.rumbes := by
  unfold mbBalanceDo; simp [*]
@[simp] theorem mbFaultClearDo_frame (r : Req) (s : State) :
    (mbFaultClearDo r s).pending = s.pending ∧ (mbFaultClearDo r s).now = s.now ∧ (mbFaultClearDo r s).free = s.free ∧
      (mbFaultClearDo r s).out = s.out ∧ (mbFaultClearDo r s).sys = s.sys ∧ (mbFaultClearDo r s).ka = s.ka ∧ (mbFaultClearDo r
      s).flash = s.flash ∧ (mbFaultClearDo r s).journal = s.journal ∧ (mbFaultClearDo r s).host = s.host ∧ (mbFaultClearDo r
      s).pcie = s.pcie ∧ (mbFaultClearDo r s).log = s.log ∧ (mbFaultClearDo r s).eopen = s.eopen ∧ (mbFaultClearDo r s).ledger
      = s.ledger ∧ (mbFaultClearDo r s).sched = s.sched ∧ (mbFaultClearDo r s).tiles = s.tiles ∧ (mbFaultClearDo r s).dram =
      s.dram ∧ (mbFaultClearDo r s).assayer = s.assayer ∧ (mbFaultClearDo r s).fabric = s.fabric ∧ (mbFaultClearDo r s).rumbes
      = s.rumbes := by
  unfold mbFaultClearDo; simp [*]
@[simp] theorem onHead_pending (r : Req) (f : Nat → StrSet → State → State) (s : State) (h_f : ∀ x0 x1 x2, (f x0 x1
  x2).pending = x2.pending) :
    (onHead r f s).pending = s.pending := by
  unfold onHead; simp -implicitDefEqProofs [*]
@[simp] theorem onHead_now (r : Req) (f : Nat → StrSet → State → State) (s : State) (h_f : ∀ x0 x1 x2, (f x0 x1 x2).now
  = x2.now) :
    (onHead r f s).now = s.now := by
  unfold onHead; simp -implicitDefEqProofs [*]
@[simp] theorem onHead_free (r : Req) (f : Nat → StrSet → State → State) (s : State) (h_f : ∀ x0 x1 x2, (f x0 x1
  x2).free = x2.free) :
    (onHead r f s).free = s.free := by
  unfold onHead; simp -implicitDefEqProofs [*]
@[simp] theorem onHead_out (r : Req) (f : Nat → StrSet → State → State) (s : State) (h_f : ∀ x0 x1 x2, (f x0 x1 x2).out
  = x2.out) :
    (onHead r f s).out = s.out := by
  unfold onHead; simp -implicitDefEqProofs [*]
@[simp] theorem onHead_sys (r : Req) (f : Nat → StrSet → State → State) (s : State) (h_f : ∀ x0 x1 x2, (f x0 x1 x2).sys
  = x2.sys) :
    (onHead r f s).sys = s.sys := by
  unfold onHead; simp -implicitDefEqProofs [*]
@[simp] theorem onHead_ka (r : Req) (f : Nat → StrSet → State → State) (s : State) (h_f : ∀ x0 x1 x2, (f x0 x1 x2).ka =
  x2.ka) :
    (onHead r f s).ka = s.ka := by
  unfold onHead; simp -implicitDefEqProofs [*]
@[simp] theorem onHead_flash (r : Req) (f : Nat → StrSet → State → State) (s : State) (h_f : ∀ x0 x1 x2, (f x0 x1
  x2).flash = x2.flash) :
    (onHead r f s).flash = s.flash := by
  unfold onHead; simp -implicitDefEqProofs [*]
@[simp] theorem onHead_journal (r : Req) (f : Nat → StrSet → State → State) (s : State) (h_f : ∀ x0 x1 x2, (f x0 x1
  x2).journal = x2.journal) :
    (onHead r f s).journal = s.journal := by
  unfold onHead; simp -implicitDefEqProofs [*]
@[simp] theorem onHead_host (r : Req) (f : Nat → StrSet → State → State) (s : State) (h_f : ∀ x0 x1 x2, (f x0 x1
  x2).host = x2.host) :
    (onHead r f s).host = s.host := by
  unfold onHead; simp -implicitDefEqProofs [*]
@[simp] theorem onHead_pcie (r : Req) (f : Nat → StrSet → State → State) (s : State) (h_f : ∀ x0 x1 x2, (f x0 x1
  x2).pcie = x2.pcie) :
    (onHead r f s).pcie = s.pcie := by
  unfold onHead; simp -implicitDefEqProofs [*]
@[simp] theorem onHead_log (r : Req) (f : Nat → StrSet → State → State) (s : State) (h_f : ∀ x0 x1 x2, (f x0 x1 x2).log
  = x2.log) :
    (onHead r f s).log = s.log := by
  unfold onHead; simp -implicitDefEqProofs [*]
@[simp] theorem onHead_foreman (r : Req) (f : Nat → StrSet → State → State) (s : State) (h_f : ∀ x0 x1 x2, (f x0 x1
  x2).foreman = x2.foreman) :
    (onHead r f s).foreman = s.foreman := by
  unfold onHead; simp -implicitDefEqProofs [*]
@[simp] theorem onHead_pairs (r : Req) (f : Nat → StrSet → State → State) (s : State) (h_f : ∀ x0 x1 x2, (f x0 x1
  x2).pairs = x2.pairs) :
    (onHead r f s).pairs = s.pairs := by
  unfold onHead; simp -implicitDefEqProofs [*]
@[simp] theorem onHead_eopen (r : Req) (f : Nat → StrSet → State → State) (s : State) (h_f : ∀ x0 x1 x2, (f x0 x1
  x2).eopen = x2.eopen) :
    (onHead r f s).eopen = s.eopen := by
  unfold onHead; simp -implicitDefEqProofs [*]
@[simp] theorem onHead_ledger (r : Req) (f : Nat → StrSet → State → State) (s : State) (h_f : ∀ x0 x1 x2, (f x0 x1
  x2).ledger = x2.ledger) :
    (onHead r f s).ledger = s.ledger := by
  unfold onHead; simp -implicitDefEqProofs [*]
@[simp] theorem onHead_sched (r : Req) (f : Nat → StrSet → State → State) (s : State) (h_f : ∀ x0 x1 x2, (f x0 x1
  x2).sched = x2.sched) :
    (onHead r f s).sched = s.sched := by
  unfold onHead; simp -implicitDefEqProofs [*]
@[simp] theorem onHead_tiles (r : Req) (f : Nat → StrSet → State → State) (s : State) (h_f : ∀ x0 x1 x2, (f x0 x1
  x2).tiles = x2.tiles) :
    (onHead r f s).tiles = s.tiles := by
  unfold onHead; simp -implicitDefEqProofs [*]
@[simp] theorem onHead_dram (r : Req) (f : Nat → StrSet → State → State) (s : State) (h_f : ∀ x0 x1 x2, (f x0 x1
  x2).dram = x2.dram) :
    (onHead r f s).dram = s.dram := by
  unfold onHead; simp -implicitDefEqProofs [*]
@[simp] theorem onHead_assayer (r : Req) (f : Nat → StrSet → State → State) (s : State) (h_f : ∀ x0 x1 x2, (f x0 x1
  x2).assayer = x2.assayer) :
    (onHead r f s).assayer = s.assayer := by
  unfold onHead; simp -implicitDefEqProofs [*]
@[simp] theorem onHead_fabric (r : Req) (f : Nat → StrSet → State → State) (s : State) (h_f : ∀ x0 x1 x2, (f x0 x1
  x2).fabric = x2.fabric) :
    (onHead r f s).fabric = s.fabric := by
  unfold onHead; simp -implicitDefEqProofs [*]
@[simp] theorem onHead_rumbes (r : Req) (f : Nat → StrSet → State → State) (s : State) (h_f : ∀ x0 x1 x2, (f x0 x1
  x2).rumbes = x2.rumbes) :
    (onHead r f s).rumbes = s.rumbes := by
  unfold onHead; simp -implicitDefEqProofs [*]
@[simp] theorem toHead_frame (r : Req) (type : Nat) (payload : List Byte) (s : State) :
    (toHead r type payload s).pending = s.pending ∧ (toHead r type payload s).now = s.now ∧ (toHead r type payload s).free =
      s.free ∧ (toHead r type payload s).out = s.out ∧ (toHead r type payload s).sys = s.sys ∧ (toHead r type payload s).ka =
      s.ka ∧ (toHead r type payload s).flash = s.flash ∧ (toHead r type payload s).journal = s.journal ∧ (toHead r type
      payload s).host = s.host ∧ (toHead r type payload s).pcie = s.pcie ∧ (toHead r type payload s).log = s.log ∧ (toHead r
      type payload s).eopen = s.eopen ∧ (toHead r type payload s).ledger = s.ledger ∧ (toHead r type payload s).sched =
      s.sched ∧ (toHead r type payload s).tiles = s.tiles ∧ (toHead r type payload s).dram = s.dram ∧ (toHead r type payload
      s).assayer = s.assayer ∧ (toHead r type payload s).fabric = s.fabric ∧ (toHead r type payload s).rumbes = s.rumbes := by
  unfold toHead; simp [*]
@[simp] theorem mbGateDo_frame (eopenN : Bool) (r : Req) (s : State) :
    (mbGateDo eopenN r s).pending = s.pending ∧ (mbGateDo eopenN r s).now = s.now ∧ (mbGateDo eopenN r s).free = s.free ∧
      (mbGateDo eopenN r s).out = s.out ∧ (mbGateDo eopenN r s).sys = s.sys ∧ (mbGateDo eopenN r s).ka = s.ka ∧ (mbGateDo
      eopenN r s).flash = s.flash ∧ (mbGateDo eopenN r s).journal = s.journal ∧ (mbGateDo eopenN r s).host = s.host ∧
      (mbGateDo eopenN r s).pcie = s.pcie ∧ (mbGateDo eopenN r s).log = s.log ∧ (mbGateDo eopenN r s).eopen = s.eopen ∧
      (mbGateDo eopenN r s).ledger = s.ledger ∧ (mbGateDo eopenN r s).sched = s.sched ∧ (mbGateDo eopenN r s).tiles = s.tiles
      ∧ (mbGateDo eopenN r s).dram = s.dram ∧ (mbGateDo eopenN r s).assayer = s.assayer ∧ (mbGateDo eopenN r s).fabric =
      s.fabric ∧ (mbGateDo eopenN r s).rumbes = s.rumbes := by
  unfold mbGateDo; simp [*]
@[simp] theorem mbAspReleaseDo_frame (r : Req) (s : State) :
    (mbAspReleaseDo r s).pending = s.pending ∧ (mbAspReleaseDo r s).now = s.now ∧ (mbAspReleaseDo r s).free = s.free ∧
      (mbAspReleaseDo r s).out = s.out ∧ (mbAspReleaseDo r s).sys = s.sys ∧ (mbAspReleaseDo r s).ka = s.ka ∧ (mbAspReleaseDo r
      s).flash = s.flash ∧ (mbAspReleaseDo r s).journal = s.journal ∧ (mbAspReleaseDo r s).host = s.host ∧ (mbAspReleaseDo r
      s).pcie = s.pcie ∧ (mbAspReleaseDo r s).log = s.log ∧ (mbAspReleaseDo r s).eopen = s.eopen ∧ (mbAspReleaseDo r s).ledger
      = s.ledger ∧ (mbAspReleaseDo r s).sched = s.sched ∧ (mbAspReleaseDo r s).tiles = s.tiles ∧ (mbAspReleaseDo r s).dram =
      s.dram ∧ (mbAspReleaseDo r s).assayer = s.assayer ∧ (mbAspReleaseDo r s).fabric = s.fabric ∧ (mbAspReleaseDo r s).rumbes
      = s.rumbes := by
  unfold mbAspReleaseDo; simp [*]
@[simp] theorem setHeadDo_frame (r : Req) (s : State) :
    (setHeadDo r s).pending = s.pending ∧ (setHeadDo r s).now = s.now ∧ (setHeadDo r s).free = s.free ∧ (setHeadDo r s).out
      = s.out ∧ (setHeadDo r s).sys = s.sys ∧ (setHeadDo r s).ka = s.ka ∧ (setHeadDo r s).flash = s.flash ∧ (setHeadDo r
      s).journal = s.journal ∧ (setHeadDo r s).host = s.host ∧ (setHeadDo r s).pcie = s.pcie ∧ (setHeadDo r s).log = s.log ∧
      (setHeadDo r s).eopen = s.eopen ∧ (setHeadDo r s).ledger = s.ledger ∧ (setHeadDo r s).sched = s.sched ∧ (setHeadDo r
      s).tiles = s.tiles ∧ (setHeadDo r s).dram = s.dram ∧ (setHeadDo r s).assayer = s.assayer ∧ (setHeadDo r s).fabric =
      s.fabric ∧ (setHeadDo r s).rumbes = s.rumbes := by
  unfold setHeadDo; simp [*]
@[simp] theorem setProtectDo_frame (r : Req) (s : State) :
    (setProtectDo r s).pending = s.pending ∧ (setProtectDo r s).now = s.now ∧ (setProtectDo r s).free = s.free ∧
      (setProtectDo r s).out = s.out ∧ (setProtectDo r s).sys = s.sys ∧ (setProtectDo r s).ka = s.ka ∧ (setProtectDo r
      s).flash = s.flash ∧ (setProtectDo r s).journal = s.journal ∧ (setProtectDo r s).host = s.host ∧ (setProtectDo r s).pcie
      = s.pcie ∧ (setProtectDo r s).log = s.log ∧ (setProtectDo r s).eopen = s.eopen ∧ (setProtectDo r s).ledger = s.ledger ∧
      (setProtectDo r s).sched = s.sched ∧ (setProtectDo r s).tiles = s.tiles ∧ (setProtectDo r s).dram = s.dram ∧
      (setProtectDo r s).assayer = s.assayer ∧ (setProtectDo r s).fabric = s.fabric ∧ (setProtectDo r s).rumbes = s.rumbes :=
      by
  unfold setProtectDo; simp [*]
@[simp] theorem setStringDo_frame (r : Req) (s : State) :
    (setStringDo r s).pending = s.pending ∧ (setStringDo r s).now = s.now ∧ (setStringDo r s).free = s.free ∧ (setStringDo r
      s).out = s.out ∧ (setStringDo r s).sys = s.sys ∧ (setStringDo r s).ka = s.ka ∧ (setStringDo r s).flash = s.flash ∧
      (setStringDo r s).journal = s.journal ∧ (setStringDo r s).host = s.host ∧ (setStringDo r s).pcie = s.pcie ∧ (setStringDo
      r s).log = s.log ∧ (setStringDo r s).eopen = s.eopen ∧ (setStringDo r s).ledger = s.ledger ∧ (setStringDo r s).sched =
      s.sched ∧ (setStringDo r s).tiles = s.tiles ∧ (setStringDo r s).dram = s.dram ∧ (setStringDo r s).assayer = s.assayer ∧
      (setStringDo r s).fabric = s.fabric ∧ (setStringDo r s).rumbes = s.rumbes := by
  unfold setStringDo; simp [*]
@[simp] theorem openAllDo_frame (r : Req) (s : State) :
    (openAllDo r s).pending = s.pending ∧ (openAllDo r s).now = s.now ∧ (openAllDo r s).free = s.free ∧ (openAllDo r s).sys
      = s.sys ∧ (openAllDo r s).ka = s.ka ∧ (openAllDo r s).flash = s.flash ∧ (openAllDo r s).journal = s.journal ∧ (openAllDo
      r s).host = s.host ∧ (openAllDo r s).pcie = s.pcie ∧ (openAllDo r s).log = s.log ∧ (openAllDo r s).foreman = s.foreman ∧
      (openAllDo r s).eopen = s.eopen ∧ (openAllDo r s).ledger = s.ledger ∧ (openAllDo r s).sched = s.sched ∧ (openAllDo r
      s).tiles = s.tiles ∧ (openAllDo r s).dram = s.dram ∧ (openAllDo r s).assayer = s.assayer ∧ (openAllDo r s).fabric =
      s.fabric ∧ (openAllDo r s).rumbes = s.rumbes := by
  unfold openAllDo; simp [*]
@[simp] theorem openStringDo_frame (r : Req) (s : State) :
    (openStringDo r s).pending = s.pending ∧ (openStringDo r s).now = s.now ∧ (openStringDo r s).free = s.free ∧
      (openStringDo r s).sys = s.sys ∧ (openStringDo r s).ka = s.ka ∧ (openStringDo r s).flash = s.flash ∧ (openStringDo r
      s).journal = s.journal ∧ (openStringDo r s).host = s.host ∧ (openStringDo r s).pcie = s.pcie ∧ (openStringDo r s).log =
      s.log ∧ (openStringDo r s).foreman = s.foreman ∧ (openStringDo r s).eopen = s.eopen ∧ (openStringDo r s).ledger =
      s.ledger ∧ (openStringDo r s).sched = s.sched ∧ (openStringDo r s).tiles = s.tiles ∧ (openStringDo r s).dram = s.dram ∧
      (openStringDo r s).assayer = s.assayer ∧ (openStringDo r s).fabric = s.fabric ∧ (openStringDo r s).rumbes = s.rumbes :=
      by
  unfold openStringDo; simp [*]

/-! ### ChainRows -/

@[simp] theorem chainRow_pending (t : Nat) (c : State → Bool) (f : State → State) (s : State) (h_f : ∀ x0, (f
  x0).pending = x0.pending) :
    (chainRow t c f s).pending = s.pending := by
  unfold chainRow; simp -implicitDefEqProofs [*]
@[simp] theorem chainRow_free (t : Nat) (c : State → Bool) (f : State → State) (s : State) (h_f : ∀ x0, (f x0).free =
  x0.free) :
    (chainRow t c f s).free = s.free := by
  unfold chainRow; simp -implicitDefEqProofs [*]
@[simp] theorem chainRow_sys (t : Nat) (c : State → Bool) (f : State → State) (s : State) (h_f : ∀ x0, (f x0).sys =
  x0.sys) :
    (chainRow t c f s).sys = s.sys := by
  unfold chainRow; simp -implicitDefEqProofs [*]
@[simp] theorem chainRow_ka (t : Nat) (c : State → Bool) (f : State → State) (s : State) (h_f : ∀ x0, (f x0).ka = x0.ka)
  :
    (chainRow t c f s).ka = s.ka := by
  unfold chainRow; simp -implicitDefEqProofs [*]
@[simp] theorem chainRow_flash (t : Nat) (c : State → Bool) (f : State → State) (s : State) (h_f : ∀ x0, (f x0).flash =
  x0.flash) :
    (chainRow t c f s).flash = s.flash := by
  unfold chainRow; simp -implicitDefEqProofs [*]
@[simp] theorem chainRow_journal (t : Nat) (c : State → Bool) (f : State → State) (s : State) (h_f : ∀ x0, (f
  x0).journal = x0.journal) :
    (chainRow t c f s).journal = s.journal := by
  unfold chainRow; simp -implicitDefEqProofs [*]
@[simp] theorem chainRow_log (t : Nat) (c : State → Bool) (f : State → State) (s : State) (h_f : ∀ x0, (f x0).log =
  x0.log) :
    (chainRow t c f s).log = s.log := by
  unfold chainRow; simp -implicitDefEqProofs [*]
@[simp] theorem chainRow_foreman (t : Nat) (c : State → Bool) (f : State → State) (s : State) (h_f : ∀ x0, (f
  x0).foreman = x0.foreman) :
    (chainRow t c f s).foreman = s.foreman := by
  unfold chainRow; simp -implicitDefEqProofs [*]
@[simp] theorem chainRow_pairs (t : Nat) (c : State → Bool) (f : State → State) (s : State) (h_f : ∀ x0, (f x0).pairs =
  x0.pairs) :
    (chainRow t c f s).pairs = s.pairs := by
  unfold chainRow; simp -implicitDefEqProofs [*]
@[simp] theorem chainRow_eopen (t : Nat) (c : State → Bool) (f : State → State) (s : State) (h_f : ∀ x0, (f x0).eopen =
  x0.eopen) :
    (chainRow t c f s).eopen = s.eopen := by
  unfold chainRow; simp -implicitDefEqProofs [*]
@[simp] theorem chainRow_ledger (t : Nat) (c : State → Bool) (f : State → State) (s : State) (h_f : ∀ x0, (f x0).ledger
  = x0.ledger) :
    (chainRow t c f s).ledger = s.ledger := by
  unfold chainRow; simp -implicitDefEqProofs [*]
@[simp] theorem chainRow_sched (t : Nat) (c : State → Bool) (f : State → State) (s : State) (h_f : ∀ x0, (f x0).sched =
  x0.sched) :
    (chainRow t c f s).sched = s.sched := by
  unfold chainRow; simp -implicitDefEqProofs [*]
@[simp] theorem chainRow_tiles (t : Nat) (c : State → Bool) (f : State → State) (s : State) (h_f : ∀ x0, (f x0).tiles =
  x0.tiles) :
    (chainRow t c f s).tiles = s.tiles := by
  unfold chainRow; simp -implicitDefEqProofs [*]
@[simp] theorem chainRow_dram (t : Nat) (c : State → Bool) (f : State → State) (s : State) (h_f : ∀ x0, (f x0).dram =
  x0.dram) :
    (chainRow t c f s).dram = s.dram := by
  unfold chainRow; simp -implicitDefEqProofs [*]
@[simp] theorem chainRow_assayer (t : Nat) (c : State → Bool) (f : State → State) (s : State) (h_f : ∀ x0, (f
  x0).assayer = x0.assayer) :
    (chainRow t c f s).assayer = s.assayer := by
  unfold chainRow; simp -implicitDefEqProofs [*]
@[simp] theorem chainRow_fabric (t : Nat) (c : State → Bool) (f : State → State) (s : State) (h_f : ∀ x0, (f x0).fabric
  = x0.fabric) :
    (chainRow t c f s).fabric = s.fabric := by
  unfold chainRow; simp -implicitDefEqProofs [*]
@[simp] theorem chainRow_rumbes (t : Nat) (c : State → Bool) (f : State → State) (s : State) (h_f : ∀ x0, (f x0).rumbes
  = x0.rumbes) :
    (chainRow t c f s).rumbes = s.rumbes := by
  unfold chainRow; simp -implicitDefEqProofs [*]
@[simp] theorem ringBehind_frame (s : State) (p lag period : Nat) :
    (ringBehind s p lag period).pending = s.pending ∧ (ringBehind s p lag period).now = s.now ∧ (ringBehind s p lag
      period).free = s.free ∧ (ringBehind s p lag period).out = s.out ∧ (ringBehind s p lag period).sys = s.sys ∧ (ringBehind
      s p lag period).ka = s.ka ∧ (ringBehind s p lag period).flash = s.flash ∧ (ringBehind s p lag period).journal =
      s.journal ∧ (ringBehind s p lag period).host = s.host ∧ (ringBehind s p lag period).pcie = s.pcie ∧ (ringBehind s p lag
      period).log = s.log ∧ (ringBehind s p lag period).foreman = s.foreman ∧ (ringBehind s p lag period).eopen = s.eopen ∧
      (ringBehind s p lag period).ledger = s.ledger ∧ (ringBehind s p lag period).sched = s.sched ∧ (ringBehind s p lag
      period).tiles = s.tiles ∧ (ringBehind s p lag period).dram = s.dram ∧ (ringBehind s p lag period).assayer = s.assayer ∧
      (ringBehind s p lag period).fabric = s.fabric ∧ (ringBehind s p lag period).rumbes = s.rumbes := by
  unfold ringBehind; simp [*]
@[simp] theorem sweepDueDo_frame (p : Nat) (s : State) :
    (sweepDueDo p s).pending = s.pending ∧ (sweepDueDo p s).now = s.now ∧ (sweepDueDo p s).free = s.free ∧ (sweepDueDo p
      s).sys = s.sys ∧ (sweepDueDo p s).ka = s.ka ∧ (sweepDueDo p s).flash = s.flash ∧ (sweepDueDo p s).journal = s.journal ∧
      (sweepDueDo p s).host = s.host ∧ (sweepDueDo p s).pcie = s.pcie ∧ (sweepDueDo p s).log = s.log ∧ (sweepDueDo p
      s).foreman = s.foreman ∧ (sweepDueDo p s).eopen = s.eopen ∧ (sweepDueDo p s).sched = s.sched ∧ (sweepDueDo p s).tiles =
      s.tiles ∧ (sweepDueDo p s).dram = s.dram ∧ (sweepDueDo p s).assayer = s.assayer ∧ (sweepDueDo p s).fabric = s.fabric ∧
      (sweepDueDo p s).rumbes = s.rumbes := by
  unfold sweepDueDo; simp [*]
@[simp] theorem sweepTimeoutDo_frame (p : Nat) (s : State) :
    (sweepTimeoutDo p s).pending = s.pending ∧ (sweepTimeoutDo p s).now = s.now ∧ (sweepTimeoutDo p s).free = s.free ∧
      (sweepTimeoutDo p s).sys = s.sys ∧ (sweepTimeoutDo p s).ka = s.ka ∧ (sweepTimeoutDo p s).flash = s.flash ∧
      (sweepTimeoutDo p s).journal = s.journal ∧ (sweepTimeoutDo p s).host = s.host ∧ (sweepTimeoutDo p s).pcie = s.pcie ∧
      (sweepTimeoutDo p s).log = s.log ∧ (sweepTimeoutDo p s).foreman = s.foreman ∧ (sweepTimeoutDo p s).eopen = s.eopen ∧
      (sweepTimeoutDo p s).ledger = s.ledger ∧ (sweepTimeoutDo p s).sched = s.sched ∧ (sweepTimeoutDo p s).tiles = s.tiles ∧
      (sweepTimeoutDo p s).dram = s.dram ∧ (sweepTimeoutDo p s).assayer = s.assayer ∧ (sweepTimeoutDo p s).fabric = s.fabric ∧
      (sweepTimeoutDo p s).rumbes = s.rumbes := by
  unfold sweepTimeoutDo; simp [*]
@[simp] theorem readFirst_frame (s : State) (p : Nat) (sd : Side) (cs : List ChainCmd) :
    (readFirst s p sd cs).pending = s.pending ∧ (readFirst s p sd cs).now = s.now ∧ (readFirst s p sd cs).free = s.free ∧
      (readFirst s p sd cs).out = s.out ∧ (readFirst s p sd cs).sys = s.sys ∧ (readFirst s p sd cs).ka = s.ka ∧ (readFirst s p
      sd cs).flash = s.flash ∧ (readFirst s p sd cs).journal = s.journal ∧ (readFirst s p sd cs).host = s.host ∧ (readFirst s
      p sd cs).ports = s.ports ∧ (readFirst s p sd cs).pcie = s.pcie ∧ (readFirst s p sd cs).log = s.log ∧ (readFirst s p sd
      cs).foreman = s.foreman ∧ (readFirst s p sd cs).eopen = s.eopen ∧ (readFirst s p sd cs).ledger = s.ledger ∧ (readFirst s
      p sd cs).sched = s.sched ∧ (readFirst s p sd cs).tiles = s.tiles ∧ (readFirst s p sd cs).dram = s.dram ∧ (readFirst s p
      sd cs).assayer = s.assayer ∧ (readFirst s p sd cs).fabric = s.fabric ∧ (readFirst s p sd cs).rumbes = s.rumbes := by
  unfold readFirst; simp [*]
@[simp] theorem sendBoth_frame (s : State) (p : Nat) :
    (sendBoth s p).pending = s.pending ∧ (sendBoth s p).now = s.now ∧ (sendBoth s p).free = s.free ∧ (sendBoth s p).sys =
      s.sys ∧ (sendBoth s p).flash = s.flash ∧ (sendBoth s p).host = s.host ∧ (sendBoth s p).pcie = s.pcie ∧ (sendBoth s
      p).log = s.log ∧ (sendBoth s p).eopen = s.eopen ∧ (sendBoth s p).sched = s.sched ∧ (sendBoth s p).tiles = s.tiles ∧
      (sendBoth s p).dram = s.dram ∧ (sendBoth s p).assayer = s.assayer ∧ (sendBoth s p).fabric = s.fabric ∧ (sendBoth s
      p).rumbes = s.rumbes := by
  unfold sendBoth; simp [*]
@[simp] theorem retrieveBoth_frame (s : State) (p : Nat) :
    (retrieveBoth s p).pending = s.pending ∧ (retrieveBoth s p).now = s.now ∧ (retrieveBoth s p).free = s.free ∧
      (retrieveBoth s p).sys = s.sys ∧ (retrieveBoth s p).flash = s.flash ∧ (retrieveBoth s p).host = s.host ∧ (retrieveBoth s
      p).pcie = s.pcie ∧ (retrieveBoth s p).log = s.log ∧ (retrieveBoth s p).eopen = s.eopen ∧ (retrieveBoth s p).sched =
      s.sched ∧ (retrieveBoth s p).tiles = s.tiles ∧ (retrieveBoth s p).dram = s.dram ∧ (retrieveBoth s p).assayer = s.assayer
      ∧ (retrieveBoth s p).fabric = s.fabric ∧ (retrieveBoth s p).rumbes = s.rumbes := by
  unfold retrieveBoth; simp [*]
@[simp] theorem collectDueDo_frame (p : Nat) (s : State) :
    (collectDueDo p s).pending = s.pending ∧ (collectDueDo p s).now = s.now ∧ (collectDueDo p s).free = s.free ∧
      (collectDueDo p s).sys = s.sys ∧ (collectDueDo p s).flash = s.flash ∧ (collectDueDo p s).host = s.host ∧ (collectDueDo p
      s).pcie = s.pcie ∧ (collectDueDo p s).log = s.log ∧ (collectDueDo p s).eopen = s.eopen ∧ (collectDueDo p s).sched =
      s.sched ∧ (collectDueDo p s).tiles = s.tiles ∧ (collectDueDo p s).dram = s.dram ∧ (collectDueDo p s).assayer = s.assayer
      ∧ (collectDueDo p s).fabric = s.fabric ∧ (collectDueDo p s).rumbes = s.rumbes := by
  unfold collectDueDo; simp [*]
@[simp] theorem collectTimeoutDo_frame (p : Nat) (s : State) :
    (collectTimeoutDo p s).pending = s.pending ∧ (collectTimeoutDo p s).now = s.now ∧ (collectTimeoutDo p s).free = s.free ∧
      (collectTimeoutDo p s).sys = s.sys ∧ (collectTimeoutDo p s).flash = s.flash ∧ (collectTimeoutDo p s).host = s.host ∧
      (collectTimeoutDo p s).pcie = s.pcie ∧ (collectTimeoutDo p s).log = s.log ∧ (collectTimeoutDo p s).eopen = s.eopen ∧
      (collectTimeoutDo p s).sched = s.sched ∧ (collectTimeoutDo p s).tiles = s.tiles ∧ (collectTimeoutDo p s).dram = s.dram ∧
      (collectTimeoutDo p s).assayer = s.assayer ∧ (collectTimeoutDo p s).fabric = s.fabric ∧ (collectTimeoutDo p s).rumbes =
      s.rumbes := by
  unfold collectTimeoutDo; simp [*]
@[simp] theorem collectRecoveryDo_frame (p : Nat) (s : State) :
    (collectRecoveryDo p s).pending = s.pending ∧ (collectRecoveryDo p s).now = s.now ∧ (collectRecoveryDo p s).free =
      s.free ∧ (collectRecoveryDo p s).sys = s.sys ∧ (collectRecoveryDo p s).flash = s.flash ∧ (collectRecoveryDo p s).host =
      s.host ∧ (collectRecoveryDo p s).pcie = s.pcie ∧ (collectRecoveryDo p s).log = s.log ∧ (collectRecoveryDo p s).eopen =
      s.eopen ∧ (collectRecoveryDo p s).sched = s.sched ∧ (collectRecoveryDo p s).tiles = s.tiles ∧ (collectRecoveryDo p
      s).dram = s.dram ∧ (collectRecoveryDo p s).assayer = s.assayer ∧ (collectRecoveryDo p s).fabric = s.fabric ∧
      (collectRecoveryDo p s).rumbes = s.rumbes := by
  unfold collectRecoveryDo; simp [*]
@[simp] theorem enumBroken_frame (p : Nat) (s : State) :
    (enumBroken p s).pending = s.pending ∧ (enumBroken p s).now = s.now ∧ (enumBroken p s).free = s.free ∧ (enumBroken p
      s).sys = s.sys ∧ (enumBroken p s).flash = s.flash ∧ (enumBroken p s).host = s.host ∧ (enumBroken p s).pcie =
      s.pcie ∧ (enumBroken p s).log = s.log ∧ (enumBroken p s).eopen = s.eopen ∧ (enumBroken p s).sched = s.sched ∧
      (enumBroken p s).tiles = s.tiles ∧ (enumBroken p s).dram = s.dram ∧ (enumBroken p s).assayer = s.assayer ∧
      (enumBroken p s).fabric = s.fabric ∧ (enumBroken p s).rumbes = s.rumbes := by
  unfold enumBroken; simp -implicitDefEqProofs [*, -List.foldl_reverse]
@[simp] theorem portBTimeoutDo_frame (p : Nat) (s : State) :
    (portBTimeoutDo p s).pending = s.pending ∧ (portBTimeoutDo p s).now = s.now ∧ (portBTimeoutDo p s).free = s.free ∧
      (portBTimeoutDo p s).sys = s.sys ∧ (portBTimeoutDo p s).flash = s.flash ∧ (portBTimeoutDo p s).host = s.host ∧
      (portBTimeoutDo p s).pcie = s.pcie ∧ (portBTimeoutDo p s).log = s.log ∧ (portBTimeoutDo p s).eopen = s.eopen ∧
      (portBTimeoutDo p s).sched = s.sched ∧ (portBTimeoutDo p s).tiles = s.tiles ∧ (portBTimeoutDo p s).dram = s.dram ∧
      (portBTimeoutDo p s).assayer = s.assayer ∧ (portBTimeoutDo p s).fabric = s.fabric ∧ (portBTimeoutDo p s).rumbes =
      s.rumbes := by
  unfold portBTimeoutDo; simp -implicitDefEqProofs [*]
@[simp] theorem collectBack_frame (s : State) (p count : Nat) (ok : Bool) :
    (collectBack s p count ok).pending = s.pending ∧ (collectBack s p count ok).now = s.now ∧ (collectBack s p count
      ok).free = s.free ∧ (collectBack s p count ok).out = s.out ∧ (collectBack s p count ok).sys = s.sys ∧ (collectBack s p
      count ok).ka = s.ka ∧ (collectBack s p count ok).flash = s.flash ∧ (collectBack s p count ok).journal = s.journal ∧
      (collectBack s p count ok).host = s.host ∧ (collectBack s p count ok).pcie = s.pcie ∧ (collectBack s p count ok).log =
      s.log ∧ (collectBack s p count ok).foreman = s.foreman ∧ (collectBack s p count ok).eopen = s.eopen ∧ (collectBack s p
      count ok).ledger = s.ledger ∧ (collectBack s p count ok).sched = s.sched ∧ (collectBack s p count ok).tiles = s.tiles ∧
      (collectBack s p count ok).dram = s.dram ∧ (collectBack s p count ok).assayer = s.assayer ∧ (collectBack s p count
      ok).fabric = s.fabric ∧ (collectBack s p count ok).rumbes = s.rumbes := by
  unfold collectBack; simp [*]
@[simp] theorem enumBack_frame (s : State) (p nextId : Nat) (ok : Bool) :
    (enumBack s p nextId ok).pending = s.pending ∧ (enumBack s p nextId ok).now = s.now ∧ (enumBack s p nextId ok).free =
      s.free ∧ (enumBack s p nextId ok).sys = s.sys ∧ (enumBack s p nextId ok).ka = s.ka ∧ (enumBack s p nextId ok).flash =
      s.flash ∧ (enumBack s p nextId ok).journal = s.journal ∧ (enumBack s p nextId ok).host = s.host ∧ (enumBack s p nextId
      ok).pcie = s.pcie ∧ (enumBack s p nextId ok).log = s.log ∧ (enumBack s p nextId ok).foreman = s.foreman ∧ (enumBack s p
      nextId ok).eopen = s.eopen ∧ (enumBack s p nextId ok).ledger = s.ledger ∧ (enumBack s p nextId ok).sched = s.sched ∧
      (enumBack s p nextId ok).tiles = s.tiles ∧ (enumBack s p nextId ok).dram = s.dram ∧ (enumBack s p nextId ok).assayer =
      s.assayer ∧ (enumBack s p nextId ok).fabric = s.fabric ∧ (enumBack s p nextId ok).rumbes = s.rumbes := by
  unfold enumBack; simp [*]
@[simp] theorem testBack_frame (s : State) (p : Nat) (ok : Bool) :
    (testBack s p ok).pending = s.pending ∧ (testBack s p ok).now = s.now ∧ (testBack s p ok).free = s.free ∧ (testBack s p
      ok).out = s.out ∧ (testBack s p ok).sys = s.sys ∧ (testBack s p ok).ka = s.ka ∧ (testBack s p ok).flash = s.flash ∧
      (testBack s p ok).journal = s.journal ∧ (testBack s p ok).host = s.host ∧ (testBack s p ok).ports = s.ports ∧ (testBack
      s p ok).pcie = s.pcie ∧ (testBack s p ok).log = s.log ∧ (testBack s p ok).foreman = s.foreman ∧ (testBack s p ok).eopen
      = s.eopen ∧ (testBack s p ok).ledger = s.ledger ∧ (testBack s p ok).sched = s.sched ∧ (testBack s p ok).tiles = s.tiles
      ∧ (testBack s p ok).dram = s.dram ∧ (testBack s p ok).assayer = s.assayer ∧ (testBack s p ok).fabric = s.fabric ∧
      (testBack s p ok).rumbes = s.rumbes := by
  unfold testBack; simp [*]
@[simp] theorem portBDo_frame (p : Nat) (l : List Chip) (s : State) :
    (portBDo p l s).pending = s.pending ∧ (portBDo p l s).now = s.now ∧ (portBDo p l s).free = s.free ∧ (portBDo p l
      s).sys = s.sys ∧ (portBDo p l s).ka = s.ka ∧ (portBDo p l s).flash = s.flash ∧ (portBDo p l s).journal = s.journal
      ∧ (portBDo p l s).host = s.host ∧ (portBDo p l s).pcie = s.pcie ∧ (portBDo p l s).log = s.log ∧ (portBDo p l
      s).foreman = s.foreman ∧ (portBDo p l s).eopen = s.eopen ∧ (portBDo p l s).ledger = s.ledger ∧ (portBDo p l
      s).sched = s.sched ∧ (portBDo p l s).tiles = s.tiles ∧ (portBDo p l s).dram = s.dram ∧ (portBDo p l s).assayer =
      s.assayer ∧ (portBDo p l s).fabric = s.fabric ∧ (portBDo p l s).rumbes = s.rumbes := by
  unfold portBDo; simp [*]
@[simp] theorem unreached_frame (s : State) (p h : Nat) :
    (unreached s p h).pending = s.pending ∧ (unreached s p h).now = s.now ∧ (unreached s p h).free = s.free ∧ (unreached s p
      h).out = s.out ∧ (unreached s p h).sys = s.sys ∧ (unreached s p h).flash = s.flash ∧ (unreached s p h).journal =
      s.journal ∧ (unreached s p h).host = s.host ∧ (unreached s p h).pcie = s.pcie ∧ (unreached s p h).foreman = s.foreman ∧
      (unreached s p h).pairs = s.pairs ∧ (unreached s p h).eopen = s.eopen ∧ (unreached s p h).sched = s.sched ∧ (unreached s
      p h).tiles = s.tiles ∧ (unreached s p h).dram = s.dram ∧ (unreached s p h).assayer = s.assayer ∧ (unreached s p
      h).fabric = s.fabric ∧ (unreached s p h).rumbes = s.rumbes := by
  unfold unreached; simp [*] <;> (repeat' split) <;> simp [*]
@[simp] theorem retrievalDoneDo_frame (p : Nat) (s : State) :
    (retrievalDoneDo p s).pending = s.pending ∧ (retrievalDoneDo p s).now = s.now ∧ (retrievalDoneDo p s).free = s.free
      ∧ (retrievalDoneDo p s).sys = s.sys ∧ (retrievalDoneDo p s).flash = s.flash ∧ (retrievalDoneDo p s).host = s.host
      ∧ (retrievalDoneDo p s).pcie = s.pcie ∧ (retrievalDoneDo p s).eopen = s.eopen ∧ (retrievalDoneDo p s).sched =
      s.sched ∧ (retrievalDoneDo p s).tiles = s.tiles ∧ (retrievalDoneDo p s).dram = s.dram ∧ (retrievalDoneDo p
      s).assayer = s.assayer ∧ (retrievalDoneDo p s).fabric = s.fabric ∧ (retrievalDoneDo p s).rumbes = s.rumbes := by
  unfold retrievalDoneDo; simp -implicitDefEqProofs [*]
@[simp] theorem isolationDo_frame (p : Nat) (s : State) :
    (isolationDo p s).pending = s.pending ∧ (isolationDo p s).now = s.now ∧ (isolationDo p s).free = s.free ∧
      (isolationDo p s).sys = s.sys ∧ (isolationDo p s).flash = s.flash ∧ (isolationDo p s).host = s.host ∧ (isolationDo
      p s).pcie = s.pcie ∧ (isolationDo p s).eopen = s.eopen ∧ (isolationDo p s).sched = s.sched ∧ (isolationDo p
      s).tiles = s.tiles ∧ (isolationDo p s).dram = s.dram ∧ (isolationDo p s).assayer = s.assayer ∧ (isolationDo p
      s).fabric = s.fabric ∧ (isolationDo p s).rumbes = s.rumbes := by
  unfold isolationDo; simp [*] <;> (repeat' split) <;> simp [*]
@[simp] theorem keepRecord_frame (s : State) (p h : Nat) (b : List Byte) :
    (keepRecord s p h b).pending = s.pending ∧ (keepRecord s p h b).now = s.now ∧ (keepRecord s p h b).free = s.free ∧
      (keepRecord s p h b).out = s.out ∧ (keepRecord s p h b).sys = s.sys ∧ (keepRecord s p h b).ka = s.ka ∧ (keepRecord s p h
      b).flash = s.flash ∧ (keepRecord s p h b).journal = s.journal ∧ (keepRecord s p h b).host = s.host ∧ (keepRecord s p h
      b).ports = s.ports ∧ (keepRecord s p h b).pcie = s.pcie ∧ (keepRecord s p h b).log = s.log ∧ (keepRecord s p h
      b).foreman = s.foreman ∧ (keepRecord s p h b).eopen = s.eopen ∧ (keepRecord s p h b).ledger = s.ledger ∧ (keepRecord s p
      h b).sched = s.sched ∧ (keepRecord s p h b).tiles = s.tiles ∧ (keepRecord s p h b).dram = s.dram ∧ (keepRecord s p h
      b).assayer = s.assayer ∧ (keepRecord s p h b).fabric = s.fabric ∧ (keepRecord s p h b).rumbes = s.rumbes := by
  unfold keepRecord; simp [*]
@[simp] theorem trainRecord_frame (s : State) (p : Nat) (ok : Bool) :
    (trainRecord s p ok).pending = s.pending ∧ (trainRecord s p ok).now = s.now ∧ (trainRecord s p ok).free = s.free ∧
      (trainRecord s p ok).out = s.out ∧ (trainRecord s p ok).sys = s.sys ∧ (trainRecord s p ok).ka = s.ka ∧ (trainRecord s p
      ok).flash = s.flash ∧ (trainRecord s p ok).journal = s.journal ∧ (trainRecord s p ok).host = s.host ∧ (trainRecord s p
      ok).ports = s.ports ∧ (trainRecord s p ok).pcie = s.pcie ∧ (trainRecord s p ok).log = s.log ∧ (trainRecord s p
      ok).foreman = s.foreman ∧ (trainRecord s p ok).eopen = s.eopen ∧ (trainRecord s p ok).ledger = s.ledger ∧ (trainRecord s
      p ok).sched = s.sched ∧ (trainRecord s p ok).tiles = s.tiles ∧ (trainRecord s p ok).dram = s.dram ∧ (trainRecord s p
      ok).assayer = s.assayer ∧ (trainRecord s p ok).fabric = s.fabric ∧ (trainRecord s p ok).rumbes = s.rumbes := by
  unfold trainRecord; simp [*]
@[simp] theorem readDone_frame (s : State) (p : Nat) (sd : Side) (o : Outstanding) (b : List Byte) :
    (readDone s p sd o b).pending = s.pending ∧ (readDone s p sd o b).now = s.now ∧ (readDone s p sd o b).free = s.free ∧
      (readDone s p sd o b).sys = s.sys ∧ (readDone s p sd o b).ka = s.ka ∧ (readDone s p sd o b).flash = s.flash ∧ (readDone
      s p sd o b).journal = s.journal ∧ (readDone s p sd o b).host = s.host ∧ (readDone s p sd o b).pcie = s.pcie ∧ (readDone
      s p sd o b).log = s.log ∧ (readDone s p sd o b).eopen = s.eopen ∧ (readDone s p sd o b).ledger = s.ledger ∧ (readDone s
      p sd o b).sched = s.sched ∧ (readDone s p sd o b).tiles = s.tiles ∧ (readDone s p sd o b).dram = s.dram ∧ (readDone s p
      sd o b).assayer = s.assayer ∧ (readDone s p sd o b).fabric = s.fabric ∧ (readDone s p sd o b).rumbes = s.rumbes := by
  unfold readDone; split <;> simp [*]
@[simp] theorem recordDo_frame (d : Dev) (l : List Chip) (s : State) :
    (recordDo d l s).pending = s.pending ∧ (recordDo d l s).free = s.free ∧ (recordDo d l s).flash = s.flash ∧ (recordDo
      d l s).host = s.host ∧ (recordDo d l s).pcie = s.pcie ∧ (recordDo d l s).eopen = s.eopen ∧ (recordDo d l s).tiles
      = s.tiles ∧ (recordDo d l s).dram = s.dram ∧ (recordDo d l s).fabric = s.fabric ∧ (recordDo d l s).rumbes =
      s.rumbes := by
  unfold recordDo; dsimp only; (repeat' split) <;> simp -implicitDefEqProofs [*]
@[simp] theorem ringTestDueDo_frame (p : Nat) (sd : Side) (s : State) :
    (ringTestDueDo p sd s).pending = s.pending ∧ (ringTestDueDo p sd s).now = s.now ∧ (ringTestDueDo p sd s).free = s.free ∧
      (ringTestDueDo p sd s).sys = s.sys ∧ (ringTestDueDo p sd s).ka = s.ka ∧ (ringTestDueDo p sd s).flash = s.flash ∧
      (ringTestDueDo p sd s).journal = s.journal ∧ (ringTestDueDo p sd s).host = s.host ∧ (ringTestDueDo p sd s).pcie = s.pcie
      ∧ (ringTestDueDo p sd s).log = s.log ∧ (ringTestDueDo p sd s).foreman = s.foreman ∧ (ringTestDueDo p sd s).eopen =
      s.eopen ∧ (ringTestDueDo p sd s).ledger = s.ledger ∧ (ringTestDueDo p sd s).sched = s.sched ∧ (ringTestDueDo p sd
      s).tiles = s.tiles ∧ (ringTestDueDo p sd s).dram = s.dram ∧ (ringTestDueDo p sd s).assayer = s.assayer ∧ (ringTestDueDo
      p sd s).fabric = s.fabric ∧ (ringTestDueDo p sd s).rumbes = s.rumbes := by
  unfold ringTestDueDo; split <;> simp [*]
@[simp] theorem wakeDoneDo_frame (p : Nat) (s : State) :
    (wakeDoneDo p s).pending = s.pending ∧ (wakeDoneDo p s).now = s.now ∧ (wakeDoneDo p s).sys = s.sys ∧ (wakeDoneDo p
      s).ka = s.ka ∧ (wakeDoneDo p s).flash = s.flash ∧ (wakeDoneDo p s).journal = s.journal ∧ (wakeDoneDo p s).host =
      s.host ∧ (wakeDoneDo p s).pcie = s.pcie ∧ (wakeDoneDo p s).log = s.log ∧ (wakeDoneDo p s).eopen = s.eopen ∧
      (wakeDoneDo p s).ledger = s.ledger ∧ (wakeDoneDo p s).sched = s.sched ∧ (wakeDoneDo p s).tiles = s.tiles ∧ (wakeDoneDo
      p s).dram = s.dram ∧ (wakeDoneDo p s).assayer = s.assayer ∧ (wakeDoneDo p s).fabric = s.fabric ∧ (wakeDoneDo p
      s).rumbes = s.rumbes := by
  unfold wakeDoneDo; split <;> simp [*] <;> (repeat' split) <;> simp [*]
@[simp] theorem pairRuns_frame (p : Nat) (s : State) :
    (pairRuns p s).pending = s.pending ∧ (pairRuns p s).now = s.now ∧ (pairRuns p s).free = s.free ∧ (pairRuns p s).out
      = s.out ∧ (pairRuns p s).sys = s.sys ∧ (pairRuns p s).ka = s.ka ∧ (pairRuns p s).flash = s.flash ∧ (pairRuns p
      s).journal = s.journal ∧ (pairRuns p s).host = s.host ∧ (pairRuns p s).pcie = s.pcie ∧ (pairRuns p s).log = s.log
      ∧ (pairRuns p s).foreman = s.foreman ∧ (pairRuns p s).eopen = s.eopen ∧ (pairRuns p s).ledger = s.ledger ∧
      (pairRuns p s).sched = s.sched ∧ (pairRuns p s).tiles = s.tiles ∧ (pairRuns p s).dram = s.dram ∧ (pairRuns p
      s).assayer = s.assayer ∧ (pairRuns p s).fabric = s.fabric ∧ (pairRuns p s).rumbes = s.rumbes := by
  unfold pairRuns; simp -implicitDefEqProofs [*]
@[simp] theorem enumerationDoneDo_frame (p : Nat) (s : State) :
    (enumerationDoneDo p s).pending = s.pending ∧ (enumerationDoneDo p s).now = s.now ∧ (enumerationDoneDo p s).free =
      s.free ∧ (enumerationDoneDo p s).out = s.out ∧ (enumerationDoneDo p s).sys = s.sys ∧ (enumerationDoneDo p s).ka =
      s.ka ∧ (enumerationDoneDo p s).flash = s.flash ∧ (enumerationDoneDo p s).journal = s.journal ∧ (enumerationDoneDo
      p s).host = s.host ∧ (enumerationDoneDo p s).pcie = s.pcie ∧ (enumerationDoneDo p s).log = s.log ∧
      (enumerationDoneDo p s).eopen = s.eopen ∧ (enumerationDoneDo p s).ledger = s.ledger ∧ (enumerationDoneDo p
      s).sched = s.sched ∧ (enumerationDoneDo p s).tiles = s.tiles ∧ (enumerationDoneDo p s).dram = s.dram ∧
      (enumerationDoneDo p s).assayer = s.assayer ∧ (enumerationDoneDo p s).fabric = s.fabric ∧ (enumerationDoneDo p
      s).rumbes = s.rumbes := by
  unfold enumerationDoneDo; simp [*]
@[simp] theorem urgentRxDo_frame (p : Nat) (sd : Side) (u : List Byte) (s : State) :
    (urgentRxDo p sd u s).pending = s.pending ∧ (urgentRxDo p sd u s).now = s.now ∧ (urgentRxDo p sd u s).free = s.free
      ∧ (urgentRxDo p sd u s).out = s.out ∧ (urgentRxDo p sd u s).sys = s.sys ∧ (urgentRxDo p sd u s).ka = s.ka ∧
      (urgentRxDo p sd u s).flash = s.flash ∧ (urgentRxDo p sd u s).journal = s.journal ∧ (urgentRxDo p sd u s).host =
      s.host ∧ (urgentRxDo p sd u s).pcie = s.pcie ∧ (urgentRxDo p sd u s).log = s.log ∧ (urgentRxDo p sd u s).foreman =
      s.foreman ∧ (urgentRxDo p sd u s).eopen = s.eopen ∧ (urgentRxDo p sd u s).ledger = s.ledger ∧ (urgentRxDo p sd u
      s).sched = s.sched ∧ (urgentRxDo p sd u s).tiles = s.tiles ∧ (urgentRxDo p sd u s).dram = s.dram ∧ (urgentRxDo p
      sd u s).assayer = s.assayer ∧ (urgentRxDo p sd u s).fabric = s.fabric ∧ (urgentRxDo p sd u s).rumbes = s.rumbes :=
      by
  unfold urgentRxDo; simp [*]
@[simp] theorem brorosCut_frame (p : Nat) (sd : Side) (s : State) :
    (brorosCut p sd s).pending = s.pending ∧ (brorosCut p sd s).now = s.now ∧ (brorosCut p sd s).free = s.free ∧ (brorosCut
      p sd s).out = s.out ∧ (brorosCut p sd s).sys = s.sys ∧ (brorosCut p sd s).flash = s.flash ∧ (brorosCut p sd s).journal =
      s.journal ∧ (brorosCut p sd s).host = s.host ∧ (brorosCut p sd s).pcie = s.pcie ∧ (brorosCut p sd s).foreman = s.foreman
      ∧ (brorosCut p sd s).eopen = s.eopen ∧ (brorosCut p sd s).ledger = s.ledger ∧ (brorosCut p sd s).sched = s.sched ∧
      (brorosCut p sd s).tiles = s.tiles ∧ (brorosCut p sd s).dram = s.dram ∧ (brorosCut p sd s).assayer = s.assayer ∧
      (brorosCut p sd s).fabric = s.fabric ∧ (brorosCut p sd s).rumbes = s.rumbes := by
  unfold brorosCut; simp [*]
@[simp] theorem eopenAcceptDo_frame (s : State) :
    (eopenAcceptDo s).pending = s.pending ∧ (eopenAcceptDo s).now = s.now ∧ (eopenAcceptDo s).free = s.free ∧ (eopenAcceptDo
      s).sys = s.sys ∧ (eopenAcceptDo s).ka = s.ka ∧ (eopenAcceptDo s).flash = s.flash ∧ (eopenAcceptDo s).journal = s.journal
      ∧ (eopenAcceptDo s).host = s.host ∧ (eopenAcceptDo s).pcie = s.pcie ∧ (eopenAcceptDo s).log = s.log ∧ (eopenAcceptDo
      s).foreman = s.foreman ∧ (eopenAcceptDo s).ledger = s.ledger ∧ (eopenAcceptDo s).sched = s.sched ∧ (eopenAcceptDo
      s).tiles = s.tiles ∧ (eopenAcceptDo s).dram = s.dram ∧ (eopenAcceptDo s).assayer = s.assayer ∧ (eopenAcceptDo s).fabric
      = s.fabric ∧ (eopenAcceptDo s).rumbes = s.rumbes := by
  unfold eopenAcceptDo; simp [*]
@[simp] theorem eopenRepeatDo_frame (low : Bool) (s : State) :
    (eopenRepeatDo low s).pending = s.pending ∧ (eopenRepeatDo low s).now = s.now ∧ (eopenRepeatDo low s).free = s.free ∧
      (eopenRepeatDo low s).sys = s.sys ∧ (eopenRepeatDo low s).ka = s.ka ∧ (eopenRepeatDo low s).flash = s.flash ∧
      (eopenRepeatDo low s).journal = s.journal ∧ (eopenRepeatDo low s).host = s.host ∧ (eopenRepeatDo low s).pcie = s.pcie ∧
      (eopenRepeatDo low s).log = s.log ∧ (eopenRepeatDo low s).foreman = s.foreman ∧ (eopenRepeatDo low s).ledger = s.ledger
      ∧ (eopenRepeatDo low s).sched = s.sched ∧ (eopenRepeatDo low s).tiles = s.tiles ∧ (eopenRepeatDo low s).dram = s.dram ∧
      (eopenRepeatDo low s).assayer = s.assayer ∧ (eopenRepeatDo low s).fabric = s.fabric ∧ (eopenRepeatDo low s).rumbes =
      s.rumbes := by
  unfold eopenRepeatDo; simp [*]

/-! ### LedgerCmds -/

@[simp] theorem anchorTaperDo_frame (c : Nat) (s : State) :
    (anchorTaperDo c s).pending = s.pending ∧ (anchorTaperDo c s).now = s.now ∧ (anchorTaperDo c s).free = s.free ∧
      (anchorTaperDo c s).out = s.out ∧ (anchorTaperDo c s).sys = s.sys ∧ (anchorTaperDo c s).flash = s.flash ∧ (anchorTaperDo
      c s).journal = s.journal ∧ (anchorTaperDo c s).host = s.host ∧ (anchorTaperDo c s).pcie = s.pcie ∧ (anchorTaperDo c
      s).log = s.log ∧ (anchorTaperDo c s).foreman = s.foreman ∧ (anchorTaperDo c s).pairs = s.pairs ∧ (anchorTaperDo c
      s).eopen = s.eopen ∧ (anchorTaperDo c s).sched = s.sched ∧ (anchorTaperDo c s).tiles = s.tiles ∧ (anchorTaperDo c
      s).dram = s.dram ∧ (anchorTaperDo c s).fabric = s.fabric ∧ (anchorTaperDo c s).rumbes = s.rumbes := by
  unfold anchorTaperDo; split <;> simp [*]
@[simp] theorem anchorTermDo_frame (n : Nat) (s : State) :
    (anchorTermDo n s).pending = s.pending ∧ (anchorTermDo n s).now = s.now ∧ (anchorTermDo n s).free = s.free ∧
      (anchorTermDo n s).out = s.out ∧ (anchorTermDo n s).sys = s.sys ∧ (anchorTermDo n s).flash = s.flash ∧ (anchorTermDo n
      s).journal = s.journal ∧ (anchorTermDo n s).host = s.host ∧ (anchorTermDo n s).pcie = s.pcie ∧ (anchorTermDo n s).log =
      s.log ∧ (anchorTermDo n s).foreman = s.foreman ∧ (anchorTermDo n s).pairs = s.pairs ∧ (anchorTermDo n s).eopen = s.eopen
      ∧ (anchorTermDo n s).sched = s.sched ∧ (anchorTermDo n s).tiles = s.tiles ∧ (anchorTermDo n s).dram = s.dram ∧
      (anchorTermDo n s).fabric = s.fabric ∧ (anchorTermDo n s).rumbes = s.rumbes := by
  unfold anchorTermDo; simp [*]
@[simp] theorem emptyAnchor_frame (s : State) (c : Nat) :
    (emptyAnchor s c).pending = s.pending ∧ (emptyAnchor s c).now = s.now ∧ (emptyAnchor s c).free = s.free ∧ (emptyAnchor s
      c).out = s.out ∧ (emptyAnchor s c).sys = s.sys ∧ (emptyAnchor s c).ka = s.ka ∧ (emptyAnchor s c).flash = s.flash ∧
      (emptyAnchor s c).journal = s.journal ∧ (emptyAnchor s c).host = s.host ∧ (emptyAnchor s c).ports = s.ports ∧
      (emptyAnchor s c).pcie = s.pcie ∧ (emptyAnchor s c).log = s.log ∧ (emptyAnchor s c).foreman = s.foreman ∧ (emptyAnchor s
      c).pairs = s.pairs ∧ (emptyAnchor s c).eopen = s.eopen ∧ (emptyAnchor s c).sched = s.sched ∧ (emptyAnchor s c).tiles =
      s.tiles ∧ (emptyAnchor s c).dram = s.dram ∧ (emptyAnchor s c).fabric = s.fabric ∧ (emptyAnchor s c).rumbes = s.rumbes :=
      by
  unfold emptyAnchor; simp [*]
@[simp] theorem completeCycle_frame (s : State) (n : Nat) :
    (completeCycle s n).pending = s.pending ∧ (completeCycle s n).now = s.now ∧ (completeCycle s n).free = s.free ∧
      (completeCycle s n).out = s.out ∧ (completeCycle s n).sys = s.sys ∧ (completeCycle s n).flash = s.flash ∧ (completeCycle
      s n).host = s.host ∧ (completeCycle s n).pcie = s.pcie ∧ (completeCycle s n).log = s.log ∧ (completeCycle s n).foreman =
      s.foreman ∧ (completeCycle s n).pairs = s.pairs ∧ (completeCycle s n).eopen = s.eopen ∧ (completeCycle s n).sched =
      s.sched ∧ (completeCycle s n).tiles = s.tiles ∧ (completeCycle s n).dram = s.dram ∧ (completeCycle s n).fabric =
      s.fabric ∧ (completeCycle s n).rumbes = s.rumbes := by
  unfold completeCycle; simp [*]
@[simp] theorem anchorEmptyDo_frame (c : Nat) (s : State) :
    (anchorEmptyDo c s).pending = s.pending ∧ (anchorEmptyDo c s).now = s.now ∧ (anchorEmptyDo c s).free = s.free ∧
      (anchorEmptyDo c s).out = s.out ∧ (anchorEmptyDo c s).sys = s.sys ∧ (anchorEmptyDo c s).flash = s.flash ∧ (anchorEmptyDo
      c s).host = s.host ∧ (anchorEmptyDo c s).pcie = s.pcie ∧ (anchorEmptyDo c s).log = s.log ∧ (anchorEmptyDo c s).foreman =
      s.foreman ∧ (anchorEmptyDo c s).pairs = s.pairs ∧ (anchorEmptyDo c s).eopen = s.eopen ∧ (anchorEmptyDo c s).sched =
      s.sched ∧ (anchorEmptyDo c s).tiles = s.tiles ∧ (anchorEmptyDo c s).dram = s.dram ∧ (anchorEmptyDo c s).fabric =
      s.fabric ∧ (anchorEmptyDo c s).rumbes = s.rumbes := by
  unfold anchorEmptyDo; split <;> simp [*]
@[simp] theorem termEvent_frame (s : State) (n : Nat) :
    (termEvent s n).pending = s.pending ∧ (termEvent s n).now = s.now ∧ (termEvent s n).free = s.free ∧ (termEvent s n).out
      = s.out ∧ (termEvent s n).sys = s.sys ∧ (termEvent s n).ka = s.ka ∧ (termEvent s n).flash = s.flash ∧ (termEvent s
      n).journal = s.journal ∧ (termEvent s n).host = s.host ∧ (termEvent s n).ports = s.ports ∧ (termEvent s n).pcie = s.pcie
      ∧ (termEvent s n).log = s.log ∧ (termEvent s n).foreman = s.foreman ∧ (termEvent s n).pairs = s.pairs ∧ (termEvent s
      n).eopen = s.eopen ∧ (termEvent s n).sched = s.sched ∧ (termEvent s n).tiles = s.tiles ∧ (termEvent s n).dram = s.dram ∧
      (termEvent s n).assayer = s.assayer ∧ (termEvent s n).fabric = s.fabric ∧ (termEvent s n).rumbes = s.rumbes := by
  unfold termEvent; split <;> simp [*]
@[simp] theorem gpioTermDo_frame (g : Nat) (s : State) :
    (gpioTermDo g s).pending = s.pending ∧ (gpioTermDo g s).now = s.now ∧ (gpioTermDo g s).free = s.free ∧ (gpioTermDo g
      s).out = s.out ∧ (gpioTermDo g s).sys = s.sys ∧ (gpioTermDo g s).ka = s.ka ∧ (gpioTermDo g s).flash = s.flash ∧
      (gpioTermDo g s).journal = s.journal ∧ (gpioTermDo g s).host = s.host ∧ (gpioTermDo g s).ports = s.ports ∧ (gpioTermDo g
      s).pcie = s.pcie ∧ (gpioTermDo g s).log = s.log ∧ (gpioTermDo g s).foreman = s.foreman ∧ (gpioTermDo g s).pairs =
      s.pairs ∧ (gpioTermDo g s).eopen = s.eopen ∧ (gpioTermDo g s).sched = s.sched ∧ (gpioTermDo g s).tiles = s.tiles ∧
      (gpioTermDo g s).dram = s.dram ∧ (gpioTermDo g s).assayer = s.assayer ∧ (gpioTermDo g s).fabric = s.fabric ∧ (gpioTermDo
      g s).rumbes = s.rumbes := by
  unfold gpioTermDo; simp [*]
@[simp] theorem keepStr_frame (s : State) (n : Nat) (x : StrSet) :
    (keepStr s n x).pending = s.pending ∧ (keepStr s n x).now = s.now ∧ (keepStr s n x).free = s.free ∧ (keepStr s n x).out
      = s.out ∧ (keepStr s n x).sys = s.sys ∧ (keepStr s n x).flash = s.flash ∧ (keepStr s n x).host = s.host ∧ (keepStr s n
      x).ports = s.ports ∧ (keepStr s n x).pcie = s.pcie ∧ (keepStr s n x).log = s.log ∧ (keepStr s n x).foreman = s.foreman ∧
      (keepStr s n x).pairs = s.pairs ∧ (keepStr s n x).eopen = s.eopen ∧ (keepStr s n x).sched = s.sched ∧ (keepStr s n
      x).tiles = s.tiles ∧ (keepStr s n x).dram = s.dram ∧ (keepStr s n x).assayer = s.assayer ∧ (keepStr s n x).fabric =
      s.fabric ∧ (keepStr s n x).rumbes = s.rumbes := by
  unfold keepStr; simp [*]
@[simp] theorem setLedgerDo_frame (r : Req) (s : State) :
    (setLedgerDo r s).pending = s.pending ∧ (setLedgerDo r s).now = s.now ∧ (setLedgerDo r s).free = s.free ∧ (setLedgerDo r
      s).out = s.out ∧ (setLedgerDo r s).sys = s.sys ∧ (setLedgerDo r s).flash = s.flash ∧ (setLedgerDo r s).host = s.host ∧
      (setLedgerDo r s).pcie = s.pcie ∧ (setLedgerDo r s).log = s.log ∧ (setLedgerDo r s).foreman = s.foreman ∧ (setLedgerDo r
      s).pairs = s.pairs ∧ (setLedgerDo r s).eopen = s.eopen ∧ (setLedgerDo r s).sched = s.sched ∧ (setLedgerDo r s).tiles =
      s.tiles ∧ (setLedgerDo r s).dram = s.dram ∧ (setLedgerDo r s).assayer = s.assayer ∧ (setLedgerDo r s).fabric = s.fabric
      ∧ (setLedgerDo r s).rumbes = s.rumbes := by
  unfold setLedgerDo; split <;> simp [*]
@[simp] theorem stringLedgerDo_frame (r : Req) (s : State) :
    (stringLedgerDo r s).pending = s.pending ∧ (stringLedgerDo r s).now = s.now ∧ (stringLedgerDo r s).free = s.free ∧
      (stringLedgerDo r s).out = s.out ∧ (stringLedgerDo r s).sys = s.sys ∧ (stringLedgerDo r s).ka = s.ka ∧ (stringLedgerDo r
      s).flash = s.flash ∧ (stringLedgerDo r s).journal = s.journal ∧ (stringLedgerDo r s).host = s.host ∧ (stringLedgerDo r
      s).pcie = s.pcie ∧ (stringLedgerDo r s).log = s.log ∧ (stringLedgerDo r s).foreman = s.foreman ∧ (stringLedgerDo r
      s).pairs = s.pairs ∧ (stringLedgerDo r s).eopen = s.eopen ∧ (stringLedgerDo r s).ledger = s.ledger ∧ (stringLedgerDo r
      s).sched = s.sched ∧ (stringLedgerDo r s).tiles = s.tiles ∧ (stringLedgerDo r s).dram = s.dram ∧ (stringLedgerDo r
      s).assayer = s.assayer ∧ (stringLedgerDo r s).fabric = s.fabric ∧ (stringLedgerDo r s).rumbes = s.rumbes := by
  unfold stringLedgerDo; simp [*] <;> (repeat' split) <;> simp [*]
@[simp] theorem cellLedgerDo_frame (r : Req) (s : State) :
    (cellLedgerDo r s).pending = s.pending ∧ (cellLedgerDo r s).now = s.now ∧ (cellLedgerDo r s).free = s.free ∧
      (cellLedgerDo r s).out = s.out ∧ (cellLedgerDo r s).sys = s.sys ∧ (cellLedgerDo r s).ka = s.ka ∧ (cellLedgerDo r
      s).flash = s.flash ∧ (cellLedgerDo r s).journal = s.journal ∧ (cellLedgerDo r s).host = s.host ∧ (cellLedgerDo r s).pcie
      = s.pcie ∧ (cellLedgerDo r s).log = s.log ∧ (cellLedgerDo r s).foreman = s.foreman ∧ (cellLedgerDo r s).pairs = s.pairs
      ∧ (cellLedgerDo r s).eopen = s.eopen ∧ (cellLedgerDo r s).ledger = s.ledger ∧ (cellLedgerDo r s).sched = s.sched ∧
      (cellLedgerDo r s).tiles = s.tiles ∧ (cellLedgerDo r s).dram = s.dram ∧ (cellLedgerDo r s).assayer = s.assayer ∧
      (cellLedgerDo r s).fabric = s.fabric ∧ (cellLedgerDo r s).rumbes = s.rumbes := by
  unfold cellLedgerDo; simp [*]
@[simp] theorem terminateDo_frame (r : Req) (s : State) :
    (terminateDo r s).pending = s.pending ∧ (terminateDo r s).now = s.now ∧ (terminateDo r s).free = s.free ∧ (terminateDo r
      s).out = s.out ∧ (terminateDo r s).sys = s.sys ∧ (terminateDo r s).ka = s.ka ∧ (terminateDo r s).flash = s.flash ∧
      (terminateDo r s).journal = s.journal ∧ (terminateDo r s).host = s.host ∧ (terminateDo r s).pcie = s.pcie ∧ (terminateDo
      r s).log = s.log ∧ (terminateDo r s).foreman = s.foreman ∧ (terminateDo r s).pairs = s.pairs ∧ (terminateDo r s).eopen =
      s.eopen ∧ (terminateDo r s).sched = s.sched ∧ (terminateDo r s).tiles = s.tiles ∧ (terminateDo r s).dram = s.dram ∧
      (terminateDo r s).assayer = s.assayer ∧ (terminateDo r s).fabric = s.fabric ∧ (terminateDo r s).rumbes = s.rumbes := by
  unfold terminateDo; split <;> simp [*]
@[simp] theorem lcArmDo_frame (r : Req) (s : State) :
    (lcArmDo r s).pending = s.pending ∧ (lcArmDo r s).now = s.now ∧ (lcArmDo r s).free = s.free ∧ (lcArmDo r s).out = s.out
      ∧ (lcArmDo r s).sys = s.sys ∧ (lcArmDo r s).ka = s.ka ∧ (lcArmDo r s).flash = s.flash ∧ (lcArmDo r s).journal =
      s.journal ∧ (lcArmDo r s).host = s.host ∧ (lcArmDo r s).pcie = s.pcie ∧ (lcArmDo r s).log = s.log ∧ (lcArmDo r
      s).foreman = s.foreman ∧ (lcArmDo r s).pairs = s.pairs ∧ (lcArmDo r s).eopen = s.eopen ∧ (lcArmDo r s).sched = s.sched ∧
      (lcArmDo r s).tiles = s.tiles ∧ (lcArmDo r s).dram = s.dram ∧ (lcArmDo r s).assayer = s.assayer ∧ (lcArmDo r s).fabric =
      s.fabric ∧ (lcArmDo r s).rumbes = s.rumbes := by
  unfold lcArmDo; simp -implicitDefEqProofs [*] <;> (repeat' split) <;> simp -implicitDefEqProofs [*]
@[simp] theorem lcAbortDo_frame (r : Req) (s : State) :
    (lcAbortDo r s).pending = s.pending ∧ (lcAbortDo r s).now = s.now ∧ (lcAbortDo r s).free = s.free ∧ (lcAbortDo r s).out
      = s.out ∧ (lcAbortDo r s).sys = s.sys ∧ (lcAbortDo r s).ka = s.ka ∧ (lcAbortDo r s).flash = s.flash ∧ (lcAbortDo r
      s).journal = s.journal ∧ (lcAbortDo r s).host = s.host ∧ (lcAbortDo r s).pcie = s.pcie ∧ (lcAbortDo r s).log = s.log ∧
      (lcAbortDo r s).foreman = s.foreman ∧ (lcAbortDo r s).pairs = s.pairs ∧ (lcAbortDo r s).eopen = s.eopen ∧ (lcAbortDo r
      s).sched = s.sched ∧ (lcAbortDo r s).tiles = s.tiles ∧ (lcAbortDo r s).dram = s.dram ∧ (lcAbortDo r s).assayer =
      s.assayer ∧ (lcAbortDo r s).fabric = s.fabric ∧ (lcAbortDo r s).rumbes = s.rumbes := by
  unfold lcAbortDo; simp [*] <;> (repeat' split) <;> simp [*]
@[simp] theorem ledgerResetDo_frame (r : Req) (s : State) :
    (ledgerResetDo r s).pending = s.pending ∧ (ledgerResetDo r s).now = s.now ∧ (ledgerResetDo r s).free = s.free ∧
      (ledgerResetDo r s).out = s.out ∧ (ledgerResetDo r s).sys = s.sys ∧ (ledgerResetDo r s).ka = s.ka ∧ (ledgerResetDo r
      s).flash = s.flash ∧ (ledgerResetDo r s).journal = s.journal ∧ (ledgerResetDo r s).host = s.host ∧ (ledgerResetDo r
      s).pcie = s.pcie ∧ (ledgerResetDo r s).log = s.log ∧ (ledgerResetDo r s).foreman = s.foreman ∧ (ledgerResetDo r s).pairs
      = s.pairs ∧ (ledgerResetDo r s).eopen = s.eopen ∧ (ledgerResetDo r s).sched = s.sched ∧ (ledgerResetDo r s).tiles =
      s.tiles ∧ (ledgerResetDo r s).dram = s.dram ∧ (ledgerResetDo r s).fabric = s.fabric ∧ (ledgerResetDo r s).rumbes =
      s.rumbes := by
  unfold ledgerResetDo; split <;> simp [*]
@[simp] theorem mapGpioDo_frame (r : Req) (s : State) :
    (mapGpioDo r s).pending = s.pending ∧ (mapGpioDo r s).now = s.now ∧ (mapGpioDo r s).free = s.free ∧ (mapGpioDo r s).out
      = s.out ∧ (mapGpioDo r s).sys = s.sys ∧ (mapGpioDo r s).flash = s.flash ∧ (mapGpioDo r s).host = s.host ∧ (mapGpioDo r
      s).pcie = s.pcie ∧ (mapGpioDo r s).log = s.log ∧ (mapGpioDo r s).foreman = s.foreman ∧ (mapGpioDo r s).pairs = s.pairs ∧
      (mapGpioDo r s).eopen = s.eopen ∧ (mapGpioDo r s).sched = s.sched ∧ (mapGpioDo r s).tiles = s.tiles ∧ (mapGpioDo r
      s).dram = s.dram ∧ (mapGpioDo r s).assayer = s.assayer ∧ (mapGpioDo r s).fabric = s.fabric ∧ (mapGpioDo r s).rumbes =
      s.rumbes := by
  unfold mapGpioDo; simp [*] <;> (repeat' split) <;> simp [*]
@[simp] theorem ledgerRow_pending (t : Nat) (c : State → Bool) (f : State → State) (s : State) (h_f : ∀ x0, (f
  x0).pending = x0.pending) :
    (ledgerRow t c f s).pending = s.pending := by
  unfold ledgerRow; simp -implicitDefEqProofs [*]
@[simp] theorem ledgerRow_free (t : Nat) (c : State → Bool) (f : State → State) (s : State) (h_f : ∀ x0, (f x0).free =
  x0.free) :
    (ledgerRow t c f s).free = s.free := by
  unfold ledgerRow; simp -implicitDefEqProofs [*]
@[simp] theorem ledgerRow_sys (t : Nat) (c : State → Bool) (f : State → State) (s : State) (h_f : ∀ x0, (f x0).sys =
  x0.sys) :
    (ledgerRow t c f s).sys = s.sys := by
  unfold ledgerRow; simp -implicitDefEqProofs [*]
@[simp] theorem ledgerRow_ka (t : Nat) (c : State → Bool) (f : State → State) (s : State) (h_f : ∀ x0, (f x0).ka =
  x0.ka) :
    (ledgerRow t c f s).ka = s.ka := by
  unfold ledgerRow; simp -implicitDefEqProofs [*]
@[simp] theorem ledgerRow_flash (t : Nat) (c : State → Bool) (f : State → State) (s : State) (h_f : ∀ x0, (f x0).flash =
  x0.flash) :
    (ledgerRow t c f s).flash = s.flash := by
  unfold ledgerRow; simp -implicitDefEqProofs [*]
@[simp] theorem ledgerRow_journal (t : Nat) (c : State → Bool) (f : State → State) (s : State) (h_f : ∀ x0, (f
  x0).journal = x0.journal) :
    (ledgerRow t c f s).journal = s.journal := by
  unfold ledgerRow; simp -implicitDefEqProofs [*]
@[simp] theorem ledgerRow_log (t : Nat) (c : State → Bool) (f : State → State) (s : State) (h_f : ∀ x0, (f x0).log =
  x0.log) :
    (ledgerRow t c f s).log = s.log := by
  unfold ledgerRow; simp -implicitDefEqProofs [*]
@[simp] theorem ledgerRow_foreman (t : Nat) (c : State → Bool) (f : State → State) (s : State) (h_f : ∀ x0, (f
  x0).foreman = x0.foreman) :
    (ledgerRow t c f s).foreman = s.foreman := by
  unfold ledgerRow; simp -implicitDefEqProofs [*]
@[simp] theorem ledgerRow_pairs (t : Nat) (c : State → Bool) (f : State → State) (s : State) (h_f : ∀ x0, (f x0).pairs =
  x0.pairs) :
    (ledgerRow t c f s).pairs = s.pairs := by
  unfold ledgerRow; simp -implicitDefEqProofs [*]
@[simp] theorem ledgerRow_eopen (t : Nat) (c : State → Bool) (f : State → State) (s : State) (h_f : ∀ x0, (f x0).eopen =
  x0.eopen) :
    (ledgerRow t c f s).eopen = s.eopen := by
  unfold ledgerRow; simp -implicitDefEqProofs [*]
@[simp] theorem ledgerRow_ledger (t : Nat) (c : State → Bool) (f : State → State) (s : State) (h_f : ∀ x0, (f x0).ledger
  = x0.ledger) :
    (ledgerRow t c f s).ledger = s.ledger := by
  unfold ledgerRow; simp -implicitDefEqProofs [*]
@[simp] theorem ledgerRow_sched (t : Nat) (c : State → Bool) (f : State → State) (s : State) (h_f : ∀ x0, (f x0).sched =
  x0.sched) :
    (ledgerRow t c f s).sched = s.sched := by
  unfold ledgerRow; simp -implicitDefEqProofs [*]
@[simp] theorem ledgerRow_tiles (t : Nat) (c : State → Bool) (f : State → State) (s : State) (h_f : ∀ x0, (f x0).tiles =
  x0.tiles) :
    (ledgerRow t c f s).tiles = s.tiles := by
  unfold ledgerRow; simp -implicitDefEqProofs [*]
@[simp] theorem ledgerRow_dram (t : Nat) (c : State → Bool) (f : State → State) (s : State) (h_f : ∀ x0, (f x0).dram =
  x0.dram) :
    (ledgerRow t c f s).dram = s.dram := by
  unfold ledgerRow; simp -implicitDefEqProofs [*]
@[simp] theorem ledgerRow_assayer (t : Nat) (c : State → Bool) (f : State → State) (s : State) (h_f : ∀ x0, (f
  x0).assayer = x0.assayer) :
    (ledgerRow t c f s).assayer = s.assayer := by
  unfold ledgerRow; simp -implicitDefEqProofs [*]
@[simp] theorem ledgerRow_fabric (t : Nat) (c : State → Bool) (f : State → State) (s : State) (h_f : ∀ x0, (f x0).fabric
  = x0.fabric) :
    (ledgerRow t c f s).fabric = s.fabric := by
  unfold ledgerRow; simp -implicitDefEqProofs [*]
@[simp] theorem ledgerRow_rumbes (t : Nat) (c : State → Bool) (f : State → State) (s : State) (h_f : ∀ x0, (f x0).rumbes
  = x0.rumbes) :
    (ledgerRow t c f s).rumbes = s.rumbes := by
  unfold ledgerRow; simp -implicitDefEqProofs [*]

/-! ### Assay -/

@[simp] theorem classify_frame (s : State) (c mu sigma sC uC : Nat) (fault : Bool) :
    (classify s c mu sigma sC uC fault).pending = s.pending ∧ (classify s c mu sigma sC uC fault).now = s.now ∧ (classify s
      c mu sigma sC uC fault).free = s.free ∧ (classify s c mu sigma sC uC fault).out = s.out ∧ (classify s c mu sigma sC uC
      fault).sys = s.sys ∧ (classify s c mu sigma sC uC fault).ka = s.ka ∧ (classify s c mu sigma sC uC fault).flash = s.flash
      ∧ (classify s c mu sigma sC uC fault).journal = s.journal ∧ (classify s c mu sigma sC uC fault).host = s.host ∧
      (classify s c mu sigma sC uC fault).ports = s.ports ∧ (classify s c mu sigma sC uC fault).pcie = s.pcie ∧ (classify s c
      mu sigma sC uC fault).log = s.log ∧ (classify s c mu sigma sC uC fault).foreman = s.foreman ∧ (classify s c mu sigma sC
      uC fault).pairs = s.pairs ∧ (classify s c mu sigma sC uC fault).eopen = s.eopen ∧ (classify s c mu sigma sC uC
      fault).ledger = s.ledger ∧ (classify s c mu sigma sC uC fault).sched = s.sched ∧ (classify s c mu sigma sC uC
      fault).tiles = s.tiles ∧ (classify s c mu sigma sC uC fault).dram = s.dram ∧ (classify s c mu sigma sC uC fault).fabric
      = s.fabric ∧ (classify s c mu sigma sC uC fault).rumbes = s.rumbes := by
  unfold classify; simp [*]
@[simp] theorem reanchor_frame (s : State) (c : Nat) (v : Held) (dq : Int) :
    (reanchor s c v dq).pending = s.pending ∧ (reanchor s c v dq).now = s.now ∧ (reanchor s c v dq).free = s.free ∧
      (reanchor s c v dq).out = s.out ∧ (reanchor s c v dq).sys = s.sys ∧ (reanchor s c v dq).ka = s.ka ∧ (reanchor s c v
      dq).flash = s.flash ∧ (reanchor s c v dq).journal = s.journal ∧ (reanchor s c v dq).host = s.host ∧ (reanchor s c v
      dq).pcie = s.pcie ∧ (reanchor s c v dq).log = s.log ∧ (reanchor s c v dq).foreman = s.foreman ∧ (reanchor s c v
      dq).pairs = s.pairs ∧ (reanchor s c v dq).eopen = s.eopen ∧ (reanchor s c v dq).sched = s.sched ∧ (reanchor s c v
      dq).tiles = s.tiles ∧ (reanchor s c v dq).dram = s.dram ∧ (reanchor s c v dq).fabric = s.fabric ∧ (reanchor s c v
      dq).rumbes = s.rumbes := by
  unfold reanchor; simp [*]
@[simp] theorem evaluate_frame (s : State) (e : Estimate) (v : Held) :
    (evaluate s e v).pending = s.pending ∧ (evaluate s e v).now = s.now ∧ (evaluate s e v).free = s.free ∧ (evaluate s e
      v).out = s.out ∧ (evaluate s e v).sys = s.sys ∧ (evaluate s e v).ka = s.ka ∧ (evaluate s e v).flash = s.flash ∧
      (evaluate s e v).journal = s.journal ∧ (evaluate s e v).host = s.host ∧ (evaluate s e v).pcie = s.pcie ∧ (evaluate s e
      v).log = s.log ∧ (evaluate s e v).foreman = s.foreman ∧ (evaluate s e v).pairs = s.pairs ∧ (evaluate s e v).eopen =
      s.eopen ∧ (evaluate s e v).sched = s.sched ∧ (evaluate s e v).tiles = s.tiles ∧ (evaluate s e v).dram = s.dram ∧
      (evaluate s e v).fabric = s.fabric ∧ (evaluate s e v).rumbes = s.rumbes := by
  unfold evaluate; split <;> simp [*]
@[simp] theorem assayEvalDo_frame (s : State) :
    (assayEvalDo s).pending = s.pending ∧ (assayEvalDo s).now = s.now ∧ (assayEvalDo s).free = s.free ∧ (assayEvalDo s).out
      = s.out ∧ (assayEvalDo s).ka = s.ka ∧ (assayEvalDo s).flash = s.flash ∧ (assayEvalDo s).journal = s.journal ∧
      (assayEvalDo s).host = s.host ∧ (assayEvalDo s).pcie = s.pcie ∧ (assayEvalDo s).log = s.log ∧ (assayEvalDo s).foreman =
      s.foreman ∧ (assayEvalDo s).pairs = s.pairs ∧ (assayEvalDo s).eopen = s.eopen ∧ (assayEvalDo s).sched = s.sched ∧
      (assayEvalDo s).tiles = s.tiles ∧ (assayEvalDo s).dram = s.dram ∧ (assayEvalDo s).fabric = s.fabric ∧ (assayEvalDo
      s).rumbes = s.rumbes := by
  unfold assayEvalDo; simp [*] <;> (repeat' split) <;> simp [*]
@[simp] theorem classEventDo_frame (c : Nat) (s : State) :
    (classEventDo c s).pending = s.pending ∧ (classEventDo c s).now = s.now ∧ (classEventDo c s).free = s.free ∧
      (classEventDo c s).out = s.out ∧ (classEventDo c s).sys = s.sys ∧ (classEventDo c s).ka = s.ka ∧ (classEventDo c
      s).flash = s.flash ∧ (classEventDo c s).journal = s.journal ∧ (classEventDo c s).host = s.host ∧ (classEventDo c s).pcie
      = s.pcie ∧ (classEventDo c s).log = s.log ∧ (classEventDo c s).foreman = s.foreman ∧ (classEventDo c s).pairs = s.pairs
      ∧ (classEventDo c s).eopen = s.eopen ∧ (classEventDo c s).ledger = s.ledger ∧ (classEventDo c s).sched = s.sched ∧
      (classEventDo c s).tiles = s.tiles ∧ (classEventDo c s).dram = s.dram ∧ (classEventDo c s).fabric = s.fabric ∧
      (classEventDo c s).rumbes = s.rumbes := by
  unfold classEventDo; simp [*]
@[simp] theorem assayRow_pending (t : Nat) (c : State → Bool) (f : State → State) (s : State) (h_f : ∀ x0, (f
  x0).pending = x0.pending) :
    (assayRow t c f s).pending = s.pending := by
  unfold assayRow; simp -implicitDefEqProofs [*]
@[simp] theorem assayRow_free (t : Nat) (c : State → Bool) (f : State → State) (s : State) (h_f : ∀ x0, (f x0).free =
  x0.free) :
    (assayRow t c f s).free = s.free := by
  unfold assayRow; simp -implicitDefEqProofs [*]
@[simp] theorem assayRow_sys (t : Nat) (c : State → Bool) (f : State → State) (s : State) (h_f : ∀ x0, (f x0).sys =
  x0.sys) :
    (assayRow t c f s).sys = s.sys := by
  unfold assayRow; simp -implicitDefEqProofs [*]
@[simp] theorem assayRow_ka (t : Nat) (c : State → Bool) (f : State → State) (s : State) (h_f : ∀ x0, (f x0).ka = x0.ka)
  :
    (assayRow t c f s).ka = s.ka := by
  unfold assayRow; simp -implicitDefEqProofs [*]
@[simp] theorem assayRow_flash (t : Nat) (c : State → Bool) (f : State → State) (s : State) (h_f : ∀ x0, (f x0).flash =
  x0.flash) :
    (assayRow t c f s).flash = s.flash := by
  unfold assayRow; simp -implicitDefEqProofs [*]
@[simp] theorem assayRow_journal (t : Nat) (c : State → Bool) (f : State → State) (s : State) (h_f : ∀ x0, (f
  x0).journal = x0.journal) :
    (assayRow t c f s).journal = s.journal := by
  unfold assayRow; simp -implicitDefEqProofs [*]
@[simp] theorem assayRow_log (t : Nat) (c : State → Bool) (f : State → State) (s : State) (h_f : ∀ x0, (f x0).log =
  x0.log) :
    (assayRow t c f s).log = s.log := by
  unfold assayRow; simp -implicitDefEqProofs [*]
@[simp] theorem assayRow_foreman (t : Nat) (c : State → Bool) (f : State → State) (s : State) (h_f : ∀ x0, (f
  x0).foreman = x0.foreman) :
    (assayRow t c f s).foreman = s.foreman := by
  unfold assayRow; simp -implicitDefEqProofs [*]
@[simp] theorem assayRow_pairs (t : Nat) (c : State → Bool) (f : State → State) (s : State) (h_f : ∀ x0, (f x0).pairs =
  x0.pairs) :
    (assayRow t c f s).pairs = s.pairs := by
  unfold assayRow; simp -implicitDefEqProofs [*]
@[simp] theorem assayRow_eopen (t : Nat) (c : State → Bool) (f : State → State) (s : State) (h_f : ∀ x0, (f x0).eopen =
  x0.eopen) :
    (assayRow t c f s).eopen = s.eopen := by
  unfold assayRow; simp -implicitDefEqProofs [*]
@[simp] theorem assayRow_ledger (t : Nat) (c : State → Bool) (f : State → State) (s : State) (h_f : ∀ x0, (f x0).ledger
  = x0.ledger) :
    (assayRow t c f s).ledger = s.ledger := by
  unfold assayRow; simp -implicitDefEqProofs [*]
@[simp] theorem assayRow_sched (t : Nat) (c : State → Bool) (f : State → State) (s : State) (h_f : ∀ x0, (f x0).sched =
  x0.sched) :
    (assayRow t c f s).sched = s.sched := by
  unfold assayRow; simp -implicitDefEqProofs [*]
@[simp] theorem assayRow_tiles (t : Nat) (c : State → Bool) (f : State → State) (s : State) (h_f : ∀ x0, (f x0).tiles =
  x0.tiles) :
    (assayRow t c f s).tiles = s.tiles := by
  unfold assayRow; simp -implicitDefEqProofs [*]
@[simp] theorem assayRow_dram (t : Nat) (c : State → Bool) (f : State → State) (s : State) (h_f : ∀ x0, (f x0).dram =
  x0.dram) :
    (assayRow t c f s).dram = s.dram := by
  unfold assayRow; simp -implicitDefEqProofs [*]
@[simp] theorem assayRow_assayer (t : Nat) (c : State → Bool) (f : State → State) (s : State) (h_f : ∀ x0, (f
  x0).assayer = x0.assayer) :
    (assayRow t c f s).assayer = s.assayer := by
  unfold assayRow; simp -implicitDefEqProofs [*]
@[simp] theorem assayRow_fabric (t : Nat) (c : State → Bool) (f : State → State) (s : State) (h_f : ∀ x0, (f x0).fabric
  = x0.fabric) :
    (assayRow t c f s).fabric = s.fabric := by
  unfold assayRow; simp -implicitDefEqProofs [*]
@[simp] theorem assayRow_rumbes (t : Nat) (c : State → Bool) (f : State → State) (s : State) (h_f : ∀ x0, (f x0).rumbes
  = x0.rumbes) :
    (assayRow t c f s).rumbes = s.rumbes := by
  unfold assayRow; simp -implicitDefEqProofs [*]
@[simp] theorem disChangeDo_frame (sc : DisScope) (s : State) :
    (disChangeDo sc s).pending = s.pending ∧ (disChangeDo sc s).now = s.now ∧ (disChangeDo sc s).free = s.free ∧
      (disChangeDo sc s).out = s.out ∧ (disChangeDo sc s).sys = s.sys ∧ (disChangeDo sc s).ka = s.ka ∧ (disChangeDo sc
      s).flash = s.flash ∧ (disChangeDo sc s).journal = s.journal ∧ (disChangeDo sc s).host = s.host ∧ (disChangeDo sc
      s).ports = s.ports ∧ (disChangeDo sc s).pcie = s.pcie ∧ (disChangeDo sc s).log = s.log ∧ (disChangeDo sc s).foreman =
      s.foreman ∧ (disChangeDo sc s).pairs = s.pairs ∧ (disChangeDo sc s).eopen = s.eopen ∧ (disChangeDo sc s).ledger =
      s.ledger ∧ (disChangeDo sc s).sched = s.sched ∧ (disChangeDo sc s).tiles = s.tiles ∧ (disChangeDo sc s).dram = s.dram ∧
      (disChangeDo sc s).fabric = s.fabric ∧ (disChangeDo sc s).rumbes = s.rumbes := by
  unfold disChangeDo; split <;> simp [*]

/-! ### Reports -/

@[simp] theorem writeSnap_frame (s : State) (n : Nat) (body : List Byte) :
    (writeSnap s n body).pending = s.pending ∧ (writeSnap s n body).now = s.now ∧ (writeSnap s n body).free = s.free ∧
      (writeSnap s n body).out = s.out ∧ (writeSnap s n body).sys = s.sys ∧ (writeSnap s n body).ka = s.ka ∧ (writeSnap s n
      body).flash = s.flash ∧ (writeSnap s n body).journal = s.journal ∧ (writeSnap s n body).host = s.host ∧ (writeSnap s n
      body).ports = s.ports ∧ (writeSnap s n body).pcie = s.pcie ∧ (writeSnap s n body).log = s.log ∧ (writeSnap s n
      body).foreman = s.foreman ∧ (writeSnap s n body).pairs = s.pairs ∧ (writeSnap s n body).eopen = s.eopen ∧ (writeSnap s n
      body).ledger = s.ledger ∧ (writeSnap s n body).sched = s.sched ∧ (writeSnap s n body).tiles = s.tiles ∧ (writeSnap s n
      body).dram = s.dram ∧ (writeSnap s n body).fabric = s.fabric ∧ (writeSnap s n body).rumbes = s.rumbes := by
  unfold writeSnap; simp [*]
@[simp] theorem publishDo_frame (n : Nat) (s : State) :
    (publishDo n s).pending = s.pending ∧ (publishDo n s).now = s.now ∧ (publishDo n s).free = s.free ∧ (publishDo n s).out
      = s.out ∧ (publishDo n s).sys = s.sys ∧ (publishDo n s).ka = s.ka ∧ (publishDo n s).flash = s.flash ∧ (publishDo n
      s).journal = s.journal ∧ (publishDo n s).host = s.host ∧ (publishDo n s).pcie = s.pcie ∧ (publishDo n s).log = s.log ∧
      (publishDo n s).foreman = s.foreman ∧ (publishDo n s).pairs = s.pairs ∧ (publishDo n s).eopen = s.eopen ∧ (publishDo n
      s).ledger = s.ledger ∧ (publishDo n s).sched = s.sched ∧ (publishDo n s).tiles = s.tiles ∧ (publishDo n s).dram = s.dram
      ∧ (publishDo n s).fabric = s.fabric ∧ (publishDo n s).rumbes = s.rumbes := by
  unfold publishDo; (repeat' split) <;> simp -implicitDefEqProofs [*]
@[simp] theorem setAssayerDo_frame (r : Req) (s : State) :
    (setAssayerDo r s).pending = s.pending ∧ (setAssayerDo r s).now = s.now ∧ (setAssayerDo r s).free = s.free ∧
      (setAssayerDo r s).out = s.out ∧ (setAssayerDo r s).sys = s.sys ∧ (setAssayerDo r s).flash = s.flash ∧ (setAssayerDo r
      s).host = s.host ∧ (setAssayerDo r s).pcie = s.pcie ∧ (setAssayerDo r s).log = s.log ∧ (setAssayerDo r s).foreman =
      s.foreman ∧ (setAssayerDo r s).pairs = s.pairs ∧ (setAssayerDo r s).eopen = s.eopen ∧ (setAssayerDo r s).ledger =
      s.ledger ∧ (setAssayerDo r s).sched = s.sched ∧ (setAssayerDo r s).tiles = s.tiles ∧ (setAssayerDo r s).dram = s.dram ∧
      (setAssayerDo r s).fabric = s.fabric ∧ (setAssayerDo r s).rumbes = s.rumbes := by
  unfold setAssayerDo; simp [*]
@[simp] theorem setChannelDo_frame (r : Req) (s : State) :
    (setChannelDo r s).pending = s.pending ∧ (setChannelDo r s).now = s.now ∧ (setChannelDo r s).free = s.free ∧
      (setChannelDo r s).out = s.out ∧ (setChannelDo r s).sys = s.sys ∧ (setChannelDo r s).flash = s.flash ∧ (setChannelDo r
      s).host = s.host ∧ (setChannelDo r s).pcie = s.pcie ∧ (setChannelDo r s).log = s.log ∧ (setChannelDo r s).foreman =
      s.foreman ∧ (setChannelDo r s).pairs = s.pairs ∧ (setChannelDo r s).eopen = s.eopen ∧ (setChannelDo r s).ledger =
      s.ledger ∧ (setChannelDo r s).sched = s.sched ∧ (setChannelDo r s).tiles = s.tiles ∧ (setChannelDo r s).dram = s.dram ∧
      (setChannelDo r s).fabric = s.fabric ∧ (setChannelDo r s).rumbes = s.rumbes := by
  unfold setChannelDo; simp [*]
@[simp] theorem getChannelDo_frame (r : Req) (s : State) :
    (getChannelDo r s).pending = s.pending ∧ (getChannelDo r s).now = s.now ∧ (getChannelDo r s).free = s.free ∧
      (getChannelDo r s).out = s.out ∧ (getChannelDo r s).sys = s.sys ∧ (getChannelDo r s).ka = s.ka ∧ (getChannelDo r
      s).flash = s.flash ∧ (getChannelDo r s).journal = s.journal ∧ (getChannelDo r s).host = s.host ∧ (getChannelDo r s).pcie
      = s.pcie ∧ (getChannelDo r s).log = s.log ∧ (getChannelDo r s).foreman = s.foreman ∧ (getChannelDo r s).pairs = s.pairs
      ∧ (getChannelDo r s).eopen = s.eopen ∧ (getChannelDo r s).ledger = s.ledger ∧ (getChannelDo r s).sched = s.sched ∧
      (getChannelDo r s).tiles = s.tiles ∧ (getChannelDo r s).dram = s.dram ∧ (getChannelDo r s).assayer = s.assayer ∧
      (getChannelDo r s).fabric = s.fabric ∧ (getChannelDo r s).rumbes = s.rumbes := by
  unfold getChannelDo; simp [*]
@[simp] theorem cellAssayDo_frame (r : Req) (s : State) :
    (cellAssayDo r s).pending = s.pending ∧ (cellAssayDo r s).now = s.now ∧ (cellAssayDo r s).free = s.free ∧ (cellAssayDo r
      s).out = s.out ∧ (cellAssayDo r s).sys = s.sys ∧ (cellAssayDo r s).ka = s.ka ∧ (cellAssayDo r s).flash = s.flash ∧
      (cellAssayDo r s).journal = s.journal ∧ (cellAssayDo r s).host = s.host ∧ (cellAssayDo r s).pcie = s.pcie ∧ (cellAssayDo
      r s).log = s.log ∧ (cellAssayDo r s).foreman = s.foreman ∧ (cellAssayDo r s).pairs = s.pairs ∧ (cellAssayDo r s).eopen =
      s.eopen ∧ (cellAssayDo r s).ledger = s.ledger ∧ (cellAssayDo r s).sched = s.sched ∧ (cellAssayDo r s).tiles = s.tiles ∧
      (cellAssayDo r s).dram = s.dram ∧ (cellAssayDo r s).assayer = s.assayer ∧ (cellAssayDo r s).fabric = s.fabric ∧
      (cellAssayDo r s).rumbes = s.rumbes := by
  unfold cellAssayDo; simp [*]
@[simp] theorem restoreDo_frame (s : State) :
    (restoreDo s).pending = s.pending ∧ (restoreDo s).now = s.now ∧ (restoreDo s).free = s.free ∧ (restoreDo s).out = s.out
      ∧ (restoreDo s).ka = s.ka ∧ (restoreDo s).flash = s.flash ∧ (restoreDo s).journal = s.journal ∧ (restoreDo s).host =
      s.host ∧ (restoreDo s).pcie = s.pcie ∧ (restoreDo s).log = s.log ∧ (restoreDo s).foreman = s.foreman ∧ (restoreDo
      s).pairs = s.pairs ∧ (restoreDo s).eopen = s.eopen ∧ (restoreDo s).sched = s.sched ∧ (restoreDo s).tiles = s.tiles ∧
      (restoreDo s).dram = s.dram ∧ (restoreDo s).fabric = s.fabric ∧ (restoreDo s).rumbes = s.rumbes := by
  unfold restoreDo; simp [*]

/-! ### FabricOps -/

@[simp] theorem takeSeq_frame (s : State) (type : Nat) :
    (takeSeq s type).2.pending = s.pending ∧ (takeSeq s type).2.now = s.now ∧ (takeSeq s type).2.free = s.free ∧ (takeSeq s
      type).2.out = s.out ∧ (takeSeq s type).2.sys = s.sys ∧ (takeSeq s type).2.flash = s.flash ∧ (takeSeq s type).2.journal =
      s.journal ∧ (takeSeq s type).2.host = s.host ∧ (takeSeq s type).2.ports = s.ports ∧ (takeSeq s type).2.pcie = s.pcie ∧
      (takeSeq s type).2.log = s.log ∧ (takeSeq s type).2.foreman = s.foreman ∧ (takeSeq s type).2.pairs = s.pairs ∧ (takeSeq
      s type).2.eopen = s.eopen ∧ (takeSeq s type).2.ledger = s.ledger ∧ (takeSeq s type).2.sched = s.sched ∧ (takeSeq s
      type).2.tiles = s.tiles ∧ (takeSeq s type).2.dram = s.dram ∧ (takeSeq s type).2.assayer = s.assayer ∧ (takeSeq s
      type).2.rumbes = s.rumbes := by
  unfold takeSeq; simp [*]
@[simp] theorem emitOn_frame (s : State) (ls : List Nat) (b : List Byte) :
    (emitOn s ls b).pending = s.pending ∧ (emitOn s ls b).now = s.now ∧ (emitOn s ls b).free = s.free ∧ (emitOn s ls b).sys
      = s.sys ∧ (emitOn s ls b).ka = s.ka ∧ (emitOn s ls b).flash = s.flash ∧ (emitOn s ls b).journal = s.journal ∧ (emitOn s
      ls b).host = s.host ∧ (emitOn s ls b).ports = s.ports ∧ (emitOn s ls b).pcie = s.pcie ∧ (emitOn s ls b).log = s.log ∧
      (emitOn s ls b).foreman = s.foreman ∧ (emitOn s ls b).pairs = s.pairs ∧ (emitOn s ls b).eopen = s.eopen ∧ (emitOn s ls
      b).ledger = s.ledger ∧ (emitOn s ls b).sched = s.sched ∧ (emitOn s ls b).tiles = s.tiles ∧ (emitOn s ls b).dram = s.dram
      ∧ (emitOn s ls b).assayer = s.assayer ∧ (emitOn s ls b).fabric = s.fabric ∧ (emitOn s ls b).rumbes = s.rumbes := by
  unfold emitOn; (repeat' split) <;> simp -implicitDefEqProofs [*]
@[simp] theorem flood_frame (s : State) (type : Nat) (payload : List Byte) :
    (flood s type payload).pending = s.pending ∧ (flood s type payload).now = s.now ∧ (flood s type payload).free = s.free ∧
      (flood s type payload).sys = s.sys ∧ (flood s type payload).flash = s.flash ∧ (flood s type payload).journal = s.journal
      ∧ (flood s type payload).host = s.host ∧ (flood s type payload).ports = s.ports ∧ (flood s type payload).pcie = s.pcie ∧
      (flood s type payload).log = s.log ∧ (flood s type payload).foreman = s.foreman ∧ (flood s type payload).pairs = s.pairs
      ∧ (flood s type payload).eopen = s.eopen ∧ (flood s type payload).ledger = s.ledger ∧ (flood s type payload).sched =
      s.sched ∧ (flood s type payload).tiles = s.tiles ∧ (flood s type payload).dram = s.dram ∧ (flood s type payload).assayer
      = s.assayer ∧ (flood s type payload).rumbes = s.rumbes := by
  unfold flood; simp [*]
@[simp] theorem sendRouted_frame (s : State) (dst : Nat) (b : List Byte) :
    (sendRouted s dst b).pending = s.pending ∧ (sendRouted s dst b).now = s.now ∧ (sendRouted s dst b).free = s.free ∧
      (sendRouted s dst b).sys = s.sys ∧ (sendRouted s dst b).ka = s.ka ∧ (sendRouted s dst b).flash = s.flash ∧ (sendRouted s
      dst b).journal = s.journal ∧ (sendRouted s dst b).host = s.host ∧ (sendRouted s dst b).ports = s.ports ∧ (sendRouted s
      dst b).pcie = s.pcie ∧ (sendRouted s dst b).log = s.log ∧ (sendRouted s dst b).foreman = s.foreman ∧ (sendRouted s dst
      b).pairs = s.pairs ∧ (sendRouted s dst b).eopen = s.eopen ∧ (sendRouted s dst b).ledger = s.ledger ∧ (sendRouted s dst
      b).sched = s.sched ∧ (sendRouted s dst b).tiles = s.tiles ∧ (sendRouted s dst b).dram = s.dram ∧ (sendRouted s dst
      b).assayer = s.assayer ∧ (sendRouted s dst b).rumbes = s.rumbes := by
  unfold sendRouted; split <;> simp [*]
@[simp] theorem fabIn_pending (l : Nat) (b : List Byte) (kind : State → Fab → Bool) (k : Fab → State → State) (s :
  State) (h_k : ∀ x0 x1, (k x0 x1).pending = x1.pending) :
    (fabIn l b kind k s).pending = s.pending := by
  unfold fabIn; simp -implicitDefEqProofs [*]
@[simp] theorem fabIn_now (l : Nat) (b : List Byte) (kind : State → Fab → Bool) (k : Fab → State → State) (s : State)
  (h_k : ∀ x0 x1, (k x0 x1).now = x1.now) :
    (fabIn l b kind k s).now = s.now := by
  unfold fabIn; simp -implicitDefEqProofs [*]
@[simp] theorem fabIn_free (l : Nat) (b : List Byte) (kind : State → Fab → Bool) (k : Fab → State → State) (s : State)
  (h_k : ∀ x0 x1, (k x0 x1).free = x1.free) :
    (fabIn l b kind k s).free = s.free := by
  unfold fabIn; simp -implicitDefEqProofs [*]
@[simp] theorem fabIn_out (l : Nat) (b : List Byte) (kind : State → Fab → Bool) (k : Fab → State → State) (s : State)
  (h_k : ∀ x0 x1, (k x0 x1).out = x1.out) :
    (fabIn l b kind k s).out = s.out := by
  unfold fabIn; simp -implicitDefEqProofs [*]
@[simp] theorem fabIn_sys (l : Nat) (b : List Byte) (kind : State → Fab → Bool) (k : Fab → State → State) (s : State)
  (h_k : ∀ x0 x1, (k x0 x1).sys = x1.sys) :
    (fabIn l b kind k s).sys = s.sys := by
  unfold fabIn; simp -implicitDefEqProofs [*]
@[simp] theorem fabIn_ka (l : Nat) (b : List Byte) (kind : State → Fab → Bool) (k : Fab → State → State) (s : State)
  (h_k : ∀ x0 x1, (k x0 x1).ka = x1.ka) :
    (fabIn l b kind k s).ka = s.ka := by
  unfold fabIn; simp -implicitDefEqProofs [*]
@[simp] theorem fabIn_flash (l : Nat) (b : List Byte) (kind : State → Fab → Bool) (k : Fab → State → State) (s : State)
  (h_k : ∀ x0 x1, (k x0 x1).flash = x1.flash) :
    (fabIn l b kind k s).flash = s.flash := by
  unfold fabIn; simp -implicitDefEqProofs [*]
@[simp] theorem fabIn_journal (l : Nat) (b : List Byte) (kind : State → Fab → Bool) (k : Fab → State → State) (s :
  State) (h_k : ∀ x0 x1, (k x0 x1).journal = x1.journal) :
    (fabIn l b kind k s).journal = s.journal := by
  unfold fabIn; simp -implicitDefEqProofs [*]
@[simp] theorem fabIn_host (l : Nat) (b : List Byte) (kind : State → Fab → Bool) (k : Fab → State → State) (s : State)
  (h_k : ∀ x0 x1, (k x0 x1).host = x1.host) :
    (fabIn l b kind k s).host = s.host := by
  unfold fabIn; simp -implicitDefEqProofs [*]
@[simp] theorem fabIn_ports (l : Nat) (b : List Byte) (kind : State → Fab → Bool) (k : Fab → State → State) (s : State)
  (h_k : ∀ x0 x1, (k x0 x1).ports = x1.ports) :
    (fabIn l b kind k s).ports = s.ports := by
  unfold fabIn; simp -implicitDefEqProofs [*]
@[simp] theorem fabIn_pcie (l : Nat) (b : List Byte) (kind : State → Fab → Bool) (k : Fab → State → State) (s : State)
  (h_k : ∀ x0 x1, (k x0 x1).pcie = x1.pcie) :
    (fabIn l b kind k s).pcie = s.pcie := by
  unfold fabIn; simp -implicitDefEqProofs [*]
@[simp] theorem fabIn_log (l : Nat) (b : List Byte) (kind : State → Fab → Bool) (k : Fab → State → State) (s : State)
  (h_k : ∀ x0 x1, (k x0 x1).log = x1.log) :
    (fabIn l b kind k s).log = s.log := by
  unfold fabIn; simp -implicitDefEqProofs [*]
@[simp] theorem fabIn_foreman (l : Nat) (b : List Byte) (kind : State → Fab → Bool) (k : Fab → State → State) (s :
  State) (h_k : ∀ x0 x1, (k x0 x1).foreman = x1.foreman) :
    (fabIn l b kind k s).foreman = s.foreman := by
  unfold fabIn; simp -implicitDefEqProofs [*]
@[simp] theorem fabIn_pairs (l : Nat) (b : List Byte) (kind : State → Fab → Bool) (k : Fab → State → State) (s : State)
  (h_k : ∀ x0 x1, (k x0 x1).pairs = x1.pairs) :
    (fabIn l b kind k s).pairs = s.pairs := by
  unfold fabIn; simp -implicitDefEqProofs [*]
@[simp] theorem fabIn_eopen (l : Nat) (b : List Byte) (kind : State → Fab → Bool) (k : Fab → State → State) (s : State)
  (h_k : ∀ x0 x1, (k x0 x1).eopen = x1.eopen) :
    (fabIn l b kind k s).eopen = s.eopen := by
  unfold fabIn; simp -implicitDefEqProofs [*]
@[simp] theorem fabIn_ledger (l : Nat) (b : List Byte) (kind : State → Fab → Bool) (k : Fab → State → State) (s : State)
  (h_k : ∀ x0 x1, (k x0 x1).ledger = x1.ledger) :
    (fabIn l b kind k s).ledger = s.ledger := by
  unfold fabIn; simp -implicitDefEqProofs [*]
@[simp] theorem fabIn_sched (l : Nat) (b : List Byte) (kind : State → Fab → Bool) (k : Fab → State → State) (s : State)
  (h_k : ∀ x0 x1, (k x0 x1).sched = x1.sched) :
    (fabIn l b kind k s).sched = s.sched := by
  unfold fabIn; simp -implicitDefEqProofs [*]
@[simp] theorem fabIn_tiles (l : Nat) (b : List Byte) (kind : State → Fab → Bool) (k : Fab → State → State) (s : State)
  (h_k : ∀ x0 x1, (k x0 x1).tiles = x1.tiles) :
    (fabIn l b kind k s).tiles = s.tiles := by
  unfold fabIn; simp -implicitDefEqProofs [*]
@[simp] theorem fabIn_dram (l : Nat) (b : List Byte) (kind : State → Fab → Bool) (k : Fab → State → State) (s : State)
  (h_k : ∀ x0 x1, (k x0 x1).dram = x1.dram) :
    (fabIn l b kind k s).dram = s.dram := by
  unfold fabIn; simp -implicitDefEqProofs [*]
@[simp] theorem fabIn_assayer (l : Nat) (b : List Byte) (kind : State → Fab → Bool) (k : Fab → State → State) (s :
  State) (h_k : ∀ x0 x1, (k x0 x1).assayer = x1.assayer) :
    (fabIn l b kind k s).assayer = s.assayer := by
  unfold fabIn; simp -implicitDefEqProofs [*]
@[simp] theorem fabIn_rumbes (l : Nat) (b : List Byte) (kind : State → Fab → Bool) (k : Fab → State → State) (s : State)
  (h_k : ∀ x0 x1, (k x0 x1).rumbes = x1.rumbes) :
    (fabIn l b kind k s).rumbes = s.rumbes := by
  unfold fabIn; simp -implicitDefEqProofs [*]
@[simp] theorem takeFlood_pending (l : Nat) (k : Fab → State → State) (f : Fab) (s : State) (h_k : ∀ x0 x1, (k x0
  x1).pending = x1.pending) :
    (takeFlood l k f s).pending = s.pending := by
  unfold takeFlood; simp -implicitDefEqProofs [*]
@[simp] theorem takeFlood_now (l : Nat) (k : Fab → State → State) (f : Fab) (s : State) (h_k : ∀ x0 x1, (k x0 x1).now =
  x1.now) :
    (takeFlood l k f s).now = s.now := by
  unfold takeFlood; simp -implicitDefEqProofs [*]
@[simp] theorem takeFlood_free (l : Nat) (k : Fab → State → State) (f : Fab) (s : State) (h_k : ∀ x0 x1, (k x0 x1).free
  = x1.free) :
    (takeFlood l k f s).free = s.free := by
  unfold takeFlood; simp -implicitDefEqProofs [*]
@[simp] theorem takeFlood_sys (l : Nat) (k : Fab → State → State) (f : Fab) (s : State) (h_k : ∀ x0 x1, (k x0 x1).sys =
  x1.sys) :
    (takeFlood l k f s).sys = s.sys := by
  unfold takeFlood; simp -implicitDefEqProofs [*]
@[simp] theorem takeFlood_ka (l : Nat) (k : Fab → State → State) (f : Fab) (s : State) (h_k : ∀ x0 x1, (k x0 x1).ka =
  x1.ka) :
    (takeFlood l k f s).ka = s.ka := by
  unfold takeFlood; simp -implicitDefEqProofs [*]
@[simp] theorem takeFlood_flash (l : Nat) (k : Fab → State → State) (f : Fab) (s : State) (h_k : ∀ x0 x1, (k x0
  x1).flash = x1.flash) :
    (takeFlood l k f s).flash = s.flash := by
  unfold takeFlood; simp -implicitDefEqProofs [*]
@[simp] theorem takeFlood_journal (l : Nat) (k : Fab → State → State) (f : Fab) (s : State) (h_k : ∀ x0 x1, (k x0
  x1).journal = x1.journal) :
    (takeFlood l k f s).journal = s.journal := by
  unfold takeFlood; simp -implicitDefEqProofs [*]
@[simp] theorem takeFlood_host (l : Nat) (k : Fab → State → State) (f : Fab) (s : State) (h_k : ∀ x0 x1, (k x0 x1).host
  = x1.host) :
    (takeFlood l k f s).host = s.host := by
  unfold takeFlood; simp -implicitDefEqProofs [*]
@[simp] theorem takeFlood_ports (l : Nat) (k : Fab → State → State) (f : Fab) (s : State) (h_k : ∀ x0 x1, (k x0
  x1).ports = x1.ports) :
    (takeFlood l k f s).ports = s.ports := by
  unfold takeFlood; simp -implicitDefEqProofs [*]
@[simp] theorem takeFlood_pcie (l : Nat) (k : Fab → State → State) (f : Fab) (s : State) (h_k : ∀ x0 x1, (k x0 x1).pcie
  = x1.pcie) :
    (takeFlood l k f s).pcie = s.pcie := by
  unfold takeFlood; simp -implicitDefEqProofs [*]
@[simp] theorem takeFlood_log (l : Nat) (k : Fab → State → State) (f : Fab) (s : State) (h_k : ∀ x0 x1, (k x0 x1).log =
  x1.log) :
    (takeFlood l k f s).log = s.log := by
  unfold takeFlood; simp -implicitDefEqProofs [*]
@[simp] theorem takeFlood_foreman (l : Nat) (k : Fab → State → State) (f : Fab) (s : State) (h_k : ∀ x0 x1, (k x0
  x1).foreman = x1.foreman) :
    (takeFlood l k f s).foreman = s.foreman := by
  unfold takeFlood; simp -implicitDefEqProofs [*]
@[simp] theorem takeFlood_pairs (l : Nat) (k : Fab → State → State) (f : Fab) (s : State) (h_k : ∀ x0 x1, (k x0
  x1).pairs = x1.pairs) :
    (takeFlood l k f s).pairs = s.pairs := by
  unfold takeFlood; simp -implicitDefEqProofs [*]
@[simp] theorem takeFlood_eopen (l : Nat) (k : Fab → State → State) (f : Fab) (s : State) (h_k : ∀ x0 x1, (k x0
  x1).eopen = x1.eopen) :
    (takeFlood l k f s).eopen = s.eopen := by
  unfold takeFlood; simp -implicitDefEqProofs [*]
@[simp] theorem takeFlood_ledger (l : Nat) (k : Fab → State → State) (f : Fab) (s : State) (h_k : ∀ x0 x1, (k x0
  x1).ledger = x1.ledger) :
    (takeFlood l k f s).ledger = s.ledger := by
  unfold takeFlood; simp -implicitDefEqProofs [*]
@[simp] theorem takeFlood_sched (l : Nat) (k : Fab → State → State) (f : Fab) (s : State) (h_k : ∀ x0 x1, (k x0
  x1).sched = x1.sched) :
    (takeFlood l k f s).sched = s.sched := by
  unfold takeFlood; simp -implicitDefEqProofs [*]
@[simp] theorem takeFlood_tiles (l : Nat) (k : Fab → State → State) (f : Fab) (s : State) (h_k : ∀ x0 x1, (k x0
  x1).tiles = x1.tiles) :
    (takeFlood l k f s).tiles = s.tiles := by
  unfold takeFlood; simp -implicitDefEqProofs [*]
@[simp] theorem takeFlood_dram (l : Nat) (k : Fab → State → State) (f : Fab) (s : State) (h_k : ∀ x0 x1, (k x0 x1).dram
  = x1.dram) :
    (takeFlood l k f s).dram = s.dram := by
  unfold takeFlood; simp -implicitDefEqProofs [*]
@[simp] theorem takeFlood_assayer (l : Nat) (k : Fab → State → State) (f : Fab) (s : State) (h_k : ∀ x0 x1, (k x0
  x1).assayer = x1.assayer) :
    (takeFlood l k f s).assayer = s.assayer := by
  unfold takeFlood; simp -implicitDefEqProofs [*]
@[simp] theorem takeFlood_rumbes (l : Nat) (k : Fab → State → State) (f : Fab) (s : State) (h_k : ∀ x0 x1, (k x0
  x1).rumbes = x1.rumbes) :
    (takeFlood l k f s).rumbes = s.rumbes := by
  unfold takeFlood; simp -implicitDefEqProofs [*]
@[simp] theorem floodIn_pending (l type : Nat) (b : List Byte) (k : Fab → State → State) (s : State) (h_k : ∀ x0 x1, (k
  x0 x1).pending = x1.pending) :
    (floodIn l type b k s).pending = s.pending := by
  unfold floodIn; simp -implicitDefEqProofs [*]
@[simp] theorem floodIn_now (l type : Nat) (b : List Byte) (k : Fab → State → State) (s : State) (h_k : ∀ x0 x1, (k x0
  x1).now = x1.now) :
    (floodIn l type b k s).now = s.now := by
  unfold floodIn; simp -implicitDefEqProofs [*]
@[simp] theorem floodIn_free (l type : Nat) (b : List Byte) (k : Fab → State → State) (s : State) (h_k : ∀ x0 x1, (k x0
  x1).free = x1.free) :
    (floodIn l type b k s).free = s.free := by
  unfold floodIn; simp -implicitDefEqProofs [*]
@[simp] theorem floodIn_sys (l type : Nat) (b : List Byte) (k : Fab → State → State) (s : State) (h_k : ∀ x0 x1, (k x0
  x1).sys = x1.sys) :
    (floodIn l type b k s).sys = s.sys := by
  unfold floodIn; simp -implicitDefEqProofs [*]
@[simp] theorem floodIn_ka (l type : Nat) (b : List Byte) (k : Fab → State → State) (s : State) (h_k : ∀ x0 x1, (k x0
  x1).ka = x1.ka) :
    (floodIn l type b k s).ka = s.ka := by
  unfold floodIn; simp -implicitDefEqProofs [*]
@[simp] theorem floodIn_flash (l type : Nat) (b : List Byte) (k : Fab → State → State) (s : State) (h_k : ∀ x0 x1, (k x0
  x1).flash = x1.flash) :
    (floodIn l type b k s).flash = s.flash := by
  unfold floodIn; simp -implicitDefEqProofs [*]
@[simp] theorem floodIn_journal (l type : Nat) (b : List Byte) (k : Fab → State → State) (s : State) (h_k : ∀ x0 x1, (k
  x0 x1).journal = x1.journal) :
    (floodIn l type b k s).journal = s.journal := by
  unfold floodIn; simp -implicitDefEqProofs [*]
@[simp] theorem floodIn_host (l type : Nat) (b : List Byte) (k : Fab → State → State) (s : State) (h_k : ∀ x0 x1, (k x0
  x1).host = x1.host) :
    (floodIn l type b k s).host = s.host := by
  unfold floodIn; simp -implicitDefEqProofs [*]
@[simp] theorem floodIn_ports (l type : Nat) (b : List Byte) (k : Fab → State → State) (s : State) (h_k : ∀ x0 x1, (k x0
  x1).ports = x1.ports) :
    (floodIn l type b k s).ports = s.ports := by
  unfold floodIn; simp -implicitDefEqProofs [*]
@[simp] theorem floodIn_pcie (l type : Nat) (b : List Byte) (k : Fab → State → State) (s : State) (h_k : ∀ x0 x1, (k x0
  x1).pcie = x1.pcie) :
    (floodIn l type b k s).pcie = s.pcie := by
  unfold floodIn; simp -implicitDefEqProofs [*]
@[simp] theorem floodIn_log (l type : Nat) (b : List Byte) (k : Fab → State → State) (s : State) (h_k : ∀ x0 x1, (k x0
  x1).log = x1.log) :
    (floodIn l type b k s).log = s.log := by
  unfold floodIn; simp -implicitDefEqProofs [*]
@[simp] theorem floodIn_foreman (l type : Nat) (b : List Byte) (k : Fab → State → State) (s : State) (h_k : ∀ x0 x1, (k
  x0 x1).foreman = x1.foreman) :
    (floodIn l type b k s).foreman = s.foreman := by
  unfold floodIn; simp -implicitDefEqProofs [*]
@[simp] theorem floodIn_pairs (l type : Nat) (b : List Byte) (k : Fab → State → State) (s : State) (h_k : ∀ x0 x1, (k x0
  x1).pairs = x1.pairs) :
    (floodIn l type b k s).pairs = s.pairs := by
  unfold floodIn; simp -implicitDefEqProofs [*]
@[simp] theorem floodIn_eopen (l type : Nat) (b : List Byte) (k : Fab → State → State) (s : State) (h_k : ∀ x0 x1, (k x0
  x1).eopen = x1.eopen) :
    (floodIn l type b k s).eopen = s.eopen := by
  unfold floodIn; simp -implicitDefEqProofs [*]
@[simp] theorem floodIn_ledger (l type : Nat) (b : List Byte) (k : Fab → State → State) (s : State) (h_k : ∀ x0 x1, (k
  x0 x1).ledger = x1.ledger) :
    (floodIn l type b k s).ledger = s.ledger := by
  unfold floodIn; simp -implicitDefEqProofs [*]
@[simp] theorem floodIn_sched (l type : Nat) (b : List Byte) (k : Fab → State → State) (s : State) (h_k : ∀ x0 x1, (k x0
  x1).sched = x1.sched) :
    (floodIn l type b k s).sched = s.sched := by
  unfold floodIn; simp -implicitDefEqProofs [*]
@[simp] theorem floodIn_tiles (l type : Nat) (b : List Byte) (k : Fab → State → State) (s : State) (h_k : ∀ x0 x1, (k x0
  x1).tiles = x1.tiles) :
    (floodIn l type b k s).tiles = s.tiles := by
  unfold floodIn; simp -implicitDefEqProofs [*]
@[simp] theorem floodIn_dram (l type : Nat) (b : List Byte) (k : Fab → State → State) (s : State) (h_k : ∀ x0 x1, (k x0
  x1).dram = x1.dram) :
    (floodIn l type b k s).dram = s.dram := by
  unfold floodIn; simp -implicitDefEqProofs [*]
@[simp] theorem floodIn_assayer (l type : Nat) (b : List Byte) (k : Fab → State → State) (s : State) (h_k : ∀ x0 x1, (k
  x0 x1).assayer = x1.assayer) :
    (floodIn l type b k s).assayer = s.assayer := by
  unfold floodIn; simp -implicitDefEqProofs [*]
@[simp] theorem floodIn_rumbes (l type : Nat) (b : List Byte) (k : Fab → State → State) (s : State) (h_k : ∀ x0 x1, (k
  x0 x1).rumbes = x1.rumbes) :
    (floodIn l type b k s).rumbes = s.rumbes := by
  unfold floodIn; simp -implicitDefEqProofs [*]
@[simp] theorem linkState_frame (s : State) (l : Nat) :
    (linkState s l).pending = s.pending ∧ (linkState s l).now = s.now ∧ (linkState s l).free = s.free ∧ (linkState s l).out
      = s.out ∧ (linkState s l).sys = s.sys ∧ (linkState s l).ka = s.ka ∧ (linkState s l).flash = s.flash ∧ (linkState s
      l).journal = s.journal ∧ (linkState s l).host = s.host ∧ (linkState s l).pcie = s.pcie ∧ (linkState s l).log = s.log ∧
      (linkState s l).foreman = s.foreman ∧ (linkState s l).pairs = s.pairs ∧ (linkState s l).eopen = s.eopen ∧ (linkState s
      l).ledger = s.ledger ∧ (linkState s l).sched = s.sched ∧ (linkState s l).tiles = s.tiles ∧ (linkState s l).dram = s.dram
      ∧ (linkState s l).assayer = s.assayer ∧ (linkState s l).fabric = s.fabric ∧ (linkState s l).rumbes = s.rumbes := by
  unfold linkState; simp [*]
@[simp] theorem listsChanged_frame (s : State) :
    (listsChanged s).pending = s.pending ∧ (listsChanged s).now = s.now ∧ (listsChanged s).free = s.free ∧ (listsChanged
      s).out = s.out ∧ (listsChanged s).sys = s.sys ∧ (listsChanged s).ka = s.ka ∧ (listsChanged s).flash = s.flash ∧
      (listsChanged s).journal = s.journal ∧ (listsChanged s).host = s.host ∧ (listsChanged s).ports = s.ports ∧ (listsChanged
      s).pcie = s.pcie ∧ (listsChanged s).log = s.log ∧ (listsChanged s).foreman = s.foreman ∧ (listsChanged s).pairs =
      s.pairs ∧ (listsChanged s).eopen = s.eopen ∧ (listsChanged s).ledger = s.ledger ∧ (listsChanged s).sched = s.sched ∧
      (listsChanged s).tiles = s.tiles ∧ (listsChanged s).dram = s.dram ∧ (listsChanged s).assayer = s.assayer ∧ (listsChanged
      s).rumbes = s.rumbes := by
  unfold listsChanged; simp [*]
@[simp] theorem linkChanged_frame (s : State) :
    (linkChanged s).pending = s.pending ∧ (linkChanged s).now = s.now ∧ (linkChanged s).free = s.free ∧ (linkChanged s).out
      = s.out ∧ (linkChanged s).sys = s.sys ∧ (linkChanged s).ka = s.ka ∧ (linkChanged s).flash = s.flash ∧ (linkChanged
      s).journal = s.journal ∧ (linkChanged s).host = s.host ∧ (linkChanged s).ports = s.ports ∧ (linkChanged s).pcie = s.pcie
      ∧ (linkChanged s).log = s.log ∧ (linkChanged s).foreman = s.foreman ∧ (linkChanged s).pairs = s.pairs ∧ (linkChanged
      s).eopen = s.eopen ∧ (linkChanged s).ledger = s.ledger ∧ (linkChanged s).sched = s.sched ∧ (linkChanged s).tiles =
      s.tiles ∧ (linkChanged s).dram = s.dram ∧ (linkChanged s).assayer = s.assayer ∧ (linkChanged s).rumbes = s.rumbes := by
  unfold linkChanged; simp [*]
@[simp] theorem countAlone_frame (s : State) :
    (countAlone s).pending = s.pending ∧ (countAlone s).now = s.now ∧ (countAlone s).free = s.free ∧ (countAlone s).out =
      s.out ∧ (countAlone s).sys = s.sys ∧ (countAlone s).ka = s.ka ∧ (countAlone s).flash = s.flash ∧ (countAlone s).journal
      = s.journal ∧ (countAlone s).host = s.host ∧ (countAlone s).ports = s.ports ∧ (countAlone s).pcie = s.pcie ∧ (countAlone
      s).log = s.log ∧ (countAlone s).foreman = s.foreman ∧ (countAlone s).pairs = s.pairs ∧ (countAlone s).eopen = s.eopen ∧
      (countAlone s).ledger = s.ledger ∧ (countAlone s).sched = s.sched ∧ (countAlone s).tiles = s.tiles ∧ (countAlone s).dram
      = s.dram ∧ (countAlone s).assayer = s.assayer ∧ (countAlone s).rumbes = s.rumbes := by
  unfold countAlone; simp [*]
@[simp] theorem leaveTo_frame (s : State) (l : Nat) (st : LinkSt) (rate : Nat) :
    (leaveTo s l st rate).pending = s.pending ∧ (leaveTo s l st rate).now = s.now ∧ (leaveTo s l st rate).free = s.free ∧
      (leaveTo s l st rate).out = s.out ∧ (leaveTo s l st rate).sys = s.sys ∧ (leaveTo s l st rate).ka = s.ka ∧ (leaveTo s l
      st rate).flash = s.flash ∧ (leaveTo s l st rate).journal = s.journal ∧ (leaveTo s l st rate).host = s.host ∧ (leaveTo s
      l st rate).ports = s.ports ∧ (leaveTo s l st rate).pcie = s.pcie ∧ (leaveTo s l st rate).log = s.log ∧ (leaveTo s l st
      rate).foreman = s.foreman ∧ (leaveTo s l st rate).pairs = s.pairs ∧ (leaveTo s l st rate).eopen = s.eopen ∧ (leaveTo s l
      st rate).ledger = s.ledger ∧ (leaveTo s l st rate).sched = s.sched ∧ (leaveTo s l st rate).tiles = s.tiles ∧ (leaveTo s
      l st rate).dram = s.dram ∧ (leaveTo s l st rate).assayer = s.assayer ∧ (leaveTo s l st rate).rumbes = s.rumbes := by
  unfold leaveTo; simp [*]
@[simp] theorem startDetect_frame (s : State) (l : Nat) :
    (startDetect s l).pending = s.pending ∧ (startDetect s l).now = s.now ∧ (startDetect s l).free = s.free ∧ (startDetect s
      l).out = s.out ∧ (startDetect s l).sys = s.sys ∧ (startDetect s l).ka = s.ka ∧ (startDetect s l).flash = s.flash ∧
      (startDetect s l).journal = s.journal ∧ (startDetect s l).host = s.host ∧ (startDetect s l).ports = s.ports ∧
      (startDetect s l).pcie = s.pcie ∧ (startDetect s l).log = s.log ∧ (startDetect s l).foreman = s.foreman ∧ (startDetect s
      l).pairs = s.pairs ∧ (startDetect s l).eopen = s.eopen ∧ (startDetect s l).ledger = s.ledger ∧ (startDetect s l).sched =
      s.sched ∧ (startDetect s l).tiles = s.tiles ∧ (startDetect s l).dram = s.dram ∧ (startDetect s l).assayer = s.assayer ∧
      (startDetect s l).rumbes = s.rumbes := by
  unfold startDetect; simp [*]
@[simp] theorem enterDown_frame (s : State) (l : Nat) :
    (enterDown s l).pending = s.pending ∧ (enterDown s l).now = s.now ∧ (enterDown s l).free = s.free ∧ (enterDown s l).out
      = s.out ∧ (enterDown s l).sys = s.sys ∧ (enterDown s l).ka = s.ka ∧ (enterDown s l).flash = s.flash ∧ (enterDown s
      l).journal = s.journal ∧ (enterDown s l).host = s.host ∧ (enterDown s l).ports = s.ports ∧ (enterDown s l).pcie = s.pcie
      ∧ (enterDown s l).log = s.log ∧ (enterDown s l).foreman = s.foreman ∧ (enterDown s l).pairs = s.pairs ∧ (enterDown s
      l).eopen = s.eopen ∧ (enterDown s l).ledger = s.ledger ∧ (enterDown s l).sched = s.sched ∧ (enterDown s l).tiles =
      s.tiles ∧ (enterDown s l).dram = s.dram ∧ (enterDown s l).assayer = s.assayer ∧ (enterDown s l).rumbes = s.rumbes := by
  unfold enterDown; simp [*]
@[simp] theorem linkDown_frame (s : State) (l rounds : Nat) :
    (linkDown s l rounds).pending = s.pending ∧ (linkDown s l rounds).now = s.now ∧ (linkDown s l rounds).free = s.free ∧
      (linkDown s l rounds).out = s.out ∧ (linkDown s l rounds).sys = s.sys ∧ (linkDown s l rounds).flash = s.flash ∧
      (linkDown s l rounds).journal = s.journal ∧ (linkDown s l rounds).host = s.host ∧ (linkDown s l rounds).pcie = s.pcie ∧
      (linkDown s l rounds).foreman = s.foreman ∧ (linkDown s l rounds).pairs = s.pairs ∧ (linkDown s l rounds).eopen =
      s.eopen ∧ (linkDown s l rounds).ledger = s.ledger ∧ (linkDown s l rounds).sched = s.sched ∧ (linkDown s l rounds).tiles
      = s.tiles ∧ (linkDown s l rounds).dram = s.dram ∧ (linkDown s l rounds).assayer = s.assayer ∧ (linkDown s l
      rounds).rumbes = s.rumbes := by
  unfold linkDown; simp [*]
@[simp] theorem failRound_frame (s : State) (l : Nat) :
    (failRound s l).pending = s.pending ∧ (failRound s l).now = s.now ∧ (failRound s l).free = s.free ∧ (failRound s l).out
      = s.out ∧ (failRound s l).sys = s.sys ∧ (failRound s l).flash = s.flash ∧ (failRound s l).journal = s.journal ∧
      (failRound s l).host = s.host ∧ (failRound s l).pcie = s.pcie ∧ (failRound s l).foreman = s.foreman ∧ (failRound s
      l).pairs = s.pairs ∧ (failRound s l).eopen = s.eopen ∧ (failRound s l).ledger = s.ledger ∧ (failRound s l).sched =
      s.sched ∧ (failRound s l).tiles = s.tiles ∧ (failRound s l).dram = s.dram ∧ (failRound s l).assayer = s.assayer ∧
      (failRound s l).rumbes = s.rumbes := by
  unfold failRound; simp [*]
@[simp] theorem retrain_frame (s : State) (l : Nat) :
    (retrain s l).pending = s.pending ∧ (retrain s l).now = s.now ∧ (retrain s l).free = s.free ∧ (retrain s l).out = s.out
      ∧ (retrain s l).sys = s.sys ∧ (retrain s l).ka = s.ka ∧ (retrain s l).flash = s.flash ∧ (retrain s l).journal =
      s.journal ∧ (retrain s l).host = s.host ∧ (retrain s l).ports = s.ports ∧ (retrain s l).pcie = s.pcie ∧ (retrain s
      l).log = s.log ∧ (retrain s l).foreman = s.foreman ∧ (retrain s l).pairs = s.pairs ∧ (retrain s l).eopen = s.eopen ∧
      (retrain s l).ledger = s.ledger ∧ (retrain s l).sched = s.sched ∧ (retrain s l).tiles = s.tiles ∧ (retrain s l).dram =
      s.dram ∧ (retrain s l).assayer = s.assayer ∧ (retrain s l).rumbes = s.rumbes := by
  unfold retrain; simp [*]
@[simp] theorem emitTraining_frame (s : State) (l lock st go : Nat) :
    (emitTraining s l lock st go).pending = s.pending ∧ (emitTraining s l lock st go).now = s.now ∧ (emitTraining s l lock
      st go).free = s.free ∧ (emitTraining s l lock st go).sys = s.sys ∧ (emitTraining s l lock st go).ka = s.ka ∧
      (emitTraining s l lock st go).flash = s.flash ∧ (emitTraining s l lock st go).journal = s.journal ∧ (emitTraining s l
      lock st go).host = s.host ∧ (emitTraining s l lock st go).ports = s.ports ∧ (emitTraining s l lock st go).pcie = s.pcie
      ∧ (emitTraining s l lock st go).log = s.log ∧ (emitTraining s l lock st go).foreman = s.foreman ∧ (emitTraining s l lock
      st go).pairs = s.pairs ∧ (emitTraining s l lock st go).eopen = s.eopen ∧ (emitTraining s l lock st go).ledger = s.ledger
      ∧ (emitTraining s l lock st go).sched = s.sched ∧ (emitTraining s l lock st go).tiles = s.tiles ∧ (emitTraining s l lock
      st go).dram = s.dram ∧ (emitTraining s l lock st go).assayer = s.assayer ∧ (emitTraining s l lock st go).fabric =
      s.fabric ∧ (emitTraining s l lock st go).rumbes = s.rumbes := by
  unfold emitTraining; (repeat' split) <;> simp -implicitDefEqProofs [*]
@[simp] theorem openWindow_frame (s : State) :
    (openWindow s).pending = s.pending ∧ (openWindow s).now = s.now ∧ (openWindow s).free = s.free ∧ (openWindow s).out =
      s.out ∧ (openWindow s).sys = s.sys ∧ (openWindow s).ka = s.ka ∧ (openWindow s).flash = s.flash ∧ (openWindow s).journal
      = s.journal ∧ (openWindow s).host = s.host ∧ (openWindow s).ports = s.ports ∧ (openWindow s).pcie = s.pcie ∧ (openWindow
      s).log = s.log ∧ (openWindow s).foreman = s.foreman ∧ (openWindow s).pairs = s.pairs ∧ (openWindow s).eopen = s.eopen ∧
      (openWindow s).ledger = s.ledger ∧ (openWindow s).sched = s.sched ∧ (openWindow s).tiles = s.tiles ∧ (openWindow s).dram
      = s.dram ∧ (openWindow s).assayer = s.assayer ∧ (openWindow s).rumbes = s.rumbes := by
  unfold openWindow; simp [*]
@[simp] theorem setManager_frame (s : State) (id : Nat) :
    (setManager s id).pending = s.pending ∧ (setManager s id).now = s.now ∧ (setManager s id).free = s.free ∧ (setManager s
      id).out = s.out ∧ (setManager s id).sys = s.sys ∧ (setManager s id).ka = s.ka ∧ (setManager s id).flash = s.flash ∧
      (setManager s id).journal = s.journal ∧ (setManager s id).host = s.host ∧ (setManager s id).pcie = s.pcie ∧ (setManager
      s id).log = s.log ∧ (setManager s id).foreman = s.foreman ∧ (setManager s id).pairs = s.pairs ∧ (setManager s id).eopen
      = s.eopen ∧ (setManager s id).ledger = s.ledger ∧ (setManager s id).sched = s.sched ∧ (setManager s id).tiles = s.tiles
      ∧ (setManager s id).dram = s.dram ∧ (setManager s id).rumbes = s.rumbes := by
  unfold setManager; simp [*]
@[simp] theorem becomeSingle_frame (s : State) :
    (becomeSingle s).pending = s.pending ∧ (becomeSingle s).now = s.now ∧ (becomeSingle s).free = s.free ∧ (becomeSingle
      s).out = s.out ∧ (becomeSingle s).sys = s.sys ∧ (becomeSingle s).ka = s.ka ∧ (becomeSingle s).flash = s.flash ∧
      (becomeSingle s).journal = s.journal ∧ (becomeSingle s).host = s.host ∧ (becomeSingle s).pcie = s.pcie ∧ (becomeSingle
      s).log = s.log ∧ (becomeSingle s).foreman = s.foreman ∧ (becomeSingle s).pairs = s.pairs ∧ (becomeSingle s).eopen =
      s.eopen ∧ (becomeSingle s).ledger = s.ledger ∧ (becomeSingle s).sched = s.sched ∧ (becomeSingle s).tiles = s.tiles ∧
      (becomeSingle s).dram = s.dram ∧ (becomeSingle s).rumbes = s.rumbes := by
  unfold becomeSingle; simp [*]
@[simp] theorem hear_frame (s : State) (serial prio : Nat) :
    (hear s serial prio).pending = s.pending ∧ (hear s serial prio).now = s.now ∧ (hear s serial prio).free = s.free ∧ (hear
      s serial prio).out = s.out ∧ (hear s serial prio).sys = s.sys ∧ (hear s serial prio).ka = s.ka ∧ (hear s serial
      prio).flash = s.flash ∧ (hear s serial prio).journal = s.journal ∧ (hear s serial prio).host = s.host ∧ (hear s serial
      prio).ports = s.ports ∧ (hear s serial prio).pcie = s.pcie ∧ (hear s serial prio).log = s.log ∧ (hear s serial
      prio).foreman = s.foreman ∧ (hear s serial prio).pairs = s.pairs ∧ (hear s serial prio).eopen = s.eopen ∧ (hear s serial
      prio).ledger = s.ledger ∧ (hear s serial prio).sched = s.sched ∧ (hear s serial prio).tiles = s.tiles ∧ (hear s serial
      prio).dram = s.dram ∧ (hear s serial prio).assayer = s.assayer ∧ (hear s serial prio).rumbes = s.rumbes := by
  unfold hear; simp [*]
@[simp] theorem fabricFull_frame (s : State) (serial : Nat) :
    (fabricFull s serial).pending = s.pending ∧ (fabricFull s serial).now = s.now ∧ (fabricFull s serial).free = s.free ∧
      (fabricFull s serial).out = s.out ∧ (fabricFull s serial).sys = s.sys ∧ (fabricFull s serial).flash = s.flash ∧
      (fabricFull s serial).journal = s.journal ∧ (fabricFull s serial).host = s.host ∧ (fabricFull s serial).pcie = s.pcie ∧
      (fabricFull s serial).foreman = s.foreman ∧ (fabricFull s serial).pairs = s.pairs ∧ (fabricFull s serial).eopen =
      s.eopen ∧ (fabricFull s serial).ledger = s.ledger ∧ (fabricFull s serial).sched = s.sched ∧ (fabricFull s serial).tiles
      = s.tiles ∧ (fabricFull s serial).dram = s.dram ∧ (fabricFull s serial).assayer = s.assayer ∧ (fabricFull s
      serial).rumbes = s.rumbes := by
  unfold fabricFull; simp [*]
@[simp] theorem giveId_frame (s : State) (serial : Nat) :
    (giveId s serial).pending = s.pending ∧ (giveId s serial).now = s.now ∧ (giveId s serial).free = s.free ∧ (giveId s
      serial).out = s.out ∧ (giveId s serial).sys = s.sys ∧ (giveId s serial).flash = s.flash ∧ (giveId s serial).journal =
      s.journal ∧ (giveId s serial).host = s.host ∧ (giveId s serial).pcie = s.pcie ∧ (giveId s serial).foreman = s.foreman ∧
      (giveId s serial).pairs = s.pairs ∧ (giveId s serial).eopen = s.eopen ∧ (giveId s serial).ledger = s.ledger ∧ (giveId s
      serial).sched = s.sched ∧ (giveId s serial).tiles = s.tiles ∧ (giveId s serial).dram = s.dram ∧ (giveId s
      serial).assayer = s.assayer ∧ (giveId s serial).rumbes = s.rumbes := by
  unfold giveId; (repeat' split) <;> simp [*]
@[simp] theorem sendBeacon_frame (s : State) :
    (sendBeacon s).pending = s.pending ∧ (sendBeacon s).now = s.now ∧ (sendBeacon s).free = s.free ∧ (sendBeacon s).sys =
      s.sys ∧ (sendBeacon s).flash = s.flash ∧ (sendBeacon s).journal = s.journal ∧ (sendBeacon s).host = s.host ∧ (sendBeacon
      s).ports = s.ports ∧ (sendBeacon s).pcie = s.pcie ∧ (sendBeacon s).log = s.log ∧ (sendBeacon s).foreman = s.foreman ∧
      (sendBeacon s).pairs = s.pairs ∧ (sendBeacon s).eopen = s.eopen ∧ (sendBeacon s).ledger = s.ledger ∧ (sendBeacon
      s).sched = s.sched ∧ (sendBeacon s).tiles = s.tiles ∧ (sendBeacon s).dram = s.dram ∧ (sendBeacon s).assayer = s.assayer
      ∧ (sendBeacon s).rumbes = s.rumbes := by
  unfold sendBeacon; simp [*]
@[simp] theorem becomeManager_frame (s : State) :
    (becomeManager s).pending = s.pending ∧ (becomeManager s).now = s.now ∧ (becomeManager s).free = s.free ∧ (becomeManager
      s).sys = s.sys ∧ (becomeManager s).flash = s.flash ∧ (becomeManager s).journal = s.journal ∧ (becomeManager s).host =
      s.host ∧ (becomeManager s).pcie = s.pcie ∧ (becomeManager s).foreman = s.foreman ∧ (becomeManager s).pairs = s.pairs ∧
      (becomeManager s).eopen = s.eopen ∧ (becomeManager s).ledger = s.ledger ∧ (becomeManager s).sched = s.sched ∧
      (becomeManager s).tiles = s.tiles ∧ (becomeManager s).dram = s.dram ∧ (becomeManager s).rumbes = s.rumbes := by
  unfold becomeManager; simp [*]
@[simp] theorem follow_frame (s : State) (serial : Nat) (b : List Byte) :
    (follow s serial b).pending = s.pending ∧ (follow s serial b).now = s.now ∧ (follow s serial b).free = s.free ∧ (follow
      s serial b).out = s.out ∧ (follow s serial b).sys = s.sys ∧ (follow s serial b).ka = s.ka ∧ (follow s serial b).flash =
      s.flash ∧ (follow s serial b).journal = s.journal ∧ (follow s serial b).host = s.host ∧ (follow s serial b).pcie =
      s.pcie ∧ (follow s serial b).log = s.log ∧ (follow s serial b).foreman = s.foreman ∧ (follow s serial b).pairs = s.pairs
      ∧ (follow s serial b).eopen = s.eopen ∧ (follow s serial b).ledger = s.ledger ∧ (follow s serial b).sched = s.sched ∧
      (follow s serial b).tiles = s.tiles ∧ (follow s serial b).dram = s.dram ∧ (follow s serial b).rumbes = s.rumbes := by
  unfold follow; simp [*]
@[simp] theorem takeBeacon_frame (s : State) (serial : Nat) (b : List Byte) :
    (takeBeacon s serial b).pending = s.pending ∧ (takeBeacon s serial b).now = s.now ∧ (takeBeacon s serial b).free =
      s.free ∧ (takeBeacon s serial b).out = s.out ∧ (takeBeacon s serial b).sys = s.sys ∧ (takeBeacon s serial b).ka = s.ka ∧
      (takeBeacon s serial b).flash = s.flash ∧ (takeBeacon s serial b).journal = s.journal ∧ (takeBeacon s serial b).host =
      s.host ∧ (takeBeacon s serial b).pcie = s.pcie ∧ (takeBeacon s serial b).log = s.log ∧ (takeBeacon s serial b).foreman =
      s.foreman ∧ (takeBeacon s serial b).pairs = s.pairs ∧ (takeBeacon s serial b).eopen = s.eopen ∧ (takeBeacon s serial
      b).ledger = s.ledger ∧ (takeBeacon s serial b).sched = s.sched ∧ (takeBeacon s serial b).tiles = s.tiles ∧ (takeBeacon s
      serial b).dram = s.dram ∧ (takeBeacon s serial b).rumbes = s.rumbes := by
  unfold takeBeacon; simp [*]
@[simp] theorem recompute_frame (s : State) :
    (recompute s).pending = s.pending ∧ (recompute s).now = s.now ∧ (recompute s).free = s.free ∧ (recompute s).out = s.out
      ∧ (recompute s).sys = s.sys ∧ (recompute s).ka = s.ka ∧ (recompute s).flash = s.flash ∧ (recompute s).journal =
      s.journal ∧ (recompute s).host = s.host ∧ (recompute s).ports = s.ports ∧ (recompute s).pcie = s.pcie ∧ (recompute
      s).log = s.log ∧ (recompute s).foreman = s.foreman ∧ (recompute s).pairs = s.pairs ∧ (recompute s).eopen = s.eopen ∧
      (recompute s).ledger = s.ledger ∧ (recompute s).sched = s.sched ∧ (recompute s).tiles = s.tiles ∧ (recompute s).dram =
      s.dram ∧ (recompute s).assayer = s.assayer ∧ (recompute s).rumbes = s.rumbes := by
  unfold recompute; simp [*]
@[simp] theorem sendSummary_frame (s : State) :
    (sendSummary s).pending = s.pending ∧ (sendSummary s).now = s.now ∧ (sendSummary s).free = s.free ∧ (sendSummary s).sys
      = s.sys ∧ (sendSummary s).flash = s.flash ∧ (sendSummary s).journal = s.journal ∧ (sendSummary s).host = s.host ∧
      (sendSummary s).ports = s.ports ∧ (sendSummary s).pcie = s.pcie ∧ (sendSummary s).log = s.log ∧ (sendSummary s).foreman
      = s.foreman ∧ (sendSummary s).pairs = s.pairs ∧ (sendSummary s).eopen = s.eopen ∧ (sendSummary s).ledger = s.ledger ∧
      (sendSummary s).sched = s.sched ∧ (sendSummary s).tiles = s.tiles ∧ (sendSummary s).dram = s.dram ∧ (sendSummary
      s).assayer = s.assayer ∧ (sendSummary s).rumbes = s.rumbes := by
  unfold sendSummary; simp [*]
@[simp] theorem takeSummary_frame (s : State) (serial : Nat) (b : List Byte) :
    (takeSummary s serial b).pending = s.pending ∧ (takeSummary s serial b).now = s.now ∧ (takeSummary s serial b).free
      = s.free ∧ (takeSummary s serial b).out = s.out ∧ (takeSummary s serial b).sys = s.sys ∧ (takeSummary s serial
      b).ka = s.ka ∧ (takeSummary s serial b).flash = s.flash ∧ (takeSummary s serial b).journal = s.journal ∧
      (takeSummary s serial b).host = s.host ∧ (takeSummary s serial b).ports = s.ports ∧ (takeSummary s serial b).pcie
      = s.pcie ∧ (takeSummary s serial b).log = s.log ∧ (takeSummary s serial b).foreman = s.foreman ∧ (takeSummary s
      serial b).pairs = s.pairs ∧ (takeSummary s serial b).eopen = s.eopen ∧ (takeSummary s serial b).ledger = s.ledger
      ∧ (takeSummary s serial b).sched = s.sched ∧ (takeSummary s serial b).tiles = s.tiles ∧ (takeSummary s serial
      b).dram = s.dram ∧ (takeSummary s serial b).rumbes = s.rumbes := by
  unfold takeSummary; simp -implicitDefEqProofs [*]
@[simp] theorem fabricStart_frame (s : State) (stale : Bool) :
    (fabricStart s stale).pending = s.pending ∧ (fabricStart s stale).now = s.now ∧ (fabricStart s stale).free = s.free ∧
      (fabricStart s stale).out = s.out ∧ (fabricStart s stale).sys = s.sys ∧ (fabricStart s stale).ka = s.ka ∧ (fabricStart s
      stale).flash = s.flash ∧ (fabricStart s stale).journal = s.journal ∧ (fabricStart s stale).host = s.host ∧ (fabricStart
      s stale).pcie = s.pcie ∧ (fabricStart s stale).log = s.log ∧ (fabricStart s stale).foreman = s.foreman ∧ (fabricStart s
      stale).pairs = s.pairs ∧ (fabricStart s stale).eopen = s.eopen ∧ (fabricStart s stale).ledger = s.ledger ∧ (fabricStart
      s stale).sched = s.sched ∧ (fabricStart s stale).tiles = s.tiles ∧ (fabricStart s stale).dram = s.dram ∧ (fabricStart s
      stale).rumbes = s.rumbes := by
  unfold fabricStart; simp [*]

/-! ### FabricRows -/

@[simp] theorem linkRow_pending (t l : Nat) (st : LinkSt) (c : State → Bool) (f : State → State) (s : State) (h_f : ∀
  x0, (f x0).pending = x0.pending) :
    (linkRow t l st c f s).pending = s.pending := by
  unfold linkRow; simp -implicitDefEqProofs [*]
@[simp] theorem linkRow_free (t l : Nat) (st : LinkSt) (c : State → Bool) (f : State → State) (s : State) (h_f : ∀ x0,
  (f x0).free = x0.free) :
    (linkRow t l st c f s).free = s.free := by
  unfold linkRow; simp -implicitDefEqProofs [*]
@[simp] theorem linkRow_sys (t l : Nat) (st : LinkSt) (c : State → Bool) (f : State → State) (s : State) (h_f : ∀ x0, (f
  x0).sys = x0.sys) :
    (linkRow t l st c f s).sys = s.sys := by
  unfold linkRow; simp -implicitDefEqProofs [*]
@[simp] theorem linkRow_ka (t l : Nat) (st : LinkSt) (c : State → Bool) (f : State → State) (s : State) (h_f : ∀ x0, (f
  x0).ka = x0.ka) :
    (linkRow t l st c f s).ka = s.ka := by
  unfold linkRow; simp -implicitDefEqProofs [*]
@[simp] theorem linkRow_flash (t l : Nat) (st : LinkSt) (c : State → Bool) (f : State → State) (s : State) (h_f : ∀ x0,
  (f x0).flash = x0.flash) :
    (linkRow t l st c f s).flash = s.flash := by
  unfold linkRow; simp -implicitDefEqProofs [*]
@[simp] theorem linkRow_journal (t l : Nat) (st : LinkSt) (c : State → Bool) (f : State → State) (s : State) (h_f : ∀
  x0, (f x0).journal = x0.journal) :
    (linkRow t l st c f s).journal = s.journal := by
  unfold linkRow; simp -implicitDefEqProofs [*]
@[simp] theorem linkRow_log (t l : Nat) (st : LinkSt) (c : State → Bool) (f : State → State) (s : State) (h_f : ∀ x0, (f
  x0).log = x0.log) :
    (linkRow t l st c f s).log = s.log := by
  unfold linkRow; simp -implicitDefEqProofs [*]
@[simp] theorem linkRow_foreman (t l : Nat) (st : LinkSt) (c : State → Bool) (f : State → State) (s : State) (h_f : ∀
  x0, (f x0).foreman = x0.foreman) :
    (linkRow t l st c f s).foreman = s.foreman := by
  unfold linkRow; simp -implicitDefEqProofs [*]
@[simp] theorem linkRow_pairs (t l : Nat) (st : LinkSt) (c : State → Bool) (f : State → State) (s : State) (h_f : ∀ x0,
  (f x0).pairs = x0.pairs) :
    (linkRow t l st c f s).pairs = s.pairs := by
  unfold linkRow; simp -implicitDefEqProofs [*]
@[simp] theorem linkRow_eopen (t l : Nat) (st : LinkSt) (c : State → Bool) (f : State → State) (s : State) (h_f : ∀ x0,
  (f x0).eopen = x0.eopen) :
    (linkRow t l st c f s).eopen = s.eopen := by
  unfold linkRow; simp -implicitDefEqProofs [*]
@[simp] theorem linkRow_ledger (t l : Nat) (st : LinkSt) (c : State → Bool) (f : State → State) (s : State) (h_f : ∀ x0,
  (f x0).ledger = x0.ledger) :
    (linkRow t l st c f s).ledger = s.ledger := by
  unfold linkRow; simp -implicitDefEqProofs [*]
@[simp] theorem linkRow_sched (t l : Nat) (st : LinkSt) (c : State → Bool) (f : State → State) (s : State) (h_f : ∀ x0,
  (f x0).sched = x0.sched) :
    (linkRow t l st c f s).sched = s.sched := by
  unfold linkRow; simp -implicitDefEqProofs [*]
@[simp] theorem linkRow_tiles (t l : Nat) (st : LinkSt) (c : State → Bool) (f : State → State) (s : State) (h_f : ∀ x0,
  (f x0).tiles = x0.tiles) :
    (linkRow t l st c f s).tiles = s.tiles := by
  unfold linkRow; simp -implicitDefEqProofs [*]
@[simp] theorem linkRow_dram (t l : Nat) (st : LinkSt) (c : State → Bool) (f : State → State) (s : State) (h_f : ∀ x0,
  (f x0).dram = x0.dram) :
    (linkRow t l st c f s).dram = s.dram := by
  unfold linkRow; simp -implicitDefEqProofs [*]
@[simp] theorem linkRow_assayer (t l : Nat) (st : LinkSt) (c : State → Bool) (f : State → State) (s : State) (h_f : ∀
  x0, (f x0).assayer = x0.assayer) :
    (linkRow t l st c f s).assayer = s.assayer := by
  unfold linkRow; simp -implicitDefEqProofs [*]
@[simp] theorem linkRow_fabric (t l : Nat) (st : LinkSt) (c : State → Bool) (f : State → State) (s : State) (h_f : ∀ x0,
  (f x0).fabric = x0.fabric) :
    (linkRow t l st c f s).fabric = s.fabric := by
  unfold linkRow; simp -implicitDefEqProofs [*]
@[simp] theorem linkRow_rumbes (t l : Nat) (st : LinkSt) (c : State → Bool) (f : State → State) (s : State) (h_f : ∀ x0,
  (f x0).rumbes = x0.rumbes) :
    (linkRow t l st c f s).rumbes = s.rumbes := by
  unfold linkRow; simp -implicitDefEqProofs [*]
@[simp] theorem detectDoneDo_frame (l : Nat) (s : State) :
    (detectDoneDo l s).pending = s.pending ∧ (detectDoneDo l s).now = s.now ∧ (detectDoneDo l s).free = s.free ∧
      (detectDoneDo l s).out = s.out ∧ (detectDoneDo l s).sys = s.sys ∧ (detectDoneDo l s).ka = s.ka ∧ (detectDoneDo l
      s).flash = s.flash ∧ (detectDoneDo l s).journal = s.journal ∧ (detectDoneDo l s).host = s.host ∧ (detectDoneDo l
      s).ports = s.ports ∧ (detectDoneDo l s).pcie = s.pcie ∧ (detectDoneDo l s).log = s.log ∧ (detectDoneDo l s).foreman =
      s.foreman ∧ (detectDoneDo l s).pairs = s.pairs ∧ (detectDoneDo l s).eopen = s.eopen ∧ (detectDoneDo l s).ledger =
      s.ledger ∧ (detectDoneDo l s).sched = s.sched ∧ (detectDoneDo l s).tiles = s.tiles ∧ (detectDoneDo l s).dram = s.dram ∧
      (detectDoneDo l s).assayer = s.assayer ∧ (detectDoneDo l s).rumbes = s.rumbes := by
  unfold detectDoneDo; simp [*]
@[simp] theorem exchangeDoneDo_frame (l : Nat) (peerHi : Bool) (s : State) :
    (exchangeDoneDo l peerHi s).pending = s.pending ∧ (exchangeDoneDo l peerHi s).now = s.now ∧ (exchangeDoneDo l peerHi
      s).sys = s.sys ∧ (exchangeDoneDo l peerHi s).ka = s.ka ∧ (exchangeDoneDo l peerHi s).flash = s.flash ∧ (exchangeDoneDo l
      peerHi s).journal = s.journal ∧ (exchangeDoneDo l peerHi s).host = s.host ∧ (exchangeDoneDo l peerHi s).ports = s.ports
      ∧ (exchangeDoneDo l peerHi s).pcie = s.pcie ∧ (exchangeDoneDo l peerHi s).log = s.log ∧ (exchangeDoneDo l peerHi
      s).foreman = s.foreman ∧ (exchangeDoneDo l peerHi s).pairs = s.pairs ∧ (exchangeDoneDo l peerHi s).eopen = s.eopen ∧
      (exchangeDoneDo l peerHi s).ledger = s.ledger ∧ (exchangeDoneDo l peerHi s).sched = s.sched ∧ (exchangeDoneDo l peerHi
      s).tiles = s.tiles ∧ (exchangeDoneDo l peerHi s).dram = s.dram ∧ (exchangeDoneDo l peerHi s).assayer = s.assayer ∧
      (exchangeDoneDo l peerHi s).rumbes = s.rumbes := by
  unfold exchangeDoneDo; simp [*]
@[simp] theorem alignDo_frame (l own : Nat) (last : BitVec 56) (seen : List (Option (BitVec 56))) (s : State) :
    (alignDo l own last seen s).pending = s.pending ∧ (alignDo l own last seen s).now = s.now ∧ (alignDo l own last seen
      s).free = s.free ∧ (alignDo l own last seen s).sys = s.sys ∧ (alignDo l own last seen s).flash = s.flash ∧
      (alignDo l own last seen s).journal = s.journal ∧ (alignDo l own last seen s).host = s.host ∧ (alignDo l own last
      seen s).pcie = s.pcie ∧ (alignDo l own last seen s).foreman = s.foreman ∧ (alignDo l own last seen s).pairs =
      s.pairs ∧ (alignDo l own last seen s).eopen = s.eopen ∧ (alignDo l own last seen s).ledger = s.ledger ∧ (alignDo l
      own last seen s).sched = s.sched ∧ (alignDo l own last seen s).tiles = s.tiles ∧ (alignDo l own last seen s).dram
      = s.dram ∧ (alignDo l own last seen s).assayer = s.assayer ∧ (alignDo l own last seen s).rumbes = s.rumbes := by
  unfold alignDo; simp [*]
@[simp] theorem singleRound_frame (l : Nat) (s : State) :
    (singleRound l s).pending = s.pending ∧ (singleRound l s).now = s.now ∧ (singleRound l s).free = s.free ∧ (singleRound l
      s).out = s.out ∧ (singleRound l s).sys = s.sys ∧ (singleRound l s).ka = s.ka ∧ (singleRound l s).flash = s.flash ∧
      (singleRound l s).journal = s.journal ∧ (singleRound l s).host = s.host ∧ (singleRound l s).ports = s.ports ∧
      (singleRound l s).pcie = s.pcie ∧ (singleRound l s).log = s.log ∧ (singleRound l s).foreman = s.foreman ∧ (singleRound l
      s).pairs = s.pairs ∧ (singleRound l s).eopen = s.eopen ∧ (singleRound l s).ledger = s.ledger ∧ (singleRound l s).sched =
      s.sched ∧ (singleRound l s).tiles = s.tiles ∧ (singleRound l s).dram = s.dram ∧ (singleRound l s).assayer = s.assayer ∧
      (singleRound l s).rumbes = s.rumbes := by
  unfold singleRound; simp [*]
@[simp] theorem neighDo_frame (l : Nat) (f : Fab) (s : State) :
    (neighDo l f s).pending = s.pending ∧ (neighDo l f s).now = s.now ∧ (neighDo l f s).free = s.free ∧ (neighDo l f
      s).out = s.out ∧ (neighDo l f s).sys = s.sys ∧ (neighDo l f s).ka = s.ka ∧ (neighDo l f s).flash = s.flash ∧
      (neighDo l f s).journal = s.journal ∧ (neighDo l f s).host = s.host ∧ (neighDo l f s).ports = s.ports ∧ (neighDo l
      f s).pcie = s.pcie ∧ (neighDo l f s).log = s.log ∧ (neighDo l f s).foreman = s.foreman ∧ (neighDo l f s).pairs =
      s.pairs ∧ (neighDo l f s).eopen = s.eopen ∧ (neighDo l f s).ledger = s.ledger ∧ (neighDo l f s).sched = s.sched ∧
      (neighDo l f s).tiles = s.tiles ∧ (neighDo l f s).dram = s.dram ∧ (neighDo l f s).assayer = s.assayer ∧ (neighDo l
      f s).rumbes = s.rumbes := by
  unfold neighDo; simp [*]
@[simp] theorem helloDo_frame (f : Fab) (s : State) :
    (helloDo f s).pending = s.pending ∧ (helloDo f s).now = s.now ∧ (helloDo f s).free = s.free ∧ (helloDo f s).out =
      s.out ∧ (helloDo f s).sys = s.sys ∧ (helloDo f s).flash = s.flash ∧ (helloDo f s).journal = s.journal ∧ (helloDo f
      s).host = s.host ∧ (helloDo f s).pcie = s.pcie ∧ (helloDo f s).foreman = s.foreman ∧ (helloDo f s).pairs = s.pairs
      ∧ (helloDo f s).eopen = s.eopen ∧ (helloDo f s).ledger = s.ledger ∧ (helloDo f s).sched = s.sched ∧ (helloDo f
      s).tiles = s.tiles ∧ (helloDo f s).dram = s.dram ∧ (helloDo f s).assayer = s.assayer ∧ (helloDo f s).rumbes =
      s.rumbes := by
  unfold helloDo; simp [*]
@[simp] theorem forwardDo_frame (f : Fab) (s : State) :
    (forwardDo f s).pending = s.pending ∧ (forwardDo f s).now = s.now ∧ (forwardDo f s).free = s.free ∧ (forwardDo f
      s).sys = s.sys ∧ (forwardDo f s).ka = s.ka ∧ (forwardDo f s).flash = s.flash ∧ (forwardDo f s).journal = s.journal
      ∧ (forwardDo f s).host = s.host ∧ (forwardDo f s).ports = s.ports ∧ (forwardDo f s).pcie = s.pcie ∧ (forwardDo f
      s).log = s.log ∧ (forwardDo f s).foreman = s.foreman ∧ (forwardDo f s).pairs = s.pairs ∧ (forwardDo f s).eopen =
      s.eopen ∧ (forwardDo f s).ledger = s.ledger ∧ (forwardDo f s).sched = s.sched ∧ (forwardDo f s).tiles = s.tiles ∧
      (forwardDo f s).dram = s.dram ∧ (forwardDo f s).assayer = s.assayer ∧ (forwardDo f s).rumbes = s.rumbes := by
  unfold forwardDo; simp [*]
@[simp] theorem neighSendDo_frame (s : State) :
    (neighSendDo s).pending = s.pending ∧ (neighSendDo s).now = s.now ∧ (neighSendDo s).free = s.free ∧ (neighSendDo s).sys
      = s.sys ∧ (neighSendDo s).flash = s.flash ∧ (neighSendDo s).journal = s.journal ∧ (neighSendDo s).host = s.host ∧
      (neighSendDo s).ports = s.ports ∧ (neighSendDo s).pcie = s.pcie ∧ (neighSendDo s).log = s.log ∧ (neighSendDo s).foreman
      = s.foreman ∧ (neighSendDo s).pairs = s.pairs ∧ (neighSendDo s).eopen = s.eopen ∧ (neighSendDo s).ledger = s.ledger ∧
      (neighSendDo s).sched = s.sched ∧ (neighSendDo s).tiles = s.tiles ∧ (neighSendDo s).dram = s.dram ∧ (neighSendDo
      s).assayer = s.assayer ∧ (neighSendDo s).rumbes = s.rumbes := by
  unfold neighSendDo; simp [*]
@[simp] theorem managerSerial_frame (s : State) :
    (managerSerial s).2.pending = s.pending ∧ (managerSerial s).2.now = s.now ∧ (managerSerial s).2.out = s.out ∧
      (managerSerial s).2.sys = s.sys ∧ (managerSerial s).2.ka = s.ka ∧ (managerSerial s).2.flash = s.flash ∧ (managerSerial
      s).2.journal = s.journal ∧ (managerSerial s).2.host = s.host ∧ (managerSerial s).2.ports = s.ports ∧ (managerSerial
      s).2.pcie = s.pcie ∧ (managerSerial s).2.log = s.log ∧ (managerSerial s).2.foreman = s.foreman ∧ (managerSerial
      s).2.pairs = s.pairs ∧ (managerSerial s).2.eopen = s.eopen ∧ (managerSerial s).2.ledger = s.ledger ∧ (managerSerial
      s).2.sched = s.sched ∧ (managerSerial s).2.tiles = s.tiles ∧ (managerSerial s).2.dram = s.dram ∧ (managerSerial
      s).2.assayer = s.assayer ∧ (managerSerial s).2.fabric = s.fabric ∧ (managerSerial s).2.rumbes = s.rumbes := by
  unfold managerSerial; split <;> simp [*]
@[simp] theorem helloSendDo_frame (s : State) :
    (helloSendDo s).pending = s.pending ∧ (helloSendDo s).now = s.now ∧ (helloSendDo s).sys = s.sys ∧ (helloSendDo s).flash
      = s.flash ∧ (helloSendDo s).journal = s.journal ∧ (helloSendDo s).host = s.host ∧ (helloSendDo s).ports = s.ports ∧
      (helloSendDo s).pcie = s.pcie ∧ (helloSendDo s).log = s.log ∧ (helloSendDo s).foreman = s.foreman ∧ (helloSendDo
      s).pairs = s.pairs ∧ (helloSendDo s).eopen = s.eopen ∧ (helloSendDo s).ledger = s.ledger ∧ (helloSendDo s).sched =
      s.sched ∧ (helloSendDo s).tiles = s.tiles ∧ (helloSendDo s).dram = s.dram ∧ (helloSendDo s).assayer = s.assayer ∧
      (helloSendDo s).rumbes = s.rumbes := by
  unfold helloSendDo; simp [*]
@[simp] theorem neighSilentDo_frame (l : Nat) (s : State) :
    (neighSilentDo l s).pending = s.pending ∧ (neighSilentDo l s).now = s.now ∧ (neighSilentDo l s).free = s.free ∧
      (neighSilentDo l s).out = s.out ∧ (neighSilentDo l s).sys = s.sys ∧ (neighSilentDo l s).flash = s.flash ∧ (neighSilentDo
      l s).journal = s.journal ∧ (neighSilentDo l s).host = s.host ∧ (neighSilentDo l s).pcie = s.pcie ∧ (neighSilentDo l
      s).foreman = s.foreman ∧ (neighSilentDo l s).pairs = s.pairs ∧ (neighSilentDo l s).eopen = s.eopen ∧ (neighSilentDo l
      s).ledger = s.ledger ∧ (neighSilentDo l s).sched = s.sched ∧ (neighSilentDo l s).tiles = s.tiles ∧ (neighSilentDo l
      s).dram = s.dram ∧ (neighSilentDo l s).assayer = s.assayer ∧ (neighSilentDo l s).rumbes = s.rumbes := by
  unfold neighSilentDo; simp [*]
@[simp] theorem floodHoldEndDo_frame (s : State) :
    (floodHoldEndDo s).pending = s.pending ∧ (floodHoldEndDo s).now = s.now ∧ (floodHoldEndDo s).free = s.free ∧
      (floodHoldEndDo s).out = s.out ∧ (floodHoldEndDo s).sys = s.sys ∧ (floodHoldEndDo s).ka = s.ka ∧ (floodHoldEndDo
      s).flash = s.flash ∧ (floodHoldEndDo s).journal = s.journal ∧ (floodHoldEndDo s).host = s.host ∧ (floodHoldEndDo
      s).ports = s.ports ∧ (floodHoldEndDo s).pcie = s.pcie ∧ (floodHoldEndDo s).log = s.log ∧ (floodHoldEndDo s).foreman =
      s.foreman ∧ (floodHoldEndDo s).pairs = s.pairs ∧ (floodHoldEndDo s).eopen = s.eopen ∧ (floodHoldEndDo s).ledger =
      s.ledger ∧ (floodHoldEndDo s).sched = s.sched ∧ (floodHoldEndDo s).tiles = s.tiles ∧ (floodHoldEndDo s).dram = s.dram ∧
      (floodHoldEndDo s).assayer = s.assayer ∧ (floodHoldEndDo s).rumbes = s.rumbes := by
  unfold floodHoldEndDo; simp [*]
@[simp] theorem windowCloseDo_frame (s : State) :
    (windowCloseDo s).pending = s.pending ∧ (windowCloseDo s).now = s.now ∧ (windowCloseDo s).free = s.free ∧ (windowCloseDo
      s).sys = s.sys ∧ (windowCloseDo s).flash = s.flash ∧ (windowCloseDo s).journal = s.journal ∧ (windowCloseDo s).host =
      s.host ∧ (windowCloseDo s).pcie = s.pcie ∧ (windowCloseDo s).foreman = s.foreman ∧ (windowCloseDo s).pairs = s.pairs ∧
      (windowCloseDo s).eopen = s.eopen ∧ (windowCloseDo s).ledger = s.ledger ∧ (windowCloseDo s).sched = s.sched ∧
      (windowCloseDo s).tiles = s.tiles ∧ (windowCloseDo s).dram = s.dram ∧ (windowCloseDo s).rumbes = s.rumbes := by
  unfold windowCloseDo; simp [*]
@[simp] theorem managerLeaseDo_frame (s : State) :
    (managerLeaseDo s).pending = s.pending ∧ (managerLeaseDo s).now = s.now ∧ (managerLeaseDo s).free = s.free ∧
      (managerLeaseDo s).out = s.out ∧ (managerLeaseDo s).sys = s.sys ∧ (managerLeaseDo s).ka = s.ka ∧ (managerLeaseDo
      s).flash = s.flash ∧ (managerLeaseDo s).journal = s.journal ∧ (managerLeaseDo s).host = s.host ∧ (managerLeaseDo s).pcie
      = s.pcie ∧ (managerLeaseDo s).log = s.log ∧ (managerLeaseDo s).foreman = s.foreman ∧ (managerLeaseDo s).pairs = s.pairs
      ∧ (managerLeaseDo s).eopen = s.eopen ∧ (managerLeaseDo s).ledger = s.ledger ∧ (managerLeaseDo s).sched = s.sched ∧
      (managerLeaseDo s).tiles = s.tiles ∧ (managerLeaseDo s).dram = s.dram ∧ (managerLeaseDo s).rumbes = s.rumbes := by
  unfold managerLeaseDo; simp [*]
@[simp] theorem linkBytes_frame (s : State) :
    (linkBytes s).2.pending = s.pending ∧ (linkBytes s).2.now = s.now ∧ (linkBytes s).2.out = s.out ∧ (linkBytes s).2.sys =
      s.sys ∧ (linkBytes s).2.ka = s.ka ∧ (linkBytes s).2.flash = s.flash ∧ (linkBytes s).2.journal = s.journal ∧ (linkBytes
      s).2.host = s.host ∧ (linkBytes s).2.ports = s.ports ∧ (linkBytes s).2.pcie = s.pcie ∧ (linkBytes s).2.log = s.log ∧
      (linkBytes s).2.foreman = s.foreman ∧ (linkBytes s).2.pairs = s.pairs ∧ (linkBytes s).2.eopen = s.eopen ∧ (linkBytes
      s).2.ledger = s.ledger ∧ (linkBytes s).2.sched = s.sched ∧ (linkBytes s).2.tiles = s.tiles ∧ (linkBytes s).2.dram =
      s.dram ∧ (linkBytes s).2.assayer = s.assayer ∧ (linkBytes s).2.fabric = s.fabric ∧ (linkBytes s).2.rumbes = s.rumbes :=
      by
  refine ⟨?_, ?_, ?_, ?_, ?_, ?_, ?_, ?_, ?_, ?_, ?_, ?_, ?_, ?_, ?_, ?_, ?_, ?_, ?_, ?_, ?_⟩
  · unfold linkBytes; exact foldl_pending_snd _ _ _ (fun a x => by dsimp only; split <;> simp)
  · unfold linkBytes; exact foldl_now_snd _ _ _ (fun a x => by dsimp only; split <;> simp)
  · unfold linkBytes; exact foldl_out_snd _ _ _ (fun a x => by dsimp only; split <;> simp)
  · unfold linkBytes; exact foldl_sys_snd _ _ _ (fun a x => by dsimp only; split <;> simp)
  · unfold linkBytes; exact foldl_ka_snd _ _ _ (fun a x => by dsimp only; split <;> simp)
  · unfold linkBytes; exact foldl_flash_snd _ _ _ (fun a x => by dsimp only; split <;> simp)
  · unfold linkBytes; exact foldl_journal_snd _ _ _ (fun a x => by dsimp only; split <;> simp)
  · unfold linkBytes; exact foldl_host_snd _ _ _ (fun a x => by dsimp only; split <;> simp)
  · unfold linkBytes; exact foldl_ports_snd _ _ _ (fun a x => by dsimp only; split <;> simp)
  · unfold linkBytes; exact foldl_pcie_snd _ _ _ (fun a x => by dsimp only; split <;> simp)
  · unfold linkBytes; exact foldl_log_snd _ _ _ (fun a x => by dsimp only; split <;> simp)
  · unfold linkBytes; exact foldl_foreman_snd _ _ _ (fun a x => by dsimp only; split <;> simp)
  · unfold linkBytes; exact foldl_pairs_snd _ _ _ (fun a x => by dsimp only; split <;> simp)
  · unfold linkBytes; exact foldl_eopen_snd _ _ _ (fun a x => by dsimp only; split <;> simp)
  · unfold linkBytes; exact foldl_ledger_snd _ _ _ (fun a x => by dsimp only; split <;> simp)
  · unfold linkBytes; exact foldl_sched_snd _ _ _ (fun a x => by dsimp only; split <;> simp)
  · unfold linkBytes; exact foldl_tiles_snd _ _ _ (fun a x => by dsimp only; split <;> simp)
  · unfold linkBytes; exact foldl_dram_snd _ _ _ (fun a x => by dsimp only; split <;> simp)
  · unfold linkBytes; exact foldl_assayer_snd _ _ _ (fun a x => by dsimp only; split <;> simp)
  · unfold linkBytes; exact foldl_fabric_snd _ _ _ (fun a x => by dsimp only; split <;> simp)
  · unfold linkBytes; exact foldl_rumbes_snd _ _ _ (fun a x => by dsimp only; split <;> simp)
@[simp] theorem fabricStatusDo_frame (r : Req) (s : State) :
    (fabricStatusDo r s).pending = s.pending ∧ (fabricStatusDo r s).now = s.now ∧ (fabricStatusDo r s).out = s.out ∧
      (fabricStatusDo r s).sys = s.sys ∧ (fabricStatusDo r s).ka = s.ka ∧ (fabricStatusDo r s).flash = s.flash ∧
      (fabricStatusDo r s).journal = s.journal ∧ (fabricStatusDo r s).host = s.host ∧ (fabricStatusDo r s).pcie = s.pcie ∧
      (fabricStatusDo r s).log = s.log ∧ (fabricStatusDo r s).foreman = s.foreman ∧ (fabricStatusDo r s).pairs = s.pairs ∧
      (fabricStatusDo r s).eopen = s.eopen ∧ (fabricStatusDo r s).ledger = s.ledger ∧ (fabricStatusDo r s).sched = s.sched ∧
      (fabricStatusDo r s).tiles = s.tiles ∧ (fabricStatusDo r s).dram = s.dram ∧ (fabricStatusDo r s).assayer = s.assayer ∧
      (fabricStatusDo r s).fabric = s.fabric ∧ (fabricStatusDo r s).rumbes = s.rumbes := by
  unfold fabricStatusDo; simp [*]
@[simp] theorem routesDo_frame (r : Req) (s : State) :
    (routesDo r s).pending = s.pending ∧ (routesDo r s).now = s.now ∧ (routesDo r s).free = s.free ∧ (routesDo r s).out =
      s.out ∧ (routesDo r s).sys = s.sys ∧ (routesDo r s).ka = s.ka ∧ (routesDo r s).flash = s.flash ∧ (routesDo r s).journal
      = s.journal ∧ (routesDo r s).host = s.host ∧ (routesDo r s).pcie = s.pcie ∧ (routesDo r s).log = s.log ∧ (routesDo r
      s).foreman = s.foreman ∧ (routesDo r s).pairs = s.pairs ∧ (routesDo r s).eopen = s.eopen ∧ (routesDo r s).ledger =
      s.ledger ∧ (routesDo r s).sched = s.sched ∧ (routesDo r s).tiles = s.tiles ∧ (routesDo r s).dram = s.dram ∧ (routesDo r
      s).assayer = s.assayer ∧ (routesDo r s).fabric = s.fabric ∧ (routesDo r s).rumbes = s.rumbes := by
  unfold routesDo; simp [*]
@[simp] theorem setFabricDo_frame (r : Req) (s : State) :
    (setFabricDo r s).pending = s.pending ∧ (setFabricDo r s).now = s.now ∧ (setFabricDo r s).free = s.free ∧ (setFabricDo r
      s).out = s.out ∧ (setFabricDo r s).sys = s.sys ∧ (setFabricDo r s).flash = s.flash ∧ (setFabricDo r s).host = s.host ∧
      (setFabricDo r s).pcie = s.pcie ∧ (setFabricDo r s).log = s.log ∧ (setFabricDo r s).foreman = s.foreman ∧ (setFabricDo r
      s).pairs = s.pairs ∧ (setFabricDo r s).eopen = s.eopen ∧ (setFabricDo r s).ledger = s.ledger ∧ (setFabricDo r s).sched =
      s.sched ∧ (setFabricDo r s).tiles = s.tiles ∧ (setFabricDo r s).dram = s.dram ∧ (setFabricDo r s).assayer = s.assayer ∧
      (setFabricDo r s).rumbes = s.rumbes := by
  unfold setFabricDo; simp [*]
@[simp] theorem linkRetrainDo_frame (r : Req) (s : State) :
    (linkRetrainDo r s).pending = s.pending ∧ (linkRetrainDo r s).now = s.now ∧ (linkRetrainDo r s).free = s.free ∧
      (linkRetrainDo r s).out = s.out ∧ (linkRetrainDo r s).sys = s.sys ∧ (linkRetrainDo r s).ka = s.ka ∧ (linkRetrainDo r
      s).flash = s.flash ∧ (linkRetrainDo r s).journal = s.journal ∧ (linkRetrainDo r s).host = s.host ∧ (linkRetrainDo r
      s).pcie = s.pcie ∧ (linkRetrainDo r s).log = s.log ∧ (linkRetrainDo r s).foreman = s.foreman ∧ (linkRetrainDo r s).pairs
      = s.pairs ∧ (linkRetrainDo r s).eopen = s.eopen ∧ (linkRetrainDo r s).ledger = s.ledger ∧ (linkRetrainDo r s).sched =
      s.sched ∧ (linkRetrainDo r s).tiles = s.tiles ∧ (linkRetrainDo r s).dram = s.dram ∧ (linkRetrainDo r s).assayer =
      s.assayer ∧ (linkRetrainDo r s).rumbes = s.rumbes := by
  unfold linkRetrainDo; simp [*]

/-! ### Journal -/

@[simp] theorem flashPut_frame (s : State) (a : Nat) (b : List Byte) :
    (flashPut s a b).pending = s.pending ∧ (flashPut s a b).now = s.now ∧ (flashPut s a b).free = s.free ∧ (flashPut s a
      b).out = s.out ∧ (flashPut s a b).sys = s.sys ∧ (flashPut s a b).ka = s.ka ∧ (flashPut s a b).journal = s.journal ∧
      (flashPut s a b).host = s.host ∧ (flashPut s a b).ports = s.ports ∧ (flashPut s a b).pcie = s.pcie ∧ (flashPut s a
      b).log = s.log ∧ (flashPut s a b).foreman = s.foreman ∧ (flashPut s a b).pairs = s.pairs ∧ (flashPut s a b).eopen =
      s.eopen ∧ (flashPut s a b).ledger = s.ledger ∧ (flashPut s a b).sched = s.sched ∧ (flashPut s a b).tiles = s.tiles ∧
      (flashPut s a b).dram = s.dram ∧ (flashPut s a b).assayer = s.assayer ∧ (flashPut s a b).fabric = s.fabric ∧ (flashPut s
      a b).rumbes = s.rumbes := by
  unfold flashPut; simp [*]
@[simp] theorem programRecord_frame (s : State) (g : GenRun) (commit : Bool) :
    (programRecord s g commit).pending = s.pending ∧ (programRecord s g commit).now = s.now ∧ (programRecord s g
      commit).free = s.free ∧ (programRecord s g commit).out = s.out ∧ (programRecord s g commit).sys = s.sys ∧ (programRecord
      s g commit).ka = s.ka ∧ (programRecord s g commit).journal = s.journal ∧ (programRecord s g commit).host = s.host ∧
      (programRecord s g commit).ports = s.ports ∧ (programRecord s g commit).pcie = s.pcie ∧ (programRecord s g commit).log =
      s.log ∧ (programRecord s g commit).foreman = s.foreman ∧ (programRecord s g commit).pairs = s.pairs ∧ (programRecord s g
      commit).eopen = s.eopen ∧ (programRecord s g commit).ledger = s.ledger ∧ (programRecord s g commit).sched = s.sched ∧
      (programRecord s g commit).tiles = s.tiles ∧ (programRecord s g commit).dram = s.dram ∧ (programRecord s g
      commit).assayer = s.assayer ∧ (programRecord s g commit).fabric = s.fabric ∧ (programRecord s g commit).rumbes =
      s.rumbes := by
  unfold programRecord; simp [*]
@[simp] theorem scanJournal_frame (s : State) :
    (scanJournal s).pending = s.pending ∧ (scanJournal s).now = s.now ∧ (scanJournal s).free = s.free ∧ (scanJournal s).out
      = s.out ∧ (scanJournal s).sys = s.sys ∧ (scanJournal s).ka = s.ka ∧ (scanJournal s).flash = s.flash ∧ (scanJournal
      s).host = s.host ∧ (scanJournal s).ports = s.ports ∧ (scanJournal s).pcie = s.pcie ∧ (scanJournal s).log = s.log ∧
      (scanJournal s).foreman = s.foreman ∧ (scanJournal s).pairs = s.pairs ∧ (scanJournal s).eopen = s.eopen ∧ (scanJournal
      s).ledger = s.ledger ∧ (scanJournal s).sched = s.sched ∧ (scanJournal s).tiles = s.tiles ∧ (scanJournal s).dram = s.dram
      ∧ (scanJournal s).assayer = s.assayer ∧ (scanJournal s).fabric = s.fabric ∧ (scanJournal s).rumbes = s.rumbes := by
  unfold scanJournal; simp [*]
@[simp] theorem journalBegin_frame (s : State) (snap : Option Nat) :
    (journalBegin s snap).pending = s.pending ∧ (journalBegin s snap).now = s.now ∧ (journalBegin s snap).free = s.free ∧
      (journalBegin s snap).out = s.out ∧ (journalBegin s snap).sys = s.sys ∧ (journalBegin s snap).flash = s.flash ∧
      (journalBegin s snap).host = s.host ∧ (journalBegin s snap).ports = s.ports ∧ (journalBegin s snap).pcie = s.pcie ∧
      (journalBegin s snap).log = s.log ∧ (journalBegin s snap).foreman = s.foreman ∧ (journalBegin s snap).pairs = s.pairs ∧
      (journalBegin s snap).eopen = s.eopen ∧ (journalBegin s snap).sched = s.sched ∧ (journalBegin s snap).tiles = s.tiles ∧
      (journalBegin s snap).dram = s.dram ∧ (journalBegin s snap).assayer = s.assayer ∧ (journalBegin s snap).fabric =
      s.fabric ∧ (journalBegin s snap).rumbes = s.rumbes := by
  unfold journalBegin; split <;> simp [*]
@[simp] theorem journalNext_frame (s : State) :
    (journalNext s).pending = s.pending ∧ (journalNext s).now = s.now ∧ (journalNext s).free = s.free ∧ (journalNext s).out
      = s.out ∧ (journalNext s).sys = s.sys ∧ (journalNext s).flash = s.flash ∧ (journalNext s).host = s.host ∧ (journalNext
      s).ports = s.ports ∧ (journalNext s).pcie = s.pcie ∧ (journalNext s).log = s.log ∧ (journalNext s).foreman = s.foreman ∧
      (journalNext s).pairs = s.pairs ∧ (journalNext s).eopen = s.eopen ∧ (journalNext s).sched = s.sched ∧ (journalNext
      s).tiles = s.tiles ∧ (journalNext s).dram = s.dram ∧ (journalNext s).assayer = s.assayer ∧ (journalNext s).fabric =
      s.fabric ∧ (journalNext s).rumbes = s.rumbes := by
  unfold journalNext; simp [*]
@[simp] theorem endWaiters_frame (s : State) (ws : List JWait) (status seq : Nat) :
    (endWaiters s ws status seq).pending = s.pending ∧ (endWaiters s ws status seq).now = s.now ∧ (endWaiters s ws status
      seq).free = s.free ∧ (endWaiters s ws status seq).out = s.out ∧ (endWaiters s ws status seq).sys = s.sys ∧ (endWaiters s
      ws status seq).ka = s.ka ∧ (endWaiters s ws status seq).flash = s.flash ∧ (endWaiters s ws status seq).journal =
      s.journal ∧ (endWaiters s ws status seq).host = s.host ∧ (endWaiters s ws status seq).pcie = s.pcie ∧ (endWaiters s ws
      status seq).log = s.log ∧ (endWaiters s ws status seq).pairs = s.pairs ∧ (endWaiters s ws status seq).eopen = s.eopen ∧
      (endWaiters s ws status seq).ledger = s.ledger ∧ (endWaiters s ws status seq).sched = s.sched ∧ (endWaiters s ws status
      seq).tiles = s.tiles ∧ (endWaiters s ws status seq).dram = s.dram ∧ (endWaiters s ws status seq).assayer = s.assayer ∧
      (endWaiters s ws status seq).fabric = s.fabric ∧ (endWaiters s ws status seq).rumbes = s.rumbes := by
  unfold endWaiters; simp [*]
@[simp] theorem commitRecord_frame (s : State) (g : GenRun) :
    (commitRecord s g).pending = s.pending ∧ (commitRecord s g).now = s.now ∧ (commitRecord s g).free = s.free ∧
      (commitRecord s g).out = s.out ∧ (commitRecord s g).sys = s.sys ∧ (commitRecord s g).host = s.host ∧ (commitRecord s
      g).pcie = s.pcie ∧ (commitRecord s g).log = s.log ∧ (commitRecord s g).pairs = s.pairs ∧ (commitRecord s g).eopen =
      s.eopen ∧ (commitRecord s g).sched = s.sched ∧ (commitRecord s g).tiles = s.tiles ∧ (commitRecord s g).dram = s.dram ∧
      (commitRecord s g).assayer = s.assayer ∧ (commitRecord s g).fabric = s.fabric ∧ (commitRecord s g).rumbes = s.rumbes :=
      by
  unfold commitRecord; simp [*]
@[simp] theorem flashFails_frame (s : State) (g : GenRun) :
    (flashFails s g).pending = s.pending ∧ (flashFails s g).now = s.now ∧ (flashFails s g).free = s.free ∧ (flashFails s
      g).out = s.out ∧ (flashFails s g).sys = s.sys ∧ (flashFails s g).ka = s.ka ∧ (flashFails s g).flash = s.flash ∧
      (flashFails s g).host = s.host ∧ (flashFails s g).pcie = s.pcie ∧ (flashFails s g).log = s.log ∧ (flashFails s g).pairs
      = s.pairs ∧ (flashFails s g).eopen = s.eopen ∧ (flashFails s g).ledger = s.ledger ∧ (flashFails s g).sched = s.sched ∧
      (flashFails s g).tiles = s.tiles ∧ (flashFails s g).dram = s.dram ∧ (flashFails s g).assayer = s.assayer ∧ (flashFails s
      g).fabric = s.fabric ∧ (flashFails s g).rumbes = s.rumbes := by
  unfold flashFails; simp [*]
@[simp] theorem journalTorn_frame (s : State) :
    (journalTorn s).pending = s.pending ∧ (journalTorn s).now = s.now ∧ (journalTorn s).free = s.free ∧ (journalTorn s).out
      = s.out ∧ (journalTorn s).sys = s.sys ∧ (journalTorn s).ka = s.ka ∧ (journalTorn s).flash = s.flash ∧ (journalTorn
      s).host = s.host ∧ (journalTorn s).ports = s.ports ∧ (journalTorn s).pcie = s.pcie ∧ (journalTorn s).log = s.log ∧
      (journalTorn s).foreman = s.foreman ∧ (journalTorn s).pairs = s.pairs ∧ (journalTorn s).eopen = s.eopen ∧ (journalTorn
      s).ledger = s.ledger ∧ (journalTorn s).sched = s.sched ∧ (journalTorn s).tiles = s.tiles ∧ (journalTorn s).dram = s.dram
      ∧ (journalTorn s).assayer = s.assayer ∧ (journalTorn s).fabric = s.fabric ∧ (journalTorn s).rumbes = s.rumbes := by
  unfold journalTorn; split <;> simp [*]
@[simp] theorem journalShut_frame (s : State) :
    (journalShut s).pending = s.pending ∧ (journalShut s).now = s.now ∧ (journalShut s).free = s.free ∧ (journalShut s).out
      = s.out ∧ (journalShut s).sys = s.sys ∧ (journalShut s).ka = s.ka ∧ (journalShut s).flash = s.flash ∧ (journalShut
      s).host = s.host ∧ (journalShut s).ports = s.ports ∧ (journalShut s).pcie = s.pcie ∧ (journalShut s).log = s.log ∧
      (journalShut s).foreman = s.foreman ∧ (journalShut s).pairs = s.pairs ∧ (journalShut s).eopen = s.eopen ∧ (journalShut
      s).ledger = s.ledger ∧ (journalShut s).sched = s.sched ∧ (journalShut s).tiles = s.tiles ∧ (journalShut s).dram = s.dram
      ∧ (journalShut s).assayer = s.assayer ∧ (journalShut s).fabric = s.fabric ∧ (journalShut s).rumbes = s.rumbes := by
  unfold journalShut; split <;> simp [*]
@[simp] theorem eraseDone_frame (s : State) :
    (eraseDone s).pending = s.pending ∧ (eraseDone s).now = s.now ∧ (eraseDone s).free = s.free ∧ (eraseDone s).out = s.out
      ∧ (eraseDone s).sys = s.sys ∧ (eraseDone s).ka = s.ka ∧ (eraseDone s).host = s.host ∧ (eraseDone s).ports = s.ports ∧
      (eraseDone s).pcie = s.pcie ∧ (eraseDone s).log = s.log ∧ (eraseDone s).foreman = s.foreman ∧ (eraseDone s).pairs =
      s.pairs ∧ (eraseDone s).eopen = s.eopen ∧ (eraseDone s).ledger = s.ledger ∧ (eraseDone s).sched = s.sched ∧ (eraseDone
      s).tiles = s.tiles ∧ (eraseDone s).dram = s.dram ∧ (eraseDone s).assayer = s.assayer ∧ (eraseDone s).fabric = s.fabric ∧
      (eraseDone s).rumbes = s.rumbes := by
  unfold eraseDone; split <;> simp [*]
@[simp] theorem recordDone_frame (ok : Bool) (s : State) :
    (recordDone ok s).pending = s.pending ∧ (recordDone ok s).now = s.now ∧ (recordDone ok s).free = s.free ∧ (recordDone ok
      s).out = s.out ∧ (recordDone ok s).sys = s.sys ∧ (recordDone ok s).host = s.host ∧ (recordDone ok s).pcie = s.pcie ∧
      (recordDone ok s).log = s.log ∧ (recordDone ok s).pairs = s.pairs ∧ (recordDone ok s).eopen = s.eopen ∧ (recordDone ok
      s).sched = s.sched ∧ (recordDone ok s).tiles = s.tiles ∧ (recordDone ok s).dram = s.dram ∧ (recordDone ok s).assayer =
      s.assayer ∧ (recordDone ok s).fabric = s.fabric ∧ (recordDone ok s).rumbes = s.rumbes := by
  unfold recordDone; split <;> simp [*]
@[simp] theorem graceEndDo_frame (committed : Bool) (s : State) :
    (graceEndDo committed s).pending = s.pending ∧ (graceEndDo committed s).now = s.now ∧ (graceEndDo committed s).free =
      s.free ∧ (graceEndDo committed s).out = s.out ∧ (graceEndDo committed s).sys = s.sys ∧ (graceEndDo committed s).host =
      s.host ∧ (graceEndDo committed s).pcie = s.pcie ∧ (graceEndDo committed s).log = s.log ∧ (graceEndDo committed s).pairs
      = s.pairs ∧ (graceEndDo committed s).eopen = s.eopen ∧ (graceEndDo committed s).sched = s.sched ∧ (graceEndDo committed
      s).tiles = s.tiles ∧ (graceEndDo committed s).dram = s.dram ∧ (graceEndDo committed s).assayer = s.assayer ∧ (graceEndDo
      committed s).fabric = s.fabric ∧ (graceEndDo committed s).rumbes = s.rumbes := by
  unfold graceEndDo; split <;> simp [*]
@[simp] theorem askJournal_frame (s : State) (r : Req) (k : Nat) (sd : Bool) :
    (askJournal s r k sd).pending = s.pending ∧ (askJournal s r k sd).now = s.now ∧ (askJournal s r k sd).free = s.free ∧
      (askJournal s r k sd).out = s.out ∧ (askJournal s r k sd).sys = s.sys ∧ (askJournal s r k sd).ka = s.ka ∧ (askJournal s
      r k sd).flash = s.flash ∧ (askJournal s r k sd).host = s.host ∧ (askJournal s r k sd).ports = s.ports ∧ (askJournal s r
      k sd).pcie = s.pcie ∧ (askJournal s r k sd).log = s.log ∧ (askJournal s r k sd).foreman = s.foreman ∧ (askJournal s r k
      sd).pairs = s.pairs ∧ (askJournal s r k sd).eopen = s.eopen ∧ (askJournal s r k sd).ledger = s.ledger ∧ (askJournal s r
      k sd).sched = s.sched ∧ (askJournal s r k sd).tiles = s.tiles ∧ (askJournal s r k sd).dram = s.dram ∧ (askJournal s r k
      sd).assayer = s.assayer ∧ (askJournal s r k sd).fabric = s.fabric ∧ (askJournal s r k sd).rumbes = s.rumbes := by
  unfold askJournal; simp [*]
@[simp] theorem journalWriteDo_frame (r : Req) (s : State) :
    (journalWriteDo r s).pending = s.pending ∧ (journalWriteDo r s).now = s.now ∧ (journalWriteDo r s).free = s.free ∧
      (journalWriteDo r s).out = s.out ∧ (journalWriteDo r s).sys = s.sys ∧ (journalWriteDo r s).flash = s.flash ∧
      (journalWriteDo r s).host = s.host ∧ (journalWriteDo r s).pcie = s.pcie ∧ (journalWriteDo r s).log = s.log ∧
      (journalWriteDo r s).pairs = s.pairs ∧ (journalWriteDo r s).eopen = s.eopen ∧ (journalWriteDo r s).sched = s.sched ∧
      (journalWriteDo r s).tiles = s.tiles ∧ (journalWriteDo r s).dram = s.dram ∧ (journalWriteDo r s).assayer = s.assayer ∧
      (journalWriteDo r s).fabric = s.fabric ∧ (journalWriteDo r s).rumbes = s.rumbes := by
  unfold journalWriteDo; simp [*]
@[simp] theorem shutdownDo_frame (r : Req) (s : State) :
    (shutdownDo r s).pending = s.pending ∧ (shutdownDo r s).now = s.now ∧ (shutdownDo r s).free = s.free ∧ (shutdownDo r
      s).out = s.out ∧ (shutdownDo r s).sys = s.sys ∧ (shutdownDo r s).flash = s.flash ∧ (shutdownDo r s).host = s.host ∧
      (shutdownDo r s).pcie = s.pcie ∧ (shutdownDo r s).log = s.log ∧ (shutdownDo r s).pairs = s.pairs ∧ (shutdownDo r
      s).eopen = s.eopen ∧ (shutdownDo r s).sched = s.sched ∧ (shutdownDo r s).tiles = s.tiles ∧ (shutdownDo r s).dram =
      s.dram ∧ (shutdownDo r s).assayer = s.assayer ∧ (shutdownDo r s).fabric = s.fabric ∧ (shutdownDo r s).rumbes = s.rumbes
      := by
  unfold shutdownDo; simp [*]
@[simp] theorem patchChunkDo_frame (r : Req) (s : State) :
    (patchChunkDo r s).pending = s.pending ∧ (patchChunkDo r s).now = s.now ∧ (patchChunkDo r s).free = s.free ∧
      (patchChunkDo r s).out = s.out ∧ (patchChunkDo r s).sys = s.sys ∧ (patchChunkDo r s).ka = s.ka ∧ (patchChunkDo r
      s).flash = s.flash ∧ (patchChunkDo r s).journal = s.journal ∧ (patchChunkDo r s).host = s.host ∧ (patchChunkDo r s).pcie
      = s.pcie ∧ (patchChunkDo r s).log = s.log ∧ (patchChunkDo r s).pairs = s.pairs ∧ (patchChunkDo r s).eopen = s.eopen ∧
      (patchChunkDo r s).ledger = s.ledger ∧ (patchChunkDo r s).sched = s.sched ∧ (patchChunkDo r s).tiles = s.tiles ∧
      (patchChunkDo r s).dram = s.dram ∧ (patchChunkDo r s).assayer = s.assayer ∧ (patchChunkDo r s).fabric = s.fabric ∧
      (patchChunkDo r s).rumbes = s.rumbes := by
  unfold patchChunkDo; simp [*]
@[simp] theorem patchCommitDo_frame (r : Req) (s : State) :
    (patchCommitDo r s).pending = s.pending ∧ (patchCommitDo r s).now = s.now ∧ (patchCommitDo r s).free = s.free ∧
      (patchCommitDo r s).out = s.out ∧ (patchCommitDo r s).sys = s.sys ∧ (patchCommitDo r s).ka = s.ka ∧ (patchCommitDo
      r s).flash = s.flash ∧ (patchCommitDo r s).journal = s.journal ∧ (patchCommitDo r s).host = s.host ∧
      (patchCommitDo r s).pcie = s.pcie ∧ (patchCommitDo r s).log = s.log ∧ (patchCommitDo r s).pairs = s.pairs ∧
      (patchCommitDo r s).eopen = s.eopen ∧ (patchCommitDo r s).ledger = s.ledger ∧ (patchCommitDo r s).sched = s.sched
      ∧ (patchCommitDo r s).tiles = s.tiles ∧ (patchCommitDo r s).dram = s.dram ∧ (patchCommitDo r s).assayer =
      s.assayer ∧ (patchCommitDo r s).fabric = s.fabric ∧ (patchCommitDo r s).rumbes = s.rumbes := by
  unfold patchCommitDo; simp [*]
@[simp] theorem patchDone_frame (ok : Bool) (s : State) :
    (patchDone ok s).pending = s.pending ∧ (patchDone ok s).now = s.now ∧ (patchDone ok s).free = s.free ∧ (patchDone ok
      s).out = s.out ∧ (patchDone ok s).sys = s.sys ∧ (patchDone ok s).ka = s.ka ∧ (patchDone ok s).journal = s.journal ∧
      (patchDone ok s).host = s.host ∧ (patchDone ok s).pcie = s.pcie ∧ (patchDone ok s).log = s.log ∧ (patchDone ok s).pairs
      = s.pairs ∧ (patchDone ok s).eopen = s.eopen ∧ (patchDone ok s).ledger = s.ledger ∧ (patchDone ok s).sched = s.sched ∧
      (patchDone ok s).tiles = s.tiles ∧ (patchDone ok s).dram = s.dram ∧ (patchDone ok s).assayer = s.assayer ∧ (patchDone ok
      s).fabric = s.fabric ∧ (patchDone ok s).rumbes = s.rumbes := by
  unfold patchDone; split <;> simp [*]
@[simp] theorem setPatchMinDo_frame (r : Req) (s : State) :
    (setPatchMinDo r s).pending = s.pending ∧ (setPatchMinDo r s).now = s.now ∧ (setPatchMinDo r s).free = s.free ∧
      (setPatchMinDo r s).out = s.out ∧ (setPatchMinDo r s).sys = s.sys ∧ (setPatchMinDo r s).flash = s.flash ∧ (setPatchMinDo
      r s).host = s.host ∧ (setPatchMinDo r s).pcie = s.pcie ∧ (setPatchMinDo r s).log = s.log ∧ (setPatchMinDo r s).foreman =
      s.foreman ∧ (setPatchMinDo r s).pairs = s.pairs ∧ (setPatchMinDo r s).eopen = s.eopen ∧ (setPatchMinDo r s).ledger =
      s.ledger ∧ (setPatchMinDo r s).sched = s.sched ∧ (setPatchMinDo r s).tiles = s.tiles ∧ (setPatchMinDo r s).dram = s.dram
      ∧ (setPatchMinDo r s).assayer = s.assayer ∧ (setPatchMinDo r s).fabric = s.fabric ∧ (setPatchMinDo r s).rumbes =
      s.rumbes := by
  unfold setPatchMinDo; simp [*]
@[simp] theorem imageStoreDo_frame (r : Req) (s : State) :
    (imageStoreDo r s).pending = s.pending ∧ (imageStoreDo r s).now = s.now ∧ (imageStoreDo r s).free = s.free ∧
      (imageStoreDo r s).out = s.out ∧ (imageStoreDo r s).sys = s.sys ∧ (imageStoreDo r s).ka = s.ka ∧ (imageStoreDo r
      s).flash = s.flash ∧ (imageStoreDo r s).journal = s.journal ∧ (imageStoreDo r s).host = s.host ∧ (imageStoreDo r s).pcie
      = s.pcie ∧ (imageStoreDo r s).log = s.log ∧ (imageStoreDo r s).pairs = s.pairs ∧ (imageStoreDo r s).eopen = s.eopen ∧
      (imageStoreDo r s).ledger = s.ledger ∧ (imageStoreDo r s).sched = s.sched ∧ (imageStoreDo r s).tiles = s.tiles ∧
      (imageStoreDo r s).dram = s.dram ∧ (imageStoreDo r s).assayer = s.assayer ∧ (imageStoreDo r s).fabric = s.fabric ∧
      (imageStoreDo r s).rumbes = s.rumbes := by
  unfold imageStoreDo; simp [*]
@[simp] theorem imageStored_frame (ok : Bool) (s : State) :
    (imageStored ok s).pending = s.pending ∧ (imageStored ok s).now = s.now ∧ (imageStored ok s).free = s.free ∧
      (imageStored ok s).out = s.out ∧ (imageStored ok s).sys = s.sys ∧ (imageStored ok s).ka = s.ka ∧ (imageStored ok
      s).journal = s.journal ∧ (imageStored ok s).host = s.host ∧ (imageStored ok s).pcie = s.pcie ∧ (imageStored ok
      s).log = s.log ∧ (imageStored ok s).pairs = s.pairs ∧ (imageStored ok s).eopen = s.eopen ∧ (imageStored ok
      s).ledger = s.ledger ∧ (imageStored ok s).sched = s.sched ∧ (imageStored ok s).tiles = s.tiles ∧ (imageStored ok
      s).dram = s.dram ∧ (imageStored ok s).assayer = s.assayer ∧ (imageStored ok s).fabric = s.fabric ∧ (imageStored ok
      s).rumbes = s.rumbes := by
  unfold imageStored; simp [*] <;> (repeat' split) <;> simp [*]
@[simp] theorem kaReadDo_frame (r : Req) (s : State) :
    (kaReadDo r s).pending = s.pending ∧ (kaReadDo r s).now = s.now ∧ (kaReadDo r s).free = s.free ∧ (kaReadDo r s).out =
      s.out ∧ (kaReadDo r s).sys = s.sys ∧ (kaReadDo r s).ka = s.ka ∧ (kaReadDo r s).flash = s.flash ∧ (kaReadDo r s).journal
      = s.journal ∧ (kaReadDo r s).host = s.host ∧ (kaReadDo r s).pcie = s.pcie ∧ (kaReadDo r s).log = s.log ∧ (kaReadDo r
      s).foreman = s.foreman ∧ (kaReadDo r s).pairs = s.pairs ∧ (kaReadDo r s).eopen = s.eopen ∧ (kaReadDo r s).ledger =
      s.ledger ∧ (kaReadDo r s).sched = s.sched ∧ (kaReadDo r s).tiles = s.tiles ∧ (kaReadDo r s).dram = s.dram ∧ (kaReadDo r
      s).assayer = s.assayer ∧ (kaReadDo r s).fabric = s.fabric ∧ (kaReadDo r s).rumbes = s.rumbes := by
  unfold kaReadDo; simp [*]

/-! ### Boot -/

@[simp] theorem fusesRead_frame (v : Nat) (s : State) :
    (fusesRead v s).pending = s.pending ∧ (fusesRead v s).now = s.now ∧ (fusesRead v s).free = s.free ∧ (fusesRead v s).out
      = s.out ∧ (fusesRead v s).ka = s.ka ∧ (fusesRead v s).flash = s.flash ∧ (fusesRead v s).journal = s.journal ∧ (fusesRead
      v s).host = s.host ∧ (fusesRead v s).ports = s.ports ∧ (fusesRead v s).pcie = s.pcie ∧ (fusesRead v s).log = s.log ∧
      (fusesRead v s).foreman = s.foreman ∧ (fusesRead v s).pairs = s.pairs ∧ (fusesRead v s).eopen = s.eopen ∧ (fusesRead v
      s).ledger = s.ledger ∧ (fusesRead v s).sched = s.sched ∧ (fusesRead v s).tiles = s.tiles ∧ (fusesRead v s).dram = s.dram
      ∧ (fusesRead v s).assayer = s.assayer ∧ (fusesRead v s).fabric = s.fabric ∧ (fusesRead v s).rumbes = s.rumbes := by
  unfold fusesRead; simp [*]
@[simp] theorem fuseReadDo_frame (reads : List (BitVec 288)) (s : State) :
    (fuseReadDo reads s).pending = s.pending ∧ (fuseReadDo reads s).now = s.now ∧ (fuseReadDo reads s).free = s.free ∧
      (fuseReadDo reads s).out = s.out ∧ (fuseReadDo reads s).flash = s.flash ∧ (fuseReadDo reads s).journal = s.journal ∧
      (fuseReadDo reads s).host = s.host ∧ (fuseReadDo reads s).pcie = s.pcie ∧ (fuseReadDo reads s).foreman = s.foreman ∧
      (fuseReadDo reads s).pairs = s.pairs ∧ (fuseReadDo reads s).eopen = s.eopen ∧ (fuseReadDo reads s).ledger = s.ledger ∧
      (fuseReadDo reads s).sched = s.sched ∧ (fuseReadDo reads s).tiles = s.tiles ∧ (fuseReadDo reads s).dram = s.dram ∧
      (fuseReadDo reads s).assayer = s.assayer ∧ (fuseReadDo reads s).fabric = s.fabric ∧ (fuseReadDo reads s).rumbes =
      s.rumbes := by
  unfold fuseReadDo; simp [*] <;> (repeat' split) <;> simp [*]
@[simp] theorem pllLockedDo_frame (locked : List Pll) (s : State) :
    (pllLockedDo locked s).pending = s.pending ∧ (pllLockedDo locked s).now = s.now ∧ (pllLockedDo locked s).free = s.free ∧
      (pllLockedDo locked s).out = s.out ∧ (pllLockedDo locked s).ka = s.ka ∧ (pllLockedDo locked s).flash = s.flash ∧
      (pllLockedDo locked s).journal = s.journal ∧ (pllLockedDo locked s).host = s.host ∧ (pllLockedDo locked s).ports =
      s.ports ∧ (pllLockedDo locked s).pcie = s.pcie ∧ (pllLockedDo locked s).log = s.log ∧ (pllLockedDo locked s).foreman =
      s.foreman ∧ (pllLockedDo locked s).pairs = s.pairs ∧ (pllLockedDo locked s).eopen = s.eopen ∧ (pllLockedDo locked
      s).ledger = s.ledger ∧ (pllLockedDo locked s).sched = s.sched ∧ (pllLockedDo locked s).tiles = s.tiles ∧ (pllLockedDo
      locked s).dram = s.dram ∧ (pllLockedDo locked s).assayer = s.assayer ∧ (pllLockedDo locked s).fabric = s.fabric ∧
      (pllLockedDo locked s).rumbes = s.rumbes := by
  unfold pllLockedDo; simp [*]
@[simp] theorem takeSection_frame (s : State) (lo hi : Nat) (rs : List JRecord) :
    (takeSection s lo hi rs).pending = s.pending ∧ (takeSection s lo hi rs).now = s.now ∧ (takeSection s lo hi rs).free =
      s.free ∧ (takeSection s lo hi rs).out = s.out ∧ (takeSection s lo hi rs).sys = s.sys ∧ (takeSection s lo hi rs).flash =
      s.flash ∧ (takeSection s lo hi rs).journal = s.journal ∧ (takeSection s lo hi rs).host = s.host ∧ (takeSection s lo hi
      rs).ports = s.ports ∧ (takeSection s lo hi rs).pcie = s.pcie ∧ (takeSection s lo hi rs).log = s.log ∧ (takeSection s lo
      hi rs).foreman = s.foreman ∧ (takeSection s lo hi rs).pairs = s.pairs ∧ (takeSection s lo hi rs).eopen = s.eopen ∧
      (takeSection s lo hi rs).ledger = s.ledger ∧ (takeSection s lo hi rs).sched = s.sched ∧ (takeSection s lo hi rs).tiles =
      s.tiles ∧ (takeSection s lo hi rs).dram = s.dram ∧ (takeSection s lo hi rs).assayer = s.assayer ∧ (takeSection s lo hi
      rs).fabric = s.fabric ∧ (takeSection s lo hi rs).rumbes = s.rumbes := by
  unfold takeSection; simp [*]
@[simp] theorem recoverSection_frame (s : State) (valid : Bool) (parts : List Nat) (lo hi : Nat) :
    (recoverSection s valid parts lo hi).2.pending = s.pending ∧ (recoverSection s valid parts lo hi).2.now = s.now ∧
      (recoverSection s valid parts lo hi).2.free = s.free ∧ (recoverSection s valid parts lo hi).2.out = s.out ∧
      (recoverSection s valid parts lo hi).2.sys = s.sys ∧ (recoverSection s valid parts lo hi).2.flash = s.flash ∧
      (recoverSection s valid parts lo hi).2.journal = s.journal ∧ (recoverSection s valid parts lo hi).2.host = s.host ∧
      (recoverSection s valid parts lo hi).2.ports = s.ports ∧ (recoverSection s valid parts lo hi).2.pcie = s.pcie ∧
      (recoverSection s valid parts lo hi).2.log = s.log ∧ (recoverSection s valid parts lo hi).2.foreman = s.foreman ∧
      (recoverSection s valid parts lo hi).2.pairs = s.pairs ∧ (recoverSection s valid parts lo hi).2.eopen = s.eopen ∧
      (recoverSection s valid parts lo hi).2.ledger = s.ledger ∧ (recoverSection s valid parts lo hi).2.sched = s.sched ∧
      (recoverSection s valid parts lo hi).2.tiles = s.tiles ∧ (recoverSection s valid parts lo hi).2.dram = s.dram ∧
      (recoverSection s valid parts lo hi).2.assayer = s.assayer ∧ (recoverSection s valid parts lo hi).2.fabric = s.fabric ∧
      (recoverSection s valid parts lo hi).2.rumbes = s.rumbes := by
  unfold recoverSection; (repeat' split) <;> simp [*]
@[simp] theorem clampGroup_frame (g : KaGroup) (a : State × List ClampEntry) :
    (clampGroup g a).1.pending = a.1.pending ∧ (clampGroup g a).1.now = a.1.now ∧ (clampGroup g a).1.free = a.1.free ∧
      (clampGroup g a).1.out = a.1.out ∧ (clampGroup g a).1.sys = a.1.sys ∧ (clampGroup g a).1.flash = a.1.flash ∧ (clampGroup
      g a).1.journal = a.1.journal ∧ (clampGroup g a).1.host = a.1.host ∧ (clampGroup g a).1.ports = a.1.ports ∧ (clampGroup g
      a).1.pcie = a.1.pcie ∧ (clampGroup g a).1.log = a.1.log ∧ (clampGroup g a).1.foreman = a.1.foreman ∧ (clampGroup g
      a).1.pairs = a.1.pairs ∧ (clampGroup g a).1.eopen = a.1.eopen ∧ (clampGroup g a).1.ledger = a.1.ledger ∧ (clampGroup g
      a).1.sched = a.1.sched ∧ (clampGroup g a).1.tiles = a.1.tiles ∧ (clampGroup g a).1.dram = a.1.dram ∧ (clampGroup g
      a).1.assayer = a.1.assayer ∧ (clampGroup g a).1.fabric = a.1.fabric ∧ (clampGroup g a).1.rumbes = a.1.rumbes := by
  unfold clampGroup; simp [*]
@[simp] theorem clampConfig_frame (s : State) :
    (clampConfig s).1.pending = s.pending ∧ (clampConfig s).1.now = s.now ∧ (clampConfig s).1.free = s.free ∧ (clampConfig
      s).1.out = s.out ∧ (clampConfig s).1.sys = s.sys ∧ (clampConfig s).1.flash = s.flash ∧ (clampConfig s).1.journal =
      s.journal ∧ (clampConfig s).1.host = s.host ∧ (clampConfig s).1.ports = s.ports ∧ (clampConfig s).1.pcie = s.pcie ∧
      (clampConfig s).1.log = s.log ∧ (clampConfig s).1.foreman = s.foreman ∧ (clampConfig s).1.pairs = s.pairs ∧ (clampConfig
      s).1.eopen = s.eopen ∧ (clampConfig s).1.ledger = s.ledger ∧ (clampConfig s).1.sched = s.sched ∧ (clampConfig s).1.tiles
      = s.tiles ∧ (clampConfig s).1.dram = s.dram ∧ (clampConfig s).1.assayer = s.assayer ∧ (clampConfig s).1.fabric =
      s.fabric ∧ (clampConfig s).1.rumbes = s.rumbes := by
  unfold clampConfig; simp [*]
@[simp] theorem defaultConfig_frame (s : State) :
    (defaultConfig s).1.pending = s.pending ∧ (defaultConfig s).1.now = s.now ∧ (defaultConfig s).1.free = s.free ∧
      (defaultConfig s).1.out = s.out ∧ (defaultConfig s).1.sys = s.sys ∧ (defaultConfig s).1.flash = s.flash ∧ (defaultConfig
      s).1.journal = s.journal ∧ (defaultConfig s).1.host = s.host ∧ (defaultConfig s).1.ports = s.ports ∧ (defaultConfig
      s).1.pcie = s.pcie ∧ (defaultConfig s).1.log = s.log ∧ (defaultConfig s).1.foreman = s.foreman ∧ (defaultConfig
      s).1.pairs = s.pairs ∧ (defaultConfig s).1.eopen = s.eopen ∧ (defaultConfig s).1.ledger = s.ledger ∧ (defaultConfig
      s).1.sched = s.sched ∧ (defaultConfig s).1.tiles = s.tiles ∧ (defaultConfig s).1.dram = s.dram ∧ (defaultConfig
      s).1.assayer = s.assayer ∧ (defaultConfig s).1.fabric = s.fabric ∧ (defaultConfig s).1.rumbes = s.rumbes := by
  unfold defaultConfig; simp [*]
@[simp] theorem clampReport_frame (s : State) (source : Nat) (es : List ClampEntry) :
    (clampReport s source es).pending = s.pending ∧ (clampReport s source es).now = s.now ∧ (clampReport s source es).free =
      s.free ∧ (clampReport s source es).out = s.out ∧ (clampReport s source es).sys = s.sys ∧ (clampReport s source es).flash
      = s.flash ∧ (clampReport s source es).journal = s.journal ∧ (clampReport s source es).host = s.host ∧ (clampReport s
      source es).ports = s.ports ∧ (clampReport s source es).pcie = s.pcie ∧ (clampReport s source es).log = s.log ∧
      (clampReport s source es).foreman = s.foreman ∧ (clampReport s source es).pairs = s.pairs ∧ (clampReport s source
      es).eopen = s.eopen ∧ (clampReport s source es).ledger = s.ledger ∧ (clampReport s source es).sched = s.sched ∧
      (clampReport s source es).tiles = s.tiles ∧ (clampReport s source es).dram = s.dram ∧ (clampReport s source es).assayer
      = s.assayer ∧ (clampReport s source es).fabric = s.fabric ∧ (clampReport s source es).rumbes = s.rumbes := by
  unfold clampReport; simp [*]
@[simp] theorem checkConfig_frame (s : State) :
    (checkConfig s).2.pending = s.pending ∧ (checkConfig s).2.now = s.now ∧ (checkConfig s).2.free = s.free ∧ (checkConfig
      s).2.out = s.out ∧ (checkConfig s).2.sys = s.sys ∧ (checkConfig s).2.flash = s.flash ∧ (checkConfig s).2.host = s.host ∧
      (checkConfig s).2.ports = s.ports ∧ (checkConfig s).2.pcie = s.pcie ∧ (checkConfig s).2.log = s.log ∧ (checkConfig
      s).2.foreman = s.foreman ∧ (checkConfig s).2.pairs = s.pairs ∧ (checkConfig s).2.eopen = s.eopen ∧ (checkConfig
      s).2.ledger = s.ledger ∧ (checkConfig s).2.sched = s.sched ∧ (checkConfig s).2.tiles = s.tiles ∧ (checkConfig s).2.dram
      = s.dram ∧ (checkConfig s).2.assayer = s.assayer ∧ (checkConfig s).2.fabric = s.fabric ∧ (checkConfig s).2.rumbes =
      s.rumbes := by
  unfold checkConfig; simp [*] <;> (repeat' split) <;> simp [*]
@[simp] theorem checkMap_frame (s : State) (source : Nat) :
    (checkMap s source).2.pending = s.pending ∧ (checkMap s source).2.now = s.now ∧ (checkMap s source).2.free = s.free ∧
      (checkMap s source).2.out = s.out ∧ (checkMap s source).2.sys = s.sys ∧ (checkMap s source).2.flash = s.flash ∧
      (checkMap s source).2.journal = s.journal ∧ (checkMap s source).2.host = s.host ∧ (checkMap s source).2.ports = s.ports
      ∧ (checkMap s source).2.pcie = s.pcie ∧ (checkMap s source).2.log = s.log ∧ (checkMap s source).2.foreman = s.foreman ∧
      (checkMap s source).2.pairs = s.pairs ∧ (checkMap s source).2.eopen = s.eopen ∧ (checkMap s source).2.ledger = s.ledger
      ∧ (checkMap s source).2.sched = s.sched ∧ (checkMap s source).2.tiles = s.tiles ∧ (checkMap s source).2.dram = s.dram ∧
      (checkMap s source).2.assayer = s.assayer ∧ (checkMap s source).2.fabric = s.fabric ∧ (checkMap s source).2.rumbes =
      s.rumbes := by
  unfold checkMap; simp [*]
@[simp] theorem checkSnapshot_frame (s : State) :
    (checkSnapshot s).2.pending = s.pending ∧ (checkSnapshot s).2.now = s.now ∧ (checkSnapshot s).2.free = s.free ∧
      (checkSnapshot s).2.out = s.out ∧ (checkSnapshot s).2.sys = s.sys ∧ (checkSnapshot s).2.flash = s.flash ∧ (checkSnapshot
      s).2.journal = s.journal ∧ (checkSnapshot s).2.host = s.host ∧ (checkSnapshot s).2.ports = s.ports ∧ (checkSnapshot
      s).2.pcie = s.pcie ∧ (checkSnapshot s).2.log = s.log ∧ (checkSnapshot s).2.foreman = s.foreman ∧ (checkSnapshot
      s).2.pairs = s.pairs ∧ (checkSnapshot s).2.eopen = s.eopen ∧ (checkSnapshot s).2.ledger = s.ledger ∧ (checkSnapshot
      s).2.sched = s.sched ∧ (checkSnapshot s).2.tiles = s.tiles ∧ (checkSnapshot s).2.dram = s.dram ∧ (checkSnapshot
      s).2.assayer = s.assayer ∧ (checkSnapshot s).2.fabric = s.fabric ∧ (checkSnapshot s).2.rumbes = s.rumbes := by
  unfold checkSnapshot; simp [*]
@[simp] theorem loadSettings_frame (s : State) :
    (loadSettings s).pending = s.pending ∧ (loadSettings s).now = s.now ∧ (loadSettings s).free = s.free ∧ (loadSettings
      s).out = s.out ∧ (loadSettings s).sys = s.sys ∧ (loadSettings s).ka = s.ka ∧ (loadSettings s).flash = s.flash ∧
      (loadSettings s).journal = s.journal ∧ (loadSettings s).host = s.host ∧ (loadSettings s).ports = s.ports ∧ (loadSettings
      s).pcie = s.pcie ∧ (loadSettings s).log = s.log ∧ (loadSettings s).eopen = s.eopen ∧ (loadSettings s).sched = s.sched ∧
      (loadSettings s).tiles = s.tiles ∧ (loadSettings s).dram = s.dram ∧ (loadSettings s).fabric = s.fabric ∧ (loadSettings
      s).rumbes = s.rumbes := by
  unfold loadSettings; simp [*]
@[simp] theorem wakePairs_frame (s : State) :
    (wakePairs s).pending = s.pending ∧ (wakePairs s).now = s.now ∧ (wakePairs s).free = s.free ∧ (wakePairs s).sys = s.sys
      ∧ (wakePairs s).ka = s.ka ∧ (wakePairs s).flash = s.flash ∧ (wakePairs s).journal = s.journal ∧ (wakePairs s).host =
      s.host ∧ (wakePairs s).pcie = s.pcie ∧ (wakePairs s).log = s.log ∧ (wakePairs s).foreman = s.foreman ∧ (wakePairs
      s).eopen = s.eopen ∧ (wakePairs s).ledger = s.ledger ∧ (wakePairs s).sched = s.sched ∧ (wakePairs s).tiles = s.tiles ∧
      (wakePairs s).dram = s.dram ∧ (wakePairs s).assayer = s.assayer ∧ (wakePairs s).fabric = s.fabric ∧ (wakePairs s).rumbes
      = s.rumbes := by
  unfold wakePairs; simp [*]
@[simp] theorem planWaves_frame (s : State) :
    (planWaves s).pending = s.pending ∧ (planWaves s).now = s.now ∧ (planWaves s).free = s.free ∧ (planWaves s).out = s.out
      ∧ (planWaves s).ka = s.ka ∧ (planWaves s).flash = s.flash ∧ (planWaves s).journal = s.journal ∧ (planWaves s).host =
      s.host ∧ (planWaves s).ports = s.ports ∧ (planWaves s).pcie = s.pcie ∧ (planWaves s).log = s.log ∧ (planWaves s).foreman
      = s.foreman ∧ (planWaves s).pairs = s.pairs ∧ (planWaves s).eopen = s.eopen ∧ (planWaves s).ledger = s.ledger ∧
      (planWaves s).sched = s.sched ∧ (planWaves s).tiles = s.tiles ∧ (planWaves s).dram = s.dram ∧ (planWaves s).assayer =
      s.assayer ∧ (planWaves s).fabric = s.fabric ∧ (planWaves s).rumbes = s.rumbes := by
  unfold planWaves; (repeat' split) <;> simp -implicitDefEqProofs [*]
@[simp] theorem kaCheckDo_frame (density : Option Nat) (s : State) :
    (kaCheckDo density s).pending = s.pending ∧ (kaCheckDo density s).now = s.now ∧ (kaCheckDo density s).free = s.free ∧
      (kaCheckDo density s).host = s.host ∧ (kaCheckDo density s).pcie = s.pcie ∧ (kaCheckDo density s).log = s.log ∧
      (kaCheckDo density s).eopen = s.eopen ∧ (kaCheckDo density s).sched = s.sched ∧ (kaCheckDo density s).tiles = s.tiles ∧
      (kaCheckDo density s).dram = s.dram ∧ (kaCheckDo density s).rumbes = s.rumbes := by
  unfold kaCheckDo; split <;> simp [*]
@[simp] theorem flashDo_frame (density : Option Nat) (s : State) :
    (flashDo density s).pending = s.pending ∧ (flashDo density s).now = s.now ∧ (flashDo density s).free = s.free ∧ (flashDo
      density s).out = s.out ∧ (flashDo density s).sys = s.sys ∧ (flashDo density s).host = s.host ∧ (flashDo density s).ports
      = s.ports ∧ (flashDo density s).pcie = s.pcie ∧ (flashDo density s).log = s.log ∧ (flashDo density s).foreman =
      s.foreman ∧ (flashDo density s).pairs = s.pairs ∧ (flashDo density s).eopen = s.eopen ∧ (flashDo density s).sched =
      s.sched ∧ (flashDo density s).tiles = s.tiles ∧ (flashDo density s).dram = s.dram ∧ (flashDo density s).assayer =
      s.assayer ∧ (flashDo density s).fabric = s.fabric ∧ (flashDo density s).rumbes = s.rumbes := by
  unfold flashDo; split <;> simp [*]
@[simp] theorem rtcInvalid_frame (s : State) (cause : Nat) :
    (rtcInvalid s cause).pending = s.pending ∧ (rtcInvalid s cause).now = s.now ∧ (rtcInvalid s cause).free = s.free ∧
      (rtcInvalid s cause).out = s.out ∧ (rtcInvalid s cause).sys = s.sys ∧ (rtcInvalid s cause).flash = s.flash ∧ (rtcInvalid
      s cause).journal = s.journal ∧ (rtcInvalid s cause).host = s.host ∧ (rtcInvalid s cause).pcie = s.pcie ∧ (rtcInvalid s
      cause).foreman = s.foreman ∧ (rtcInvalid s cause).pairs = s.pairs ∧ (rtcInvalid s cause).eopen = s.eopen ∧ (rtcInvalid s
      cause).ledger = s.ledger ∧ (rtcInvalid s cause).sched = s.sched ∧ (rtcInvalid s cause).tiles = s.tiles ∧ (rtcInvalid s
      cause).dram = s.dram ∧ (rtcInvalid s cause).assayer = s.assayer ∧ (rtcInvalid s cause).fabric = s.fabric ∧ (rtcInvalid s
      cause).rumbes = s.rumbes := by
  unfold rtcInvalid; simp [*]
@[simp] theorem kaLostDo_frame (s : State) :
    (kaLostDo s).pending = s.pending ∧ (kaLostDo s).now = s.now ∧ (kaLostDo s).free = s.free ∧ (kaLostDo s).out = s.out ∧
      (kaLostDo s).sys = s.sys ∧ (kaLostDo s).flash = s.flash ∧ (kaLostDo s).journal = s.journal ∧ (kaLostDo s).host = s.host
      ∧ (kaLostDo s).pcie = s.pcie ∧ (kaLostDo s).foreman = s.foreman ∧ (kaLostDo s).pairs = s.pairs ∧ (kaLostDo s).eopen =
      s.eopen ∧ (kaLostDo s).ledger = s.ledger ∧ (kaLostDo s).sched = s.sched ∧ (kaLostDo s).tiles = s.tiles ∧ (kaLostDo
      s).dram = s.dram ∧ (kaLostDo s).assayer = s.assayer ∧ (kaLostDo s).fabric = s.fabric ∧ (kaLostDo s).rumbes = s.rumbes :=
      by
  unfold kaLostDo; simp [*]
@[simp] theorem vkaLowDo_frame (low : Bool) (s : State) :
    (vkaLowDo low s).pending = s.pending ∧ (vkaLowDo low s).now = s.now ∧ (vkaLowDo low s).free = s.free ∧ (vkaLowDo low
      s).out = s.out ∧ (vkaLowDo low s).sys = s.sys ∧ (vkaLowDo low s).flash = s.flash ∧ (vkaLowDo low s).journal = s.journal
      ∧ (vkaLowDo low s).host = s.host ∧ (vkaLowDo low s).pcie = s.pcie ∧ (vkaLowDo low s).foreman = s.foreman ∧ (vkaLowDo low
      s).pairs = s.pairs ∧ (vkaLowDo low s).eopen = s.eopen ∧ (vkaLowDo low s).ledger = s.ledger ∧ (vkaLowDo low s).sched =
      s.sched ∧ (vkaLowDo low s).tiles = s.tiles ∧ (vkaLowDo low s).dram = s.dram ∧ (vkaLowDo low s).assayer = s.assayer ∧
      (vkaLowDo low s).fabric = s.fabric ∧ (vkaLowDo low s).rumbes = s.rumbes := by
  unfold vkaLowDo; simp [*]
/-! ### Benches -/

@[simp] theorem powerFall_frame (s : State) :
    (powerFall s).pending = s.pending ∧ (powerFall s).rumbes = s.rumbes := by
  unfold powerFall; simp [*]
@[simp] theorem brownout_frame (_u : Rail) (s : State) :
    (brownout _u s).pending = s.pending ∧ (brownout _u s).rumbes = s.rumbes := by
  unfold brownout; simp [*]
@[simp] theorem channelDown_frame (s : State) (c : Nat) :
    (channelDown s c).pending = s.pending ∧ (channelDown s c).now = s.now ∧ (channelDown s c).out = s.out ∧ (channelDown s
      c).flash = s.flash ∧ (channelDown s c).journal = s.journal ∧ (channelDown s c).host = s.host ∧ (channelDown s c).pcie =
      s.pcie ∧ (channelDown s c).foreman = s.foreman ∧ (channelDown s c).pairs = s.pairs ∧ (channelDown s c).eopen = s.eopen ∧
      (channelDown s c).ledger = s.ledger ∧ (channelDown s c).dram = s.dram ∧ (channelDown s c).assayer = s.assayer ∧
      (channelDown s c).rumbes = s.rumbes := by
  unfold channelDown; simp [*]
@[simp] theorem stopJobs_frame (s : State) (c reason : Nat) :
    (stopJobs s c reason).pending = s.pending ∧ (stopJobs s c reason).now = s.now ∧ (stopJobs s c reason).free = s.free ∧
      (stopJobs s c reason).out = s.out ∧ (stopJobs s c reason).sys = s.sys ∧ (stopJobs s c reason).ka = s.ka ∧ (stopJobs s c
      reason).flash = s.flash ∧ (stopJobs s c reason).journal = s.journal ∧ (stopJobs s c reason).host = s.host ∧ (stopJobs s
      c reason).pcie = s.pcie ∧ (stopJobs s c reason).log = s.log ∧ (stopJobs s c reason).foreman = s.foreman ∧ (stopJobs s c
      reason).pairs = s.pairs ∧ (stopJobs s c reason).eopen = s.eopen ∧ (stopJobs s c reason).ledger = s.ledger ∧ (stopJobs s
      c reason).tiles = s.tiles ∧ (stopJobs s c reason).dram = s.dram ∧ (stopJobs s c reason).assayer = s.assayer ∧ (stopJobs
      s c reason).fabric = s.fabric ∧ (stopJobs s c reason).rumbes = s.rumbes := by
  refine ⟨?_, ?_, ?_, ?_, ?_, ?_, ?_, ?_, ?_, ?_, ?_, ?_, ?_, ?_, ?_, ?_, ?_, ?_, ?_, ?_⟩
  · unfold stopJobs; exact (foldl_pending _ _ _ (fun s x => by (repeat' split) <;> simp)).trans (by simp)
  · unfold stopJobs; exact (foldl_now _ _ _ (fun s x => by (repeat' split) <;> simp)).trans (by simp)
  · unfold stopJobs; exact (foldl_free _ _ _ (fun s x => by (repeat' split) <;> simp)).trans (by simp)
  · unfold stopJobs; exact (foldl_out _ _ _ (fun s x => by (repeat' split) <;> simp)).trans (by simp)
  · unfold stopJobs; exact (foldl_sys _ _ _ (fun s x => by (repeat' split) <;> simp)).trans (by simp)
  · unfold stopJobs; exact (foldl_ka _ _ _ (fun s x => by (repeat' split) <;> simp)).trans (by simp)
  · unfold stopJobs; exact (foldl_flash _ _ _ (fun s x => by (repeat' split) <;> simp)).trans (by simp)
  · unfold stopJobs; exact (foldl_journal _ _ _ (fun s x => by (repeat' split) <;> simp)).trans (by simp)
  · unfold stopJobs; exact (foldl_host _ _ _ (fun s x => by (repeat' split) <;> simp)).trans (by simp)
  · unfold stopJobs; exact (foldl_pcie _ _ _ (fun s x => by (repeat' split) <;> simp)).trans (by simp)
  · unfold stopJobs; exact (foldl_log _ _ _ (fun s x => by (repeat' split) <;> simp)).trans (by simp)
  · unfold stopJobs; exact (foldl_foreman _ _ _ (fun s x => by (repeat' split) <;> simp)).trans (by simp)
  · unfold stopJobs; exact (foldl_pairs _ _ _ (fun s x => by (repeat' split) <;> simp)).trans (by simp)
  · unfold stopJobs; exact (foldl_eopen _ _ _ (fun s x => by (repeat' split) <;> simp)).trans (by simp)
  · unfold stopJobs; exact (foldl_ledger _ _ _ (fun s x => by (repeat' split) <;> simp)).trans (by simp)
  · unfold stopJobs; exact (foldl_tiles _ _ _ (fun s x => by (repeat' split) <;> simp)).trans (by simp)
  · unfold stopJobs; exact (foldl_dram _ _ _ (fun s x => by (repeat' split) <;> simp)).trans (by simp)
  · unfold stopJobs; exact (foldl_assayer _ _ _ (fun s x => by (repeat' split) <;> simp)).trans (by simp)
  · unfold stopJobs; exact (foldl_fabric _ _ _ (fun s x => by (repeat' split) <;> simp)).trans (by simp)
  · unfold stopJobs; exact (foldl_rumbes _ _ _ (fun s x => by (repeat' split) <;> simp)).trans (by simp)
@[simp] theorem channelLost_frame (s : State) (c : Nat) :
    (channelLost s c).pending = s.pending ∧ (channelLost s c).now = s.now ∧ (channelLost s c).out = s.out ∧ (channelLost s
      c).flash = s.flash ∧ (channelLost s c).journal = s.journal ∧ (channelLost s c).host = s.host ∧ (channelLost s c).pcie =
      s.pcie ∧ (channelLost s c).foreman = s.foreman ∧ (channelLost s c).pairs = s.pairs ∧ (channelLost s c).eopen = s.eopen ∧
      (channelLost s c).ledger = s.ledger ∧ (channelLost s c).dram = s.dram ∧ (channelLost s c).assayer = s.assayer ∧
      (channelLost s c).rumbes = s.rumbes := by
  unfold channelLost; simp [*]
@[simp] theorem lockLost_frame (p : Pll) (s : State) :
    (lockLost p s).pending = s.pending ∧ (lockLost p s).rumbes = s.rumbes := by
  unfold lockLost; split <;> simp [*]
@[simp] theorem lockRegained_frame (p : Pll) (s : State) :
    (lockRegained p s).pending = s.pending ∧ (lockRegained p s).now = s.now ∧ (lockRegained p s).free = s.free ∧
      (lockRegained p s).out = s.out ∧ (lockRegained p s).flash = s.flash ∧ (lockRegained p s).journal = s.journal ∧
      (lockRegained p s).host = s.host ∧ (lockRegained p s).pcie = s.pcie ∧ (lockRegained p s).foreman = s.foreman ∧
      (lockRegained p s).pairs = s.pairs ∧ (lockRegained p s).eopen = s.eopen ∧ (lockRegained p s).ledger = s.ledger ∧
      (lockRegained p s).sched = s.sched ∧ (lockRegained p s).tiles = s.tiles ∧ (lockRegained p s).dram = s.dram ∧
      (lockRegained p s).assayer = s.assayer ∧ (lockRegained p s).fabric = s.fabric ∧ (lockRegained p s).rumbes = s.rumbes :=
      by
  unfold lockRegained; split <;> simp [*]
@[simp] theorem gateOpens_frame (b : Nat) (s : State) :
    (gateOpens b s).pending = s.pending ∧ (gateOpens b s).now = s.now ∧ (gateOpens b s).free = s.free ∧ (gateOpens b s).out
      = s.out ∧ (gateOpens b s).ka = s.ka ∧ (gateOpens b s).flash = s.flash ∧ (gateOpens b s).journal = s.journal ∧ (gateOpens
      b s).host = s.host ∧ (gateOpens b s).ports = s.ports ∧ (gateOpens b s).pcie = s.pcie ∧ (gateOpens b s).log = s.log ∧
      (gateOpens b s).foreman = s.foreman ∧ (gateOpens b s).pairs = s.pairs ∧ (gateOpens b s).eopen = s.eopen ∧ (gateOpens b
      s).ledger = s.ledger ∧ (gateOpens b s).sched = s.sched ∧ (gateOpens b s).tiles = s.tiles ∧ (gateOpens b s).dram = s.dram
      ∧ (gateOpens b s).assayer = s.assayer ∧ (gateOpens b s).fabric = s.fabric ∧ (gateOpens b s).rumbes = s.rumbes := by
  unfold gateOpens; simp [*]
@[simp] theorem testBegins_frame (b : Nat) (s : State) :
    (testBegins b s).pending = s.pending ∧ (testBegins b s).now = s.now ∧ (testBegins b s).free = s.free ∧ (testBegins b
      s).out = s.out ∧ (testBegins b s).ka = s.ka ∧ (testBegins b s).flash = s.flash ∧ (testBegins b s).journal = s.journal ∧
      (testBegins b s).host = s.host ∧ (testBegins b s).ports = s.ports ∧ (testBegins b s).pcie = s.pcie ∧ (testBegins b
      s).log = s.log ∧ (testBegins b s).foreman = s.foreman ∧ (testBegins b s).pairs = s.pairs ∧ (testBegins b s).eopen =
      s.eopen ∧ (testBegins b s).ledger = s.ledger ∧ (testBegins b s).sched = s.sched ∧ (testBegins b s).tiles = s.tiles ∧
      (testBegins b s).dram = s.dram ∧ (testBegins b s).assayer = s.assayer ∧ (testBegins b s).fabric = s.fabric ∧ (testBegins
      b s).rumbes = s.rumbes := by
  unfold testBegins; simp [*]
@[simp] theorem imagesOff_frame (s : State) (b : Nat) :
    (imagesOff s b).pending = s.pending ∧ (imagesOff s b).now = s.now ∧ (imagesOff s b).free = s.free ∧ (imagesOff s b).out
      = s.out ∧ (imagesOff s b).sys = s.sys ∧ (imagesOff s b).ka = s.ka ∧ (imagesOff s b).flash = s.flash ∧ (imagesOff s
      b).journal = s.journal ∧ (imagesOff s b).host = s.host ∧ (imagesOff s b).ports = s.ports ∧ (imagesOff s b).pcie = s.pcie
      ∧ (imagesOff s b).log = s.log ∧ (imagesOff s b).pairs = s.pairs ∧ (imagesOff s b).eopen = s.eopen ∧ (imagesOff s
      b).ledger = s.ledger ∧ (imagesOff s b).sched = s.sched ∧ (imagesOff s b).tiles = s.tiles ∧ (imagesOff s b).dram = s.dram
      ∧ (imagesOff s b).assayer = s.assayer ∧ (imagesOff s b).fabric = s.fabric ∧ (imagesOff s b).rumbes = s.rumbes := by
  unfold imagesOff; simp [*]
@[simp] theorem placeOn_frame (s : State) (b : Nat) :
    (placeOn s b).pending = s.pending ∧ (placeOn s b).now = s.now ∧ (placeOn s b).sys = s.sys ∧ (placeOn s b).flash =
      s.flash ∧ (placeOn s b).journal = s.journal ∧ (placeOn s b).host = s.host ∧ (placeOn s b).pcie = s.pcie ∧ (placeOn s
      b).pairs = s.pairs ∧ (placeOn s b).eopen = s.eopen ∧ (placeOn s b).ledger = s.ledger ∧ (placeOn s b).dram = s.dram ∧
      (placeOn s b).assayer = s.assayer ∧ (placeOn s b).fabric = s.fabric ∧ (placeOn s b).rumbes = s.rumbes := by
  refine ⟨?_, ?_, ?_, ?_, ?_, ?_, ?_, ?_, ?_, ?_, ?_, ?_, ?_, ?_⟩
  · unfold placeOn; exact (foldl_pending _ _ _ (fun s x => by (repeat' split) <;> simp)).trans (by simp)
  · unfold placeOn; exact (foldl_now _ _ _ (fun s x => by (repeat' split) <;> simp)).trans (by simp)
  · unfold placeOn; exact (foldl_sys _ _ _ (fun s x => by (repeat' split) <;> simp)).trans (by simp)
  · unfold placeOn; exact (foldl_flash _ _ _ (fun s x => by (repeat' split) <;> simp)).trans (by simp)
  · unfold placeOn; exact (foldl_journal _ _ _ (fun s x => by (repeat' split) <;> simp)).trans (by simp)
  · unfold placeOn; exact (foldl_host _ _ _ (fun s x => by (repeat' split) <;> simp)).trans (by simp)
  · unfold placeOn; exact (foldl_pcie _ _ _ (fun s x => by (repeat' split) <;> simp)).trans (by simp)
  · unfold placeOn; exact (foldl_pairs _ _ _ (fun s x => by (repeat' split) <;> simp)).trans (by simp)
  · unfold placeOn; exact (foldl_eopen _ _ _ (fun s x => by (repeat' split) <;> simp)).trans (by simp)
  · unfold placeOn; exact (foldl_ledger _ _ _ (fun s x => by (repeat' split) <;> simp)).trans (by simp)
  · unfold placeOn; exact (foldl_dram _ _ _ (fun s x => by (repeat' split) <;> simp)).trans (by simp)
  · unfold placeOn; exact (foldl_assayer _ _ _ (fun s x => by (repeat' split) <;> simp)).trans (by simp)
  · unfold placeOn; exact (foldl_fabric _ _ _ (fun s x => by (repeat' split) <;> simp)).trans (by simp)
  · unfold placeOn; exact (foldl_rumbes _ _ _ (fun s x => by (repeat' split) <;> simp)).trans (by simp)
@[simp] theorem widenOn_frame (s : State) (b : Nat) :
    (widenOn s b).pending = s.pending ∧ (widenOn s b).now = s.now ∧ (widenOn s b).free = s.free ∧ (widenOn s b).out = s.out
      ∧ (widenOn s b).sys = s.sys ∧ (widenOn s b).ka = s.ka ∧ (widenOn s b).flash = s.flash ∧ (widenOn s b).journal =
      s.journal ∧ (widenOn s b).host = s.host ∧ (widenOn s b).ports = s.ports ∧ (widenOn s b).pcie = s.pcie ∧ (widenOn s
      b).log = s.log ∧ (widenOn s b).foreman = s.foreman ∧ (widenOn s b).pairs = s.pairs ∧ (widenOn s b).eopen = s.eopen ∧
      (widenOn s b).ledger = s.ledger ∧ (widenOn s b).sched = s.sched ∧ (widenOn s b).dram = s.dram ∧ (widenOn s b).assayer =
      s.assayer ∧ (widenOn s b).fabric = s.fabric ∧ (widenOn s b).rumbes = s.rumbes := by
  refine ⟨?_, ?_, ?_, ?_, ?_, ?_, ?_, ?_, ?_, ?_, ?_, ?_, ?_, ?_, ?_, ?_, ?_, ?_, ?_, ?_, ?_⟩
  · unfold widenOn; exact (foldl_pending _ _ _ (fun s x => by (repeat' split) <;> simp)).trans (by simp)
  · unfold widenOn; exact (foldl_now _ _ _ (fun s x => by (repeat' split) <;> simp)).trans (by simp)
  · unfold widenOn; exact (foldl_free _ _ _ (fun s x => by (repeat' split) <;> simp)).trans (by simp)
  · unfold widenOn; exact (foldl_out _ _ _ (fun s x => by (repeat' split) <;> simp)).trans (by simp)
  · unfold widenOn; exact (foldl_sys _ _ _ (fun s x => by (repeat' split) <;> simp)).trans (by simp)
  · unfold widenOn; exact (foldl_ka _ _ _ (fun s x => by (repeat' split) <;> simp)).trans (by simp)
  · unfold widenOn; exact (foldl_flash _ _ _ (fun s x => by (repeat' split) <;> simp)).trans (by simp)
  · unfold widenOn; exact (foldl_journal _ _ _ (fun s x => by (repeat' split) <;> simp)).trans (by simp)
  · unfold widenOn; exact (foldl_host _ _ _ (fun s x => by (repeat' split) <;> simp)).trans (by simp)
  · unfold widenOn; exact (foldl_ports _ _ _ (fun s x => by (repeat' split) <;> simp)).trans (by simp)
  · unfold widenOn; exact (foldl_pcie _ _ _ (fun s x => by (repeat' split) <;> simp)).trans (by simp)
  · unfold widenOn; exact (foldl_log _ _ _ (fun s x => by (repeat' split) <;> simp)).trans (by simp)
  · unfold widenOn; exact (foldl_foreman _ _ _ (fun s x => by (repeat' split) <;> simp)).trans (by simp)
  · unfold widenOn; exact (foldl_pairs _ _ _ (fun s x => by (repeat' split) <;> simp)).trans (by simp)
  · unfold widenOn; exact (foldl_eopen _ _ _ (fun s x => by (repeat' split) <;> simp)).trans (by simp)
  · unfold widenOn; exact (foldl_ledger _ _ _ (fun s x => by (repeat' split) <;> simp)).trans (by simp)
  · unfold widenOn; exact (foldl_sched _ _ _ (fun s x => by (repeat' split) <;> simp)).trans (by simp)
  · unfold widenOn; exact (foldl_dram _ _ _ (fun s x => by (repeat' split) <;> simp)).trans (by simp)
  · unfold widenOn; exact (foldl_assayer _ _ _ (fun s x => by (repeat' split) <;> simp)).trans (by simp)
  · unfold widenOn; exact (foldl_fabric _ _ _ (fun s x => by (repeat' split) <;> simp)).trans (by simp)
  · unfold widenOn; exact (foldl_rumbes _ _ _ (fun s x => by (repeat' split) <;> simp)).trans (by simp)
@[simp] theorem countRestore_frame (s : State) (tenant k : Nat) :
    (countRestore s tenant k).pending = s.pending ∧ (countRestore s tenant k).now = s.now ∧ (countRestore s tenant k).free =
      s.free ∧ (countRestore s tenant k).out = s.out ∧ (countRestore s tenant k).sys = s.sys ∧ (countRestore s tenant k).ka =
      s.ka ∧ (countRestore s tenant k).flash = s.flash ∧ (countRestore s tenant k).journal = s.journal ∧ (countRestore s
      tenant k).host = s.host ∧ (countRestore s tenant k).ports = s.ports ∧ (countRestore s tenant k).pcie = s.pcie ∧
      (countRestore s tenant k).log = s.log ∧ (countRestore s tenant k).foreman = s.foreman ∧ (countRestore s tenant k).pairs
      = s.pairs ∧ (countRestore s tenant k).eopen = s.eopen ∧ (countRestore s tenant k).ledger = s.ledger ∧ (countRestore s
      tenant k).tiles = s.tiles ∧ (countRestore s tenant k).dram = s.dram ∧ (countRestore s tenant k).assayer = s.assayer ∧
      (countRestore s tenant k).fabric = s.fabric ∧ (countRestore s tenant k).rumbes = s.rumbes := by
  unfold countRestore; simp [*]
@[simp] theorem reviveStream_frame (s : State) (n : Nat) :
    (reviveStream s n).pending = s.pending ∧ (reviveStream s n).now = s.now ∧ (reviveStream s n).free = s.free ∧
      (reviveStream s n).out = s.out ∧ (reviveStream s n).sys = s.sys ∧ (reviveStream s n).ka = s.ka ∧ (reviveStream s
      n).flash = s.flash ∧ (reviveStream s n).journal = s.journal ∧ (reviveStream s n).host = s.host ∧ (reviveStream s n).pcie
      = s.pcie ∧ (reviveStream s n).log = s.log ∧ (reviveStream s n).foreman = s.foreman ∧ (reviveStream s n).pairs = s.pairs
      ∧ (reviveStream s n).eopen = s.eopen ∧ (reviveStream s n).ledger = s.ledger ∧ (reviveStream s n).tiles = s.tiles ∧
      (reviveStream s n).dram = s.dram ∧ (reviveStream s n).assayer = s.assayer ∧ (reviveStream s n).fabric = s.fabric ∧
      (reviveStream s n).rumbes = s.rumbes := by
  unfold reviveStream; simp [*]
@[simp] theorem restoreStream_frame (s : State) (n : Nat) :
    (restoreStream s n).pending = s.pending ∧ (restoreStream s n).now = s.now ∧ (restoreStream s n).free = s.free ∧
      (restoreStream s n).out = s.out ∧ (restoreStream s n).sys = s.sys ∧ (restoreStream s n).ka = s.ka ∧ (restoreStream s
      n).flash = s.flash ∧ (restoreStream s n).journal = s.journal ∧ (restoreStream s n).host = s.host ∧ (restoreStream s
      n).ports = s.ports ∧ (restoreStream s n).pcie = s.pcie ∧ (restoreStream s n).log = s.log ∧ (restoreStream s n).foreman =
      s.foreman ∧ (restoreStream s n).pairs = s.pairs ∧ (restoreStream s n).eopen = s.eopen ∧ (restoreStream s n).ledger =
      s.ledger ∧ (restoreStream s n).assayer = s.assayer ∧ (restoreStream s n).fabric = s.fabric ∧ (restoreStream s n).rumbes
      = s.rumbes := by
  unfold restoreStream; simp [*] <;> (repeat' split) <;> simp [*]
@[simp] theorem resumeOne_frame (s : State) (n : Nat) :
    (resumeOne s n).pending = s.pending ∧ (resumeOne s n).now = s.now ∧ (resumeOne s n).free = s.free ∧ (resumeOne s n).out
      = s.out ∧ (resumeOne s n).sys = s.sys ∧ (resumeOne s n).ka = s.ka ∧ (resumeOne s n).flash = s.flash ∧ (resumeOne s
      n).journal = s.journal ∧ (resumeOne s n).host = s.host ∧ (resumeOne s n).pcie = s.pcie ∧ (resumeOne s n).log = s.log ∧
      (resumeOne s n).foreman = s.foreman ∧ (resumeOne s n).pairs = s.pairs ∧ (resumeOne s n).eopen = s.eopen ∧ (resumeOne s
      n).ledger = s.ledger ∧ (resumeOne s n).assayer = s.assayer ∧ (resumeOne s n).fabric = s.fabric ∧ (resumeOne s n).rumbes
      = s.rumbes := by
  unfold resumeOne; simp [*]
@[simp] theorem tellRestore_frame (s : State) :
    (tellRestore s).pending = s.pending ∧ (tellRestore s).now = s.now ∧ (tellRestore s).free = s.free ∧ (tellRestore s).out
      = s.out ∧ (tellRestore s).flash = s.flash ∧ (tellRestore s).journal = s.journal ∧ (tellRestore s).host = s.host ∧
      (tellRestore s).pcie = s.pcie ∧ (tellRestore s).foreman = s.foreman ∧ (tellRestore s).pairs = s.pairs ∧ (tellRestore
      s).eopen = s.eopen ∧ (tellRestore s).ledger = s.ledger ∧ (tellRestore s).tiles = s.tiles ∧ (tellRestore s).dram = s.dram
      ∧ (tellRestore s).assayer = s.assayer ∧ (tellRestore s).fabric = s.fabric ∧ (tellRestore s).rumbes = s.rumbes := by
  unfold tellRestore; simp [*]
@[simp] theorem benchEnters_frame (s : State) (b : Nat) :
    (benchEnters s b).pending = s.pending ∧ (benchEnters s b).now = s.now ∧ (benchEnters s b).flash = s.flash ∧ (benchEnters
      s b).journal = s.journal ∧ (benchEnters s b).host = s.host ∧ (benchEnters s b).pcie = s.pcie ∧ (benchEnters s b).pairs =
      s.pairs ∧ (benchEnters s b).eopen = s.eopen ∧ (benchEnters s b).ledger = s.ledger ∧ (benchEnters s b).assayer =
      s.assayer ∧ (benchEnters s b).fabric = s.fabric ∧ (benchEnters s b).rumbes = s.rumbes := by
  unfold benchEnters; simp [*]
@[simp] theorem benchFails_frame (s : State) (b : Nat) (item : Nat) :
    (benchFails s b item).pending = s.pending ∧ (benchFails s b item).now = s.now ∧ (benchFails s b item).free = s.free
      ∧ (benchFails s b item).out = s.out ∧ (benchFails s b item).flash = s.flash ∧ (benchFails s b item).journal =
      s.journal ∧ (benchFails s b item).host = s.host ∧ (benchFails s b item).pcie = s.pcie ∧ (benchFails s b
      item).pairs = s.pairs ∧ (benchFails s b item).eopen = s.eopen ∧ (benchFails s b item).ledger = s.ledger ∧
      (benchFails s b item).assayer = s.assayer ∧ (benchFails s b item).fabric = s.fabric ∧ (benchFails s b item).rumbes
      = s.rumbes := by
  unfold benchFails; simp -implicitDefEqProofs [*]
@[simp] theorem selfTestDone_frame (b : Nat) (r : SelfTest) (s : State) :
    (selfTestDone b r s).pending = s.pending ∧ (selfTestDone b r s).now = s.now ∧ (selfTestDone b r s).flash = s.flash ∧
      (selfTestDone b r s).journal = s.journal ∧ (selfTestDone b r s).host = s.host ∧ (selfTestDone b r s).pcie = s.pcie ∧
      (selfTestDone b r s).pairs = s.pairs ∧ (selfTestDone b r s).eopen = s.eopen ∧ (selfTestDone b r s).ledger = s.ledger ∧
      (selfTestDone b r s).assayer = s.assayer ∧ (selfTestDone b r s).fabric = s.fabric ∧ (selfTestDone b r s).rumbes =
      s.rumbes := by
  unfold selfTestDone; simp [*]
@[simp] theorem stippleTest_frame (c0 c1 c2 : BitVec 72) (s : State) :
    (stippleTest c0 c1 c2 s).pending = s.pending ∧ (stippleTest c0 c1 c2 s).now = s.now ∧ (stippleTest c0 c1 c2 s).free =
      s.free ∧ (stippleTest c0 c1 c2 s).out = s.out ∧ (stippleTest c0 c1 c2 s).flash = s.flash ∧ (stippleTest c0 c1 c2
      s).journal = s.journal ∧ (stippleTest c0 c1 c2 s).host = s.host ∧ (stippleTest c0 c1 c2 s).pcie = s.pcie ∧ (stippleTest
      c0 c1 c2 s).foreman = s.foreman ∧ (stippleTest c0 c1 c2 s).pairs = s.pairs ∧ (stippleTest c0 c1 c2 s).eopen = s.eopen ∧
      (stippleTest c0 c1 c2 s).ledger = s.ledger ∧ (stippleTest c0 c1 c2 s).sched = s.sched ∧ (stippleTest c0 c1 c2 s).tiles =
      s.tiles ∧ (stippleTest c0 c1 c2 s).dram = s.dram ∧ (stippleTest c0 c1 c2 s).assayer = s.assayer ∧ (stippleTest c0 c1 c2
      s).fabric = s.fabric ∧ (stippleTest c0 c1 c2 s).rumbes = s.rumbes := by
  unfold stippleTest; simp [*] <;> (repeat' split) <;> simp [*]
@[simp] theorem verifyPatch_frame (s : State) :
    (verifyPatch s).pending = s.pending ∧ (verifyPatch s).now = s.now ∧ (verifyPatch s).free = s.free ∧ (verifyPatch
      s).out = s.out ∧ (verifyPatch s).sys = s.sys ∧ (verifyPatch s).flash = s.flash ∧ (verifyPatch s).journal =
      s.journal ∧ (verifyPatch s).pcie = s.pcie ∧ (verifyPatch s).pairs = s.pairs ∧ (verifyPatch s).eopen = s.eopen ∧
      (verifyPatch s).ledger = s.ledger ∧ (verifyPatch s).sched = s.sched ∧ (verifyPatch s).tiles = s.tiles ∧
      (verifyPatch s).dram = s.dram ∧ (verifyPatch s).assayer = s.assayer ∧ (verifyPatch s).fabric = s.fabric ∧
      (verifyPatch s).rumbes = s.rumbes := by
  unfold verifyPatch; simp [*]
@[simp] theorem releaseObj_frame (s : State) (o : RegObj) :
    (releaseObj s o).pending = s.pending ∧ (releaseObj s o).now = s.now ∧ (releaseObj s o).out = s.out ∧ (releaseObj s
      o).sys = s.sys ∧ (releaseObj s o).ka = s.ka ∧ (releaseObj s o).flash = s.flash ∧ (releaseObj s o).journal = s.journal ∧
      (releaseObj s o).host = s.host ∧ (releaseObj s o).pcie = s.pcie ∧ (releaseObj s o).log = s.log ∧ (releaseObj s o).pairs
      = s.pairs ∧ (releaseObj s o).eopen = s.eopen ∧ (releaseObj s o).ledger = s.ledger ∧ (releaseObj s o).dram = s.dram ∧
      (releaseObj s o).assayer = s.assayer ∧ (releaseObj s o).fabric = s.fabric ∧ (releaseObj s o).rumbes = s.rumbes := by
  unfold releaseObj; (repeat' split) <;> simp [*]
@[simp] theorem restoreJobs_frame (s : State) :
    (restoreJobs s).pending = s.pending ∧ (restoreJobs s).now = s.now ∧ (restoreJobs s).free = s.free ∧ (restoreJobs
      s).out = s.out ∧ (restoreJobs s).sys = s.sys ∧ (restoreJobs s).ka = s.ka ∧ (restoreJobs s).flash = s.flash ∧
      (restoreJobs s).journal = s.journal ∧ (restoreJobs s).host = s.host ∧ (restoreJobs s).pcie = s.pcie ∧ (restoreJobs
      s).log = s.log ∧ (restoreJobs s).foreman = s.foreman ∧ (restoreJobs s).pairs = s.pairs ∧ (restoreJobs s).eopen =
      s.eopen ∧ (restoreJobs s).ledger = s.ledger ∧ (restoreJobs s).tiles = s.tiles ∧ (restoreJobs s).dram = s.dram ∧
      (restoreJobs s).assayer = s.assayer ∧ (restoreJobs s).fabric = s.fabric ∧ (restoreJobs s).rumbes = s.rumbes := by
  unfold restoreJobs; simp -implicitDefEqProofs [*]
@[simp] theorem restartCopies_frame (s : State) :
    (restartCopies s).pending = s.pending ∧ (restartCopies s).now = s.now ∧ (restartCopies s).free = s.free ∧ (restartCopies
      s).out = s.out ∧ (restartCopies s).sys = s.sys ∧ (restartCopies s).ka = s.ka ∧ (restartCopies s).flash = s.flash ∧
      (restartCopies s).journal = s.journal ∧ (restartCopies s).host = s.host ∧ (restartCopies s).ports = s.ports ∧
      (restartCopies s).pcie = s.pcie ∧ (restartCopies s).log = s.log ∧ (restartCopies s).foreman = s.foreman ∧ (restartCopies
      s).pairs = s.pairs ∧ (restartCopies s).eopen = s.eopen ∧ (restartCopies s).ledger = s.ledger ∧ (restartCopies s).tiles =
      s.tiles ∧ (restartCopies s).dram = s.dram ∧ (restartCopies s).assayer = s.assayer ∧ (restartCopies s).fabric = s.fabric
      ∧ (restartCopies s).rumbes = s.rumbes := by
  unfold restartCopies; simp [*]
@[simp] theorem tellRestart_frame (s : State) :
    (tellRestart s).pending = s.pending ∧ (tellRestart s).now = s.now ∧ (tellRestart s).free = s.free ∧ (tellRestart s).out
      = s.out ∧ (tellRestart s).sys = s.sys ∧ (tellRestart s).ka = s.ka ∧ (tellRestart s).flash = s.flash ∧ (tellRestart
      s).journal = s.journal ∧ (tellRestart s).host = s.host ∧ (tellRestart s).pcie = s.pcie ∧ (tellRestart s).log = s.log ∧
      (tellRestart s).pairs = s.pairs ∧ (tellRestart s).eopen = s.eopen ∧ (tellRestart s).ledger = s.ledger ∧ (tellRestart
      s).sched = s.sched ∧ (tellRestart s).tiles = s.tiles ∧ (tellRestart s).dram = s.dram ∧ (tellRestart s).assayer =
      s.assayer ∧ (tellRestart s).fabric = s.fabric ∧ (tellRestart s).rumbes = s.rumbes := by
  unfold tellRestart; simp [*]
@[simp] theorem foremanStarts_frame (badRecords : List RegObj) (s : State) :
    (foremanStarts badRecords s).pending = s.pending ∧ (foremanStarts badRecords s).now = s.now ∧ (foremanStarts
      badRecords s).flash = s.flash ∧ (foremanStarts badRecords s).journal = s.journal ∧ (foremanStarts badRecords
      s).pcie = s.pcie ∧ (foremanStarts badRecords s).pairs = s.pairs ∧ (foremanStarts badRecords s).eopen = s.eopen ∧
      (foremanStarts badRecords s).ledger = s.ledger ∧ (foremanStarts badRecords s).assayer = s.assayer ∧ (foremanStarts
      badRecords s).fabric = s.fabric ∧ (foremanStarts badRecords s).rumbes = s.rumbes := by
  unfold foremanStarts; simp -implicitDefEqProofs [*]

/-! ### Memtest -/

@[simp] theorem testNext_frame (s : State) (c : Nat) :
    (testNext s c).pending = s.pending ∧ (testNext s c).now = s.now ∧ (testNext s c).free = s.free ∧ (testNext s c).out =
      s.out ∧ (testNext s c).ka = s.ka ∧ (testNext s c).flash = s.flash ∧ (testNext s c).journal = s.journal ∧ (testNext s
      c).host = s.host ∧ (testNext s c).ports = s.ports ∧ (testNext s c).pcie = s.pcie ∧ (testNext s c).log = s.log ∧
      (testNext s c).foreman = s.foreman ∧ (testNext s c).pairs = s.pairs ∧ (testNext s c).eopen = s.eopen ∧ (testNext s
      c).ledger = s.ledger ∧ (testNext s c).sched = s.sched ∧ (testNext s c).tiles = s.tiles ∧ (testNext s c).dram = s.dram ∧
      (testNext s c).assayer = s.assayer ∧ (testNext s c).fabric = s.fabric ∧ (testNext s c).rumbes = s.rumbes := by
  unfold testNext; (repeat' split) <;> simp [*]
@[simp] theorem storeState_frame (s : State) :
    (storeState s).pending = s.pending ∧ (storeState s).now = s.now ∧ (storeState s).free = s.free ∧ (storeState s).out =
      s.out ∧ (storeState s).ka = s.ka ∧ (storeState s).flash = s.flash ∧ (storeState s).journal = s.journal ∧ (storeState
      s).host = s.host ∧ (storeState s).ports = s.ports ∧ (storeState s).pcie = s.pcie ∧ (storeState s).log = s.log ∧
      (storeState s).foreman = s.foreman ∧ (storeState s).pairs = s.pairs ∧ (storeState s).eopen = s.eopen ∧ (storeState
      s).ledger = s.ledger ∧ (storeState s).sched = s.sched ∧ (storeState s).tiles = s.tiles ∧ (storeState s).dram = s.dram ∧
      (storeState s).assayer = s.assayer ∧ (storeState s).fabric = s.fabric ∧ (storeState s).rumbes = s.rumbes := by
  unfold storeState; simp [*]
@[simp] theorem storeLost_frame (s : State) (n : Nat) :
    (storeLost s n).pending = s.pending ∧ (storeLost s n).now = s.now ∧ (storeLost s n).free = s.free ∧ (storeLost s
      n).out = s.out ∧ (storeLost s n).sys = s.sys ∧ (storeLost s n).ka = s.ka ∧ (storeLost s n).flash = s.flash ∧
      (storeLost s n).journal = s.journal ∧ (storeLost s n).host = s.host ∧ (storeLost s n).pcie = s.pcie ∧ (storeLost s
      n).log = s.log ∧ (storeLost s n).foreman = s.foreman ∧ (storeLost s n).pairs = s.pairs ∧ (storeLost s n).eopen =
      s.eopen ∧ (storeLost s n).ledger = s.ledger ∧ (storeLost s n).dram = s.dram ∧ (storeLost s n).assayer = s.assayer
      ∧ (storeLost s n).fabric = s.fabric ∧ (storeLost s n).rumbes = s.rumbes := by
  unfold storeLost; simp -implicitDefEqProofs [*]
@[simp] theorem channelTrained_frame (c mib : Nat) (s : State) :
    (channelTrained c mib s).pending = s.pending ∧ (channelTrained c mib s).now = s.now ∧ (channelTrained c mib s).free
      = s.free ∧ (channelTrained c mib s).out = s.out ∧ (channelTrained c mib s).ka = s.ka ∧ (channelTrained c mib
      s).flash = s.flash ∧ (channelTrained c mib s).journal = s.journal ∧ (channelTrained c mib s).host = s.host ∧
      (channelTrained c mib s).pcie = s.pcie ∧ (channelTrained c mib s).log = s.log ∧ (channelTrained c mib s).foreman =
      s.foreman ∧ (channelTrained c mib s).pairs = s.pairs ∧ (channelTrained c mib s).eopen = s.eopen ∧ (channelTrained
      c mib s).ledger = s.ledger ∧ (channelTrained c mib s).assayer = s.assayer ∧ (channelTrained c mib s).fabric =
      s.fabric ∧ (channelTrained c mib s).rumbes = s.rumbes := by
  unfold channelTrained; simp -implicitDefEqProofs [*]
@[simp] theorem keepMap_frame (s : State) :
    (keepMap s).pending = s.pending ∧ (keepMap s).now = s.now ∧ (keepMap s).free = s.free ∧ (keepMap s).out = s.out ∧
      (keepMap s).sys = s.sys ∧ (keepMap s).flash = s.flash ∧ (keepMap s).host = s.host ∧ (keepMap s).ports = s.ports ∧
      (keepMap s).pcie = s.pcie ∧ (keepMap s).log = s.log ∧ (keepMap s).foreman = s.foreman ∧ (keepMap s).pairs = s.pairs ∧
      (keepMap s).eopen = s.eopen ∧ (keepMap s).ledger = s.ledger ∧ (keepMap s).sched = s.sched ∧ (keepMap s).tiles = s.tiles
      ∧ (keepMap s).dram = s.dram ∧ (keepMap s).assayer = s.assayer ∧ (keepMap s).fabric = s.fabric ∧ (keepMap s).rumbes =
      s.rumbes := by
  unfold keepMap; simp [*]
@[simp] theorem regionDone_frame (c i : Nat) (r : RegionTest) (s : State) :
    (regionDone c i r s).pending = s.pending ∧ (regionDone c i r s).now = s.now ∧ (regionDone c i r s).free = s.free ∧
      (regionDone c i r s).out = s.out ∧ (regionDone c i r s).flash = s.flash ∧ (regionDone c i r s).host = s.host ∧
      (regionDone c i r s).pcie = s.pcie ∧ (regionDone c i r s).foreman = s.foreman ∧ (regionDone c i r s).pairs =
      s.pairs ∧ (regionDone c i r s).eopen = s.eopen ∧ (regionDone c i r s).ledger = s.ledger ∧ (regionDone c i r
      s).dram = s.dram ∧ (regionDone c i r s).assayer = s.assayer ∧ (regionDone c i r s).fabric = s.fabric ∧ (regionDone
      c i r s).rumbes = s.rumbes := by
  unfold regionDone; simp -implicitDefEqProofs [*]

/-! ### Guards -/

@[simp] theorem foremanHung_frame (s : State) :
    (foremanHung s).pending = s.pending ∧ (foremanHung s).now = s.now ∧ (foremanHung s).free = s.free ∧ (foremanHung s).out
      = s.out ∧ (foremanHung s).flash = s.flash ∧ (foremanHung s).host = s.host ∧ (foremanHung s).pcie = s.pcie ∧ (foremanHung
      s).eopen = s.eopen ∧ (foremanHung s).ledger = s.ledger ∧ (foremanHung s).tiles = s.tiles ∧ (foremanHung s).dram = s.dram
      ∧ (foremanHung s).assayer = s.assayer ∧ (foremanHung s).fabric = s.fabric ∧ (foremanHung s).rumbes = s.rumbes := by
  unfold foremanHung; simp [*]
@[simp] theorem urgentHung_frame (s : State) :
    (urgentHung s).pending = s.pending ∧ (urgentHung s).now = s.now ∧ (urgentHung s).free = s.free ∧ (urgentHung s).flash =
      s.flash ∧ (urgentHung s).host = s.host ∧ (urgentHung s).pcie = s.pcie ∧ (urgentHung s).eopen = s.eopen ∧ (urgentHung
      s).ledger = s.ledger ∧ (urgentHung s).tiles = s.tiles ∧ (urgentHung s).dram = s.dram ∧ (urgentHung s).assayer =
      s.assayer ∧ (urgentHung s).fabric = s.fabric ∧ (urgentHung s).rumbes = s.rumbes := by
  unfold urgentHung; simp [*]
@[simp] theorem benchHung_frame (s : State) (tile cause : Nat) :
    (benchHung s tile cause).pending = s.pending ∧ (benchHung s tile cause).now = s.now ∧ (benchHung s tile cause).free =
      s.free ∧ (benchHung s tile cause).out = s.out ∧ (benchHung s tile cause).flash = s.flash ∧ (benchHung s tile
      cause).journal = s.journal ∧ (benchHung s tile cause).host = s.host ∧ (benchHung s tile cause).pcie = s.pcie ∧
      (benchHung s tile cause).foreman = s.foreman ∧ (benchHung s tile cause).pairs = s.pairs ∧ (benchHung s tile cause).eopen
      = s.eopen ∧ (benchHung s tile cause).ledger = s.ledger ∧ (benchHung s tile cause).dram = s.dram ∧ (benchHung s tile
      cause).assayer = s.assayer ∧ (benchHung s tile cause).fabric = s.fabric ∧ (benchHung s tile cause).rumbes = s.rumbes :=
      by
  unfold benchHung; simp [*]
@[simp] theorem dispatchAll_frame (s : State) :
    (dispatchAll s).pending = s.pending ∧ (dispatchAll s).now = s.now ∧ (dispatchAll s).free = s.free ∧ (dispatchAll s).out
      = s.out ∧ (dispatchAll s).sys = s.sys ∧ (dispatchAll s).ka = s.ka ∧ (dispatchAll s).flash = s.flash ∧ (dispatchAll
      s).journal = s.journal ∧ (dispatchAll s).host = s.host ∧ (dispatchAll s).pcie = s.pcie ∧ (dispatchAll s).log = s.log ∧
      (dispatchAll s).foreman = s.foreman ∧ (dispatchAll s).pairs = s.pairs ∧ (dispatchAll s).eopen = s.eopen ∧ (dispatchAll
      s).ledger = s.ledger ∧ (dispatchAll s).dram = s.dram ∧ (dispatchAll s).assayer = s.assayer ∧ (dispatchAll s).fabric =
      s.fabric ∧ (dispatchAll s).rumbes = s.rumbes := by
  unfold dispatchAll; simp [*]
@[simp] theorem setDivider_frame (s : State) (b k : Nat) :
    (setDivider s b k).pending = s.pending ∧ (setDivider s b k).now = s.now ∧ (setDivider s b k).free = s.free ∧ (setDivider
      s b k).out = s.out ∧ (setDivider s b k).ka = s.ka ∧ (setDivider s b k).flash = s.flash ∧ (setDivider s b k).journal =
      s.journal ∧ (setDivider s b k).host = s.host ∧ (setDivider s b k).ports = s.ports ∧ (setDivider s b k).pcie = s.pcie ∧
      (setDivider s b k).log = s.log ∧ (setDivider s b k).foreman = s.foreman ∧ (setDivider s b k).pairs = s.pairs ∧
      (setDivider s b k).eopen = s.eopen ∧ (setDivider s b k).ledger = s.ledger ∧ (setDivider s b k).sched = s.sched ∧
      (setDivider s b k).dram = s.dram ∧ (setDivider s b k).assayer = s.assayer ∧ (setDivider s b k).fabric = s.fabric ∧
      (setDivider s b k).rumbes = s.rumbes := by
  unfold setDivider; simp [*]
@[simp] theorem applyCeiling_frame (s : State) :
    (applyCeiling s).pending = s.pending ∧ (applyCeiling s).now = s.now ∧ (applyCeiling s).free = s.free ∧ (applyCeiling
      s).out = s.out ∧ (applyCeiling s).ka = s.ka ∧ (applyCeiling s).flash = s.flash ∧ (applyCeiling s).journal =
      s.journal ∧ (applyCeiling s).host = s.host ∧ (applyCeiling s).pcie = s.pcie ∧ (applyCeiling s).log = s.log ∧
      (applyCeiling s).foreman = s.foreman ∧ (applyCeiling s).pairs = s.pairs ∧ (applyCeiling s).eopen = s.eopen ∧
      (applyCeiling s).ledger = s.ledger ∧ (applyCeiling s).assayer = s.assayer ∧ (applyCeiling s).fabric = s.fabric ∧
      (applyCeiling s).rumbes = s.rumbes := by
  unfold applyCeiling; simp -implicitDefEqProofs [*]
@[simp] theorem thermalFault_frame (s : State) (cls : Nat) (tj : Int) (k : Nat) :
    (thermalFault s cls tj k).pending = s.pending ∧ (thermalFault s cls tj k).now = s.now ∧ (thermalFault s cls tj k).out =
      s.out ∧ (thermalFault s cls tj k).sys = s.sys ∧ (thermalFault s cls tj k).flash = s.flash ∧ (thermalFault s cls tj
      k).journal = s.journal ∧ (thermalFault s cls tj k).host = s.host ∧ (thermalFault s cls tj k).pcie = s.pcie ∧
      (thermalFault s cls tj k).foreman = s.foreman ∧ (thermalFault s cls tj k).pairs = s.pairs ∧ (thermalFault s cls tj
      k).eopen = s.eopen ∧ (thermalFault s cls tj k).ledger = s.ledger ∧ (thermalFault s cls tj k).sched = s.sched ∧
      (thermalFault s cls tj k).tiles = s.tiles ∧ (thermalFault s cls tj k).dram = s.dram ∧ (thermalFault s cls tj k).assayer
      = s.assayer ∧ (thermalFault s cls tj k).fabric = s.fabric ∧ (thermalFault s cls tj k).rumbes = s.rumbes := by
  unfold thermalFault; simp [*]
@[simp] theorem thermalStop_frame (s : State) (tj : Int) (k : Nat) :
    (thermalStop s tj k).pending = s.pending ∧ (thermalStop s tj k).now = s.now ∧ (thermalStop s tj k).out = s.out ∧
      (thermalStop s tj k).flash = s.flash ∧ (thermalStop s tj k).host = s.host ∧ (thermalStop s tj k).pcie = s.pcie ∧
      (thermalStop s tj k).foreman = s.foreman ∧ (thermalStop s tj k).pairs = s.pairs ∧ (thermalStop s tj k).eopen = s.eopen ∧
      (thermalStop s tj k).sched = s.sched ∧ (thermalStop s tj k).tiles = s.tiles ∧ (thermalStop s tj k).dram = s.dram ∧
      (thermalStop s tj k).assayer = s.assayer ∧ (thermalStop s tj k).fabric = s.fabric ∧ (thermalStop s tj k).rumbes =
      s.rumbes := by
  unfold thermalStop; simp [*]
@[simp] theorem thermalGo_frame (s : State) :
    (thermalGo s).pending = s.pending ∧ (thermalGo s).now = s.now ∧ (thermalGo s).flash = s.flash ∧ (thermalGo s).journal =
      s.journal ∧ (thermalGo s).host = s.host ∧ (thermalGo s).pcie = s.pcie ∧ (thermalGo s).foreman = s.foreman ∧ (thermalGo
      s).pairs = s.pairs ∧ (thermalGo s).eopen = s.eopen ∧ (thermalGo s).ledger = s.ledger ∧ (thermalGo s).assayer = s.assayer
      ∧ (thermalGo s).fabric = s.fabric ∧ (thermalGo s).rumbes = s.rumbes := by
  unfold thermalGo; simp [*]
@[simp] theorem thermalReset_frame (s : State) (tj : Int) (k : Nat) :
    (thermalReset s tj k).pending = s.pending ∧ (thermalReset s tj k).rumbes = s.rumbes := by
  unfold thermalReset; simp [*]
@[simp] theorem thermalActs_frame (tj : Int) (k : Nat) (s : State) :
    (thermalActs tj k s).pending = s.pending ∧ (thermalActs tj k s).rumbes = s.rumbes := by
  unfold thermalActs; simp [*]
@[simp] theorem thermalHeld_frame (tj : Int) (s : State) :
    (thermalHeld tj s).pending = s.pending ∧ (thermalHeld tj s).now = s.now ∧ (thermalHeld tj s).free = s.free ∧
      (thermalHeld tj s).out = s.out ∧ (thermalHeld tj s).ka = s.ka ∧ (thermalHeld tj s).flash = s.flash ∧ (thermalHeld tj
      s).journal = s.journal ∧ (thermalHeld tj s).host = s.host ∧ (thermalHeld tj s).ports = s.ports ∧ (thermalHeld tj s).pcie
      = s.pcie ∧ (thermalHeld tj s).log = s.log ∧ (thermalHeld tj s).foreman = s.foreman ∧ (thermalHeld tj s).pairs = s.pairs
      ∧ (thermalHeld tj s).eopen = s.eopen ∧ (thermalHeld tj s).ledger = s.ledger ∧ (thermalHeld tj s).sched = s.sched ∧
      (thermalHeld tj s).tiles = s.tiles ∧ (thermalHeld tj s).dram = s.dram ∧ (thermalHeld tj s).assayer = s.assayer ∧
      (thermalHeld tj s).fabric = s.fabric ∧ (thermalHeld tj s).rumbes = s.rumbes := by
  unfold thermalHeld; simp [*]
@[simp] theorem thermalDo_frame (sensors : List Int) (s : State) :
    (thermalDo sensors s).pending = s.pending ∧ (thermalDo sensors s).rumbes = s.rumbes := by
  unfold thermalDo; split <;> simp [*]
@[simp] theorem ceilingDo_frame (s : State) :
    (ceilingDo s).pending = s.pending ∧ (ceilingDo s).now = s.now ∧ (ceilingDo s).free = s.free ∧ (ceilingDo s).out =
      s.out ∧ (ceilingDo s).ka = s.ka ∧ (ceilingDo s).flash = s.flash ∧ (ceilingDo s).journal = s.journal ∧ (ceilingDo
      s).host = s.host ∧ (ceilingDo s).pcie = s.pcie ∧ (ceilingDo s).log = s.log ∧ (ceilingDo s).foreman = s.foreman ∧
      (ceilingDo s).pairs = s.pairs ∧ (ceilingDo s).eopen = s.eopen ∧ (ceilingDo s).ledger = s.ledger ∧ (ceilingDo
      s).assayer = s.assayer ∧ (ceilingDo s).fabric = s.fabric ∧ (ceilingDo s).rumbes = s.rumbes := by
  unfold ceilingDo; split <;> simp -implicitDefEqProofs [*]
@[simp] theorem estimateDo_frame (pm : Nat) (shares : List Nat) (s : State) :
    (estimateDo pm shares s).pending = s.pending ∧ (estimateDo pm shares s).now = s.now ∧ (estimateDo pm shares s).free =
      s.free ∧ (estimateDo pm shares s).out = s.out ∧ (estimateDo pm shares s).ka = s.ka ∧ (estimateDo pm shares s).flash =
      s.flash ∧ (estimateDo pm shares s).journal = s.journal ∧ (estimateDo pm shares s).host = s.host ∧ (estimateDo pm shares
      s).ports = s.ports ∧ (estimateDo pm shares s).pcie = s.pcie ∧ (estimateDo pm shares s).log = s.log ∧ (estimateDo pm
      shares s).foreman = s.foreman ∧ (estimateDo pm shares s).pairs = s.pairs ∧ (estimateDo pm shares s).eopen = s.eopen ∧
      (estimateDo pm shares s).ledger = s.ledger ∧ (estimateDo pm shares s).sched = s.sched ∧ (estimateDo pm shares s).tiles =
      s.tiles ∧ (estimateDo pm shares s).dram = s.dram ∧ (estimateDo pm shares s).assayer = s.assayer ∧ (estimateDo pm shares
      s).fabric = s.fabric ∧ (estimateDo pm shares s).rumbes = s.rumbes := by
  unfold estimateDo; simp [*]
@[simp] theorem govReleases_frame (s : State) :
    (govReleases s).pending = s.pending ∧ (govReleases s).now = s.now ∧ (govReleases s).free = s.free ∧ (govReleases s).out
      = s.out ∧ (govReleases s).ka = s.ka ∧ (govReleases s).flash = s.flash ∧ (govReleases s).journal = s.journal ∧
      (govReleases s).host = s.host ∧ (govReleases s).pcie = s.pcie ∧ (govReleases s).log = s.log ∧ (govReleases s).foreman =
      s.foreman ∧ (govReleases s).pairs = s.pairs ∧ (govReleases s).eopen = s.eopen ∧ (govReleases s).ledger = s.ledger ∧
      (govReleases s).dram = s.dram ∧ (govReleases s).assayer = s.assayer ∧ (govReleases s).fabric = s.fabric ∧ (govReleases
      s).rumbes = s.rumbes := by
  unfold govReleases; simp [*]
@[simp] theorem govDecreases_frame (s : State) :
    (govDecreases s).pending = s.pending ∧ (govDecreases s).now = s.now ∧ (govDecreases s).free = s.free ∧ (govDecreases
      s).out = s.out ∧ (govDecreases s).flash = s.flash ∧ (govDecreases s).journal = s.journal ∧ (govDecreases s).host =
      s.host ∧ (govDecreases s).pcie = s.pcie ∧ (govDecreases s).foreman = s.foreman ∧ (govDecreases s).pairs = s.pairs
      ∧ (govDecreases s).eopen = s.eopen ∧ (govDecreases s).ledger = s.ledger ∧ (govDecreases s).assayer = s.assayer ∧
      (govDecreases s).fabric = s.fabric ∧ (govDecreases s).rumbes = s.rumbes := by
  unfold govDecreases; dsimp only; (repeat' split) <;> simp -implicitDefEqProofs [*]
@[simp] theorem govRaises_frame (s : State) :
    (govRaises s).pending = s.pending ∧ (govRaises s).now = s.now ∧ (govRaises s).free = s.free ∧ (govRaises s).out =
      s.out ∧ (govRaises s).ka = s.ka ∧ (govRaises s).flash = s.flash ∧ (govRaises s).journal = s.journal ∧ (govRaises
      s).host = s.host ∧ (govRaises s).ports = s.ports ∧ (govRaises s).pcie = s.pcie ∧ (govRaises s).log = s.log ∧
      (govRaises s).foreman = s.foreman ∧ (govRaises s).pairs = s.pairs ∧ (govRaises s).eopen = s.eopen ∧ (govRaises
      s).ledger = s.ledger ∧ (govRaises s).dram = s.dram ∧ (govRaises s).assayer = s.assayer ∧ (govRaises s).fabric =
      s.fabric ∧ (govRaises s).rumbes = s.rumbes := by
  unfold govRaises; split <;> simp -implicitDefEqProofs [*]

/-! ### Diag -/

@[simp] theorem faultReadDo_frame (r : Req) (s : State) :
    (faultReadDo r s).pending = s.pending ∧ (faultReadDo r s).now = s.now ∧ (faultReadDo r s).free = s.free ∧ (faultReadDo r
      s).out = s.out ∧ (faultReadDo r s).sys = s.sys ∧ (faultReadDo r s).ka = s.ka ∧ (faultReadDo r s).flash = s.flash ∧
      (faultReadDo r s).journal = s.journal ∧ (faultReadDo r s).host = s.host ∧ (faultReadDo r s).pcie = s.pcie ∧ (faultReadDo
      r s).log = s.log ∧ (faultReadDo r s).foreman = s.foreman ∧ (faultReadDo r s).pairs = s.pairs ∧ (faultReadDo r s).eopen =
      s.eopen ∧ (faultReadDo r s).ledger = s.ledger ∧ (faultReadDo r s).sched = s.sched ∧ (faultReadDo r s).tiles = s.tiles ∧
      (faultReadDo r s).dram = s.dram ∧ (faultReadDo r s).assayer = s.assayer ∧ (faultReadDo r s).fabric = s.fabric ∧
      (faultReadDo r s).rumbes = s.rumbes := by
  unfold faultReadDo; simp [*]
@[simp] theorem logClearDo_frame (r : Req) (s : State) :
    (logClearDo r s).pending = s.pending ∧ (logClearDo r s).now = s.now ∧ (logClearDo r s).out = s.out ∧ (logClearDo r
      s).sys = s.sys ∧ (logClearDo r s).flash = s.flash ∧ (logClearDo r s).journal = s.journal ∧ (logClearDo r s).host =
      s.host ∧ (logClearDo r s).pcie = s.pcie ∧ (logClearDo r s).foreman = s.foreman ∧ (logClearDo r s).pairs = s.pairs ∧
      (logClearDo r s).eopen = s.eopen ∧ (logClearDo r s).ledger = s.ledger ∧ (logClearDo r s).sched = s.sched ∧ (logClearDo r
      s).tiles = s.tiles ∧ (logClearDo r s).dram = s.dram ∧ (logClearDo r s).assayer = s.assayer ∧ (logClearDo r s).fabric =
      s.fabric ∧ (logClearDo r s).rumbes = s.rumbes := by
  unfold logClearDo; simp [*]
@[simp] theorem gessoStatusDo_frame (r : Req) (s : State) :
    (gessoStatusDo r s).pending = s.pending ∧ (gessoStatusDo r s).now = s.now ∧ (gessoStatusDo r s).out = s.out ∧
      (gessoStatusDo r s).sys = s.sys ∧ (gessoStatusDo r s).ka = s.ka ∧ (gessoStatusDo r s).flash = s.flash ∧ (gessoStatusDo r
      s).journal = s.journal ∧ (gessoStatusDo r s).host = s.host ∧ (gessoStatusDo r s).pcie = s.pcie ∧ (gessoStatusDo r s).log
      = s.log ∧ (gessoStatusDo r s).foreman = s.foreman ∧ (gessoStatusDo r s).pairs = s.pairs ∧ (gessoStatusDo r s).eopen =
      s.eopen ∧ (gessoStatusDo r s).ledger = s.ledger ∧ (gessoStatusDo r s).sched = s.sched ∧ (gessoStatusDo r s).tiles =
      s.tiles ∧ (gessoStatusDo r s).dram = s.dram ∧ (gessoStatusDo r s).assayer = s.assayer ∧ (gessoStatusDo r s).fabric =
      s.fabric ∧ (gessoStatusDo r s).rumbes = s.rumbes := by
  unfold gessoStatusDo; simp [*]
@[simp] theorem setMemtestDo_frame (r : Req) (s : State) :
    (setMemtestDo r s).pending = s.pending ∧ (setMemtestDo r s).now = s.now ∧ (setMemtestDo r s).free = s.free ∧
      (setMemtestDo r s).out = s.out ∧ (setMemtestDo r s).sys = s.sys ∧ (setMemtestDo r s).flash = s.flash ∧ (setMemtestDo r
      s).host = s.host ∧ (setMemtestDo r s).pcie = s.pcie ∧ (setMemtestDo r s).log = s.log ∧ (setMemtestDo r s).foreman =
      s.foreman ∧ (setMemtestDo r s).pairs = s.pairs ∧ (setMemtestDo r s).eopen = s.eopen ∧ (setMemtestDo r s).ledger =
      s.ledger ∧ (setMemtestDo r s).sched = s.sched ∧ (setMemtestDo r s).tiles = s.tiles ∧ (setMemtestDo r s).dram = s.dram ∧
      (setMemtestDo r s).assayer = s.assayer ∧ (setMemtestDo r s).fabric = s.fabric ∧ (setMemtestDo r s).rumbes = s.rumbes :=
      by
  unfold setMemtestDo; simp [*]
@[simp] theorem dbgChallengeDo_frame (r : Req) (s : State) :
    (dbgChallengeDo r s).pending = s.pending ∧ (dbgChallengeDo r s).now = s.now ∧ (dbgChallengeDo r s).out = s.out ∧
      (dbgChallengeDo r s).sys = s.sys ∧ (dbgChallengeDo r s).ka = s.ka ∧ (dbgChallengeDo r s).flash = s.flash ∧
      (dbgChallengeDo r s).journal = s.journal ∧ (dbgChallengeDo r s).host = s.host ∧ (dbgChallengeDo r s).pcie = s.pcie ∧
      (dbgChallengeDo r s).log = s.log ∧ (dbgChallengeDo r s).pairs = s.pairs ∧ (dbgChallengeDo r s).eopen = s.eopen ∧
      (dbgChallengeDo r s).ledger = s.ledger ∧ (dbgChallengeDo r s).sched = s.sched ∧ (dbgChallengeDo r s).tiles = s.tiles ∧
      (dbgChallengeDo r s).dram = s.dram ∧ (dbgChallengeDo r s).assayer = s.assayer ∧ (dbgChallengeDo r s).fabric = s.fabric ∧
      (dbgChallengeDo r s).rumbes = s.rumbes := by
  unfold dbgChallengeDo; simp [*]
@[simp] theorem dbgUnlockDo_frame (r : Req) (s : State) :
    (dbgUnlockDo r s).pending = s.pending ∧ (dbgUnlockDo r s).now = s.now ∧ (dbgUnlockDo r s).free = s.free ∧
      (dbgUnlockDo r s).out = s.out ∧ (dbgUnlockDo r s).sys = s.sys ∧ (dbgUnlockDo r s).ka = s.ka ∧ (dbgUnlockDo r
      s).flash = s.flash ∧ (dbgUnlockDo r s).journal = s.journal ∧ (dbgUnlockDo r s).host = s.host ∧ (dbgUnlockDo r
      s).pcie = s.pcie ∧ (dbgUnlockDo r s).log = s.log ∧ (dbgUnlockDo r s).pairs = s.pairs ∧ (dbgUnlockDo r s).eopen =
      s.eopen ∧ (dbgUnlockDo r s).ledger = s.ledger ∧ (dbgUnlockDo r s).sched = s.sched ∧ (dbgUnlockDo r s).tiles =
      s.tiles ∧ (dbgUnlockDo r s).dram = s.dram ∧ (dbgUnlockDo r s).assayer = s.assayer ∧ (dbgUnlockDo r s).fabric =
      s.fabric ∧ (dbgUnlockDo r s).rumbes = s.rumbes := by
  unfold dbgUnlockDo; simp [*]

/-! ### Window -/

@[simp] theorem badAccess_frame (s : State) (port : HostPort) (off : Nat) :
    (badAccess s port off).pending = s.pending ∧ (badAccess s port off).now = s.now ∧ (badAccess s port off).free = s.free ∧
      (badAccess s port off).out = s.out ∧ (badAccess s port off).sys = s.sys ∧ (badAccess s port off).flash = s.flash ∧
      (badAccess s port off).journal = s.journal ∧ (badAccess s port off).host = s.host ∧ (badAccess s port off).pcie = s.pcie
      ∧ (badAccess s port off).foreman = s.foreman ∧ (badAccess s port off).pairs = s.pairs ∧ (badAccess s port off).eopen =
      s.eopen ∧ (badAccess s port off).ledger = s.ledger ∧ (badAccess s port off).sched = s.sched ∧ (badAccess s port
      off).tiles = s.tiles ∧ (badAccess s port off).dram = s.dram ∧ (badAccess s port off).assayer = s.assayer ∧ (badAccess s
      port off).fabric = s.fabric ∧ (badAccess s port off).rumbes = s.rumbes := by
  unfold badAccess; simp [*]
@[simp] theorem resend_frame (s : State) (n : Nat) :
    (resend s n).pending = s.pending ∧ (resend s n).now = s.now ∧ (resend s n).free = s.free ∧ (resend s n).sys = s.sys ∧
      (resend s n).ka = s.ka ∧ (resend s n).flash = s.flash ∧ (resend s n).journal = s.journal ∧ (resend s n).host = s.host ∧
      (resend s n).ports = s.ports ∧ (resend s n).log = s.log ∧ (resend s n).foreman = s.foreman ∧ (resend s n).pairs =
      s.pairs ∧ (resend s n).eopen = s.eopen ∧ (resend s n).ledger = s.ledger ∧ (resend s n).sched = s.sched ∧ (resend s
      n).tiles = s.tiles ∧ (resend s n).dram = s.dram ∧ (resend s n).assayer = s.assayer ∧ (resend s n).fabric = s.fabric ∧
      (resend s n).rumbes = s.rumbes := by
  unfold resend; simp [*]
@[simp] theorem ring_frame (s : State) (n w : Nat) :
    (ring s n w).pending = s.pending ∧ (ring s n w).now = s.now ∧ (ring s n w).free = s.free ∧ (ring s n w).out = s.out ∧
      (ring s n w).sys = s.sys ∧ (ring s n w).ka = s.ka ∧ (ring s n w).flash = s.flash ∧ (ring s n w).journal = s.journal ∧
      (ring s n w).host = s.host ∧ (ring s n w).pcie = s.pcie ∧ (ring s n w).log = s.log ∧ (ring s n w).pairs = s.pairs ∧
      (ring s n w).eopen = s.eopen ∧ (ring s n w).ledger = s.ledger ∧ (ring s n w).sched = s.sched ∧ (ring s n w).tiles =
      s.tiles ∧ (ring s n w).dram = s.dram ∧ (ring s n w).assayer = s.assayer ∧ (ring s n w).fabric = s.fabric ∧ (ring s n
      w).rumbes = s.rumbes := by
  unfold ring; simp [*]
@[simp] theorem dbsClear_frame (s : State) (n w : Nat) :
    (dbsClear s n w).pending = s.pending ∧ (dbsClear s n w).now = s.now ∧ (dbsClear s n w).free = s.free ∧ (dbsClear s n
      w).sys = s.sys ∧ (dbsClear s n w).ka = s.ka ∧ (dbsClear s n w).flash = s.flash ∧ (dbsClear s n w).journal = s.journal ∧
      (dbsClear s n w).host = s.host ∧ (dbsClear s n w).log = s.log ∧ (dbsClear s n w).foreman = s.foreman ∧ (dbsClear s n
      w).pairs = s.pairs ∧ (dbsClear s n w).eopen = s.eopen ∧ (dbsClear s n w).ledger = s.ledger ∧ (dbsClear s n w).sched =
      s.sched ∧ (dbsClear s n w).tiles = s.tiles ∧ (dbsClear s n w).dram = s.dram ∧ (dbsClear s n w).assayer = s.assayer ∧
      (dbsClear s n w).fabric = s.fabric ∧ (dbsClear s n w).rumbes = s.rumbes := by
  unfold dbsClear; simp [*]
@[simp] theorem intClear_frame (s : State) (n w : Nat) :
    (intClear s n w).pending = s.pending ∧ (intClear s n w).now = s.now ∧ (intClear s n w).free = s.free ∧ (intClear s n
      w).sys = s.sys ∧ (intClear s n w).ka = s.ka ∧ (intClear s n w).flash = s.flash ∧ (intClear s n w).journal = s.journal ∧
      (intClear s n w).host = s.host ∧ (intClear s n w).log = s.log ∧ (intClear s n w).foreman = s.foreman ∧ (intClear s n
      w).pairs = s.pairs ∧ (intClear s n w).eopen = s.eopen ∧ (intClear s n w).ledger = s.ledger ∧ (intClear s n w).sched =
      s.sched ∧ (intClear s n w).tiles = s.tiles ∧ (intClear s n w).dram = s.dram ∧ (intClear s n w).assayer = s.assayer ∧
      (intClear s n w).fabric = s.fabric ∧ (intClear s n w).rumbes = s.rumbes := by
  unfold intClear; simp [*]
@[simp] theorem snapClear_frame (s : State) (n w : Nat) :
    (snapClear s n w).pending = s.pending ∧ (snapClear s n w).now = s.now ∧ (snapClear s n w).free = s.free ∧ (snapClear s n
      w).sys = s.sys ∧ (snapClear s n w).ka = s.ka ∧ (snapClear s n w).flash = s.flash ∧ (snapClear s n w).journal = s.journal
      ∧ (snapClear s n w).host = s.host ∧ (snapClear s n w).log = s.log ∧ (snapClear s n w).foreman = s.foreman ∧ (snapClear s
      n w).pairs = s.pairs ∧ (snapClear s n w).eopen = s.eopen ∧ (snapClear s n w).ledger = s.ledger ∧ (snapClear s n w).sched
      = s.sched ∧ (snapClear s n w).tiles = s.tiles ∧ (snapClear s n w).dram = s.dram ∧ (snapClear s n w).assayer = s.assayer
      ∧ (snapClear s n w).fabric = s.fabric ∧ (snapClear s n w).rumbes = s.rumbes := by
  unfold snapClear; simp [*]
@[simp] theorem rdyClear_frame (s : State) (fall high : Bool) (w : Nat) :
    (rdyClear s fall high w).pending = s.pending ∧ (rdyClear s fall high w).now = s.now ∧ (rdyClear s fall high w).free =
      s.free ∧ (rdyClear s fall high w).out = s.out ∧ (rdyClear s fall high w).sys = s.sys ∧ (rdyClear s fall high w).ka =
      s.ka ∧ (rdyClear s fall high w).flash = s.flash ∧ (rdyClear s fall high w).journal = s.journal ∧ (rdyClear s fall high
      w).ports = s.ports ∧ (rdyClear s fall high w).pcie = s.pcie ∧ (rdyClear s fall high w).log = s.log ∧ (rdyClear s fall
      high w).foreman = s.foreman ∧ (rdyClear s fall high w).pairs = s.pairs ∧ (rdyClear s fall high w).eopen = s.eopen ∧
      (rdyClear s fall high w).ledger = s.ledger ∧ (rdyClear s fall high w).sched = s.sched ∧ (rdyClear s fall high w).tiles =
      s.tiles ∧ (rdyClear s fall high w).dram = s.dram ∧ (rdyClear s fall high w).assayer = s.assayer ∧ (rdyClear s fall high
      w).fabric = s.fabric ∧ (rdyClear s fall high w).rumbes = s.rumbes := by
  unfold rdyClear; simp [*]
@[simp] theorem unmask_frame (s : State) (v : Nat) :
    (unmask s v).pending = s.pending ∧ (unmask s v).now = s.now ∧ (unmask s v).free = s.free ∧ (unmask s v).sys = s.sys ∧
      (unmask s v).ka = s.ka ∧ (unmask s v).flash = s.flash ∧ (unmask s v).journal = s.journal ∧ (unmask s v).host = s.host ∧
      (unmask s v).ports = s.ports ∧ (unmask s v).log = s.log ∧ (unmask s v).foreman = s.foreman ∧ (unmask s v).pairs =
      s.pairs ∧ (unmask s v).eopen = s.eopen ∧ (unmask s v).ledger = s.ledger ∧ (unmask s v).sched = s.sched ∧ (unmask s
      v).tiles = s.tiles ∧ (unmask s v).dram = s.dram ∧ (unmask s v).assayer = s.assayer ∧ (unmask s v).fabric = s.fabric ∧
      (unmask s v).rumbes = s.rumbes := by
  unfold unmask; simp [*]
@[simp] theorem msixWrite_frame (s : State) (v i w : Nat) :
    (msixWrite s v i w).pending = s.pending ∧ (msixWrite s v i w).now = s.now ∧ (msixWrite s v i w).free = s.free ∧
      (msixWrite s v i w).sys = s.sys ∧ (msixWrite s v i w).ka = s.ka ∧ (msixWrite s v i w).flash = s.flash ∧ (msixWrite s v i
      w).journal = s.journal ∧ (msixWrite s v i w).host = s.host ∧ (msixWrite s v i w).ports = s.ports ∧ (msixWrite s v i
      w).log = s.log ∧ (msixWrite s v i w).foreman = s.foreman ∧ (msixWrite s v i w).pairs = s.pairs ∧ (msixWrite s v i
      w).eopen = s.eopen ∧ (msixWrite s v i w).ledger = s.ledger ∧ (msixWrite s v i w).sched = s.sched ∧ (msixWrite s v i
      w).tiles = s.tiles ∧ (msixWrite s v i w).dram = s.dram ∧ (msixWrite s v i w).assayer = s.assayer ∧ (msixWrite s v i
      w).fabric = s.fabric ∧ (msixWrite s v i w).rumbes = s.rumbes := by
  unfold msixWrite; simp [*]
@[simp] theorem regWrite_frame (s : State) (port : HostPort) (off w : Nat) :
    (regWrite s port off w).pending = s.pending ∧ (regWrite s port off w).now = s.now ∧ (regWrite s port off w).free =
      s.free ∧ (regWrite s port off w).sys = s.sys ∧ (regWrite s port off w).ka = s.ka ∧ (regWrite s port off w).flash =
      s.flash ∧ (regWrite s port off w).journal = s.journal ∧ (regWrite s port off w).log = s.log ∧ (regWrite s port off
      w).pairs = s.pairs ∧ (regWrite s port off w).eopen = s.eopen ∧ (regWrite s port off w).ledger = s.ledger ∧ (regWrite s
      port off w).sched = s.sched ∧ (regWrite s port off w).tiles = s.tiles ∧ (regWrite s port off w).dram = s.dram ∧
      (regWrite s port off w).assayer = s.assayer ∧ (regWrite s port off w).fabric = s.fabric ∧ (regWrite s port off w).rumbes
      = s.rumbes := by
  unfold regWrite; simp [*]
@[simp] theorem blockWrite_frame (s : State) (off : Nat) (b : List (Bool × Byte)) :
    (blockWrite s off b).pending = s.pending ∧ (blockWrite s off b).now = s.now ∧ (blockWrite s off b).free = s.free ∧
      (blockWrite s off b).out = s.out ∧ (blockWrite s off b).sys = s.sys ∧ (blockWrite s off b).ka = s.ka ∧ (blockWrite s off
      b).flash = s.flash ∧ (blockWrite s off b).journal = s.journal ∧ (blockWrite s off b).host = s.host ∧ (blockWrite s off
      b).pcie = s.pcie ∧ (blockWrite s off b).log = s.log ∧ (blockWrite s off b).foreman = s.foreman ∧ (blockWrite s off
      b).pairs = s.pairs ∧ (blockWrite s off b).eopen = s.eopen ∧ (blockWrite s off b).ledger = s.ledger ∧ (blockWrite s off
      b).sched = s.sched ∧ (blockWrite s off b).tiles = s.tiles ∧ (blockWrite s off b).dram = s.dram ∧ (blockWrite s off
      b).assayer = s.assayer ∧ (blockWrite s off b).fabric = s.fabric ∧ (blockWrite s off b).rumbes = s.rumbes := by
  unfold blockWrite; simp [*]
@[simp] theorem winWrite_frame (s : State) (port : HostPort) (off : Nat) (b : List (Bool × Byte)) :
    (winWrite s port off b).pending = s.pending ∧ (winWrite s port off b).now = s.now ∧ (winWrite s port off b).free =
      s.free ∧ (winWrite s port off b).sys = s.sys ∧ (winWrite s port off b).ka = s.ka ∧ (winWrite s port off b).flash =
      s.flash ∧ (winWrite s port off b).journal = s.journal ∧ (winWrite s port off b).log = s.log ∧ (winWrite s port off
      b).pairs = s.pairs ∧ (winWrite s port off b).eopen = s.eopen ∧ (winWrite s port off b).ledger = s.ledger ∧ (winWrite s
      port off b).sched = s.sched ∧ (winWrite s port off b).tiles = s.tiles ∧ (winWrite s port off b).dram = s.dram ∧
      (winWrite s port off b).assayer = s.assayer ∧ (winWrite s port off b).fabric = s.fabric ∧ (winWrite s port off b).rumbes
      = s.rumbes := by
  unfold winWrite; simp [*]

/-! ### HostRows -/

@[simp] theorem armReset_frame (s : State) (n : Nat) (m : Msg) :
    (armReset s n m).pending = s.pending ∧ (armReset s n m).now = s.now ∧ (armReset s n m).free = s.free ∧ (armReset s n
      m).out = s.out ∧ (armReset s n m).sys = s.sys ∧ (armReset s n m).ka = s.ka ∧ (armReset s n m).flash = s.flash ∧
      (armReset s n m).journal = s.journal ∧ (armReset s n m).host = s.host ∧ (armReset s n m).ports = s.ports ∧ (armReset s n
      m).pcie = s.pcie ∧ (armReset s n m).log = s.log ∧ (armReset s n m).pairs = s.pairs ∧ (armReset s n m).eopen = s.eopen ∧
      (armReset s n m).ledger = s.ledger ∧ (armReset s n m).sched = s.sched ∧ (armReset s n m).tiles = s.tiles ∧ (armReset s n
      m).dram = s.dram ∧ (armReset s n m).assayer = s.assayer ∧ (armReset s n m).fabric = s.fabric ∧ (armReset s n m).rumbes =
      s.rumbes := by
  unfold armReset; simp [*]
@[simp] theorem deliver_frame (s : State) (n : Nat) :
    (deliver s n).pending = s.pending ∧ (deliver s n).now = s.now ∧ (deliver s n).free = s.free ∧ (deliver s n).out = s.out
      ∧ (deliver s n).sys = s.sys ∧ (deliver s n).ka = s.ka ∧ (deliver s n).flash = s.flash ∧ (deliver s n).journal =
      s.journal ∧ (deliver s n).host = s.host ∧ (deliver s n).pcie = s.pcie ∧ (deliver s n).log = s.log ∧ (deliver s n).pairs
      = s.pairs ∧ (deliver s n).eopen = s.eopen ∧ (deliver s n).ledger = s.ledger ∧ (deliver s n).sched = s.sched ∧ (deliver s
      n).tiles = s.tiles ∧ (deliver s n).dram = s.dram ∧ (deliver s n).assayer = s.assayer ∧ (deliver s n).fabric = s.fabric ∧
      (deliver s n).rumbes = s.rumbes := by
  unfold deliver; simp [*] <;> (repeat' split) <;> simp [*]
@[simp] theorem endpointReset_frame (_u : ConvReset) (s : State) :
    (endpointReset _u s).pending = s.pending ∧ (endpointReset _u s).now = s.now ∧ (endpointReset _u s).free = s.free ∧
      (endpointReset _u s).out = s.out ∧ (endpointReset _u s).sys = s.sys ∧ (endpointReset _u s).ka = s.ka ∧ (endpointReset _u
      s).flash = s.flash ∧ (endpointReset _u s).journal = s.journal ∧ (endpointReset _u s).host = s.host ∧ (endpointReset _u
      s).ports = s.ports ∧ (endpointReset _u s).log = s.log ∧ (endpointReset _u s).foreman = s.foreman ∧ (endpointReset _u
      s).pairs = s.pairs ∧ (endpointReset _u s).eopen = s.eopen ∧ (endpointReset _u s).ledger = s.ledger ∧ (endpointReset _u
      s).sched = s.sched ∧ (endpointReset _u s).tiles = s.tiles ∧ (endpointReset _u s).dram = s.dram ∧ (endpointReset _u
      s).assayer = s.assayer ∧ (endpointReset _u s).fabric = s.fabric ∧ (endpointReset _u s).rumbes = s.rumbes := by
  unfold endpointReset; simp [*]
@[simp] theorem flr_frame (s : State) :
    (flr s).pending = s.pending ∧ (flr s).now = s.now ∧ (flr s).free = s.free ∧ (flr s).out = s.out ∧ (flr s).ka = s.ka ∧
      (flr s).flash = s.flash ∧ (flr s).log = s.log ∧ (flr s).eopen = s.eopen ∧ (flr s).ledger = s.ledger ∧ (flr s).tiles =
      s.tiles ∧ (flr s).dram = s.dram ∧ (flr s).assayer = s.assayer ∧ (flr s).fabric = s.fabric ∧ (flr s).rumbes = s.rumbes :=
      by
  unfold flr; simp [*]
@[simp] theorem d0Return_frame (s : State) :
    (d0Return s).pending = s.pending ∧ (d0Return s).now = s.now ∧ (d0Return s).free = s.free ∧ (d0Return s).sys = s.sys ∧
      (d0Return s).ka = s.ka ∧ (d0Return s).flash = s.flash ∧ (d0Return s).journal = s.journal ∧ (d0Return s).host = s.host ∧
      (d0Return s).ports = s.ports ∧ (d0Return s).log = s.log ∧ (d0Return s).foreman = s.foreman ∧ (d0Return s).pairs =
      s.pairs ∧ (d0Return s).eopen = s.eopen ∧ (d0Return s).ledger = s.ledger ∧ (d0Return s).sched = s.sched ∧ (d0Return
      s).tiles = s.tiles ∧ (d0Return s).dram = s.dram ∧ (d0Return s).assayer = s.assayer ∧ (d0Return s).fabric = s.fabric ∧
      (d0Return s).rumbes = s.rumbes := by
  unfold d0Return; simp [*]
@[simp] theorem configDo_frame (c : ConfigReq) (s : State) :
    (configDo c s).pending = s.pending ∧ (configDo c s).now = s.now ∧ (configDo c s).sys = s.sys ∧ (configDo c s).ka = s.ka
      ∧ (configDo c s).flash = s.flash ∧ (configDo c s).journal = s.journal ∧ (configDo c s).host = s.host ∧ (configDo c
      s).ports = s.ports ∧ (configDo c s).log = s.log ∧ (configDo c s).foreman = s.foreman ∧ (configDo c s).pairs = s.pairs ∧
      (configDo c s).eopen = s.eopen ∧ (configDo c s).ledger = s.ledger ∧ (configDo c s).sched = s.sched ∧ (configDo c
      s).tiles = s.tiles ∧ (configDo c s).dram = s.dram ∧ (configDo c s).assayer = s.assayer ∧ (configDo c s).fabric =
      s.fabric ∧ (configDo c s).rumbes = s.rumbes := by
  unfold configDo; split <;> simp [*]
@[simp] theorem configRequest_frame (c : ConfigReq) (s : State) :
    (configRequest c s).pending = s.pending ∧ (configRequest c s).now = s.now ∧ (configRequest c s).sys = s.sys ∧
      (configRequest c s).ka = s.ka ∧ (configRequest c s).flash = s.flash ∧ (configRequest c s).journal = s.journal ∧
      (configRequest c s).host = s.host ∧ (configRequest c s).ports = s.ports ∧ (configRequest c s).log = s.log ∧
      (configRequest c s).foreman = s.foreman ∧ (configRequest c s).pairs = s.pairs ∧ (configRequest c s).eopen = s.eopen ∧
      (configRequest c s).ledger = s.ledger ∧ (configRequest c s).sched = s.sched ∧ (configRequest c s).tiles = s.tiles ∧
      (configRequest c s).dram = s.dram ∧ (configRequest c s).assayer = s.assayer ∧ (configRequest c s).fabric = s.fabric ∧
      (configRequest c s).rumbes = s.rumbes := by
  unfold configRequest; simp [*]
@[simp] theorem windowReadDo_frame (port : HostPort) (off len : Nat) (s : State) :
    (windowReadDo port off len s).pending = s.pending ∧ (windowReadDo port off len s).now = s.now ∧ (windowReadDo port off
      len s).free = s.free ∧ (windowReadDo port off len s).sys = s.sys ∧ (windowReadDo port off len s).flash = s.flash ∧
      (windowReadDo port off len s).journal = s.journal ∧ (windowReadDo port off len s).host = s.host ∧ (windowReadDo port off
      len s).pcie = s.pcie ∧ (windowReadDo port off len s).foreman = s.foreman ∧ (windowReadDo port off len s).pairs = s.pairs
      ∧ (windowReadDo port off len s).eopen = s.eopen ∧ (windowReadDo port off len s).ledger = s.ledger ∧ (windowReadDo port
      off len s).sched = s.sched ∧ (windowReadDo port off len s).tiles = s.tiles ∧ (windowReadDo port off len s).dram = s.dram
      ∧ (windowReadDo port off len s).assayer = s.assayer ∧ (windowReadDo port off len s).fabric = s.fabric ∧ (windowReadDo
      port off len s).rumbes = s.rumbes := by
  unfold windowReadDo; simp [*]
@[simp] theorem registerWriteDo_frame (w : WinWrite) (s : State) :
    (registerWriteDo w s).pending = s.pending ∧ (registerWriteDo w s).now = s.now ∧ (registerWriteDo w s).free = s.free ∧
      (registerWriteDo w s).sys = s.sys ∧ (registerWriteDo w s).flash = s.flash ∧ (registerWriteDo w s).journal = s.journal ∧
      (registerWriteDo w s).pairs = s.pairs ∧ (registerWriteDo w s).eopen = s.eopen ∧ (registerWriteDo w s).ledger = s.ledger
      ∧ (registerWriteDo w s).sched = s.sched ∧ (registerWriteDo w s).tiles = s.tiles ∧ (registerWriteDo w s).dram = s.dram ∧
      (registerWriteDo w s).assayer = s.assayer ∧ (registerWriteDo w s).fabric = s.fabric ∧ (registerWriteDo w s).rumbes =
      s.rumbes := by
  unfold registerWriteDo; simp [*]
@[simp] theorem stray_frame (s : State) (off : Nat) :
    (stray s off).pending = s.pending ∧ (stray s off).now = s.now ∧ (stray s off).free = s.free ∧ (stray s off).out = s.out
      ∧ (stray s off).sys = s.sys ∧ (stray s off).flash = s.flash ∧ (stray s off).journal = s.journal ∧ (stray s off).host =
      s.host ∧ (stray s off).pcie = s.pcie ∧ (stray s off).foreman = s.foreman ∧ (stray s off).pairs = s.pairs ∧ (stray s
      off).eopen = s.eopen ∧ (stray s off).ledger = s.ledger ∧ (stray s off).sched = s.sched ∧ (stray s off).tiles = s.tiles ∧
      (stray s off).dram = s.dram ∧ (stray s off).assayer = s.assayer ∧ (stray s off).fabric = s.fabric ∧ (stray s off).rumbes
      = s.rumbes := by
  unfold stray; simp [*]
@[simp] theorem touchJobs_frame (s : State) (tenant ofs n : Nat) :
    (touchJobs s tenant ofs n).pending = s.pending ∧ (touchJobs s tenant ofs n).now = s.now ∧ (touchJobs s tenant ofs
      n).free = s.free ∧ (touchJobs s tenant ofs n).out = s.out ∧ (touchJobs s tenant ofs n).sys = s.sys ∧ (touchJobs s tenant
      ofs n).ka = s.ka ∧ (touchJobs s tenant ofs n).flash = s.flash ∧ (touchJobs s tenant ofs n).journal = s.journal ∧
      (touchJobs s tenant ofs n).host = s.host ∧ (touchJobs s tenant ofs n).pcie = s.pcie ∧ (touchJobs s tenant ofs n).log =
      s.log ∧ (touchJobs s tenant ofs n).foreman = s.foreman ∧ (touchJobs s tenant ofs n).pairs = s.pairs ∧ (touchJobs s
      tenant ofs n).eopen = s.eopen ∧ (touchJobs s tenant ofs n).ledger = s.ledger ∧ (touchJobs s tenant ofs n).tiles =
      s.tiles ∧ (touchJobs s tenant ofs n).dram = s.dram ∧ (touchJobs s tenant ofs n).assayer = s.assayer ∧ (touchJobs s
      tenant ofs n).fabric = s.fabric ∧ (touchJobs s tenant ofs n).rumbes = s.rumbes := by
  refine ⟨?_, ?_, ?_, ?_, ?_, ?_, ?_, ?_, ?_, ?_, ?_, ?_, ?_, ?_, ?_, ?_, ?_, ?_, ?_, ?_⟩
  · unfold touchJobs; exact (foldl_pending _ _ _ (fun s x => by (repeat' split) <;> simp)).trans (by simp)
  · unfold touchJobs; exact (foldl_now _ _ _ (fun s x => by (repeat' split) <;> simp)).trans (by simp)
  · unfold touchJobs; exact (foldl_free _ _ _ (fun s x => by (repeat' split) <;> simp)).trans (by simp)
  · unfold touchJobs; exact (foldl_out _ _ _ (fun s x => by (repeat' split) <;> simp)).trans (by simp)
  · unfold touchJobs; exact (foldl_sys _ _ _ (fun s x => by (repeat' split) <;> simp)).trans (by simp)
  · unfold touchJobs; exact (foldl_ka _ _ _ (fun s x => by (repeat' split) <;> simp)).trans (by simp)
  · unfold touchJobs; exact (foldl_flash _ _ _ (fun s x => by (repeat' split) <;> simp)).trans (by simp)
  · unfold touchJobs; exact (foldl_journal _ _ _ (fun s x => by (repeat' split) <;> simp)).trans (by simp)
  · unfold touchJobs; exact (foldl_host _ _ _ (fun s x => by (repeat' split) <;> simp)).trans (by simp)
  · unfold touchJobs; exact (foldl_pcie _ _ _ (fun s x => by (repeat' split) <;> simp)).trans (by simp)
  · unfold touchJobs; exact (foldl_log _ _ _ (fun s x => by (repeat' split) <;> simp)).trans (by simp)
  · unfold touchJobs; exact (foldl_foreman _ _ _ (fun s x => by (repeat' split) <;> simp)).trans (by simp)
  · unfold touchJobs; exact (foldl_pairs _ _ _ (fun s x => by (repeat' split) <;> simp)).trans (by simp)
  · unfold touchJobs; exact (foldl_eopen _ _ _ (fun s x => by (repeat' split) <;> simp)).trans (by simp)
  · unfold touchJobs; exact (foldl_ledger _ _ _ (fun s x => by (repeat' split) <;> simp)).trans (by simp)
  · unfold touchJobs; exact (foldl_tiles _ _ _ (fun s x => by (repeat' split) <;> simp)).trans (by simp)
  · unfold touchJobs; exact (foldl_dram _ _ _ (fun s x => by (repeat' split) <;> simp)).trans (by simp)
  · unfold touchJobs; exact (foldl_assayer _ _ _ (fun s x => by (repeat' split) <;> simp)).trans (by simp)
  · unfold touchJobs; exact (foldl_fabric _ _ _ (fun s x => by (repeat' split) <;> simp)).trans (by simp)
  · unfold touchJobs; exact (foldl_rumbes _ _ _ (fun s x => by (repeat' split) <;> simp)).trans (by simp)
@[simp] theorem datasetWrite_frame (s : State) (off : Nat) (data : List Byte) :
    (datasetWrite s off data).pending = s.pending ∧ (datasetWrite s off data).now = s.now ∧ (datasetWrite s off data).free =
      s.free ∧ (datasetWrite s off data).out = s.out ∧ (datasetWrite s off data).sys = s.sys ∧ (datasetWrite s off data).flash
      = s.flash ∧ (datasetWrite s off data).journal = s.journal ∧ (datasetWrite s off data).host = s.host ∧ (datasetWrite s
      off data).pcie = s.pcie ∧ (datasetWrite s off data).foreman = s.foreman ∧ (datasetWrite s off data).pairs = s.pairs ∧
      (datasetWrite s off data).eopen = s.eopen ∧ (datasetWrite s off data).ledger = s.ledger ∧ (datasetWrite s off
      data).tiles = s.tiles ∧ (datasetWrite s off data).assayer = s.assayer ∧ (datasetWrite s off data).fabric = s.fabric ∧
      (datasetWrite s off data).rumbes = s.rumbes := by
  unfold datasetWrite; split <;> simp [*]
@[simp] theorem datasetFetch_frame (s : State) (off n : Nat) :
    (datasetFetch s off n).2.pending = s.pending ∧ (datasetFetch s off n).2.now = s.now ∧ (datasetFetch s off n).2.free =
      s.free ∧ (datasetFetch s off n).2.out = s.out ∧ (datasetFetch s off n).2.sys = s.sys ∧ (datasetFetch s off n).2.flash =
      s.flash ∧ (datasetFetch s off n).2.journal = s.journal ∧ (datasetFetch s off n).2.host = s.host ∧ (datasetFetch s off
      n).2.pcie = s.pcie ∧ (datasetFetch s off n).2.foreman = s.foreman ∧ (datasetFetch s off n).2.pairs = s.pairs ∧
      (datasetFetch s off n).2.eopen = s.eopen ∧ (datasetFetch s off n).2.ledger = s.ledger ∧ (datasetFetch s off n).2.sched =
      s.sched ∧ (datasetFetch s off n).2.tiles = s.tiles ∧ (datasetFetch s off n).2.dram = s.dram ∧ (datasetFetch s off
      n).2.assayer = s.assayer ∧ (datasetFetch s off n).2.fabric = s.fabric ∧ (datasetFetch s off n).2.rumbes = s.rumbes := by
  unfold datasetFetch; split <;> simp [*]
@[simp] theorem bar2WriteDo_frame (off : Nat) (data : List Byte) (s : State) :
    (bar2WriteDo off data s).pending = s.pending ∧ (bar2WriteDo off data s).now = s.now ∧ (bar2WriteDo off data s).free =
      s.free ∧ (bar2WriteDo off data s).sys = s.sys ∧ (bar2WriteDo off data s).flash = s.flash ∧ (bar2WriteDo off data
      s).journal = s.journal ∧ (bar2WriteDo off data s).host = s.host ∧ (bar2WriteDo off data s).pcie = s.pcie ∧ (bar2WriteDo
      off data s).foreman = s.foreman ∧ (bar2WriteDo off data s).pairs = s.pairs ∧ (bar2WriteDo off data s).eopen = s.eopen ∧
      (bar2WriteDo off data s).ledger = s.ledger ∧ (bar2WriteDo off data s).tiles = s.tiles ∧ (bar2WriteDo off data s).assayer
      = s.assayer ∧ (bar2WriteDo off data s).fabric = s.fabric ∧ (bar2WriteDo off data s).rumbes = s.rumbes := by
  unfold bar2WriteDo; simp [*]
@[simp] theorem bar2ReadDo_frame (off len : Nat) (s : State) :
    (bar2ReadDo off len s).pending = s.pending ∧ (bar2ReadDo off len s).now = s.now ∧ (bar2ReadDo off len s).free = s.free ∧
      (bar2ReadDo off len s).sys = s.sys ∧ (bar2ReadDo off len s).flash = s.flash ∧ (bar2ReadDo off len s).journal = s.journal
      ∧ (bar2ReadDo off len s).host = s.host ∧ (bar2ReadDo off len s).pcie = s.pcie ∧ (bar2ReadDo off len s).foreman =
      s.foreman ∧ (bar2ReadDo off len s).pairs = s.pairs ∧ (bar2ReadDo off len s).eopen = s.eopen ∧ (bar2ReadDo off len
      s).ledger = s.ledger ∧ (bar2ReadDo off len s).sched = s.sched ∧ (bar2ReadDo off len s).tiles = s.tiles ∧ (bar2ReadDo off
      len s).dram = s.dram ∧ (bar2ReadDo off len s).assayer = s.assayer ∧ (bar2ReadDo off len s).fabric = s.fabric ∧
      (bar2ReadDo off len s).rumbes = s.rumbes := by
  unfold bar2ReadDo; simp [*]
@[simp] theorem shpNak_frame (s : State) (f : ShpFrame) :
    (shpNak s f).pending = s.pending ∧ (shpNak s f).now = s.now ∧ (shpNak s f).free = s.free ∧ (shpNak s f).sys = s.sys ∧
      (shpNak s f).flash = s.flash ∧ (shpNak s f).journal = s.journal ∧ (shpNak s f).host = s.host ∧ (shpNak s f).pcie =
      s.pcie ∧ (shpNak s f).foreman = s.foreman ∧ (shpNak s f).pairs = s.pairs ∧ (shpNak s f).eopen = s.eopen ∧ (shpNak s
      f).ledger = s.ledger ∧ (shpNak s f).sched = s.sched ∧ (shpNak s f).tiles = s.tiles ∧ (shpNak s f).dram = s.dram ∧
      (shpNak s f).assayer = s.assayer ∧ (shpNak s f).fabric = s.fabric ∧ (shpNak s f).rumbes = s.rumbes := by
  unfold shpNak; simp [*]
@[simp] theorem shpPut_frame (f : ShpFrame) (s : State) :
    (shpPut f s).pending = s.pending ∧ (shpPut f s).now = s.now ∧ (shpPut f s).free = s.free ∧ (shpPut f s).sys = s.sys
      ∧ (shpPut f s).flash = s.flash ∧ (shpPut f s).journal = s.journal ∧ (shpPut f s).pairs = s.pairs ∧ (shpPut f
      s).eopen = s.eopen ∧ (shpPut f s).ledger = s.ledger ∧ (shpPut f s).tiles = s.tiles ∧ (shpPut f s).assayer =
      s.assayer ∧ (shpPut f s).fabric = s.fabric ∧ (shpPut f s).rumbes = s.rumbes := by
  unfold shpPut; simp -implicitDefEqProofs [*]
@[simp] theorem shpGet_frame (f : ShpFrame) (s : State) :
    (shpGet f s).pending = s.pending ∧ (shpGet f s).now = s.now ∧ (shpGet f s).free = s.free ∧ (shpGet f s).sys = s.sys
      ∧ (shpGet f s).flash = s.flash ∧ (shpGet f s).journal = s.journal ∧ (shpGet f s).host = s.host ∧ (shpGet f s).pcie
      = s.pcie ∧ (shpGet f s).foreman = s.foreman ∧ (shpGet f s).pairs = s.pairs ∧ (shpGet f s).eopen = s.eopen ∧
      (shpGet f s).ledger = s.ledger ∧ (shpGet f s).sched = s.sched ∧ (shpGet f s).tiles = s.tiles ∧ (shpGet f s).dram =
      s.dram ∧ (shpGet f s).assayer = s.assayer ∧ (shpGet f s).fabric = s.fabric ∧ (shpGet f s).rumbes = s.rumbes := by
  unfold shpGet; simp -implicitDefEqProofs [*]
@[simp] theorem shpDo_frame (f : ShpFrame) (s : State) :
    (shpDo f s).pending = s.pending ∧ (shpDo f s).now = s.now ∧ (shpDo f s).free = s.free ∧ (shpDo f s).sys = s.sys ∧ (shpDo
      f s).flash = s.flash ∧ (shpDo f s).journal = s.journal ∧ (shpDo f s).pairs = s.pairs ∧ (shpDo f s).eopen = s.eopen ∧
      (shpDo f s).ledger = s.ledger ∧ (shpDo f s).tiles = s.tiles ∧ (shpDo f s).assayer = s.assayer ∧ (shpDo f s).fabric =
      s.fabric ∧ (shpDo f s).rumbes = s.rumbes := by
  unfold shpDo; simp [*]

/-! ### TileArms -/

@[simp] theorem drawDo_frame (tile : Nat) (ecc : Ecc) (s : State) :
    (drawDo tile ecc s).pending = s.pending ∧ (drawDo tile ecc s).now = s.now ∧ (drawDo tile ecc s).flash = s.flash ∧
      (drawDo tile ecc s).journal = s.journal ∧ (drawDo tile ecc s).host = s.host ∧ (drawDo tile ecc s).pcie = s.pcie ∧
      (drawDo tile ecc s).foreman = s.foreman ∧ (drawDo tile ecc s).pairs = s.pairs ∧ (drawDo tile ecc s).eopen =
      s.eopen ∧ (drawDo tile ecc s).ledger = s.ledger ∧ (drawDo tile ecc s).assayer = s.assayer ∧ (drawDo tile ecc
      s).fabric = s.fabric ∧ (drawDo tile ecc s).rumbes = s.rumbes := by
  unfold drawDo; (repeat' split) <;> simp -implicitDefEqProofs [*]

/-! ### Step -/

@[simp] theorem State.withFetchWord_frame (s : State) (nbits w : Nat) :
    (State.withFetchWord s nbits w).now = s.now ∧ (State.withFetchWord s nbits w).free = s.free ∧ (State.withFetchWord s
      nbits w).out = s.out ∧ (State.withFetchWord s nbits w).sys = s.sys ∧ (State.withFetchWord s nbits w).ka = s.ka ∧
      (State.withFetchWord s nbits w).flash = s.flash ∧ (State.withFetchWord s nbits w).journal = s.journal ∧
      (State.withFetchWord s nbits w).host = s.host ∧ (State.withFetchWord s nbits w).ports = s.ports ∧
      (State.withFetchWord s nbits w).pcie = s.pcie ∧ (State.withFetchWord s nbits w).log = s.log ∧ (State.withFetchWord
      s nbits w).foreman = s.foreman ∧ (State.withFetchWord s nbits w).pairs = s.pairs ∧ (State.withFetchWord s nbits
      w).eopen = s.eopen ∧ (State.withFetchWord s nbits w).ledger = s.ledger ∧ (State.withFetchWord s nbits w).sched =
      s.sched ∧ (State.withFetchWord s nbits w).tiles = s.tiles ∧ (State.withFetchWord s nbits w).dram = s.dram ∧
      (State.withFetchWord s nbits w).assayer = s.assayer ∧ (State.withFetchWord s nbits w).fabric = s.fabric ∧
      (State.withFetchWord s nbits w).rumbes = s.rumbes := by
  unfold State.withFetchWord; split <;> simp -implicitDefEqProofs [*]

end Sys2Proof.Machine
end

