-- ==== Sys2Proof/Tests/Slice0.lean ====
section
/-! SUPPORT. The model's own tests: what is not well formed is refused, a state that meets the hypotheses of each statement, and
single steps whose results the spec's tables and worked examples give. -/

set_option Elab.async false

namespace Sys2Proof.Tests
open Sys2Proof Sys2Proof.Machine

/-! ### Well-formedness: one ill-formed term for each check -/

theorem test_wf_power_good_reads : (Instr.powerGoodRise 0 []).wf = false := by decide
theorem test_wf_thermal_sensors : (Instr.thermalSample 0 [300]).wf = false := by decide
theorem test_wf_gov_shares : (Instr.govEstimate 0 0 [1, 2]).wf = false := by decide
theorem test_wf_memtest_row : (Instr.memtestRegionDone 0 0 0 { rows := [(16, 0)] }).wf = false := by decide
theorem test_wf_memtest_spare : (Instr.memtestRegionDone 0 0 0 { spareBad := [256] }).wf = false := by decide
theorem test_wf_line : lineWf (List.replicate 9601 .h) = false := by
  rw [lineWf, List.length_replicate]; rfl
theorem test_wf_record_line : (Instr.record 0 ⟨0, 0⟩ (List.replicate 9601 .h)).wf = false := test_wf_line
theorem test_wf_rumbe_line : (Instr.regRead 0 ⟨0, 0⟩ { line := List.replicate 9601 .h }).wf = false := test_wf_line
theorem test_wf_urgent_line : (Instr.eopen 0 ⟨0, 0⟩ { line := List.replicate 9601 .h }).wf = false := test_wf_line
theorem test_wf_readings : (Instr.sweepCommit 0 ⟨0, 0⟩ { cells := [], th := [] }).wf = false := by decide
theorem test_wf_lanes : (Instr.linkAlignEvaluate 0 0 0 0 [none]).wf = false := by decide
theorem test_wf_fabric_frame : (Instr.neigh 0 0 (List.replicate 65560 0#8)).wf = false := by
  rw [Instr.wf, fabWf, List.length_replicate]; rfl
theorem test_wf_host_write : (Instr.registerWrite 0 { off := 0, data := [] }).wf = false := by decide
theorem test_wf_bulk_write : (Instr.bar2Write 0 0 []).wf = false := by decide
theorem test_wf_bulk_read : (Instr.bar2Read 0 0 257).wf = false := by decide
theorem test_wf_window_read : (Instr.windowRead 0 .pcie 0 4097).wf = false := by decide
theorem test_wf_shp_data : (Instr.shpWrite 0 { hcrc := 0, data := List.replicate 257 0#8 }).wf = false := by decide +kernel

/-! ### One Rumbe and what reaches it -/

/-- The first member of pair 0. -/
def dev : Dev := ⟨0, 0⟩
/-- The state after reset with that member as given. -/
def withRumbe (r : Rumbe) : State := { State.reset with rumbes := [(0, r)] }
/-- That member at time t, once what had fallen due is done. -/
def member (r : Rumbe) (t : Nat) : Rumbe := (turn (withRumbe r) t dev).r
/-- A frame of type `type` from Broros for the member of address 1, as its chips. -/
def frame (type : Nat) (pl : List Byte) : Rx :=
  { line := ({ type := type, dir := false, addr := 1, payload := pl } : Frame).chips }
/-- A frame of type `type` for every member. -/
def cast (type : Nat) (pl : List Byte) : Rx :=
  { line := ({ type := type, dir := false, addr := 0x3F, payload := pl } : Frame).chips }
/-- A command of type `type` for the member, enumerated as 1. -/
def asked (r : Rumbe) (type : Nat) (pl : List Byte) : Bool :=
  commanded (withRumbe { r with devId := 1 }) 0 dev (frame type pl) type && ((frame type pl).payload == pl)
/-- A broadcast frame heard by the member. -/
def told (r : Rumbe) (type : Nat) (pl : List Byte) : Bool :=
  hears (withRumbe r) 0 dev (cast type pl) type && broadcast (cast type pl) && ((cast type pl).payload == pl)
/-- The member once it has heard that command. -/
def after (r : Rumbe) (type : Nat) (pl : List Byte) : Rumbe := (heard (withRumbe { r with devId := 1 }) 0 dev (frame type pl) id).r

/-! ### States that meet the hypotheses of the statements about a Rumbe -/

theorem witness_RumbePowerSteps :
    (member { softAt := some 7 } 7).softAt = some 7 ∧ (member { softAt := some 7 } 7).portN.repUntil ≤ 7
    ∧ passingOn (member { softAt := some 7 } 7).portN 7 = false ∧ passingOn (member { softAt := some 7 } 7).portS 7 = false
    ∧ (let r := member { tComm := 1 } 11400000
       r.asleep = false ∧ r.sleepAt = none ∧ r.commAt + r.tComm * 11400000 ≤ 11400000)
    ∧ (let r := member { sleepAt := some 4800 } 4800
       r.sleepAt = some 4800 ∧ r.sweep = none ∧ r.trig = none)
    ∧ (let r := member { asleep := true } 0
       r.asleep = true ∧ r.wakeAt = none ∧ (portOf r .s).cut = false)
    ∧ (member { asleep := true, wakeAt := some 1 } 144001).wakeAt = some 1
    ∧ ((withRumbe { asleep := true }).rumbe dev).asleep = true := by decide +kernel

theorem witness_RumbeSweepFramesAndSteps :
    told {} 1 [1#8, 0#8] = true
    ∧ (let x := cast 1 [1#8, 0#8]
       let r := (heard (withRumbe {}) 0 dev x id).r
       r.sweep = none ∧ r.trig = none ∧ r.lastStart = none
       ∧ (heard (withRumbe { trig := some { seq := 3, start := 9000 } }) 0 dev x id).r.trig.isSome = true)
    ∧ (let x : Rx := { line := ({ type := 2, dir := false, pos := true, addr := 32, payload := [1#8, 0#8] } : Frame).chips }
       hears (withRumbe {}) 0 dev x 2 = true ∧ x.pos = true ∧ x.addr = 32 ∧ x.payload.length = 2
       ∧ (heard (withRumbe {}) 0 dev x id).r.trig = none
       ∧ (heard (withRumbe { sweep := some { seq := 3, start := 0 } }) 0 dev x id).r.sweep.isSome = true)
    ∧ told {} 3 [1#8, 0#8, 0#8] = true ∧ lineLen (cast 3 [1#8, 0#8, 0#8]).line = 3 ∧ asked {} 5 [1#8, 0#8] = true
    ∧ told {} 9 [32#8] = true ∧ ((withRumbe {}).rumbe dev).devId = 0 ∧ told {} 0 [] = true ∧ told {} 13 [] = true
    ∧ (let r := member { trig := some { seq := 3, start := 5 } } 0
       r.asleep = false ∧ r.trig = some { seq := 3, start := 5 })
    ∧ (member { sweep := some { seq := 3, start := 0 } } 5512).sweep = some { seq := 3, start := 0 }
    ∧ (member { bal := { holdUntil := some 138 } } 100).bal.holdUntil = some 138
    ∧ (let r := (withRumbe { due := [.clear 17 .uv, .modid 4] }).rumbe dev
       RDue.clear (17 : Fin 18).val .uv ∈ r.due ∧ RDue.modid 4 ∈ r.due ∧ ∀ x, RDue.modid x ∈ r.due → x = 4)
    ∧ (∀ p ∈ [2, 1], let k : CollectTx := { pos := p, fseq := 0, ret := false, port := .s, bytes := [], lastAt := 0 }
       let r := member { collect := some k } 480
       r.asleep = false ∧ r.collect = some k ∧ (portOf r .s).cut = false
         ∧ max k.lastAt (portOf r (otherPort k.port)).rxEnd + 480 ≤ 480) := by
  refine ⟨by decide +kernel, by decide +kernel, by decide +kernel, by decide +kernel, by decide +kernel, by decide +kernel,
    by decide +kernel, by decide +kernel, by decide +kernel, by decide +kernel, by decide +kernel, by decide +kernel,
    by decide +kernel, ⟨by decide +kernel, by decide +kernel, fun x h => ?_⟩, by decide +kernel⟩
  simpa [withRumbe, State.rumbe, dev, devIndex, tblGet, tblFind?] using h

theorem witness_RepeatedCommandResendsResponse :
    let c : RCtx := { dev := dev, now := 0, r := { devId := 1, lastCmd := some { fseq := 0, type := 7, respType := 8, resp := [] } } }
    addressed c.r (frame 7 []) = true ∧ (c.r.lastCmd.map (fun l => l.fseq)) = some (frame 7 []).fseq
      ∧ (c.r.lastCmd.map (fun l => l.type)) = some 7 ∧ fresh c (frame 6 []) 6 = true := by
  decide +kernel

theorem witness_WrongLengthAnsweredBadFrame :
    let s := withRumbe { devId := 1 }
    (∀ k ∈ [5, 6, 7, 0xA, 0xB, 0xC], hears s 0 dev (frame k []) k = true ∧ addressed (s.rumbe dev) (frame k []) = true
      ∧ (frame k []).payload = []) ∧ writeLenOk [] = false ∧ balLenOk [] = false := by decide +kernel

theorem witness_RegistersAreReadAndWritten :
    asked {} 6 [0x00#8, 0x00#8, 119#8] = true ∧ asked {} 6 [0x00#8, 0x00#8, 1#8] = true
    ∧ asked {} 7 [0x40#8, 0x00#8, 1#8, 0#8] = true ∧ writeLenOk [0x40#8, 0x00#8, 1#8, 0#8] = true
    ∧ regWriteRefused (after {} 7 [0x40#8, 0x00#8, 1#8, 0#8]) 0x40 [1] = true
    ∧ (let r := after { gate := { st := .closed } } 7 [0x22#8, 0x00#8, 1#8, 0#8]
       regWriteRefused r 0x22 [1] = false ∧ settingLocked r 0x22 = true)
    ∧ (let r := after {} 7 [0x22#8, 0x00#8, 1#8, 0#8]
       regWriteRefused r 0x22 [1] = false ∧ settingLocked r 0x22 = false)
    ∧ told {} 7 [0x20#8, 0x00#8, 1#8, 0#8] = true ∧ told { head := { headEn := true } } 7 [0x20#8, 0x00#8, 0#8, 0#8] = true
    ∧ clampNat 80 10000 79 ≠ 100 ∧ told { head := { shunt := 100 } } 7 [0x22#8, 0x00#8, 79#8, 0#8] = true
    ∧ told {} 7 [0x06#8, 0x00#8, 32#8, 0#8] = true ∧ told {} 7 [0x09#8, 0x00#8, 0#8, 0#8] = true
    ∧ told {} 7 [0x2A#8, 0x00#8, 1#8, 0#8] = true ∧ told { head := { vauxEn := true } } 7 [0x2A#8, 0x00#8, 0#8, 0#8] = true
    ∧ told { balSet := { en := true } } 7 [0x30#8, 0x00#8, 0#8, 0#8] = true := by decide +kernel

theorem scThreshold_le (d : Dev) (k : Nat) : scThreshold d k ≤ 264500 := by
  have h : ∀ k, (([20, 25, 30, 40, 50, 60, 70, 80, 100, 120, 140, 160, 180, 200, 225, 250] : List Nat).getD k 250) ≤ 250 := by
    intro k
    rw [List.getD_eq_getElem?_getD]
    cases e : ([20, 25, 30, 40, 50, 60, 70, 80, 100, 120, 140, 160, 180, 200, 225, 250] : List Nat)[k]? with
    | none => exact Nat.le_refl _
    | some v => exact (by decide : ∀ v ∈ ([20, 25, 30, 40, 50, 60, 70, 80, 100, 120, 140, 160, 180, 200, 225, 250] : List Nat),
        v ≤ 250) v (List.mem_of_getElem? e)
  have := h k
  simp only [scThreshold, clampNat]
  generalize ([20, 25, 30, 40, 50, 60, 70, 80, 100, 120, 140, 160, 180, 200, 225, 250] : List Nat).getD k 250 = x at *
  split
  · omega
  · split <;> omega
theorem scBlanking_le (d : Dev) (k : Nat) : scBlanking d k ≤ 500 * (k + 1) := by
  simp only [scBlanking, clampNat]
  split
  · omega
  · split <;> omega

theorem witness_TripsAndAlarmsOpenHead :
    (let r : Rumbe := { gate := { st := .closed } }
     r.gate.st ≠ .open ∧ r.gate.openAt ≠ some 0)
    ∧ (let r := member { head := { headEn := true }, gate := { st := .closed } } 0
       r.head.headEn = true ∧ gateWas r 0 ≠ .ramp ∧ scThreshold dev r.head.scdTh < (400000 : Int).natAbs
         ∧ scBlanking dev r.head.scdBlank ≤ 500 * (r.head.scdBlank + 1))
    ∧ (let r := member { head := { headEn := true, drvContactor := false }, gate := { st := .ramp, dsat := false } } 0
       r.head.headEn = true ∧ gateWas r 0 = .ramp ∧ r.head.drvContactor = false ∧ r.gate.dsat = false
         ∧ rampTrips r dev 0 (.comparator 400000) = true ∧ lowerGate (rampTarget r 0) 0 0 < 4000)
    ∧ (let r := (withRumbe { due := [.assert 17 .ov, .measFault], head := { headEn := true } }).rumbe dev
       RDue.assert (17 : Fin 18).val .ov ∈ r.due ∧ RDue.measFault ∈ r.due ∧ r.alarms.length = 18 ∧ r.head.headEn = true
       ∧ r.aspEn = true) := by
  refine ⟨by decide, ⟨by decide +kernel, by decide +kernel, Nat.lt_of_le_of_lt (scThreshold_le _ _) (by decide), scBlanking_le _ _⟩,
    ⟨by decide +kernel, by decide +kernel, by decide +kernel, by decide +kernel, ?_, by decide +kernel⟩, by decide +kernel⟩
  simp only [rampTrips, decide_eq_true_eq]
  exact Nat.lt_of_le_of_lt (scThreshold_le _ _) (by decide)

theorem witness_GateCommandsMoveHead :
    (∀ k ∈ [0#8, 1#8, 2#8, 3#8], asked { head := { headEn := true } } 0xA [k] = true)
    ∧ (∀ p ∈ [true, false], let r := after { head := { headEn := true, pchgEn := p } } 0xA [1#8]
       r.head.headEn = true ∧ gateLatched r = false ∧ r.gate.aspHold = false ∧ r.gate.openAt = none ∧ r.gate.st = .open
         ∧ r.head.pchgEn = p)
    ∧ (after {} 0xA [1#8]).head.headEn = false
    ∧ gateLatched (after { head := { headEn := true }, gate := { pumpUv := true } } 0xA [2#8]) = true
    ∧ (let r := after { head := { headEn := true }, gate := { st := .dsgOnly } } 0xA [2#8]
       r.gate.st ≠ .open ∧ r.gate.st ≠ .chgOnly ∧ r.gate.st = .dsgOnly ∧ gateLatched r = false)
    ∧ (let g := (member { gate := { st := .precharge, lowRun := 8, tmin := 1, tmax := 1 } } 48000).gate
       g.st = .precharge ∧ g.enteredAt + g.tmin * 48000 ≤ 48000 ∧ 8 ≤ g.lowRun ∧ g.enteredAt + g.tmax * 48000 ≤ 48000)
    ∧ (∀ b ∈ [true, false], let r := member { gate := { st := .ramp, pchgOffAt := some 93600 }, head := { drvContactor := b } } 91200
       r.gate.st = .ramp ∧ r.head.drvContactor = b ∧ r.gate.enteredAt + 91200 ≤ 91200 ∧ r.gate.pchgOffAt = some 93600
         ∧ gateWas r 91200 = .ramp)
    ∧ (let r := member { gate := { st := .chgOnly }, head := { drvContactor := false } } 0
       gateWas r 0 = .chgOnly ∧ r.head.drvContactor = false) := by decide +kernel

theorem witness_CurrentAndVauxSteps :
    (let r := member { cur := { running := true, settleAt := 12000 } } 12000
     r.cur.running = true ∧ r.cur.gridAt = none ∧ r.cur.settleAt ≤ 12000)
    ∧ (let r := member { cur := { running := true, gridAt := some 0 } } 11880
       r.cur.running = true ∧ r.cur.gridAt = some 0)
    ∧ (let r := (withRumbe { due := [.rangeHg, .calFrozen, .curFault] }).rumbe dev
       RDue.rangeHg ∈ r.due ∧ RDue.calFrozen ∈ r.due ∧ RDue.curFault ∈ r.due)
    ∧ (let v := (member { vaux := { st := .softStart } } 129600).vaux
       v.st = .softStart ∧ v.since + 129600 ≤ 129600)
    ∧ (let v := (member { vaux := { st := .on } } 48000000).vaux
       v.st = .on ∧ v.since + 48000 ≤ 48000000 ∧ v.since + 48000000 ≤ 48000000)
    ∧ (let v := (member { vaux := { st := .retryWait } } 4560000).vaux
       v.st = .retryWait ∧ v.since + 4560000 ≤ 4560000) := by decide +kernel

/-- A balance entry and its ten bytes. -/
def entry : BalEntry := { cell := 6, out := true, iSet := 100, qTgt := 1000, tMax := 1 }
def entryBytes : List Byte := [6#8, 1#8, 100#8, 0#8, 0xE8#8, 3#8, 0#8, 0#8, 1#8, 0#8]

theorem witness_BalanceFramesQueueEntries :
    asked {} 0xB ([0#8, 1#8] ++ entryBytes) = true ∧ balLenOk ([0#8, 1#8] ++ entryBytes) = true
    ∧ asked {} 0xB ([1#8, 4#8] ++ entryBytes ++ entryBytes ++ entryBytes ++ entryBytes) = true
    ∧ balLenOk ([1#8, 4#8] ++ entryBytes ++ entryBytes ++ entryBytes ++ entryBytes) = true
    ∧ (let r : Rumbe := { meas := { nCells := 6 } }
       r.bal.selFault = false ∧ r.bal.priOc = false ∧ byteAt entryBytes 0 ≤ r.meas.nCells ∧ r.bal.queue.length < 4) := by
  decide +kernel

theorem witness_BalanceTransferSteps :
    (let r := member { bal := { queue := [entry], offAt := some 0 }, balSet := { en := true } } 960
     r.bal.queue = [entry] ∧ balMayStart r 960 = true)
    ∧ (let b := (member { bal := { phase := .check, cur := entry } } 4800).bal
       b.phase = .check ∧ b.holdUntil = none ∧ b.checkAt + 4800 ≤ 4800)
    ∧ (∀ q ∈ [(999 : Int), 0], let r := member { bal := { phase := .run, cur := entry, xferQ := -q } } 960
       r.bal.phase = .run ∧ cycleMay r.bal 960 8000 1000 = true ∧ cycleFits r 960 25000 8000 1000 = true
         ∧ cycleCharge r.balSet r.bal.cur.out 25000 8000 1000 = (-1, 1))
    ∧ (let b := (member { bal := { phase := .run, cur := entry } } 48000000).bal
       balActive b = true ∧ b.startAt + b.cur.tMax * 48000000 ≤ 48000000)
    ∧ ((withRumbe { bal := { priOc := true } }).rumbe dev).bal.priOc = true
    ∧ ((withRumbe { balSet := { en := false } }).rumbe dev).balSet.en = false := by decide +kernel

theorem witness_ControlCodesTakeEffect :
    (∀ k ∈ [1#8, 2#8, 4#8, 5#8, 6#8, 7#8, 8#8, 9#8, 10#8, 0#8, 11#8], asked {} 0xC [k, 1#8] = true)
    ∧ asked {} 0xC [3#8, 0x5A#8] = true ∧ aspBlocked (after {} 0xC [6#8, 0#8]) 0 = false
    ∧ aspBlocked (after { measFault := true } 0xC [6#8, 0#8]) 0 = true
    ∧ (∀ k ∈ [1#8, 2#8, 4#8, 5#8, 6#8, 7#8, 8#8, 9#8, 10#8], told {} 0xC [k, 1#8] = true)
    ∧ told {} 0xC [3#8, 0x5A#8] = true ∧ told {} 0xA [0#8] = true ∧ told {} 0xA [1#8] = true := by decide +kernel

/-- The chips of an urgent frame. -/
def urgent (u : List Byte) : URx := { line := urgentChips (urgentSeal u) }

theorem witness_UrgentFramesTakeEffect :
    ∀ k ∈ [0x1A#8, 0x2A#8, 0x8A#8, 0x9A#8, 0xAA#8, 0x0A#8, 0xBA#8, 0x3A#8, 0x7A#8], let u := urgent [k, 0#8, 0#8]
    hearsUrgent (withRumbe {}) dev u = true ∧ u.bytes = urgentSeal [k, 0#8, 0#8] ∧ urgentDecodes u.bytes = true := by decide +kernel

theorem witness_WaitingFramesLeave :
    (let u : UFrame := { bytes := urgentSeal [0x1A#8, 0#8, 0#8], own := true }
     let r := member { portN := { uq := [u], resend := some { type := 4 } } } 0
     r.asleep = false ∧ (portOf r .n).cut = false ∧ urgentAfter (portOf r .n) 0 = false
       ∧ (portOf r .n).uq = [u] ∧ (portOf r .n).resend = some { type := 4 } ∧ (portOf r .n).freeAt ≤ 0 ∧ ucode u.bytes = 1)
    ∧ (∀ o ∈ [true, false], let v : UFrame := { bytes := urgentSeal [0xAA#8, 0#8, 0#8], own := o }
       let c : RCtx := { dev := dev, now := 0, r := { portN := { utx := some (1, v) } } }
       (portOf c.r .n).cut = false ∧ (portOf c.r .n).utx = some (1, v) ∧ ucode (urgentSeal [0x1A#8, 0#8, 0#8]) = 1
       ∧ urgentDecodes (urgentSeal [0x1A#8, 0#8, 0#8]) = true ∧ ucode v.bytes ≠ 1)
    ∧ (∀ b ∈ [true, false], (portOf (member { portN := { jab := b } } 0) .n).jab = b) := by decide +kernel

theorem witness_RumbeRowsChangeOneRumbe : rumbeOf (.rumbePor 0 dev) = some dev := by decide

theorem witness_OnlyGateCommandsLeaveOpen :
    let r : Rumbe := { devId := 1, head := { headEn := true } }
    let s := withRumbe r
    (s.rumbe dev).gate.st = .open ∧ rumbeOf (.gateClose 0 dev (frame 0xA [1#8])) = some dev
    ∧ ∃ n, exec (.gateClose 0 dev (frame 0xA [1#8])) s = .next n ∧ (n.rumbe dev).gate.st ≠ .open :=
  ⟨by decide, by decide, _, rfl, by decide +kernel⟩

/-! ### States that meet the hypotheses of the statements about the tiles -/

/-- The non-zero bytes of a word held at an address. -/
def cells (a : Nat) (bs : List Byte) : Mem := (bs.zipIdx.filter (fun x => x.1 != 0#8)).map (fun x => (a + x.2, x.1))
/-- Opcode o with its operands in the lower 56 bits. -/
def op (o w : Nat) : Nat := o * 2 ^ 56 + w
/-- The block running, bench 0 live. -/
def live : Sys := { State.reset.sys with
  computeUp := true, ctrlUp := true, boot := .parallel
  benches := { (State.reset.sys.benches.getD 0 {}) with phase := .live, live := 0xFFFF } :: State.reset.sys.benches.drop 1 }
/-- Tile 0 running r, its bundle at address 0 holding a word of a slot. -/
def running (r : Run) (rank w : Nat) : State :=
  { State.reset with sys := live, tiles := [(0, { kstore := cells (rank * 8) (leBytes 8 w), run := some r })] }
/-- A run of stream 0 whose kernel may use every bank. -/
def run0 : Run := { work := .stream 0, kt0 := { valid := true, bankMask := 0xFFFF, stateUnits := 2 }, cycMax := 100 }
/-- Tile 0 issues operation o of a slot with the operands w. -/
def canIssue (rank o w : Nat) : Bool :=
  let s := running run0 rank (op o w)
  issues s 0 rank o && (runIn (landed s 0 false) 0 == some run0) && (wordIn (landed s 0 false) 0 rank run0 == op o w)

theorem witness_ScalarsLoadsAndStoresAct :
    (∀ o ∈ [1, 2, 3, 4, 5, 6, 7, 8, 9, 10, 11, 12, 13], canIssue 6 o 0 = true)
    ∧ (∀ o ∈ [1, 2, 3, 4], canIssue 5 o 0 = true) ∧ (∀ o ∈ [1, 2], canIssue 4 o 0 = true)
    ∧ canIssue 5 1 (0x33 * 2 ^ 50) = true ∧ canIssue 5 1 (0x34 * 2 ^ 50) = true
    ∧ (let s := running run0 5 (op 1 0)
       mayAccess (tileEnv (landed s 0 false) 0 run0 5) 0 0 = true)
    ∧ (let r := { run0 with kt0 := { run0.kt0 with bankMask := 0xFFFE } }
       let s := running r 5 (op 1 0)
       issues s 0 5 1 = true ∧ runIn (landed s 0 false) 0 = some r ∧ mayAccess (tileEnv (landed s 0 false) 0 r 5) 0 0 = false) := by
  decide +kernel

theorem witness_VectorArithmeticLanes :
    (∀ o ∈ [1, 2, 3, 4], canIssue 3 o 0 = true) ∧ (∀ o ∈ [1, 2, 3, 4, 5, 6, 10], canIssue 2 o (0x27 * 2 ^ 50) = true)
    ∧ (fReg run0 0).isSome = true ∧ (fReg run0 0x27).isSome = true := by decide +kernel

theorem witness_VectorSelectDrawAndMask :
    (∀ o ∈ [7, 8, 9, 11], canIssue 2 o 0 = true) ∧ canIssue 2 11 (2 ^ 31) = true ∧ (∀ o ∈ [1, 2, 3], canIssue 0 o 0 = true)
    ∧ (∀ o ∈ [1, 2, 3, 4, 5, 6, 7, 8, 9, 10, 11], canIssue 2 o (0x28 * 2 ^ 32) = true) ∧ field (op 1 (0x28 * 2 ^ 32)) 32 6 = 0x28
    ∧ (findSlot (some { work := .stream 0, step := 0, slots := [{ site := 0, sample := 0, block := 0, states := [] }] }) 0 0 0).isSome = true
    ∧ findSlot none 0 0 0 = none := by decide +kernel

theorem witness_StateOperationsCompute :
    (∀ o ∈ [1, 2, 3, 4, 5, 6], canIssue 1 o 0 = true) ∧ canIssue 1 6 (2 ^ 53) = true ∧ canIssue 1 3 (28 * 2 ^ 48) = true
    ∧ canIssue 1 3 (27 * 2 ^ 48) = true ∧ canIssue 1 3 (2 ^ 54) = true ∧ canIssue 1 4 (6 * 2 ^ 53 + 6 * 2 ^ 50 + 6 * 2 ^ 47) = true
    ∧ canIssue 1 5 (5 * 2 ^ 53 + 5 * 2 ^ 50 + 5 * 2 ^ 47) = true := by decide +kernel

theorem witness_ControlOperationsSteerTile :
    (∀ sl ∈ [Slot.p, .q, .f, .m, .w, .l, .k, .c], issues (running run0 (slotRank sl) 0) 0 (slotRank sl) 0 = true
      ∧ (let s := running run0 (slotRank sl) (op 0xFF 0)
         slotOpen s 0 (slotRank sl) = true ∧ (slotOps (slotRank sl)).all (fun o => !slotIs s 0 (slotRank sl) o) = true))
    ∧ (∀ o ∈ [1, 2, 3, 4, 5, 6], canIssue 7 o (2 ^ 44) = true) ∧ canIssue 7 1 (2 ^ 44 + 1) = true ∧ canIssue 7 1 0 = true
    ∧ (let r := { run0 with loops := List.replicate 4 { n := 0, start := 0, stop := 1 } }
       let s := running r 7 (op 1 (2 ^ 44 + 1))
       issues s 0 7 1 = true ∧ runIn (landed s 0 false) 0 = some r)
    ∧ (let q := { running run0 7 (op 2 0) with sched := { State.reset.sched with streams := [(0, { valid := true, queue := [[1]] })] } }
       waitEntry (landed q 0 false) run0 = some [1] ∧ issues q 0 7 2 = true)
    ∧ (let r := { run0 with stall := some .input }
       let q := { running r 7 (op 2 0) with sched := { State.reset.sched with streams := [(0, { valid := true, queue := [[1]] })] } }
       waitEntry (landed q 0 false) r = some [1] ∧ issues q 0 7 2 = true ∧ runIn (landed q 0 false) 0 = some r)
    ∧ waitEntry (landed (running run0 7 (op 2 0)) 0 false) run0 = none
    ∧ (∀ o ∈ [5, 6], let r := { run0 with held := [(1, 1)] }
       let s := running r 7 (op o (2 ^ 48 + 2 ^ 44))
       issues s 0 7 o = true ∧ runIn (landed s 0 false) 0 = some r)
    ∧ canIssue 7 5 (2 ^ 48 + 2 ^ 44) = true := by decide +kernel

theorem witness_TileEventsHappen :
    live.thermal.shut = false
    ∧ (let r := { run0 with ended := true, issued := 255, flight := [{ land := 1, rank := 0, dest := .x 8 0 }] }
       runIn (running r 7 0) 0 = some r)
    ∧ (∀ g, barrierTiles (running { run0 with stall := some (.barrier 1 g) } 7 0) 0 = [0])
    ∧ (∀ w ∈ [Holder.home, .swap, .foreman, .remote 0, .remote 1],
       (firstReq { requests := [{ bank := 15, who := w, at_ := 0 }] } 15).map (fun q => q.who) = some w)
    ∧ holderOf {} 15 = .home ∧ bankInUse {} 15 = false
    ∧ (let s := running { run0 with stall := some (.lease 0 15) } 7 0
       s.benchLive 0 = true ∧ stallLimit run0 ≤ 24000000)
    ∧ (∀ w ∈ [Holder.swap, .foreman, .remote 0], let x : Tile := { holders := [(15, w)], leaseAt := [(15, 0)] }
       holderOf x 15 = w ∧ tblGet 0 x.leaseAt 15 + 9600 ≤ 9600)
    ∧ (insertFlight { land := 1, rank := 3, dest := .x 8 0 } [{ land := 1, rank := 2, dest := .x 8 1 }, { land := 1, rank := 4, dest := .x 8 2 }]).map
        (fun y => y.rank) = [2, 3, 4] := by
  refine ⟨by decide +kernel, by decide +kernel, fun g => rfl, by decide +kernel, by decide +kernel, by decide +kernel, by decide +kernel,
    by decide +kernel, by decide +kernel⟩

theorem witness_AbortedStepsAreRetriedOnce :
    (∀ o ∈ [1, 2, 3, 4], issues (running run0 5 (op o 0)) 0 5 o = true) ∧ ({} : Stream).ending = false
    ∧ (∀ b ∈ [true, false], (({ State.reset with sched := { State.reset.sched with streams := [(0, { retry := b })] } } : State).stream 0).retry = b)
    ∧ ({} : Stream).between = {} ∧ ({} : Stream).swap = false := by decide +kernel


/-! ### States that meet the hypotheses of the statements about the scheduler -/

/-- Stream 0 on tile 0 of a live bench, kernel table entry 0 loaded, one DRAM channel up. -/
def planned (st : Stream) : State :=
  { State.reset with
    sys := { live with channels := [{ up := true, mib := 4096, regions := List.replicate 16 .released }, {}], stippleOk := true }
    tiles := [(0, { ktab := [(0, { valid := true, bankMask := 0 })], holders := [(0, .swap)] })]
    sched := { State.reset.sched with streams := [(0, st)], lanes := [(0, { tenant := 0, tile := 0, unit := 0, units := 4 })] } }
/-- A stream whose next step is ready. -/
def due (cls : Nat) : Stream := { valid := true, den := true, res := true, cls := cls, period := 1, queue := [[]], paramUnits := 1, out := 5 }
/-- An image with one kernel of a kind, whose draws are given. -/
def image (kind cyc : Nat) (draws : List DrawSet) : Image :=
  { tenant := 0, id := 1, keySlot := 0, mask := 1, bundles := [], weights := [], state := [], reloc := [], palBytes := 0, kts := [0]
    bases := [], inits := [], wbase := []
    kernels := [{ kind := kind, form := 0, sf := 0, classes := 7, kMax := 8, entry := 0, len := 1, cyc := cyc, cycPer := 0
                  stateUnits := 1, paramUnits := 0, qMin := 0, waitinMax := 1, initOfs := 0, e := 4, ePer := 1, palBase := 0, palPer := 0
                  gang := 1, outLayout := 0, draws := draws }] }
/-- A sequential job paused because nothing fits. -/
def refit : Job :=
  { tenant := 0, form := 0, seqMode := true, log2c := 0, sf := 0, t := 64, groups := 1, tilesMax := 1, image := 1, inOfs := 0, outOfs := 0
    h0Ofs := none, scratchOfs := 0, coefOfs := 0, outSel := 0, g := 64, st := .paused, refitAt := some 0 }

theorem witness_DueWorkIsDispatched :
    (∀ c ∈ [0, 1, 2], let u := (planned (due c)).at 0
     workReady u (.stream 0) = true ∧ tileIdle u (workTile u (.stream 0)) = true ∧ (pickOnline u 0).isSome = (c == 0)
      ∧ (pickBg u 0 1).isSome = (c == 1) ∧ (pickBg u 0 2).isSome = (c == 2))
    ∧ (due 0).noin = false := by decide +kernel

theorem witness_StepsCommitOrFallBehind :
    (let s := running { run0 with ended := true, issued := 255, taken := 1 } 7 0
     mayCommit s 0 = true ∧ (s.stream 0).ending = false ∧ (s.stream 0).between = {} ∧ (s.stream 0).swap = false ∧ (s.stream 0).out = 0)
    ∧ (∀ b ∈ [true, false], let u := (planned { due 0 with behind := b }).at 4801
       (u.stream 0).valid = true ∧ (u.stream 0).den = true ∧ (u.stream 0).cls = 0 ∧ inFlight u 0 = false ∧ u.sys.computeUp = true
       ∧ dueUnknown u (u.stream 0) = false ∧ (8 * periodOf (u.stream 0) : Int) < lagInt u (u.stream 0))
    ∧ (let s := { planned {} with foreman := { State.reset.foreman with images := [(1, image 4 (2 ^ 40) [])] } }
       let u := ({ s with sched := { s.sched with jobs := [(7, refit)] } }).at 2880000000
       jobOf u 7 = some refit ∧ refit.refitAt = some 0 ∧ refit.st = .paused ∧ imageOf u 1 = some (image 4 (2 ^ 40) []) ∧ gFits u (image 4 (2 ^ 40) []) refit 64 = false) := by
  decide +kernel

theorem witness_BanksAndAreasAreFilled :
    (let s := { planned { due 0 with image := 1 } with foreman := { State.reset.foreman with
       images := [(1, image 0 10 [{ site := 0, blk0 := 0, nblk := 1, perSample := false }])] } }
     let u := s.at 0
     (stageNeed u 0 (.stream 0)).isSome = true ∧ nextCandidate u 0 = some (.stream 0) ∧ bankFor u 0 (.stream 0) 0 = false ∧ u.sys.stippleOk = true ∧ u.tileLive 0 = true
       ∧ u.sched.stageWait = [] ∧ u.sched.stagingFree ≤ u.now)
    ∧ (∀ d ∈ [none, some 100], let b : StipBank := { work := .stream 0, step := 0, slots := [], doneAt := d }
       let s := planned {}
       tblFind? ({ s with sched := { s.sched with stage := [(0, b)] } }.at 100).sched.stage 0 = some b)
    ∧ (let u := (planned { due 1 with swap := true, res := false, slot := some 0 }).at 0
       swapSlot u (u.stream 0) = some (0, { tenant := 0, tile := 0, unit := 0, units := 4 }) ∧ bringReady u (u.stream 0) = true ∧ bringLater u 0 = false)
    ∧ (∀ k ∈ [XferKind.bringIn, .writeBack, .checkpoint, .migrate 0 16], ∀ c ∈ [true, false], ∀ w ∈ [true, false],
       let u := (planned { due 1 with swap := w, xfer := some { kind := k, startAt := 0, units := 1, cancelled := c } }).at 0
       copyHeld u 0 = some { kind := k, startAt := 0, units := 1, cancelled := c } ∧ dramUsable u 0 128 = true ∧ u.benchLive 0 = true) := by
  decide +kernel


/-! ### States that meet the hypotheses of the statements about the chain pairs -/

/-- Everything the part has, fused in. -/
def fused : Fuses := { State.reset.sys.fuses with ports := 0xFF, benches := 15, channels := 3, links := 63, serial := 77 }
/-- Pair 0 as given, string 0 over its members 1 and 2 with its head at member 1. -/
def paired (q : Pair) : State :=
  { State.reset with
    sys := { live with fuses := fused, ledgerReady := true }, pairs := [q, {}, {}, {}]
    ledger := { State.reset.ledger with set := [(0, { pair := 0, first := 1, last := 2, head := 1, en := true })] } }
/-- A pair that runs, and a frame awaited back at its port B. -/
def ringed : Pair := { st := .ring, mode := .ring, nExp := 3, collecting := true, curSeq := some 3, nextDue := some 0 }
/-- A frame on a chain pair. -/
def lined (type : Nat) (dir : Bool) (fseq addr : Nat) (pl : List Byte) (good : Bool := true) : List Chip :=
  ({ type := type, dir := dir, addr := addr, fseq := fseq, payload := pl, good := good } : Frame).chips
def back (kind : Nat) : List Awaited := [{ kind := kind, endAt := 0 }]

theorem witness_SweepRowsRunSweep :
    (∀ b ∈ [PairSt.ring, .split, .broken, .direct], ∀ r ∈ [true, false],
       let q := { ringed with st := b, restoreRing := r, collecting := false }
       let s := paired q
       s.shellUp = true ∧ s.pairs[(0 : Fin 4).val]? = some q ∧ pairSweeps q = true ∧ q.nextDue = some 0 ∧ q.portA.busy ≤ 0 ∧ q.portB.busy ≤ 0)
    ∧ overdue ((paired { ringed with awaited := back 1 }).at 2400) 0 1 = true
    ∧ (∀ k ∈ [1, 3, 9, 0xC], ∀ g ∈ [true, false], let s := paired { ringed with awaited := back k }
       let line := lined k false 0 0x3F [0x0A#8, 0#8, 3#8] g
       lineFrame line = true ∧ lineGood line = g ∧ returnKind s 0 line = k ∧ returns (s.at 2400) 0 k = true)
    ∧ (∀ n ∈ [2, 3], ({ ringed with enumTries := n } : Pair).enumTries = n)
    ∧ (ringed.asked = false ∧ ringed.sweepAt + 9600 ≤ 9600)
    ∧ overdue ((paired { ringed with awaited := back 3 }).at 2400) 0 3 = true
    ∧ (let q := { ringed with asked := true, silent := true, damaged := true }
       awaitedOf (paired q) 0 3 = none ∧ lacking q ≠ [] ∧ q.rxAt + 4800 ≤ 4800)
    ∧ (let q := { ringed with st := .broken, asked := true }
       pairReads q = false ∧ q.asked = true)
    ∧ (let q := { ringed with st := .split, suspect := some 2, jabBelow := some 1, jabAbove := some 1 }
       let s := paired q
       s.sys.ctrlUp = true ∧ 1 < 2 ∧ 2 < q.nExp ∧ q.jabBelow = some 1 ∧ q.jabAbove = some 1
         ∧ 1 ≠ (lmem s (memNo 0 2 - 1)).jabCnt ∧ 1 ≠ (lmem s (memNo 0 2 + 1)).jabCnt)
    ∧ (ringed.collecting = true ∧ ringed.closeAt ≤ 0) := by decide +kernel

/-- A request of the front panel that is being served, and one of its commands to member 1. -/
def asking : Req := { tenant := 0, opcode := 0x0210, tag := 5 }
def chained (o : Origin) : ChainCmd := { origin := o, type := 6, addr := 1, payload := [0#8, 0#8, 1#8] }
/-- That command outstanding at port A. -/
def awaiting (tries : Nat) : Pair :=
  { ringed with portA := { out := some { cmd := chained (.mailbox asking), fseq := 7, sentAt := 0, tries := tries } } }

theorem witness_ChainCommandsAreAnswered :
    (∀ b ∈ [false, true], let c := { chained (.mailbox asking) with type := 0xA, payload := [1#8] }
     let q := { ringed with collecting := false, portA := { queue := [c] } }
     let s := { paired q with eopen := { low := b }, foreman := { State.reset.foreman with current := some asking } }
     (sidePort q .a).queue = [c] ∧ pairTalks q = true ∧ c.addr ≠ 0x3F ∧ gateBarred s c = b
       ∧ mayStart (s.at 4800) 0 .a c.payload.length = true ∧ s.foreman.current = some asking)
    ∧ (let s := { paired (awaiting 0) with foreman := { State.reset.foreman with current := some asking } }
       let line := lined 8 true 7 1 [2#8]
       s.foreman.current = some asking ∧ (sidePort (awaiting 0) .a).out.isSome = true ∧ lineGood line = true ∧ lineType line = 8
         ∧ lineH0 line 3 = true ∧ lineFseq line = 7 ∧ 1 < byteAt (linePayload line) 0)
    ∧ (∀ n ∈ [0, 1], lineOk ((paired (awaiting n)).at 4800) 0 3 = true ∧ gateBarred (paired (awaiting n)) (chained (.mailbox asking)) = false
       ∧ (chained (.mailbox asking)).noRetry = false)
    ∧ (sidePort (awaiting 2) .a).out = some { cmd := chained (.mailbox asking), fseq := 7, sentAt := 0, tries := 2 }
    ∧ (let line := lined 4 true 9 1 ([3#8, 0#8] ++ List.replicate 68 0#8)
       let q := { ringed with collectFseq := 9 }
       lineGood line = true ∧ isRecord line = true ∧ readSide (paired q) 0 1 = none ∧ lineFseq line = q.collectFseq ∧ lineAddr line = 1
         ∧ recOf q 1 = none ∧ pairCarries q = true ∧ q.curSeq = some (leAt (linePayload line) 0 2))
    ∧ (let q := { ringed with st := .split, portA := { out := some { cmd := { chained (.retrieve 0 3) with type := 5 }, fseq := 7, sentAt := 0, tries := 0 } } }
       (readSide (paired q) 0 1).map (fun x => x.2.fseq) = some 7)
    ∧ (let o : Outstanding := { cmd := chained (.balRead 0), fseq := 7, sentAt := 0, tries := 0 }
       let q := { ringed with portA := { out := some o } }
       let line := lined 8 true 7 1 (List.replicate 115 0#8)
       balSide (paired q) 0 0 = some .a ∧ (sidePort q .a).out = some o ∧ lineGood line = true ∧ lineType line = 8
         ∧ lineH0 line 3 = true ∧ lineFseq line = 7 ∧ byteAt (linePayload line) 0 = 0) := by decide +kernel

theorem witness_ChainUpkeepRows :
    (let s := paired { ringed with st := .broken, collecting := false }
     testDue (s.at 4800000) 0 .a = true)
    ∧ (let q := { ringed with st := .waking }
       q.wakeEnd + 480000 ≤ 480000)
    ∧ (∀ b ∈ [true, false], let q := { ringed with st := .enumerating, bringup := b, awaited := [] }
       enumOver ((paired q).at 4800000) 0 = true ∧ awaitedOf (paired q) 0 9 = none)
    ∧ enumOver ((paired { ringed with st := .split, ready := false }).at 4800000) 0 = true
    ∧ pairDrained ({ ringed with st := .direct } : Pair) = true
    ∧ (let line := urgentChips (urgentSeal [0x1A#8, 0x3F#8, 0#8])
       urgentDecodes (lineUrgent line) = true ∧ (lineUrgent line).take 3 = [0x1A#8, 0x3F#8, 0#8])
    ∧ (∀ sd ∈ [Side.a, .b], (portsOn (paired ringed) 0).contains sd = true)
    ∧ (let q := { ringed with portB := { lastUrgent := some ([0x1A#8, 0x3F#8, 0#8], 0) } }
       (sidePort q .b).lastUrgent = some ([0x1A#8, 0x3F#8, 0#8], 0))
    ∧ ((paired ringed).port 0).events.length < 64
    ∧ (paired ringed).eopen.low = false
    ∧ (let s := { paired ringed with eopen := { low := true, nextAt := 0 } }
       s.eopen.low = true ∧ s.eopen.nextAt ≤ 0) := by decide +kernel


/-! ### States and requests that meet the hypotheses of the statements about mailbox commands -/

/-- A request of the front panel with its fields, alone in the mailbox of a state. -/
def want (op : Nat) (pl : List Byte) : Req := { tenant := 0, opcode := op, tag := 5, len := pl.length, payload := pl }
/-- The same with bulk data. -/
def wantBulk (op n : Nat) (pl : List Byte) : Req := { want op pl with flags := 2, bulkLen := n }
def ask (s : State) (r : Req) : State := { s with foreman := { s.foreman with order := [r], current := none } }
/-- Foreman takes that request next and serves it. -/
def grants (s : State) (r : Req) : Bool :=
  (nextReq ((ask s r).at 0) == some r) && s.sys.ctrlUp && decide (r.len ≤ 240) && (r.payload.length == r.len)
    && (r.opcode == 0x0101 || tenantOn s r.tenant) && (!natBit r.flags 0 || urgentOk r.tenant r.flags r.opcode) && !r.busy

theorem grants_granted {s : State} {r : Req} (h : grants s r = true) : granted (ask s r) 0 r.opcode r := by
  simpa [grants, granted, ask, and_assoc, tenantOn] using h

/-- A state in which everything the commands act on is there: pair 0 in RING, string 0, stream 0 and job 7 with image 1, a
dataset region. -/
def stocked (q : Pair) (st : Stream) : State :=
  { paired q with
    sys := { (planned st).sys with
      fuses := { fused with ceilMhz := 800, envelope := 1023 }, ledgerReady := true, assayerReady := true
      memtestDone := true, stateStoreReady := true }
    tiles := (planned st).tiles, sched := (planned st).sched
    foreman := { State.reset.foreman with
      images := [(1, image 4 10 [])], datasets := [(0, { mib := 4, base := 0, bar2 := 0 })] }
    flash := { State.reset.flash with density := some 512 }, journal := { State.reset.journal with scanned := true } }
/-- It serves a request of an opcode with those fields. -/
def serves (op : Nat) (pl : List Byte) : Bool := grants (stocked { ringed with ready := true } (due 1)) (want op pl)
/-- The same with bulk data. -/
def servesBulk (op n : Nat) (pl : List Byte) : Bool := grants (stocked { ringed with ready := true } (due 1)) (wantBulk op n pl)
def zs (n : Nat) : List Byte := List.replicate n 0#8

theorem witness_SystemCommandsExecute :
    (∀ o ∈ [0x0101, 0x0112, 0x0B02, 0x0B03, 0x0B10], serves o [] = true)
    ∧ (∀ v ∈ [0#8, 15#8], serves 0x0102 [v] = true) ∧ (∀ v ∈ [9#8, 10#8, 50#8, 51#8], serves 0x0110 [v] = true)
    ∧ serves 0x0111 (zs 8) = true ∧ (∀ v ∈ [0#8, 1#8, 15#8, 16#8], serves 0x0120 (v :: zs 19) = true)
    ∧ (∀ v ∈ [0#8, 1#8, 2#8, 3#8, 4#8, 5#8], serves 0x0130 [v, 3#8, 0xA5#8, 0#8] = true) ∧ natBit fused.benches 3 = true
    ∧ servesBulk 0x0140 8 [] = true ∧ bulkFor (wantBulk 0x0140 8 []) 8 = true
    ∧ servesBulk 0x0B01 32 (zs 4) = true ∧ bulkFor (wantBulk 0x0B01 32 (zs 4)) 32 = true
    ∧ serves 0x0B04 (zs 2) = true ∧ serves 0x0B11 (zs 64) = true ∧ lenIs 64 (want 0x0B11 (zs 64)) = true
    ∧ (∀ n ∈ [1, 2], ({ State.reset.foreman with resetAt := some (n, 0) } : Foreman).resetAt = some (n, 0)) := by
  decide +kernel

theorem witness_ChainCommandsBegin :
    (∀ m ∈ [0#8, 1#8, 2#8, 3#8], serves 0x0201 ([0#8, m, 0#8, 3#8] ++ leBytes 2 128) = true)
    ∧ (let s := stocked { ringed with ready := true } {}
       s.pairs[(0 : Nat)]? = some { ringed with ready := true } ∧ pairFused s 0 = true ∧ ticketsOf s 0 < 4
       ∧ pairNamed s (want 0x0201 [0#8]) = true ∧ pairNamed (stocked { ringed with ready := false } {}) (want 0x0201 [0#8]) = false)
    ∧ (∀ v ∈ [0#8, 3#8, 4#8], serves 0x0202 [v] = true)
    ∧ (∀ f ∈ [0#8, 1#8, 2#8], ∀ a ∈ [1#8, 3#8], let s := stocked { ringed with ready := true } {}
       tgtReady s (want 0x0210 [0#8, f, a, 0#8, 0#8, 1#8]) = true ∧ (target s [0#8, f, a] false).isSome = true)
    ∧ (let s := stocked { ringed with ready := true } {}
       (target s [0#8, 0#8, 0x3F#8] true).isSome = true ∧ target s [0#8, 0#8, 0x3F#8] false = none ∧ target s [0#8, 0#8, 4#8] false = none
       ∧ target s [0#8, 0#8, 0#8] false = none)
    ∧ serves 0x0210 [0#8, 0#8, 1#8, 0#8, 0#8, 1#8] = true
    ∧ (∀ n ∈ [2, 24], serves 0x0211 ([0#8, 0#8, 1#8] ++ zs (2 * n)) = true)
    ∧ (∀ c ∈ [1#8, 2#8, 6#8, 10#8], serves 0x0212 [0#8, 0#8, 1#8, c, 0#8] = true)
    ∧ (∀ n ∈ [70, 126], servesBulk 0x0213 n [0#8, 0#8, 1#8, 0#8, 0#8] = true)
    ∧ (∀ k ∈ [1, 4], serves 0x0230 ([0#8, 0#8, 1#8, 0#8] ++ leBytes 1 k ++ zs (10 * k)) = true)
    ∧ serves 0x0821 [0#8, 0#8, 1#8] = true := by decide +kernel

theorem witness_StringCommandsBegin :
    (let s := stocked { ringed with ready := true } {}
     strOn s 0 = true ∧ (strSet s 0).head ≠ 0 ∧ strReady s (want 0x0810 [0#8, 1#8]) = true ∧ headOpen s 0 = true
       ∧ (s.pair 0).mode ≠ .off ∧ allReady s (want 0x0801 []) = true ∧ setStrReady s (want 0x0220 [0#8, 0#8, 1#8, 2#8, 1#8, 1#8, 0#8, 0#8]) = true
       ∧ stringFaults s 0 (stringOf s [0#8, 0#8, 1#8, 2#8, 1#8, 1#8, 0#8, 0#8]) = []
       ∧ stringFaults s 0 (stringOf s [0#8, 0#8, 1#8, 4#8, 1#8, 1#8, 0#8, 0#8]) ≠ [])
    ∧ (let s := stocked { ringed with ready := true } {}
       let z := { s with ledger := { s.ledger with str := [(0, { gateSt := some 3 })] } }
       headOpen z 0 = false ∧ strOn z 0 = true)
    ∧ (let s := stocked { ringed with ready := true } {}
       let z := { s with ledger := { s.ledger with set := [(0, { pair := 0, first := 1, last := 2, head := 0, en := true })] } }
       (strSet z 0).head = 0 ∧ strOn z 0 = true ∧ grants z (want 0x0820 [0#8]) = true)
    ∧ (∀ g ∈ [0#8, 1#8, 3#8, 4#8], serves 0x0810 [0#8, g] = true) ∧ serves 0x0820 [0#8] = true ∧ serves 0x0811 (zs 24) = true
    ∧ serves 0x0812 (zs 12) = true ∧ serves 0x0220 [0#8, 0#8, 1#8, 2#8, 1#8, 1#8, 0#8, 0#8] = true ∧ serves 0x0802 [0#8] = true
    ∧ serves 0x0801 [] = true := by decide +kernel

theorem witness_LedgerCommandsExecute :
    (let s := stocked { ringed with ready := true } {}
     strOn s 0 = true ∧ readyBit s 0 = true)
    ∧ serves 0x0301 (zs 32) = true ∧ serves 0x0302 [0#8] = true
    ∧ (∀ n ∈ [1, 128], servesBulk 0x0303 (32 * n) (leBytes 2 0 ++ leBytes 2 n) = true
      ∧ bulkIs (wantBulk 0x0303 (32 * n) (leBytes 2 0 ++ leBytes 2 n)) (32 * n) = true)
    ∧ (∀ o ∈ [0x0310, 0x0311, 0x0312], serves o [0#8] = true) ∧ serves 0x0320 (zs 2) = true
    ∧ (∀ v ∈ [0#8, 8#8, 9#8], serves 0x0330 [0#8, v, v, 3#8] = true)
    ∧ (let s := stocked { ringed with ready := true } {}
       isTermSrc s 0 = false ∧ armFaults s 0 ≠ []) := by decide +kernel

/-- Two valid cells under the members of string 0. -/
def celled (lc : LcSt) (ls : LString) : State :=
  let s := stocked { ringed with ready := true } {}
  { s with ledger := { s.ledger with
      mem := [(0, { nCells := 1 }), (1, { nCells := 1 })]
      cell := [(0, { valid := true, cL := 1000, volt := some 40000 }), (18, { valid := true, cL := 1000, volt := some 40000 })]
      str := [(0, { ls with lc := lc })] } }

theorem witness_LearningCyclesArm :
    armFaults (celled .idle {}) 0 = [] ∧ (strCells (celled .idle {}) 0) = [0, 18]
    ∧ (∀ l ∈ [LcSt.armed, .running, .idle], (lstr (celled l {}) 0).lc = l) := by decide +kernel

/-- A STREAM_START of the image's kernel 0 and its settings. -/
def start (out period : Nat) : List Byte :=
  [0#8, 1#8, 0#8, 0#8] ++ leBytes 2 1 ++ [8#8, 1#8] ++ leBytes 4 out ++ leBytes 4 period ++ leBytes 4 0 ++ leBytes 8 5 ++ zs 2 ++ [0xFF#8, 0#8]
/-- The block with stream 0 as given, its kernel table holding the image's kernel. -/
def served0 (st : Stream) : State :=
  let s := stocked { ringed with ready := true } st
  { s with foreman := { s.foreman with images := [(1, { image 0 10 [] with bases := [(0, 0)], palBytes := 1280, inits := [(0, [0])] })] } }

theorem witness_StreamCommandsExecute :
    (let s := served0 { due 1 with image := 1 }
     let r := want 0x0401 (start (2 ^ 31) 10000)
     let z := begun (ask s r) 0 0x0401
     let img := { image 0 10 [] with bases := [(0, 0)], palBytes := 1280, inits := [(0, [0])] }
     r.len = 32 ∧ grants s r = true ∧ startRights s r = true ∧ readyBit s 3 = true
       ∧ imageOf s (leAt (clampStart z r).1 4 2) = some img ∧ img.kernels[leAt (clampStart z r).1 3 1]?.isSome = true ∧ freeStream s = some 1
       ∧ startFlag r 0 = false ∧ imageOf s 2 = none
       ∧ (∀ k ∈ img.kernels, k.kind = 0 ∧ capable z k (startStream z r (clampStart z r).1 img k) = true
           ∧ capable z { k with classes := 0 } (startStream z r (clampStart z r).1 img k) = false
           ∧ (let st := startStream z r (clampStart z r).1 img k
              (match admitStream (roomFor z st 15 st.swap) none st 15 st.swap false with | .ok _ => true | .error _ => false) = true)))
    ∧ (∀ o ∈ [0x0402, 0x0403, 0x0404, 0x0405, 0x0407], grants (served0 (due 1)) (want o (zs 2)) = true)
    ∧ ((served0 (due 1)).stream 0).valid = true ∧ ((served0 (due 1)).stream 0).tenant = 0
    ∧ (let x : Stream := { due 1 with den := false, swap := true }
       storeUp (served0 x) x = false ∧ storeUp (served0 x) { x with storePtr := some 0 } = true)
    ∧ grants (served0 { due 1 with image := 1 }) (want 0x0406 (zs 16)) = true
    ∧ (kernelOf (served0 { due 1 with image := 1 }) { due 1 with image := 1 }).isSome = true
    ∧ (let s := { served0 { due 1 with image := 1 } with tiles := [(0, { run := some run0 })] }
       inFlight s 0 = true) ∧ inFlight (served0 (due 1)) 0 = false
    ∧ (∀ c ∈ [1, 7], grants (served0 (due 1)) (want 0x0410 (leBytes 2 0 ++ leBytes 2 c ++ zs (32 * c))) = true)
    ∧ (due 1).queue.length + 1 ≤ (due 1).qdepth ∧ (due 1).qdepth < (due 1).queue.length + 7
    ∧ (∀ n ∈ [0#8, 1#8, 2#8], grants (served0 (due 1)) (wantBulk 0x0411 (128 * n.toNat) [0#8, 0#8, 0#8, n]) = true
      ∧ bulkIs (wantBulk 0x0411 (128 * n.toNat) [0#8, 0#8, 0#8, n]) (128 * n.toNat) = true)
    ∧ grants (served0 (due 1)) (want 0x0412 (zs 3)) = true := by decide +kernel

theorem witness_ImageCommandsExecute :
    (let s := served0 (due 1)
     readyBit s 3 = true ∧ tblFind? s.foreman.datasets 0 = some { mib := 4, base := 0, bar2 := 0 }
       ∧ (∀ n ∈ [1, 2, 65536, 65537], grants s (want 0x0420 (zs 12 ++ leBytes 4 n)) = true)
       ∧ (∀ v ∈ [0#8, 1#8, 2#8], grants s (want 0x0501 ([v, 1#8, 0#8, 0#8] ++ leBytes 4 64 ++ leBytes 8 0)) = true)
       ∧ inDataset s 0 0 4194304 = true ∧ inDataset s 0 1 4194304 = false ∧ ticketsOf s 0 < 4
       ∧ grants s (want 0x0502 (leBytes 2 1)) = true ∧ imageOf s 2 = none ∧ (imageOf s 1).isSome = true ∧ imageStreams s 1 = 0
       ∧ grants s (wantBulk 0x0503 16 []) = true ∧ (∀ k ∈ [1#8, 7#8], keySlotOk k.toNat = true ∧ grants s (want 0x0510 (k :: zs 35)) = true
         ∧ grants s (want 0x0511 [k]) = true))
    ∧ (let s := served0 (due 1)
       (∀ n ∈ [0, 1, 4194304], jobReady s (want 0x0610 (leBytes 8 n)) = true ∧ grants s (want 0x0610 (leBytes 8 n)) = true)
       ∧ datasetBusy s 0 = false ∧ (datasetPlace s 0 1048576).isSome = true)
    ∧ (let k : Ticket := { tenant := 0, ticket := 9, what := .image 0 1 0 64 0 0 }
       let s := { served0 (due 1) with foreman := { (served0 (due 1)).foreman with tickets := [k] } }
       s.foreman.tickets.find? (fun x => x.ticket == 9) = some k) := by decide +kernel

theorem witness_JobCommandsExecute :
    (let s := stocked { ringed with ready := true } {}
     let pl := [0#8, 1#8, 6#8, 0#8] ++ leBytes 4 64 ++ [1#8, 1#8, 0#8, 0#8] ++ leBytes 4 1 ++ leBytes 8 0 ++ leBytes 8 65536 ++ List.replicate 8 0xFF#8
       ++ leBytes 8 131072 ++ leBytes 8 262144 ++ zs 8
     let r := want 0x0601 pl
     let j := jobOfBytes (begun (ask s r) 0 0x0601) 0 1 (clampJob pl).1
     r.len = 64 ∧ jobReady s r = true ∧ grants s r = true ∧ s.foreman.images.find? (fun e => e.2.tenant == 0 && e.2.id == 1) = some (1, image 4 10 [])
       ∧ s.foreman.images.find? (fun e => e.2.tenant == 0 && e.2.id == 2) = none ∧ jobFieldsOk j 1 = true ∧ jobFieldsOk j 2 = false ∧ jobDrawsOk (image 4 10 []) j = true
       ∧ (jobKinds j).all (fun kd => (scanKernel (image 4 10 []) kd j.form j.sf).isSome) = true)
    ∧ (∀ st ∈ [JobSt.queued, .running, .paused, .ended], ∀ o ∈ [0x0602, 0x0603, 0x0604, 0x0605],
       let z := stocked { ringed with ready := true } {}
       let s := { z with sched := { z.sched with jobs := [(7, { refit with st := st })] } }
       jobOf s (jobNo (want o (leBytes 2 7))) = some { refit with st := st } ∧ jobReady s (want o (leBytes 2 7)) = true
         ∧ grants s (want o (leBytes 2 7)) = true)
    ∧ (let z := stocked { ringed with ready := true } {}
       (chooseG z (image 4 10 []) refit).isSome = true ∧ chooseG z (image 4 (2 ^ 40) []) refit = none)
    ∧ 0 < flying { refit with fly := [{ phase := 4, group := 0, chunk := 0, first := 0, count := 64, index := 0, flying := true }] } := by
  decide +kernel


/-! ### States that meet the hypotheses of the statements about the Ledger and the Assayer -/

/-- String 0 with cell 0 as given. -/
def cellIs (c : LCell) (l : LString) : State :=
  let s := celled .idle {}
  { s with ledger := { s.ledger with cell := [(0, c)], str := [(0, l)] } }

theorem witness_LedgerEventsHappen :
    (celled .idle {}).shellUp = true ∧ (celled .idle {}).sys.ledgerReady = true ∧ cellString (celled .idle {}) 0 = some 0
    ∧ (lcell (cellIs { taperHit := true } {}) 0).taperHit = true
    ∧ (∀ l ∈ [LcSt.idle, .running], let s := cellIs { emptyCnt := 255 } { lc := l }
       emptyNow s 0 0 = true ∧ (lstr s 0).lc = l)
    ∧ (∀ q ∈ [0, 10 ^ 18], let s := cellIs { cL := 1000, valid := true, emptyCnt := 255 } { lc := .running, lcAbsQ := q }
       emptyReasons (s.at 100) 0 = if q = 0 then [] else [4])
    ∧ (let s := cellIs {} { termDue := true }
       strOn s 0 = true ∧ (lstr s 0).termDue = true)
    ∧ (∀ l ∈ [LcSt.armed, .running], let s := cellIs {} { lc := l, restSince := some 0 }
       (lstr s 0).lc = l ∧ (lstr s 0).lcAt + secs (3600 * (strSet s 0).lcTmax) < 10 ^ 15 ∧ (lstr s 0).restSince = some 0
         ∧ (lstr s 0).tempAt + secs 60 < 10 ^ 15 ∧ max (lstr s 0).recAt (lstr s 0).lcAt + secs 2 ≤ secs 2)
    ∧ (let s := cellIs {} { chargedAt := some 0 }
       let z := { s with ledger := { s.ledger with set := [(0, { strSet s 0 with termSrc := 8 })] } }
       (strSet z 0).termSrc = (7 : Fin 8).val + 1 ∧ (lstr z 0).chargedAt = some 0 ∧ strOn z 0 = true)
    ∧ (let s := celled .idle {}
       (lmem { s with ledger := { s.ledger with mem := [(0, { absentSince := some 0 })] } } 0).absentSince = some 0)
    ∧ (celled .idle {}).ledger.snapAt + secs 59 ≤ secs 59 ∧ betweenSweeps (celled .idle {}) = true
    ∧ (let s := celled .armed {}
       let z := { s with sys := { s.sys with ledgerReady := false } }
       z.sys.boot = .parallel ∧ z.sys.ledgerReady = false ∧ cellOn z 0 = true) := by decide +kernel

/-- The Assayer with an estimate of cell 0 waiting and a value held for it. -/
def assaying (bytes : List Byte) (held : List Held) : State :=
  let s := celled .idle {}
  { s with
    assayer := { s.assayer with
      inbox := [{ cell := 0, seq := 3, flags := 0, step := 0, sat := false, nan := false, behind := false, entry := bytes }]
      cells := [(0, { held := held })] }
    sched := { s.sched with streams := [(0, { due 0 with feed := true, out := 0 })] } }
/-- One half, one ten-thousandth and one, in single precision. -/
def half : List Byte := leBytes 4 0x3F000000 ++ leBytes 4 0x38D1B717 ++ leBytes 4 0x3F800000
/-- A value held with sequence number 3. -/
def held3 (v : Bool) : Held := { seq := 3, qRem := 1, cL := 1000, uC := 0, valid := v, current := none, indicator := false, done := false, at_ := 0, rtc := 0 }

theorem witness_AssayerEvaluatesAndReports :
    (∀ h ∈ [[], [held3 true], [held3 false]], let s := assaying half h
       s.shellUp = true ∧ s.sys.assayerReady = true ∧ (s.assayer.inbox.map (fun e => (e.cell, e.behind, e.seq))) = [(0, false, 3)]
         ∧ streamStale s 0 = false ∧ (acell s 0).held.find? (fun v => v.seq == 3 && !v.done) = h.head?)
    ∧ (∀ e ∈ (assaying half []).assayer.inbox, (estimateOf e).isSome = true) ∧ (∀ e ∈ (assaying (leBytes 4 0x7FC00000) []).assayer.inbox, estimateOf e = none)
    ∧ (let s := celled .idle {}
       let z := { s with assayer := { s.assayer with cells := [(0, { evtWant := true, evtAt := none, stale := false, evalAt := none })] } }
       classDue z 0 = true ∧ learnedOld z 0 = true ∧ (z.port 0).events.length < 64 ∧ z.sys.ctrlUp = true)
    ∧ (let s := celled .idle {}
       disDue (s.at (secs 10)) { below := true, dis := false, since := some 0 } = true)
    ∧ (∀ b ∈ [true, false], let s := celled .idle {}
       let z := { s with assayer := { s.assayer with chans := [(15, { en := b, nextAt := some 0 })] } }
       (rchan z 15).en = b ∧ (rchan z 15).nextAt = some 0)
    ∧ readyBit (celled .idle {}) 1 = true ∧ serves 0x0701 (zs 4) = true
    ∧ (∀ n ∈ [0#8, 15#8, 16#8], serves 0x0702 (n :: zs 7) = true ∧ serves 0x0703 [n] = true)
    ∧ objOk (celled .idle {}) 0 0 = true ∧ objOk (celled .idle {}) 0 1 = false ∧ serves 0x0704 [0#8, 0#8] = true
    ∧ cellOn (celled .idle {}) 0 = true ∧ cellOn (celled .idle {}) 2304 = false := by decide +kernel


/-! ### States that meet the hypotheses of the statements about the fabric -/

/-- The block with its fabric as given. -/
def fabbed (f : Fabric) : State := let s := stocked { ringed with ready := true } {}; { s with fabric := f }
/-- The fabric with link 0 as given and link 5 UP. -/
def linked (x : Link) : Fabric := { State.reset.fabric with links := [x, {}, {}, {}, {}, { st := .up, neigh := some 9 }], node := 1, ready := true }

theorem witness_LinksTrain :
    (∀ st ∈ [LinkSt.detect, .exchange, .align, .down, .up], ∀ one ∈ [true, false], ∀ n ∈ [1, 2], ∀ r ∈ [1, 2],
       let x : Link := { st := st, single := one, fails := n, rate := r, neigh := some 3, retryAt := 0 }
       let s := fabbed (linked x)
       s.shellUp = true ∧ s.fabric.links[(0 : Fin 6).val]? = some x ∧ x.since + 384000 ≤ 384000 ∧ x.neighAt + 14400000 ≤ 14400000
         ∧ x.dropped = false ∧ x.retryAt ≤ 2400000)
    ∧ (7#32).toNat ≠ (fabbed (linked {})).sys.fuses.serial % 2 ^ 32
    ∧ linkLanes 4 15 ≠ 0 ∧ linkLanes 4 0 = 0 := by decide +kernel

/-- A frame from node 2 to node d. -/
def fabIn (type flags d ttl : Nat) (pl : List Byte) : List Byte := fabFrame type flags 2 d ttl 9 6 pl

theorem witness_FabricFramesArrive :
    (let f := { linked { st := .up } with routes := [(3, { primary := 5, alt := 0xFF, cost := 1, hops := 1 })], role := .manager, node := 1 }
     let s := fabbed f
     frameOk (fabIn 1 2 0xFF 64 [] ++ [0#8]) = false
       ∧ (∀ k ∈ [1, 2, 3, 4], frameOk (fabIn k 1 1 64 (zs 12)) = true ∧ (fabOf (fabIn k 1 1 64 (zs 12))).type = k
          ∧ (fabOf (fabIn k 1 1 64 (zs 12))).serial = 9 ∧ (fabOf (fabIn k 1 1 64 (zs 12))).seq = 6)
       ∧ 9 ≠ s.sys.fuses.serial ∧ heldSeq s 9 2 = none ∧ s.fabric.role = .manager ∧ s.fabric.table_.length < 64
       ∧ (fabOf (fabIn 4 0 1 64 [0#8, 1#8])).dst = s.fabric.node ∧ byteAt (fabOf (fabIn 4 0 1 64 [0#8, 1#8])).payload 1 = 1
       ∧ (∀ d ∈ [3, 4], ∀ ttl ∈ [1, 2], routedOn s (fabOf (fabIn 4 0 d ttl [])) = true ∧ frameOk (fabIn 4 0 d ttl []) = true)
       ∧ routeLink s 3 = some 5 ∧ routeLink s 4 = none)
    ∧ (let s := fabbed { linked { st := .up } with seqs := [{ serial := 9, type := 2, seq := 6 }], window := some 5 }
       heldSeq s 9 2 = some 6 ∧ newer 6 6 = false ∧ newer 6 7 = true ∧ s.fabric.window.isSome = true) := by decide +kernel

theorem witness_FabricKeepsTime :
    (let s := fabbed (linked { st := .up, neigh := some 3 })
     s.sys.boot = .parallel ∧ s.fabric.lastNeigh + 4800000 ≤ 4800000 ∧ upLinks s = [0, 5])
    ∧ helloIsDue ((fabbed { linked { st := .up } with helloWant := true }).at 48000000) = true
    ∧ (let f := { linked { st := .up } with role := .worker, manager := 2, node := 1 }
       f.role = .worker ∧ f.manager ≠ 0xFF ∧ f.node ≠ 0xFF ∧ f.lastSummary + 47952000 ≤ 47952000 ∧ f.lastBeacon + 48000000 ≤ 48000000)
    ∧ (let f := { linked { st := .up } with
         lists := [{ serial := 3, prio := 0, role := 0, node := 3, at_ := 0, links := [] }], floodAt := [(3, 0)], hold := true
         holdEnd := some 7, window := some 7, waitEnd := some 7, lease := some 7, dirty := some 0 }
       (∃ h ∈ f.lists, h.serial = (3#64).toNat ∧ h.at_ + 144000000 ≤ 144000000) ∧ (∃ e ∈ f.floodAt, e.1 = (3#64).toNat ∧ e.2 + 144000000 ≤ 144000000)
         ∧ f.hold = true ∧ f.holdEnd = some 7 ∧ f.window = some 7 ∧ f.waitEnd = some 7 ∧ f.lease = some 7 ∧ f.dirty.isSome = true)
    ∧ (∀ p ∈ [0, 255], let f := { linked { st := .up } with heard := [(9, p)], prio := 1 }
       f.heard.all (fun h => outranks (f.prio, 77) (h.2, h.1)) = (p == 0))
    ∧ (let s := fabbed { linked {} with links := List.replicate 6 {}, aloneSince := some 0, role := .worker }
       upLinks s = [] ∧ s.fabric.aloneSince = some 0 ∧ s.fabric.role ≠ .single) := by
  refine ⟨by decide +kernel, by decide +kernel, by decide +kernel, ?_, by decide +kernel, by decide +kernel⟩
  exact ⟨⟨_, List.mem_cons_self .., rfl, by decide⟩, ⟨_, List.mem_cons_self .., rfl, by decide⟩, rfl, rfl, rfl, rfl, rfl, rfl⟩

theorem witness_FabricCommandsExecute :
    (let s := fabbed (linked { st := .disabled })
     readyBit s 6 = true ∧ grants s (want 0x0901 []) = true ∧ grants s (wantBulk 0x0902 256 []) = true ∧ bulkIs (wantBulk 0x0902 256 []) 256 = true
       ∧ (∀ m ∈ [0#8, 63#8, 255#8], grants s (want 0x0910 [0#8, m, 0#8, 0#8]) = true)
       ∧ (∀ l ∈ [0#8, 5#8, 6#8], grants s (want 0x0911 [l]) = true) ∧ natBit s.sys.fuses.links 5 = true
       ∧ s.fabric.links[(5 : Nat)]?.isSome = true) := by decide +kernel


/-! ### States that meet the hypotheses of the statements about the flash, the boot, the guards and the host ports -/

/-- The running block with its system state as given. -/
def sysIs (f : Sys → Sys) : State := let s := stocked { ringed with ready := true } {}; { s with sys := f s.sys }
def runs : State := sysIs id
/-- A journal generation under way. -/
def gen (part : Nat) (erased : Bool) : GenRun := { seq := 1, area := 0, staging := [], rtc := 0, rtcValid := true, erased := erased, part := part, waiters := [] }

theorem witness_JournalRowsHappen :
    runs.shellUp = true ∧ journalFree runs = true ∧ cadenceDue (runs.at (secs 86400)) = true
    ∧ (let s := { runs with journal := { runs.journal with want := true } }
       s.journal.want = true ∧ spacingDone (s.at 0) = true ∧ journalFree s = true)
    ∧ (∀ n ∈ [0, 7, 8], ∀ e ∈ [true, false], ∀ g ∈ [none, some 7],
       let s := { runs with journal := { runs.journal with run := some (gen n e), grace := g } }
       s.journal.run = some (gen n e) ∧ s.journal.grace = g ∧ s.journal.wantNow = false)
    ∧ (∀ w ∈ [Deferred.patch [1#8], .store 15 64 0], let k : Ticket := { tenant := 0, ticket := 3, what := w }
       [k].find? (fun k => (isPatch k).isSome || (isStore k).isSome) = some k) := by decide +kernel

/-- A patch image of one block. -/
def patchImage : List Byte := leBytes 4 0x50464C56 ++ leBytes 2 3 ++ leBytes 2 0 ++ leBytes 4 0 ++ leBytes 4 64 ++ zs 112 ++ zs 64

theorem witness_FlashCommandsExecute :
    readyBit runs 5 = true ∧ ticketsOf runs 0 < 4 ∧ journalFree runs = true
    ∧ (∀ o ∈ [0x0A01, 0x0A05], grants runs (want o []) = true)
    ∧ (∀ b ∈ [true, false], (sysIs (fun y => { y with thermal := { y.thermal with nvm := b } })).sys.thermal.nvm = b)
    ∧ (let s := { runs with foreman := { runs.foreman with tickets := List.replicate 4 { tenant := 0, ticket := 3, what := .shutdown } } }
       4 ≤ ticketsOf s 0)
    ∧ (∀ o ∈ [0, 94208, 98432, 1], grants runs (wantBulk 0x0A02 4096 (leBytes 4 o)) = true)
    ∧ (∀ n ∈ [0, 98560, 98561], grants runs (want 0x0A03 (leBytes 4 n)) = true) ∧ patchWhole patchImage = true ∧ patchWhole [] = false
    ∧ grants runs (want 0x0A04 (zs 4)) = true
    ∧ (∀ n ∈ [0x800000, 0x800001, 64], grants runs (want 0x0A06 (zs 4 ++ leBytes 4 n ++ zs 8)) = true)
    ∧ (∀ o ∈ [0, 32760, 32761], grants runs (wantBulk 0x0A07 8 (leBytes 2 o ++ leBytes 2 8)) = true)
    ∧ (let s := { runs with flash := { runs.flash with density := some 0x10000000 } }
       slotThere s 15 = true ∧ slotThere s 16 = false ∧ inDataset s 0 0 64 = true ∧ inDataset s 0 1 0x800000 = false) := by
  decide +kernel

theorem witness_GessoBringsUp :
    State.reset.sys.boot = .off ∧ State.reset.sys.thermal.abs = false
    ∧ ([(0 : BitVec 288), 1, 2].map (fun r => r.toNat)).find? fuseCrcOk = none
    ∧ (let v := 7 * 65536 + crc16 (beBytes 34 7)
       ([(0 : BitVec 288), BitVec.ofNat 288 v].map (fun r => r.toNat)).find? fuseCrcOk = some v)
    ∧ (∀ b ∈ [Boot.pll, .kaCheck, .parallel], (sysIs (fun y => { y with boot := b })).sys.boot = b)
    ∧ (let s := { runs with flash := { runs.flash with density := none } }
       readyBit s 5 = false)
    ∧ (let s := sysIs (fun y => { y with locked := [.pllT, .pllS, .pllC] })
       s.shellUp = true ∧ s.sys.locked.contains .pllT = true)
    ∧ (let s := sysIs (fun y => { y with locked := [.pllS, .pllC], lost := [.pllT] })
       s.sys.lost.contains .pllT = true ∧ s.shellUp = true ∧ s.sys.boot = .parallel) := by decide +kernel

/-- The running block with bench 3 as given. -/
def benched (x : Bench) : State := sysIs (fun y => { y with benches := modAt y.benches 3 (fun _ => x) })

theorem witness_BlocksStart :
    (∀ p ∈ [BenchPhase.off, .opening, .testing], let s := benched { phase := p }
     s.shellUp = true ∧ s.sys.benches[(3 : Fin 4).val]? = some { phase := p } ∧ s.sys.computeUp = true
       ∧ ({ phase := p } : Bench).wave ≤ 0 ∧ ({ phase := p } : Bench).openAt + 19200 ≤ 19200 ∧ s.sys.thermal.shut = false)
    ∧ (∀ b ∈ [true, false], (sysIs (fun y => { y with ctrlUp := b })).sys.ctrlUp = b)
    ∧ (let s := sysIs (fun y => { y with stippleOk := false, stippleBad := none })
       s.sys.stippleOk = false ∧ s.sys.stippleBad = none ∧ (BitVec.ofNat 72 (classState 0 0)).toNat = classState 0 0
         ∧ (BitVec.ofNat 72 (classState 0 1)).toNat = classState 0 1 ∧ (BitVec.ofNat 72 (classState 0 2)).toNat = classState 0 2)
    ∧ (let s := sysIs (fun y => { y with
         locked := [.pllM0, .pllM1], channels := [{}, { up := true, mib := 4096, regions := [.testing] }]
         fuses := { y.fuses with dramMib := 8192 } })
       mayTrain 0 4096 (s.at 0) = true ∧ s.sys.channels[(1 : Fin 2).val]?.isSome = true ∧ (s.chan 1).up = true) := by decide +kernel

theorem witness_GuardsAct :
    kickMissed (runs.at (ms 100)) = true
    ∧ (let s := { runs with foreman := { runs.foreman with urgent := [(want 0x0801 [], 0)] } }
       urgentLate (s.at 4800) = true)
    ∧ (let s := { runs with tiles := [(0, { run := some run0 })] }
       stepLate 0 (s.at (10 ^ 12)) = true)
    ∧ (let s := planned (due 0)
       dispatchLate 0 (s.at 4800) = true ∧ (s.bench ((s.stream 0).tile / 16)).phase = .live)
    ∧ (∀ p ∈ [((1000 : Int), 5), (949, 15)], let s := sysIs (fun y => { y with thermal := { y.thermal with tj := some p.1, ceil := p.2 } })
       s.sys.thermal.tj = some p.1 ∧ s.sys.thermal.ceil = p.2 ∧ s.sys.thermal.ceilAt + 4800000 ≤ 4800000)
    ∧ (let s := sysIs (fun y => { y with gov := { y.gov with hold := true, lowSince := some 0, overSince := some 0, shares := [5, 0, 0, 0] } })
       releaseDue (s.at (ms 10)) = true ∧ decreaseDue (s.at (ms 1)) = true
         ∧ leastBy (fun (a b : Nat) => decide (s.sys.gov.shares.getD b 0 < s.sys.gov.shares.getD a 0)) (poweredBenches s) = some 0
         ∧ 1 < (s.bench 0).k)
    ∧ (let s := sysIs (fun y => { y with
         benches := modAt y.benches 0 (fun b => { b with k := 2 }), gov := { y.gov with quietSince := some 0 } })
       raiseDue (s.at (ms 100)) = true ∧ leastBy (fun (a b : Nat) => decide ((s.bench a).k < (s.bench b).k)) (poweredBenches s) = some 0
         ∧ (s.bench 0).k < min 16 s.sys.thermal.ceil)
    ∧ (∀ t ∈ [(1219 : Int), 1220], hottest [300, t] = some (t, 1)) ∧ runs.sys.thermal.abs = false
    ∧ (sysIs (fun y => { y with thermal := { y.thermal with abs := true } })).sys.thermal.abs = true := by decide +kernel

/-- Mailbox 0 with the header of a request in its window. -/
def posted (op flags : Nat) (p : TenantPort) : State :=
  { runs with ports := [(0, { p with req := cells 0 (leBytes 2 op ++ leBytes 1 flags) })] }

theorem witness_MailboxesCarryMessages :
    (∀ b ∈ [true, false], ∀ o ∈ [0x0101, 0x7777], let s := posted o 0 { reqPend := b }
     s.shellUp = true ∧ s.sys.ctrlUp = true ∧ (s.port 0).reqPend = b ∧ (reqAt s 0).opcode = o
       ∧ urgentOk 0 (reqAt s 0).flags (reqAt s 0).opcode = false ∧ (s.port 0).inflight < 4)
    ∧ (let s := posted 0x0801 1 {}
       urgentOk 0 (reqAt s 0).flags (reqAt s 0).opcode = true ∧ s.foreman.urgent = [])
    ∧ natBit (1#32).toNat 0 = true ∧ natBit (0#32).toNat 0 = false ∧ natBit (0xA#32).toNat 1 = true
    ∧ opcodes.contains 0x0101 = true ∧ opcodes.contains 0x7777 = false
    ∧ (nextMessage runs { replies := [{ opcode := 0x0101 }] }).isSome = true ∧ (nextMessage runs { lost := 1 }).isSome = true
    ∧ (∀ b ∈ [true, false], let p := ((posted 0x0101 0 { rspReady := true, new := { at_ := 7, rsp := b } }).port 0)
       p.rspReady = true ∧ (setNow 7 p).rsp = b) := by decide +kernel

theorem witness_InterruptsAndPcieAct :
    (∀ c ∈ [true, false], ∀ d ∈ [true, false], let s := { runs with pcie := { runs.pcie with configured := c, d3 := d } }
     s.shellUp = true ∧ s.pcie.configured = c ∧ s.pcie.d3 = d ∧ s.pcie.bars.length = 6)
    ∧ (let s := { runs with
         ports := [(15, { intMask := 1023, reqTaken := true })]
         pcie := { runs.pcie with msixEn := true, msix := List.replicate 16 { mask := true, pend := true } } }
       s.pcie.msix[(15 : Fin 16).val]? = some { mask := true, pend := true } ∧ s.pcie.d3 = false ∧ intPending s 15 = true) := by decide +kernel

/-- The block as a PCIe function that decodes memory. -/
def decoded : State := { runs with pcie := { runs.pcie with configured := true, memEn := true } }

theorem witness_HostAccessesAreServed :
    memDecoded decoded = true ∧ memDecoded runs = false ∧ portOpen decoded .pcie = true ∧ portOpen runs .shp = true
    ∧ readAllowed 0x1FFC 4 = true ∧ readAllowed 0x1FFC 8 = false ∧ readAllowed 0xFFFF 1 = true ∧ readAllowed 0xFFFF 2 = false
    ∧ writeAllowed 4 (List.replicate 4 (true, 0#8)) = true ∧ writeAllowed 4 (List.replicate 8 (true, 0#8)) = false
    ∧ writeAllowed 0x2000 [(true, 0#8)] = true ∧ writeAllowed 0x3FFF [(true, 0#8)] = true
    ∧ bar2Allowed 4095 1 = true ∧ bar2Allowed 4095 2 = false ∧ bar2Allowed 0 256 = true ∧ bar2Allowed 0 257 = false
    ∧ (datasetAt decoded 0 256).isSome = true ∧ (datasetAt decoded 4194303 1).isSome = true ∧ datasetAt decoded 4194304 1 = none := by
  decide +kernel

/-- A frame of the serial host port with both its CRCs: CMD, address, words less one, data. -/
def shp (cmd : Byte) (addr len : Nat) (data : List Byte) : ShpFrame :=
  { cmd := cmd, addr := BitVec.ofNat 40 addr, len := BitVec.ofNat 8 len, data := data
    hcrc := BitVec.ofNat 16 (crc16 (cmd :: (leBytes 5 addr).reverse ++ leBytes 1 len)), dcrc := BitVec.ofNat 16 (crc16 data) }

theorem witness_SerialPortAnswers :
    (∀ c ∈ [0x06#8, 0x26#8, 0x46#8, 0x66#8], let f := shp c 0 0 (zs 4)
     runs.shellUp = true ∧ f.complete = true ∧ f.hcrc.toNat = crc16 (f.cmd :: (leBytes 5 f.addr.toNat).reverse ++ [f.len])
       ∧ shpHeadBad f = false ∧ shpAllowed f = true ∧ shpOp f = c.toNat / 64 ∧ shpDataset f = natBit c.toNat 5
       ∧ f.data.length = 4 * (f.len.toNat + 1) ∧ f.dcrc.toNat = crc16 f.data)
    ∧ shpHeadBad (shp 0x86#8 0 0 []) = true ∧ shpHeadBad (shp 0x06#8 0 64 []) = true ∧ shpHeadBad (shp 0x06#8 2 0 []) = true
    ∧ shpAllowed (shp 0x06#8 0x1FFC 1 []) = false
    ∧ (let f := { shp 0x46#8 0 0 (zs 4) with dcrc := 0x1234#16, hcrc := 0x1234#16, complete := false }
       f.complete = false ∧ f.hcrc.toNat ≠ crc16 (f.cmd :: (leBytes 5 f.addr.toNat).reverse ++ [f.len]) ∧ f.dcrc.toNat ≠ crc16 f.data)
    ∧ (datasetAt runs 0 4).isSome = true := by decide +kernel

theorem witness_RequestChecksGoInOrder :
    nextReq (runs.at 0) = none
    ∧ (∀ r ∈ [want 0x0110 [], want 0x0110 [10#8], { want 0x0110 [10#8] with tenant := 1 }, { want 0x0110 [10#8] with busy := true },
        want 0x0301 (zs 32)], nextReq ((ask runs r).at 0) = some r)
    ∧ lenIs 1 (want 0x0110 []) = false ∧ lenIs 1 (want 0x0110 [10#8]) = true ∧ tenantOn runs 0 = true ∧ tenantOn runs 1 = false
    ∧ readyBit (sysIs (fun y => { y with ledgerReady := false })) 0 = false ∧ readyBit runs 0 = true
    ∧ (sysIs (fun y => { y with ctrlUp := false })).sys.ctrlUp = false := by decide +kernel

/-! ### The statements about every command: a command of each kind they name -/

theorem witness_InterruptLinesFollow : rumbeOf (.eopenNAccept 0) = none ∧ rumbeOf (.ident 0) = none := by decide

theorem witness_ReadingsChangeNothing : (∃ u, exec (.ident 0) State.reset = .next u) ∧ ∃ u, exec (.kAdd 0) State.reset = .next u :=
  ⟨⟨_, rfl⟩, ⟨_, rfl⟩⟩

theorem witness_StepKeepsInv : step State.reset = .next State.reset ∧ ∀ c ∈ [Instr.rumbePor 0 dev, .ident 0, .kAdd 63], c.wf = true := by
  exact ⟨rfl, by decide⟩

theorem witness_FamiliesStayApart :
    (∃ u, exec (.kAdd 0) State.reset = .next u) ∧ ∃ u, exec (.linkRetry 0 5) State.reset = .next u := ⟨⟨_, rfl⟩, ⟨_, rfl⟩⟩


/-! ### The spec's own vectors and worked examples -/

/-- The digits 1 to 9 in ASCII. -/
def digits : List Byte := [0x31#8, 0x32#8, 0x33#8, 0x34#8, 0x35#8, 0x36#8, 0x37#8, 0x38#8, 0x39#8]
/-- 06 R125: the check value of the frame CRC. -/
theorem test_crc16_check_value : crc16 digits = 0x29B1 := by decide +kernel
/-- 14 R333: SHA-512 of the three bytes "abc", as FIPS 180-4's example gives it. -/
theorem test_sha512_abc :
    beNat (sha512 [0x61#8, 0x62#8, 0x63#8]) =
      0xDDAF35A193617ABACC417349AE20413112E6FA4E89A97EA20A9EEEE64B55D39A2192992A274FC1A836BA3C23A3FEEBBD454D4423643CE80E2A9AC94FA54CA49F := by
  decide +kernel
/-- 14 R333: RFC 8032, 7.1, TEST 1: a signature of the empty message. -/
theorem test_ed25519_vector :
    ed25519 (beBytes 32 0xD75A980182B10AB7D54BFED3C964073A0EE172F3DAA62325AF021A68F707511A) []
      (beBytes 64 0xE5564300C360AC729086E2CC806E828A84877F1EB8E5D974D873E065224901555FB8821590A33BACC61E39701CF9B46BD25BF5F0595BBE24655141438E7A100B)
      = true := by decide +kernel
/-- 06 6.1: the bits of a byte go out least significant first, 0 as H then L and 1 as L then H. -/
theorem test_line_code :
    lineChips [0x05#8] = [.l, .h, .h, .l, .l, .h, .h, .l, .h, .l, .h, .l, .h, .l, .h, .l] := by decide
/-- 20: the check value of the CRC-32. -/
theorem test_crc32_check_value : crc32 digits = 0xCBF43926 := by decide +kernel
/-- 06 R126: LEN 0, 2 and 240 last 6.0, 7.33 and 166.0 microseconds. -/
theorem test_frame_times : frameTime 0 = 288 ∧ frameTime 2 = 352 ∧ frameTime 240 = 7968 := by decide
/-- 12 Table 12-5: the class states of the zero key. -/
theorem test_stipple_zero_key : (List.range 3).map (classState 0) = [0x17B1DCDAF, 0x2A1B965F4, 0x88009454F] := by decide +kernel
/-- 12 Worked example 12-1: elements 0, 1, 2, 16 and 32. -/
theorem test_stipple_words :
    [0, 1, 2, 16, 32].map (stipWord ((List.range 16).map (classState 0))) = [0xF5B3, 0x2FA6, 0xF2A2, 0xB8DE, 0xBC2C] := by
  decide +kernel
/-- 09 Worked example 9-1: the index, the lane to nearest, and the lane under the words 0x1234 and 0x8000. -/
theorem test_act_lane :
    let y := flAdd (flMul (ofBf16 0x3E69) (ofFp32 0x3FA66666)) (ofBf16 0x3F10)
    actIndex 3 (ofFp32 0x3FA66666) = 37 ∧ (flInto true .nearest y).bits = 0x3F5C ∧ (flInto true (.stoch 0x1234) y).bits = 0x3F5B
      ∧ (flInto true (.stoch 0x8000) y).bits = 0x3F5C := by decide +kernel
/-- 20 Worked example 20-1: the record of a cell 5 days after its taper anchor. -/
theorem test_cell_record :
    cellRecord (State.reset.at (432000 * 48000000))
      { qRem := 200000000000, cL := 974250, a := 216000000000, uX := 0, uOfs := 1728000000000, anchorAt := some 0, kind := 1, valid := true }
      = [0xAA#8, 0xDD#8, 0x0E#8, 0xB6#8, 0x1F#8, 0x49#8, 0x01#8, 0x91#8] := by decide +kernel
/-- 13 Worked example 13-1: the uncertainty of the resting cell. -/
theorem test_cell_uncertainty : uCof { cL := 1000000, a := 216000000000, uOfs := 8640000000000, valid := true } = 350 := by decide +kernel
/-- 24 Worked example 24-1: QB_7, QB_8 and QMB as the registers show them. -/
theorem test_balance_counters :
    let r : Rumbe := { bal := { qb := (List.replicate 18 0).set 6 (-180000000), qmb := 8933333 } }
    regWords r dev 0x72 4 = [0x6B00, 0xF545, 0xFFFF, 0] ∧ regWords r dev 0x96 3 = [0x4FD5, 0x0088, 0] := by decide +kernel

/-- The payload of 15 Worked example 15-1 and the request that carries it. -/
def quota : List Byte :=
  [0x05#8, 0x01#8, 0x0C#8, 0x00#8, 0xE0#8, 0x93#8, 0x04#8, 0x00#8, 0x5F#8, 0x00#8, 0x00#8, 0x00#8, 0x80#8, 0x00#8, 0x00#8, 0x00#8,
   0x00#8, 0x01#8, 0x00#8, 0x00#8]
/-- 15 Worked example 15-1: tenant 5 as enabled, and the answer CLAMPED with its payload. -/
theorem test_set_tenant_clamps :
    (match exec (.setTenant 0) (ask runs { want 0x0120 quota with tag := 0x31 }) with
      | .next u => tblGet {} u.foreman.tenants 5 == { en := true, qStreams := 12, qPal := 262144, qShare := 90, qDram := 128, qQueue := 256 }
        && ((u.port 0).replies.map (fun m => (m.status, m.tag, m.clampN, m.payload))) == [(1, 0x31, 2,
          [0x05#8, 0x01#8, 0x0C#8, 0x00#8, 0x00#8, 0x00#8, 0x04#8, 0x00#8, 0x5A#8, 0x00#8, 0x00#8, 0x00#8, 0x80#8, 0x00#8, 0x00#8, 0x00#8,
           0x00#8, 0x01#8, 0x00#8, 0x00#8, 0x04#8, 0x00#8, 0x02#8, 0x00#8, 0x00#8, 0x00#8, 0x04#8, 0x00#8,
           0x08#8, 0x00#8, 0x02#8, 0x00#8, 0x5A#8, 0x00#8, 0x00#8, 0x00#8])]
      | _ => false) = true := by decide +kernel
/-- 16 Worked example 16-1: the queue depth rises to 16 and its entry says why. -/
theorem test_stream_start_clamps :
    (clampStart runs (want 0x0401
      ([0x00#8, 0x08#8, 0x01#8, 0x00#8, 0x01#8, 0x00#8, 0x04#8, 0x01#8, 0x25#8, 0x00#8, 0x00#8, 0x00#8] ++ zs 4
        ++ [0x80#8, 0x0C#8, 0x00#8, 0x00#8, 0x78#8, 0x56#8, 0x34#8, 0x12#8] ++ zs 4 ++ [0x25#8, 0x00#8, 0xFF#8, 0x00#8]))).2
      = [(6, 6, 16)] := by decide +kernel
/-- A step that issues K_ADD writes X8 one cycle later (09 Table 9-5, 08 Worked example 8-1: 1 + 1 = 2). -/
theorem test_addi_lands :
    (match exec (.addi 0) (running { run0 with x := [(5, 1)] } 6 (op 6 (8 * 2 ^ 52 + 5 * 2 ^ 48 + 1))) with
      | .next u => ((u.tile 0).run.map (fun r => r.flight)).any (fun l => l.any (fun f => f.dest == .x 8 2))
      | _ => false) = true := by decide +kernel
/-- 04: GATE CLOSE of a head without pre-charge starts its ramp; without HEAD_EN it stays OPEN. -/
theorem test_gate_close :
    (match exec (.gateClose 0 dev (frame 0xA [1#8])) (withRumbe { devId := 1, head := { headEn := true, pchgEn := false } }) with
      | .next u => (u.rumbe dev).gate.st != .open
      | _ => false) = true
    ∧ (match exec (.gateClose 0 dev (frame 0xA [1#8])) (withRumbe { devId := 1 }) with
      | .next u => (u.rumbe dev).gate.st == .open
      | _ => false) = true := by decide +kernel

end Sys2Proof.Tests
end

section
/-! What every Rumbe is like after POR (00 R12, 24 Table 24-11): the words of its registers, and that it is safe. Every Rumbe
of the state after reset is one. -/

namespace Sys2Proof.Machine

/-- No Rumbe is listed in the state after reset, so each one is as POR leaves it. -/
theorem reset_rumbe (d : Dev) : State.reset.rumbe d = rumbeAfterPor d 0 := rfl

/-- Its register words are the Reset values of 24 Table 24-11. -/
theorem regWords_rumbeAfterPor (d : Dev) (now : Nat) :
    let r := rumbeAfterPor d now
    regWords r d 0x06 4 = [0, 0, 1, 8] ∧ regWords r d 0x0A 5 = [0, 0, 0, 0, 0]
      ∧ regWords r d 0x10 13 = [18, 42500, 25000, 500, 2, 0xFF, 3435, 0x1100, 0x3222, 0x5443, 0x6665, 0x77, 0xFF]
      ∧ regWords r d 0x20 11 = [0, 0, 100, 8, 3, 1, 1, 1000, 50, 1000, 0] ∧ regWords r d 0x30 4 = [0, 128, 100, 6000] := by
  simp [regWords, List.range_succ, regWord, settingWord, rumbeAfterPor, wordOf, b2n]

/-- A Rumbe after POR is safe: its gates are OPEN, no transfer runs, its thresholds are apart and its buffers empty. -/
theorem rumbeSafe_rumbeAfterPor (d : Dev) (now : Nat) : RumbeSafe (rumbeAfterPor d now) := by
  have hOpen : (rumbeAfterPor d now).gate.st = .open := rfl
  have hIdle : (rumbeAfterPor d now).bal.phase = .idle := rfl
  refine ⟨fun h => absurd hOpen h, fun _ => hIdle, ?_⟩
  simp [rumbeAfterPor]

/-! ### The state after reset -/

/-- Settles O54: each Rumbe of the state after reset is one after POR, whose words are the Reset values. -/
theorem resetState : Obligations.ResetState := by
  refine ⟨rfl, rfl, rfl, rfl, fun d => ?_⟩
  rw [reset_rumbe]
  exact ⟨rfl, rfl, regWords_rumbeAfterPor d 0⟩

/-- Settles O58: each Rumbe is one after POR, which is safe, and nothing waits. -/
theorem invAtReset : Obligations.InvAtReset := by
  refine ⟨fun d => ?_, fun c hc => ?_⟩
  · rw [reset_rumbe]
    exact rumbeSafe_rumbeAfterPor d 0
  · exact absurd hc List.not_mem_nil

end Sys2Proof.Machine
end

section
/-! What fires when a Rumbe's due steps happen changes neither which Rumbe it is nor the time. -/

namespace Sys2Proof.Machine

@[simp] theorem urgentOut_dev (c : RCtx) (p : RPort) (e : Nat) (u : UFrame) : (urgentOut c p e u).dev = c.dev := rfl

@[simp] theorem sendUrgent_dev (c : RCtx) (p : RPort) (bs : List Byte) : (sendUrgent c p bs).dev = c.dev := by
  simp only [sendUrgent]
  split
  · rfl
  · rw [apply_ite RCtx.dev]
    exact ite_self _

@[simp] theorem sendAlarm_dev (c : RCtx) (code : Nat) : (sendAlarm c code).dev = c.dev := by
  simp [sendAlarm]

@[simp] theorem fireDue_now (c : RCtx) (x : RDue) : (fireDue c x).now = c.now := rfl

@[simp] theorem fireDue_dev (c : RCtx) (x : RDue) : (fireDue c x).dev = c.dev := by
  cases x with
  | assert | measFault => simp [fireDue]
  | clear | modid | rangeHg | calFrozen | curFault => rfl

theorem foldl_fireDue_now_dev (ds : List RDue) (c : RCtx) :
    (ds.foldl fireDue c).now = c.now ∧ (ds.foldl fireDue c).dev = c.dev := by
  induction ds generalizing c with
  | nil => exact ⟨rfl, rfl⟩
  | cons x ds ih => simpa using ih (fireDue c x)

@[simp] theorem settle_now (c : RCtx) : (settle c).now = c.now := (foldl_fireDue_now_dev _ _).1
@[simp] theorem settle_dev (c : RCtx) : (settle c).dev = c.dev := (foldl_fireDue_now_dev _ _).2

end Sys2Proof.Machine
end

section
/-! The steps of a Rumbe's power, reset and sleep (00 R12, 05 R117, 06 R128, R156 to R158), and the frames a sleeping Rumbe
ignores (06 R157). -/

namespace Sys2Proof.Machine

/-! ### Each step, once its condition holds -/

/-- A step whose condition holds once what had fallen due is done acts on the Rumbe as that left it. -/
theorem rumbeEvent_of_guard {c : RCtx} {guard : Rumbe → Bool} {act : RCtx → RCtx} (h : guard (settle c).r = true) :
    rumbeEvent c guard act = act (settle c) := if_pos h

/-- SOFT leaves the Rumbe as POR does, with DEV_ID kept (00 R12). -/
theorem softDo_of_due {c : RCtx} {u : Nat} (hSoft : (settle c).r.softAt = some u) (hu : u ≤ (settle c).now)
    (hN : passingOn (settle c).r.portN (settle c).now = false) (hS : passingOn (settle c).r.portS (settle c).now = false) :
    softDo false c = (settle c).into (rumbeAfterSoft (settle c).r c.dev (settle c).now) := by
  rw [softDo, rumbeEvent_of_guard (by simp_all), ← settle_dev c]
  rfl

/-- T_COMM_EXPIRY ends balancing, opens a head and sets the moment of sleep (05 R117, 06 R156). -/
theorem commExpireDo_of_due {c : RCtx} (hAwake : (settle c).r.asleep = false) (hSleep : (settle c).r.sleepAt = none)
    (hComm : (settle c).r.commAt + (settle c).r.tComm * 11400000 ≤ (settle c).now) :
    commExpireDo c = (settle c).into
      (let q := { (settle c).r with bal := balEndClear (settle c).r.bal (settle c).now 12 }
       { (if q.head.headEn then openReq q 4 (settle c).now else q) with sleepAt := some ((settle c).now + 4800) }) := by
  rw [commExpireDo, rumbeEvent_of_guard (by simp_all)]
  rfl

/-- SLEEP_ENTER ends balancing and the Rumbe is asleep (05 R117, 06 R157). -/
theorem sleepEnterDo_of_due {c : RCtx} {u : Nat} (hSleep : (settle c).r.sleepAt = some u) (hu : u ≤ (settle c).now)
    (hSweep : (settle c).r.sweep = none) (hTrig : (settle c).r.trig = none) :
    sleepEnterDo c = (settle c).into { (settle c).r with
      bal := balEndClear (settle c).r.bal (settle c).now 12, asleep := true, sleepAt := none, wakeAt := none } := by
  rw [sleepEnterDo, rumbeEvent_of_guard (by simp_all)]
  rfl

theorem portOf_wakeAt (r : Rumbe) (w : Option Nat) (p : RPort) : portOf { r with wakeAt := w } p = portOf r p := by
  cases p <;> rfl

/-- WAKE_DETECT notes the moment and sends the preamble on, out of the other port unless that one is cut (06 R158). -/
theorem wakeDetectDo_of_asleep {c : RCtx} {p : RPort} (hAsleep : (settle c).r.asleep = true)
    (hWake : (settle c).r.wakeAt = none) (hCut : (portOf (settle c).r p).cut = false) :
    wakeDetectDo p c =
      (let w := (settle c).into { (settle c).r with wakeAt := some (settle c).now }
       if (portOf (settle c).r (otherPort p)).cut then w else w.emit (.rumbePreamble c.dev (otherPort p))) := by
  rw [wakeDetectDo, rumbeEvent_of_guard (by simp_all)]
  simp [portOf_wakeAt, RCtx.upd, RCtx.into]

/-- WAKE_READY, 3 ms after the detection: the Rumbe is awake and t_comm restarts (06 R158). -/
theorem wakeReadyDo_of_due {c : RCtx} {w : Nat} (hWake : (settle c).r.wakeAt = some w) (hw : w + 144000 ≤ (settle c).now) :
    wakeReadyDo c = (settle c).into { (settle c).r with
      asleep := false, wakeAt := none, commAt := (settle c).now, woke := true } := by
  rw [wakeReadyDo, rumbeEvent_of_guard (by simp_all [perMs])]
  rfl

/-! ### A sleeping Rumbe ignores frames (06 R157) -/

theorem rxFrame_asleep {c : RCtx} (h : c.r.asleep = true) (x : Rx) (type : Nat) (rw : List Byte → List Byte)
    (act : RCtx → RCtx) : rxFrame c x type rw act = c := if_pos (by simp [h])

theorem rxUrgent_asleep {c : RCtx} (h : c.r.asleep = true) (u : URx) (act : RCtx → RCtx) : rxUrgent c u act = c :=
  if_pos (by simp [h])

theorem rxWriteOf_asleep {c : RCtx} (h : c.r.asleep = true) (x : Rx) (a : Nat) (p : Rumbe → Nat → Bool) :
    rxWriteOf x a p c = c := by
  have hWrite : rxRegWrite c x = c := rxFrame_asleep h ..
  unfold rxWriteOf
  split
  · rw [hWrite, ite_self]
  · rfl

theorem rxGate_asleep {c : RCtx} (h : c.r.asleep = true) (x : Rx) (code : Nat) (run : RCtx → RCtx × Nat × List Byte) :
    rxGate c x code run = c := by
  simp only [rxGate, rxFrame_asleep h, ite_self]

theorem rxBalance_asleep {c : RCtx} (h : c.r.asleep = true) (x : Rx) (replace : Bool) : rxBalance c x replace = c := by
  simp only [rxBalance, rxFrame_asleep h, ite_self]

theorem rxControl_asleep {c : RCtx} (h : c.r.asleep = true) (x : Rx) (code : Nat) (argOk : Nat → Bool)
    (run : Nat → RCtx → RCtx × Nat) : rxControl c x code argOk run = c := by
  simp only [rxControl, rxFrame_asleep h, ite_self]

theorem rxRepeatOnly_asleep {c : RCtx} (h : c.r.asleep = true) (x : Rx) : rxRepeatOnly c x = c := by
  simp only [rxRepeatOnly, rxFrame_asleep h, ite_self]

theorem rxUrgentCode_asleep {c : RCtx} (h : c.r.asleep = true) (u : URx) (code : Nat) (act : RCtx → RCtx) :
    rxUrgentCode c u code act = c := by
  simp only [rxUrgentCode, rxUrgent_asleep h, ite_self]

/-- A command that does `f` to a Rumbe leaves it as `f` does, and changes nothing else. -/
theorem exec_eq_afterRumbe {s : State} {t : Nat} {d : Dev} {i : Instr} {f : RCtx → RCtx} {c : RCtx}
    (hExec : exec i s = .next (onRumbe t d f s)) (hf : f (before s t d) = c) :
    exec i s = .next (afterRumbe s t d c) := by
  rw [hExec, onRumbe_eq, hf]

/-- Whatever frame reaches a sleeping Rumbe, urgent or not, only time passes. -/
theorem exec_frame_asleep {s : State} {t : Nat} {d : Dev} (h : (s.rumbe d).asleep = true) (x : Rx) (u : URx) :
    ∀ i ∈ [Instr.sweep t d x, .lateSweep t d x, .collect t d x, .readRecord t d x, .regRead t d x, .regWrite t d x,
         .headEnSet t d x, .headEnClear t d x, .shuntChange t d x, .devIdWrite t d x, .tCommWrite t d x,
         .vauxEnSet t d x, .vauxEnClear t d x, .balEnClear t d x, .enumerate t d x, .gateOpen t d x, .gateClose t d x,
         .gateChgOnly t d x, .gateDsgOnly t d x,
         .balanceAppend t d x, .balanceReplace t d x, .balStop t d x, .faultClear t d x, .softReset t d x,
         .modidAck t d x, .clearId t d x, .aspRelease t d x, .portCut t d x, .portRestore t d x, .sleep t d x,
         .ringTest t d x, .reservedFrame t d x, .eopen t d u, .strOpen t d u, .alarmCell t d u,
         .alarmMeas t d u, .alarmTrip t d u, .reservedUrgentCode t d u],
      exec i s = .next (afterRumbe s t d (before s t d)) := by
  have hb : (before s t d).r.asleep = true := h
  simp only [List.forall_mem_cons]
  exact ⟨
    exec_eq_afterRumbe (exec_sweep ..) (rxFrame_asleep hb ..),
    exec_eq_afterRumbe (exec_lateSweep ..) (rxFrame_asleep hb ..),
    exec_eq_afterRumbe (exec_collect ..) (rxFrame_asleep hb ..),
    exec_eq_afterRumbe (exec_readRecord ..) (rxFrame_asleep hb ..),
    exec_eq_afterRumbe (exec_regRead ..) (rxFrame_asleep hb ..),
    exec_eq_afterRumbe (exec_regWrite ..) (rxFrame_asleep hb ..),
    exec_eq_afterRumbe (exec_headEnSet ..) (rxWriteOf_asleep hb ..),
    exec_eq_afterRumbe (exec_headEnClear ..) (rxWriteOf_asleep hb ..),
    exec_eq_afterRumbe (exec_shuntChange ..) (rxWriteOf_asleep hb ..),
    exec_eq_afterRumbe (exec_devIdWrite ..) (rxWriteOf_asleep hb ..),
    exec_eq_afterRumbe (exec_tCommWrite ..) (rxWriteOf_asleep hb ..),
    exec_eq_afterRumbe (exec_vauxEnSet ..) (rxWriteOf_asleep hb ..),
    exec_eq_afterRumbe (exec_vauxEnClear ..) (rxWriteOf_asleep hb ..),
    exec_eq_afterRumbe (exec_balEnClear ..) (rxWriteOf_asleep hb ..),
    exec_eq_afterRumbe (exec_enumerate ..) (rxFrame_asleep hb ..),
    exec_eq_afterRumbe (exec_gateOpen ..) (rxGate_asleep hb ..),
    exec_eq_afterRumbe (exec_gateClose ..) (rxGate_asleep hb ..),
    exec_eq_afterRumbe (exec_gateChgOnly ..) (rxGate_asleep hb ..),
    exec_eq_afterRumbe (exec_gateDsgOnly ..) (rxGate_asleep hb ..),
    exec_eq_afterRumbe (exec_balanceAppend ..) (rxBalance_asleep hb ..),
    exec_eq_afterRumbe (exec_balanceReplace ..) (rxBalance_asleep hb ..),
    exec_eq_afterRumbe (exec_balStop ..) (rxControl_asleep hb ..),
    exec_eq_afterRumbe (exec_faultClear ..) (rxControl_asleep hb ..),
    exec_eq_afterRumbe (exec_softReset ..) (rxControl_asleep hb ..),
    exec_eq_afterRumbe (exec_modidAck ..) (rxControl_asleep hb ..),
    exec_eq_afterRumbe (exec_clearId ..) (rxControl_asleep hb ..),
    exec_eq_afterRumbe (exec_aspRelease ..) (rxControl_asleep hb ..),
    exec_eq_afterRumbe (exec_portCut ..) (rxControl_asleep hb ..),
    exec_eq_afterRumbe (exec_portRestore ..) (rxControl_asleep hb ..),
    exec_eq_afterRumbe (exec_sleep ..) (rxControl_asleep hb ..),
    exec_eq_afterRumbe (exec_ringTest ..) (rxControl_asleep hb ..),
    exec_eq_afterRumbe (exec_reservedFrame ..) (rxRepeatOnly_asleep hb ..),
    exec_eq_afterRumbe (exec_eopen ..) (rxUrgentCode_asleep hb ..),
    exec_eq_afterRumbe (exec_strOpen ..) (rxUrgentCode_asleep hb ..),
    exec_eq_afterRumbe (exec_alarmCell ..) (rxUrgentCode_asleep hb ..),
    exec_eq_afterRumbe (exec_alarmMeas ..) (rxUrgentCode_asleep hb ..),
    exec_eq_afterRumbe (exec_alarmTrip ..) (rxUrgentCode_asleep hb ..),
    exec_eq_afterRumbe (exec_reservedUrgentCode ..) (by simp only [rxUrgent_asleep hb, ite_self]),
    List.forall_mem_nil _⟩

/-! ### The obligation -/

/-- Settles O2: a step of a Rumbe whose condition holds does what its lemma above says to the Rumbe with what had fallen due
done; asleep, every frame leaves it as it was. -/
theorem rumbePowerSteps : Obligations.RumbePowerSteps := by
  refine ⟨fun s t d => ?_, fun s t d x u i h hi => exec_frame_asleep h x u i hi⟩
  exact ⟨exec_eq_afterRumbe (exec_rumbePor ..) rfl,
    fun _ hSoft hu hN hS => exec_eq_afterRumbe (exec_softResetExecute ..) (softDo_of_due hSoft hu hN hS),
    fun hAwake hSleep hComm => exec_eq_afterRumbe (exec_tCommExpiry ..) (commExpireDo_of_due hAwake hSleep hComm),
    fun _ hSleep hu hSweep hTrig => exec_eq_afterRumbe (exec_sleepEnter ..) (sleepEnterDo_of_due hSleep hu hSweep hTrig),
    fun _ hAsleep hWake hCut => exec_eq_afterRumbe (exec_wakeDetect ..) (wakeDetectDo_of_asleep hAsleep hWake hCut),
    fun _ hWake hw => exec_eq_afterRumbe (exec_wakeReady ..) (wakeReadyDo_of_due hWake hw)⟩

end Sys2Proof.Machine
end

section
/-! A command of a Rumbe is a step of that Rumbe alone (01 R18, 06 R122). -/

namespace Sys2Proof.Machine

/-- What each command of a Rumbe does is the lift of one operation on that Rumbe: in every branch of `rumbeOf` that names a
Rumbe, the command's meaning is such a lift by definition. -/
theorem exec_eq_onRumbe {i : Instr} {d : Dev} (h : rumbeOf i = some d) (s : State) :
    ∃ (t : Nat) (f : RCtx → RCtx), exec i s = .next (onRumbe t d f s) := by
  unfold rumbeOf at h
  split at h
  -- The branch of every other command names no Rumbe, which closes it here; each of the others fixes its command.
  all_goals cases h
  all_goals exact ⟨_, _, rfl⟩

/-- Settles O15: the command lifts an operation on its Rumbe, and such a lift writes the time, the outputs and that Rumbe's
entry; the entry of another Rumbe has another number. -/
theorem rumbeRowsChangeOneRumbe : Obligations.RumbeRowsChangeOneRumbe := by
  intro i s d hRumbe
  obtain ⟨t, f, hExec⟩ := exec_eq_onRumbe hRumbe s
  have hAfter := exec_eq_afterRumbe hExec rfl
  exact ⟨t, (f (before s t d)).r, (f (before s t d)).out, hAfter,
    fun _ hne => afterRumbe_rumbe_ne s t (f (before s t d)) hne⟩

end Sys2Proof.Machine
end

section
/-! What the operations of a chain pair make of it, and the frames they put out (06). -/

namespace Sys2Proof.Machine

/-! ### A pair and its two ports -/

theorem State.pair_of_getElem? {s : State} {p : Nat} {q : Pair} (h : s.pairs[p]? = some q) : s.pair p = q := by
  rw [State.pair, List.getD_eq_getElem?_getD, h, Option.getD_some]

@[simp] theorem getElem?_modAt {α : Type} (l : List α) (p : Nat) (f : α → α) : (modAt l p f)[p]? = l[p]?.map f := by
  simp [modAt]

/-- A pair without its ports: what the queues and frames of its ports leave as it was. -/
def Pair.bare (q : Pair) : Pair := { q with portA := {}, portB := {} }

@[simp] theorem map_bare_modAt {f : Pair → Pair} (hf : ∀ q, (f q).bare = q.bare) (l : List Pair) (p : Nat) :
    (modAt l p f).map Pair.bare = l.map Pair.bare := by
  refine List.ext_getElem? fun i => ?_
  simp only [modAt, List.getElem?_map, List.getElem?_modify, Option.map_eq_map, Option.map_map]
  refine Option.map_congr fun q _ => ?_
  simp only [Function.comp_apply]
  split
  · exact hf q
  · rfl

theorem foldl_map_bare {α : Type} {g : State → α → State}
    (hg : ∀ s x, (g s x).pairs.map Pair.bare = s.pairs.map Pair.bare) (l : List α) (s : State) :
    (l.foldl g s).pairs.map Pair.bare = s.pairs.map Pair.bare := by
  induction l generalizing s with
  | nil => rfl
  | cons x l ih => rw [List.foldl_cons, ih, hg]

/-- Where only ports have changed, a pair is as it was but for its ports. -/
theorem getElem?_of_map_bare {u v : State} {p : Nat} {q : Pair} (hBare : u.pairs.map Pair.bare = v.pairs.map Pair.bare)
    (h : v.pairs[p]? = some q) : ∃ a b, u.pairs[p]? = some { q with portA := a, portB := b } := by
  have hMap : u.pairs[p]?.map Pair.bare = some q.bare := by
    rw [← List.getElem?_map, hBare, List.getElem?_map, h, Option.map_some]
  obtain ⟨r, hr, hrq⟩ := Option.map_eq_some_iff.mp hMap
  refine ⟨r.portA, r.portB, hr.trans (congrArg some ?_)⟩
  exact congrArg (fun x : Pair => { x with portA := r.portA, portB := r.portB }) hrq

/-! ### Operations that change a pair's ports only -/

@[simp] theorem updCport_map_bare (s : State) (p : Nat) (sd : Side) (f : ChainPort → ChainPort) :
    (updCport s p sd f).pairs.map Pair.bare = s.pairs.map Pair.bare :=
  map_bare_modAt (fun _ => by cases sd <;> rfl) ..

@[simp] theorem txFrame_map_bare (s : State) (p : Nat) (sd : Side) (type : Nat) (pos ret : Bool) (addr : Nat)
    (payload : List Byte) :
    (txFrame s p sd type pos ret addr payload).pairs.map Pair.bare = s.pairs.map Pair.bare := by
  simp [txFrame]

@[simp] theorem readFirst_map_bare (s : State) (p : Nat) (sd : Side) (cs : List ChainCmd) :
    (readFirst s p sd cs).pairs.map Pair.bare = s.pairs.map Pair.bare := updCport_map_bare ..

@[simp] theorem askIdentity_map_bare (s : State) (p : Nat) (sd : Side) (h : Nat) (once : Bool) :
    (askIdentity s p sd h once).pairs.map Pair.bare = s.pairs.map Pair.bare := updCport_map_bare ..

@[simp] theorem checkId_map_bare (s : State) (p : Nat) (sd : Side) (h : Nat) (again : Bool) :
    (checkId s p sd h again).pairs.map Pair.bare = s.pairs.map Pair.bare := updCport_map_bare ..

@[simp] theorem askJab_map_bare (s : State) (p h : Nat) :
    (askJab s p h).pairs.map Pair.bare = s.pairs.map Pair.bare := updCport_map_bare ..

/-- A window sends or refuses what waits at a port; every branch changes ports only. -/
@[simp] theorem windowSend_map_bare (s : State) (p : Nat) (sd : Side) :
    (windowSend s p sd).pairs.map Pair.bare = s.pairs.map Pair.bare := by
  unfold windowSend
  (repeat' split) <;> simp

@[simp] theorem sendBoth_map_bare (s : State) (p : Nat) :
    (sendBoth s p).pairs.map Pair.bare = s.pairs.map Pair.bare := by
  simp [sendBoth]

/-! ### Operations that change more of a pair -/

@[simp] theorem getElem?_setSt (s : State) (p : Nat) (new : PairSt) :
    (setSt s p new).pairs[p]? = s.pairs[p]?.map (fun q => { q with st := new }) := by
  unfold setSt
  dsimp only
  split <;> simp

@[simp] theorem getElem?_unawait (s : State) (p kind : Nat) :
    (unawait s p kind).pairs[p]? = s.pairs[p]?.map (fun q =>
      { q with awaited := q.awaited.filter (fun a => a.kind != kind) }) := getElem?_modAt ..

@[simp] theorem getElem?_await (s : State) (p kind : Nat) :
    (await s p kind).pairs[p]? = s.pairs[p]?.map (fun q =>
      { q with awaited := q.awaited.filter (fun a => a.kind != kind) ++ [{ kind := kind, endAt := q.portA.lastTx }] }) :=
  getElem?_modAt ..

/-- BEHIND and the lag of a pair (02 R49). -/
theorem getElem?_ringBehind {s : State} {p : Nat} {q : Pair} (h : s.pairs[p]? = some q) (lag period : Nat) :
    (ringBehind s p lag period).pairs[p]? = some { q with
      behind := decide (0 < lag) && (q.behind || decide (8 * period < lag)), lag := lag } := by
  have hBehind : (if lag = 0 then false else q.behind || decide (8 * period < lag))
      = (decide (0 < lag) && (q.behind || decide (8 * period < lag))) := by
    by_cases hLag : lag = 0 <;> simp [hLag, Nat.pos_of_ne_zero]
  unfold ringBehind
  simp only [State.pair_of_getElem? h, hBehind]
  split <;> simp [h]

/-! ### Frames put out -/

/-- A frame leaves with the FSEQ its port stood at. -/
theorem txFrame_out (s : State) (p : Nat) (sd : Side) (type : Nat) (pos ret : Bool) (addr : Nat) (payload : List Byte) :
    (txFrame s p sd type pos ret addr payload).out
      = s.out ++ [.chainFrame (pNo p) sd (brorosFrame type pos ret addr (cport s p sd).fseq payload)] := by
  simp [txFrame, brorosFrame]

/-- The next frame of that port has the next FSEQ. -/
theorem txFrame_cport_fseq {s : State} {p : Nat} {q : Pair} (h : s.pairs[p]? = some q) (sd : Side) (type : Nat)
    (pos ret : Bool) (addr : Nat) (payload : List Byte) :
    (cport (txFrame s p sd type pos ret addr payload) p sd).fseq = ((cport s p sd).fseq + 1) % 256 := by
  cases sd <;> simp [cport, txFrame, updCport, State.pair, h]

theorem pNo_val (p : Fin 4) : pNo p.val = p := Fin.ext (Nat.mod_eq_of_lt p.isLt)

theorem mem_out_refreshTenant {s : State} {x : Output} (h : x ∈ s.out) (n : Nat) : x ∈ (refreshTenant s n).out := by
  have hSend : x ∈ (msixSend s n).out := by
    unfold msixSend
    dsimp only
    (repeat' split) <;> simp [h]
  unfold refreshTenant
  dsimp only
  (repeat' split) <;> simp [h, hSend]

/-- What a step has put out stands in its outputs when it is over. -/
theorem mem_out_finish {s : State} {x : Output} (h : x ∈ s.out) : x ∈ (finish s).out := by
  have hFold : ∀ (l : List Nat) (u : State), x ∈ u.out → x ∈ (l.foldl refreshTenant u).out := fun l => by
    induction l with
    | nil => exact fun _ hu => hu
    | cons n l ih => exact fun u hu => ih _ (mem_out_refreshTenant hu n)
  simpa [finish] using hFold (List.range 16) (refreshReady s) (by simpa using h)

/-- So does a frame that has left one of the pairs' ports. -/
theorem chainFrame_mem_out_finish {s : State} {p : Fin 4} {sd : Side} {f : Frame}
    (h : .chainFrame (pNo p.val) sd f ∈ s.out) : .chainFrame p sd f ∈ (finish s).out := by
  rw [pNo_val] at h
  exact mem_out_finish h

/-! ### A row of a chain pair -/

/-- A row whose condition holds does what it does, and READY, interrupts and lines follow. -/
theorem leaves_of_row {i : Instr} {s : State} {t p : Nat} {c : State → Bool} {f : State → State} {r : Pair}
    {w : Pair → State → Prop} (hExec : exec i s = .next (chainRow t c f s)) (hUp : s.shellUp = true)
    (hCond : c (s.at t) = true) (hPair : (f (s.at t)).pairs[p]? = some r) (hw : w r (finish (f (s.at t)))) :
    leaves i s p w := by
  have hUpAt : (s.at t).shellUp = true := hUp
  have hRow : chainRow t c f s = finish (f (s.at t)) := by simp [chainRow, when, hUpAt, hCond]
  exact ⟨_, r, by rw [hExec, hRow], by simpa using hPair, hw⟩

end Sys2Proof.Machine
end

section
/-! The rows that run a sweep of a chain pair, from its due time to its close (02 R46, R47, R49; 06 R134, R142 to R144, R149,
R150, R152; 07 R165; 21 R491). -/

namespace Sys2Proof.Machine

section
variable {s : State} {p : Nat} {q : Pair}

/-! ### The break of a ring (06 R134, R144, R149, R150) -/

/-- No SWEEP end arrives: the pair is BROKEN, and LATE_SWEEP leaves port B. -/
theorem sweepTimeoutDo_breaks (h : s.pairs[p]? = some q) :
    ∃ r, (sweepTimeoutDo p s).pairs[p]? = some r ∧ r.st = .broken
      ∧ .chainFrame (pNo p) .b (brorosFrame 2 true false q.nExp q.portB.fseq (leBytes 2 (q.curSeq.getD 0)))
        ∈ (sweepTimeoutDo p s).out := by
  have hBroken : (setSt (unawait s p 1) p .broken).pairs[p]?
      = some { q with awaited := q.awaited.filter (fun a => a.kind != 1), st := .broken } := by simp [h]
  obtain ⟨a, b, hSent⟩ := getElem?_of_map_bare
    (txFrame_map_bare _ p .b 2 true false q.nExp (leBytes 2 (q.curSeq.getD 0))) hBroken
  simp [sweepTimeoutDo, State.pair_of_getElem? hBroken, hSent, txFrame_out, cport]

/-- No ENUMERATE comes back: the pair is BROKEN, and its members are sought from both sides. -/
theorem enumBroken_breaks (h : s.pairs[p]? = some q) :
    ∃ r, (enumBroken p s).pairs[p]? = some r ∧ r.st = .broken ∧ r.asked = true := by
  let v := (setSt (unawait s p 9) p .broken).updPair p (fun q => { q with asked := true })
  have hBroken : v.pairs[p]? = some { q with
      awaited := q.awaited.filter (fun a => a.kind != 9), st := .broken, asked := true } := by simp [v, h]
  have hBare : (enumBroken p s).pairs.map Pair.bare = v.pairs.map Pair.bare := by
    simp only [enumBroken, sendBoth_map_bare]
    rw [foldl_map_bare (fun _ _ => askIdentity_map_bare ..), foldl_map_bare (fun _ _ => askIdentity_map_bare ..)]
  obtain ⟨a, b, hr⟩ := getElem?_of_map_bare hBare hBroken
  exact ⟨_, hr, rfl, rfl⟩

/-- Reverse retrieval asks both sides for their records; the state of the pair stays. -/
theorem retrieveBoth_asks (h : s.pairs[p]? = some q) :
    ∃ r, (retrieveBoth s p).pairs[p]? = some r ∧ r.asked = true ∧ r.st = q.st := by
  let v := s.updPair p (fun q => { q with asked := true, silent := false })
  have hAsked : v.pairs[p]? = some { q with asked := true, silent := false } := by simp [v, h]
  have hBare : (retrieveBoth s p).pairs.map Pair.bare = v.pairs.map Pair.bare := by
    simp only [retrieveBoth, sendBoth_map_bare, readFirst_map_bare, v]
  obtain ⟨a, b, hr⟩ := getElem?_of_map_bare hBare hAsked
  exact ⟨_, hr, rfl, rfl⟩

/-- The ring broke during collection. -/
theorem collectTimeoutDo_breaks (h : s.pairs[p]? = some q) :
    ∃ r, (collectTimeoutDo p s).pairs[p]? = some r ∧ r.st = .broken ∧ r.asked = true := by
  have hBroken : (setSt (unawait s p 3) p .broken).pairs[p]?
      = some { q with awaited := q.awaited.filter (fun a => a.kind != 3), st := .broken } := by simp [h]
  obtain ⟨r, hr, hAsked, hSt⟩ := retrieveBoth_asks hBroken
  exact ⟨r, hr, hSt, hAsked⟩

/-! ### The start of a sweep (02 R46, R47, R49; 06 R142, R152) -/

/-- What a sweep that starts at `now` makes of a pair as `q`, f being `catchup` percent: SWEEP_SEQ and the nominal grid go on,
the next sweep is due at its nominal time or, while the pair lags, at (1 - f) P after this start where that is later, and a
collection is open. -/
def SweepBegun (now catchup : Nat) (q r : Pair) : Prop :=
  let per := sweepPeriod q
  r.curSeq = some q.seq ∧ r.seq = (q.seq + 1) % 65536 ∧ r.due = q.nextNom ∧ r.nextNom = q.nextNom + per
    ∧ r.nextDue = some (if now ≤ q.nextNom then q.nextNom + per
        else max (q.nextNom + per) (now + ceilDiv ((100 - catchup) * per) 100))
    ∧ r.behind = (decide (q.nextNom < now) && (q.behind || decide (8 * per < now - q.nextNom)))
    ∧ r.sweepAt = now ∧ r.closeAt = now + 144000 ∧ r.collecting = true ∧ r.asked = false ∧ r.got = []

/-- SWEEP_DUE on a pair that is not to return to RING: on a ring SWEEP leaves port A. -/
theorem sweepDueDo_begins_of_not_restoring (h : s.pairs[p]? = some q) (hStay : q.restoreRing = false) :
    ∃ r, (sweepDueDo p s).pairs[p]? = some r ∧ SweepBegun s.now s.foreman.catchup q r
      ∧ (q.st = .ring → r.st = .ring
        ∧ .chainFrame (pNo p) .a (brorosFrame 1 false false 0x3F q.portA.fseq (leBytes 2 q.seq)) ∈ (sweepDueDo p s).out) := by
  have hDue : ∀ a b : Nat, (if q.nextNom < s.now then a else b) = if s.now ≤ q.nextNom then b else a := fun a b => by
    rw [← ite_not]
    simp only [Nat.not_lt]
  have hLag : (0 < s.now - q.nextNom) = (q.nextNom < s.now) := propext Nat.sub_pos_iff_lt
  unfold sweepDueDo
  simp only [State.pair_of_getElem? h, hStay, Bool.false_eq_true, if_false]
  generalize hv : List.foldl _ s _ = v
  have hBare : v.pairs.map Pair.bare = s.pairs.map Pair.bare := by
    rw [← hv]
    exact foldl_map_bare (fun _ _ => txFrame_map_bare ..) ..
  have hNow : v.now = s.now := by simp [← hv]
  obtain ⟨a, b, hSent⟩ := getElem?_of_map_bare hBare h
  by_cases hRing : q.st = .ring
  · have hOut : v.out = s.out ++ [.chainFrame (pNo p) .a
        (brorosFrame 1 false false 0x3F q.portA.fseq (leBytes 2 q.seq))] := by
      simp [← hv, hRing, txFrame_out, cport, State.pair_of_getElem? h]
    refine ⟨_, getElem?_ringBehind (by simp [hRing, hSent]; rfl) .., ?_⟩
    simp [SweepBegun, hNow, hOut, hLag, hDue, hRing]
  · refine ⟨_, getElem?_ringBehind (by simp [hRing, hSent]; rfl) .., ?_⟩
    simp [SweepBegun, hNow, hLag, hDue, hRing]

/-- SWEEP_DUE: a pair that is to return to RING does, and sweeps as a ring. -/
theorem sweepDueDo_begins (h : s.pairs[p]? = some q) :
    ∃ r, (sweepDueDo p s).pairs[p]? = some r ∧ SweepBegun s.now s.foreman.catchup q r
      ∧ (q.st = .ring ∨ q.restoreRing = true → r.st = .ring
        ∧ .chainFrame (pNo p) .a (brorosFrame 1 false false 0x3F q.portA.fseq (leBytes 2 q.seq)) ∈ (sweepDueDo p s).out) := by
  cases hRestore : q.restoreRing with
  | false =>
    obtain ⟨r, hr, hBegun, hRing⟩ := sweepDueDo_begins_of_not_restoring h hRestore
    exact ⟨r, hr, hBegun, fun hst => hRing (hst.resolve_right Bool.false_ne_true)⟩
  | true =>
    obtain ⟨v, hReturned⟩ : ∃ v, v = setSt (s.updPair p (fun q => { q with restoreRing := false })) p .ring := ⟨_, rfl⟩
    have hv : v.pairs[p]? = some { q with restoreRing := false, st := .ring } := by simp [hReturned, h]
    have hSame : sweepDueDo p s = sweepDueDo p v := by
      simp only [sweepDueDo, State.pair_of_getElem? h, State.pair_of_getElem? hv, hRestore, ← hReturned, if_true,
        Bool.false_eq_true, if_false]
    obtain ⟨r, hr, hBegun, hSent⟩ := sweepDueDo_begins_of_not_restoring hv rfl
    have hNow : v.now = s.now := by simp [hReturned]
    have hForeman : v.foreman = s.foreman := by simp [hReturned]
    rw [hNow, hForeman] at hBegun
    rw [hSame]
    exact ⟨r, hr, hBegun, fun _ => hSent rfl⟩

/-! ### Returns at port B (06 R134, R143, R144, R152) -/

/-- CLEAR_ID and ENUMERATE leave port A, ENUMERATE with the FSEQ after CLEAR_ID's. -/
theorem sendEnumerate_counts (h : s.pairs[p]? = some q) :
    ∃ r, (sendEnumerate s p).pairs[p]? = some r ∧ r.enumTries = q.enumTries + 1
      ∧ .chainFrame (pNo p) .a (brorosFrame 9 false false 0x3F ((q.portA.fseq + 1) % 256) (leBytes 1 1))
        ∈ (sendEnumerate s p).out := by
  have hCleared : (cport (txControl s p .a 0x05 0) p .a).fseq = (q.portA.fseq + 1) % 256 := by
    rw [txControl, txFrame_cport_fseq h, cport, State.pair_of_getElem? h]
  obtain ⟨a, b, hSent⟩ := getElem?_of_map_bare (u := txFrame (txControl s p .a 0x05 0) p .a 9 false false 0x3F (leBytes 1 1))
    (by simp [txControl]) h
  simp [sendEnumerate, hSent, txFrame_out, hCleared]

/-- What came back is awaited no longer, and port B has been heard. -/
def heardAtB (s : State) (p kind : Nat) : State :=
  updCport (unawait s p kind) p .b (fun c => { c with busy := max c.busy (unawait s p kind).now })

theorem getElem?_heardAtB (h : s.pairs[p]? = some q) (kind : Nat) :
    ∃ b, (heardAtB s p kind).pairs[p]?
      = some { q with awaited := q.awaited.filter (fun a => a.kind != kind), portB := b } := by
  simp [heardAtB, updCport, h]

/-- A COLLECT is back: a bad CRC or a COUNT other than N_EXP damages the collection. -/
theorem collectBack_damages (h : s.pairs[p]? = some q) (count : Nat) (ok : Bool) :
    ∃ r, (collectBack s p count ok).pairs[p]? = some r ∧ r.awaited = q.awaited
      ∧ r.damaged = (q.damaged || !ok || count != q.nExp) := by
  unfold collectBack
  dsimp only
  split <;> simp [h, State.pair_of_getElem? h]

/-- An ENUMERATE is back good: it numbered the members found. -/
theorem enumBack_good (h : s.pairs[p]? = some q) (nextId : Nat) :
    ∃ r, (enumBack s p nextId true).pairs[p]? = some r ∧ r.nFound = nextId - 1 := by
  have hFound : (s.updPair p (fun q => { q with nFound := nextId - 1 })).pairs[p]?
      = some { q with nFound := nextId - 1 } := by simp [h]
  have hBare : (enumBack s p nextId true).pairs.map Pair.bare
      = (s.updPair p (fun q => { q with nFound := nextId - 1 })).pairs.map Pair.bare := by
    simp only [enumBack, if_true]
    rw [foldl_map_bare (fun _ _ => askIdentity_map_bare ..)]
    split <;> simp
  obtain ⟨a, b, hr⟩ := getElem?_of_map_bare hBare hFound
  exact ⟨_, hr, rfl⟩

/-- A damaged ENUMERATE is sent again until three have been. -/
theorem enumBack_again (h : s.pairs[p]? = some q) (nextId : Nat) (hTries : q.enumTries < 3) :
    enumBack s p nextId false = sendEnumerate s p := by
  simp [enumBack, State.pair_of_getElem? h, hTries]

/-- After the third the tries end. -/
theorem enumBack_gives_up (h : s.pairs[p]? = some q) (nextId : Nat) (hTries : 3 ≤ q.enumTries) :
    ∃ r, (enumBack s p nextId false).pairs[p]? = some r ∧ r.enumTries = q.enumTries := by
  simp [enumBack, State.pair_of_getElem? h, Nat.not_lt.mpr hTries, h]

/-- A RING_TEST back good on a split pair passes. -/
theorem testBack_passes (h : s.pairs[p]? = some q) (ok : Bool) :
    ∃ r, (testBack s p ok).pairs[p]? = some r
      ∧ r.ringTest = if ok = true ∧ q.st = .split then true else q.ringTest := by
  by_cases hPass : ok = true ∧ q.st = .split
  · obtain ⟨hOk, hSplit⟩ := hPass
    have hTest : (s.updPair p (fun q => { q with ringTest := true, checked := [], restoreRing := false })).pairs[p]?
        = some { q with ringTest := true, checked := [], restoreRing := false } := by simp [h]
    obtain ⟨a, b, hr⟩ := getElem?_of_map_bare
      (foldl_map_bare (g := fun s i => checkId s p .a (i + 1) false) (fun _ _ => checkId_map_bare ..) (List.range q.nExp) _) hTest
    simp [testBack, State.pair_of_getElem? h, hOk, hSplit, hr]
  · have hSame : testBack s p ok = s := by
      rw [testBack, State.pair_of_getElem? h, if_pos]
      cases ok with
      | false => rfl
      | true => exact bne_iff_ne.mpr fun hSplit => hPass ⟨rfl, hSplit⟩
    exact ⟨q, by rw [hSame, h], (if_neg hPass).symm⟩

/-! PORT_B_RETURN by what the frame is the return of. -/

section
variable {l : List Chip}

/-- A SWEEP: nothing else follows. -/
theorem portBDo_sweep (h : s.pairs[p]? = some q) (hKind : returnKind s p l = 1) :
    ∃ r, (portBDo p l s).pairs[p]? = some r ∧ r.awaited = q.awaited.filter (fun a => a.kind != 1) ∧ r.st = q.st := by
  have hRow : portBDo p l s = heardAtB s p 1 := by simp [portBDo, hKind, heardAtB]
  obtain ⟨b, hb⟩ := getElem?_heardAtB h 1
  rw [hRow]
  exact ⟨_, hb, rfl, rfl⟩

/-- A COLLECT: its COUNT is checked. -/
theorem portBDo_collect (h : s.pairs[p]? = some q) (hKind : returnKind s p l = 3) :
    ∃ r, (portBDo p l s).pairs[p]? = some r ∧ r.awaited = q.awaited.filter (fun a => a.kind != 3)
      ∧ r.damaged = (q.damaged || !lineGood l || byteAt (linePayload l) 2 != q.nExp) := by
  have hRow : portBDo p l s = collectBack (heardAtB s p 3) p (byteAt (linePayload l) 2) (lineGood l) := by
    simp [portBDo, hKind, heardAtB]
  obtain ⟨b, hb⟩ := getElem?_heardAtB h 3
  exact hRow ▸ collectBack_damages hb _ _

theorem portBDo_enumerate (hKind : returnKind s p l = 9) :
    portBDo p l s = enumBack (heardAtB s p 9) p (byteAt (linePayload l) 0) (lineGood l) := by
  simp [portBDo, hKind, heardAtB]

/-- A good ENUMERATE: it numbered the members found. -/
theorem portBDo_enumerate_good (h : s.pairs[p]? = some q) (hKind : returnKind s p l = 9) (hOk : lineGood l = true) :
    ∃ r, (portBDo p l s).pairs[p]? = some r ∧ r.nFound = byteAt (linePayload l) 0 - 1 := by
  obtain ⟨b, hb⟩ := getElem?_heardAtB h 9
  rw [portBDo_enumerate hKind, hOk]
  exact enumBack_good hb _

/-- A damaged ENUMERATE: it is sent again. -/
theorem portBDo_enumerate_again (h : s.pairs[p]? = some q) (hKind : returnKind s p l = 9) (hOk : lineGood l = false)
    (hTries : q.enumTries < 3) :
    ∃ r, (portBDo p l s).pairs[p]? = some r ∧ r.enumTries = q.enumTries + 1
      ∧ .chainFrame (pNo p) .a (brorosFrame 9 false false 0x3F ((q.portA.fseq + 1) % 256) (leBytes 1 1))
        ∈ (portBDo p l s).out := by
  obtain ⟨b, hb⟩ := getElem?_heardAtB h 9
  rw [portBDo_enumerate hKind, hOk, enumBack_again hb _ hTries]
  have hSent := sendEnumerate_counts hb
  exact hSent

/-- The third damaged ENUMERATE. -/
theorem portBDo_enumerate_gives_up (h : s.pairs[p]? = some q) (hKind : returnKind s p l = 9) (hOk : lineGood l = false)
    (hTries : 3 ≤ q.enumTries) : ∃ r, (portBDo p l s).pairs[p]? = some r ∧ r.enumTries = q.enumTries := by
  obtain ⟨b, hb⟩ := getElem?_heardAtB h 9
  rw [portBDo_enumerate hKind, hOk]
  exact enumBack_gives_up hb _ hTries

/-- A RING_TEST. -/
theorem portBDo_ringTest (h : s.pairs[p]? = some q) (hKind : returnKind s p l = 0xC) :
    ∃ r, (portBDo p l s).pairs[p]? = some r
      ∧ r.ringTest = if lineGood l = true ∧ q.st = .split then true else q.ringTest := by
  have hRow : portBDo p l s = testBack (heardAtB s p 0xC) p (lineGood l) := by simp [portBDo, hKind, heardAtB]
  obtain ⟨b, hb⟩ := getElem?_heardAtB h 0xC
  exact hRow ▸ testBack_passes hb _

end

/-! ### Collection (06 R144) -/

/-- COLLECT_DUE: on a ring COLLECT leaves port A, which is silent from then on. -/
theorem collectDueDo_asks (h : s.pairs[p]? = some q) :
    ∃ r, (collectDueDo p s).pairs[p]? = some r ∧ r.asked = true
      ∧ (q.st = .ring → r.silent = true
        ∧ .chainFrame (pNo p) .a (brorosFrame 3 false false 0x3F q.portA.fseq (leBytes 2 (q.curSeq.getD 0) ++ [0#8]))
          ∈ (collectDueDo p s).out) := by
  have hAsked : (s.updPair p (fun q => { q with asked := true })).pairs[p]? = some { q with asked := true } := by simp [h]
  by_cases hRing : q.st = .ring
  · obtain ⟨a, b, hSent⟩ := getElem?_of_map_bare
      (txFrame_map_bare _ p .a 3 false false 0x3F (leBytes 2 (q.curSeq.getD 0) ++ [0#8])) hAsked
    have hZero : zeros 1 = [0#8] := rfl
    simp [collectDueDo, State.pair_of_getElem? h, hRing, hSent, txFrame_out, cport, State.pair_of_getElem? hAsked, hZero]
  by_cases hBroken : q.st = .broken
  · obtain ⟨r, hr, hrAsked, -⟩ := retrieveBoth_asks hAsked
    refine ⟨r, ?_, hrAsked, fun hst => absurd hst hRing⟩
    simpa [collectDueDo, State.pair_of_getElem? h, hBroken] using hr
  · have hBare : (collectDueDo p s).pairs.map Pair.bare
        = (s.updPair p (fun q => { q with asked := true })).pairs.map Pair.bare := by
      simp only [collectDueDo, State.pair_of_getElem? h, hRing, hBroken, if_false, sendBoth_map_bare, readFirst_map_bare]
    obtain ⟨a, b, hr⟩ := getElem?_of_map_bare hBare hAsked
    exact ⟨_, hr, rfl, fun hst => absurd hst hRing⟩

/-- COLLECT_RECOVERY: the missing records are read, and the damage is forgotten. -/
theorem collectRecoveryDo_clears (h : s.pairs[p]? = some q) :
    ∃ r, (collectRecoveryDo p s).pairs[p]? = some r ∧ r.silent = false ∧ r.damaged = false := by
  let v := s.updPair p (fun q => { q with silent := false, damaged := false })
  have hClear : v.pairs[p]? = some { q with silent := false, damaged := false } := by simp [v, h]
  have hBare : (collectRecoveryDo p s).pairs.map Pair.bare = v.pairs.map Pair.bare := by
    simp only [collectRecoveryDo, sendBoth_map_bare, readFirst_map_bare, v]
  obtain ⟨a, b, hr⟩ := getElem?_of_map_bare hBare hClear
  exact ⟨_, hr, rfl, rfl⟩

/-! ### The end of reverse retrieval and the lone member it missed (06 R150, R152; 21 R491) -/

/-- REVERSE_RETRIEVAL_DONE: the pair runs SPLIT with what each side reached. -/
theorem retrievalDoneDo_splits (h : s.pairs[p]? = some q) :
    ∃ r, (retrievalDoneDo p s).pairs[p]? = some r ∧ r.st = .split ∧ r.hA = q.portA.reach ∧ r.hB = q.portB.reach := by
  unfold retrievalDoneDo
  simp only [State.pair_of_getElem? h]
  generalize hv : setSt _ p .split = v
  have hSplit : ∃ r, v.pairs[p]? = some r ∧ r.st = .split ∧ r.hA = q.portA.reach ∧ r.hB = q.portB.reach := by
    simp [← hv, h]
  split
  · obtain ⟨r, hr, hst, hA, hB⟩ := hSplit
    obtain ⟨a, b, hSent⟩ := getElem?_of_map_bare (u := sendBoth (askJab (askJab v p _) p _) p) (by simp) hr
    exact ⟨_, hSent, hst, hA, hB⟩
  · exact hSplit

/-- BABBLER_ISOLATION where the counts of both neighbours have advanced. -/
theorem isolationDo_isolates {n below above : Nat} (h : s.pairs[p]? = some q) (hSuspect : q.suspect = some n)
    (hBelow : q.jabBelow = some below) (hAbove : q.jabAbove = some above)
    (hnBelow : below ≠ (lmem s (memNo p n - 1)).jabCnt) (hnAbove : above ≠ (lmem s (memNo p n + 1)).jabCnt) :
    ∃ r, (isolationDo p s).pairs[p]? = some r ∧ r.suspect = none ∧ (lmem (isolationDo p s) (memNo p n)).isolated = true := by
  unfold isolationDo
  simp only [State.pair_of_getElem? h, hSuspect, hBelow, hAbove, Option.getD_some]
  generalize hv : State.updPair _ p _ = v
  have hClear : v.pairs[p]? = some { q with suspect := none, jabBelow := none, jabAbove := none } := by simp [← hv, h]
  rw [if_neg (by simp [hnBelow, hnAbove])]
  generalize hu : List.foldl (fun s k => askJab s p k) _ _ = u
  have hBare : u.pairs.map Pair.bare = v.pairs.map Pair.bare := by
    rw [← hu, foldl_map_bare (fun _ _ => askJab_map_bare ..)]
    simp
  obtain ⟨a, b, hSent⟩ := getElem?_of_map_bare hBare hClear
  simp [hSent, lmem, updMem]

/-! ### The close (07 R165; 02 R45) -/

/-- COLLECTION_CLOSE: the collection is over, and late where the next sweep was due before it. -/
theorem closeSweep_closes (h : s.pairs[p]? = some q) :
    ∃ r, (closeSweep s p).pairs[p]? = some r ∧ r.collecting = false ∧ r.silent = false ∧ r.damaged = false
      ∧ r.lateCnt = if q.nextNom < min s.now q.closeAt then (q.lateCnt + 1) % 2 ^ 32 else q.lateCnt := by
  simp [closeSweep, State.pair_of_getElem? h, h]

/-! ### The returns as rows -/

/-- A frame that no violation aborts and that is awaited is taken at port B. -/
theorem leaves_portBReturn {t : Nat} {p : Fin 4} {line : List Chip} {r : Pair} {w : Pair → State → Prop}
    (hUp : s.shellUp = true) (hFrame : lineFrame line = true)
    (hReturns : returns (s.at t) p.val (returnKind s p.val line) = true)
    (hPair : (portBDo p.val line (s.at t)).pairs[p.val]? = some r) (hw : w r (finish (portBDo p.val line (s.at t)))) :
    leaves (.portBReturn t p line) s p.val w :=
  leaves_of_row (exec_portBReturn ..) hUp (Bool.and_eq_true_iff.mpr ⟨hFrame, hReturns⟩) hPair hw

end

/-! ### The obligation -/

/-- Settles O27: the condition of each row holds under the statement's hypotheses, and what the row then does to the pair and
puts out is the lemma above about its operation; what follows a step leaves both as they are. That three failed ENUMERATEs
count as overdue, that ISOLATED is written when the cuts are sent, and what a frame with a bad CRC at port B is the return of
are the model's reading (assumption logs 64, 65 and 157). -/
theorem sweepRowsRunSweep : Obligations.SweepRowsRunSweep := by
  intro s t p q hUp h
  have hAt : (s.at t).pairs[p.val]? = some q := h
  have hPair : (s.at t).pair p.val = q := State.pair_of_getElem? hAt
  refine ⟨?sweepDue, ?sweepTimeout, ?enumerateTimeout, ?returns, ?collectDue, ?collectTimeout, ?recovery, ?retrieval,
    ?babbler, ?close⟩
  case sweepDue =>
    intro d hDue hd hIdle hSweeps hA hB
    obtain ⟨r, hr, ⟨hCur, hSeq, hNomDue, hNom, hNext, hBehind, hStart, hClose, hOpen, hAsked, hGot⟩, hRing⟩ :=
      sweepDueDo_begins hAt
    refine leaves_of_row (exec_sweepDue ..) hUp ?_ hr
      ⟨hCur, hSeq, hNomDue, hNom, hNext, hBehind, hStart, hClose, hOpen, hAsked, hGot, fun hst => ?_⟩
    · simp [sweepIsDue, hPair, hDue, hd, hIdle, hSweeps, hA, hB]
    · obtain ⟨hrSt, hSent⟩ := hRing hst
      exact ⟨hrSt, chainFrame_mem_out_finish hSent⟩
  case sweepTimeout =>
    intro hst hOver
    obtain ⟨r, hr, hBroken, hSent⟩ := sweepTimeoutDo_breaks hAt
    have hRow : portBTimeoutDo p.val (s.at t) = sweepTimeoutDo p.val (s.at t) := by simp [portBTimeoutDo, hPair, hst]
    rw [← hRow] at hr hSent
    refine leaves_of_row (exec_portBSweepTimeout ..) hUp ?_ hr ⟨hBroken, chainFrame_mem_out_finish hSent⟩
    simp [hPair, hst, hOver]
  case enumerateTimeout =>
    intro hst hOver
    obtain ⟨r, hr, hBroken⟩ := enumBroken_breaks hAt
    have hRow : portBTimeoutDo p.val (s.at t) = enumBroken p.val (s.at t) := by simp [portBTimeoutDo, hPair, hst]
    rw [← hRow] at hr
    refine leaves_of_row (exec_portBSweepTimeout ..) hUp ?_ hr hBroken
    simp [hPair, hst, hOver]
  case returns =>
    intro line hFrame hReturns
    refine ⟨fun hKind => ?_, fun hKind => ?_, fun hKind => ⟨fun hOk => ?_, fun hOk hTries => ?_, fun hOk hTries => ?_⟩,
      fun hKind => ?_⟩
    · obtain ⟨r, hr, hSwept⟩ := portBDo_sweep (l := line) hAt hKind
      exact leaves_portBReturn hUp hFrame hReturns hr hSwept
    · obtain ⟨r, hr, hDamaged⟩ := portBDo_collect (l := line) hAt hKind
      exact leaves_portBReturn hUp hFrame hReturns hr hDamaged
    · obtain ⟨r, hr, hFound⟩ := portBDo_enumerate_good (l := line) hAt hKind hOk
      exact leaves_portBReturn hUp hFrame hReturns hr hFound
    · obtain ⟨r, hr, hCount, hSent⟩ := portBDo_enumerate_again (l := line) hAt hKind hOk hTries
      exact leaves_portBReturn hUp hFrame hReturns hr ⟨hCount, chainFrame_mem_out_finish hSent⟩
    · obtain ⟨r, hr, hCount⟩ := portBDo_enumerate_gives_up (l := line) hAt hKind hOk hTries
      exact leaves_portBReturn hUp hFrame hReturns hr hCount
    · obtain ⟨r, hr, hTest⟩ := portBDo_ringTest (l := line) hAt hKind
      exact leaves_portBReturn hUp hFrame hReturns hr hTest
  case collectDue =>
    intro hOpen hAsked hSweeps hTime
    obtain ⟨r, hr, hrAsked, hRing⟩ := collectDueDo_asks hAt
    refine leaves_of_row (exec_collectDue ..) hUp ?_ hr ⟨hrAsked, fun hst => ?_⟩
    · simp [hPair, hOpen, hAsked, hSweeps, hTime]
    · obtain ⟨hSilent, hSent⟩ := hRing hst
      exact ⟨hSilent, chainFrame_mem_out_finish hSent⟩
  case collectTimeout =>
    intro hst hOver
    obtain ⟨r, hr, hBroken⟩ := collectTimeoutDo_breaks hAt
    refine leaves_of_row (exec_collectReturnTimeout ..) hUp ?_ hr hBroken
    simp [hPair, hst, hOver]
  case recovery =>
    intro hst hOpen hAsked hHurt hAwaited hLacking hTime
    obtain ⟨r, hr, hClear⟩ := collectRecoveryDo_clears hAt
    have hNone : awaitedOf (s.at t) p.val 3 = none := hAwaited
    refine leaves_of_row (exec_collectRecovery ..) hUp ?_ hr hClear
    simp [hPair, hst, hOpen, hAsked, hHurt, hNone, hLacking, hTime]
  case retrieval =>
    intro hst hAsked hReads
    obtain ⟨r, hr, hSplit⟩ := retrievalDoneDo_splits hAt
    refine leaves_of_row (exec_reverseRetrievalDone ..) hUp ?_ hr hSplit
    simp [hPair, hst, hAsked, hReads]
  case babbler =>
    intro n below above hCtrl hst hSuspect _ _ hBelow hAbove hnBelow hnAbove
    obtain ⟨r, hr, hClear, hIsolated⟩ := isolationDo_isolates hAt hSuspect hBelow hAbove hnBelow hnAbove
    refine leaves_of_row (exec_babblerIsolation ..) hUp ?_ hr ⟨hClear, ?_⟩
    · simp [hPair, jabsRead, hCtrl, hst, hSuspect, hBelow, hAbove]
    · simpa [lmem] using hIsolated
  case close =>
    intro hOpen hOver
    obtain ⟨r, hr, hClosed⟩ := closeSweep_closes hAt
    refine leaves_of_row (exec_collectionClose ..) hUp ?_ hr hClosed
    simpa [hPair, hOpen] using hOver

end Sys2Proof.Machine
end

section
/-! What the safety of a Rumbe rests on, and which updates of a Rumbe keep it (03 Table 3-2, R72; 04 R75, R88, R91; 05 R105,
R112, R118; 06 R132, R148). An update of a field it does not rest on keeps it by definition. -/

namespace Sys2Proof.Machine

/-- Outside OPEN only a head stands, with no trip latched and no protection hold (04 R75, R88, R91; 06 R148). -/
def GateSafe (headEn : Bool) (g : Gate) : Prop :=
  g.st ≠ .open → headEn = true ∧ g.scTrip = false ∧ g.rampFault = false ∧ g.pchgFault = false ∧ g.pumpUv = false
    ∧ g.aspHold = false
/-- A transfer in progress has no latch of the balancer's; the queue and the log hold four (05 R105, R112, R118). -/
def BalSafe (b : Bal) : Prop :=
  (b.selFault = true ∨ b.priOc = true → b.phase = .idle) ∧ b.queue.length ≤ 4 ∧ b.log.length ≤ 4
/-- The alarm thresholds are a volt tenth apart, and the cells are 6 to 18 (03 Table 3-2). -/
def MeasSafe (m : MeasSet) : Prop := m.uvTh + 1000 ≤ m.ovTh ∧ 6 ≤ m.nCells ∧ m.nCells ≤ 18

variable {r : Rumbe}

theorem rumbeSafe_iff :
    RumbeSafe r ↔ GateSafe r.head.headEn r.gate ∧ BalSafe r.bal ∧ MeasSafe r.meas ∧ 80 ≤ r.head.shunt ∧ r.records.length ≤ 4
      ∧ r.portN.uq.length ≤ 4 ∧ r.portS.uq.length ≤ 4 := by
  constructor
  · intro ⟨hGate, hLatch, hTh, hLow, hHigh, hShunt, hRecords, hQueue, hLog, hN, hS⟩
    exact ⟨hGate, ⟨hLatch, hQueue, hLog⟩, ⟨hTh, hLow, hHigh⟩, hShunt, hRecords, hN, hS⟩
  · intro ⟨hGate, ⟨hLatch, hQueue, hLog⟩, ⟨hTh, hLow, hHigh⟩, hShunt, hRecords, hN, hS⟩
    exact ⟨hGate, hLatch, hTh, hLow, hHigh, hShunt, hRecords, hQueue, hLog, hN, hS⟩

theorem RumbeSafe.gateSafe (h : RumbeSafe r) : GateSafe r.head.headEn r.gate := (rumbeSafe_iff.mp h).1
theorem RumbeSafe.balSafe (h : RumbeSafe r) : BalSafe r.bal := (rumbeSafe_iff.mp h).2.1
theorem RumbeSafe.records_length_le (h : RumbeSafe r) : r.records.length ≤ 4 := (rumbeSafe_iff.mp h).2.2.2.2.1
theorem RumbeSafe.uq_length_le (h : RumbeSafe r) (p : RPort) : (portOf r p).uq.length ≤ 4 := by
  obtain ⟨-, -, -, -, -, hN, hS⟩ := rumbeSafe_iff.mp h
  cases p with
  | n => exact hN
  | s => exact hS

theorem RumbeSafe.withGate (h : RumbeSafe r) {g : Gate} (hg : GateSafe r.head.headEn g) : RumbeSafe { r with gate := g } := by
  obtain ⟨-, hRest⟩ := rumbeSafe_iff.mp h
  exact rumbeSafe_iff.mpr ⟨hg, hRest⟩
theorem RumbeSafe.withBal (h : RumbeSafe r) {b : Bal} (hb : BalSafe b) : RumbeSafe { r with bal := b } := by
  obtain ⟨hGate, -, hRest⟩ := rumbeSafe_iff.mp h
  exact rumbeSafe_iff.mpr ⟨hGate, hb, hRest⟩
theorem RumbeSafe.withMeas (h : RumbeSafe r) {m : MeasSet} (hm : MeasSafe m) : RumbeSafe { r with meas := m } := by
  obtain ⟨hGate, hBal, -, hRest⟩ := rumbeSafe_iff.mp h
  exact rumbeSafe_iff.mpr ⟨hGate, hBal, hm, hRest⟩
theorem RumbeSafe.withRecords (h : RumbeSafe r) {l : List (Nat × List Byte)} (hl : l.length ≤ 4) :
    RumbeSafe { r with records := l } := by
  obtain ⟨hGate, hBal, hMeas, hShunt, -, hRest⟩ := rumbeSafe_iff.mp h
  exact rumbeSafe_iff.mpr ⟨hGate, hBal, hMeas, hShunt, hl, hRest⟩
theorem RumbeSafe.withHead (h : RumbeSafe r) {x : HeadSet} (hg : GateSafe x.headEn r.gate) (hx : 80 ≤ x.shunt) :
    RumbeSafe { r with head := x } := by
  obtain ⟨-, hBal, hMeas, -, hRest⟩ := rumbeSafe_iff.mp h
  exact rumbeSafe_iff.mpr ⟨hg, hBal, hMeas, hx, hRest⟩
theorem RumbeSafe.updPort (h : RumbeSafe r) (p : RPort) {f : PortSt → PortSt}
    (hf : ∀ q : PortSt, q.uq.length ≤ 4 → (f q).uq.length ≤ 4) : RumbeSafe (updPort r p f) := by
  obtain ⟨hGate, hBal, hMeas, hShunt, hRecords, hN, hS⟩ := rumbeSafe_iff.mp h
  cases p with
  | n => exact rumbeSafe_iff.mpr ⟨hGate, hBal, hMeas, hShunt, hRecords, hf _ hN, hS⟩
  | s => exact rumbeSafe_iff.mpr ⟨hGate, hBal, hMeas, hShunt, hRecords, hN, hf _ hS⟩
theorem RumbeSafe.withSentAt (h : RumbeSafe r) (a m : Option Nat) : RumbeSafe { r with almSentAt := a, measSentAt := m } := h

theorem gateSafe_of_open {g : Gate} (hOpen : g.st = .open) (headEn : Bool) : GateSafe headEn g := fun h => absurd hOpen h

/-! ### The balancer (05) -/

theorem balEnd_phase (b : Bal) (now cause : Nat) : (balEnd b now cause).phase = .idle := by
  unfold balEnd
  split
  case isTrue => rfl
  case isFalse hIdle =>
    have hPhase : b.phase = .idle := by simpa [balActive] using hIdle
    split <;> exact hPhase

theorem BalSafe.balEnd {b : Bal} (h : BalSafe b) (now cause : Nat) : BalSafe (balEnd b now cause) := by
  obtain ⟨-, hQueue, hLog⟩ := h
  refine ⟨fun _ => balEnd_phase b now cause, ?_, ?_⟩
  · unfold Machine.balEnd
    split
    · exact hQueue
    · split <;> exact hQueue
  · unfold Machine.balEnd
    split
    · exact List.length_take_le ..
    · split
      · simpa [modAt] using hLog
      · exact hLog

theorem BalSafe.balEndClear {b : Bal} (h : BalSafe b) (now cause : Nat) : BalSafe (balEndClear b now cause) := by
  obtain ⟨hPhase, -, hLog⟩ := h.balEnd now cause
  exact ⟨hPhase, Nat.zero_le _, hLog⟩

/-- A latch may stand once no transfer runs. -/
theorem BalSafe.withLatches {b : Bal} (h : BalSafe b) (hIdle : b.phase = .idle) (sel pri : Bool) :
    BalSafe { b with selFault := sel, priOc := pri } := by
  obtain ⟨-, hQueue, hLog⟩ := h
  exact ⟨fun _ => hIdle, hQueue, hLog⟩

theorem BalSafe.balTemp {b : Bal} (h : BalSafe b) (now : Nat) (t : Int) : BalSafe (balTemp b now t) := by
  have hTemp : BalSafe { b with tDie := some t } := h
  unfold Machine.balTemp
  split
  · exact hTemp.balEnd now 7
  · split <;> exact hTemp

/-! ### Gates (04) -/

theorem RumbeSafe.openReq (h : RumbeSafe r) (cause now : Nat) : RumbeSafe (openReq r cause now) :=
  h.withGate (gateSafe_of_open rfl _)

theorem RumbeSafe.aspTake (h : RumbeSafe r) (now : Nat) : RumbeSafe (aspTake r now) := by
  simp only [Machine.aspTake]
  split
  · exact h.withGate (gateSafe_of_open rfl _)
  · exact h

/-! ### Records (03 R57, R72) -/

theorem putRecord_length_le (l : List (Nat × List Byte)) (seq : Nat) (b : List Byte) : (putRecord l seq b).length ≤ 4 := by
  simp only [putRecord, List.length_drop, List.length_append, List.length_singleton]
  omega

theorem dropRecord_length_le (l : List (Nat × List Byte)) (due : List Nat) (seq : Nat) :
    (dropRecord l due seq).length ≤ l.length := by
  simp only [dropRecord]
  split
  · exact List.length_filter_le ..
  · simp

/-- Taking out what the sweeps that begin replace does not lengthen the buffer. -/
theorem foldl_dropRecord_length_le (xs : List NotSampled) (a : List (Nat × List Byte) × List Nat) :
    (xs.foldl (fun (l, due) s => (dropRecord l due s.seq, due ++ [s.seq])) a).1.length ≤ a.1.length := by
  induction xs generalizing a with
  | nil => exact Nat.le_refl _
  | cons x xs ih => exact Nat.le_trans (ih _) (dropRecord_length_le ..)

theorem foldl_putRecord_length_le (xs : List NotSampled) (f : NotSampled → List Byte) {l : List (Nat × List Byte)}
    (h : l.length ≤ 4) : (xs.foldl (fun l s => putRecord l s.seq (f s)) l).length ≤ 4 := by
  induction xs generalizing l with
  | nil => exact h
  | cons x xs ih => exact ih (putRecord_length_le ..)

theorem RumbeSafe.settleNotSampled (h : RumbeSafe r) (now : Nat) : RumbeSafe (settleNotSampled r now) :=
  h.withRecords (foldl_putRecord_length_le _ _ (Nat.le_trans (foldl_dropRecord_length_le _ _) h.records_length_le))

end Sys2Proof.Machine
end

section
/-! What a Rumbe does on its ports, at a due step and at the start of every step keeps it safe (06 R132; 95). -/

namespace Sys2Proof.Machine

/-- An operation of a Rumbe keeps it safe. -/
def KeepsSafe (f : RCtx → RCtx) : Prop := ∀ c, RumbeSafe c.r → RumbeSafe (f c).r

/-! ### Ports and urgent frames (06 R122, R132) -/

theorem queueUrgent_uq_length_le {q : PortSt} (h : q.uq.length ≤ 4) (u : UFrame) : (queueUrgent q u).uq.length ≤ 4 := by
  unfold queueUrgent
  split
  · exact h
  case isFalse hRoom =>
    rw [Bool.or_eq_true, decide_eq_true_eq, not_or] at hRoom
    obtain ⟨-, hRoom⟩ := hRoom
    rw [List.length_append, List.length_singleton]
    omega

theorem portHears_uq_length_le {q : PortSt} (h : q.uq.length ≤ 4) (since now : Nat) :
    (portHears q since now).uq.length ≤ 4 := by
  unfold portHears
  extract_lets q₁ _ q₂
  have h₁ : q₁.uq.length ≤ 4 := by
    unfold q₁
    split
    · split <;> exact h
    · exact h
  have h₂ : q₂.uq.length ≤ 4 := by
    unfold q₂
    split
    · split
      · split
        · refine queueUrgent_uq_length_le ?_ _
          exact h₁
        · exact h₁
      · exact h₁
    · exact h₁
  exact h₂

variable {c : RCtx}

theorem sendOwn_safe (h : RumbeSafe c.r) (p : RPort) (start : Nat) (f : Frame) : RumbeSafe (sendOwn c p start f).r := by
  unfold sendOwn
  split
  · exact h
  · exact h.updPort p fun _ hq => hq

theorem sendRepeat_safe (h : RumbeSafe c.r) (p : RPort) (line : List Chip) : RumbeSafe (sendRepeat c p line).r := by
  unfold sendRepeat
  split
  · exact h
  · exact h.updPort p fun _ hq => hq

theorem queued_safe (h : RumbeSafe c.r) (p : RPort) (u : UFrame) :
    RumbeSafe (c.upd (fun r => updPort r p (fun q => queueUrgent q u))).r :=
  h.updPort p fun _ hq => queueUrgent_uq_length_le hq u

theorem urgentOut_safe (h : RumbeSafe c.r) (p : RPort) (e : Nat) (u : UFrame) : RumbeSafe (urgentOut c p e u).r :=
  h.updPort p fun _ hq => hq

theorem relayUrgent_safe (h : RumbeSafe c.r) (p : RPort) (since : Nat) (bs : List Byte) :
    RumbeSafe (relayUrgent c p since bs).r := by
  have hWait : RumbeSafe
      (if urgentDecodes bs then c.upd (fun r => updPort r p (fun q => queueUrgent q ⟨bs, false⟩)) else c).r := by
    split
    · exact queued_safe h p _
    · exact h
  simp only [relayUrgent]
  split
  · exact h
  · split
    · split
      · split
        · refine urgentOut_safe ?_ ..
          split
          · exact queued_safe h p _
          · exact h
        · exact hWait
      · exact h
    · split
      · exact hWait
      · exact urgentOut_safe h ..

theorem sendUrgent_safe (h : RumbeSafe c.r) (p : RPort) (bs : List Byte) : RumbeSafe (sendUrgent c p bs).r := by
  unfold sendUrgent
  extract_lets q u breaks
  split
  · exact h
  · split
    · exact queued_safe h p _
    · exact urgentOut_safe h ..

theorem sendAlarm_safe (h : RumbeSafe c.r) (code : Nat) : RumbeSafe (sendAlarm c code).r :=
  sendUrgent_safe (sendUrgent_safe h ..) ..

/-! ### Due steps (95) -/

/-- A cell alarm or MEAS_FAULT ends balancing, is taken by the head and goes out (05 R116, 06 R147, R148). -/
theorem alarmOut_safe (h : RumbeSafe c.r) (now code : Nat) :
    RumbeSafe (sendAlarm (c.upd (fun r => aspTake { r with bal := balEndClear r.bal now 8 } now)) code).r :=
  sendAlarm_safe (RumbeSafe.aspTake (h.withBal (h.balSafe.balEndClear now 8)) now) code

theorem fireDue_safe (h : RumbeSafe c.r) (d : RDue) : RumbeSafe (fireDue c d).r := by
  cases d with
  | assert cell k =>
    have hSent := alarmOut_safe (c := { c with now := min c.now c.r.dueAt, r := setAlarm c.r cell k true }) h
      (min c.now c.r.dueAt) 8
    exact hSent.withSentAt (some (min c.now c.r.dueAt)) _
  | measFault =>
    have hSent := alarmOut_safe (c := { c with now := min c.now c.r.dueAt, r := { c.r with measFault := true } }) h
      (min c.now c.r.dueAt) 9
    exact hSent.withSentAt _ (some (min c.now c.r.dueAt))
  | clear | modid | rangeHg | calFrozen | curFault => exact h

theorem foldl_fireDue_safe (h : RumbeSafe c.r) (ds : List RDue) : RumbeSafe (ds.foldl fireDue c).r := by
  induction ds generalizing c with
  | nil => exact h
  | cons d ds ih => exact ih (fireDue_safe h d)

theorem fireAll_safe (h : RumbeSafe c.r) : RumbeSafe (fireAll c).r := by
  refine foldl_fireDue_safe (c := c.upd _) ?_ _
  exact h

theorem fireOne_safe (d : RDue) : KeepsSafe (fun c => fireOne c d) := by
  intro c h
  simp only [fireOne]
  split
  · refine fireDue_safe (c := c.upd _) ?_ d
    exact h
  · exact h

theorem settle_safe (h : RumbeSafe c.r) : RumbeSafe (settle c).r := by
  refine fireAll_safe (c := c.upd _) ?_
  exact h.settleNotSampled c.now

/-- An event keeps a Rumbe safe where what it does while its condition holds does. -/
theorem rumbeEvent_safe {guard : Rumbe → Bool} {act : RCtx → RCtx} (h : RumbeSafe c.r)
    (hAct : ∀ c', guard c'.r = true → RumbeSafe c'.r → RumbeSafe (act c').r) : RumbeSafe (rumbeEvent c guard act).r := by
  simp only [rumbeEvent]
  split
  case isTrue hGuard => exact hAct _ hGuard (settle_safe h)
  case isFalse => exact settle_safe h

end Sys2Proof.Machine
end

section
/-! Every register write keeps a Rumbe safe: the clamp rules hold the thresholds, N_CELLS and SHUNT in their ranges, and
HEAD_EN is locked unless the gates are OPEN (03 Table 3-2, R58; 04 R77; 24 R533). -/

namespace Sys2Proof.Machine

theorem le_clampNat {lo hi : Nat} (h : lo ≤ hi) (v : Nat) : lo ≤ clampNat lo hi v := by
  unfold clampNat
  split
  · exact Nat.le_refl lo
  · split <;> omega

theorem clampNat_le {lo hi : Nat} (h : lo ≤ hi) (v : Nat) : clampNat lo hi v ≤ hi := by
  unfold clampNat
  split
  · exact h
  · split <;> omega

variable {r : Rumbe}

theorem settingStore_gate (r : Rumbe) (d : Dev) (now a v : Nat) : (settingStore r d now a v).gate = r.gate := by
  unfold settingStore
  split
  -- HEAD_EN
  case h_17 => split <;> split <;> rfl
  -- SHUNT
  case h_19 => split <;> rfl
  -- VAUX_EN
  case h_27 =>
    simp only [vauxEnSetTo]
    split
    · rfl
    · split <;> rfl
  all_goals rfl

/-- A setting takes a clamped value: each threshold is clamped against the other, HEAD_EN changes in OPEN alone. -/
theorem RumbeSafe.settingStore (h : RumbeSafe r) (d : Dev) (now w : Nat) {a : Nat} (hOpen : a = 0x20 → r.gate.st = .open) :
    RumbeSafe (settingStore r d now a (settingClamp r a w)) := by
  obtain ⟨hGate, hBal, ⟨hTh, hLow, hHigh⟩, hShunt, -⟩ := rumbeSafe_iff.mp h
  unfold Machine.settingStore
  split
  -- N_CELLS
  case h_5 => exact h.withMeas ⟨hTh, le_clampNat (by decide) w, clampNat_le (by decide) w⟩
  -- OV_TH
  case h_6 => exact h.withMeas ⟨Nat.le_max_right _ _, hLow, hHigh⟩
  -- UV_TH
  case h_7 =>
    have hUv : settingClamp r 0x12 w ≤ r.meas.ovTh - 1000 := Nat.min_le_right _ _
    exact h.withMeas ⟨by show settingClamp r 0x12 w + 1000 ≤ r.meas.ovTh; omega, hLow, hHigh⟩
  -- HEAD_EN
  case h_17 =>
    have hSafe (b : Bool) : GateSafe b r.gate := gateSafe_of_open (hOpen rfl) b
    split <;> split
    · exact h.withHead (hSafe false) hShunt
    · exact h
    · exact h
    · exact h.withHead (hSafe true) hShunt
  -- SHUNT
  case h_19 =>
    split
    · exact h
    · exact h.withHead hGate (le_clampNat (by decide) w)
  -- VAUX_EN
  case h_27 =>
    simp only [vauxEnSetTo]
    split
    · exact h
    · split <;> exact h
  -- BAL_EN
  case h_28 =>
    unfold balEnSetTo
    refine h.withBal ?_
    split
    · exact hBal.balEnd now 3
    · exact hBal
  all_goals exact h

/-- Words applied in ascending order keep a Rumbe safe where HEAD_EN is not among them or the gates are OPEN. -/
theorem RumbeSafe.applyWords (h : RumbeSafe r) (d : Dev) (now a : Nat) (vs : List Nat)
    (hOpen : ∀ i < vs.length, a + i = 0x20 → r.gate.st = .open) : RumbeSafe (applyWords d now r a vs).1 := by
  induction vs generalizing r a with
  | nil => exact h
  | cons v vs ih =>
    have hStored := h.settingStore d now (v % 2 ^ settingBits a) (a := a) fun ha => hOpen 0 (by simp) ha
    refine ih hStored (a + 1) fun i hi ha => ?_
    rw [settingStore_gate]
    exact hOpen (i + 1) (by simpa using hi) (by omega)

theorem RumbeSafe.regWriteDo (h : RumbeSafe r) (d : Dev) (now a : Nat) (vs : List Nat) :
    RumbeSafe (regWriteDo r d now a vs).1 := by
  simp only [Machine.regWriteDo]
  split
  · exact h
  · split
    · exact h
    case isFalse hFree =>
      refine h.applyWords d now a vs fun i hi ha => ?_
      simp only [List.any_eq_true, List.mem_range, not_exists, not_and] at hFree
      simpa [settingLocked, ha] using hFree i hi

end Sys2Proof.Machine
end

section
/-! Every frame a Rumbe hears keeps it safe, urgent or not (06 R127 to R134, Tables 6-3 to 6-6). -/

namespace Sys2Proof.Machine

variable {c : RCtx}

/-! ### Hearing a frame, answering a command -/

/-- Hearing a frame keeps a Rumbe safe where what its type does then does. -/
theorem rxFrame_safe (h : RumbeSafe c.r) {act : RCtx → RCtx} (hAct : KeepsSafe act) (x : Rx) (type : Nat)
    (rw : List Byte → List Byte) : RumbeSafe (rxFrame c x type rw act).r := by
  unfold rxFrame
  split
  · exact h
  · extract_lets c₁ c₂ good c₃ c₄
    have h₁ : RumbeSafe c₁.r := settle_safe h
    have h₂ : RumbeSafe c₂.r := h₁.updPort _ fun _ hq => portHears_uq_length_le hq _ _
    have h₃ : RumbeSafe c₃.r := by
      unfold c₃
      split <;> exact h₂
    have h₄ : RumbeSafe c₄.r := by
      unfold c₄
      split
      · exact h₃
      · exact sendRepeat_safe h₃ ..
    split
    · exact h₁
    · split
      split
      · exact h₃
      · split
        · exact h₃
        · split
          · exact h₄
          · split
            · exact h₄
            · exact hAct _ h₄

theorem respond_safe (h : RumbeSafe c.r) (x : Rx) (type : Nat) (bs : List Byte) :
    RumbeSafe (respond c x type bs).r := sendOwn_safe h ..

/-- Executing a command and answering it keeps a Rumbe safe where what it runs does. -/
theorem command_safe (h : RumbeSafe c.r) {run : RCtx → RCtx × Nat × List Byte} (hRun : KeepsSafe (fun c => (run c).1))
    (x : Rx) (type : Nat) (bc lenOk : Bool) : RumbeSafe (command c x type bc lenOk run).r := by
  have hAnswered (keep : Prop) [Decidable keep] (l : Option LastCmd) (rt : Nat) (bs : List Byte) : RumbeSafe (respond
      (if keep then (run c).1 else (run c).1.upd (fun r => { r with lastCmd := l })) x rt bs).r := by
    refine respond_safe ?_ ..
    split <;> exact hRun c h
  unfold command
  split
  · split
    · exact respond_safe h ..
    · split
      · split
        · exact respond_safe h ..
        · exact hAnswered ..
      · exact hAnswered ..
  · split
    · exact hRun c h
    · exact h

/-! ### Sweep triggers, COLLECT, ENUMERATE and other broadcasts -/

theorem takeTrigger_safe (h : RumbeSafe c.r) (x : Rx) (seq : Nat) (addr : Bool) : RumbeSafe (takeTrigger c x seq addr).r := by
  unfold takeTrigger
  extract_lets start recent
  rw [RCtx.upd_r]
  extract_lets r
  split <;> exact h

theorem rxSweep_safe (x : Rx) : KeepsSafe (fun c => rxSweep c x) := by
  refine fun c h => rxFrame_safe h (fun c' h' => ?_) x 1 id
  split
  · exact takeTrigger_safe h' ..
  · exact h'

theorem rxLateSweep_safe (x : Rx) : KeepsSafe (fun c => rxLateSweep c x) := by
  refine fun c h => rxFrame_safe h (fun c' h' => ?_) x 2 id
  split
  · exact takeTrigger_safe h' ..
  · exact h'

theorem rxCollect_safe (x : Rx) : KeepsSafe (fun c => rxCollect c x) := by
  intro c h
  simp only [rxCollect]
  refine rxFrame_safe h (fun c' h' => ?_) x 3 (countUp x)
  split <;> exact h'

theorem rxEnumerate_safe (x : Rx) : KeepsSafe (fun c => rxEnumerate c x) := by
  intro c h
  simp only [rxEnumerate]
  refine rxFrame_safe h (fun c' h' => ?_) ..
  split <;> exact h'

theorem rxRepeatOnly_safe (x : Rx) : KeepsSafe (fun c => rxRepeatOnly c x) := by
  intro c h
  simp only [rxRepeatOnly]
  split
  · exact rxFrame_safe h (fun _ h' => h') ..
  · exact h

/-! ### Addressed commands -/

theorem rxReadRecord_safe (x : Rx) : KeepsSafe (fun c => rxReadRecord c x) :=
  fun _ h => rxFrame_safe h (fun _ h' => command_safe h' (fun _ hc => hc) ..) ..

theorem rxRegRead_safe (x : Rx) : KeepsSafe (fun c => rxRegRead c x) := by
  refine fun c h => rxFrame_safe h (fun _ h' => command_safe h' (fun c' hc => ?_) ..) ..
  dsimp only
  split <;> exact hc

theorem rxRegWrite_safe (x : Rx) : KeepsSafe (fun c => rxRegWrite c x) :=
  fun _ h => rxFrame_safe h (fun _ h' => command_safe h' (fun _ hc => hc.regWriteDo ..) ..) ..

theorem rxWriteOf_safe (x : Rx) (a : Nat) (p : Rumbe → Nat → Bool) : KeepsSafe (rxWriteOf x a p) := by
  intro c h
  unfold rxWriteOf
  split
  · split
    · exact rxRegWrite_safe x c h
    · exact h
  · exact h

theorem rxGate_safe (x : Rx) (code : Nat) {run : RCtx → RCtx × Nat × List Byte} (hRun : KeepsSafe (fun c => (run c).1)) :
    KeepsSafe (fun c => rxGate c x code run) := by
  intro c h
  simp only [rxGate]
  split
  · exact h
  · refine rxFrame_safe h (fun _ h' => command_safe h' (fun c' hc => ?_) ..) ..
    dsimp only
    split
    · exact hc
    · exact hRun c' hc

theorem gateOpenDo_safe : KeepsSafe (fun c => (gateOpenDo c).1) := by
  intro c h
  simp only [gateOpenDo]
  split
  · exact h.openReq 1 c.now
  · exact h

/-- A gate moves only at a head with no latch set and no hold (04 R75, R88). -/
theorem gateMoveDo_safe (target : GateSt) : KeepsSafe (fun c => (gateMoveDo target c).1) := by
  intro c h
  simp only [gateMoveDo]
  split
  · exact h
  case isFalse hFree =>
    have hClear : c.r.head.headEn = true ∧ c.r.gate.scTrip = false ∧ c.r.gate.rampFault = false
        ∧ c.r.gate.pchgFault = false ∧ c.r.gate.pumpUv = false ∧ c.r.gate.aspHold = false := by
      simp_all [gateLatched]
    split
    · exact h
    · split
      · exact h
      · split <;> exact h.withGate fun _ => hClear

theorem balEntryDo_safe {r : Rumbe} (h : RumbeSafe r) (b : List Byte) : RumbeSafe (balEntryDo r b).1 := by
  obtain ⟨hPhase, -, hLog⟩ := h.balSafe
  simp only [balEntryDo]
  split
  · exact h
  · split
    · exact h
    · split
      · exact h
      case isFalse hFull =>
        refine h.withBal ⟨hPhase, ?_, hLog⟩
        simp only [List.length_append, List.length_singleton]
        omega

theorem balEntriesDo_safe {r : Rumbe} (h : RumbeSafe r) (pl : List Byte) (n i : Nat) :
    RumbeSafe (balEntriesDo pl n i r).1 := by
  induction n generalizing r i with
  | zero => exact h
  | succ n ih => exact ih (balEntryDo_safe h _) (i + 1)

theorem balanceDo_safe (pl : List Byte) : KeepsSafe (fun c => (balanceDo pl c).1) := by
  intro c h
  refine balEntriesDo_safe ?_ ..
  split
  · exact h.withBal (h.balSafe.balEndClear c.now 4)
  · exact h

theorem rxBalance_safe (x : Rx) (replace : Bool) : KeepsSafe (fun c => rxBalance c x replace) := by
  intro c h
  simp only [rxBalance]
  split
  · exact h
  · exact rxFrame_safe h (fun _ h' => command_safe h' (balanceDo_safe _) ..) ..

/-! ### CONTROL -/

theorem rxControl_safe (x : Rx) (code : Nat) (argOk : Nat → Bool) {run : Nat → RCtx → RCtx × Nat}
    (hRun : ∀ arg, KeepsSafe (fun c => (run arg c).1)) : KeepsSafe (fun c => rxControl c x code argOk run) := by
  intro c h
  simp only [rxControl]
  split
  · exact h
  · refine rxFrame_safe h (fun _ h' => command_safe h' (fun c' hc => ?_) ..) ..
    dsimp only
    split
    · exact hc
    · exact hRun _ c' hc

theorem balStopDo_safe : KeepsSafe (fun c => (balStopDo c).1) := fun c h => h.withBal (h.balSafe.balEndClear c.now 3)

theorem faultClearDo_safe : KeepsSafe (fun c => (faultClearDo c).1) := by
  intro c h
  obtain ⟨-, hQueue, hLog⟩ := h.balSafe
  have hGate : GateSafe c.r.head.headEn
      { c.r.gate with scTrip := false, rampFault := false, pchgFault := false, pumpUv := false } := by
    intro hSt
    obtain ⟨hHead, -, -, -, -, hHold⟩ := h.gateSafe hSt
    exact ⟨hHead, rfl, rfl, rfl, rfl, hHold⟩
  have hBal : BalSafe { c.r.bal with selFault := false, priOc := false } := ⟨by simp, hQueue, hLog⟩
  exact (h.withGate hGate).withBal hBal

theorem aspReleaseDo_safe : KeepsSafe (fun c => (aspReleaseDo c).1) := by
  intro c h
  simp only [aspReleaseDo]
  split
  · exact h
  · refine h.withGate fun hSt => ?_
    obtain ⟨hHead, hSc, hRamp, hPchg, hUv, -⟩ := h.gateSafe hSt
    exact ⟨hHead, hSc, hRamp, hPchg, hUv, rfl⟩

theorem portCutDo_safe (cut : Bool) (arg : Nat) : KeepsSafe (fun c => (portCutDo cut arg c).1) :=
  fun _ h => h.updPort _ fun _ hq => hq

theorem sleepDo_safe : KeepsSafe (fun c => (sleepDo c).1) := by
  intro c h
  simp only [sleepDo, RCtx.upd_r]
  split
  · exact h.openReq 1 c.now
  · exact h

/-! ### Urgent frames -/

/-- Hearing an urgent frame keeps a Rumbe safe where what its code then does does. -/
theorem rxUrgent_safe (h : RumbeSafe c.r) {act : RCtx → RCtx} (hAct : KeepsSafe act) (u : URx) :
    RumbeSafe (rxUrgent c u act).r := by
  unfold rxUrgent
  split
  · exact h
  · extract_lets c₁ bs since c₂ c₃
    have h₁ : RumbeSafe c₁.r := settle_safe h
    have h₂ : RumbeSafe c₂.r := h₁.updPort _ fun _ hq => portHears_uq_length_le hq _ _
    have h₃ : RumbeSafe c₃.r := by
      unfold c₃
      split
      · exact h₂
      · exact relayUrgent_safe h₂ ..
    split
    · exact h₁
    · split
      · exact h₃
      · split
        · exact h₃
        · refine hAct _ ?_
          split <;> exact h₃

theorem rxUrgentCode_safe (u : URx) (code : Nat) {act : RCtx → RCtx} (hAct : KeepsSafe act) :
    KeepsSafe (fun c => rxUrgentCode c u code act) := by
  intro c h
  simp only [rxUrgentCode]
  split
  · exact h
  · exact rxUrgent_safe h hAct u

theorem rxReservedUrgent_safe (u : URx) : KeepsSafe (fun c => if reservedUrgent u.bytes then rxUrgent c u id else c) := by
  intro c h
  dsimp only
  split
  · exact rxUrgent_safe h (fun _ hc => hc) u
  · exact h

theorem eopenDo_safe : KeepsSafe eopenDo := by
  intro c h
  have hOpen : RumbeSafe (if c.r.head.headEn then openReq c.r 2 c.now else c.r) := by
    split
    · exact h.openReq 2 c.now
    · exact h
  exact hOpen.withBal (hOpen.balSafe.balEndClear c.now 11)

theorem strOpenDo_safe (arg : Nat) : KeepsSafe (strOpenDo arg) := by
  intro c h
  simp only [strOpenDo, RCtx.upd_r]
  split
  · exact h.openReq 2 c.now
  · exact h

theorem alarmRxDo_safe (arg : Nat) : KeepsSafe (alarmRxDo arg) := by
  intro c h
  simp only [alarmRxDo, RCtx.upd_r]
  split
  · exact h.aspTake c.now
  · exact h

end Sys2Proof.Machine
end

section
/-! Every event of a Rumbe keeps it safe: sweeps and their commit (03), the current channel, gates, trips and VAUX (04),
transfers (05), own transmissions, reset, sleep and wake (06). -/

namespace Sys2Proof.Machine

variable {c : RCtx}

/-! ### Reset, sleep and wake -/

theorem porDo_safe : KeepsSafe porDo := fun c _ => rumbeSafe_rumbeAfterPor c.dev c.now

theorem softDo_safe (repeating : Bool) : KeepsSafe (softDo repeating) :=
  fun _ h => rumbeEvent_safe h fun c' _ _ => rumbeSafe_rumbeAfterPor c'.dev c'.now

theorem commExpireDo_safe : KeepsSafe commExpireDo := by
  refine fun c h => rumbeEvent_safe h fun c' _ h' => ?_
  have hEnded : RumbeSafe { c'.r with bal := balEndClear c'.r.bal c'.now 12 } := h'.withBal (h'.balSafe.balEndClear c'.now 12)
  rw [RCtx.upd_r]
  extract_lets r₁ r₂
  have h₂ : RumbeSafe r₂ := by
    unfold r₂
    split
    · exact hEnded.openReq 4 c'.now
    · exact hEnded
  exact h₂

theorem sleepEnterDo_safe : KeepsSafe sleepEnterDo :=
  fun _ h => rumbeEvent_safe h fun c' _ h' => h'.withBal (h'.balSafe.balEndClear c'.now 12)

theorem wakeDetectDo_safe (p : RPort) : KeepsSafe (wakeDetectDo p) := by
  refine fun c h => rumbeEvent_safe h fun c' _ h' => ?_
  dsimp only
  split <;> exact h'

theorem wakeReadyDo_safe : KeepsSafe wakeReadyDo := fun _ h => rumbeEvent_safe h fun _ _ h' => h'

/-! ### Own transmissions -/

theorem recordSendDo_safe : KeepsSafe recordSendDo := by
  refine fun c h => rumbeEvent_safe h fun c' _ h' => ?_
  split
  · refine sendOwn_safe (c := c'.upd _) ?_ ..
    exact h'
  · exact h'

theorem urgentQueueDo_safe (p : RPort) (idle : Bool) : KeepsSafe (urgentQueueDo p idle) := by
  refine fun c h => rumbeEvent_safe h fun c' _ h' => ?_
  split
  case h_1 u us hQueue =>
    have hRest : us.length ≤ 4 := by
      have hLen := h'.uq_length_le p
      rw [hQueue] at hLen
      exact Nat.le_of_succ_le hLen
    refine urgentOut_safe (c := c'.upd _) ?_ ..
    exact h'.updPort p (f := fun q => { q with uq := us }) fun _ _ => hRest
  case h_2 => exact h'

theorem frameResendDo_safe (p : RPort) (idle : Bool) : KeepsSafe (frameResendDo p idle) := by
  refine fun c h => rumbeEvent_safe h fun c' _ h' => ?_
  split
  · refine sendOwn_safe (c := c'.upd _) ?_ ..
    exact h'.updPort p fun _ hq => hq
  · exact h'

theorem jabCutDo_safe (p : RPort) : KeepsSafe (jabCutDo p) := by
  refine fun c h => rumbeEvent_safe h fun c' _ h' => ?_
  exact h'.updPort p (f := fun q => { q with jab := true }) fun _ hq => hq

theorem jabResumeDo_safe (p : RPort) : KeepsSafe (jabResumeDo p) :=
  fun _ h => rumbeEvent_safe h fun _ _ h' => h'.updPort p fun _ hq => hq

/-! ### Sweeps -/

theorem sweepStartDo_safe : KeepsSafe sweepStartDo := by
  refine fun c h => rumbeEvent_safe h fun c' _ h' => ?_
  have hRecords (due : List Nat) (seq : Nat) : (dropRecord c'.r.records due seq).length ≤ 4 :=
    Nat.le_trans (dropRecord_length_le ..) h'.records_length_le
  rw [RCtx.upd_r]
  split
  · exact h'.withRecords (hRecords ..)
  · exact h'

theorem RumbeSafe.modidTake {r : Rumbe} (h : RumbeSafe r) (st : Nat) : RumbeSafe (modidTake r st).1 := by
  unfold Machine.modidTake
  split
  · exact h
  · split
    · exact h
    · extract_lets run
      split <;> exact h

theorem alarmRepeat_safe (h : RumbeSafe c.r) (after : Rumbe) (asserts measDue : Bool) :
    RumbeSafe (alarmRepeat after asserts measDue c).r := by
  unfold alarmRepeat
  extract_lets old c₁
  have h₁ : RumbeSafe c₁.r := by
    unfold c₁
    split
    · exact (sendAlarm_safe h 8).withSentAt _ _
    · exact h
  split
  · exact (sendAlarm_safe h₁ 9).withSentAt _ _
  · exact h₁

/-- A commit puts one record into the buffer, takes a die temperature and may end the transfer (03 R72, 05 R112, R114). -/
theorem commitDo_safe (h : RumbeSafe c.r) (sw : Sweep) (m : Readings) : RumbeSafe (commitDo sw m c).r := by
  unfold commitDo
  extract_lets r s refF refRun measDue measF vs ovr mask
  split
  extract_lets r₁ after
  split; split; split
  case h_1 r₂ mst unst hTaken =>
  have h₂ : RumbeSafe r₂ := by
    have hTake := RumbeSafe.modidTake (r := r₁) h (modidState m.modid)
    rwa [hTaken] at hTake
  extract_lets _ _ _ r₃ _ _ _ _ _ _ _ _ r₄ r₅
  have h₃ : RumbeSafe r₃ := h₂.withBal (h₂.balSafe.balTemp ..)
  have h₄ : RumbeSafe r₄ := (h₃.withRecords (putRecord_length_le ..)).withBal h₃.balSafe
  have h₅ : RumbeSafe r₅ := by
    unfold r₅
    split
    · exact h₄.withBal (h₄.balSafe.balEnd ..)
    · exact h₄
  exact alarmRepeat_safe h₅ ..

theorem sweepCommitDo_safe (m : Readings) : KeepsSafe (sweepCommitDo m) := by
  refine fun c h => rumbeEvent_safe h fun c' _ h' => ?_
  split
  · exact commitDo_safe h' ..
  · exact h'

theorem modidChangeDo_safe : KeepsSafe modidChangeDo := by
  intro c h
  unfold modidChangeDo
  split
  · exact fireOne_safe _ c h
  · exact h

theorem balIdleEndDo_safe : KeepsSafe balIdleEndDo := fun _ h => rumbeEvent_safe h fun _ _ h' => h'

/-! ### The current channel -/

theorem modSettleDo_safe : KeepsSafe modSettleDo := fun _ h => rumbeEvent_safe h fun _ _ h' => h'

theorem intervalDo_safe (hg lg : Int) (hgOver lgOver : Bool) : KeepsSafe (intervalDo hg lg hgOver lgOver) :=
  fun _ h => rumbeEvent_safe h fun _ _ h' => h'

/-! ### Gates and trips: each latch is set once the gates are OPEN (04 R75) -/

theorem scTripDo_safe (uv : Int) (ns : Nat) : KeepsSafe (scTripDo uv ns) := by
  refine fun c h => rumbeEvent_safe h fun c' _ h' => sendAlarm_safe (c := RCtx.upd _ _) ?_ 0xA
  exact h'.withGate (gateSafe_of_open rfl _)

theorem rampTripDo_safe (k : RampTrip) : KeepsSafe (rampTripDo k) := by
  refine fun c h => rumbeEvent_safe h fun c' _ h' => sendAlarm_safe (c := RCtx.upd _ _) ?_ 0xA
  exact h'.withGate (gateSafe_of_open rfl _)

theorem prechargeTimeoutDo_safe : KeepsSafe prechargeTimeoutDo :=
  fun _ h => rumbeEvent_safe h fun _ _ h' => h'.withGate (gateSafe_of_open rfl _)

theorem rampTimeoutDo_safe : KeepsSafe rampTimeoutDo :=
  fun _ h => rumbeEvent_safe h fun _ _ h' => h'.withGate (gateSafe_of_open rfl _)

theorem pumpUvDo_safe (chg dsg ns : Nat) : KeepsSafe (pumpUvDo chg dsg ns) :=
  fun _ h => rumbeEvent_safe h fun _ _ h' => h'.withGate (gateSafe_of_open rfl _)

/-! ### Gates that go on from a state other than OPEN (04 R89, R90, R93): latches and hold stay clear -/

theorem prechargeDoneDo_safe : KeepsSafe prechargeDoneDo := by
  refine fun c h => rumbeEvent_safe h fun c' hGuard h' => h'.withGate fun _ => h'.gateSafe ?_
  simp_all

theorem rampDoneDo_safe (chg dsg : Nat) : KeepsSafe (rampDoneDo chg dsg) := by
  refine fun c h => rumbeEvent_safe h fun c' hGuard h' => h'.withGate fun _ => h'.gateSafe ?_
  simp_all

theorem contactorEndDo_safe : KeepsSafe contactorEndDo := by
  refine fun c h => rumbeEvent_safe h fun c' hGuard h' => h'.withGate fun _ => h'.gateSafe ?_
  simp_all

theorem pchgOffDo_safe : KeepsSafe pchgOffDo := fun _ h => rumbeEvent_safe h fun _ _ h' => h'

/-! ### VAUX -/

theorem vauxCheckDo_safe (mv : Nat) : KeepsSafe (vauxCheckDo mv) := fun _ h => rumbeEvent_safe h fun _ _ h' => h'
theorem vauxUvDo_safe (mv : Nat) : KeepsSafe (vauxUvDo mv) := fun _ h => rumbeEvent_safe h fun _ _ h' => h'
theorem vauxRetryDo_safe : KeepsSafe vauxRetryDo := fun _ h => rumbeEvent_safe h fun _ _ h' => h'
theorem vauxRetryResetDo_safe (mv : Nat) : KeepsSafe (vauxRetryResetDo mv) := fun _ h => rumbeEvent_safe h fun _ _ h' => h'
theorem vauxThermalDo_safe (tj : Int) : KeepsSafe (vauxThermalDo tj) := fun _ h => rumbeEvent_safe h fun _ _ h' => h'

/-! ### Transfers -/

/-- A transfer starts only while neither latch is set (05 R118). -/
theorem balStartDo_safe : KeepsSafe balStartDo := by
  refine fun c h => rumbeEvent_safe h fun c' hMay h' => ?_
  obtain ⟨-, hQueue, hLog⟩ := h'.balSafe
  rw [RCtx.upd_r]
  split
  case h_1 e es hEntries =>
    extract_lets _ b
    have hb : BalSafe b := by
      have hNoLatch : ¬(c'.r.bal.selFault = true ∨ c'.r.bal.priOc = true) := by simp_all [balMayStart]
      refine ⟨fun hLatch => absurd hLatch hNoLatch, ?_, hLog⟩
      have hLen : es.length + 1 ≤ 4 := by simpa [hEntries] using hQueue
      exact Nat.le_of_succ_le hLen
    refine h'.withBal ?_
    split
    · exact hb.balEndClear c'.now 8
    · exact hb
  case h_2 => exact h'

theorem balCheckDo_safe (busMv : Int) : KeepsSafe (balCheckDo busMv) := by
  refine fun c h => rumbeEvent_safe h fun c' _ h' => ?_
  obtain ⟨hPhase, hQueue, hLog⟩ := h'.balSafe
  rw [RCtx.upd_r]
  split
  · exact h'.withBal ((h'.balSafe.balEndClear c'.now 9).withLatches (balEnd_phase ..) true _)
  · split
    case isTrue hCheck =>
      refine h'.withBal ⟨fun hLatch => ?_, hQueue, hLog⟩
      exact absurd (hPhase hLatch) (by simp [hCheck])
    case isFalse => exact h'

theorem balCycleDo_safe (bcsUv tPri tSec : Nat) (tDie : Int) : KeepsSafe (balCycleDo bcsUv tPri tSec tDie) := by
  refine fun c h => rumbeEvent_safe h fun c' _ h' => ?_
  rw [RCtx.upd_r]
  split
  extract_lets b₁ b₂ b₃
  have h₃ : BalSafe b₃ := BalSafe.balTemp (b := b₂) h'.balSafe c'.now tDie
  refine h'.withBal ?_
  split
  · exact h₃.balEnd c'.now 1
  · exact h₃

theorem balTimeoutDo_safe : KeepsSafe balTimeoutDo :=
  fun _ h => rumbeEvent_safe h fun c' _ h' => h'.withBal (h'.balSafe.balEnd c'.now 2)

theorem balOvertempDo_safe (tDie : Int) : KeepsSafe (balOvertempDo tDie) :=
  fun _ h => rumbeEvent_safe h fun c' _ h' => h'.withBal (h'.balSafe.balTemp c'.now tDie)

theorem balPriOcDo_safe (bcsUv ns : Nat) : KeepsSafe (balPriOcDo bcsUv ns) :=
  fun _ h => rumbeEvent_safe h fun c' _ h' =>
    h'.withBal ((h'.balSafe.balEndClear c'.now 10).withLatches (balEnd_phase ..) _ true)

theorem balModuleDo_safe (mv : Nat) : KeepsSafe (balModuleDo mv) := by
  refine fun c h => rumbeEvent_safe h fun c' _ h' => ?_
  rw [RCtx.upd_r]
  split
  · exact h'.withBal (h'.balSafe.balEnd c'.now 6)
  · exact h'

end Sys2Proof.Machine
end

section
/-! Every command leaves the queue alone, and one that is not a Rumbe's leaves every Rumbe alone (06 R122, R125); one that is a
Rumbe's keeps it safe, whatever the plant, the wire and the other devices do. So every step keeps the invariant. -/

namespace Sys2Proof.Machine

/-- Every command completes with a next state, in which the queue is as it was; only a Rumbe's command touches a Rumbe. The frame
lemma of each row's meaning says so (Laws/Frames). -/
theorem exec_keeps_queue_and_others (i : Instr) (s : State) :
    ∃ u, exec i s = .next u ∧ u.pending = s.pending ∧ (rumbeOf i = none → u.rumbes = s.rumbes) := by
  cases i with
  | jabberCut t j | jabberResume t j =>
    cases j with
    | broros p sd | rumbe d p => exact ⟨_, rfl, by simp, by simp [rumbeOf]⟩
  | _ => exact ⟨_, rfl, by simp -implicitDefEqProofs, by simp -implicitDefEqProofs [rumbeOf]⟩

/-- A row that lifts an operation which keeps a Rumbe safe keeps every Rumbe safe: the others are as they were. -/
theorem onRumbe_safe {s u : State} {t : Nat} {d : Dev} {f : RCtx → RCtx} (hs : ∀ e, RumbeSafe (s.rumbe e)) (hf : KeepsSafe f)
    (hExec : Host.Outcome.next (onRumbe t d f s) = (.next u : Host.Outcome State Fault Refusal)) (e : Dev) :
    RumbeSafe (u.rumbe e) := by
  cases hExec
  rw [onRumbe_eq]
  by_cases hed : e = d
  · subst hed
    rw [afterRumbe_rumbe]
    exact hf _ (hs e)
  · rw [afterRumbe_rumbe_ne _ _ _ hed]
    exact hs e

/-- A command of a Rumbe keeps every Rumbe safe: each row by the operation it lifts. -/
theorem exec_rumbe_safe {i : Instr} {s u : State} (hRow : rumbeOf i ≠ none) (hs : ∀ d, RumbeSafe (s.rumbe d))
    (hExec : exec i s = .next u) : ∀ d, RumbeSafe (u.rumbe d) := by
  cases i with
  | rumbePor => exact onRumbe_safe hs porDo_safe hExec
  | softResetExecute => exact onRumbe_safe hs (softDo_safe _) hExec
  | tCommExpiry => exact onRumbe_safe hs commExpireDo_safe hExec
  | sleepEnter => exact onRumbe_safe hs sleepEnterDo_safe hExec
  | wakeDetect => exact onRumbe_safe hs (wakeDetectDo_safe _) hExec
  | wakeReady => exact onRumbe_safe hs wakeReadyDo_safe hExec
  -- Frames
  | sweep => exact onRumbe_safe hs (rxSweep_safe _) hExec
  | lateSweep => exact onRumbe_safe hs (rxLateSweep_safe _) hExec
  | collect => exact onRumbe_safe hs (rxCollect_safe _) hExec
  | readRecord => exact onRumbe_safe hs (rxReadRecord_safe _) hExec
  | regRead => exact onRumbe_safe hs (rxRegRead_safe _) hExec
  | regWrite => exact onRumbe_safe hs (rxRegWrite_safe _) hExec
  | headEnSet | headEnClear | shuntChange | devIdWrite | tCommWrite | vauxEnSet | vauxEnClear | balEnClear =>
    exact onRumbe_safe hs (rxWriteOf_safe _ _ _) hExec
  | enumerate => exact onRumbe_safe hs (rxEnumerate_safe _) hExec
  | gateOpen => exact onRumbe_safe hs (rxGate_safe _ _ gateOpenDo_safe) hExec
  | gateClose | gateChgOnly | gateDsgOnly => exact onRumbe_safe hs (rxGate_safe _ _ (gateMoveDo_safe _)) hExec
  | balanceAppend | balanceReplace => exact onRumbe_safe hs (rxBalance_safe _ _) hExec
  | balStop => exact onRumbe_safe hs (rxControl_safe _ _ _ fun _ => balStopDo_safe) hExec
  | faultClear => exact onRumbe_safe hs (rxControl_safe _ _ _ fun _ => faultClearDo_safe) hExec
  | aspRelease => exact onRumbe_safe hs (rxControl_safe _ _ _ fun _ => aspReleaseDo_safe) hExec
  | portCut | portRestore => exact onRumbe_safe hs (rxControl_safe _ _ _ fun _ => portCutDo_safe _ _) hExec
  | sleep => exact onRumbe_safe hs (rxControl_safe _ _ _ fun _ => sleepDo_safe) hExec
  | softReset | modidAck | clearId | ringTest => exact onRumbe_safe hs (rxControl_safe _ _ _ fun _ _ hc => hc) hExec
  | reservedFrame => exact onRumbe_safe hs (rxRepeatOnly_safe _) hExec
  | eopen => exact onRumbe_safe hs (rxUrgentCode_safe _ _ eopenDo_safe) hExec
  | strOpen => exact onRumbe_safe hs (rxUrgentCode_safe _ _ (strOpenDo_safe _)) hExec
  | alarmCell | alarmMeas => exact onRumbe_safe hs (rxUrgentCode_safe _ _ (alarmRxDo_safe _)) hExec
  | alarmTrip => exact onRumbe_safe hs (rxUrgentCode_safe _ _ fun _ hc => hc) hExec
  | reservedUrgentCode => exact onRumbe_safe hs (rxReservedUrgent_safe _) hExec
  -- Own transmissions
  | recordSend => exact onRumbe_safe hs recordSendDo_safe hExec
  | urgentQueueSend => exact onRumbe_safe hs (urgentQueueDo_safe _ _) hExec
  | frameResend => exact onRumbe_safe hs (frameResendDo_safe _ _) hExec
  | jabberCut t j =>
    cases j with
    | broros => exact absurd rfl hRow
    | rumbe => exact onRumbe_safe hs (jabCutDo_safe _) hExec
  | jabberResume t j =>
    cases j with
    | broros => exact absurd rfl hRow
    | rumbe => exact onRumbe_safe hs (jabResumeDo_safe _) hExec
  -- Sweeps
  | sweepStart => exact onRumbe_safe hs sweepStartDo_safe hExec
  | sweepCommit => exact onRumbe_safe hs (sweepCommitDo_safe _) hExec
  | cellAlarmAssert | cellAlarmClear | measFaultLatch | rangeToHg | calFrozen | curFaultLatch =>
    exact onRumbe_safe hs (fireOne_safe _) hExec
  | modidStateChange => exact onRumbe_safe hs modidChangeDo_safe hExec
  | balIdleEnd => exact onRumbe_safe hs balIdleEndDo_safe hExec
  -- Current, gates, VAUX
  | modulatorSettle => exact onRumbe_safe hs modSettleDo_safe hExec
  | currentInterval => exact onRumbe_safe hs (intervalDo_safe _ _ _ _) hExec
  | scTrip => exact onRumbe_safe hs (scTripDo_safe _ _) hExec
  | rampWatchTrip => exact onRumbe_safe hs (rampTripDo_safe _) hExec
  | prechargeDone => exact onRumbe_safe hs prechargeDoneDo_safe hExec
  | prechargeTimeout => exact onRumbe_safe hs prechargeTimeoutDo_safe hExec
  | rampDone => exact onRumbe_safe hs (rampDoneDo_safe _ _) hExec
  | contactorRampEnd => exact onRumbe_safe hs contactorEndDo_safe hExec
  | pchgOff => exact onRumbe_safe hs pchgOffDo_safe hExec
  | rampTimeout => exact onRumbe_safe hs rampTimeoutDo_safe hExec
  | pumpUv => exact onRumbe_safe hs (pumpUvDo_safe _ _ _) hExec
  | vauxSoftStartCheck => exact onRumbe_safe hs (vauxCheckDo_safe _) hExec
  | vauxUndervoltage => exact onRumbe_safe hs (vauxUvDo_safe _) hExec
  | vauxRetry => exact onRumbe_safe hs vauxRetryDo_safe hExec
  | vauxRetryReset => exact onRumbe_safe hs (vauxRetryResetDo_safe _) hExec
  | vauxThermalShutdown => exact onRumbe_safe hs (vauxThermalDo_safe _) hExec
  -- Transfers
  | balTransferStart => exact onRumbe_safe hs balStartDo_safe hExec
  | balCheckDone => exact onRumbe_safe hs (balCheckDo_safe _) hExec
  | balCycle => exact onRumbe_safe hs (balCycleDo_safe _ _ _ _) hExec
  | balTimeout => exact onRumbe_safe hs balTimeoutDo_safe hExec
  | balOvertemp => exact onRumbe_safe hs (balOvertempDo_safe _) hExec
  | balPriOc => exact onRumbe_safe hs (balPriOcDo_safe _ _) hExec
  | balModuleV => exact onRumbe_safe hs (balModuleDo_safe _) hExec
  | _ => exact absurd rfl hRow

/-- A command keeps every Rumbe safe: its own row's operation does, and another command leaves them alone. -/
theorem exec_safe {i : Instr} {s u : State} (hs : ∀ d, RumbeSafe (s.rumbe d)) (hExec : exec i s = .next u) (d : Dev) :
    RumbeSafe (u.rumbe d) := by
  by_cases hRow : rumbeOf i = none
  · obtain ⟨u', hExec', -, hOthers⟩ := exec_keeps_queue_and_others i s
    obtain rfl : u' = u := Host.Outcome.next.inj (hExec'.symm.trans hExec)
    rw [State.rumbe, hOthers hRow]
    exact hs d
  · exact exec_rumbe_safe hRow hs hExec d

/-- Settles O59: a step runs the command at the front on the queue's rest; that command keeps every Rumbe safe and leaves the
queue alone, so what waits then waited before. -/
theorem stepKeepsInv : Obligations.StepKeepsInv := by
  intro s u ⟨hRumbes, hPending⟩ hStep
  cases hQueue : s.pending with
  | nil =>
    obtain rfl : s = u := by simpa [step, hQueue] using hStep
    exact ⟨hRumbes, hPending⟩
  | cons i rest =>
    have hExec : exec i { s with pending := rest } = .next u := by simpa [step, hQueue] using hStep
    obtain ⟨u', hExec', hSame, -⟩ := exec_keeps_queue_and_others i { s with pending := rest }
    obtain rfl : u' = u := Host.Outcome.next.inj (hExec'.symm.trans hExec)
    refine ⟨exec_safe (s := { s with pending := rest }) hRumbes hExec, fun c hc => hPending c ?_⟩
    rw [hQueue]
    rw [hSame] at hc
    exact List.mem_cons_of_mem i hc

end Sys2Proof.Machine
end

section
/-! The current channel and the VAUX output of a head, step by step (04 R59, R79 to R83, R98 to R100, R538). -/

namespace Sys2Proof.Machine

variable {c : RCtx}

/-! ### The current channel -/

/-- MODULATOR_SETTLE: the grid starts once the modulators have settled (04 R538). -/
theorem modSettleDo_of_settled (hRun : (settle c).r.cur.running = true) (hGrid : (settle c).r.cur.gridAt = none)
    (hAt : (settle c).r.cur.settleAt ≤ (settle c).now) :
    modSettleDo c = (settle c).into { (settle c).r with cur := { (settle c).r.cur with gridAt := some (settle c).now } } := by
  rw [modSettleDo, rumbeEvent_of_guard (by simp_all)]
  rfl

/-- CURRENT_INTERVAL: what the interval makes of the current channel, and what it makes due (04 R79 to R82). -/
theorem intervalDo_of_ended {g : Nat} (hRun : (settle c).r.cur.running = true) (hGrid : (settle c).r.cur.gridAt = some g)
    (hEnd : g + 11880 ≤ (settle c).now) (hg lg : Int) (ho lo : Bool) :
    let x := intervalCur (settle c).r.cur (settle c).r.head.shunt (settle c).now hg lg ho lo
    (intervalDo hg lg ho lo c).r.cur = x.1 ∧ (intervalDo hg lg ho lo c).r.due = x.2.2 := by
  rw [intervalDo, rumbeEvent_of_guard (by simp_all)]
  exact ⟨rfl, rfl⟩

/-- The sample an interval selects: LG in the LG range, and where HG is out of its own (04 R79). -/
theorem intervalCur_sample (cu : Current) (shunt now : Nat) (hg lg : Int) (ho lo : Bool) :
    (intervalCur cu shunt now hg lg ho lo).2.1 =
      if cu.lgState || ho || decide (9000000 < hg) || decide (hg < -9000000) then (lgSample cu lg lo).1 else hg := by
  simp only [intervalCur, Bool.or_assoc]

/-- A due step that a row names happens (95). -/
theorem fireOne_of_mem {d : RDue} (h : d ∈ c.r.due) :
    fireOne c d = fireDue (c.upd (fun r => { r with due := r.due.erase d })) d := by
  rw [fireOne, if_pos (List.contains_iff_mem.mpr h)]

/-! ### VAUX -/

/-- VAUX_SOFT_START_CHECK: a failed attempt below 1.0 V, else on (04 R99; that SOFT_START then turns to ON is the model's
reading, log 160). -/
theorem vauxCheckDo_of_due (hSt : (settle c).r.vaux.st = .softStart) (hDue : (settle c).r.vaux.since + 129600 ≤ (settle c).now)
    (mv : Nat) :
    vauxCheckDo mv c = (settle c).into { (settle c).r with
      vaux := if mv < 1000 then vauxFail (settle c).r.vaux (settle c).now
        else { (settle c).r.vaux with st := .on, since := (settle c).now } } := by
  rw [vauxCheckDo, rumbeEvent_of_guard (by simp_all [perUs])]
  rfl

/-- VAUX_UNDERVOLTAGE (04 R99). -/
theorem vauxUvDo_of_low {mv : Nat} (hSt : (settle c).r.vaux.st = .on) (hLow : mv < 1000)
    (hLong : (settle c).r.vaux.since + 48000 ≤ (settle c).now) :
    vauxUvDo mv c = (settle c).into { (settle c).r with vaux := vauxFail (settle c).r.vaux (settle c).now } := by
  rw [vauxUvDo, rumbeEvent_of_guard (by simp_all [perMs])]
  rfl

/-- VAUX_THERMAL_SHUTDOWN: whatever threshold from 135 to 145 degrees the part has, 145 reaches it (04 R100). -/
theorem vauxThermalDo_of_hot {tj : Int} (hSt : (settle c).r.vaux.st = .on ∨ (settle c).r.vaux.st = .softStart)
    (hHot : 1450 ≤ tj) :
    vauxThermalDo tj c = (settle c).into { (settle c).r with vaux := vauxFail (settle c).r.vaux (settle c).now } := by
  have hPart (v : Int) : clampInt 1350 1450 v ≤ tj := by
    unfold clampInt
    split
    · omega
    · split <;> omega
  rw [vauxThermalDo, rumbeEvent_of_guard (by simp_all)]
  rfl

/-- VAUX_RETRY (04 R99). -/
theorem vauxRetryDo_of_due (hSt : (settle c).r.vaux.st = .retryWait)
    (hDue : (settle c).r.vaux.since + 4560000 ≤ (settle c).now) :
    vauxRetryDo c = (settle c).into { (settle c).r with vaux := { (settle c).r.vaux with
      st := .softStart, since := (settle c).now, retries := (settle c).r.vaux.retries + 1 } } := by
  rw [vauxRetryDo, rumbeEvent_of_guard (by simp_all [perMs])]
  rfl

/-- VAUX_RETRY_RESET (04 R99). -/
theorem vauxRetryResetDo_of_good {mv : Nat} (hSt : (settle c).r.vaux.st = .on) (hGood : 4500 ≤ mv)
    (hLong : (settle c).r.vaux.since + 48000000 ≤ (settle c).now) :
    vauxRetryResetDo mv c = (settle c).into { (settle c).r with vaux := { (settle c).r.vaux with retries := 0 } } := by
  rw [vauxRetryResetDo, rumbeEvent_of_guard (by simp_all [perS])]
  rfl

/-! ### The obligation -/

/-- Settles O9: a step whose condition holds once what had fallen due is done does what its lemma above says; a due step is done
by its own row. -/
theorem currentAndVauxSteps : Obligations.CurrentAndVauxSteps := by
  refine ⟨fun s t d => ⟨?settle, ?interval, ?rangeHg, ?calFrozen, ?curFault⟩,
    fun s t d => ⟨?softStart, ?undervoltage, ?thermal, ?retry, ?reset⟩⟩
  case settle =>
    exact fun hRun hGrid hAt => exec_eq_afterRumbe (exec_modulatorSettle ..) (modSettleDo_of_settled hRun hGrid hAt)
  case interval =>
    intro hg lg ho lo g hRun hGrid hEnd x
    obtain ⟨hCur, hDue⟩ := intervalDo_of_ended (c := before s t d) hRun hGrid hEnd hg lg ho lo
    refine ⟨_, exec_eq_afterRumbe (exec_currentInterval ..) rfl, ?_, ?_, rfl, rfl, rfl, intervalCur_sample ..⟩
    · rw [afterRumbe_rumbe]
      exact hCur
    · rw [afterRumbe_rumbe]
      exact hDue
  case rangeHg => exact fun hDue => exec_eq_afterRumbe (exec_rangeToHg ..) (fireOne_of_mem (c := before s t d) hDue)
  case calFrozen => exact fun hDue => exec_eq_afterRumbe (exec_calFrozen ..) (fireOne_of_mem (c := before s t d) hDue)
  case curFault => exact fun hDue => exec_eq_afterRumbe (exec_curFaultLatch ..) (fireOne_of_mem (c := before s t d) hDue)
  case softStart =>
    exact fun mv hSt hDue => exec_eq_afterRumbe (exec_vauxSoftStartCheck ..) (vauxCheckDo_of_due hSt hDue mv)
  case undervoltage =>
    exact fun _ hSt hLow hLong => exec_eq_afterRumbe (exec_vauxUndervoltage ..) (vauxUvDo_of_low hSt hLow hLong)
  case thermal => exact fun _ hSt hHot => exec_eq_afterRumbe (exec_vauxThermalShutdown ..) (vauxThermalDo_of_hot hSt hHot)
  case retry => exact fun hSt hDue => exec_eq_afterRumbe (exec_vauxRetry ..) (vauxRetryDo_of_due hSt hDue)
  case reset =>
    exact fun _ hSt hGood hLong => exec_eq_afterRumbe (exec_vauxRetryReset ..) (vauxRetryResetDo_of_good hSt hGood hLong)

end Sys2Proof.Machine
end

section
/-! A record of one byte 0x06 is not told from a BAD_FRAME answer (06 R139, R140). -/

namespace Sys2Proof.Machine

/-- A block whose first Rumbe, enumerated as 1, holds for SEQ 0 a record that no sweep commits: the one byte 0x06. -/
def oneByteRecord : State := { State.reset with rumbes := [(0, { devId := 1, records := [(0, [0x06#8])] })] }
/-- READ_RECORD of SEQ 0 for the Rumbe of address 1, as it arrives. -/
def readRecordZero : Rx := { line := ({ type := 5, dir := false, addr := 1, payload := [0#8, 0#8] } : Frame).chips }

theorem sendOwn_lastCmd (c : RCtx) (p : RPort) (start : Nat) (f : Frame) : (sendOwn c p start f).r.lastCmd = c.r.lastCmd := by
  unfold sendOwn
  split
  · rfl
  · cases p <;> rfl

/-- An answered command is kept as the last one executed. -/
theorem answered_lastCmd (c : RCtx) (x : Rx) (type rt : Nat) (bs : List Byte) :
    (answered c x type rt bs).r.lastCmd = some { fseq := x.fseq, type := type, respType := rt, resp := bs } :=
  sendOwn_lastCmd ..

/-- The model answers that READ_RECORD without keeping it: `command` takes the response 0x06 for BAD_FRAME. -/
theorem readRecordZero_not_kept (u : State) (h : exec (.readRecord 0 ⟨0, 0⟩ readRecordZero) oneByteRecord = .next u) :
    (u.rumbe ⟨0, 0⟩).lastCmd = none := by
  rw [exec_readRecord] at h
  cases h
  decide +kernel

/-- Refutes O3: its READ_RECORD clause, for every state, says that the command is kept and answered with the record held. From
`oneByteRecord` the model answers it but does not keep it. The clause lacks the premise that the response is not BAD_FRAME's one
byte, which RepeatedCommandResendsResponse has. -/
theorem not_rumbeSweepFramesAndSteps : ¬ Obligations.RumbeSweepFramesAndSteps := by
  intro h
  obtain ⟨hFrames, -⟩ := h
  obtain ⟨-, -, -, hReadRecord, -⟩ := hFrames oneByteRecord 0 ⟨0, 0⟩ readRecordZero
  have hExec := hReadRecord (by decide +kernel) (by decide +kernel)
  have hNotKept := readRecordZero_not_kept _ hExec
  rw [afterRumbe_rumbe, answered_lastCmd] at hNotKept
  exact Option.some_ne_none _ hNotKept

end Sys2Proof.Machine
end

section
/-! What a frame on a line, an open request and an alarm taken leave of a Rumbe as it was (04 R91, R92; 05 R116; 06 R122, R132,
R147, R148; 95). -/

namespace Sys2Proof.Machine

/-! ### Frames on a line change ports only (06 R122, R132) -/

/-- A Rumbe without its ports: what frames on its lines leave as it was. -/
def Rumbe.bare (r : Rumbe) : Rumbe := { r with portN := {}, portS := {} }

theorem Rumbe.gate_eq_of_bare {q r : Rumbe} (h : q.bare = r.bare) : q.gate = r.gate :=
  (congrArg Rumbe.gate h :)

@[simp] theorem updPort_bare (r : Rumbe) (p : RPort) (f : PortSt → PortSt) : (updPort r p f).bare = r.bare := by
  cases p <;> rfl

@[simp] theorem sendOwn_bare (c : RCtx) (p : RPort) (start : Nat) (f : Frame) : (sendOwn c p start f).r.bare = c.r.bare := by
  unfold sendOwn
  split
  · rfl
  · exact updPort_bare ..

@[simp] theorem sendRepeat_bare (c : RCtx) (p : RPort) (line : List Chip) : (sendRepeat c p line).r.bare = c.r.bare := by
  unfold sendRepeat
  split
  · rfl
  · exact updPort_bare ..

@[simp] theorem urgentOut_bare (c : RCtx) (p : RPort) (e : Nat) (u : UFrame) : (urgentOut c p e u).r.bare = c.r.bare :=
  updPort_bare ..

@[simp] theorem sendUrgent_bare (c : RCtx) (p : RPort) (bs : List Byte) : (sendUrgent c p bs).r.bare = c.r.bare := by
  unfold sendUrgent
  extract_lets q u breaks
  split
  · rfl
  · split
    · exact updPort_bare ..
    · exact urgentOut_bare ..

@[simp] theorem sendAlarm_bare (c : RCtx) (code : Nat) : (sendAlarm c code).r.bare = c.r.bare := by
  simp [sendAlarm]

@[simp] theorem relayUrgent_bare (c : RCtx) (p : RPort) (since : Nat) (bs : List Byte) :
    (relayUrgent c p since bs).r.bare = c.r.bare := by
  have hQueued (keep : Prop) [Decidable keep] (u : UFrame) :
      (if keep then c.upd (fun r => updPort r p (fun q => queueUrgent q u)) else c).r.bare = c.r.bare := by
    split
    · exact updPort_bare ..
    · rfl
  simp only [relayUrgent]
  split
  · rfl
  · split
    · split
      · split
        · rw [urgentOut_bare, hQueued]
        · exact hQueued ..
      · rfl
    · split
      · exact hQueued ..
      · exact urgentOut_bare ..

/-! ### Open requests and alarms taken change the gates only (04 R91, R92; 06 R148) -/

@[simp] theorem openReq_gate_st (r : Rumbe) (cause now : Nat) : (openReq r cause now).gate.st = .open := rfl

/-- At a moment with no open request yet, the gates are found as they stand. -/
theorem gateWas_of_ne {r : Rumbe} {now : Nat} (h : r.gate.openAt ≠ some now) : gateWas r now = r.gate.st := if_neg h

/-- A trip's cause, of codes 5 to 10, is recorded whatever state it finds; of several causes at one moment the highest is. -/
theorem openReq_cause_of_trip {r : Rumbe} {cause now : Nat} (hTrip : 5 ≤ cause) (h : r.gate.openAt ≠ some now) :
    (openReq r cause now).gate.cause = cause := by
  simp [openReq, h, Nat.not_lt.mpr hTrip]

@[simp] theorem aspTake_gate_aspAt (r : Rumbe) (now : Nat) : (aspTake r now).gate.aspAt = some now := by
  simp only [aspTake]
  split <;> rfl

/-- A protecting head opens and holds (06 R148). -/
theorem aspTake_protects {r : Rumbe} (hHead : r.head.headEn = true) (hAsp : r.aspEn = true) (now : Nat) :
    (aspTake r now).gate.st = .open ∧ (aspTake r now).gate.aspHold = true := by
  simp [aspTake, hHead, hAsp]

theorem aspTake_gate_st_of_open {r : Rumbe} (h : r.gate.st = .open) (now : Nat) : (aspTake r now).gate.st = .open := by
  simp only [aspTake]
  split
  · rfl
  · exact h

/-! ### An alarm of the device's own (03 R64, 05 R116, 06 R147, R148) -/

/-- What an alarm of the device's own does, whichever it is: balancing ends with ALARM and an empty queue, the head takes it,
and its urgent frame goes out of both ports. -/
def alarmTaken (c : RCtx) (code : Nat) : RCtx :=
  sendAlarm (c.upd (fun r => aspTake { r with bal := balEndClear r.bal c.now 8 } c.now)) code

/-- Balancing and the gates are all that it changes but for the ports. -/
theorem alarmTaken_bare (c : RCtx) (code : Nat) : (alarmTaken c code).r.bare =
    { c.r with bal := balEndClear c.r.bal c.now 8, gate := (aspTake c.r c.now).gate }.bare := by
  simp only [alarmTaken, sendAlarm_bare, RCtx.upd_r, aspTake]
  split <;> rfl

/-- A cell alarm asserts at the moment of its commit. -/
theorem fireDue_assert (c : RCtx) (cell : Nat) (k : AlarmKind) :
    let at_ := min c.now c.r.dueAt
    fireDue c (.assert cell k) =
      { (alarmTaken { c with now := at_, r := setAlarm c.r cell k true } 8).upd (fun r => { r with almSentAt := some at_ })
        with now := c.now } := rfl

/-- MEAS_FAULT latches at the moment of its commit. -/
theorem fireDue_measFault (c : RCtx) :
    let at_ := min c.now c.r.dueAt
    fireDue c .measFault =
      { (alarmTaken { c with now := at_, r := { c.r with measFault := true } } 9).upd
          (fun r => { r with measSentAt := some at_ })
        with now := c.now } := rfl

end Sys2Proof.Machine
end

section
/-! Open requests, trips and alarms open a head (03 R64, 04 R91 to R97, 05 R116, 06 R147, R148). -/

namespace Sys2Proof.Machine

/-! ### Open requests (04 R91, R92) -/

/-- What an open request does from a state other than OPEN, the first of its moment. -/
theorem openReq_of_not_open {r : Rumbe} {now : Nat} (hSt : r.gate.st ≠ .open) (hFirst : r.gate.openAt ≠ some now)
    (cause : Nat) :
    openReq r cause now = { r with gate := { r.gate with
      st := .open, target := .open, cause := cause, pchg := false, pchgOffAt := none, lowRun := 0
      openAt := some now, openFrom := r.gate.st, openTarget := r.gate.target, openCause := cause } } := by
  simp [openReq, gateWas_of_ne hFirst, hFirst, hSt]

/-- Of two at one moment the higher cause is recorded. -/
theorem openReq_openReq_cause {r : Rumbe} {now : Nat} (hSt : r.gate.st ≠ .open) (hFirst : r.gate.openAt ≠ some now)
    (a b : Nat) : (openReq (openReq r a now) b now).gate.cause = max a b := by
  rw [openReq_of_not_open hSt hFirst]
  simp [openReq, gateWas, hSt]

/-! ### Trips (04 R94 to R97) -/

variable {c : RCtx}

/-- SC_TRIP: the threshold exceeded for the blanking time, but for the RAMP of FET mode. -/
theorem scTripDo_of_tripped {uv : Int} {ns : Nat} (hHead : (settle c).r.head.headEn = true)
    (hWatch : gateWas (settle c).r (settle c).now ≠ .ramp ∨ (settle c).r.head.drvContactor = true)
    (hUv : scThreshold (settle c).dev (settle c).r.head.scdTh < uv.natAbs)
    (hNs : scBlanking (settle c).dev (settle c).r.head.scdBlank ≤ ns) :
    scTripDo uv ns c = sendAlarm ((settle c).into
      (let r := openReq (settle c).r 5 (settle c).now
       { r with gate := { r.gate with scTrip := true } })) 0xA := by
  rw [scTripDo, rumbeEvent_of_guard]
  · rfl
  · rcases hWatch with hNotRamp | hContactor <;> simp_all

/-- RAMP_WATCH_TRIP: what ramp watch sees during RAMP in FET mode. -/
theorem rampTripDo_of_tripped {k : RampTrip} (hHead : (settle c).r.head.headEn = true)
    (hRamp : gateWas (settle c).r (settle c).now = .ramp) (hFet : (settle c).r.head.drvContactor = false)
    (hTrips : rampTrips (settle c).r (settle c).dev (settle c).now k = true) :
    rampTripDo k c = sendAlarm ((settle c).into
      (let r := openReq (settle c).r (rampCause k) (settle c).now
       { r with gate := { r.gate with rampFault := true } })) 0xA := by
  rw [rampTripDo, rumbeEvent_of_guard (by simp_all)]
  rfl

theorem rampCause_ge_five (k : RampTrip) : 5 ≤ rampCause k := by
  cases k with
  | comparator => exact (by decide : 5 ≤ 6)
  | desaturation => exact (by decide : 5 ≤ 7)

/-- The desaturation check is inactive below 4 V of gate voltage (04 R96). -/
theorem rampTrips_desaturation_of_low (r : Rumbe) (d : Dev) (now vds ns : Nat) {chg dsg : Nat}
    (hLow : lowerGate (rampTarget r now) chg dsg < 4000) : rampTrips r d now (.desaturation chg dsg vds ns) = false := by
  simp [rampTrips, dsatThreshold, hLow]

/-! ### Alarms (03 R64, 05 R116, 06 R147, R148) -/

/-- A Rumbe that has taken an alarm at `now`: balancing is over with an empty queue, the moment is kept, and a protecting head
is open and holds. -/
theorem alarm_ends_balancing_and_opens {q r : Rumbe} {now : Nat} (hBal : q.bal = balEndClear r.bal now 8)
    (hGate : q.gate = (aspTake r now).gate) :
    q.bal.phase = .idle ∧ q.bal.queue = [] ∧ q.gate.aspAt = some now
      ∧ (r.head.headEn = true → r.aspEn = true → q.gate.st = .open ∧ q.gate.aspHold = true) := by
  rw [hBal, hGate]
  exact ⟨balEnd_phase .., rfl, aspTake_gate_aspAt .., fun hHead hAsp => aspTake_protects hHead hAsp now⟩

/-- A cell's alarm that is set is an alarm asserted. -/
theorem anyAlarm_setAlarm (r : Rumbe) {cell : Nat} (k : AlarmKind) (h : cell < r.alarms.length) :
    anyAlarm (setAlarm r cell k true) = true := by
  have hSet := getElem?_modAt r.alarms cell (fun a => match k with
    | .ov => { a with ov := true }
    | .uv => { a with uv := true })
  rw [List.getElem?_eq_getElem h, Option.map_some] at hSet
  refine List.any_eq_true.mpr ⟨_, List.mem_of_getElem? hSet, ?_⟩
  cases k <;> simp

/-- CELL_ALARM_ASSERT, due: the alarm stands, and at the moment of its commit what an alarm does is done. -/
theorem fireOne_assert_bare {cell : Nat} {k : AlarmKind} (h : .assert cell k ∈ c.r.due) :
    let at_ := min c.now c.r.dueAt
    let q := setAlarm { c.r with due := c.r.due.erase (.assert cell k) } cell k true
    (fireOne c (.assert cell k)).r.bare =
      { q with bal := balEndClear q.bal at_ 8, gate := (aspTake q at_).gate, almSentAt := some at_ }.bare := by
  intro at_ q
  rw [fireOne_of_mem h, fireDue_assert]
  exact congrArg (fun r : Rumbe => { r with almSentAt := some at_ }) (alarmTaken_bare { c with now := at_, r := q } 8)

/-- MEAS_FAULT_LATCH, due: likewise. -/
theorem fireOne_measFault_bare (h : .measFault ∈ c.r.due) :
    let at_ := min c.now c.r.dueAt
    let q := { c.r with due := c.r.due.erase .measFault, measFault := true }
    (fireOne c .measFault).r.bare =
      { q with bal := balEndClear q.bal at_ 8, gate := (aspTake q at_).gate, measSentAt := some at_ }.bare := by
  intro at_ q
  rw [fireOne_of_mem h, fireDue_measFault]
  exact congrArg (fun r : Rumbe => { r with measSentAt := some at_ }) (alarmTaken_bare { c with now := at_, r := q } 9)

/-! ### The obligation -/

/-- Settles O7: an open request, a trip whose condition holds and an alarm that is due do what their lemmas above say. -/
theorem tripsAndAlarmsOpenHead : Obligations.TripsAndAlarmsOpenHead := by
  refine ⟨fun r now hSt hFirst => ⟨fun cause => ?request, openReq_openReq_cause hSt hFirst⟩,
    fun s t d => ⟨?scTrip, ?rampWatch, fun _ => rfl, ?noDsat, fun _ _ _ _ hLow => rampTrips_desaturation_of_low _ d _ _ _ hLow⟩,
    fun s t d => ⟨?assert, ?measFault⟩⟩
  case request => exact ⟨openReq_of_not_open hSt hFirst cause, rfl, rfl⟩
  case scTrip =>
    intro uv ns hHead hWatch hUv hNs r
    have hDev : (settle (before s t d)).dev = d := settle_dev _
    exact ⟨exec_eq_afterRumbe (exec_scTrip ..) (scTripDo_of_tripped hHead hWatch (hDev.symm ▸ hUv) (hDev.symm ▸ hNs)), rfl,
      openReq_cause_of_trip (Nat.le_refl 5)⟩
  case rampWatch =>
    intro k hHead hRamp hFet hTrips r
    have hDev : (settle (before s t d)).dev = d := settle_dev _
    exact ⟨exec_eq_afterRumbe (exec_rampWatchTrip ..) (rampTripDo_of_tripped hHead hRamp hFet (hDev.symm ▸ hTrips)), rfl,
      openReq_cause_of_trip (rampCause_ge_five k)⟩
  case noDsat =>
    intro chg dsg vds ns hOff
    simp only [rampTrips, hOff, Bool.false_and]
  case assert =>
    intro cell k hDue hCells
    have hBare := fireOne_assert_bare (c := before s t d) hDue
    obtain ⟨hIdle, hQueue, hAt, hProtects⟩ :=
      alarm_ends_balancing_and_opens (congrArg Rumbe.bal hBare :) (congrArg Rumbe.gate hBare :)
    refine ⟨_, exec_eq_afterRumbe (exec_cellAlarmAssert ..) rfl, ?_⟩
    rw [afterRumbe_rumbe]
    refine ⟨?_, hIdle, hQueue, (congrArg Rumbe.almSentAt hBare :), hAt, hProtects⟩
    have hAlarms := anyAlarm_setAlarm (s.rumbe d) k (Nat.lt_of_lt_of_eq cell.isLt hCells.symm)
    exact (congrArg anyAlarm hBare :).trans hAlarms
  case measFault =>
    intro hDue
    have hBare := fireOne_measFault_bare (c := before s t d) hDue
    obtain ⟨hIdle, hQueue, hAt, hProtects⟩ :=
      alarm_ends_balancing_and_opens (congrArg Rumbe.bal hBare :) (congrArg Rumbe.gate hBare :)
    refine ⟨_, exec_eq_afterRumbe (exec_measFaultLatch ..) rfl, ?_⟩
    rw [afterRumbe_rumbe]
    exact ⟨(congrArg Rumbe.measFault hBare :), hIdle, hQueue, (congrArg Rumbe.measSentAt hBare :), hAt, hProtects⟩

end Sys2Proof.Machine
end

section
/-! A frame that a Rumbe hears, and a new addressed command among them, is acted on in the state that `heard` says (06 R130 to
R133, R138, R139, R154, R156). -/

namespace Sys2Proof.Machine

/-! ### What had fallen due leaves the address and the last command as they were (06 R133, R139) -/

theorem alarmTaken_devId_lastCmd (c : RCtx) (code : Nat) :
    (alarmTaken c code).r.devId = c.r.devId ∧ (alarmTaken c code).r.lastCmd = c.r.lastCmd :=
  ⟨(congrArg Rumbe.devId (alarmTaken_bare c code) :), (congrArg Rumbe.lastCmd (alarmTaken_bare c code) :)⟩

theorem fireDue_devId_lastCmd (c : RCtx) (x : RDue) :
    (fireDue c x).r.devId = c.r.devId ∧ (fireDue c x).r.lastCmd = c.r.lastCmd := by
  cases x with
  | assert =>
    rw [fireDue_assert]
    exact alarmTaken_devId_lastCmd ..
  | measFault =>
    rw [fireDue_measFault]
    exact alarmTaken_devId_lastCmd ..
  | clear | modid | rangeHg | calFrozen | curFault => exact ⟨rfl, rfl⟩

theorem foldl_fireDue_devId_lastCmd (ds : List RDue) (c : RCtx) :
    (ds.foldl fireDue c).r.devId = c.r.devId ∧ (ds.foldl fireDue c).r.lastCmd = c.r.lastCmd := by
  induction ds generalizing c with
  | nil => exact ⟨rfl, rfl⟩
  | cons x ds ih =>
    obtain ⟨hId, hLast⟩ := ih (fireDue c x)
    obtain ⟨hId', hLast'⟩ := fireDue_devId_lastCmd c x
    exact ⟨hId.trans hId', hLast.trans hLast'⟩

@[simp] theorem settle_devId (c : RCtx) : (settle c).r.devId = c.r.devId := (foldl_fireDue_devId_lastCmd ..).1
@[simp] theorem settle_lastCmd (c : RCtx) : (settle c).r.lastCmd = c.r.lastCmd := (foldl_fireDue_devId_lastCmd ..).2

section
variable {s : State} {t : Nat} {d : Dev} {x : Rx}

/-- Hearing a frame changes ports and t_comm only, after what had fallen due. -/
theorem heard_bare (s : State) (t : Nat) (d : Dev) (x : Rx) (rw : List Byte → List Byte) :
    ∃ u, (heard s t d x rw).r.bare = { (turn s t d).r with commAt := u }.bare := by
  let c := met s t d x.port (x.since (max s.now t))
  have hMet : { c.r with commAt := c.now }.bare = { (turn s t d).r with commAt := c.now }.bare :=
    congrArg (fun r : Rumbe => { r with commAt := c.now }) (updPort_bare ..)
  refine ⟨c.now, ?_⟩
  simp only [heard]
  split
  · exact hMet
  · rw [sendRepeat_bare]
    exact hMet

/-- So a frame is addressed to the Rumbe that heard it where it was to the Rumbe before. -/
theorem addressed_heard (rw : List Byte → List Byte) : addressed (heard s t d x rw).r x = addressed (s.rumbe d) x := by
  obtain ⟨u, hBare⟩ := heard_bare s t d x rw
  have hId : (heard s t d x rw).r.devId = (s.rumbe d).devId := (congrArg Rumbe.devId hBare :).trans (settle_devId _)
  simp only [addressed, hId]

theorem fresh_heard (rw : List Byte → List Byte) (type : Nat) :
    fresh (heard s t d x rw) x type = fresh (before s t d) x type := by
  obtain ⟨u, hBare⟩ := heard_bare s t d x rw
  have hLast : (heard s t d x rw).r.lastCmd = (before s t d).r.lastCmd :=
    (congrArg Rumbe.lastCmd hBare :).trans (settle_lastCmd _)
  simp only [fresh, hLast]

/-- A frame from Broros is no RECORD that a collection counts (06 R144). -/
theorem collectCount_of_not_dir (c : RCtx) (h : x.dir = false) : collectCount c x = c := by
  simp [collectCount, RCtx.upd, h]

/-- A good frame from Broros that nothing keeps from being taken: its type acts on the Rumbe that has heard it. -/
theorem rxFrame_of_hears {type : Nat} (h : hears s t d x type = true) (rw : List Byte → List Byte) (act : RCtx → RCtx) :
    rxFrame (before s t d) x type rw act = act (heard s t d x rw) := by
  simp only [hears, Bool.and_eq_true, Bool.not_eq_true', beq_iff_eq] at h
  obtain ⟨⟨⟨⟨⟨⟨hAwake, hPort⟩, hFrame⟩, hCrc⟩, hWhole⟩, hDir⟩, hFree⟩ := h
  have hNow : (turn s t d).now = max s.now t := settle_now _
  have hHears : ¬((before s t d).r.asleep || (portOf (before s t d).r x.port).cut) = true := by simp [before, hAwake, hPort]
  unfold rxFrame heard
  rw [if_neg hHears]
  extract_lets c₁ c₂ good c₃ c₄ m n
  have hMet : c₂ = m := by
    unfold m
    rw [← hNow]
    rfl
  have hGood : good = true := by simp [good, hCrc, hWhole]
  have hTimed : c₃ = n := by simp [c₃, n, hGood, hDir, hMet]
  have hTaken : rxLost n x = (false, false) := hFree
  simp [c₄, hFrame, hGood, hDir, hTimed, hTaken, collectCount_of_not_dir _ hDir]

/-! ### A command executed and answered (06 R138, R139) -/

/-- A new command to its addressee is executed, and its answer, which is not BAD_FRAME, kept and sent. -/
theorem command_of_new {c c' : RCtx} {type rt : Nat} {bs : List Byte} {run : RCtx → RCtx × Nat × List Byte} (bc : Bool)
    (hAddr : addressed c.r x = true) (hNew : fresh c x type = true) (hRun : run c = (c', rt, bs)) (hBs : bs ≠ [0x06#8]) :
    command c x type bc true run = answered c' x type rt bs := by
  unfold command
  rw [if_pos hAddr]
  cases hLast : c.r.lastCmd with
  | none => simp [hRun, hBs, answered]
  | some l =>
    simp only [fresh, hLast, Bool.not_eq_true'] at hNew
    have hOther : (decide (l.fseq = x.fseq) && decide (l.type = type)) = false := hNew
    simp only [hOther, Bool.false_eq_true, if_false, Bool.not_true, hRun, if_neg hBs, answered]

end

end Sys2Proof.Machine
end

section
/-! GATE commands at a head, and how PRECHARGE and RAMP end (04 R75, R88 to R93, Table 4-1). -/

namespace Sys2Proof.Machine

/-! ### GATE commands (04 R75, R88, R91) -/

/-- How a GATE command is answered: its status and GATE_ST. -/
def gateAnswer (c : RCtx) (status : Byte) : RCtx × Nat × List Byte := (c, 8, status :: leBytes 1 (gateStByte c.r))

/-- What bars every move command, whatever state the gates are in: no head, a latch of HFLAGS bits 4 to 8, the protection hold,
an open request of this moment (04 R75, R91). -/
def GateBarred (r : Rumbe) (now : Nat) : Prop :=
  r.head.headEn = false ∨ gateLatched r = true ∨ r.gate.aspHold = true ∨ r.gate.openAt = some now

variable {c : RCtx} {g : GateSt}

theorem gateBarred_iff : GateBarred c.r c.now ↔
    (!c.r.head.headEn || gateLatched c.r || c.r.gate.aspHold || c.r.gate.openAt == some c.now) = true := by
  simp [GateBarred, or_assoc]

/-- A head with no latch, no hold and no open request of this moment bars none. -/
theorem not_gateBarred (hHead : c.r.head.headEn = true) (hLatch : gateLatched c.r = false) (hHold : c.r.gate.aspHold = false)
    (hAt : c.r.gate.openAt ≠ some c.now) : ¬GateBarred c.r c.now := by
  simp [GateBarred, hHead, hLatch, hHold, hAt]

theorem gateOpenDo_eq (c : RCtx) : gateOpenDo c =
    gateAnswer (c.into (if c.r.head.headEn then openReq c.r 1 c.now else c.r)) 0x00#8 := by
  simp only [gateOpenDo]
  split <;> rfl

theorem gateMoveDo_of_barred (h : GateBarred c.r c.now) : gateMoveDo g c = gateAnswer c 0x03#8 :=
  if_pos (gateBarred_iff.mp h)

theorem gateMoveDo_of_other_state (hOpen : c.r.gate.st ≠ .open) (hSt : c.r.gate.st ≠ g) :
    gateMoveDo g c = gateAnswer c 0x03#8 := by
  simp [gateMoveDo, hOpen, hSt, gateAnswer]

/-- A command that names the state the head is in is told apart from one that is not allowed: the model's reading (log 36). -/
theorem gateMoveDo_of_same_state (hFree : ¬GateBarred c.r c.now) (hSt : c.r.gate.st = g) :
    gateMoveDo g c = gateAnswer c 0x00#8 := by
  rw [gateMoveDo, if_neg (mt gateBarred_iff.mpr hFree), if_pos hSt]
  rfl

/-- CLOSE from OPEN with PCHG_EN enters PRECHARGE. -/
theorem gateMoveDo_precharges (hFree : ¬GateBarred c.r c.now) (hOpen : c.r.gate.st = .open) (hPchg : c.r.head.pchgEn = true) :
    gateMoveDo .closed c = gateAnswer (c.into (enterPrecharge c.r c.now)) 0x00#8 := by
  rw [gateMoveDo, if_neg (mt gateBarred_iff.mpr hFree), if_neg (by simp [hOpen]), if_neg (by simp [hOpen]),
    if_pos (by simp [hPchg])]
  rfl

/-- A move from OPEN without precharge enters RAMP toward the state it names. -/
theorem gateMoveDo_ramps (hFree : ¬GateBarred c.r c.now) (hOpen : c.r.gate.st = .open) (hg : g ≠ .open)
    (hDirect : g = .closed → c.r.head.pchgEn = false) :
    gateMoveDo g c = gateAnswer (c.into (enterRamp c.r c.now g)) 0x00#8 := by
  rw [gateMoveDo, if_neg (mt gateBarred_iff.mpr hFree), if_neg (by simpa [hOpen] using hg.symm), if_neg (by simp [hOpen]),
    if_neg (by simpa using hDirect)]
  rfl

/-- A new GATE command to the Rumbe is answered as its CODE's operation says. -/
theorem rxGate_of_commanded {s : State} {t : Nat} {d : Dev} {x : Rx} {code : Nat} {status : Byte} {c : RCtx}
    {run : RCtx → RCtx × Nat × List Byte} (hCmd : commanded s t d x 0xA = true) (hLen : x.payload.length = 1)
    (hCode : byteAt x.payload 0 = code) (hKnown : code < 4) (hRun : run (heard s t d x id) = gateAnswer c status) :
    rxGate (before s t d) x code run = answered c x 0xA 8 (status :: leBytes 1 (gateStByte c.r)) := by
  simp only [commanded, Bool.and_eq_true] at hCmd
  obtain ⟨⟨hHears, hAddr⟩, hNew⟩ := hCmd
  have hOwn : ¬(x.payload.length = 1 && decide (byteAt x.payload 0 < 4) && decide (byteAt x.payload 0 ≠ code)) = true := by
    simp [hCode]
  rw [rxGate, if_neg hOwn, rxFrame_of_hears hHears, hLen]
  refine command_of_new _ ((addressed_heard id).trans hAddr) ((fresh_heard id 0xA).trans hNew) ?_ ?_
  · rw [if_neg (by omega)]
    exact hRun
  · simp [leBytes]

/-- A move command that leaves the gates where they stand is answered with its status. -/
theorem exec_move_of_commanded {s : State} {t : Nat} {d : Dev} {x : Rx} {i : Instr} {status : Byte}
    (hCmd : commanded s t d x 0xA = true) (hLen : x.payload.length = 1)
    (hMove : byteAt x.payload 0 = 1 ∧ g = .closed ∧ i = .gateClose t d x
      ∨ byteAt x.payload 0 = 2 ∧ g = .chgOnly ∧ i = .gateChgOnly t d x
      ∨ byteAt x.payload 0 = 3 ∧ g = .dsgOnly ∧ i = .gateDsgOnly t d x)
    (hAnswer : gateMoveDo g (heard s t d x id) = gateAnswer (heard s t d x id) status) :
    exec i s = .next (afterRumbe s t d
      (answered (heard s t d x id) x 0xA 8 (status :: leBytes 1 (gateStByte (heard s t d x id).r)))) := by
  rcases hMove with ⟨hCode, rfl, rfl⟩ | ⟨hCode, rfl, rfl⟩ | ⟨hCode, rfl, rfl⟩
  · exact exec_eq_afterRumbe (exec_gateClose ..) (rxGate_of_commanded hCmd hLen hCode (by decide) hAnswer)
  · exact exec_eq_afterRumbe (exec_gateChgOnly ..) (rxGate_of_commanded hCmd hLen hCode (by decide) hAnswer)
  · exact exec_eq_afterRumbe (exec_gateDsgOnly ..) (rxGate_of_commanded hCmd hLen hCode (by decide) hAnswer)

/-! ### How PRECHARGE and RAMP end (04 R89, R90, R93) -/

/-- PRECHARGE_DONE: the time is over and the last eight intervals were low. -/
theorem prechargeDoneDo_of_done (hSt : (settle c).r.gate.st = .precharge)
    (hTime : (settle c).r.gate.enteredAt + (settle c).r.gate.tmin * 48000 ≤ (settle c).now)
    (hLow : 8 ≤ (settle c).r.gate.lowRun) :
    prechargeDoneDo c = (settle c).into (enterRamp (settle c).r (settle c).now .closed) := by
  rw [prechargeDoneDo, rumbeEvent_of_guard (by simp_all [perMs])]
  rfl

theorem prechargeTimeoutDo_of_late (hWas : gateWas (settle c).r (settle c).now = .precharge)
    (hTime : (settle c).r.gate.enteredAt + (settle c).r.gate.tmax * 48000 ≤ (settle c).now) :
    prechargeTimeoutDo c = (settle c).into
      (let r := openReq (settle c).r 9 (settle c).now
       { r with gate := { r.gate with pchgFault := true } }) := by
  rw [prechargeTimeoutDo, rumbeEvent_of_guard (by simp_all [perMs])]
  rfl

/-- The lower gate of the outputs that ramp is high enough where each of them is. -/
theorem le_lowerGate {mv chg dsg : Nat} (hChg : g ≠ .dsgOnly → mv ≤ chg) (hDsg : g ≠ .chgOnly → mv ≤ dsg) :
    mv ≤ lowerGate g chg dsg := by
  cases g with
  | chgOnly => exact hChg (by decide)
  | dsgOnly => exact hDsg (by decide)
  | _ => exact Nat.le_min.mpr ⟨hChg (by decide), hDsg (by decide)⟩

/-- The lower gate of the outputs that conduct is too low where one of them is. -/
theorem lowerGate_lt {mv chg dsg : Nat} (h : g ≠ .dsgOnly ∧ chg < mv ∨ g ≠ .chgOnly ∧ dsg < mv) :
    lowerGate g chg dsg < mv := by
  cases g with
  | chgOnly | dsgOnly => simpa [lowerGate] using h
  | _ =>
    have hEither : chg < mv ∨ dsg < mv := h.imp And.right And.right
    have hMin : min chg dsg < mv := by omega
    exact hMin

theorem rampDoneDo_of_high {chg dsg : Nat} (hSt : (settle c).r.gate.st = .ramp) (hFet : (settle c).r.head.drvContactor = false)
    (hHigh : 9000 ≤ lowerGate (settle c).r.gate.target chg dsg) :
    rampDoneDo chg dsg c = (settle c).into (rampEnd (settle c).r (settle c).now) := by
  rw [rampDoneDo, rumbeEvent_of_guard (by simp_all)]
  rfl

theorem contactorEndDo_of_due (hSt : (settle c).r.gate.st = .ramp) (hContactor : (settle c).r.head.drvContactor = true)
    (hTime : (settle c).r.gate.enteredAt + 4320 ≤ (settle c).now) :
    contactorEndDo c = (settle c).into (rampEnd (settle c).r (settle c).now) := by
  rw [contactorEndDo, rumbeEvent_of_guard (by simp_all [perUs])]
  rfl

theorem pchgOffDo_of_due {u : Nat} (hAt : (settle c).r.gate.pchgOffAt = some u) (hTime : u ≤ (settle c).now + 2400) :
    pchgOffDo c = (settle c).into
      { (settle c).r with gate := { (settle c).r.gate with pchg := false, pchgOffAt := none } } := by
  rw [pchgOffDo, rumbeEvent_of_guard (by simp_all [perMs])]
  rfl

theorem rampTimeoutDo_of_late (hWas : gateWas (settle c).r (settle c).now = .ramp)
    (hTime : (settle c).r.gate.enteredAt + 91200 ≤ (settle c).now) :
    rampTimeoutDo c = (settle c).into
      (let r := openReq (settle c).r 8 (settle c).now
       { r with gate := { r.gate with rampFault := true } }) := by
  rw [rampTimeoutDo, rumbeEvent_of_guard (by simp_all [perUs])]
  rfl

/-- PUMP_UV, in a conducting state of FET mode. -/
theorem pumpUvDo_of_low {chg dsg ns : Nat} (hWas : gateWas (settle c).r (settle c).now = .closed
      ∨ gateWas (settle c).r (settle c).now = .chgOnly ∨ gateWas (settle c).r (settle c).now = .dsgOnly)
    (hFet : (settle c).r.head.drvContactor = false)
    (hLow : lowerGate (gateWas (settle c).r (settle c).now) chg dsg < 8500) (hLong : 10000 ≤ ns) :
    pumpUvDo chg dsg ns c = (settle c).into
      (let r := openReq (settle c).r 10 (settle c).now
       { r with gate := { r.gate with pumpUv := true } }) := by
  rw [pumpUvDo, rumbeEvent_of_guard (by simp_all [or_assoc])]
  rfl

/-! ### The obligation -/

/-- Settles O8: a GATE command to the Rumbe is executed on the Rumbe that has heard it, where its operation answers as its lemma
above says; a timer's step whose condition holds once what had fallen due is done does what its lemma says. -/
theorem gateCommandsMoveHead : Obligations.GateCommandsMoveHead := by
  refine ⟨fun s t d x hCmd hLen => ⟨?openAlways, ?precharge, ?close, ?chgOnly, ?dsgOnly⟩,
    fun s t d x g i hCmd hLen hMove => ⟨?refused, ?same⟩,
    fun s t d => ⟨?done, ?late, ?rampDone, ?contactor, ?pchgOff, ?rampLate, ?pumpUv, gateWas_of_ne⟩⟩
  case openAlways =>
    exact fun hCode => exec_eq_afterRumbe (exec_gateOpen ..)
      (rxGate_of_commanded hCmd hLen hCode (by decide) (gateOpenDo_eq _))
  case precharge =>
    intro hCode ⟨hHead, hLatch, hHold, hAt, hOpen⟩ hPchg
    exact exec_eq_afterRumbe (exec_gateClose ..) (rxGate_of_commanded hCmd hLen hCode (by decide)
      (gateMoveDo_precharges (not_gateBarred hHead hLatch hHold hAt) hOpen hPchg))
  case close =>
    intro hCode ⟨hHead, hLatch, hHold, hAt, hOpen⟩ hPchg
    exact exec_eq_afterRumbe (exec_gateClose ..) (rxGate_of_commanded hCmd hLen hCode (by decide)
      (gateMoveDo_ramps (not_gateBarred hHead hLatch hHold hAt) hOpen (by decide) fun _ => hPchg))
  case chgOnly =>
    intro hCode ⟨hHead, hLatch, hHold, hAt, hOpen⟩
    exact exec_eq_afterRumbe (exec_gateChgOnly ..) (rxGate_of_commanded hCmd hLen hCode (by decide)
      (gateMoveDo_ramps (not_gateBarred hHead hLatch hHold hAt) hOpen (by decide) (by simp)))
  case dsgOnly =>
    intro hCode ⟨hHead, hLatch, hHold, hAt, hOpen⟩
    exact exec_eq_afterRumbe (exec_gateDsgOnly ..) (rxGate_of_commanded hCmd hLen hCode (by decide)
      (gateMoveDo_ramps (not_gateBarred hHead hLatch hHold hAt) hOpen (by decide) (by simp)))
  case refused =>
    intro hRefused
    refine exec_move_of_commanded hCmd hLen hMove ?_
    rcases hRefused with hBarred | ⟨hOpen, hSt⟩
    · exact gateMoveDo_of_barred hBarred
    · exact gateMoveDo_of_other_state hOpen hSt
  case same => exact fun hFree hSt => exec_move_of_commanded hCmd hLen hMove (gateMoveDo_of_same_state hFree hSt)
  case done => exact fun hSt hTime hLow => exec_eq_afterRumbe (exec_prechargeDone ..) (prechargeDoneDo_of_done hSt hTime hLow)
  case late => exact fun hWas hTime => exec_eq_afterRumbe (exec_prechargeTimeout ..) (prechargeTimeoutDo_of_late hWas hTime)
  case rampDone =>
    exact fun chg dsg hSt hFet hChg hDsg => exec_eq_afterRumbe (exec_rampDone ..)
      (rampDoneDo_of_high hSt hFet (le_lowerGate hChg hDsg))
  case contactor =>
    exact fun hSt hContactor hTime => exec_eq_afterRumbe (exec_contactorRampEnd ..) (contactorEndDo_of_due hSt hContactor hTime)
  case pchgOff => exact fun u hAt hTime => exec_eq_afterRumbe (exec_pchgOff ..) (pchgOffDo_of_due hAt hTime)
  case rampLate => exact fun hWas hTime => exec_eq_afterRumbe (exec_rampTimeout ..) (rampTimeoutDo_of_late hWas hTime)
  case pumpUv =>
    exact fun chg dsg ns hWas hFet hLow hLong => exec_eq_afterRumbe (exec_pumpUv ..)
      (pumpUvDo_of_low hWas hFet (lowerGate_lt hLow) hLong)

end Sys2Proof.Machine
end

section
/-! An OPEN head stays OPEN whatever its Rumbe does, but for CLOSE, CHG_ONLY and DSG_ONLY (04 R75, R88, R91, R92). -/

namespace Sys2Proof.Machine

/-- An operation of a Rumbe leaves OPEN gates OPEN. -/
def KeepsOpen (f : RCtx → RCtx) : Prop := ∀ c, c.r.gate.st = .open → (f c).r.gate.st = .open

variable {c : RCtx}

/-- What changes ports only leaves OPEN gates OPEN. -/
theorem open_of_bare {q r : Rumbe} (hBare : q.bare = r.bare) (h : r.gate.st = .open) : q.gate.st = .open :=
  Rumbe.gate_eq_of_bare hBare ▸ h

/-- What opens or leaves the gates leaves OPEN gates OPEN. -/
theorem open_ite {p : Prop} [Decidable p] {q r : Rumbe} (hq : q.gate.st = .open) (hr : r.gate.st = .open) :
    (if p then q else r).gate.st = .open := by
  split
  · exact hq
  · exact hr

/-! ### Due steps and events -/

theorem alarmTaken_open (h : c.r.gate.st = .open) (code : Nat) : (alarmTaken c code).r.gate.st = .open :=
  open_of_bare (alarmTaken_bare c code) (aspTake_gate_st_of_open h c.now)

theorem fireDue_open (h : c.r.gate.st = .open) (x : RDue) : (fireDue c x).r.gate.st = .open := by
  cases x with
  | assert cell k =>
    rw [fireDue_assert]
    exact alarmTaken_open (c := { c with now := min c.now c.r.dueAt, r := setAlarm c.r cell k true }) h 8
  | measFault =>
    rw [fireDue_measFault]
    exact alarmTaken_open (c := { c with now := min c.now c.r.dueAt, r := { c.r with measFault := true } }) h 9
  | clear | modid | rangeHg | calFrozen | curFault => exact h

theorem foldl_fireDue_open (ds : List RDue) (h : c.r.gate.st = .open) : (ds.foldl fireDue c).r.gate.st = .open := by
  induction ds generalizing c with
  | nil => exact h
  | cons x ds ih => exact ih (fireDue_open h x)

theorem settle_open (h : c.r.gate.st = .open) : (settle c).r.gate.st = .open := foldl_fireDue_open _ h

theorem fireOne_keepsOpen (x : RDue) : KeepsOpen (fun c => fireOne c x) := by
  intro c h
  simp only [fireOne]
  split
  · exact fireDue_open (c := c.upd (fun r => { r with due := r.due.erase x })) h x
  · exact h

/-- An event leaves OPEN gates OPEN where what it does while its condition holds does. -/
theorem rumbeEvent_open {guard : Rumbe → Bool} {act : RCtx → RCtx} (h : c.r.gate.st = .open)
    (hAct : ∀ c', guard c'.r = true → c'.r.gate.st = .open → (act c').r.gate.st = .open) :
    (rumbeEvent c guard act).r.gate.st = .open := by
  simp only [rumbeEvent]
  split
  case isTrue hGuard => exact hAct _ hGuard (settle_open h)
  case isFalse => exact settle_open h

/-- An event that only another state of the gates lets happen does not happen in OPEN. -/
theorem rumbeEvent_open_of_not {guard : Rumbe → Bool} {act : RCtx → RCtx} (h : c.r.gate.st = .open)
    (hNot : ∀ r : Rumbe, guard r = true → r.gate.st ≠ .open) : (rumbeEvent c guard act).r.gate.st = .open :=
  rumbeEvent_open h fun c' hGuard h' => absurd h' (hNot c'.r hGuard)

/-! ### Frames heard and commands answered -/

/-- Hearing a frame leaves OPEN gates OPEN where what its type does then does. -/
theorem rxFrame_keepsOpen (x : Rx) (type : Nat) (rw : List Byte → List Byte) {act : RCtx → RCtx} (hAct : KeepsOpen act) :
    KeepsOpen (fun c => rxFrame c x type rw act) := by
  intro c h
  show (rxFrame c x type rw act).r.gate.st = .open
  unfold rxFrame
  split
  · exact h
  · extract_lets c₁ c₂ good c₃ c₄
    have h₂ : c₂.r.gate.st = .open := open_of_bare (updPort_bare ..) (settle_open h)
    have h₃ : c₃.r.gate.st = .open := by
      unfold c₃
      split <;> exact h₂
    have h₄ : c₄.r.gate.st = .open := by
      unfold c₄
      split
      · exact h₃
      · exact (open_of_bare (sendRepeat_bare ..) h₃ :)
    split
    · exact settle_open h
    · split
      split
      · exact h₃
      · split
        · exact h₃
        · split
          · exact h₄
          · split
            · exact h₄
            · exact hAct _ h₄

/-- Executing a command and answering it leaves OPEN gates OPEN where what it runs does. -/
theorem command_keepsOpen (x : Rx) (type : Nat) (bc lenOk : Bool) {run : RCtx → RCtx × Nat × List Byte}
    (hRun : KeepsOpen (fun c => (run c).1)) : KeepsOpen (fun c => command c x type bc lenOk run) := by
  intro c h
  have hAnswered (keep : Prop) [Decidable keep] (l : Option LastCmd) (rt : Nat) (bs : List Byte) : (respond
      (if keep then (run c).1 else (run c).1.upd (fun r => { r with lastCmd := l })) x rt bs).r.gate.st = .open := by
    refine open_of_bare (sendOwn_bare ..) ?_
    split <;> exact hRun c h
  show (command c x type bc lenOk run).r.gate.st = .open
  unfold command
  split
  · split
    · exact open_of_bare (sendOwn_bare ..) h
    · split
      · split
        · exact open_of_bare (sendOwn_bare ..) h
        · exact hAnswered ..
      · exact hAnswered ..
  · split
    · exact hRun c h
    · exact h

/-- Hearing an urgent frame leaves OPEN gates OPEN where what its code then does does. -/
theorem rxUrgent_keepsOpen (u : URx) {act : RCtx → RCtx} (hAct : KeepsOpen act) : KeepsOpen (fun c => rxUrgent c u act) := by
  intro c h
  show (rxUrgent c u act).r.gate.st = .open
  unfold rxUrgent
  split
  · exact h
  · extract_lets c₁ bs since c₂ c₃
    have h₂ : c₂.r.gate.st = .open := open_of_bare (updPort_bare ..) (settle_open h)
    have h₃ : c₃.r.gate.st = .open := by
      unfold c₃
      split
      · exact h₂
      · exact open_of_bare (relayUrgent_bare ..) h₂
    split
    · exact settle_open h
    · split
      · exact h₃
      · split
        · exact h₃
        · refine hAct _ ?_
          split <;> exact h₃

/-! ### Operations that leave the gates alone -/

theorem keepsOpen_of_gate_eq {f : RCtx → RCtx} (hf : ∀ c, (f c).r.gate = c.r.gate) : KeepsOpen f := by
  intro c h
  rw [hf]
  exact h

theorem takeTrigger_gate (c : RCtx) (x : Rx) (seq : Nat) (addr : Bool) : (takeTrigger c x seq addr).r.gate = c.r.gate := by
  unfold takeTrigger
  extract_lets start recent
  rw [RCtx.upd_r]
  extract_lets r
  split <;> rfl

theorem applyWords_gate (d : Dev) (now : Nat) (r : Rumbe) (a : Nat) (vs : List Nat) :
    (applyWords d now r a vs).1.gate = r.gate := by
  induction vs generalizing r a with
  | nil => rfl
  | cons v vs ih => exact (ih ..).trans (settingStore_gate ..)

theorem regWriteDo_gate (r : Rumbe) (d : Dev) (now a : Nat) (vs : List Nat) : (regWriteDo r d now a vs).1.gate = r.gate := by
  simp only [regWriteDo]
  split
  · rfl
  · split
    · rfl
    · exact applyWords_gate ..

theorem balEntryDo_gate (r : Rumbe) (b : List Byte) : (balEntryDo r b).1.gate = r.gate := by
  simp only [balEntryDo]
  (repeat' split) <;> rfl

theorem balEntriesDo_gate (pl : List Byte) (n i : Nat) (r : Rumbe) : (balEntriesDo pl n i r).1.gate = r.gate := by
  induction n generalizing r i with
  | zero => rfl
  | succ n ih => exact (ih ..).trans (balEntryDo_gate ..)

theorem balanceDo_gate (pl : List Byte) (c : RCtx) : (balanceDo pl c).1.r.gate = c.r.gate := by
  refine (balEntriesDo_gate ..).trans ?_
  split <;> rfl

theorem modidTake_gate (r : Rumbe) (st : Nat) : (modidTake r st).1.gate = r.gate := by
  unfold modidTake
  split
  · rfl
  · split
    · rfl
    · extract_lets run
      split <;> rfl

theorem alarmRepeat_gate (after : Rumbe) (asserts measDue : Bool) (c : RCtx) :
    (alarmRepeat after asserts measDue c).r.gate = c.r.gate := by
  have hSent (c : RCtx) (code : Nat) : (sendAlarm c code).r.gate = c.r.gate := Rumbe.gate_eq_of_bare (sendAlarm_bare ..)
  unfold alarmRepeat
  extract_lets old c₁
  have h₁ : c₁.r.gate = c.r.gate := by
    unfold c₁
    split
    · exact hSent ..
    · rfl
  split
  · exact (hSent ..).trans h₁
  · exact h₁

/-- A commit reads the gates and leaves them alone. -/
theorem commitDo_gate (sw : Sweep) (m : Readings) (c : RCtx) : (commitDo sw m c).r.gate = c.r.gate := by
  unfold commitDo
  extract_lets r s refF refRun measDue measF vs ovr mask
  split
  extract_lets r₁ after
  split; split; split
  case h_1 r₂ mst unst hTaken =>
  have h₂ : r₂.gate = c.r.gate := by
    have hTake := modidTake_gate r₁ (modidState m.modid)
    rwa [hTaken] at hTake
  extract_lets _ _ _ r₃ _ _ _ _ _ _ _ _ r₄ r₅
  refine (alarmRepeat_gate ..).trans ?_
  show r₅.gate = c.r.gate
  unfold r₅
  split <;> exact h₂

/-! ### What each row does -/

/-- An operation that its row makes conditional. -/
theorem KeepsOpen.ite {f : RCtx → RCtx} (hf : KeepsOpen f) {p : RCtx → Prop} [∀ c, Decidable (p c)] :
    KeepsOpen (fun c => if p c then f c else c) := by
  intro c h
  dsimp only
  split
  · exact hf c h
  · exact h

theorem rxSweep_keepsOpen (x : Rx) : KeepsOpen (fun c => rxSweep c x) :=
  rxFrame_keepsOpen _ _ _ (KeepsOpen.ite (keepsOpen_of_gate_eq fun _ => takeTrigger_gate ..))

theorem rxLateSweep_keepsOpen (x : Rx) : KeepsOpen (fun c => rxLateSweep c x) :=
  rxFrame_keepsOpen _ _ _ (KeepsOpen.ite (keepsOpen_of_gate_eq fun _ => takeTrigger_gate ..))

theorem rxCollect_keepsOpen (x : Rx) : KeepsOpen (fun c => rxCollect c x) := by
  refine rxFrame_keepsOpen _ _ _ fun c h => ?_
  split <;> exact h

theorem rxEnumerate_keepsOpen (x : Rx) : KeepsOpen (fun c => rxEnumerate c x) := by
  intro c h
  simp only [rxEnumerate]
  refine rxFrame_keepsOpen _ _ _ (fun c' h' => ?_) c h
  split <;> exact h'

theorem rxRepeatOnly_keepsOpen (x : Rx) : KeepsOpen (fun c => rxRepeatOnly c x) :=
  KeepsOpen.ite (rxFrame_keepsOpen _ _ _ (keepsOpen_of_gate_eq fun _ => rfl))

theorem rxReadRecord_keepsOpen (x : Rx) : KeepsOpen (fun c => rxReadRecord c x) :=
  rxFrame_keepsOpen _ _ _ (command_keepsOpen _ _ _ _ fun _ h => h)

theorem rxRegRead_keepsOpen (x : Rx) : KeepsOpen (fun c => rxRegRead c x) := by
  refine rxFrame_keepsOpen _ _ _ (command_keepsOpen _ _ _ _ fun c h => ?_)
  dsimp only
  split <;> exact h

theorem rxRegWrite_keepsOpen (x : Rx) : KeepsOpen (fun c => rxRegWrite c x) :=
  rxFrame_keepsOpen _ _ _ (command_keepsOpen _ _ _ _ (keepsOpen_of_gate_eq fun _ => regWriteDo_gate ..))

theorem rxWriteOf_keepsOpen (x : Rx) (a : Nat) (p : Rumbe → Nat → Bool) : KeepsOpen (rxWriteOf x a p) := by
  intro c h
  unfold rxWriteOf
  split
  · split
    · exact rxRegWrite_keepsOpen x c h
    · exact h
  · exact h

theorem rxGate_keepsOpen (x : Rx) (code : Nat) {run : RCtx → RCtx × Nat × List Byte} (hRun : KeepsOpen (fun c => (run c).1)) :
    KeepsOpen (fun c => rxGate c x code run) := by
  intro c h
  simp only [rxGate]
  split
  · exact h
  · refine rxFrame_keepsOpen _ _ _ (command_keepsOpen _ _ _ _ fun c' hc => ?_) c h
    dsimp only
    split
    · exact hc
    · exact hRun c' hc

theorem gateOpenDo_keepsOpen : KeepsOpen (fun c => (gateOpenDo c).1) := by
  intro c h
  simp only [gateOpenDo_eq]
  exact open_ite rfl h

theorem rxBalance_keepsOpen (x : Rx) (replace : Bool) : KeepsOpen (fun c => rxBalance c x replace) := by
  intro c h
  simp only [rxBalance]
  split
  · exact h
  · exact rxFrame_keepsOpen _ _ _ (command_keepsOpen _ _ _ _ (keepsOpen_of_gate_eq (balanceDo_gate _))) c h

theorem rxControl_keepsOpen (x : Rx) (code : Nat) (argOk : Nat → Bool) {run : Nat → RCtx → RCtx × Nat}
    (hRun : ∀ arg, KeepsOpen (fun c => (run arg c).1)) : KeepsOpen (fun c => rxControl c x code argOk run) := by
  intro c h
  simp only [rxControl]
  split
  · exact h
  · refine rxFrame_keepsOpen _ _ _ (command_keepsOpen _ _ _ _ fun c' hc => ?_) c h
    dsimp only
    split
    · exact hc
    · exact hRun _ c' hc

theorem aspReleaseDo_keepsOpen : KeepsOpen (fun c => (aspReleaseDo c).1) := by
  intro c h
  simp only [aspReleaseDo]
  split <;> exact h

theorem portCutDo_keepsOpen (cut : Bool) (arg : Nat) : KeepsOpen (fun c => (portCutDo cut arg c).1) :=
  fun _ h => open_of_bare (updPort_bare ..) h

theorem sleepDo_keepsOpen : KeepsOpen (fun c => (sleepDo c).1) := fun _ h => open_ite rfl h

theorem rxUrgentCode_keepsOpen (u : URx) (code : Nat) {act : RCtx → RCtx} (hAct : KeepsOpen act) :
    KeepsOpen (fun c => rxUrgentCode c u code act) := by
  intro c h
  simp only [rxUrgentCode]
  split
  · exact h
  · exact rxUrgent_keepsOpen u hAct c h

theorem eopenDo_keepsOpen : KeepsOpen eopenDo := fun _ h => open_ite rfl h

theorem strOpenDo_keepsOpen (arg : Nat) : KeepsOpen (strOpenDo arg) := fun _ h => open_ite rfl h

theorem alarmRxDo_keepsOpen (arg : Nat) : KeepsOpen (alarmRxDo arg) :=
  fun _ h => open_ite (aspTake_gate_st_of_open h _) h

theorem commExpireDo_keepsOpen : KeepsOpen commExpireDo := fun _ h => rumbeEvent_open h fun _ _ h' => open_ite rfl h'

theorem wakeDetectDo_keepsOpen (p : RPort) : KeepsOpen (wakeDetectDo p) := by
  refine fun _ h => rumbeEvent_open h fun _ _ h' => ?_
  dsimp only
  split <;> exact h'

theorem recordSendDo_keepsOpen : KeepsOpen recordSendDo := by
  refine fun _ h => rumbeEvent_open h fun _ _ h' => ?_
  split
  · exact open_of_bare (sendOwn_bare ..) h'
  · exact h'

theorem urgentQueueDo_keepsOpen (p : RPort) (idle : Bool) : KeepsOpen (urgentQueueDo p idle) := by
  refine fun _ h => rumbeEvent_open h fun _ _ h' => ?_
  split
  · exact open_of_bare ((urgentOut_bare ..).trans (updPort_bare ..)) h'
  · exact h'

theorem frameResendDo_keepsOpen (p : RPort) (idle : Bool) : KeepsOpen (frameResendDo p idle) := by
  refine fun _ h => rumbeEvent_open h fun _ _ h' => ?_
  split
  · exact open_of_bare ((sendOwn_bare ..).trans (updPort_bare ..)) h'
  · exact h'

theorem jabCutDo_keepsOpen (p : RPort) : KeepsOpen (jabCutDo p) :=
  fun _ h => rumbeEvent_open h fun _ _ h' =>
    (open_of_bare (updPort_bare _ p fun q => { q with jab := true }) h' :)

theorem jabResumeDo_keepsOpen (p : RPort) : KeepsOpen (jabResumeDo p) :=
  fun _ h => rumbeEvent_open h fun _ _ h' => open_of_bare (updPort_bare ..) h'

theorem sweepStartDo_keepsOpen : KeepsOpen sweepStartDo := by
  refine fun _ h => rumbeEvent_open h fun _ _ h' => ?_
  rw [RCtx.upd_r]
  split <;> exact h'

theorem sweepCommitDo_keepsOpen (m : Readings) : KeepsOpen (sweepCommitDo m) := by
  refine fun _ h => rumbeEvent_open h fun _ _ h' => ?_
  split
  · rw [commitDo_gate]
    exact h'
  · exact h'

theorem modidChangeDo_keepsOpen : KeepsOpen modidChangeDo := by
  intro c h
  unfold modidChangeDo
  split
  · exact fireOne_keepsOpen _ c h
  · exact h

/-- A trip sets its latch on a head that it has opened. -/
theorem scTripDo_keepsOpen (uv : Int) (ns : Nat) : KeepsOpen (scTripDo uv ns) :=
  fun _ h => rumbeEvent_open h fun _ _ _ => open_of_bare (sendAlarm_bare ..) rfl

theorem rampTripDo_keepsOpen (k : RampTrip) : KeepsOpen (rampTripDo k) :=
  fun _ h => rumbeEvent_open h fun _ _ _ => open_of_bare (sendAlarm_bare ..) rfl

/-- PRECHARGE and RAMP end from PRECHARGE and RAMP alone (04 R89, R90, R93). -/
theorem prechargeDoneDo_keepsOpen : KeepsOpen prechargeDoneDo :=
  fun _ h => rumbeEvent_open_of_not h fun r hGuard => by simp_all

theorem rampDoneDo_keepsOpen (chg dsg : Nat) : KeepsOpen (rampDoneDo chg dsg) :=
  fun _ h => rumbeEvent_open_of_not h fun r hGuard => by simp_all

theorem contactorEndDo_keepsOpen : KeepsOpen contactorEndDo :=
  fun _ h => rumbeEvent_open_of_not h fun r hGuard => by simp_all

theorem balStartDo_keepsOpen : KeepsOpen balStartDo := by
  refine fun _ h => rumbeEvent_open h fun _ _ h' => ?_
  rw [RCtx.upd_r]
  split <;> exact h'

theorem balCheckDo_keepsOpen (busMv : Int) : KeepsOpen (balCheckDo busMv) := by
  refine fun _ h => rumbeEvent_open h fun _ _ h' => ?_
  rw [RCtx.upd_r]
  (repeat' split) <;> exact h'

theorem balModuleDo_keepsOpen (mv : Nat) : KeepsOpen (balModuleDo mv) :=
  fun _ h => rumbeEvent_open h fun _ _ h' => open_ite h' h'

/-! ### The rows of a Rumbe -/

/-- A row that lifts an operation which leaves OPEN gates OPEN leaves every OPEN head OPEN: the other Rumbe are as they were. -/
theorem onRumbe_open {s u : State} {t : Nat} {d e : Dev} {f : RCtx → RCtx} (hOpen : (s.rumbe d).gate.st = .open)
    (hExec : Host.Outcome.next (onRumbe t e f s) = (.next u : Host.Outcome State Fault Refusal)) (hf : KeepsOpen f) :
    (u.rumbe d).gate.st = .open := by
  cases hExec
  rw [onRumbe_eq]
  by_cases hed : d = e
  · subst hed
    rw [afterRumbe_rumbe]
    exact hf _ hOpen
  · rw [afterRumbe_rumbe_ne _ _ _ hed]
    exact hOpen

/-- CLOSE, CHG_ONLY or DSG_ONLY of the Rumbe at `d`. -/
def IsGateMove (d : Dev) (i : Instr) : Prop := ∃ t x, i = .gateClose t d x ∨ i = .gateChgOnly t d x ∨ i = .gateDsgOnly t d x

/-- A command of a Rumbe that is none of the three leaves an OPEN head OPEN: each row by the operation it lifts. -/
theorem exec_open_of_not_gateMove {i : Instr} {s u : State} {d : Dev} (hRow : rumbeOf i = some d)
    (hOpen : (s.rumbe d).gate.st = .open) (hMove : ¬IsGateMove d i) (hExec : exec i s = .next u) :
    (u.rumbe d).gate.st = .open := by
  cases i with
  -- The three
  | gateClose t e x =>
    obtain rfl : e = d := Option.some.inj hRow
    exact absurd ⟨t, x, .inl rfl⟩ hMove
  | gateChgOnly t e x =>
    obtain rfl : e = d := Option.some.inj hRow
    exact absurd ⟨t, x, .inr (.inl rfl)⟩ hMove
  | gateDsgOnly t e x =>
    obtain rfl : e = d := Option.some.inj hRow
    exact absurd ⟨t, x, .inr (.inr rfl)⟩ hMove
  -- After a reset the gates are OPEN
  | rumbePor => exact onRumbe_open hOpen hExec (fun _ _ => rfl)
  | softResetExecute => exact onRumbe_open hOpen hExec (fun _ h => rumbeEvent_open h fun _ _ _ => rfl)
  -- An open request
  | prechargeTimeout | rampTimeout | pumpUv => exact onRumbe_open hOpen hExec (fun _ h => rumbeEvent_open h fun _ _ _ => rfl)
  | scTrip => exact onRumbe_open hOpen hExec (scTripDo_keepsOpen _ _)
  | rampWatchTrip => exact onRumbe_open hOpen hExec (rampTripDo_keepsOpen _)
  | tCommExpiry => exact onRumbe_open hOpen hExec commExpireDo_keepsOpen
  | gateOpen => exact onRumbe_open hOpen hExec (rxGate_keepsOpen _ _ gateOpenDo_keepsOpen)
  | sleep => exact onRumbe_open hOpen hExec (rxControl_keepsOpen _ _ _ fun _ => sleepDo_keepsOpen)
  | eopen => exact onRumbe_open hOpen hExec (rxUrgentCode_keepsOpen _ _ eopenDo_keepsOpen)
  | strOpen => exact onRumbe_open hOpen hExec (rxUrgentCode_keepsOpen _ _ (strOpenDo_keepsOpen _))
  | alarmCell | alarmMeas => exact onRumbe_open hOpen hExec (rxUrgentCode_keepsOpen _ _ (alarmRxDo_keepsOpen _))
  | cellAlarmAssert | cellAlarmClear | measFaultLatch | rangeToHg | calFrozen | curFaultLatch =>
    exact onRumbe_open hOpen hExec (fireOne_keepsOpen _)
  | modidStateChange => exact onRumbe_open hOpen hExec modidChangeDo_keepsOpen
  -- The gates' own steps from PRECHARGE and RAMP
  | prechargeDone => exact onRumbe_open hOpen hExec prechargeDoneDo_keepsOpen
  | rampDone => exact onRumbe_open hOpen hExec (rampDoneDo_keepsOpen _ _)
  | contactorRampEnd => exact onRumbe_open hOpen hExec contactorEndDo_keepsOpen
  -- Events that leave the gates alone
  | sleepEnter | wakeReady | balIdleEnd | modulatorSettle | currentInterval | pchgOff | vauxSoftStartCheck | vauxUndervoltage
  | vauxRetry | vauxRetryReset | vauxThermalShutdown | balCycle | balTimeout | balOvertemp | balPriOc =>
    exact onRumbe_open hOpen hExec (fun _ h => rumbeEvent_open h fun _ _ h' => h')
  | wakeDetect => exact onRumbe_open hOpen hExec (wakeDetectDo_keepsOpen _)
  | sweepStart => exact onRumbe_open hOpen hExec sweepStartDo_keepsOpen
  | sweepCommit => exact onRumbe_open hOpen hExec (sweepCommitDo_keepsOpen _)
  | balTransferStart => exact onRumbe_open hOpen hExec balStartDo_keepsOpen
  | balCheckDone => exact onRumbe_open hOpen hExec (balCheckDo_keepsOpen _)
  | balModuleV => exact onRumbe_open hOpen hExec (balModuleDo_keepsOpen _)
  | recordSend => exact onRumbe_open hOpen hExec recordSendDo_keepsOpen
  | urgentQueueSend => exact onRumbe_open hOpen hExec (urgentQueueDo_keepsOpen _ _)
  | frameResend => exact onRumbe_open hOpen hExec (frameResendDo_keepsOpen _ _)
  | jabberCut t j =>
    cases j with
    | broros => cases hRow
    | rumbe => exact onRumbe_open hOpen hExec (jabCutDo_keepsOpen _)
  | jabberResume t j =>
    cases j with
    | broros => cases hRow
    | rumbe => exact onRumbe_open hOpen hExec (jabResumeDo_keepsOpen _)
  -- Frames that leave the gates alone
  | sweep => exact onRumbe_open hOpen hExec (rxSweep_keepsOpen _)
  | lateSweep => exact onRumbe_open hOpen hExec (rxLateSweep_keepsOpen _)
  | collect => exact onRumbe_open hOpen hExec (rxCollect_keepsOpen _)
  | readRecord => exact onRumbe_open hOpen hExec (rxReadRecord_keepsOpen _)
  | regRead => exact onRumbe_open hOpen hExec (rxRegRead_keepsOpen _)
  | regWrite => exact onRumbe_open hOpen hExec (rxRegWrite_keepsOpen _)
  | headEnSet | headEnClear | shuntChange | devIdWrite | tCommWrite | vauxEnSet | vauxEnClear | balEnClear =>
    exact onRumbe_open hOpen hExec (rxWriteOf_keepsOpen _ _ _)
  | enumerate => exact onRumbe_open hOpen hExec (rxEnumerate_keepsOpen _)
  | balanceAppend | balanceReplace => exact onRumbe_open hOpen hExec (rxBalance_keepsOpen _ _)
  | balStop | faultClear | softReset | modidAck | clearId | ringTest =>
    exact onRumbe_open hOpen hExec (rxControl_keepsOpen _ _ _ fun _ _ h => h)
  | aspRelease => exact onRumbe_open hOpen hExec (rxControl_keepsOpen _ _ _ fun _ => aspReleaseDo_keepsOpen)
  | portCut | portRestore => exact onRumbe_open hOpen hExec (rxControl_keepsOpen _ _ _ fun _ => portCutDo_keepsOpen _ _)
  | reservedFrame => exact onRumbe_open hOpen hExec (rxRepeatOnly_keepsOpen _)
  | alarmTrip => exact onRumbe_open hOpen hExec (rxUrgentCode_keepsOpen _ _ fun _ h => h)
  | reservedUrgentCode => exact onRumbe_open hOpen hExec (KeepsOpen.ite (rxUrgent_keepsOpen _ fun _ h => h))
  | _ => cases hRow

/-- Settles O16: whatever is none of the three leaves the head OPEN. -/
theorem onlyGateCommandsLeaveOpen : Obligations.OnlyGateCommandsLeaveOpen := by
  intro i s u d hRow hOpen hExec hLeft
  have hMove : ¬¬IsGateMove d i := fun hOther => hLeft (exec_open_of_not_gateMove hRow hOpen hOther hExec)
  exact Classical.not_not.mp hMove

end Sys2Proof.Machine
end

section
/-! A balancer's transfer: its start, its check, its cycles and its ends (05 R101, R103, R107 to R118). -/

namespace Sys2Proof.Machine

/-! ### The end of a transfer (05 R112, R116) -/

/-- A transfer in CHECK or RUN ends: the outputs are off from now on, and it heads the log of the last four. -/
theorem balEnd_of_active {b : Bal} (h : b.phase ≠ .idle) (now cause : Nat) :
    balEnd b now cause = { b with
      phase := .idle, endPhase := b.phase, offAt := some now, xferId := (b.xferId + 1) % 65536, cause := cause
      ended := true, seen := true
      log := ({ xferId := (b.xferId + 1) % 65536, cell := b.cur.cell, out := b.cur.out, cause := cause, xferQ := b.xferQ,
                dQmb := b.qmb - b.qmb0 } :: b.log).take 4 } := by
  simp [balEnd, balActive, h]

/-- A second cause at the moment of the end: the higher code is recorded, for the same transfer. -/
theorem balEnd_of_endedNow {b : Bal} {now : Nat} (hIdle : b.phase = .idle) (hOff : b.offAt = some now) (cause : Nat) :
    balEnd b now cause =
      { b with cause := max b.cause cause, log := modAt b.log 0 (fun e => { e with cause := max e.cause cause }) } := by
  simp [balEnd, balActive, endedNow, hIdle, hOff]

/-- What an end leaves: the entries, the counters and the latches. -/
@[simp] theorem balEnd_frame (b : Bal) (now cause : Nat) :
    let e := balEnd b now cause
    e.cur = b.cur ∧ e.queue = b.queue ∧ e.xferQ = b.xferQ ∧ e.qb = b.qb ∧ e.qmb = b.qmb
      ∧ e.selFault = b.selFault ∧ e.priOc = b.priOc := by
  unfold balEnd
  split
  · simp
  · split <;> simp

theorem sgDrive_of_idle {b : Bal} (h : b.phase = .idle) (k : Nat) : sgDrive b k = .low := if_pos h

theorem pgDrive_of_idle {b : Bal} (h : b.phase = .idle) (odd : Bool) : pgDrive b odd = .low := by
  simp [pgDrive, h]

/-! ### Charge and temperature of a cycle (05 R107, R110, R114) -/

@[simp] theorem balTemp_frame (b : Bal) (now : Nat) (t : Int) :
    let e := balTemp b now t
    e.cur = b.cur ∧ e.xferQ = b.xferQ ∧ e.qb = b.qb ∧ e.qmb = b.qmb := by
  unfold balTemp
  split
  · simp
  · split <;> simp

/-- Below 125 degrees no transfer ends. -/
theorem balTemp_of_cool {t : Int} (h : t < 1250) (b : Bal) (now : Nat) :
    (balTemp b now t).phase = b.phase ∧ (balTemp b now t).xferId = b.xferId := by
  unfold balTemp
  rw [if_neg (Int.not_le.mpr h)]
  split <;> exact ⟨rfl, rfl⟩

/-- A balancer that has counted a cycle's cell-side and module-side charge `q` at `now`. -/
def balCounted (b : Bal) (q : Int × Int) (now : Nat) : Bal :=
  { b with xferQ := b.xferQ + q.1, qmb := signed 48 (pattern 48 (b.qmb + q.2)), cycleAt := now
           qb := modAt b.qb (b.cur.cell - 1) (fun v => signed 48 (pattern 48 (v + q.1))) }

/-- A balancer after a cycle of charge `q` that leaves the die at `t`. -/
def balCycled (b : Bal) (q : Int × Int) (now : Nat) (t : Int) : Bal :=
  let e := balTemp (balCounted b q now) now t
  if e.cur.qTgt ≤ e.xferQ.natAbs then balEnd e now 1 else e

/-- However the cycle ends, its charge is counted. -/
theorem balCycled_charges (b : Bal) (q : Int × Int) (now : Nat) (t : Int) :
    (balCycled b q now t).xferQ = b.xferQ + q.1 ∧ (balCycled b q now t).qmb = signed 48 (pattern 48 (b.qmb + q.2))
      ∧ (balCycled b q now t).qb = modAt b.qb (b.cur.cell - 1) (fun v => signed 48 (pattern 48 (v + q.1))) := by
  unfold balCycled
  extract_lets e
  split <;> simp [e, balCounted]

section
variable {b : Bal} {q : Int × Int} {t : Int} (hRun : b.phase = .run) (hCool : t < 1250)
include hRun hCool

/-- The target charge reached: the transfer ends with TARGET. -/
theorem balCycled_of_reached (hTarget : b.cur.qTgt ≤ (b.xferQ + q.1).natAbs) (now : Nat) :
    (balCycled b q now t).phase = .idle ∧ (balCycled b q now t).cause = 1 ∧ (balCycled b q now t).ended = true
      ∧ (balCycled b q now t).xferId = (b.xferId + 1) % 65536 := by
  obtain ⟨hPhase, hId⟩ := balTemp_of_cool hCool (balCounted b q now) now
  have hActive : (balTemp (balCounted b q now) now t).phase ≠ .idle := by
    rw [hPhase]
    exact fun hIdle => BalPhase.noConfusion (hRun.symm.trans hIdle)
  unfold balCycled
  rw [if_pos (by simpa [balCounted] using hTarget), balEnd_of_active hActive, hId]
  exact ⟨rfl, rfl, rfl, rfl⟩

/-- Short of it, the transfer runs on. -/
theorem balCycled_of_short (hShort : (b.xferQ + q.1).natAbs < b.cur.qTgt) (now : Nat) :
    (balCycled b q now t).phase = .run := by
  unfold balCycled
  rw [if_neg (by simpa [balCounted] using hShort), (balTemp_of_cool hCool ..).1]
  exact hRun

end

/-! ### What bars a start (05 R108, R118) -/

/-- A balancer latch is set, or BAL_EN is 0. -/
def Rumbe.balBarred (r : Rumbe) : Bool := r.bal.selFault || r.bal.priOc || !r.balSet.en

theorem balBarred_iff {r : Rumbe} :
    r.balBarred = true ↔ r.bal.selFault = true ∨ r.bal.priOc = true ∨ r.balSet.en = false := by
  simp [Rumbe.balBarred, or_assoc]

theorem not_balMayStart_of_barred {r : Rumbe} (h : r.balBarred = true) (now : Nat) : balMayStart r now = false := by
  rcases balBarred_iff.mp h with hSel | hPri | hEn
  · simp [balMayStart, hSel]
  · simp [balMayStart, hPri]
  · simp [balMayStart, hEn]

variable {c : RCtx}

theorem alarmTaken_balBarred (c : RCtx) (code : Nat) : (alarmTaken c code).r.balBarred = c.r.balBarred := by
  have hBare : (alarmTaken c code).r.balBarred = { c.r with bal := balEndClear c.r.bal c.now 8 }.balBarred :=
    (congrArg Rumbe.balBarred (alarmTaken_bare c code) :)
  rw [hBare]
  simp [Rumbe.balBarred, balEndClear]

theorem fireDue_balBarred (c : RCtx) (x : RDue) : (fireDue c x).r.balBarred = c.r.balBarred := by
  cases x with
  | assert =>
    rw [fireDue_assert]
    exact alarmTaken_balBarred ..
  | measFault =>
    rw [fireDue_measFault]
    exact alarmTaken_balBarred ..
  | clear | modid | rangeHg | calFrozen | curFault => rfl

theorem foldl_fireDue_balBarred (ds : List RDue) (c : RCtx) : (ds.foldl fireDue c).r.balBarred = c.r.balBarred := by
  induction ds generalizing c with
  | nil => rfl
  | cons x ds ih => exact (ih (fireDue c x)).trans (fireDue_balBarred c x)

/-- What had fallen due neither sets nor clears a latch, and leaves BAL_EN. -/
@[simp] theorem settle_balBarred (c : RCtx) : (settle c).r.balBarred = c.r.balBarred := foldl_fireDue_balBarred ..

/-! ### Each step, once its condition holds -/

/-- A step whose condition does not hold leaves what had fallen due done, and nothing more (95). -/
theorem rumbeEvent_of_not_guard {guard : Rumbe → Bool} {act : RCtx → RCtx} (h : guard (settle c).r = false) :
    rumbeEvent c guard act = settle c := if_neg (by simp [h])

/-- BAL_TRANSFER_START: the first entry enters CHECK; an alarm that stands ends it at once (05 R103, Table 5-5). -/
theorem balStartDo_of_mayStart {e : BalEntry} {es : List BalEntry} (hQueue : (settle c).r.bal.queue = e :: es)
    (hMay : balMayStart (settle c).r (settle c).now = true) :
    let b := { (settle c).r.bal with
      phase := .check, cur := e, queue := es, startAt := (settle c).now, checkAt := (settle c).now, offAt := none, xferQ := 0
      qmb0 := (settle c).r.bal.qmb, seen := true }
    balStartDo c = (settle c).into { (settle c).r with
      bal := if anyAlarm (settle c).r || (settle c).r.measFault then balEndClear b (settle c).now 8 else b } := by
  rw [balStartDo, rumbeEvent_of_guard (settle_now c ▸ hMay)]
  simp only [RCtx.upd, RCtx.into, hQueue]

/-- BAL_TRANSFER_START while a latch is set or BAL_EN is 0 (05 R108, R118). -/
theorem balStartDo_of_barred (h : c.r.balBarred = true) : balStartDo c = settle c :=
  rumbeEvent_of_not_guard (not_balMayStart_of_barred ((settle_balBarred c).trans h) _)

/-- BAL_CHECK_DONE: SEL_FAULT latches, or the transfer runs (05 R103). -/
theorem balCheckDo_of_due (hCheck : (settle c).r.bal.phase = .check) (hHold : (settle c).r.bal.holdUntil = none)
    (hDue : (settle c).r.bal.checkAt + 4800 ≤ (settle c).now) (mv : Int) :
    balCheckDo mv c = (settle c).into { (settle c).r with
      bal := if selFails (settle c).r (settle c).dev mv then
          { balEndClear (settle c).r.bal (settle c).now 9 with selFault := true }
        else { (settle c).r.bal with phase := .run, cycleAt := (settle c).now } } := by
  rw [balCheckDo, rumbeEvent_of_guard (by simp_all [perUs])]
  simp only [RCtx.upd, RCtx.into, if_pos hCheck]
  split <;> rfl

/-- BAL_CYCLE (05 R107 to R116). -/
theorem balCycleDo_of_fits {uv tp ts : Nat} (hMay : cycleMay (settle c).r.bal (settle c).now tp ts = true)
    (hFits : cycleFits (settle c).r (settle c).now uv tp ts = true) (td : Int) :
    balCycleDo uv tp ts td c = (settle c).into { (settle c).r with
      bal := balCycled (settle c).r.bal (cycleCharge (settle c).r.balSet (settle c).r.bal.cur.out uv tp ts)
        (settle c).now td } := by
  rw [balCycleDo, rumbeEvent_of_guard (by simp_all)]
  rfl

/-- BAL_TIMEOUT (05 Table 5-5; that T_MAX runs from the start is the model's reading, log 39). -/
theorem balTimeoutDo_of_due (hActive : balActive (settle c).r.bal = true)
    (hDue : (settle c).r.bal.startAt + (settle c).r.bal.cur.tMax * 48000000 ≤ (settle c).now) :
    balTimeoutDo c = (settle c).into { (settle c).r with bal := balEnd (settle c).r.bal (settle c).now 2 } := by
  rw [balTimeoutDo, rumbeEvent_of_guard (by simp_all [perS])]
  rfl

/-- BAL_OVERTEMP (05 R114). -/
theorem balOvertempDo_eq (c : RCtx) (td : Int) :
    balOvertempDo td c = (settle c).into { (settle c).r with bal := balTemp (settle c).r.bal (settle c).now td } :=
  rumbeEvent_of_guard rfl

/-- BAL_PRI_OC: above 1.5 times the primary current for 1 microsecond, PRI_OC latches (05 Table 5-5). -/
theorem balPriOcDo_of_over {uv ns : Nat} (hActive : balActive (settle c).r.bal = true)
    (hOver : 24 * (settle c).r.balSet.ipk * (settle c).r.balSet.rcs < uv * (settle c).r.balSet.nr) (hLong : 1000 ≤ ns) :
    balPriOcDo uv ns c = (settle c).into { (settle c).r with
      bal := { balEndClear (settle c).r.bal (settle c).now 10 with priOc := true } } := by
  rw [balPriOcDo, rumbeEvent_of_guard (by simp_all)]
  rfl

/-- BAL_MODULE_V (05 R115). -/
theorem balModuleDo_eq (c : RCtx) (mv : Nat) :
    balModuleDo mv c = (settle c).into { (settle c).r with
      bal := if mv < 12000 ∨ 90000 < mv then { balEnd (settle c).r.bal (settle c).now 6 with badModule := true }
        else { (settle c).r.bal with badModule := false } } := by
  rw [balModuleDo, rumbeEvent_of_guard rfl]
  simp only [RCtx.upd, RCtx.into, Bool.or_eq_true, decide_eq_true_eq]
  split <;> rfl

/-! ### The obligation -/

/-- Settles O11: each step does what its lemma above says; an end writes the record of the transfer, and what bars a start
outlasts what had fallen due. -/
theorem balanceTransferSteps : Obligations.BalanceTransferSteps := by
  refine ⟨fun s t d => ⟨?start, ?check, ?cycle, ?timeout, fun td => ?overtemp, ?priOc, fun mv => ?moduleV⟩,
    ?ends, ?barred⟩
  case start =>
    exact fun e es hQueue hMay => exec_eq_afterRumbe (exec_balTransferStart ..) (balStartDo_of_mayStart hQueue hMay)
  case check =>
    intro mv hCheck hHold hDue
    have hDev : (settle (before s t d)).dev = d := settle_dev _
    have hDo := balCheckDo_of_due hCheck hHold hDue mv
    rw [hDev] at hDo
    exact exec_eq_afterRumbe (exec_balCheckDone ..) hDo
  case cycle =>
    intro uv tp ts td hRun hMay hFits q
    refine ⟨_, exec_eq_afterRumbe (exec_balCycle ..) (balCycleDo_of_fits hMay hFits td), ?_⟩
    rw [afterRumbe_rumbe]
    obtain ⟨hQ, hModule, hCell⟩ := balCycled_charges (turn s t d).r.bal q (turn s t d).now td
    exact ⟨hQ, hModule, hCell, fun hCool =>
      ⟨fun hTarget => balCycled_of_reached hRun hCool hTarget _, fun hShort => balCycled_of_short hRun hCool hShort _⟩⟩
  case timeout => exact fun hActive hDue => exec_eq_afterRumbe (exec_balTimeout ..) (balTimeoutDo_of_due hActive hDue)
  case overtemp => exact exec_eq_afterRumbe (exec_balOvertemp ..) (balOvertempDo_eq _ td)
  case priOc =>
    exact fun _ _ hActive hOver hLong => exec_eq_afterRumbe (exec_balPriOc ..) (balPriOcDo_of_over hActive hOver hLong)
  case moduleV => exact exec_eq_afterRumbe (exec_balModuleV ..) (balModuleDo_eq _ mv)
  case ends =>
    intro b now cause hActive e
    have hEnd : e = _ := balEnd_of_active hActive now cause
    have hIdle : e.phase = .idle := balEnd_phase ..
    have hOff : e.offAt = some now := by rw [hEnd]
    have hCause : e.cause = cause := by rw [hEnd]
    obtain ⟨-, hQueue, hXferQ, hQb, hQmb, -, -⟩ := balEnd_frame b now cause
    refine ⟨hIdle, hOff, hCause, by rw [hEnd], by rw [hEnd], by rw [hEnd]; rfl, ?_, hQueue, hQb, hQmb, hXferQ,
      sgDrive_of_idle hIdle, pgDrive_of_idle hIdle, fun other => ?_⟩
    · rw [hEnd]
      exact List.length_take_le ..
    · rw [balEnd_of_endedNow hIdle hOff, hCause]
      exact ⟨rfl, rfl⟩
  case barred =>
    exact fun s t d hBarred =>
      exec_eq_afterRumbe (exec_balTransferStart ..) (balStartDo_of_barred (c := before s t d) (balBarred_iff.mpr hBarred))

end Sys2Proof.Machine
end

section
/-! Every command answers a next state, and only a Rumbe's command reaches a Rumbe (01 R18, 06 R122, R125). -/

namespace Sys2Proof.Machine

/-- Settles O55: the lemma about every command's queue, and that a command answers one next state. -/
theorem commandsAnswerAndKeepQueue : Obligations.CommandsAnswerAndKeepQueue := by
  refine ⟨fun i s u hExec => ?_, fun i s => ?_⟩
  · obtain ⟨v, hAnswer, hKept⟩ := exec_keeps_queue_and_others i s
    obtain rfl : v = u := Host.Outcome.next.inj (hAnswer.symm.trans hExec)
    exact hKept
  · obtain ⟨u, hAnswer, -⟩ := exec_keeps_queue_and_others i s
    exact ⟨u, hAnswer⟩

end Sys2Proof.Machine
end

section
/-! How an addressed command is answered where it is not executed: again as it was, or BAD_FRAME (06 R127, R139). -/

namespace Sys2Proof.Machine

variable {c : RCtx} {x : Rx} {type : Nat} {bc : Bool} {run : RCtx → RCtx × Nat × List Byte}

/-- A command with the FSEQ and TYPE of the last one executed is answered as that one was (06 R139). -/
theorem command_of_repeated {l : LastCmd} (hAddr : addressed c.r x = true) (hLast : c.r.lastCmd = some l)
    (hFseq : l.fseq = x.fseq) (hType : l.type = type) : command c x type bc true run = respond c x l.respType l.resp := by
  simp [command, hAddr, hLast, hFseq, hType]

/-- A command whose LEN does not match is answered BAD_FRAME (06 R127). -/
theorem command_of_wrong_length {lenOk : Bool} (hAddr : addressed c.r x = true) (hLen : lenOk = false) :
    command c x type bc lenOk run = respond c x 8 [0x06#8] := by
  simp [command, hAddr, hLen]

/-- A new command that finds no meaning is answered BAD_FRAME, and the last command executed stands (06 R139). -/
theorem command_of_declined {c' : RCtx} {rt : Nat} (hAddr : addressed c.r x = true) (hNew : fresh c x type = true)
    (hRun : run c = (c', rt, [0x06#8])) : command c x type bc true run = respond c' x rt [0x06#8] := by
  unfold command
  rw [if_pos hAddr]
  cases hLast : c.r.lastCmd with
  | none => simp [hRun]
  | some l =>
    simp only [fresh, hLast, Bool.not_eq_true'] at hNew
    have hOther : (decide (l.fseq = x.fseq) && decide (l.type = type)) = false := hNew
    simp [hOther, hRun]

/-- A broadcast is no addressed frame (06 R133). -/
theorem not_addressed_of_broadcast (h : broadcast x = true) (r : Rumbe) : addressed r x = false := by
  have hAddr : x.addr = 0x3F := beq_iff_eq.mp h
  simp [addressed, hAddr]

/-- A broadcast that may be executed is, in silence (06 R138, R539). -/
theorem command_of_broadcast (h : broadcast x = true) : command c x type true true run = (run c).1 := by
  simp [command, not_addressed_of_broadcast h, h]

/-- One that may not is only repeated (06 R539). -/
theorem command_of_barred_broadcast (h : broadcast x = true) (lenOk : Bool) : command c x type false lenOk run = c := by
  simp [command, not_addressed_of_broadcast h]

/-- Settles O4: the model compares FSEQ and TYPE before it executes. -/
theorem repeatedCommandResendsResponse : Obligations.RepeatedCommandResendsResponse := by
  intro c x type bc run hAddr
  exact ⟨fun l hLast hFseq hType => command_of_repeated hAddr hLast hFseq hType,
    fun hNew hRun => command_of_new bc hAddr hNew rfl hRun⟩

/-- An addressed frame that the Rumbe hears, of a LEN that does not match, is answered BAD_FRAME and not acted on. -/
theorem rxFrame_of_wrong_length {s : State} {t : Nat} {d : Dev} {lenOk : Bool} (hHears : hears s t d x type = true)
    (hAddr : addressed (s.rumbe d) x = true) (hLen : lenOk = false) :
    rxFrame (before s t d) x type id (fun c => command c x type bc lenOk run)
      = respond (heard s t d x id) x 8 [0x06#8] := by
  rw [rxFrame_of_hears hHears]
  exact command_of_wrong_length ((addressed_heard id).trans hAddr) hLen

/-- Settles O5: of each type, a frame of the wrong LEN is no other row's, and its command answers BAD_FRAME. -/
theorem wrongLengthAnsweredBadFrame : Obligations.WrongLengthAnsweredBadFrame := by
  intro s t d x hAddr
  refine ⟨fun hHears hLen => ?readRecord, fun hHears hLen => ?regRead, fun hHears hLen => ?regWrite,
    fun hHears hLen => ?gate, fun hHears hLen => ?balance, fun hHears hLen => ?control⟩
  case readRecord =>
    exact exec_eq_afterRumbe (exec_readRecord ..) (rxFrame_of_wrong_length hHears hAddr (beq_eq_false_iff_ne.mpr hLen))
  case regRead =>
    exact exec_eq_afterRumbe (exec_regRead ..) (rxFrame_of_wrong_length hHears hAddr (beq_eq_false_iff_ne.mpr hLen))
  case regWrite => exact exec_eq_afterRumbe (exec_regWrite ..) (rxFrame_of_wrong_length hHears hAddr hLen)
  case gate =>
    refine exec_eq_afterRumbe (exec_gateClose ..) ?_
    rw [rxGate, if_neg (by simp [hLen])]
    exact rxFrame_of_wrong_length hHears hAddr (beq_eq_false_iff_ne.mpr hLen)
  case balance =>
    refine exec_eq_afterRumbe (exec_balanceAppend ..) ?_
    rw [rxBalance, if_neg (by simp [hLen])]
    exact rxFrame_of_wrong_length hHears hAddr hLen
  case control =>
    refine exec_eq_afterRumbe (exec_balStop ..) ?_
    rw [rxControl, if_neg (by simp [hLen])]
    exact rxFrame_of_wrong_length hHears hAddr (beq_eq_false_iff_ne.mpr hLen)

end Sys2Proof.Machine
end

section
/-! What each CONTROL code does, addressed and broadcast (06 Tables 6-3, 6-4, R539). -/

namespace Sys2Proof.Machine

/-! ### What an answer leaves as it was -/

/-- Ports and the last command are all that an answer changes. -/
theorem answered_bare (c : RCtx) (x : Rx) (type rt : Nat) (bs : List Byte) : (answered c x type rt bs).r.bare
    = { c.r with lastCmd := some { fseq := x.fseq, type := type, respType := rt, resp := bs } }.bare :=
  sendOwn_bare ..

/-- What is sent cuts no port and restores none. -/
@[simp] theorem sendOwn_port_cut (c : RCtx) (p : RPort) (start : Nat) (f : Frame) (q : RPort) :
    (portOf (sendOwn c p start f).r q).cut = (portOf c.r q).cut := by
  unfold sendOwn
  split
  · rfl
  · cases p <;> cases q <;> rfl

@[simp] theorem answered_port_cut (c : RCtx) (x : Rx) (type rt : Nat) (bs : List Byte) (q : RPort) :
    (portOf (answered c x type rt bs).r q).cut = (portOf c.r q).cut := by
  refine (sendOwn_port_cut ..).trans ?_
  cases q <;> rfl

/-! ### A CONTROL frame heard -/

section
variable {s : State} {t : Nat} {d : Dev} {x : Rx} {code : Nat} {argOk : Nat → Bool} {run : Nat → RCtx → RCtx × Nat}

theorem commanded_iff {type : Nat} : commanded s t d x type = true ↔
    hears s t d x type = true ∧ addressed (s.rumbe d) x = true ∧ fresh (before s t d) x type = true := by
  simp [commanded, and_assoc]

/-- The row of a CODE takes a CONTROL frame of that CODE. -/
theorem rxControl_of_code (c : RCtx) (hCode : byteAt x.payload 0 = code) (hLen : x.payload.length = 2) :
    rxControl c x code argOk run = rxFrame c x 0xC id (fun c =>
      command c x 0xC (controlBroadcast code && argOk (byteAt x.payload 1)) true (fun c =>
        if !argOk (byteAt x.payload 1) then (c, 8, [0x06#8])
        else (((run (byteAt x.payload 1) c).1), 8, leBytes 1 (run (byteAt x.payload 1) c).2))) := by
  simp [rxControl, hCode, hLen]

/-- A new CONTROL to the Rumbe is executed and acknowledged. -/
theorem rxControl_of_commanded {c : RCtx} {st : Nat} (hCmd : commanded s t d x 0xC = true) (hLen : x.payload.length = 2)
    (hCode : byteAt x.payload 0 = code) (hArg : argOk (byteAt x.payload 1) = true)
    (hRun : run (byteAt x.payload 1) (heard s t d x id) = (c, st)) (hSt : leBytes 1 st ≠ [0x06#8]) :
    rxControl (before s t d) x code argOk run = answered c x 0xC 8 (leBytes 1 st) := by
  obtain ⟨hHears, hAddr, hNew⟩ := commanded_iff.mp hCmd
  rw [rxControl_of_code _ hCode hLen, rxFrame_of_hears hHears]
  exact command_of_new _ ((addressed_heard id).trans hAddr) ((fresh_heard id 0xC).trans hNew) (by simp [hArg, hRun]) hSt

/-- A CODE that no row has is answered BAD_FRAME (06 R128). -/
theorem rxControl_of_unknown_code (hCmd : commanded s t d x 0xC = true) (hLen : x.payload.length = 2)
    (hKnown : byteAt x.payload 0 = 0 ∨ 10 < byteAt x.payload 0) (hCode : byteAt x.payload 0 ≠ code) :
    rxControl (before s t d) x code argOk run = respond (heard s t d x id) x 8 [0x06#8] := by
  obtain ⟨hHears, hAddr, hNew⟩ := commanded_iff.mp hCmd
  rw [rxControl, if_neg (by simp; omega), rxFrame_of_hears hHears, hLen]
  exact command_of_declined ((addressed_heard id).trans hAddr) ((fresh_heard id 0xC).trans hNew) (if_pos (by simp [hCode]))

/-- A broadcast CONTROL that the code allows is executed in silence (06 R539). -/
theorem rxControl_of_broadcast (hHears : hears s t d x 0xC = true) (hBroadcast : broadcast x = true)
    (hLen : x.payload.length = 2) (hCode : byteAt x.payload 0 = code) (hAllowed : controlBroadcast code = true)
    (hArg : argOk (byteAt x.payload 1) = true) :
    rxControl (before s t d) x code argOk run = (run (byteAt x.payload 1) (heard s t d x id)).1 := by
  rw [rxControl_of_code _ hCode hLen, rxFrame_of_hears hHears, hAllowed, hArg, Bool.and_self,
    command_of_broadcast hBroadcast]
  rfl

/-- Any other is only repeated (06 R539). -/
theorem rxControl_of_barred_broadcast (hHears : hears s t d x 0xC = true) (hBroadcast : broadcast x = true)
    (hLen : x.payload.length = 2) (hCode : byteAt x.payload 0 = code) (hBarred : controlBroadcast code = false) :
    rxControl (before s t d) x code argOk run = heard s t d x id := by
  rw [rxControl_of_code _ hCode hLen, rxFrame_of_hears hHears, hBarred, Bool.false_and,
    command_of_barred_broadcast hBroadcast]

/-- GATE OPEN as a broadcast opens every head in silence. -/
theorem rxGate_open_of_broadcast (hHears : hears s t d x 0xA = true) (hBroadcast : broadcast x = true)
    (hLen : x.payload.length = 1) (hCode : byteAt x.payload 0 = 0) :
    rxGate (before s t d) x 0 gateOpenDo = (gateOpenDo (heard s t d x id)).1 := by
  rw [rxGate, if_neg (by simp [hCode]), rxFrame_of_hears hHears, hLen, hCode]
  exact command_of_broadcast hBroadcast

/-- GATE CLOSE as a broadcast is only repeated. -/
theorem rxGate_close_of_broadcast (hHears : hears s t d x 0xA = true) (hBroadcast : broadcast x = true)
    (hCode : byteAt x.payload 0 = 1) (run : RCtx → RCtx × Nat × List Byte) :
    rxGate (before s t d) x 1 run = heard s t d x id := by
  rw [rxGate, if_neg (by simp [hCode]), rxFrame_of_hears hHears, hCode]
  exact command_of_barred_broadcast hBroadcast _

/-! ### The codes, addressed -/

theorem not_broadcast_of_addressed {r : Rumbe} (h : addressed r x = true) : broadcast x = false := by
  cases hB : broadcast x with
  | false => rfl
  | true => exact absurd (h.symm.trans (not_addressed_of_broadcast hB r)) Bool.noConfusion

/-- FAULT_CLEAR clears the eight latches; MEAS_FAULT and the cell alarms are none of them. -/
theorem faultClearDo_clears (c : RCtx) :
    let r := (faultClearDo c).1.r
    r.gate = { c.r.gate with scTrip := false, rampFault := false, pchgFault := false, pumpUv := false }
      ∧ r.bal = { c.r.bal with selFault := false, priOc := false } ∧ r.cur.curFault = false ∧ r.vaux.fault = false
      ∧ r.measFault = c.r.measFault ∧ r.alarms = c.r.alarms := by
  refine ⟨rfl, rfl, rfl, ?_, rfl, rfl⟩
  simp only [faultClearDo, RCtx.upd_r]
  split <;> rfl

/-- PORT_CUT and PORT_RESTORE set the one port they name. -/
theorem portCutDo_sets (cut : Bool) (arg : Nat) (c : RCtx) :
    (portOf (portCutDo cut arg c).1.r (argPort arg)).cut = cut
      ∧ (portOf (portCutDo cut arg c).1.r (otherPort (argPort arg))).cut = (portOf c.r (otherPort (argPort arg))).cut := by
  cases hArg : argPort arg <;> simp [portCutDo, hArg, portOf, updPort, otherPort]

/-- ASP_RELEASE releases the hold where no alarm stands or came of late, and is refused where one does (06 R148). -/
theorem aspReleaseDo_of_free {c : RCtx} (h : aspBlocked c.r c.now = false) :
    aspReleaseDo c = (c.into { c.r with gate := { c.r.gate with aspHold := false } }, 0) :=
  if_neg (by simp [h])

theorem aspReleaseDo_of_blocked {c : RCtx} (h : aspBlocked c.r c.now = true) : aspReleaseDo c = (c, 3) := if_pos h

/-! ### The obligation -/

/-- Settles O12: a CONTROL or GATE frame is acted on by the Rumbe that has heard it, where its code's operation says what it
does; an answer changes ports and the last command only. -/
theorem controlCodesTakeEffect : Obligations.ControlCodesTakeEffect := by
  refine ⟨fun s t d x hCmd hLen => ⟨?stop, ?faultClear, ?soft, ?modidAck, ?clearId, ?release, ?releaseRefused, ?cut, ?restore,
    ?sleep, ?ringTest, ?unknown⟩, fun s t d x hBroadcast => ⟨fun hHears hLen => ⟨?gateOpen, ?gateClose⟩,
      fun hHears hLen => ⟨?stopAll, ?softAll, ?clearIdAll, ?sleepAll, ?ringTestAll, ?faultClearAll, ?modidAckAll,
        ?releaseAll, ?cutAll, ?restoreAll⟩⟩⟩
  case stop =>
    exact fun hCode => exec_eq_afterRumbe (exec_balStop ..) (rxControl_of_commanded hCmd hLen hCode rfl rfl (by decide))
  case faultClear =>
    intro hCode
    refine ⟨_, exec_eq_afterRumbe (exec_faultClear ..) (rxControl_of_commanded hCmd hLen hCode rfl rfl (by decide)), ?_⟩
    rw [afterRumbe_rumbe]
    obtain ⟨hGate, hBal, hCur, hVaux, hMeas, hAlarms⟩ := faultClearDo_clears (heard s t d x id)
    have hBare := answered_bare (faultClearDo (heard s t d x id)).1 x 0xC 8 (leBytes 1 0)
    exact ⟨(congrArg Rumbe.gate hBare :).trans hGate, (congrArg Rumbe.bal hBare :).trans hBal,
      (congrArg (fun r => r.cur.curFault) hBare :).trans hCur, (congrArg (fun r => r.vaux.fault) hBare :).trans hVaux,
      (congrArg Rumbe.measFault hBare :).trans hMeas, (congrArg Rumbe.alarms hBare :).trans hAlarms⟩
  case soft =>
    intro hCode hArg
    obtain ⟨-, hAddr, -⟩ := commanded_iff.mp hCmd
    refine exec_eq_afterRumbe (exec_softReset ..) (rxControl_of_commanded hCmd hLen hCode (by simp [hArg]) ?_ (by decide))
    rw [not_broadcast_of_addressed hAddr]
    rfl
  case modidAck =>
    exact fun hCode => exec_eq_afterRumbe (exec_modidAck ..) (rxControl_of_commanded hCmd hLen hCode rfl rfl (by decide))
  case clearId =>
    intro hCode
    refine ⟨_, exec_eq_afterRumbe (exec_clearId ..) (rxControl_of_commanded hCmd hLen hCode rfl rfl (by decide)), ?_⟩
    rw [afterRumbe_rumbe]
    exact (congrArg Rumbe.devId (answered_bare ..) :)
  case release =>
    exact fun hCode hFree => exec_eq_afterRumbe (exec_aspRelease ..)
      (rxControl_of_commanded hCmd hLen hCode rfl (aspReleaseDo_of_free hFree) (by decide))
  case releaseRefused =>
    exact fun hCode hBlocked => exec_eq_afterRumbe (exec_aspRelease ..)
      (rxControl_of_commanded hCmd hLen hCode rfl (aspReleaseDo_of_blocked hBlocked) (by decide))
  case cut =>
    intro hCode hArg
    refine ⟨_, exec_eq_afterRumbe (exec_portCut ..)
      (rxControl_of_commanded hCmd hLen hCode (decide_eq_true hArg) rfl (by decide)), ?_⟩
    simp only [afterRumbe_rumbe, answered_port_cut]
    exact portCutDo_sets ..
  case restore =>
    intro hCode hArg
    refine ⟨_, exec_eq_afterRumbe (exec_portRestore ..)
      (rxControl_of_commanded hCmd hLen hCode (decide_eq_true hArg) rfl (by decide)), ?_⟩
    simp only [afterRumbe_rumbe, answered_port_cut]
    exact portCutDo_sets ..
  case sleep =>
    exact fun hCode => exec_eq_afterRumbe (exec_sleep ..) (rxControl_of_commanded hCmd hLen hCode rfl rfl (by decide))
  case ringTest =>
    exact fun hCode => exec_eq_afterRumbe (exec_ringTest ..) (rxControl_of_commanded hCmd hLen hCode rfl rfl (by decide))
  case unknown =>
    exact fun hUnknown => exec_eq_afterRumbe (exec_balStop ..) (rxControl_of_unknown_code hCmd hLen hUnknown (by omega))
  case gateOpen =>
    intro hCode
    refine exec_eq_afterRumbe (exec_gateOpen ..) ((rxGate_open_of_broadcast hHears hBroadcast hLen hCode).trans ?_)
    rw [gateOpenDo_eq]
    rfl
  case gateClose =>
    exact fun hCode => exec_eq_afterRumbe (exec_gateClose ..) (rxGate_close_of_broadcast hHears hBroadcast hCode _)
  case stopAll =>
    exact fun hCode => exec_eq_afterRumbe (exec_balStop ..) (rxControl_of_broadcast hHears hBroadcast hLen hCode rfl rfl)
  case softAll =>
    intro hCode hArg
    refine exec_eq_afterRumbe (exec_softReset ..)
      ((rxControl_of_broadcast hHears hBroadcast hLen hCode rfl (by simp [hArg])).trans ?_)
    rw [hBroadcast]
    rfl
  case clearIdAll =>
    exact fun hCode => exec_eq_afterRumbe (exec_clearId ..) (rxControl_of_broadcast hHears hBroadcast hLen hCode rfl rfl)
  case sleepAll =>
    exact fun hCode => exec_eq_afterRumbe (exec_sleep ..) (rxControl_of_broadcast hHears hBroadcast hLen hCode rfl rfl)
  case ringTestAll =>
    exact fun hCode => exec_eq_afterRumbe (exec_ringTest ..) (rxControl_of_broadcast hHears hBroadcast hLen hCode rfl rfl)
  case faultClearAll =>
    exact fun hCode => exec_eq_afterRumbe (exec_faultClear ..) (rxControl_of_barred_broadcast hHears hBroadcast hLen hCode rfl)
  case modidAckAll =>
    exact fun hCode => exec_eq_afterRumbe (exec_modidAck ..) (rxControl_of_barred_broadcast hHears hBroadcast hLen hCode rfl)
  case releaseAll =>
    exact fun hCode => exec_eq_afterRumbe (exec_aspRelease ..) (rxControl_of_barred_broadcast hHears hBroadcast hLen hCode rfl)
  case cutAll =>
    exact fun hCode => exec_eq_afterRumbe (exec_portCut ..) (rxControl_of_barred_broadcast hHears hBroadcast hLen hCode rfl)
  case restoreAll =>
    exact fun hCode => exec_eq_afterRumbe (exec_portRestore ..) (rxControl_of_barred_broadcast hHears hBroadcast hLen hCode rfl)

end
end Sys2Proof.Machine
end

section
/-! Urgent frames: relayed, and acted on by their code (06 R129, R132, R148, R156). -/

namespace Sys2Proof.Machine

variable {s : State} {t : Nat} {d : Dev} {u : URx}

theorem urgentDecodes_iff {bs : List Byte} :
    urgentDecodes bs = true ↔ urgentFound bs = true ∧ byteAt bs 0 % 16 = 10 ∧ urgentCrcOk bs = true := by
  simp [urgentDecodes, and_assoc]

/-- An urgent frame that the Rumbe hears is relayed, and then its code acts; codes 1 to 7 restart t_comm first. -/
theorem rxUrgent_of_hears (h : hearsUrgent s d u = true) (act : RCtx → RCtx) :
    rxUrgent (before s t d) u act =
      act (if 1 ≤ ucode u.bytes ∧ ucode u.bytes ≤ 7 then
        (relayed s t d u).upd (fun r => { r with commAt := (relayed s t d u).now }) else relayed s t d u) := by
  simp only [hearsUrgent, Bool.and_eq_true, Bool.not_eq_true'] at h
  obtain ⟨⟨hAwake, hPort⟩, hDecodes⟩ := h
  obtain ⟨hFound, hNibble, hCrc⟩ := urgentDecodes_iff.mp hDecodes
  have hHears : ¬((before s t d).r.asleep || (portOf (before s t d).r u.port).cut) = true := by
    simp [before, hAwake, hPort]
  have hNow : (turn s t d).now = max s.now t := settle_now _
  unfold rxUrgent relayed met
  rw [if_neg hHears, ← hNow]
  simp only [hFound, hNibble, hCrc, Bool.not_true, Bool.false_eq_true, if_false, ne_eq, not_true_eq_false,
    Bool.and_eq_true, decide_eq_true_eq]
  rfl

/-- Codes 1 to 7 restart t_comm. -/
theorem rxUrgent_of_restarting (h : hearsUrgent s d u = true) (hLow : 1 ≤ ucode u.bytes) (hHigh : ucode u.bytes ≤ 7)
    (act : RCtx → RCtx) : rxUrgent (before s t d) u act =
      act ((relayed s t d u).into { (relayed s t d u).r with commAt := (relayed s t d u).now }) := by
  rw [rxUrgent_of_hears h, if_pos ⟨hLow, hHigh⟩]
  rfl

/-- The other codes do not. -/
theorem rxUrgent_of_other_code (h : hearsUrgent s d u = true) (hCode : ucode u.bytes = 0 ∨ 8 ≤ ucode u.bytes)
    (act : RCtx → RCtx) : rxUrgent (before s t d) u act = act (relayed s t d u) := by
  rw [rxUrgent_of_hears h, if_neg (by omega)]

/-- A code of no other row is one of RESERVED_URGENT_CODE's. -/
theorem reservedUrgent_of_code (hCode : ucode u.bytes = 0 ∨ 3 ≤ ucode u.bytes ∧ ucode u.bytes ≤ 7 ∨ 11 ≤ ucode u.bytes) :
    reservedUrgent u.bytes = true := by
  have hNone : ucode u.bytes ∉ [1, 2, 8, 9, 10] := by simp; omega
  simp [reservedUrgent, List.contains_eq_mem, hNone]

/-- STR_OPEN opens the head of the string it names. -/
theorem strOpenDo_eq (arg : Nat) (c : RCtx) : strOpenDo arg c =
    c.into (if c.r.head.headEn = true ∧ c.r.strId = arg then openReq c.r 2 c.now else c.r) := by
  simp [strOpenDo, RCtx.upd, RCtx.into]

/-- An alarm for the string, or for all, is taken by a protecting head. -/
theorem alarmRxDo_eq (arg : Nat) (c : RCtx) : alarmRxDo arg c =
    c.into (if arg = c.r.strId ∨ arg = 0 then aspTake c.r c.now else c.r) := by
  simp [alarmRxDo, RCtx.upd, RCtx.into]

/-- Settles O13: the Rumbe relays the frame and its code's operation acts on it, codes 1 to 7 after t_comm has restarted. -/
theorem urgentFramesTakeEffect : Obligations.UrgentFramesTakeEffect := by
  intro s t d u h
  refine ⟨fun hCode => ?eopen, fun hCode => ?strOpen, fun hCode => ?cell, fun hCode => ?meas, fun hCode => ?trip,
    fun hCode => ?reserved, fun hLow hHigh => ?restarting⟩
  case eopen =>
    refine exec_eq_afterRumbe (exec_eopen ..) ?_
    rw [rxUrgentCode, if_neg (by simp [hCode]), rxUrgent_of_restarting h (by omega) (by omega)]
    rfl
  case strOpen =>
    refine exec_eq_afterRumbe (exec_strOpen ..) ?_
    rw [rxUrgentCode, if_neg (by simp [hCode]), rxUrgent_of_restarting h (by omega) (by omega), strOpenDo_eq]
    rfl
  case cell =>
    refine exec_eq_afterRumbe (exec_alarmCell ..) ?_
    rw [rxUrgentCode, if_neg (by simp [hCode]), rxUrgent_of_other_code h (by omega), alarmRxDo_eq]
  case meas =>
    refine exec_eq_afterRumbe (exec_alarmMeas ..) ?_
    rw [rxUrgentCode, if_neg (by simp [hCode]), rxUrgent_of_other_code h (by omega), alarmRxDo_eq]
  case trip =>
    refine exec_eq_afterRumbe (exec_alarmTrip ..) ?_
    rw [rxUrgentCode, if_neg (by simp [hCode]), rxUrgent_of_other_code h (by omega), id]
  case reserved =>
    refine exec_eq_afterRumbe (exec_reservedUrgentCode ..) ?_
    rw [if_pos (reservedUrgent_of_code (by omega)), rxUrgent_of_other_code h (by omega), id]
  case restarting =>
    refine exec_eq_afterRumbe (exec_reservedUrgentCode ..) ?_
    rw [if_pos (reservedUrgent_of_code (by omega)), rxUrgent_of_restarting h (by omega) (by omega), id]

end Sys2Proof.Machine
end

section
/-! What waits at a port of a Rumbe leaves, an EOPEN preempts, and the jabber guard cuts in and out (06 R122, R126, R132, R147,
R154). -/

namespace Sys2Proof.Machine

/-! ### One port -/

@[simp] theorem portOf_updPort (r : Rumbe) (p : RPort) (f : PortSt → PortSt) : portOf (updPort r p f) p = f (portOf r p) := by
  cases p <;> rfl

@[simp] theorem updPort_updPort (r : Rumbe) (p : RPort) (f g : PortSt → PortSt) :
    updPort (updPort r p f) p g = updPort r p (fun q => g (f q)) := by
  cases p <;> rfl

theorem updPort_congr {r : Rumbe} {p : RPort} {f g : PortSt → PortSt} (h : f (portOf r p) = g (portOf r p)) :
    updPort r p f = updPort r p g := by
  cases p with
  | n => exact congrArg (fun q => { r with portN := q }) h
  | s => exact congrArg (fun q => { r with portS := q }) h

@[simp] theorem queueUrgent_utx (q : PortSt) (u : UFrame) : (queueUrgent q u).utx = q.utx := by
  unfold queueUrgent
  split <;> rfl

/-! ### What waits leaves -/

variable {c : RCtx} {p : RPort}

/-- URGENT_QUEUE_SEND: the oldest waiting frame goes on the line. -/
theorem urgentQueueDo_of_free {u : UFrame} {us : List UFrame} {idle : Bool} (hAwake : (settle c).r.asleep = false)
    (hCut : (portOf (settle c).r p).cut = false) (hLine : urgentAfter (portOf (settle c).r p) (settle c).now = false)
    (hQueue : (portOf (settle c).r p).uq = u :: us)
    (hFree : ucode u.bytes = 1 ∨ idle = true ∧ (portOf (settle c).r p).freeAt ≤ (settle c).now) :
    urgentQueueDo p idle c =
      ((settle c).into (updPort (settle c).r p (fun q => { q with
        uq := us, utx := some ((settle c).now + 192, u), tx := none
        freeAt := max q.freeAt ((settle c).now + 288) }))).emit (.rumbeUrgent c.dev p u.bytes) := by
  rw [settle_now] at hLine hFree
  have hGuard : (if ucode u.bytes = 1 then !urgentAfter (portOf (settle c).r p) c.now
      else portFree (portOf (settle c).r p) c.now idle) = true := by
    split
    case isTrue => rw [hLine, Bool.not_false]
    case isFalse hCode =>
      obtain ⟨hIdle, hTime⟩ := hFree.resolve_left hCode
      rw [portFree, hIdle, hLine, decide_eq_true hTime, Bool.not_false, Bool.and_self, Bool.and_self]
  rw [urgentQueueDo, rumbeEvent_of_guard (by simpa [hAwake, hCut, hQueue] using hGuard), hQueue]
  simp [urgentOut, urgentTime, RCtx.upd, RCtx.into, RCtx.emit]

/-- FRAME_RESEND: the frame that yielded goes out again, whole. -/
theorem frameResendDo_of_free {f : Frame} (hAwake : (settle c).r.asleep = false)
    (hCut : (portOf (settle c).r p).cut = false) (hLine : urgentAfter (portOf (settle c).r p) (settle c).now = false)
    (hResend : (portOf (settle c).r p).resend = some f) (hTime : (portOf (settle c).r p).freeAt ≤ (settle c).now) :
    frameResendDo p true c =
      let e := max (settle c).now (portOf (settle c).r p).freeAt + frameTime f.payload.length
      ((settle c).into (updPort (settle c).r p (fun q => { q with
        resend := none, tx := some { start := max (settle c).now q.freeAt, till := e, frame := f }, freeAt := e + 96 }))).emit
        (.rumbeFrame c.dev p f) := by
  rw [settle_now] at hLine hTime
  have hFree : portFree (portOf (settle c).r p) c.now true = true := by
    rw [portFree, hLine, decide_eq_true hTime, Bool.not_false, Bool.and_self, Bool.and_self]
  rw [frameResendDo, rumbeEvent_of_guard (by simp [hAwake, hCut, hResend, hFree]), hResend]
  simp only [sendOwn, portOf_updPort, hCut, Bool.false_eq_true, if_false, RCtx.upd, RCtx.into, RCtx.emit,
    updPort_updPort, settle_dev, RCtx.mk.injEq, true_and, and_true]
  exact updPort_congr rfl

/-! ### The jabber guard (06 R154) -/

/-- JABBER_CUT: the guard cuts the port in and counts. -/
theorem jabCutDo_of_free (h : (portOf (settle c).r p).jab = false) : jabCutDo p c =
    (settle c).into { updPort (settle c).r p (fun q => { q with jab := true }) with
      jabCnt := ((settle c).r.jabCnt + 1) % 65536 } := by
  rw [jabCutDo, rumbeEvent_of_guard (by simpa using h)]
  rfl

/-- JABBER_RESUME: it lets the port out. -/
theorem jabResumeDo_of_cut (h : (portOf (settle c).r p).jab = true) : jabResumeDo p c =
    (settle c).into (updPort (settle c).r p (fun q => { q with jab := false })) := by
  rw [jabResumeDo, rumbeEvent_of_guard h]
  rfl

/-! ### A relay meets an urgent frame on the line -/

section
variable {since e : Nat} {bs : List Byte} {v : UFrame}

/-- EOPEN preempts another urgent frame there, which waits if it is the device's own. -/
theorem relayUrgent_of_eopen (hCut : (portOf c.r p).cut = false) (hLine : (portOf c.r p).utx = some (e, v)) (hSince : since < e)
    (hDecodes : urgentDecodes bs = true) (hEopen : ucode bs = 1) (hOther : ucode v.bytes ≠ 1) :
    relayUrgent c p since bs = urgentOut
      (if v.own then c.upd (fun r => updPort r p (fun q => queueUrgent q v)) else c) p (c.now + 46)
      { bytes := bs, own := false } := by
  simp [relayUrgent, hCut, urgentAfter, hLine, hSince, hDecodes, hEopen, hOther]

/-- Any other frame, and an EOPEN behind an EOPEN, waits. -/
theorem relayUrgent_of_waiting (hCut : (portOf c.r p).cut = false) (hLine : (portOf c.r p).utx = some (e, v))
    (hSince : since < e) (hDecodes : urgentDecodes bs = true) (hWaits : ucode bs ≠ 1 ∨ ucode v.bytes = 1) :
    relayUrgent c p since bs = c.upd (fun r => updPort r p (fun q => queueUrgent q { bytes := bs, own := false })) := by
  have hKeeps : ¬(urgentDecodes bs && ucode bs = 1 && ucode v.bytes != 1) = true := by
    rcases hWaits with hCode | hBusy
    · simp [hCode]
    · simp [hBusy]
  simp only [relayUrgent, hCut, urgentAfter, hLine, hSince, decide_true, Bool.false_eq_true, if_false, if_true,
    if_neg hKeeps]
  exact if_pos hDecodes

end

/-! ### The obligation -/

/-- Settles O14: each row's condition holds, and its operation does what its lemma above says. What yields and the counts of
a jabber guard are the model's reading (assumption logs 33, 35). -/
theorem waitingFramesLeave : Obligations.WaitingFramesLeave := by
  refine ⟨fun s t d p => ?leave, fun c p since e bs v hCut hLine hSince hDecodes => ⟨?preempts, ?waits⟩,
    fun s t d p => ⟨?cut, ?resume⟩⟩
  case leave =>
    intro c q hAwake hCut hLine
    refine ⟨fun u us idle hQueue hFree => ?_, fun f hResend hTime => ?_⟩
    · exact exec_eq_afterRumbe (exec_urgentQueueSend ..) (urgentQueueDo_of_free hAwake hCut hLine hQueue hFree)
    · exact exec_eq_afterRumbe (exec_frameResend ..) (frameResendDo_of_free hAwake hCut hLine hResend hTime)
  case preempts =>
    intro hEopen hOther
    simp only [relayUrgent_of_eopen hCut hLine hSince hDecodes hEopen hOther]
    cases v.own <;> simp [urgentOut]
  case waits =>
    intro hWaits
    simp only [relayUrgent_of_waiting hCut hLine hSince hDecodes hWaits]
    simp [hLine]
  case cut => exact fun hFree => exec_eq_afterRumbe (exec_jabberCut ..) (jabCutDo_of_free hFree)
  case resume => exact fun hJab => exec_eq_afterRumbe (exec_jabberResume ..) (jabResumeDo_of_cut hJab)

end Sys2Proof.Machine
end

section
/-! Wake, enumeration, ring test, urgent frames, the EOPEN pin and the jabber guards at Broros (06 R134, R141, R146, R148, R152,
R154, R158; 19 R440). -/

namespace Sys2Proof.Machine

/-! ### A row that happens, and what follows it -/

/-- A row whose condition holds answers what it does, with READY, interrupts and lines after it. -/
theorem exec_of_row {i : Instr} {s : State} {t : Nat} {c : State → Bool} {f : State → State}
    (hExec : exec i s = .next (chainRow t c f s)) (hUp : s.shellUp = true) (hCond : c (s.at t) = true) :
    exec i s = .next (finish (f (s.at t))) := by
  have hUpAt : (s.at t).shellUp = true := hUp
  simp [hExec, chainRow, when, hUpAt, hCond]

theorem port_congr {u s : State} (h : u.ports = s.ports) (n : Nat) : u.port n = s.port n := by
  rw [State.port, h, State.port]

/-- What follows a step tells a mailbox only whether its interrupt was pending. -/
theorem finish_port {α : Type} {g : TenantPort → α} (hg : ∀ q w, g { q with intWas := w } = g q) (s : State) (n : Nat) :
    g ((finish s).port n) = g (s.port n) := by
  have hTenant (s : State) (k : Nat) : g ((refreshTenant s k).port n) = g (s.port n) := by
    have hSent (c : Prop) [Decidable c] (m : Nat) : (if c then msixSend s k else s).port m = s.port m :=
      port_congr (by split <;> simp) m
    simp only [refreshTenant]
    split
    · rw [hSent]
    · by_cases hk : n = k
      · rw [hk, State.updPort_port, hg, hSent]
      · rw [State.updPort_port_ne _ _ hk, hSent]
  have hFold (l : List Nat) (s : State) : g ((l.foldl refreshTenant s).port n) = g (s.port n) := by
    induction l generalizing s with
    | nil => rfl
    | cons k l ih => rw [List.foldl_cons, ih, hTenant]
  have hLines (v : State) : (refreshLines v).port n = v.port n := port_congr (by simp) n
  have hReady : (refreshReady s).port n = s.port n := port_congr (by simp) n
  rw [finish, hLines, hFold, hReady]

@[simp] theorem finish_port_events (s : State) (n : Nat) : ((finish s).port n).events = (s.port n).events :=
  finish_port (fun _ _ => rfl) s n

@[simp] theorem finish_port_replies (s : State) (n : Nat) : ((finish s).port n).replies = (s.port n).replies :=
  finish_port (fun _ _ => rfl) s n

section
variable {s : State} {p : Nat} {q : Pair}

theorem cport_of_getElem? (h : s.pairs[p]? = some q) (sd : Side) : cport s p sd = sidePort q sd := by
  cases sd <;> simp [cport, sidePort, State.pair_of_getElem? h]

/-- Changing one port of a pair. -/
def Pair.updPort (q : Pair) (sd : Side) (f : ChainPort → ChainPort) : Pair :=
  match sd with
  | .a => { q with portA := f q.portA }
  | .b => { q with portB := f q.portB }

@[simp] theorem sidePort_updPort (q : Pair) (sd : Side) (f : ChainPort → ChainPort) :
    sidePort (q.updPort sd f) sd = f (sidePort q sd) := by
  cases sd <;> rfl

theorem updCport_eq (s : State) (p : Nat) (sd : Side) (f : ChainPort → ChainPort) :
    updCport s p sd f = s.updPair p (fun q => q.updPort sd f) := by
  cases sd <;> rfl

@[simp] theorem getElem?_updCport (s : State) (p : Nat) (sd : Side) (f : ChainPort → ChainPort) :
    (updCport s p sd f).pairs[p]? = s.pairs[p]?.map (fun q => q.updPort sd f) := by
  rw [updCport_eq]
  exact getElem?_modAt ..

/-! ### RING_TEST_DUE (06 R141, R152) -/

/-- A RING_TEST leaves the port; one from port A is timed. -/
theorem ringTestDueDo_sends (h : s.pairs[p]? = some q) (sd : Side) :
    ∃ r, (ringTestDueDo p sd s).pairs[p]? = some r
      ∧ .chainFrame (pNo p) sd (brorosFrame 0xC false false 0x3F (sidePort q sd).fseq [0x0A#8, 0#8])
        ∈ (ringTestDueDo p sd s).out
      ∧ (sd = .a → r.testAt = s.now) := by
  have hFrame : txControl s p sd 0x0A 0 = txFrame s p sd 0xC false false 0x3F [0x0A#8, 0#8] := by
    rw [txControl]
    rfl
  obtain ⟨a, b, hSent⟩ := getElem?_of_map_bare (txFrame_map_bare s p sd 0xC false false 0x3F [0x0A#8, 0#8]) h
  cases sd <;> simp [ringTestDueDo, hFrame, hSent, txFrame_out, cport_of_getElem? h]

/-! ### CHAIN_WAKE_DONE (06 R134, R158) -/

/-- The pair after CLEAR_ID and ENUMERATE: one more try, whose return is awaited. -/
theorem getElem?_sendEnumerate (h : s.pairs[p]? = some q) : ∃ w a b, (sendEnumerate s p).pairs[p]?
    = some { q with enumTries := q.enumTries + 1, awaited := w, portA := a, portB := b } := by
  obtain ⟨a, b, hSent⟩ := getElem?_of_map_bare (u := txFrame (txControl s p .a 0x05 0) p .a 9 false false 0x3F (leBytes 1 1))
    (by simp [txControl]) h
  simp [sendEnumerate, hSent]

/-- CLEAR_ID leaves port A, then ENUMERATE with the next FSEQ. -/
theorem sendEnumerate_out (h : s.pairs[p]? = some q) : (sendEnumerate s p).out = s.out ++
    [.chainFrame (pNo p) .a (brorosFrame 0xC false false 0x3F q.portA.fseq [0x05#8, 0#8]),
      .chainFrame (pNo p) .a (brorosFrame 9 false false 0x3F ((q.portA.fseq + 1) % 256) [0x01#8])] := by
  have hClear : txControl s p .a 0x05 0 = txFrame s p .a 0xC false false 0x3F [0x05#8, 0#8] := by
    rw [txControl]
    rfl
  have hNext : leBytes 1 1 = [0x01#8] := by decide
  simp [sendEnumerate, txFrame_out, txFrame_cport_fseq h, hClear, hNext, cport_of_getElem? h, sidePort]

/-- The tickets that a list of tickets does not end. -/
theorem foldl_endTicket_tickets (ks : List Ticket) (s : State) (event : Nat) (fields : List Byte) :
    (ks.foldl (fun s k => endTicket s k.tenant k.ticket event 0 0 0 fields) s).foreman.tickets
      = s.foreman.tickets.filter (fun k => ks.all (fun j => !(k.tenant == j.tenant && k.ticket == j.ticket))) := by
  induction ks generalizing s with
  | nil => exact (List.filter_eq_self.mpr fun _ _ => rfl).symm
  | cons j ks ih =>
    rw [List.foldl_cons, ih]
    simp [endTicket, List.filter_filter, Bool.and_comm]

/-- No ticket of the pair is left. -/
theorem endPairTickets_ends (s : State) (p found : Nat) :
    ∀ k ∈ (endPairTickets s p found).foreman.tickets, k.what ≠ .pair p := by
  intro k hk hWhat
  rw [endPairTickets, foldl_endTicket_tickets, List.mem_filter, List.all_eq_true] at hk
  obtain ⟨hMem, hAll⟩ := hk
  have hSelf := hAll k (List.mem_filter.mpr ⟨hMem, by simp [hWhat]⟩)
  simp at hSelf

/-- A ring that has waked is enumerated. -/
theorem wakeDoneDo_of_waking (h : s.pairs[p]? = some q) (hSt : q.st = .waking) :
    wakeDoneDo p s = sendEnumerate (setSt s p .enumerating) p := by
  simp [wakeDoneDo, State.pair_of_getElem? h, hSt]

/-- A direct pair that has waked runs; where no bring-up waits for its members, it sweeps and its SET_PAIR ends. The members
found are a free value (log 148). -/
theorem wakeDoneDo_of_directWake (h : s.pairs[p]? = some q) (hSt : q.st = .directWake) :
    ∃ r, (wakeDoneDo p s).pairs[p]? = some r ∧ r.st = .direct
      ∧ (q.bringup = false → r.nextDue = some s.now ∧ r.nFound ≤ q.nExp
        ∧ ∀ k ∈ (wakeDoneDo p s).foreman.tickets, k.what ≠ .pair p) := by
  unfold wakeDoneDo
  simp only [State.pair_of_getElem? h, hSt]
  generalize hv : List.foldl _ _ _ = v
  have hDirect : (setSt s p .direct).pairs[p]? = some { q with st := .direct } := by simp [h]
  have hBare : v.pairs.map Pair.bare = (setSt s p .direct).pairs.map Pair.bare := by
    rw [← hv]
    exact foldl_map_bare (fun _ _ => askIdentity_map_bare ..) ..
  have hNow : v.now = s.now := by simp [← hv]
  obtain ⟨a, b, hAsked⟩ := getElem?_of_map_bare hBare hDirect
  rw [State.pair_of_getElem? hAsked]
  dsimp only
  split
  case isTrue hBring => exact ⟨_, hAsked, rfl, fun hNone => absurd hBring (by simp [hNone])⟩
  case isFalse =>
    have hFound : v.draw.1 % (q.nExp + 1) ≤ q.nExp := Nat.le_of_lt_succ (Nat.mod_lt _ q.nExp.succ_pos)
    refine ⟨_, by simp [startSweeps, hAsked]; rfl, rfl, fun _ => ⟨by simp [hNow], hFound, ?_⟩⟩
    exact endPairTickets_ends _ p _

/-! ### The end of an enumeration and of a bring-up (06 R134; 19 R440) -/

/-- The pair runs and sweeps: a ring where its ENUMERATE came back, split where it did not. -/
theorem pairRuns_runs (h : s.pairs[p]? = some q) :
    ∃ r, (pairRuns p s).pairs[p]? = some r ∧ r.ready = true ∧ r.bringup = false ∧ r.nextDue = some s.now
      ∧ (q.st = .enumerating → r.st = .ring) ∧ (q.st ≠ .enumerating → r.st = q.st) := by
  unfold pairRuns
  rw [State.pair_of_getElem? h]
  by_cases hSt : q.st = .enumerating <;> simp [hSt, startSweeps, h]

/-! ### URGENT_RX (06 R148 and Edges of 6.8) -/

/-- The other side of a pair. -/
def otherSide : Side → Side
  | .a => .b
  | .b => .a

/-- The other port has had these three bytes within 100 microseconds. -/
def hadCopy (q : Pair) (sd : Side) (b : List Byte) (now : Nat) : Bool :=
  match (sidePort q (otherSide sd)).lastUrgent with
  | some (c, a) => c == b && decide (now ≤ a + 4800)
  | none => false

theorem hadCopy_iff {sd : Side} {b : List Byte} {now : Nat} : hadCopy q sd b now = true ↔
    ∃ a, (sidePort q (otherSide sd)).lastUrgent = some (b, a) ∧ now ≤ a + 4800 := by
  unfold hadCopy
  cases (sidePort q (otherSide sd)).lastUrgent with
  | none => simp
  | some old => simp [Prod.ext_iff, and_assoc]

/-- A copy of a frame that the other port had is not logged again; any other frame is noted and logged. -/
theorem urgentRxDo_eq (h : s.pairs[p]? = some q) (sd : Side) (u : List Byte) : urgentRxDo p sd u s =
    if hadCopy q sd (u.take 3) s.now then updCport s p (otherSide sd) (fun c => { c with lastUrgent := none })
    else raiseEvent (updCport s p sd (fun c => { c with lastUrgent := some (u.take 3, s.now) })) 0 0x02E6
      (leBytes 1 p ++ leBytes 1 (ucode u) ++ leBytes 1 (byteAt u 1 % 64) ++ leBytes 1 (byteAt u 2)) := by
  cases sd <;> simp only [urgentRxDo, cport_of_getElem? h] <;> rfl

/-- An event that finds room is queued last, with the time base before its fields (15 R364). -/
theorem raiseEvent_events {n opcode : Nat} {fields : List Byte} (hUp : s.sys.ctrlUp = true)
    (hRoom : (s.port n).events.length < 64) :
    ∃ e, ((raiseEvent s n opcode fields).port n).events = (s.port n).events ++ [e]
      ∧ e.opcode = opcode ∧ e.payload = leBytes 8 (tb s) ++ fields := by
  simp [raiseEvent, hUp, hRoom]

/-- URGENT_RX: a frame is logged once, whichever port it comes to first. -/
theorem urgentRxDo_logs (h : s.pairs[p]? = some q) (sd : Side) (u : List Byte) :
    ∃ r, (urgentRxDo p sd u s).pairs[p]? = some r
      ∧ (∀ a, (sidePort q (otherSide sd)).lastUrgent = some (u.take 3, a) → s.now ≤ a + 4800 →
          ((urgentRxDo p sd u s).port 0).events = (s.port 0).events)
      ∧ ((sidePort q (otherSide sd)).lastUrgent = none → (sidePort r sd).lastUrgent = some (u.take 3, s.now)
          ∧ (s.sys.ctrlUp = true → (s.port 0).events.length < 64 →
            ∃ e, ((urgentRxDo p sd u s).port 0).events = (s.port 0).events ++ [e] ∧ e.opcode = 0x02E6
              ∧ e.payload = leBytes 8 (tb s) ++ (leBytes 1 p ++ leBytes 1 (ucode u) ++ leBytes 1 (byteAt u 1 % 64)
                  ++ leBytes 1 (byteAt u 2)))) := by
  have hPorts (o : Side) (f : ChainPort → ChainPort) : (updCport s p o f).port 0 = s.port 0 := port_congr (by simp) 0
  rw [urgentRxDo_eq h]
  by_cases hCopy : hadCopy q sd (u.take 3) s.now = true
  · obtain ⟨a, hOld, -⟩ := hadCopy_iff.mp hCopy
    rw [if_pos hCopy]
    exact ⟨_, by simp [h]; rfl, fun _ _ _ => by rw [hPorts], fun hNone => absurd (hOld.symm.trans hNone) (by simp)⟩
  · rw [if_neg hCopy]
    refine ⟨_, by simp [h]; rfl, fun a hOld hLate => absurd (hadCopy_iff.mpr ⟨a, hOld, hLate⟩) hCopy,
      fun _ => ⟨by simp, fun hUp hRoom => ?_⟩⟩
    have hEvents := raiseEvent_events (s := updCport s p sd (fun c => { c with lastUrgent := some (u.take 3, s.now) }))
      (n := 0) (opcode := 0x02E6) (fields := leBytes 1 p ++ leBytes 1 (ucode u) ++ leBytes 1 (byteAt u 1 % 64)
        ++ leBytes 1 (byteAt u 2)) (by simpa using hUp) (by rwa [hPorts])
    rw [hPorts] at hEvents
    simpa [tb] using hEvents

/-! ### The jabber guard (06 R154) -/

/-- JABBER_CUT at Broros: the guard has cut the port in. -/
theorem brorosCut_cuts (h : s.pairs[p]? = some q) (sd : Side) :
    ∃ r, (brorosCut p sd s).pairs[p]? = some r ∧ (sidePort r sd).jab = true := by
  unfold brorosCut
  rw [cport_of_getElem? h]
  split
  case isTrue hJab => exact ⟨q, h, hJab⟩
  case isFalse => simp [h]

end

/-! ### EOPEN from the pin (06 R146) -/

/-- A burst on one port is three copies of its frame (06 R125). -/
theorem burst_singleton_out (s : State) (a : Nat × Side) (u : List Byte) :
    (burst s [a] u).out = s.out ++ List.replicate 3 (.chainUrgent (pNo a.1) a.2 (urgentSeal u)) := by
  simp [burst, List.range_succ]

theorem burst_cons (s : State) (a : Nat × Side) (ps : List (Nat × Side)) (u : List Byte) :
    burst s (a :: ps) u = burst (burst s [a] u) ps u := rfl

theorem mem_out_burst_of_mem {s : State} {x : Output} (h : x ∈ s.out) (ps : List (Nat × Side)) (u : List Byte) :
    x ∈ (burst s ps u).out := by
  induction ps generalizing s with
  | nil => exact h
  | cons a ps ih =>
    rw [burst_cons]
    exact ih (by simp [burst_singleton_out, h])

/-- A burst reaches every port it names. -/
theorem mem_out_burst {s : State} {ps : List (Nat × Side)} {a : Nat × Side} (h : a ∈ ps) (u : List Byte) :
    .chainUrgent (pNo a.1) a.2 (urgentSeal u) ∈ (burst s ps u).out := by
  induction ps generalizing s with
  | nil => exact absurd h List.not_mem_nil
  | cons b ps ih =>
    rw [burst_cons]
    rcases List.mem_cons.mp h with rfl | hTail
    · exact mem_out_burst_of_mem (by simp [burst_singleton_out]) ..
    · exact ih hTail

/-- What the pin sends leaves every enabled port, and changes no field of the pin. -/
theorem eopenAll_sends {s : State} {a : Nat × Side} (h : a ∈ allPorts s) :
    .chainUrgent (pNo a.1) a.2 (urgentSeal [0x1A#8, 0x3F#8, 0#8]) ∈ (finish (eopenAll s)).out :=
  mem_out_finish (mem_out_burst h _)

/-! ### The obligation -/

/-- Settles O29: the condition of each row holds under the statement's hypotheses, and what the row does to the pair and puts
out is the lemma above about its operation. That a SET_PAIR of a direct pair ends with the wake is the model's reading
(assumption log 148). -/
theorem chainUpkeepRows : Obligations.ChainUpkeepRows := by
  intro s t p sd q hUp h
  have hAt : (s.at t).pairs[p.val]? = some q := h
  have hPair : (s.at t).pair p.val = q := State.pair_of_getElem? hAt
  refine ⟨?ringTest, fun hTime => ⟨?waking, ?directWake⟩, ?enumeration, ?bringup, ?urgent, ?cut, ?resume, ?eopen, ?again, ?high⟩
  case ringTest =>
    intro hDue
    obtain ⟨r, hr, hSent, hTest⟩ := ringTestDueDo_sends hAt sd
    exact leaves_of_row (exec_ringTestDue ..) hUp hDue hr ⟨chainFrame_mem_out_finish hSent, hTest⟩
  case waking =>
    intro hSt
    have hEnum : (setSt (s.at t) p.val .enumerating).pairs[p.val]? = some { q with st := .enumerating } := by simp [h]
    obtain ⟨w, a, b, hSent⟩ := getElem?_sendEnumerate hEnum
    have hOut := sendEnumerate_out hEnum
    rw [← wakeDoneDo_of_waking hAt hSt] at hSent hOut
    refine leaves_of_row (exec_chainWakeDone ..) hUp (by simp [hPair, hTime]) hSent ⟨rfl, rfl, ?_, ?_⟩
    · exact chainFrame_mem_out_finish (by simp [hOut])
    · exact chainFrame_mem_out_finish (by simp [hOut])
  case directWake =>
    intro hSt
    obtain ⟨r, hr, hDirect, hRuns⟩ := wakeDoneDo_of_directWake hAt hSt
    refine leaves_of_row (exec_chainWakeDone ..) hUp (by simp [hPair, hTime]) hr ⟨hDirect, fun hNone => ?_⟩
    obtain ⟨hNext, hFound, hTickets⟩ := hRuns hNone
    exact ⟨hNext, hFound, by simpa using hTickets⟩
  case enumeration =>
    intro hNone hOver
    obtain ⟨r, hr, hReady, -, hNext, hRing, hStays⟩ := pairRuns_runs hAt
    have hPairs : (enumerationDoneDo p.val (s.at t)).pairs[p.val]? = some r := by simpa [enumerationDoneDo] using hr
    refine leaves_of_row (exec_enumerationDone ..) hUp (by simp [hPair, hNone, hOver]) hPairs
      ⟨hReady, hNext, hRing, fun hSplit => ?_, ?_⟩
    · rw [hStays (by simp [hSplit]), hSplit]
    · have hTickets := endPairTickets_ends (pairRuns p.val (s.at t)) p.val
      simpa [enumerationDoneDo] using hTickets _
  case bringup =>
    intro hBring hOver
    obtain ⟨r, hr, hReady, hDone, hNext, -⟩ := pairRuns_runs hAt
    exact leaves_of_row (exec_pairBringupDone ..) hUp (by simpa [hPair, hBring] using hOver) hr ⟨hReady, hDone, hNext⟩
  case urgent =>
    intro line hDecodes hOn
    have hCond : (urgentDecodes (lineUrgent line) && (portsOn (s.at t) p.val).contains sd) = true :=
      Bool.and_eq_true_iff.mpr ⟨hDecodes, hOn⟩
    obtain ⟨r, hr, hLogged⟩ := urgentRxDo_logs hAt sd (lineUrgent line)
    exact leaves_of_row (exec_urgentRx ..) hUp hCond hr (by cases sd <;> simpa [otherSide] using hLogged)
  case cut =>
    intro hOn
    obtain ⟨r, hr, hJab⟩ := brorosCut_cuts hAt sd
    exact leaves_of_row (exec_jabberCut ..) hUp hOn hr hJab
  case resume =>
    refine leaves_of_row (exec_jabberResume ..) hUp rfl (r := q.updPort sd (fun c => { c with jab := false })) (by simp [h]) ?_
    simp
  case eopen =>
    intro hHigh
    refine ⟨_, exec_of_row (exec_eopenNAccept ..) hUp (by simp [hHigh]), by simp [eopenAcceptDo], fun a ha => ?_⟩
    exact eopenAll_sends ha
  case again =>
    intro hLow hTime
    have hDo : eopenRepeatDo true (s.at t)
        = eopenAll { s.at t with eopen := { s.eopen with nextAt := max s.now t + 480000 } } := by
      simp [eopenRepeatDo, Nat.not_lt.mpr hTime]
    refine ⟨_, exec_of_row (exec_eopenRepeat ..) hUp hLow, ?_, fun a ha => ?_⟩
    · simp [hDo, hLow]
    · rw [hDo]
      exact eopenAll_sends ha
  case high => exact fun hLow => ⟨_, exec_of_row (exec_eopenRepeat ..) hUp hLow, by simp [eopenRepeatDo]⟩

end Sys2Proof.Machine
end

section
/-! What waits at the ports of a chain pair, and which operations change no more of a pair than that (06 R138, R141). -/

namespace Sys2Proof.Machine

/-- A pair without what waits at its ports. -/
def Pair.unqueued (q : Pair) : Pair :=
  { q with portA := { q.portA with queue := [] }, portB := { q.portB with queue := [] } }
/-- The commands outstanding on a pair's ports. -/
def Pair.outs (q : Pair) : Option Outstanding × Option Outstanding := (q.portA.out, q.portB.out)

theorem sidePort_out_of_outs {q r : Pair} (h : q.outs = r.outs) (sd : Side) : (sidePort q sd).out = (sidePort r sd).out := by
  cases sd with
  | a => exact congrArg Prod.fst h
  | b => exact congrArg Prod.snd h

theorem Pair.outs_of_unqueued {q r : Pair} (h : q.unqueued = r.unqueued) : q.outs = r.outs :=
  (congrArg Pair.outs h :)

/-! ### Reading a pair of which a part has stayed -/

theorem map_pair_modAt {α : Type} {g : Pair → α} {f : Pair → Pair} (hf : ∀ q, g (f q) = g q) (l : List Pair) (p : Nat) :
    (modAt l p f).map g = l.map g := by
  refine List.ext_getElem? fun i => ?_
  simp only [modAt, List.getElem?_map, List.getElem?_modify, Option.map_eq_map, Option.map_map]
  refine Option.map_congr fun q _ => ?_
  simp only [Function.comp_apply]
  split
  · exact hf q
  · rfl

theorem foldl_map_pair {α β : Type} {g : Pair → β} {f : State → α → State}
    (hf : ∀ s x, (f s x).pairs.map g = s.pairs.map g) (l : List α) (s : State) :
    (l.foldl f s).pairs.map g = s.pairs.map g := by
  induction l generalizing s with
  | nil => rfl
  | cons x l ih => rw [List.foldl_cons, ih, hf]

theorem getElem?_of_map {α : Type} {g : Pair → α} {u v : State} {p : Nat} {q : Pair} (hMap : u.pairs.map g = v.pairs.map g)
    (h : v.pairs[p]? = some q) : ∃ r, u.pairs[p]? = some r ∧ g r = g q := by
  have hRead : u.pairs[p]?.map g = some (g q) := by
    rw [← List.getElem?_map, hMap, List.getElem?_map, h, Option.map_some]
  exact Option.map_eq_some_iff.mp hRead

theorem map_outs_of_unqueued {u v : State} (h : u.pairs.map Pair.unqueued = v.pairs.map Pair.unqueued) :
    u.pairs.map Pair.outs = v.pairs.map Pair.outs := by
  have hOuts (l : List Pair) : l.map Pair.outs = (l.map Pair.unqueued).map Pair.outs := by rw [List.map_map]; rfl
  rw [hOuts, h, ← hOuts]

/-! ### Operations that queue commands -/

@[simp] theorem enqueue_map_unqueued (s : State) (p : Nat) (sd : Side) (c : ChainCmd) :
    (enqueue s p sd c).pairs.map Pair.unqueued = s.pairs.map Pair.unqueued :=
  map_pair_modAt (fun _ => by cases sd <;> rfl) ..

@[simp] theorem toMember_map_unqueued (s : State) (p h : Nat) (o : Origin) (type : Nat) (b : List Byte) :
    (toMember s p h o type b).pairs.map Pair.unqueued = s.pairs.map Pair.unqueued := enqueue_map_unqueued ..

@[simp] theorem byHop_map_unqueued (s : State) (p : Nat) (sd : Side) (h : Nat) (o : Origin) (type : Nat) (b : List Byte) :
    (byHop s p sd h o type b).pairs.map Pair.unqueued = s.pairs.map Pair.unqueued := enqueue_map_unqueued ..

@[simp] theorem byPos_map_unqueued (s : State) (p h : Nat) (o : Origin) (type : Nat) (b : List Byte) :
    (byPos s p h o type b).pairs.map Pair.unqueued = s.pairs.map Pair.unqueued := byHop_map_unqueued ..

@[simp] theorem writeBack_map_unqueued (s : State) (p h : Nat) :
    (writeBack s p h).pairs.map Pair.unqueued = s.pairs.map Pair.unqueued :=
  foldl_map_pair (fun _ _ => byPos_map_unqueued ..) ..

@[simp] theorem writeId_map_unqueued (s : State) (p : Nat) (sd : Side) (h : Nat) :
    (writeId s p sd h).pairs.map Pair.unqueued = s.pairs.map Pair.unqueued := byHop_map_unqueued ..

@[simp] theorem checkId_map_unqueued (s : State) (p : Nat) (sd : Side) (h : Nat) (again : Bool) :
    (checkId s p sd h again).pairs.map Pair.unqueued = s.pairs.map Pair.unqueued := byHop_map_unqueued ..

@[simp] theorem readSerial_map_unqueued (s : State) (p h : Nat) :
    (readSerial s p h).pairs.map Pair.unqueued = s.pairs.map Pair.unqueued := byPos_map_unqueued ..

@[simp] theorem scriptSend_map_unqueued (s : State) (p : Nat) (w : WriteTo) (ws : List Nat) :
    (scriptSend s p w ws).pairs.map Pair.unqueued = s.pairs.map Pair.unqueued := toMember_map_unqueued ..

@[simp] theorem askBalance_map_unqueued (s : State) (i : Nat) :
    (askBalance s i).pairs.map Pair.unqueued = s.pairs.map Pair.unqueued := by
  unfold askBalance
  split <;> simp

/-! ### What the Ledger and the chain take from a record (06 R145, R153; 07 R164, R183) -/

@[simp] theorem moduleSwap_map_unqueued (s : State) (p h modid : Nat) (serial : Option Nat) :
    (moduleSwap s p h modid serial).pairs.map Pair.unqueued = s.pairs.map Pair.unqueued := by
  simp only [moduleSwap, raiseEvent_frame, toMember_map_unqueued, askSnapshot_frame, storeMember_frame]
  split <;> simp

@[simp] theorem watchSwap_map_unqueued (s : State) (p h : Nat) (b : List Byte) :
    (watchSwap s p h b).pairs.map Pair.unqueued = s.pairs.map Pair.unqueued := by
  unfold watchSwap
  dsimp only
  (repeat' split) <;> simp

@[simp] theorem balanceRestart_map_unqueued (s : State) (i : Nat) :
    (balanceRestart s i).pairs.map Pair.unqueued = s.pairs.map Pair.unqueued := by
  unfold balanceRestart
  dsimp only
  (repeat' split) <;> simp

@[simp] theorem balanceIn_map_unqueued (s : State) (i : Nat) (b : List Byte) :
    (balanceIn s i b).pairs.map Pair.unqueued = s.pairs.map Pair.unqueued := by
  unfold balanceIn
  dsimp only
  (repeat' split) <;> simp

@[simp] theorem afterWoke_map_unqueued (s : State) (p h : Nat) :
    (afterWoke s p h).pairs.map Pair.unqueued = s.pairs.map Pair.unqueued := by
  unfold afterWoke
  dsimp only
  split <;> simp

@[simp] theorem takeRecord_map_unqueued (s : State) (p h : Nat) (b : List Byte) :
    (takeRecord s p h b).pairs.map Pair.unqueued = s.pairs.map Pair.unqueued := by
  unfold takeRecord
  extract_lets i back s₁ s₂ s₃ s₄ s₅ s₆ s₇
  have hAbsent : s₂.pairs.map Pair.unqueued = s.pairs.map Pair.unqueued := by simp only [s₂]; split <;> simp [s₁]
  have hSerial : s₃.pairs.map Pair.unqueued = s.pairs.map Pair.unqueued := by simp only [s₃]; split <;> simp [hAbsent]
  have hLedger : s₆.pairs.map Pair.unqueued = s.pairs.map Pair.unqueued := by
    simp only [s₆]
    (repeat' split) <;> simp [s₅, s₄, hSerial]
  split <;> simp [s₇, hLedger]

@[simp] theorem lostId_map_unqueued (s : State) (p : Nat) (sd : Side) (h : Nat) (l : List Chip) :
    (lostId s p sd h l).pairs.map Pair.unqueued = s.pairs.map Pair.unqueued := by
  unfold lostId
  split <;> simp

@[simp] theorem ackId_map_unqueued (s : State) (p : Nat) (sd : Side) (c : ChainCmd) (l : List Chip) :
    (ackId s p sd c l).pairs.map Pair.unqueued = s.pairs.map Pair.unqueued := by
  unfold ackId
  (repeat' split) <;> simp

/-! ### What an answer does (06 R134, R150 to R153; 16 R382; 19 R440; 20 R466) -/

@[simp] theorem undoNext_map_unqueued (s : State) (sc : Script) :
    (undoNext s sc).pairs.map Pair.unqueued = s.pairs.map Pair.unqueued := by
  unfold undoNext
  split <;> simp

@[simp] theorem scriptAck_map_unqueued (s : State) (rs : Nat) (data : List Byte) :
    (scriptAck s rs data).pairs.map Pair.unqueued = s.pairs.map Pair.unqueued := by
  unfold scriptAck
  (repeat' split) <;> simp

@[simp] theorem heardFrom_map_unqueued (s : State) (p h : Nat) (c : ChainCmd) :
    (heardFrom s p h c).pairs.map Pair.unqueued = s.pairs.map Pair.unqueued := by
  unfold heardFrom
  dsimp only
  (repeat' split) <;> simp

@[simp] theorem serialSeen_map_unqueued (s : State) (p h v : Nat) :
    (serialSeen s p h v).pairs.map Pair.unqueued = s.pairs.map Pair.unqueued := by
  unfold serialSeen
  dsimp only
  (repeat' split) <;> simp

@[simp] theorem modidSeen_map_unqueued (s : State) (p h v : Nat) :
    (modidSeen s p h v).pairs.map Pair.unqueued = s.pairs.map Pair.unqueued := by
  unfold modidSeen
  dsimp only
  (repeat' split) <;> simp

@[simp] theorem bringUp_map_unqueued (s : State) (p : Nat) (sd : Side) (h : Nat) :
    (bringUp s p sd h).pairs.map Pair.unqueued = s.pairs.map Pair.unqueued := by
  have hWrites := foldl_map_pair (g := Pair.unqueued)
    (f := fun s (w : Nat × List Nat) => byHop s p sd h (.setup (memNo p h) w.1 w.2) 7 (writePl w.1 w.2))
    (fun _ _ => byHop_map_unqueued ..) (memberWrites s p h) s
  unfold bringUp
  dsimp only
  split
  · rw [byHop_map_unqueued, hWrites]
  · exact hWrites

@[simp] theorem identified_map_unqueued (s : State) (p : Nat) (sd : Side) (h : Nat) (ws : List Nat) :
    (identified s p sd h ws).pairs.map Pair.unqueued = s.pairs.map Pair.unqueued := by
  unfold identified
  dsimp only
  (repeat' split) <;> simp

end Sys2Proof.Machine
end

section
/-! The rows of addressed commands at Broros: what a window sends, what an answer and a silence end, and what a record and a read
of balance counters give (06 R138, R141, R145, R146; 07 R164; 16 R376). -/

namespace Sys2Proof.Machine

/-! ### Responses in a mailbox (15 R359, R375; 16 R376) -/

/-- No response of `s` has gone in `u`. -/
def KeepsReplies (s u : State) : Prop := ∀ n, (s.port n).replies ⊆ (u.port n).replies

theorem KeepsReplies.trans {s u v : State} (h : KeepsReplies s u) (h' : KeepsReplies u v) : KeepsReplies s v :=
  fun n _ hm => h' n (h n hm)

theorem answersWith_of_keepsReplies {s u : State} {r : Req} {status reason : Nat} (h : KeepsReplies s u)
    (hAnswers : answersWith s r status reason) : answersWith u r status reason := by
  obtain ⟨m, hm, hFields⟩ := hAnswers
  exact ⟨m, h _ hm, hFields⟩

theorem keepsReplies_of_ports {s u : State} (h : u.ports = s.ports) : KeepsReplies s u :=
  fun n _ hm => by rwa [port_congr h]

theorem keepsReplies_reply (s : State) (r : Req) (status reason clampN : Nat) (payload bulk : List Byte) :
    KeepsReplies s (reply s r status reason clampN payload bulk) := by
  intro n m hm
  by_cases hn : n = r.tenant
  · subst hn
    simp [reply, hm]
  · rwa [reply, State.updPort_port_ne _ _ hn]

theorem answersWith_reply (s : State) (r : Req) (status reason clampN : Nat) (payload bulk : List Byte) :
    answersWith (reply s r status reason clampN payload bulk) r status reason := by
  simp [answersWith, reply]

/-- The flush of requests with unknown opcodes only adds responses. -/
theorem keepsReplies_flushBad (s : State) : KeepsReplies s (flushBad s) := by
  have hFold (l : List Req) (u : State) : KeepsReplies u (l.foldl (fun s r => failWith s r 6) u) := by
    induction l generalizing u with
    | nil => exact fun _ _ hm => hm
    | cons r l ih => exact KeepsReplies.trans (keepsReplies_reply u r 6 0 0 [] []) (ih _)
  unfold flushBad
  split
  · exact fun _ _ hm => hm
  · exact hFold _ { s with foreman := { s.foreman with order := s.foreman.order.dropWhile badOpcode } }

/-- The request that Foreman executes is answered as its end answers it. -/
theorem answersWith_endCurrent {s : State} {r : Req} {f : State → State} {status reason : Nat}
    (hCurrent : s.foreman.current = some r) (hf : ∀ u, answersWith (f u) r status reason) :
    answersWith (endCurrent s r f) r status reason := by
  rw [endCurrent, if_pos hCurrent]
  exact answersWith_of_keepsReplies (keepsReplies_flushBad _) (hf _)

theorem answersWith_finish {s : State} {r : Req} {status reason : Nat} (h : answersWith s r status reason) :
    answersWith (finish s) r status reason :=
  answersWith_of_keepsReplies (fun n _ hm => by rwa [finish_port_replies]) h

section
variable {s : State} {p : Nat} {q : Pair} {sd : Side}

/-! ### CHAIN_COMMAND_WINDOW (06 R138, R141, R146) -/

theorem getElem?_txFrame (h : s.pairs[p]? = some q) (type : Nat) (pos ret : Bool) (addr : Nat) (payload : List Byte) :
    (txFrame s p sd type pos ret addr payload).pairs[p]? = some (q.updPort sd (fun c =>
      let e := txStart s p sd + frameTime payload.length
      { c with fseq := (c.fseq + 1) % 256, lastTx := e, busy := e })) := by
  simp [txFrame, h]

/-- What waits first at a port goes out in its window and is outstanding from then on. -/
theorem windowSend_sends {c : ChainCmd} {cs : List ChainCmd} (h : s.pairs[p]? = some q) (hQueue : (sidePort q sd).queue = c :: cs)
    (hTalks : pairTalks q = true) (hMay : mayStart s p sd c.payload.length = true) (hBar : gateBarred s c = false)
    (hAddr : c.addr ≠ 0x3F) :
    ∃ r, (windowSend s p sd).pairs[p]? = some r ∧ (sidePort r sd).queue = cs
      ∧ (sidePort r sd).fseq = ((sidePort q sd).fseq + 1) % 256
      ∧ (∃ o, (sidePort r sd).out = some o ∧ o.cmd = c ∧ o.fseq = (sidePort q sd).fseq ∧ o.tries = 0)
      ∧ .chainFrame (pNo p) sd (brorosFrame c.type c.pos true c.addr (sidePort q sd).fseq c.payload)
        ∈ (windowSend s p sd).out := by
  have hTaken : (updCport s p sd (fun k => { k with queue := cs })).pairs[p]?
      = some (q.updPort sd (fun k => { k with queue := cs })) := by simp [h]
  have hSend : windowSend s p sd = updCport (txFrame (updCport s p sd (fun k => { k with queue := cs })) p sd c.type c.pos true
      c.addr c.payload) p sd (fun k => { k with out := some { cmd := c, fseq := (sidePort q sd).fseq, sentAt := k.lastTx } }) := by
    have hRet : (c.addr != 0x3F) = true := by simpa using hAddr
    simp [windowSend, cport_of_getElem? h, hQueue, State.pair_of_getElem? h, hTalks, hMay, hBar, hRet]
  rw [hSend]
  simp [getElem?_txFrame hTaken, txFrame_out, cport_of_getElem? hTaken]

/-- A GATE that would close while EOPEN_N is low goes out of the queue, and its request is refused. -/
theorem windowSend_refuses {c : ChainCmd} {cs : List ChainCmd} (h : s.pairs[p]? = some q)
    (hQueue : (sidePort q sd).queue = c :: cs) (hTalks : pairTalks q = true)
    (hMay : mayStart s p sd c.payload.length = true) (hBar : gateBarred s c = true) :
    (windowSend s p sd).pairs[p]? = some (q.updPort sd (fun k => { k with queue := cs }))
      ∧ ∀ m, c.origin = .mailbox m → s.foreman.current = some m → answersWith (windowSend s p sd) m 2 0x2C := by
  unfold windowSend
  simp only [cport_of_getElem? h, hQueue, State.pair_of_getElem? h, hTalks, hMay, hBar, Bool.not_true, Bool.or_self,
    Bool.false_eq_true, if_false, if_true]
  split
  case h_1 r hOrigin =>
    refine ⟨by simp [h], fun m hm hCurrent => ?_⟩
    obtain rfl : r = m := Origin.mailbox.inj (hOrigin.symm.trans hm)
    exact answersWith_endCurrent (by simpa using hCurrent) (fun u => answersWith_reply ..)
  case h_2 hOther => exact ⟨by simp [h], fun m hm => absurd hm (hOther m)⟩

/-- A window opens only where nothing is outstanding. -/
theorem out_of_mayStart {n : Nat} (h : s.pairs[p]? = some q) (hMay : mayStart s p sd n = true) : (sidePort q sd).out = none := by
  simp only [mayStart, cport_of_getElem? h, Bool.and_eq_true] at hMay
  obtain ⟨-, hNone⟩ := hMay
  exact Option.isNone_iff_eq_none.mp hNone

end

end Sys2Proof.Machine
end

section
/-! What an answer, a silence and a record end at a chain port (06 R138, R145). -/

namespace Sys2Proof.Machine

theorem updPair_map_outs {f : Pair → Pair} (hf : ∀ q, (f q).outs = q.outs) (s : State) (p : Nat) :
    (s.updPair p f).pairs.map Pair.outs = s.pairs.map Pair.outs := map_pair_modAt hf ..

@[simp] theorem idChecked_map_outs (s : State) (p : Nat) (sd : Side) (h : Nat) (again : Bool) (v : Nat) :
    (idChecked s p sd h again v).pairs.map Pair.outs = s.pairs.map Pair.outs := by
  unfold idChecked
  dsimp only
  split
  · exact map_outs_of_unqueued (by (repeat' split) <;> simp)
  · split
    · exact updPair_map_outs (by intro; rfl) ..
    · split
      · simp only [unresponsive_frame]
        exact updPair_map_outs (by intro; rfl) ..
      · exact map_outs_of_unqueued (by simp)

@[simp] theorem jabRead_map_outs (s : State) (p h v : Nat) :
    (jabRead s p h v).pairs.map Pair.outs = s.pairs.map Pair.outs := by
  unfold jabRead
  split
  · split
    · exact updPair_map_outs (by intro; rfl) ..
    · split
      · exact updPair_map_outs (by intro; rfl) ..
      · rw [updMem_pairs]
  · rw [updMem_pairs]

theorem updCport_map_outs {f : ChainPort → ChainPort} (hf : ∀ k, (f k).out = k.out) (s : State) (p : Nat) (sd : Side) :
    (updCport s p sd f).pairs.map Pair.outs = s.pairs.map Pair.outs := by
  rw [updCport_eq]
  exact updPair_map_outs (fun q => by cases sd <;> simp [Pair.outs, Pair.updPort, hf]) ..

@[simp] theorem serialRead_map_unqueued (s : State) (p h v : Nat) :
    (serialRead s p h v).pairs.map Pair.unqueued = s.pairs.map Pair.unqueued := by
  simp [serialRead]

/-- An answer leaves what is outstanding at the ports as it is: what it asks for waits in a queue. -/
@[simp] theorem finishCmd_map_outs (s : State) (p : Nat) (sd : Side) (c : ChainCmd) (rs : Nat) (data : List Byte) :
    (finishCmd s p sd c rs data).pairs.map Pair.outs = s.pairs.map Pair.outs := by
  have hHeard (h : Nat) : (heardFrom s p h c).pairs.map Pair.outs = s.pairs.map Pair.outs := map_outs_of_unqueued (by simp)
  unfold finishCmd
  dsimp only
  split
  case h_5 | h_18 => split <;> simp [hHeard]
  case h_12 =>
    generalize hv : (if c.noRetry = true then _ else _) = v
    have hReach : v.pairs.map Pair.outs = s.pairs.map Pair.outs := by
      rw [← hv]
      split
      · exact (updCport_map_outs (by intro; rfl) ..).trans (hHeard _)
      · exact hHeard _
    split
    · exact (map_outs_of_unqueued (identified_map_unqueued ..)).trans hReach
    · exact hReach
  all_goals exact map_outs_of_unqueued (by (repeat' split) <;> simp)

/-- So does a command that has failed, but for what waits behind a read of reverse retrieval. -/
@[simp] theorem failCmd_map_outs (s : State) (p : Nat) (sd : Side) (c : ChainCmd) :
    (failCmd s p sd c).pairs.map Pair.outs = s.pairs.map Pair.outs := by
  unfold failCmd
  dsimp only
  split
  case isTrue => exact updCport_map_outs (by intro; rfl) ..
  case isFalse =>
    have hLost (h : Nat) : (unresponsive s p h).pairs.map Pair.outs = s.pairs.map Pair.outs := by simp
    split
    case h_1 => simp
    case h_2 => exact map_outs_of_unqueued (by simp)
    case h_3 | h_6 => exact (updPair_map_outs (by intro; rfl) ..).trans (hLost _)
    all_goals simp

section
variable {s : State} {p : Nat} {q : Pair} {sd : Side} {o : Outstanding}

theorem out_of_map_outs {u v : State} (hMap : u.pairs.map Pair.outs = v.pairs.map Pair.outs) (h : v.pairs[p]? = some q)
    (sd : Side) : ∃ r, u.pairs[p]? = some r ∧ (sidePort r sd).out = (sidePort q sd).out := by
  obtain ⟨r, hr, hOuts⟩ := getElem?_of_map hMap h
  exact ⟨r, hr, sidePort_out_of_outs hOuts sd⟩

/-! ### ACK (06 R138; 16 R376) -/

/-- A good response with the FSEQ outstanding ends its command: the port is free, and what the command was for goes on. -/
theorem ackIn_of_good {l : List Chip} (h : s.pairs[p]? = some q) (hOut : (sidePort q sd).out = some o)
    (hGood : lineGood l = true) (hType : lineType l = 8) (hDir : lineH0 l 3 = true) (hFseq : lineFseq l = o.fseq) :
    ∃ v r, ackIn s p sd l
        = ackId (finishCmd v p sd o.cmd (byteAt (linePayload l) 0) ((linePayload l).drop 1)) p sd o.cmd l
      ∧ v.pairs[p]? = some r ∧ (sidePort r sd).out = none ∧ v.foreman = s.foreman ∧ v.ledger = s.ledger := by
  refine ⟨updCport (updCport s p sd (fun k => { k with busy := max k.busy s.now })) p sd (fun k => { k with out := none }),
    _, ?_, by simp [h]; rfl, by simp, by simp, by simp⟩
  simp [ackIn, cport_of_getElem? h, hOut, hGood, hType, hDir, hFseq]

/-- A mailbox request whose command a member declines ends with the status of its RSTAT (16 R376, Table 16-1). -/
theorem answersWith_mailboxAck {r : Req} {rs : Nat} (data : List Byte) (hCurrent : s.foreman.current = some r) (hFailed : 1 < rs) :
    answersWith (mailboxAck s r rs data) r (ackMap rs).1 (ackMap rs).2 := by
  refine answersWith_endCurrent hCurrent fun u => ?_
  rw [if_neg (Nat.not_le.mpr hFailed)]
  exact answersWith_reply ..

theorem answersWith_finishCmd {c : ChainCmd} {r : Req} {rs : Nat} (data : List Byte) (hOrigin : c.origin = .mailbox r)
    (hCurrent : s.foreman.current = some r) (hFailed : 1 < rs) :
    answersWith (finishCmd s p sd c rs data) r (ackMap rs).1 (ackMap rs).2 := by
  have hMailbox : finishCmd s p sd c rs data = mailboxAck (heardFrom s p (memberAt s p sd c.pos c.addr) c) r rs data := by
    simp [finishCmd, hOrigin]
  rw [hMailbox]
  exact answersWith_mailboxAck data (by simpa using hCurrent) hFailed

/-! ### COMMAND_TIMEOUT (06 R138) -/

/-- A pair that has counted one more silence. -/
def Pair.counted (q : Pair) : Pair := { q with timeouts := (q.timeouts + 1) % 65536 }

@[simp] theorem sidePort_counted (q : Pair) (sd : Side) : sidePort q.counted sd = sidePort q sd := by cases sd <;> rfl

theorem getElem?_counted (h : s.pairs[p]? = some q) : (s.updPair p Pair.counted).pairs[p]? = some q.counted := by simp [h]

theorem timeoutIn_of_silence (h : s.pairs[p]? = some q) (hOut : (sidePort q sd).out = some o) (hTime : o.sentAt + 4800 ≤ s.now)
    (hLine : o.tries < 2 → lineOk s p o.cmd.payload.length = true) :
    timeoutIn s p sd = retryCmd (s.updPair p Pair.counted) p sd o := by
  have hWaits : (decide (s.now < o.sentAt + 4800) || decide (o.tries < 2) && !lineOk s p o.cmd.payload.length) = false := by
    simpa [Nat.not_lt.mpr hTime] using hLine
  simp only [timeoutIn, cport_of_getElem? h, hOut, hWaits]
  rfl

/-- A command that got no response goes out again with its FSEQ. -/
theorem retryCmd_repeats (h : s.pairs[p]? = some q) (hBar : gateBarred s o.cmd = false) (hRetry : o.cmd.noRetry = false)
    (hTries : o.tries < 2) :
    let e := txStart s p sd + frameTime o.cmd.payload.length
    (retryCmd s p sd o).pairs[p]? = some (q.updPort sd (fun k =>
        { k with out := some { o with tries := o.tries + 1, sentAt := e }, lastTx := e, busy := e }))
      ∧ .chainFrame (pNo p) sd (brorosFrame o.cmd.type o.cmd.pos true o.cmd.addr o.fseq o.cmd.payload)
        ∈ (retryCmd s p sd o).out := by
  simp [retryCmd, hBar, hRetry, Nat.not_le.mpr hTries, h, brorosFrame]

/-- A command that got no response after its retransmissions has failed. -/
theorem retryCmd_of_last (hBar : gateBarred s o.cmd = false) (hTries : 2 ≤ o.tries) :
    retryCmd s p sd o = failCmd (updCport s p sd (fun k => { k with out := none })) p sd o.cmd := by
  simp [retryCmd, hBar, hTries]

theorem lmem_congr {u v : State} (h : u.ledger = v.ledger) (i : Nat) : lmem u i = lmem v i := by rw [lmem, lmem, h]

/-- What one entry's change keeps of that entry stands for every entry. -/
theorem lmem_updMem {α : Type} {g : Member → α} {f : Member → Member} (hf : ∀ m, g (f m) = g m) (s : State) (i k : Nat) :
    g (lmem (updMem s i f) k) = g (lmem s k) := by
  by_cases hk : k = i
  · rw [hk, lmem, updMem_ledger, tblGet_tblSet, hf]
  · rw [lmem, updMem_ledger, tblGet_tblSet_ne hk, lmem]

theorem lmem_updMem_self (s : State) (i : Nat) (f : Member → Member) : lmem (updMem s i f) i = f (lmem s i) :=
  tblGet_tblSet ..

theorem unresponsive_marks (s : State) (p h : Nat) : (lmem (unresponsive s p h) (memNo p h)).unresponsive = true := by
  unfold unresponsive
  extract_lets id f v
  have hMarked : (lmem v (memNo p h)).unresponsive = true := by simp [v, lostMember, lmem_updMem_self]
  rwa [lmem_congr (v := v) (by simp)]

/-- A write of the script that gets no response leaves the Ledger as it is: what has been written is undone. -/
theorem scriptAck_lost_ledger (s : State) : (scriptAck s 0xFF []).ledger = s.ledger := by
  have hLost : ¬ 0xFF ≤ 1 := by decide
  simp only [scriptAck, hLost, if_false]
  (repeat' split) <;> simp

/-- The member of a command that has failed is UNRESPONSIVE. -/
theorem failCmd_unresponsive {c : ChainCmd} (hRetry : c.noRetry = false) :
    (lmem (failCmd s p sd c) (memNo p (memberAt s p sd c.pos c.addr))).unresponsive = true := by
  have hMarked := unresponsive_marks s p (memberAt s p sd c.pos c.addr)
  have hLedger {u : State} (hu : u.ledger = (unresponsive s p (memberAt s p sd c.pos c.addr)).ledger) :
      (lmem u (memNo p (memberAt s p sd c.pos c.addr))).unresponsive = true := by rwa [lmem, hu]
  unfold failCmd
  simp only [hRetry, Bool.false_eq_true, if_false]
  split
  case h_2 => exact hLedger (scriptAck_lost_ledger _)
  case h_4 | h_5 => rwa [lmem_updMem (g := Member.unresponsive) (by intro; rfl)]
  all_goals exact hLedger (by simp)

/-- Its mailbox request ends with TIMEOUT. -/
theorem answersWith_failCmd {c : ChainCmd} {r : Req} (hRetry : c.noRetry = false) (hOrigin : c.origin = .mailbox r)
    (hCurrent : s.foreman.current = some r) : answersWith (failCmd s p sd c) r 10 0 := by
  simp only [failCmd, hRetry, hOrigin, Bool.false_eq_true, if_false]
  exact answersWith_endCurrent (by simpa using hCurrent) (fun u => answersWith_reply ..)

end

end Sys2Proof.Machine
end

section
/-! RECORD and LEDGER_BALANCE_READ (06 R138, R145; 07 R164). -/

namespace Sys2Proof.Machine

/-! ### What a record leaves in the Ledger and in the sweep (06 R145, R151) -/

@[simp] theorem watchWiring_now (s : State) (p h : Nat) (b : List Byte) : (watchWiring s p h b).now = s.now := by
  unfold watchWiring
  exact foldl_now _ _ _ (fun v f => by split <;> simp)

theorem takeRecord_lastAt (s : State) (p h : Nat) (b : List Byte) : (lmem (takeRecord s p h b) (memNo p h)).lastAt = s.now := by
  unfold takeRecord
  extract_lets i back s₁ s₂ s₃ s₄ s₅ s₆ s₇
  have hAbsent : s₂.now = s.now := by simp only [s₂]; split <;> simp [s₁]
  have hSerial : s₃.now = s.now := by simp only [s₃]; split <;> simp [hAbsent]
  have hLedger : s₆.now = s.now := by
    simp only [s₆]
    (repeat' split) <;> simp [s₅, s₄, hSerial]
  have hTimed : (lmem s₇ i).lastAt = s.now := by simp only [s₇, lmem_updMem_self, hLedger]
  split
  · rwa [lmem_congr (v := s₇) (by simp)]
  · exact hTimed

section
variable {s : State} {p : Nat} {q : Pair}

theorem recOf_of_got {r : Pair} {h : Nat} {b : List Byte} (hGot : r.got = q.got ++ [(h, b)]) (hNone : recOf q h = none) :
    recOf r h = some b := by
  have hFind : q.got.find? (fun e => e.1 == h) = none := by simpa only [recOf, Option.map_eq_none_iff] using hNone
  simp [recOf, hGot, List.find?_append, hFind]

/-- A record of the sweep in progress is kept for the close. -/
theorem keepRecord_keeps {m : Nat} {b : List Byte} (h : s.pairs[p]? = some q) (hCollects : q.collecting = true)
    (hSeq : q.curSeq = some (leAt b 0 2)) (hNone : recOf q m = none) :
    ∃ r, (keepRecord s p m b).pairs[p]? = some r ∧ recOf r m = some b := by
  unfold keepRecord
  simp only [State.pair_of_getElem? h, hCollects, hSeq, hNone]
  split
  case isTrue hNever => simp at hNever
  case isFalse =>
    split
    all_goals
      refine ⟨_, by simp [h]; rfl, ?_⟩
      exact recOf_of_got rfl hNone

theorem keepRecord_map_outs (s : State) (p m : Nat) (b : List Byte) :
    (keepRecord s p m b).pairs.map Pair.outs = s.pairs.map Pair.outs := by
  unfold keepRecord
  dsimp only
  split
  · rfl
  · split
    · rw [updPair_map_outs (by intro; rfl), updPair_map_outs (by intro; rfl)]
    · exact updPair_map_outs (by intro; rfl) ..

/-- The train counts a record, and the sweep in progress goes on. -/
theorem getElem?_trainRecord (h : s.pairs[p]? = some q) (ok : Bool) :
    ∃ r, (trainRecord s p ok).pairs[p]? = some r ∧ r.st = q.st ∧ r.collecting = q.collecting ∧ r.curSeq = q.curSeq
      ∧ r.got = q.got := by
  unfold trainRecord
  simp only [State.pair_of_getElem? h]
  split
  · exact ⟨q, h, rfl, rfl, rfl, rfl⟩
  · refine ⟨_, by simp [h]; rfl, ?_⟩
    exact ⟨rfl, rfl, rfl, rfl⟩

/-- The read that a record answers is outstanding no longer. -/
theorem readDone_ends {sd : Side} (h : s.pairs[p]? = some q) (o : Outstanding) (b : List Byte) :
    ∃ r, (readDone s p sd o b).pairs[p]? = some r ∧ (sidePort r sd).out = none := by
  unfold readDone
  dsimp only
  split
  · exact ⟨_, by simp [h]; rfl, by simp⟩
  · split
    · exact ⟨_, by simp [h]; rfl, by simp⟩
    · exact ⟨_, by simp [h]; rfl, by simp⟩

/-- What follows a good record of member m: the sweep keeps it, the Ledger and the chain take it, and an ID that is lost is
written again. -/
def recordTaken (s : State) (p : Nat) (sd : Side) (m : Nat) (l : List Chip) : State :=
  lostId (crossOffer (takeRecord (keepRecord s p m (linePayload l)) p m (linePayload l)) 2 0 (8 * (l.length / 8))) p sd m l

theorem recordTaken_map_unqueued (s : State) (p : Nat) (sd : Side) (m : Nat) (l : List Chip) :
    (recordTaken s p sd m l).pairs.map Pair.unqueued = (keepRecord s p m (linePayload l)).pairs.map Pair.unqueued := by
  simp [recordTaken]

theorem recordTaken_lastAt (s : State) (p : Nat) (sd : Side) (m : Nat) (l : List Chip) :
    (lmem (recordTaken s p sd m l) (memNo p m)).lastAt = s.now := by
  have hLedger : (recordTaken s p sd m l).ledger
      = (takeRecord (keepRecord s p m (linePayload l)) p m (linePayload l)).ledger := by simp [recordTaken]
  rw [lmem_congr hLedger, takeRecord_lastAt]
  simp

/-- A record that nobody asked for is one of the train. -/
theorem recordDo_of_train {d : Dev} {l : List Chip} (h : s.pairs[d.pair.val]? = some q)
    (hRead : readSide s d.pair.val (d.mem.val + 1) = none) (hSt : q.st = .ring) (hGood : lineGood l = true)
    (hRecord : isRecord l = true) (hFseq : lineFseq l = q.collectFseq) (hAddr : lineAddr l = d.mem.val + 1 ∨ lineAddr l = 0) :
    recordDo d l s = recordTaken (trainRecord s d.pair.val true) d.pair.val .a (d.mem.val + 1) l := by
  obtain ⟨r, hr, hRing, -⟩ := getElem?_trainRecord h true
  have hOk : (lineGood l && isRecord l && lineFseq l == (s.pair d.pair.val).collectFseq
      && (lineAddr l == d.mem.val + 1 || lineAddr l == 0)) = true := by
    simpa [State.pair_of_getElem? h, hGood, hRecord, hFseq] using hAddr
  simp [recordDo, recordTaken, hRead, hOk, State.pair_of_getElem? hr, hRing, hSt]

/-- The answer to a read ends it. -/
theorem recordDo_of_read {d : Dev} {l : List Chip} {sd : Side} {o : Outstanding}
    (hRead : readSide s d.pair.val (d.mem.val + 1) = some (sd, o)) (hGood : lineGood l = true) (hRecord : isRecord l = true)
    (hFseq : lineFseq l = o.fseq) : recordDo d l s
      = recordTaken (readDone s d.pair.val sd o (linePayload l)) d.pair.val sd (d.mem.val + 1) l := by
  simp [recordDo, recordTaken, hRead, hGood, hRecord, hFseq]

/-! ### The answer to a read of balance counters (07 R164) -/

theorem balSide_origin {i : Nat} {sd : Side} {o : Outstanding} (h : s.pairs[p]? = some q) (hSide : balSide s p i = some sd)
    (hOut : (sidePort q sd).out = some o) : o.cmd.origin = .balRead i := by
  have hMine := List.find?_some hSide
  simpa [cport_of_getElem? h, hOut] using hMine

/-- The words of a member's balance counters give QMB, and the member counts with no read to come. -/
theorem balanceRead_gives (s : State) (i : Nat) (ws : List Nat) :
    (lmem (balanceRead s i ws) i).needRead = false ∧ (lmem (balanceRead s i ws) i).counted = true
      ∧ (lmem (balanceRead s i ws) i).qmb
        = signed 48 (ws.getD 54 0 + ws.getD 55 0 * 65536 + ws.getD 56 0 * 4294967296) := by
  unfold balanceRead
  simp only [lmem_updMem_self, qmbTo, and_self]

end

end Sys2Proof.Machine
end

section
/-! The rows of addressed commands at Broros hold together (06 R138, R141, R145, R146; 07 R164; 16 R376). -/

namespace Sys2Proof.Machine

section
variable {s : State} {t : Nat} {p : Fin 4} {sd : Side} {q : Pair} {o : Outstanding}

theorem leaves_ack {l : List Chip} (hUp : s.shellUp = true) (h : s.pairs[p.val]? = some q)
    (hOut : (sidePort q sd).out = some o) (hOrigin : ∀ i, o.cmd.origin ≠ .balRead i) (hGood : lineGood l = true)
    (hType : lineType l = 8) (hDir : lineH0 l 3 = true) (hFseq : lineFseq l = o.fseq) :
    leaves (.ack t p sd l) s p.val (fun r u => (sidePort r sd).out = none
      ∧ ∀ m, o.cmd.origin = .mailbox m → s.foreman.current = some m → 1 < byteAt (linePayload l) 0 →
          answersWith u m (ackMap (byteAt (linePayload l) 0)).1 (ackMap (byteAt (linePayload l) 0)).2) := by
  have hAt : (s.at t).pairs[p.val]? = some q := h
  have hCond : (!readsBal (s.at t) p.val sd) = true := by
    simp [readsBal, cport_of_getElem? hAt, hOut]
  obtain ⟨v, r, hAck, hFree, hNone, hForeman, -⟩ := ackIn_of_good hAt hOut hGood hType hDir hFseq
  obtain ⟨r', hEnd, hOuts⟩ := out_of_map_outs (u := ackIn (s.at t) p.val sd l) (v := v)
    (by rw [hAck, map_outs_of_unqueued (ackId_map_unqueued ..), finishCmd_map_outs]) hFree sd
  refine leaves_of_row (exec_ack ..) hUp hCond hEnd ⟨hOuts.trans hNone, fun m hm hCurrent hFailed => answersWith_finish ?_⟩
  have hAnswered := answersWith_finishCmd (s := v) (p := p.val) (sd := sd) ((linePayload l).drop 1) hm
    (by rwa [hForeman]) hFailed
  rw [hAck]
  exact answersWith_of_keepsReplies (keepsReplies_of_ports (by simp)) hAnswered

theorem leaves_timeout_repeated (hUp : s.shellUp = true) (h : s.pairs[p.val]? = some q) (hOut : (sidePort q sd).out = some o)
    (hTime : o.sentAt + 4800 ≤ max s.now t) (hBar : gateBarred s o.cmd = false) (hRetry : o.cmd.noRetry = false)
    (hTries : o.tries < 2) (hLine : lineOk (s.at t) p.val o.cmd.payload.length = true) :
    let e := txStart (s.at t) p.val sd + frameTime o.cmd.payload.length
    leaves (.commandTimeout t p sd) s p.val (fun r u => r.timeouts = (q.timeouts + 1) % 65536
      ∧ (sidePort r sd).out = some { o with tries := o.tries + 1, sentAt := e }
      ∧ .chainFrame p sd (brorosFrame o.cmd.type o.cmd.pos true o.cmd.addr o.fseq o.cmd.payload) ∈ u.out) := by
  have hAt : (s.at t).pairs[p.val]? = some q := h
  have hCounted := getElem?_counted hAt
  obtain ⟨hEnd, hSent⟩ := retryCmd_repeats (sd := sd) hCounted hBar hRetry hTries
  have hSame : txStart ((s.at t).updPair p.val Pair.counted) p.val sd = txStart (s.at t) p.val sd := by
    simp [txStart, cport_of_getElem? hCounted, cport_of_getElem? hAt]
  rw [← timeoutIn_of_silence hAt hOut hTime (fun _ => hLine), hSame] at hEnd
  rw [← timeoutIn_of_silence hAt hOut hTime (fun _ => hLine)] at hSent
  refine leaves_of_row (exec_commandTimeout ..) hUp rfl hEnd ⟨?_, by simp, chainFrame_mem_out_finish hSent⟩
  cases sd <;> rfl

theorem leaves_timeout_of_last (hUp : s.shellUp = true) (h : s.pairs[p.val]? = some q) (hOut : (sidePort q sd).out = some o)
    (hTime : o.sentAt + 4800 ≤ max s.now t) (hBar : gateBarred s o.cmd = false) (hRetry : o.cmd.noRetry = false)
    (hTries : 2 ≤ o.tries) :
    leaves (.commandTimeout t p sd) s p.val (fun r u => (sidePort r sd).out = none
      ∧ (lmem u (memNo p.val (memberAt s p.val sd o.cmd.pos o.cmd.addr))).unresponsive = true
      ∧ ∀ m, o.cmd.origin = .mailbox m → s.foreman.current = some m → answersWith u m 10 0) := by
  have hAt : (s.at t).pairs[p.val]? = some q := h
  generalize hv : updCport ((s.at t).updPair p.val Pair.counted) p.val sd (fun k => { k with out := none }) = v
  have hFree : v.pairs[p.val]? = some (q.counted.updPort sd (fun k => { k with out := none })) := by simp [← hv, h]
  have hFailed : timeoutIn (s.at t) p.val sd = failCmd v p.val sd o.cmd := by
    rw [timeoutIn_of_silence hAt hOut hTime (fun hFew => absurd hTries (Nat.not_le.mpr hFew)), ← hv]
    exact retryCmd_of_last hBar hTries
  have hMember : memberAt v p.val sd o.cmd.pos o.cmd.addr = memberAt s p.val sd o.cmd.pos o.cmd.addr := by
    simp only [memberAt, State.pair_of_getElem? hFree, State.pair_of_getElem? h]
    cases sd <;> rfl
  have hCurrent : v.foreman = s.foreman := by simp [← hv]
  obtain ⟨r, hEnd, hOuts⟩ := out_of_map_outs (failCmd_map_outs v p.val sd o.cmd) hFree sd
  rw [← hFailed] at hEnd
  refine leaves_of_row (exec_commandTimeout ..) hUp rfl hEnd ⟨by simp [hOuts], ?_, fun m hm hIs => answersWith_finish ?_⟩
  · rw [lmem_congr (v := failCmd v p.val sd o.cmd) (by simp [hFailed]), ← hMember]
    exact failCmd_unresponsive hRetry
  · rw [hFailed]
    exact answersWith_failCmd hRetry hm (hCurrent ▸ hIs)

theorem leaves_record_of_train {d : Dev} {l : List Chip} (hUp : s.shellUp = true) (h : s.pairs[d.pair.val]? = some q)
    (hCarries : pairCarries q = true) (hGood : lineGood l = true) (hRecord : isRecord l = true)
    (hRead : readSide s d.pair.val (d.mem.val + 1) = none) (hSt : q.st = .ring) (hFseq : lineFseq l = q.collectFseq)
    (hAddr : lineAddr l = d.mem.val + 1 ∨ lineAddr l = 0) (hCollects : q.collecting = true)
    (hSeq : q.curSeq = some (leAt (linePayload l) 0 2)) (hNone : recOf q (d.mem.val + 1) = none) :
    leaves (.record t d l) s d.pair.val (fun r u => recOf r (d.mem.val + 1) = some (linePayload l)
      ∧ (lmem u (memNo d.pair.val (d.mem.val + 1))).lastAt = max s.now t) := by
  have hAt : (s.at t).pairs[d.pair.val]? = some q := h
  have hTrain := recordDo_of_train hAt hRead hSt hGood hRecord hFseq hAddr
  obtain ⟨r₁, hCounted, -, hStill, hSame, hGot⟩ := getElem?_trainRecord hAt true
  obtain ⟨r₂, hKept, hIn⟩ := keepRecord_keeps hCounted (hStill.trans hCollects) (hSame.trans hSeq)
    (show recOf r₁ (d.mem.val + 1) = none by rwa [recOf, hGot])
  obtain ⟨r, hEnd, hQueues⟩ := getElem?_of_map (u := recordDo d l (s.at t))
    (by rw [hTrain, recordTaken_map_unqueued]) hKept
  refine leaves_of_row (exec_record ..) hUp (by simpa [State.pair_of_getElem? hAt] using hCarries) hEnd ⟨?_, ?_⟩
  · have hSameGot : r.got = r₂.got := (congrArg Pair.got hQueues :)
    rwa [recOf, hSameGot]
  · rw [lmem_congr (v := recordDo d l (s.at t)) (by simp), hTrain, recordTaken_lastAt]
    simp

theorem leaves_record_of_read {d : Dev} {l : List Chip} (hUp : s.shellUp = true) (h : s.pairs[d.pair.val]? = some q)
    (hCarries : pairCarries q = true) (hGood : lineGood l = true) (hRecord : isRecord l = true)
    (hRead : readSide s d.pair.val (d.mem.val + 1) = some (sd, o)) (hFseq : lineFseq l = o.fseq) :
    leaves (.record t d l) s d.pair.val (fun r _ => (sidePort r sd).out = none) := by
  have hAt : (s.at t).pairs[d.pair.val]? = some q := h
  have hTaken := recordDo_of_read (s := s.at t) hRead hGood hRecord hFseq
  obtain ⟨r₁, hDone, hFree⟩ := readDone_ends (sd := sd) hAt o (linePayload l)
  obtain ⟨r, hEnd, hOuts⟩ := out_of_map_outs (u := recordDo d l (s.at t))
    (by rw [hTaken, map_outs_of_unqueued (recordTaken_map_unqueued ..), keepRecord_map_outs]) hDone sd
  exact leaves_of_row (exec_record ..) hUp (by simpa [State.pair_of_getElem? hAt] using hCarries) hEnd (hOuts.trans hFree)

theorem ledgerBalanceRead_gives {d : Dev} {l : List Chip} (hUp : s.shellUp = true) (h : s.pairs[d.pair.val]? = some q)
    (hSide : balSide s d.pair.val (d.pair.val * 32 + d.mem.val) = some sd) (hOut : (sidePort q sd).out = some o)
    (hGood : lineGood l = true) (hType : lineType l = 8) (hDir : lineH0 l 3 = true) (hFseq : lineFseq l = o.fseq)
    (hStatus : byteAt (linePayload l) 0 = 0) :
    let i := d.pair.val * 32 + d.mem.val
    let ws := wordsOf ((linePayload l).drop 1)
    ∃ u, exec (.ledgerBalanceRead t d l) s = .next u ∧ (lmem u i).needRead = false ∧ (lmem u i).counted = true
      ∧ (lmem u i).qmb = signed 48 (ws.getD 54 0 + ws.getD 55 0 * 65536 + ws.getD 56 0 * 4294967296) := by
  intro i ws
  have hAt : (s.at t).pairs[d.pair.val]? = some q := h
  have hSideAt : balSide (s.at t) d.pair.val i = some sd := hSide
  have hOrigin := balSide_origin hAt hSide hOut
  obtain ⟨v, -, hAck, -⟩ := ackIn_of_good hAt hOut hGood hType hDir hFseq
  have hRead : finishCmd v d.pair.val sd o.cmd 0 ((linePayload l).drop 1)
      = balanceRead (heardFrom v d.pair.val (memberAt v d.pair.val sd o.cmd.pos o.cmd.addr) o.cmd) i ws := by
    simp [finishCmd, hOrigin, i, ws]
  rw [hStatus, hRead] at hAck
  have hRow := exec_of_row (exec_ledgerBalanceRead t d l s) hUp (by simp [hSideAt, i])
  refine ⟨_, hRow, ?_⟩
  have hLedger : (finish (ackIn (s.at t) d.pair.val ((balSide (s.at t) d.pair.val i).getD .a) l)).ledger
      = (balanceRead (heardFrom v d.pair.val (memberAt v d.pair.val sd o.cmd.pos o.cmd.addr) o.cmd) i ws).ledger := by
    simp [hSideAt, hAck]
  rw [lmem_congr hLedger]
  exact balanceRead_gives ..

end

/-- Settles O28: each row's condition holds under the statement's hypotheses, and what the row does is the lemma above about it.
RSTAT gives a mailbox status by 16 R376 and Table 16-1. The model's readings: assumption logs 41, 44 and 165. -/
theorem chainCommandsAreAnswered : Obligations.ChainCommandsAreAnswered := by
  refine ⟨fun s t p sd q hUp h => ?_, fun s t d q line hUp h hGood => ?_⟩
  · have hAt : (s.at t).pairs[p.val]? = some q := h
    refine ⟨fun c cs hQueue hTalks hMay => ⟨?sends, ?refused⟩, ?answer, ?again, ?last⟩
    case sends =>
      intro hBar hAddr
      obtain ⟨r, hEnd, hTaken, hNext, hHeld, hSent⟩ := windowSend_sends hAt hQueue hTalks hMay hBar hAddr
      exact leaves_of_row (exec_chainCommandWindow ..) hUp rfl hEnd ⟨hTaken, hNext, hHeld, chainFrame_mem_out_finish hSent⟩
    case refused =>
      intro hBar
      obtain ⟨hEnd, hRefused⟩ := windowSend_refuses hAt hQueue hTalks hMay hBar
      have hFree := out_of_mayStart hAt hMay
      exact leaves_of_row (exec_chainCommandWindow ..) hUp rfl hEnd
        ⟨by simp, by simpa using hFree, fun m hm hCurrent => answersWith_finish (hRefused m hm hCurrent)⟩
    case answer =>
      intro o line hOut hOrigin hGood hType hDir hFseq
      exact leaves_ack hUp h hOut hOrigin hGood hType hDir hFseq
    case again =>
      intro o hOut hTime hBar hRetry hTries hLine
      exact leaves_timeout_repeated hUp h hOut hTime hBar hRetry hTries hLine
    case last =>
      intro o hOut hTime hBar hRetry hTries
      exact leaves_timeout_of_last hUp h hOut hTime hBar hRetry hTries
  · refine ⟨fun hCarries hRecord => ⟨?train, ?read⟩, ?balance⟩
    case train =>
      intro hRead hSt hFseq hAddr hCollects hSeq hNone
      exact leaves_record_of_train hUp h hCarries hGood hRecord hRead hSt hFseq hAddr hCollects hSeq hNone
    case read =>
      intro sd o hRead hFseq
      exact leaves_record_of_read hUp h hCarries hGood hRecord hRead hFseq
    case balance =>
      intro sd o hSide hOut hType hDir hFseq hStatus
      exact ledgerBalanceRead_gives hUp h hSide hOut hGood hType hDir hFseq hStatus

end Sys2Proof.Machine
end

section
/-! Reading the Ledger (07 R159, R160): what an operation that writes none of its tables leaves to be read, and what one that
writes an entry does. -/

namespace Sys2Proof.Machine

/-! ### The tables of the Ledger -/

/-- The tables of the Ledger: settings, strings, cells and members. -/
def tables (s : State) : Ledger :=
  { set := s.ledger.set, str := s.ledger.str, cell := s.ledger.cell, mem := s.ledger.mem }

section
variable {α : Type} {u v : State}

theorem tables_congr (h : u.ledger = v.ledger) : tables u = tables v := by rw [tables, tables, h]

/-- What is read from the tables alone is the same where they are. -/
theorem view_congr {f : State → α} (hf : ∀ s, f s = f { ledger := tables s }) (h : tables u = tables v) : f u = f v := by
  rw [hf u, hf v, h]

theorem lstr_congr (h : tables u = tables v) (n : Nat) : lstr u n = lstr v n :=
  view_congr (f := fun s => lstr s n) (fun _ => rfl) h
theorem lcell_congr (h : tables u = tables v) (c : Nat) : lcell u c = lcell v c :=
  view_congr (f := fun s => lcell s c) (fun _ => rfl) h
theorem strKept_congr (h : tables u = tables v) (n : Nat) : strKept u n = strKept v n :=
  view_congr (f := fun s => strKept s n) (fun _ => rfl) h

end

section
variable (s : State)

@[simp] theorem tables_finish : tables (finish s) = tables s := tables_congr (by simp)
@[simp] theorem tables_begun (t op : Nat) : tables (begun s t op) = tables s := tables_congr (by simp [begun])
@[simp] theorem tables_served : tables (served s) = tables s := tables_congr (by simp [served])
@[simp] theorem tables_answer (r : Req) (b : List Byte) (es : List ClampEntry) (bulk : List Byte) :
    tables (answer s r b es bulk) = tables s := tables_congr (by simp)
@[simp] theorem tables_storeSetting (ofs : Nat) (b : List Byte) : tables (storeSetting s ofs b) = tables s :=
  tables_congr (by simp)
@[simp] theorem tables_significant : tables (significant s) = tables s := tables_congr (by simp)
@[simp] theorem tables_raiseEvent (tenant op : Nat) (b : List Byte) : tables (raiseEvent s tenant op b) = tables s :=
  tables_congr (by simp)
@[simp] theorem tables_lcEvent (n : Nat) : tables (lcEvent s n) = tables s := tables_congr (by simp)
@[simp] theorem tables_anchorLog (n kind cells : Nat) : tables (anchorLog s n kind cells) = tables s := tables_congr (by simp)
@[simp] theorem tables_ledgerNote (e : LedgerNote) : tables (ledgerNote s e) = tables s := rfl
@[simp] theorem tables_driveGpio : tables (driveGpio s) = tables s := rfl
@[simp] theorem tables_takeSnapshot (cause : Nat) : tables (takeSnapshot s cause) = tables s := by
  unfold takeSnapshot
  split
  · rfl
  · simp [tables]
@[simp] theorem tables_askSnapshot (cause : Nat) : tables (askSnapshot s cause) = tables s := by
  unfold askSnapshot
  split
  · simp
  · rfl

end

/-! ### One entry changes -/

section
variable (s : State) (n : Nat)

@[simp] theorem lstr_updCell (f : LCell → LCell) (k : Nat) : lstr (updCell s n f) k = lstr s k := rfl
@[simp] theorem lcell_updStr (f : LString → LString) (c : Nat) : lcell (updStr s n f) c = lcell s c := rfl
@[simp] theorem lstr_updStr_self (f : LString → LString) : lstr (updStr s n f) n = f (lstr s n) := tblGet_tblSet ..
@[simp] theorem lcell_updCell_self (f : LCell → LCell) : lcell (updCell s n f) n = f (lcell s n) := tblGet_tblSet ..
theorem lstr_updStr_ne {k : Nat} (h : k ≠ n) (f : LString → LString) : lstr (updStr s n f) k = lstr s k :=
  tblGet_tblSet_ne h ..
theorem lcell_updCell_ne {c : Nat} (h : c ≠ n) (f : LCell → LCell) : lcell (updCell s n f) c = lcell s c :=
  tblGet_tblSet_ne h ..

end

section
variable {α : Type}

/-- What one entry's change keeps of that entry stands for every entry. -/
theorem lstr_updStr {g : LString → α} {f : LString → LString} (hf : ∀ l, g (f l) = g l) (s : State) (n k : Nat) :
    g (lstr (updStr s n f) k) = g (lstr s k) := by
  by_cases h : k = n
  · rw [h, lstr_updStr_self, hf]
  · rw [lstr_updStr_ne s n h]

theorem lcell_updCell {g : LCell → α} {f : LCell → LCell} (hf : ∀ x, g (f x) = g x) (s : State) (n c : Nat) :
    g (lcell (updCell s n f) c) = g (lcell s c) := by
  by_cases h : c = n
  · rw [h, lcell_updCell_self, hf]
  · rw [lcell_updCell_ne s n h]

end

/-! ### One entry after another changes -/

section
variable {α : Type} {f : State → α → State}

theorem foldl_keeps {β : Type} {g : State → β} (hf : ∀ s x, g (f s x) = g s) (l : List α) (s : State) :
    g (l.foldl f s) = g s :=
  List.foldlRecOn (motive := fun v => g v = g s) l f rfl (fun v hv x _ => (hf v x).trans hv)

/-- The change of `x`, however often it is made, makes true what the changes of the others keep. -/
theorem foldl_of_mem {I J : State → Prop} {l : List α} {x : α} (hx : x ∈ l) (hWeaker : ∀ s, J s → I s)
    (hBefore : ∀ s y, x ≠ y → I s → I (f s y)) (hAt : ∀ s, I s → J (f s x)) (hAfter : ∀ s y, x ≠ y → J s → J (f s y))
    {s : State} (h : I s) : J (l.foldl f s) := by
  obtain ⟨l₁, l₂, rfl⟩ := List.append_of_mem hx
  rw [List.foldl_append, List.foldl_cons]
  refine List.foldlRecOn l₂ f (hAt _ (List.foldlRecOn l₁ f h (fun v hv y _ => ?_))) (fun v hv y _ => ?_)
  · by_cases hy : x = y
    · exact hy ▸ hWeaker _ (hAt v hv)
    · exact hBefore v y hy hv
  · by_cases hy : x = y
    · exact hy ▸ hAt v (hWeaker v hv)
    · exact hAfter v y hy hv

/-- So it does where `x` is changed once, whatever a second change would do. -/
theorem foldl_of_nodup {I J : State → Prop} {l : List α} {x : α} (hx : x ∈ l) (hl : l.Nodup)
    (hBefore : ∀ s y, x ≠ y → I s → I (f s y)) (hAt : ∀ s, I s → J (f s x)) (hAfter : ∀ s y, x ≠ y → J s → J (f s y))
    {s : State} (h : I s) : J (l.foldl f s) := by
  obtain ⟨l₁, l₂, rfl⟩ := List.append_of_mem hx
  obtain ⟨-, hNotAfter, hApart⟩ := List.nodup_append.mp hl
  have hFirst {y : α} (hy : y ∈ l₁) : x ≠ y := (hApart y hy x (List.mem_cons_self ..)).symm
  have hLast {y : α} (hy : y ∈ l₂) : x ≠ y := fun he => (List.nodup_cons.mp hNotAfter).1 (he ▸ hy)
  rw [List.foldl_append, List.foldl_cons]
  exact List.foldlRecOn l₂ f (hAt _ (List.foldlRecOn l₁ f h (fun v hv y hy => hBefore v y (hFirst hy) hv)))
    (fun v hv y hy => hAfter v y (hLast hy) hv)

end

section
variable {f : LCell → LCell} {cs : List Nat} {c : Nat}

@[simp] theorem lstr_foldl_updCell (s : State) (n : Nat) : lstr (cs.foldl (fun s c => updCell s c f) s) n = lstr s n :=
  foldl_keeps (g := fun s => lstr s n) (f := fun s c => updCell s c f) (fun _ _ => rfl) cs s

/-- Every cell of a list has what the change of each of them gives. -/
theorem lcell_foldl_updCell {P : LCell → Prop} (hf : ∀ x, P (f x)) (hc : c ∈ cs) (s : State) :
    P (lcell (cs.foldl (fun s c => updCell s c f) s) c) := by
  refine foldl_of_mem (I := fun _ => True) (J := fun s => P (lcell s c)) hc (fun _ _ => trivial) (fun _ _ _ _ => trivial)
    (fun s _ => ?_) (fun s y hy h => ?_) trivial
  · rw [lcell_updCell_self]
    exact hf _
  · rwa [lcell_updCell_ne s y hy]

end

/-! ### Which cells a string has (07 R160; 20 R461) -/

/-- What says which strings there are, with which settings in force and which cells: the records of strings and members, and
the settings held until the next counted sweep. -/
def layout (s : State) : Tbl StrSet × Tbl Member × (Nat → Option StrSet) :=
  (s.ledger.set, s.ledger.mem, fun n => (lstr s n).held)

section
variable {u v : State}

theorem layout_congr (h : tables u = tables v) : layout u = layout v := view_congr (fun _ => rfl) h

@[simp] theorem layout_updCell (s : State) (c : Nat) (f : LCell → LCell) : layout (updCell s c f) = layout s := rfl

theorem layout_updStr (s : State) (n : Nat) {f : LString → LString} (hf : ∀ l, (f l).held = l.held) :
    layout (updStr s n f) = layout s :=
  Prod.ext rfl (Prod.ext rfl (funext fun k => lstr_updStr hf s n k))

theorem strSet_of_layout (h : layout u = layout v) (n : Nat) : strSet u n = strSet v n := by
  have hSet : u.ledger.set = v.ledger.set := congrArg Prod.fst h
  have hHeld : (lstr u n).held = (lstr v n).held := congrFun (congrArg (fun w => w.2.2) h) n
  simp only [strSet, strKept, hSet, hHeld]

theorem strOn_of_layout (h : layout u = layout v) (n : Nat) : strOn u n = strOn v n := by
  rw [strOn, strOn, strSet_of_layout h]

theorem memberCells_of_layout (h : layout u = layout v) (i : Nat) : memberCells u i = memberCells v i := by
  have hMem : u.ledger.mem = v.ledger.mem := congrArg (fun w => w.2.1) h
  rw [memberCells, memberCells, lmem, lmem, hMem]

theorem strCells_of_layout (h : layout u = layout v) (n : Nat) : strCells u n = strCells v n := by
  simp only [strCells, strSet_of_layout h, memberCells_of_layout h]

theorem strOfCell_of_layout (h : layout u = layout v) (c : Nat) : strOfCell u c = strOfCell v c := by
  simp only [strOfCell, strOfMember, strOn_of_layout h, strSet_of_layout h]

end

end Sys2Proof.Machine
end

section
/-! What the judgement of EOD and EOC and the end of a learning cycle leave in the Ledger's tables (07 R171, R172, R176, R178). -/

namespace Sys2Proof.Machine

section
variable {β : Type} (s : State) (n : Nat)

/-! ### EOD and EOC (07 R171, R172) -/

/-- What holds where the tables are the same and stands when EOD and EOC of string n change is left by their judgement. -/
theorem judge_keeps {g : State → β} (hTables : ∀ {u v}, tables u = tables v → g u = g v)
    (hStr : ∀ s eod eoc, g (updStr s n (fun l => { l with eod := eod, eoc := eoc })) = g s) : g (judge s n) = g s := by
  unfold judge
  extract_lets x l cells open_ top any all q f eod eoc v
  split
  · rfl
  · rw [hTables (tables_driveGpio _), hTables (tables_raiseEvent ..), hStr]

@[simp] theorem lcell_judge (c : Nat) : lcell (judge s n) c = lcell s c :=
  judge_keeps s n (g := fun s => lcell s c) (fun h => lcell_congr h c) (fun _ _ _ => rfl)

theorem lstr_judge {g : LString → β} (hg : ∀ l eod eoc, g { l with eod := eod, eoc := eoc } = g l) (k : Nat) :
    g (lstr (judge s n) k) = g (lstr s k) :=
  judge_keeps s n (g := fun s => g (lstr s k)) (fun h => by rw [lstr_congr h])
    (fun s eod eoc => lstr_updStr (fun l => hg l eod eoc) s n k)

@[simp] theorem judge_lc (k : Nat) : (lstr (judge s n) k).lc = (lstr s k).lc := lstr_judge s n (fun _ _ _ => rfl) k

@[simp] theorem judge_lcReason (k : Nat) : (lstr (judge s n) k).lcReason = (lstr s k).lcReason :=
  lstr_judge s n (fun _ _ _ => rfl) k

/-! ### The end of a cycle (07 R176, R178) -/

theorem disqualify_keeps {g : State → β} (hTables : ∀ {u v}, tables u = tables v → g u = g v)
    (hStr : ∀ s f, (∀ l : LString, (f l).held = l.held) → g (updStr s n f) = g s)
    (hCell : ∀ s c, g (updCell s c (fun x => { x with cyc := false })) = g s) (codes : List Nat) :
    g (disqualify s n codes) = g s := by
  unfold disqualify
  dsimp only
  split
  case h_1 => rfl
  case h_2 =>
    generalize hNotes : List.foldl _ s _ = v
    have hNoted : g v = g s := by
      rw [← hNotes]
      exact foldl_keeps (fun _ _ => hTables (tables_ledgerNote ..)) _ _
    split
    · split
      · rw [hTables (tables_lcEvent ..), hStr _ _ (by intro; rfl), hNoted]
      · exact hNoted
    · rw [judge_keeps _ _ hTables (fun s eod eoc => hStr s _ (fun _ => rfl)), hTables (tables_lcEvent ..),
        foldl_keeps hCell, hStr _ _ (by intro; rfl), hNoted]

theorem lcell_disqualify {g : LCell → β} (hg : ∀ x : LCell, g { x with cyc := false } = g x) (codes : List Nat) (c : Nat) :
    g (lcell (disqualify s n codes) c) = g (lcell s c) :=
  disqualify_keeps s n (g := fun s => g (lcell s c)) (fun h => by rw [lcell_congr h]) (fun _ _ _ => rfl)
    (fun s k => lcell_updCell hg s k c) codes

theorem lstr_disqualify_ne {k : Nat} (h : k ≠ n) (codes : List Nat) : lstr (disqualify s n codes) k = lstr s k :=
  disqualify_keeps s n (g := fun s => lstr s k) (fun h => lstr_congr h k) (fun s _ _ => lstr_updStr_ne s n h _)
    (fun _ _ => rfl) codes

variable {s n}

/-- A cycle that is RUNNING, or ARMED with reasons that end an ARMED one, is disqualified for the lowest of its reasons, and
its anchors are forgotten. -/
theorem disqualify_ends {code : Nat} {codes : List Nat} (hOpen : (lstr s n).lc = .running ∨
      (lstr s n).lc = .armed ∧ ∀ c ∈ code :: codes, armedCode c = true) :
    (lstr (disqualify s n (code :: codes)) n).lc = .disqualified
      ∧ (lstr (disqualify s n (code :: codes)) n).lcReason = codes.foldl min code
      ∧ ∀ c ∈ strCells s n, (lcell (disqualify s n (code :: codes)) c).cyc = false := by
  have hLive : lcLive s n = (lstr s n).lc := by
    unfold lcLive
    dsimp only
    split
    · next hLc _ => simp [hLc] at hOpen
    · rfl
  have hMine : (if lcLive s n == .running then code :: codes
      else if lcLive s n == .armed then (code :: codes).filter armedCode else []) = code :: codes := by
    rcases hOpen with hLc | ⟨hLc, hArmed⟩
    · simp [hLive, hLc]
    · simpa [hLive, hLc] using hArmed
  have hLc : ((lstr s n).lc == .disqualified) = false := by rcases hOpen with hLc | ⟨hLc, -⟩ <;> simp [hLc]
  unfold disqualify
  simp only [hMine, hLc, Bool.false_eq_true, if_false]
  generalize hNoted : List.foldl _ s (code :: codes) = v
  have hTables : tables v = tables s := by rw [← hNoted]; exact foldl_keeps (fun _ _ => tables_ledgerNote ..) _ _
  generalize hStr : updStr v n _ = w
  have hLayout : layout w = layout s := by
    rw [← hStr]
    exact (layout_updStr v n (by intro; rfl)).trans (layout_congr hTables)
  refine ⟨?_, ?_, fun c hc => ?_⟩
  · rw [judge_lc, lstr_congr (tables_lcEvent ..), lstr_foldl_updCell, ← hStr, lstr_updStr_self]
  · rw [judge_lcReason, lstr_congr (tables_lcEvent ..), lstr_foldl_updCell, ← hStr, lstr_updStr_self]
  · rw [lcell_judge, lcell_congr (tables_lcEvent ..), strCells_of_layout hLayout]
    exact lcell_foldl_updCell (P := fun x => x.cyc = false) (fun _ => rfl) hc w

end

end Sys2Proof.Machine
end

section
/-! Anchors and the completion of a learning cycle, as the cells and the string have them afterwards (07 R167 to R170, R177, R180
to R182). -/

namespace Sys2Proof.Machine

/-! ### A cell's anchor (07 R169) -/

/-- A cell that has taken an anchor of a kind at charge `q` and time `at_`. -/
def LCell.anchor (x : LCell) (q : Int) (kind at_ : Nat) : LCell :=
  { x with qRem := q, a := 0, uX := 0, uOfs := 0, anchorAt := some at_, anchorOlder := 0, kind := kind, valid := true, adj := 0 }

/-- A cell stands at such an anchor, with capacity `cL`. -/
def AnchoredAt (x : LCell) (cL : Nat) (q : Int) (kind at_ : Nat) : Prop :=
  x.qRem = q ∧ x.a = 0 ∧ x.uX = 0 ∧ x.uOfs = 0 ∧ x.adj = 0 ∧ x.valid = true ∧ x.kind = kind ∧ x.anchorAt = some at_ ∧ x.cL = cL

theorem tables_takeAnchor (s : State) (c kind : Nat) (q : Int) :
    tables (takeAnchor s c kind q) = tables (updCell s c (fun x => x.anchor q kind s.now)) := rfl

theorem lcell_takeAnchor_self (s : State) (c kind : Nat) (q : Int) :
    lcell (takeAnchor s c kind q) c = (lcell s c).anchor q kind s.now := by
  rw [lcell_congr (tables_takeAnchor ..), lcell_updCell_self]

theorem lcell_takeAnchor_ne (s : State) {c d : Nat} (h : d ≠ c) (kind : Nat) (q : Int) :
    lcell (takeAnchor s c kind q) d = lcell s d := by
  rw [lcell_congr (tables_takeAnchor ..), lcell_updCell_ne s c h]

/-! ### The start of a cycle (07 R177) -/

section
variable (s : State) (n : Nat)

theorem enterRunning_keeps {β : Type} {g : State → β}
    (hStr : ∀ s f, (∀ l : LString, (f l).held = l.held ∧ (f l).termDue = l.termDue) → g (updStr s n f) = g s)
    (hCell : ∀ s c, g (updCell s c (fun x => { x with cycBal := 0 })) = g s) : g (enterRunning s n) = g s := by
  unfold enterRunning
  split
  · rfl
  · rw [hStr _ _ (by intro; exact ⟨rfl, rfl⟩), foldl_keeps hCell]

theorem enterRunning_termDue (k : Nat) : (lstr (enterRunning s n) k).termDue = (lstr s k).termDue :=
  enterRunning_keeps s n (g := fun s => (lstr s k).termDue)
    (fun s _ hf => lstr_updStr (g := LString.termDue) (fun l => (hf l).2) s n k) (fun _ _ => rfl)

theorem enterRunning_cL (c : Nat) : (lcell (enterRunning s n) c).cL = (lcell s c).cL :=
  enterRunning_keeps s n (g := fun s => (lcell s c).cL) (fun _ _ _ => rfl)
    (fun s k => lcell_updCell (g := LCell.cL) (by intro; rfl) s k c)

variable {s n}

theorem enterRunning_of_armed (h : (lstr s n).lc = .armed) : (lstr (enterRunning s n) n).lc = .running := by
  simp [enterRunning, h]

end

/-! ### Full anchors (07 R169, R177) -/

/-- A full anchor of one cell of a string: Q_REM is C_L, and with `cyc` the cell is anchored in the cycle. -/
def fullAnchor (kind : Nat) (cyc : Bool) (s : State) (c : Nat) : State :=
  updCell (takeAnchor s c kind (capUc (lcell s c))) c (fun x => { x with
    taperSince := if kind = 1 then some s.now else x.taperSince, taperHit := false, cyc := cyc || x.cyc
    d := if cyc then 0 else x.d })

section
variable {s : State} {n kind c : Nat} {cells : List Nat}

theorem fullAnchors_eq (hCells : cells ≠ []) : ∃ cyc, fullAnchors s n kind cells
    = judge (anchorLog (cells.foldl (fullAnchor kind cyc) (enterRunning s n)) n kind cells.length) n := by
  refine ⟨(lstr (enterRunning s n) n).lc == .running && !(lstr (enterRunning s n) n).lcDisch, ?_⟩
  rw [fullAnchors, if_neg (by simpa using hCells)]
  rfl

theorem lcell_fullAnchor_self (cyc : Bool) (s : State) (c : Nat) :
    AnchoredAt (lcell (fullAnchor kind cyc s c) c) (lcell s c).cL (capUc (lcell s c)) kind s.now := by
  rw [fullAnchor, lcell_updCell_self, lcell_takeAnchor_self]
  exact ⟨rfl, rfl, rfl, rfl, rfl, rfl, rfl, rfl, rfl⟩

theorem lcell_fullAnchor_ne (cyc : Bool) (s : State) {d : Nat} (h : d ≠ c) :
    lcell (fullAnchor kind cyc s c) d = lcell s d := by
  rw [fullAnchor, lcell_updCell_ne _ _ h, lcell_takeAnchor_ne s h]

/-- Each cell named takes its full anchor. -/
theorem fullAnchors_anchor (hc : c ∈ cells) : AnchoredAt (lcell (fullAnchors s n kind cells) c) (lcell s c).cL
    (capUc (lcell s c)) kind s.now := by
  obtain ⟨cyc, hEq⟩ := fullAnchors_eq (s := s) (n := n) (kind := kind) (List.ne_nil_of_mem hc)
  rw [hEq, lcell_judge, lcell_congr (tables_anchorLog ..), capUc]
  refine And.left (b := (cells.foldl (fullAnchor kind cyc) (enterRunning s n)).now = s.now)
    (foldl_of_mem (I := fun v => (lcell v c).cL = (lcell s c).cL ∧ v.now = s.now)
      (J := fun v => AnchoredAt (lcell v c) (lcell s c).cL ((lcell s c).cL * 360000 : Nat) kind s.now ∧ v.now = s.now)
      hc ?weaker ?before ?anchor ?after ⟨enterRunning_cL .., by simp⟩)
  case weaker =>
    rintro v ⟨⟨-, -, -, -, -, -, -, -, hCap⟩, hNow⟩
    exact ⟨hCap, hNow⟩
  case anchor =>
    rintro v ⟨hCap, hNow⟩
    have hAnchor := lcell_fullAnchor_self (kind := kind) cyc v c
    rw [capUc, hCap, hNow] at hAnchor
    exact ⟨hAnchor, by simp [fullAnchor, hNow]⟩
  case before =>
    rintro v y hy ⟨hCap, hNow⟩
    exact ⟨by rw [lcell_fullAnchor_ne cyc v hy, hCap], by simp [fullAnchor, hNow]⟩
  case after =>
    rintro v y hy ⟨hAnchored, hNow⟩
    exact ⟨by rwa [lcell_fullAnchor_ne cyc v hy], by simp [fullAnchor, hNow]⟩

theorem lstr_fullAnchors {β : Type} {g : LString → β} (hg : ∀ l eod eoc, g { l with eod := eod, eoc := eoc } = g l)
    (hCells : cells ≠ []) (k : Nat) : g (lstr (fullAnchors s n kind cells) k) = g (lstr (enterRunning s n) k) := by
  obtain ⟨cyc, hEq⟩ := fullAnchors_eq (s := s) (n := n) (kind := kind) hCells
  rw [hEq, lstr_judge _ _ hg, lstr_congr (tables_anchorLog ..)]
  exact foldl_keeps (g := fun s => g (lstr s k)) (f := fullAnchor kind cyc) (fun _ _ => rfl) cells _

theorem fullAnchors_starts (hCells : cells ≠ []) (h : (lstr s n).lc = .armed) :
    (lstr (fullAnchors s n kind cells) n).lc = .running :=
  (lstr_fullAnchors (g := LString.lc) (fun _ _ _ => rfl) hCells n).trans (enterRunning_of_armed h)

theorem fullAnchors_termDue (k : Nat) : (lstr (fullAnchors s n kind cells) k).termDue = (lstr s k).termDue := by
  by_cases hCells : cells = []
  · simp [fullAnchors, hCells]
  · exact (lstr_fullAnchors (g := LString.termDue) (fun _ _ _ => rfl) hCells k).trans (enterRunning_termDue ..)

end

/-! ### Empty anchors (07 R169, R180) -/

section
variable {s : State} {n c : Nat} {cells : List Nat}

theorem lcell_emptyAnchor_self (s : State) (c : Nat) :
    AnchoredAt (lcell (emptyAnchor s c) c) (lcell s c).cL 0 3 s.now := by
  rw [emptyAnchor, lcell_updCell_self, lcell_takeAnchor_self]
  exact ⟨rfl, rfl, rfl, rfl, rfl, rfl, rfl, rfl, rfl⟩

theorem lcell_emptyAnchor_ne (s : State) {d : Nat} (h : d ≠ c) : lcell (emptyAnchor s c) d = lcell s d := by
  rw [emptyAnchor, lcell_updCell_ne _ _ h, lcell_takeAnchor_ne s h]

/-- A cell is at an empty anchor. -/
def EmptyAnchored (x : LCell) : Prop := x.qRem = 0 ∧ x.kind = 3

theorem emptyAnchored_foldl (hc : c ∈ cells) (s : State) : EmptyAnchored (lcell (cells.foldl emptyAnchor s) c) := by
  refine foldl_of_mem (I := fun _ => True) (J := fun v => EmptyAnchored (lcell v c)) hc (fun _ _ => trivial)
    (fun _ _ _ _ => trivial) (fun v _ => ?_) (fun v y hy hv => ?_) trivial
  · obtain ⟨hQ, -, -, -, -, -, hKind, -⟩ := lcell_emptyAnchor_self v c
    exact ⟨hQ, hKind⟩
  · rwa [lcell_emptyAnchor_ne v hy]

/-! ### The end of a cycle at its first empty anchor (07 R180 to R182) -/

theorem tables_report (p : Prop) [Decidable p] (s : State) (fields : List Byte) :
    tables (if p then raiseEvent s 0 0x03E3 fields else s) = tables s := by
  split
  · exact tables_raiseEvent ..
  · rfl

/-- A capacity update leaves a cell that was emptied at its empty anchor. -/
theorem emptyAnchored_updateCap {emptied : List Nat} (hc : c ∈ emptied) (h : EmptyAnchored (lcell s c)) (n : Nat) :
    EmptyAnchored (lcell (updateCap s n emptied) c) := by
  refine List.foldlRecOn (motive := fun v => EmptyAnchored (lcell v c)) _ _ h (fun v hv y _ => ?_)
  dsimp only
  split
  · exact hv
  · by_cases hy : c = y
    · obtain ⟨-, hKind⟩ := hv
      rw [← hy, lcell_updCell_self, lcell_congr (tables_report ..)]
      exact ⟨if_pos (by simpa using hc), hKind⟩
    · rwa [lcell_updCell_ne _ _ hy, lcell_congr (tables_report ..)]

theorem emptyReasons_sublist (s : State) (n : Nat) : (emptyReasons s n).Sublist [3, 4, 6, 8, 11] := by
  have hOne (b : Bool) (code : Nat) : (if b = true then [code] else []).Sublist [code] := by cases b <;> simp
  exact ((((hOne _ 3).append (hOne _ 4)).append (hOne _ 6)).append (hOne _ 8)).append (hOne _ 11)

/-- The reasons are listed from the lowest on. -/
theorem foldl_min_of_emptyReasons {code : Nat} {more : List Nat} (h : emptyReasons s n = code :: more) :
    more.foldl min code = code := by
  have hSorted : (emptyReasons s n).Pairwise (· < ·) := .sublist (emptyReasons_sublist s n) (by decide)
  rw [h, List.pairwise_cons] at hSorted
  refine List.foldlRecOn (motive := fun low => low = code) more min rfl (fun low hLow c hc => ?_)
  rw [hLow, Nat.min_eq_left (Nat.le_of_lt (hSorted.1 c hc))]

/-- What has its empty anchor when the cycle completes: every cell of the string that meets the empty condition. -/
def allEmptied (s : State) (n : Nat) : State :=
  let cells := (strCells s n).filter (emptyNow s n)
  anchorLog (cells.foldl emptyAnchor s) n 3 cells.length

theorem lstr_allEmptied (s : State) (n k : Nat) : lstr (allEmptied s n) k = lstr s k := by
  rw [allEmptied, lstr_congr (tables_anchorLog ..)]
  exact foldl_keeps (g := fun s => lstr s k) (f := emptyAnchor) (fun _ _ => rfl) _ s

/-- What a cycle's completion then comes to: its capacities are updated and it is DONE. -/
def doneCycle (s : State) (n : Nat) : State :=
  updStr (updateCap (allEmptied s n) n ((strCells s n).filter (emptyNow s n))) n (fun l => { l with lc := .done, lcReason := 0 })

theorem completeCycle_of_reasons (h : emptyReasons s n ≠ []) :
    completeCycle s n = disqualify (allEmptied s n) n (emptyReasons s n) :=
  if_pos (by simpa using h)

theorem completeCycle_of_none (h : emptyReasons s n = []) :
    completeCycle s n = judge (significant (askSnapshot (lcEvent (doneCycle s n) n) 2)) n :=
  if_neg (by simpa using h)

theorem completeCycle_fails {code : Nat} {more : List Nat} (hRuns : (lstr s n).lc = .running)
    (h : emptyReasons s n = code :: more) :
    (lstr (completeCycle s n) n).lc = .disqualified ∧ (lstr (completeCycle s n) n).lcReason = code := by
  obtain ⟨hLc, hReason, -⟩ := disqualify_ends (s := allEmptied s n) (n := n) (code := code) (codes := more)
    (.inl (by rw [lstr_allEmptied, hRuns]))
  rw [completeCycle_of_reasons (by simp [h]), h]
  exact ⟨hLc, hReason.trans (foldl_min_of_emptyReasons h)⟩

theorem completeCycle_done (h : emptyReasons s n = []) :
    (lstr (completeCycle s n) n).lc = .done
      ∧ ∀ c ∈ strCells s n, emptyNow s n c = true → EmptyAnchored (lcell (completeCycle s n) c) := by
  have hTables : tables (significant (askSnapshot (lcEvent (doneCycle s n) n) 2)) = tables (doneCycle s n) := by simp
  rw [completeCycle_of_none h]
  refine ⟨by rw [judge_lc, lstr_congr hTables, doneCycle, lstr_updStr_self], fun c hc hEmpty => ?_⟩
  have hMem : c ∈ (strCells s n).filter (emptyNow s n) := List.mem_filter.mpr ⟨hc, hEmpty⟩
  rw [lcell_judge, lcell_congr hTables, doneCycle, lcell_updStr]
  refine emptyAnchored_updateCap hMem ?_ n
  rw [allEmptied, lcell_congr (tables_anchorLog ..)]
  exact emptyAnchored_foldl hMem s

end

end Sys2Proof.Machine
end

section
/-! The Ledger's own rows: anchors, expiries, terminations, swap arming, snapshot and restore (07 R167 to R170, R177, R180 to R183,
R186, Table 7-5; 20 R465, R467). -/

namespace Sys2Proof.Machine

section
variable {s : State} {t n : Nat}

/-- A row of the Ledger whose condition holds, while the Ledger counts, does what it does. -/
theorem exec_of_ledgerRow {i : Instr} {c : State → Bool} {f : State → State} (hExec : exec i s = .next (ledgerRow t c f s))
    (hUp : s.shellUp = true) (hReady : s.sys.ledgerReady = true) (hCond : c (s.at t) = true) :
    exec i s = .next (finish (f (s.at t))) :=
  exec_of_row hExec hUp (by simp [hReady, hCond])

@[simp] theorem lstr_finish : lstr (finish s) n = lstr s n := lstr_congr (tables_finish s) n
@[simp] theorem lcell_finish (c : Nat) : lcell (finish s) c = lcell s c := lcell_congr (tables_finish s) c

/-! ### Anchors -/

section
variable {c : Nat}

theorem anchorTaperDo_of_hit (hString : cellString s c = some n) (hHit : (lcell s c).taperHit = true) :
    anchorTaperDo c s = fullAnchors s n 1 [c] := by
  simp [anchorTaperDo, hString, hHit]

theorem anchorEmptyDo_of_running (hString : cellString s c = some n) (hEmpty : emptyNow s n c = true)
    (hRuns : (lstr s n).lc = .running) : anchorEmptyDo c s = completeCycle s n := by
  simp [anchorEmptyDo, hString, hEmpty, hRuns]

theorem anchorEmptyDo_anchor (hString : cellString s c = some n) (hEmpty : emptyNow s n c = true)
    (hRests : (lstr s n).lc ≠ .running) : AnchoredAt (lcell (anchorEmptyDo c s) c) (lcell s c).cL 0 3 s.now := by
  simp only [anchorEmptyDo, hString, hEmpty, hRests, Bool.not_true, Bool.false_eq_true, if_false, beq_iff_eq, lcell_judge]
  rw [lcell_congr (tables_raiseEvent ..), lcell_congr (tables_anchorLog ..)]
  exact lcell_emptyAnchor_self s c

/-- Cells of a string that a termination anchors: verified, and near V_FULL (07 R168). -/
def nearFull (s : State) (n c : Nat) : Bool :=
  match (lcell s c).volt with
  | some v => decide ((strSet s n).vFull ≤ v + (strSet s n).fullMargin)
  | none => false

theorem anchorTermDo_of_due (hOn : strOn s n = true) (hDue : (lstr s n).termDue = true) :
    anchorTermDo n s = fullAnchors (updStr s n (fun l => { l with termPending := false, termDue := false })) n 2
      ((strCells s n).filter (nearFull s n)) := by
  have hLayout : layout (updStr s n (fun l => { l with termPending := false, termDue := false })) = layout s :=
    layout_updStr s n (by intro; rfl)
  simp only [anchorTermDo, hOn, hDue, Bool.not_true, Bool.or_self, Bool.false_eq_true, if_false, strCells_of_layout hLayout]
  rfl

end

/-! ### Expiries of a learning cycle (Table 7-5) -/

theorem exec_disqualifies {i : Instr} {cond : State → Bool} {code : Nat}
    (hExec : exec i s = .next (ledgerRow t cond (fun s => disqualify s n [code]) s)) (hUp : s.shellUp = true)
    (hReady : s.sys.ledgerReady = true) (hCond : cond (s.at t) = true)
    (hOpen : (lstr s n).lc = .running ∨ (lstr s n).lc = .armed ∧ armedCode code = true) :
    ∃ u, exec i s = .next u ∧ (lstr u n).lc = .disqualified ∧ (lstr u n).lcReason = code
      ∧ ∀ c ∈ strCells s n, (lcell u c).cyc = false := by
  have hEnds := disqualify_ends (s := s.at t) (n := n) (code := code) (codes := [])
    (hOpen.imp_right (fun ⟨hLc, hCode⟩ => ⟨hLc, by simpa using hCode⟩))
  refine ⟨_, exec_of_ledgerRow hExec hUp hReady hCond, ?_⟩
  simpa [strCells_of_layout (show layout (s.at t) = layout s from rfl)] using hEnds

/-! ### Terminations (R168) -/

theorem termEvent_cases (s : State) (n : Nat) :
    termEvent s n = updStr s n (fun l => { l with termPending := true, termDue := false })
      ∨ termEvent s n = ledgerNote s (.termination n s.now) :=
  iteInduction (motive := fun u => u = updStr s n (fun l => { l with termPending := true, termDue := false })
    ∨ u = ledgerNote s (.termination n s.now)) (fun _ => .inl rfl) (fun _ => .inr rfl)

@[simp] theorem layout_termEvent : layout (termEvent s n) = layout s := by
  rcases termEvent_cases s n with h | h <;> rw [h]
  · exact layout_updStr s n (by intro; rfl)
  · exact layout_congr (tables_ledgerNote ..)

theorem lstr_termEvent_ne {k : Nat} (hk : k ≠ n) : lstr (termEvent s n) k = lstr s k := by
  rcases termEvent_cases s n with h | h <;> rw [h]
  · exact lstr_updStr_ne s n hk _
  · exact lstr_congr (tables_ledgerNote ..) k

theorem mem_log_termEvent {e : LedgerNote} (he : e ∈ s.ledger.log) : e ∈ (termEvent s n).ledger.log := by
  rcases termEvent_cases s n with h | h <;> rw [h]
  · exact he
  · exact List.mem_append_left _ he

theorem termEvent_of_charged {a : Nat} (hCharged : (lstr s n).chargedAt = some a) (hSoon : s.now ≤ a + secs 60) :
    termEvent s n = updStr s n (fun l => { l with termPending := true, termDue := false }) := by
  simp [termEvent, hCharged, hSoon]

theorem termEvent_of_late {a : Nat} (hCharged : (lstr s n).chargedAt = some a) (hLate : a + secs 60 < s.now) :
    termEvent s n = ledgerNote s (.termination n s.now) := by
  simp [termEvent, hCharged, Nat.not_le.mpr hLate]

/-- A pin's event for one string: a termination where it is enabled and names the pin. -/
def pinEvent (g : Nat) (s : State) (n : Nat) : State :=
  if strOn s n && (strSet s n).termSrc = g + 1 then termEvent s n else s

theorem gpioTermDo_eq (g : Nat) (s : State) : gpioTermDo g s = (List.range 64).foldl (pinEvent g) s := rfl

theorem pinEvent_of_named {g : Nat} (hOn : strOn s n = true) (hSrc : (strSet s n).termSrc = g + 1) :
    pinEvent g s n = termEvent s n := by
  simp [pinEvent, hOn, hSrc]

theorem pinEvent_keeps {β : Type} {f : State → β} {g : Nat} (h : f (termEvent s n) = f s) : f (pinEvent g s n) = f s := by
  unfold pinEvent
  split
  · exact h
  · rfl

theorem mem_log_pinEvent {e : LedgerNote} {g : Nat} (h : e ∈ s.ledger.log) : e ∈ (pinEvent g s n).ledger.log := by
  unfold pinEvent
  split
  · exact mem_log_termEvent h
  · exact h

section
variable {g a : Nat} (hn : n < 64) (hOn : strOn s n = true) (hSrc : (strSet s n).termSrc = g + 1)
include hn hOn hSrc

/-- What the events of a pin make of a string that names it: what its own event does, in the state that the strings before it
have left. -/
theorem gpioTermDo_string {J : State → Prop}
    (hAt : ∀ v, v.now = s.now → lstr v n = lstr s n → J (termEvent v n))
    (hAfter : ∀ v k, n ≠ k → J v → J (pinEvent g v k)) : J (gpioTermDo g s) := by
  rw [gpioTermDo_eq]
  refine foldl_of_nodup (I := fun v => v.now = s.now ∧ layout v = layout s ∧ lstr v n = lstr s n) (List.mem_range.mpr hn)
    List.nodup_range ?_ ?_ hAfter ⟨rfl, rfl, rfl⟩
  · rintro v k hk ⟨hNow, hLayout, hStr⟩
    exact ⟨(pinEvent_keeps (f := State.now) (by simp)).trans hNow, (pinEvent_keeps layout_termEvent).trans hLayout,
      (pinEvent_keeps (f := fun s => lstr s n) (lstr_termEvent_ne hk)).trans hStr⟩
  · rintro v ⟨hNow, hLayout, hStr⟩
    rw [pinEvent_of_named (by rw [strOn_of_layout hLayout, hOn]) (by rw [strSet_of_layout hLayout, hSrc])]
    exact hAt v hNow hStr

theorem gpioTermDo_accepts (hCharged : (lstr s n).chargedAt = some a) (hSoon : s.now ≤ a + secs 60) :
    lstr (gpioTermDo g s) n = { lstr s n with termPending := true, termDue := false } := by
  refine gpioTermDo_string hn hOn hSrc
    (J := fun v => lstr v n = { lstr s n with termPending := true, termDue := false }) (fun v hNow hStr => ?_)
    (fun v k hk hv => (pinEvent_keeps (f := fun s => lstr s n) (lstr_termEvent_ne hk)).trans hv)
  rw [termEvent_of_charged (hStr ▸ hCharged) (hNow ▸ hSoon), lstr_updStr_self, hStr]

theorem gpioTermDo_logs (hCharged : (lstr s n).chargedAt = some a) (hLate : a + secs 60 < s.now) :
    lstr (gpioTermDo g s) n = lstr s n ∧ .termination n s.now ∈ (gpioTermDo g s).ledger.log := by
  refine gpioTermDo_string hn hOn hSrc
    (J := fun v => lstr v n = lstr s n ∧ .termination n s.now ∈ v.ledger.log) (fun v hNow hStr => ?_)
    (fun v k hk hv => ⟨(pinEvent_keeps (f := fun s => lstr s n) (lstr_termEvent_ne hk)).trans hv.1, mem_log_pinEvent hv.2⟩)
  rw [termEvent_of_late (hStr ▸ hCharged) (hNow ▸ hLate), lstr_congr (tables_ledgerNote ..), hNow]
  exact ⟨hStr, List.mem_append_right _ (List.mem_singleton_self _)⟩

end

/-! ### The restore (20 R465, 07 R186) -/

/-- A restore sets what a string last counted, and leaves its cycle. -/
theorem lc_restoreLedger (s : State) (n : Nat) : (lstr (restoreLedger s) n).lc = (lstr s n).lc := by
  unfold restoreLedger
  extract_lets live age v w z
  split
  · refine foldl_keeps (g := fun s => (lstr s n).lc) (fun v c => ?_) _ _
    rfl
  · have hCells : (lstr v n).lc = (lstr s n).lc := by
      refine foldl_keeps (g := fun s => (lstr s n).lc) (fun v c => ?_) _ _
      rfl
    have hStrings : (lstr w n).lc = (lstr v n).lc := by
      refine foldl_keeps (g := fun s => (lstr s n).lc) (fun v k => ?_) _ _
      split
      · exact lstr_updStr (g := LString.lc) (by intro; rfl) v k n
      · rfl
    have hMembers : (lstr z n).lc = (lstr w n).lc := by
      refine foldl_keeps (g := fun s => (lstr s n).lc) (fun v k => ?_) _ _
      dsimp only
      split <;> rfl
    have hAge (v : State) (a : Nat) : tables { v with ledger := { v.ledger with restoreAge := a } } = tables v := rfl
    rw [lstr_congr (hAge _ _), hMembers, hStrings, hCells]

/-- Without a valid snapshot every cell is invalid at C_NOM. -/
theorem lcell_restoreLedger {c : Nat} (hInvalid : snapValid s = false) (hOn : cellOn s c = true) :
    (lcell (restoreLedger s) c).valid = false
      ∧ (lcell (restoreLedger s) c).cL = ((strOfCell s c).map (fun x => x.cNom)).getD 1000000 := by
  have hLive : c < 2304 := by
    simp only [cellOn, Bool.and_eq_true, decide_eq_true_eq] at hOn
    exact hOn.1.1
  unfold restoreLedger
  extract_lets live
  have hMem : c ∈ live := List.mem_filter.mpr ⟨List.mem_range.mpr hLive, hOn⟩
  rw [if_pos (by simp [hInvalid])]
  obtain ⟨-, hCell⟩ := foldl_of_mem (I := fun v => layout v = layout s)
    (f := fun s c => updCell s c (fun _ => { cL := ((strOfCell s c).map (fun x => x.cNom)).getD 1000000 }))
    (J := fun v => layout v = layout s
      ∧ lcell v c = { cL := ((strOfCell s c).map (fun x => x.cNom)).getD 1000000 })
    hMem (fun v hv => hv.1) (fun v y _ hv => hv) (fun v hv => ⟨hv, by rw [lcell_updCell_self, strOfCell_of_layout hv]⟩)
    (fun v y hy hv => ⟨hv.1, by rw [lcell_updCell_ne _ _ hy, hv.2]⟩) rfl
  rw [hCell]
  exact ⟨rfl, rfl⟩

/-- The Ledger and the Assayer count from now on. -/
def counting (s : State) : State :=
  State.updSys { s with ledger := { s.ledger with restored := true, snapAt := s.now } }
    (fun y => { y with ledgerReady := true, assayerReady := true })

theorem tables_counting (s : State) : tables (counting s) = tables s := rfl

/-- The cycles that the reset cut are disqualified. -/
def cutCycles (s : State) : State := (List.range 64).foldl (fun s n => disqualify s n [9]) s

theorem cutCycles_keeps {β : Type} {g : State → β} (h : ∀ s n, g (disqualify s n [9]) = g s) (s : State) :
    g (cutCycles s) = g s := foldl_keeps h _ s

theorem restoreDo_sys (s : State) : (restoreDo s).sys = { s.sys with ledgerReady := true, assayerReady := true } := by
  simp [restoreDo]

theorem restoreDo_keeps {β : Type} {g : State → β} (hTables : ∀ {u v}, tables u = tables v → g u = g v)
    (hJudge : ∀ s n, g (judge s n) = g s) : g (restoreDo s) = g (cutCycles (counting (restoreLedger s))) := by
  have hEnd (v : State) (chans : Tbl RChan) : g { v with assayer := { v.assayer with chans := chans } } = g v := hTables rfl
  unfold restoreDo
  dsimp only
  rw [hTables (tables_driveGpio _), foldl_keeps (g := g) (fun s n => ?_) _ _, hEnd]
  · rfl
  · split
    · exact hJudge s n
    · rfl

theorem restoreDo_ends (hn : n < 64) (hOpen : (lstr s n).lc = .running ∨ (lstr s n).lc = .armed) :
    (lstr (restoreDo s) n).lc = .disqualified ∧ (lstr (restoreDo s) n).lcReason = 9 := by
  have hKept := restoreDo_keeps (s := s) (g := fun s => ((lstr s n).lc, (lstr s n).lcReason))
    (fun h => by rw [lstr_congr h]) (fun s k => by rw [judge_lc, judge_lcReason])
  have hBegin : (lstr (counting (restoreLedger s)) n).lc = (lstr s n).lc := by
    rw [lstr_congr (tables_counting _), lc_restoreLedger]
  have hCut : (lstr (cutCycles (counting (restoreLedger s))) n).lc = .disqualified
      ∧ (lstr (cutCycles (counting (restoreLedger s))) n).lcReason = 9 := by
    refine foldl_of_nodup (I := fun v => (lstr v n).lc = (lstr s n).lc)
      (J := fun v => (lstr v n).lc = .disqualified ∧ (lstr v n).lcReason = 9)
      (List.mem_range.mpr hn) List.nodup_range (fun v k hk hv => ?_) (fun v hv => ?_) (fun v k hk hv => ?_) hBegin
    · rw [lstr_disqualify_ne v k hk, hv]
    · obtain ⟨hLc, hReason, -⟩ := disqualify_ends (s := v) (n := n) (code := 9) (codes := [])
        (by rw [hv]; exact hOpen.imp_right (fun hLc => ⟨hLc, by decide⟩))
      exact ⟨hLc, hReason⟩
    · rwa [lstr_disqualify_ne v k hk]
  obtain ⟨hLc, hReason⟩ := Prod.mk.inj hKept
  rwa [hLc, hReason]

theorem lcell_restoreDo {β : Type} {g : LCell → β} (hg : ∀ x : LCell, g { x with cyc := false } = g x) (c : Nat) :
    g (lcell (restoreDo s) c) = g (lcell (restoreLedger s) c) := by
  rw [restoreDo_keeps (g := fun s => g (lcell s c)) (fun h => by rw [lcell_congr h]) (fun s k => by rw [lcell_judge])]
  rw [cutCycles_keeps (g := fun s => g (lcell s c)) (fun v n => lcell_disqualify v n hg [9] c), lcell_congr (tables_counting _)]

end

end Sys2Proof.Machine
end

section
/-! The Ledger's own rows hold together (07 R167 to R170, R177, R180 to R183, R186, Table 7-5; 20 R465, R467). -/

namespace Sys2Proof.Machine

/-! ### The conditions of the rows under the statement's hypotheses -/

theorem lcIs_of_lc {s : State} {n : Nat} {x : LcSt} (hOn : strOn s n = true) (hLc : (lstr s n).lc = x) : lcIs s n x = true := by
  simp [lcIs, hOn, hLc]

theorem pastRest_of_since {s : State} {n a : Nat} (hRest : (lstr s n).restSince = some a) (hPast : a + secs 7200 < s.now) :
    pastRest s n = true := by
  simp [pastRest, hRest, hPast]

theorem nearFull_of_volt {s : State} {n c v : Nat} (hVolt : (lcell s c).volt = some v)
    (hNear : (strSet s n).vFull ≤ v + (strSet s n).fullMargin) : nearFull s n c = true := by
  simp [nearFull, hVolt, hNear]

theorem ledger_finish (s : State) : (finish s).ledger = s.ledger := by simp

theorem mem_log_finish {s : State} {e : LedgerNote} (h : e ∈ s.ledger.log) : e ∈ (finish s).ledger.log := by
  rwa [ledger_finish]

theorem betweenSweeps_at (s : State) (t : Nat) : betweenSweeps (s.at t) = betweenSweeps s := by
  simp only [betweenSweeps, State.at_at_pair]

/-! ### The obligation -/

/-- Settles O37: each row's condition holds under the statement's hypotheses, and what the row does to the string and its cells is
its lemma above. The model's readings: a termination that is not accepted is an entry of the Ledger's own log (assumption log
56), a SHELL reset leaves of a cycle that it was open (68), the limits of Table 7-5 are strict (69), and a snapshot happens from
59 s on (71). -/
theorem ledgerEventsHappen : Obligations.LedgerEventsHappen := by
  intro s t hUp now z
  refine ⟨fun hReady => ⟨?cells, ?strings, ?absence, ?snapshot⟩, ?restore⟩
  case cells =>
    intro c n hString k
    have hStringAt : cellString z c.val = some n := hString
    refine ⟨fun hHit => ?taper, fun hEmpty hRests => ?empty, fun hEmpty hRuns => ?complete⟩
    case taper =>
      have hRow := exec_of_ledgerRow (exec_anchorTaper t c s) hUp hReady rfl
      rw [anchorTaperDo_of_hit hStringAt hHit] at hRow
      refine ⟨_, hRow, ?_, fun hArmed => ?_⟩
      · rw [lcell_finish]
        exact fullAnchors_anchor (s := z) (List.mem_singleton_self c.val)
      · rw [lstr_finish]
        exact fullAnchors_starts (List.cons_ne_nil _ _) hArmed
    case empty =>
      have hRow := exec_of_ledgerRow (exec_anchorEmpty t c s) hUp hReady rfl
      obtain ⟨hQ, hA, hUx, hUofs, hAdj, hValid, hKind, -, hCap⟩ := anchorEmptyDo_anchor (s := z) hStringAt hEmpty hRests
      refine ⟨_, hRow, ?_⟩
      rw [lcell_finish]
      exact ⟨hQ, hA, hUx, hUofs, hAdj, hValid, hKind, hCap⟩
    case complete =>
      have hRow := exec_of_ledgerRow (exec_anchorEmpty t c s) hUp hReady rfl
      rw [anchorEmptyDo_of_running hStringAt hEmpty hRuns] at hRow
      refine ⟨_, hRow, fun code more hReasons => ?_, fun hNone => ?_⟩
      · rw [lstr_finish]
        exact completeCycle_fails hRuns hReasons
      · obtain ⟨hDone, hCells⟩ := completeCycle_done (s := z) hNone
        rw [lstr_finish]
        refine ⟨hDone, fun d hd hEmptyD => ?_⟩
        rw [lcell_finish]
        exact hCells d hd hEmptyD
  case strings =>
    intro n hOn l ends
    have hIs {x : LcSt} (hLc : l.lc = x) : lcIs z n.val x = true := lcIs_of_lc hOn hLc
    refine ⟨fun hDue => ?termination, fun hRuns hPast => ?duration, fun hArmed hPast => ?arm, fun a hRuns hRest hPast => ?rest,
      fun hRuns hPast => ?temp, fun hOpen hPast => ?record, fun g a hSrc hCharged => ?pin⟩
    case termination =>
      have hRow := exec_of_ledgerRow (exec_anchorTermination t n s) hUp hReady rfl
      rw [anchorTermDo_of_due (s := z) hOn hDue] at hRow
      refine ⟨_, hRow, ?_, fun c hc v hVolt hNear => ?_⟩
      · rw [lstr_finish, fullAnchors_termDue, lstr_updStr_self]
      · have hFull : nearFull z n.val c = true := nearFull_of_volt (s := z) hVolt hNear
        obtain ⟨hQ, -, -, -, -, hValid, hKind, -⟩ := fullAnchors_anchor
          (s := updStr z n.val (fun l => { l with termPending := false, termDue := false })) (n := n.val) (kind := 2)
          (List.mem_filter.mpr ⟨hc, hFull⟩)
        rw [lcell_finish]
        exact ⟨hQ, hValid, hKind⟩
    case duration =>
      exact exec_disqualifies (exec_lcDurationExpiry t n s) hUp hReady (Bool.and_eq_true_iff.mpr ⟨hIs hRuns, decide_eq_true hPast⟩)
        (.inl hRuns)
    case arm =>
      exact exec_disqualifies (exec_lcArmExpiry t n s) hUp hReady (Bool.and_eq_true_iff.mpr ⟨hIs hArmed, decide_eq_true hPast⟩)
        (.inr ⟨hArmed, rfl⟩)
    case rest =>
      exact exec_disqualifies (exec_lcRestGapExpiry t n s) hUp hReady
        (Bool.and_eq_true_iff.mpr ⟨hIs hRuns, pastRest_of_since (s := z) hRest hPast⟩) (.inl hRuns)
    case temp =>
      exact exec_disqualifies (exec_lcTempInvalidExpiry t n s) hUp hReady
        (Bool.and_eq_true_iff.mpr ⟨hIs hRuns, decide_eq_true hPast⟩) (.inl hRuns)
    case record =>
      exact exec_disqualifies (exec_lcNoRecordExpiry t n s) hUp hReady
        (Bool.and_eq_true_iff.mpr ⟨Bool.or_eq_true_iff.mpr (hOpen.imp hIs hIs), decide_eq_true hPast⟩)
        (hOpen.imp_right fun hArmed => ⟨hArmed, rfl⟩)
    case pin =>
      have hRow := exec_of_ledgerRow (exec_gpioTermination t g s) hUp hReady rfl
      refine ⟨_, hRow, fun hSoon => ?_, fun hLate => ?_⟩
      · rw [lstr_finish]
        exact gpioTermDo_accepts (s := z) n.isLt hOn hSrc hCharged hSoon
      · obtain ⟨hKept, hLogged⟩ := gpioTermDo_logs (s := s.at t) n.isLt hOn hSrc hCharged hLate
        exact ⟨by rw [lstr_finish]; exact hKept, mem_log_finish hLogged⟩
  case absence =>
    intro d a hSince hPast
    have hSinceAt : (lmem (s.at t) (d.pair.val * 32 + d.mem.val)).absentSince = some a := hSince
    refine ⟨_, exec_of_ledgerRow (exec_absenceTimeout t d s) hUp hReady (by simp only [hSinceAt]; exact decide_eq_true hPast), ?_⟩
    rw [lmem_congr (ledger_finish _), lmem_updMem_self]
  case snapshot =>
    intro hDue hBetween
    have hBetweenAt : betweenSweeps z = true := by rwa [betweenSweeps_at]
    have hRow := exec_of_ledgerRow (exec_ledgerSnapshot t s) hUp hReady
      (Bool.and_eq_true_iff.mpr ⟨decide_eq_true hDue, hBetweenAt⟩)
    exact hRow
  case restore =>
    intro hBoot hReady
    have hRow := exec_of_row (exec_ledgerRestore t s) hUp (by simp [hBoot, hReady])
    refine ⟨_, hRow, by simp [restoreDo_sys], by simp [restoreDo_sys], fun n hn hOpen => ?_, fun hInvalid c hOn => ?_⟩
    · rw [lstr_finish]
      exact restoreDo_ends (s := z) hn hOpen
    · obtain ⟨hValid, hCap⟩ := lcell_restoreLedger (s := z) hInvalid hOn
      rw [lcell_finish, lcell_restoreDo (g := LCell.valid) (by intro; rfl), lcell_restoreDo (g := LCell.cL) (by intro; rfl)]
      exact ⟨hValid, hCap⟩

end Sys2Proof.Machine
end

section
/-! A mailbox command that Foreman executes, from the request to the response (15 R359, R362, R365, R368; 16 R375). -/

namespace Sys2Proof.Machine

section
variable {s : State} {t op : Nat} {r : Req}

@[simp] theorem begun_now (s : State) (t op : Nat) : (begun s t op).now = max s.now t := by simp [begun]
@[simp] theorem begun_sys (s : State) (t op : Nat) : (begun s t op).sys = s.sys := by simp [begun]

theorem tenantOn_begun (s : State) (t op n : Nat) : tenantOn (begun s t op) n = tenantOn s n := by
  have hTenants : (begun s t op).foreman.tenants = s.foreman.tenants := by
    unfold begun popReq
    dsimp only
    split <;> rfl
  rw [tenantOn, tenantOn, hTenants]

/-- A granted request of the LEN, the rights and the readiness that its command asks for is executed (15 R368). -/
theorem exec_of_granted {i : Instr} {len : Req → Bool} {rights ready : State → Req → Bool} {body : Req → State → State}
    (hExec : exec i s = .next (foremanRow t op len rights ready body s)) (h : granted s t op r) (hLen : len r = true)
    (hRights : rights (begun s t op) r = true) (hReady : ready (begun s t op) r = true) :
    exec i s = .next (served (body r (begun s t op))) := by
  obtain ⟨hNext, hOp, hCtrl, hShort, -, hTenant, hUrgent, hBusy⟩ := h
  have hOther : (r.opcode != op || !(s.at t).sys.ctrlUp) = false := by simp [hOp, hCtrl]
  have hBadLen : (!len r || decide (240 < r.len)) = false := by simp [hLen, hShort]
  have hBarred : (!rights (begun s t op) r || (op != 0x0101 && !tenantOn (begun s t op) r.tenant)
      || (natBit r.flags 0 && !urgentOk r.tenant r.flags r.opcode)) = false := by
    have hOn : (op != 0x0101 && !tenantOn s r.tenant) = false := by rcases hTenant with h | h <;> simp [h]
    have hHonoured : (natBit r.flags 0 && !urgentOk r.tenant r.flags r.opcode) = false := by
      rcases hUrgent with h | h <;> simp [h]
    rw [hRights, tenantOn_begun, hOn, hHonoured]
    rfl
  have hServe : serve op len rights ready body (s.at t) = takeUrgent (flushBad (body r (begun s t op))) := by
    simp only [serve, hNext, hOther, hBadLen, Bool.false_eq_true, if_false]
    rw [show ({ popReq (s.at t) with foreman := { (popReq (s.at t)).foreman with lastOp := op } } : State) = begun s t op from rfl]
    simp only [hBarred, hReady, hBusy, Bool.not_true, Bool.false_eq_true, if_false]
  rw [hExec, foremanRow, hServe, served]

/-! ### Its response waits in the mailbox -/

theorem keepsReplies_portSet {f : TenantPort → TenantPort} (hf : ∀ p, (f p).replies = p.replies) (s : State) (n : Nat)
    (g : JustSet → JustSet) : KeepsReplies s (s.portSet n f g) := by
  intro k m hm
  by_cases hk : k = n
  · subst hk
    simpa [hf] using hm
  · rwa [State.portSet, State.updPort_port_ne _ _ hk]

theorem keepsReplies_flushBad_of_foreman (s : State) (f : Foreman) : KeepsReplies s (flushBad { s with foreman := f }) :=
  KeepsReplies.trans (u := { s with foreman := f }) (keepsReplies_of_ports rfl) (keepsReplies_flushBad _)

theorem keepsReplies_takeNow (s : State) (n : Nat) : KeepsReplies s (takeNow s n) := by
  unfold takeNow
  extract_lets r bulk own r' urgent v f
  exact (keepsReplies_portSet (by intro; rfl) s n _).trans (keepsReplies_flushBad_of_foreman v _)

theorem keepsReplies_served (s : State) : KeepsReplies s (served s) := by
  have hUrgent (v : State) : KeepsReplies v (takeUrgent v) := by
    unfold takeUrgent
    dsimp only
    split
    · exact keepsReplies_takeNow v 0
    · exact fun _ _ hm => hm
  exact ((keepsReplies_flushBad s).trans (hUrgent _)).trans (fun n _ hm => by rwa [served, finish_port_replies])

theorem answersSo_served_answer (s : State) (r : Req) (b : List Byte) (es : List ClampEntry) (bulk : List Byte) :
    answersSo (served (answer s r b es bulk)) r (if es.isEmpty then 0 else 1) (fun m => m.payload = b ++ entryBytes 0 es) := by
  obtain ⟨m, hm, hFields⟩ : answersSo (answer s r b es bulk) r (if es.isEmpty then 0 else 1)
      (fun m => m.payload = b ++ entryBytes 0 es) := by simp [answersSo, answer, reply]
  exact ⟨m, keepsReplies_served _ _ hm, hFields⟩

theorem answersWith_served_answer (s : State) (r : Req) (b : List Byte) : answersWith (served (answer s r b [])) r 0 0 :=
  answersWith_of_keepsReplies (keepsReplies_served _) (answersWith_reply ..)

end

end Sys2Proof.Machine
end

section
/-! The Ledger's commands (16 Tables 16-5, 16-6; 07 R160, R168, R172, R175, R178, R185): what each body does for a string that is
there. -/

namespace Sys2Proof.Machine

section
variable {s : State} {r : Req} {n : Nat}

theorem strNamed_of_on (hn : n < 64) (hOn : strOn s n = true) (all : Bool) : strNamed s n all = some [n] := by
  have hOne : n ≠ 0xFF := by omega
  simp [strNamed, hOne, hn, hOn]

/-! ### SET_LEDGER (07 R160) -/

theorem tables_keepStr (s : State) (n : Nat) (x : StrSet) :
    tables (keepStr s n x) = { tables s with set := tblSet n x s.ledger.set } := tables_storeSetting ..

theorem strKept_eq (s : State) (n : Nat) : strKept s n = tblGet {} (tables s).set n := rfl

theorem strKept_keepStr_self (s : State) (n : Nat) (x : StrSet) : strKept (keepStr s n x) n = x := by
  rw [strKept_eq, tables_keepStr]
  exact tblGet_tblSet ..

theorem strKept_keepStr_ne (s : State) {n k : Nat} (h : k ≠ n) (x : StrSet) : strKept (keepStr s n x) k = strKept s k := by
  rw [strKept_eq, tables_keepStr]
  exact tblGet_tblSet_ne h ..

theorem lstr_keepStr (s : State) (n k : Nat) (x : StrSet) : lstr (keepStr s n x) k = lstr s k := by
  have hStr (v : State) : lstr v k = tblGet {} (tables v).str k := rfl
  rw [hStr, tables_keepStr, hStr]

/-- The settings in force, whatever Ledger settings are written beside them. -/
theorem strSet_of_held {u : State} {b : List Byte} (hHeld : (lstr u n).held = some (strSet s n))
    (hKept : strKept u n = ledgerOf (strKept s n) b) : strSet u n = strSet s n := by
  rw [strSet, hHeld, hKept]
  unfold strSet
  cases (lstr s n).held with
  | none => rfl
  | some y => rfl

/-- String n's settings in force stay so, and the Ledger settings of a payload are kept. -/
def setLedgerOf (s : State) (n : Nat) (b : List Byte) : State :=
  keepStr (updStr s n (fun l => { l with held := some (strSet s n) })) n (ledgerOf (strKept s n) b)

theorem setLedgerDo_of_on (hByte : byteAt r.payload 0 = n) (hn : n < 64) (hOn : strOn s n = true) :
    setLedgerDo r s = answer (setLedgerOf s n (clampLedger r.payload).1) r (putLe (clampLedger r.payload).1 22 2 0)
      (clampLedger r.payload).2 := by
  simp only [setLedgerDo, hByte, strNamed_of_on hn hOn, setLedgerOf, List.foldl_cons, List.foldl_nil]

theorem strKept_setLedgerOf_self (s : State) (n : Nat) (b : List Byte) :
    strKept (setLedgerOf s n b) n = ledgerOf (strKept s n) b := strKept_keepStr_self ..

theorem strKept_setLedgerOf_ne (s : State) {k : Nat} (h : k ≠ n) (b : List Byte) :
    strKept (setLedgerOf s n b) k = strKept s k := strKept_keepStr_ne _ h _

theorem strSet_setLedgerOf (s : State) (n : Nat) (b : List Byte) : strSet (setLedgerOf s n b) n = strSet s n := by
  refine strSet_of_held ?_ (strKept_setLedgerOf_self s n b)
  rw [setLedgerOf, lstr_keepStr, lstr_updStr_self]

/-! ### STRING_LEDGER, CELL_LEDGER, TERMINATE -/

/-- The first eight bytes of STRING_LEDGER. -/
def ledgerHead (s : State) (n : Nat) : List Byte :=
  leBytes 1 n ++ leBytes 1 (strFlags (lstr s n)) ++ leBytes 1 (lcCode (lstr s n).lc) ++ leBytes 1 (lstr s n).lcReason
    ++ leBytes 4 ((refCap s n).getD 0xFFFFFFFF)

theorem ledgerHead_congr {u v : State} (h : tables u = tables v) (n : Nat) : ledgerHead u n = ledgerHead v n :=
  view_congr (f := fun s => ledgerHead s n) (fun _ => rfl) h

theorem stringLedgerDo_of_on (hByte : byteAt r.payload 0 = n) (hn : n < 64) (hOn : strOn s n = true) :
    ∃ tail, stringLedgerDo r s = answer s r (ledgerHead s n ++ tail) := by
  simp only [stringLedgerDo, hByte, strNamed_of_on hn hOn, ledgerHead, List.append_assoc]
  exact ⟨_, rfl⟩

theorem terminateDo_of_on (hByte : byteAt r.payload 0 = n) (hn : n < 64) (hOn : strOn s n = true) :
    terminateDo r s = answer (termEvent s n) r [] := by
  simp only [terminateDo, hByte, strNamed_of_on hn hOn, List.foldl_cons, List.foldl_nil]

/-! ### LC_ARM, LC_ABORT (07 R175, R178) -/

theorem armFaults_congr {u v : State} (h : tables u = tables v) (n : Nat) : armFaults u n = armFaults v n :=
  view_congr (f := fun s => armFaults s n) (fun _ => rfl) h

/-- A cycle of string n begins to wait for its first full anchor. -/
def armCycle (s : State) (n : Nat) : State :=
  updStr s n (fun l => { l with
    lc := .armed, lcEnd := none, lcReason := 0, lcAt := s.now, lcDisch := false, lcPeak := 0, lcRecharge := 0 })

/-- None of its cells is anchored in it yet. -/
def clearCycle (s : State) (n : Nat) : State :=
  (strCells s n).foldl (fun s c => updCell s c (fun x => { x with cyc := false, d := 0, cycBal := 0 })) s

theorem lcArmDo_of_faults (hByte : byteAt r.payload 0 = n) (hn : n < 64) (hOn : strOn s n = true) (h : armFaults s n ≠ []) :
    lcArmDo r s = refuse s r (armFaults s n) := by
  have hRefused : (!(armFaults s n).isEmpty) = true := by simpa using h
  simp only [lcArmDo, hByte, strNamed_of_on hn hOn, hRefused, if_true]

theorem lcArmDo_of_fit (hByte : byteAt r.payload 0 = n) (hn : n < 64) (hOn : strOn s n = true) (h : armFaults s n = []) :
    lcArmDo r s = answer (judge (clearCycle (armCycle s n) n) n) r [] := by
  simp only [lcArmDo, hByte, strNamed_of_on hn hOn, h, List.isEmpty_nil, Bool.not_true, Bool.false_eq_true, if_false]
  rfl

theorem lstr_armed (s : State) (n : Nat) : (lstr (judge (clearCycle (armCycle s n) n) n) n).lc = .armed
    ∧ (lstr (judge (clearCycle (armCycle s n) n) n) n).lcAt = s.now := by
  rw [judge_lc, lstr_judge (g := LString.lcAt) _ _ (fun _ _ _ => rfl), clearCycle, lstr_foldl_updCell, armCycle, lstr_updStr_self]
  exact ⟨rfl, rfl⟩

theorem lcell_armed {c : Nat} (hc : c ∈ strCells s n) : (lcell (judge (clearCycle (armCycle s n) n) n) c).cyc = false
    ∧ (lcell (judge (clearCycle (armCycle s n) n) n) c).d = 0 := by
  have hLayout : layout (armCycle s n) = layout s := layout_updStr s n (by intro; rfl)
  rw [lcell_judge, clearCycle, strCells_of_layout hLayout]
  exact lcell_foldl_updCell (P := fun x => x.cyc = false ∧ x.d = 0) (fun _ => ⟨rfl, rfl⟩) hc _

theorem lcAbortDo_of_open (hByte : byteAt r.payload 0 = n) (hn : n < 64) (hOn : strOn s n = true)
    (h : (lstr s n).lc = .armed ∨ (lstr s n).lc = .running) : lcAbortDo r s = answer (disqualify s n [12]) r [] := by
  have hOpen : ((lstr s n).lc == .armed || (lstr s n).lc == .running) = true := by simpa using h
  simp only [lcAbortDo, hByte, strNamed_of_on hn hOn, hOpen, if_true]

theorem lcAbortDo_of_closed (hByte : byteAt r.payload 0 = n) (hn : n < 64) (hOn : strOn s n = true)
    (hArmed : (lstr s n).lc ≠ .armed) (hRuns : (lstr s n).lc ≠ .running) : lcAbortDo r s = refuse s r [0x2C] := by
  have hClosed : ((lstr s n).lc == .armed || (lstr s n).lc == .running) = false := by simp [hArmed, hRuns]
  simp only [lcAbortDo, hByte, strNamed_of_on hn hOn, hClosed, Bool.false_eq_true, if_false]

/-! ### LEDGER_RESET (07 R185) -/

/-- A reset of one cell of string n: it loses VALID, and with `capacity` its capacity is C_NOM. -/
def resetCell (n : Nat) (capacity : Bool) (s : State) (c : Nat) : State :=
  let s := invalidate s c
  if capacity then updCell s c (fun x => { x with cL := (strSet s n).cNom }) else s

theorem tables_invalidate (s : State) (c : Nat) : tables (invalidate s c) = tables (updCell s c (fun x => { x with
    valid := false, taperSince := none, taperHit := false, emptyCnt := 0, cyc := false })) := rfl

theorem layout_resetCell (capacity : Bool) (s : State) (c : Nat) : layout (resetCell n capacity s c) = layout s := by
  unfold resetCell
  dsimp only
  split <;> rfl

theorem lcell_resetCell_self (capacity : Bool) (s : State) (c : Nat) :
    (lcell (resetCell n capacity s c) c).valid = false
      ∧ (capacity = true → (lcell (resetCell n capacity s c) c).cL = (strSet s n).cNom) := by
  have hLayout : layout (invalidate s c) = layout s := rfl
  cases capacity with
  | false =>
    refine ⟨?_, fun h => by cases h⟩
    rw [resetCell, if_neg Bool.false_ne_true, lcell_congr (tables_invalidate s c), lcell_updCell_self]
  | true =>
    rw [resetCell, if_pos rfl, lcell_updCell_self, strSet_of_layout hLayout, lcell_congr (tables_invalidate s c), lcell_updCell_self]
    exact ⟨rfl, fun _ => rfl⟩

theorem lcell_resetCell_ne (capacity : Bool) (s : State) {c d : Nat} (h : d ≠ c) :
    lcell (resetCell n capacity s c) d = lcell s d := by
  have hInvalid : lcell (invalidate s c) d = lcell s d := by
    rw [lcell_congr (tables_invalidate s c), lcell_updCell_ne s c h]
  unfold resetCell
  dsimp only
  split
  · rw [lcell_updCell_ne _ _ h, hInvalid]
  · exact hInvalid

theorem lcell_resetString {c : Nat} (hc : c ∈ strCells s n) (capacity : Bool) :
    (lcell (resetString s n capacity) c).valid = false
      ∧ (capacity = true → (lcell (resetString s n capacity) c).cL = (strSet s n).cNom) := by
  have hEq : resetString s n capacity
      = judge (disqualify ((strCells s n).foldl (resetCell n capacity) s) n [9]) n := rfl
  rw [hEq, lcell_judge, lcell_disqualify (g := LCell.valid) _ _ (by intro; rfl), lcell_disqualify (g := LCell.cL) _ _ (by intro; rfl)]
  refine And.right (a := layout ((strCells s n).foldl (resetCell n capacity) s) = layout s)
    (foldl_of_mem (I := fun v => layout v = layout s) (J := fun v => layout v = layout s ∧ (lcell v c).valid = false
      ∧ (capacity = true → (lcell v c).cL = (strSet s n).cNom)) hc (fun _ hv => hv.1) (fun v y _ hv => ?_) (fun v hv => ?_)
      (fun v y hy hv => ?_) rfl)
  · rw [layout_resetCell, hv]
  · rw [← strSet_of_layout hv]
    exact ⟨by rw [layout_resetCell, hv], lcell_resetCell_self capacity v c⟩
  · rwa [layout_resetCell, lcell_resetCell_ne capacity v hy]

theorem ledgerResetDo_of_on (hByte : byteAt r.payload 0 = n) (hn : n < 64) (hOn : strOn s n = true) :
    ledgerResetDo r s = answer (resetString s n (natBit (byteAt r.payload 1) 0)) r [] := by
  simp only [ledgerResetDo, hByte, strNamed_of_on hn hOn, List.foldl_cons, List.foldl_nil]

/-! ### MAP_GPIO (07 R172) -/

theorem isTermSrc_congr {u v : State} (h : tables u = tables v) (g : Nat) : isTermSrc u g = isTermSrc v g :=
  view_congr (f := fun s => isTermSrc s g) (fun _ => rfl) h

theorem gpioRules_bytes {b : List Byte} (h : b.length = 4) :
    byteAt (applyRules gpioRules b).1 1 = (if 8 < byteAt b 1 then 0 else byteAt b 1)
      ∧ byteAt (applyRules gpioRules b).1 2 = (if 8 < byteAt b 2 then 0 else byteAt b 2)
      ∧ byteAt (applyRules gpioRules b).1 3 = byteAt b 3 % 4 := by
  obtain ⟨str, e, c, pol, rfl⟩ : ∃ str e c pol, b = [str, e, c, pol] := by
    match b, h with
    | [str, e, c, pol], _ => exact ⟨str, e, c, pol, rfl⟩
  have hPin (x : Byte) : (BitVec.ofNat 8 (if 8 < x.toNat then (0, 3) else (x.toNat, 0)).1).toNat
      = if 8 < x.toNat then 0 else x.toNat := by split <;> simp
  have hPol : pol.toNat % 4 < 256 := by omega
  simp [applyRules, gpioRules, clampKind, putLe, leAt, byteAt, leBytes, hPin, hPol]

/-- String n's GPIO mapping is as a payload gives it. -/
def mapGpioOf (s : State) (n : Nat) (b : List Byte) : State :=
  keepStr s n { strKept s n with eodGpio := byteAt b 1, eocGpio := byteAt b 2, pol := byteAt b 3 }

theorem mapGpioDo_of_on (hByte : byteAt r.payload 0 = n) (hn : n < 64) (hOn : strOn s n = true) :
    let g := applyRules gpioRules r.payload
    mapGpioDo r s = if isTermSrc s (byteAt g.1 1) || isTermSrc s (byteAt g.1 2) then refuse s r [0x2B]
      else answer (driveGpio (mapGpioOf s n g.1)) r g.1 g.2 := by
  simp only [mapGpioDo, hByte, strNamed_of_on hn hOn]
  generalize applyRules gpioRules r.payload = applied
  rfl

end

end Sys2Proof.Machine
end

section
/-! The Ledger's commands as Foreman executes them (16 Tables 16-5, 16-6). -/

namespace Sys2Proof.Machine

section
variable {s : State} {t op : Nat} {r : Req} {i : Instr} {body : Req → State → State}

theorem only0_of_tenant (h : r.tenant = 0) : only0 s r = true := by simp [only0, h]

theorem length_of_plain {n : Nat} (h : granted s t op r) (hPlain : plain r n) : r.payload.length = n := by
  obtain ⟨-, -, -, -, hLength, -⟩ := h
  have hLen : r.len = n := by simpa [plain, lenIs] using (Bool.and_eq_true_iff.mp hPlain).1
  rw [hLength, hLen]

/-- A granted command of the Ledger is executed while the Ledger is ready. -/
theorem exec_of_ledgerCmd {len : Req → Bool} {rights : State → Req → Bool} (hReady : readyBit s 0 = true)
    (hExec : exec i s = .next (foremanRow t op len rights ledgerIs body s)) (h : granted s t op r) (hLen : len r = true)
    (hRights : rights (begun s t op) r = true) : exec i s = .next (served (body r (begun s t op))) := by
  refine exec_of_granted hExec h hLen hRights ?_
  rw [ledgerIs, readyBit, if_pos rfl, begun_sys]
  exact hReady

end

/-- Settles O33: the request is executed, and what each command's body does for the string that STR names is its lemma above.
The model's readings: a termination that is not accepted is an entry of the Ledger's own log (assumption log 56), CELL_LEDGER
shows the excluded flag only while a cycle is RUNNING (69). -/
theorem ledgerCommandsExecute : Obligations.LedgerCommandsExecute := by
  intro s t r n hByte hn hOn hReady b
  have hTables (op : Nat) : tables (begun s t op) = tables s := tables_begun s t op
  have hLayout (op : Nat) : layout (begun s t op) = layout s := layout_congr (hTables op)
  have hOnAt (op : Nat) : strOn (begun s t op) n = true := by rw [strOn_of_layout (hLayout op), hOn]
  refine ⟨?setLedger, ?stringLedger, ?cellLedger, ?terminate, ?arm, ?abort, ?reset, ?gpio⟩
  case setLedger =>
    intro hGranted hPlain hTenant
    have hRow := exec_of_ledgerCmd hReady (exec_setLedger t s) hGranted hPlain (only0_of_tenant hTenant)
    rw [setLedgerDo_of_on hByte hn (hOnAt _)] at hRow
    have hDone : tables (served (answer (setLedgerOf (begun s t 0x0301) n (clampLedger b).1) r
        (putLe (clampLedger b).1 22 2 0) (clampLedger b).2)) = tables (setLedgerOf (begun s t 0x0301) n (clampLedger b).1) := by simp
    refine ⟨_, hRow, ?_, ?_, fun k hk => ?_, answersSo_served_answer ..⟩
    · rw [strKept_congr hDone, strKept_setLedgerOf_self, strKept_congr (hTables _)]
    · rw [strSet_of_layout (layout_congr hDone), strSet_setLedgerOf, strSet_of_layout (hLayout _)]
    · rw [strKept_congr hDone, strKept_setLedgerOf_ne _ hk, strKept_congr (hTables _)]
  case stringLedger =>
    intro hGranted hPlain
    have hRow := exec_of_ledgerCmd hReady (exec_stringLedger t s) hGranted hPlain rfl
    obtain ⟨tail, hBody⟩ := stringLedgerDo_of_on hByte hn (hOnAt 0x0302)
    rw [hBody, ledgerHead_congr (hTables _)] at hRow
    obtain ⟨m, hm, hOp, hTag, hStatus, hPayload⟩ := answersSo_served_answer (begun s t 0x0302) r (ledgerHead s n ++ tail) [] []
    refine ⟨_, hRow, m, hm, hOp, hTag, hStatus, (congrArg (List.take 8) hPayload).trans ?_⟩
    rw [List.append_assoc]
    exact List.take_left' rfl
  case cellLedger =>
    intro hGranted hLen hSome hMost hBulk z
    have hFields : (r.len == 4 && decide (1 ≤ leAt r.payload 2 2) && decide (leAt r.payload 2 2 ≤ 128)
        && bulkIs r (32 * leAt r.payload 2 2)) = true := by
      rw [hLen, hBulk, decide_eq_true hSome, decide_eq_true hMost]
      rfl
    have hRow := exec_of_ledgerCmd hReady (exec_cellLedger t s) hGranted hFields rfl
    rwa [cellLedgerDo] at hRow
  case terminate =>
    intro hGranted hPlain hTenant
    have hRow := exec_of_ledgerCmd hReady (exec_terminate t s) hGranted hPlain (only0_of_tenant hTenant)
    rwa [terminateDo_of_on hByte hn (hOnAt _)] at hRow
  case arm =>
    intro hGranted hPlain hTenant
    have hRow := exec_of_ledgerCmd hReady (exec_lcArm t s) hGranted hPlain (only0_of_tenant hTenant)
    have hFaults := armFaults_congr (hTables 0x0311) n
    refine ⟨fun hSome => ?_, fun hNone => ?_⟩
    · rwa [lcArmDo_of_faults hByte hn (hOnAt _) (by rwa [hFaults]), hFaults] at hRow
    · rw [lcArmDo_of_fit hByte hn (hOnAt _) (by rwa [hFaults])] at hRow
      obtain ⟨hArmed, hSince⟩ := lstr_armed (begun s t 0x0311) n
      have hDone : tables (served (answer (judge (clearCycle (armCycle (begun s t 0x0311) n) n) n) r []))
          = tables (judge (clearCycle (armCycle (begun s t 0x0311) n) n) n) := by simp
      refine ⟨_, hRow, ?_, ?_, answersWith_served_answer .., fun c hc => ?_⟩
      · rw [lstr_congr hDone, hArmed]
      · rw [lstr_congr hDone, hSince, begun_now]
      · rw [lcell_congr hDone]
        exact lcell_armed (by rwa [strCells_of_layout (hLayout _)])
  case abort =>
    intro hGranted hPlain hTenant
    have hRow := exec_of_ledgerCmd hReady (exec_lcAbort t s) hGranted hPlain (only0_of_tenant hTenant)
    have hStr := lstr_congr (hTables 0x0312) n
    refine ⟨fun hOpen => ?_, fun hArmed hRuns => ?_⟩
    · rw [lcAbortDo_of_open hByte hn (hOnAt _) (by rwa [hStr])] at hRow
      obtain ⟨hEnded, hReason, -⟩ := disqualify_ends (s := begun s t 0x0312) (n := n) (code := 12) (codes := [])
        (by rw [hStr]; exact hOpen.symm.imp_right fun hArmed => ⟨hArmed, by decide⟩)
      have hDone : tables (served (answer (disqualify (begun s t 0x0312) n [12]) r []))
          = tables (disqualify (begun s t 0x0312) n [12]) := by simp
      refine ⟨_, hRow, ?_, ?_, answersWith_served_answer ..⟩
      · rw [lstr_congr hDone, hEnded]
      · rw [lstr_congr hDone, hReason, List.foldl_nil]
    · rwa [lcAbortDo_of_closed hByte hn (hOnAt _) (by rwa [hStr]) (by rwa [hStr])] at hRow
  case reset =>
    intro hGranted hPlain hTenant
    have hRow := exec_of_ledgerCmd hReady (exec_ledgerReset t s) hGranted hPlain (only0_of_tenant hTenant)
    rw [ledgerResetDo_of_on hByte hn (hOnAt _)] at hRow
    refine ⟨_, hRow, answersWith_served_answer .., fun c hc => ?_⟩
    rw [lcell_congr ((tables_served _).trans (tables_answer ..)), ← strSet_of_layout (hLayout 0x0320)]
    exact lcell_resetString (by rwa [strCells_of_layout (hLayout _)]) _
  case gpio =>
    intro hGranted hPlain hTenant e c
    have hRow := exec_of_ledgerCmd hReady (exec_mapGpio t s) hGranted hPlain (only0_of_tenant hTenant)
    have hFour : b.length = 4 := length_of_plain hGranted hPlain
    obtain ⟨hE, hC, hPol⟩ := gpioRules_bytes hFour
    rw [mapGpioDo_of_on hByte hn (hOnAt _), hE, hC, isTermSrc_congr (hTables _), isTermSrc_congr (hTables _)] at hRow
    refine ⟨fun hTerm => ?_, fun hFreeE hFreeC => ?_⟩
    · rwa [if_pos (Bool.or_eq_true_iff.mpr hTerm)] at hRow
    · rw [if_neg (Bool.eq_false_iff.mp (Bool.or_eq_false_iff.mpr ⟨hFreeE, hFreeC⟩))] at hRow
      refine ⟨_, hRow, ?_⟩
      rw [strKept_congr ((tables_served _).trans ((tables_answer ..).trans (tables_driveGpio _))), mapGpioOf, strKept_keepStr_self,
        strKept_congr (hTables _), hE, hC, hPol]

end Sys2Proof.Machine
end

section
/-! Which blocks a tile operation does not reach (08 R192), and which a row of the fabric's links does not (18 R422). -/

namespace Sys2Proof.Machine

/-- The Ledger, the chain pairs, the fabric, the flash and every Rumbe are as they were. -/
def TileApart (s u : State) : Prop :=
  u.ledger = s.ledger ∧ u.pairs = s.pairs ∧ u.eopen = s.eopen ∧ u.fabric = s.fabric ∧ u.flash = s.flash ∧ u.rumbes = s.rumbes

/-- The tiles, the streams, DRAM, the Ledger, the chain pairs, the flash and every Rumbe are as they were. -/
def FabricApart (s u : State) : Prop :=
  u.tiles = s.tiles ∧ u.sched = s.sched ∧ u.dram = s.dram ∧ u.ledger = s.ledger ∧ u.pairs = s.pairs ∧ u.eopen = s.eopen
    ∧ u.flash = s.flash ∧ u.rumbes = s.rumbes

/-- A tile operation reaches no further than what it does to its tile: what follows every step is the host's flags. -/
theorem TileApart.of_tileStep {f : State → State} {s u : State}
    (hExec : Host.Outcome.next (tileStep f s) = (.next u : Host.Outcome State Fault Refusal)) (hf : ∀ x, TileApart x (f x)) :
    TileApart s u := by
  obtain rfl := Host.Outcome.next.inj hExec
  obtain ⟨hLedger, hPairs, hEopen, hFabric, hFlash, hRumbes⟩ := hf (s.at 0)
  simp [TileApart, tileStep, hLedger, hPairs, hEopen, hFabric, hFlash, hRumbes]

/-- A row of the fabric happens or does not; what follows it is the host's flags. -/
theorem FabricApart.of_chainRow {t : Nat} {c : State → Bool} {f : State → State} {s u : State}
    (hExec : Host.Outcome.next (chainRow t c f s) = (.next u : Host.Outcome State Fault Refusal))
    (hf : ∀ x, FabricApart x (f x)) : FabricApart s u := by
  obtain rfl := Host.Outcome.next.inj hExec
  simp only [FabricApart, forall_and] at hf
  obtain ⟨hTiles, hSched, hDram, hLedger, hPairs, hEopen, hFlash, hRumbes⟩ := hf
  simp [FabricApart, hTiles, hSched, hDram, hLedger, hPairs, hEopen, hFlash, hRumbes]

/-- Settles O57: each tile operation is a tile step of its operation, each row of a link or a message a row of the fabric, and the
frame of that operation holds the blocks apart (Laws/Frames). -/
theorem familiesStayApart : Obligations.FamiliesStayApart := by
  intro s u i hExec
  refine ⟨?tile, ?fabric⟩
  case tile =>
    rintro ⟨tile, hRow⟩
    rcases hRow with rfl | rfl | rfl | rfl | rfl | rfl | rfl | rfl | rfl | rfl | rfl | rfl | rfl | rfl | rfl | rfl | rfl | rfl
      | rfl | rfl | rfl | rfl | rfl | rfl | rfl | rfl | rfl | rfl | rfl | rfl | rfl | rfl | rfl | rfl | rfl | rfl | rfl | rfl
      | rfl | rfl | rfl | rfl | rfl
    all_goals exact TileApart.of_tileStep hExec fun _ => by simp [TileApart]
  case fabric =>
    rintro ⟨t, l, ⟨b, rfl | rfl⟩ | rfl | ⟨h, rfl⟩ | rfl | ⟨a, b, c, rfl⟩ | rfl | ⟨a, n, rfl | rfl⟩ | rfl
      | ⟨f, rfl | rfl | rfl | rfl | rfl⟩⟩
    all_goals exact FabricApart.of_chainRow hExec fun _ => by simp [FabricApart]

end Sys2Proof.Machine
end

section
/-! How an operation of a tile's slot issues (08 R189, R190, R192), with and without a corrected error of the store it reads (08
R200, R209), and what the K, L and W slots compute (09 Tables 9-4, 9-5). -/

namespace Sys2Proof.Machine

/-! ### A corrected error leaves what issues as it was -/

section
variable (s : State) (n : Nat)

/-- Of the system, a corrected error changes a bench's count of them. -/
theorem noteCorrected_sys :
    (noteCorrected s n).sys = (s.updBench (n / 16) fun x => { x with corrected := x.corrected + 1 }).sys := by
  unfold noteCorrected
  simp only [State.ite_sys, logFault_frame, ite_self]
  rfl

/-- Of the tiles, it changes the times of one's corrections. -/
theorem noteCorrected_tiles : (noteCorrected s n).tiles = (s.updTile n fun x =>
    { x with corrected := (s.tile n).corrected.filter (fun a => decide (s.now ≤ a + 48000000)) ++ [s.now] }).tiles := by
  unfold noteCorrected
  simp

theorem noteCorrected_tile_run : ((noteCorrected s n).tile n).run = (s.tile n).run := by
  simp [State.tile, noteCorrected_tiles, tblGet]

theorem noteCorrected_tile_kstore : ((noteCorrected s n).tile n).kstore = (s.tile n).kstore := by
  simp [State.tile, noteCorrected_tiles, tblGet]

theorem noteCorrected_benchLive : (noteCorrected s n).benchLive (n / 16) = s.benchLive (n / 16) := by
  simp only [State.benchLive, State.bench, noteCorrected_sys, State.updBench, State.updSys, List.getD_eq_getElem?_getD,
    getElem?_modAt]
  cases s.sys.benches[n / 16]? <;> rfl

theorem noteCorrected_shut : (noteCorrected s n).sys.thermal.shut = s.sys.thermal.shut := by
  rw [noteCorrected_sys]
  rfl

end

/-- So the same operations may issue. -/
theorem issues_noteCorrected (s : State) (tile : Fin 64) (rank op : Nat) :
    issues (noteCorrected s tile.val) tile rank op = issues s tile rank op := by
  simp only [issues, slotOpen, slotIs, noteCorrected_tile_run, noteCorrected_tile_kstore, noteCorrected_benchLive,
    noteCorrected_shut]

/-! ### The issue of an operation -/

section
variable {s : State} {tile : Fin 64} {rank op : Nat} {f : TEnv → TRes} {r : Run} {i : Instr}

/-- The operation answers: its results go in flight, and the next bundle follows where it was the last to issue. -/
theorem issueOp_of_ok {o : TOut} (hIssues : issues s tile rank op = true) (hRun : runIn (landDue s tile.val) tile = some r)
    (hOk : f (tileEnv (landDue s tile.val) tile.val r rank) = .ok o) :
    issueOp tile.val rank op f s
      = advance (updRun (landDue s tile.val) tile.val fun r => markIssued rank (takeOut rank o r)) tile.val := by
  rw [issues] at hIssues
  rw [runIn] at hRun
  simp [issueOp, hIssues, hRun, hOk]

/-- The operation is not to be executed: its step aborts. -/
theorem issueOp_of_error {c : AbortCode} (hIssues : issues s tile rank op = true)
    (hRun : runIn (landDue s tile.val) tile = some r) (hError : f (tileEnv (landDue s tile.val) tile.val r rank) = .error c) :
    issueOp tile.val rank op f s = abortTile (landDue s tile.val) tile.val c (some rank) := by
  rw [issues] at hIssues
  rw [runIn] at hRun
  simp [issueOp, hIssues, hRun, hError]

/-- An operation whose check bits allow it issues, a corrected error counted first. -/
theorem issueMem_eq_issueOp {ecc : Ecc} (hEcc : ecc ≠ .bad) (hIssues : issues s tile rank op = true) :
    issueMem tile.val rank op ecc f s
      = issueOp tile.val rank op f (if eccCorrected ecc then noteCorrected s tile.val else s) := by
  rw [issues] at hIssues
  cases ecc with
  | clean | corrected => simp [issueMem, hIssues, eccCorrected]
  | bad => exact absurd rfl hEcc

/-- One whose check bits cannot be corrected aborts its step (08 R209). -/
theorem issueMem_bad (hIssues : issues s tile rank op = true) :
    issueMem tile.val rank op .bad f s = abortTile s tile.val .memUncorr (some rank) := by
  rw [issues] at hIssues
  simp [issueMem, hIssues]

/-- A row completes with what it does, the host's flags brought up to date. -/
theorem exec_finish_congr {x y : State} (hExec : exec i s = .next (finish x)) (h : x = y) : exec i s = .next (finish y) :=
  h ▸ hExec

/-- A row that issues an operation which answers. -/
theorem exec_of_issueOp_ok {o : TOut} (hExec : exec i s = .next (tileStep (issueOp tile.val rank op f) s))
    (hIssues : issues s tile rank op = true) (hRun : runIn (landed s tile false) tile = some r)
    (hOk : f (tileEnv (landed s tile false) tile.val r rank) = .ok o) :
    exec i s = .next (issued (landed s tile false) tile rank o) :=
  exec_finish_congr hExec (issueOp_of_ok (s := s.at 0) hIssues hRun hOk)

/-- A row that issues an operation which aborts. -/
theorem exec_of_issueOp_error {c : AbortCode} (hExec : exec i s = .next (tileStep (issueOp tile.val rank op f) s))
    (hIssues : issues s tile rank op = true) (hRun : runIn (landed s tile false) tile = some r)
    (hError : f (tileEnv (landed s tile false) tile.val r rank) = .error c) :
    exec i s = .next (stopped (landed s tile false) tile c rank) :=
  exec_finish_congr hExec (issueOp_of_error (s := s.at 0) hIssues hRun hError)

section
variable {ecc : Ecc} (hEcc : ecc ≠ .bad) (hExec : exec i s = .next (tileStep (issueMem tile.val rank op ecc f) s))
  (hIssues : issues s tile rank op = true) (hRun : runIn (landed s tile (eccCorrected ecc)) tile = some r)
include hEcc hExec hIssues

/-- A load's row, as the issue of its operation in the state whose due results have yet to land. -/
theorem exec_of_issueMem : exec i s
      = .next (finish (issueOp tile.val rank op f (if eccCorrected ecc then noteCorrected (s.at 0) tile.val else s.at 0)))
    ∧ issues (if eccCorrected ecc then noteCorrected (s.at 0) tile.val else s.at 0) tile rank op = true := by
  refine ⟨exec_finish_congr hExec (issueMem_eq_issueOp (s := s.at 0) hEcc hIssues), ?_⟩
  split
  · exact (issues_noteCorrected ..).trans hIssues
  · exact hIssues

include hRun

/-- A row that issues a load which answers. -/
theorem exec_of_issueMem_ok {o : TOut} (hOk : f (tileEnv (landed s tile (eccCorrected ecc)) tile.val r rank) = .ok o) :
    exec i s = .next (issued (landed s tile (eccCorrected ecc)) tile rank o) := by
  obtain ⟨hIssue, hOpen⟩ := exec_of_issueMem hEcc hExec hIssues
  exact exec_finish_congr hIssue (issueOp_of_ok hOpen hRun hOk)

/-- A row that issues a load which aborts. -/
theorem exec_of_issueMem_error {c : AbortCode}
    (hError : f (tileEnv (landed s tile (eccCorrected ecc)) tile.val r rank) = .error c) :
    exec i s = .next (stopped (landed s tile (eccCorrected ecc)) tile c rank) := by
  obtain ⟨hIssue, hOpen⟩ := exec_of_issueMem hEcc hExec hIssues
  exact exec_finish_congr hIssue (issueOp_of_error hOpen hRun hError)

end

end

/-! ### Loads and stores (09 Table 9-5) -/

section
variable {e : TEnv} {tile c sz xb ofs lat : Nat}

/-- The bytes that a Palette load of register code `c` reads, in its registers. -/
theorem loadPal_of_may (hCode : c ≤ 0x33)
    (hMay : mayAccess e tile (evenUnit (unitsOf c sz) ((xBase e.run xb + ofs) % 4096)) = true) :
    loadPal e tile c sz xb ofs lat = .ok
      { writes := (loadDest c sz (memRead 0#8 (e.pal tile) (evenUnit (unitsOf c sz) ((xBase e.run xb + ofs) % 4096) * 128)
          (unitsOf c sz * 128))).map (fun d => (lat, d)) } := by
  simp [loadPal, Nat.not_lt.mpr hCode, hMay]

/-- A Palette load from a bank that the step may not use (09 R225). -/
theorem loadPal_of_may_not (hCode : c ≤ 0x33)
    (hMay : mayAccess e tile (evenUnit (unitsOf c sz) ((xBase e.run xb + ofs) % 4096)) = false) :
    loadPal e tile c sz xb ofs lat = .error .leaseFault := by
  simp [loadPal, Nat.not_lt.mpr hCode, hMay]

/-- A Palette load of a code that names no register (09 R216). -/
theorem loadPal_of_no_register (hCode : 0x33 < c) : loadPal e tile c sz xb ofs lat = .error .illegalOp := by
  simp [loadPal, hCode]

/-- The bytes that a weight load of register code `c` reads, in its registers. -/
theorem loadWeight_of_register (hCode : c ≤ 0x33) :
    loadWeight e c sz xb ofs = .ok
      { writes := (loadDest c sz (memRead 0#8 e.weights (evenUnit (unitsOf c sz) ((xBase e.run xb + ofs) % 32768) * 128)
          (unitsOf c sz * 128))).map (fun d => (6, d)) } := by
  simp [loadWeight, Nat.not_lt.mpr hCode]

/-- The unit that the W slot's word addresses. -/
def storeUnit (e : TEnv) : Nat :=
  evenUnit (unitsOf (field e.word 50 6) (field e.word 48 1)) ((xBase e.run (field e.word 44 4) + field e.word 32 12) % 4096)

/-- The bytes that a Palette store writes. -/
theorem storePal_of_may (hCode : field e.word 50 6 ≤ 0x33) (hMay : mayAccess e tile (storeUnit e) = true) :
    storePal e tile lat = .ok { writes :=
      [(lat, .pal tile (storeUnit e * 128) (storeBytes e.run (field e.word 50 6) (field e.word 48 1)))] } := by
  rw [storeUnit] at hMay
  simp [storePal, storeUnit, Nat.not_lt.mpr hCode, hMay]

/-- A Palette store into a bank that the step may not use (09 R225). -/
theorem storePal_of_may_not (hCode : field e.word 50 6 ≤ 0x33) (hMay : mayAccess e tile (storeUnit e) = false) :
    storePal e tile lat = .error .leaseFault := by
  rw [storeUnit] at hMay
  simp [storePal, Nat.not_lt.mpr hCode, hMay]

end

/-- A load from both stores writes the registers of both. -/
theorem opLdpw_of_ok {e : TEnv} {p w : TOut}
    (hPal : loadPal e e.tile (field e.word 50 6) (field e.word 43 1) (field e.word 38 4) (field e.word 26 12) 2 = .ok p)
    (hWeight : loadWeight e (field e.word 44 6) (field e.word 42 1) (field e.word 22 4) (field e.word 0 15) = .ok w) :
    opLdpw e = .ok { writes := p.writes ++ w.writes } := by
  simp [opLdpw, hPal, hWeight]

/-- Settles O17: a K operation answers its value by definition; a load or store answers, or aborts, as the lemma above about it
says. -/
theorem scalarsLoadsAndStoresAct : Obligations.ScalarsLoadsAndStoresAct := by
  refine ⟨fun s tile r hRun => ?scalars, fun s tile ecc r hEcc hRun => ?loads, fun s tile r hRun => ?stores⟩
  case scalars =>
    exact ⟨fun h => exec_of_issueOp_ok (exec_kAdd ..) h hRun rfl, fun h => exec_of_issueOp_ok (exec_kSub ..) h hRun rfl,
      fun h => exec_of_issueOp_ok (exec_and ..) h hRun rfl, fun h => exec_of_issueOp_ok (exec_or ..) h hRun rfl,
      fun h => exec_of_issueOp_ok (exec_xor ..) h hRun rfl, fun h => exec_of_issueOp_ok (exec_addi ..) h hRun rfl,
      fun h => exec_of_issueOp_ok (exec_shli ..) h hRun rfl, fun h => exec_of_issueOp_ok (exec_shri ..) h hRun rfl,
      fun h => exec_of_issueOp_ok (exec_sari ..) h hRun rfl, fun h => exec_of_issueOp_ok (exec_movi ..) h hRun rfl,
      fun h => exec_of_issueOp_ok (exec_muli ..) h hRun rfl, fun h => exec_of_issueOp_ok (exec_rdlc ..) h hRun rfl,
      fun h => exec_of_issueOp_ok (exec_extu ..) h hRun rfl⟩
  case loads =>
    refine ⟨fun h hCode hMay => ?ldp, fun h hCode hMay => ?ldpBarred, fun h hCode hMay => ?ldpr, fun h hCode => ?ldw,
      fun h hCode hCode2 hMay => ?ldpw, fun h hCode => ?ldpNoRegister⟩
    case ldp => exact exec_of_issueMem_ok hEcc (exec_ldp ..) h hRun (loadPal_of_may hCode hMay)
    case ldpBarred => exact exec_of_issueMem_error hEcc (exec_ldp ..) h hRun (loadPal_of_may_not hCode hMay)
    case ldpr => exact exec_of_issueMem_ok hEcc (exec_ldpr ..) h hRun (loadPal_of_may hCode hMay)
    case ldw => exact exec_of_issueMem_ok hEcc (exec_ldw ..) h hRun (loadWeight_of_register hCode)
    case ldpw =>
      have hBoth := opLdpw_of_ok (e := tileEnv (landed s tile (eccCorrected ecc)) tile.val r 5)
        (loadPal_of_may hCode hMay) (loadWeight_of_register hCode2)
      exact exec_of_issueMem_ok hEcc (exec_ldpw ..) h hRun hBoth
    case ldpNoRegister => exact exec_of_issueMem_error hEcc (exec_ldp ..) h hRun (loadPal_of_no_register hCode)
  case stores =>
    exact ⟨fun h hCode hMay => exec_of_issueOp_ok (exec_stp ..) h hRun (storePal_of_may hCode hMay),
      fun h hCode hMay => exec_of_issueOp_ok (exec_stpr ..) h hRun (storePal_of_may hCode hMay),
      fun h hCode hMay => exec_of_issueOp_error (exec_stp ..) h hRun (storePal_of_may_not hCode hMay)⟩

end Sys2Proof.Machine
end

section
/-! What the operations of the C slot and opcode 0x00 of every slot do to a tile's step (08 R189, R194, R195, R199, R207, 09 R219 to
R221). -/

namespace Sys2Proof.Machine

/-! ### Opcode 0x00, an undefined opcode, a failed parity (08 R189, R199) -/

section
variable {s : State} {tile : Fin 64} {rank : Nat}

/-- Opcode 0x00 issues as an operation without results. -/
theorem nopDo_of_issues (hIssues : issues s tile rank 0 = true) :
    nopDo tile.val rank true s = issueOp tile.val rank 0 (fun _ => .ok {}) s := by
  obtain ⟨hOpen, hIs⟩ := Bool.and_eq_true_iff.mp hIssues
  simp [nopDo, hOpen, hIs]

/-- A bundle that fails its parity at fetch aborts the step. -/
theorem nopDo_of_bad_parity (hOpen : slotOpen s tile.val rank = true) :
    nopDo tile.val rank false s = abortTile s tile.val .kstoreParity (some rank) := by
  simp [nopDo, hOpen]

/-- Every slot has a no-operation. -/
theorem zero_mem_slotOps (rank : Nat) : 0 ∈ slotOps rank := by
  unfold slotOps
  split <;> simp

/-- So does an opcode that none of the slot's operations has. -/
theorem nopDo_of_undefined (hOpen : slotOpen s tile.val rank = true)
    (hNone : ∀ o ∈ slotOps rank, slotIs s tile.val rank o = false) :
    nopDo tile.val rank true s = abortTile s tile.val .illegalOp (some rank) := by
  have hAny : (slotOps rank).any (fun o => slotIs s tile.val rank o) = false := by
    simpa using hNone
  simp [nopDo, hOpen, hNone 0 (zero_mem_slotOps rank), hAny]

end

/-! ### LOOP (08 R194, R195) -/

section
variable {w : Nat} {r : Run}

/-- The last bundle of the loop that LOOP begins. -/
def loopEnd (w : Nat) : Nat := field w 44 10
/-- How often it runs. -/
def loopCount (w : Nat) (r : Run) : Nat := if natBit w 43 then field (xReg r 0) 20 4 else field w 0 16

section
variable (hAfter : r.pc < loopEnd w) (hInside : ∀ f fs, r.loops = f :: fs → loopEnd w ≤ f.stop)
include hAfter hInside

/-- A loop that ends behind its LOOP and within the loop around it: no turns go on past its end, and others begin behind LOOP's
bundle, where there is a place for a loop. -/
theorem loopRun_of_inside : loopRun w r =
    if loopCount w r ≠ 0 ∧ 4 ≤ r.loops.length then .error .loopFault
    else if loopCount w r = 0 then .ok { r with nextPc := some (loopEnd w + 1) }
    else .ok { r with newLoop := some ({ n := field w 54 2, start := r.pc + 1, stop := loopEnd w }, loopCount w r) } := by
  have hNotBefore : ¬ field w 44 10 ≤ r.pc := Nat.not_le.mpr hAfter
  cases hLoops : r.loops with
  | nil => simp [loopRun, hLoops, hNotBefore, loopEnd, loopCount] <;> rfl
  | cons f fs =>
    have hNotOutside : ¬ f.stop < field w 44 10 := Nat.not_lt.mpr (hInside f fs hLoops)
    simp [loopRun, hLoops, hNotBefore, hNotOutside, loopEnd, loopCount] <;> rfl

/-- No turns: the bundle behind the loop's end is next. -/
theorem loopRun_skips (hCount : loopCount w r = 0) : loopRun w r = .ok { r with nextPc := some (loopEnd w + 1) } := by
  rw [loopRun_of_inside hAfter hInside, if_neg fun h => h.1 hCount, if_pos hCount]

/-- At least one turn: the loop begins once the bundle has issued. -/
theorem loopRun_begins (hCount : loopCount w r ≠ 0) (hDepth : r.loops.length < 4) :
    loopRun w r = .ok { r with
      newLoop := some ({ n := field w 54 2, start := r.pc + 1, stop := loopEnd w }, loopCount w r) } := by
  rw [loopRun_of_inside hAfter hInside, if_neg fun h => Nat.not_le.mpr hDepth h.2, if_neg hCount]

end

/-- A loop that ends before it begins, or a fifth one, aborts the step. -/
theorem loopRun_faults (h : loopEnd w ≤ r.pc ∨ (loopCount w r ≠ 0 ∧ 4 ≤ r.loops.length)) :
    loopRun w r = .error .loopFault := by
  rw [loopEnd, loopCount] at h
  rcases h with hBefore | ⟨hCount, hDepth⟩
  · simp [loopRun, hBefore]
  · simp [loopRun, hCount, hDepth]

end

/-! ### The operations as they issue -/

/-- A change of a tile's step that is told the step it changes. -/
theorem updRun_const {s : State} {n : Nat} {r : Run} (hRun : (s.tile n).run = some r) (f : Run → Run) :
    updRun s n (fun _ => f r) = updRun s n f := by
  simp [updRun, State.updTile, hRun]

section
variable {s : State} {tile : Fin 64} {r : Run}

/-- LOOP that changes the step by `g`. -/
theorem loopDo_of_ok {g : Run → Run} (hIssues : issues s tile 7 1 = true) (hRun : runIn (landDue s tile.val) tile = some r)
    (hOk : loopRun (wordIn (landDue s tile.val) tile 7 r) r = .ok (g r)) :
    loopDo tile.val s = advance (updRun (landDue s tile.val) tile.val fun r => markIssued 7 (g r)) tile.val := by
  rw [issues] at hIssues
  rw [runIn] at hRun
  rw [wordIn] at hOk
  simp [loopDo, hIssues, hRun, hOk, ← updRun_const hRun fun r => markIssued 7 (g r)]

/-- LOOP that aborts the step. -/
theorem loopDo_of_error {c : AbortCode} (hIssues : issues s tile 7 1 = true)
    (hRun : runIn (landDue s tile.val) tile = some r)
    (hError : loopRun (wordIn (landDue s tile.val) tile 7 r) r = .error c) :
    loopDo tile.val s = abortTile (landDue s tile.val) tile.val c (some 7) := by
  rw [issues] at hIssues
  rw [runIn] at hRun
  rw [wordIn] at hError
  simp [loopDo, hIssues, hRun, hError]

/-- What a WAITIN that finds an entry does to the step: the entry lands in V31 in the next cycle (09 R219). -/
def takeEntry (q : List Nat) (r : Run) : Run :=
  takeOut 7 { writes := [(1, .v 31 (entryLanes q))] } { r with taken := r.taken + 1 }

/-- An entry is there: a stall for it ends. -/
theorem waitinDo_of_entry {q : List Nat} (hIssues : issues s tile 7 2 = true)
    (hRun : runIn (landDue s tile.val) tile = some r) (hEntry : waitEntry (landDue s tile.val) r = some q) :
    waitinDo tile.val s = advance (updRun (if r.stall = some .input then endStall (landDue s tile.val) tile.val
      else landDue s tile.val) tile.val fun r => markIssued 7 (takeEntry q r)) tile.val := by
  rw [issues] at hIssues
  rw [runIn] at hRun
  simp [waitinDo, hIssues, hRun, hEntry, takeEntry]

/-- None is: the step stalls until one is. -/
theorem waitinDo_of_no_entry (hIssues : issues s tile 7 2 = true) (hRun : runIn (landDue s tile.val) tile = some r)
    (hEntry : waitEntry (landDue s tile.val) r = none) (hStall : r.stall = none) :
    waitinDo tile.val s = beginStall (landDue s tile.val) tile.val .input := by
  rw [issues] at hIssues
  rw [runIn] at hRun
  simp [waitinDo, hIssues, hRun, hEntry, hStall]

/-- V30 is read in the cycle in which the step ends. -/
theorem endstepDo_of_issues (hIssues : issues s tile 7 3 = true) :
    endstepDo tile.val s = updRun (landDue s tile.val) tile.val fun r =>
      markIssued 7 { r with ended := true, out := (vReg r 30).take 16 } := by
  rw [issues] at hIssues
  simp [endstepDo, hIssues]

/-- The step stalls at the barrier of its word's mask and tag. -/
theorem barrierDo_of_issues (hIssues : issues s tile 7 4 = true) (hRun : runIn (landDue s tile.val) tile = some r) :
    barrierDo tile.val s = updRun (beginStall (landDue s tile.val) tile.val
      (.barrier (field (wordIn (landDue s tile.val) tile 7 r) 32 16) (field (wordIn (landDue s tile.val) tile 7 r) 0 8)))
      tile.val (markIssued 7) := by
  rw [issues] at hIssues
  rw [runIn] at hRun
  simp [barrierDo, hIssues, hRun, wordIn]

/-- The bank that LEASE and RELEASE name: its tile of the bench, and its number there. -/
def leaseBank (w : Nat) : Nat × Nat := (field w 48 4, field w 44 4)

/-- A bank of its own tile, or one that the step holds, needs no request. -/
theorem leaseDo_of_held (hIssues : issues s tile 7 5 = true) (hRun : runIn (landDue s tile.val) tile = some r)
    (hHeld : (leaseBank (wordIn (landDue s tile.val) tile 7 r)).1 = tile.val % 16
      ∨ leaseBank (wordIn (landDue s tile.val) tile 7 r) ∈ r.held) :
    leaseDo tile.val s = advance (updRun (landDue s tile.val) tile.val (markIssued 7)) tile.val := by
  rw [issues] at hIssues
  rw [runIn] at hRun
  simp only [leaseBank, wordIn] at hHeld
  simp [leaseDo, hIssues, hRun, hHeld]

/-- A request for the bank waits at its tile, and the step stalls until it is granted (08 R202). -/
theorem leaseDo_of_not_held (hIssues : issues s tile 7 5 = true) (hRun : runIn (landDue s tile.val) tile = some r)
    {b : Nat × Nat} (hBank : leaseBank (wordIn (landDue s tile.val) tile 7 r) = b) (hOther : b.1 ≠ tile.val % 16)
    (hFree : b ∉ r.held) :
    leaseDo tile.val s = updRun (beginStall ((landDue s tile.val).updTile (tile.val / 16 * 16 + b.1) fun x =>
      { x with requests := x.requests ++ [{ bank := b.2, who := .remote tile, at_ := (landDue s tile.val).now }] })
      tile.val (.lease b.1 b.2)) tile.val (markIssued 7) := by
  subst hBank
  rw [issues] at hIssues
  rw [runIn] at hRun
  simp only [leaseBank, wordIn] at hOther hFree
  simp [leaseDo, hIssues, hRun, hOther, hFree, leaseBank, wordIn]

/-- The step holds the bank no more, which goes home where it was held. -/
theorem releaseDo_of_issues (hIssues : issues s tile 7 6 = true) (hRun : runIn (landDue s tile.val) tile = some r)
    {b : Nat × Nat} (hBank : leaseBank (wordIn (landDue s tile.val) tile 7 r) = b) :
    releaseDo tile.val s = advance (updRun
      (if b ∈ r.held then goHome (landDue s tile.val) (tile.val / 16 * 16 + b.1) b.2 else landDue s tile.val) tile.val
      fun r => markIssued 7 { r with held := r.held.filter (fun q => q != b) }) tile.val := by
  subst hBank
  rw [issues] at hIssues
  rw [runIn] at hRun
  simp only [releaseDo, hIssues, hRun, leaseBank, wordIn, Bool.not_true, Bool.false_eq_true, if_false,
    List.contains_iff_mem]
  rfl

end

/-- Settles O21: each operation does to the step what its lemma above says; a changed step is the change of the step. -/
theorem controlOperationsSteerTile : Obligations.ControlOperationsSteerTile := by
  intro s tile r hRun
  refine ⟨fun sl h => ⟨?nop, ?parity⟩, fun sl hOpen hNone => ?undefined, fun h hAfter hInside hCount => ?loopSkips,
    fun h hAfter hInside hCount hDepth => ?loopBegins, fun h hBad => ?loopFaults, fun q h hEntry hStall => ?waitinRuns,
    fun q h hEntry hStall => ?waitinEnds, fun h hEntry hStall => ?waitinStalls, fun h => ?endstep, fun h => ?barrier,
    fun h hHeld => ?leaseHeld, fun h hOther hFree => ?leaseAsks, fun h => ?release⟩
  case nop =>
    exact exec_finish_congr (exec_nop ..) ((nopDo_of_issues (s := s.at 0) h).trans (issueOp_of_ok (s := s.at 0) h hRun rfl))
  case parity =>
    exact exec_finish_congr (exec_nop ..) (nopDo_of_bad_parity (s := s.at 0) (Bool.and_eq_true_iff.mp h).1)
  case undefined => exact exec_finish_congr (exec_nop ..) (nopDo_of_undefined (s := s.at 0) hOpen hNone)
  case loopSkips =>
    exact exec_finish_congr (exec_loop ..) (loopDo_of_ok (s := s.at 0) h hRun (loopRun_skips hAfter hInside hCount))
  case loopBegins =>
    exact exec_finish_congr (exec_loop ..) (loopDo_of_ok (s := s.at 0) h hRun (loopRun_begins hAfter hInside hCount hDepth))
  case loopFaults => exact exec_finish_congr (exec_loop ..) (loopDo_of_error (s := s.at 0) h hRun (loopRun_faults hBad))
  case waitinRuns =>
    refine exec_finish_congr (exec_waitin ..) ((waitinDo_of_entry (s := s.at 0) h hRun hEntry).trans ?_)
    rw [if_neg (by simp [hStall])]
    rfl
  case waitinEnds =>
    refine exec_finish_congr (exec_waitin ..) ((waitinDo_of_entry (s := s.at 0) h hRun hEntry).trans ?_)
    rw [if_pos hStall]
    rfl
  case waitinStalls => exact exec_finish_congr (exec_waitin ..) (waitinDo_of_no_entry (s := s.at 0) h hRun hEntry hStall)
  case endstep => exact exec_finish_congr (exec_endstep ..) (endstepDo_of_issues (s := s.at 0) h)
  case barrier => exact exec_finish_congr (exec_barrier ..) (barrierDo_of_issues (s := s.at 0) h hRun)
  case leaseHeld => exact exec_finish_congr (exec_lease ..) (leaseDo_of_held (s := s.at 0) h hRun hHeld)
  case leaseAsks => exact exec_finish_congr (exec_lease ..) (leaseDo_of_not_held (s := s.at 0) h hRun rfl hOther hFree)
  case release => exact exec_finish_congr (exec_release ..) (releaseDo_of_issues (s := s.at 0) h hRun rfl)

end Sys2Proof.Machine
end

section
/-! What the events of a tile do: landing, barriers, grants and expiries of leases, stalls (08 R191, R192, R196, R201 to R203, 09
R220). -/

namespace Sys2Proof.Machine

/-! ### A table after a removal -/

theorem tblFind?_tblDel {α : Type} (k : Nat) (t : Tbl α) (j : Nat) :
    tblFind? (tblDel k t) j = if j = k then none else tblFind? t j := by
  induction t with
  | nil => simp [tblDel, tblFind?]
  | cons e t ih =>
    obtain ⟨a, v⟩ := e
    simp only [tblDel, List.filter_cons, tblFind?] at ih ⊢
    by_cases hak : a = k
    · subst hak
      by_cases hja : j = a
      · simpa [hja] using ih
      · simp [ih, hja, Ne.symm hja]
    · by_cases haj : a = j
      · simp [tblFind?, haj, haj ▸ hak]
      · simp [tblFind?, ih, hak, haj]

/-! ### Results land (08 R191, R192) -/

section
variable {s : State} {n : Nat} {r : Run}

/-- While the step runs, the results of its cycle land. -/
theorem landDo_of_running (hUp : s.sys.thermal.shut = false) (hRun : (s.tile n).run = some r) (hStall : r.stall = none)
    (hEnded : r.ended = false) : landDo n s = landDue s n := by
  simp [landDo, hRun, hStall, hUp, hEnded]

/-- After the end of the step the next landing cycle comes without issue. -/
theorem landDo_of_ended {y : InFlight} {ys : List InFlight} (hUp : s.sys.thermal.shut = false)
    (hRun : (s.tile n).run = some r) (hStall : r.stall = none) (hEnded : r.ended = true) (hIssued : r.issued = 255)
    (hFlight : r.flight = y :: ys) :
    landDo n s = landDue (updRun s n fun r => { r with cycle := max r.cycle y.land }) n := by
  simp [landDo, hRun, hStall, hUp, hEnded, hIssued, hFlight]

/-- Every participant of the barrier has issued it with the tag (09 R220). -/
theorem barrierCompleteDo_of_met (hUp : s.sys.thermal.shut = false) (hTiles : barrierTiles s n ≠ [])
    (hTags : ∀ p ∈ barrierTiles s n, barrierTag s p = barrierTag s n) :
    barrierCompleteDo n s = (barrierTiles s n).foldl (fun s p => advance (endStall s p) p) s := by
  have hAll : (barrierTiles s n).all (fun p => barrierTag s p == barrierTag s n) = true := by simpa using hTags
  simp [barrierCompleteDo, hUp, hTiles, hAll]

/-- A stall that has reached its limit aborts the step (08 R196). -/
theorem stallTimeoutDo_of_late (hUp : s.sys.thermal.shut = false) (hRun : (s.tile n).run = some r)
    (hStall : r.stall.isSome = true) (hLate : r.stallAt + stallLimit r ≤ s.now) (hLive : s.benchLive (n / 16) = true) :
    stallTimeoutDo n s = abortTile s n .stallTimeout (some 7) := by
  simp [stallTimeoutDo, hRun, hStall, hLate, hLive, hUp]

end

/-! ### A lease is granted (08 R201, R202) -/

/-- Bank `bank` of tile `n` is leased to `h`, whose request for it waits no longer. -/
def leaseTo (s : State) (n bank : Nat) (h : Holder) : State :=
  s.updTile n fun x => { x with
    holders := tblSet bank h x.holders, leaseAt := tblSet bank s.now x.leaseAt
    requests := x.requests.filter fun q => !(q.bank == bank && q.who == h) }

/-- A tile's step knows of the bank that it has been leased. -/
def leaseRemote (s : State) (n bank u : Nat) : State :=
  updRun s u fun r => { r with held := r.held ++ [(n % 16, bank)] }

/-- What the new holder does with the bank: the step that stalls for it goes on, Foreman's waiting writes are done. -/
def leaseUsed (s : State) (n bank : Nat) : Holder → State
  | .remote u =>
    match ((leaseRemote s n bank u.val).tile u.val).run with
    | some r =>
      if r.stall = some (.lease (n % 16) bank) then advance (endStall (leaseRemote s n bank u.val) u.val) u.val
      else leaseRemote s n bank u.val
    | none => leaseRemote s n bank u.val
  | .foreman => dispatchTile (foremanWrites s n) n
  | _ => s

/-- The requester served next takes a bank that is at HOME and that no step uses, or that a member of the requester's gang lets it
have (log 177). -/
theorem leaseGrantDo_of_first {s : State} {n bank : Nat} {q : LeaseReq} (hUp : s.sys.thermal.shut = false)
    (hFirst : firstReq (s.tile n) bank = some q) (hHome : holderOf (s.tile n) bank = .home)
    (hFree : bankInUse (s.tile n) bank = false ∨ gangLets s n q.who = true) :
    leaseGrantDo n bank q.who s = leaseUsed (leaseTo s n bank q.who) n bank q.who := by
  have hAllowed : (bankInUse (s.tile n) bank && !gangLets s n q.who) = false := by rcases hFree with hf | hf <;> simp [hf]
  simp only [leaseGrantDo, hUp, hFirst, hHome, hAllowed, beq_self_eq_true, bne_self_eq_false, Bool.not_true, Bool.or_self,
    Bool.false_eq_true, if_false]
  rfl

section
variable {s : State} {n bank : Nat} {u : Fin 64}

/-- A step that stalls for the bank goes on. -/
theorem leaseUsed_of_stalled {r : Run} (hRun : ((leaseRemote s n bank u.val).tile u.val).run = some r)
    (hStall : r.stall = some (.lease (n % 16) bank)) :
    leaseUsed s n bank (.remote u) = advance (endStall (leaseRemote s n bank u.val) u.val) u.val := by
  simp [leaseUsed, hRun, hStall]

/-- Any other step of the new holder only knows of it. -/
theorem leaseUsed_of_not_stalled
    (hRun : ∀ r, ((leaseRemote s n bank u.val).tile u.val).run = some r → r.stall ≠ some (.lease (n % 16) bank)) :
    leaseUsed s n bank (.remote u) = leaseRemote s n bank u.val := by
  rw [leaseUsed]
  cases h : ((leaseRemote s n bank u.val).tile u.val).run with
  | none => rfl
  | some r => exact if_neg (hRun r h)

end

/-! ### A lease expires (08 R203, Table 8-6) -/

/-- Bank `bank` of tile `n` is at HOME. -/
def AtHome (n bank : Nat) (s : State) : Prop := holderOf (s.tile n) bank = .home

theorem AtHome.congr {n bank : Nat} {s u : State} (h : AtHome n bank s) (hTiles : u.tiles = s.tiles) : AtHome n bank u := by
  rw [AtHome, State.tile, hTiles]
  exact h

section
variable {n bank : Nat} {s : State} (h : AtHome n bank s)
include h

/-- A change of a tile that leases no bank leases this one to nobody. -/
theorem AtHome.updTile {f : Tile → Tile} (hf : ∀ x, holderOf x bank = .home → holderOf (f x) bank = .home) (m : Nat) :
    AtHome n bank (s.updTile m f) := by
  rw [AtHome] at h ⊢
  by_cases hm : n = m
  · subst hm
    rw [State.updTile_tile]
    exact hf _ h
  · rwa [State.updTile_tile_ne _ _ hm]

theorem AtHome.goHome (m b : Nat) : AtHome n bank (goHome s m b) := by
  refine h.updTile (fun x hx => ?_) m
  rw [holderOf, tblGet] at hx ⊢
  rw [tblFind?_tblDel]
  split
  · rfl
  · exact hx

theorem AtHome.updStream (m : Nat) (f : Stream → Stream) : AtHome n bank (s.updStream m f) := h

theorem AtHome.updStreams (p : Stream → Bool) (f : Stream → Stream) : AtHome n bank (updStreams s p f) := h

theorem AtHome.askFor (m : Nat) (who : Holder) (bs : List Nat) : AtHome n bank (askFor s m who bs) := by
  unfold Machine.askFor
  exact h.updTile (by exact fun _ hx => hx) m

theorem AtHome.foremanTidy (m : Nat) : AtHome n bank (foremanTidy s m) := by
  unfold Machine.foremanTidy
  refine AtHome.updTile ?_ (by exact fun _ hx => hx) m
  refine List.foldlRecOn (motive := AtHome n bank) _ _ h fun v hv b _ => ?_
  split
  · exact hv.goHome m b
  · exact hv

end

theorem atHome_goHome (s : State) (n bank : Nat) : AtHome n bank (goHome s n bank) := by
  simp [AtHome, holderOf, Machine.goHome, tblGet, tblFind?_tblDel]

section
variable {s : State} {n bank : Nat} (hLive : s.benchLive (n / 16) = true)
include hLive

/-- A tile's step that holds the lease too long loses it (08 R203, R208). -/
theorem leaseExpiryDo_of_remote {u : Fin 64} (hUp : s.sys.thermal.shut = false)
    (hHolder : holderOf (s.tile n) bank = .remote u) (hLate : tblGet 0 (s.tile n).leaseAt bank + 2400 ≤ s.now) :
    leaseExpiryDo n bank s = abortTile (goHome (logFault s 0x0303 1 false
      (((s.tile u.val).run.map (fun r => r.tenant)).getD 0xFF) 2 n (leBytes 1 bank ++ leBytes 1 1 ++ leBytes 1 u.val))
      n bank) u.val .leaseLost none := by
  simp [leaseExpiryDo, hHolder, hLive, leaseLimit, Nat.not_lt.mpr hLate, hUp]

/-- The swap engine that holds a bank too long loses it; its copies ask for the bank again. -/
theorem leaseExpiryDo_of_swap (hHolder : holderOf (s.tile n) bank = .swap)
    (hLate : tblGet 0 (s.tile n).leaseAt bank + 960 ≤ s.now) : AtHome n bank (leaseExpiryDo n bank s) := by
  simp only [leaseExpiryDo, hHolder, hLive, leaseLimit, Nat.not_lt.mpr hLate, Bool.not_true, Bool.or_false, decide_false,
    beq_iff_eq, reduceCtorEq, ↓reduceIte]
  refine List.foldlRecOn (motive := AtHome n bank) _ _ (atHome_goHome ..) fun v hv m _ => ?_
  split
  · exact (hv.updStream ..).askFor ..
  · exact hv

/-- Foreman that holds a bank too long loses it, and what it was to write there is not written. -/
theorem leaseExpiryDo_of_foreman (hHolder : holderOf (s.tile n) bank = .foreman)
    (hLate : tblGet 0 (s.tile n).leaseAt bank + 9600 ≤ s.now) : AtHome n bank (leaseExpiryDo n bank s) := by
  simp only [leaseExpiryDo, hHolder, hLive, leaseLimit, Nat.not_lt.mpr hLate, Bool.not_true, Bool.or_false, decide_false,
    beq_iff_eq, reduceCtorEq, ↓reduceIte]
  exact ((atHome_goHome ..).updStreams ..).foremanTidy n

end

/-! ### The order in which results land (08 R191) -/

/-- A relation that holds between every two elements in their order, by their positions. -/
theorem pairwise_iff_getElem? {α : Type} {R : α → α → Prop} {l : List α} :
    l.Pairwise R ↔ ∀ i j : Nat, i < j → ∀ a b, l[i]? = some a → l[j]? = some b → R a b := by
  rw [List.pairwise_iff_getElem]
  refine ⟨fun h i j hij a b ha hb => ?_, fun h i j hi hj hij => ?_⟩
  · obtain ⟨hi, rfl⟩ := List.getElem?_eq_some_iff.mp ha
    obtain ⟨hj, rfl⟩ := List.getElem?_eq_some_iff.mp hb
    exact h i j hi hj hij
  · exact h i j hij _ _ (List.getElem?_eq_getElem hi) (List.getElem?_eq_getElem hj)

/-- Result `a` lands in an earlier cycle than `b`, or in the same one from no higher slot. -/
def LandsBefore (a b : InFlight) : Prop := a.land < b.land ∨ a.land = b.land ∧ a.rank ≤ b.rank

theorem LandsBefore.trans {a b c : InFlight} (hab : LandsBefore a b) (hbc : LandsBefore b c) : LandsBefore a c := by
  simp only [LandsBefore] at *
  omega

/-- A result goes in flight ahead of another just where it lands first, and from a lower slot in its cycle. -/
theorem insertFlight_cons (x y : InFlight) (ys : List InFlight) :
    (insertFlight x (y :: ys) = x :: y :: ys ∧ LandsBefore x y)
      ∨ (insertFlight x (y :: ys) = y :: insertFlight x ys ∧ LandsBefore y x) := by
  by_cases h : (x.land < y.land || (x.land = y.land && x.rank < y.rank)) = true
  · refine .inl ⟨by rw [insertFlight, if_pos h], ?_⟩
    simp only [Bool.or_eq_true, Bool.and_eq_true, decide_eq_true_eq] at h
    simp only [LandsBefore]
    omega
  · refine .inr ⟨by rw [insertFlight, if_neg h], ?_⟩
    simp only [Bool.or_eq_true, Bool.and_eq_true, decide_eq_true_eq] at h
    simp only [LandsBefore]
    omega

section
variable (x : InFlight) (l : List InFlight)

theorem length_insertFlight : (insertFlight x l).length = l.length + 1 := by
  induction l with
  | nil => rfl
  | cons y ys ih => rcases insertFlight_cons x y ys with ⟨h, -⟩ | ⟨h, -⟩ <;> simp [h, ih]

theorem mem_insertFlight {y : InFlight} : y ∈ insertFlight x l ↔ y = x ∨ y ∈ l := by
  induction l with
  | nil => simp [insertFlight]
  | cons z zs ih =>
    rcases insertFlight_cons x z zs with ⟨h, -⟩ | ⟨h, -⟩
    · rw [h, List.mem_cons]
    · rw [h, List.mem_cons, ih, List.mem_cons, or_left_comm]

theorem pairwise_insertFlight (hl : l.Pairwise LandsBefore) : (insertFlight x l).Pairwise LandsBefore := by
  induction l with
  | nil => exact List.pairwise_singleton ..
  | cons y ys ih =>
    obtain ⟨hy, hys⟩ := List.pairwise_cons.mp hl
    rcases insertFlight_cons x y ys with ⟨h, hxy⟩ | ⟨h, hyx⟩ <;> rw [h, List.pairwise_cons]
    · refine ⟨fun z hz => ?_, hl⟩
      rcases List.mem_cons.mp hz with rfl | hz
      · exact hxy
      · exact hxy.trans (hy z hz)
    · refine ⟨fun z hz => ?_, ih hys⟩
      rcases (mem_insertFlight x ys).mp hz with rfl | hz
      · exact hyx
      · exact hy z hz

/-- A result of a higher slot that lands in the same cycle in the same register hides the new one. -/
theorem hidden_insertFlight {y : InFlight} (hy : y ∈ l) (hLand : y.land = x.land) (hReg : sameReg x.dest y.dest = true)
    (hRank : x.rank < y.rank) : hidden (insertFlight x l) x = true :=
  List.any_eq_true.mpr ⟨y, (mem_insertFlight x l).mpr (.inr hy), by simp [hLand, hReg, hRank]⟩

end

/-! ### The obligation -/

/-- Settles O22: under the statement's hypotheses each event's condition holds, and what it does is the lemma above about it;
results go in flight in the order in which they land. -/
theorem tileEventsHappen : Obligations.TileEventsHappen := by
  refine ⟨fun s t tile bank hUp => ?events, fun x l hl => ?order⟩
  case order =>
    exact ⟨pairwise_iff_getElem?.mp (pairwise_insertFlight x l (pairwise_iff_getElem?.mpr hl)), length_insertFlight x l,
      fun y => mem_insertFlight x l, fun y hy hLand hReg hRank => hidden_insertFlight x l hy hLand hReg hRank⟩
  case events =>
    refine ⟨fun r hRun hStall hEnded => ?lands, fun r y ys hRun hStall hEnded hIssued hFlight => ?landsLate,
      fun hTiles hTags => ?barrier, fun q hFirst hHome hFree => ?grant, fun r hRun hStall hLate hLive => ?stall,
      fun u hHolder hLive hLate => ?expiryRemote, fun hHolder hLive hLate => ?expirySwap,
      fun hHolder hLive hLate => ?expiryForeman⟩
    case lands =>
      exact exec_finish_congr (exec_resultLand ..) (landDo_of_running (s := s.at 0) hUp hRun hStall hEnded)
    case landsLate =>
      exact exec_finish_congr (exec_resultLand ..)
        (landDo_of_ended (s := s.at 0) hUp hRun hStall hEnded hIssued hFlight)
    case barrier =>
      exact exec_finish_congr (exec_barrierComplete ..) (barrierCompleteDo_of_met (s := s.at 0) hUp hTiles hTags)
    case grant =>
      have hGrant := leaseGrantDo_of_first (s := s.at t) hUp hFirst hHome hFree
      refine ⟨fun hWho => ?engine, fun hWho => ?foreman, fun u hWho => ⟨fun r hRun hStall => ?stalled, fun hRun => ?running⟩⟩
      case engine =>
        refine exec_finish_congr (exec_leaseGrant ..) (hGrant.trans ?_)
        rcases hWho with hWho | hWho <;> rw [hWho] <;> rfl
      case foreman =>
        refine exec_finish_congr (exec_leaseGrant ..) (hGrant.trans ?_)
        rw [hWho]
        rfl
      case stalled =>
        exact exec_finish_congr (exec_leaseGrant ..)
          (hGrant.trans ((congrArg (leaseUsed _ _ _) hWho).trans (leaseUsed_of_stalled hRun hStall)))
      case running =>
        exact exec_finish_congr (exec_leaseGrant ..)
          (hGrant.trans ((congrArg (leaseUsed _ _ _) hWho).trans (leaseUsed_of_not_stalled hRun)))
    case stall =>
      exact exec_finish_congr (exec_stallTimeout ..)
        (stallTimeoutDo_of_late (s := s.at t) hUp hRun hStall hLate hLive)
    case expiryRemote =>
      exact exec_finish_congr (exec_leaseExpiry ..) (leaseExpiryDo_of_remote (s := s.at t) hLive hUp hHolder hLate)
    case expirySwap =>
      exact ⟨_, exec_leaseExpiry .., (leaseExpiryDo_of_swap (s := s.at t) hLive hHolder hLate).congr (by simp)⟩
    case expiryForeman =>
      exact ⟨_, exec_leaseExpiry .., (leaseExpiryDo_of_foreman (s := s.at t) hLive hHolder hLate).congr (by simp)⟩

end Sys2Proof.Machine
end

section
/-! What becomes of a stream whose step aborts (08 R208, R209, 11 R290), and what happens to a stream between two steps where
nothing waits for it (16 R386). -/

namespace Sys2Proof.Machine

theorem State.stream_congr {s u : State} (h : u.sched.streams = s.sched.streams) (n : Nat) : u.stream n = s.stream n := by
  rw [State.stream, State.stream, h]

@[simp] theorem raiseEvent_stream (s : State) (tenant op : Nat) (f : List Byte) (n : Nat) :
    (raiseEvent s tenant op f).stream n = s.stream n := State.stream_congr (by simp) n

@[simp] theorem cutRun_stream (s : State) (m : Nat) (gone : Bool) (n : Nat) : (cutRun s m gone).stream n = s.stream n :=
  State.stream_congr (by simp) n

/-! ### Between two steps -/

section
variable {s : State} {n : Nat}

/-- Where no parameter units and no settings wait, a stream is left as it was. -/
theorem applyBetween_of_nothing (h : (s.stream n).between = {}) : (applyBetween s n).stream n = s.stream n := by
  have hBanks : paramBanks s (s.stream n) = [] := by simp [paramBanks, h]
  have hParams : (applyParams s n).stream n = s.stream n := by
    simp only [applyParams, h, List.foldl_nil, State.updStream_stream]
    rw [← h]
  have hSet : applySet (applyParams s n) n = applyParams s n := by simp [applySet, hParams, h]
  simp only [applyBetween, hBanks, List.all_nil, List.isEmpty_nil, if_true, hSet]
  exact (State.stream_congr rfl n).trans hParams

theorem betweenSteps_of_nothing (hEnding : (s.stream n).ending = false) (h : (s.stream n).between = {}) :
    (betweenSteps s n).stream n = s.stream n := by
  simp only [betweenSteps, hEnding, Bool.false_eq_true, if_false]
  split
  · rfl
  · exact applyBetween_of_nothing h

end

/-! ### Abort -/

section
variable {s : State} {n : Nat}

/-- A stream that the device pauses (11 R290). -/
theorem pauseStream_stream (s : State) (n reason : Nat) :
    (pauseStream s n reason).stream n = { s.stream n with
      den := false, pauseReason := reason, queue := if (s.stream n).feed then [] else (s.stream n).queue
      xfer := (s.stream n).xfer.map fun y => { y with cancelled := y.kind == .bringIn } } := by
  have hCut : (if (s.stream n).feed then cutRun s n true else s).stream n = s.stream n := by split <;> simp
  simp only [pauseStream, raiseEvent_stream, State.updStream_stream, hCut]

/-- One that the device pauses without SWAP keeps its area. -/
theorem pauseFreed_of_not_swap (hSwap : (s.stream n).swap = false) (reason : Nat) :
    pauseFreed s n reason = pauseStream s n reason := by
  simp [pauseFreed, pauseStream_stream, hSwap]

/-- A stream once a step has aborted: a restart asked for during the step comes with the next one (11 R267). -/
def restarts (x : Stream) : Stream := { x with reset := x.reset || x.resetNew, resetNew := false }

/-- The first abort of a step leaves its stream to be dispatched again. -/
theorem streamAbort_first (code : AbortCode) (hEnding : (s.stream n).ending = false) (hRetry : (s.stream n).retry = false) :
    (streamAbort s n code).stream n = { restarts (s.stream n) with retry := true } := by
  simp [streamAbort, hEnding, hRetry, restarts]

/-- The second one pauses it, with the abort's reason. -/
theorem streamAbort_second (code : AbortCode) (hEnding : (s.stream n).ending = false) (hRetry : (s.stream n).retry = true)
    (hBetween : (s.stream n).between = {}) (hSwap : (s.stream n).swap = false) :
    (streamAbort s n code).stream n
      = { (pauseStream (s.updStream n restarts) n (abortReason code)).stream n with retry := false } := by
  simp only [streamAbort, hEnding, hRetry, Bool.false_eq_true, if_false, if_true]
  rw [pauseFreed_of_not_swap (by simp [hSwap]), betweenSteps_of_nothing]
  · rw [State.updStream_stream]
    rfl
  all_goals simp [pauseStream_stream, hEnding, hBetween]

end

/-- Settles O23: a load of bad check bits aborts before it issues; a stream's first abort leaves it to be dispatched again, and the
second one pauses it, after which nothing waits that would change it. -/
theorem abortedStepsAreRetriedOnce : Obligations.AbortedStepsAreRetriedOnce := by
  refine ⟨fun s tile => ?loads, fun s n code hEnding => ⟨fun hRetry => ?first, fun hRetry hBetween hSwap => ?second⟩⟩
  case loads =>
    exact ⟨fun h => exec_finish_congr (exec_ldp ..) (issueMem_bad (s := s.at 0) h),
      fun h => exec_finish_congr (exec_ldpr ..) (issueMem_bad (s := s.at 0) h),
      fun h => exec_finish_congr (exec_ldw ..) (issueMem_bad (s := s.at 0) h),
      fun h => exec_finish_congr (exec_ldpw ..) (issueMem_bad (s := s.at 0) h)⟩
  case first => exact streamAbort_first code hEnding hRetry
  case second =>
    rw [streamAbort_second code hEnding hRetry hBetween hSwap]
    simp [pauseStream_stream, abortReason]

end Sys2Proof.Machine
end

section
/-! What a commit does to its stream and to the Assayer (08 R207, 11 R265, R270, R287, 13 R306), a stream that falls BEHIND (11 R289),
and a job that no work chunk size fits (10 Table 10-9). -/

namespace Sys2Proof.Machine

/-! ### What the dispatch of other work leaves of a stream -/

/-- What of a stream its commits and the writes between its steps change: step counter, queue, a pending retry, NOM_DUE, an end
under way and what waits for the end of the step. -/
structure StepView where
  step : Nat
  queue : List (List Nat)
  retry : Bool
  nomDue : Nat
  ending : Bool
  between : Between

/-- These of a stream. -/
def stepView (x : Stream) : StepView :=
  { step := x.step, queue := x.queue, retry := x.retry, nomDue := x.nomDue, ending := x.ending, between := x.between }

/-- These of stream `n`. -/
def viewOf (n : Nat) (s : State) : StepView := stepView (s.stream n)

theorem viewOf_congr {s u : State} (h : u.sched.streams = s.sched.streams) (n : Nat) : viewOf n u = viewOf n s :=
  congrArg stepView (State.stream_congr h n)

theorem viewOf_updStream {f : Stream → Stream} (hf : ∀ x, stepView (f x) = stepView x) (s : State) (m n : Nat) :
    viewOf n (s.updStream m f) = viewOf n s := by
  by_cases h : n = m
  · subst h
    rw [viewOf, State.updStream_stream, hf, viewOf]
  · rw [viewOf, State.updStream_stream_ne _ _ h, viewOf]

section
variable (s : State) (n : Nat)

theorem viewOf_raiseEvent (tenant op : Nat) (f : List Byte) : viewOf n (raiseEvent s tenant op f) = viewOf n s :=
  congrArg stepView (raiseEvent_stream ..)

theorem viewOf_endCopy (m : Nat) : viewOf n (endCopy s m) = viewOf n s := by
  unfold endCopy
  exact (viewOf_updStream (by simp [stepView]) ..).trans (viewOf_congr (by simp) n)

theorem viewOf_askBanks (tile unit units : Nat) : viewOf n (askBanks s tile unit units) = viewOf n s :=
  viewOf_congr (by simp) n

theorem viewOf_startCopy (m : Nat) (k : XferKind) : viewOf n (startCopy s m k) = viewOf n s := by
  unfold startCopy
  exact (viewOf_askBanks ..).trans (viewOf_updStream (by simp [stepView]) s m n)

theorem viewOf_yieldCkpts (tile mask : Nat) : viewOf n (yieldCkpts s tile mask) = viewOf n s :=
  foldl_keeps (g := viewOf n)
    (fun s m => (viewOf_updStream (by simp [stepView]) (endCopy s m) m n).trans (viewOf_endCopy s n m)) _ s

theorem viewOf_beginRun (tile : Nat) (w : Work) (step : Nat) (need : Bool) (r : Run) :
    viewOf n (beginRun s tile w step need r) = viewOf n s := by
  rw [← viewOf_yieldCkpts s n tile (tblGet {} (s.tile tile).ktab r.kt).bankMask]
  refine viewOf_congr ?_ n
  simp only [beginRun, State.updTile_sched]
  split
  · rfl
  · split
    · rfl
    · split <;> rfl

theorem viewOf_setBehind (m : Nat) (b : Bool) : viewOf n (setBehind s m b) = viewOf n s := by
  unfold setBehind
  simp only
  split
  · rfl
  · exact (viewOf_raiseEvent ..).trans (viewOf_updStream (by simp [stepView]) s m n)

theorem viewOf_dispatchStream (m : Nat) : viewOf n (dispatchStream s m) = viewOf n s := by
  unfold dispatchStream
  simp only
  generalize hBegun : beginRun .. = u
  have hView : viewOf n u = viewOf n s := hBegun ▸ viewOf_beginRun ..
  split
  · exact hView
  · generalize hLagged : u.updStream m _ = v
    have hLag : viewOf n v = viewOf n s := hLagged ▸ (viewOf_updStream (by simp [stepView]) u m n).trans hView
    split
    · exact (viewOf_setBehind ..).trans hLag
    · split
      · exact (viewOf_setBehind ..).trans hLag
      · exact hLag

/-- A change of a scan job is none of a stream. -/
theorem viewOf_updJob (m : Nat) (f : Job → Job) : viewOf n (updJob s m f) = viewOf n s := by
  refine viewOf_congr ?_ n
  unfold updJob
  split <;> rfl

theorem viewOf_stageChunk (j : Job) (c : Chunk) : viewOf n (stageChunk s j c) = viewOf n s := viewOf_congr (by simp) n

theorem viewOf_widenMask (tile kt unit units : Nat) : viewOf n (widenMask s tile kt unit units) = viewOf n s :=
  viewOf_congr (by simp) n

theorem viewOf_dispatchChunk (m : Nat) (j : Job) (c : Chunk) : viewOf n (dispatchChunk s m j c) = viewOf n s := by
  unfold dispatchChunk
  split
  · rfl
  · simp only [viewOf_beginRun, viewOf_widenMask, viewOf_stageChunk, viewOf_updJob]

theorem viewOf_dispatchJob (m tile : Nat) : viewOf n (dispatchJob s m tile) = viewOf n s := by
  unfold dispatchJob
  split
  · rfl
  · split
    · rfl
    · split
      · exact foldl_keeps (fun s c => viewOf_dispatchChunk s n m _ c) _ s
      · exact viewOf_dispatchChunk ..

theorem viewOf_dispatchBg (tile cls : Nat) (w : BgWork) : viewOf n (dispatchBg s tile cls w) = viewOf n s := by
  unfold dispatchBg
  simp only
  split
  · exact viewOf_dispatchJob ..
  · exact viewOf_dispatchStream ..

theorem viewOf_dispatchTile (tile : Nat) : viewOf n (dispatchTile s tile) = viewOf n s := by
  unfold dispatchTile
  split
  · rfl
  · split
    · exact viewOf_dispatchStream ..
    · split
      · exact viewOf_dispatchBg ..
      · split
        · exact viewOf_dispatchBg ..
        · rfl

end

/-! ### A commit -/

/-- What a commit of step `r` makes of them. -/
def committed (x : Stream) (r : Run) : StepView :=
  { step := (x.step + 1) % 2 ^ 48, queue := x.queue.drop (if r.gone then 0 else r.taken), retry := false
    nomDue := if x.cls = 0 ∧ r.moved = false then (x.nomDue + periodOf x) % 2 ^ 48 else x.nomDue
    ending := x.ending, between := x.between }

section
variable {s : State} {n : Nat} {r : Run}

/-- What the swap engine does after a commit leaves a stream without SWAP where it was: a checkpoint is a copy (11 R285). -/
theorem viewOf_afterCommit (hSwap : (s.stream n).swap = false) : viewOf n (afterCommit s n) = viewOf n s := by
  have hCopy (f : Stream → Stream) (hf : ∀ x, stepView (f x) = stepView x) :
      viewOf n ((startCopy s n .checkpoint).updStream n f) = viewOf n s :=
    (viewOf_updStream hf ..).trans (viewOf_startCopy ..)
  simp only [afterCommit, hSwap, Bool.false_eq_true, if_false, apply_ite (viewOf n)]
  rw [hCopy _ (by simp [stepView]), ite_self]

/-- What goes to the Assayer or the output ring is none of a stream. -/
theorem sent_stream (s : State) (st : Stream) (r : Run) (entry : List Byte) (n : Nat) :
    (if st.out / 2 ^ 30 = 0 then sendEstimate s st r entry
      else if st.out / 2 ^ 30 = 1 then ringWrite s st.tenant (st.out % 256) entry else s).stream n = s.stream n := by
  refine State.stream_congr ?_ n
  split
  · simp
  · split <;> simp

theorem viewOf_streamCommit (hEnding : (s.stream n).ending = false) (hBetween : (s.stream n).between = {})
    (hSwap : (s.stream n).swap = false) : viewOf n (streamCommit s n r) = committed (s.stream n) r := by
  simp only [streamCommit]
  generalize hSent : (if (s.stream n).out / 2 ^ 30 = 0 then _ else _ : State) = u
  have hStream : u.stream n = s.stream n := hSent ▸ sent_stream ..
  generalize hNow : u.updStream n _ = v
  have hView : viewOf n v = committed (s.stream n) r := by
    rw [← hNow, viewOf, State.updStream_stream, hStream]
    simp [stepView, committed]
  have hNotSwap : (v.stream n).swap = false := by
    rw [← hNow, State.updStream_stream, hStream]
    exact hSwap
  have hAfter : viewOf n (afterCommit v n) = committed (s.stream n) r := (viewOf_afterCommit hNotSwap).trans hView
  rw [viewOf, betweenSteps_of_nothing ((congrArg StepView.ending hAfter).trans hEnding)
    ((congrArg StepView.between hAfter).trans hBetween)]
  exact hAfter

/-- The estimate of an output that goes to the Assayer (13 R306). -/
theorem streamCommit_inbox (hOut : (s.stream n).out / 2 ^ 30 = 0) :
    ∃ e, (streamCommit s n r).assayer.inbox = s.assayer.inbox ++ [e] ∧ e.cell = (s.stream n).out % 4096
      ∧ e.seq = r.input.getD 12 0 ∧ e.step = (s.stream n).step := by
  simp only [streamCommit, hOut, if_true]
  simp [sendEstimate]

end

/-! ### A tile's commit -/

section
variable {s : State} {tile : Nat} {r : Run} {n : Fin 16384}

/-- The state in which a tile's stream step commits: the tile has been left, and its Stipple bank is no longer in use. -/
def stepLeft (s : State) (tile : Nat) (r : Run) : State :=
  let s := leaveTile s tile r
  { s with sched := { s.sched with active := tblDel tile s.sched.active } }

theorem commitTile_of_stream (hRun : (s.tile tile).run = some r) (hWork : r.work = .stream n) :
    commitTile s tile = dispatchTile (streamCommit (stepLeft s tile r) n.val r) tile := by
  simp [commitTile, hRun, hWork, stepLeft]

theorem stepLeft_stream (m : Nat) : (stepLeft s tile r).stream m = s.stream m := by
  refine State.stream_congr ?_ m
  have hUsage : (countUsage (dropLeases s tile) tile r).sched.streams = s.sched.streams := by
    unfold countUsage
    split <;> simp
  simp [stepLeft, leaveTile, hUsage]

theorem stepLeft_assayer : (stepLeft s tile r).assayer = s.assayer := by simp [stepLeft]

end

/-! ### BEHIND, and a job that nothing fits -/

theorem finish_stream (s : State) (n : Nat) : (finish s).stream n = s.stream n := State.stream_congr (by simp) n

section
variable {s : State} {n : Nat}

theorem setBehind_stream (b : Bool) : ((setBehind s n b).stream n).behind = b := by
  unfold setBehind
  simp only
  split
  · assumption
  · simp

/-- A stream whose pending ONLINE step is more than eight periods late (11 R289). -/
theorem behindCheckDo_of_late (hValid : (s.stream n).valid = true) (hDen : (s.stream n).den = true)
    (hCls : (s.stream n).cls = 0) (hPending : inFlight s n = false) (hUp : s.sys.computeUp = true)
    (hDue : dueUnknown s (s.stream n) = false) (hLate : (8 * periodOf (s.stream n) : Int) < lagInt s (s.stream n)) :
    behindCheckDo n s = setBehind s n true := by
  simp [behindCheckDo, hValid, hDen, hCls, hPending, hUp, hDue, hLate]

/-- A paused job that no work chunk size has fitted for 60 s ends (10 Table 10-9). -/
theorem refitTimeoutDo_of_late {j : Job} {img : Image} {a : Nat} (hJob : jobOf s n = some j) (hAt : j.refitAt = some a)
    (hImage : imageOf s j.image = some img) (hLate : a + 2880000000 ≤ s.now) (hPaused : j.st = .paused)
    (hFits : gFits s img j 64 = false) : refitTimeoutDo n s = endJob s n 5 := by
  simp [refitTimeoutDo, hJob, hAt, hImage, hLate, hPaused, hFits]

end

/-! ### The obligation -/

/-- Settles O25: a commit changes its stream as the lemma above says, and what its tile then takes up leaves that as it is; a late
stream's check sets BEHIND; an unfit job's timeout ends it. -/
theorem stepsCommitOrFallBehind : Obligations.StepsCommitOrFallBehind := by
  refine ⟨fun s t tile r n hMay hRun => ⟨?commits, fun hWork hEnding hBetween hSwap => ?stream⟩,
    fun s t n hValid hDen hCls hPending hUp hDue hLate => ?behind,
    fun s t job j img a hJob hAt hImage hLate hPaused hFits => ?refit⟩
  case commits => exact (exec_stepCommit ..).trans (by simp [execStepCommit, when, hMay])
  case stream =>
    have hRunAt : ((s.at t).tile tile.val).run = some r := hRun
    have hStream : (stepLeft (s.at t) tile.val r).stream n.val = s.stream n.val := stepLeft_stream n.val
    rw [commitTile_of_stream hRunAt hWork]
    have hView := (viewOf_dispatchTile (streamCommit (stepLeft (s.at t) tile.val r) n.val r) n.val tile.val).trans
      (viewOf_streamCommit (hStream ▸ hEnding) (hStream ▸ hBetween) (hStream ▸ hSwap))
    rw [hStream] at hView
    refine ⟨congrArg StepView.step hView, congrArg StepView.queue hView, congrArg StepView.retry hView,
      congrArg StepView.nomDue hView, fun hOut => ?_⟩
    have hInbox := streamCommit_inbox (s := stepLeft (s.at t) tile.val r) (n := n.val) (r := r) (hStream ▸ hOut)
    rw [hStream, stepLeft_assayer] at hInbox
    simpa using hInbox
  case behind =>
    have hCheck := exec_finish_congr (exec_behindCheck t n s)
      (behindCheckDo_of_late (s := s.at t) hValid hDen hCls hPending hUp hDue hLate)
    refine ⟨_, hCheck, ?_, fun hBehind => ?_⟩
    · rw [finish_stream]
      exact setBehind_stream true
    · rw [hCheck, setBehind, if_pos hBehind]
  case refit =>
    exact exec_finish_congr (exec_jobRefitTimeout ..)
      (refitTimeoutDo_of_late (s := s.at t) hJob hAt hImage hLate hPaused hFits)

end Sys2Proof.Machine
end

section
/-! What the M slot and the F slot compute, lane by lane (09 R213, R214, R226 to R228, Tables 9-6, 9-7): the operation of each row
on registers that its codes name, and the code it aborts with where one names none. -/

namespace Sys2Proof.Machine

/-! ### The registers of an F operation (09 R227) -/

/-- Every code up to 0x27 names a V or an A register. -/
theorem fReg_of_code {r : Run} {c : Nat} (hCode : c ≤ 0x27) : fReg r c = some ((fReg r c).getD (zeroLanes, true)) := by
  unfold fReg
  split
  · rfl
  · rw [if_pos (Nat.lt_succ_of_le hCode)]
    rfl

theorem fCodesOk_iff {e : TEnv} : fCodesOk e = true ↔ ∀ i ∈ ([50, 44, 38, 32] : List Nat), field e.word i 6 ≤ 0x27 := by
  simp [fCodesOk]

theorem fCodesOk_eq_false {e : TEnv} (hBad : ∃ i ∈ ([50, 44, 38, 32] : List Nat), 0x27 < field e.word i 6) :
    fCodesOk e = false := by
  obtain ⟨i, hField, hCode⟩ := hBad
  exact Bool.eq_false_iff.mpr fun hOk => Nat.not_le.mpr hCode (fCodesOk_iff.mp hOk i hField)

/-- How lane `l` is rounded by an operation of word `w`: to nearest, or by the lane's word of S3 where RND is set (09 R213). -/
def fRnd (w : Nat) (words : List Nat) (l : Nat) : Rnd :=
  if natBit w 30 then .stoch (lane words l % 65536) else .nearest

/-- Each lane is what the exact functions `fl` and `fx` of an operation of word `w` give of the lanes of its three registers,
rounded once into D. -/
def fLanes (w : Nat) (fl : Fl → Fl → Fl → Fl) (fx : Int → Int → Int → Int × Nat) (a b c : List Nat × Bool) : TOut :=
  lanesOut 3 (fDest (field w 50 6)) fun l =>
    if natBit w 31 then
      flInto (field w 50 6 < 0x20) (fRnd w c.1 l)
        (fl (flLane a.2 (lane a.1 l)) (flLane b.2 (lane b.1 l)) (flLane c.2 (lane c.1 l)))
    else
      let v := fx (fixLane a.2 (lane a.1 l)) (fixLane b.2 (lane b.1 l)) (fixLane c.2 (lane c.1 l))
      fixInto (field w 50 6 < 0x20) (fRnd w c.1 l) v.2 v.1

section
variable {e : TEnv} {a b c : List Nat × Bool} (hCodes : ∀ i ∈ ([50, 44, 38, 32] : List Nat), field e.word i 6 ≤ 0x27)
  (hS1 : fReg e.run (field e.word 44 6) = some a)
include hCodes hS1

/-! ### Arithmetic of the F slot (09 Table 9-7) -/

/-- Where the three codes name registers and RND is allowed, the operation answers its lanes. -/
theorem opF_of_registers {n : Nat} {rndOk : Bool} {fl : Fl → Fl → Fl → Fl} {fx : Int → Int → Int → Int × Nat}
    (hRnd : natBit e.word 30 = false ∨ rndOk = true) (hS2 : fReg e.run (field e.word 38 6) = some b)
    (hS3 : fReg e.run (field e.word 32 6) = some c) :
    opF e n rndOk fl fx = .ok (fLanes e.word fl fx a b c) := by
  have hRound : (natBit e.word 30 && !rndOk) = false := by
    rcases hRnd with h | h <;> simp [h]
  simp [opF, fCodesOk_iff.mpr hCodes, hRound, hS1, hS2, hS3, collect, fLanes, lanesOut, fRnd]

/-! ### The other F operations (09 Table 9-7, R227, R228) -/

/-- SEL takes a lane of S1 where the mask lane is not zero, and one of S2 elsewhere. -/
theorem opSel_of_registers (hRnd : natBit e.word 30 = false) (hMask : field e.word 32 6 ≤ 0x1F)
    (hS2 : fReg e.run (field e.word 38 6) = some b) :
    opSel e = .ok (lanesOut 3 (fDest (field e.word 50 6)) fun l =>
      if lane (vReg e.run (field e.word 32 6)) l ≠ 0 then moveLane (natBit e.word 31) a.2 (field e.word 50 6 < 0x20) (lane a.1 l)
      else moveLane (natBit e.word 31) b.2 (field e.word 50 6 < 0x20) (lane b.1 l)) := by
  simp [opSel, fCodesOk_iff.mpr hCodes, hRnd, Nat.not_lt.mpr hMask, hS1, hS2, collect, lanesOut]

/-- CGT gives the mask of the lanes of S1 that are greater than those of S2. -/
theorem opCgt_of_registers (hRnd : natBit e.word 30 = false) (hDest : field e.word 50 6 ≤ 0x1F)
    (hS2 : fReg e.run (field e.word 38 6) = some b) :
    opCgt e = .ok { writes := [(3, .v (field e.word 50 6) ((List.range 64).map fun l =>
      if (if natBit e.word 31 then flLt (flLane b.2 (lane b.1 l)) (flLane a.2 (lane a.1 l))
        else decide (fixLane b.2 (lane b.1 l) < fixLane a.2 (lane a.1 l))) then 0xFFFF else 0))] } := by
  simp [opCgt, fCodesOk_iff.mpr hCodes, hRnd, Nat.not_lt.mpr hDest, hS1, hS2]

/-- CVT gives each lane of S1 in the other family. -/
theorem opCvt_of_registers (hS3 : fReg e.run (field e.word 32 6) = some c) :
    opCvt e = .ok (lanesOut 3 (fDest (field e.word 50 6)) fun l =>
      if natBit e.word 31 then
        flFix (fRnd e.word c.1 l) (if field e.word 50 6 < 0x20 then 15 else 30) (if field e.word 50 6 < 0x20 then 16 else 32)
          (flLane a.2 (lane a.1 l))
      else flInto (field e.word 50 6 < 0x20) (fRnd e.word c.1 l) (fixFl 30 (fixLane a.2 (lane a.1 l)))) := by
  simp [opCvt, fCodesOk_iff.mpr hCodes, hS1, hS3, collect, lanesOut, fRnd]

/-- ACT gives slope times lane plus intercept, both of the lane's segment. -/
theorem opAct_of_registers (hFloat : natBit e.word 31 = true) (hTable : field e.word 38 6 ≤ 0x1F)
    (hS3 : fReg e.run (field e.word 32 6) = some c) :
    opAct e = .ok (lanesOut 3 (fDest (field e.word 50 6)) fun l =>
      let x := flLane a.2 (lane a.1 l)
      let k := actIndex (field e.word 27 3) x
      flInto (field e.word 50 6 < 0x20) (fRnd e.word c.1 l)
        (flAdd (flMul (ofBf16 (lane (vReg e.run (field e.word 38 6 / 2 * 2)) k)) x)
          (ofBf16 (lane (vReg e.run (field e.word 38 6 / 2 * 2 + 1)) k)))) := by
  simp [opAct, fCodesOk_iff.mpr hCodes, hFloat, Nat.not_lt.mpr hTable, hS1, hS3, collect, lanesOut, fRnd]

end

/-- A row that issues an F operation of arithmetic on registers that its codes name. -/
theorem exec_of_opF {s : State} {tile : Fin 64} {r : Run} {i : Instr} {o n : Nat} {rndOk : Bool} {fl : Fl → Fl → Fl → Fl}
    {fx : Int → Int → Int → Int × Nat} {w : Nat} {a b c : List Nat × Bool}
    (hExec : exec i s = .next (tileStep (issueOp tile.val 2 o fun e => opF e n rndOk fl fx) s))
    (hIssues : issues s tile 2 o = true) (hRun : runIn (landed s tile false) tile = some r)
    (hWord : wordIn (landed s tile false) tile 2 r = w)
    (hCodes : ∀ i ∈ ([50, 44, 38, 32] : List Nat), field w i 6 ≤ 0x27) (hRnd : natBit w 30 = false ∨ rndOk = true)
    (hS1 : fReg r (field w 44 6) = some a) (hS2 : fReg r (field w 38 6) = some b) (hS3 : fReg r (field w 32 6) = some c) :
    exec i s = .next (issued (landed s tile false) tile 2 (fLanes w fl fx a b c)) := by
  subst hWord
  exact exec_of_issueOp_ok hExec hIssues hRun
    (opF_of_registers (e := tileEnv (landed s tile false) tile.val r 2) hCodes hS1 hRnd hS2 hS3)

/-! ### FMA, MAX and MIN by the library's power, maximum and minimum -/

theorem max_eq_ite_lt (a b : Int) : max a b = if a < b then b else a := by
  split <;> omega

theorem min_eq_ite_lt (a b : Int) : min a b = if a < b then a else b := by
  split <;> omega

section
variable (tile : Fin 64) (s : State)

theorem exec_fma_exact : exec (.fma tile) s = .next (tileStep (issueOp tile.val 2 4 fun e =>
    opF e 3 false (fun a b c => flAdd (flMul a b) c) fun a b c => (a * b + c * 2 ^ 30, 60)) s) :=
  exec_fma ..

theorem exec_max_exact : exec (.max tile) s = .next (tileStep (issueOp tile.val 2 5 fun e =>
    opF e 2 true (fun a b _ => flPick true a b) fun a b _ => (max a b, 30)) s) := by
  simp only [max_eq_ite_lt]
  exact exec_max ..

theorem exec_min_exact : exec (.min tile) s = .next (tileStep (issueOp tile.val 2 6 fun e =>
    opF e 2 true (fun a b _ => flPick false a b) fun a b _ => (min a b, 30)) s) := by
  simp only [min_eq_ite_lt]
  exact exec_min ..

end

/-! ### A code that names no register (09 R227) -/

section
variable {e : TEnv} (hBad : fCodesOk e = false)
include hBad

theorem opF_of_no_register {n : Nat} {rndOk : Bool} {fl : Fl → Fl → Fl → Fl} {fx : Int → Int → Int → Int × Nat} :
    opF e n rndOk fl fx = .error .illegalOp := by
  simp [opF, hBad]

theorem opSel_of_no_register : opSel e = .error .illegalOp := by
  simp [opSel, hBad]

theorem opCgt_of_no_register : opCgt e = .error .illegalOp := by
  simp [opCgt, hBad]

theorem opCvt_of_no_register : opCvt e = .error .illegalOp := by
  simp [opCvt, hBad]

theorem opAct_of_no_register : opAct e = .error .illegalOp := by
  simp [opAct, hBad]

end

/-- Row `i` issues, as the operation of the F slot with opcode `o`, one that aborts where a code names no register. -/
def RefusesCodes (tile : Fin 64) (o : Nat) (i : Instr) : Prop :=
  ∃ f : TEnv → TRes, (∀ s, exec i s = .next (tileStep (issueOp tile.val 2 o f) s))
    ∧ ∀ e, fCodesOk e = false → f e = .error .illegalOp

/-- Every row of the F slot does. -/
theorem fRows_refuse_codes (tile : Fin 64) :
    ∀ p ∈ [(1, Instr.fAdd tile), (2, .fSub tile), (3, .mul tile), (4, .fma tile), (5, .max tile), (6, .min tile), (7, .sel tile),
      (8, .cgt tile), (9, .cvt tile), (10, .mov tile), (11, .act tile)], RefusesCodes tile p.1 p.2 := by
  simp only [List.forall_mem_cons]
  exact ⟨⟨_, exec_fAdd tile, fun _ h => opF_of_no_register h⟩, ⟨_, exec_fSub tile, fun _ h => opF_of_no_register h⟩,
    ⟨_, exec_mul tile, fun _ h => opF_of_no_register h⟩, ⟨_, exec_fma tile, fun _ h => opF_of_no_register h⟩,
    ⟨_, exec_max tile, fun _ h => opF_of_no_register h⟩, ⟨_, exec_min tile, fun _ h => opF_of_no_register h⟩,
    ⟨_, exec_sel tile, fun _ h => opSel_of_no_register h⟩, ⟨_, exec_cgt tile, fun _ h => opCgt_of_no_register h⟩,
    ⟨_, exec_cvt tile, fun _ h => opCvt_of_no_register h⟩, ⟨_, exec_mov tile, fun _ h => opF_of_no_register h⟩,
    ⟨_, exec_act tile, fun _ h => opAct_of_no_register h⟩, by simp⟩

/-! ### The M slot (09 Table 9-6, R226) -/

/-- Each lane is its product, with the accumulator's lane where there is one, rounded once. -/
theorem opM_eq (acc bc : Bool) (e : TEnv) :
    opM acc bc e = .ok (lanesOut 4 (.a (field e.word 53 3)) fun l =>
      mLane (natBit e.word 33) (natBit e.word 32) (if acc then some (lane (aReg e.run (field e.word 50 3)) l) else none)
        (lane (vReg e.run (field e.word 45 5)) l)
        (lane (vReg e.run (field e.word 40 5)) (if bc then field e.word 34 6 else l))) :=
  rfl

/-- Settles O18: an M operation answers the lanes of its lemma above by definition, an F operation those of its exact functions on
the registers that its codes name. -/
theorem vectorArithmeticLanes : Obligations.VectorArithmeticLanes := by
  refine ⟨fun s tile r hRun => ?mSlot, fun s tile r hRun a b va vb hCodes hS1 => ?fSlot⟩
  case mSlot =>
    exact ⟨fun h => exec_of_issueOp_ok (exec_macv ..) h hRun (opM_eq true false _),
      fun h => exec_of_issueOp_ok (exec_macb ..) h hRun (opM_eq true true _),
      fun h => exec_of_issueOp_ok (exec_mulv ..) h hRun (opM_eq false false _),
      fun h => exec_of_issueOp_ok (exec_mulb ..) h hRun (opM_eq false true _)⟩
  case fSlot =>
    have hAnyS2 := fReg_of_code (r := r) (hCodes 38 (by simp))
    have hS3 := fReg_of_code (r := r) (hCodes 32 (by simp))
    refine ⟨fun h => ?mov, fun hS2 => ⟨fun h => ?add, fun h => ?sub, fun h => ?mul, fun h hRnd => ?fma, fun h => ?max,
      fun h => ?min⟩⟩
    case mov => exact (exec_of_opF (exec_mov ..) h hRun rfl hCodes (.inr rfl) hS1 hAnyS2 hS3 :)
    case add => exact (exec_of_opF (exec_fAdd ..) h hRun rfl hCodes (.inr rfl) hS1 hS2 hS3 :)
    case sub => exact (exec_of_opF (exec_fSub ..) h hRun rfl hCodes (.inr rfl) hS1 hS2 hS3 :)
    case mul => exact (exec_of_opF (exec_mul ..) h hRun rfl hCodes (.inr rfl) hS1 hS2 hS3 :)
    case fma => exact (exec_of_opF (exec_fma_exact ..) h hRun rfl hCodes (.inl hRnd) hS1 hS2 hS3 :)
    case max => exact (exec_of_opF (exec_max_exact ..) h hRun rfl hCodes (.inr rfl) hS1 hS2 hS3 :)
    case min => exact (exec_of_opF (exec_min_exact ..) h hRun rfl hCodes (.inr rfl) hS1 hS2 hS3 :)

end Sys2Proof.Machine
end

section
/-! What landing makes of a tile's step and store (08 R191, R192), the P slot on the state so reached (09 R233, R234; 12 R295,
R300), and the operations of the F slot other than its arithmetic (09 R227, R228). -/

namespace Sys2Proof.Machine

/-! ### Landing, as the tile's own step and store see it -/

section
variable (s : State) (n : Nat)

/-- What an update keeps of every tile, it keeps of each. -/
theorem State.updTile_tile_keeps {α : Type} {g : Tile → α} {f : Tile → Tile} (k : Nat) (hKeeps : ∀ x, g (f x) = g x) :
    g ((s.updTile k f).tile n) = g (s.tile n) := by
  by_cases hTile : n = k
  · rw [hTile, State.updTile_tile, hKeeps]
  · rw [State.updTile_tile_ne _ _ hTile]

/-- A result changes the step's register that it names; a Palette store changes none. -/
theorem landOne_tile_run (x : InFlight) :
    ((landOne s n x).tile n).run = (s.tile n).run.map (landReg · x.dest) := by
  obtain ⟨land, rank, dest⟩ := x
  cases dest with
  | pal p addr bs =>
    have hKept : ((landOne s n ⟨land, rank, .pal p addr bs⟩).tile n).run = (s.tile n).run :=
      State.updTile_tile_keeps s n _ fun _ => rfl
    exact hKept.trans Option.map_id'.symm
  | v | a | h | x => simp [landOne]

theorem landOne_tile_kstore (x : InFlight) : ((landOne s n x).tile n).kstore = (s.tile n).kstore := by
  obtain ⟨_, _, dest⟩ := x
  cases dest with
  | pal | v | a | h | x => exact State.updTile_tile_keeps s n _ fun _ => rfl

theorem foldl_landOne_tile_kstore (xs : List InFlight) :
    ((xs.foldl (fun s x => landOne s n x) s).tile n).kstore = (s.tile n).kstore := by
  induction xs generalizing s with
  | nil => rfl
  | cons x xs ih => rw [List.foldl_cons, ih, landOne_tile_kstore]

theorem foldl_landOne_tile_run (xs : List InFlight) :
    ((xs.foldl (fun s x => landOne s n x) s).tile n).run
      = (s.tile n).run.map fun r => xs.foldl (fun r x => landReg r x.dest) r := by
  induction xs generalizing s with
  | nil => simp
  | cons x xs ih => simp [ih, landOne_tile_run, Function.comp_def]

/-- What the landing of every due result makes of a step: none but its registers and its results in flight change. -/
def landRun (r : Run) : Run :=
  let ready := r.flight.filter fun x => decide (x.land ≤ r.cycle)
  (ready.filter fun x => !hidden ready x).foldl (fun r x => landReg r x.dest)
    { r with flight := r.flight.filter fun x => decide (r.cycle < x.land) }

theorem landDue_tile_run : ((landDue s n).tile n).run = (s.tile n).run.map landRun := by
  cases hRun : (s.tile n).run with
  | none => simp [landDue, hRun]
  | some r => simp [landDue, hRun, foldl_landOne_tile_run, landRun]

theorem landDue_tile_kstore : ((landDue s n).tile n).kstore = (s.tile n).kstore := by
  cases hRun : (s.tile n).run with
  | none => simp [landDue, hRun]
  | some r => simp [landDue, hRun, foldl_landOne_tile_kstore]

end

section
variable (s : State) (tile : Fin 64) (corrected : Bool)

/-- A corrected error is nothing to the step that the landing leaves. -/
theorem runIn_landed : runIn (landed s tile corrected) tile = runIn (landDue (s.at 0) tile.val) tile := by
  cases corrected <;> simp [runIn, landed, landDue_tile_run, noteCorrected_tile_run]

theorem wordIn_landed (rank : Nat) (r : Run) :
    wordIn (landed s tile corrected) tile rank r = wordIn (s.at 0) tile rank r := by
  cases corrected <;> simp [wordIn, landed, landDue_tile_kstore, noteCorrected_tile_kstore]

theorem landed_sched : (landed s tile corrected).sched = s.sched := by
  cases corrected <;> simp [landed]

end

/-! ### DRAW (09 R233, R234; 12 R295, R300) -/

/-- The slot of a tile's bank that a DRAW of word `w` reads: its site, the sample in its X register, the block of its first
element. -/
def drawSlot (s : State) (tile : Fin 64) (w : Nat) (r : Run) : Option StipSlot :=
  findSlot (tblFind? s.sched.active tile.val) (field w 40 8) (if field w 36 4 = 0 then 0 else xReg r (field w 36 4) % 8)
    (field w 0 16 / 256)

section
variable {s : State} {tile : Fin 64} {r : Run} {ecc : Ecc}

section
variable (hIssues : issues s tile 0 1 = true) (hRun : runIn (landDue s tile.val) tile = some r)
include hIssues hRun

/-- A declared slot: the operation issues. -/
theorem drawDo_of_slot {x : StipSlot} (hSlot : drawSlot s tile (wordIn s tile 0 r) r = some x) :
    drawDo tile.val ecc s = issueMem tile.val 0 1 ecc opDraw s := by
  rw [issues] at hIssues
  rw [runIn] at hRun
  rw [drawSlot, wordIn] at hSlot
  simp [drawDo, hIssues, hRun, hSlot]

/-- None: the step aborts. -/
theorem drawDo_of_no_slot (hSlot : drawSlot s tile (wordIn s tile 0 r) r = none) :
    drawDo tile.val ecc s = abortTile (landDue s tile.val) tile.val .illegalOp (some 0) := by
  rw [issues] at hIssues
  rw [runIn] at hRun
  rw [drawSlot, wordIn] at hSlot
  simp [drawDo, hIssues, hRun, hSlot]

end

/-- The 64 elements from a multiple of 64 on lie in one block, so that one slot gives all their words. -/
theorem tileEnv_draw_of_slot {site sample e0 i : Nat} {x : StipSlot} (hAligned : e0 % 64 = 0) (hLane : i < 64)
    (hSlot : findSlot (tblFind? s.sched.active tile.val) site sample (e0 / 256) = some x) :
    (tileEnv s tile.val r 0).draw site sample (e0 + i) = stipWord x.states (e0 + i) := by
  have hBlock : (e0 + i) / 256 = e0 / 256 := by omega
  simp [tileEnv, hBlock, hSlot]

theorem opDraw_of_slot {x : StipSlot} (hAligned : field (wordIn s tile 0 r) 0 16 % 64 = 0)
    (hSlot : drawSlot s tile (wordIn s tile 0 r) r = some x) :
    opDraw (tileEnv s tile.val r 0) = .ok { writes := [(1, .v (field (wordIn s tile 0 r) 51 5)
      ((List.range 64).map fun i => stipWord x.states (field (wordIn s tile 0 r) 0 16 + i)))] } := by
  have hWords := List.map_congr_left fun i hi =>
    tileEnv_draw_of_slot (r := r) hAligned (List.mem_range.mp hi) hSlot
  rw [← hWords]
  exact if_neg fun hNotAligned => hNotAligned hAligned

/-- DRAW from a declared slot, a corrected error counted first. -/
theorem exec_draw_of_slot {l : State} {w : Nat} {x : StipSlot} (hEcc : ecc ≠ .bad) (hIssues : issues s tile 0 1 = true)
    (hLanded : landed s tile (eccCorrected ecc) = l) (hRun : runIn l tile = some r) (hWord : wordIn l tile 0 r = w)
    (hAligned : field w 0 16 % 64 = 0) (hSlot : drawSlot s tile w r = some x) :
    exec (.draw tile ecc) s = .next (issued l tile 0
      { writes := [(1, .v (field w 51 5) ((List.range 64).map fun i => stipWord x.states (field w 0 16 + i)))] }) := by
  subst hLanded hWord
  have hIssue : exec (.draw tile ecc) s = .next (tileStep (issueMem tile.val 0 1 ecc opDraw) s) :=
    exec_finish_congr (exec_draw ..) (drawDo_of_slot (s := s.at 0) hIssues ((runIn_landed ..).symm.trans hRun)
      (wordIn_landed .. ▸ hSlot))
  have hSlotLanded : drawSlot (landed s tile (eccCorrected ecc)) tile (wordIn (landed s tile (eccCorrected ecc)) tile 0 r) r
      = some x := by
    rw [drawSlot, landed_sched]
    exact hSlot
  exact exec_of_issueMem_ok hEcc hIssue hIssues hRun (opDraw_of_slot hAligned hSlotLanded)

/-- DRAW from none. -/
theorem exec_draw_of_no_slot (hIssues : issues s tile 0 1 = true) (hRun : runIn (landed s tile false) tile = some r)
    (hSlot : drawSlot s tile (wordIn (landed s tile false) tile 0 r) r = none) :
    exec (.draw tile ecc) s = .next (stopped (landed s tile false) tile .illegalOp 0) :=
  exec_finish_congr (exec_draw ..) (drawDo_of_no_slot (s := s.at 0) hIssues hRun (wordIn_landed .. ▸ hSlot))

end

/-! ### MASK -/

theorem opMask_eq (e : TEnv) : opMask e = .ok { writes := [(1, .v (field e.word 51 5) ((List.range 64).map fun i =>
    if natBit e.word 31 ∨ lane (vReg e.run (field e.word 41 5)) i < field e.word 0 16
    then lane (vReg e.run (field e.word 46 5)) i else 0))] } := by
  simp [opMask]

/-! ### The obligation -/

/-- Settles O19: on registers that their codes name the operations answer the lanes of their lemmas, elsewhere they abort; DRAW is
issued from the slot of its first element, MASK and CMPM always. -/
theorem vectorSelectDrawAndMask : Obligations.VectorSelectDrawAndMask := by
  refine ⟨fun s tile r hRun => ⟨fun hBad p hp h => ?noRegister, fun a b va vb hCodes hS1 =>
    ⟨fun h hRnd hMask hS2 => ?sel, fun h hDest hRnd hS2 => ?cgt, fun h => ?cvt, fun h hFloat hTable => ?act⟩⟩,
    fun s tile ecc r hEcc hRun => ⟨fun x h hAligned hSlot => ?draw, fun hClean h hSlot => ?drawNone,
      fun hClean h => ?mask, fun hClean h => ?cmpm⟩⟩
  case noRegister =>
    obtain ⟨f, hExec, hRefuses⟩ := fRows_refuse_codes tile p hp
    exact exec_of_issueOp_error (hExec s) h hRun (hRefuses _ (fCodesOk_eq_false hBad))
  case sel =>
    have hLanes := opSel_of_registers (e := tileEnv (landed s tile false) tile.val r 2) hCodes hS1 hRnd hMask hS2
    exact exec_of_issueOp_ok (exec_sel ..) h hRun hLanes
  case cgt =>
    have hLanes := opCgt_of_registers (e := tileEnv (landed s tile false) tile.val r 2) hCodes hS1 hRnd hDest hS2
    exact exec_of_issueOp_ok (exec_cgt ..) h hRun hLanes
  case cvt =>
    have hLanes := opCvt_of_registers (e := tileEnv (landed s tile false) tile.val r 2) hCodes hS1
      (fReg_of_code (hCodes 32 (by simp)))
    exact exec_of_issueOp_ok (exec_cvt ..) h hRun hLanes
  case act =>
    have hLanes := opAct_of_registers (e := tileEnv (landed s tile false) tile.val r 2) hCodes hS1 hFloat hTable
      (fReg_of_code (hCodes 32 (by simp)))
    exact exec_of_issueOp_ok (exec_act ..) h hRun hLanes
  case draw => exact exec_draw_of_slot hEcc h rfl hRun rfl hAligned hSlot
  case drawNone =>
    subst hClean
    exact exec_draw_of_no_slot h hRun hSlot
  case mask =>
    subst hClean
    exact exec_of_issueOp_ok (exec_mask ..) h hRun (opMask_eq _)
  case cmpm =>
    subst hClean
    exact exec_of_issueOp_ok (exec_cmpm ..) h hRun rfl

end Sys2Proof.Machine
end

section
/-! The scan job commands (16 Table 16-9; 10 R244 to R249, R253, Edges of 10.7): what the taking of a request leaves to a job
command, what each command's body does for the job or the descriptor that it finds. -/

namespace Sys2Proof.Machine

/-! ### A request that is taken leaves jobs, images, regions and readiness -/

section
variable {s : State} {t op : Nat} {r : Req} {n : Nat}

/-- Only Foreman's queues and the opcode it notes change. -/
theorem begun_eq (s : State) (t op : Nat) : ∃ f : Foreman, begun s t op = { s.at t with foreman := f }
    ∧ f.images = s.foreman.images ∧ f.datasets = s.foreman.datasets := by
  unfold begun popReq
  dsimp only
  split <;> exact ⟨_, rfl, rfl, rfl⟩

theorem images_begun (s : State) (t op : Nat) : (begun s t op).foreman.images = s.foreman.images := by
  obtain ⟨f, hBegun, hImages, -⟩ := begun_eq s t op
  rw [hBegun, hImages]

theorem imageOf_begun (s : State) (t op h : Nat) : imageOf (begun s t op) h = imageOf s h := by
  rw [imageOf, imageOf, images_begun]

theorem chooseG_begun (s : State) (t op : Nat) (img : Image) (j : Job) : chooseG (begun s t op) img j = chooseG s img j := by
  obtain ⟨f, hBegun, -, -⟩ := begun_eq s t op
  rw [hBegun]
  rfl

theorem jobReady_begun (s : State) (t op : Nat) (r : Req) : jobReady (begun s t op) r = jobReady s r := by
  obtain ⟨f, hBegun, -, hDatasets⟩ := begun_eq s t op
  have hBit (i : Nat) : readyBit (begun s t op) i = readyBit s i := by
    rw [hBegun]
    rfl
  have hRegions : (begun s t op).foreman.datasets = s.foreman.datasets := by rw [hBegun, hDatasets]
  simp only [jobReady, hBit, hRegions]

theorem jobOf_of_sched {u v : State} (h : u.sched = v.sched) (n : Nat) : jobOf u n = jobOf v n := by rw [jobOf, jobOf, h]

theorem jobOf_begun (s : State) (t op n : Nat) : jobOf (begun s t op) n = jobOf s n := jobOf_of_sched (by simp [begun]) n

theorem freeJob_begun (s : State) (t op : Nat) : freeJob (begun s t op) = freeJob s := by
  have hJobs : (begun s t op).sched.jobs = s.sched.jobs := by simp [begun]
  simp only [freeJob, jobOf_begun, hJobs]

theorem jobOf_served_answer (s : State) (r : Req) (b : List Byte) (es : List ClampEntry) (n : Nat) :
    jobOf (served (answer s r b es)) n = jobOf s n := jobOf_of_sched (by simp [served]) n

theorem ctrlUp_begun (h : granted s t op r) : (begun s t op).sys.ctrlUp = true := by
  obtain ⟨-, -, hCtrl, -⟩ := h
  rw [begun_sys, hCtrl]

/-- A granted command on a job that is there is executed. -/
theorem exec_of_onJob {i : Instr} {rights : State → Req → Bool} {body : Req → Nat → Job → State → State} {j : Job}
    (hExec : exec i s = .next (foremanRow t op (lenIs 2) rights jobReady (onJob body) s)) (h : granted s t op r)
    (hPlain : plain r 2) (hRights : rights (begun s t op) r = true) (hReady : jobReady s r = true)
    (hJob : jobOf s (jobNo r) = some j) : exec i s = .next (served (body r (jobNo r) j (begun s t op))) := by
  have hRow := exec_of_granted hExec h hPlain hRights (by rw [jobReady_begun, hReady])
  rw [hRow, onJob, jobOf_begun, hJob]

theorem ownJob_of_tenant {j : Job} (hJob : jobOf s (jobNo r) = some j) (hOwn : j.tenant = r.tenant) : ownJob s r = true := by
  simp [ownJob, hJob, hOwn]

end

/-! ### JOB_SUBMIT (10 R244 to R249) -/

section
variable {s : State} {r : Req} {h : Nat} {img : Image} {j : Job}

/-- The image, with its handle, that a descriptor of a tenant names. -/
def jobImage (s : State) (tenant : Nat) (b : List Byte) : Option (Nat × Image) :=
  s.foreman.images.find? fun e => e.2.tenant == tenant && e.2.id == leAt b 12 4

/-- Job n is admitted at a work chunk size: QUEUED, in its first phase. -/
def queueJob (s : State) (n g : Nat) (j : Job) : State :=
  { s with sched := { s.sched with jobs := tblSet n { j with g := g, phase := if j.seqMode then 4 else 1 } s.sched.jobs } }

theorem jobOf_queueJob (s : State) (n g : Nat) (j : Job) :
    jobOf (queueJob s n g j) n = some { j with g := g, phase := if j.seqMode then 4 else 1 } := tblFind?_tblSet ..

theorem jobSubmitDo_of_no_image (hImage : jobImage s r.tenant (clampJob r.payload).1 = none) :
    jobSubmitDo r s = noObject s r := by
  rw [jobImage] at hImage
  simp only [jobSubmitDo, hImage]

theorem jobSubmitDo_of_misfit (hImage : jobImage s r.tenant (clampJob r.payload).1 = some (h, img))
    (hJob : jobOfBytes s r.tenant h (clampJob r.payload).1 = j)
    (hMisfit : (jobFieldsOk j (byteAt (clampJob r.payload).1 1) && jobDrawsOk img j) = false) :
    jobSubmitDo r s = refuse s r [0x0B] := by
  rw [jobImage] at hImage
  simp only [jobSubmitDo, hImage, hJob, ← Bool.not_and, hMisfit, Bool.not_false, if_true]

theorem jobSubmitDo_of_refused (hImage : jobImage s r.tenant (clampJob r.payload).1 = some (h, img))
    (hJob : jobOfBytes s r.tenant h (clampJob r.payload).1 = j)
    (hFine : (jobFieldsOk j (byteAt (clampJob r.payload).1 1) && jobDrawsOk img j) = true) (hCodes : (admitJob s img j).1 ≠ []) :
    jobSubmitDo r s = refuse s r (admitJob s img j).1 := by
  have hSome : (!(admitJob s img j).1.isEmpty) = true := by simpa using hCodes
  rw [jobImage] at hImage
  simp only [jobSubmitDo, hImage, hJob, ← Bool.not_and, hFine, hSome, Bool.not_true, Bool.false_eq_true, if_false, if_true]

theorem jobSubmitDo_of_admitted (hImage : jobImage s r.tenant (clampJob r.payload).1 = some (h, img))
    (hJob : jobOfBytes s r.tenant h (clampJob r.payload).1 = j)
    (hFine : (jobFieldsOk j (byteAt (clampJob r.payload).1 1) && jobDrawsOk img j) = true) (hCodes : (admitJob s img j).1 = []) :
    jobSubmitDo r s = answer (queueJob s (freeJob s) (admitJob s img j).2 j) r
      (leBytes 2 (freeJob s) ++ leBytes 2 (admitJob s img j).2) (clampJob r.payload).2 := by
  rw [jobImage] at hImage
  simp only [jobSubmitDo, hImage, hJob, ← Bool.not_and, hFine, hCodes, List.isEmpty_nil, Bool.not_true, Bool.false_eq_true, if_false]
  rfl

end

/-! ### JOB_PAUSE, JOB_RESUME, JOB_DELETE (10 R253, Edges of 10.7) -/

section
variable {s : State} {r : Req} {n : Nat} {j : Job}

theorem updJob_of_job (hJob : jobOf s n = some j) (f : Job → Job) :
    updJob s n f = { s with sched := { s.sched with jobs := tblSet n (f j) s.sched.jobs } } := by
  simp only [updJob, hJob]

theorem jobOf_updJob_self (hJob : jobOf s n = some j) (f : Job → Job) : jobOf (updJob s n f) n = some (f j) := by
  rw [updJob_of_job hJob]
  exact tblFind?_tblSet ..

/-- Nothing happens at a boundary while a work chunk is in flight. -/
theorem jobBoundary_of_flying (hJob : jobOf s n = some j) (hFlying : 0 < flying j) : jobBoundary s n = s := by
  simp [jobBoundary, hJob, hFlying]

/-- A pause alone that waits for the boundary happens at it. -/
theorem jobBoundary_of_pause (hJob : jobOf s n = some j) (hCtrl : s.sys.ctrlUp = true) (hIdle : flying j = 0)
    (hKept : j.delWant = false) (hSame : j.dataChanged = false) (hPause : j.pauseWant = true) (hLive : j.st ≠ .ended) :
    jobBoundary s n = updJob s n (fun x => { x with st := .paused, pauseWant := false }) := by
  simp [jobBoundary, hJob, hCtrl, hIdle, hKept, hSame, hPause, hLive]

theorem jobPauseDo_of_ended (hEnded : j.st = .ended) : jobPauseDo r n j s = refuse s r [0x2C] := by
  simp [jobPauseDo, hEnded]

/-- A job that is paused, or is about to be, keeps its reason. -/
theorem jobPauseDo_of_waiting (hLive : j.st ≠ .ended) (h : j.pauseWant = true ∨ j.st = .paused ∧ j.ctrl = false) :
    jobPauseDo r n j s = answer s r [] := by
  have hWaits : (j.pauseWant || (j.st == .paused && !j.ctrl)) = true := by simpa using h
  rw [jobPauseDo, if_neg (by simpa using hLive), if_pos hWaits]

/-- The job with a pause by command pending. -/
def pauseWanted (j : Job) : Job := { j with pauseWant := true, pauseReason := 1 }

theorem jobPauseDo_of_active (hActive : j.st = .queued ∨ j.st = .running) (hFresh : j.pauseWant = false) :
    jobPauseDo r n j s = answer (jobBoundary (updJob s n pauseWanted) n) r [] := by
  have hLive : j.st ≠ .ended := by rcases hActive with h | h <;> simp [h]
  have hMoves : j.st ≠ .paused := by rcases hActive with h | h <;> simp [h]
  rw [jobPauseDo, if_neg (by simpa using hLive), if_neg (by simp [hFresh, hMoves])]
  rfl

/-- An active job with work chunks in flight is answered at once and pauses later. -/
theorem jobPauseDo_of_flying (hJob : jobOf s n = some j) (hActive : j.st = .queued ∨ j.st = .running) (hFlying : 0 < flying j) :
    ∃ u x, jobPauseDo r n j s = answer u r [] ∧ jobOf u n = some x ∧ x.pauseWant = true ∧ x.st = j.st := by
  cases hWant : j.pauseWant with
  | true =>
    have hLive : j.st ≠ .ended := by rcases hActive with h | h <;> simp [h]
    exact ⟨s, j, jobPauseDo_of_waiting hLive (.inl hWant), hJob, hWant, rfl⟩
  | false =>
    have hNow : jobOf (updJob s n pauseWanted) n = some (pauseWanted j) := jobOf_updJob_self hJob _
    refine ⟨_, pauseWanted j, jobPauseDo_of_active hActive hWant, ?_, rfl, rfl⟩
    rw [jobBoundary_of_flying hNow hFlying, hNow]

/-- An active job with none pauses at once. -/
theorem jobPauseDo_of_idle (hJob : jobOf s n = some j) (hCtrl : s.sys.ctrlUp = true) (hActive : j.st = .queued ∨ j.st = .running)
    (hFresh : j.pauseWant = false) (hIdle : flying j = 0) (hKept : j.delWant = false) (hSame : j.dataChanged = false) :
    ∃ u x, jobPauseDo r n j s = answer u r [] ∧ jobOf u n = some x ∧ x.st = .paused ∧ x.pauseReason = 1 := by
  have hLive : (pauseWanted j).st ≠ .ended := by rcases hActive with h | h <;> simp [pauseWanted, h]
  have hNow : jobOf (updJob s n pauseWanted) n = some (pauseWanted j) := jobOf_updJob_self hJob _
  refine ⟨_, { pauseWanted j with st := .paused, pauseWant := false }, jobPauseDo_of_active hActive hFresh, ?_, rfl, rfl⟩
  rw [jobBoundary_of_pause hNow (by simpa using hCtrl) hIdle hKept hSame rfl hLive]
  exact jobOf_updJob_self hNow _

/-- The job resumed, with room for work chunks of `g`. -/
def resumed (g : Nat) (j : Job) : Job :=
  { j with
    st := if j.st == .paused then (if j.doneCnt = 0 then .queued else .running) else j.st
    pauseWant := false, pauseReason := 0, refitAt := none, g := min j.g g }

theorem jobResumeDo_of_no_size {img : Image} (hImage : imageOf s j.image = some img) (hLive : j.st ≠ .ended)
    (hNone : chooseG s img j = none) : jobResumeDo r n j s = refuse s r [0x1A] := by
  simp [jobResumeDo, hImage, hLive, hNone]

theorem jobResumeDo_of_size {img : Image} {g : Nat} (hImage : imageOf s j.image = some img) (hLive : j.st ≠ .ended)
    (hFits : chooseG s img j = some g) : jobResumeDo r n j s = answer (updJob s n (resumed g)) r [] := by
  have hGoes : (j.st == .ended) = false := by simpa using hLive
  simp only [jobResumeDo, hImage, hGoes, hFits, Bool.false_eq_true, if_false]
  rfl

/-- The job with a deletion pending. -/
def deleteWanted (j : Job) : Job := { j with delWant := true }

theorem jobDeleteDo_of_ended (hEnded : j.st = .ended) :
    jobDeleteDo r n j s = answer { s with sched := { s.sched with jobs := tblDel n s.sched.jobs } } r [] := by
  simp [jobDeleteDo, hEnded]

/-- A job with work chunks in flight is deleted later. -/
theorem jobDeleteDo_of_flying (hJob : jobOf s n = some j) (hLive : j.st ≠ .ended) (hFlying : 0 < flying j) :
    jobDeleteDo r n j s = answer (updJob s n deleteWanted) r [] := by
  have hNow : jobOf (updJob s n deleteWanted) n = some (deleteWanted j) := jobOf_updJob_self hJob _
  rw [jobDeleteDo, if_neg (by simpa using hLive)]
  exact congrArg (answer · r []) (jobBoundary_of_flying hNow hFlying)

/-! ### JOB_STATUS -/

theorem jobStatusDo_head (r : Req) (n : Nat) (j : Job) (s : State) : ∃ tail, jobStatusDo r n j s
    = answer s r (leBytes 2 n ++ leBytes 1 (jobStNo j.st) ++ leBytes 1 j.endCode ++ tail) := by
  simp only [jobStatusDo, List.append_assoc]
  exact ⟨_, rfl⟩

theorem take_jobStatus_head (n a b : Nat) (tail : List Byte) : (leBytes 2 n ++ leBytes 1 a ++ leBytes 1 b ++ tail).take 4
    = leBytes 2 n ++ leBytes 1 a ++ leBytes 1 b := List.take_left' (by simp [leBytes])

end

/-! ### The obligation -/

/-- Settles O36: the request is executed, and what each command's body does for the descriptor or the job is its lemma above. The
model's readings: the lowest free number is taken (assumption log 27), a descriptor whose fields or kernels do not serve is refused
with CAPABILITY (132, 178), a JOB_PAUSE of a paused job keeps its reason (181). -/
theorem jobCommandsExecute : Obligations.JobCommandsExecute := by
  intro s t r hReady b n
  refine ⟨?submit, fun j hJob => ⟨fun hOwn => ⟨?pause, ?resume, ?delete⟩, ?status⟩⟩
  case submit =>
    intro hGranted hPlain z c own
    have hRow := exec_of_granted (exec_jobSubmit t s) hGranted hPlain rfl (by rw [jobReady_begun, hReady])
    have hImage : jobImage z r.tenant c = own := by rw [jobImage, images_begun]
    refine ⟨fun hNone => ?_, fun h img hFound => ?_⟩
    · rw [hRow, jobSubmitDo_of_no_image (hImage.trans hNone)]
    · intro j fine
      refine ⟨fun hMisfit => ?_, fun hFine hCodes => ?_, fun hFine hCodes => ?_⟩
      · rw [hRow, jobSubmitDo_of_misfit (hImage.trans hFound) rfl hMisfit]
      · rw [hRow, jobSubmitDo_of_refused (hImage.trans hFound) rfl hFine hCodes]
      · rw [jobSubmitDo_of_admitted (hImage.trans hFound) rfl hFine hCodes, freeJob_begun] at hRow
        refine ⟨_, hRow, ?_⟩
        rw [jobOf_served_answer, jobOf_queueJob]
  case pause =>
    intro hGranted hPlain
    have hJobAt : jobOf (begun s t 0x0602) n = some j := by rw [jobOf_begun, hJob]
    have hRow := exec_of_onJob (exec_jobPause t s) hGranted hPlain (ownJob_of_tenant hJobAt hOwn) hReady hJob
    refine ⟨fun hEnded => ?_, fun hPaused hFree => ?_, fun hActive hFlying => ?_, fun hActive hFresh hIdle hKept hSame => ?_⟩
    · rw [hRow, jobPauseDo_of_ended hEnded]
    · rw [hRow, jobPauseDo_of_waiting (by simp [hPaused]) (.inr ⟨hPaused, hFree⟩)]
    · obtain ⟨u, x, hDo, hAfter, hWant, hSt⟩ := jobPauseDo_of_flying (r := r) hJobAt hActive hFlying
      exact ⟨_, x, hDo ▸ hRow, answersWith_served_answer .., (jobOf_served_answer ..).trans hAfter, hWant, hSt⟩
    · obtain ⟨u, x, hDo, hAfter, hSt, hReason⟩ := jobPauseDo_of_idle (r := r) hJobAt (ctrlUp_begun hGranted) hActive hFresh hIdle hKept hSame
      exact ⟨_, x, hDo ▸ hRow, answersWith_served_answer .., (jobOf_served_answer ..).trans hAfter, hSt, hReason⟩
  case resume =>
    intro hGranted hPlain img hImage hLive
    have hJobAt : jobOf (begun s t 0x0603) n = some j := by rw [jobOf_begun, hJob]
    have hRow := exec_of_onJob (exec_jobResume t s) hGranted hPlain (ownJob_of_tenant hJobAt hOwn) hReady hJob
    have hImageAt : imageOf (begun s t 0x0603) j.image = some img := by rw [imageOf_begun, hImage]
    refine ⟨fun hNone => ?_, fun g hFits => ?_⟩
    · rw [hRow, jobResumeDo_of_no_size hImageAt hLive (by rw [chooseG_begun, hNone])]
    · rw [jobResumeDo_of_size hImageAt hLive (by rw [chooseG_begun, hFits])] at hRow
      refine ⟨_, resumed g j, hRow, answersWith_served_answer .., ?_, rfl, rfl, ?_⟩
      · rw [jobOf_served_answer, jobOf_updJob_self hJobAt]
      · simp [resumed]
  case delete =>
    intro hGranted hPlain
    have hJobAt : jobOf (begun s t 0x0604) n = some j := by rw [jobOf_begun, hJob]
    have hRow := exec_of_onJob (exec_jobDelete t s) hGranted hPlain (ownJob_of_tenant hJobAt hOwn) hReady hJob
    refine ⟨fun hEnded => ?_, fun hLive hFlying => ?_⟩
    · rw [jobDeleteDo_of_ended hEnded] at hRow
      refine ⟨_, hRow, answersWith_served_answer .., ?_⟩
      rw [jobOf_served_answer, jobOf, tblFind?_tblDel, if_pos rfl]
    · rw [jobDeleteDo_of_flying hJobAt hLive hFlying] at hRow
      refine ⟨_, deleteWanted j, hRow, answersWith_served_answer .., ?_, rfl⟩
      rw [jobOf_served_answer, jobOf_updJob_self hJobAt]
  case status =>
    intro hMay hGranted hPlain
    have hJobAt : jobOf (begun s t 0x0605) n = some j := by rw [jobOf_begun, hJob]
    have hRights : ownJob0 (begun s t 0x0605) r = true :=
      Bool.or_eq_true_iff.mpr (hMay.imp beq_iff_eq.mpr (ownJob_of_tenant hJobAt))
    have hRow := exec_of_onJob (exec_jobStatus t s) hGranted hPlain hRights hReady hJob
    obtain ⟨tail, hDo⟩ := jobStatusDo_head r n j (begun s t 0x0605)
    obtain ⟨m, hm, hOp, hTag, hStatus, hPayload⟩ := answersSo_served_answer (begun s t 0x0605) r
      (leBytes 2 n ++ leBytes 1 (jobStNo j.st) ++ leBytes 1 j.endCode ++ tail) [] []
    refine ⟨_, hDo ▸ hRow, m, hm, hOp, hTag, hStatus, ?_⟩
    beta_reduce
    rw [hPayload, List.append_assoc, take_jobStatus_head]

end Sys2Proof.Machine
end

section
/-! Every command keeps each memory of the block in its canonical form, and every command at Broros ends with the interrupt
lines as the pending interrupts put them (17 R409, R410). -/

namespace Sys2Proof.Machine

/-- Settles O1: on a queue that is not empty a step is the command at its front, by definition. -/
theorem stepRunsFrontCommand : Obligations.StepRunsFrontCommand := by
  refine ⟨fun _ _ _ => rfl, fun s hEmpty => ?_⟩
  rw [step, hEmpty]

/-! ### Memories -/

/-- What follows a command that finds every memory canonical: each row's meaning keeps them so (Laws/Canonical). -/
theorem exec_memOk (i : Instr) {s : State} (hMem : MemOk s) : ∃ u, exec i s = .next u ∧ MemOk u := by
  cases i with
  | jabberCut t j | jabberResume t j =>
    cases j with
    | broros p sd | rumbe d p => exact ⟨_, rfl, by simp +contextual (maxDischargeDepth := 40) [hMem]⟩
  | _ => exact ⟨_, rfl, by simp +contextual (maxDischargeDepth := 40) [hMem]⟩

/-- Settles O60: after reset every memory is empty; a step runs the command at the front, which keeps them canonical. -/
theorem memoriesStayCanonical : Obligations.MemoriesStayCanonical := by
  refine ⟨by simp [State.reset], fun s u hMem hStep => ?_⟩
  cases hQueue : s.pending with
  | nil =>
    obtain rfl : s = u := by simpa [step, hQueue] using hStep
    exact hMem
  | cons i rest =>
    have hExec : exec i { s with pending := rest } = .next u := by simpa [step, hQueue] using hStep
    obtain ⟨v, hAnswer, hKept⟩ := exec_memOk i (s := { s with pending := rest }) hMem
    obtain rfl : v = u := Host.Outcome.next.inj (hAnswer.symm.trans hExec)
    exact hKept

/-! ### Interrupt lines -/

/-- Every command at Broros ends with what follows every step there. -/
theorem exec_finishes (i : Instr) (s : State) (hBroros : rumbeOf i = none) : ∃ v, exec i s = .next (finish v) := by
  cases i with
  | jabberCut t j | jabberResume t j =>
    cases j with
    | broros p sd => exact ⟨_, rfl⟩
    | rumbe d p => cases hBroros
  | rumbePor | sweep | sweepStart | sweepCommit | cellAlarmAssert | cellAlarmClear | measFaultLatch | modidStateChange |
    balIdleEnd | lateSweep | collect | recordSend | readRecord | regRead | regWrite | headEnSet | headEnClear |
    shuntChange | devIdWrite | tCommWrite | vauxEnSet | vauxEnClear | balEnClear | enumerate | gateOpen | gateClose |
    gateChgOnly | gateDsgOnly | balanceAppend | balanceReplace | balStop | faultClear | softReset | softResetExecute |
    modidAck | clearId | aspRelease | portCut | portRestore | sleep | ringTest | reservedFrame | eopen | strOpen |
    alarmCell | alarmMeas | alarmTrip | reservedUrgentCode | urgentQueueSend | frameResend | tCommExpiry | sleepEnter |
    wakeDetect | wakeReady | modulatorSettle | currentInterval | rangeToHg | calFrozen | curFaultLatch | scTrip |
    rampWatchTrip | prechargeDone | prechargeTimeout | rampDone | contactorRampEnd | pchgOff | rampTimeout | pumpUv |
    vauxSoftStartCheck | vauxUndervoltage | vauxRetry | vauxRetryReset | vauxThermalShutdown | balTransferStart |
    balCheckDone | balCycle | balTimeout | balOvertemp | balPriOc | balModuleV =>
    cases hBroros
  | _ => exact ⟨_, rfl⟩

/-- The lines do not enter into what is pending. -/
@[simp] theorem intPending_refreshLines (s : State) (n : Nat) : intPending (refreshLines s) n = intPending s n := rfl

/-- INTA and INT_N once the lines have followed (17 R409, R410). -/
theorem refreshLines_lines (s : State) :
    let u := refreshLines s
    (u.pcie.inta = true ↔ u.pcie.msixEn = false ∧ u.pcie.intDisable = false ∧ ∃ n, n < 16 ∧ intPending u n = true)
      ∧ (u.host.intnLow = true ↔
        u.host.intnEn = true ∧ ∃ n, n < 16 ∧ natBit u.host.intnSel n = true ∧ intPending u n = true) := by
  simp only [intPending_refreshLines]
  simp [refreshLines, and_assoc]

/-- Settles O53: a command at Broros ends with the lines following what is then pending. -/
theorem interruptLinesFollow : Obligations.InterruptLinesFollow := by
  intro i s u hBroros hExec
  obtain ⟨v, hFinish⟩ := exec_finishes i s hBroros
  obtain rfl : finish v = u := Host.Outcome.next.inj (hFinish.symm.trans hExec)
  exact refreshLines_lines _

end Sys2Proof.Machine
end

section
/-! Accesses of a host: the window and BAR2 over PCIe, and the serial host port (17 R396, R399, R400, R402 to R404; 10 R255). -/

namespace Sys2Proof.Machine

section
variable {s : State} {port : HostPort} {off len : Nat} {w : WinWrite} {data : List Byte}

/-! ### The window (17 R396) -/

theorem windowReadDo_of_allowed (hOpen : portOpen s port = true) (hAllowed : readAllowed off len = true) :
    windowReadDo port off len s = s.emit (.readData port (winBytes s port off len)) := by
  simp [windowReadDo, hOpen, hAllowed]

theorem windowReadDo_of_breach (hOpen : portOpen s port = true) (hBreach : readAllowed off len = false) :
    windowReadDo port off len s = (badAccess s port off).emit (.readError port) := by
  simp [windowReadDo, hOpen, hBreach]

theorem windowReadDo_of_closed (hClosed : portOpen s port = false) :
    windowReadDo port off len s = s.emit (.readError port) := by
  simp [windowReadDo, hClosed]

theorem registerWriteDo_of_allowed (hOpen : portOpen s w.port = true) (hAllowed : writeAllowed w.off w.data = true) :
    registerWriteDo w s = winWrite s w.port w.off w.data := by
  simp [registerWriteDo, hOpen, hAllowed]

theorem registerWriteDo_of_breach (hOpen : portOpen s w.port = true) (hBreach : writeAllowed w.off w.data = false) :
    registerWriteDo w s = (badAccess s w.port w.off).emit (.readError w.port) := by
  simp [registerWriteDo, hOpen, hBreach]

/-- A response mailbox is not written, nor any mailbox while CTRL is in reset (02 R43, 24 Table 24-6). -/
theorem winWrite_of_shut {b : List (Bool × Byte)} (hLow : 0x2000 ≤ off) (hHigh : off < 0x4000)
    (hShut : 0x100 ≤ off % 0x200 ∨ s.sys.ctrlUp = false) : winWrite s port off b = s := by
  rw [winWrite, if_neg (by omega), blockWrite]
  by_cases hUp : s.sys.ctrlUp = true
  · have hResponse : ¬ off % 0x200 < 0x100 := by
      rcases hShut with h | h
      · omega
      · simp [hUp] at h
    simp [hUp, hHigh, hResponse]
  · simp [hUp]

/-! ### BAR2 (17 R400) -/

theorem dramRead_at (s : State) (t a n : Nat) : dramRead (s.at t) a n = dramRead s a n := rfl

theorem datasetWrite_of_region {tn o a : Nat} (hRegion : datasetAt s off data.length = some (tn, o, a)) :
    datasetWrite s off data = touchJobs (dramWrite s a data) tn o data.length := by
  simp only [datasetWrite, hRegion]

theorem datasetWrite_of_stray (hNone : datasetAt s off data.length = none) : datasetWrite s off data = stray s off := by
  simp only [datasetWrite, hNone]

theorem datasetFetch_of_region {tn o a : Nat} (hRegion : datasetAt s off len = some (tn, o, a)) :
    datasetFetch s off len = (dramRead s a len, s) := by
  simp only [datasetFetch, hRegion]

theorem datasetFetch_of_stray (hNone : datasetAt s off len = none) : datasetFetch s off len = (zeros len, stray s off) := by
  simp only [datasetFetch, hNone]

theorem bar2WriteDo_of_allowed (hOpen : memDecoded s = true) (hAllowed : bar2Allowed off data.length = true) :
    bar2WriteDo off data s = datasetWrite s off data := by
  simp [bar2WriteDo, hOpen, hAllowed]

theorem bar2ReadDo_of_allowed (hOpen : memDecoded s = true) (hAllowed : bar2Allowed off len = true) :
    bar2ReadDo off len s = (datasetFetch s off len).2.emit (.readData .pcie (datasetFetch s off len).1) := by
  simp [bar2ReadDo, hOpen, hAllowed]

theorem bar2WriteDo_of_closed (hClosed : memDecoded s = false) : bar2WriteDo off data s = s.emit (.readError .pcie) := by
  simp [bar2WriteDo, hClosed]

theorem bar2ReadDo_of_closed (hClosed : memDecoded s = false) : bar2ReadDo off len s = s.emit (.readError .pcie) := by
  simp [bar2ReadDo, hClosed]

end

/-- Settles O50: each row does what the lemma above about its operation says. The model's readings: a port's number in a
HOST_ACCESS entry (assumption log 70), and an Unsupported Request that is not logged while memory decoding is off (125). -/
theorem hostAccessesAreServed : Obligations.HostAccessesAreServed := by
  intro s t hUp
  refine ⟨fun port off len hOpen => ?read, fun w hOpen => ?write, fun hOpen => ⟨fun off data hAllowed => ?bar2Write,
    fun off len hAllowed => ?bar2Read⟩, fun hClosed off len data => ?closed⟩
  case read =>
    have hRow := exec_of_row (exec_windowRead t port off len s) hUp rfl
    refine ⟨fun hAllowed => ?_, fun hBreach => ?_⟩
    · rw [hRow, windowReadDo_of_allowed (s := s.at t) hOpen hAllowed]
    · rw [hRow, windowReadDo_of_breach (s := s.at t) hOpen hBreach, badAccess]
  case write =>
    have hRow := exec_of_row (exec_registerWrite t w s) hUp rfl
    refine ⟨fun hAllowed => ?_, fun hBreach => ?_, fun hAllowed hLow hHigh hShut => ?_⟩
    · rw [hRow, registerWriteDo_of_allowed (s := s.at t) hOpen hAllowed]
    · rw [hRow, registerWriteDo_of_breach (s := s.at t) hOpen hBreach, badAccess]
    · rw [hRow, registerWriteDo_of_allowed (s := s.at t) hOpen hAllowed, winWrite_of_shut (s := s.at t) hLow hHigh hShut]
  case bar2Write =>
    have hRow := exec_of_row (exec_bar2Write t off data s) hUp rfl
    rw [bar2WriteDo_of_allowed (s := s.at t) hOpen hAllowed] at hRow
    refine ⟨fun tn o a hRegion => ?_, fun hNone => ?_⟩
    · rw [hRow, datasetWrite_of_region (s := s.at t) hRegion]
    · rw [hRow, datasetWrite_of_stray (s := s.at t) hNone]
  case bar2Read =>
    have hRow := exec_of_row (exec_bar2Read t off len s) hUp rfl
    rw [bar2ReadDo_of_allowed (s := s.at t) hOpen hAllowed] at hRow
    refine ⟨fun tn o a hRegion => ?_, fun hNone => ?_⟩
    · rw [hRow, datasetFetch_of_region (s := s.at t) hRegion, dramRead_at]
    · rw [hRow, datasetFetch_of_stray (s := s.at t) hNone]
  case closed =>
    have hPort : portOpen (s.at t) .pcie = false := hClosed
    refine ⟨?_, ?_, ?_⟩
    · rw [exec_of_row (exec_bar2Read t off len s) hUp rfl, bar2ReadDo_of_closed (s := s.at t) hClosed]
    · rw [exec_of_row (exec_bar2Write t off data s) hUp rfl, bar2WriteDo_of_closed (s := s.at t) hClosed]
    · rw [exec_of_row (exec_windowRead t .pcie off len s) hUp rfl, windowReadDo_of_closed (s := s.at t) hPort]

/-! ### The serial host port (17 R402 to R404) -/

section
variable {s : State} {f : ShpFrame}

theorem shpDo_of_cut (hCut : f.complete = false) : shpDo f s = s := by simp [shpDo, hCut]

theorem shpDo_of_bad_head_crc (hWhole : f.complete = true) (hCrc : hcrcOk f = false) :
    shpDo f s = s.emit (.shp 0xC3 []) := by
  simp [shpDo, hWhole, hCrc]

theorem shpDo_of_bad (hWhole : f.complete = true) (hCrc : hcrcOk f = true) (hBad : shpHeadBad f = true ∨ shpAllowed f = false) :
    shpDo f s = shpNak s f := by
  have hNak : (shpHeadBad f || !shpAllowed f) = true := by simpa using hBad
  simp [shpDo, hWhole, hCrc, hNak]

/-- A frame whose header is in order is a write or a read. -/
theorem shpDo_of_good (hWhole : f.complete = true) (hCrc : hcrcOk f = true) (hGood : ¬ (shpHeadBad f = true ∨ shpAllowed f = false)) :
    shpDo f s = if shpOp f = 1 then shpPut f s else shpGet f s := by
  have hOk : (shpHeadBad f || !shpAllowed f) = false := by simpa using hGood
  simp [shpDo, hWhole, hCrc, hOk]

theorem shpPut_of_bad_crc (hCrc : dcrcOk f = false) : shpPut f s = s.emit (.shp 0x96 []) := by simp [shpPut, hCrc]

theorem shpPut_window (hCrc : dcrcOk f = true) (hSpace : shpDataset f = false) :
    shpPut f s = (winWrite s .shp f.addr.toNat (f.data.map (fun x => (true, x)))).emit (.shp 0xA5 []) := by
  simp [shpPut, hCrc, hSpace]

theorem shpPut_dataset (hCrc : dcrcOk f = true) (hSpace : shpDataset f = true) :
    shpPut f s = (datasetWrite s f.addr.toNat f.data).emit (.shp 0xA5 []) := by
  simp [shpPut, hCrc, hSpace]

theorem shpGet_window (hSpace : shpDataset f = false) :
    shpGet f s = s.emit (.shp 0xA5 (withDcrc (winBytes s .shp f.addr.toNat (shpBytes f)))) := by
  simp [shpGet, hSpace]

theorem shpGet_dataset {tn o x : Nat} (hSpace : shpDataset f = true)
    (hRegion : datasetAt s f.addr.toNat (shpBytes f) = some (tn, o, x)) :
    shpGet f s = s.emit (.shp 0xA5 (withDcrc (dramRead s x (shpBytes f)))) := by
  simp [shpGet, hSpace, datasetFetch_of_region hRegion]

theorem hcrcOk_iff : hcrcOk f = true ↔ f.hcrc.toNat = crc16 (f.cmd :: (leBytes 5 f.addr.toNat).reverse ++ [f.len]) := beq_iff_eq

theorem dcrcOk_iff : dcrcOk f = true ↔ f.data.length = 4 * (f.len.toNat + 1) ∧ f.dcrc.toNat = crc16 f.data := by
  simp [dcrcOk, shpBytes]

/-- Each of the two rows does what the frame says, where it takes the frame. -/
theorem exec_shp {i : Instr} {t : Nat} (hUp : s.shellUp = true)
    (hRow : (i = .shpRead t f ∧ shpOp f ≠ 1) ∨ (i = .shpWrite t f ∧ shpOp f ≠ 0)) :
    exec i s = .next (finish (shpDo f (s.at t))) := by
  rcases hRow with ⟨rfl, hOp⟩ | ⟨rfl, hOp⟩
  · exact exec_of_row (exec_shpRead t f s) hUp (by simpa using hOp)
  · exact exec_of_row (exec_shpWrite t f s) hUp (by simpa using hOp)

end

/-- Settles O51: both rows do what the frame says, which the lemmas above tell case by case. Which code a frame with more than one
fault gets is the order of those cases (assumption log 126). -/
theorem serialPortAnswers : Obligations.SerialPortAnswers := by
  intro s t f i hUp hRow
  rw [exec_shp hUp hRow]
  refine ⟨fun hCut => ?cut, fun hWhole hCrc => ?headCrc, fun hWhole hCrc hBad => ?bad, fun hWhole hCrc hGood =>
    ⟨fun hOp hData => ?dataCrc, fun hOp hData hSpace => ?put, fun hOp hData hSpace => ?putData, fun hOp hSpace => ?get,
      fun hOp hSpace tn o x hRegion => ?getData⟩⟩
  case cut => rw [shpDo_of_cut hCut]
  case headCrc => rw [shpDo_of_bad_head_crc hWhole (by rwa [← hcrcOk_iff, Bool.not_eq_true] at hCrc)]
  case bad => rw [shpDo_of_bad hWhole (hcrcOk_iff.mpr hCrc) hBad]
  case dataCrc =>
    rw [shpDo_of_good hWhole (hcrcOk_iff.mpr hCrc) hGood, if_pos hOp,
      shpPut_of_bad_crc (by rwa [← dcrcOk_iff, Bool.not_eq_true] at hData)]
  case put =>
    rw [shpDo_of_good hWhole (hcrcOk_iff.mpr hCrc) hGood, if_pos hOp, shpPut_window (dcrcOk_iff.mpr hData) hSpace]
  case putData =>
    rw [shpDo_of_good hWhole (hcrcOk_iff.mpr hCrc) hGood, if_pos hOp, shpPut_dataset (dcrcOk_iff.mpr hData) hSpace]
  case get =>
    rw [shpDo_of_good hWhole (hcrcOk_iff.mpr hCrc) hGood, if_neg (by omega), shpGet_window hSpace]
    rfl
  case getData =>
    rw [shpDo_of_good hWhole (hcrcOk_iff.mpr hCrc) hGood, if_neg (by omega), shpGet_dataset (s := s.at t) hSpace hRegion]
    rfl

end Sys2Proof.Machine
end

section
/-! Mailboxes, interrupt registers and the PCIe function (15 R358 to R360, R364, R365; 17 R399, R401, R407, R408, R414). -/

namespace Sys2Proof.Machine

/-! ### What follows a step leaves of mailboxes, interrupt routing and the function -/

section
variable (s : State) (n : Nat)

@[simp] theorem finish_port_reqPend : ((finish s).port n).reqPend = (s.port n).reqPend := finish_port (fun _ _ => rfl) s n
@[simp] theorem finish_port_inflight : ((finish s).port n).inflight = (s.port n).inflight := finish_port (fun _ _ => rfl) s n
@[simp] theorem finish_port_reqTaken : ((finish s).port n).reqTaken = (s.port n).reqTaken := finish_port (fun _ _ => rfl) s n
@[simp] theorem finish_port_rspReady : ((finish s).port n).rspReady = (s.port n).rspReady := finish_port (fun _ _ => rfl) s n
@[simp] theorem finish_port_rseq : ((finish s).port n).rseq = (s.port n).rseq := finish_port (fun _ _ => rfl) s n
@[simp] theorem finish_port_rsp : ((finish s).port n).rsp = (s.port n).rsp := finish_port (fun _ _ => rfl) s n
@[simp] theorem finish_port_evtLost : ((finish s).port n).evtLost = (s.port n).evtLost := finish_port (fun _ _ => rfl) s n
@[simp] theorem finish_port_bulkDev : ((finish s).port n).bulkDev = (s.port n).bulkDev := finish_port (fun _ _ => rfl) s n
@[simp] theorem finish_port_faultInt : ((finish s).port n).faultInt = (s.port n).faultInt := finish_port (fun _ _ => rfl) s n
@[simp] theorem finish_port_snapStat : ((finish s).port n).snapStat = (s.port n).snapStat := finish_port (fun _ _ => rfl) s n
@[simp] theorem finish_port_intMask : ((finish s).port n).intMask = (s.port n).intMask := finish_port (fun _ _ => rfl) s n
@[simp] theorem finish_port_snapMask : ((finish s).port n).snapMask = (s.port n).snapMask := finish_port (fun _ _ => rfl) s n

theorem finish_foreman : (finish s).foreman = s.foreman := by simp

@[simp] theorem finish_host_rdyIe : (finish s).host.rdyIe = s.host.rdyIe := by simp [finish, refreshLines, refreshReady]
@[simp] theorem finish_host_intnSel : (finish s).host.intnSel = s.host.intnSel := by simp [finish, refreshLines, refreshReady]
@[simp] theorem finish_host_intnEn : (finish s).host.intnEn = s.host.intnEn := by simp [finish, refreshLines, refreshReady]

end

section
variable {α : Type} {g : Pcie → α} (hPend : ∀ p v b, g { p with msix := modAt p.msix v (fun e => { e with pend := b }) } = g p)
include hPend

/-- A message that is sent, or held back, changes a pending bit alone. -/
theorem msixSend_pcie (s : State) (v : Nat) : g (msixSend s v).pcie = g s.pcie := by
  unfold msixSend
  dsimp only
  (repeat' split) <;> simp [hPend]

/-- What follows a step changes pending bits and INTA of the function. -/
theorem finish_pcie (hLine : ∀ p i, g { p with inta := i } = g p) (s : State) : g (finish s).pcie = g s.pcie := by
  have hTenant (s : State) (k : Nat) : g (refreshTenant s k).pcie = g s.pcie := by
    unfold refreshTenant
    dsimp only
    (repeat' split) <;> simp [msixSend_pcie hPend]
  have hFold (l : List Nat) (s : State) : g (l.foldl refreshTenant s).pcie = g s.pcie := by
    induction l generalizing s with
    | nil => rfl
    | cons k l ih => rw [List.foldl_cons, ih, hTenant]
  rw [finish, refreshLines, hLine, hFold]
  simp

end

section
variable (s : State)

@[simp] theorem finish_pcie_configured : (finish s).pcie.configured = s.pcie.configured := finish_pcie (fun _ _ _ => rfl) (fun _ _ => rfl) s
@[simp] theorem finish_pcie_linkUp : (finish s).pcie.linkUp = s.pcie.linkUp := finish_pcie (fun _ _ _ => rfl) (fun _ _ => rfl) s
@[simp] theorem finish_pcie_memEn : (finish s).pcie.memEn = s.pcie.memEn := finish_pcie (fun _ _ _ => rfl) (fun _ _ => rfl) s
@[simp] theorem finish_pcie_intDisable : (finish s).pcie.intDisable = s.pcie.intDisable := finish_pcie (fun _ _ _ => rfl) (fun _ _ => rfl) s
@[simp] theorem finish_pcie_msixEn : (finish s).pcie.msixEn = s.pcie.msixEn := finish_pcie (fun _ _ _ => rfl) (fun _ _ => rfl) s
@[simp] theorem finish_pcie_d3 : (finish s).pcie.d3 = s.pcie.d3 := finish_pcie (fun _ _ _ => rfl) (fun _ _ => rfl) s
@[simp] theorem finish_pcie_bars : (finish s).pcie.bars = s.pcie.bars := finish_pcie (fun _ _ _ => rfl) (fun _ _ => rfl) s

end

/-- Which vectors are masked. -/
def masks (p : Pcie) : List Bool := p.msix.map (fun e => e.mask)

theorem masks_pend (p : Pcie) (v : Nat) (b : Bool) :
    masks { p with msix := modAt p.msix v (fun e => { e with pend := b }) } = masks p := by
  refine List.ext_getElem? fun i => ?_
  simp only [masks, modAt, List.getElem?_map, List.getElem?_modify, Option.map_eq_map, Option.map_map]
  refine Option.map_congr fun e _ => ?_
  simp only [Function.comp_apply]
  split <;> rfl

section
variable (s : State)

/-- Which vectors are masked stands, whatever is sent. -/
@[simp] theorem msixSend_masks (v : Nat) : masks (msixSend s v).pcie = masks s.pcie := msixSend_pcie masks_pend s v
@[simp] theorem finish_masks : masks (finish s).pcie = masks s.pcie := finish_pcie masks_pend (fun _ _ => rfl) s

@[simp] theorem resend_port (n k : Nat) : (resend s n).port k = s.port k := port_congr (by simp) k

end

end Sys2Proof.Machine
end

section
/-! Interrupt registers and the PCIe function (17 R399, R401, R407, R408, R414, Tables 17-7, 17-8; 00 R10). -/

namespace Sys2Proof.Machine

/-! ### MSI-X (17 R408) -/

section
variable {s : State} {v : Nat} {e : MsixEntry}

theorem mask_of_masks {p q : Pcie} {y : MsixEntry} (h : masks q = masks p) (hy : q.msix[v]? = some y) (he : p.msix[v]? = some e) :
    y.mask = e.mask := by
  have hAt : (masks q)[v]? = (masks p)[v]? := by rw [h]
  simpa [masks, hy, he] using hAt

theorem getElem?_of_masks {p q : Pcie} (h : masks q = masks p) (he : p.msix[v]? = some e) :
    ∃ y, q.msix[v]? = some y ∧ y.mask = e.mask := by
  have hLen : q.msix.length = p.msix.length := by simpa [masks] using congrArg List.length h
  obtain ⟨hv, -⟩ := List.getElem?_eq_some_iff.mp he
  obtain ⟨y, hy⟩ : ∃ y, q.msix[v]? = some y := ⟨_, List.getElem?_eq_getElem (hLen ▸ hv)⟩
  exact ⟨y, hy, mask_of_masks h hy he⟩

/-- The vector as an unmask leaves it before anything is sent. -/
def unmasked (s : State) (v : Nat) : State :=
  { s with pcie := { s.pcie with msix := modAt s.pcie.msix v (fun e => { e with mask := false, pend := e.pend && s.pcie.d3 }) } }

theorem unmasked_entry (he : s.pcie.msix[v]? = some e) :
    (unmasked s v).pcie.msix[v]? = some { e with mask := false, pend := e.pend && s.pcie.d3 } := by
  simp [unmasked, he]

theorem unmask_eq (he : s.pcie.msix[v]? = some e) :
    unmask s v = if e.pend && !s.pcie.d3 && intPending s v then msixSend (unmasked s v) v else unmasked s v := by
  have hEntry : s.pcie.msix.getD v {} = e := by simp [List.getD_eq_getElem?_getD, he]
  simp only [unmask, hEntry]
  rfl

theorem unmask_masks (he : s.pcie.msix[v]? = some e) : masks (unmask s v).pcie = masks (unmasked s v).pcie := by
  rw [unmask_eq he]
  split
  · rw [msixSend_masks]
  · rfl

/-- A message leaves where the function may send it. -/
theorem mem_out_msixSend (he : s.pcie.msix[v]? = some e) (hOn : s.pcie.msixEn = true) (hClear : e.mask = false)
    (hAwake : s.pcie.d3 = false) : .msix v (e.addrLo + e.addrHi * 4294967296) e.data ∈ (msixSend s v).out := by
  simp [msixSend, List.getD_eq_getElem?_getD, he, hOn, hClear, hAwake]

theorem mem_out_unmask (he : s.pcie.msix[v]? = some e) (hPend : e.pend = true) (hAwake : s.pcie.d3 = false)
    (hOn : s.pcie.msixEn = true) (hInt : intPending s v = true) :
    .msix v (e.addrLo + e.addrHi * 4294967296) e.data ∈ (unmask s v).out := by
  have hSend : (e.pend && !s.pcie.d3 && intPending s v) = true := by simp [hPend, hAwake, hInt]
  rw [unmask_eq he, if_pos hSend]
  have hSent := mem_out_msixSend (unmasked_entry he) hOn rfl hAwake
  exact hSent

/-! ### Power states (17 R408) -/

@[simp] theorem unmask_d3 (s : State) (v : Nat) : (unmask s v).pcie.d3 = s.pcie.d3 := by
  unfold unmask
  dsimp only
  split
  · rw [msixSend_pcie (g := Pcie.d3) (fun _ _ _ => rfl)]
  · rfl

/-- What the return to D0 does for vector v: a message that waits there unmasked is sent. -/
def d0Step (s : State) (v : Nat) : State :=
  if (s.pcie.msix.getD v {}).pend && !(s.pcie.msix.getD v {}).mask then unmask s v else s

theorem d0Return_eq (s : State) : d0Return s = (List.range 16).foldl d0Step { s with pcie := { s.pcie with d3 := false } } := rfl

/-- After the return to D0 the function is awake: what is sent does not put it to sleep. -/
theorem d0Return_d3 (s : State) : (d0Return s).pcie.d3 = false := by
  have hStep (u : State) (v : Nat) : (d0Step u v).pcie.d3 = u.pcie.d3 := by
    rw [d0Step]
    split
    · exact unmask_d3 u v
    · rfl
  have hFold (l : List Nat) (u : State) : (l.foldl d0Step u).pcie.d3 = u.pcie.d3 := by
    induction l generalizing u with
    | nil => rfl
    | cons v l ih => rw [List.foldl_cons, ih, hStep]
  rw [d0Return_eq, hFold]

theorem configDo_power_d3 (s : State) (d : Bool) : (configDo (.power d) s).pcie.d3 = d := by
  cases d with
  | true => rfl
  | false =>
    simp only [configDo, Bool.false_eq_true, if_false]
    split
    next => exact d0Return_d3 s
    next hAwake => simpa using hAwake

end

/-! ### FUNCTION_LEVEL_RESET (17 Table 17-8) -/

/-- After the reset no mailbox enables an interrupt or holds REQ_TAKEN. -/
theorem flr_port (s : State) (n : Nat) :
    ((flr s).port n).intMask = 0 ∧ ((flr s).port n).snapMask = 0 ∧ ((flr s).port n).reqTaken = false := by
  refine tblGet_of_all (p := fun q : TenantPort => q.intMask = 0 ∧ q.snapMask = 0 ∧ q.reqTaken = false) ⟨rfl, rfl, rfl⟩ ?_ n
  intro e he
  simp only [flr, ctrlReset, List.map_map, List.mem_map] at he
  obtain ⟨x, -, rfl⟩ := he
  exact ⟨rfl, rfl, rfl⟩

/-! ### The obligation -/

/-- Settles O49: each row's operation sets what its lemma above says, and what follows the step leaves that as it is. The model's
readings: every conventional reset takes the link down (assumption log 125), a BAR keeps the bits above its size (127). -/
theorem interruptsAndPcieAct : Obligations.InterruptsAndPcieAct := by
  intro s t hUp
  refine ⟨fun n w => ⟨⟨_, exec_of_row (exec_intStatWrite t n w s) hUp rfl, ?taken, ?fault⟩,
      ⟨_, exec_of_row (exec_snapStatWrite t n w s) hUp rfl, ?snap⟩⟩,
    fun fall high w => ?ready, fun v e he => ?unmask, fun hOff => ?configured,
    fun hOff c => ?retry, fun hOn => ⟨?read, fun m i => ?command, fun on => ?msixEnable, fun d => ?power, fun v hBars => ?bar, ?flr⟩,
    fun hAsleep => ?d0, fun k => ?conventional⟩
  case taken => simp [intClear]
  case fault => simp [intClear]
  case snap => simp [snapClear]
  case ready => rw [exec_of_row (exec_rdyW1cWrite t fall high w s) hUp rfl]
  case conventional => rw [exec_of_row (exec_conventionalReset t k s) hUp rfl, endpointReset]
  case unmask =>
    have hMasks : masks (finish (unmask (s.at t) v.val)).pcie = masks (unmasked (s.at t) v.val).pcie := by
      rw [finish_masks, unmask_masks (s := s.at t) he]
    obtain ⟨y, hy, hMask⟩ := getElem?_of_masks hMasks (unmasked_entry (s := s.at t) he)
    exact ⟨_, y, exec_of_row (exec_msixUnmask t v s) hUp rfl, hy, hMask, fun hPend hAwake hOn hInt =>
      mem_out_finish (mem_out_unmask (s := s.at t) he hPend hAwake hOn hInt)⟩
  case configured =>
    exact ⟨_, exec_of_row (exec_pcieCoreConfigured t s) hUp (by simp [hOff]), by simp, by simp⟩
  case retry =>
    refine ⟨_, exec_of_row (exec_configRequest t c s) hUp rfl, mem_out_finish ?_⟩
    simp [configRequest, hOff]
  case d0 => exact ⟨_, exec_of_row (exec_pcieD0Return t s) hUp hAsleep, by rw [finish_pcie_d3, d0Return_d3]⟩
  case flr =>
    have hRow := exec_of_row (exec_functionLevelReset t s) hUp hOn
    refine ⟨_, hRow, ?_, ?_, ?_, ?_, ?_, ?_, fun n => ?_⟩
    · simp [flr, ctrlReset]
    · simp [flr, ctrlReset]
    · simp [flr, ctrlReset]
    · simp [flr, ctrlReset]
    · simpa [flr, ctrlReset] using hOn
    · simp [flr, ctrlReset]
    · simpa using flr_port (s.at t) n
  all_goals
    have hRow (c : ConfigReq) : exec (.configRequest t c) s = .next (finish (configDo c (s.at t))) := by
      rw [exec_of_row (exec_configRequest t c s) hUp rfl, configRequest, if_pos (by simpa using hOn)]
  case read => exact ⟨_, (s.at t).draw.1, hRow .read, mem_out_finish (by simp [configDo, identity])⟩
  case command => exact ⟨_, hRow (.command m i), by simp [configDo], by simp [configDo]⟩
  case msixEnable => exact ⟨_, hRow (.msixEnable on), by simp [configDo]⟩
  case power => exact ⟨_, hRow (.power d), by rw [finish_pcie_d3, configDo_power_d3]⟩
  case bar => exact ⟨_, hRow (.bar 0 v), by simp [configDo, hBars]⟩

end Sys2Proof.Machine
end

section
/-! A mailbox at work: rings, takes, deliveries and releases (15 R358 to R360, R364, R365; 00 R10). -/

namespace Sys2Proof.Machine

section
variable {s : State} {n : Nat}

/-! ### The flush of undefined opcodes (15 R368) -/

/-- The flush answers requests: of a mailbox it changes the waiting responses and the bulk window. -/
theorem flushBad_port {α : Type} {g : TenantPort → α} (hg : ∀ q l b, g { q with replies := l, bulk := b } = g q) (s : State) (n : Nat) :
    g ((flushBad s).port n) = g (s.port n) := by
  have hFail (s : State) (r : Req) : g ((failWith s r 6).port n) = g (s.port n) := by
    by_cases hn : n = r.tenant
    · rw [hn, failWith, reply, State.updPort_port, hg]
    · rw [failWith, reply, State.updPort_port_ne _ _ hn]
  have hFold (l : List Req) (s : State) : g ((l.foldl (fun s r => failWith s r 6) s).port n) = g (s.port n) := by
    induction l generalizing s with
    | nil => rfl
    | cons r l ih => rw [List.foldl_cons, ih, hFail]
  unfold flushBad
  split
  · rfl
  · exact hFold _ _

/-- The flush takes bad requests from the head of the order alone. -/
theorem flushBad_foreman (s : State) : (flushBad s).foreman =
    if s.foreman.current.isSome then s.foreman
    else { s.foreman with order := s.foreman.order.dropWhile badOpcode } := by
  unfold flushBad
  split
  · rfl
  · simp

theorem mem_dropWhile_append {α : Type} {p : α → Bool} {x : α} (hx : p x = false) (l : List α) : x ∈ (l ++ [x]).dropWhile p := by
  induction l with
  | nil => simp [hx]
  | cons a l ih =>
    rw [List.cons_append, List.dropWhile_cons]
    split
    · exact ih
    · simp

/-! ### The take of a request (15 R359, R360, R365) -/

/-- The request as the mailbox logic takes it: with the bulk window, where it brings bulk and the window is free. -/
def taken (s : State) (n : Nat) : Req :=
  let r := reqAt s n
  let own := natBit r.flags 1 && !(s.port n).bulkDev
  { r with owner := own, busy := natBit r.flags 1 && !own }

/-- Where a taken request waits: the urgent slot, or the order. -/
def queued (s : State) (n : Nat) : Foreman :=
  if urgentOk n (reqAt s n).flags (reqAt s n).opcode then { s.foreman with urgent := s.foreman.urgent ++ [(taken s n, s.now)] }
  else { s.foreman with order := s.foreman.order ++ [taken s n] }

/-- The mailbox once its request is taken. -/
def takenPort (s : State) (n : Nat) : State :=
  s.portSet n (fun p => { p with
      reqPend := false, reqTaken := true, inflight := p.inflight + 1, bulkDev := p.bulkDev || natBit (reqAt s n).flags 1 })
    (fun j => { j with taken := true })

theorem takeNow_eq (s : State) (n : Nat) : takeNow s n = flushBad { takenPort s n with foreman := queued s n } := rfl

/-- The mailbox of a taken request: its ring is over, REQ_TAKEN is set, it counts as in flight. -/
theorem takeNow_port (s : State) (n : Nat) : ((takeNow s n).port n).reqPend = false ∧ ((takeNow s n).port n).reqTaken = true
    ∧ ((takeNow s n).port n).inflight = (s.port n).inflight + 1 := by
  have hPort : ({ takenPort s n with foreman := queued s n } : State).port n = (takenPort s n).port n := port_congr rfl n
  rw [takeNow_eq]
  refine ⟨?_, ?_, ?_⟩
  · rw [flushBad_port (g := TenantPort.reqPend) (fun _ _ _ => rfl), hPort]
    simp [takenPort]
  · rw [flushBad_port (g := TenantPort.reqTaken) (fun _ _ _ => rfl), hPort]
    simp [takenPort]
  · rw [flushBad_port (g := TenantPort.inflight) (fun _ _ _ => rfl), hPort]
    simp [takenPort]

/-- An honoured urgent request goes to the urgent slot. -/
theorem takeNow_urgent (hUrgent : urgentOk n (reqAt s n).flags (reqAt s n).opcode = true) :
    (takeNow s n).foreman.urgent = s.foreman.urgent ++ [(taken s n, s.now)] := by
  rw [takeNow_eq, flushBad_foreman, queued, if_pos hUrgent]
  split <;> rfl

/-- A request with a defined opcode waits in take order. -/
theorem takeNow_order (hUrgent : urgentOk n (reqAt s n).flags (reqAt s n).opcode = false)
    (hDefined : opcodes.contains (reqAt s n).opcode = true) : taken s n ∈ (takeNow s n).foreman.order := by
  have hGood : badOpcode (taken s n) = false := by simpa [badOpcode, taken] using hDefined
  have hQueue : queued s n = { s.foreman with order := s.foreman.order ++ [taken s n] } := if_neg (by simp [hUrgent])
  rw [takeNow_eq, flushBad_foreman, hQueue]
  dsimp only
  split
  · simp
  · exact mem_dropWhile_append hGood _

/-- One with an undefined opcode that nothing waits before is answered BAD_OPCODE at once. -/
theorem takeNow_badOpcode (hUrgent : urgentOk n (reqAt s n).flags (reqAt s n).opcode = false)
    (hUndefined : opcodes.contains (reqAt s n).opcode = false) (hEmpty : s.foreman.order = []) (hIdle : s.foreman.current = none) :
    answersWith (takeNow s n) (taken s n) 6 0 := by
  have hBad : badOpcode (taken s n) = true := by simpa [badOpcode, taken] using hUndefined
  have hQueue : queued s n = { s.foreman with order := [taken s n] } := by rw [queued, if_neg (by simp [hUrgent]), hEmpty]; rfl
  rw [takeNow_eq, hQueue]
  simp [flushBad, hIdle, hBad, failWith, answersWith_reply]

theorem taken_opcode (s : State) (n : Nat) : (taken s n).opcode = (reqAt s n).opcode := rfl

/-! ### A ring (15 R359, R365) -/

/-- The ring stands in the mailbox. -/
def rung (s : State) (n : Nat) : State := s.updPort n (fun p => { p with reqPend := true })

@[simp] theorem reqAt_rung (s : State) (n : Nat) : reqAt (rung s n) n = reqAt s n := by simp [reqAt, rung]

theorem ring_of_ignored {w : Nat} (h : natBit w 0 = false ∨ (s.port n).reqPend = true) : ring s n w = s := by
  rcases h with h | h <;> simp [ring, h]

theorem ring_eq {w : Nat} (hCtrl : s.sys.ctrlUp = true) (hRing : natBit w 0 = true) (hFree : (s.port n).reqPend = false) :
    ring s n w = if n = 0 then takeUrgent (rung s n) else rung s n := by
  simp [ring, hCtrl, hRing, hFree, rung]

theorem ring_of_ordinary {w : Nat} (hCtrl : s.sys.ctrlUp = true) (hRing : natBit w 0 = true) (hFree : (s.port n).reqPend = false)
    (hOrdinary : urgentOk n (reqAt s n).flags (reqAt s n).opcode = false) : ring s n w = rung s n := by
  rw [ring_eq hCtrl hRing hFree]
  split
  next h0 =>
    subst h0
    simp [takeUrgent, hOrdinary]
  next => rfl

/-- An honoured urgent request is tenant 0's. -/
theorem tenant_of_urgentOk {flags opcode : Nat} (h : urgentOk n flags opcode = true) : n = 0 := by
  simp only [urgentOk, Bool.and_eq_true, beq_iff_eq] at h
  exact h.1.1

theorem ring_of_urgent {w : Nat} (hCtrl : s.sys.ctrlUp = true) (hRing : natBit w 0 = true) (hFree : (s.port 0).reqPend = false)
    (hUrgent : urgentOk 0 (reqAt s 0).flags (reqAt s 0).opcode = true) (hSlot : s.foreman.urgent = []) :
    ring s 0 w = takeNow (rung s 0) 0 := by
  have hMay : mayTake (rung s 0) 0 = true := by
    rw [mayTake, reqAt_rung, hUrgent]
    simp [rung, hSlot, hCtrl]
  rw [ring_eq hCtrl hRing hFree, if_pos rfl, takeUrgent, reqAt_rung, hUrgent, hMay]
  rfl

/-! ### A delivery (15 R358, R364) -/

theorem nextMessage_rsp {p q : TenantPort} {m : Msg} (h : nextMessage s p = some (m, q)) : q.rsp = p.rsp := by
  unfold nextMessage at h
  split at h
  · cases h; rfl
  · cases h; rfl
  · split at h
    · cases h
    · cases h; rfl

@[simp] theorem armReset_port (s : State) (n k : Nat) (m : Msg) : (armReset s n m).port k = s.port k := by
  unfold armReset
  split <;> rfl

/-- The mailbox once message m is delivered, `q` being what is left of it. -/
theorem deliver_port {q : TenantPort} {m : Msg} (h : nextMessage s (s.port n) = some (m, q)) :
    ((deliver s n).port n).rspReady = true ∧ ((deliver s n).port n).rseq = ((s.port n).rseq + 1) % 65536
      ∧ ((deliver s n).port n).replies = q.replies
      ∧ ((deliver s n).port n).rsp
        = memWrite 0#8 (s.port n).rsp 0 (msgBytes m (moreWait q) (((s.port n).rseq + 1) % 65536)) := by
  simp [deliver, h, nextMessage_rsp h]

/-! ### A release (15 R358 to R360, 00 R10) -/

/-- A mailbox once w is written to its DBS_n, `j` being what was set at this very moment. -/
def released (j : JustSet) (w : Nat) (p : TenantPort) : TenantPort :=
  let p := if natBit w 3 && !j.lost then { p with evtLost := false } else p
  if natBit w 1 && p.rspReady && !j.rsp then
    { p with rspReady := false, bulkDev := p.bulkDev && !p.rspOwnsBulk, rspOwnsBulk := false }
  else p

theorem dbsClear_port (hCtrl : s.sys.ctrlUp = true) (w : Nat) :
    (dbsClear s n w).port n = released (setNow s.now (s.port n)) w (s.port n) := by
  simp [dbsClear, hCtrl, released]

theorem released_evtLost (j : JustSet) (w : Nat) (p : TenantPort) :
    (released j w p).evtLost = (p.evtLost && (!natBit w 3 || j.lost)) := by
  have hLost : (if natBit w 3 && !j.lost then { p with evtLost := false } else p).evtLost
      = (p.evtLost && (!natBit w 3 || j.lost)) := by
    cases natBit w 3 <;> cases j.lost <;> simp
  unfold released
  extract_lets q
  have hQ : q.evtLost = (p.evtLost && (!natBit w 3 || j.lost)) := hLost
  rw [← hQ]
  split <;> rfl

/-- A write that clears RSP_READY, which stays set where it was set at this moment. -/
theorem released_rsp {j : JustSet} {w : Nat} {p : TenantPort} (hClear : natBit w 1 = true) (hReady : p.rspReady = true) :
    (released j w p).rspReady = j.rsp ∧ (released j w p).bulkDev = (p.bulkDev && (j.rsp || !p.rspOwnsBulk)) := by
  unfold released
  extract_lets q
  have hSame : q.rspReady = p.rspReady ∧ q.bulkDev = p.bulkDev ∧ q.rspOwnsBulk = p.rspOwnsBulk := by
    unfold q
    split <;> exact ⟨rfl, rfl, rfl⟩
  obtain ⟨hQ, hBulk, hOwns⟩ := hSame
  cases hRsp : j.rsp <;> simp [hClear, hQ, hReady, hBulk, hOwns]

end

/-! ### The obligation -/

/-- Settles O48: each row's operation leaves the mailbox as its lemma above says, and what follows the step leaves that alone. -/
theorem mailboxesCarryMessages : Obligations.MailboxesCarryMessages := by
  intro s t n hUp hCtrl
  refine ⟨fun w => ⟨fun hIgnored => ?ignored, fun hRing hFree => ⟨fun hOrdinary => ?ordinary, fun hUrgent hSlot => ?urgent⟩⟩,
    fun hPend hOrdinary hRoom => ?take, fun m q hIdle hNext => ?deliver, fun w hClear hReady => ?release⟩
  case ignored => rw [exec_of_row (exec_doorbellRing t n w s) hUp rfl, ring_of_ignored (s := s.at t) hIgnored]
  case ordinary =>
    have hRow := exec_of_row (exec_doorbellRing t n w s) hUp rfl
    rw [ring_of_ordinary (s := s.at t) hCtrl hRing hFree hOrdinary] at hRow
    exact ⟨_, hRow, by simp [rung], by simp [rung]⟩
  case urgent =>
    obtain ⟨k, hk⟩ := n
    obtain rfl : k = 0 := tenant_of_urgentOk hUrgent
    have hRow := exec_of_row (exec_doorbellRing t ⟨0, hk⟩ w s) hUp rfl
    rw [ring_of_urgent (s := s.at t) hCtrl hRing hFree hUrgent hSlot] at hRow
    obtain ⟨hOver, hTaken, -⟩ := takeNow_port (rung (s.at t) 0) 0
    have hUrgentAt : urgentOk 0 (reqAt (rung (s.at t) 0) 0).flags (reqAt (rung (s.at t) 0) 0).opcode = true := by
      rw [reqAt_rung]
      exact hUrgent
    have hQueue := takeNow_urgent hUrgentAt
    refine ⟨_, taken (rung (s.at t) 0) 0, max s.now t, hRow, ?_, ?_, rfl, rfl, ?_, ?_⟩
    · rw [finish_foreman, hQueue]
      simp [rung, hSlot]
    · rw [taken_opcode, reqAt_rung]
      rfl
    · rw [finish_port_reqPend, hOver]
    · rw [finish_port_reqTaken, hTaken]
  case take =>
    have hMay : mayTake (s.at t) n.val = true := by
      have hAt : reqAt (s.at t) n.val = reqAt s n.val := rfl
      simp [mayTake, hAt, hOrdinary, hCtrl, hPend, hRoom]
    obtain ⟨hOver, hTaken, hFlight⟩ := takeNow_port (s.at t) n.val
    refine ⟨_, exec_of_row (exec_requestTake t n s) hUp hMay, by rw [finish_port_reqPend, hOver],
      by rw [finish_port_reqTaken, hTaken], by rw [finish_port_inflight, hFlight]; rfl, fun hDefined => ?_,
      fun hUndefined hEmpty hFree => ?_⟩
    · have hWaits := takeNow_order (s := s.at t) hOrdinary hDefined
      exact ⟨taken (s.at t) n.val, by simpa using hWaits, rfl, rfl, rfl⟩
    · have hAnswer := answersWith_finish (takeNow_badOpcode (s := s.at t) hOrdinary hUndefined hEmpty hFree)
      obtain ⟨m, hm, hOp, hTag, hStatus, -⟩ := hAnswer
      exact ⟨m, hm, hStatus, hOp, hTag⟩
  case deliver =>
    have hGuard : ((s.at t).sys.ctrlUp && !((s.at t).port n.val).rspReady) = true := by simp [hCtrl, hIdle]
    obtain ⟨hReady, hSeq, hLeft, hWindow⟩ := deliver_port (s := s.at t) hNext
    refine ⟨_, exec_of_row (exec_responseDeliver t n s) hUp hGuard, ?_, ?_, ?_, ?_⟩
    · rw [finish_port_rspReady, hReady]
    · rw [finish_port_rseq, hSeq]; rfl
    · rw [finish_port_replies, hLeft]
    · rw [finish_port_rsp, hWindow]; rfl
  case release =>
    have hRow := exec_of_row (exec_dbsWrite t n w s) hUp rfl
    have hPort := dbsClear_port (s := s.at t) (n := n.val) hCtrl w.toNat
    obtain ⟨hRsp, hBulk⟩ := released_rsp (j := setNow (s.at t).now ((s.at t).port n.val)) hClear hReady
    refine ⟨_, hRow, ?_, fun hOld => ⟨?_, ?_⟩, fun hNew => ⟨?_, ?_⟩⟩
    · rw [finish_port_evtLost, hPort, released_evtLost]; rfl
    · rw [finish_port_rspReady, hPort]; exact hRsp.trans hOld
    · rw [finish_port_bulkDev, hPort]; exact hBulk.trans (by simp_all)
    · rw [finish_port_rspReady, hPort]; exact hRsp.trans hNew
    · rw [finish_port_bulkDev, hPort]; exact hBulk.trans (by simp_all)

end Sys2Proof.Machine
end

section
/-! The checks of a mailbox request, in their order (15 R368; 16 R373, R374). -/

namespace Sys2Proof.Machine

theorem readyBit_begun (s : State) (t op k : Nat) : readyBit (begun s t op) k = readyBit s k := by
  obtain ⟨f, hBegun, -, -⟩ := begun_eq s t op
  rw [hBegun]
  rfl

/-- The rights that a command of the table asks for: tenant 0's alone, or every tenant's. -/
def rightsOf : Bool → State → Req → Bool
  | true => only0
  | false => anyone
/-- The readiness that it asks for: a READY bit, or none. -/
def readyOf : Option Nat → State → Req → Bool
  | some k => fun s _ => readyBit s k
  | none => always

section
variable {s : State} {t op : Nat} {r : Req} {len : Req → Bool} {rights ready : State → Req → Bool} {body : Req → State → State}

theorem serve_of_none (h : nextReq s = none) : serve op len rights ready body s = s := by
  simp only [serve, h]

theorem serve_of_other (h : nextReq s = some r) (hOther : r.opcode ≠ op ∨ s.sys.ctrlUp = false) :
    serve op len rights ready body s = s := by
  have hSkip : (r.opcode != op || !s.sys.ctrlUp) = true := by simpa using hOther
  simp only [serve, h, hSkip, if_true]

/-- The answer that the checks give a request in state `w`, the first that fails deciding; `body` runs where none does. -/
def checked (op : Nat) (len : Req → Bool) (rights ready : State → Req → Bool) (body : Req → State → State) (r : Req) (w : State) : State :=
  if !len r || 240 < r.len then failWith w r 7
  else if !rights w r || (op != 0x0101 && !tenantOn w r.tenant) || (natBit r.flags 0 && !urgentOk r.tenant r.flags r.opcode) then
    failWith w r 8
  else if !ready w r then failWith w r 5
  else if r.busy then busy w r
  else body r w

/-- A command whose request stands at the head runs it through the checks. -/
theorem foremanRow_of_head (h : nextReq (s.at t) = some r) (hOp : r.opcode = op) (hCtrl : s.sys.ctrlUp = true) :
    foremanRow t op len rights ready body s = served (checked op len rights ready body r (begun s t op)) := by
  have hHead : (r.opcode != op || !(s.at t).sys.ctrlUp) = false := by simp [hOp, hCtrl]
  simp only [foremanRow, serve, h, hHead, Bool.false_eq_true, if_false]
  rfl

theorem checked_of_len (h : len r = false ∨ 240 < r.len) (w : State) : checked op len rights ready body r w = failWith w r 7 := by
  have hBad : (!len r || decide (240 < r.len)) = true := by simpa using h
  rw [checked, if_pos hBad]

/-- The rights fail. -/
def barred (op : Nat) (rights : State → Req → Bool) (r : Req) (w : State) : Prop :=
  rights w r = false ∨ op ≠ 0x0101 ∧ tenantOn w r.tenant = false ∨ natBit r.flags 0 = true ∧ urgentOk r.tenant r.flags r.opcode = false

theorem barred_iff {w : State} : barred op rights r w ↔ (!rights w r || (op != 0x0101 && !tenantOn w r.tenant)
    || (natBit r.flags 0 && !urgentOk r.tenant r.flags r.opcode)) = true := by
  simp [barred, or_assoc]

theorem checked_of_rights {w : State} (hLen : ¬ (len r = false ∨ 240 < r.len)) (hBarred : barred op rights r w) :
    checked op len rights ready body r w = failWith w r 8 := by
  have hFits : (!len r || decide (240 < r.len)) = false := by simpa using hLen
  simp only [checked, hFits, barred_iff.mp hBarred, Bool.false_eq_true, if_false, if_true]

theorem checked_of_down {w : State} (hLen : ¬ (len r = false ∨ 240 < r.len)) (hMay : ¬ barred op rights r w)
    (hDown : ready w r = false) : checked op len rights ready body r w = failWith w r 5 := by
  have hFits : (!len r || decide (240 < r.len)) = false := by simpa using hLen
  simp only [checked, hFits, mt barred_iff.mpr hMay, hDown, Bool.not_false, Bool.false_eq_true, if_false, if_true]

theorem checked_of_busy {w : State} (hLen : ¬ (len r = false ∨ 240 < r.len)) (hMay : ¬ barred op rights r w)
    (hUp : ready w r = true) (hBusy : r.busy = true) : checked op len rights ready body r w = failWith w r 4 := by
  have hFits : (!len r || decide (240 < r.len)) = false := by simpa using hLen
  simp only [checked, hFits, mt barred_iff.mpr hMay, hUp, hBusy, Bool.not_true, Bool.false_eq_true, if_false, if_true]
  rfl

end

section
variable {s : State} {t op n : Nat} {only : Bool} {bit : Option Nat} {r : Req}

theorem barred_rightsOf (hOp : op ≠ 0x0101) : barred op (rightsOf only) r (begun s t op) ↔
    (only = true ∧ r.tenant ≠ 0) ∨ tenantOn s r.tenant = false
      ∨ (natBit r.flags 0 = true ∧ urgentOk r.tenant r.flags r.opcode = false) := by
  cases only <;> simp [barred, rightsOf, only0, anyone, hOp, tenantOn_begun]

theorem readyOf_begun : readyOf bit (begun s t op) r = false ↔ ∃ k, bit = some k ∧ readyBit s k = false := by
  cases bit <;> simp [readyOf, always, readyBit_begun]

/-- The checks of a command of the table (15 R368). -/
theorem checks_in_order {i : Instr} {body : Req → State → State} (hOp : op ≠ 0x0101)
    (hExec : exec i s = .next (foremanRow t op (lenIs n) (rightsOf only) (readyOf bit) body s)) :
    let z := s.at t
    (nextReq z = none → exec i s = .next (finish z))
    ∧ (nextReq z = some r →
      let w := begun s t op
      let lenBad := lenIs n r = false ∨ 240 < r.len
      let rightsBad := (only = true ∧ r.tenant ≠ 0) ∨ tenantOn s r.tenant = false
        ∨ (natBit r.flags 0 = true ∧ urgentOk r.tenant r.flags r.opcode = false)
      let down := ∃ k, bit = some k ∧ readyBit s k = false
      (r.opcode ≠ op ∨ s.sys.ctrlUp = false → exec i s = .next (finish z))
      ∧ (r.opcode = op → s.sys.ctrlUp = true →
        (lenBad → exec i s = .next (served (failWith w r 7)))
        ∧ (¬ lenBad → rightsBad → exec i s = .next (served (failWith w r 8)))
        ∧ (¬ lenBad → ¬ rightsBad → down → exec i s = .next (served (failWith w r 5)))
        ∧ (¬ lenBad → ¬ rightsBad → ¬ down → r.busy = true → exec i s = .next (served (failWith w r 4))))) := by
  refine ⟨fun hNone => ?idle, fun hNext => ⟨fun hOther => ?waits, fun hHead hCtrl => ?_⟩⟩
  case idle => rw [hExec, foremanRow, serve_of_none hNone]
  case waits => rw [hExec, foremanRow, serve_of_other hNext hOther]
  case _ =>
    rw [hExec, foremanRow_of_head hNext hHead hCtrl]
    refine ⟨fun hLen => ?length, fun hLen hRights => ?barred, fun hLen hRights hDown => ?notReady,
      fun hLen hRights hDown hBusy => ?owned⟩
    case length => rw [checked_of_len hLen]
    case barred => rw [checked_of_rights hLen ((barred_rightsOf hOp).mpr hRights)]
    case notReady => rw [checked_of_down hLen (mt (barred_rightsOf hOp).mp hRights) (readyOf_begun.mpr hDown)]
    case owned =>
      have hUp : readyOf bit (begun s t op) r = true := by simpa using mt readyOf_begun.mp hDown
      rw [checked_of_busy hLen (mt (barred_rightsOf hOp).mp hRights) hUp hBusy]

end

/-- Settles O52: every command of the table is a row with these checks. That BUSY comes after readiness is the model's reading
(assumption log 26), and so is NOT_READY for JOURNAL_WRITE while FLASH is clear (16 R374). -/
theorem requestChecksGoInOrder : Obligations.RequestChecksGoInOrder := by
  intro s t r i op len only bit hRow
  simp only [List.mem_cons, List.not_mem_nil, or_false, Prod.mk.injEq] at hRow
  rcases hRow with ⟨rfl, rfl, rfl, rfl, rfl⟩ | ⟨rfl, rfl, rfl, rfl, rfl⟩ | ⟨rfl, rfl, rfl, rfl, rfl⟩ | ⟨rfl, rfl, rfl, rfl, rfl⟩
    | ⟨rfl, rfl, rfl, rfl, rfl⟩ | ⟨rfl, rfl, rfl, rfl, rfl⟩ | ⟨rfl, rfl, rfl, rfl, rfl⟩ | ⟨rfl, rfl, rfl, rfl, rfl⟩
    | ⟨rfl, rfl, rfl, rfl, rfl⟩ | ⟨rfl, rfl, rfl, rfl, rfl⟩ | ⟨rfl, rfl, rfl, rfl, rfl⟩ | ⟨rfl, rfl, rfl, rfl, rfl⟩
    | ⟨rfl, rfl, rfl, rfl, rfl⟩ | ⟨rfl, rfl, rfl, rfl, rfl⟩ | ⟨rfl, rfl, rfl, rfl, rfl⟩ | ⟨rfl, rfl, rfl, rfl, rfl⟩
    | ⟨rfl, rfl, rfl, rfl, rfl⟩ | ⟨rfl, rfl, rfl, rfl, rfl⟩ | ⟨rfl, rfl, rfl, rfl, rfl⟩ | ⟨rfl, rfl, rfl, rfl, rfl⟩
    | ⟨rfl, rfl, rfl, rfl, rfl⟩ | ⟨rfl, rfl, rfl, rfl, rfl⟩ | ⟨rfl, rfl, rfl, rfl, rfl⟩ | ⟨rfl, rfl, rfl, rfl, rfl⟩
    | ⟨rfl, rfl, rfl, rfl, rfl⟩ | ⟨rfl, rfl, rfl, rfl, rfl⟩
  all_goals exact checks_in_order (by decide) rfl

end Sys2Proof.Machine
end

section
/-! Commands that only read answer their request and change nothing that they could read (15 R359, R367). -/

namespace Sys2Proof.Machine

/-! ### What a request's course leaves of Foreman -/

section
variable {α : Type} {g : Foreman → α} (hg : ∀ f u o l, g { f with urgent := u, order := o, lastOp := l } = g f)
include hg

theorem flushBad_keeps (s : State) : g (flushBad s).foreman = g s.foreman := by
  rw [flushBad_foreman]
  split
  · rfl
  · exact hg s.foreman s.foreman.urgent _ s.foreman.lastOp

theorem takeNow_keeps (s : State) (n : Nat) : g (takeNow s n).foreman = g s.foreman := by
  rw [takeNow_eq, flushBad_keeps hg]
  dsimp only
  rw [queued]
  split
  · exact hg s.foreman _ s.foreman.order s.foreman.lastOp
  · exact hg s.foreman s.foreman.urgent _ s.foreman.lastOp

theorem takeUrgent_keeps (s : State) : g (takeUrgent s).foreman = g s.foreman := by
  unfold takeUrgent
  dsimp only
  split
  · exact takeNow_keeps hg s 0
  · rfl

theorem begun_keeps (s : State) (t op : Nat) : g (begun s t op).foreman = g s.foreman := by
  unfold begun popReq
  dsimp only
  split
  · exact hg s.foreman _ s.foreman.order op
  · exact hg s.foreman s.foreman.urgent _ op

theorem served_keeps (s : State) : g (served s).foreman = g s.foreman := by
  rw [served, finish_foreman, takeUrgent_keeps hg, flushBad_keeps hg]

/-- A command row keeps of Foreman what its body keeps. -/
theorem foremanRow_keeps {body : Req → State → State} (hBody : ∀ r v, g (body r v).foreman = g v.foreman) (t op : Nat)
    (len : Req → Bool) (rights ready : State → Req → Bool) (s : State) :
    g (foremanRow t op len rights ready body s).foreman = g s.foreman := by
  have hChecked (r : Req) (w : State) : g (checked op len rights ready body r w).foreman = g w.foreman := by
    have hFail (n : Nat) : (failWith w r n).foreman = w.foreman := by simp
    unfold checked
    (repeat' split)
    · rw [hFail]
    · rw [hFail]
    · rw [hFail]
    · rw [busy, hFail]
    · exact hBody r w
  have hIdle : g (finish (s.at t)).foreman = g s.foreman := by simp
  cases hNext : nextReq (s.at t) with
  | none => rwa [foremanRow, serve_of_none hNext]
  | some r =>
    by_cases hOther : r.opcode ≠ op ∨ s.sys.ctrlUp = false
    · rwa [foremanRow, serve_of_other hNext hOther]
    · rw [not_or, not_not, Bool.not_eq_false] at hOther
      rw [foremanRow_of_head hNext hOther.1 hOther.2, served_keeps hg, hChecked, begun_keeps hg]

end

/-! ### Readings -/

/-- A body that only answers its request. -/
def OnlyAnswers (body : Req → State → State) : Prop :=
  ∀ r s, ∃ status reason clampN payload bulk, body r s = reply s r status reason clampN payload bulk

theorem noObject_eq_reply (s : State) (r : Req) : ∃ status reason clampN payload bulk,
    noObject s r = reply s r status reason clampN payload bulk := ⟨_, _, _, _, _, rfl⟩

theorem answer_eq_reply (s : State) (r : Req) (b : List Byte) (es : List ClampEntry) (bulk : List Byte) :
    ∃ status reason clampN payload out, answer s r b es bulk = reply s r status reason clampN payload out := ⟨_, _, _, _, _, rfl⟩

theorem noObject_or_answer_eq_reply (c : Prop) [Decidable c] (s : State) (r : Req) (b : List Byte) (es : List ClampEntry)
    (bulk : List Byte) : ∃ status reason clampN payload out,
      (if c then noObject s r else answer s r b es bulk) = reply s r status reason clampN payload out := by
  split
  · exact noObject_eq_reply s r
  · exact answer_eq_reply ..

theorem stringLedgerDo_onlyAnswers : OnlyAnswers stringLedgerDo := by
  intro r s
  unfold stringLedgerDo
  dsimp only
  split
  · exact noObject_eq_reply s r
  · exact answer_eq_reply ..

theorem onStream_onlyAnswers {body : Req → Nat → State → State} (hBody : ∀ n, OnlyAnswers (fun r => body r n)) :
    OnlyAnswers (onStream body) := by
  intro r s
  unfold onStream
  split
  · exact hBody _ r s
  · exact noObject_eq_reply s r

theorem onJob_onlyAnswers {body : Req → Nat → Job → State → State} (hBody : ∀ n j, OnlyAnswers (fun r => body r n j)) :
    OnlyAnswers (onJob body) := by
  intro r s
  unfold onJob
  split
  · exact hBody _ _ r s
  · exact noObject_eq_reply s r

/-- The row of a command that only answers leaves everything but mailboxes, Foreman's queues and what follows every step. -/
theorem foremanRow_reads {body : Req → State → State} (hBody : OnlyAnswers body) (t op : Nat) (len : Req → Bool)
    (rights ready : State → Req → Bool) (s : State) :
    let u := foremanRow t op len rights ready body s
    u.sys = s.sys ∧ u.ka = s.ka ∧ u.flash = s.flash ∧ u.journal = s.journal ∧ u.log = s.log ∧ u.pairs = s.pairs ∧ u.eopen = s.eopen
      ∧ u.ledger = s.ledger ∧ u.sched = s.sched ∧ u.tiles = s.tiles ∧ u.dram = s.dram ∧ u.assayer = s.assayer ∧ u.fabric = s.fabric
      ∧ u.rumbes = s.rumbes ∧ u.foreman.images = s.foreman.images ∧ u.foreman.tickets = s.foreman.tickets
      ∧ u.foreman.tenants = s.foreman.tenants ∧ u.free = s.free := by
  have hKeeps {α : Type} {g : State → α} (hg : ∀ v (r : Req) a b c p o, g (reply v r a b c p o) = g v) (r : Req) (v : State) :
      g (body r v) = g v := by
    obtain ⟨a, b, c, p, o, hReply⟩ := hBody r v
    rw [hReply, hg]
  refine ⟨foremanRow_sys _ _ _ _ _ _ _ (hKeeps (by simp)), foremanRow_ka _ _ _ _ _ _ _ (hKeeps (by simp)),
    foremanRow_flash _ _ _ _ _ _ _ (hKeeps (by simp)), foremanRow_journal _ _ _ _ _ _ _ (hKeeps (by simp)),
    foremanRow_log _ _ _ _ _ _ _ (hKeeps (by simp)), foremanRow_pairs _ _ _ _ _ _ _ (hKeeps (by simp)),
    foremanRow_eopen _ _ _ _ _ _ _ (hKeeps (by simp)), foremanRow_ledger _ _ _ _ _ _ _ (hKeeps (by simp)),
    foremanRow_sched _ _ _ _ _ _ _ (hKeeps (by simp)), foremanRow_tiles _ _ _ _ _ _ _ (hKeeps (by simp)),
    foremanRow_dram _ _ _ _ _ _ _ (hKeeps (by simp)), foremanRow_assayer _ _ _ _ _ _ _ (hKeeps (by simp)),
    foremanRow_fabric _ _ _ _ _ _ _ (hKeeps (by simp)), foremanRow_rumbes _ _ _ _ _ _ _ (hKeeps (by simp)),
    foremanRow_keeps (g := Foreman.images) (fun _ _ _ _ => rfl) (hKeeps (g := fun v => v.foreman.images) (by simp)) ..,
    foremanRow_keeps (g := Foreman.tickets) (fun _ _ _ _ => rfl) (hKeeps (g := fun v => v.foreman.tickets) (by simp)) ..,
    foremanRow_keeps (g := Foreman.tenants) (fun _ _ _ _ => rfl) (hKeeps (g := fun v => v.foreman.tenants) (by simp)) ..,
    foremanRow_free _ _ _ _ _ _ _ (hKeeps (by simp))⟩

/-- Each command that only reads is a row whose body only answers. -/
theorem reading_row {t : Nat} {i : Instr} {s u : State} (hRow : i ∈ [Instr.ident t, .tenantStatus t, .getRtc t, .bootClampRead t,
      .pairStatus t, .stringLedger t, .cellLedger t, .streamStatus t, .imageList t, .jobStatus t, .getChannel t, .cellAssay t,
      .routes t, .kaRead t, .faultRead t]) (hExec : exec i s = .next u) :
    ∃ op len rights ready body, OnlyAnswers body ∧ u = foremanRow t op len rights ready body s := by
  have hIs {x : State} (h : exec i s = .next x) : u = x := Host.Outcome.next.inj (hExec.symm.trans h)
  simp only [List.mem_cons, List.not_mem_nil, or_false] at hRow
  rcases hRow with rfl | rfl | rfl | rfl | rfl | rfl | rfl | rfl | rfl | rfl | rfl | rfl | rfl | rfl | rfl
  · exact ⟨_, _, _, _, identDo, fun _ _ => answer_eq_reply .., hIs (exec_ident t s)⟩
  · exact ⟨_, _, _, _, tenantStatusDo, fun _ _ => noObject_or_answer_eq_reply .., hIs (exec_tenantStatus t s)⟩
  · exact ⟨_, _, _, _, getRtcDo, fun _ _ => answer_eq_reply .., hIs (exec_getRtc t s)⟩
  · exact ⟨_, _, _, _, bootClampDo, fun _ _ => answer_eq_reply .., hIs (exec_bootClampRead t s)⟩
  · exact ⟨_, _, _, _, pairStatusDo, fun _ _ => noObject_or_answer_eq_reply .., hIs (exec_pairStatus t s)⟩
  · exact ⟨_, _, _, _, stringLedgerDo, stringLedgerDo_onlyAnswers, hIs (exec_stringLedger t s)⟩
  · exact ⟨_, _, _, _, cellLedgerDo, fun _ _ => answer_eq_reply .., hIs (exec_cellLedger t s)⟩
  · exact ⟨_, _, _, _, onStream streamStatusDo, onStream_onlyAnswers fun _ _ _ => answer_eq_reply .., hIs (exec_streamStatus t s)⟩
  · exact ⟨_, _, _, _, imageListDo, fun _ _ => answer_eq_reply .., hIs (exec_imageList t s)⟩
  · exact ⟨_, _, _, _, onJob jobStatusDo, onJob_onlyAnswers fun _ _ _ _ => answer_eq_reply .., hIs (exec_jobStatus t s)⟩
  · exact ⟨_, _, _, _, getChannelDo, fun _ _ => noObject_or_answer_eq_reply .., hIs (exec_getChannel t s)⟩
  · exact ⟨_, _, _, _, cellAssayDo, fun _ _ => noObject_or_answer_eq_reply .., hIs (exec_cellAssay t s)⟩
  · exact ⟨_, _, _, _, routesDo, fun _ _ => answer_eq_reply .., hIs (exec_routes t s)⟩
  · exact ⟨_, _, _, _, kaReadDo, fun _ _ => noObject_or_answer_eq_reply .., hIs (exec_kaRead t s)⟩
  · exact ⟨_, _, _, _, faultReadDo, fun _ _ => answer_eq_reply .., hIs (exec_faultRead t s)⟩

/-- Settles O56: the row of such a command runs a body that only answers. -/
theorem readingsChangeNothing : Obligations.ReadingsChangeNothing := by
  intro t i s u hRow hExec
  obtain ⟨op, len, rights, ready, body, hBody, rfl⟩ := reading_row hRow hExec
  exact foremanRow_reads hBody t op len rights ready s

end Sys2Proof.Machine
end

section
/-! Fields of a payload and their clamp rules: what a field reads once the rules have been applied (15 R369, R370). -/

namespace Sys2Proof.Machine

/-! ### Fields of a byte list -/

section
variable {a b : List Byte} {i j n v off : Nat}

@[simp] theorem length_leBytes (n v : Nat) : (leBytes n v).length = n := by
  induction n generalizing v with
  | zero => rfl
  | succ n ih => simp [leBytes, ih]

theorem byteAt_append_right (h : a.length ≤ i) : byteAt (a ++ b) i = byteAt b (i - a.length) := by
  simp [byteAt, List.getD_eq_getElem?_getD, List.getElem?_append_right h]

theorem byteAt_append_left (h : i < a.length) : byteAt (a ++ b) i = byteAt a i := by
  simp [byteAt, List.getD_eq_getElem?_getD, List.getElem?_append_left h]

theorem byteAt_leBytes (n v i : Nat) (h : i < n) : byteAt (leBytes n v) i = v / 256 ^ i % 256 := by
  induction n generalizing v i with
  | zero => omega
  | succ n ih =>
    cases i with
    | zero => simp [leBytes, byteAt]
    | succ i =>
      have hTail : byteAt (leBytes (n + 1) v) (i + 1) = byteAt (leBytes n (v / 256)) i := rfl
      rw [hTail, ih (v / 256) i (by omega), Nat.div_div_eq_div_mul, Nat.pow_succ']

/-- A field reads the same where its bytes do. -/
theorem leAt_congr (h : ∀ k, k < n → byteAt a (i + k) = byteAt b (j + k)) : leAt a i n = leAt b j n := by
  induction n generalizing i j with
  | zero => rfl
  | succ n ih =>
    have hHead := h 0 (by omega)
    have hTail : leAt a (i + 1) n = leAt b (j + 1) n := ih fun k hk => by
      have := h (k + 1) (by omega)
      rwa [show i + 1 + k = i + (k + 1) by omega, show j + 1 + k = j + (k + 1) by omega]
    simp only [leAt, hTail]
    simpa using hHead

theorem leAt_leBytes (n v : Nat) : leAt (leBytes n v) 0 n = v % 256 ^ n := by
  induction n generalizing v with
  | zero => simp [leAt, Nat.mod_one]
  | succ n ih =>
    have hTail : leAt (leBytes (n + 1) v) 1 n = leAt (leBytes n (v / 256)) 0 n := leAt_congr fun k _ => by
      rw [Nat.add_comm 1 k, Nat.zero_add]
      rfl
    rw [show leAt (leBytes (n + 1) v) 0 (n + 1) = byteAt (leBytes (n + 1) v) 0 + 256 * leAt (leBytes (n + 1) v) 1 n from rfl,
      hTail, ih, byteAt_leBytes _ _ _ (by omega), Nat.pow_succ', Nat.mod_mul, Nat.pow_zero, Nat.div_one]

theorem byteAt_lt (b : List Byte) (i : Nat) : byteAt b i < 256 := BitVec.isLt _

theorem leAt_lt (b : List Byte) (i n : Nat) : leAt b i n < 256 ^ n := by
  induction n generalizing i with
  | zero => simp [leAt]
  | succ n ih =>
    have hHead := byteAt_lt b i
    have hTail := ih (i + 1)
    rw [Nat.pow_succ', leAt]
    omega

theorem leAt_one (b : List Byte) (i : Nat) : leAt b i 1 = byteAt b i := by simp [leAt]

/-! ### A field written -/

theorem length_putLe (h : off + n ≤ b.length) : (putLe b off n v).length = b.length := by
  simp [putLe]
  omega

theorem byteAt_putLe_of_outside (h : off + n ≤ b.length) (hOut : i < off ∨ off + n ≤ i) :
    byteAt (putLe b off n v) i = byteAt b i := by
  have hHead : (b.take off).length = off := by rw [List.length_take]; omega
  rcases hOut with hBefore | hAfter
  · rw [putLe, List.append_assoc, byteAt_append_left (by omega)]
    simp [byteAt, List.getD_eq_getElem?_getD, hBefore]
  · have hMiddle : (b.take off ++ leBytes n v).length = off + n := by simp only [List.length_append, hHead, length_leBytes]
    rw [putLe, byteAt_append_right (by omega), hMiddle]
    simp only [byteAt, List.getD_eq_getElem?_getD, List.getElem?_drop]
    rw [show off + n + (i - (off + n)) = i by omega]

theorem leAt_putLe_of_outside (h : off + n ≤ b.length) (hOut : i + j ≤ off ∨ off + n ≤ i) :
    leAt (putLe b off n v) i j = leAt b i j :=
  leAt_congr fun k hk => byteAt_putLe_of_outside h (by omega)

theorem leAt_putLe_self (h : off + n ≤ b.length) : leAt (putLe b off n v) off n = v % 256 ^ n := by
  have hHead : (b.take off).length = off := by rw [List.length_take]; omega
  rw [← leAt_leBytes]
  refine leAt_congr fun k hk => ?_
  rw [putLe, List.append_assoc, byteAt_append_right (by omega), hHead, Nat.add_sub_cancel_left, Nat.zero_add,
    byteAt_append_left (by rwa [length_leBytes])]

end

/-! ### The rules of a payload, applied in turn (15 R369) -/

/-- Two fields share no byte. -/
def FieldRule.Apart (p q : FieldRule) : Prop := p.off + p.size ≤ q.off ∨ q.off + q.size ≤ p.off

theorem FieldRule.Apart.symm {p q : FieldRule} (h : p.Apart q) : q.Apart p := Or.symm h

/-- Whether the fields of a list lie in `n` bytes and are apart; a fact about a table of rules. -/
def rulesFit (n : Nat) : List FieldRule → Bool
  | [] => true
  | q :: qs => decide (q.off + q.size ≤ n) && qs.all (fun p => decide (q.off + q.size ≤ p.off) || decide (p.off + p.size ≤ q.off))
      && rulesFit n qs

theorem rulesFit_cons {n : Nat} {q : FieldRule} {qs : List FieldRule} :
    rulesFit n (q :: qs) = true ↔ q.off + q.size ≤ n ∧ (∀ p ∈ qs, q.Apart p) ∧ rulesFit n qs = true := by
  simp [rulesFit, FieldRule.Apart, and_assoc]

section
variable {b : List Byte} {rules : List FieldRule} {r : FieldRule}

/-- One rule applied, with the entry it makes. -/
def applyRule (a : List Byte × List ClampEntry) (r : FieldRule) : List Byte × List ClampEntry :=
  let c := clampKind r.kind (leAt a.1 r.off r.size)
  (putLe a.1 r.off r.size c.1, if c.2 = 0 then a.2 else a.2 ++ [(r.off, c.2, c.1)])

theorem foldl_applyRule_length (rules : List FieldRule) (a : List Byte × List ClampEntry) (h : rulesFit a.1.length rules = true) :
    (rules.foldl applyRule a).1.length = a.1.length := by
  induction rules generalizing a with
  | nil => rfl
  | cons q qs ih =>
    obtain ⟨hFit, -, hRest⟩ := rulesFit_cons.mp h
    have hLen : (applyRule a q).1.length = a.1.length := length_putLe hFit
    rw [List.foldl_cons, ih _ (hLen ▸ hRest), hLen]

/-- A field that no rule touches reads as before. -/
theorem foldl_applyRule_of_apart (rules : List FieldRule) (a : List Byte × List ClampEntry) (h : rulesFit a.1.length rules = true)
    (hApart : ∀ q ∈ rules, q.Apart r) : leAt (rules.foldl applyRule a).1 r.off r.size = leAt a.1 r.off r.size := by
  induction rules generalizing a with
  | nil => rfl
  | cons q qs ih =>
    obtain ⟨hFit, -, hRest⟩ := rulesFit_cons.mp h
    have hLen : (applyRule a q).1.length = a.1.length := length_putLe hFit
    have hSame : leAt (applyRule a q).1 r.off r.size = leAt a.1 r.off r.size :=
      leAt_putLe_of_outside hFit ((hApart q (by simp)).symm)
    rw [List.foldl_cons, ih _ (hLen ▸ hRest) (fun p hp => hApart p (List.mem_cons_of_mem _ hp)), hSame]

theorem foldl_applyRule_field (rules : List FieldRule) (a : List Byte × List ClampEntry) (h : rulesFit a.1.length rules = true)
    (hr : r ∈ rules) : leAt (rules.foldl applyRule a).1 r.off r.size
      = (clampKind r.kind (leAt a.1 r.off r.size)).1 % 256 ^ r.size := by
  induction rules generalizing a with
  | nil => cases hr
  | cons q qs ih =>
    obtain ⟨hFit, hApart, hRest⟩ := rulesFit_cons.mp h
    have hLen : (applyRule a q).1.length = a.1.length := length_putLe hFit
    rw [List.foldl_cons]
    rcases List.mem_cons.mp hr with rfl | hr
    · rw [foldl_applyRule_of_apart qs _ (hLen ▸ hRest) (fun p hp => (hApart p hp).symm)]
      exact leAt_putLe_self hFit
    · have hSame : leAt (applyRule a q).1 r.off r.size = leAt a.1 r.off r.size :=
        leAt_putLe_of_outside hFit (hApart r hr).symm
      rw [ih _ (hLen ▸ hRest) hr, hSame]

/-- The rules leave a payload as long as it was. -/
theorem length_applyRules (h : rulesFit b.length rules = true) : (applyRules rules b).1.length = b.length :=
  foldl_applyRule_length rules (b, []) h

/-- Once the rules are applied a field holds its value brought into range. -/
theorem leAt_applyRules (h : rulesFit b.length rules = true) (hr : r ∈ rules) :
    leAt (applyRules rules b).1 r.off r.size = (clampKind r.kind (leAt b r.off r.size)).1 % 256 ^ r.size :=
  foldl_applyRule_field rules (b, []) h hr

/-- A field with limits, whose upper limit its bytes hold. -/
theorem leAt_applyRules_near {off size lo hi : Nat} (h : rulesFit b.length rules = true) (hr : ⟨off, size, .near lo hi⟩ ∈ rules)
    (hHolds : hi < 256 ^ size) (hOrder : lo ≤ hi) : leAt (applyRules rules b).1 off size = clampNat lo hi (leAt b off size) := by
  have hField := leAt_applyRules h hr
  have hClamp : (clampKind (.near lo hi) (leAt b off size)).1 = clampNat lo hi (leAt b off size) := by
    simp only [clampKind, clampNat]
    (repeat' split) <;> rfl
  have hRange : clampNat lo hi (leAt b off size) < 256 ^ size := by
    simp only [clampNat]
    (repeat' split) <;> omega
  rw [hField, hClamp, Nat.mod_eq_of_lt hRange]

/-- A field of codes. -/
theorem leAt_applyRules_enum {off size top dflt : Nat} (h : rulesFit b.length rules = true) (hr : ⟨off, size, .enum top dflt⟩ ∈ rules)
    (hHolds : dflt < 256 ^ size) :
    leAt (applyRules rules b).1 off size = if top < leAt b off size then dflt else leAt b off size := by
  have hField := leAt_applyRules h hr
  have hValue := leAt_lt b off size
  rw [hField]
  simp only [clampKind]
  split
  · exact Nat.mod_eq_of_lt hHolds
  · exact Nat.mod_eq_of_lt hValue

end

end Sys2Proof.Machine
end

section
/-! What a command that Foreman has executed leaves: its answer, Foreman's own fields, the fields it reads. -/

namespace Sys2Proof.Machine

section
variable {α : Type} {g : Foreman → α} {r : Req} {p bulk : List Byte} {es : List ClampEntry}

/-- What an answered command leaves of Foreman. -/
theorem served_answer_keeps (hg : ∀ f u o l, g { f with urgent := u, order := o, lastOp := l } = g f) (s : State) :
    g (served (answer s r p es bulk)).foreman = g s.foreman := by
  rw [served_keeps hg]
  simp

theorem answersSo_mono {u : State} {status : Nat} {w w' : Msg → Prop} (h : answersSo u r status w) (hw : ∀ m, w m → w' m) :
    answersSo u r status w' := by
  obtain ⟨m, hm, hOp, hTag, hStatus, hMsg⟩ := h
  exact ⟨m, hm, hOp, hTag, hStatus, hw m hMsg⟩

/-- An answer without clamp entries carries the command's own data. -/
theorem answersSo_served_plain (s : State) : answersSo (served (answer s r p [] bulk)) r 0 (fun m => m.payload = p) :=
  answersSo_mono (answersSo_served_answer s r p [] bulk) fun m hm => by simpa [entryBytes] using hm

/-- An answer's payload begins with the command's own data. -/
theorem answersSo_served_head (s : State) : answersSo (served (answer s r p es bulk)) r (if es.isEmpty then 0 else 1)
    (fun m => m.payload.take p.length = p) :=
  answersSo_mono (answersSo_served_answer s r p es bulk) fun m hm => by simp [hm]

theorem answersWith_served_reply (s : State) (r : Req) (status reason clampN : Nat) (p bulk : List Byte) :
    answersWith (served (reply s r status reason clampN p bulk)) r status reason :=
  answersWith_of_keepsReplies (keepsReplies_served _) (answersWith_reply ..)

end

section
variable (s : State)

@[simp] theorem served_frame : (served s).now = s.now ∧ (served s).sys = s.sys ∧ (served s).ka = s.ka ∧ (served s).flash = s.flash
    ∧ (served s).journal = s.journal ∧ (served s).log = s.log ∧ (served s).pairs = s.pairs ∧ (served s).eopen = s.eopen
    ∧ (served s).ledger = s.ledger ∧ (served s).sched = s.sched ∧ (served s).tiles = s.tiles ∧ (served s).dram = s.dram
    ∧ (served s).assayer = s.assayer ∧ (served s).fabric = s.fabric ∧ (served s).rumbes = s.rumbes := by
  simp [served]

@[simp] theorem begun_frame (t op : Nat) : (begun s t op).free = s.free ∧ (begun s t op).out = [] ∧ (begun s t op).ka = s.ka
    ∧ (begun s t op).flash = s.flash ∧ (begun s t op).journal = s.journal ∧ (begun s t op).host = s.host
    ∧ (begun s t op).ports = s.ports ∧ (begun s t op).pcie = s.pcie ∧ (begun s t op).log = s.log
    ∧ (begun s t op).pairs = s.pairs ∧ (begun s t op).eopen = s.eopen ∧ (begun s t op).ledger = s.ledger
    ∧ (begun s t op).sched = s.sched ∧ (begun s t op).tiles = s.tiles ∧ (begun s t op).dram = s.dram
    ∧ (begun s t op).assayer = s.assayer ∧ (begun s t op).fabric = s.fabric := by
  simp [begun]

theorem begun_log (t op : Nat) : (begun s t op).log = s.log := by simp
theorem storeSetting_foreman (ofs : Nat) (b : List Byte) : (storeSetting s ofs b).foreman = s.foreman := by simp

/-- Storing a setting looks at KA alone. -/
theorem storeSetting_ka_congr {u v : State} (h : u.ka = v.ka) (ofs : Nat) (b : List Byte) :
    (storeSetting u ofs b).ka = (storeSetting v ofs b).ka := by
  have hPut {u v : State} (h : u.ka = v.ka) (ofs : Nat) (b : List Byte) : (kaPut u ofs b).ka = (kaPut v ofs b).ka := by
    rw [kaPut, kaPut, h]
  have hBytes {u v : State} (h : u.ka = v.ka) (ofs n : Nat) : kaBytes u ofs n = kaBytes v ofs n := by rw [kaBytes, kaBytes, h]
  unfold storeSetting
  rw [hBytes h]
  split
  · exact h
  · have hFile := hPut h ofs b
    show (kaConfig u ofs b).ka = (kaConfig v ofs b).ka
    unfold kaConfig
    dsimp only
    rw [hBytes hFile]
    exact hPut hFile _ _

end

end Sys2Proof.Machine
end

section
/-! The system and diagnostics commands (16 Tables 16-3, 16-11, R379, R394; 15 R356, R357, R372; 20 R459; 21 R480, R481). -/

namespace Sys2Proof.Machine

section
variable {s : State} {t op : Nat} {r : Req}

theorem quotas_begun (n : Nat) : quotas (begun s t op) n = quotas s n := by
  rw [quotas, begun_keeps (g := Foreman.tenants) (fun _ _ _ _ => rfl), quotas]

/-! ### TENANT_STATUS -/

/-- TENANT_STATUS answers 40 bytes: the tenant, whether it is enabled, what it uses, and from byte 20 on its quotas. -/
theorem tenantStatusDo_eq (hTenant : byteAt r.payload 0 ≤ 15) : ∃ p, tenantStatusDo r s = answer s r p
    ∧ p.take 2 = leBytes 1 (byteAt r.payload 0) ++ leBytes 1 (b2n (byteAt r.payload 0 == 0 || (quotas s (byteAt r.payload 0)).en))
    ∧ p.drop 20 = tenBytes (byteAt r.payload 0) (if byteAt r.payload 0 = 0 then { en := true } else quotas s (byteAt r.payload 0)) := by
  have hEn : (if byteAt r.payload 0 = 0 then { en := true } else quotas s (byteAt r.payload 0)).en
      = (byteAt r.payload 0 == 0 || (quotas s (byteAt r.payload 0)).en) := by
    by_cases h : byteAt r.payload 0 = 0 <;> simp [h]
  simp only [tenantStatusDo, if_neg (Nat.not_lt.mpr hTenant)]
  refine ⟨_, rfl, ?_, ?_⟩
  · simp [leBytes, hEn]
  · simp [leBytes, zeros, List.replicate]

/-! ### SET_CATCHUP (02 R47) -/

theorem leBytes_one_leAt (b : List Byte) (h : b.length = 1) : leBytes 1 (leAt b 0 1) = b := by
  obtain ⟨x, rfl⟩ := List.length_eq_one_iff.mp h
  simp [leAt, byteAt, leBytes]

theorem catchup_entries (b : List Byte) :
    (applyRules [⟨0, 1, .near 10 50⟩] b).2 = [] ↔ 10 ≤ byteAt b 0 ∧ byteAt b 0 ≤ 50 := by
  simp only [applyRules, List.foldl_cons, List.foldl_nil, clampKind, leAt_one]
  (repeat' split) <;> simp_all

/-- SET_CATCHUP stores the limit brought into range and answers it. -/
theorem setCatchupDo_eq (hLen : r.payload.length = 1) : ∃ u es, setCatchupDo r s = answer u r
      (leBytes 1 (clampNat 10 50 (byteAt r.payload 0))) es
    ∧ u.foreman.catchup = clampNat 10 50 (byteAt r.payload 0)
    ∧ (es = [] ↔ 10 ≤ byteAt r.payload 0 ∧ byteAt r.payload 0 ≤ 50) := by
  have hFit : rulesFit r.payload.length [⟨0, 1, .near 10 50⟩] = true := by rw [hLen]; decide
  have hField := leAt_applyRules_near hFit (List.mem_singleton.mpr rfl) (by decide) (by decide)
  rw [leAt_one r.payload] at hField
  have hBytes := leBytes_one_leAt _ ((length_applyRules hFit).trans hLen)
  rw [hField] at hBytes
  rw [hBytes]
  refine ⟨_, _, rfl, ?_, catchup_entries r.payload⟩
  rw [storeSetting_foreman]
  exact hField

/-! ### SET_TENANT (15 R356, R357) -/

/-- The settings that SET_TENANT's payload asks for, brought into range. -/
theorem tenOfBytes_applyRules {b : List Byte} (hLen : b.length = 20) : tenOfBytes (applyRules tenantRules b).1 =
    { en := byteAt b 1 == 1, qStreams := min 16384 (leAt b 2 2), qPal := min 262144 (leAt b 4 4), qShare := min 90 (byteAt b 8)
      qDram := min 16384 (leAt b 12 4), qQueue := min 131072 (leAt b 16 4) } := by
  have hFit : rulesFit b.length tenantRules = true := by rw [hLen]; decide
  have hNear {off size hi : Nat} (hr : ⟨off, size, .near 0 hi⟩ ∈ tenantRules) (hHolds : hi < 256 ^ size) :
      leAt (applyRules tenantRules b).1 off size = min hi (leAt b off size) := by
    rw [leAt_applyRules_near hFit hr hHolds (Nat.zero_le _), clampNat]
    (repeat' split) <;> omega
  have hEn : (leAt (applyRules tenantRules b).1 1 1 == 1) = (byteAt b 1 == 1) := by
    rw [leAt_applyRules_enum (top := 1) (dflt := 0) hFit (by simp [tenantRules]) (by decide), leAt_one]
    split
    · rw [Bool.eq_iff_iff]; simp; omega
    · rfl
  simp only [tenOfBytes, hEn, TenSet.mk.injEq, true_and]
  refine ⟨hNear (by simp [tenantRules]) (by decide), hNear (by simp [tenantRules]) (by decide), ?_,
    hNear (by simp [tenantRules]) (by decide), hNear (by simp [tenantRules]) (by decide)⟩
  rw [hNear (hi := 90) (by simp [tenantRules]) (by decide), leAt_one]

theorem setTenantDo_eq {n : Nat} (hn : byteAt r.payload 0 = n) (hLow : 1 ≤ n) (hHigh : n ≤ 15) :
    ∃ u p es, setTenantDo r s = answer u r p es
      ∧ tblGet {} u.foreman.tenants n = tenOfBytes (applyRules tenantRules r.payload).1 := by
  have hThere : ¬ (decide (n = 0) || decide (15 < n)) = true := by simp; omega
  simp only [setTenantDo, hn, if_neg hThere]
  refine ⟨_, _, _, rfl, ?_⟩
  split <;> simp

theorem setTenantDo_of_none (h : byteAt r.payload 0 = 0 ∨ 15 < byteAt r.payload 0) : setTenantDo r s = noObject s r := by
  have hNone : (decide (byteAt r.payload 0 = 0) || decide (15 < byteAt r.payload 0)) = true := by simpa using h
  simp only [setTenantDo, if_pos hNone]

theorem setRtcDo_of_now {n : Nat} (h : s.now = n) : setRtcDo r s = answer { s with ka := { s.ka with
    rtcBase := leAt r.payload 0 8, rtcAt := n, rtcValid := true } } r [] := by
  subst h
  rfl

/-! ### RESET (16 R379) -/

theorem resetDo_of_bad (h : byteAt r.payload 2 ≠ 0xA5 ∨ byteAt r.payload 0 = 0 ∨ 4 < byteAt r.payload 0) :
    resetDo r s = refuse s r [0x0B] := by
  have hBad : (byteAt r.payload 2 != 0xA5 || decide (byteAt r.payload 0 = 0) || decide (4 < byteAt r.payload 0)) = true := by
    simpa [or_assoc] using h
  simp only [resetDo, if_pos hBad]

/-- What RESET does where it names a part that is there. -/
theorem resetDo_of_good (hKey : byteAt r.payload 2 = 0xA5) (hLow : 1 ≤ byteAt r.payload 0) (hHigh : byteAt r.payload 0 ≤ 4)
    (hBench : byteAt r.payload 0 = 4 → byteAt r.payload 1 < 4 ∧ natBit s.sys.fuses.benches (byteAt r.payload 1) = true) :
    resetDo r s = if byteAt r.payload 0 ≤ 2 then
        answer { s with foreman := { s.foreman with resetReq := some (byteAt r.payload 0, byteAt r.payload 1) } } r []
      else answer (resetCompute s (byteAt r.payload 0) (byteAt r.payload 1)) r [] := by
  have hGood : ¬ (byteAt r.payload 2 != 0xA5 || decide (byteAt r.payload 0 = 0) || decide (4 < byteAt r.payload 0)) = true := by
    simp [hKey]; omega
  have hThere : ¬ (decide (byteAt r.payload 0 = 4)
      && !(decide (byteAt r.payload 1 < 4) && natBit s.sys.fuses.benches (byteAt r.payload 1))) = true := by
    simpa using hBench
  simp only [resetDo, if_neg hGood, if_neg hThere]

theorem resetBeginDo_of_due {scope a : Nat} (hAt : s.foreman.resetAt = some (scope, a)) (hDue : a + 4320 ≤ s.now) :
    resetBeginDo s = if scope = 1 then shellReset s
      else ctrlReset (logFault s 0x0404 1 false 0 0 0 (leBytes 1 scope ++ leBytes 1 0)) := by
  simp only [resetBeginDo, hAt, if_neg (Nat.not_lt.mpr hDue)]

/-! ### FAULT_LOG_CLEAR (21 R480) -/

/-- The entry that an occurrence makes. -/
def faultEntry (s : State) (code cls : Nat) (st : Bool) (tenant kind index : Nat) (detail : List Byte) : FaultEntry :=
  { seq := s.log.nextSeq, time := tb s, rtcS := if s.ka.rtcValid then rtc s / 32768 % 4294967296 else 0xFFFFFFFF, code := code
    cls := cls, standing := st, tenant := tenant, kind := kind, index := index, count := 1, detail := detail, at_ := s.now }

theorem newFault_entries (s : State) (code cls : Nat) (st : Bool) (tenant kind index : Nat) (detail : List Byte) :
    (newFault s code cls st tenant kind index detail).log.entries
      = pushBounded 1024 s.log.entries (faultEntry s code cls st tenant kind index detail) := by
  simp [newFault, faultEntry]

theorem mem_pushBounded {α : Type} {cap : Nat} {l : List α} {x y : α} (h : y ∈ pushBounded cap l x) : y ∈ l ∨ y = x := by
  have hMem := List.mem_of_mem_drop h
  simpa using hMem

/-- Writing standing conditions into a log of standing entries leaves one. -/
theorem foldl_newFault_standing (l : List Standing) (s : State) (h : ∀ e ∈ s.log.entries, e.standing = true) :
    ∀ e ∈ (l.foldl (fun s x => newFault s x.code x.cls true 0xFF x.kind x.index x.detail) s).log.entries, e.standing = true := by
  induction l generalizing s with
  | nil => exact h
  | cons x l ih =>
    refine ih _ fun e he => ?_
    rw [newFault_entries] at he
    rcases mem_pushBounded he with he | rfl
    · exact h e he
    · rfl

/-- The log emptied, FAULT_N released. -/
def logEmptied (s : State) : State := { s.draw.2 with log := { s.log with entries := [], faultN := false, crit := false } }

theorem logClearDo_eq (r : Req) (s : State) : logClearDo r s = answer ((standing (logEmptied s) (s.draw.1 % 256)).foldl
    (fun s x => newFault s x.code x.cls true 0xFF x.kind x.index x.detail) (logEmptied s)) r [] := rfl

theorem standing_logEmptied_begun (th : Nat) : standing (logEmptied (begun s t op)) th = standing s th := by
  obtain ⟨f, hBegun, -, -⟩ := begun_eq s t op
  rw [hBegun]
  rfl

/-! ### GESSO_STATUS and the debug port (16 R394) -/

theorem gessoStatusDo_eq (r : Req) (s : State) : ∃ v p, gessoStatusDo r s = answer v r p ∧ p.take 17 = leBytes 8 (readyNow s)
    ++ leBytes 2 (regionsIn s (· == .released)) ++ leBytes 2 (regionsIn s (· == .mappedOut))
    ++ leBytes 2 (regionsIn s (fun x => x == .pending || x == .testing)) ++ leBytes 2 s.sys.patches.length
    ++ leBytes 1 (tilesLive s) := by
  refine ⟨_, _, rfl, ?_⟩
  rw [List.append_assoc _ (leBytes 1 (levelRunning _ _)) (zeros 14)]
  exact List.take_left' (by simp)

theorem readyNow_begun : readyNow (begun s t op) = readyNow s := by
  simp only [readyNow, readyBit_begun]

theorem dbgChallengeDo_eq (r : Req) (s : State) : ∃ v c, dbgChallengeDo r s = answer v r c ∧ v.foreman.challenge = some c
    ∧ c.length = 32 ∧ c.drop 16 = leBytes 8 s.sys.fuses.serial ++ zeros 8 := by
  refine ⟨_, _, rfl, rfl, by simp [zeros], ?_⟩
  rw [List.append_assoc]
  exact List.drop_left' (length_leBytes ..)

/-- DBG_UNLOCK as its challenge and signature decide. -/
theorem dbgUnlockDo_eq (hLen : r.payload.length = 64) :
    let ok := s.foreman.challenge.any (fun c => sigGood romKey c r.payload)
    let v := { s with foreman := { s.foreman with challenge := none, dbgOpen := s.foreman.dbgOpen || ok } }
    dbgUnlockDo r s = if ok then answer v r [] else reply v r 3 1 0 [] [] := by
  have hWhole : sliceAt r.payload 0 64 = r.payload := by simp [sliceAt, ← hLen]
  simp only [dbgUnlockDo, hWhole]

end

/-! ### SET_MEMTEST (19 Edges of 19.4) -/

theorem length_depend {off size v reason : Nat} {a : List Byte × List ClampEntry} (h : off + size ≤ a.1.length) :
    (depend off size v reason a).1.length = a.1.length := by
  unfold depend
  split
  · rfl
  · exact length_putLe h

theorem length_clampLevels {b : List Byte} (hLen : b.length = 2) : (clampLevels b).1.length = b.length := by
  have hRules : (applyRules [⟨0, 1, .enum 2 1⟩, ⟨1, 1, .enum 2 1⟩] b).1.length = b.length :=
    length_applyRules (by rw [hLen]; decide)
  rw [clampLevels, length_depend (by rw [hRules, hLen]; decide), hRules]

/-! ### The obligation -/

/-- Settles O30: the request is executed, and what each command's body does is its lemma above. The model's readings: a region in
test counts as pending (assumption log 121), a failed unlock has REASON 1 (122), RESET_CMD is logged when the reset begins (143). -/
theorem systemCommandsExecute : Obligations.SystemCommandsExecute := by
  refine ⟨fun s t r => ⟨fun h hPlain => ?ident, fun h hPlain hMay hTenant => ?tenantStatus, fun h hPlain h0 => ?setCatchup,
    fun h hPlain h0 => ?setRtc, fun h hPlain => ?getRtc, fun h hPlain h0 => ?setTenant, fun h hPlain h0 => ?reset,
    fun a hAt hDue => ?beginShell, fun a hAt hDue => ?beginCtrl, fun h hLen hBulk h0 => ?bootClamp⟩,
    fun s t r => ⟨fun h hLen hBulk => ?faultRead, fun h hPlain h0 => ?logClear, fun h hPlain h0 => ?gessoStatus,
    fun h hPlain h0 => ?setMemtest, fun h hPlain h0 => ?challenge, fun h hPlain h0 => ?unlock⟩⟩
  case ident => rw [exec_of_granted (exec_ident t s) h hPlain rfl rfl, identDo]
  case tenantStatus =>
    have hRights : ownTenant (begun s t 0x0102) r = true := by simpa [ownTenant] using hMay
    obtain ⟨p, hDo, hTake, hDrop⟩ := tenantStatusDo_eq (s := begun s t 0x0102) hTenant
    rw [quotas_begun] at hTake hDrop
    refine ⟨_, exec_of_granted (exec_tenantStatus t s) h hPlain hRights rfl, ?_⟩
    rw [hDo]
    exact answersSo_mono (answersSo_served_plain _) fun m hm => ⟨hm ▸ hTake, hm ▸ hDrop⟩
  case setCatchup =>
    obtain ⟨u, es, hDo, hCatchup, hEntries⟩ := setCatchupDo_eq (s := begun s t 0x0110) (length_of_plain h hPlain)
    refine ⟨_, exec_of_granted (exec_setCatchup t s) h hPlain (beq_iff_eq.mpr h0) rfl, ?_, ?_⟩
    · rw [hDo, served_answer_keeps (g := Foreman.catchup) (fun _ _ _ _ => rfl), hCatchup]
    · have hStatus : (if es.isEmpty then 0 else 1) = if 10 ≤ byteAt r.payload 0 ∧ byteAt r.payload 0 ≤ 50 then 0 else 1 := by
        simp only [List.isEmpty_iff, hEntries]
      rw [hDo, ← hStatus]
      exact answersSo_served_head u
  case setRtc =>
    rw [exec_of_granted (exec_setRtc t s) h hPlain (beq_iff_eq.mpr h0) rfl, setRtcDo_of_now (begun_now s t _)]
  case getRtc => rw [exec_of_granted (exec_getRtc t s) h hPlain rfl rfl, getRtcDo]; simp
  case setTenant =>
    have hRow := exec_of_granted (exec_setTenant t s) h hPlain (beq_iff_eq.mpr h0) rfl
    refine ⟨fun hLow hHigh => ?_, fun hNone => ?_⟩
    · obtain ⟨u, p, es, hDo, hTen⟩ := setTenantDo_eq (s := begun s t 0x0120) rfl hLow hHigh
      refine ⟨_, hRow, ?_⟩
      rw [hDo, served_answer_keeps (g := Foreman.tenants) (fun _ _ _ _ => rfl), hTen,
        tenOfBytes_applyRules (length_of_plain h hPlain)]
    · rw [hRow, setTenantDo_of_none hNone]
  case reset =>
    have hRow := exec_of_granted (exec_reset t s) h hPlain (beq_iff_eq.mpr h0) rfl
    refine ⟨fun hBad => ?_, fun hKey hScope => ?_, fun hKey hScope => ?_, fun hKey hScope hBench hThere => ?_⟩
    · rw [hRow, resetDo_of_bad hBad]
    · rw [hRow, resetDo_of_good hKey (by omega) (by omega) (by omega), if_pos (by omega)]
    · rw [hRow, resetDo_of_good hKey (by omega) (by omega) (by omega), if_neg (by omega), hScope, resetCompute, if_pos rfl]
    · rw [hRow, resetDo_of_good hKey (by omega) (by omega) (fun _ => ⟨hBench, by simpa using hThere⟩), if_neg (by omega), hScope,
        resetCompute, if_neg (by omega)]
  case beginShell => rw [exec_resetBegin, execResetBegin, resetBeginDo_of_due (s := s.at t) hAt hDue, if_pos rfl]
  case beginCtrl => rw [exec_resetBegin, execResetBegin, resetBeginDo_of_due (s := s.at t) hAt hDue, if_neg (by omega)]
  case bootClamp =>
    rw [exec_of_granted (exec_bootClampRead t s) h (by simp [hLen, hBulk]) (beq_iff_eq.mpr h0) rfl, bootClampDo]
  case faultRead =>
    have hOwn : ownEntries (begun s t 0x0B01) r.tenant = ownEntries s r.tenant := by simp [ownEntries]
    rw [exec_of_granted (exec_faultRead t s) h (by simp [hLen, hBulk]) rfl rfl, faultReadDo]
    simp only [hOwn, begun_log]
  case logClear =>
    have hRow := exec_of_granted (exec_faultLogClear t s) h hPlain (beq_iff_eq.mpr h0) rfl
    rw [logClearDo_eq] at hRow
    refine ⟨_, hRow, answersWith_served_answer .., ?_, fun hNone => ?_⟩
    · simpa using foldl_newFault_standing _ (logEmptied (begun s t 0x0B02)) (fun e he => absurd he List.not_mem_nil)
    · rw [standing_logEmptied_begun, hNone]
      simp [logEmptied]
  case gessoStatus =>
    obtain ⟨v, p, hDo, hTake⟩ := gessoStatusDo_eq r (begun s t 0x0B03)
    refine ⟨_, exec_of_granted (exec_gessoStatus t s) h hPlain (beq_iff_eq.mpr h0) rfl, ?_⟩
    rw [hDo]
    refine answersSo_mono (answersSo_served_plain v) fun m hm => ?_
    rw [hm, hTake, readyNow_begun]
    obtain ⟨f, hBegun, -, -⟩ := begun_eq s t 0x0B03
    rw [hBegun]
    rfl
  case setMemtest =>
    refine ⟨_, exec_of_granted (exec_setMemtest t s) h hPlain (beq_iff_eq.mpr h0) rfl, ?_, ?_⟩
    · have hKa := storeSetting_ka_congr (u := begun s t 0x0B04) (v := s) (by simp) 0x70 (clampLevels r.payload).1
      simp [setMemtestDo, hKa]
    · have hStatus : (if (clampLevels r.payload).2.isEmpty then 0 else 1) = if (clampLevels r.payload).2 = [] then 0 else 1 := by
        simp only [List.isEmpty_iff]
      rw [← hStatus, ← length_clampLevels (length_of_plain h hPlain)]
      exact answersSo_served_head _
  case challenge =>
    obtain ⟨v, c, hDo, hChallenge, hLong, hSerial⟩ := dbgChallengeDo_eq r (begun s t 0x0B10)
    refine ⟨_, c, exec_of_granted (exec_dbgChallenge t s) h hPlain (beq_iff_eq.mpr h0) rfl, ?_, hLong, by simpa using hSerial, ?_⟩
    · rw [hDo, served_answer_keeps (g := Foreman.challenge) (fun _ _ _ _ => rfl), hChallenge]
    · rw [hDo]
      exact answersSo_served_plain v
  case unlock =>
    have hRow := exec_of_granted (exec_dbgUnlock t s) h hPlain (beq_iff_eq.mpr h0) rfl
    have hChallenge : (begun s t 0x0B11).foreman.challenge = s.foreman.challenge :=
      begun_keeps (g := Foreman.challenge) (fun _ _ _ _ => rfl) s t _
    have hOpen : (begun s t 0x0B11).foreman.dbgOpen = s.foreman.dbgOpen :=
      begun_keeps (g := Foreman.dbgOpen) (fun _ _ _ _ => rfl) s t _
    have hDo := dbgUnlockDo_eq (s := begun s t 0x0B11) (length_of_plain h hPlain)
    rw [hChallenge, hOpen] at hDo
    refine ⟨_, hRow, ?_, fun c hc => ?_, fun hNone => ?_⟩
    · rw [hDo]
      split
      · rw [served_answer_keeps (g := Foreman.challenge) (fun _ _ _ _ => rfl)]
      · rw [served_keeps (g := Foreman.challenge) (fun _ _ _ _ => rfl)]; simp
    · rw [hc, Option.any_some] at hDo
      rw [hDo]
      split
      next hGood =>
        rw [served_answer_keeps (g := Foreman.dbgOpen) (fun _ _ _ _ => rfl)]
        exact ⟨rfl, by simpa only [hGood, if_true] using answersWith_served_answer ..⟩
      next hBad =>
        rw [served_keeps (g := Foreman.dbgOpen) (fun _ _ _ _ => rfl)]
        exact ⟨by simp, by simpa only [hBad, if_false] using answersWith_served_reply ..⟩
    · rw [hNone, Option.any_none] at hDo
      rw [hDo, if_neg (by simp), served_keeps (g := Foreman.dbgOpen) (fun _ _ _ _ => rfl)]
      exact ⟨by simp, answersWith_served_reply ..⟩

end Sys2Proof.Machine
end

section
/-! The commands of the chain group: SET_PAIR, PAIR_STATUS and the commands to a target (16 R376, R377, R380; 06 R138, Table 6-7). -/

namespace Sys2Proof.Machine

/-! ### A field limited by another one (15 R369) -/

section
variable {off size v reason i n : Nat} {a : List Byte × List ClampEntry}

theorem leAt_depend_self (h : off + size ≤ a.1.length) (hv : v < 256 ^ size) : leAt (depend off size v reason a).1 off size = v := by
  unfold depend
  split
  next hSame => exact hSame
  next => rw [leAt_putLe_self h, Nat.mod_eq_of_lt hv]

theorem leAt_depend_of_apart (h : off + size ≤ a.1.length) (hApart : i + n ≤ off ∨ off + size ≤ i) :
    leAt (depend off size v reason a).1 i n = leAt a.1 i n := by
  unfold depend
  split
  · rfl
  · exact leAt_putLe_of_outside h hApart

end

/-! ### A request that comes while its function is not ready (15 R368) -/

section
variable {s : State} {t op : Nat} {r : Req}

theorem exec_of_notReady {i : Instr} {len : Req → Bool} {rights ready : State → Req → Bool} {body : Req → State → State}
    (hExec : exec i s = .next (foremanRow t op len rights ready body s)) (h : granted s t op r) (hLen : len r = true)
    (hRights : rights (begun s t op) r = true) (hDown : ready (begun s t op) r = false) :
    exec i s = .next (served (failWith (begun s t op) r 5)) := by
  obtain ⟨hNext, hOp, hCtrl, hShort, -, hTenant, hUrgent, -⟩ := h
  have hFits : ¬ (len r = false ∨ 240 < r.len) := by simp [hLen, hShort]
  have hMay : ¬ barred op rights r (begun s t op) := by
    simp only [barred, hRights, tenantOn_begun, not_or, not_and_or]
    refine ⟨by simp, ?_, ?_⟩
    · exact hTenant.imp (fun h => by simp [h]) (fun h => by simp [h])
    · exact hUrgent.imp (fun h => by simp [h]) (fun h => by simp [h])
  rw [hExec, foremanRow_of_head hNext hOp hCtrl, checked_of_down hFits hMay hDown]

theorem pair_begun (p : Nat) : (begun s t op).pair p = s.pair p := by rw [State.pair, State.pair]; simp
theorem pairFused_begun (p : Nat) : pairFused (begun s t op) p = pairFused s p := by
  obtain ⟨f, hBegun, -, -⟩ := begun_eq s t op
  rw [hBegun]
  rfl
theorem pairNamed_begun : pairNamed (begun s t op) r = pairNamed s r := by simp only [pairNamed, pairFused_begun, pair_begun]
theorem pairOpen_begun (p : Nat) : pairOpen (begun s t op) p = pairOpen s p := by simp only [pairOpen, pairFused_begun, pair_begun]
theorem tgtReady_begun : tgtReady (begun s t op) r = tgtReady s r := pairOpen_begun _
theorem target_begun (b : List Byte) (bcast : Bool) : target (begun s t op) b bcast = target s b bcast := by
  obtain ⟨f, hBegun, -, -⟩ := begun_eq s t op
  rw [hBegun]
  rfl
theorem ticketsOf_begun (n : Nat) : ticketsOf (begun s t op) n = ticketsOf s n := by
  rw [ticketsOf, begun_keeps (g := Foreman.tickets) (fun _ _ _ _ => rfl), ticketsOf]

/-! ### Commands to a target -/

theorem toTarget_of_some {bc : Bool} {type : Nat} {pl : List Byte} {p h : Nat} {ds : List (Side × Bool × Nat)}
    (hTarget : target s r.payload bc = some (p, ds, h)) : toTarget r bc type pl s = beginChain s r p ds type pl := by
  simp only [toTarget, hTarget]

theorem toTarget_of_none {bc : Bool} {type : Nat} {pl : List Byte} (hTarget : target s r.payload bc = none) :
    toTarget r bc type pl s = noObject s r := by
  simp only [toTarget, hTarget]

/-- A granted command to a target waits at the ports it leaves from, or finds no member. -/
theorem goes_of_row {i : Instr} {len : Req → Bool} {body : Req → State → State} {bc : Bool} {type : Nat} {pl : List Byte}
    (hExec : exec i s = .next (foremanRow t op len only0 tgtReady body s)) (hBody : ∀ v, body r v = toTarget r bc type pl v)
    (hLen : len r = true) (h0 : r.tenant = 0) (hReady : tgtReady s r = true) (h : granted s t op r) :
    (∀ p ds k, target s r.payload bc = some (p, ds, k) → exec i s = .next (served (beginChain (begun s t op) r p ds type pl)))
      ∧ (target s r.payload bc = none → exec i s = .next (served (noObject (begun s t op) r))) := by
  have hRow := exec_of_granted hExec h hLen (beq_iff_eq.mpr h0) (tgtReady_begun.trans hReady)
  rw [hBody] at hRow
  refine ⟨fun p ds k hTarget => ?_, fun hTarget => ?_⟩
  · rw [hRow, toTarget_of_some ((target_begun _ _).trans hTarget)]
  · rw [hRow, toTarget_of_none ((target_begun _ _).trans hTarget)]

theorem mbControlDo_of_allowed {c : Nat} (hCode : byteAt r.payload 3 = c) (h2 : c ≠ 2) (h6 : c ≠ 6) :
    mbControlDo r s = toTarget r (bcastCode c) 0xC (r.payload.drop 3) s := by
  simp [mbControlDo, hCode, h2, h6]

theorem mbControlDo_of_own {c : Nat} (hCode : byteAt r.payload 3 = c) (hOwn : c = 2 ∨ c = 6) :
    mbControlDo r s = refuse s r [0x0B] := by
  rcases hOwn with rfl | rfl <;> simp [mbControlDo, hCode]

end

/-! ### What SET_PAIR asks for (06 Table 6-7) -/

section
variable {b : List Byte}

/-- The mode that a SET_PAIR payload asks for. -/
def pairCode (b : List Byte) : Nat := if 2 < byteAt b 1 then 0 else byteAt b 1
/-- The members that it asks for. -/
def pairCount (b : List Byte) : Nat :=
  if pairCode b = 2 then min 2 (clampNat 1 32 (byteAt b 3)) else clampNat 1 32 (byteAt b 3)

/-- The fields of the payload brought into range. -/
theorem clampPair_fields (hLen : b.length = 6) :
    leAt (clampPair b).1 1 1 = pairCode b ∧ (leAt (clampPair b).1 2 1 == 1) = (byteAt b 2 == 1)
      ∧ leAt (clampPair b).1 3 1 = pairCount b ∧ leAt (clampPair b).1 4 2 = clampNat 1 256 (leAt b 4 2) := by
  have hFit : rulesFit b.length pairRules = true := by rw [hLen]; decide
  have hWhole : (applyRules pairRules b).1.length = 6 := (length_applyRules hFit).trans hLen
  have hMode : leAt (applyRules pairRules b).1 1 1 = pairCode b := by
    rw [leAt_applyRules_enum (top := 2) (dflt := 0) hFit (by simp [pairRules]) (by decide), leAt_one, pairCode]
  have hPos : (leAt (applyRules pairRules b).1 2 1 == 1) = (byteAt b 2 == 1) := by
    rw [leAt_applyRules_enum (top := 1) (dflt := 0) hFit (by simp [pairRules]) (by decide), leAt_one]
    split
    · rw [Bool.eq_iff_iff]; simp; omega
    · rfl
  have hCount : leAt (applyRules pairRules b).1 3 1 = clampNat 1 32 (byteAt b 3) := by
    rw [leAt_applyRules_near (lo := 1) (hi := 32) hFit (by simp [pairRules]) (by decide) (by decide), leAt_one]
  have hRate : leAt (applyRules pairRules b).1 4 2 = clampNat 1 256 (leAt b 4 2) :=
    leAt_applyRules_near hFit (by simp [pairRules]) (by decide) (by decide)
  simp only [clampPair, hMode, hCount, pairCount]
  split
  · have hFew : min 2 (clampNat 1 32 (byteAt b 3)) < 256 ^ 1 := by omega
    refine ⟨?_, ?_, leAt_depend_self (by omega) hFew, ?_⟩
    · rw [leAt_depend_of_apart (by omega) (by omega), hMode]
    · rw [leAt_depend_of_apart (by omega) (by omega), hPos]
    · rw [leAt_depend_of_apart (by omega) (by omega), hRate]
  · exact ⟨hMode, hPos, hCount, hRate⟩

/-- The pair with the settings that a payload asks for. -/
def Pair.withSettings (q : Pair) (b : List Byte) : Pair :=
  { q with mode := modeOf (pairCode b), addrPos := byteAt b 2 == 1, nExp := pairCount b, sweepHz := clampNat 1 256 (leAt b 4 2) }

end

/-! ### SET_PAIR at the pair (16 R380) -/

section
variable {s : State} {p : Nat} {q : Pair}

theorem getElem?_stopPair (h : s.pairs[p]? = some q) : ∃ x, (breakTaper (stopPair s p) p).pairs[p]? = some x ∧ x.st = q.st
    ∧ x.nextDue = none := by
  simp [breakTaper, stopPair, h]

/-- The SLEEP that leaves a pair's ports, each when it may. -/
def sendSleep (q : Pair) (p : Nat) (s : State) (sd : Side) : State := txControl (notBefore s p sd (quietTill q)) p sd 9 0

theorem sendSleep_map_bare (q : Pair) (p : Nat) (s : State) (sd : Side) :
    (sendSleep q p s sd).pairs.map Pair.bare = s.pairs.map Pair.bare := by
  simp [sendSleep, txControl, notBefore]

/-- The preamble that leaves one port of a pair. -/
def preamble (p : Nat) (s : State) (sd : Side) : State :=
  (updCport s p sd (fun c => { c with busy := max s.now c.busy + 14400 })).emit (.chainPreamble (pNo p) sd)

theorem preamble_map_bare (p : Nat) (s : State) (sd : Side) : (preamble p s sd).pairs.map Pair.bare = s.pairs.map Pair.bare := by
  simp [preamble]

theorem wakePair_eq (s : State) (p : Nat) : wakePair s p =
    let v := ((portsOn s p).foldl (preamble p) s).updPair p
      (fun q => { q with wakeEnd := max ((portsOn s p).foldl (preamble p) s).now (max q.portA.busy q.portB.busy), enumTries := 0 })
    if (v.pair p).mode == .ring then setSt (v.updPair p (fun q => { q with ready := false })) p .waking
    else setSt v p .directWake := rfl

/-- Waking a pair moves it to WAKING or DIRECT_WAKE, by its mode, and keeps its settings. -/
theorem wakePair_wakes (h : s.pairs[p]? = some q) : ∃ x, (wakePair s p).pairs[p]? = some x ∧ x.mode = q.mode ∧ x.nExp = q.nExp
    ∧ x.addrPos = q.addrPos ∧ x.sweepHz = q.sweepHz ∧ x.st = if q.mode = .ring then .waking else .directWake := by
  obtain ⟨a, b, hAwake⟩ := getElem?_of_map_bare
    (foldl_map_bare (preamble_map_bare p) (portsOn s p) s) h
  rw [wakePair_eq]
  extract_lets v
  have hv : v.pairs[p]? = some { q with
      portA := a, portB := b, enumTries := 0
      wakeEnd := max ((portsOn s p).foldl (preamble p) s).now (max a.busy b.busy) } := by
    simp [v, hAwake]
  rw [State.pair_of_getElem? hv]
  by_cases hRing : q.mode = .ring
  · simp [hRing, hv]
  · simp [hRing, hv]

/-- Whether a SET_PAIR payload changes the mode of a pair or its member count. -/
def pairMoved (q : Pair) (b : List Byte) : Prop := modeOf (pairCode b) ≠ q.mode ∨ pairCount b ≠ q.nExp

/-- What a payload's settings leave of a pair. -/
def Pair.settingsAre (x : Pair) (b : List Byte) : Prop := x.mode = modeOf (pairCode b) ∧ x.nExp = pairCount b
  ∧ x.addrPos = (byteAt b 2 == 1) ∧ x.sweepHz = clampNat 1 256 (leAt b 4 2)

/-- The pair takes the settings of a payload. -/
def pairSet (p : Nat) (b : List Byte) (s : State) : State := s.updPair p (fun q => q.withSettings b)

theorem getElem?_pairSet (h : s.pairs[p]? = some q) (b : List Byte) : (pairSet p b s).pairs[p]? = some (q.withSettings b) := by
  simp [pairSet, h]

theorem withSettings_settingsAre (q : Pair) (b : List Byte) : (q.withSettings b).settingsAre b := ⟨rfl, rfl, rfl, rfl⟩

/-- The state of the pair's sweeps ended, before its new settings. -/
def pairEnded (p : Nat) (s : State) : State := breakTaper (stopPair s p) p

/-- A pair that SET_PAIR switches off: SLEEP leaves its ports, what waits for it ends. -/
def pairOff (q : Pair) (p : Nat) (b : List Byte) (on : List Side) (s : State) : State :=
  let d := (on.foldl (sendSleep q p) (pairEnded p s)).draw
  endPairTickets (setSt (pairSet p b d.2) p .off) p (d.1 % 256)

/-- A pair that SET_PAIR wakes; the command waits for PAIR_READY. -/
def pairWoken (p tenant : Nat) (b : List Byte) (s : State) : State :=
  (defer (wakePair (pairSet p b (pairEnded p s)) p) tenant (.pair p)).1

section
variable {r : Req} (hq : s.pairs[p]? = some q) (hp : byteAt r.payload 0 = p) (hLow : p < 4) (hFused : pairFused s p = true)
  (hLen : r.payload.length = 6)
include hq hp hLow hFused hLen

theorem setPairDo_of_same (hSame : ¬ pairMoved q r.payload) :
    ∃ ofs bytes pl es, setPairDo r s = answer (pairSet p r.payload (storeSetting s ofs bytes)) r pl es := by
  obtain ⟨c, es, hClamp⟩ : ∃ c es, clampPair r.payload = (c, es) := ⟨_, _, rfl⟩
  obtain ⟨hMode, hPos, hCount, hRate⟩ := clampPair_fields hLen
  simp only [hClamp] at hMode hPos hCount hRate
  have hThere : ¬ (decide (4 ≤ p) || !pairFused s p) = true := by simp [hFused, hLow]
  have hStays : (modeOf (pairCode r.payload) != q.mode || pairCount r.payload != q.nExp) = false := by
    simpa [pairMoved] using hSame
  simp only [setPairDo, hp, if_neg hThere, hClamp, hMode, hPos, hCount, hRate, State.pair_of_getElem? hq, hStays,
    Bool.false_and, Bool.not_false, Bool.false_eq_true, if_false, if_true]
  exact ⟨_, _, _, _, rfl⟩

theorem setPairDo_of_off (hMoved : pairMoved q r.payload) (hOff : modeOf (pairCode r.payload) = .off) :
    ∃ ofs bytes pl es, setPairDo r s = answer (pairOff q p r.payload (portsOn s p) (storeSetting s ofs bytes)) r pl es := by
  obtain ⟨c, es, hClamp⟩ : ∃ c es, clampPair r.payload = (c, es) := ⟨_, _, rfl⟩
  obtain ⟨hMode, hPos, hCount, hRate⟩ := clampPair_fields hLen
  simp only [hClamp] at hMode hPos hCount hRate
  have hThere : ¬ (decide (4 ≤ p) || !pairFused s p) = true := by simp [hFused, hLow]
  have hMoves : (modeOf (pairCode r.payload) != q.mode || pairCount r.payload != q.nExp) = true := by
    simpa [pairMoved] using hMoved
  have hIsOff : (modeOf (pairCode r.payload) == .off) = true := beq_iff_eq.mpr hOff
  have hNoWait : (modeOf (pairCode r.payload) != .off) = false := by simpa using hOff
  simp only [setPairDo, hp, if_neg hThere, hClamp, hMode, hPos, hCount, hRate, State.pair_of_getElem? hq, hMoves, hIsOff,
    hNoWait, Bool.and_false, Bool.false_and, Bool.not_true, Bool.false_eq_true, if_false, if_true]
  exact ⟨_, _, _, _, rfl⟩

theorem setPairDo_of_woken (hRoom : ticketsOf s r.tenant < 4) (hMoved : pairMoved q r.payload) (hOn : modeOf (pairCode r.payload) ≠ .off) :
    ∃ ofs bytes pl es, setPairDo r s = answer (pairWoken p r.tenant r.payload (storeSetting s ofs bytes)) r pl es := by
  obtain ⟨c, es, hClamp⟩ : ∃ c es, clampPair r.payload = (c, es) := ⟨_, _, rfl⟩
  obtain ⟨hMode, hPos, hCount, hRate⟩ := clampPair_fields hLen
  simp only [hClamp] at hMode hPos hCount hRate
  have hThere : ¬ (decide (4 ≤ p) || !pairFused s p) = true := by simp [hFused, hLow]
  have hMoves : (modeOf (pairCode r.payload) != q.mode || pairCount r.payload != q.nExp) = true := by
    simpa [pairMoved] using hMoved
  have hNotOff : (modeOf (pairCode r.payload) == .off) = false := by simpa using hOn
  have hWaits : (modeOf (pairCode r.payload) != .off) = true := by simpa using hOn
  have hFree : ¬ 4 ≤ ticketsOf s r.tenant := Nat.not_le.mpr hRoom
  simp only [setPairDo, hp, if_neg hThere, hClamp, hMode, hPos, hCount, hRate, State.pair_of_getElem? hq, hMoves, hNotOff,
    hWaits, hFree, decide_false, Bool.and_true, Bool.and_false, Bool.not_true, Bool.false_eq_true, if_false, if_true]
  exact ⟨_, _, _, _, rfl⟩

end

/-! ### The pair that each leaves -/

theorem getElem?_pairOff (h : s.pairs[p]? = some q) (b : List Byte) (on : List Side) :
    ∃ x, (pairOff q p b on s).pairs[p]? = some x ∧ x.settingsAre b ∧ x.st = .off ∧ x.nextDue = none := by
  obtain ⟨y, hEnded, -, hDue⟩ := getElem?_stopPair h
  obtain ⟨c, d, hSent⟩ := getElem?_of_map_bare (foldl_map_bare (sendSleep_map_bare q p) on (pairEnded p s)) hEnded
  have hDrawn : (on.foldl (sendSleep q p) (pairEnded p s)).draw.2.pairs[p]? = some { y with portA := c, portB := d } := by
    simpa using hSent
  have hSet := getElem?_pairSet hDrawn b
  have hOff : (setSt (pairSet p b (on.foldl (sendSleep q p) (pairEnded p s)).draw.2) p .off).pairs[p]?
      = some { ({ y with portA := c, portB := d } : Pair).withSettings b with st := .off } := by
    rw [getElem?_setSt, hSet, Option.map_some]
  refine ⟨{ ({ y with portA := c, portB := d } : Pair).withSettings b with st := .off }, ?_, ⟨rfl, rfl, rfl, rfl⟩, rfl, hDue⟩
  rw [← hOff, pairOff]
  simp

theorem getElem?_pairWoken (h : s.pairs[p]? = some q) (tenant : Nat) (b : List Byte) :
    ∃ x, (pairWoken p tenant b s).pairs[p]? = some x ∧ x.settingsAre b
      ∧ x.st = if modeOf (pairCode b) = .ring then .waking else .directWake := by
  obtain ⟨y, hEnded, -, -⟩ := getElem?_stopPair h
  obtain ⟨x, hx, hMode, hCount, hPos, hRate, hSt⟩ := wakePair_wakes (getElem?_pairSet hEnded b)
  exact ⟨x, hx, ⟨hMode, hCount, hPos, hRate⟩, hSt⟩

theorem pairWoken_waits (p tenant : Nat) (b : List Byte) (s : State) :
    ∃ k ∈ (pairWoken p tenant b s).foreman.tickets, k.what = .pair p := by
  simp [pairWoken, defer]

end

/-! ### The obligation -/

theorem modeOf_pairCode_off {b : List Byte} : modeOf (pairCode b) = .off ↔ pairCode b = 0 := by
  unfold modeOf pairCode
  (repeat' split) <;> simp_all <;> omega

theorem modeOf_pairCode_ring {b : List Byte} : modeOf (pairCode b) = .ring ↔ pairCode b = 1 := by
  unfold modeOf
  repeat' split
  all_goals simp_all

/-- What the pair and Foreman hold once SET_PAIR is executed. -/
theorem setPair_leaves {s : State} {t : Nat} {r : Req} {p : Nat} {q : Pair} (h : granted s t 0x0201 r) (h0 : r.tenant = 0)
    (hPlain : plain r 6) (hNamed : pairNamed s r = true) (hq : s.pairs[p]? = some q) (hp : byteAt r.payload 0 = p) (hLow : p < 4)
    (hFused : pairFused s p = true) (hRoom : ticketsOf s 0 < 4) :
    leaves (.setPair t) s p (fun x u => x.settingsAre r.payload
      ∧ (pairMoved q r.payload → pairCode r.payload = 0 → x.st = .off ∧ x.nextDue = none)
      ∧ (pairMoved q r.payload → pairCode r.payload = 1 → x.st = .waking)
      ∧ (pairMoved q r.payload → pairCode r.payload = 2 → x.st = .directWake)
      ∧ (pairMoved q r.payload → pairCode r.payload ≠ 0 → ∃ k ∈ u.foreman.tickets, k.what = .pair p)
      ∧ (¬ pairMoved q r.payload → x.st = q.st ∧ x.nextDue = q.nextDue)) := by
  have hRow := exec_of_granted (exec_setPair t s) h hPlain (beq_iff_eq.mpr h0) (pairNamed_begun.trans hNamed)
  have hLen := length_of_plain h hPlain
  have hqAt : (begun s t 0x0201).pairs[p]? = some q := by simpa using hq
  have hFusedAt : pairFused (begun s t 0x0201) p = true := (pairFused_begun p).trans hFused
  have hRoomAt : ticketsOf (begun s t 0x0201) r.tenant < 4 := by rw [ticketsOf_begun, h0]; exact hRoom
  have hStored (ofs : Nat) (bytes : List Byte) : (storeSetting (begun s t 0x0201) ofs bytes).pairs[p]? = some q := by simpa using hq
  by_cases hMoved : pairMoved q r.payload
  · by_cases hOff : modeOf (pairCode r.payload) = .off
    · obtain ⟨ofs, bytes, pl, es, hDo⟩ := setPairDo_of_off hqAt hp hLow hFusedAt hLen hMoved hOff
      obtain ⟨x, hx, hSettings, hSt, hDue⟩ := getElem?_pairOff (hStored ofs bytes) r.payload (portsOn (begun s t 0x0201) p)
      have h0' := modeOf_pairCode_off.mp hOff
      refine ⟨_, x, hDo ▸ hRow, by simpa using hx, hSettings, fun _ _ => ⟨hSt, hDue⟩, fun _ h1 => ?_, fun _ h2 => ?_,
        fun _ hOn => absurd h0' hOn, fun hSame => absurd hMoved hSame⟩
      · omega
      · omega
    · obtain ⟨ofs, bytes, pl, es, hDo⟩ := setPairDo_of_woken hqAt hp hLow hFusedAt hLen hRoomAt hMoved hOff
      obtain ⟨x, hx, hSettings, hSt⟩ := getElem?_pairWoken (hStored ofs bytes) r.tenant r.payload
      have hWaits := pairWoken_waits p r.tenant r.payload (storeSetting (begun s t 0x0201) ofs bytes)
      refine ⟨_, x, hDo ▸ hRow, by simpa using hx, hSettings, fun _ hZero => absurd (modeOf_pairCode_off.mpr hZero) hOff,
        fun _ h1 => ?_, fun _ h2 => ?_, fun _ _ => ?_, fun hSame => absurd hMoved hSame⟩
      · rw [hSt, if_pos (modeOf_pairCode_ring.mpr h1)]
      · rw [hSt, if_neg (fun hRing => by have := modeOf_pairCode_ring.mp hRing; omega)]
      · rwa [served_answer_keeps (g := Foreman.tickets) (fun _ _ _ _ => rfl)]
  · obtain ⟨ofs, bytes, pl, es, hDo⟩ := setPairDo_of_same hqAt hp hLow hFusedAt hLen hMoved
    exact ⟨_, q.withSettings r.payload, hDo ▸ hRow, by simpa using getElem?_pairSet (hStored ofs bytes) r.payload,
      withSettings_settingsAre q r.payload, fun h => absurd h hMoved, fun h => absurd h hMoved, fun h => absurd h hMoved,
      fun h => absurd h hMoved, fun _ => ⟨rfl, rfl⟩⟩

theorem pairStatusDo_of_there {s : State} {r : Req} (hLow : byteAt r.payload 0 < 4) (hFused : pairFused s (byteAt r.payload 0) = true) :
    pairStatusDo r s =
      let q := s.pair (byteAt r.payload 0)
      answer s r (leBytes 1 (byteAt r.payload 0) ++ leBytes 1 (stCode q.st) ++ leBytes 1 (b2n q.behind) ++ leBytes 1 q.nFound
        ++ leBytes 1 q.hA ++ leBytes 1 q.hB ++ leBytes 2 (q.curSeq.getD 0) ++ leBytes 2 (min 65535 q.lateCnt) ++ leBytes 2 q.timeouts
        ++ zeros 4) := by
  have hThere : ¬ (decide (4 ≤ byteAt r.payload 0) || !pairFused s (byteAt r.payload 0)) = true := by simp [hFused, hLow]
  simp only [pairStatusDo, if_neg hThere]

theorem pairStatusDo_of_none {s : State} {r : Req} (h : 4 ≤ byteAt r.payload 0 ∨ pairFused s (byteAt r.payload 0) = false) :
    pairStatusDo r s = noObject s r := by
  have hNone : (decide (4 ≤ byteAt r.payload 0) || !pairFused s (byteAt r.payload 0)) = true := by simpa using h
  simp only [pairStatusDo, if_pos hNone]

/-- Settles O31: the request is executed; what SET_PAIR leaves is the lemma above, the commands to a target are rows that go to it. -/
theorem chainCommandsBegin : Obligations.ChainCommandsBegin := by
  intro s t r h0
  refine ⟨fun h hPlain hNamed q hq hLow hFused => ?setPair, fun h hPlain hNamed => ?notReady, fun h hPlain => ?status,
    fun hReady => ⟨fun hPlain h => ?regRead, fun hBulk hLow hHigh hOdd h => ?regWrite, fun hPlain h2 h6 h => ?control,
      fun hPlain hOwn h => ?own, fun hLen hFlag hLow hHigh h => ?readRecord, fun hBulk hLow hHigh hLen h => ?balance,
      fun hPlain h => ?faultClear⟩⟩
  case setPair =>
    intro m n moved hRoom
    obtain ⟨u, x, hExec, hx, ⟨hMode, hCount, hPos, hRate⟩, hRest⟩ := setPair_leaves h h0 hPlain hNamed hq rfl hLow hFused hRoom
    exact ⟨u, x, hExec, hx, hMode, hCount, hPos, hRate, hRest⟩
  case notReady =>
    exact exec_of_notReady (exec_setPair t s) h hPlain (beq_iff_eq.mpr h0) (pairNamed_begun.trans hNamed)
  case status =>
    have hRow := exec_of_granted (exec_pairStatus t s) h hPlain (beq_iff_eq.mpr h0) rfl
    refine ⟨fun hLow hFused => ?_, fun hNone => ?_⟩
    · rw [hRow, pairStatusDo_of_there hLow ((pairFused_begun _).trans hFused), pair_begun]
    · rw [hRow, pairStatusDo_of_none (by rwa [pairFused_begun])]
  case regRead => exact goes_of_row (exec_mbRegRead t s) (fun _ => rfl) hPlain h0 hReady h
  case regWrite => exact goes_of_row (exec_mbRegWrite t s) (fun _ => rfl) (by simp [hBulk, hLow, hHigh, hOdd]) h0 hReady h
  case control => exact goes_of_row (exec_mbControl t s) (fun _ => mbControlDo_of_allowed rfl h2 h6) hPlain h0 hReady h
  case own =>
    rw [exec_of_granted (exec_mbControl t s) h hPlain (beq_iff_eq.mpr h0) (tgtReady_begun.trans hReady), mbControlDo_of_own rfl hOwn]
  case readRecord => exact goes_of_row (exec_mbReadRecord t s) (fun _ => rfl) (by simp [hLen, hFlag, hLow, hHigh]) h0 hReady h
  case balance => exact goes_of_row (exec_mbBalance t s) (fun _ => rfl) (by simp [hBulk, hLow, hHigh, hLen]) h0 hReady h
  case faultClear => exact goes_of_row (exec_mbFaultClear t s) (fun _ => rfl) hPlain h0 hReady h

end Sys2Proof.Machine
end

section
/-! The commands to a string and the urgent opens (16 R381, R382, R390, R391, Tables 16-4, 16-10; 06 R146). -/

namespace Sys2Proof.Machine

section
variable {s : State} {t op n : Nat} {r : Req}

/-! ### What a command reads of the state it is executed in -/

theorem strSet_begun (n : Nat) : strSet (begun s t op) n = strSet s n := by
  obtain ⟨f, hBegun, -, -⟩ := begun_eq s t op
  rw [hBegun]
  rfl
theorem strOn_begun (n : Nat) : strOn (begun s t op) n = strOn s n := by rw [strOn, strOn, strSet_begun]
theorem strOfMember_begun (i : Nat) : strOfMember (begun s t op) i = strOfMember s i := by
  simp only [strOfMember, strOn_begun, strSet_begun]
theorem headOpen_begun (n : Nat) : headOpen (begun s t op) n = headOpen s n := by
  obtain ⟨f, hBegun, -, -⟩ := begun_eq s t op
  rw [hBegun]
  rfl
theorem stringOf_begun (b : List Byte) : stringOf (begun s t op) b = stringOf s b := by
  obtain ⟨f, hBegun, -, -⟩ := begun_eq s t op
  rw [hBegun]
  rfl
theorem stringFaults_begun (n : Nat) (y : StrSet) : stringFaults (begun s t op) n y = stringFaults s n y := by
  simp only [stringFaults, strOfMember_begun, pair_begun]
theorem strReady_begun : strReady (begun s t op) r = strReady s r := by
  simp only [strReady, strOn_begun, strSet_begun, pairOpen_begun]
theorem setStrReady_begun : setStrReady (begun s t op) r = setStrReady s r := by
  simp only [setStrReady, strReady_begun, pairOpen_begun]
theorem allReady_begun : allReady (begun s t op) r = allReady s r := by simp only [allReady, pair_begun]
theorem route_begun (p h : Nat) : route (begun s t op) p h = route s p h := by simp only [route, pair_begun]
theorem portFused_begun (p : Nat) (sd : Side) : portFused (begun s t op) p sd = portFused s p sd := by
  obtain ⟨f, hBegun, -, -⟩ := begun_eq s t op
  rw [hBegun]
  rfl
theorem portsOn_begun (p : Nat) : portsOn (begun s t op) p = portsOn s p := by
  have hFused : portFused (begun s t op) p = portFused s p := funext (portFused_begun p)
  simp only [portsOn, pair_begun, hFused]
theorem allPorts_begun : allPorts (begun s t op) = allPorts s := by simp only [allPorts, portsOn_begun]

/-! ### Scripts (16 R382) -/

/-- A script begins with its whole list of writes to do. -/
theorem beginScript_foreman (s : State) (r : Req) (p first : Nat) (todo : List WriteTo) : (beginScript s r p first todo).foreman
    = { s.foreman with current := some r, script := some { req := r, pair := p, first := first, todo := todo } } := by
  unfold beginScript
  split
  · simp [scriptSend, toMember, enqueue, updCport]
  · rfl

/-- A command whose execution begins a script leaves the request current and the script's writes to do. -/
theorem scripted_of_eq {i : Instr} {z : State} {p first : Nat} {todo : List WriteTo}
    (h : exec i s = .next (served (beginScript z r p first todo))) :
    ∃ u sc, exec i s = .next u ∧ u.foreman.current = some r ∧ u.foreman.script = some sc ∧ sc.todo = todo := by
  refine ⟨_, { req := r, pair := p, first := first, todo := todo }, h, ?_, ?_, rfl⟩
  · rw [served_keeps (g := Foreman.current) (fun _ _ _ _ => rfl), beginScript_foreman]
  · rw [served_keeps (g := Foreman.script) (fun _ _ _ _ => rfl), beginScript_foreman]

/-! ### Commands to a string's head -/

section
variable (hn : byteAt r.payload 0 = n) (hLow : n < 64) (hOn : strOn s n = true)
include hn hLow hOn

theorem onHead_of_head (hHead : (strSet s n).head ≠ 0) (f : Nat → StrSet → State → State) : onHead r f s = f n (strSet s n) s := by
  have hThere : ¬ (decide (64 ≤ n) || !strOn s n) = true := by simp [hOn, hLow]
  simp only [onHead, hn, if_neg hThere, if_neg hHead]

theorem onHead_of_noHead (hHead : (strSet s n).head = 0) (f : Nat → StrSet → State → State) : onHead r f s = refuse s r [0x29] := by
  have hThere : ¬ (decide (64 ≤ n) || !strOn s n) = true := by simp [hOn, hLow]
  simp only [onHead, hn, if_neg hThere, if_pos hHead]

/-- No close while EOPEN_N is low. -/
theorem mbGateDo_of_barred (hHead : (strSet s n).head ≠ 0) {eo : Bool} (h1 : 1 ≤ byteAt r.payload 1) (h3 : byteAt r.payload 1 ≤ 3)
    (hPin : eo = false ∨ s.eopen.low = true) : mbGateDo eo r s = refuse s r [0x2C] := by
  have hBarred : (decide (1 ≤ byteAt r.payload 1) && decide (byteAt r.payload 1 ≤ 3) && (!eo || s.eopen.low)) = true := by
    simpa [h1, h3] using hPin
  rw [mbGateDo, onHead_of_head hn hLow hOn hHead, if_pos hBarred]

theorem mbGateDo_of_free (hHead : (strSet s n).head ≠ 0) {eo : Bool}
    (hFree : byteAt r.payload 1 = 0 ∨ 3 < byteAt r.payload 1 ∨ (eo = true ∧ s.eopen.low = false)) :
    mbGateDo eo r s = beginChain s r (strSet s n).pair [route s (strSet s n).pair (strSet s n).head] 0xA
      (leBytes 1 (byteAt r.payload 1)) := by
  have hAllowed : ¬ (decide (1 ≤ byteAt r.payload 1) && decide (byteAt r.payload 1 ≤ 3) && (!eo || s.eopen.low)) = true := by
    rcases hFree with h | h | ⟨hPin, hLatch⟩
    · simp [h]
    · simp [Nat.not_le.mpr h]
    · simp [hPin, hLatch]
  rw [mbGateDo, onHead_of_head hn hLow hOn hHead, if_neg hAllowed]

/-- SET_HEAD changes DRV_MODE or SHUNT at a head that is not OPEN. -/
theorem setHeadDo_of_closed (hHead : (strSet s n).head ≠ 0)
    (hMoved : byteAt r.payload 1 ≠ (strSet s n).drvMode ∨ leAt r.payload 8 4 ≠ (strSet s n).shunt) (hShut : headOpen s n = false) :
    setHeadDo r s = busy s r := by
  have hBusy : ((byteAt r.payload 1 != (strSet s n).drvMode || leAt r.payload 8 4 != (strSet s n).shunt) && !headOpen s n) = true := by
    simpa [hShut] using hMoved
  rw [setHeadDo, onHead_of_head hn hLow hOn hHead, if_pos hBusy]

/-- SET_HEAD writes the head's ten registers from 0x0021 on. -/
theorem setHeadDo_of_open (hHead : (strSet s n).head ≠ 0)
    (hFree : (byteAt r.payload 1 = (strSet s n).drvMode ∧ leAt r.payload 8 4 = (strSet s n).shunt) ∨ headOpen s n = true) :
    ∃ w, setHeadDo r s = beginScript s r (strSet s n).pair (strSet s n).first [w] ∧ w.mem + 1 = (strSet s n).head
      ∧ w.reg = 0x0021 ∧ w.words.length = 10 ∧ w.words.getD 0 0 = byteAt r.payload 1 ∧ w.words.getD 9 0 = byteAt r.payload 6 := by
  have hAllowed : ¬ ((byteAt r.payload 1 != (strSet s n).drvMode || leAt r.payload 8 4 != (strSet s n).shunt) && !headOpen s n)
      = true := by
    rcases hFree with ⟨hDrive, hShunt⟩ | hOpen
    · simp [hDrive, hShunt]
    · simp [hOpen]
  rw [setHeadDo, onHead_of_head hn hLow hOn hHead, if_neg hAllowed]
  exact ⟨_, rfl, by dsimp only; omega, rfl, rfl, rfl, rfl⟩

/-! ### SET_PROTECT -/

theorem setProtectDo_eq : ∃ ws : List (Nat × List Nat × List Nat), ws.length = 4
    ∧ (∀ w ∈ ws, w.1 = 0x08 ∨ w.1 = 0x11 ∨ w.1 = 0x12 ∨ w.1 = 0x13)
    ∧ setProtectDo r s = beginScript s r (strSet s n).pair (strSet s n).first
      ((List.range ((strSet s n).last + 1 - (strSet s n).first)).flatMap (fun i =>
        ws.map (fun w => { mem := (strSet s n).first + i - 1, reg := w.1, words := w.2.1, old := w.2.2 }))) := by
  have hThere : ¬ (decide (64 ≤ n) || !strOn s n) = true := by simp [hOn, hLow]
  simp only [setProtectDo, hn, if_neg hThere]
  refine ⟨_, ?_, ?_, rfl⟩
  · simp only [thresholdWrites]
    split <;> rfl
  · simp only [thresholdWrites]
    split <;> simp

/-! ### OPEN_STRING -/

theorem openStringDo_eq : openStringDo r s = answer (burst s ((portsOn s (strSet s n).pair).map (fun sd => ((strSet s n).pair, sd)))
    [0x2A#8, 0x3F#8, BitVec.ofNat 8 (strSet s n).first]) r [] := by
  have hThere : ¬ (decide (64 ≤ n) || !strOn s n) = true := by simp [hOn, hLow]
  simp only [openStringDo, hn, if_neg hThere]

end

/-! ### SET_STRING (16 R381) -/

section
variable (hn : byteAt r.payload 0 = n) (hLow : n < 64) (hEn : natBit (byteAt r.payload 5) 0 = true) (hPair : byteAt r.payload 1 < 4)
  (hFused : pairFused s (byteAt r.payload 1) = true) (hMode : (s.pair (byteAt r.payload 1)).mode ≠ .off)
include hLow hEn hPair hFused hMode

theorem setString_there : ¬ (decide (64 ≤ n) || (decide (4 ≤ (stringOf s r.payload).pair)
    || !pairFused s (stringOf s r.payload).pair || (s.pair (stringOf s r.payload).pair).mode == .off)) = true := by
  have hAt : (stringOf s r.payload).pair = byteAt r.payload 1 := by simp [stringOf, hEn]
  simp [hAt, hLow, hPair, hFused, hMode]

include hn

theorem setStringDo_of_faulty (hFaults : stringFaults s n (stringOf s r.payload) ≠ []) :
    setStringDo r s = refuse s r (stringFaults s n (stringOf s r.payload)) := by
  have hThere := setString_there hLow hEn hPair hFused hMode
  have hAny : (!(stringFaults s n (stringOf s r.payload)).isEmpty) = true := by simpa using hFaults
  simp only [setStringDo, hn, hEn, Bool.not_true, Bool.false_and, Bool.or_false, Bool.true_and, if_neg hThere, if_true, if_pos hAny]

theorem setStringDo_of_closed (hFaults : stringFaults s n (stringOf s r.payload) = []) (hOn : strOn s n = true)
    (hShut : headOpen s n = false) : setStringDo r s = busy s r := by
  have hThere := setString_there hLow hEn hPair hFused hMode
  simp only [setStringDo, hn, hEn, Bool.not_true, Bool.false_and, Bool.or_false, Bool.true_and, if_neg hThere, if_true, hFaults,
    List.isEmpty_nil, Bool.false_eq_true, if_false, hOn, hShut, Bool.not_false]

theorem setStringDo_of_open (hFaults : stringFaults s n (stringOf s r.payload) = [])
    (hFree : strOn s n = false ∨ headOpen s n = true) :
    ∃ todo, setStringDo r s = beginScript s r (stringOf s r.payload).pair (stringOf s r.payload).first todo
      ∧ todo.map (fun w => (w.mem, w.reg, w.words)) = (strMembers (stringOf s r.payload)).flatMap (fun i =>
          [(i % 32, 0x07, [byteAt r.payload 2]), (i % 32, 0x20, [b2n (byteAt r.payload 4 - 1 == i % 32)])]) := by
  have hThere := setString_there hLow hEn hPair hFused hMode
  have hAllowed : ¬ (strOn s n && !headOpen s n) = true := by rcases hFree with h | h <;> simp [h]
  have hFirst : (stringOf s r.payload).first = byteAt r.payload 2 := by simp [stringOf, hEn]
  have hHead : (stringOf s r.payload).head = byteAt r.payload 4 := by simp [stringOf, hEn]
  simp only [setStringDo, hn, hEn, Bool.not_true, Bool.false_and, Bool.or_false, Bool.true_and, if_neg hThere, if_true, hFaults,
    List.isEmpty_nil, Bool.false_eq_true, if_false, if_neg hAllowed]
  refine ⟨_, rfl, ?_⟩
  simp only [List.map_flatMap, hFirst, hHead, List.map_cons, List.map_nil]

end

end

/-! ### OPEN_ALL (06 R146) -/

/-- Every port that a burst names gets three copies. -/
theorem burst_sends_three (s : State) {ps : List (Nat × Side)} {a : Nat × Side} (h : a ∈ ps) (u : List Byte) :
    3 ≤ ((burst s ps u).out.filter (fun o => o == .chainUrgent (pNo a.1) a.2 (urgentSeal u))).length := by
  have hKeeps (ps : List (Nat × Side)) (s : State) (p : Output → Bool) :
      (s.out.filter p).length ≤ ((burst s ps u).out.filter p).length := by
    induction ps generalizing s with
    | nil => exact Nat.le_refl _
    | cons b ps ih =>
      rw [burst_cons]
      refine Nat.le_trans ?_ (ih _)
      simp [burst_singleton_out]
  induction ps generalizing s with
  | nil => exact absurd h List.not_mem_nil
  | cons b ps ih =>
    rw [burst_cons]
    rcases List.mem_cons.mp h with rfl | hTail
    · refine Nat.le_trans ?_ (hKeeps ps _ _)
      simp [burst_singleton_out]
    · exact ih _ hTail


/-! ### What a step has put out stays put out -/

theorem out_prefix_msixSend (s : State) (v : Nat) : s.out <+: (msixSend s v).out := by
  unfold msixSend
  dsimp only
  (repeat' split) <;> simp

theorem out_prefix_refreshTenant (s : State) (n : Nat) : s.out <+: (refreshTenant s n).out := by
  have hSend := out_prefix_msixSend s n
  unfold refreshTenant
  dsimp only
  (repeat' split) <;> simp [hSend]

theorem out_prefix_served (s : State) : s.out <+: (served s).out := by
  have hFold (l : List Nat) (u : State) : u.out <+: (l.foldl refreshTenant u).out := by
    induction l generalizing u with
    | nil => exact List.prefix_rfl
    | cons n l ih => exact (out_prefix_refreshTenant u n).trans (ih _)
  simpa [served, finish] using hFold (List.range 16) (refreshReady (takeUrgent (flushBad s)))

theorem answer_out (s : State) (r : Req) (p : List Byte) : (answer s r p).out = s.out := by simp

/-! ### The obligation -/

/-- Settles O32: each command is executed as its own lemma above says, on a state that reads as the one it came to. -/
theorem stringCommandsBegin : Obligations.StringCommandsBegin := by
  refine ⟨fun s t r n h0 hn hReady => ⟨fun hLow hOn hHead => ⟨fun h hPlain eo => ?gate, fun h hPlain => ?release,
    fun h hPlain => ?head⟩, fun hLow hOn hHead h hPlain => ?noHead, fun hLow hOn h hPlain => ?protect,
    fun h hPlain hNamed hEn hLow hPair hFused hMode => ?string, fun hLow hOn h hPlain => ?openString⟩,
    fun s t r h hPlain h0 hReady => ?openAll⟩
  case gate =>
    have hRow := exec_of_granted (exec_mbGate t eo s) h hPlain (beq_iff_eq.mpr h0) (strReady_begun.trans hReady)
    have hOnAt := (strOn_begun (s := s) (t := t) (op := 0x0810) n).trans hOn
    rw [← strSet_begun (s := s) (t := t) (op := 0x0810)] at hHead
    refine ⟨fun h1 h3 hPin => ?_, fun hFree => ?_⟩
    · rw [hRow, mbGateDo_of_barred hn hLow hOnAt hHead h1 h3 (by simpa using hPin)]
    · rw [hRow, mbGateDo_of_free hn hLow hOnAt hHead (by simpa using hFree), strSet_begun, route_begun]
  case release =>
    have hRow := exec_of_granted (exec_mbAspRelease t s) h hPlain (beq_iff_eq.mpr h0) (strReady_begun.trans hReady)
    rw [hRow, mbAspReleaseDo, toHead, onHead_of_head hn hLow ((strOn_begun n).trans hOn) (by rwa [strSet_begun])]
    simp only [strSet_begun, route_begun]
    rfl
  case head =>
    have hRow := exec_of_granted (exec_setHead t s) h hPlain (beq_iff_eq.mpr h0) (strReady_begun.trans hReady)
    have hOnAt := (strOn_begun (s := s) (t := t) (op := 0x0811) n).trans hOn
    have hSet := strSet_begun (s := s) (t := t) (op := 0x0811) n
    have hOpen := headOpen_begun (s := s) (t := t) (op := 0x0811) n
    rw [← hSet] at hHead
    refine ⟨fun hMoved hShut => ?_, fun hFree => ?_⟩
    · rw [hRow, setHeadDo_of_closed hn hLow hOnAt hHead (by rwa [hSet]) (hOpen.trans hShut)]
    · obtain ⟨w, hDo, hMem, hReg, hWords, hDrive, hAux⟩ := setHeadDo_of_open hn hLow hOnAt hHead (by rwa [hSet, hOpen])
      obtain ⟨u, sc, hExec, hCurrent, hScript, hTodo⟩ := scripted_of_eq (hDo ▸ hRow)
      exact ⟨u, sc, w, hExec, hCurrent, hScript, hTodo, hMem.trans (congrArg StrSet.head hSet), hReg, hWords, hDrive, hAux⟩
  case noHead =>
    have hRow := exec_of_granted (exec_mbAspRelease t s) h hPlain (beq_iff_eq.mpr h0) (strReady_begun.trans hReady)
    rw [hRow, mbAspReleaseDo, toHead, onHead_of_noHead hn hLow ((strOn_begun n).trans hOn) (by rwa [strSet_begun])]
  case protect =>
    have hRow := exec_of_granted (exec_setProtect t s) h hPlain (beq_iff_eq.mpr h0) (strReady_begun.trans hReady)
    obtain ⟨ws, hFour, hRegs, hDo⟩ := setProtectDo_eq hn hLow ((strOn_begun (s := s) (t := t) (op := 0x0812) n).trans hOn)
    obtain ⟨u, sc, hExec, hCurrent, hScript, hTodo⟩ := scripted_of_eq (hDo ▸ hRow)
    rw [strSet_begun] at hTodo
    refine ⟨u, sc, hExec, hCurrent, hScript, ?_, fun w hw => ?_⟩
    · simp [hTodo, hFour, Nat.mul_comm]
    · rw [hTodo] at hw
      obtain ⟨i, hi, hIn⟩ := List.mem_flatMap.mp hw
      obtain ⟨x, hx, rfl⟩ := List.mem_map.mp hIn
      have := List.mem_range.mp hi
      exact ⟨by dsimp only; omega, by dsimp only; omega, hRegs x hx⟩
  case string =>
    have hRow := exec_of_granted (exec_setString t s) h hPlain (beq_iff_eq.mpr h0) (setStrReady_begun.trans hNamed)
    have hFusedAt := (pairFused_begun (s := s) (t := t) (op := 0x0220) _).trans hFused
    have hModeAt : ((begun s t 0x0220).pair (byteAt r.payload 1)).mode ≠ .off := by rwa [pair_begun]
    have hFaults := stringFaults_begun (s := s) (t := t) (op := 0x0220) n (stringOf s r.payload)
    have hString := stringOf_begun (s := s) (t := t) (op := 0x0220) r.payload
    rw [← hString] at hFaults
    refine ⟨fun hBad => ?_, fun hGood hOn hShut => ?_, fun hGood hFree => ?_⟩
    · rw [hRow, setStringDo_of_faulty hn hLow hEn hPair hFusedAt hModeAt (by rwa [hFaults, hString]), hFaults, hString]
    · rw [hRow, setStringDo_of_closed hn hLow hEn hPair hFusedAt hModeAt (hFaults.trans (by rwa [hString])) ((strOn_begun n).trans hOn)
        ((headOpen_begun n).trans hShut)]
    · obtain ⟨todo, hDo, hWrites⟩ := setStringDo_of_open hn hLow hEn hPair hFusedAt hModeAt (hFaults.trans (by rwa [hString]))
        (by rwa [strOn_begun, headOpen_begun])
      obtain ⟨u, sc, hExec, hCurrent, hScript, hTodo⟩ := scripted_of_eq (hDo ▸ hRow)
      exact ⟨u, sc, hExec, hCurrent, hScript, by rw [hTodo, hWrites, hString]⟩
  case openString =>
    have hRow := exec_of_granted (exec_openString t s) h hPlain (beq_iff_eq.mpr h0) (strReady_begun.trans hReady)
    rw [openStringDo_eq hn hLow ((strOn_begun n).trans hOn), strSet_begun, portsOn_begun] at hRow
    refine ⟨_, hRow, answersWith_served_answer .., fun sd hSide => (out_prefix_served _).subset ?_⟩
    rw [answer_out]
    exact mem_out_burst (a := ((strSet s n).pair, sd)) (List.mem_map.mpr ⟨sd, hSide, rfl⟩) _
  case openAll =>
    have hRow := exec_of_granted (exec_openAll t s) h hPlain (beq_iff_eq.mpr h0) (allReady_begun.trans hReady)
    refine ⟨_, hRow, answersWith_served_answer .., fun a ha => ?_⟩
    refine Nat.le_trans ?_ ((out_prefix_served _).filter _).length_le
    rw [openAllDo, answer_out, eopenAll, allPorts_begun]
    exact burst_sends_three _ ha _

end Sys2Proof.Machine
end

section
/-! The commands of output rings, images, keys and dataset regions (16 R387 to R389; 14 R333, R334, R340, R341, R347). -/

namespace Sys2Proof.Machine

section
variable {s : State} {t op : Nat} {r : Req}

/-! ### What a command reads of the state it is executed in -/

theorem begun_ka (s : State) (t op : Nat) : (begun s t op).ka = s.ka := by simp
theorem datasets_begun : (begun s t op).foreman.datasets = s.foreman.datasets := begun_keeps (fun _ _ _ _ => rfl) ..
theorem inDataset_begun (tenant ofs n : Nat) : inDataset (begun s t op) tenant ofs n = inDataset s tenant ofs n := by
  rw [inDataset, datasets_begun, inDataset]
theorem ownImage_begun : ownImage (begun s t op) r = ownImage s r := by rw [ownImage, imageOf_begun, ownImage]
theorem imageStreams_begun (h : Nat) : imageStreams (begun s t op) h = imageStreams s h := by
  rw [imageStreams, imageStreams]
  simp
theorem computeReady_begun : computeReady (begun s t op) r = readyBit s 3 := readyBit_begun ..
theorem datasetBusy_begun (tenant : Nat) : datasetBusy (begun s t op) tenant = datasetBusy s tenant := by
  have hRings : (begun s t op).foreman.rings = s.foreman.rings := begun_keeps (fun _ _ _ _ => rfl) ..
  have hTickets : (begun s t op).foreman.tickets = s.foreman.tickets := begun_keeps (fun _ _ _ _ => rfl) ..
  simp only [datasetBusy, hRings, hTickets, begun_frame]
theorem datasetPlace_begun (tenant n : Nat) : datasetPlace (begun s t op) tenant n = datasetPlace s tenant n := by
  obtain ⟨f, hBegun, -, hDatasets⟩ := begun_eq s t op
  rw [hBegun]
  simp only [datasetPlace, hDatasets]
  rfl

/-! ### SET_OUT_RING (16 R387) -/

/-- The ring fits the region and its entries are in range. -/
def ringFits (d : Dataset) (b : List Byte) : Prop :=
  leAt b 4 8 % 128 = 0 ∧ 2 ≤ leAt b 12 4 ∧ leAt b 12 4 ≤ 65536 ∧ leAt b 4 8 + 128 + 32 * leAt b 12 4 ≤ d.mib * 1048576

section
variable {d : Dataset} (hRegion : tblFind? s.foreman.datasets r.tenant = some d)
include hRegion

theorem setOutRingDo_of_unfit (h : ¬ ringFits d r.payload) : setOutRingDo r s = refuse s r [0x1B] := by
  have hBad : (leAt r.payload 4 8 % 128 != 0 || decide (leAt r.payload 12 4 < 2) || decide (65536 < leAt r.payload 12 4)
      || decide (d.mib * 1048576 < leAt r.payload 4 8 + 128 + 32 * leAt r.payload 12 4)) = true := by
    simp only [ringFits] at h
    simp only [Bool.or_eq_true, bne_iff_ne, decide_eq_true_eq]
    omega
  simp only [setOutRingDo, hRegion, if_pos hBad]

theorem setOutRingDo_of_fit (h : ringFits d r.payload)
    (hFree : ∀ e ∈ s.sched.streams, (e.2.valid && e.2.tenant == r.tenant && e.2.out / 2 ^ 30 == 1
      && e.2.out % 256 == byteAt r.payload 0) = false) :
    ∃ u, setOutRingDo r s = answer u r [] ∧ u.foreman.rings = tblSet (r.tenant * 256 + byteAt r.payload 0)
      { ofs := leAt r.payload 4 8, entries := leAt r.payload 12 4 } s.foreman.rings := by
  have hGood : ¬ (leAt r.payload 4 8 % 128 != 0 || decide (leAt r.payload 12 4 < 2) || decide (65536 < leAt r.payload 12 4)
      || decide (d.mib * 1048576 < leAt r.payload 4 8 + 128 + 32 * leAt r.payload 12 4)) = true := by
    simp only [ringFits] at h
    simp only [Bool.or_eq_true, bne_iff_ne, decide_eq_true_eq]
    omega
  have hIdle : ¬ s.sched.streams.any (fun e => e.2.valid && e.2.tenant == r.tenant && e.2.out / 2 ^ 30 == 1
      && e.2.out % 256 == byteAt r.payload 0) = true := by
    rw [List.any_eq_true]
    rintro ⟨e, he, hUses⟩
    exact absurd hUses (by rw [hFree e he]; decide)
  simp only [setOutRingDo, hRegion, if_neg hGood, if_neg hIdle]
  exact ⟨_, rfl, by simp⟩

end

/-! ### IMAGE_LOAD (16 R388) -/

theorem imageLoadDo_of_source (h : 1 < byteAt r.payload 0) : imageLoadDo r s = refuse s r [0x0B] := by
  simp only [imageLoadDo, if_pos h]

section
variable (hDram : byteAt r.payload 0 = 0)
include hDram

theorem imageLoadDo_of_outside (h : inDataset s r.tenant (leAt r.payload 8 8) (leAt r.payload 4 4) = false) :
    imageLoadDo r s = refuse s r [0x1B] := by
  simp [imageLoadDo, hDram, h]

theorem imageLoadDo_of_inside (h : inDataset s r.tenant (leAt r.payload 8 8) (leAt r.payload 4 4) = true)
    (hRoom : ticketsOf s r.tenant < 4) : ∃ d, imageLoadDo r s
      = answer (defer s r.tenant d).1 r (leBytes 2 s.foreman.nextTicket) := by
  have hFree : ¬ 4 ≤ ticketsOf s r.tenant := Nat.not_le.mpr hRoom
  simp only [imageLoadDo, hDram, h, hFree]
  exact ⟨_, rfl⟩

end

/-! ### IMAGE_UNLOAD (14 R341) -/

theorem unloadImage_foreman (s : State) (h : Nat) (img : Image) :
    (unloadImage s h img).foreman = { s.foreman with images := tblDel h s.foreman.images } := by
  have hFold (l : Tbl Nat) (f : Tile → Tile) (u : State) : (l.foldl (fun s e => s.updTile e.1 f) u).foreman = u.foreman := by
    induction l generalizing u with
    | nil => rfl
    | cons e l ih => exact ih _
  simp only [unloadImage, hFold]

theorem imageUnloadDo_of_none (h : imageOf s (leAt r.payload 0 2) = none) : imageUnloadDo r s = noObject s r := by
  simp only [imageUnloadDo, h]

theorem imageUnloadDo_of_unused {img : Image} (hImage : imageOf s (leAt r.payload 0 2) = some img)
    (hStreams : imageStreams s (leAt r.payload 0 2) = 0)
    (hJobs : ∀ e ∈ s.sched.jobs, (jobHeld e.2 && e.2.image == leAt r.payload 0 2) = false) :
    imageUnloadDo r s = answer (unloadImage s (leAt r.payload 0 2) img) r [] := by
  have hIdle : s.sched.jobs.any (fun e => jobHeld e.2 && e.2.image == leAt r.payload 0 2) = false := by
    rw [List.any_eq_false]
    exact fun e he => by rw [hJobs e he]; decide
  simp [imageUnloadDo, hImage, hStreams, hIdle]

/-! ### SET_DATASET (16 R389) -/

theorem bar2Of_of_sys {u v : State} (h : u.sys = v.sys) (a : Nat) : bar2Of u a = bar2Of v a := by
  unfold bar2Of chanShare
  rw [h]

section
variable (hIdle : datasetBusy s r.tenant = false)
include hIdle

theorem setDatasetDo_of_zero (h : leAt r.payload 0 8 = 0) : setDatasetDo r s
    = answer { s with foreman := { s.foreman with datasets := tblDel r.tenant s.foreman.datasets } } r (zeros 16) := by
  simp only [setDatasetDo, h, hIdle, Bool.and_false, Bool.false_eq_true, if_false]
  rfl

theorem setDatasetDo_of_placed {a : Nat} (hSize : 0 < leAt r.payload 0 8) (h0 : r.tenant = 0)
    (hPlace : datasetPlace s 0 (ceilDiv (leAt r.payload 0 8) 1048576 * 1048576) = some a) :
    ∃ u p es, setDatasetDo r s = answer u r p es ∧ u.foreman.datasets = tblSet 0
      { mib := ceilDiv (leAt r.payload 0 8) 1048576, base := a, bar2 := bar2Of s a } s.foreman.datasets := by
  have hSome : ¬ ceilDiv (leAt r.payload 0 8) 1048576 = 0 := by
    rw [ceilDiv, if_neg (by decide)]
    omega
  rw [h0] at hIdle
  simp only [setDatasetDo, if_neg hSome, h0, hIdle, bne_self_eq_false, Bool.false_and, Bool.and_false, Bool.false_eq_true, if_false, hPlace]
  refine ⟨_, _, _, rfl, ?_⟩
  cases tblFind? s.foreman.datasets 0 with
  | none => rfl
  | some d =>
    dsimp only
    rw [bar2Of_of_sys (by simp : (dramMove s d.base a (min d.mib (ceilDiv (leAt r.payload 0 8) 1048576) * 1048576)).sys = s.sys)]
    simp

end

end

/-! ### IMAGE_LOAD_VERIFIED (14 R334 to R340) -/

theorem endTicket_images (s : State) (tenant ticket event status reason mask : Nat) (fields : List Byte) :
    (endTicket s tenant ticket event status reason mask fields).foreman.images = s.foreman.images := by simp [endTicket]

/-- An ended ticket is outstanding no longer. -/
theorem endTicket_ends (s : State) (tenant ticket event status reason mask : Nat) (fields : List Byte) :
    ∀ x ∈ (endTicket s tenant ticket event status reason mask fields).foreman.tickets, ¬ (x.tenant = tenant ∧ x.ticket = ticket) := by
  intro x hx ⟨hTenant, hTicket⟩
  simp [endTicket, hTenant, hTicket] at hx

section
variable {s : State} {ticket n sr m sl ln o e : Nat}
  (hTicket : s.foreman.tickets.find? (fun x => x.ticket == ticket)
    = some { tenant := n, ticket := ticket, what := .image sr m sl ln o e })
include hTicket

theorem imageVerified_of_error {st : Nat} {c : List Nat}
    (h : judgeImage s n m (if sr = 1 then some sl else none) (loadBytes s n sr sl ln o) = .error (st, c)) :
    imageVerified ticket s = endTicket s n ticket 0x05E0 st (c.foldl min 0xFF) (refuseMask c) [] := by
  simp only [imageVerified, hTicket, h]

theorem imageVerified_of_ok {img : Image}
    (h : judgeImage s n m (if sr = 1 then some sl else none) (loadBytes s n sr sl ln o) = .ok img) :
    imageVerified ticket s = endTicket (loadImage { s with foreman := { s.foreman with
      images := tblSet (freeHandle s) img s.foreman.images } } img) n ticket 0x05E0 0 0 0 (leBytes 2 (freeHandle s)) := by
  simp only [imageVerified, hTicket, h]

end

/-! ### The obligation -/

/-- Settles O35: each command is executed as its own lemma above says, on a state that reads as the one it came to. -/
theorem imageCommandsExecute : Obligations.ImageCommandsExecute := by
  intro s t r
  refine ⟨fun hReady => ⟨fun h hPlain d hRegion => ?ring, fun h hPlain hRights => ?load, fun h hPlain => ?unload,
    fun h hLen hBulk => ?list, fun h0 hSlot => ⟨fun h hPlain => ?keySet, fun h hPlain => ?keyClear⟩⟩,
    fun hReady h hPlain hIdle => ?dataset, fun k n sr m sl ln o e hTicket => ?verified⟩
  case ring =>
    have hRow := exec_of_granted (exec_setOutRing t s) h hPlain rfl (computeReady_begun.trans hReady)
    have hRegionAt : tblFind? (begun s t 0x0420).foreman.datasets r.tenant = some d := by rwa [datasets_begun]
    refine ⟨fun hBad => ?_, fun hFits hFree => ?_⟩
    · rw [hRow, setOutRingDo_of_unfit hRegionAt hBad]
    · obtain ⟨u, hDo, hRings⟩ := setOutRingDo_of_fit hRegionAt hFits (by simpa using hFree)
      refine ⟨_, hDo ▸ hRow, answersWith_served_answer .., ?_⟩
      rw [served_answer_keeps (g := Foreman.rings) (fun _ _ _ _ => rfl), hRings, tblFind?_tblSet]
  case load =>
    have hAllowed : loadRights (begun s t 0x0501) r = true := by simpa [loadRights] using hRights
    have hRow := exec_of_granted (exec_imageLoad t s) h hPlain hAllowed (computeReady_begun.trans hReady)
    refine ⟨fun hSource => ?_, fun hDram hOut => ?_, fun hDram hIn hRoom => ?_⟩
    · rw [hRow, imageLoadDo_of_source hSource]
    · rw [hRow, imageLoadDo_of_outside hDram ((inDataset_begun ..).trans hOut)]
    · obtain ⟨d, hDo⟩ := imageLoadDo_of_inside hDram ((inDataset_begun (s := s) (t := t) (op := 0x0501) ..).trans hIn)
        (by rwa [ticketsOf_begun])
      have hNext : (begun s t 0x0501).foreman.nextTicket = s.foreman.nextTicket := begun_keeps (fun _ _ _ _ => rfl) ..
      rw [hNext] at hDo
      refine ⟨_, hDo ▸ hRow, answersSo_served_plain _, ?_⟩
      rw [served_answer_keeps (g := Foreman.tickets) (fun _ _ _ _ => rfl)]
      exact ⟨_, List.mem_append_right _ (List.mem_singleton.mpr rfl), rfl, hNext⟩
  case unload =>
    refine ⟨fun hNone => ?_, fun i hImage hOwn hStreams hJobs => ?_⟩
    · have hRow := exec_of_granted (exec_imageUnload t s) h hPlain (ownImage_begun.trans (by simp [ownImage, hNone]))
        (computeReady_begun.trans hReady)
      rw [hRow, imageUnloadDo_of_none ((imageOf_begun ..).trans hNone)]
    · have hRow := exec_of_granted (exec_imageUnload t s) h hPlain (ownImage_begun.trans (by simp [ownImage, hImage, hOwn]))
        (computeReady_begun.trans hReady)
      rw [imageUnloadDo_of_unused ((imageOf_begun ..).trans hImage) ((imageStreams_begun _).trans hStreams)
        (by simpa using hJobs)] at hRow
      refine ⟨_, hRow, answersWith_served_answer .., ?_⟩
      rw [imageOf, served_answer_keeps (g := Foreman.images) (fun _ _ _ _ => rfl), unloadImage_foreman, tblFind?_tblDel, if_pos rfl]
  case list =>
    have hRow := exec_of_granted (exec_imageList t s) h (by simp [hLen, hBulk]) rfl (computeReady_begun.trans hReady)
    intro own z
    rw [hRow, imageListDo, images_begun]
  case keySet =>
    have hRow := exec_of_granted (exec_keySet t s) h hPlain (beq_iff_eq.mpr h0) (computeReady_begun.trans hReady)
    simp only [keySetDo, hSlot, Bool.not_true, Bool.false_eq_true, if_false] at hRow
    refine ⟨_, hRow, answersWith_served_answer .., ?_⟩
    rw [← storeSetting_ka_congr (begun_ka s t 0x0510)]
    simp
  case keyClear =>
    have hRow := exec_of_granted (exec_keyClear t s) h hPlain (beq_iff_eq.mpr h0) (computeReady_begun.trans hReady)
    simp only [keyClearDo, hSlot, Bool.not_true, Bool.false_eq_true, if_false] at hRow
    refine ⟨_, hRow, answersWith_served_answer .., ?_⟩
    rw [← storeSetting_ka_congr (begun_ka s t 0x0511)]
    simp
  case dataset =>
    have hRow := exec_of_granted (exec_setDataset t s) h hPlain rfl ((jobReady_begun ..).trans hReady)
    have hIdleAt := (datasetBusy_begun (s := s) (t := t) (op := 0x0610) _).trans hIdle
    refine ⟨fun hZero => ?_, fun a hSize h0 hPlace => ?_⟩
    · rw [setDatasetDo_of_zero hIdleAt hZero, datasets_begun] at hRow
      exact ⟨_, hRow, answersSo_served_plain _, served_answer_keeps (g := Foreman.datasets) (fun _ _ _ _ => rfl) _⟩
    · rw [h0] at hPlace
      obtain ⟨u, p, es, hDo, hRegions⟩ := setDatasetDo_of_placed hIdleAt hSize h0 ((datasetPlace_begun ..).trans hPlace)
      refine ⟨_, hDo ▸ hRow, ?_⟩
      rw [served_answer_keeps (g := Foreman.datasets) (fun _ _ _ _ => rfl), hRegions, h0, tblFind?_tblSet,
        bar2Of_of_sys (begun_sys s t 0x0610)]
  case verified =>
    intro z judged
    refine ⟨_, exec_imageLoadVerified t k s, ?_⟩
    cases hJudged : judged with
    | error c =>
      obtain ⟨st, codes⟩ := c
      dsimp only
      rw [imageVerified_of_error (s := s.at t) hTicket hJudged]
    | ok img =>
      dsimp only
      rw [imageVerified_of_ok (s := s.at t) hTicket hJudged, imageOf, finish_foreman]
      refine ⟨?_, endTicket_ends _ _ _ _ _ _ _ _⟩
      rw [endTicket_images]
      simp only [loadImage_frame]
      exact tblFind?_tblSet ..

end Sys2Proof.Machine
end

section
/-! STREAM_SET on a stream whose tile is lost under a step in flight (16 R386, 11 R269, R281): the obligation about the stream
commands fails there. -/

namespace Sys2Proof.Machine

/-- An image with one stream kernel, placed on tile 0 alone. -/
def placedImage : Image :=
  { tenant := 0, id := 1, keySlot := 0, mask := 1, bundles := [], weights := [], state := [], reloc := [], palBytes := 1280, kts := [0]
    bases := [(0, 0)], inits := [(0, [0])], wbase := []
    kernels := [{ kind := 0, form := 0, sf := 0, classes := 7, kMax := 8, entry := 0, len := 1, cyc := 10, cycPer := 0
                  stateUnits := 1, paramUnits := 0, qMin := 0, waitinMax := 1, initOfs := 0, e := 4, ePer := 1, palBase := 0, palPer := 0
                  gang := 1, outLayout := 0, draws := [] }] }
/-- A background stream of that image at home on tile 1. -/
def strandedStream : Stream :=
  { valid := true, den := true, res := true, cls := 1, k := 1, image := 1, tile := 1, paramUnits := 1, out := 5 }
/-- Bench 0 is live and fused for more than it needs. -/
def strandedSys : Sys :=
  { State.reset.sys with
    computeUp := true, ctrlUp := true, boot := .parallel
    benches := { (State.reset.sys.benches.getD 0 {}) with phase := .live, live := 0xFFFF } :: State.reset.sys.benches.drop 1
    fuses := { State.reset.sys.fuses with benches := 15, ceilMhz := 800, envelope := 1023 } }
/-- STREAM_SET of stream 0: class 1, K 1, no SWAP. -/
def strandedReq : Req :=
  { tenant := 0, opcode := 0x0406, len := 16, payload := [0#8, 0#8, 1#8, 1#8] ++ List.replicate 12 0#8 }
/-- Tile 1 is out of dispatch while a step of stream 0 still runs on it, and STREAM_SET is the next request. -/
def stranded : State :=
  { State.reset with
    sys := strandedSys
    tiles := [(0, { ktab := [(0, { valid := true })] }), (1, { run := some { work := .stream 0, kt0 := {}, cycMax := 100 }, out := true })]
    sched := { State.reset.sched with streams := [(0, strandedStream)] }
    foreman := { State.reset.foreman with images := [(1, placedImage)], order := [strandedReq] } }

/-- The stream as the request asks for it. -/
def strandedWish : Stream :=
  { strandedStream with
    cls := leAt (clampSet strandedReq strandedStream).1 2 1, k := leAt (clampSet strandedReq strandedStream).1 3 1
    swap := natBit (leAt (clampSet strandedReq strandedStream).1 4 1) 1
    period := leAt (clampSet strandedReq strandedStream).1 8 4, phase := leAt (clampSet strandedReq strandedStream).1 12 4 }

theorem stranded_granted : granted stranded 0 0x0406 strandedReq := by
  refine ⟨?_, rfl, rfl, ?_, ?_, Or.inr ?_, Or.inl ?_, rfl⟩ <;> decide +kernel

/-- A step of the stream is in flight. -/
theorem stranded_inFlight : inFlight stranded 0 = true := by decide +kernel

theorem strandedWish_capable : ∃ k, kernelOf stranded strandedStream = some k
    ∧ capable (begun stranded 0 0x0406) k strandedWish = true := by
  refine ⟨_, rfl, ?_⟩
  decide +kernel

/-- Whether an admission succeeds. -/
def admits (a : Except (List Nat) (Place × Nat)) : Bool := match a with
  | .ok _ => true
  | .error _ => false

theorem exists_of_admits {a : Except (List Nat) (Place × Nat)} (h : admits a = true) : ∃ p q, a = .ok (p, q) := by
  cases a with
  | ok x => exact ⟨x.1, x.2, rfl⟩
  | error c => exact absurd h Bool.false_ne_true

/-- The stream is admitted: tile 0 has room for it. -/
theorem strandedWish_admitted : ∃ p q, admitStream (begun stranded 0 0x0406) (some 0) strandedWish placedImage.mask
    (strandedWish.swap || strandedStream.storePtr.isSome) (!strandedWish.swap && !strandedStream.swap) = .ok (p, q) :=
  exists_of_admits (by decide +kernel)

/-- No settings wait at a stream once a command has completed. -/
def settled (n : Nat) : Host.Outcome State Fault Refusal → Bool
  | .next u => (u.stream n).between.set.isNone
  | _ => false

/-- Foreman has moved the stream off its lost tile, no step of it runs where it is now, and the settings are in force at once. -/
theorem stranded_settled : settled 0 (exec (.streamSet 0) stranded) = true := by decide +kernel

/-- Refutes O34: a stream whose step is in flight on a tile that is out of dispatch. STREAM_SET admits it on another tile and moves it
there, so that its settings wait for no step and are applied at once; the statement says that they wait. -/
theorem not_streamCommandsExecute : ¬ Obligations.StreamCommandsExecute := by
  rintro ⟨-, hStream⟩
  obtain ⟨k, hKernel, hCapable⟩ := strandedWish_capable
  obtain ⟨p, q, hAdmitted⟩ := strandedWish_admitted
  obtain ⟨-, hOwn⟩ := hStream stranded 0 strandedReq 0 (by decide +kernel) rfl rfl
  obtain ⟨-, -, hSet, -⟩ := hOwn rfl
  obtain ⟨-, -, hGoes⟩ := hSet stranded_granted (by rfl) k placedImage hKernel rfl
  obtain ⟨-, hWaits⟩ := hGoes rfl hCapable
  obtain ⟨u, hExec, -, hSettings, -⟩ := hWaits p q hAdmitted stranded_inFlight
  have hSettled := stranded_settled
  rw [hExec, settled, hSettings] at hSettled
  exact absurd hSettled (by decide)

end Sys2Proof.Machine
end

section
/-! What the fabric engine's link operations leave of the links (18 R416 to R421). -/

namespace Sys2Proof.Machine

section
variable {s : State} {l k : Nat} {x : Link}

theorem link_of_getElem? (h : s.fabric.links[l]? = some x) : s.link l = x := by simp [State.link, h]

theorem getElem?_updLink (f : Link → Link) : (s.updLink l f).fabric.links[l]? = s.fabric.links[l]?.map f := by simp

theorem getElem?_updLink_ne (h : k ≠ l) (f : Link → Link) : (s.updLink l f).fabric.links[k]? = s.fabric.links[k]? := by
  simp [modAt, h.symm]

/-- A link that has left its state for one that carries nothing. -/
def Link.left (x : Link) (st : LinkSt) (rate now_ : Nat) : Link :=
  { x with st := st, width := 0, lanes := 0, rate := rate, since := now_, neigh := none, dropped := false }

theorem leaveTo_links (st : LinkSt) (rate : Nat) :
    (leaveTo s l st rate).fabric.links = modAt s.fabric.links l (fun x => x.left st rate s.now) := by
  unfold leaveTo
  dsimp only
  split <;> rfl

theorem getElem?_leaveTo (h : s.fabric.links[l]? = some x) (st : LinkSt) (rate : Nat) :
    (leaveTo s l st rate).fabric.links[l]? = some (x.left st rate s.now) := by
  rw [leaveTo_links, getElem?_modAt, h, Option.map_some]

theorem getElem?_leaveTo_ne (hk : k ≠ l) (st : LinkSt) (rate : Nat) :
    (leaveTo s l st rate).fabric.links[k]? = s.fabric.links[k]? := by
  rw [leaveTo_links]
  simp [modAt, hk.symm]

theorem getElem?_startDetect (h : s.fabric.links[l]? = some x) : (startDetect s l).fabric.links[l]? = some (x.left .detect 2 s.now) :=
  getElem?_leaveTo h ..

theorem getElem?_startDetect_ne (hk : k ≠ l) : (startDetect s l).fabric.links[k]? = s.fabric.links[k]? := getElem?_leaveTo_ne hk ..

theorem served_fabric : (served s).fabric = s.fabric := by simp
theorem answer_fabric (r : Req) (p : List Byte) (es : List ClampEntry) : (answer s r p es).fabric = s.fabric := by simp

end

end Sys2Proof.Machine
end

section
/-! The fabric commands (16 Table 16-11, R392; 18 R421, R430, R431). -/

namespace Sys2Proof.Machine

section
variable {s : State} {t op : Nat} {r : Req}

theorem fabric_begun : (begun s t op).fabric = s.fabric := by simp
theorem fabricReady_begun : fabricReady (begun s t op) r = readyBit s 6 := readyBit_begun ..

/-! ### FABRIC_STATUS (18 R431) -/

theorem managerSerial_fabric (s : State) : (managerSerial s).2.fabric = s.fabric := by simp
theorem nodeCount_of_fabric {u v : State} (h : u.fabric = v.fabric) : nodeCount u = nodeCount v := by rw [nodeCount, nodeCount, h]

/-- FABRIC_STATUS begins with the node's ID, the manager's, the role, the nodes known and what is left of the lease. -/
theorem fabricStatusDo_eq : ∃ u p, fabricStatusDo r s = answer u r p ∧ p.take 8
    = leBytes 1 s.fabric.node ++ leBytes 1 s.fabric.manager ++ leBytes 1 (roleCode s.fabric.role) ++ leBytes 1 (nodeCount s)
      ++ leBytes 4 (match s.fabric.lease with | some e => (e - s.now) / 48000 | none => 0) := by
  have hFab : (managerSerial (linkBytes s).2).2.fabric = s.fabric := by simp
  have hNow : (managerSerial (linkBytes s).2).2.now = s.now := by simp
  refine ⟨_, _, rfl, ?_⟩
  simp only [hFab, hNow, nodeCount_of_fabric hFab]
  cases s.fabric.lease <;> simp [leBytes]

/-! ### SET_FABRIC (16 R392) -/

/-- What SET_FABRIC does at one link, `old` being the links enabled before and `ok` those enabled now. -/
def enableLink (old ok : Nat) (s : State) (l : Nat) : State :=
  if natBit ok l then
    (if (s.link l).st == .disabled then startDetect (s.updLink l (fun x => { x with single := false, fails := 0 })) l else s)
  else if natBit old l && (s.link l).st != .disabled then leaveTo s l .disabled 0 else s

section
variable {old ok l k : Nat} {x : Link}

theorem enableLink_linkEn : (enableLink old ok s l).fabric.linkEn = s.fabric.linkEn := by
  have hLeave (u : State) (st : LinkSt) (rate : Nat) : (leaveTo u l st rate).fabric.linkEn = u.fabric.linkEn := by
    unfold leaveTo
    dsimp only
    split <;> rfl
  unfold enableLink startDetect
  (repeat' split) <;> simp [hLeave]

theorem getElem?_enableLink_ne (h : k ≠ l) : (enableLink old ok s l).fabric.links[k]? = s.fabric.links[k]? := by
  unfold enableLink
  (repeat' split)
  · rw [getElem?_startDetect_ne h, getElem?_updLink_ne h]
  · rfl
  · exact getElem?_leaveTo_ne h ..
  · rfl

/-- How a link's state follows its enable bit. -/
def followsEnable (old ok l : Nat) (x y : Link) : Prop :=
  (natBit ok l = true → x.st = .disabled → y.st = .detect)
    ∧ (natBit ok l = true → x.st ≠ .disabled → y.st = x.st)
    ∧ (natBit ok l = false → natBit old l = true → y.st = .disabled)

theorem getElem?_enableLink (h : s.fabric.links[l]? = some x) :
    ∃ y, (enableLink old ok s l).fabric.links[l]? = some y ∧ followsEnable old ok l x y := by
  have hLink := link_of_getElem? h
  by_cases hOk : natBit ok l = true
  · by_cases hSt : x.st = .disabled
    · have hSet : (s.updLink l (fun x => { x with single := false, fails := 0 })).fabric.links[l]?
          = some { x with single := false, fails := 0 } := by rw [getElem?_updLink, h, Option.map_some]
      refine ⟨({ x with single := false, fails := 0 } : Link).left .detect 2 s.now, ?_, fun _ _ => rfl, fun _ hNe => absurd hSt hNe,
        fun hNo => ?_⟩
      · rw [enableLink, if_pos hOk, hLink, if_pos (beq_iff_eq.mpr hSt)]
        exact getElem?_startDetect hSet
      · exact absurd hOk (by simp [hNo])
    · refine ⟨x, ?_, fun _ hSt' => absurd hSt' hSt, fun _ _ => rfl, fun hNo => absurd hOk (by simp [hNo])⟩
      simp [enableLink, hOk, hLink, hSt, h]
  · by_cases hOld : natBit old l = true ∧ x.st ≠ .disabled
    · refine ⟨x.left .disabled 0 s.now, ?_, fun hYes => absurd hYes hOk, fun hYes => absurd hYes hOk, fun _ _ => rfl⟩
      have hLeaves : (natBit old l && x.st != .disabled) = true := by simpa using hOld
      simp only [enableLink, if_neg hOk, hLink, if_pos hLeaves]
      exact getElem?_leaveTo h ..
    · refine ⟨x, ?_, fun hYes => absurd hYes hOk, fun hYes => absurd hYes hOk, fun _ hYes => ?_⟩
      · have hStays : ¬ (natBit old l && x.st != .disabled) = true := by simpa using hOld
        simp only [enableLink, if_neg hOk, hLink, if_neg hStays, h]
      · exact Classical.not_not.mp fun hSt => hOld ⟨hYes, hSt⟩

theorem getElem?_foldl_enableLink_of_notMem (ls : List Nat) (h : k ∉ ls) (s : State) :
    (ls.foldl (enableLink old ok) s).fabric.links[k]? = s.fabric.links[k]? := by
  induction ls generalizing s with
  | nil => rfl
  | cons a ls ih =>
    obtain ⟨hNe, hRest⟩ := List.ne_and_not_mem_of_not_mem_cons h
    rw [List.foldl_cons, ih hRest, getElem?_enableLink_ne hNe]

theorem getElem?_foldl_enableLink (ls : List Nat) (hOnce : ls.Nodup) (hl : l ∈ ls) (s : State) (h : s.fabric.links[l]? = some x) :
    ∃ y, (ls.foldl (enableLink old ok) s).fabric.links[l]? = some y ∧ followsEnable old ok l x y := by
  induction ls generalizing s with
  | nil => exact absurd hl List.not_mem_nil
  | cons a ls ih =>
    obtain ⟨hNew, hRest⟩ := List.nodup_cons.mp hOnce
    rw [List.foldl_cons]
    by_cases hHead : l = a
    · subst hHead
      rw [getElem?_foldl_enableLink_of_notMem ls hNew]
      exact getElem?_enableLink h
    · exact ih hRest ((List.mem_cons.mp hl).resolve_left hHead) _ ((getElem?_enableLink_ne hHead).trans h)

theorem foldl_enableLink_linkEn (ls : List Nat) (s : State) : (ls.foldl (enableLink old ok) s).fabric.linkEn = s.fabric.linkEn := by
  induction ls generalizing s with
  | nil => rfl
  | cons a ls ih => rw [List.foldl_cons, ih, enableLink_linkEn]

end

/-- SET_FABRIC enables the links that the part has and tells where the request asked for more. -/
theorem setFabricDo_eq (ok : Nat) (hOk : leAt r.payload 1 1 % 64 &&& s.sys.fuses.links = ok) :
    ∃ u v p, setFabricDo r s = answer v r p (if leAt r.payload 1 1 % 64 = ok then [] else [(1, 6, ok)])
      ∧ v = (List.range 6).foldl (enableLink s.fabric.linkEn ok) u
      ∧ u.fabric = { s.fabric with linkEn := ok } := by
  subst hOk
  refine ⟨(storeSetting s 0x6C (leBytes 1 (leAt r.payload 0 1) ++ leBytes 1 (leAt r.payload 1 1 % 64 &&& s.sys.fuses.links))).updFab
    (fun x => { x with linkEn := leAt r.payload 1 1 % 64 &&& s.sys.fuses.links }), _, _, rfl, ?_, by simp⟩
  have hOld : (storeSetting s 0x6C (leBytes 1 (leAt r.payload 0 1) ++ leBytes 1 (leAt r.payload 1 1 % 64 &&& s.sys.fuses.links))).fabric
      = s.fabric := by simp
  rw [← hOld]
  rfl

/-! ### LINK_RETRAIN (18 R421) -/

theorem linkRetrainDo_of_none (h : 6 ≤ byteAt r.payload 0 ∨ natBit s.sys.fuses.links (byteAt r.payload 0) = false) :
    linkRetrainDo r s = noObject s r := by
  have hNone : (decide (6 ≤ byteAt r.payload 0) || !natBit s.sys.fuses.links (byteAt r.payload 0)) = true := by simpa using h
  simp only [linkRetrainDo, leAt_one, if_pos hNone]

theorem linkRetrainDo_of_there {x : Link} (hLow : byteAt r.payload 0 < 6)
    (hFused : natBit s.sys.fuses.links (byteAt r.payload 0) = true) (hx : s.fabric.links[byteAt r.payload 0]? = some x) :
    ∃ u y, linkRetrainDo r s = answer u r [] ∧ u.fabric.links[byteAt r.payload 0]? = some y ∧ y.capW = 4 ∧ y.capRate = 1
      ∧ y.st = if x.st = .up then .detect else x.st := by
  have hThere : ¬ (decide (6 ≤ byteAt r.payload 0) || !natBit s.sys.fuses.links (byteAt r.payload 0)) = true := by simp [hFused, hLow]
  have hCaps : (s.updLink (byteAt r.payload 0) (fun x => { x with capW := 4, capRate := 1 })).fabric.links[byteAt r.payload 0]?
      = some { x with capW := 4, capRate := 1 } := by rw [getElem?_updLink, hx, Option.map_some]
  simp only [linkRetrainDo, leAt_one, if_neg hThere, link_of_getElem? hCaps]
  by_cases hUp : x.st = .up
  · have hRound : ((s.updLink (byteAt r.payload 0) (fun x => { x with capW := 4, capRate := 1 })).updLink (byteAt r.payload 0)
        (fun x => { x with single := false, fails := 0 })).fabric.links[byteAt r.payload 0]?
        = some { x with capW := 4, capRate := 1, single := false, fails := 0 } := by
      rw [getElem?_updLink, hCaps, Option.map_some]
    rw [if_pos (beq_iff_eq.mpr hUp), if_pos hUp]
    exact ⟨_, _, rfl, getElem?_startDetect hRound, rfl, rfl, rfl⟩
  · rw [if_neg (by simpa using hUp), if_neg hUp]
    exact ⟨_, _, rfl, hCaps, rfl, rfl, rfl⟩

end

/-! ### The obligation -/

/-- Settles O42: each command is executed as its own lemma above says. -/
theorem fabricCommandsExecute : Obligations.FabricCommandsExecute := by
  intro s t r hReady
  refine ⟨fun h hPlain => ?status, fun h hLen hBulk => ?routes, fun h hPlain h0 => ?set, fun h hPlain h0 => ?retrain⟩
  case status =>
    have hRow := exec_of_granted (exec_fabricStatus t s) h hPlain rfl (fabricReady_begun.trans hReady)
    obtain ⟨u, p, hDo, hHead⟩ := fabricStatusDo_eq (s := begun s t 0x0901) (r := r)
    refine ⟨_, hDo ▸ hRow, answersSo_mono (answersSo_served_plain u) fun m hm => ?_⟩
    have hCount := nodeCount_of_fabric (fabric_begun (s := s) (t := t) (op := 0x0901))
    cases hLease : s.fabric.lease <;> simp only [hm, hHead, hCount, fabric_begun, begun_now, hLease]
  case routes =>
    have hRow := exec_of_granted (exec_routes t s) h (by simp [hLen, hBulk]) rfl (fabricReady_begun.trans hReady)
    rw [hRow, routesDo, fabric_begun]
  case set =>
    have hRow := exec_of_granted (exec_setFabric t s) h hPlain (beq_iff_eq.mpr h0) (fabricReady_begun.trans hReady)
    intro ok
    obtain ⟨u, v, p, hDo, hv, hFab⟩ := setFabricDo_eq (s := begun s t 0x0910) (r := r) ok (by rw [begun_sys])
    rw [fabric_begun] at hv hFab
    refine ⟨_, hDo ▸ hRow, ?_, ?_, fun l x hl hx => ?_⟩
    · rw [served_fabric, answer_fabric, hv, foldl_enableLink_linkEn, hFab]
    · have hAnswer := answersSo_served_answer v r p (if leAt r.payload 1 1 % 64 = ok then [] else [(1, 6, ok)]) []
      have hStatus : (if (if leAt r.payload 1 1 % 64 = ok then ([] : List ClampEntry) else [(1, 6, ok)]).isEmpty then 0 else 1)
          = if leAt r.payload 1 1 % 64 = ok then 0 else 1 := by split <;> rfl
      exact answersSo_mono (hStatus ▸ hAnswer) fun _ _ => trivial
    · obtain ⟨y, hy, hDown, hStays, hUp⟩ := getElem?_foldl_enableLink (old := s.fabric.linkEn) (ok := ok) (List.range 6)
        List.nodup_range (List.mem_range.mpr hl) u (by rw [hFab]; exact hx)
      exact ⟨y, by rw [served_fabric, answer_fabric, hv, hy], hDown, hStays, hUp⟩
  case retrain =>
    have hRow := exec_of_granted (exec_linkRetrain t s) h hPlain (beq_iff_eq.mpr h0) (fabricReady_begun.trans hReady)
    refine ⟨fun hNone => ?_, fun hLow hFused x hx => ?_⟩
    · rw [hRow, linkRetrainDo_of_none (by rwa [begun_sys])]
    · obtain ⟨u, y, hDo, hy, hW, hRate, hSt⟩ := linkRetrainDo_of_there (s := begun s t 0x0911) hLow (by rwa [begun_sys])
        (by rw [fabric_begun]; exact hx)
      exact ⟨_, y, hDo ▸ hRow, answersWith_served_answer .., by rw [served_fabric, answer_fabric, hy], hW, hRate, hSt⟩

end Sys2Proof.Machine
end

section
/-! Link training (18 R417, R419 to R421). -/

namespace Sys2Proof.Machine

section
variable {s : State} {l : Nat} {x : Link}

/-! ### Rounds that fail (18 R420) -/

theorem failRound_again (h : s.fabric.links[l]? = some x) (hMany : x.single = false) (hFew : x.fails < 2) :
    (failRound s l).fabric.links[l]? = some (({ x with fails := x.fails + 1 } : Link).left .detect 2 s.now) := by
  have hMore : ¬ 3 ≤ x.fails + 1 := by omega
  have hCount : (s.updLink l (fun x => { x with fails := x.fails + 1 })).fabric.links[l]? = some { x with fails := x.fails + 1 } := by
    rw [getElem?_updLink, h, Option.map_some]
  unfold failRound
  dsimp only
  rw [link_of_getElem? h, if_neg (by simp [hMany]), if_neg hMore]
  exact getElem?_startDetect hCount

/-- A link that has gone DOWN. -/
def Link.downed (x : Link) (now_ : Nat) : Link :=
  { x.left .down 0 now_ with retryAt := now_ + ms 10000, capW := 4, capRate := 1, single := false, fails := 0 }

theorem downed_retryAt (x : Link) (n : Nat) : (x.downed n).retryAt = n + 480000000 := by simp [Link.downed, ms]

theorem getElem?_enterDown (h : s.fabric.links[l]? = some x) : (enterDown s l).fabric.links[l]? = some (x.downed s.now) := by
  rw [enterDown, getElem?_updLink, getElem?_leaveTo h, Option.map_some]
  rfl

/-- A single round, or the third one that fails, ends DOWN. -/
theorem failRound_down (h : s.fabric.links[l]? = some x) (hLast : x.single = true ∨ 2 ≤ x.fails) :
    (failRound s l).fabric.links[l]? = some (x.downed s.now) := by
  simp only [failRound, link_of_getElem? h]
  split
  next => exact getElem?_enterDown h
  next hMany =>
    have hThird : 3 ≤ x.fails + 1 := by
      have := hLast.resolve_left hMany
      omega
    rw [if_pos hThird]
    simpa [linkDown] using getElem?_enterDown h

/-! ### Rounds that start -/

theorem getElem?_retrain (h : s.fabric.links[l]? = some x) :
    (retrain s l).fabric.links[l]? = some (({ x with single := false, fails := 0 } : Link).left .detect 2 s.now) := by
  have hSet : (s.updLink l (fun x => { x with single := false, fails := 0 })).fabric.links[l]?
      = some { x with single := false, fails := 0 } := by rw [getElem?_updLink, h, Option.map_some]
  exact getElem?_startDetect hSet

theorem getElem?_singleRound (h : s.fabric.links[l]? = some x) :
    (singleRound l s).fabric.links[l]? = some (({ x with single := true, fails := 0 } : Link).left .detect 2 s.now) := by
  have hSet : (s.updLink l (fun x => { x with single := true, fails := 0 })).fabric.links[l]?
      = some { x with single := true, fails := 0 } := by rw [getElem?_updLink, h, Option.map_some]
  exact getElem?_startDetect hSet

/-- A link that was UP tells the others that it is gone. -/
theorem leaveTo_helloWant (h : s.fabric.links[l]? = some x) (hUp : x.st = .up) (st : LinkSt) (rate : Nat) :
    (leaveTo s l st rate).fabric.helloWant = true := by
  simp only [leaveTo, link_of_getElem? h, hUp, beq_self_eq_true, if_true]
  rfl

theorem listsChanged_dirty (s : State) : (listsChanged s).fabric.dirty.isSome = true := by
  rw [listsChanged]
  dsimp only [State.updFab]
  split <;> rfl

theorem retrain_helloWant (h : s.fabric.links[l]? = some x) (hUp : x.st = .up) : (retrain s l).fabric.helloWant = true := by
  have hSet : (s.updLink l (fun x => { x with single := false, fails := 0 })).fabric.links[l]?
      = some { x with single := false, fails := 0 } := by rw [getElem?_updLink, h, Option.map_some]
  exact leaveTo_helloWant hSet hUp ..

/-! ### EXCHANGE (18 R419) -/

theorem mem_out_emitTraining_of_mem {o : Output} (h : o ∈ s.out) (lock st go : Nat) : o ∈ (emitTraining s l lock st go).out := by
  simp [emitTraining, List.range_succ, h]

theorem mem_out_emitTraining {lane : Nat} (hLane : lane < 4) (lock st go : Nat) :
    .training l lane (trainingBlock s lane lock st (b2n ((s.link l).capRate == 1)) go) ∈ (emitTraining s l lock st go).out := by
  have hFold (u : State) (o : Output) : o ∈ (u.emit o).out := by simp
  interval_cases lane <;> simp [emitTraining, List.range_succ, trainingBlock, ownSerial]

/-- Blocks with every GO value of a list have left on every lane. -/
theorem mem_out_foldl_emitTraining {gos : List Nat} {lane go : Nat} (hLane : lane < 4) (hGo : go ∈ gos) (lock st : Nat) (s : State) :
    .training l lane (trainingBlock s lane lock st (b2n ((s.link l).capRate == 1)) go)
      ∈ (gos.foldl (fun s go => emitTraining s l lock st go) s).out := by
  have hKeeps (gos : List Nat) (s : State) (o : Output) (h : o ∈ s.out) :
      o ∈ (gos.foldl (fun s go => emitTraining s l lock st go) s).out := by
    induction gos generalizing s with
    | nil => exact h
    | cons a gos ih => exact ih _ (mem_out_emitTraining_of_mem h ..)
  induction gos generalizing s with
  | nil => exact absurd hGo List.not_mem_nil
  | cons a gos ih =>
    rcases List.mem_cons.mp hGo with rfl | hRest
    · exact hKeeps gos _ _ (mem_out_emitTraining hLane ..)
    · have hSame : (emitTraining s l lock st a).sys = s.sys ∧ (emitTraining s l lock st a).fabric = s.fabric := by simp
      have hTail := ih hRest (emitTraining s l lock st a)
      rw [List.foldl_cons]
      simpa only [trainingBlock, ownSerial, State.link, hSame] using hTail

theorem foldl_emitTraining_fabric (gos : List Nat) (lock st : Nat) (s : State) :
    (gos.foldl (fun s go => emitTraining s l lock st go) s).fabric = s.fabric := by
  induction gos generalizing s with
  | nil => rfl
  | cons a gos ih =>
    rw [List.foldl_cons, ih]
    simp

theorem foldl_emitTraining_now (gos : List Nat) (lock st : Nat) (s : State) :
    (gos.foldl (fun s go => emitTraining s l lock st go) s).now = s.now := by
  induction gos generalizing s with
  | nil => rfl
  | cons a gos ih =>
    rw [List.foldl_cons, ih]
    simp

/-! ### ALIGN (18 R419, R421) -/

theorem mem_upLinks (h : s.fabric.links[l]? = some x) : l ∈ upLinks s ↔ l < 6 ∧ x.st = .up := by
  simp [upLinks, link_of_getElem? h]

/-- A link that has come UP is told of, and the node is alone no longer. -/
theorem tellUp_fabric (h : s.fabric.links[l]? = some x) (hl : l < 6) (hUp : x.st = .up) :
    ∃ d, (linkState (countAlone (linkChanged s)) l).fabric = { s.fabric with helloWant := true, dirty := d, aloneSince := none } := by
  have hSome : (upLinks (linkChanged s)).isEmpty = false :=
    List.isEmpty_eq_false_iff.mpr (List.ne_nil_of_mem ((mem_upLinks (s := linkChanged s) h).mpr ⟨hl, hUp⟩))
  have hTold : (linkState (countAlone (linkChanged s)) l).fabric = (countAlone (linkChanged s)).fabric := by simp
  rw [hTold]
  simp only [countAlone, hSome]
  exact ⟨_, rfl⟩

section
variable {own : Nat} {last : BitVec 56} {seen : List (Option (BitVec 56))} (h : s.fabric.links[l]? = some x)
include h

theorem alignDo_lower (hNone : linkLanes x.capW (commonMask own last seen) = 0) (hRate : x.rate = 1) :
    (alignDo l own last seen s).fabric.links[l]? = some { x with rate := 2, since := s.now } := by
  have hSent : (emitTraining s l own 4 0).fabric = s.fabric := by simp
  have hNow : (emitTraining s l own 4 0).now = s.now := by simp
  have hx : (emitTraining s l own 4 0).fabric.links[l]? = some x := by rw [hSent, h]
  simp only [alignDo, link_of_getElem? hx, if_pos hNone, if_pos hRate]
  rw [getElem?_updLink, hx, Option.map_some, hNow]

theorem alignDo_fails (hNone : linkLanes x.capW (commonMask own last seen) = 0) (hRate : x.rate ≠ 1) :
    alignDo l own last seen s = failRound (emitTraining s l own 4 0) l := by
  have hSent : (emitTraining s l own 4 0).fabric = s.fabric := by simp
  have hx : (emitTraining s l own 4 0).fabric.links[l]? = some x := by rw [hSent, h]
  simp only [alignDo, link_of_getElem? hx, if_pos hNone, if_neg hRate]

/-- A link that has come UP on some lanes. -/
def Link.upped (x : Link) (lanes now_ : Nat) : Link :=
  { x with
    st := .up, since := now_, width := popCount lanes 4, lanes := lanes, capW := popCount lanes 4, capRate := x.rate, single := false
    fails := 0, neigh := none, neighAt := now_, dropped := false }

theorem alignDo_up {m : Nat} (hl : l < 6) (hm : linkLanes x.capW (commonMask own last seen) = m) (hSome : m ≠ 0) :
    (alignDo l own last seen s).fabric.links[l]? = some (x.upped m s.now)
      ∧ (alignDo l own last seen s).fabric.helloWant = true ∧ (alignDo l own last seen s).fabric.aloneSince = none := by
  have hSent : (emitTraining s l own 4 0).fabric = s.fabric := by simp
  have hNow : (emitTraining s l own 4 0).now = s.now := by simp
  have hx : (emitTraining s l own 4 0).fabric.links[l]? = some x := by rw [hSent, h]
  have hSet : ((emitTraining s l own 4 0).updLink l fun x => x.upped m s.now).fabric.links[l]? = some (x.upped m s.now) := by
    rw [getElem?_updLink, hx, Option.map_some]
  obtain ⟨d, hTold⟩ := tellUp_fabric hSet hl rfl
  unfold alignDo
  dsimp only
  rw [link_of_getElem? hx, hm, if_neg hSome, hNow]
  change (linkState (countAlone (linkChanged ((emitTraining s l own 4 0).updLink l fun x => { x with
      st := .up, since := s.now, width := popCount m 4, lanes := m, capW := popCount m 4, capRate := x.rate, single := false
      fails := 0, neigh := none, neighAt := s.now, dropped := false }))) l).fabric = _ at hTold
  revert hTold
  generalize linkState (countAlone (linkChanged ((emitTraining s l own 4 0).updLink l _))) l = v
  intro hTold
  have hEnd : v.fabric.links[l]? = some (x.upped m s.now) ∧ v.fabric.helloWant = true ∧ v.fabric.aloneSince = none := by
    rw [hTold]
    exact ⟨hSet, rfl, rfl⟩
  (repeat' split) <;> exact hEnd

end

/-! ### Rows -/

theorem gives_of_row {i : Instr} {t : Nat} {l : Fin 6} {st : LinkSt} {c : State → Bool} {f : State → State} {y : Link}
    {w : Link → State → Prop} (hExec : exec i s = .next (linkRow t l st c f s)) (hUp : s.shellUp = true)
    (hx : s.fabric.links[l.val]? = some x) (hSt : x.st = st) (hCond : c (s.at t) = true)
    (hy : (f (s.at t)).fabric.links[l.val]? = some y) (hw : w y (finish (f (s.at t)))) :
    ∃ u y, exec i s = .next u ∧ u.fabric.links[l.val]? = some y ∧ w y u := by
  have hLink : (s.at t).link l = x := link_of_getElem? hx
  have hHolds : (((s.at t).link l).st == st && c (s.at t)) = true := by simp [hLink, hSt, hCond]
  exact ⟨_, y, exec_of_row hExec hUp hHolds, by simpa using hy, hw⟩

end

/-- Settles O39: each row holds in its state, and its lemma above says what link it leaves. -/
theorem linksTrain : Obligations.LinksTrain := by
  intro s t l x hUp hx
  have hxAt : (s.at t).fabric.links[l.val]? = some x := hx
  have hLink : (s.at t).link l = x := link_of_getElem? hx
  intro now gives
  have hAged {n k : Nat} (hn : ms n = k) (h : x.since + k ≤ now) : linkAge l (ms n) (s.at t) = true := by
    rw [linkAge, hLink, hn]
    exact decide_eq_true h
  refine ⟨fun b hSt hTrain hSer => ?detect, fun hSt hAge => ⟨fun hMany hFew => ?again, fun hMany hLast => ?third, fun hOne => ?single⟩,
    fun hSt hAge hMany hFew => ?limit, fun b hSt hTrain hThree => ?exchange,
    fun own last lanes hSt hAge hTrain => ⟨fun hSome => ?up, fun hNone hRate => ?lower, fun hNone hRate hMany hFew => ?fails⟩,
    fun hSt hRetry => ?retry, fun b hSt hTrain hSer => ?wake, fun lane n i hSt hActive hWhy => ?retrain,
    fun hSt hNeigh hIn hSilent => ?silent⟩
  case detect =>
    have hOther : otherSer b (s.at t) = true := by simpa [otherSer, hTrain, ownSerial] using hSer
    refine gives_of_row (y := { x with st := .exchange, since := now }) (exec_linkDetectDone t l b s) hUp hx hSt hOther ?_ rfl
    rw [detectDoneDo, getElem?_updLink, hxAt, Option.map_some]
    rfl
  case again =>
    exact gives_of_row (exec_linkDetectTimeout t l s) hUp hx hSt (hAged (k := 384000) rfl hAge) (failRound_again hxAt hMany hFew) ⟨rfl, rfl, rfl⟩
  case third =>
    exact gives_of_row (exec_linkDetectTimeout t l s) hUp hx hSt (hAged (k := 384000) rfl hAge) (failRound_down hxAt (.inr hLast)) ⟨rfl, downed_retryAt ..⟩
  case single =>
    exact gives_of_row (exec_linkDetectTimeout t l s) hUp hx hSt (hAged (k := 384000) rfl hAge) (failRound_down hxAt (.inl hOne)) ⟨rfl, downed_retryAt ..⟩
  case limit =>
    exact gives_of_row (exec_exchangeLimitExpiry t l s) hUp hx hSt (hAged (k := 48000) rfl hAge) (failRound_again hxAt hMany hFew) ⟨rfl, rfl⟩
  case exchange =>
    have hState : ofState b 3 = true := by simp [ofState, hTrain, hThree]
    have hxSent (lock : Nat) : ((List.range 8).foldl (fun s go => emitTraining s l lock 3 go) (s.at t).draw.2).fabric.links[l.val]?
        = some x := by rw [foldl_emitTraining_fabric]; exact hx
    have hNowSent (lock : Nat) : ((List.range 8).foldl (fun s go => emitTraining s l lock 3 go) (s.at t).draw.2).now = now := by
      rw [foldl_emitTraining_now]; rfl
    refine gives_of_row (y := { x with st := .align, since := now, rate := if blkHi b && x.capRate == 1 then 1 else 2 })
      (exec_linkExchangeDone t l b s) hUp hx hSt hState ?_ ⟨?_, (s.at t).draw.1 % 16, fun go lane hGo hLane => mem_out_finish ?_⟩
    · rw [exchangeDoneDo, getElem?_updLink, hxSent, Option.map_some, hNowSent]
    · simp
    · have hOut := mem_out_foldl_emitTraining (l := l) hLane (List.mem_range.mpr hGo) ((s.at t).draw.1 % 16) 3 (s.at t).draw.2
      have hHi : ((s.at t).draw.2.link l).capRate = x.capRate := congrArg Link.capRate hLink
      rw [hHi] at hOut
      exact hOut
  case up =>
    have hCond : (linkAge l (ms 2) (s.at t) && isTraining last) = true := by rw [hAged (n := 2) (k := 96000) rfl hAge, hTrain]; rfl
    obtain ⟨hy, hWant, hAlone⟩ := alignDo_up hxAt l.isLt rfl hSome
    refine gives_of_row (exec_linkAlignEvaluate t l own last lanes s) hUp hx hSt hCond hy ⟨rfl, rfl, rfl, rfl, rfl, rfl, ?_, ?_⟩
    · simpa using hWant
    · simpa using hAlone
  case lower =>
    have hCond : (linkAge l (ms 2) (s.at t) && isTraining last) = true := by rw [hAged (n := 2) (k := 96000) rfl hAge, hTrain]; rfl
    exact gives_of_row (exec_linkAlignEvaluate t l own last lanes s) hUp hx hSt hCond (alignDo_lower hxAt hNone hRate) rfl
  case fails =>
    have hCond : (linkAge l (ms 2) (s.at t) && isTraining last) = true := by rw [hAged (n := 2) (k := 96000) rfl hAge, hTrain]; rfl
    have hxSent : (emitTraining (s.at t) l own.toNat 4 0).fabric.links[l.val]? = some x := by simpa using hxAt
    have hFails := failRound_again hxSent hMany hFew
    rw [← alignDo_fails hxAt hNone hRate] at hFails
    exact gives_of_row (exec_linkAlignEvaluate t l own last lanes s) hUp hx hSt hCond hFails ⟨rfl, rfl⟩
  case retry =>
    have hDue : decide (((s.at t).link l).retryAt ≤ (s.at t).now + ms 50) = true := by
      have hSoon : ms 50 = 2400000 := rfl
      rw [hLink, hSoon]
      exact decide_eq_true hRetry
    exact gives_of_row (exec_linkRetry t l s) hUp hx hSt hDue (getElem?_singleRound hxAt) ⟨rfl, rfl⟩
  case wake =>
    have hOther : otherSer b (s.at t) = true := by simpa [otherSer, hTrain, ownSerial] using hSer
    exact gives_of_row (exec_trainingBlockWake t l b s) hUp hx hSt hOther (getElem?_singleRound hxAt) ⟨rfl, rfl⟩
  case retrain =>
    have hWant : (finish (retrain (s.at t) l)).fabric.helloWant = true := by simpa using retrain_helloWant hxAt hSt
    have hLane : laneActive l lane (s.at t) = true := by rw [laneActive, hLink, hActive]
    rcases hWhy with ⟨rfl, hLasted⟩ | ⟨rfl, hMany⟩
    · have hCond : (laneActive l lane (s.at t) && decide (ms 1 ≤ n)) = true := by
        rw [hLane, show ms 1 = 48000 from rfl]
        exact decide_eq_true hLasted
      exact gives_of_row (exec_linkLockLoss t l lane n s) hUp hx hSt hCond (getElem?_retrain hxAt) ⟨rfl, rfl, rfl, rfl, rfl, hWant⟩
    · have hCond : (laneActive l lane (s.at t) && decide (16 < n)) = true := by rw [hLane]; exact decide_eq_true hMany
      exact gives_of_row (exec_linkSyncErrors t l lane n s) hUp hx hSt hCond (getElem?_retrain hxAt) ⟨rfl, rfl, rfl, rfl, rfl, hWant⟩
  case silent =>
    have hCond : (((s.at t).link l).neigh.isSome && !((s.at t).link l).dropped && decide (((s.at t).link l).neighAt + ms 300 ≤ (s.at t).now))
        = true := by
      have hLong : ms 300 = 14400000 := rfl
      have hPast : decide (x.neighAt + 14400000 ≤ (s.at t).now) = true := decide_eq_true hSilent
      rw [hLink, hNeigh, hIn, hLong, hPast]
      rfl
    refine gives_of_row (y := { x with dropped := true }) (exec_neighSilent t l s) hUp hx hSt hCond ?_ ⟨rfl, ?_, ?_⟩
    · simp [neighSilentDo, linkChanged, listsChanged, hx]
    · simp [neighSilentDo, linkChanged, listsChanged]
    · simpa [neighSilentDo, linkChanged] using listsChanged_dirty _

end Sys2Proof.Machine
end

section
/-! Frames that arrive on a fabric link (18 R422 to R425, R427 to R429, R431, R435). -/

namespace Sys2Proof.Machine

section
variable {s : State} {l : Nat} {x : Link} {b : List Byte}

/-! ### A frame comes in (18 R422) -/

section
variable (hx : s.fabric.links[l]? = some x) (hUp : x.st = .up)
include hx hUp

/-- A damaged frame is counted. -/
theorem fabIn_of_bad (hBad : frameOk b = false) (kind : State → Fab → Bool) (k : Fab → State → State) :
    fabIn l b kind k s = s.updLink l (fun x => { x with errors := x.errors + 1 }) := by
  simp [fabIn, link_of_getElem? hx, hUp, hBad]

theorem fabIn_of_good (hGood : frameOk b = true) {kind : State → Fab → Bool} (hKind : kind s (fabOf b) = true)
    (k : Fab → State → State) : fabIn l b kind k s = k (fabOf b) s := by
  simp [fabIn, link_of_getElem? hx, hUp, hGood, hKind]

end

/-! ### Floods (18 R423, R424) -/

/-- The serial's flood is noted at its time. -/
def heardFlood (s : State) (serial : Nat) : State := s.updFab (fun x => { x with floodAt := putSerial x.floodAt serial s.now })
/-- A new flood's SEQ is held. -/
def notedFlood (s : State) (f : Fab) : State :=
  (heardFlood s f.serial).updFab (fun x => { x with
    seqs := x.seqs.filter (fun e => !(e.serial == f.serial && e.type == f.type)) ++ [{ serial := f.serial, type := f.type, seq := f.seq }] })
/-- The frame that goes on, its TTL one less. -/
def onward (f : Fab) : List Byte := fabFrame f.type f.flags f.src f.dst (f.ttl - 1) f.serial f.seq f.payload

section
variable {f : Fab} {k : Fab → State → State} (hOther : f.serial ≠ ownSerial s)
include hOther

theorem takeFlood_of_new (hNew : ∀ q, heldSeq s f.serial f.type = some q → newer q f.seq = true) :
    takeFlood l k f s = if f.ttl ≤ 1 then k f (notedFlood s f)
      else emitOn (k f (notedFlood s f)) ((upLinks (k f (notedFlood s f))).filter (fun x => x != l)) (onward f) := by
  unfold takeFlood
  rw [if_neg hOther]
  refine (if_neg ?_).trans rfl
  have hSame : heldSeq (s.updFab fun x => { x with floodAt := putSerial x.floodAt f.serial s.now }) f.serial f.type
      = heldSeq s f.serial f.type := rfl
  rw [hSame]
  cases hHeld : heldSeq s f.serial f.type with
  | none => simp
  | some q => simp [hNew q hHeld]

theorem takeFlood_of_old {q : Nat} (hHeld : heldSeq s f.serial f.type = some q) (hOld : newer q f.seq = false) :
    takeFlood l k f s = heardFlood s f.serial := by
  have hAt : heldSeq (heardFlood s f.serial) f.serial f.type = some q := hHeld
  unfold takeFlood
  rw [if_neg hOther]
  simp only [heardFlood] at hAt
  simp only [hAt, hOld, Bool.not_false, if_true]
  rfl

end

/-- The SEQ of a flood that was noted is held. -/
theorem heldSeq_of_noted {u : State} {f : Fab} (h : u.fabric.seqs = (notedFlood s f).fabric.seqs) :
    heldSeq u f.serial f.type = some f.seq := by
  have hNone : (s.fabric.seqs.filter (fun e => !(e.serial == f.serial && e.type == f.type))).find?
      (fun e => e.serial == f.serial && e.type == f.type) = none := by
    rw [List.find?_eq_none]
    intro e he
    simpa [imp_iff_not_or] using (List.mem_filter.mp he).2
  have hSeqs : (notedFlood s f).fabric.seqs = s.fabric.seqs.filter (fun e => !(e.serial == f.serial && e.type == f.type))
      ++ [{ serial := f.serial, type := f.type, seq := f.seq }] := rfl
  rw [heldSeq, h, hSeqs, List.find?_append, hNone]
  simp

theorem emitOn_out (ls : List Nat) (b : List Byte) (s : State) : (emitOn s ls b).out = s.out ++ ls.map (fun l => .fabric l b) := by
  unfold emitOn
  induction ls generalizing s with
  | nil => simp
  | cons a ls ih =>
    rw [List.foldl_cons, ih]
    simp

/-! ### What the rows keep of links and floods -/

/-- Links and the floods held are as they were. -/
def KeepsFlow (s u : State) : Prop := u.fabric.links = s.fabric.links ∧ u.fabric.seqs = s.fabric.seqs

theorem KeepsFlow.trans {u v : State} (h : KeepsFlow s u) (h' : KeepsFlow u v) : KeepsFlow s v := ⟨h'.1.trans h.1, h'.2.trans h.2⟩
theorem keepsFlow_hear (serial prio : Nat) : KeepsFlow s (hear s serial prio) := by
  unfold hear
  split <;> exact ⟨rfl, rfl⟩
theorem keepsFlow_listsChanged : KeepsFlow s (listsChanged s) := ⟨rfl, rfl⟩
theorem keepsFlow_giveId (serial : Nat) : KeepsFlow s (giveId s serial) := by
  unfold giveId fabricFull
  (repeat' split) <;> simp [KeepsFlow, listsChanged]
theorem keepsFlow_setManager (id : Nat) : KeepsFlow s (setManager s id) := by
  unfold setManager
  dsimp only
  split <;> simp [KeepsFlow]
theorem keepsFlow_follow (serial : Nat) (b : List Byte) : KeepsFlow s (follow s serial b) := by
  unfold follow
  dsimp only
  refine KeepsFlow.trans ?_ (keepsFlow_setManager _)
  split <;> exact ⟨rfl, rfl⟩
theorem keepsFlow_takeBeacon (serial : Nat) (b : List Byte) : KeepsFlow s (takeBeacon s serial b) := by
  unfold takeBeacon
  dsimp only
  (repeat' split)
  · exact ⟨rfl, rfl⟩
  · exact keepsFlow_follow ..
  · exact ⟨rfl, rfl⟩
  · exact ⟨rfl, rfl⟩
  · exact keepsFlow_follow ..
  · exact keepsFlow_follow ..
  · exact ⟨rfl, rfl⟩

/-! ### HELLO (18 R427, R429) -/

/-- Where fewer than 64 nodes have an ID, one is free. -/
theorem exists_free_id {table : List (Nat × Nat)} (h : table.length < 64) :
    ∃ i, (List.range 64).find? (fun i => !table.any (fun e => e.2 == i)) = some i := by
  rw [← Option.isSome_iff_exists, List.find?_isSome]
  by_contra hAll
  have hIds : List.range 64 ⊆ table.map (fun e => e.2) := by
    intro i hi
    have hTaken : table.any (fun e => e.2 == i) = true := by
      simpa using fun hFree => hAll ⟨i, hi, hFree⟩
    obtain ⟨e, he, hId⟩ := List.any_eq_true.mp hTaken
    exact List.mem_map.mpr ⟨e, he, beq_iff_eq.mp hId⟩
  have hCount := (List.nodup_range.subperm hIds).length_le
  rw [List.length_range, List.length_map] at hCount
  omega

/-- The manager gives an ID to a serial that has none. -/
theorem giveId_gives {serial : Nat} (hRole : s.fabric.role = .manager) (hNone : s.fabric.table_.any (fun e => e.1 == serial) = false)
    (hRoom : s.fabric.table_.length < 64) : (giveId s serial).fabric.table_.any (fun e => e.1 == serial) = true := by
  obtain ⟨i, hFree⟩ := exists_free_id hRoom
  have hMay : ¬ (s.fabric.role != .manager || s.fabric.table_.any (fun e => e.1 == serial)) = true := by simp [hRole, hNone]
  unfold giveId
  rw [if_neg hMay]
  simp [hFree, listsChanged]

theorem giveId_lists (serial : Nat) : (giveId s serial).fabric.lists = s.fabric.lists := by
  unfold giveId fabricFull
  (repeat' split) <;> simp [listsChanged]

theorem hear_fabric (serial prio : Nat) : ∃ h, (hear s serial prio).fabric = { s.fabric with heard := h } := by
  unfold hear
  split
  · exact ⟨_, rfl⟩
  · exact ⟨_, rfl⟩

/-- What a HELLO says of its sender. -/
def helloOf (f : Fab) (now_ : Nat) : Hello :=
  { serial := f.serial, prio := leAt f.payload 0 1, role := leAt f.payload 1 1, node := leAt f.payload 2 1, at_ := now_
    links := helloLinks f.payload }
/-- The node with that HELLO held. -/
def holdHello (s : State) (f : Fab) : State :=
  s.updFab (fun x => { x with lists := x.lists.filter (fun y => y.serial != f.serial) ++ [helloOf f s.now] })

/-- A HELLO is held, its sender heard and given an ID; then, where its links are news, the lists have changed. -/
theorem helloDo_eq (f : Fab) : helloDo f s = giveId (hear (holdHello s f) f.serial (leAt f.payload 0 1)) f.serial
    ∨ helloDo f s = listsChanged (giveId (hear (holdHello s f) f.serial (leAt f.payload 0 1)) f.serial) := by
  unfold helloDo
  dsimp only
  split
  · exact .inl rfl
  · exact .inr rfl

theorem helloDo_flow (f : Fab) : KeepsFlow s (helloDo f s) := by
  have hHeld : KeepsFlow s (holdHello s f) := ⟨rfl, rfl⟩
  have hGiven : KeepsFlow s (giveId (hear (holdHello s f) f.serial (leAt f.payload 0 1)) f.serial) :=
    (hHeld.trans (keepsFlow_hear _ _)).trans (keepsFlow_giveId _)
  rcases helloDo_eq (s := s) f with h | h <;> rw [h]
  · exact hGiven
  · exact hGiven.trans keepsFlow_listsChanged

theorem helloDo_lists (f : Fab) : helloOf f s.now ∈ (helloDo f s).fabric.lists := by
  have hHeld : helloOf f s.now ∈ (giveId (hear (holdHello s f) f.serial (leAt f.payload 0 1)) f.serial).fabric.lists := by
    obtain ⟨h, hHear⟩ := hear_fabric (s := holdHello s f) f.serial (leAt f.payload 0 1)
    rw [giveId_lists, hHear]
    exact List.mem_append_right _ (List.mem_singleton.mpr rfl)
  rcases helloDo_eq (s := s) f with h | h <;> rw [h] <;> exact hHeld

theorem helloDo_gives {f : Fab} (hRole : s.fabric.role = .manager) (hNone : s.fabric.table_.any (fun e => e.1 == f.serial) = false)
    (hRoom : s.fabric.table_.length < 64) : (helloDo f s).fabric.table_.any (fun e => e.1 == f.serial) = true := by
  have hGiven : (giveId (hear (holdHello s f) f.serial (leAt f.payload 0 1)) f.serial).fabric.table_.any (fun e => e.1 == f.serial) = true := by
    obtain ⟨h, hHear⟩ := hear_fabric (s := holdHello s f) f.serial (leAt f.payload 0 1)
    exact giveId_gives (by rw [hHear]; exact hRole) (by rw [hHear]; exact hNone) (by rw [hHear]; exact hRoom)
  rcases helloDo_eq (s := s) f with h | h <;> rw [h] <;> exact hGiven

/-! ### BEACON (18 R425, R428, R431) -/

theorem setManager_fabric (id : Nat) : (setManager s id).fabric = { s.fabric with manager := id } := by
  unfold setManager
  dsimp only
  split
  next h =>
    subst h
    rfl
  next => simp

/-- The fabric engine as one that follows a BEACON. -/
def Fabric.follows (x : Fabric) (serial : Nat) (b : List Byte) (now_ own : Nat) : Fabric :=
  { x with
    role := .worker, ready := true, epoch := leAt b 4 4, table_ := beaconTable b, node := idOf (beaconTable b) own, mgrSerial := serial
    mgrPrio := leAt b 0 1, lease := some (now_ + ms 3000), window := none, waitEnd := none, sums := [], assembling := [] }

theorem follow_fabric (serial : Nat) (b : List Byte) : ∃ d, (follow s serial b).fabric
    = { s.fabric.follows serial b s.now (ownSerial s) with dirty := d, manager := idOf (beaconTable b) serial } := by
  unfold follow
  dsimp only
  rw [setManager_fabric]
  split <;> exact ⟨_, rfl⟩

/-- A BEACON ends the window or the wait: the node follows its sender. -/
theorem takeBeacon_of_waiting {serial : Nat} {b : List Byte} (hNodes : leAt b 8 4 ≠ 0)
    (hWaits : s.fabric.window.isSome = true ∨ s.fabric.waitEnd.isSome = true) : takeBeacon s serial b = follow s serial b := by
  have hEither : (s.fabric.window.isSome || s.fabric.waitEnd.isSome) = true := by simpa using hWaits
  simp only [takeBeacon, if_neg hNodes, if_pos hEither]

/-! ### SUMMARY (18 R435) -/

theorem observeSite_fabric (s : State) : (observeSite s).fabric = s.fabric := by simp

/-- A summary of one part is complete at once. -/
theorem takeSummary_of_single (serial : Nat) (b : List Byte) (hParts : byteAt b 1 = 1) (hPart : byteAt b 0 = 0) :
    ∃ y ∈ (takeSummary s serial b).fabric.sums, y.serial = serial := by
  have h1 : leAt b 1 1 = 1 := (leAt_one ..).trans hParts
  have h0 : leAt b 0 1 = 0 := (leAt_one ..).trans hPart
  have hAll {got : List Nat} (hGot : got.contains 0 = true) : (List.range 1).all (fun i => got.contains i) = true := by
    rw [List.range_one]
    simpa using hGot
  have hMem (y : SumSet) (ys : List SumSet) : y ∈ ys ++ [y] := List.mem_append_right _ (List.mem_singleton.mpr rfl)
  unfold takeSummary
  simp only [h1, h0]
  cases hFind : s.fabric.assembling.find? (fun x => x.serial == serial && x.round == leAt b 4 4 && x.parts == 1) with
  | none =>
    dsimp only
    rw [if_pos (hAll (got := [0]) rfl), observeSite_fabric]
    exact ⟨_, hMem _ _, rfl⟩
  | some x =>
    have hSerial : x.serial = serial := by
      have hFound := List.find?_some hFind
      simp only [Bool.and_eq_true, beq_iff_eq] at hFound
      exact hFound.1.1
    dsimp only
    by_cases hGot : x.got.contains 0 = true
    · simp only [if_pos hGot]
      rw [if_pos (hAll hGot), observeSite_fabric]
      exact ⟨_, hMem _ _, hSerial⟩
    · simp only [if_neg hGot]
      rw [if_pos (hAll (by simp)), observeSite_fabric]
      exact ⟨_, hMem _ _, hSerial⟩

/-! ### Routed frames (18 R423) -/

theorem forwardDo_of_route {f : Fab} {m : Nat} (hTtl : 2 ≤ f.ttl) (hRoute : routeLink s f.dst = some m) :
    forwardDo f s = s.emit (.fabric m (onward f)) := by
  have hLives : ¬ f.ttl ≤ 1 := by omega
  simp only [forwardDo, if_neg hLives, sendRouted, hRoute]
  rfl

theorem forwardDo_of_none {f : Fab} (h : f.ttl ≤ 1 ∨ routeLink s f.dst = none) :
    forwardDo f s = s.updFab (fun x => { x with discards := x.discards + 1 }) := by
  unfold forwardDo
  split
  next => rfl
  next hLives => simp only [sendRouted, h.resolve_left hLives]

/-! ### What an old flood leaves -/

theorem msixSend_updFab (f : Fabric → Fabric) (n : Nat) (s : State) : msixSend (s.updFab f) n = (msixSend s n).updFab f := by
  have hPcie : (s.updFab f).pcie = s.pcie := rfl
  unfold msixSend
  rw [hPcie]
  split
  · rfl
  · dsimp only
    split <;> rfl

theorem refreshTenant_updFab (f : Fabric → Fabric) (n : Nat) (s : State) : refreshTenant (s.updFab f) n = (refreshTenant s n).updFab f := by
  have hPending : intPending (s.updFab f) n = intPending s n := rfl
  have hPort : (s.updFab f).port n = s.port n := rfl
  unfold refreshTenant
  dsimp only
  rw [hPending, hPort, msixSend_updFab]
  (repeat' split) <;> rfl

theorem readyNow_updFab {f : Fabric → Fabric} (hReady : (f s.fabric).ready = s.fabric.ready)
    (hLinks : (f s.fabric).links = s.fabric.links) : readyNow (s.updFab f) = readyNow s := by
  have hBit (i : Nat) : readyBit (s.updFab f) i = readyBit s i := by
    simp only [readyBit, State.updFab, State.benchLive, State.bench, State.pair, hReady, hLinks]
  simp only [readyNow, hBit]

/-- A change of the fabric engine that no READY bit shows leaves no trace outside it. -/
theorem finish_updFab {f : Fabric → Fabric} (hFabric : (f s.fabric).ready = s.fabric.ready)
    (hLinks : (f s.fabric).links = s.fabric.links) : finish (s.updFab f) = (finish s).updFab f := by
  have hReady := readyNow_updFab hFabric hLinks
  have hFold (ns : List Nat) (s : State) : ns.foldl refreshTenant (s.updFab f) = (ns.foldl refreshTenant s).updFab f := by
    induction ns generalizing s with
    | nil => rfl
    | cons n ns ih => rw [List.foldl_cons, List.foldl_cons, refreshTenant_updFab, ih]
  have hRefresh : refreshReady (s.updFab f) = (refreshReady s).updFab f := by
    unfold refreshReady
    dsimp only
    rw [hReady]
    rfl
  have hLines (u : State) : refreshLines (u.updFab f) = (refreshLines u).updFab f := by
    have hPending (n : Nat) : intPending (u.updFab f) n = intPending u n := rfl
    unfold refreshLines
    simp only [hPending]
    rfl
  rw [finish, hRefresh, hFold, hLines, finish]

theorem heardFlood_out (s : State) (serial : Nat) : (finish (heardFlood s serial)).out = (finish s).out := by
  have hFinish : finish (heardFlood s serial) = (finish s).updFab (fun x => { x with floodAt := putSerial x.floodAt serial s.now }) :=
    finish_updFab rfl rfl
  rw [hFinish, State.updFab_out]

/-! ### NEIGH (18 R422, R424) -/

theorem neighDo_leaves (hx : s.fabric.links[l]? = some x) (f : Fab) : ∃ y, (neighDo l f s).fabric.links[l]? = some y
    ∧ y.neigh = some f.serial ∧ y.neighAt = s.now ∧ y.dropped = false
    ∧ (x.dropped = true ∨ x.neigh ≠ some f.serial →
      (neighDo l f s).fabric.dirty.isSome = true ∧ (neighDo l f s).fabric.helloWant = true) := by
  have hNews : (x.dropped || x.neigh != some f.serial) = true ↔ x.dropped = true ∨ x.neigh ≠ some f.serial := by simp
  have hHeard (prio : Nat) : (hear (s.updLink l (fun x => { x with neigh := some f.serial, neighAt := s.now, dropped := false }))
      f.serial prio).fabric.links[l]? = some { x with neigh := some f.serial, neighAt := s.now, dropped := false } := by
    rw [(keepsFlow_hear _ _).1, getElem?_updLink, hx, Option.map_some]
  unfold neighDo
  dsimp only
  rw [link_of_getElem? hx]
  split
  next h =>
    refine ⟨_, (hHeard _), rfl, rfl, rfl, fun _ => ⟨listsChanged_dirty _, rfl⟩⟩
  next h => exact ⟨_, hHeard _, rfl, rfl, rfl, fun hNew => absurd (hNews.mpr hNew) h⟩

end

/-! ### The obligation -/

/-- What a new flood leaves: it is acted on, its SEQ is held, and it goes out of every other UP link. -/
theorem exec_of_flood {i : Instr} {s s₀ : State} {l : Nat} {f : Fab} {k : Fab → State → State}
    (hRow : exec i s₀ = .next (finish (takeFlood l k f s))) (hOther : f.serial ≠ ownSerial s)
    (hNew : ∀ q, heldSeq s f.serial f.type = some q → newer q f.seq = true) (hFlow : ∀ v, KeepsFlow v (k f v)) :
    ∃ u, exec i s₀ = .next u ∧ u.fabric = (k f (notedFlood s f)).fabric ∧ heldSeq u f.serial f.type = some f.seq
      ∧ (2 ≤ f.ttl → ∀ m ∈ upLinks s, m ≠ l → .fabric m (onward f) ∈ u.out) := by
  have hNoted : KeepsFlow (notedFlood s f) (k f (notedFlood s f)) := hFlow _
  have hUp : upLinks (k f (notedFlood s f)) = upLinks s := by
    simp only [upLinks, State.link, hNoted.1]
    rfl
  have hFab : (takeFlood l k f s).fabric = (k f (notedFlood s f)).fabric := by
    rw [takeFlood_of_new hOther hNew]
    split
    · rfl
    · simp
  have hFinish : (finish (takeFlood l k f s)).fabric = (k f (notedFlood s f)).fabric := by simpa using hFab
  refine ⟨_, hRow, hFinish, heldSeq_of_noted ((congrArg Fabric.seqs hFinish).trans hNoted.2), fun hTtl m hm hNe => mem_out_finish ?_⟩
  rw [takeFlood_of_new hOther hNew, if_neg (by omega), emitOn_out, hUp]
  exact List.mem_append_right _ (List.mem_map.mpr ⟨m, List.mem_filter.mpr ⟨hm, by simpa using hNe⟩, rfl⟩)

/-- What a frame that comes in on an UP link leaves, where its row takes it. -/
theorem exec_of_frame {i : Instr} {s : State} {t : Nat} {l : Fin 6} {x : Link} {b : List Byte} {kind : State → Fab → Bool}
    {k : Fab → State → State} (hExec : exec i s = .next (chainRow t anyTime (fabIn l b kind k) s)) (hUp : s.shellUp = true)
    (hx : s.fabric.links[l.val]? = some x) (hSt : x.st = .up) :
    (frameOk b = false → ∃ u, exec i s = .next u ∧ u.fabric.links[l.val]? = some { x with errors := x.errors + 1 }
        ∧ u.fabric.seqs = s.fabric.seqs)
      ∧ (frameOk b = true → kind (s.at t) (fabOf b) = true → exec i s = .next (finish (k (fabOf b) (s.at t)))) := by
  have hxAt : (s.at t).fabric.links[l.val]? = some x := hx
  have hRow := exec_of_row hExec hUp rfl
  refine ⟨fun hBad => ⟨_, hRow, ?_, ?_⟩, fun hGood hKind => ?_⟩
  · rw [fabIn_of_bad hxAt hSt hBad]
    simp [hx]
  · rw [fabIn_of_bad hxAt hSt hBad]
    simp
  · rw [hRow, fabIn_of_good hxAt hSt hGood hKind]

/-- Settles O40: each frame is taken by its row, and what the row does is the lemma above. -/
theorem fabricFramesArrive : Obligations.FabricFramesArrive := by
  intro s t l x b hUp hx hSt now f ser
  have hNeigh := exec_of_frame (exec_neigh t l b s) hUp hx hSt
  have hHello := exec_of_frame (exec_hello t l b s) hUp hx hSt
  have hBeacon := exec_of_frame (exec_beacon t l b s) hUp hx hSt
  have hSummary := exec_of_frame (exec_summary t l b s) hUp hx hSt
  have hRouted := exec_of_frame (exec_routedFrameForward t l b s) hUp hx hSt
  refine ⟨fun hBad i hi => ?bad, fun hGood => ⟨fun hType => ?neigh, fun hOther => ?floods, fun hType hDst hRole => ?summary,
    fun hOn => ⟨fun m hTtl hRoute => ?goes, fun hNone => ?dropped⟩⟩⟩
  case bad =>
    simp only [List.mem_cons, List.not_mem_nil, or_false] at hi
    rcases hi with rfl | rfl | rfl | rfl | rfl
    · exact hNeigh.1 hBad
    · exact hHello.1 hBad
    · exact hBeacon.1 hBad
    · exact hSummary.1 hBad
    · exact hRouted.1 hBad
  case neigh =>
    have hRow := hNeigh.2 hGood (beq_iff_eq.mpr hType)
    obtain ⟨y, hy, hSerial, hAt, hIn, hNews⟩ := neighDo_leaves (s := s.at t) hx (fabOf b)
    exact ⟨_, y, hRow, by simpa using hy, hSerial, hAt, hIn, by simpa using hNews⟩
  case floods =>
    intro out
    refine ⟨fun hType hNew => ?hello, fun hType hOld => ?old, fun hType hNew => ?beacon⟩
    case hello =>
      have hRow := hHello.2 hGood (beq_iff_eq.mpr hType)
      obtain ⟨u, hExec, hFab, hHeld, hOut⟩ := exec_of_flood (s := s.at t) hRow hOther (by rw [hType]; exact hNew) fun v => helloDo_flow _
      rw [hType] at hHeld
      refine ⟨u, hExec, hHeld, fun hTtl m hm hNe => ?_, ⟨helloOf f now, ?_, rfl, rfl, rfl, rfl⟩, fun hRole hNone hRoom => ?_⟩
      · have hGoes := hOut hTtl m hm hNe
        rw [onward, hType] at hGoes
        exact hGoes
      · rw [hFab]
        exact helloDo_lists _
      · rw [hFab]
        exact helloDo_gives hRole hNone hRoom
    case old =>
      obtain ⟨q, hHeld, hOldSeq⟩ := hOld
      have hRow := hHello.2 hGood (beq_iff_eq.mpr hType)
      rw [takeFlood_of_old (s := s.at t) hOther (hType ▸ hHeld) hOldSeq] at hRow
      refine ⟨_, hRow, ?_, ?_, ?_⟩
      · simp [heardFlood]
      · simp [heardFlood]
      · exact heardFlood_out _ _
    case beacon =>
      have hRow := hBeacon.2 hGood (beq_iff_eq.mpr hType)
      obtain ⟨u, hExec, hFab, hHeld, hOut⟩ := exec_of_flood (s := s.at t) hRow hOther (by rw [hType]; exact hNew)
        fun v => keepsFlow_takeBeacon _ _
      rw [hType] at hHeld
      refine ⟨u, hExec, hHeld, fun hTtl m hm hNe => ?_, fun hNodes hWaits => ?_⟩
      · have hGoes := hOut hTtl m hm hNe
        rw [onward, hType] at hGoes
        exact hGoes
      · obtain ⟨d, hFollows⟩ := follow_fabric (s := notedFlood (s.at t) f) ser f.payload
        rw [takeBeacon_of_waiting (s := notedFlood (s.at t) f) hNodes hWaits, hFollows] at hFab
        rw [hFab]
        exact ⟨rfl, rfl, rfl, rfl, rfl, rfl⟩
  case summary =>
    have hKind : summaryHere (s.at t) (fabOf b) = true := by
      have h4 : (fabOf b).type = 4 := hType
      have hHere : (fabOf b).dst = s.fabric.node := hDst
      simp [summaryHere, h4, hHere]
    have hRow := hSummary.2 hGood hKind
    rw [if_pos (show ((s.at t).fabric.role == .manager) = true from beq_iff_eq.mpr hRole)] at hRow
    refine ⟨hRow, fun hParts hPart => ⟨_, hRow, ?_⟩⟩
    simpa using takeSummary_of_single (s := s.at t) ser f.payload hParts hPart
  case goes =>
    have hRow := hRouted.2 hGood hOn
    rw [forwardDo_of_route (s := s.at t) hTtl hRoute] at hRow
    refine ⟨_, hRow, mem_out_finish ?_, by simp⟩
    exact List.mem_append_right _ (List.mem_singleton.mpr rfl)
  case dropped =>
    have hRow := hRouted.2 hGood hOn
    rw [forwardDo_of_none (s := s.at t) hNone] at hRow
    exact ⟨_, hRow, by simp⟩

end Sys2Proof.Machine
end

section
/-! Frames that the node sends and its fabric timers (18 Table 18-5, R424 to R426, R429 to R433). -/

namespace Sys2Proof.Machine

section
variable {s : State}

/-! ### Frames of the node's own (18 R424) -/

theorem finish_fabric (s : State) : (finish s).fabric = s.fabric := by simp

theorem takeSeq_fabric (s : State) (type : Nat) :
    (takeSeq s type).2.fabric = { s.fabric with own := modAt s.fabric.own (type - 1) (fun v => (v + 1) % 4294967296) } := by
  unfold takeSeq
  dsimp only
  split <;> simp

theorem upLinks_of_links {u v : State} (h : u.fabric.links = v.fabric.links) : upLinks u = upLinks v := by
  simp only [upLinks, State.link, h]

/-- A flood uses up a SEQ and changes nothing else of the fabric engine. -/
theorem flood_fabric (s : State) (type : Nat) (p : List Byte) : ∃ o, (flood s type p).fabric = { s.fabric with own := o } := by
  unfold flood
  split
  · exact ⟨s.fabric.own, rfl⟩
  · exact ⟨_, by simp only [emitOn_frame, takeSeq_fabric]; rfl⟩

theorem flood_out (hHold : s.fabric.hold = false) (type : Nat) (p : List Byte) : (flood s type p).out = s.out ++ (upLinks s).map (fun l =>
    .fabric l (fabFrame type 1 s.fabric.node 0xFF 64 (ownSerial s) (s.fabric.own.getD (type - 1) 0) p)) := by
  have hUp : upLinks (takeSeq s type).2 = upLinks s := upLinks_of_links (by rw [takeSeq_fabric])
  have hNode : (takeSeq s type).2.fabric.node = s.fabric.node := by rw [takeSeq_fabric]
  have hSerial : ownSerial (takeSeq s type).2 = ownSerial s := by simp [ownSerial]
  have hOut : (takeSeq s type).2.out = s.out := by simp
  have hSeq : (takeSeq s type).1 = s.fabric.own.getD (type - 1) 0 := rfl
  simp only [flood, hHold, Bool.false_eq_true, if_false, emitOn_out, hUp, hNode, hSerial, hOut, hSeq]

/-! ### NEIGH -/

/-- The NEIGH that leaves on one link. -/
def sendNeigh (s : State) (l : Nat) : State :=
  let q := takeSeq s 1
  emitOn q.2 [l] (fabFrame 1 2 q.2.fabric.node 0xFF 64 (ownSerial s) q.1 (leBytes 1 q.2.fabric.prio ++ leBytes 1 l ++ zeros 2))

theorem sendNeigh_leaves (s : State) (l : Nat) : (∃ o, (sendNeigh s l).fabric = { s.fabric with own := o })
    ∧ (sendNeigh s l).sys = s.sys ∧ (sendNeigh s l).now = s.now ∧ ∃ q, (sendNeigh s l).out = s.out ++ [.fabric l
      (fabFrame 1 2 s.fabric.node 0xFF 64 (ownSerial s) q (leBytes 1 s.fabric.prio ++ leBytes 1 l ++ zeros 2))] := by
  refine ⟨?_, by simp [sendNeigh], by simp [sendNeigh], (takeSeq s 1).1, ?_⟩
  · simp only [sendNeigh, emitOn_frame, takeSeq_fabric]
    exact ⟨_, rfl⟩
  · simp [sendNeigh, emitOn_out, takeSeq_fabric]

/-- NEIGH has left on every link of a list. -/
theorem foldl_sendNeigh (ls : List Nat) (s : State) : (ls.foldl sendNeigh s).now = s.now ∧ s.out <+: (ls.foldl sendNeigh s).out
    ∧ ∀ l ∈ ls, ∃ q, .fabric l (fabFrame 1 2 s.fabric.node 0xFF 64 (ownSerial s) q
      (leBytes 1 s.fabric.prio ++ leBytes 1 l ++ zeros 2)) ∈ (ls.foldl sendNeigh s).out := by
  induction ls generalizing s with
  | nil => exact ⟨rfl, List.prefix_rfl, fun l hl => absurd hl List.not_mem_nil⟩
  | cons a ls ih =>
    obtain ⟨⟨o, hFab⟩, hSys, hNow, q, hOut⟩ := sendNeigh_leaves s a
    obtain ⟨hNowAll, hKeeps, hAll⟩ := ih (sendNeigh s a)
    have hHead : s.out <+: (sendNeigh s a).out := ⟨_, hOut.symm⟩
    refine ⟨hNowAll.trans hNow, hHead.trans hKeeps, fun l hl => ?_⟩
    rcases List.mem_cons.mp hl with rfl | hRest
    · exact ⟨q, hKeeps.subset (by rw [hOut]; exact List.mem_append_right _ (List.mem_singleton.mpr rfl))⟩
    · obtain ⟨q', hMem⟩ := hAll l hRest
      have hSerial : ownSerial (sendNeigh s a) = ownSerial s := by rw [ownSerial, hSys, ownSerial]
      rw [hFab, hSerial] at hMem
      exact ⟨q', hMem⟩

theorem neighSendDo_eq (s : State) : neighSendDo s
    = ((upLinks s).foldl sendNeigh s).updFab (fun x => { x with lastNeigh := ((upLinks s).foldl sendNeigh s).now }) := rfl

/-! ### HELLO -/

theorem helloSendDo_leaves (hHold : s.fabric.hold = false) : (helloSendDo s).fabric.lastHello = s.now
    ∧ (helloSendDo s).fabric.helloWant = false
    ∧ ∀ l ∈ upLinks s, ∃ b, .fabric l (fabFrame 2 1 s.fabric.node 0xFF 64 (ownSerial s) (s.fabric.own.getD 1 0) b)
        ∈ (helloSendDo s).out := by
  have hFab : (managerSerial s).2.fabric = s.fabric := managerSerial_fabric s
  have hSerial : ownSerial (managerSerial s).2 = ownSerial s := by simp [ownSerial]
  have hNow : (managerSerial s).2.now = s.now := by simp
  refine ⟨hNow, rfl, fun l hl => ?_⟩
  have hSent := flood_out (s := (managerSerial s).2) (by rw [hFab]; exact hHold) 2
  rw [upLinks_of_links (congrArg Fabric.links hFab), hFab, hSerial] at hSent
  unfold helloSendDo
  dsimp only
  rw [State.updFab_out, hSent]
  exact ⟨_, List.mem_append_right _ (List.mem_map.mpr ⟨l, hl, rfl⟩)⟩

/-! ### BEACON -/

theorem sendBeacon_fabric (s : State) : ∃ o, (sendBeacon s).fabric
    = { s.fabric with own := o, lastBeacon := s.now, lease := some (s.now + ms 3000) } := by
  obtain ⟨o, hFlood⟩ := flood_fabric s 3 (leBytes 1 s.fabric.prio ++ zeros 3 ++ leBytes 4 s.fabric.epoch ++ leBytes 4 3000
    ++ leBytes 1 s.fabric.table_.length ++ zeros 3 ++ s.fabric.table_.flatMap (fun e => leBytes 8 e.1 ++ leBytes 1 e.2))
  refine ⟨o, ?_⟩
  unfold sendBeacon
  dsimp only
  rw [State.updFab_fabric, hFlood]

/-! ### SUMMARY (18 R433) -/

theorem sendRouted_round (s : State) (dst : Nat) (b : List Byte) : (sendRouted s dst b).fabric.round = s.fabric.round := by
  unfold sendRouted
  split <;> rfl

/-- One part of the node's summary: its body, of the strings `strs` in `parts` parts. -/
def summaryPart (strs : List Nat) (parts round : Nat) (s : State) (i : Nat) : List Byte :=
  leBytes 1 i ++ leBytes 1 parts ++ leBytes 1 ((strs.drop (16 * i)).take 16).length ++ zeros 1 ++ leBytes 4 round
    ++ ((strs.drop (16 * i)).take 16).flatMap (ownRecord s)
/-- The frame of that part leaves. -/
def sendPart (strs : List Nat) (parts round : Nat) (s : State) (i : Nat) : State :=
  sendRouted (takeSeq s 4).2 s.fabric.manager (fabFrame 4 0 s.fabric.node s.fabric.manager 64 (ownSerial s) (takeSeq s 4).1
    (summaryPart strs parts round s i))

theorem foldl_sendPart (strs : List Nat) (parts round : Nat) (is : List Nat) (s : State) :
    (is.foldl (sendPart strs parts round) s).now = s.now
      ∧ (is.foldl (sendPart strs parts round) s).fabric.round = s.fabric.round := by
  induction is generalizing s with
  | nil => exact ⟨rfl, rfl⟩
  | cons i is ih =>
    obtain ⟨hNow, hRound⟩ := ih (sendPart strs parts round s i)
    rw [List.foldl_cons]
    exact ⟨hNow.trans (by simp [sendPart]), hRound.trans (by rw [sendPart, sendRouted_round, takeSeq_fabric])⟩

theorem sendSummary_leaves (s : State) : (sendSummary s).fabric.lastSummary = s.now
    ∧ (sendSummary s).fabric.round = (s.fabric.round + 1) % 2 ^ 32 := by
  obtain ⟨hNow, hRound⟩ := foldl_sendPart ((List.range 64).filter (strOn s)) (max 1 (ceilDiv ((List.range 64).filter (strOn s)).length 16))
    s.fabric.round (List.range (max 1 (ceilDiv ((List.range 64).filter (strOn s)).length 16))) s
  exact ⟨hNow, congrArg (fun n => (n + 1) % 2 ^ 32) hRound⟩

/-! ### Discovery and election (18 R425, R426, R432) -/

theorem becomeSingle_fabric (s : State) : (becomeSingle s).fabric = { s.fabric with
    role := .single, ready := true, node := 0xFF, mgrSerial := 0, mgrPrio := 0, lease := none, window := none, waitEnd := none
    table_ := [], full := [], routes := [], sums := [], assembling := [], manager := 0xFF } := by
  rw [becomeSingle, setManager_fabric]
  rfl

theorem fabricFull_fabric (s : State) (serial : Nat) : ∃ f, (fabricFull s serial).fabric = { s.fabric with full := f } := by
  unfold fabricFull
  split
  · exact ⟨s.fabric.full, rfl⟩
  · exact ⟨s.fabric.full ++ [serial], by simp⟩

theorem foldl_fabricFull_fabric (sers : List Nat) (s : State) : ∃ f, (sers.foldl fabricFull s).fabric = { s.fabric with full := f } := by
  induction sers generalizing s with
  | nil => exact ⟨s.fabric.full, rfl⟩
  | cons a sers ih =>
    obtain ⟨f, hHead⟩ := fabricFull_fabric s a
    obtain ⟨g, hRest⟩ := ih (fabricFull s a)
    exact ⟨g, by rw [List.foldl_cons, hRest, hHead]⟩

/-- The node is elected. -/
theorem becomeManager_leaves (s : State) : (becomeManager s).fabric.role = .manager
    ∧ (becomeManager s).fabric.epoch = (s.fabric.epoch + 1) % 2 ^ 32 ∧ (becomeManager s).fabric.mgrSerial = ownSerial s
    ∧ (becomeManager s).fabric.window = none := by
  unfold becomeManager
  dsimp only
  obtain ⟨o, hBeacon⟩ := sendBeacon_fabric _
  rw [hBeacon]
  obtain ⟨f, hFull⟩ := foldl_fabricFull_fabric _ _
  rw [hFull, setManager_fabric]
  exact ⟨rfl, rfl, rfl, rfl⟩

/-- A lease that has run out leaves no manager; the node looks for one unless its floods are held. -/
theorem managerLeaseDo_leaves (s : State) : (managerLeaseDo s).fabric.manager = 0xFF ∧ (managerLeaseDo s).fabric.lease = none
    ∧ (s.fabric.hold = false → (managerLeaseDo s).fabric.window = some (s.now + 72000000)) := by
  obtain ⟨u, hu⟩ : ∃ u, setManager (s.updFab (fun x => { x with role := .worker, lease := none, mgrSerial := 0, mgrPrio := 0 })) 0xFF = u :=
    ⟨_, rfl⟩
  have hFab : u.fabric = { s.fabric with role := .worker, lease := none, mgrSerial := 0, mgrPrio := 0, manager := 0xFF } := by
    rw [← hu, setManager_fabric]
    rfl
  have hNow : u.now = s.now := by
    rw [← hu]
    simp
  have hHold : u.fabric.hold = s.fabric.hold := by rw [hFab]
  have hDo : managerLeaseDo s = if u.fabric.hold then u else openWindow u := by
    subst hu
    rfl
  have hOpen : (openWindow u).fabric.window = some (s.now + 72000000) := by
    rw [← hNow]
    rfl
  rw [hDo, hHold]
  split
  next h => exact ⟨by rw [hFab], by rw [hFab], fun hNo => absurd h (by simp [hNo])⟩
  next => exact ⟨congrArg Fabric.manager hFab, congrArg Fabric.lease hFab, fun _ => hOpen⟩

/-! ### Routes (18 R430) -/

/-- The row last written for a key, where every row of the key is the same. -/
theorem tblGet_foldl_tblSet {α : Type} {d v : α} {k : Nat} (rows : List (Nat × α)) (hOne : ∀ w, (k, w) ∈ rows → w = v) (t : Tbl α)
    (h : tblFind? t k = some v ∨ (k, v) ∈ rows) : tblGet d (rows.foldl (fun t e => tblSet e.1 e.2 t) t) k = v := by
  induction rows generalizing t with
  | nil => simp [tblGet, h.resolve_right List.not_mem_nil]
  | cons e rows ih =>
    rw [List.foldl_cons]
    refine ih (fun w hw => hOne w (List.mem_cons_of_mem _ hw)) _ ?_
    by_cases hKey : k = e.1
    · have hSame : e.2 = v := hOne e.2 (by rw [hKey]; exact List.mem_cons_self)
      exact .inl (by rw [hKey, tblFind?_tblSet, hSame])
    · rw [tblFind?_tblSet_ne hKey]
      refine h.imp id fun hMem => (List.mem_cons.mp hMem).resolve_left fun hHead => hKey (congrArg Prod.fst hHead)

theorem eq_of_filter_length_one {α : Type} {p : α → Bool} {l : List α} {a b : α} (h : (l.filter p).length = 1) (ha : a ∈ l) (hpa : p a = true)
    (hb : b ∈ l) (hpb : p b = true) : a = b := by
  obtain ⟨c, hc⟩ := List.length_eq_one_iff.mp h
  have hac : a ∈ l.filter p := List.mem_filter.mpr ⟨ha, hpa⟩
  have hbc : b ∈ l.filter p := List.mem_filter.mpr ⟨hb, hpb⟩
  rw [hc, List.mem_singleton] at hac hbc
  rw [hac, hbc]

/-- Each node of the table that has its ID alone has its best route. -/
theorem recompute_routes {e : Nat × Nat} (he : e ∈ s.fabric.table_) (hAlone : (s.fabric.table_.filter (fun a => a.2 == e.2)).length = 1)
    (hOther : e.1 ≠ ownSerial s) : tblGet {} (recompute s).fabric.routes e.2 = routeOf (firstLinks s) e.1 := by
  refine tblGet_foldl_tblSet _ (fun w hw => ?_) [] (.inr (List.mem_filterMap.mpr ⟨e, he, by rw [if_neg hOther]⟩))
  obtain ⟨a, ha, hRow⟩ := List.mem_filterMap.mp hw
  split at hRow
  next => exact absurd hRow (by simp)
  next =>
    obtain ⟨hId, hRoute⟩ := Prod.mk.inj (Option.some.inj hRow)
    rw [← hRoute, eq_of_filter_length_one hAlone ha (beq_iff_eq.mpr hId) he (beq_self_eq_true _)]

end

/-! ### The obligation -/

theorem passed_of_le {s : State} {d : Option Nat} {e early : Nat} (hd : d = some e) (he : e ≤ s.now + early) : passed s d early = true := by
  rw [hd]
  exact decide_eq_true he

/-- Settles O41: each row is due, and what it does is its lemma above. -/
theorem fabricKeepsTime : Obligations.FabricKeepsTime := by
  intro s t hUp now z x own
  have hUpLinks : upLinks z = upLinks s := rfl
  refine ⟨fun hBoot hDue => ?neigh, fun hBoot hDue => ?hello, fun hRole hSome hDue => ?beacon, fun hRole hManager hNode hDue => ?summary,
    fun serial hOld => ?age, fun serial hOld => ?forget, fun e hHold hEnd hDue => ?hold,
    fun e hWindow hDue => ⟨fun hNone => ?single, fun hSome hAll => ?elected, fun hSome hNot => ?wait⟩, fun e hEnd hDue => ?timeout,
    fun e hLease hDue => ?lease, fun a hNone hAlone hDue hLone => ?alone, fun hDirty => ?routes⟩
  case neigh =>
    have hCond : (z.sys.boot == .parallel && decide (z.fabric.lastNeigh + ms 100 ≤ z.now)) = true := by
      have hPast : z.fabric.lastNeigh + ms 100 ≤ z.now := by
        rw [show ms 100 = 4800000 from rfl]
        exact hDue
      exact Bool.and_eq_true_iff.mpr ⟨beq_iff_eq.mpr hBoot, decide_eq_true hPast⟩
    have hRow := exec_of_row (exec_neighSend t s) hUp hCond
    obtain ⟨hNow, -, hAll⟩ := foldl_sendNeigh (upLinks z) z
    refine ⟨_, hRow, ?_, fun l hl => ?_⟩
    · rw [neighSendDo_eq, finish_fabric]
      exact hNow
    · obtain ⟨q, hSent⟩ := hAll l hl
      exact ⟨q, mem_out_finish hSent⟩
  case hello =>
    have hCond : (z.sys.boot == .parallel && helloIsDue z) = true := by
      exact Bool.and_eq_true_iff.mpr ⟨beq_iff_eq.mpr hBoot, hDue⟩
    have hRow := exec_of_row (exec_helloSend t s) hUp hCond
    have hHold : z.fabric.hold = false := by
      simp only [helloIsDue, Bool.and_eq_true, Bool.not_eq_true'] at hDue
      exact hDue.1
    obtain ⟨hLast, hWant, hAll⟩ := helloSendDo_leaves hHold
    refine ⟨_, hRow, by rw [finish_fabric]; exact hLast, by rw [finish_fabric]; exact hWant, fun l hl => ?_⟩
    obtain ⟨b, hSent⟩ := hAll l hl
    exact ⟨b, mem_out_finish hSent⟩
  case beacon =>
    have hCond : (z.fabric.role == .manager && !(upLinks z).isEmpty && decide (z.fabric.lastBeacon + ms 1000 ≤ z.now)) = true := by
      have hPast : z.fabric.lastBeacon + ms 1000 ≤ z.now := by
        rw [show ms 1000 = 48000000 from rfl]
        exact hDue
      simp only [Bool.and_eq_true, beq_iff_eq, Bool.not_eq_true', List.isEmpty_eq_false_iff, decide_eq_true_eq]
      exact ⟨⟨hRole, hSome⟩, hPast⟩
    exact ⟨exec_of_row (exec_beaconSend t s) hUp hCond, rfl, rfl⟩
  case summary =>
    have hCond : (z.fabric.role == .worker && z.fabric.manager != 0xFF && z.fabric.node != 0xFF
        && decide (z.fabric.lastSummary + ms 999 ≤ z.now)) = true := by
      have hPast : z.fabric.lastSummary + ms 999 ≤ z.now := by
        rw [show ms 999 = 47952000 from rfl]
        exact hDue
      simp only [Bool.and_eq_true, beq_iff_eq, bne_iff_ne, decide_eq_true_eq]
      exact ⟨⟨⟨hRole, hManager⟩, hNode⟩, hPast⟩
    obtain ⟨hLast, hRound⟩ := sendSummary_leaves z
    exact ⟨_, exec_of_row (exec_summarySend t s) hUp hCond, by rw [finish_fabric]; exact hLast, by rw [finish_fabric]; exact hRound⟩
  case age =>
    obtain ⟨h, hMem, hSerial, hLate⟩ := hOld
    have hCond : z.fabric.lists.any (fun h => h.serial == serial.toNat && decide (h.at_ + ms 3000 ≤ z.now)) = true := by
      rw [show ms 3000 = 144000000 from rfl]
      exact List.any_eq_true.mpr ⟨h, hMem, Bool.and_eq_true_iff.mpr ⟨beq_iff_eq.mpr hSerial, decide_eq_true hLate⟩⟩
    refine ⟨_, exec_of_row (exec_helloAgeOut t serial s) hUp hCond, fun y hy => ?_, ?_⟩
    · rw [finish_fabric] at hy
      simpa using (List.mem_filter.mp hy).2
    · rw [finish_fabric]
      exact listsChanged_dirty _
  case forget =>
    obtain ⟨e, hMem, hSerial, hLate⟩ := hOld
    have hCond : z.fabric.floodAt.any (fun e => e.1 == serial.toNat && decide (e.2 + ms 3000 ≤ z.now)) = true := by
      rw [show ms 3000 = 144000000 from rfl]
      exact List.any_eq_true.mpr ⟨e, hMem, Bool.and_eq_true_iff.mpr ⟨beq_iff_eq.mpr hSerial, decide_eq_true hLate⟩⟩
    refine ⟨_, exec_of_row (exec_floodSeqForget t serial s) hUp hCond, fun type => ?_⟩
    rw [heldSeq, finish_fabric, Option.map_eq_none_iff, List.find?_eq_none]
    intro y hy hSame
    have hGone := (List.mem_filter.mp hy).2
    simp_all
  case hold =>
    have hCond : (z.fabric.hold && passed z z.fabric.holdEnd 0) = true := by
      exact Bool.and_eq_true_iff.mpr ⟨hHold, passed_of_le (s := z) hEnd hDue⟩
    exact ⟨_, exec_of_row (exec_floodHoldEnd t s) hUp hCond, by rw [finish_fabric]; rfl, by rw [finish_fabric]; rfl⟩
  case single =>
    have hRow := exec_of_row (exec_discoveryWindowClose t s) hUp (passed_of_le (s := z) hWindow hDue)
    have hDo : windowCloseDo z = becomeSingle z := by
      have hEmpty : (upLinks z).isEmpty = true := by rw [hUpLinks, hNone]; rfl
      simp only [windowCloseDo, if_pos hEmpty]
    rw [hDo] at hRow
    refine ⟨_, hRow, ?_⟩
    rw [finish_fabric, becomeSingle_fabric]
    exact ⟨rfl, rfl, rfl, rfl⟩
  case elected =>
    have hRow := exec_of_row (exec_discoveryWindowClose t s) hUp (passed_of_le (s := z) hWindow hDue)
    have hDo : windowCloseDo z = becomeManager z := by
      have hLinks : ¬ (upLinks z).isEmpty = true := by rw [hUpLinks, List.isEmpty_iff]; exact hSome
      have hFirst : z.fabric.heard.all (fun e => outranks (z.fabric.prio, ownSerial z) (e.2, e.1)) = true :=
        List.all_eq_true.mpr hAll
      simp only [windowCloseDo, if_neg hLinks, if_pos hFirst]
    rw [hDo] at hRow
    refine ⟨_, hRow, ?_⟩
    rw [finish_fabric]
    exact becomeManager_leaves z
  case wait =>
    obtain ⟨h, hMem, hHigher⟩ := hNot
    have hRow := exec_of_row (exec_discoveryWindowClose t s) hUp (passed_of_le (s := z) hWindow hDue)
    have hDo : windowCloseDo z = z.updFab (fun x => { x with window := none, waitEnd := some (z.now + ms 1500) }) := by
      have hLinks : ¬ (upLinks z).isEmpty = true := by rw [hUpLinks, List.isEmpty_iff]; exact hSome
      have hLater : ¬ z.fabric.heard.all (fun e => outranks (z.fabric.prio, ownSerial z) (e.2, e.1)) = true := by
        rw [List.all_eq_true]
        exact fun hAll => absurd (hAll h hMem) (by rw [show outranks (z.fabric.prio, ownSerial z) (h.2, h.1) = false from hHigher]; decide)
      simp only [windowCloseDo, if_neg hLinks, if_neg hLater]
    rw [hDo] at hRow
    refine ⟨_, hRow, ?_⟩
    rw [finish_fabric]
    exact ⟨rfl, rfl⟩
  case timeout =>
    refine ⟨_, exec_of_row (exec_beaconWaitTimeout t s) hUp (passed_of_le (s := z) hEnd hDue), ?_⟩
    rw [finish_fabric]
    exact ⟨rfl, rfl, rfl⟩
  case lease =>
    refine ⟨_, exec_of_row (exec_managerLeaseExpiry t s) hUp (passed_of_le (s := z) hLease hDue), ?_⟩
    obtain ⟨hManager, hLeft, hWindow⟩ := managerLeaseDo_leaves z
    rw [finish_fabric]
    exact ⟨hManager, hLeft, hWindow⟩
  case alone =>
    have hCond : ((upLinks z).isEmpty && passed z (z.fabric.aloneSince.map (· + ms 3000)) 0
        && !(z.fabric.role == .single && z.fabric.ready)) = true := by
      have hPast : passed z (z.fabric.aloneSince.map (· + ms 3000)) 0 = true :=
        passed_of_le (e := a + 144000000) (by rw [show z.fabric.aloneSince = some a from hAlone]; rfl) hDue
      have hOther : (z.fabric.role == .single && z.fabric.ready) = false := by
        rw [Bool.and_eq_false_iff]
        exact hLone.imp (fun h => beq_eq_false_iff_ne.mpr h) id
      rw [hUpLinks, hNone, hPast, hOther]
      rfl
    refine ⟨_, exec_of_row (exec_allLinksDown t s) hUp hCond, ?_⟩
    rw [finish_fabric, becomeSingle_fabric]
    exact ⟨rfl, rfl, rfl, rfl, rfl⟩
  case routes =>
    refine ⟨_, exec_of_row (exec_routeRecompute t s) hUp hDirty, by rw [finish_fabric]; rfl, fun e he hAlone hOther => ?_⟩
    rw [finish_fabric]
    exact recompute_routes (s := z) he hAlone hOther

end Sys2Proof.Machine
end

section
/-! The Ledger's snapshot before its counters are restored (20 R467, R473; log 169): a snapshot that is asked for then leaves the one
in KA, so what rests on its time fails there. -/

namespace Sys2Proof.Machine

/-- SHUTDOWN of tenant 0. -/
def earlyReq : Req := { tenant := 0, opcode := 0x0A05, len := 0, payload := [] }
/-- CTRL runs and the flash is ready, the Ledger has not been restored yet; a significant change waits for its generation. -/
def earlyState : State :=
  { State.reset with
    sys := { State.reset.sys with boot := .parallel, ctrlUp := true, ledgerReady := false }
    flash := { State.reset.flash with density := some 0x1000000 }
    journal := { State.reset.journal with scanned := true, want := true }
    foreman := { State.reset.foreman with order := [earlyReq] } }
/-- When the snapshot that a step leaves was taken. -/
def snapTime : Host.Outcome State Fault Refusal → Option Nat
  | .next u => some u.ledger.snapAt
  | _ => none

theorem earlyState_granted : granted earlyState 1 0x0A05 earlyReq := by
  refine ⟨?_, rfl, rfl, ?_, rfl, Or.inr ?_, Or.inl ?_, rfl⟩ <;> decide +kernel

theorem shutdown_keeps_snapTime : snapTime (exec (.shutdown 1) earlyState) = some 0 := by decide +kernel
theorem spacingEnd_keeps_snapTime : snapTime (exec (.journalSpacingEnd 1) earlyState) = some 0 := by decide +kernel

/-- Refutes O44: SHUTDOWN while the Ledger is not restored. The statement says that the snapshot bears the time of the command; none
is taken. -/
theorem not_flashCommandsExecute : ¬ Obligations.FlashCommandsExecute := by
  intro h
  obtain ⟨-, -, -, -, hShutdown, -, -⟩ := h earlyState 1 earlyReq (by decide +kernel) rfl
  obtain ⟨u, hExec, -, hSnap, -⟩ := hShutdown earlyState_granted rfl (by decide +kernel)
  have hKept := shutdown_keeps_snapTime
  rw [hExec, snapTime, hSnap] at hKept
  exact absurd hKept (by decide +kernel)

/-- Refutes O43: a generation that begins while the Ledger is not restored. The statement says that its snapshot bears the time of
its begin; none is taken. -/
theorem not_journalRowsHappen : ¬ Obligations.JournalRowsHappen := by
  intro h
  obtain ⟨hBegins, -⟩ := h earlyState 1 (by decide +kernel)
  obtain ⟨u, g, hExec, -, -, -, -, -, hSnap, -⟩ := hBegins (by decide +kernel) (.journalSpacingEnd 1)
    (.inr ⟨rfl, rfl, by decide +kernel⟩)
  have hKept := spacingEnd_keeps_snapTime
  rw [hExec, snapTime, hSnap] at hKept
  exact absurd hKept (by decide +kernel)

end Sys2Proof.Machine
end

section
/-! Gesso's bring-up up to T_K, the keep-alive domain and the resets of SHELL (19 R438, R439, R454, 20 R458, R459, 23 R509, R511). -/

namespace Sys2Proof.Machine

/-! ### What the fault log leaves of KA and the clock -/

theorem newFault_ka (s : State) (code cls : Nat) (standing : Bool) (tenant kind index : Nat) (detail : List Byte) :
    ∃ m, (newFault s code cls standing tenant kind index detail).ka = { s.ka with file := m } := by
  by_cases h : cls = 3
  · simp only [newFault, h, if_true, State.ite_ka, raiseEvent_frame, ite_self]
    exact ⟨_, rfl⟩
  · exact ⟨s.ka.file, by simp [newFault, h]⟩

theorem devFault_ka (s : State) (code cls : Nat) (standing : Bool) (detail : List Byte) :
    ∃ m, (devFault s code cls standing detail).ka = { s.ka with file := m } := by
  unfold devFault logFault
  dsimp only
  split
  next => exact ⟨s.ka.file, rfl⟩
  next => exact newFault_ka ..

/-- The RTC reads its base and the time, not the file. -/
theorem rtc_congr {u s : State} (hBase : u.ka.rtcBase = s.ka.rtcBase) (hAt : u.ka.rtcAt = s.ka.rtcAt) (hNow : u.now = s.now) :
    rtc u = rtc s := by simp only [rtc, hBase, hAt, hNow]

/-- An entry of the log leaves the RTC and its validity. -/
theorem rtcInvalid_rtc (s : State) (cause : Nat) : (rtcInvalid s cause).ka.rtcValid = false ∧ rtc (rtcInvalid s cause) = rtc s := by
  unfold rtcInvalid
  split
  next h => exact ⟨by simpa using h, rfl⟩
  next =>
    dsimp only
    split
    next =>
      obtain ⟨m, hKa⟩ := devFault_ka { s with ka := { s.ka with rtcValid := false } } 0x0105 0 false (leBytes 1 cause)
      exact ⟨by rw [hKa], rtc_congr (by rw [hKa]) (by rw [hKa]) (by simp)⟩
    next => exact ⟨rfl, rfl⟩

theorem vkaLowDo_ka (low : Bool) (s : State) : (vkaLowDo low s).ka.vkaLow = low := by
  unfold vkaLowDo
  dsimp only
  split
  next =>
    obtain ⟨m, hKa⟩ := devFault_ka { s with ka := { s.ka with vkaLow := low } } 0x0104 1 true []
    rw [hKa]
  next => rfl

theorem rtc_finish (s : State) : rtc (finish s) = rtc s := rtc_congr (by simp) (by simp) (by simp)

/-! ### Fuses and locks (19 R438, R454) -/

theorem fuseReadDo_passes {reads : List (BitVec 288)} {s : State} {v : Nat}
    (h : ((reads.take 3).map (fun r => r.toNat)).find? fuseCrcOk = some v) :
    (fuseReadDo reads s).sys.boot = .pll ∧ (fuseReadDo reads s).sys.powerGood = true ∧ (fuseReadDo reads s).sys.fuses = fusesOf v := by
  simp only [fuseReadDo, h]
  exact ⟨rfl, rfl, rfl⟩

theorem fuseReadDo_halts {reads : List (BitVec 288)} {s : State} (hAll : ((reads.take 3).map (fun r => r.toNat)).length = 3)
    (h : ((reads.take 3).map (fun r => r.toNat)).find? fuseCrcOk = none) :
    (fuseReadDo reads s).sys.boot = .halted := by
  simp only [fuseReadDo, h, hAll, lt_irrefl, if_false, devFault_frame]
  rfl

theorem pllLockedDo_locks {locked : List Pll} {s : State} (hS : locked.contains .pllS = true) (hC : locked.contains .pllC = true) :
    (pllLockedDo locked s).sys.boot = .kaCheck ∧ (pllLockedDo locked s).sys.tbZero = s.now
      ∧ (pllLockedDo locked s).sys.locked = locked := by
  simp only [pllLockedDo, hS, hC, Bool.and_self, if_true]
  exact ⟨rfl, rfl, rfl⟩

theorem pllLockedDo_restarts {locked : List Pll} {s : State} (h : locked.contains .pllS = false ∨ locked.contains .pllC = false) :
    (pllLockedDo locked s).sys.boot = .off := by
  have hNot : (locked.contains Pll.pllS && locked.contains Pll.pllC) = false := by
    rcases h with h | h
    · rw [h, Bool.false_and]
    · rw [h, Bool.and_false]
  simp only [pllLockedDo, hNot, Bool.false_eq_true, if_false]
  rfl

/-! ### The KA check and the flash (19 R439, 17 R406) -/

/-- The clock and reset state without the benches. -/
def Sys.unbenched (y : Sys) : Sys := { y with benches := [] }

theorem planWaves_sys (s : State) : (planWaves s).sys.unbenched = s.sys.unbenched := by
  unfold planWaves
  refine foldl_keeps (g := fun v : State => v.sys.unbenched) ?_ _ s
  intro _ _
  rfl

theorem leaveTo_hold (s : State) (l : Nat) (st : LinkSt) (rate : Nat) : (leaveTo s l st rate).fabric.hold = s.fabric.hold := by
  unfold leaveTo
  dsimp only
  split <;> rfl

/-- The fabric keeps what it is told about the core section. -/
theorem fabricStart_hold (s : State) (stale : Bool) : (fabricStart s stale).fabric.hold = stale := by
  have hStep : ∀ (v : State) (l : Nat), (if linkOn v l then startDetect v l else v).fabric.hold = v.fabric.hold := by
    intro v l
    split
    · exact leaveTo_hold ..
    · rfl
  have hLinks := fun v => foldl_keeps (g := fun v : State => v.fabric.hold) hStep (List.range 6) v
  unfold fabricStart
  dsimp only at hLinks ⊢
  split
  · rw [becomeSingle_fabric]
    exact hLinks _
  · split
    · exact hLinks _
    · exact hLinks _

theorem flashDo_ready (d : Nat) (s : State) :
    (flashDo (some d) s).flash.density = some d ∧ (flashDo (some d) s).journal.scanned = true := by
  refine ⟨by simp [flashDo], ?_⟩
  simp only [flashDo, journalNext, journalBegin]
  split
  · simp [scanJournal]
  · simp [scanJournal]

theorem kaCheckDo_done (d : Option Nat) (s : State) :
    let u := kaCheckDo d s
    u.sys.boot = .parallel ∧ u.sys.tkAt = s.now ∧ u.ka.lost = false ∧ u.ka.lostSeen = s.ka.lost
      ∧ u.sys.computeUp = s.sys.locked.contains .pllT ∧ u.fabric.hold = (u.sys.kaSource != 0) := by
  have hSys := fun v => congrArg (fun y : Sys => (y.boot, y.tkAt, y.computeUp, y.kaSource)) (planWaves_sys v)
  simp only [Sys.unbenched, Prod.mk.injEq] at hSys
  unfold kaCheckDo
  dsimp only
  simp only [hSys, planWaves_frame, fabricStart_frame, fabricStart_hold, wakePairs_frame, loadSettings_frame, State.updSys]
  cases d with
  | none => simp [significant]
  | some d => simp [significant]

/-! ### Resets and locks (02 R41, R51, Table 2-6) -/

/-- Boot, locks and what has lost its lock. -/
def State.clocks (s : State) : Boot × List Pll × List Pll := (s.sys.boot, s.sys.locked, s.sys.lost)

theorem clocks_of_sys {u s : State} (h : u.sys = s.sys) : u.clocks = s.clocks := by rw [State.clocks, h, State.clocks]

theorem clocks_of_unbenched {u s : State} (h : u.sys.unbenched = s.sys.unbenched) : u.clocks = s.clocks := by
  have hClocks := congrArg (fun y : Sys => (y.boot, y.locked, y.lost)) h
  exact hClocks

theorem clocks_eq {u : State} {b : Boot} {l m : List Pll} (h : u.clocks = (b, l, m)) : u.sys.boot = b ∧ u.sys.locked = l := by
  simp only [State.clocks, Prod.mk.injEq] at h
  exact ⟨h.1, h.2.1⟩

theorem benchReset_unbenched (s : State) (b : Nat) : (benchReset s b).sys.unbenched = s.sys.unbenched := by
  unfold benchReset
  dsimp only
  split
  · simp [State.updBench, State.updSys, Sys.unbenched]
  · split
    · simp [State.updBench, State.updSys, Sys.unbenched]
    · rfl

theorem computeReset_clocks (s : State) (commanded : Bool) : (computeReset s commanded).clocks = s.clocks := by
  have hBenches : ∀ (v : State) (b : Nat),
      (if (v.bench b).phase == .closed && !commanded then v else benchReset v b).clocks = v.clocks := by
    intro v b
    split
    · rfl
    · exact clocks_of_unbenched (benchReset_unbenched v b)
  have hFold := foldl_keeps (g := State.clocks) hBenches (List.range 4) s
  simp only [State.clocks, Prod.mk.injEq] at hFold ⊢
  obtain ⟨hBoot, hLocked, hLost⟩ := hFold
  simp only [computeReset, State.updSys, updStreams]
  exact ⟨hBoot, hLocked, hLost⟩

theorem channelDown_clocks (s : State) (c : Nat) : (channelDown s c).clocks = s.clocks := by
  unfold channelDown
  dsimp only
  rw [foldl_keeps (g := State.clocks)]
  · simp [State.clocks, State.updSys]
  · intro v n
    (repeat' split) <;> exact clocks_of_sys (by simp)

theorem channelLost_clocks (s : State) (c : Nat) : (channelLost s c).clocks = s.clocks := by
  unfold channelLost
  split
  · rfl
  · exact (clocks_of_sys (u := stopJobs (channelDown s c) c 3) (by simp)).trans (channelDown_clocks s c)

/-- The locks that are left once a PLL has lost its own. -/
def State.unlocked (s : State) (p : Pll) : State :=
  s.updSys (fun y => { y with locked := y.locked.filter (· != p), lost := y.lost.filter (· != p) ++ [p] })

theorem contains_filter_ne (l : List Pll) (p : Pll) : (l.filter (· != p)).contains p = false := by simp

theorem lockLost_pllT (s : State) : (lockLost .pllT s).sys.computeUp = false ∧ (lockLost .pllT s).clocks = (s.unlocked .pllT).clocks := by
  refine ⟨by simp [lockLost, State.updSys], ?_⟩
  have hTold : (lockLost .pllT s).clocks = (computeReset (s.unlocked .pllT) false).clocks := by
    simp [lockLost, State.clocks, State.updSys, State.unlocked]
  exact hTold.trans (computeReset_clocks ..)

theorem lockLost_channel (s : State) (p : Pll) (hp : p = .pllM0 ∨ p = .pllM1 ∨ p = .pllF) :
    (lockLost p s).clocks = (s.unlocked p).clocks := by
  rcases hp with rfl | rfl | rfl
  · simp only [lockLost, channelLost_clocks]
    exact clocks_of_sys (by simp [State.unlocked])
  · simp only [lockLost, channelLost_clocks]
    exact clocks_of_sys (by simp [State.unlocked])
  · exact clocks_of_sys (by simp [State.unlocked, lockLost])

/-- Without PLL_S or PLL_C all of SHELL is in reset; KA and the Rumbes keep running. -/
theorem lockLost_shell (s : State) (p : Pll) (hp : p = .pllS ∨ p = .pllC) :
    (lockLost p s).clocks = (.off, [], []) ∧ (lockLost p s).ka.lost = s.ka.lost := by
  have hKa := devFault_ka (s.unlocked p).draw.2 0x0101 3 false (leBytes 1 ((s.unlocked p).draw.1 % 256) ++ leBytes 1 1)
  obtain ⟨m, hKa⟩ := hKa
  have hLost := congrArg Ka.lost hKa
  rcases hp with rfl | rfl
  · exact ⟨rfl, hLost⟩
  · exact ⟨rfl, hLost⟩

/-- A lock is lost, whichever it is. -/
theorem lockLost_contains (s : State) (p : Pll) : (lockLost p s).sys.locked.contains p = false := by
  have hLocks : ∀ v : State, (lockLost p s).clocks = v.clocks → v.sys.locked.contains p = false →
      (lockLost p s).sys.locked.contains p = false := fun v h hv => by
    rw [(clocks_eq h).2, hv]
  have hLeft : (s.unlocked p).sys.locked.contains p = false := contains_filter_ne ..
  cases p with
  | pllT => exact hLocks _ (lockLost_pllT s).2 hLeft
  | pllM0 | pllM1 | pllF => exact hLocks _ (lockLost_channel s _ (by simp)) hLeft
  | pllS | pllC => rfl

theorem lockRegained_locks (s : State) (p : Pll) (hS : p ≠ .pllS) (hC : p ≠ .pllC) :
    (lockRegained p s).sys.locked.contains p = true ∧ (lockRegained p s).sys.lost.contains p = false
      ∧ (p = .pllT → s.sys.boot = .parallel → (lockRegained p s).sys.computeUp = true) := by
  obtain ⟨k, hk⟩ : ∃ k, pllCode p = some k := by cases p <;> simp_all [pllCode]
  simp only [lockRegained, hk]
  split
  next h => 
    refine ⟨by simp, by simp, fun hT hPar => ?_⟩
    simp [hT, hPar] at h
  next => exact ⟨by simp, by simp, fun _ _ => rfl⟩

/-! ### The rows -/

section
variable {s : State} {t : Nat}

theorem exec_powerGoodRise_reads (reads : List (BitVec 288)) (hOff : s.sys.boot = .off) (hCool : s.sys.thermal.abs = false) :
    exec (.powerGoodRise t reads) s = .next (finish (fuseReadDo reads (s.at t))) := by
  have hHolds : ((s.at t).sys.boot == .off && !(s.at t).sys.thermal.abs) = true := by
    simp [State.at, hOff, hCool]
  rw [exec_powerGoodRise, execPowerGoodRise]
  rw [when, if_pos hHolds]

theorem exec_gessoPllLocked_locks (locked : List Pll) (hPll : s.sys.boot = .pll) :
    exec (.gessoPllLocked t locked) s = .next (finish (pllLockedDo locked (s.at t))) := by
  have hHolds : ((s.at t).sys.boot == .pll) = true := by simp [State.at, hPll]
  rw [exec_gessoPllLocked, execGessoPllLocked]
  rw [when, if_pos hHolds]

theorem exec_kaCheckDone_checks (d : Option Nat) (hCheck : s.sys.boot = .kaCheck) :
    exec (.kaCheckDone t d) s = .next (finish (kaCheckDo d (s.at t))) := by
  have hHolds : ((s.at t).sys.boot == .kaCheck) = true := by simp [State.at, hCheck]
  rw [exec_kaCheckDone, execKaCheckDone]
  rw [when, if_pos hHolds]

theorem shellUp_of_boot {s : State} {b : Boot} (h : s.sys.boot = b) (hOff : b ≠ .off) (hHalted : b ≠ .halted) : s.shellUp = true := by
  simp [State.shellUp, h, hOff, hHalted]

theorem exec_flashIdentified_scans (d : Nat) (hPar : s.sys.boot = .parallel) (hNot : readyBit s 5 = false) :
    ∃ u, exec (.flashIdentified t (some d)) s = .next u ∧ u.flash.density = some d ∧ u.journal.scanned = true
      ∧ readyBit u 5 = true := by
  have hHolds : ((s.at t).sys.boot == .parallel && !readyBit (s.at t) 5) = true := by
    have hSame : readyBit (s.at t) 5 = readyBit s 5 := rfl
    rw [hSame, hNot]
    simp [State.at, hPar]
  obtain ⟨hDensity, hScanned⟩ := flashDo_ready d (s.at t)
  refine ⟨_, exec_of_row rfl (shellUp_of_boot hPar (by simp) (by simp)) hHolds, ?_, ?_, ?_⟩
  · simp only [finish_frame, hDensity]
  · simp only [finish_frame, hScanned]
  · simp [readyBit, hDensity, hScanned]

theorem exec_kaLost_clears : ∃ u, exec (.kaLost t) s = .next u ∧ u.ka.file = [] ∧ u.ka.lost = true ∧ u.ka.rtcValid = false
    ∧ rtc u = 0 := by
  obtain ⟨hInvalid, -⟩ := rtcInvalid_rtc (s.at t) 0
  refine ⟨_, exec_kaLost t s, by simp [kaLostDo], by simp [kaLostDo], by simp [kaLostDo, hInvalid], ?_⟩
  rw [rtc_finish]
  simp [rtc, kaLostDo]

theorem exec_clockLost (cause : Nat) :
    (finish (rtcInvalid (s.at t) cause)).ka.rtcValid = false ∧ rtc (finish (rtcInvalid (s.at t) cause)) = rtc (s.at t) := by
  obtain ⟨hInvalid, hRtc⟩ := rtcInvalid_rtc (s.at t) cause
  exact ⟨by simp [hInvalid], by rw [rtc_finish, hRtc]⟩

/-- What a reset of SHELL leaves running, and what it does not (02 R41). -/
def Reset (s u : State) : Prop :=
  u.shellUp = false ∧ u.sys.boot = .off ∧ u.ka = s.ka ∧ u.flash.mem = s.flash.mem ∧ u.rumbes = s.rumbes ∧ u.log.entries = []

theorem reset_finish {v : State} (h : Reset s v) : Reset s (finish v) := by
  simpa [Reset, State.shellUp] using h

theorem reset_shellReset : Reset s (shellReset (s.at t)) := ⟨rfl, rfl, rfl, rfl, rfl, rfl⟩
theorem reset_powerFall : Reset s (powerFall (s.at t)) := ⟨rfl, rfl, rfl, rfl, rfl, rfl⟩

theorem exec_pllLockLoss_row {p : Pll} (hUp : s.shellUp = true) (hLocked : s.sys.locked.contains p = true) :
    exec (.pllLockLoss t p) s = .next (finish (lockLost p (s.at t))) :=
  exec_of_row (exec_pllLockLoss ..) hUp hLocked

theorem exec_pllLockRegain_row {p : Pll} (hUp : s.shellUp = true) (hLost : s.sys.lost.contains p = true) :
    exec (.pllLockRegain t p) s = .next (finish (lockRegained p (s.at t))) :=
  exec_of_row (exec_pllLockRegain ..) hUp hLost

theorem finish_sys (u : State) : (finish u).sys = u.sys := by simp
theorem finish_ka (u : State) : (finish u).ka = u.ka := by simp

end

/-- Settles O45: each row's function under its condition, over what the log, the benches and the channels leave of the clocks. -/
theorem gessoBringsUp : Obligations.GessoBringsUp := by
  intro s t now z
  refine ⟨fun reads hOff hCool => ?_, fun locked hPll => ⟨fun hS hC => ?_, fun hNot => ?_⟩,
    fun d hCheck => ?_, fun d hPar hNot => exec_flashIdentified_scans d hPar hNot, exec_kaLost_clears, fun low => ?_,
    fun i hi => ?_, fun i hi => ?_, fun hUp => ⟨fun p hp => ?_, fun p hp hS hC => ?_⟩⟩
  · intro rs
    refine ⟨fun v hv => ?_, fun hAll hNone => ?_⟩
    · obtain ⟨hBoot, hGood, hFuses⟩ := fuseReadDo_passes (s := s.at t) hv
      exact ⟨_, exec_powerGoodRise_reads reads hOff hCool, by rw [finish_sys, hBoot], by rw [finish_sys, hGood],
        by rw [finish_sys, hFuses]⟩
    · have hBoot := fuseReadDo_halts (s := s.at t) hAll hNone
      exact ⟨_, exec_powerGoodRise_reads reads hOff hCool, by rw [finish_sys, hBoot],
        by rw [State.shellUp, finish_sys, hBoot]; rfl⟩
  · obtain ⟨hBoot, hZero, hLocked⟩ := pllLockedDo_locks (s := s.at t) hS hC
    exact ⟨_, exec_gessoPllLocked_locks locked hPll, by rw [finish_sys, hBoot], by rw [finish_sys, hZero]; rfl,
      by rw [finish_sys, hLocked]⟩
  · exact ⟨_, exec_gessoPllLocked_locks locked hPll, by rw [finish_sys, pllLockedDo_restarts hNot]⟩
  · obtain ⟨hBoot, hTk, hLost, hSeen, hCompute, hHold⟩ := kaCheckDo_done d (s.at t)
    refine ⟨_, exec_kaCheckDone_checks d hCheck, ?_⟩
    simp only [finish_sys, finish_ka, finish_fabric, hBoot, hTk, hLost, hSeen, hCompute, hHold]
    exact ⟨trivial, rfl, trivial, rfl, rfl, trivial⟩
  · exact ⟨_, exec_vkaLow t low s, by rw [finish_ka, vkaLowDo_ka]⟩
  · rcases hi with rfl | ⟨rfl, hUp⟩
    · exact ⟨_, exec_oscillatorStop t s, exec_clockLost 1⟩
    · exact ⟨_, exec_of_row (exec_rtcTickMissing t s) hUp rfl, exec_clockLost 2⟩
  · rcases hi with rfl | ⟨r, rfl⟩
    · obtain ⟨hDown, hOff, hKa, hFlash, hRumbes, hLog⟩ := reset_finish (reset_powerFall (s := s) (t := t))
      have hGood : (finish (powerFall (s.at t))).sys.powerGood = false := by rw [finish_sys]; rfl
      exact ⟨finish (powerFall (s.at t)), exec_pwrgoodFall t s, hDown, hOff, hKa, hFlash, hRumbes, hLog, by rw [hGood, if_pos rfl]⟩
    · obtain ⟨hDown, hOff, hKa, hFlash, hRumbes, hLog⟩ := reset_finish (reset_shellReset (s := s) (t := t))
      have hGood : (finish (shellReset (s.at t))).sys.powerGood = s.sys.powerGood := by rw [finish_sys]; rfl
      exact ⟨finish (shellReset (s.at t)), exec_coreRailBrownout t r s, hDown, hOff, hKa, hFlash, hRumbes, hLog,
        by rw [hGood, if_neg (by simp)]⟩
  · refine ⟨finish (lockLost p (s.at t)), exec_pllLockLoss_row hUp hp, by rw [finish_sys, lockLost_contains],
      fun hT => ?_, fun hShell => ?_⟩
    · obtain ⟨hCompute, hClocks⟩ := lockLost_pllT (s.at t)
      have hBoot : (lockLost .pllT (s.at t)).sys.boot = s.sys.boot := (clocks_eq hClocks).1
      rw [finish_sys, hT]
      exact ⟨hCompute, hBoot⟩
    · obtain ⟨hClocks, hLost⟩ := lockLost_shell (s.at t) p hShell
      have hBoot : (lockLost p (s.at t)).sys.boot = .off := (clocks_eq hClocks).1
      have hRumbes : (finish (lockLost p (s.at t))).rumbes = s.rumbes := by simp
      rw [finish_sys, finish_ka]
      exact ⟨hBoot, hLost, hRumbes⟩
  · obtain ⟨hLocked, hGone, hCompute⟩ := lockRegained_locks (s.at t) p hS hC
    exact ⟨_, exec_pllLockRegain_row hUp hp, by rw [finish_sys, hLocked], by rw [finish_sys, hGone],
      fun hT hPar => by rw [finish_sys]; exact hCompute hT hPar⟩

end Sys2Proof.Machine
end

section
/-! Benches, the known-answer test and the start of Foreman (19 R442 to R444, 12 R304, 15 R352). -/

namespace Sys2Proof.Machine

section
variable {s : State} {t b : Nat} {x : Bench}

/-! ### Benches as a list -/

theorem bench_of_getElem? (h : s.sys.benches[b]? = some x) : s.bench b = x := by
  rw [State.bench, List.getD_eq_getElem?_getD, h, Option.getD_some]

theorem bench_congr {u v : State} (h : u.sys.benches = v.sys.benches) (b : Nat) : u.bench b = v.bench b := by
  rw [State.bench, h, State.bench]

theorem getElem?_updBench (s : State) (b : Nat) (f : Bench → Bench) :
    (s.updBench b f).sys.benches[b]? = s.sys.benches[b]?.map f := getElem?_modAt ..

theorem bench_updBench (h : s.sys.benches[b]? = some x) (f : Bench → Bench) : (s.updBench b f).bench b = f x :=
  bench_of_getElem? (by rw [getElem?_updBench, h, Option.map_some])

/-! ### Gates (19 R442) -/

theorem waveDue_of (h : s.sys.benches[b]? = some x) (hPar : s.sys.boot = .parallel) (hClock : s.sys.computeUp = true)
    (hOff : x.phase = .off) (hWave : x.wave ≤ max s.now t) (hCool : s.sys.thermal.shut = false) :
    waveDue b (s.at t) = true := by
  simp [waveDue, bench_of_getElem? h, hPar, hClock, hOff, hCool, hWave]

theorem gateDue_of (h : s.sys.benches[b]? = some x) (hClock : s.sys.computeUp = true) (hOpening : x.phase = .opening)
    (hPast : x.openAt + 19200 ≤ max s.now t) : gateDue b (s.at t) = true := by
  simp only [gateDue, State.at_at_bench, bench_of_getElem? h, hOpening, Bool.and_eq_true]
  exact ⟨⟨hClock, rfl⟩, decide_eq_true hPast⟩

/-! ### The end of a self-test (19 R443, R444) -/

theorem tellRestore_benches (s : State) : (tellRestore s).sys.benches = s.sys.benches := by
  unfold tellRestore
  dsimp only
  split
  · rfl
  · simp

/-- A bench that fails its test closes its gate. -/
def Bench.failed (x : Bench) (item : Nat) : Bench := { x with phase := .closed, retest := false, live := 0, failItem := item }
/-- A bench that passes. -/
def Bench.passes (x : Bench) (live : Nat) : Bench := { x with live := live, failItem := 0 }
/-- A bench in dispatch. -/
def Bench.entered (x : Bench) : Bench := { x with phase := .live, retest := false }

theorem benchFails_bench (h : s.sys.benches[b]? = some x) (item : Nat) : (benchFails s b item).bench b = x.failed item := by
  have hBenches : (benchFails s b item).sys.benches = (s.updBench b (fun x => x.failed item)).sys.benches := by
    simp only [benchFails, tellRestore_benches, recheck_frame, imagesOff_frame, logFault_frame]
    rfl
  rw [bench_congr hBenches, bench_updBench h]

theorem benchEnters_benches (s : State) (b : Nat) : (benchEnters s b).sys.benches = (s.updBench b Bench.entered).sys.benches := by
  have hPlaced : ∀ v : State, (widenOn (placeOn v b) b).sys = v.sys := by simp
  have hPicked : ∀ v : State, ((List.range 16).foldl (fun s i => dispatchTile s (b * 16 + i)) (recheck v)).sys = v.sys := by simp
  have hResumed : ∀ (v : State) (l : List Nat), (l.foldl resumeOne v).sys = v.sys := by simp
  unfold benchEnters
  dsimp only
  rw [hPicked]
  split
  · rw [tellRestore_benches, hResumed, hPlaced]
    rfl
  · rw [hPlaced]
    rfl

theorem selfTestDone_fails (h : s.sys.benches[b]? = some x) {r : SelfTest}
    (hBad : r.dispatcherOk = false ∨ r.storeOk = false ∨ r.tiles = 0#16) :
    ((selfTestDone b r s).bench b).phase = .closed ∧ ((selfTestDone b r s).bench b).live = 0 := by
  have hFails : ∃ item, selfTestDone b r s = benchFails s.draw.2 b item := by
    unfold selfTestDone
    dsimp only
    split
    · exact ⟨_, rfl⟩
    next hDispatcher =>
      split
      · exact ⟨_, rfl⟩
      next hStore =>
        rw [if_pos (by simpa [show r.dispatcherOk = true by simpa using hDispatcher, show r.storeOk = true by simpa using hStore] using hBad)]
        exact ⟨_, rfl⟩
  obtain ⟨item, hFails⟩ := hFails
  have hDrawn : s.draw.2.sys.benches[b]? = some x := h
  rw [hFails, benchFails_bench hDrawn]
  exact ⟨rfl, rfl⟩

theorem selfTestDone_passes (h : s.sys.benches[b]? = some x) {r : SelfTest} (hDispatcher : r.dispatcherOk = true)
    (hStore : r.storeOk = true) (hTiles : r.tiles ≠ 0#16) :
    ((selfTestDone b r s).bench b).live = r.tiles.toNat
      ∧ ((selfTestDone b r s).bench b).phase = if s.sys.ctrlUp = true ∨ s.foreman.images = [] then .live else .passed := by
  let v := clearTiles (s.draw.2.updBench b (fun x => x.passes r.tiles.toNat)) b
  have hSys : v.sys = (s.updBench b (fun x => x.passes r.tiles.toNat)).sys := by simp [v]
  have hForeman : v.foreman = s.foreman := by simp [v]
  have hBench : v.sys.benches[b]? = some (x.passes r.tiles.toNat) := by rw [hSys, getElem?_updBench, h, Option.map_some]
  have hDone : selfTestDone b r s = if v.sys.ctrlUp || v.foreman.images.isEmpty then benchEnters v b
      else v.updBench b (fun x => { x with phase := .passed }) := by
    simp only [selfTestDone, hDispatcher, hStore, Bool.not_true, Bool.false_eq_true, if_false, if_neg hTiles]
    rfl
  have hCtrl : v.sys.ctrlUp = s.sys.ctrlUp := by rw [hSys]; rfl
  rw [hDone, hCtrl, hForeman]
  by_cases hNow : s.sys.ctrlUp = true ∨ s.foreman.images = []
  · rw [if_pos (by simpa using hNow), if_pos hNow, bench_congr (benchEnters_benches v b), bench_updBench hBench]
    exact ⟨rfl, rfl⟩
  · rw [if_neg (by simpa using hNow), if_neg hNow, bench_updBench hBench]
    exact ⟨rfl, rfl⟩

/-! ### The known-answer test (12 R304) -/

/-- What each class state is compared with. -/
def katBad (c0 c1 c2 : BitVec 72) : Option (Nat × BitVec 72) :=
  [(0, c0), (1, c1), (2, c2)].find? (fun e => !(e.2.toNat == classState 0 e.1))

theorem katBad_none_iff (c0 c1 c2 : BitVec 72) :
    katBad c0 c1 c2 = none ↔ c0.toNat = classState 0 0 ∧ c1.toNat = classState 0 1 ∧ c2.toNat = classState 0 2 := by
  simp [katBad]

theorem stippleTest_good {c0 c1 c2 : BitVec 72} (h : katBad c0 c1 c2 = none) : (stippleTest c0 c1 c2 s).sys.stippleOk = true := by
  rw [katBad] at h
  simp only [stippleTest, h]
  rfl

theorem stippleTest_bad {c0 c1 c2 : BitVec 72} {e : Nat × BitVec 72} (h : katBad c0 c1 c2 = some e) :
    (stippleTest c0 c1 c2 s).sys.stippleOk = s.sys.stippleOk ∧ (stippleTest c0 c1 c2 s).sys.stippleBad.isSome = true := by
  rw [katBad] at h
  simp only [stippleTest, h, devFault_frame]
  exact ⟨rfl, rfl⟩

end

/-! ### The start of Foreman (15 R352, 21 R487) -/

section
variable {s : State}

/-- What FOREMAN_START sets and the rest of the start leaves: the patch, the restart that was told, IFL and its versions, CTRL. -/
def State.firmware (s : State) : Nat × Bool × HostRegs × Bool := (s.foreman.patchVer, s.foreman.restart, s.host, s.sys.ctrlUp)

/-- A change of the images alone. -/
theorem firmware_of {u s : State} (hForeman : ∃ l, u.foreman = { s.foreman with images := l }) (hHost : u.host = s.host)
    (hCtrl : u.sys.ctrlUp = s.sys.ctrlUp) : u.firmware = s.firmware := by
  obtain ⟨l, hForeman⟩ := hForeman
  rw [State.firmware, hForeman, hHost, hCtrl, State.firmware]

theorem firmware_same {u s : State} (hForeman : u.foreman = s.foreman) (hHost : u.host = s.host)
    (hCtrl : u.sys.ctrlUp = s.sys.ctrlUp) : u.firmware = s.firmware := firmware_of ⟨s.foreman.images, by rw [hForeman]⟩ hHost hCtrl

theorem replaceTile_firmware (s : State) (h tile : Nat) : (replaceTile s h tile).firmware = s.firmware := by
  refine firmware_of ?_ (by simp) (by simp)
  unfold replaceTile
  cases imageOf s h with
  | none => exact ⟨s.foreman.images, rfl⟩
  | some img =>
    dsimp only
    (repeat' split) <;> (simp only [logFault_frame, loadTile_frame, State.updTile_foreman]; exact ⟨_, rfl⟩)

theorem placeOn_firmware (s : State) (b : Nat) : (placeOn s b).firmware = s.firmware := by
  have hOff : (imagesOff s b).firmware = s.firmware := rfl
  unfold placeOn
  refine (foldl_keeps (g := State.firmware) ?_ _ (imagesOff s b)).trans hOff
  intro v h
  cases imageOf v h with
  | none => rfl
  | some img => exact foldl_keeps (g := State.firmware) (fun w n => replaceTile_firmware w h n) ..

theorem tellRestore_firmware (s : State) : (tellRestore s).firmware = s.firmware := by
  unfold tellRestore
  dsimp only
  split
  · rfl
  · exact firmware_same (by simp) (by simp) (by simp)

theorem benchEnters_firmware (s : State) (b : Nat) : (benchEnters s b).firmware = s.firmware := by
  have hWiden : ∀ v : State, (widenOn v b).firmware = v.firmware := fun v => firmware_same (by simp) (by simp) (by simp)
  have hPicked : ∀ v : State, ((List.range 16).foldl (fun s i => dispatchTile s (b * 16 + i)) (recheck v)).firmware = v.firmware :=
    fun v => firmware_same (by simp) (by simp) (by simp)
  have hResumed : ∀ (v : State) (l : List Nat), (l.foldl resumeOne v).firmware = v.firmware :=
    fun v l => firmware_same (by simp) (by simp) (by simp)
  unfold benchEnters
  dsimp only
  rw [hPicked]
  split
  · rw [tellRestore_firmware, hResumed, hWiden, placeOn_firmware]
    rfl
  · rw [hWiden, placeOn_firmware]
    rfl

theorem releaseObj_firmware (s : State) (o : RegObj) : (releaseObj s o).firmware = s.firmware := by
  cases o with
  | image h =>
    simp only [releaseObj]
    cases imageOf s h with
    | none => rfl
    | some img =>
      dsimp only
      refine (firmware_same (by simp) (by simp) (by simp)).trans (?_ : (unloadImage s h img).firmware = s.firmware)
      exact firmware_of ⟨_, unloadImage_foreman s h img⟩ (by simp) (by simp)
  | job n => rfl
  | ring t n => rfl
  | dataset t => rfl
  | stream n => exact firmware_same (by simp [releaseObj]) (by simp) (by simp)

/-- The version of the patch in the flash where it is good (15 R352). -/
def patchVersion (s : State) : Nat :=
  let b := flashBytes s 0 (128 + min 98304 (leAt (flashBytes s 0 16) 12 4))
  if s.flash.density.isSome = true ∧ patchFails s b = 0 then leAt b 8 4 else 0

theorem patchVersion_congr {u s : State} (hFlash : u.flash = s.flash) (hKa : u.ka = s.ka) : patchVersion u = patchVersion s := by
  have hBytes : flashBytes u = flashBytes s := by
    funext a n
    rw [flashBytes, hFlash, flashBytes]
  have hMin : kaField u 0x74 4 = kaField s 0x74 4 := by rw [kaField, hKa, kaField]
  have hFails : patchFails u = patchFails s := by
    funext b
    rw [patchFails, hMin, patchFails]
  simp only [patchVersion, hBytes, hFails, hFlash]

/-- What the check of a patch leaves. -/
theorem verifyPatch_firmware (s : State) : (verifyPatch s).firmware =
    (patchVersion s, s.foreman.restart, { s.host with ifl := 3, romVer := Config.romVer % 65536, patchVer := patchVersion s },
      s.sys.ctrlUp) := by
  have hCode : ∀ b, (if (if s.flash.density.isSome then patchFails s b else 1) = 0 then leAt b 8 4 else 0)
      = if s.flash.density.isSome = true ∧ patchFails s b = 0 then leAt b 8 4 else 0 := by
    intro b
    by_cases h : s.flash.density.isSome = true <;> simp [h]
  have hTold : ∀ (v : State) (c : Nat), (if c = 0 then v
      else raiseEvent (devFault v 0x0405 1 false (leBytes 1 c)) 0 0x01E3 (leBytes 1 c)).firmware = v.firmware :=
    fun v c => firmware_same (by simp) (by simp) (by simp)
  unfold verifyPatch
  dsimp only
  rw [hTold, hCode]
  rfl

theorem foremanStarts_firmware (bad : List RegObj) (s : State) : (foremanStarts bad s).firmware =
    (patchVersion s, false, { s.host with ifl := 3, romVer := Config.romVer % 65536, patchVer := patchVersion s }, true) := by
  let again := s.foreman.restart
  let up := s.updSys (fun y => { y with ctrlUp := true })
  let told := if again then tellRestart up else up
  let clamped := if told.sys.bootClamped && !again then
    raiseEvent told 0 0x01E2 (leBytes 1 told.sys.kaSource ++ leBytes 1 (kaField told 0x2481 1)) else told
  let cleared := clamped.updSys (fun y => { y with bootClamped := false })
  let restored := if again then restartCopies (restoreJobs (bad.foldl releaseObj (verifyPatch cleared))) else verifyPatch cleared
  have hStarts : foremanStarts bad s
      = recheck (((List.range 4).filter (fun b => (restored.bench b).phase == .passed)).foldl benchEnters restored) := rfl
  have hTold : told.foreman.restart = false ∧ told.host = s.host ∧ told.sys.ctrlUp = true := by
    unfold told
    split
    next => simp [tellRestart, up]
    next h =>
      have hNo : s.foreman.restart = false := by simpa [again] using h
      exact ⟨hNo, rfl, rfl⟩
  obtain ⟨hRestart, hHost, hCtrl⟩ := hTold
  have hCleared : cleared.foreman = told.foreman ∧ cleared.host = told.host ∧ cleared.sys.ctrlUp = told.sys.ctrlUp := by
    simp [cleared, clamped]
  have hSame : patchVersion cleared = patchVersion s :=
    patchVersion_congr (by simp [cleared, clamped, told, up]) (by simp [cleared, clamped, told, up])
  have hRestored : restored.firmware = (verifyPatch cleared).firmware := by
    unfold restored
    split
    · have hJobs : (restartCopies (restoreJobs (bad.foldl releaseObj (verifyPatch cleared)))).firmware
          = (bad.foldl releaseObj (verifyPatch cleared)).firmware := firmware_same (by simp) (by simp) (by simp)
      rw [hJobs, foldl_keeps (g := State.firmware) releaseObj_firmware]
    · rfl
  have hRecheck : ∀ v : State, (recheck v).firmware = v.firmware := fun v => firmware_same (by simp) (by simp) (by simp)
  obtain ⟨hCleared, hClearedHost, hClearedCtrl⟩ := hCleared
  rw [hStarts, hRecheck, foldl_keeps (g := State.firmware) benchEnters_firmware, hRestored, verifyPatch_firmware, hSame, hCleared,
    hClearedHost, hClearedCtrl, hRestart, hHost, hCtrl]

end

end Sys2Proof.Machine
end

section
/-! The DRAM channels: training, the end of a region's test, a channel down (19 R446 to R451); and what starts (19 R442 to R444, R448,
R451, 12 R304, 15 R352). -/

namespace Sys2Proof.Machine

section
variable {s : State} {t c i : Nat} {x : Channel}

/-! ### Channels as a list -/

theorem chan_of_getElem? (h : s.sys.channels[c]? = some x) : s.chan c = x := by
  rw [State.chan, List.getD_eq_getElem?_getD, h, Option.getD_some]

theorem getElem?_updChan (s : State) (c : Nat) (f : Channel → Channel) :
    (s.updChan c f).sys.channels[c]? = s.sys.channels[c]?.map f := getElem?_modAt ..

theorem storeState_channels (s : State) : (storeState s).sys.channels = s.sys.channels := rfl

/-- The next test changes one region that waits. -/
theorem testNext_channel (h : s.sys.channels[c]? = some x) :
    ∃ rs, (testNext s c).sys.channels[c]? = some { x with regions := rs } ∧ rs.length = x.regions.length
      ∧ ∀ (j : Nat) (r : RegionSt), r ≠ .pending → x.regions[j]? = some r → rs[j]? = some r := by
  unfold testNext
  split
  · exact ⟨x.regions, h, rfl, fun _ _ _ hr => hr⟩
  · split
    next j hNext =>
      have hPending : (x.regions.getD j .mappedOut == .pending) = true := by
        have hMem : j ∈ (List.range (s.chan c).regions.length).filter (fun i => (s.chan c).regions.getD i .mappedOut == .pending) := by
          rw [nextRegion, Option.or_eq_some_iff] at hNext
          rcases hNext with hStore | ⟨-, hHead⟩
          · exact List.mem_of_find?_eq_some hStore
          · exact List.mem_of_head? hHead
        rw [chan_of_getElem? h] at hMem
        exact (List.mem_filter.mp hMem).2
      refine ⟨x.regions.set j .testing, by rw [getElem?_updChan, h, Option.map_some], List.length_set, fun k r hr hk => ?_⟩
      have hNe : j ≠ k := by
        rintro rfl
        rw [List.getD_eq_getElem?_getD, hk] at hPending
        exact hr (by simpa using hPending)
      rw [List.getElem?_set_ne hNe, hk]
    · exact ⟨x.regions, h, rfl, fun _ _ _ hr => hr⟩

/-! ### Training (19 R448) -/

theorem channelTrained_channel (h : s.sys.channels[c]? = some x) (mib : Nat) :
    ∃ y, (channelTrained c mib s).sys.channels[c]? = some y ∧ y.up = true ∧ y.mib = min mib (chanShare s) - 1
      ∧ y.regions.length = ceilDiv (min mib (chanShare s)) 256 := by
  let size := min mib (chanShare s)
  let v := if (s.chan c).retrain then { s with dram := modAt s.dram c (fun _ => []) } else s
  let w := v.updChan c (fun x => { x with up := true, mib := size - 1, regions := regionsAt v c size })
  let stored := if (s.chan c).retrain then (storedOn w c (fun _ => true)).foldl storeLost w else w
  have hTrained : channelTrained c mib s = storeState (testNext stored c) := rfl
  have hv : v.sys = s.sys := by unfold v; split <;> rfl
  have hStored : stored.sys = w.sys := by unfold stored; split <;> simp
  have hw : stored.sys.channels[c]? = some { x with up := true, mib := size - 1, regions := regionsAt v c size } := by
    rw [hStored, getElem?_updChan, hv, h, Option.map_some]
  obtain ⟨rs, hNext, hLength, -⟩ := testNext_channel hw
  refine ⟨_, by rw [hTrained, storeState_channels, hNext], rfl, rfl, ?_⟩
  rw [hLength, regionsAt, List.length_map, List.length_range]

/-! ### The end of a region's test (19 R451) -/

theorem regionDone_channel (h : s.sys.channels[c]? = some x) (hi : i < x.regions.length) (r : RegionTest) :
    ∃ y, (regionDone c i r s).sys.channels[c]? = some y
      ∧ y.regions[i]? = some (if (judgeRegion s c (regionLevel s c i) r).2.isSome then .released else .mappedOut) := by
  let j := judgeRegion s c (regionLevel s c i) r
  let end_ : RegionSt := if j.2.isSome then .released else .mappedOut
  let patched := s.updSys (fun y => { y with patches := y.patches ++ j.2.getD [] })
  let ended := patched.updChan c (fun x => { x with
    regions := x.regions.set i end_, spareBad := j.1.foldl (fun v k => setBit v k true) x.spareBad })
  let kept := keepMap ended
  let lost := if j.2.isSome then kept
    else (storedOn (logFault kept 0x0501 1 false 0xFF 5 c (leBytes 1 i ++ leBytes 2 (failingRows r).length)) c
      (fun k => k == i)).foldl storeLost (logFault kept 0x0501 1 false 0xFF 5 c (leBytes 1 i ++ leBytes 2 (failingRows r).length))
  have hDone : regionDone c i r s
      = storeState (testNext (raiseEvent lost 0 0x0BE1 (leBytes 2 (32 * c + i) ++ leBytes 1 (b2n j.2.isSome))) c) := rfl
  have hLost : lost.sys = ended.sys := by unfold lost; split <;> simp [kept]
  have hEnded : ended.sys.channels[c]? = some { x with
      regions := x.regions.set i end_, spareBad := j.1.foldl (fun v k => setBit v k true) x.spareBad } := by
    have hPatched : patched.sys.channels[c]? = some x := h
    rw [getElem?_updChan, hPatched, Option.map_some]
  have hTold : (raiseEvent lost 0 0x0BE1 (leBytes 2 (32 * c + i) ++ leBytes 1 (b2n j.2.isSome))).sys.channels[c]? = some { x with
      regions := x.regions.set i end_, spareBad := j.1.foldl (fun v k => setBit v k true) x.spareBad } := by
    simp only [raiseEvent_frame, hLost, hEnded]
  obtain ⟨rs, hNext, -, hOthers⟩ := testNext_channel hTold
  refine ⟨_, by rw [hDone, storeState_channels, hNext], hOthers i end_ ?_ (List.getElem?_set_self hi)⟩
  unfold end_
  split <;> simp

/-! ### A channel goes down (19 R446) -/

theorem channelDown_channels (s : State) (c : Nat) : (channelDown s c).sys.channels
    = modAt s.sys.channels c (fun x => { x with up := false, retrain := true }) := by
  unfold channelDown
  dsimp only
  rw [foldl_keeps (g := fun v : State => v.sys.channels)]
  · simp [State.updSys]
  · intro v n
    (repeat' split) <;> simp

theorem channelLost_channel (h : s.sys.channels[c]? = some x) (hUp : x.up = true) :
    ∃ y, (channelLost s c).sys.channels[c]? = some y ∧ y.up = false ∧ y.retrain = true
      ∧ ∀ r ∈ y.regions, r = .mappedOut ∨ r = .pending := by
  have hRuns : (!(s.sys.channels.getD c {}).up) = false := by rw [List.getD_eq_getElem?_getD, h, Option.getD_some, hUp]; rfl
  have hStopped : (stopJobs (channelDown s c) c 3).sys.channels[c]? = some { x with up := false, retrain := true } := by
    simp only [stopJobs_frame, channelDown_channels, getElem?_modAt, h, Option.map_some]
  refine ⟨_, by rw [channelLost, if_neg (by rw [hRuns]; exact Bool.false_ne_true), State.updSys_sys, getElem?_modAt, hStopped, Option.map_some], rfl, rfl, ?_⟩
  intro r hr
  obtain ⟨q, -, rfl⟩ := List.mem_map.mp hr
  split
  · exact .inl rfl
  · exact .inr rfl

end

theorem finish_host_ifl (s : State) : (finish s).host.ifl = s.host.ifl := by simp [finish, refreshLines, refreshReady]
theorem finish_host_patchVer (s : State) : (finish s).host.patchVer = s.host.patchVer := by simp [finish, refreshLines, refreshReady]

/-- Settles O46: each row's function under its condition; every bench and channel is followed through the operations that leave it. -/
theorem blocksStart : Obligations.BlocksStart := by
  intro s t hUp now z
  refine ⟨fun b x hx hClock => ⟨fun hPar hOff hWave hCool => ?_, fun hOpening hPast => ?_, fun hTesting r => ?_⟩,
    fun hPar hNotOk hNotBad c0 c1 c2 => ?_, fun hPar hCtrl bad => ?_, fun c x hx => ⟨fun mib hMay => ?_, fun i r hxUp hTesting => ?_,
      fun hxUp => ?_⟩⟩
  · refine ⟨_, exec_of_row (exec_benchWaveStart t b s) hUp (waveDue_of hx hPar hClock hOff hWave hCool), ?_⟩
    rw [finish_sys, gateOpens, getElem?_updBench, State.at_sys, hx, Option.map_some]
    rfl
  · refine ⟨_, exec_of_row (exec_benchGateOpen t b s) hUp (gateDue_of hx hClock hOpening hPast), ?_⟩
    rw [finish_sys, testBegins, getElem?_updBench, State.at_sys, hx, Option.map_some]
    rfl
  · have hCond : ((s.at t).sys.computeUp && ((s.at t).bench b.val).phase == .testing) = true := by
      rw [State.at_at_bench, bench_of_getElem? hx, hTesting, State.at_sys, hClock]
      rfl
    have hRow := exec_of_row (exec_benchSelfTestDone t b r s) hUp hCond
    have hBench : (finish (selfTestDone b.val r (s.at t))).bench b.val = (selfTestDone b.val r (s.at t)).bench b.val :=
      bench_congr (by rw [finish_sys]) _
    refine ⟨fun hBad => ⟨_, hRow, ?_⟩, fun hDispatcher hStore hTiles => ⟨_, hRow, ?_⟩⟩
    · rw [hBench]
      exact selfTestDone_fails (s := s.at t) hx hBad
    · rw [hBench]
      exact selfTestDone_passes (s := s.at t) hx hDispatcher hStore hTiles
  · intro good
    have hCond : ((s.at t).sys.boot == .parallel && !(s.at t).sys.stippleOk && (s.at t).sys.stippleBad.isNone) = true := by
      simp [hPar, hNotOk, hNotBad]
    have hRow := exec_of_row (exec_stippleKatDone t c0 c1 c2 s) hUp hCond
    refine ⟨fun hGood => ⟨_, hRow, ?_⟩, fun hBad => ⟨_, hRow, ?_⟩⟩
    · rw [finish_sys, stippleTest_good ((katBad_none_iff ..).mpr hGood)]
    · obtain ⟨e, he⟩ := Option.ne_none_iff_exists'.mp (mt (katBad_none_iff c0 c1 c2).mp hBad)
      obtain ⟨hOk, hNamed⟩ := stippleTest_bad (s := s.at t) he
      rw [finish_sys, hOk, hNamed]
      exact ⟨hNotOk, rfl⟩
  · have hCond : ((s.at t).sys.boot == .parallel && !(s.at t).sys.ctrlUp) = true := by simp [hPar, hCtrl]
    have hFirm := foremanStarts_firmware bad (s.at t)
    simp only [State.firmware, Prod.mk.injEq] at hFirm
    obtain ⟨hPatch, hRestart, hHost, hStarted⟩ := hFirm
    have hVersion : patchVersion (s.at t) = patchVersion s := patchVersion_congr rfl rfl
    have hRow := exec_of_row (exec_foremanStart t bad s) hUp hCond
    generalize hAll : foremanStarts bad (s.at t) = v at hRow hPatch hRestart hHost hStarted
    refine ⟨_, hRow, by rw [finish_sys, hStarted], by rw [finish_host_ifl, hHost], by rw [finish_foreman, hRestart],
      by rw [finish_host_patchVer, finish_foreman, hHost, hPatch], fun hNone => ?_, fun hFlash => ?_⟩
    · rw [finish_foreman, hPatch, hVersion, patchVersion, if_neg (by simp [hNone])]
    · rw [finish_foreman, hPatch, hVersion]
      simp only [patchVersion, hFlash, true_and]
  · obtain ⟨y, hy, hyUp, hMib, hRegions⟩ := channelTrained_channel (s := s.at t) hx mib
    exact ⟨_, y, exec_of_row (exec_dramChannelTrained t c mib s) hUp hMay, by rw [finish_sys, hy], hyUp, hMib, hRegions⟩
  · intro ok
    have hCond : (((s.at t).chan c.val).up && ((s.at t).chan c.val).regions.getD i.val .pending == .testing) = true := by
      rw [chan_of_getElem? (s := s.at t) hx, hxUp, List.getD_eq_getElem?_getD, hTesting]
      rfl
    obtain ⟨hi, -⟩ := List.getElem?_eq_some_iff.mp hTesting
    obtain ⟨y, hy, hRegion⟩ := regionDone_channel (s := s.at t) hx hi r
    exact ⟨_, y, exec_of_row (exec_memtestRegionDone t c i r s) hUp hCond, by rw [finish_sys, hy], hRegion⟩
  · obtain ⟨y, hy, hDown, hRetrain, hRegions⟩ := channelLost_channel (s := s.at t) hx hxUp
    exact ⟨_, y, exec_of_row (exec_dramChannelDown t c s) hUp rfl, by rw [finish_sys, hy], hDown, hRetrain, hRegions⟩

end Sys2Proof.Machine
end

section
/-! Watchman and the power governor (21 R484, R493 to R495, 19 R456, R457). -/

namespace Sys2Proof.Machine

section
variable {s : State} {t b : Nat} {x : Bench}

/-! ### The watchdogs (21 R484) -/

/-- A bench that is anything but absent is in the list. -/
theorem getElem?_of_phase (h : (s.bench b).phase ≠ .absent) : s.sys.benches[b]? = some (s.bench b) := by
  cases hb : s.sys.benches[b]? with
  | some x => rw [bench_of_getElem? hb]
  | none =>
    rw [State.bench, List.getD_eq_getElem?_getD, hb] at h
    exact absurd rfl h

/-- A CTRL reset leaves nothing of Foreman's work. -/
theorem ctrlReset_foreman (s : State) : (ctrlReset s).sys.ctrlUp = false ∧ (ctrlReset s).sys.ctrlResetAt = s.now
    ∧ (ctrlReset s).foreman.order = [] ∧ (ctrlReset s).foreman.urgent = [] ∧ (ctrlReset s).foreman.current = none
    ∧ (ctrlReset s).foreman.tickets = [] ∧ (ctrlReset s).foreman.restart = true := ⟨rfl, rfl, rfl, rfl, rfl, rfl, rfl⟩

/-- What a CTRL reset by a watchdog leaves. -/
def Hung (s : State) (now_ : Nat) (u : State) : Prop :=
  u.sys.ctrlUp = false ∧ u.sys.ctrlResetAt = now_ ∧ u.foreman.order = [] ∧ u.foreman.urgent = [] ∧ u.foreman.current = none
    ∧ u.foreman.tickets = [] ∧ u.foreman.restart = true ∧ u.rumbes = s.rumbes ∧ u.ledger = s.ledger

theorem hung_ctrlReset {v : State} (hNow : v.now = max s.now t) (hRumbes : v.rumbes = s.rumbes) (hLedger : v.ledger = s.ledger) :
    Hung s (max s.now t) (finish (ctrlReset v)) := by
  obtain ⟨hUp, hAt, hOrder, hUrgent, hCurrent, hTickets, hRestart⟩ := ctrlReset_foreman v
  simp only [Hung, finish_frame, ctrlReset_frame, hUp, hAt, hOrder, hUrgent, hCurrent, hTickets, hRestart, hNow, hRumbes, hLedger,
    and_self]

theorem hung_foremanHung : Hung s (max s.now t) (finish (foremanHung (s.at t))) := hung_ctrlReset (by simp) (by simp) (by simp)
theorem hung_urgentHung : Hung s (max s.now t) (finish (urgentHung (s.at t))) := hung_ctrlReset (by simp) (by simp) (by simp)

theorem urgentHung_sends {a : Nat × Side} (h : a ∈ allPorts s) :
    .chainUrgent (pNo a.1) a.2 (urgentSeal [0x1A#8, 0x3F#8, 0#8]) ∈ (finish (urgentHung s)).out := by
  have hSent : Output.chainUrgent (pNo a.1) a.2 (urgentSeal [0x1A#8, 0x3F#8, 0#8]) ∈ (eopenAll s).out := mem_out_burst h _
  have hOut : (urgentHung s).out = (eopenAll s).out := by simp [urgentHung]
  exact mem_out_finish (hOut ▸ hSent)

/-- A live bench that is reset tests itself again. -/
theorem benchReset_live (h : (s.bench b).phase = .live) :
    ((benchReset s b).bench b).phase = .testing ∧ ((benchReset s b).bench b).testAt = s.now := by
  have hThere : (dropStreams (clearTiles s b) b).sys.benches[b]? = some (s.bench b) := by
    have hSame : (dropStreams (clearTiles s b) b).sys = s.sys := by simp
    rw [hSame, getElem?_of_phase (by rw [h]; decide)]
  have hNow : (dropStreams (clearTiles s b) b).now = s.now := by simp
  simp only [benchReset, h, beq_self_eq_true, Bool.true_or, if_true, bench_updBench hThere, hNow, and_self]

theorem benchHung_testing {tile cause : Nat} (h : (s.bench (tile / 16)).phase = .live) :
    ((finish (benchHung s tile cause)).bench (tile / 16)).phase = .testing
      ∧ ((finish (benchHung s tile cause)).bench (tile / 16)).testAt = s.now := by
  let v := logFault s 0x0403 3 false 0xFF 3 (tile / 16) (leBytes 1 tile ++ leBytes 1 cause)
  have hSys : v.sys = s.sys ∧ v.now = s.now := by simp [v]
  obtain ⟨hSys, hNow⟩ := hSys
  have hLive : (v.bench (tile / 16)).phase = .live := by rw [bench_congr (v := s) (by rw [hSys]), h]
  rw [bench_congr (v := benchHung s tile cause) (by rw [finish_sys]), ← hNow]
  exact benchReset_live hLive

/-! ### Dividers (02 R35, 19 R457) -/

theorem leastBy_mem {α : Type} {before : α → α → Bool} {l : List α} {a : α} (h : leastBy before l = some a) : a ∈ l := by
  cases l with
  | nil => simp [leastBy] at h
  | cons y ys =>
    have hFold : ∀ (zs : List α) (z : α), zs.foldl (fun x y => if before y x then y else x) z ∈ z :: zs := by
      intro zs
      induction zs with
      | nil => simp
      | cons w ws ih =>
        intro z
        rw [List.foldl_cons]
        rcases List.mem_cons.mp (ih (if before w z then w else z)) with hHead | hTail
        · rw [hHead]
          split <;> simp
        · exact List.mem_cons_of_mem _ (List.mem_cons_of_mem _ hTail)
    rw [leastBy, Option.some.injEq] at h
    exact h ▸ hFold ys y

theorem phase_of_powered (h : b ∈ poweredBenches s) : (s.bench b).phase ≠ .absent := by
  intro hAbsent
  simp [poweredBenches, hAbsent] at h

theorem setDivider_sys (s : State) (b k : Nat) : (setDivider s b k).sys = (s.updBench b (fun x => { x with k := k })).sys := rfl

theorem setDivider_bench (h : (s.bench b).phase ≠ .absent) (k : Nat) : (setDivider s b k).bench b = { s.bench b with k := k } := by
  rw [bench_congr (congrArg Sys.benches (setDivider_sys s b k)), bench_updBench (getElem?_of_phase h)]

theorem setDivider_bench_ne {c : Nat} (h : c ≠ b) (k : Nat) : (setDivider s b k).bench c = s.bench c := by
  rw [bench_congr (congrArg Sys.benches (setDivider_sys s b k)), State.updBench_bench_ne _ _ h]

/-- A list of benches takes the ceiling as its divider. -/
theorem foldl_setDivider_bench (l : List Nat) (s : State) (c : Nat) (h : (s.bench c).phase ≠ .absent) :
    (l.foldl (fun s b => setDivider s b s.sys.thermal.ceil) s).bench c
      = if c ∈ l then { s.bench c with k := s.sys.thermal.ceil } else s.bench c := by
  induction l generalizing s with
  | nil => simp
  | cons d ds ih =>
    have hCeil : (setDivider s d s.sys.thermal.ceil).sys.thermal.ceil = s.sys.thermal.ceil := rfl
    rw [List.foldl_cons]
    by_cases hc : c = d
    · subst hc
      rw [ih _ (by rw [setDivider_bench h]; exact h), setDivider_bench h, hCeil]
      simp
    · rw [ih _ (by rw [setDivider_bench_ne hc]; exact h), setDivider_bench_ne hc, hCeil]
      simp [hc]

/-- The ceiling lowers every powered bench above it to it. -/
theorem applyCeiling_k (h : b ∈ poweredBenches s) : ((applyCeiling s).bench b).k = min (s.bench b).k s.sys.thermal.ceil := by
  let above := (poweredBenches s).filter (fun b => decide (s.sys.thermal.ceil < (s.bench b).k))
  have hAbove : b ∈ above ↔ s.sys.thermal.ceil < (s.bench b).k := by simp [above, h]
  have hActs : applyCeiling s = if above.isEmpty then s
      else recheck (above.foldl (fun s b => setDivider s b s.sys.thermal.ceil) s) := rfl
  rw [hActs]
  split
  next hNone =>
    rw [List.isEmpty_iff.mp hNone] at hAbove
    have hLow : ¬ s.sys.thermal.ceil < (s.bench b).k := fun hHigh => List.not_mem_nil (hAbove.mpr hHigh)
    omega
  next =>
    have hSys : (recheck (above.foldl (fun s b => setDivider s b s.sys.thermal.ceil) s)).sys
        = (above.foldl (fun s b => setDivider s b s.sys.thermal.ceil) s).sys := by simp only [recheck_frame]
    rw [bench_congr (congrArg Sys.benches hSys), foldl_setDivider_bench _ _ _ (phase_of_powered h)]
    split
    next hMem =>
      have hHigh := hAbove.mp hMem
      dsimp only
      omega
    next hNot =>
      have hLow := mt hAbove.mpr hNot
      omega

/-- The clock and reset state without its benches stays. -/
theorem applyCeiling_thermal (s : State) : (applyCeiling s).sys.thermal = s.sys.thermal := by
  unfold applyCeiling
  dsimp only
  split
  · rfl
  · simp only [recheck_frame]
    refine foldl_keeps (g := fun v : State => v.sys.thermal) ?_ _ s
    intro _ _
    rfl

/-! ### The ceiling and the governor (21 R494, 19 R456) -/

/-- A step of the ceiling. -/
theorem ceilingDo_steps {k : Nat} (h : ceilingStep s = some k) :
    (ceilingDo s).sys.thermal.ceil = k ∧ (ceilingDo s).sys.thermal.ceilAt = s.now
      ∧ ∀ b ∈ poweredBenches s, ((ceilingDo s).bench b).k = min (s.bench b).k k := by
  simp only [ceilingDo, h, applyCeiling_thermal]
  refine ⟨rfl, rfl, fun b hb => ?_⟩
  have hPowered : b ∈ poweredBenches (s.updThermal (fun x => { x with ceil := k, ceilAt := s.now })) := hb
  exact applyCeiling_k hPowered

theorem ceilingStep_down {x : Int} (hTj : s.sys.thermal.tj = some x) (hHot : 1000 ≤ x) (hRoom : 4 < s.sys.thermal.ceil)
    (hPast : s.sys.thermal.ceilAt + 480000 ≤ s.now) : ceilingStep s = some (s.sys.thermal.ceil - 1) := by
  have hSpaced : s.sys.thermal.ceilAt + ms 10 ≤ s.now := by rw [show ms 10 = 480000 from rfl]; exact hPast
  simp [ceilingStep, hTj, hHot, hRoom, hSpaced]

theorem ceilingStep_up {x : Int} (hTj : s.sys.thermal.tj = some x) (hCool : x < 950) (hRoom : s.sys.thermal.ceil < 16)
    (hPast : s.sys.thermal.ceilAt + 4800000 ≤ s.now) : ceilingStep s = some (s.sys.thermal.ceil + 1) := by
  have hSpaced : s.sys.thermal.ceilAt + ms 100 ≤ s.now := by rw [show ms 100 = 4800000 from rfl]; exact hPast
  have hNotHot : ¬ 1000 ≤ x := by omega
  simp [ceilingStep, hTj, hNotHot, hCool, hRoom, hSpaced]

/-- The divider of a bench is one step lower or higher; no other bench's is changed. -/
def Divided (s u : State) (b k : Nat) : Prop := (u.bench b).k = k ∧ ∀ c, c ≠ b → (u.bench c).k = (s.bench c).k

theorem divided_setDivider {v u : State} {k : Nat} (hBenches : v.sys.benches = s.sys.benches) (hPowered : b ∈ poweredBenches s)
    (hu : u.sys = (setDivider v b k).sys) : Divided s u b k := by
  have hSame := fun c => bench_congr (u := v) (v := s) hBenches c
  have hDivided := fun c => bench_congr (u := u) (v := setDivider v b k) (by rw [hu]) c
  refine ⟨?_, fun c hc => ?_⟩
  · rw [hDivided, setDivider_bench (by rw [hSame]; exact phase_of_powered hPowered)]
  · rw [hDivided, setDivider_bench_ne hc, hSame]

theorem govDecreases_divides (hFirst : leastBy (fun (a b : Nat) => decide (s.sys.gov.shares.getD b 0 < s.sys.gov.shares.getD a 0))
    (poweredBenches s) = some b) (hLeft : 1 < (s.bench b).k) : Divided s (govDecreases s) b ((s.bench b).k - 1) := by
  let v := s.updGov (fun g => { g with overSince := some s.now })
  have hDone : govDecreases s = match leastBy (fun (a b : Nat) => decide (s.sys.gov.shares.getD b 0 < s.sys.gov.shares.getD a 0))
      (poweredBenches s) with
    | none => v
    | some b => if (s.bench b).k ≤ 1 then v
        else recheck (logFault (setDivider v b ((s.bench b).k - 1)) 0x0702 0 false 0xFF 3 b
          (leBytes 1 b ++ leBytes 1 ((s.bench b).k - 1))) := rfl
  rw [hDone, hFirst]
  dsimp only
  rw [if_neg (by omega)]
  exact divided_setDivider (v := v) rfl (leastBy_mem hFirst) (by simp only [recheck_frame, logFault_frame])

theorem govRaises_divides (hFirst : leastBy (fun (a b : Nat) => decide ((s.bench a).k < (s.bench b).k)) (poweredBenches s) = some b)
    (hRoom : (s.bench b).k < min 16 s.sys.thermal.ceil) : Divided s (govRaises s) b ((s.bench b).k + 1) := by
  unfold govRaises
  rw [hFirst]
  dsimp only
  rw [if_neg (by omega)]
  exact divided_setDivider (v := s.updGov (fun g => { g with quietSince := some s.now })) rfl (leastBy_mem hFirst)
    (by simp only [refitWatch_frame])

theorem divided_finish {u : State} {k : Nat} (h : Divided s u b k) : Divided s (finish u) b k := by
  have hSame := fun c => bench_congr (u := finish u) (v := u) (by rw [finish_sys]) c
  simpa only [Divided, hSame] using h

/-! ### Samples (21 R493, R495) -/

theorem thermalStop_thermal (tj : Int) (k : Nat) : (thermalStop s tj k).sys.thermal = { s.sys.thermal with shut := true, shutAt := s.now } := by
  simp [thermalStop, State.updThermal, State.updSys]

theorem thermalGo_thermal (s : State) : (thermalGo s).sys.thermal = { s.sys.thermal with shut := false } := by
  simp [thermalGo, State.updThermal, State.updSys]

/-- The thresholds in force after a sample. -/
def Thermal.sampled (x : Thermal) (tj : Int) (k : Nat) (y : Thermal) : Prop :=
  y.tj = some tj ∧ y.sensor = k ∧ y.warn = inForce x.warn 1000 950 tj ∧ y.opmax = inForce x.opmax 1050 1000 tj
    ∧ y.nvm = inForce x.nvm 1080 1030 tj ∧ y.shut = inForce x.shut 1150 1100 tj

theorem thermalActs_sampled {tj : Int} {k : Nat} (hBelow : tj < 1220) :
    s.sys.thermal.sampled tj k (thermalActs tj k s).sys.thermal := by
  let x := s.sys.thermal
  let noted := (s.updThermal (fun y => { y with tj := some tj, sensor := k })).updThermal (fun y => { y with
    warn := inForce x.warn 1000 950 tj, opmax := inForce x.opmax 1050 1000 tj, nvm := inForce x.nvm 1080 1030 tj })
  let warned := if inForce x.warn 1000 950 tj && !x.warn then thermalFault noted 1 tj k else noted
  let picked := if x.opmax && !inForce x.opmax 1050 1000 tj then dispatchAll warned else warned
  let shut := if inForce x.shut 1150 1100 tj && !x.shut then thermalStop picked tj k
    else if x.shut && !inForce x.shut 1150 1100 tj then thermalGo picked else picked
  let next := if x.nvm && !inForce x.nvm 1080 1030 tj then journalNext shut else shut
  have hActs : thermalActs tj k s = if 1220 ≤ tj then thermalReset next tj k else next := rfl
  have hPicked : picked.sys = noted.sys := by simp [picked, warned]
  have hNext : next.sys = shut.sys := by simp [next]
  have hShut : x.sampled tj k shut.sys.thermal := by
    unfold shut
    split
    next h =>
      rw [thermalStop_thermal, hPicked]
      obtain ⟨hIn, -⟩ := Bool.and_eq_true_iff.mp h
      exact ⟨rfl, rfl, rfl, rfl, rfl, hIn.symm⟩
    next h =>
      split
      next hGo =>
        rw [thermalGo_thermal, hPicked]
        obtain ⟨-, hOut⟩ := Bool.and_eq_true_iff.mp hGo
        have hOver : inForce x.shut 1150 1100 tj = false := by simpa using hOut
        exact ⟨rfl, rfl, rfl, rfl, rfl, hOver.symm⟩
      next hGo =>
        rw [hPicked]
        refine ⟨rfl, rfl, rfl, rfl, rfl, ?_⟩
        have hSame : x.shut = inForce x.shut 1150 1100 tj := by
          cases hWas : x.shut <;> cases hIs : inForce x.shut 1150 1100 tj <;> simp_all
        exact hSame
  rw [hActs, if_neg (by omega), hNext]
  exact hShut

theorem thermalActs_resets {tj : Int} {k : Nat} (hAbove : 1220 ≤ tj) :
    (thermalActs tj k s).sys.thermal.abs = true ∧ (thermalActs tj k s).shellUp = false := by
  unfold thermalActs
  dsimp only
  rw [if_pos hAbove]
  exact ⟨rfl, rfl⟩

theorem thermalHeld_abs {tj : Int} (h : s.sys.thermal.abs = true) : (thermalHeld tj s).sys.thermal.abs = decide (1170 ≤ tj) := by
  unfold thermalHeld
  split
  next hHot => rw [h, decide_eq_true hHot]
  next hCool => rw [decide_eq_false hCool]; rfl

theorem thermalDo_acts {l : List Int} {tj : Int} {k : Nat} (hHottest : hottest l = some (tj, k)) (hPar : s.sys.boot = .parallel)
    (hRuns : s.sys.thermal.abs = false) : thermalDo l s = thermalActs tj k s := by
  simp only [thermalDo, hHottest, hRuns, hPar, Bool.false_eq_true, if_false, beq_self_eq_true, Bool.or_true, if_true]

theorem thermalDo_held {l : List Int} {tj : Int} {k : Nat} (hHottest : hottest l = some (tj, k)) (hHeld : s.sys.thermal.abs = true) :
    thermalDo l s = thermalHeld tj s := by simp only [thermalDo, hHottest, hHeld, if_true]

end

/-- Settles O47: each guard's condition holds under its hypotheses, and the lemma about its operation gives the rest. -/
theorem guardsAct : Obligations.GuardsAct := by
  intro s t now z
  refine ⟨fun hUp => ⟨fun i hi => ?_, fun tile hLate => ?_, fun n hLate hLive => ?_, fun x hTj => ⟨fun hHot hRoom hPast => ?_,
    fun hCool hRoom hPast => ?_⟩, fun pm shares => ?_, fun hDue => ?_, fun b hDue hFirst hLeft => ?_, fun b hDue hFirst hRoom => ?_⟩,
    fun l tj k hHottest => ⟨fun hPar hRuns => ⟨fun hBelow => ?_, fun hAbove => ?_⟩, fun hHeld => ?_⟩⟩
  · rcases hi with ⟨rfl, hMissed⟩ | ⟨rfl, hLate⟩
    · obtain ⟨hCtrl, hAt, hOrder, hUrgent, hCurrent, hTickets, hRestart, hRumbes, hLedger⟩ := hung_foremanHung (s := s) (t := t)
      exact ⟨finish (foremanHung (s.at t)), exec_of_row (exec_foremanWatchdog t s) hUp hMissed, hCtrl, hAt, hOrder, hUrgent, hCurrent,
        hTickets, hRestart, hRumbes, hLedger, by simp⟩
    · obtain ⟨hCtrl, hAt, hOrder, hUrgent, hCurrent, hTickets, hRestart, hRumbes, hLedger⟩ := hung_urgentHung (s := s) (t := t)
      exact ⟨finish (urgentHung (s.at t)), exec_of_row (exec_urgentWatchdog t s) hUp hLate, hCtrl, hAt, hOrder, hUrgent, hCurrent,
        hTickets, hRestart, hRumbes, hLedger, fun _ a ha => urgentHung_sends (s := s.at t) ha⟩
  · have hLive : ((s.at t).bench (tile.val / 16)).phase = .live := by
      simp only [stepLate, State.benchLive, Bool.and_eq_true, beq_iff_eq] at hLate
      obtain ⟨⟨⟨-, hPhase⟩, -⟩, -⟩ := hLate
      exact hPhase
    exact ⟨_, exec_of_row (exec_stepWatchdog t tile s) hUp hLate, benchHung_testing hLive⟩
  · obtain ⟨hTesting, -⟩ := benchHung_testing (s := s.at t) (tile := (s.stream n.val).tile) (cause := 1) hLive
    exact ⟨_, exec_of_row (exec_dispatcherWatchdog t n s) hUp hLate, hTesting⟩
  · obtain ⟨hCeil, hAt, hBenches⟩ := ceilingDo_steps (ceilingStep_down (s := s.at t) hTj hHot hRoom hPast)
    refine ⟨_, exec_of_row (exec_thermalCeilingStep t s) hUp rfl, by rw [finish_sys, hCeil]; rfl, by rw [finish_sys, hAt]; rfl,
      fun b hb => ?_⟩
    rw [bench_congr (v := ceilingDo (s.at t)) (by rw [finish_sys])]
    exact hBenches b hb
  · obtain ⟨hCeil, -, -⟩ := ceilingDo_steps (ceilingStep_up (s := s.at t) hTj hCool hRoom hPast)
    exact ⟨_, exec_of_row (exec_thermalCeilingStep t s) hUp rfl, by rw [finish_sys, hCeil]; rfl⟩
  · refine ⟨_, exec_of_row (exec_govEstimate t pm shares s) hUp rfl, ?_⟩
    rw [finish_sys]
    exact ⟨rfl, rfl, rfl⟩
  · have hHold : (govReleases (s.at t)).sys.gov.hold = false := by
      simp only [govReleases, dispatchAll_frame]
      rfl
    exact ⟨_, exec_of_row (exec_govRelease t s) hUp hDue, by rw [finish_sys, hHold]⟩
  · exact ⟨_, exec_of_row (exec_govDividerDecrease t s) hUp hDue, divided_finish (govDecreases_divides (s := s.at t) hFirst hLeft)⟩
  · exact ⟨_, exec_of_row (exec_govDividerRaise t s) hUp hDue, divided_finish (govRaises_divides (s := s.at t) hFirst hRoom)⟩
  · refine ⟨_, exec_thermalSample t l s, ?_⟩
    rw [finish_sys, thermalDo_acts (s := s.at t) hHottest hPar hRuns]
    exact thermalActs_sampled (s := s.at t) hBelow
  · obtain ⟨hAbs, hDown⟩ := thermalActs_resets (s := s.at t) (k := k) hAbove
    have hDo := thermalDo_acts (s := s.at t) hHottest hPar hRuns
    refine ⟨finish (thermalDo l (s.at t)), exec_thermalSample t l s, ?_, ?_, by simp⟩
    · rw [finish_sys, hDo, hAbs]
    · rw [State.shellUp, finish_sys, hDo]
      exact hDown
  · refine ⟨_, exec_thermalSample t l s, ?_⟩
    rw [finish_sys, thermalDo_held (s := s.at t) hHottest hHeld]
    exact thermalHeld_abs (s := s.at t) hHeld

end Sys2Proof.Machine
end

section
/-! SET_CHANNEL on an enabled channel (13 R319): a write that changes SOURCE, SCOPE, OBJ or CONT asks for a restart of the
continuity besides its settings. -/

namespace Sys2Proof.Machine

/-- Channel 0, enabled, source 1 of the site. -/
def otherSource : List Byte := [0#8, 1#8, 1#8, 2#8, 0#8, 0#8, 0#8, 4#8]
/-- SET_CHANNEL of tenant 0. -/
def otherSourceReq : Req := { tenant := 0, opcode := 0x0702, len := 8, payload := otherSource }
/-- CTRL and the Assayer run; channel 0 reports source 0 of the site. -/
def reportingState : State :=
  { State.reset with
    sys := { State.reset.sys with boot := .parallel, ctrlUp := true, assayerReady := true }
    assayer := { State.reset.assayer with chans := [(0, { en := true, scope := 2 })] }
    foreman := { State.reset.foreman with order := [otherSourceReq] } }
/-- Whether a step leaves channel 0 with a restart asked for. -/
def asksRestart : Host.Outcome State Fault Refusal → Bool
  | .next u => (rchan u 0).restart
  | _ => false

theorem reportingState_granted : granted reportingState 1 0x0702 otherSourceReq := by
  refine ⟨?_, rfl, rfl, ?_, rfl, Or.inr ?_, Or.inl ?_, rfl⟩ <;> decide +kernel

theorem setChannel_asksRestart : asksRestart (exec (.setChannel 1) reportingState) = true := by decide +kernel

/-- Refutes O38: SET_CHANNEL gives an enabled channel another source. The statement says that the channel keeps all but the settings
that wait; the step also notes that its continuity restarts. -/
theorem not_assayerEvaluatesAndReports : ¬ Obligations.AssayerEvaluatesAndReports := by
  intro h
  obtain ⟨-, hCommands⟩ := h
  obtain ⟨-, hSet, -, -⟩ := hCommands reportingState 1 otherSourceReq rfl
  obtain ⟨-, hThere⟩ := hSet reportingState_granted rfl rfl 0 rfl
  obtain ⟨hWaits, -, -⟩ := hThere (by decide) (by decide +kernel)
  obtain ⟨u, hExec, hChannel⟩ := hWaits rfl (by decide +kernel)
  have hAsks := setChannel_asksRestart
  rw [hExec, asksRestart, hChannel] at hAsks
  exact absurd hAsks (by decide +kernel)

end Sys2Proof.Machine
end

section
/-! A bring-in widens its kernel's BANK_MASK (14 R339) before it asks for the banks. -/

namespace Sys2Proof.Machine

/-- A BATCH stream that waits in its store area for its lane. -/
def storedStream : Stream :=
  { valid := true, den := true, swap := true, noin := true, cls := 1, paramUnits := 1, storePtr := some 0, slot := some 0 }
/-- Its lane: eight units of tile 0, free. -/
def freeLane : Lane := { tenant := 0, tile := 0, unit := 0, units := 8 }
/-- CTRL, bench 0 and DRAM channel 0 work, and one stream waits for its bring-in. -/
def bringInState : State :=
  { State.reset with
    sys := { State.reset.sys with
      boot := .parallel, ctrlUp := true, computeUp := true, benches := [{ phase := .live, live := 1 }]
      channels := [{ up := true, mib := 256, regions := [.released] }] }
    sched := { State.reset.sched with streams := [(0, storedStream)], lanes := [(0, freeLane)] } }
/-- BANK_MASK of kernel table entry 0 of tile 0 after a step. -/
def maskAfter : Host.Outcome State Fault Refusal → Nat
  | .next u => (tblGet {} (u.tile 0).ktab 0).bankMask
  | _ => 0

theorem swapBringIn_widens : maskAfter (exec (.swapBringIn 0 0) bringInState) = 1 := by decide +kernel

/-- The same start of a copy without the widening. -/
def copyAlone : State :=
  let u := bringInState.at 0
  let v := { u with sched := { u.sched with lanes := tblSet 0 { freeLane with user := some 0 } u.sched.lanes } }
  startCopy (v.updStream 0 (fun x => { x with tile := freeLane.tile, unit := freeLane.unit })) 0 .bringIn

theorem copyAlone_keeps_mask : maskAfter (.next (finish copyAlone)) = 0 := by decide +kernel

/-- Refutes O26: the bring-in of a stream whose kernel's BANK_MASK lacks the lane's banks. The statement leaves the kernel table as it
was; the step sets bank 0 in it. -/
theorem not_banksAndAreasAreFilled : ¬ Obligations.BanksAndAreasAreFilled := by
  intro h
  obtain ⟨-, -, hSwap⟩ := h
  obtain ⟨hBringIn, -⟩ := hSwap bringInState 0 0
  have hExec := hBringIn 0 freeLane (by decide +kernel) (by decide +kernel) (by decide +kernel)
  have hMask := congrArg maskAfter hExec
  rw [swapBringIn_widens] at hMask
  have hKept := copyAlone_keeps_mask
  exact absurd (hMask.trans hKept) (by decide)

end Sys2Proof.Machine
end

section
/-! REG_READ and REG_WRITE (24 R532 to R534; 03 R70, 04 R81, R83, R98, R100, R538, 05 R108, 06 R137). -/

namespace Sys2Proof.Machine

/-! ### The register words (24 R534) -/

/-- Words that the register table does not list. -/
def Unlisted (a : Nat) : Prop :=
  a = 0x0F ∨ (0x1D ≤ a ∧ a < 0x20) ∨ (0x2B ≤ a ∧ a < 0x30) ∨ (0x34 ≤ a ∧ a < 0x40) ∨ (0x49 ≤ a ∧ a < 0x50)
    ∨ (0x57 ≤ a ∧ a < 0x60) ∨ (0x9C ≤ a ∧ a < 0xA0) ∨ (0xA0 ≤ a ∧ a % 8 = 7 ∧ a < 0xC0) ∨ 0xC0 ≤ a

/-- Settings stand below 0x34. -/
theorem settingWord_of_high (r : Rumbe) {a : Nat} (h : 0x34 ≤ a) : settingWord r a = none := by
  unfold settingWord
  split <;> simp_all

/-- From 0xA0 on stands the transfer log alone. -/
theorem regWord_of_log (r : Rumbe) (d : Dev) {a : Nat} (h : 0xA0 ≤ a) :
    regWord r d a = if a < 0xC0 then tlogWord r.bal ((a - 0xA0) / 8) ((a - 0xA0) % 8) else 0 := by
  have hNot : ∀ n < 0xA0, a ≠ n ∧ ¬ a < n + 1 := fun n hn => by omega
  rw [regWord, settingWord_of_high r (by omega)]
  simp only [hNot 0 (by omega), hNot 1 (by omega), hNot 5 (by omega), hNot 0x0A (by omega), hNot 0x0B (by omega), hNot 0x0C (by omega),
    hNot 0x0D (by omega), hNot 0x0E (by omega), hNot 0x1C (by omega), hNot 0x5F (by omega), hNot 0x95 (by omega), hNot 0x98 (by omega),
    hNot 0x99 (by omega), hNot 0x9B (by omega), hNot 0x9F (by omega), if_false]

/-- The last word of a log entry is reserved. -/
theorem tlogWord_seven (b : Bal) (j : Nat) : tlogWord b j 7 = 0 := by
  unfold tlogWord
  split <;> rfl

theorem regWord_unlisted (r : Rumbe) (d : Dev) {a : Nat} (h : Unlisted a) : regWord r d a = 0 := by
  rcases h with rfl | ⟨h, h'⟩ | ⟨h, h'⟩ | ⟨h, h'⟩ | ⟨h, h'⟩ | ⟨h, h'⟩ | ⟨h, h'⟩ | ⟨h, hLast, h'⟩ | h
  · rfl
  · interval_cases a <;> rfl
  · interval_cases a <;> rfl
  · interval_cases a <;> rfl
  · interval_cases a <;> rfl
  · interval_cases a <;> rfl
  · interval_cases a <;> rfl
  · rw [regWord_of_log r d h, if_pos h', show (a - 0xA0) % 8 = 7 by omega, tlogWord_seven]
  · rw [regWord_of_log r d (by omega), if_neg (by omega)]

/-! ### A REG_WRITE is checked whole (24 R533) -/

section
variable {r : Rumbe} {d : Dev} {now a : Nat} {vs : List Nat}

/-- The words that an answer returns. -/
def wordsBack (r : Rumbe) (d : Dev) (a n : Nat) : List Byte := (regWords r d a n).flatMap (fun w => leBytes 2 w)

theorem anyLocked_iff : (List.range vs.length).any (fun i => settingLocked r (a + i)) = true
    ↔ ∃ i < vs.length, settingLocked r (a + i) = true := by simp

theorem regWriteDo_refused (h : regWriteRefused r a vs = true) : regWriteDo r d now a vs = (r, [0x03#8]) := by
  rw [regWriteDo, if_pos h]

theorem regWriteDo_locked (h : regWriteRefused r a vs = false) (hLocked : ∃ i < vs.length, settingLocked r (a + i) = true) :
    regWriteDo r d now a vs = (r, 0x02#8 :: wordsBack r d a vs.length) := by
  rw [regWriteDo, if_neg (by simp [h])]
  dsimp only
  rw [if_pos (anyLocked_iff.mpr hLocked)]
  rfl

theorem regWriteDo_applied (h : regWriteRefused r a vs = false) (hFree : ∀ i < vs.length, settingLocked r (a + i) = false) :
    regWriteDo r d now a vs = ((applyWords d now r a vs).1,
      (if (applyWords d now r a vs).2 then 0x01#8 else 0x00#8) :: wordsBack (applyWords d now r a vs).1 d a vs.length) := by
  have hNot : ¬ (List.range vs.length).any (fun i => settingLocked r (a + i)) = true := fun hAny => by
    obtain ⟨i, hi, hLocked⟩ := anyLocked_iff.mp hAny
    rw [hFree i hi] at hLocked
    exact Bool.noConfusion hLocked
  rw [regWriteDo, if_neg (by simp [h])]
  dsimp only
  rw [if_neg hNot]
  rfl

/-- One word is clamped and stored. -/
theorem applyWords_one (v : Nat) :
    (applyWords d now r a [v]).1 = settingStore r d now a (settingClamp r a (v % 2 ^ settingBits a)) := rfl

end

/-! ### What had fallen due leaves the settings of head and balancer as they were -/

/-- The settings of head and balancer. -/
def Rumbe.settings (r : Rumbe) : HeadSet × BalSet := (r.head, r.balSet)

theorem fireDue_settings (c : RCtx) (x : RDue) : (fireDue c x).r.settings = c.r.settings := by
  cases x with
  | assert =>
    rw [fireDue_assert]
    exact (congrArg Rumbe.settings (alarmTaken_bare ..) :)
  | measFault =>
    rw [fireDue_measFault]
    exact (congrArg Rumbe.settings (alarmTaken_bare ..) :)
  | clear | modid | rangeHg | calFrozen | curFault => rfl

theorem foldl_fireDue_settings (ds : List RDue) (c : RCtx) : (ds.foldl fireDue c).r.settings = c.r.settings := by
  induction ds generalizing c with
  | nil => rfl
  | cons x ds ih => exact (ih _).trans (fireDue_settings c x)

theorem settle_settings (c : RCtx) : (settle c).r.settings = c.r.settings := foldl_fireDue_settings ..

section
variable {s : State} {t : Nat} {d : Dev} {x : Rx}

theorem heard_settings (rw : List Byte → List Byte) :
    (heard s t d x rw).r.head = (s.rumbe d).head ∧ (heard s t d x rw).r.balSet = (s.rumbe d).balSet := by
  obtain ⟨u, hBare⟩ := heard_bare s t d x rw
  have hSame : (heard s t d x rw).r.settings = (s.rumbe d).settings :=
    (congrArg Rumbe.settings hBare :).trans (settle_settings (before s t d))
  exact Prod.mk.inj hSame

theorem heard_open (rw : List Byte → List Byte) (h : (s.rumbe d).gate.st = .open) : (heard s t d x rw).r.gate.st = .open := by
  obtain ⟨u, hBare⟩ := heard_bare s t d x rw
  have hSame : (heard s t d x rw).r.gate = (turn s t d).r.gate := (congrArg Rumbe.gate hBare :)
  rw [hSame]
  exact settle_open (c := before s t d) h

theorem sendRepeat_dev (c : RCtx) (p : RPort) (line : List Chip) : (sendRepeat c p line).dev = c.dev := by
  unfold sendRepeat
  split <;> rfl

theorem heard_dev (rw : List Byte → List Byte) : (heard s t d x rw).dev = d := by
  have hMet : (met s t d x.port (x.since (max s.now t))).dev = d := settle_dev (before s t d)
  unfold heard
  dsimp only
  split
  · exact hMet
  · rw [sendRepeat_dev]
    exact hMet

/-! ### The two commands, addressed -/

theorem rxRegRead_of_commanded (hCmd : commanded s t d x 6 = true) (hLen : x.payload.length = 3)
    (hSome : 1 ≤ byteAt x.payload 2) (hMost : byteAt x.payload 2 ≤ 119) :
    rxRegRead (before s t d) x = answered (heard s t d x id) x 6 8
      (0x00#8 :: wordsBack (heard s t d x id).r d (leAt x.payload 0 2) (byteAt x.payload 2)) := by
  obtain ⟨hHears, hAddr, hNew⟩ := commanded_iff.mp hCmd
  have hCount : ¬ (byteAt x.payload 2 = 0 || decide (119 < byteAt x.payload 2)) = true := by simp; omega
  rw [rxRegRead, rxFrame_of_hears hHears, hLen]
  refine command_of_new _ ((addressed_heard id).trans hAddr) ((fresh_heard id 6).trans hNew) ?_ (by simp)
  dsimp only
  rw [if_neg hCount, heard_dev]
  rfl

/-- A REG_WRITE that is answered with anything but BAD_FRAME is executed. -/
theorem rxRegWrite_of_commanded (hCmd : commanded s t d x 7 = true) (hLen : writeLenOk x.payload = true) {r : Rumbe} {bs : List Byte}
    (hDo : regWriteDo (heard s t d x id).r d (heard s t d x id).now (leAt x.payload 0 2) (writeWords x.payload) = (r, bs))
    (hBs : bs ≠ [0x06#8]) : rxRegWrite (before s t d) x = answered ((heard s t d x id).into r) x 7 8 bs := by
  obtain ⟨hHears, hAddr, hNew⟩ := commanded_iff.mp hCmd
  rw [rxRegWrite, rxFrame_of_hears hHears, hLen]
  refine command_of_new _ ((addressed_heard id).trans hAddr) ((fresh_heard id 7).trans hNew) ?_ hBs
  have hDone : regWriteDo (heard s t d x id).r (heard s t d x id).dev (heard s t d x id).now (leAt x.payload 0 2)
      (writeWords x.payload) = (r, bs) := by rw [heard_dev, hDo]
  dsimp only
  rw [hDone]
  rfl

/-! ### The rows that a broadcast REG_WRITE of one word is -/

section
variable {a v : Nat}

theorem writeWords_one (h : x.payload.length = 4) : writeWords x.payload = [leAt x.payload 2 2] := by
  simp [writeWords, h, List.range_succ]

theorem regWriteRefused_one {r : Rumbe} (hThere : (settingWord r a).isSome = true) (hAlone : partnerWord a = none)
    (hId : a = 6 → v % 64 ≤ 32) : regWriteRefused r a [v] = false := by
  have hSetting : (settingWord r a).isNone = false := by simpa using hThere
  have hName : (a == 6 && decide (32 < v % 64)) = false := by
    by_cases h : a = 6
    · have := hId h
      simp [h, this]
    · simp [h]
  simp [regWriteRefused, hSetting, hAlone, hName]

/-- A word that is no setting of the gates, and none of the balancer's. -/
theorem settingLocked_of_free {r : Rumbe} (hGate : a = 0x20 ∨ a = 0x21 ∨ a = 0x22 → r.gate.st = .open)
    (hBal : a ≠ 0x31 ∧ a ≠ 0x32 ∧ a ≠ 0x33) : settingLocked r a = false := by
  obtain ⟨h1, h2, h3⟩ := hBal
  unfold settingLocked
  split
  next h =>
    have hOpen := hGate (by simpa [or_assoc] using h)
    simp [hOpen]
  next => rw [if_neg (by simp [h1, h2, h3])]

/-- A broadcast REG_WRITE of one word, heard and taken: the Rumbe that has heard it stores the word. -/
theorem rxWriteOf_of_broadcast {p : Rumbe → Nat → Bool} (hHears : hears s t d x 7 = true) (hBroadcast : broadcast x = true)
    (hLen : x.payload.length = 4) (ha : leAt x.payload 0 2 = a) (hv : leAt x.payload 2 2 = v)
    (hThere : ∀ r, (settingWord r a).isSome = true) (hAlone : partnerWord a = none) (hId : a = 6 → v % 64 ≤ 32)
    (hGate : a = 0x20 ∨ a = 0x21 ∨ a = 0x22 → (s.rumbe d).gate.st = .open) (hBal : a ≠ 0x31 ∧ a ≠ 0x32 ∧ a ≠ 0x33)
    (hp : p (s.rumbe d) v = true) :
    rxWriteOf x a p (before s t d) = (heard s t d x id).into
      (settingStore (heard s t d x id).r d (heard s t d x id).now a (settingClamp (heard s t d x id).r a (v % 2 ^ settingBits a))) := by
  have hWords : writeWords x.payload = [v] := by rw [writeWords_one hLen, hv]
  have hLenOk : writeLenOk x.payload = true := by simp [writeLenOk, hLen]
  have hValue : writeValue x a = some v := by simp [writeValue, hLenOk, ha, hWords]
  have hRefused : ∀ r, regWriteRefused r a [v] = false := fun r => regWriteRefused_one (hThere r) hAlone hId
  have hTakes : writeTakes (s.rumbe d) x = true := by
    have hHeard := hHears
    simp only [hears, Bool.and_eq_true, Bool.not_eq_true'] at hHeard
    obtain ⟨⟨⟨⟨⟨-, hFrame⟩, hCrc⟩, hWhole⟩, hDir⟩, -⟩ := hHeard
    have hFree := settingLocked_of_free hGate hBal
    simp [writeTakes, hFrame, hCrc, hWhole, hDir, hLenOk, hBroadcast, ha, hWords, hRefused, hFree]
  have hFree : ∀ i < [v].length, settingLocked (heard s t d x id).r (a + i) = false := by
    intro i hi
    obtain rfl : i = 0 := by simpa using hi
    exact settingLocked_of_free (fun h => heard_open id (hGate h)) hBal
  have hTook : (writeTakes (before s t d).r x && p (before s t d).r v) = true := by
    rw [show (before s t d).r = s.rumbe d from rfl, hTakes, hp]
    rfl
  simp only [rxWriteOf, hValue]
  rw [if_pos hTook, rxRegWrite, rxFrame_of_hears hHears, hLenOk, command_of_broadcast hBroadcast, ha, hWords,
    regWriteDo_applied (hRefused _) hFree, applyWords_one]
  dsimp only
  rw [← RCtx.into, heard_dev]

end

end

/-! ### What the stored word and what follows it hold -/

section
variable {r : Rumbe} {d : Dev} {now v : Nat}

theorem store_headEn_set (h : r.head.headEn = false) (hv : v % 2 = 1) :
    settingStore r d now 0x20 (settingClamp r 0x20 (v % 2 ^ settingBits 0x20)) = headSet r d now := by
  simp [settingStore, settingClamp, settingBits, hv, h]

theorem store_headEn_clear (h : r.head.headEn = true) (hv : v % 2 = 0) :
    settingStore r d now 0x20 (settingClamp r 0x20 (v % 2 ^ settingBits 0x20)) = headClear r := by
  simp [settingStore, settingClamp, settingBits, hv, h]

theorem store_shunt (h : clampNat 80 10000 v ≠ r.head.shunt) (hv : v < 65536) :
    settingStore r d now 0x22 (settingClamp r 0x22 (v % 2 ^ settingBits 0x22)) = shuntSet r (clampNat 80 10000 v) := by
  simp [settingStore, settingClamp, settingBits, Nat.mod_eq_of_lt hv, h]

theorem store_vauxEn_set (h : r.head.vauxEn = false) (hv : v % 2 = 1) :
    settingStore r d now 0x2A (settingClamp r 0x2A (v % 2 ^ settingBits 0x2A)) = { r with
      head := { r.head with vauxEn := true }
      vaux := if r.head.headEn && !r.vaux.fault then vauxStart r.vaux now else r.vaux } := by
  simp [settingStore, settingClamp, settingBits, vauxEnSetTo, hv, h]

theorem store_vauxEn_clear (h : r.head.vauxEn = true) (hv : v % 2 = 0) :
    settingStore r d now 0x2A (settingClamp r 0x2A (v % 2 ^ settingBits 0x2A)) = { r with
      head := { r.head with vauxEn := false }, vaux := vauxStop r.vaux } := by
  simp [settingStore, settingClamp, settingBits, vauxEnSetTo, hv, h]

theorem store_balEn_clear (h : r.balSet.en = true) (hv : v % 2 = 0) :
    settingStore r d now 0x30 (settingClamp r 0x30 (v % 2 ^ settingBits 0x30)) = { r with
      balSet := { r.balSet with en := false }, bal := balEnd r.bal now 3 } := by
  simp [settingStore, settingClamp, settingBits, balEnSetTo, hv, h]

theorem qCum_headSet (r : Rumbe) (d : Dev) (now : Nat) : qCum (headSet r d now) = 0 := by simp [qCum, headSet]

end

/-- Settles O6: a command is executed on the Rumbe that has heard it, where the check of a REG_WRITE and the store of a word say what
follows. -/
theorem registersAreReadAndWritten : Obligations.RegistersAreReadAndWritten := by
  refine ⟨fun s t d x hCmd hLen => ?_,
    fun s t d x hCmd hLen => ?_, fun s t d x a v hHears hBroadcast hLen ha hv => ?_⟩
  · intro n c hSome hMost
    exact ⟨exec_eq_afterRumbe (exec_regRead ..) (rxRegRead_of_commanded hCmd hLen hSome hMost),
      fun a ha => regWord_unlisted _ d ha⟩
  · intro a ws c back
    refine ⟨fun hRefused => ?_, fun hWhole hLocked => ?_, fun hWhole hFree => ?_⟩
    · exact exec_eq_afterRumbe (exec_regWrite ..) (rxRegWrite_of_commanded hCmd hLen (regWriteDo_refused hRefused) (by decide))
    · exact exec_eq_afterRumbe (exec_regWrite ..)
        (rxRegWrite_of_commanded hCmd hLen (regWriteDo_locked hWhole hLocked) (by simp))
    · refine exec_eq_afterRumbe (exec_regWrite ..)
        (rxRegWrite_of_commanded hCmd hLen (regWriteDo_applied hWhole hFree) ?_)
      split <;> simp
  · intro q c
    obtain ⟨hHead, hBalSet⟩ := heard_settings (s := s) (t := t) (d := d) (x := x) id
    have hSmall : v < 65536 := hv ▸ leAt_lt _ 2 2
    refine ⟨?headSet, ?headClear, ?shunt, ?devId, ?tComm, ?vauxSet, ?vauxClear, ?balClear⟩
    case headSet =>
      rintro rfl hOdd hNot hOpen
      refine ⟨exec_eq_afterRumbe (exec_headEnSet ..) ?_, rfl, qCum_headSet .., rfl, rfl⟩
      rw [rxWriteOf_of_broadcast hHears hBroadcast hLen ha hv (fun _ => rfl) rfl (by omega) (fun _ => hOpen) (by decide)
        (by simp [hOdd, hNot, q]), store_headEn_set (by rw [hHead, hNot]) hOdd]
    case headClear =>
      rintro rfl hEven hIs hOpen
      refine exec_eq_afterRumbe (exec_headEnClear ..) ?_
      rw [rxWriteOf_of_broadcast hHears hBroadcast hLen ha hv (fun _ => rfl) rfl (by omega) (fun _ => hOpen) (by decide)
        (by simp [hEven, hIs, q]), store_headEn_clear (by rw [hHead, hIs]) hEven]
      rfl
    case shunt =>
      rintro rfl hNew hOpen hClamped
      refine exec_eq_afterRumbe (exec_shuntChange ..) ?_
      rw [rxWriteOf_of_broadcast hHears hBroadcast hLen ha hv (fun _ => rfl) rfl (by omega) (fun _ => hOpen) (by decide)
        (by simpa [q] using hNew), store_shunt (by rw [hHead]; exact hClamped) hSmall]
      rfl
    case devId =>
      rintro rfl hMost
      refine exec_eq_afterRumbe (exec_devIdWrite ..) ?_
      rw [rxWriteOf_of_broadcast hHears hBroadcast hLen ha hv (fun _ => rfl) rfl (fun _ => hMost) (by omega) (by decide) rfl]
      rfl
    case tComm =>
      rintro rfl
      refine exec_eq_afterRumbe (exec_tCommWrite ..) ?_
      rw [rxWriteOf_of_broadcast hHears hBroadcast hLen ha hv (fun _ => rfl) rfl (by omega) (by omega) (by decide) rfl]
      rfl
    case vauxSet =>
      rintro rfl hOdd hNot
      refine exec_eq_afterRumbe (exec_vauxEnSet ..) ?_
      rw [rxWriteOf_of_broadcast hHears hBroadcast hLen ha hv (fun _ => rfl) rfl (by omega) (by omega) (by decide)
        (by simp [hOdd, hNot, q]), store_vauxEn_set (by rw [hHead, hNot]) hOdd]
      rfl
    case vauxClear =>
      rintro rfl hEven hIs
      refine exec_eq_afterRumbe (exec_vauxEnClear ..) ?_
      rw [rxWriteOf_of_broadcast hHears hBroadcast hLen ha hv (fun _ => rfl) rfl (by omega) (by omega) (by decide)
        (by simp [hEven, hIs, q]), store_vauxEn_clear (by rw [hHead, hIs]) hEven]
      rfl
    case balClear =>
      rintro rfl hEven hIs
      refine exec_eq_afterRumbe (exec_balEnClear ..) ?_
      rw [rxWriteOf_of_broadcast hHears hBroadcast hLen ha hv (fun _ => rfl) rfl (by omega) (by omega) (by decide)
        (by simp [hEven, hIs, q]), store_balEn_clear (by rw [hBalSet, hIs]) hEven]

end Sys2Proof.Machine
end
